-- ==== Sys2Proof/Word.lean ====
section
/-! DEFINITION. The word types of the OAW-6480: a register word (R38), a byte, a 64-bit link word (R273),
and the field arithmetic that every later file uses. Nothing here knows the device. -/
namespace Sys2Proof

/-- A byte of a memory or of a serial frame. -/
abbrev Byte := BitVec 8
/-- A 32-bit register word (R38). -/
abbrev Word := BitVec 32
/-- A 64-bit link and record word (R238, R273). -/
abbrev DWord := BitVec 64

/-- The bits `[lsb+width-1 : lsb]` of a number. -/
def bits (v lsb width : Nat) : Nat := v / 2 ^ lsb % 2 ^ width

/-- Bit `i` of a number. -/
def bit (v i : Nat) : Bool := v / 2 ^ i % 2 = 1

/-- A truth value as a bit. -/
def b2n (b : Bool) : Nat := if b then 1 else 0

/-- The two's complement reading of the low `w` bits of `v`. -/
def toSigned (w v : Nat) : Int :=
  let u := v % 2 ^ w
  if 2 * u < 2 ^ w then (u : Int) else (u : Int) - (2 ^ w : Nat)

/-- The low `w` bits that stand for the integer `x` in two's complement. -/
def ofSigned (w : Nat) (x : Int) : Nat := (x % ((2 ^ w : Nat) : Int)).toNat

/-- Saturate an integer to the range `lo` to `hi`. -/
def clampI (x lo hi : Int) : Int := if x < lo then lo else if hi < x then hi else x

/-- Counting up to a limit: the "saturating" of the register tables. -/
def satAdd (v d w : Nat) : Nat := min (v + d) (2 ^ w - 1)

end Sys2Proof
end

