-- ==== Sys2Proof/Syntax.lean ====
section
/-! DEFINITION. The commands of the block: one constructor per row of spec/opcode_table.json, in the table's order,
with the row's operands. An operand that the outside world measures (a code, a count, a level, an error found by a
check) is given as what was measured; a write of a register carries the whole 32-bit word, as every access does (R38). -/
namespace Sys2Proof

/-- The path a register access takes, which is the requester identity of R38, R519 and R553. -/
inductive Path where
  | host | spi | link | mon
  deriving DecidableEq, Repr

/-- What the single-error-correcting check of a memory word found (R133, R161, R181, R509). -/
inductive Ecc where
  | clean | single | double
  deriving DecidableEq, Repr

/-- A fetch by a return engine: the engine, and what the check of the fetched word found (R181). -/
structure Fetch where
  engine : Fin 72
  check : Ecc
  deriving DecidableEq, Repr

/-- An error that a read of the stacks meets (R161): the stacks address of its 64-bit word, whether two bits are bad, and, of a read
by the standard firmware, whether it comes before the shot's PROX word. -/
structure StackError where
  addr : Nat
  double : Bool
  early : Bool
  deriving DecidableEq, Repr

/-- The entry of an engine's next handler, and the errors that the standard firmware's reads of the stacks meet in a shot. -/
structure HandlerEntry where
  engine : Fin 72
  errors : List StackError
  deriving DecidableEq, Repr

/-- A path whose next packet starts: the bundle 0, C0 1 or C1 2; and the errors that the reads of a raw ring entry meet. -/
structure Sending where
  path : Fin 3
  errors : List StackError
  deriving DecidableEq, Repr

/-- What a lane's blocks show as they arrive: block errors (R272), and the count of invalid headers in the last 1,024 of them (R306). -/
structure BlockCheck where
  errors : Nat
  headers : BitVec 16
  deriving DecidableEq, Repr

/-- The three inputs that pass the 200 µs filter of R416 and R418. -/
inductive PermitInput where
  | epermA | epermB | ctrFb
  deriving DecidableEq, Repr

/-- A packet as it arrives on a path (R273, R277): the START's fields, the data words and the END's fields.
`endSeq` and `crc` are `none` where no END came. -/
structure Packet where
  channel : BitVec 4
  seq : BitVec 12
  len : BitVec 20
  words : List DWord
  endSeq : Option (BitVec 12)
  crc : Option Word
  deriving DecidableEq, Repr

/-- The four stamps of an answered TS_REQ (R302, R303). -/
structure TsReply where
  sent : DWord
  partnerIn : DWord
  partnerOut : DWord
  received : DWord
  deriving DecidableEq, Repr

/-- The results of one pass of the periodic self-tests that no register holds (R421). -/
structure SelfTestReadback where
  gateOk : Bool
  permitOk : Bool
  ctrEnOk : Bool
  oscillatorOk : Bool
  deriving DecidableEq, Repr

/-- The commands of the OAW-6480, one per row of the table. -/
inductive Instr where
  -- Register access, halt, commit and snapshot (spec/02_folios_and_commit.md)
  | registerWrite (path : Path) (addr value : Word)
  | badRegisterAccess (path : Path) (write : Bool) (addr : Word) (size : Nat)
  | undefinedOffsetAccess (path : Path) (write : Bool) (addr value : Word)
  | haltWrite (path : Path) (page : Fin 183) (value : Word)
  | haltTakeEffect (page : Fin 183)
  | perturbWrite (path : Path) (page : Fin 183) (value : Word)
  | commit (path : Path)
  | commitCheckDone
  | abort (path : Path)
  | snap (path : Path)
  | snapshotCapture
  | idleBoundary
  | frameBoundaryStrobe (page : Fin 183)
  -- Frame triggers and the shot grid (spec/06, spec/03)
  | frameSyncInEdge (also : BitVec 4)
  | syncBusEdge (also : BitVec 4)
  | frameTimer
  | swTrig (path : Path)
  | runWrite (path : Path) (value : Word)
  | syncLostTimeout
  | fsoPulseEnd (bus : Bool)
  | burstCodeDone
  | shotOpen
  | armTokenDecision
  | armPoint
  | windowOpen
  | windowClose
  -- Detector tier and time-to-digital conversion (spec/04, spec/05)
  | spadAvalanche (ch : Fin 528) (spad : Fin 12) (code : BitVec 18)
  | eventDelivery (entry histogram : Ecc)
  | hotMaskClear (path : Path) (section_ : Fin 11) (chan : Fin 48) (value : Word)
  | vspadLost
  | trackPairDone (section_ : Fin 11) (countA countB : Nat)
  | dllLock (bank : Fin 34)
  | dllUnlock (bank : Fin 34)
  | tapHistCheck (bank : Fin 33)
  | timEdge (input : Fin 2) (code : BitVec 32)
  | timGateClose (input : Fin 2)
  | timTimeout (input : Fin 2)
  | emtLoad (path : Path) (value : Word)
  | lmpLoad (path : Path) (value : Word)
  | stall
  -- Return engines: dispatch (spec/07_return_engines.md)
  | bufferReady (re : Fin 72)
  | dispatchHandler (entry : HandlerEntry)
  | handlerReturn (re : Fin 72)
  | proxDeadline (re : Fin 72)
  | memoryScrub (re : Fin 72) (addr : Word) (found : Ecc)
  -- Return engines: the instruction set (R187 to R194)
  | alu (fetch : Fetch) (rd ra rb : BitVec 5) (func : BitVec 11)
  | addi (fetch : Fetch) (rd ra : BitVec 5) (imm : BitVec 16)
  | andi (fetch : Fetch) (rd ra : BitVec 5) (imm : BitVec 16)
  | ori (fetch : Fetch) (rd ra : BitVec 5) (imm : BitVec 16)
  | xori (fetch : Fetch) (rd ra : BitVec 5) (imm : BitVec 16)
  | slti (fetch : Fetch) (rd ra : BitVec 5) (imm : BitVec 16)
  | shi (fetch : Fetch) (rd ra : BitVec 5) (imm : BitVec 16)
  | lui (fetch : Fetch) (rd ra : BitVec 5) (imm : BitVec 16)
  | lw (fetch : Fetch) (rd ra : BitVec 5) (imm : BitVec 16) (found : Ecc)
  | lh (fetch : Fetch) (rd ra : BitVec 5) (imm : BitVec 16) (found : Ecc)
  | lhu (fetch : Fetch) (rd ra : BitVec 5) (imm : BitVec 16) (found : Ecc)
  | lb (fetch : Fetch) (rd ra : BitVec 5) (imm : BitVec 16) (found : Ecc)
  | lbu (fetch : Fetch) (rd ra : BitVec 5) (imm : BitVec 16) (found : Ecc)
  | sw (fetch : Fetch) (rs ra : BitVec 5) (imm : BitVec 16)
  | sh (fetch : Fetch) (rs ra : BitVec 5) (imm : BitVec 16)
  | sb (fetch : Fetch) (rs ra : BitVec 5) (imm : BitVec 16)
  | beq (fetch : Fetch) (ra rb : BitVec 5) (off : BitVec 16)
  | bne (fetch : Fetch) (ra rb : BitVec 5) (off : BitVec 16)
  | blt (fetch : Fetch) (ra rb : BitVec 5) (off : BitVec 16)
  | bge (fetch : Fetch) (ra rb : BitVec 5) (off : BitVec 16)
  | bltu (fetch : Fetch) (ra rb : BitVec 5) (off : BitVec 16)
  | bgeu (fetch : Fetch) (ra rb : BitVec 5) (off : BitVec 16)
  | jal (fetch : Fetch) (off : BitVec 26)
  | jalr (fetch : Fetch) (rd ra : BitVec 5) (imm : BitVec 16)
  | loop (fetch : Fetch) (zero ra : BitVec 5) (endWord : BitVec 16)
  | vld (fetch : Fetch) (v ra : BitVec 5) (mode : BitVec 3) (off : BitVec 13) (found : Ecc)
  | vst (fetch : Fetch) (v ra : BitVec 5) (mode : BitVec 3) (off : BitVec 13)
  | valu (fetch : Fetch) (vd va vb : BitVec 5) (mode : BitVec 3) (func : BitVec 8)
  | vmac (fetch : Fetch) (vd va vb : BitVec 5) (mode : BitVec 3) (func : BitVec 8)
  | vperm (fetch : Fetch) (vd va vb : BitVec 5) (mode : BitVec 3) (func : BitVec 8)
  | vred (fetch : Fetch) (vd va vb : BitVec 5) (mode : BitVec 3) (func : BitVec 8)
  | csrw (fetch : Fetch) (rs zero : BitVec 5) (csr : BitVec 16)
  | csrr (fetch : Fetch) (rd zero : BitVec 5) (csr : BitVec 16)
  | sysNop (fetch : Fetch) (rd ra rb : BitVec 5)
  | emit (fetch : Fetch) (rd ra rb : BitVec 5)
  | prox (fetch : Fetch) (rd ra rb : BitVec 5)
  | fence (fetch : Fetch) (rd ra rb : BitVec 5)
  | trap (fetch : Fetch) (rd ra rb : BitVec 5)
  | brk (fetch : Fetch) (rd ra rb : BitVec 5)
  -- Return engines: loading and handover
  | loadAddrWrite (path : Path) (re : Fin 72) (value : Word)
  | loadDataWrite (path : Path) (re : Fin 72) (value : Word)
  | repairReq (path : Path) (value : Word)
  | updateReq (path : Path) (value : Word)
  | unfence (path : Path) (re : Fin 72) (value : Word)
  -- Proximity combiner (spec/08_return_processing.md)
  | proxWordArrival
  | proxCollectionClose
  | proxHoldExpiry
  -- Point assembly and compression (spec/09_point_records_and_compression.md)
  | recordEntry (shelf : Fin 9)
  | shotMarker (shelf : Fin 9)
  | markerTimeout
  | blockOutput (flips : List Nat)
  | ledgerOutput
  -- Yomos Link (spec/10_serial_link.md)
  | blockLockGained (lane : Fin 6)
  | blockLockLost (lane : Fin 6)
  | packetReceived (lane : Fin 6) (blocks : BlockCheck) (packet : Option Packet)
  | registerReadRequest (tag : BitVec 8) (countM1 : BitVec 4) (addr : Word)
  | registerWriteRequest (tag : BitVec 8) (addr : Word) (values : List Word)
  | pairPacketReceived (accession : Word) (stamp depart arrival : DWord) (code : List (BitVec 9))
  | pairTrigger
  | creditReceived (raw : Bool) (limit : BitVec 24)
  | ackReceived (link : Fin 3) (seq : BitVec 12)
  | nakReceived (link : Fin 3) (seq : BitVec 12)
  | ackTimeout (link : Fin 3)
  | capsReceived (lane : Fin 6) (content : BitVec 48)
  | capsSend (lane : Fin 6)
  | trainReceived (lane : Fin 6) (rate : BitVec 3) (pass : Bool) (preReq postReq : BitVec 2)
  | trainWindowEnd (lane : Fin 6)
  | retrainReq (lanes : BitVec 4)
  | tsReq (onC1 : Bool) (tag : BitVec 48) (arrival : DWord)
  | packetTransmit (sending : Sending)
  | markerSend
  | eventPacketSend
  | safetyPacketSend
  | pairPacketSend
  | pairTsReqSend (reply : Option TsReply)
  | noPartnerTimeout (lane : Fin 6)
  | cdrLock (ctl : Fin 2) (hdrErr : BitVec 16)
  | cdrLockTimeout (ctl : Fin 2)
  | bitslip (path : Path) (ctl : Fin 2) (value : Word) (hdrErr : BitVec 16)
  | aligned (path : Path) (ctl : Fin 2) (value : Word)
  | retrain (path : Path) (lane : Fin 6) (value : Word)
  | enable (path : Path) (lane : Fin 6) (value : Word)
  | errLimitWindow (lane : Fin 6)
  | laneRetry (lane : Fin 4)
  -- Scan control (spec/11_scan_control.md)
  | mirrorSample
  | frameStartStrobe
  | restart (path : Path) (value : Word)
  | coeffWrite (path : Path) (bank : Fin 2) (word : Fin 4) (value : Word)
  | mirrorStateUpdate
  | heartbeatTimeout
  | heaterSample
  -- Sensing and conversion (spec/12_sensing_and_conversion.md)
  | convmConversion (code : Option Int) (pinOutside : Bool)
  | start (path : Path) (value : Word)
  | stop (path : Path) (value : Word)
  | slotPeriodStart (sensors : List (BitVec 16))
  | convhConversion (code : Int)
  | slotPeriodEnd
  | clampConduction (pin : Fin 12)
  | openDetect
  -- Thermal management (spec/14_thermal.md)
  | thmTimerRead (sensors : List (BitVec 16))
  | thmSlotSilent (lamp : Bool)
  | watchRead (ts5 ts15 ts21 ts23 : BitVec 16)
  | watchSensorLost
  -- Calibration (spec/13_calibration.md)
  | timSessionTimeout (input : Fin 2)
  | strskStart (path : Path) (value : Word)
  | cvhOffsetRound
  | calSave
  | eyeScan (lane : Fin 6) (width : BitVec 8) (height : BitVec 16)
  -- Safety (spec/15_safety.md)
  | reqOperational (path : Path)
  | operationalEntryComplete
  | reqInit (path : Path)
  | reqClear (path : Path)
  | reqSafeHold (path : Path)
  | pairArm (path : Path)
  | pairCommission (path : Path)
  | pairArmExpiry
  | autoOperRetry
  | safetyFaultPost
  | tripsLatchClear (path : Path) (value : Word)
  | inhibitLatchClear
  | epermChange (channelB : Bool) (level : Bool)
  | permitFilterSettled (input : PermitInput) (level : Bool)
  | discrepancyTick
  | contactorTimeout
  | lockstepMismatch
  | oscEdgeLoss
  | selfTest (readback : SelfTestReadback)
  | colophonRecompute
  | colophonConfirm (path : Path) (value : Word)
  | colophonStored
  | energyBucketAdvance (second : Bool)
  | degMaxExpiry
  -- Lamp strings (spec/16_lamp_driver.md)
  | lampTick
  | lampSyncEdge
  | lampSyncLost
  -- Power (spec/17_power_feeds_and_domains.md)
  | railGood (rail : Fin 6)
  | railLost (rail : Fin 6)
  | feedPresenceChange (feedB : Bool) (present : Bool)
  | standbyAbsent
  | feedSwitchover
  | holdRelease
  | feedReturn
  | domainOn (path : Path) (value : Word)
  | domainOff (path : Path) (value : Word)
  | domainTurn (railOk : Bool)
  | park (path : Path) (value : Word)
  | wakePin (monRx : Bool)
  | wakeTimer
  -- Reset and clocks (spec/18_reset_and_clocks.md)
  | powerOn (above : Bool)
  | brownoutSen
  | resetPin (low : Bool)
  | watchdogExpiry
  | wdogKick (path : Path) (value : Word)
  | swReqGo (path : Path) (value : Word)
  | holdSlotWrite (path : Path) (slot : Fin 8) (value : Word)
  | hostLockup
  | resetTakeEffect
  | episodeEnd
  | sentinelRelease
  | unitRelease (page : Fin 183)
  | clkTmo (page : Fin 183)
  | refTimeout
  | refCheckWindow (count : BitVec 9)
  | clockCheckWindow (domain : Fin 6) (count : BitVec 16)
  | clockEdgeTimeout (domain : Option (Fin 6))
  | pllLock (domain : Fin 6)
  | pllUnlock (domain : Fin 6)
  -- Security and storage (spec/19_security_and_storage.md)
  | bootSequence
  | verify (path : Path) (value : Word)
  | attest (path : Path) (value : Word)
  | cert (path : Path) (value : Word)
  | enroll (path : Path) (value : Word)
  | revoke (path : Path) (value : Word)
  | confirm (path : Path) (value : Word)
  | secCommandDone
  | wgo (path : Path) (value : Word)
  | mramWriteDone
  | lifeRecordWrite
  | recovGo (path : Path) (value : Word)
  -- The SPI target and the I2C controller (spec/21_electrical_and_timing.md)
  | spiRead (addr : Word) (crc : Byte)
  | spiWrite (addr data : Word) (crc : Byte)
  | spiFrameAbandon
  | i2cStretchTimeout
  -- The Carrel monitor and test access (spec/20_monitor_and_test.md)
  | monCharacter (char : Byte) (framing : Bool)
  | lineTimeout
  | carrelVer
  | carrelPeek (addr : Word) (count : Nat)
  | carrelPoke (addr value : Word)
  | carrelFolio (addr : Word)
  | carrelTree
  | carrelSnap
  | carrelTrace (addr : Word)
  | carrelTraceOff
  | tracePoll
  | volLoad (size : Nat) (bytes : List Byte) (check : List Byte)
  | volLoadTimeout
  | volWrite (slotB : Bool)
  | volVerify (dest : Byte)
  | carrelBoot
  | baud (rate : Nat)
  | unlock
  | token (body signature : List Byte)
  | lock
  | unlockExpiry
  | challengeExpiry
  | haltRe (re : Fin 72)
  | goRe (re : Fin 72)
  | regsRe (re : Fin 72)
  | dresetSubtree (addr : Word)
  | dresetSys
  | release
  | extest (cells : BitVec 79)
  | samplePreload (pins : BitVec 79)
  | bypass
  -- The rows that the table adds at its end
  | pendingTriggerAccept
  | brownoutSenDeassert
  | spiMalformedFrame (cmd : Byte)
  | spiCsNEarlyRise
  | registerMalformedRequest (head : DWord) (len : Nat)
  | carrelUnknownCommand
  | illegalOpcode (fetch : Fetch) (word : Word)
  | htrPwmPeriodStart
  | safetyRecordLoad
  deriving DecidableEq, Repr

end Sys2Proof
end

