-- ==== Sys2Proof/Config.lean ====
section
/-! DEFINITION. What one device or one board fixes and the spec leaves open: uninterpreted constants, of which nothing
in Lean can know a value. A statement that mentions one holds for every device. -/
namespace Sys2Proof

/-- FREE VALUE (log 7): the n-th value that the spec leaves open. `State.free` counts how many have been drawn. -/
opaque Config.freeNat : Nat → Nat

/-- FREE VALUE (log 8): whether a quotient whose rounding the spec does not state is rounded up. -/
opaque Config.roundsUp : Int → Int → Bool

/-- The device's XMSS public key, byte by byte, 68 bytes (R489; log 12). -/
opaque Config.publicKey : Nat → Byte

/-- The Hjelon root public key of key slot 0, 68 bytes (R490; log 12). -/
opaque Config.rootKey : Nat → Byte

/-- Whether an XMSS signature of 2,820 bytes verifies under a 68-byte public key (R490, NIST SP 800-208; log 12). -/
opaque Config.xmssVerify : List Byte → List Byte → List Byte → Bool

/-- Byte `n` of the signature that SEC makes over a message with an index of its own key (R506; log 12). -/
opaque Config.xmssSign : Nat → List Byte → Nat → Byte

/-- CAPS.HALTABLE of the folio pages whose chapter does not state it (log 10). -/
opaque Config.haltable : Nat → Bool

/-- CAPS.SAFETY_RELEVANT of the folio pages whose chapter does not state it (log 10). -/
opaque Config.safetyRelevant : Nat → Bool

/-- CAPS.UNIT_CAPS of a folio page: the chapters give no value (log 10). -/
opaque Config.unitCaps : Nat → BitVec 16

/-- Whether a volume identity and version name the standard firmware of R214 (log 13). -/
opaque Config.isStandardVolume : Nat → Nat → Bool

/-- Whether the shipped calibration area holds a valid breakdown model of a bias section (R113, R363; log 13). -/
opaque Config.vbdValid : Nat → Bool

/-- The breakdown model of a bias section in mV at the five points of R363 (log 13). -/
opaque Config.vbdModel : Nat → Nat → Int

/-- Where in the calibration area of NVS the Ruhal table stands (R368; log 4). -/
opaque Config.ruhalBase : Nat

/-- Where in the configuration area of NVS copy 0 and copy 1 of the boot record stand (R498; log 4). -/
opaque Config.bootCopy : Nat → Nat

/-- Where in host memory the boot ROM puts a slot's host volume (R500; log 4). -/
opaque Config.hostLoad : Nat

/-- The flash size that the boot ROM finds, in MiB (R497, R514; log 4). -/
opaque Config.flashMib : Nat

end Sys2Proof
end

