-- ==== Sys2Proof/Machine/State.lean ====
section
/-! DEFINITION. The state of the block, as plain data. Every register of every folio stands in the register store
`regs` under the key of its field (Sys2Proof/Machine/RegMap*.lean names them all); what the spec gives a unit beside
its registers (queues, timers, accumulators, the shot in flight, memories, pins) stands in the unit's own structure
below. INVENTORY.md lists both with the rule that names each. Sparse tables are canonical (rising keys, no entry equal
to what an unlisted key reads as), so equal states are equal data. -/
namespace Sys2Proof.Machine
open Sys2Proof

/-- A sparse table: key and value pairs, keys strictly rising, no value equal to the table's default. -/
abbrev Tab (α : Type) := List (Nat × α)

/-- The register store: a field's key and its value, fields at their reset value unlisted. -/
abbrev Store := Tab Nat

/-- A memory: bytes by address, bytes equal to 0 unlisted (NOTES.md says which rule or log entry gives the 0). -/
abbrev Mem := List Host.Cell

/-- Why a step stops with a fault. -/
inductive Fault where
  /-- Raised by a meaning whose operand list no sender can send (a list of the wrong length, an index past its range;
  WellFormed.lean names them). Safe: the command does not exist on the hardware. -/
  | illFormed
  deriving DecidableEq, Repr

/-- Why a step has no meaning. -/
inductive Refusal where
  /-- Raised by an arm of `exec` whose command has no meaning yet. Safe: nothing is claimed of it. -/
  | notModelled (mnemonic : String)
  deriving DecidableEq, Repr

/-- The three copies of the registers: `cur` what acts (RW, RO and W1C values, RWS values in force, RWL values
applied), `shadow` what was last written (RWS shadows R10, RWL values R46), `staged` the staged copies of a commit (R50). -/
structure Regs where
  cur : Store := []
  shadow : Store := []
  staged : Store := []
  deriving DecidableEq, Repr

/-- A completed register access: whether it answered an error (R38, R39, R477) and what it read. -/
structure BusAnswer where
  error : Bool := false
  data : Word := 0
  deriving DecidableEq, Repr

/-- The commit and snapshot engine of the catalogue (R50 to R59). -/
structure CatState where
  /-- ABORT was written while the check ran (R51). -/
  abortPending : Bool := false
  /-- The boundary of the staged commit has passed and folios are applying (R50 steps 6 to 8). -/
  applying : Bool := false
  /-- A frame boundary has passed in ACQ and its strobe has not reached the fabric, where the catalogue stands (R25, R27, R51);
  and the folios that the strobe has reached before. -/
  boundaryDue : Bool := false
  early : List Nat := []
  /-- A snapshot is requested and its boundary has not come (R30). -/
  snapWaiting : Bool := false
  /-- The boundary came and the folios are copying (R58). -/
  snapCapturing : Bool := false
  /-- SNAP_ACCESSION and SNAP_SHOT of the boundary being captured. -/
  snapAccession : Word := 0
  snapShot : Nat := 0
  deriving DecidableEq, Repr

/-- One shot, from its SHOT_OPEN until PCA has its column (R73, R163). -/
structure Shot where
  seq : Word := 0
  accession : Word := 0
  gen : Word := 0
  column : Nat := 0
  first : Bool := false
  last : Bool := false
  trunc : Bool := false
  raw : Bool := false
  openTime : Nat := 0
  derate : Nat := 0
  pw : Nat := 0
  pattern : Nat := 0
  /-- Strings with a lit emitter, as a mask (R87, R88). -/
  strings : Nat := 0
  code : List Nat := []
  /-- The fire state of R94, none before the arm point. -/
  fire : Option Nat := none
  /-- A token of this shot was issued by SAF (R403), for this width and pulse count (R409). -/
  tokened : Bool := false
  authPw : Nat := 0
  authPulses : Nat := 0
  /-- A held or cut-short EMT: the shot reports HALTED with zeros (R94). -/
  emtReset : Bool := false
  windowOpen : Bool := false
  openCode : Nat := 0
  closeCode : Nat := 0
  /-- Pulses whose rising edge EMT drove (R91). -/
  driven : Nat := 0
  /-- Accepted monitor edges: pulse and code (R91). -/
  edges : List (Nat × Nat) := []
  t0 : Nat := 0
  tim0Code : Nat := 0
  mpdEff : Nat := 0
  refPulse : Nat := 0
  refPartial : Bool := false
  noRef : Bool := false
  refNominal : Bool := false
  binsel : Nat := 0
  reduce : Nat := 0
  nbins : Nat := 0
  rrLevel : Nat := 0
  /-- TIM1 stamps (R136). -/
  tim1 : List Nat := []
  /-- Rows whose slot header shows TDC_INVALID (R241). -/
  invalidRows : List Nat := []
  /-- The engine that serves each row group in the shot's frame (R206). -/
  engines : List Nat := []
  /-- Mirror feedback code before the first pulse (R240). -/
  angle : Nat := 0
  deriving DecidableEq, Repr

/-- What a frame gathers for its ledger record (R243). -/
structure Frame where
  accession : Word := 0
  gen : Word := 0
  cause : Nat := 0
  src : Nat := 0
  stamp : Nat := 0
  ncol : Nat := 0
  colPeriod : Nat := 0
  /-- Column of the next shot to open. -/
  next : Nat := 0
  code : List Nat := []
  fallback : Bool := false
  rrLevel : Nat := 0
  derateMax : Nat := 0
  derateFirst : Option Nat := none
  derateChanged : Bool := false
  unfired : Nat := 0
  noref : Nat := 0
  trimChanged : Bool := false
  nvsBlocked : Bool := false
  tjMax : Option Int := none
  throttleMax : Nat := 0
  truncated : Bool := false
  firstTrunc : Nat := 0
  calSet : Nat := 0
  safety : Nat := 0
  reduce : Nat := 0
  engineMap : List Nat := []
  channelMap : List Nat := []
  /-- A reset covering PCA has interrupted the frame (R56). -/
  cut : Bool := false
  /-- Its RWL list: word addresses with their values in force at the boundary (R243). -/
  rwl : List (Nat × Nat) := []
  deriving DecidableEq, Repr

/-- A frame's context page (R183): its own words, and the registers from which every engine's page was filled. -/
structure Context where
  accession : Word := 0
  gen : Word := 0
  calSet : Nat := 0
  regs : Store := []
  deriving DecidableEq, Repr

/-- ACQ beside its registers (spec/06_acquisition_and_stacks.md). -/
structure AcqState where
  /-- TIME: TDC cycles since the last reset covering ACQ (R150), 64 bits. -/
  time : DWord := 0
  timeHi : Word := 0
  stampHi : Word := 0
  lastStamp : DWord := 0
  lastTrigger : Option Nat := none
  /-- A trigger has been accepted since RUN was set (R151). -/
  triggered : Bool := false
  /-- The grid has been in service since an accepted trigger (R95). -/
  inService : Bool := false
  lastBoundary : Option Nat := none
  /-- A timer trigger that R149 ignored and R151 keeps. -/
  timerPending : Bool := false
  frame : Option Frame := none
  shot : Option Shot := none
  /-- The counter value the next shot carries (R164). -/
  nextSeq : Word := 0
  /-- The shot of the most recently closed window. -/
  closedShot : Option Shot := none
  /-- Consecutive frames that count toward RR_RECOVER (R167). -/
  recover : Nat := 0
  /-- RR_LEVEL of the next frame. -/
  rrNext : Nat := 0
  /-- Since the last frame boundary: peak of the OUT_FILL reports, verify failures, whether LNK reported STALL (R166, R167). -/
  peakFill : Nat := 0
  vfail : Nat := 0
  stall : Bool := false
  /-- Raw ring (R171, R172): write offset, bytes held, lengths of the held entries oldest first. -/
  ringAt : Nat := 0
  ringUsed : Nat := 0
  ringEntries : List Nat := []
  /-- Words of the oldest entry that have left (R276). -/
  ringSent : Nat := 0
  /-- Selected shots seen while level 1 drops every second (R166). -/
  rawParity : Bool := false
  /-- FSO and SYNC_BUS pulses running (R153). -/
  fso : Bool := false
  bus : Bool := false
  /-- The context pages 0 and 1 (R183), and the generation of the frame opened last. -/
  pages : Tab Context := []
  lastGen : Option Word := none
  /-- SYNC_LOST found the frame timer disabled: the condition of FAULT.NO_FRAMES (R152). -/
  noFrames : Bool := false
  deriving DecidableEq, Repr

/-- The arm-token crossing as EMT sees it (R75); its INHIBIT bit is the inhibit latch itself. -/
structure Token where
  token : Bool := false
  tag : Nat := 0
  deriving DecidableEq, Repr

/-- A burst code waiting for its frame (R80). -/
structure ReadyCode where
  accession : Word := 0
  pos : List Nat := []
  fallback : Bool := false
  deriving DecidableEq, Repr

/-- EMT beside its registers (spec/03_emitter_sequencing.md). -/
structure EmtState where
  ready : Option ReadyCode := none
  token : Option Token := none
  /-- Consecutive fired shots flagged NO_REF (R92). -/
  norefRun : Nat := 0
  /-- Unfired shots and NO_REF shots of the frame, as EMT counts them (R92, R94). -/
  unfired : Nat := 0
  noref : Nat := 0
  /-- The accepted bin image in force and the one staged by LOAD (R82). -/
  image : Option (List Nat) := none
  stagedImage : Option (List Nat) := none
  /-- MPD_DELAY in force (R82). -/
  mpdDelay : Nat := 0
  deriving DecidableEq, Repr

/-- A bias section beside its registers (R103 to R114). -/
structure Section where
  pairs : Nat := 0
  rejects : Nat := 0
  /-- Accepted VSPAD readings, newest first, at most four, in mV (R110). -/
  vspad : List Nat := []
  vspadMiss : Nat := 0
  vspadSeen : Bool := false
  /-- VSPAD is lost and TRIM stands at 511 (R110). -/
  lost : Bool := false
  recovered : Nat := 0
  /-- Avalanches of the scanned SPAD and of its macro-pixel this frame (R106). -/
  scanSpad : Nat := 0
  scanMacro : Nat := 0
  /-- drift in mV, which the 16 bits of DRIFT do not limit (R114). -/
  drift : Int := 0
  /-- HALTED as it read at window open (R120). -/
  haltedAtOpen : Bool := false
  /-- A computed trim has applied since the last reset (R113). -/
  trimmed : Bool := false
  deriving DecidableEq, Repr

/-- A channel's gate and frame statistics (R101 to R108). -/
structure Chan where
  /-- Avalanches waiting in the gate: SPAD and code, oldest first. -/
  gate : List (Nat × Nat) := []
  /-- Each SPAD's last avalanche, for its hold-off. -/
  fired : List (Nat × Nat) := []
  /-- HOT_MASK as it applied at the last frame boundary (R107). -/
  masked : Nat := 0
  kAuto : Nat := 2
  windows : Nat := 0
  bgSum : Nat := 0
  evSum : Nat := 0
  allFull : Bool := true
  darkRun : Nat := 0
  noneRun : Nat := 0
  stuckRun : Nat := 0
  deadOk : Nat := 0
  stuckOk : Nat := 0
  hotOk : Nat := 0
  deriving DecidableEq, Repr

/-- A channel's events of the shot in flight (R132). -/
structure Events where
  codes : List Nat := []
  ovf : Nat := 0
  pileupT : Nat := 0
  lastCode : Option Nat := none
  lost : Bool := false
  stackErr : Bool := false
  deriving DecidableEq, Repr

/-- A TDC bank's part in the shot in flight (R123, R125, R140) and in the frame. -/
structure Bank where
  /-- The shot's window is open in the bank. -/
  open_ : Bool := false
  /-- Channels piled up in the shot in flight, as a mask. -/
  pileup : Nat := 0
  /-- The bank's channels are TDC_INVALID in the shot in flight. -/
  invalid : Bool := false
  pileShots : Nat := 0
  invShots : Nat := 0
  /-- The loop has been locked since the last reset of the bank. -/
  wasLocked : Bool := false
  deriving DecidableEq, Repr

/-- A TIM input beside its registers (R136, R137). -/
structure TimInput where
  edges : List Nat := []
  ovf : Nat := 0
  lastCode : Option Nat := none
  /-- First and last edge of the running gate and the number of edges (R137). -/
  gateFirst : Option Nat := none
  gateLast : Nat := 0
  gateCount : Nat := 0
  deriving DecidableEq, Repr

/-- DET and TDC beside their registers (spec/04, spec/05). -/
structure DetState where
  sections : Tab Section := []
  chans : Tab Chan := []
  events : Tab Events := []
  /-- Timestamped events on their way to ACQ, oldest first: channel and code (R133). -/
  flight : List (Nat × Nat) := []
  banks : Tab Bank := []
  tims : Tab TimInput := []
  /-- Some section's TRIM changed at the last boundary (R112). -/
  trimChanged : Bool := false
  deriving DecidableEq, Repr

/-- One level of a hardware loop (R184, R191). -/
structure LoopLevel where
  start : Word := 0
  last : Word := 0
  left : Word := 0
  deriving DecidableEq, Repr

/-- A handler of the vector table (R195). -/
inductive Handler where
  | init | frameBegin | shot | frameEnd | error | config
  deriving DecidableEq, Repr

/-- A shot as an engine's dispatcher knows it (R177, R195), and whether its PROX deadline has passed (R198). -/
structure ShotRef where
  seq : Word := 0
  accession : Word := 0
  gen : Word := 0
  column : Nat := 0
  last : Bool := false
  rg : Nat := 0
  late : Bool := false
  deriving DecidableEq, Repr

/-- A frame-level handler waiting to run, with its first two arguments and its frame (R195). -/
structure Call where
  handler : Handler := .init
  arg1 : Word := 0
  arg2 : Word := 0
  accession : Word := 0
  gen : Word := 0
  rg : Nat := 0
  deriving DecidableEq, Repr

/-- A return held by the standard firmware (R214, R228): its range in 1/16 LSB of time, and the record it was emitted as. -/
structure HeldReturn where
  record : DWord := 0
  time : Int := 0
  deriving DecidableEq, Repr

/-- The standard firmware's state of its eight rows (R214, R225), its PARAM words, and the shot in hand: the point records
emitted and not retracted, and the state that its end puts in force. -/
structure Firmware where
  held : Tab (List HeldReturn) := []
  window : Tab Nat := []
  params : List Nat := []
  records : List DWord := []
  nextHeld : Tab (List HeldReturn) := []
  nextWindow : Tab Nat := []
  deriving DecidableEq, Repr

/-- A return engine beside its registers (spec/07_return_engines.md). -/
structure Engine where
  s : Tab Word := []
  v : Tab (BitVec 256) := []
  acc0 : BitVec 640 := 0
  acc1 : BitVec 640 := 0
  pc : Word := 0
  /-- Active hardware loops, innermost first (R191). -/
  loops : List LoopLevel := []
  /-- The handler in hand, none while idle. -/
  running : Option Handler := none
  /-- The handler an ERROR interrupted (R197). -/
  interrupted : Option Handler := none
  current : Option ShotRef := none
  pending : Option ShotRef := none
  calls : List Call := []
  /-- Issue slots since the handler was entered (R194), and those of a SHOT that ERROR has interrupted (R210). -/
  slots : Nat := 0
  shotSlots : Nat := 0
  /-- The generation of the frame that the handler in hand works on (R28). -/
  frameGen : Word := 0
  winEcc : Bool := false
  /-- Records emitted in the current shot (R192). -/
  emitted : Nat := 0
  scratch : Word := 0
  /-- The engine's HALT was set by BRK or by the monitor (R527). -/
  debugHalt : Bool := false
  imem : Mem := []
  /-- Data memory, by its offset from 0x0001_0000. -/
  dmem : Mem := []
  /-- Word addresses that hold an uncorrectable error a scrub has found (R181). -/
  badWords : List Nat := []
  stackTop : Word := 0
  minor1 : Bool := false
  /-- The volume's INIT has returned (R201, R565). -/
  inited : Bool := false
  /-- The engine has begun to serve and has had no FRAME_BEGIN yet (R206). -/
  fresh : Bool := false
  /-- A word has been loaded since the engine last halted (R201). -/
  written : Bool := false
  /-- A handover has relieved the engine: the STATE it takes once it has run its FRAME_END (R206). -/
  leaving : Option Nat := none
  /-- The shot whose ready toggle came last (R177). -/
  lastSeq : Option Word := none
  skippedFrame : Nat := 0
  errorsFrame : Nat := 0
  shotsFrame : Nat := 0
  slotsMax : Nat := 0
  /-- No reset covering the engine has cleared its memories since it was fenced (R207). -/
  uncleared : Bool := false
  fw : Firmware := {}
  deriving DecidableEq, Repr

/-- An entry of a shelf queue (R178). -/
structure Entry where
  marker : Bool := false
  word : DWord := 0
  re : Nat := 0
  deriving DecidableEq, Repr

/-- The proximity combiner (R234, R235). -/
structure ProxState where
  /-- PROX words in the crossing, oldest first. -/
  flight : List Word := []
  /-- Collection runs for the shot with this tag; it is its frame's last; the row groups accepted; intruding rows counted. -/
  collecting : Bool := false
  tag : Nat := 0
  last : Bool := false
  accepted : List Nat := []
  rows : Nat := 0
  /-- Words discarded. -/
  discarded : Nat := 0
  /-- PROX_N asserted by the combiner. -/
  asserted : Bool := false
  /-- Blind row-shots, missing results and shots of the frame (R415). -/
  blindFrame : Nat := 0
  missFrame : Nat := 0
  shotsFrame : Nat := 0
  /-- Row groups whose engine discarded a PROX word in the frame (R413 bit 34). -/
  lateRgs : List Nat := []
  deriving DecidableEq, Repr

/-- A column in PCA's hands (R245 to R248). -/
structure Column where
  shot : Shot := {}
  /-- Markers taken: row group and outcome, in order of arrival. -/
  markers : List (Nat × Nat) := []
  /-- Records taken: row group and word, in order of arrival. -/
  records : List (Nat × DWord) := []
  /-- Point records that a retraction has named, by ROW and INDEX. -/
  retracted : List Nat := []
  closed : Bool := false
  deriving DecidableEq, Repr

/-- PCA beside its registers (spec/09_point_records_and_compression.md). -/
structure PcaState where
  queues : Tab (List Entry) := []
  /-- Entries that wait at a full shelf queue of 128: of stalled EMITs and of dispatchers (R25, R176, R178, R192). -/
  waiting : Tab (List Entry) := []
  columns : List Column := []
  /-- Closed frames whose ledger record is still to be written, oldest first. -/
  frames : List Frame := []
  /-- The frame-head record of the frame in output is written (R245). -/
  headSent : Bool := false
  /-- Since the last ledger record: point records and retractions delivered, OVERSIZE returns, bytes of the blocks. -/
  npoints : Nat := 0
  nretract : Nat := 0
  oversize : Nat := 0
  bytesRaw : Nat := 0
  bytesSent : Nat := 0
  /-- The output buffer: whole blocks, oldest first, each with its header word first. -/
  out : List (List DWord) := []
  /-- RWL words whose change applied since the last frame boundary, in order of first change (R243). -/
  rwl : List Nat := []
  deriving DecidableEq, Repr

/-- A packet waiting or kept for replay on a path (R273, R284). -/
structure TxPacket where
  channel : Nat := 0
  seq : Nat := 0
  first : Bool := false
  last : Bool := false
  words : List DWord := []
  deriving DecidableEq, Repr

/-- A lane beside its registers (R288 to R297). -/
structure LaneState where
  locked : Bool := false
  /-- The partner's CAPS content. -/
  caps : Option (BitVec 48) := none
  /-- The partner's result of the window, whether the lane has passed its own window and waits for that result (R291), and whether
  it has passed at its rate and waits for the other lanes (R293). -/
  partnerPass : Option Bool := none
  ended : Bool := false
  passed : Bool := false
  /-- Block errors of the training window and of the 125 µs window. -/
  windowErrs : Nat := 0
  errs125 : Nat := 0
  fails : Nat := 0
  /-- Equalisation: requests honoured at this rate, and the partner's last ones (R292). -/
  eqReqs : Nat := 0
  preReq : Nat := 0
  postReq : Nat := 0
  /-- Leaves the stripe at the next marker (R297). -/
  leaving : Bool := false
  /-- Markers carried since DESKEW. -/
  markers : Nat := 0
  /-- Trains at the rate in force, with no step up and no capability exchange (R296, R297). -/
  retraining : Bool := false
  /-- Comes up since its capabilities were exchanged (R301). -/
  comingUp : Bool := false
  /-- The conditions of FAULT.NO_PARTNER and FAULT.VERSION stand (R61, R288, R290). -/
  noPartner : Bool := false
  badVersion : Bool := false
  /-- A control lane searches again in the middle of its training (R291, R294). -/
  relock : Bool := false
  /-- A control lane has fallen back to its final rate (R291). -/
  final : Bool := false
  deriving DecidableEq, Repr

/-- A path's packets (R284 to R286): the bundle, C0 and C1. -/
structure PathState where
  queue : List TxPacket := []
  /-- Packets sent and not acknowledged, oldest first; the last `resend` of them are to be sent again. -/
  replay : List TxPacket := []
  resend : Nat := 0
  seqNext : Nat := 0
  seqAcked : Nat := 4095
  rxNext : Nat := 0
  /-- Consecutive replays from one SEQ, and that SEQ. -/
  tries : Nat := 0
  triesAt : Nat := 0
  deriving DecidableEq, Repr

/-- LNK beside its registers (spec/10_serial_link.md). -/
structure LinkState where
  lanes : Tab LaneState := []
  paths : Tab PathState := []
  /-- The bundle is DOWN: credits are restarted (R282). -/
  bundleDown : Bool := true
  /-- The data lanes striped after the last marker (R278, R279). -/
  stripe : List Nat := []
  limitPts : BitVec 24 := 0
  limitRaw : BitVec 24 := 0
  usedPts : BitVec 24 := 0
  usedRaw : BitVec 24 := 0
  stalled : Bool := false
  mcount : BitVec 16 := 0
  msgSeq : Word := 0
  /-- The words that the last EVENT packet reported. -/
  lastEvent : List Word := []
  /-- The instant of the pair trigger that waits (R304). -/
  pairAt : Option DWord := none
  pairSeen : Bool := false
  pairMeasured : Bool := false
  /-- TS_REQs sent on C1 since a PAIR packet last arrived, and the partner's code while a frame of the device's own is still to be
  compared with it (R303, R305). -/
  pairSilent : Nat := 0
  partnerCode : Option (List Nat) := none
  /-- ACCESSION and STAMP of the trigger whose PAIR packet is to be sent (R303). -/
  pairSend : Option (Word × DWord) := none
  /-- Control blocks that the last command sent: lane and payload, in order. -/
  sent : List (Nat × DWord) := []
  /-- The packet sent last, with its path. -/
  tx : Option (Nat × TxPacket) := none
  deriving DecidableEq, Repr

/-- An output of an FLT slot as the housekeeping-results queue carries it (R25, R341, R352). -/
structure HkResult where
  slot : Nat := 0
  value : Int := 0
  open_ : Bool := false
  ovr : Bool := false
  unsettled : Bool := false
  blank : Bool := false
  stale : Bool := false
  seq : Nat := 0
  deriving DecidableEq, Repr

/-- SCN's mirror loop beside its registers (spec/11_scan_control.md). -/
structure ScnState where
  /-- Conversions completed since the last sample, oldest first: code and over-range mark. -/
  conv : List (Int × Bool) := []
  /-- Consecutive periods without a feedback sample (R324). -/
  missed : Nat := 0
  /-- The model's history (R323): feedback of the last two samples, none where one had none, and their drive codes. -/
  y1 : Option Int := none
  y2 : Option Int := none
  u1 : Int := 0
  u2 : Int := 0
  /-- Closed-loop samples since the loop closed, up to two. -/
  closedFor : Nat := 0
  integ : Int := 0
  d : Int := 0
  ePrev : Int := 0
  /-- Effective set-point, velocity and last command in 1/65,536 LSB (R318). -/
  pEff : Int := 0
  vEff : Int := 0
  cmd : Int := 0
  drive : Int := 0
  implRun : Nat := 0
  trkRun : Nat := 0
  /-- The run of FROZEN: its first sample, and the differences of its last samples, newest first, at most 64 (R324). -/
  frozenBase : Option Int := none
  frozenSums : List Int := []
  /-- Samples until the last LOST_RANGE or LOST_SAMPLE lies 64 samples back (R328). -/
  lostFor : Nat := 0
  /-- The last sample's time from the frame's first SHOT_OPEN in scan cycles, none outside a sweep; the frame's velocity
  in 1/65,536 LSB per sample (R320). -/
  tau : Option Int := none
  vs : Int := 0
  /-- A restart waits for the next sample instant (R328). -/
  restart : Bool := false
  /-- STOP_CAUSE holds IMPLAUSIBLE and no restart has been accepted since (R329). -/
  implausible : Bool := false
  /-- LOST_RANGE (1) and LOST_SAMPLE (2) as the last sample met them (R324). -/
  lost : Nat := 0
  lastY : Int := 0
  /-- The newest result of each FLT slot that has reached SCN, and the slots whose result is new since the last heater sample (R332). -/
  results : Tab (Option HkResult) := []
  fresh : List Nat := []
  hinteg : Int := 0
  hot : Nat := 0
  cool : Nat := 0
  hSilent : Nat := 0
  hFault : Bool := false
  hOver : Bool := false
  /-- The newest heater duty (R333). -/
  duty : Nat := 0
  /-- Mirror state as SAF's end of the crossing reads it, and its stop cause. -/
  safState : Nat := 1
  safCause : Nat := 0
  heartbeatLost : Bool := false
  deriving DecidableEq, Repr

/-- One FLT slot (R350 to R354). -/
structure Slot where
  /-- The last valid working values, newest first (R350). -/
  window : List Int := []
  lead : List Int := []
  /-- Outputs of the count of R354 delivered so far, none when settled. -/
  count : Option Nat := none
  blank : Bool := false
  /-- Codes of the period's conversions, oldest first. -/
  codes : List Int := []
  open_ : Bool := false
  ovr : Bool := false
  /-- XREF_RES as a thermometer slot's conversions use it, since the slot's last sample boundary (R353). -/
  xref : Nat := 20000
  deriving DecidableEq, Repr

/-- AFE, CONV-H and FLT beside their registers (spec/12_sensing_and_conversion.md). -/
structure SenseState where
  slot : Nat := 0
  inPeriod : Bool := false
  stopAsked : Bool := false
  fast : Bool := false
  period : Nat := 0
  slots : Tab Slot := []
  /-- Pins whose clamp conducted in this period. -/
  clamped : List Nat := []
  /-- The housekeeping-results queue, oldest first, at most 16 (R25). -/
  results : List HkResult := []
  /-- Offsets that a calibration round has measured so far, by gain: in force from the next round on (R379). -/
  offsets : List (Nat × Int) := []
  /-- The calibration round of R379: asked for, or running. -/
  calAsked : Bool := false
  calRound : Bool := false
  deriving DecidableEq, Repr

/-- The counts of one threshold (R387). -/
structure Thresh where
  crossed : Bool := false
  up : Nat := 0
  down : Nat := 0
  deriving DecidableEq, Repr

/-- THM and the watch beside their registers (spec/14_thermal.md). -/
structure ThmState where
  /-- Sensors that have delivered a reading since THM's last reset. -/
  read : List Nat := []
  counts : Tab Thresh := []
  emtSeen : Bool := false
  lmpSeen : Bool := false
  emtSilent : Nat := 0
  lmpSilent : Nat := 0
  emtDelivered : Bool := false
  lmpDelivered : Bool := false
  /-- The highest reading of the latest instant at which the sensors were read (R243). -/
  tjLast : Option Int := none
  /-- The slot and the value of the newest usable output of each derating slot (R386), and whether the slot has been lost since
  (R390). -/
  emtLast : Option (Nat × Int) := none
  lmpLast : Option (Nat × Int) := none
  emtLost : Bool := false
  lmpLost : Bool := false
  watch : Tab Thresh := []
  watchMiss : Nat := 0
  /-- The steps as applied to each shelf's engines (R392). -/
  applied : Tab Nat := []
  deriving DecidableEq, Repr

/-- A correction set of one channel at one point (R363). -/
structure CalSet where
  mid : List Nat := (List.range 32).map fun f => 16 * f + 8
  skew : Int := 0
  trim : List Nat := List.replicate 32 8
  sel : Word := 0
  deriving DecidableEq, Repr

/-- An event in an echo gate, with what its shot gives (R371): its code, its pulse's position, its shot's raw TIM0 code
and effective MPD delay, and the position of the reference pulse. -/
structure Echo where
  code : Nat := 0
  pos : Nat := 0
  tim0 : Nat := 0
  mpd : Int := 0
  refPos : Nat := 0
  deriving DecidableEq, Repr

/-- A session in progress (R370 to R374, R377): its channel, 528 for TIM0 and 529 for TIM1, the frames it has run, its trial
trims, and what it has collected. A TIM session keeps its own histogram and the paired codes of TIM1 and TIM0 (R377). -/
structure Session where
  chan : Nat := 0
  frames : Nat := 0
  trial : List Nat := []
  stale : Bool := false
  echoes : List Echo := []
  hist : List Nat := List.replicate 32 0
  pairs : List (Nat × Nat) := []
  abort : Bool := false
  deriving DecidableEq, Repr

/-- The last session's figures of a channel (R381). -/
structure Quality where
  resInl : Nat := 0
  resSkew : Nat := 0
  outcome : Nat := 0
  skewShort : Bool := false
  trimLimit : Nat := 0
  /-- Frames since the last DONE session, none before the first. -/
  since : Option Nat := none
  deriving DecidableEq, Repr

/-- What CAL saves to the NVS calibration area (R380). -/
structure CalCopy where
  sets : Tab CalSet := []
  props : Tab (List Nat) := []
  ofs : List Int := []
  deriving DecidableEq, Repr

/-- CAL beside its registers (spec/13_calibration.md). -/
structure CalState where
  /-- Correction sets: key 5 × channel + point, TIM0 and TIM1 as channels 528 and 529 (R363). -/
  sets : Tab CalSet := []
  /-- Trims that each channel's last session proposed. -/
  props : Tab (List Nat) := []
  /-- T_cal of each bank, 33 for the TIM folio, in 1/16 °C (R364). -/
  tcal : Tab (Option Int) := []
  /-- Banks (33 for the TIM folio) that run on interpolated values (R367). -/
  live : List Nat := []
  sessions : List Session := []
  timSessions : List Session := []
  quality : Tab Quality := []
  /-- Channels that the loaded Ruhal table covers, 0 without one (R368). -/
  ruhalNch : Nat := 0
  /-- Breakdown models of the sections, mV at P0 to P4 (R363); none where no set is valid (R113). -/
  vbd : Tab (List Int) := []
  passFrames : Nat := 0
  passInl : Nat := 0
  passSkew : Nat := 0
  /-- String-skew measurement: shots left, index of the next shot, sums and counts by string (R378). -/
  strskArmed : Bool := false
  strskLeft : Nat := 0
  strskNext : Nat := 0
  strskSum : Tab Int := []
  strskN : Tab Nat := []
  tim0Pair : Option Nat := none
  changed : Bool := false
  /-- The saved copy has been loaded since CAL's last reset (R380). -/
  loaded : Bool := false
  /-- Channels brought into service by a repair, picked before all others (R376). -/
  priority : List Nat := []
  deriving DecidableEq, Repr

/-- A fault or a fire report on its way to SAF (R411). -/
inductive Post where
  | faultSafety (page : Nat)
  | fireReport (fire pw pulses authPw authPulses : Nat) (noRef tokened nominal : Bool)
  deriving DecidableEq, Repr

/-- SAF beside its registers (spec/15_safety.md). -/
structure SafState where
  posts : List Post := []
  /-- Drive sums: sixteen buckets of each string, current bucket first, and the buckets that have ended since the last SHOT_OPEN
  (R405). -/
  w1 : Tab (List Nat) := []
  w2 : Tab (List Nat) := []
  since1 : Nat := 0
  since2 : Nat := 0
  withheld : Nat := 0
  norefRun : Nat := 0
  rawA : Bool := false
  rawB : Bool := true
  rawFb : Bool := false
  disagree : Bool := false
  discLatched : Nat := 0
  contactorWait : Bool := false
  contactorDiff : Bool := false
  /-- Entry to OPERATIONAL waits for the confirmations of R65, and a request has asked for it (R401). -/
  entering : Bool := false
  asked : Bool := false
  autoLeft : Bool := true
  autoTried : Bool := false
  recoverFrames : Nat := 0
  degradedInFrame : Bool := false
  pairArmed : Bool := false
  testsPassed : Bool := false
  /-- A colophon accepted for storing, with the PROX_FAILSAFE value in force at the write (R424). -/
  confirm : Option (Word × Bool) := none
  /-- A commit has applied in SAF since the COLD reset (R419). -/
  committed : Bool := false
  failsafeKnown : Bool := false
  /-- The safety record has been read since the COLD reset (R419). -/
  recordLoaded : Bool := false
  /-- DEG_CAUSE bits that the last closed frame sets (R413 bits 34 and 35). -/
  frameCauses : Nat := 0
  /-- HOLD of a feed switch-over, and trips met in the gap (R420). -/
  gapTrips : Nat := 0
  /-- Latching trips since the last life-record entry (R511). -/
  lifeTrips : Nat := 0
  oscLost : Bool := false
  /-- SCN has accepted a restart since SCAN_IMPLAUSIBLE set (R409). -/
  scnRestarted : Bool := false
  deriving DecidableEq, Repr

/-- LMP beside its registers (spec/16_lamp_driver.md). -/
structure LmpState where
  /-- Accumulator and computed lit state of each lamp (R432). -/
  acc : Tab Nat := []
  lit : Tab Bool := []
  /-- Strings whose TARGET word was written since the last tick, and the fades that run: start level and ticks (R433). -/
  asked : List Nat := []
  fading : List Nat := []
  fadeFrom : Tab Nat := []
  fadeTicks : Tab Nat := []
  image : Option (List Nat) := none
  stagedImage : Option (List Nat) := none
  /-- The next tick's time since the last sync edge in housekeeping cycles, none before the first edge (R438). -/
  sinceEdge : Option Nat := none
  /-- The derating level received from THM (R390). -/
  level : Nat := 2
  deriving DecidableEq, Repr

/-- A turn that PWR has still to run: the domain, whether it is switched on, and whether a command asked for it (R454, R457). -/
structure Turn where
  domain : Nat := 0
  on : Bool := false
  command : Bool := false
  deriving DecidableEq, Repr

/-- What a crossing into the sentinel domain, or a boundary there, keeps until a feed switch-over's gap ends (R446, R447). -/
inductive Held where
  /-- A register write to a sentinel folio: path, page, offset and value. -/
  | write (path : Path) (page off value : Nat)
  /-- SCN's state and stop cause (R329). -/
  | mirror (state cause : Nat)
  /-- A folio's staged copy, past its boundary. -/
  | apply (page : Nat)
  /-- A frame boundary at SAF (R407, R414). -/
  | boundary
  /-- The window close that opens a proximity collection: the shot's SEQ, and whether it is its frame's last (R234, R447). -/
  | collect (seq : Word) (last : Bool)
  /-- The PLL of a clock domain has lost lock (R468). -/
  | unlock (domain : Nat)
  /-- A reset source asserts: its code, detail and kind, reach, pages and target; or deasserts. -/
  | source (code detail : Nat) (pulse : Bool) (reach : Nat) (pages : List Nat) (target : Option Nat)
  | sourceEnds (code detail : Nat)
  deriving DecidableEq, Repr

/-- PWR beside its registers (spec/17_power_feeds_and_domains.md). -/
structure PwrState where
  /-- Turns still to run, in order. -/
  turns : List Turn := []
  /-- The command in progress is a PARK (R459), and whether one of its domains has failed (R454). -/
  parking : Bool := false
  failed : Bool := false
  /-- HOLD is asserted (R445); the switch-over under way leads back to the primary. -/
  hold : Bool := false
  back : Bool := false
  /-- What waits for the gap's end, in order of arrival. -/
  held : List Held := []
  /-- Switch-overs since the COLD reset, up to four, and no return is made after FLAP (R448). -/
  recent : Nat := 0
  flapped : Bool := false
  /-- Switch-overs since the last life-record entry (R511). -/
  lifeSwitches : Nat := 0
  deriving DecidableEq, Repr

/-- A reset source that is asserted (R471): its code, its detail (HOLD slot, clock domain), and whether it is a pulse. -/
structure Source where
  code : Nat := 0
  detail : Nat := 0
  pulse : Bool := false
  deriving DecidableEq, Repr

/-- One reset episode (R474): its coverage, its reach (0 COLD, 1 SYSTEM, 2 SUBTREE), the sources still asserted, its first
eight assertions (when, as the count of assertions, and code) and their number, the folios on which it has still to take effect (R477), and what its ledger
entry keeps (R476). -/
structure Episode where
  pages : List Nat := []
  reach : Nat := 2
  sources : List Source := []
  causes : List (Nat × Nat) := []
  ncause : Nat := 0
  toApply : List Nat := []
  slots : List Nat := []
  accession : Word := 0
  target : Option Nat := none
  nvsWait : Bool := false
  deriving DecidableEq, Repr

/-- An entry of the reset ledger (R476). -/
structure LedgerEntry where
  episode : Nat := 0
  reach : Nat := 0
  pendingClk : Bool := false
  clkTmo : Bool := false
  nvsWait : Bool := false
  ncause : Nat := 0
  causes : List Nat := []
  accession : Word := 0
  duration : Nat := 0
  target : Nat := 0xFFFF
  deriving DecidableEq, Repr

/-- A release that is due (R481 to R483): the folio, the EPISODE of the ledger entry it belongs to, the HOLD slots concerned,
and whether it waits for a clock. -/
structure Due where
  page : Nat := 0
  episode : Option Nat := none
  slots : List Nat := []
  waits : Bool := false
  deriving DecidableEq, Repr

/-- RST beside its registers (spec/18_reset_and_clocks.md). -/
structure RstState where
  /-- Folio pages held in reset. -/
  held : List Nat := List.range 183
  /-- Open episodes, oldest first. -/
  episodes : List Episode := []
  /-- Ledger entries, newest first, at most 16 (R476). -/
  ledger : List LedgerEntry := []
  due : List Due := []
  /-- Assertions so far (the order of R476). -/
  asserts : Nat := 0
  /-- A COLD episode has ended and the sentinel logic is still to be released (R480 step 2), or REF_GOOD is still to come
  (step 3), with its EPISODE. -/
  coldWait : Option Nat := none
  refWait : Option Nat := none
  /-- The EPISODE whose SYSTEM sequence PWR's turns run (R481). -/
  sequence : Option Nat := none
  /-- BOOTSEL, CLKSEL and SAFEMODE pin levels, sampled at step 1 of a COLD release (R484). -/
  strapPins : BitVec 6 := 0
  deriving DecidableEq, Repr

/-- What SEC recorded of the volume verified for an engine (R495). -/
structure SecRecord where
  hash : List Byte := []
  volId : Nat := 0
  volVer : Nat := 0
  secVer : Nat := 0
  deriving DecidableEq, Repr

/-- SEC beside its registers (spec/19_security_and_storage.md). -/
structure SecState where
  /-- The command in progress: its code and DEST. -/
  command : Option (Nat × Nat) := none
  /-- The body of ATTEST as of its start, up to the index (R504). -/
  body : List Byte := []
  /-- A reset of HCP has come while the command ran (R503). -/
  sourceLost : Bool := false
  /-- The output window. -/
  out : List Byte := []
  records : Tab SecRecord := []
  /-- PAYLOAD_HASH and SEC_VER of the running host volume. -/
  hostHash : List Byte := []
  hostSecVer : Nat := 0
  deriving DecidableEq, Repr

/-- An entry of the life record (R511): 64 engine numbers and the fenced engines. -/
structure LifeEntry where
  seq : Nat := 0
  minutes : Nat := 0
  colds : Nat := 0
  switches : Nat := 0
  trips : Nat := 0
  map : List Nat := []
  fenced : List Nat := []
  deriving DecidableEq, Repr

/-- The security record (R505, R508): NEXT, the MIN_SEC_VER of each TYPE, the slots that hold a key and the revoked ones as
masks, and whether both copies are unreadable (R506; no row of the table brings that about). -/
structure SecurityRecord where
  next : Nat := 0
  minHost : Nat := 0
  minEngine : Nat := 0
  enrolled : Nat := 0
  revoked : Nat := 0
  lost : Bool := false
  deriving DecidableEq, Repr

/-- NVS beside its registers (R508 to R511): what the MRAM and the flash hold, and the writes under way. -/
structure NvsState where
  /-- CAL's last saved copy (R380). -/
  calCopy : Option CalCopy := none
  /-- The byte-addressed areas of the MRAM; the units' own records stand in the fields below (log 4). -/
  mram : Mem := []
  /-- Words to be written, oldest first: word address and value; the first is being written while `pulse` (R509). -/
  queue : List (Nat × DWord) := []
  pulse : Bool := false
  flash : Mem := []
  /-- The flash answers in 8D-8D-8D mode (R500). -/
  flash8d : Bool := false
  /-- Life-record entries, newest first, at most 256, and what the next one has to tell: a COLD release, a handover or an
  UNFENCE, minutes whose write was refused. -/
  life : List LifeEntry := []
  coldPending : Bool := false
  lifePending : Bool := false
  owed : Nat := 0
  /-- The safety record and its copy (R424). -/
  safetyRecord : Option (Word × Bool) := none
  safetyCopy : Option (Word × Bool) := none
  security : SecurityRecord := {}
  deriving DecidableEq, Repr

/-- The host core's side: its memory, the staging window and Carrel (spec/20_monitor_and_test.md). -/
structure MonState where
  mem : Mem := []
  /-- The staging window, by its offset from 0x7000_0000 (R522). -/
  staging : Mem := []
  /-- The host core runs a verified volume, or the recovery monitor (R500). -/
  running : Bool := false
  recovery : Bool := false
  /-- The line so far, whether it is longer than 128 characters, and the characters that wait while a line is answered (R517). -/
  line : List Byte := []
  lineLong : Bool := false
  rx : List Byte := []
  busy : Bool := false
  /-- The lines that the last command sent on MON_TX, in order. -/
  output : List String := []
  /-- The loaded volume, and a transfer that still waits for bytes (R522). -/
  volume : Option (List Byte) := none
  receiving : Bool := false
  /-- A `snap` waits for SNAP_DONE (R520). -/
  snapWait : Bool := false
  challenge : Option (List Byte) := none
  /-- The traced folios, INT_RAW of each at the last poll, the lines that wait, and the entries dropped (R521). -/
  trace : Option (List Nat) := none
  traceLast : Tab Nat := []
  traceBuf : List String := []
  traceLost : Nat := 0
  /-- Transfers that the I2C controller has reported as failed (R555). -/
  i2cFailed : Nat := 0
  deriving DecidableEq, Repr

/-- The SPI target's last answer (R552): the response bytes, none while the frame is abandoned or lost. -/
structure SpiState where
  response : List Byte := []
  abandoned : Bool := false
  deriving DecidableEq, Repr

/-- The test access port (R529): the instruction, the cells that EXTEST drives, and what the cells captured last. One cell per
covered pin in the order of the pin table of R539, each bidirectional pin followed by its control cell (log 36). -/
structure JtagState where
  instr : Nat := 15
  cells : BitVec 79 := 0
  captured : BitVec 79 := 0
  deriving DecidableEq, Repr

/-- Pins that a unit drives or that the board drives, where no register holds their level. -/
structure Pins where
  /-- The strings whose EG output fires in the burst under way, the shunt frames and the lamp frames as last sent by string. -/
  eg : Nat := 0
  sf : Tab Nat := []
  lsf : Tab Nat := []
  lg : Nat := 0
  htrPwm : Nat := 0
  /-- PROX_N: none while high-impedance (R419), else asserted or not. -/
  proxN : Option Bool := none
  resetN : Bool := true
  deriving DecidableEq, Repr

/-- The snapshot copy (R58): every unit as it stood at the captured boundary. A read with VIEW 0b10 shows only the
words and fields that R58 names (R59); the rest of the copy is not observable. -/
structure Snapshot where
  regs : Regs := {}
  cat : CatState := {}
  acq : AcqState := {}
  emt : EmtState := {}
  det : DetState := {}
  engines : Tab Engine := []
  prox : ProxState := {}
  pca : PcaState := {}
  lnk : LinkState := {}
  scn : ScnState := {}
  sense : SenseState := {}
  thm : ThmState := {}
  cal : CalState := {}
  saf : SafState := {}
  lmp : LmpState := {}
  pwr : PwrState := {}
  rst : RstState := {}
  sec : SecState := {}
  nvs : NvsState := {}
  mon : MonState := {}
  /-- The count of free values at the capture, from which the copy's open figures read. -/
  free : Nat := 0
  deriving DecidableEq, Repr

/-- The OAW-6480. -/
structure State where
  regs : Regs := {}
  snap : Snapshot := {}
  bus : BusAnswer := {}
  cat : CatState := {}
  /-- Held in the sentinel domain (R55, R208): the last accession number used, the engine map, the fenced engines. -/
  lastAccession : Option Word := none
  acq : AcqState := {}
  stackMem : Mem := []
  emt : EmtState := {}
  det : DetState := {}
  engines : Tab Engine := []
  prox : ProxState := {}
  pca : PcaState := {}
  lnk : LinkState := {}
  scn : ScnState := {}
  sense : SenseState := {}
  thm : ThmState := {}
  cal : CalState := {}
  saf : SafState := {}
  lmp : LmpState := {}
  pwr : PwrState := {}
  rst : RstState := {}
  sec : SecState := {}
  nvs : NvsState := {}
  mon : MonState := {}
  spi : SpiState := {}
  jtag : JtagState := {}
  pins : Pins := {}
  /-- The model's own field: how many free values have been drawn (Config.freeNat). -/
  free : Nat := 0
  /-- Commands waiting, first in, first out. -/
  pending : List Instr := []
  deriving DecidableEq, Repr

/-- The machine right after reset: the sentinel rail has just risen above its power-on threshold. Every register holds its
reset value, every folio but those of the Sentinel domain is unpowered, every folio is held in reset, every queue is empty.
No rail-good bit is set yet (R442), so BROWNOUT_RAIL still holds the COLD episode that POWER_ON opened (R471, R474; log 3 and
6 say what of this the spec leaves to the model). -/
def State.reset : State :=
  { rst := {
      asserts := 2
      episodes := [{
        pages := List.range 183, reach := 0, sources := [{ code := 2 }], causes := [(0, 0), (1, 2)], ncause := 2 }] } }

end Sys2Proof.Machine
end

