-- ==== Sys2Proof/Machine/Store.lean ====
section
/-! DEFINITION. The sparse tables (registers, per-instance state, memories) and their reads and writes. A write keeps
the canonical form: keys strictly rising, nothing listed that equals what an unlisted key reads as. -/
namespace Sys2Proof.Machine
open Sys2Proof

/-! ### Tables -/

/-- What a table holds at `k`; `d` where nothing is listed. -/
def Tab.get {α : Type} (d : α) : Tab α → Nat → α
  | [], _ => d
  | (k', v) :: t, k => if k = k' then v else Tab.get d t k

/-- A table without its entry at `k`. -/
def Tab.drop {α : Type} (t : Tab α) (k : Nat) : Tab α := t.filter fun e => e.1 != k

/-- Insert an entry at its place in the order of the keys. -/
def Tab.ins {α : Type} (k : Nat) (v : α) : Tab α → Tab α
  | [] => [(k, v)]
  | (k', v') :: t => if k < k' then (k, v) :: (k', v') :: t else (k', v') :: Tab.ins k v t

/-- Write `v` at `k`; writing the default unlists the entry. -/
def Tab.set {α : Type} [DecidableEq α] (d : α) (t : Tab α) (k : Nat) (v : α) : Tab α :=
  if v = d then Tab.drop t k else Tab.ins k v (Tab.drop t k)

/-- Change every listed value; one that becomes the default is unlisted. -/
def Tab.mapV {α : Type} [DecidableEq α] (d : α) (f : α → α) (t : Tab α) : Tab α :=
  (t.map fun e => (e.1, f e.2)).filter fun e => e.2 != d

/-- Unlist every key that satisfies `p`. -/
def Tab.clear {α : Type} (t : Tab α) (p : Nat → Bool) : Tab α := t.filter fun e => !p e.1

/-- The keys rise strictly and no value is the default. -/
def Tab.wf {α : Type} [DecidableEq α] (d : α) (t : Tab α) : Bool :=
  (t.map (·.1)).Pairwise (· < ·) && t.all fun e => e.2 != d

/-! ### Memories -/

/-- One byte of a memory. -/
def Mem.read (m : Mem) (a : Nat) : Byte := Tab.get 0 m a

/-- The listed cells of a run of bytes from address `a`. -/
def Mem.cells : Nat → List Byte → Mem
  | _, [] => []
  | a, b :: bs => if b = 0 then Mem.cells (a + 1) bs else (a, b) :: Mem.cells (a + 1) bs

/-- Write a run of bytes from address `a` on. -/
def Mem.write (m : Mem) (a : Nat) (bs : List Byte) : Mem :=
  (m.filter fun e => e.1 < a) ++ Mem.cells a bs ++ m.filter fun e => a + bs.length ≤ e.1

/-- Clear `n` bytes from address `a` on. -/
def Mem.wipe (m : Mem) (a n : Nat) : Mem :=
  (m.filter fun e => e.1 < a) ++ m.filter fun e => a + n ≤ e.1

/-- A memory's canonical form: addresses strictly rising, no byte equal to the 0 that an unlisted address reads as. -/
abbrev Mem.wf (m : Mem) : Prop := (m.map (·.1)).Pairwise (· < ·) ∧ ∀ e ∈ m, e.2 ≠ 0

/-- `n` bytes from address `a` on. -/
def Mem.bytes (m : Mem) (a n : Nat) : List Byte := (List.range n).map fun i => m.read (a + i)

/-- Bytes, least significant first, of a number. -/
def leBytes : Nat → Nat → List Byte
  | 0, _ => []
  | n + 1, v => BitVec.ofNat 8 v :: leBytes n (v / 256)

/-- The number that bytes, least significant first, spell. -/
def ofLeBytes : List Byte → Nat
  | [] => 0
  | b :: bs => b.toNat + 256 * ofLeBytes bs

/-- A little-endian number of `n` bytes at address `a`. -/
def Mem.le (m : Mem) (a n : Nat) : Nat := ofLeBytes (m.bytes a n)

/-- Write a little-endian number of `n` bytes at address `a`. -/
def Mem.setLe (m : Mem) (a n v : Nat) : Mem := m.write a (leBytes n v)

/-! ### Register fields -/

/-- A register field: its key in the store, its width, its reset value. -/
structure Fld where
  key : Nat
  width : Nat
  reset : Nat
  deriving DecidableEq, Repr

/-- The access codes of R10. -/
inductive Acc where
  | rw | rws | rwl | rwh | ro | w1c | wo
  deriving DecidableEq, Repr

/-- A row of a folio's register table: its first element's bit, how many elements at what bit stride, their width,
access code, reset value and permitted values. -/
structure Row where
  bit : Nat
  n : Nat
  stride : Nat
  width : Nat
  acc : Acc
  reset : Nat → Nat
  ok : Nat → Bool

/-- Bits of one folio in the store's key space. -/
def pageBits : Nat := 32768

/-- A field of folio page `page`, its first bit counted from the folio's base. -/
def fld (page bit width reset : Nat) : Fld := ⟨page * pageBits + bit, width, reset⟩

/-- What a store holds for a field. -/
def Store.rd (st : Store) (f : Fld) : Nat := Tab.get f.reset st f.key

/-- Put a value into a store's field, cut to the field's width. -/
def Store.wr (st : Store) (f : Fld) (v : Nat) : Store := Tab.set f.reset st f.key (v % 2 ^ f.width)

/-- The acting value of a field. -/
def State.rd (s : State) (f : Fld) : Nat := s.regs.cur.rd f

/-- The value last written to an RWS, RWL or RWH field. -/
def State.rdS (s : State) (f : Fld) : Nat := s.regs.shadow.rd f

/-- The staged copy of an RWS field. -/
def State.rdT (s : State) (f : Fld) : Nat := s.regs.staged.rd f

/-- The acting value of a signed field. -/
def State.rdI (s : State) (f : Fld) : Int := toSigned f.width (s.rd f)

/-- The staged copy of a signed field. -/
def State.rdTI (s : State) (f : Fld) : Int := toSigned f.width (s.rdT f)

/-- The acting value of a one-bit field. -/
def State.on (s : State) (f : Fld) : Bool := s.rd f != 0

/-- Set the acting value of a field. -/
def State.wr (s : State) (f : Fld) (v : Nat) : State := { s with regs.cur := s.regs.cur.wr f v }

/-- Set the acting value of a signed field. -/
def State.wrI (s : State) (f : Fld) (v : Int) : State := s.wr f (ofSigned f.width v)

/-- Set the value last written to a field. -/
def State.wrS (s : State) (f : Fld) (v : Nat) : State := { s with regs.shadow := s.regs.shadow.wr f v }

/-- Set a one-bit field. -/
def State.put (s : State) (f : Fld) (b : Bool) : State := s.wr f (b2n b)

/-- Count up, saturating at the field's width. -/
def State.count (s : State) (f : Fld) (d : Nat) : State := s.wr f (satAdd (s.rd f) d f.width)

/-- Count up, wrapping at the field's width. -/
def State.wrap (s : State) (f : Fld) (d : Nat) : State := s.wr f (s.rd f + d)

end Sys2Proof.Machine
end

