-- ==== Sys2Proof/Machine/Hash.lean ====
section
/-! DEFINITION. The device's hash SHAKE256 (R3: FIPS 202; PRESUMED log 11: the spec names the standard and does not
repeat it), the CRC-8 of R271 and R552, the CRC-32 of R273, and the device identity of R489. -/
namespace Sys2Proof.Machine
open Sys2Proof

/-! ### SHAKE256 -/

/-- Rotate a lane of 64 bits to the left by less than 64. -/
def turn (v n : Nat) : Nat := v * 2 ^ n % 2 ^ 64 + v / 2 ^ (64 - n)

/-- A lane of the state by its coordinates, modulo 5: lane x + 5y of the list. -/
def laneAt (a : List Nat) (x y : Nat) : Nat := a.getD (x % 5 + y % 5 * 5) 0

/-- A state from its lanes by coordinates. -/
def fromLanes (f : Nat → Nat → Nat) : List Nat := (List.range 25).map fun i => f (i % 5) (i / 5)

/-- The 24 lanes that ρ turns, in its order: from (1, 0), each step leads from (x, y) to (y, 2x + 3y). -/
def turnOrder : Nat → Nat → Nat → List Nat
  | 0, _, _ => []
  | n + 1, x, y => (x + 5 * y) :: turnOrder n y ((2 * x + 3 * y) % 5)

/-- How far ρ turns each lane: the triangular numbers in its order, and lane 0 not at all. -/
def turns : List Nat :=
  (List.range 25).map fun i => if i = 0 then 0 else
    let t := (turnOrder 24 1 0).idxOf i + 1
    t * (t + 1) / 2 % 64

/-- θ: each lane takes in the parities of two columns. -/
def mixColumns (a : List Nat) : List Nat :=
  let parity := (List.range 5).map fun x => (List.range 5).foldl (fun v y => v ^^^ laneAt a x y) 0
  fromLanes fun x y => laneAt a x y ^^^ (laneAt parity (x + 4) 0 ^^^ turn (laneAt parity (x + 1) 0) 1)

/-- ρ and π: lane (x, y) of the result is lane (x + 3y, x), turned. -/
def moveLanes (a : List Nat) : List Nat := fromLanes fun x y => turn (laneAt a (x + 3 * y) x) (laneAt turns (x + 3 * y) x)

/-- χ: in each row a lane changes where the next is 0 and the one after it 1. -/
def mixRows (a : List Nat) : List Nat :=
  fromLanes fun x y => laneAt a x y ^^^ (laneAt a (x + 2) y ^^^ (laneAt a (x + 2) y &&& laneAt a (x + 1) y))

/-- The shift register that ι's constants come from: x^8 + x^6 + x^5 + x^4 + 1. -/
def registerStep (r : Nat) : Nat := if 128 ≤ r then 2 * r ^^^ 0x171 else 2 * r

/-- One round's constant, bit 2^j − 1 from the j-th of seven steps, and the register after them. -/
def roundConstant (r : Nat) : Nat × Nat :=
  (List.range 7).foldl (fun (e : Nat × Nat) j => (e.1 + e.2 % 2 * 2 ^ (2 ^ j - 1), registerStep e.2)) (0, r)

/-- Rounds of the permutation from a state of the shift register on. -/
def rounds : Nat → Nat → List Nat → List Nat
  | 0, _, a => a
  | n + 1, r, a =>
    let k := roundConstant r
    rounds n k.2 ((mixRows (moveLanes (mixColumns a))).modify 0 (· ^^^ k.1))

/-- The permutation of the 25 lanes: 24 rounds. -/
def keccakF (a : List Nat) : List Nat := rounds 24 1 a

/-- The lanes of a block of bytes, 8 bytes each, least significant first. -/
def lanesOf : Nat → List Byte → List Nat
  | 0, _ => []
  | n + 1, bs => ofLeBytes (bs.take 8) :: lanesOf n (bs.drop 8)

/-- Absorb whole blocks of 136 bytes. -/
def absorb : Nat → List Nat → List Byte → List Nat
  | 0, a, _ => a
  | n + 1, a, bs =>
    absorb n (keccakF (List.zipWith (· ^^^ ·) a (lanesOf 17 bs ++ List.replicate 8 0))) (bs.drop 136)

/-- The message with SHAKE256's domain bits and padding, a whole number of blocks. -/
def shakePad (m : List Byte) : List Byte :=
  let r := m.length % 136
  if r = 135 then m ++ [0x9F] else m ++ [0x1F] ++ List.replicate (134 - r) 0 ++ [0x80]

/-- Squeeze `n` blocks of 136 bytes. -/
def squeeze : Nat → List Nat → List Byte
  | 0, _ => []
  | n + 1, a => ((a.take 17).flatMap (leBytes 8)) ++ squeeze n (keccakF a)

/-- The first `n` bytes of SHAKE256 over a message. -/
def shake256 (m : List Byte) (n : Nat) : List Byte :=
  (squeeze (n / 136 + 1) (absorb (m.length / 136 + 1) (List.replicate 25 0) (shakePad m))).take n

/-! ### CRCs -/

/-- One step of the CRC-8 (x^8 + x^2 + x + 1), most significant bit first. -/
def crc8Bit (c : Nat) (b : Bool) : Nat :=
  let top := bit c 7 != b
  let c' := c * 2 % 256
  if top then c' ^^^ 7 else c'

/-- The bits of a byte, most significant first. -/
def bitsMsb (b : Byte) : List Bool := [b.getLsbD 7, b.getLsbD 6, b.getLsbD 5, b.getLsbD 4, b.getLsbD 3, b.getLsbD 2, b.getLsbD 1, b.getLsbD 0]

/-- The CRC of an SPI frame: each byte most significant bit first (R552). -/
def crc8Spi (bs : List Byte) : Nat := (bs.flatMap bitsMsb).foldl crc8Bit 0

/-- The CRC of a control block's bits [55:0], bit 0 first (R271). -/
def crc8Block (v : Nat) : Nat := ((List.range 56).map fun i => bit v i).foldl crc8Bit 0

/-- One byte into the CRC-32 of IEEE 802.3, reflected (R273). -/
def crc32Byte (c : Nat) (b : Byte) : Nat :=
  (List.range 8).foldl (fun c _ => if c % 2 = 1 then (c / 2) ^^^ 0xEDB88320 else c / 2) (c ^^^ b.toNat)

/-- The CRC-32 over bytes in sending order (R273). -/
def crc32 (bs : List Byte) : Nat := (bs.foldl crc32Byte 0xFFFFFFFF) ^^^ 0xFFFFFFFF

/-! ### The device identity -/

/-- The public key, 68 bytes (R489). -/
def publicKey : List Byte := (List.range 68).map Config.publicKey

/-- The Hjelon root public key, 68 bytes (R490). -/
def rootKey : List Byte := (List.range 68).map Config.rootKey

/-- DEVICE_ID: the first 32 bytes of SHAKE256 over the public key (R489). -/
def deviceId : List Byte := shake256 publicKey 32

end Sys2Proof.Machine
end

