-- ==== Sys2Proof/Machine/RegMapA.lean ====
section
/-! DEFINITION. The register map, from the register tables of spec/: one definition per field under the name the
tables give it (ST_, INT_ and FAULT_ mark bits of STATUS, INT_RAW and FAULT), and one row list per folio type for the
generic access of R10 to R13. Bit numbers count from the folio's base: 8 × offset + lowest bit. -/
namespace Sys2Proof.Machine
open Sys2Proof

/-! ### Fields of the catalogue (R44) -/
def CAT.SNAP : Fld := fld (0) 514 1 0
def CAT.ABORT : Fld := fld (0) 513 1 0
def CAT.COMMIT : Fld := fld (0) 512 1 0
def CAT.CHECKING : Fld := fld (0) 575 1 0
def CAT.CAT_STAGED : Fld := fld (0) 574 1 0
def CAT.SNAP_BUSY : Fld := fld (0) 573 1 0
def CAT.SNAP_VALID : Fld := fld (0) 572 1 0
def CAT.REFUSE_CAUSE : Fld := fld (0) 568 4 0
def CAT.SNAP_MERGED : Fld := fld (0) 544 16 0
def CAT.GEN_ACTIVE : Fld := fld (0) 576 32 0
def CAT.GEN_STAGED : Fld := fld (0) 608 32 0
def CAT.ACCESSION : Fld := fld (0) 640 32 0
def CAT.SNAP_ACCESSION : Fld := fld (0) 704 32 0
def CAT.SNAP_SHOT : Fld := fld (0) 736 12 0
def CAT.PART : Fld := fld (0) 784 16 25728
def CAT.STEPPING : Fld := fld (0) 776 8 0x10
def CAT.INT_COMMIT_APPLIED : Fld := fld (0) 160 1 0
def CAT.INT_COMMIT_REFUSED : Fld := fld (0) 161 1 0
def CAT.INT_SNAP_DONE : Fld := fld (0) 162 1 0

/-- The rows of the catalogue (R44). -/
def CAT.rows : List Row :=
  [
  ⟨514, 1, 0, 1, .wo, fun _ => 0, fun _ => true⟩,
  ⟨513, 1, 0, 1, .wo, fun _ => 0, fun _ => true⟩,
  ⟨512, 1, 0, 1, .wo, fun _ => 0, fun _ => true⟩,
  ⟨575, 1, 0, 1, .ro, fun _ => 0, fun _ => true⟩,
  ⟨574, 1, 0, 1, .ro, fun _ => 0, fun _ => true⟩,
  ⟨573, 1, 0, 1, .ro, fun _ => 0, fun _ => true⟩,
  ⟨572, 1, 0, 1, .ro, fun _ => 0, fun _ => true⟩,
  ⟨568, 1, 0, 4, .ro, fun _ => 0, fun _ => true⟩,
  ⟨544, 1, 0, 16, .ro, fun _ => 0, fun _ => true⟩,
  ⟨576, 1, 0, 32, .ro, fun _ => 0, fun _ => true⟩,
  ⟨608, 1, 0, 32, .ro, fun _ => 0, fun _ => true⟩,
  ⟨640, 1, 0, 32, .ro, fun _ => 0, fun _ => true⟩,
  ⟨704, 1, 0, 32, .ro, fun _ => 0, fun _ => true⟩,
  ⟨736, 1, 0, 12, .ro, fun _ => 0, fun _ => true⟩,
  ⟨784, 1, 0, 16, .ro, fun _ => 25728, fun _ => true⟩,
  ⟨776, 1, 0, 8, .ro, fun _ => 0x10, fun _ => true⟩,
  ⟨160, 1, 0, 1, .w1c, fun _ => 0, fun _ => true⟩,
  ⟨161, 1, 0, 1, .w1c, fun _ => 0, fun _ => true⟩,
  ⟨162, 1, 0, 1, .w1c, fun _ => 0, fun _ => true⟩]

/-! ### Fields of a DET bias section (R120, R121) -/
def DET.TRACK (i : Nat) : Fld := fld (0x26 + i) 543 1 1
def DET.TRIM_MANUAL (i : Nat) : Fld := fld (0x26 + i) 528 9 511
def DET.V_EX (i : Nat) : Fld := fld (0x26 + i) 520 8 120
def DET.AUTO_K (i : Nat) : Fld := fld (0x26 + i) 575 1 1
def DET.K_MIN (i : Nat) : Fld := fld (0x26 + i) 572 3 1
def DET.K_MAX (i : Nat) : Fld := fld (0x26 + i) 569 3 4
def DET.BG_HIGH (i : Nat) : Fld := fld (0x26 + i) 552 8 24
def DET.BG_LOW (i : Nat) : Fld := fld (0x26 + i) 544 8 6
def DET.WIN (i : Nat) : Fld := fld (0x26 + i) 604 3 2
def DET.HOLDOFF (i : Nat) : Fld := fld (0x26 + i) 596 5 8
def DET.HOT_AUTO (i : Nat) : Fld := fld (0x26 + i) 639 1 1
def DET.HOT_FACTOR (i : Nat) : Fld := fld (0x26 + i) 632 4 4
def DET.HOT_MAX (i : Nat) : Fld := fld (0x26 + i) 628 4 4
def DET.DWELL (i : Nat) : Fld := fld (0x26 + i) 664 8 100
def DET.REF_DROP (i : Nat) : Fld := fld (0x26 + i) 656 8 60
def DET.AVG_SHIFT (i : Nat) : Fld := fld (0x26 + i) 648 8 4
def DET.MAX_STEP (i : Nat) : Fld := fld (0x26 + i) 640 8 2
def DET.TRIM (i : Nat) : Fld := fld (0x26 + i) 688 9 511
def DET.VSPAD_MV (i : Nat) : Fld := fld (0x26 + i) 672 16 0
def DET.VBD_MODEL (i : Nat) : Fld := fld (0x26 + i) 720 16 0
def DET.VBD_MEAS (i : Nat) : Fld := fld (0x26 + i) 704 16 0
def DET.DRIFT (i : Nat) : Fld := fld (0x26 + i) 752 16 0
def DET.REF_CNT_A (i : Nat) : Fld := fld (0x26 + i) 784 16 0
def DET.REF_CNT_B (i : Nat) : Fld := fld (0x26 + i) 768 16 0
def DET.SCAN_CH (i : Nat) : Fld := fld (0x26 + i) 820 6 0
def DET.SCAN_SPAD (i : Nat) : Fld := fld (0x26 + i) 816 4 0
def DET.SPAD_EN (i : Nat) (j : Nat) : Fld := fld (0x26 + i) (2064 + 32 * j) 12 0xFFF
def DET.K (i : Nat) (j : Nat) : Fld := fld (0x26 + i) (2060 + 32 * j) 3 2
def DET.HOT_MASK (i : Nat) (j : Nat) : Fld := fld (0x26 + i) (4116 + 32 * j) 12 0
def DET.SPADS_ON (i : Nat) (j : Nat) : Fld := fld (0x26 + i) (4112 + 32 * j) 4 12
def DET.K_IN_FORCE (i : Nat) (j : Nat) : Fld := fld (0x26 + i) (4104 + 32 * j) 3 2
def DET.DEAD (i : Nat) (j : Nat) : Fld := fld (0x26 + i) (4098 + 32 * j) 1 0
def DET.GATE_STUCK (i : Nat) (j : Nat) : Fld := fld (0x26 + i) (4097 + 32 * j) 1 0
def DET.HOT_LIMIT (i : Nat) (j : Nat) : Fld := fld (0x26 + i) (4096 + 32 * j) 1 0
def DET.ST_TRIM_LIMIT (i : Nat) : Fld := fld (0x26 + i) 131 1 0
def DET.ST_VSPAD_OK (i : Nat) : Fld := fld (0x26 + i) 130 1 0
def DET.ST_TRACKING (i : Nat) : Fld := fld (0x26 + i) 129 1 0
def DET.ST_NO_MODEL (i : Nat) : Fld := fld (0x26 + i) 128 1 0
def DET.INT_HOT_MASKED (i : Nat) : Fld := fld (0x26 + i) 165 1 0
def DET.INT_DRIFT_WARN (i : Nat) : Fld := fld (0x26 + i) 164 1 0
def DET.INT_TRIM_LIMIT (i : Nat) : Fld := fld (0x26 + i) 163 1 0
def DET.INT_VSPAD_RANGE (i : Nat) : Fld := fld (0x26 + i) 162 1 0
def DET.INT_CH_HEALTH (i : Nat) : Fld := fld (0x26 + i) 161 1 0
def DET.INT_TRACK_REJECT (i : Nat) : Fld := fld (0x26 + i) 160 1 0
def DET.FAULT_VSPAD (i : Nat) : Fld := fld (0x26 + i) 259 1 0
def DET.FAULT_TRACK (i : Nat) : Fld := fld (0x26 + i) 258 1 0
def DET.FAULT_DRIFT (i : Nat) : Fld := fld (0x26 + i) 257 1 0
def DET.FAULT_CH_HEALTH (i : Nat) : Fld := fld (0x26 + i) 256 1 0

/-- The rows of a DET bias section (R120, R121). -/
def DET.rows : List Row :=
  [
  ⟨543, 1, 0, 1, .rws, fun _ => 1, fun _ => true⟩,
  ⟨528, 1, 0, 9, .rws, fun _ => 511, fun _ => true⟩,
  ⟨520, 1, 0, 8, .rws, fun _ => 120, fun v => 80 ≤ v && v ≤ 200⟩,
  ⟨575, 1, 0, 1, .rws, fun _ => 1, fun _ => true⟩,
  ⟨572, 1, 0, 3, .rws, fun _ => 1, fun v => 1 ≤ v && v ≤ 6⟩,
  ⟨569, 1, 0, 3, .rws, fun _ => 4, fun v => 1 ≤ v && v ≤ 6⟩,
  ⟨552, 1, 0, 8, .rws, fun _ => 24, fun v => 1 ≤ v && v ≤ 64⟩,
  ⟨544, 1, 0, 8, .rws, fun _ => 6, fun v => v ≤ 63⟩,
  ⟨604, 1, 0, 3, .rws, fun _ => 2, fun v => v ≤ 6⟩,
  ⟨596, 1, 0, 5, .rwh, fun _ => 8, fun v => 4 ≤ v && v ≤ 20⟩,
  ⟨639, 1, 0, 1, .rws, fun _ => 1, fun _ => true⟩,
  ⟨632, 1, 0, 4, .rws, fun _ => 4, fun v => 2 ≤ v⟩,
  ⟨628, 1, 0, 4, .rws, fun _ => 4, fun v => 1 ≤ v && v ≤ 12⟩,
  ⟨664, 1, 0, 8, .rws, fun _ => 100, fun v => 10 ≤ v && v ≤ 250⟩,
  ⟨656, 1, 0, 8, .rws, fun _ => 60, fun v => 20 ≤ v && v ≤ 80⟩,
  ⟨648, 1, 0, 8, .rws, fun _ => 4, fun v => 1 ≤ v && v ≤ 8⟩,
  ⟨640, 1, 0, 8, .rws, fun _ => 2, fun v => 1 ≤ v && v ≤ 8⟩,
  ⟨688, 1, 0, 9, .ro, fun _ => 511, fun _ => true⟩,
  ⟨672, 1, 0, 16, .ro, fun _ => 0, fun _ => true⟩,
  ⟨720, 1, 0, 16, .ro, fun _ => 0, fun _ => true⟩,
  ⟨704, 1, 0, 16, .ro, fun _ => 0, fun _ => true⟩,
  ⟨752, 1, 0, 16, .ro, fun _ => 0, fun _ => true⟩,
  ⟨784, 1, 0, 16, .ro, fun _ => 0, fun _ => true⟩,
  ⟨768, 1, 0, 16, .ro, fun _ => 0, fun _ => true⟩] ++
  [
  ⟨820, 1, 0, 6, .ro, fun _ => 0, fun _ => true⟩,
  ⟨816, 1, 0, 4, .ro, fun _ => 0, fun _ => true⟩,
  ⟨2064, 48, 32, 12, .rws, fun _ => 0xFFF, fun _ => true⟩,
  ⟨2060, 48, 32, 3, .rws, fun _ => 2, fun _ => true⟩,
  ⟨4116, 48, 32, 12, .w1c, fun _ => 0, fun _ => true⟩,
  ⟨4112, 48, 32, 4, .ro, fun _ => 12, fun _ => true⟩,
  ⟨4104, 48, 32, 3, .ro, fun _ => 2, fun _ => true⟩,
  ⟨4098, 48, 32, 1, .ro, fun _ => 0, fun _ => true⟩,
  ⟨4097, 48, 32, 1, .ro, fun _ => 0, fun _ => true⟩,
  ⟨4096, 48, 32, 1, .ro, fun _ => 0, fun _ => true⟩,
  ⟨131, 1, 0, 1, .ro, fun _ => 0, fun _ => true⟩,
  ⟨130, 1, 0, 1, .ro, fun _ => 0, fun _ => true⟩,
  ⟨129, 1, 0, 1, .ro, fun _ => 0, fun _ => true⟩,
  ⟨128, 1, 0, 1, .ro, fun _ => 0, fun _ => true⟩,
  ⟨165, 1, 0, 1, .w1c, fun _ => 0, fun _ => true⟩,
  ⟨164, 1, 0, 1, .w1c, fun _ => 0, fun _ => true⟩,
  ⟨163, 1, 0, 1, .w1c, fun _ => 0, fun _ => true⟩,
  ⟨162, 1, 0, 1, .w1c, fun _ => 0, fun _ => true⟩,
  ⟨161, 1, 0, 1, .w1c, fun _ => 0, fun _ => true⟩,
  ⟨160, 1, 0, 1, .w1c, fun _ => 0, fun _ => true⟩,
  ⟨259, 1, 0, 1, .w1c, fun _ => 0, fun _ => true⟩,
  ⟨258, 1, 0, 1, .w1c, fun _ => 0, fun _ => true⟩,
  ⟨257, 1, 0, 1, .w1c, fun _ => 0, fun _ => true⟩,
  ⟨256, 1, 0, 1, .w1c, fun _ => 0, fun _ => true⟩]

/-! ### Fields of a TDC bank (R140, R141) -/
def BANK.LOCK_TOL (i : Nat) : Fld := fld (0x31 + i) 536 4 4
def BANK.DLL_LOCKED (i : Nat) : Fld := fld (0x31 + i) 575 1 0
def BANK.CH_CAL (i : Nat) : Fld := fld (0x31 + i) 544 16 0
def BANK.PILEUP_SHOTS (i : Nat) : Fld := fld (0x31 + i) 592 16 0
def BANK.PILEUP_LAST (i : Nat) : Fld := fld (0x31 + i) 576 16 0
def BANK.INVALID_SHOTS (i : Nat) : Fld := fld (0x31 + i) 624 16 0
def BANK.ECC_EVENTS (i : Nat) : Fld := fld (0x31 + i) 608 16 0
def BANK.HIST_CH (i : Nat) : Fld := fld (0x31 + i) 664 4 0
def BANK.HIST_N (i : Nat) : Fld := fld (0x31 + i) 640 15 0
def BANK.OVF_LAST (i : Nat) (j : Nat) : Fld := fld (0x31 + i) (1040 + 32 * j) 12 0
def BANK.EVENTS_LAST (i : Nat) (j : Nat) : Fld := fld (0x31 + i) (1024 + 32 * j) 7 0
def BANK.TAP_DEAD (i : Nat) (j : Nat) : Fld := fld (0x31 + i) (1537 + 32 * j) 1 0
def BANK.TAP_WIDE (i : Nat) (j : Nat) : Fld := fld (0x31 + i) (1536 + 32 * j) 1 0
def BANK.SKEW (i : Nat) (j : Nat) : Fld := fld (0x31 + i) (2048 + 32 * j) 12 0
def BANK.MID (i : Nat) (j : Nat) : Fld := fld (0x31 + i) (8192 + 16 * j) 9 (16 * (j % 32) + 8)
def BANK.TAP_CFG (i : Nat) (j : Nat) : Fld := fld (0x31 + i) (16384 + 8 * j) 5 8
def BANK.TAP_HIST (i : Nat) (j : Nat) : Fld := fld (0x31 + i) (24576 + 32 * j) 32 0
def BANK.ST_DLL_LOCKED (i : Nat) : Fld := fld (0x31 + i) 129 1 0
def BANK.ST_HIST_BUSY (i : Nat) : Fld := fld (0x31 + i) 128 1 0
def BANK.INT_TAP_FAULT (i : Nat) : Fld := fld (0x31 + i) 163 1 0
def BANK.INT_PILEUP (i : Nat) : Fld := fld (0x31 + i) 162 1 0
def BANK.INT_DLL_RELOCK (i : Nat) : Fld := fld (0x31 + i) 161 1 0
def BANK.INT_DLL_UNLOCK (i : Nat) : Fld := fld (0x31 + i) 160 1 0
def BANK.FAULT_TAP (i : Nat) : Fld := fld (0x31 + i) 258 1 0
def BANK.FAULT_DLL (i : Nat) : Fld := fld (0x31 + i) 257 1 0
def BANK.FAULT_EVT_ECC (i : Nat) : Fld := fld (0x31 + i) 256 1 0

/-- The rows of a TDC bank (R140, R141). -/
def BANK.rows : List Row :=
  [
  ⟨536, 1, 0, 4, .rws, fun _ => 4, fun v => 1 ≤ v⟩,
  ⟨575, 1, 0, 1, .ro, fun _ => 0, fun _ => true⟩,
  ⟨544, 1, 0, 16, .ro, fun _ => 0, fun _ => true⟩,
  ⟨592, 1, 0, 16, .ro, fun _ => 0, fun _ => true⟩,
  ⟨576, 1, 0, 16, .ro, fun _ => 0, fun _ => true⟩,
  ⟨624, 1, 0, 16, .ro, fun _ => 0, fun _ => true⟩,
  ⟨608, 1, 0, 16, .ro, fun _ => 0, fun _ => true⟩,
  ⟨664, 1, 0, 4, .ro, fun _ => 0, fun _ => true⟩,
  ⟨640, 1, 0, 15, .ro, fun _ => 0, fun _ => true⟩,
  ⟨1040, 16, 32, 12, .ro, fun _ => 0, fun _ => true⟩,
  ⟨1024, 16, 32, 7, .ro, fun _ => 0, fun _ => true⟩,
  ⟨1537, 16, 32, 1, .ro, fun _ => 0, fun _ => true⟩,
  ⟨1536, 16, 32, 1, .ro, fun _ => 0, fun _ => true⟩,
  ⟨2048, 16, 32, 12, .ro, fun _ => 0, fun _ => true⟩,
  ⟨8192, 512, 16, 9, .ro, fun j => 16 * (j % 32) + 8, fun _ => true⟩,
  ⟨16384, 512, 8, 5, .ro, fun _ => 8, fun _ => true⟩,
  ⟨24576, 32, 32, 32, .ro, fun _ => 0, fun _ => true⟩,
  ⟨129, 1, 0, 1, .ro, fun _ => 0, fun _ => true⟩,
  ⟨128, 1, 0, 1, .ro, fun _ => 0, fun _ => true⟩,
  ⟨163, 1, 0, 1, .w1c, fun _ => 0, fun _ => true⟩,
  ⟨162, 1, 0, 1, .w1c, fun _ => 0, fun _ => true⟩,
  ⟨161, 1, 0, 1, .w1c, fun _ => 0, fun _ => true⟩,
  ⟨160, 1, 0, 1, .w1c, fun _ => 0, fun _ => true⟩,
  ⟨258, 1, 0, 1, .w1c, fun _ => 0, fun _ => true⟩] ++
  [
  ⟨257, 1, 0, 1, .w1c, fun _ => 0, fun _ => true⟩,
  ⟨256, 1, 0, 1, .w1c, fun _ => 0, fun _ => true⟩]

/-! ### Fields of the TIM folio (R142, R143) -/
def TIM.MODE (j : Nat) : Fld := fld (0x52) (542 + 512 * j) 2 (if j = 0 then 0 else 2)
def TIM.PRESC (j : Nat) : Fld := fld (0x52) (536 + 512 * j) 4 0
def TIM.EDGE (j : Nat) : Fld := fld (0x52) (535 + 512 * j) 1 0
def TIM.TIMEOUT (j : Nat) : Fld := fld (0x52) (512 + 512 * j) 16 0
def TIM.GATE (j : Nat) : Fld := fld (0x52) (544 + 512 * j) 16 1000
def TIM.FMIN (j : Nat) : Fld := fld (0x52) (576 + 512 * j) 32 0
def TIM.FMAX (j : Nat) : Fld := fld (0x52) (608 + 512 * j) 32 0x5F5E1000
def TIM.VALID (j : Nat) : Fld := fld (0x52) (671 + 512 * j) 1 0
def TIM.NO_SIGNAL (j : Nat) : Fld := fld (0x52) (670 + 512 * j) 1 0
def TIM.OUT_RANGE (j : Nat) : Fld := fld (0x52) (669 + 512 * j) 1 0
def TIM.EDGES_LAST (j : Nat) : Fld := fld (0x52) (640 + 512 * j) 5 0
def TIM.OVF_LAST (j : Nat) : Fld := fld (0x52) (672 + 512 * j) 16 0
def TIM.COUNT (j : Nat) : Fld := fld (0x52) (704 + 512 * j) 32 0
def TIM.ELAPSED (j : Nat) : Fld := fld (0x52) (736 + 512 * j) 32 0
def TIM.FREQ (j : Nat) : Fld := fld (0x52) (768 + 512 * j) 32 0
def TIM.STAMP (j : Nat) : Fld := fld (0x52) (2048 + 32 * j) 18 0
def TIM.TIM1_SKEW : Fld := fld (0x52) 3072 12 0
def TIM.MID (j : Nat) : Fld := fld (0x52) (8192 + 16 * j) 9 (16 * (j % 32) + 8)
def TIM.ST_DLL_LOCKED : Fld := fld (0x52) 129 1 0
def TIM.ST_TIM0_EMT : Fld := fld (0x52) 128 1 1
def TIM.INT_TIM1_RANGE : Fld := fld (0x52) 165 1 0
def TIM.INT_TIM1_TIMEOUT : Fld := fld (0x52) 164 1 0
def TIM.INT_TIM1_RESULT : Fld := fld (0x52) 163 1 0
def TIM.INT_TIM0_RANGE : Fld := fld (0x52) 162 1 0
def TIM.INT_TIM0_TIMEOUT : Fld := fld (0x52) 161 1 0
def TIM.INT_TIM0_RESULT : Fld := fld (0x52) 160 1 0
def TIM.FAULT_DLL : Fld := fld (0x52) 260 1 0
def TIM.FAULT_TIM1_RANGE : Fld := fld (0x52) 259 1 0
def TIM.FAULT_TIM1_TIMEOUT : Fld := fld (0x52) 258 1 0
def TIM.FAULT_TIM0_RANGE : Fld := fld (0x52) 257 1 0
def TIM.FAULT_TIM0_TIMEOUT : Fld := fld (0x52) 256 1 0

/-- The rows of the TIM folio (R142, R143). -/
def TIM.rows : List Row :=
  [
  ⟨542, 2, 512, 2, .rws, fun j => if j = 0 then 0 else 2, fun v => v ≤ 2⟩,
  ⟨536, 2, 512, 4, .rws, fun _ => 0, fun v => v ≤ 8⟩,
  ⟨535, 2, 512, 1, .rws, fun _ => 0, fun _ => true⟩,
  ⟨512, 2, 512, 16, .rws, fun _ => 0, fun _ => true⟩,
  ⟨544, 2, 512, 16, .rws, fun _ => 1000, fun v => 1 ≤ v⟩,
  ⟨576, 2, 512, 32, .rws, fun _ => 0, fun _ => true⟩,
  ⟨608, 2, 512, 32, .rws, fun _ => 0x5F5E1000, fun _ => true⟩,
  ⟨671, 2, 512, 1, .ro, fun _ => 0, fun _ => true⟩,
  ⟨670, 2, 512, 1, .ro, fun _ => 0, fun _ => true⟩,
  ⟨669, 2, 512, 1, .ro, fun _ => 0, fun _ => true⟩,
  ⟨640, 2, 512, 5, .ro, fun _ => 0, fun _ => true⟩,
  ⟨672, 2, 512, 16, .ro, fun _ => 0, fun _ => true⟩,
  ⟨704, 2, 512, 32, .ro, fun _ => 0, fun _ => true⟩,
  ⟨736, 2, 512, 32, .ro, fun _ => 0, fun _ => true⟩,
  ⟨768, 2, 512, 32, .ro, fun _ => 0, fun _ => true⟩,
  ⟨2048, 32, 32, 18, .ro, fun _ => 0, fun _ => true⟩,
  ⟨3072, 1, 0, 12, .ro, fun _ => 0, fun _ => true⟩,
  ⟨8192, 64, 16, 9, .ro, fun j => 16 * (j % 32) + 8, fun _ => true⟩,
  ⟨129, 1, 0, 1, .ro, fun _ => 0, fun _ => true⟩,
  ⟨128, 1, 0, 1, .ro, fun _ => 1, fun _ => true⟩,
  ⟨165, 1, 0, 1, .w1c, fun _ => 0, fun _ => true⟩,
  ⟨164, 1, 0, 1, .w1c, fun _ => 0, fun _ => true⟩,
  ⟨163, 1, 0, 1, .w1c, fun _ => 0, fun _ => true⟩,
  ⟨162, 1, 0, 1, .w1c, fun _ => 0, fun _ => true⟩] ++
  [
  ⟨161, 1, 0, 1, .w1c, fun _ => 0, fun _ => true⟩,
  ⟨160, 1, 0, 1, .w1c, fun _ => 0, fun _ => true⟩,
  ⟨260, 1, 0, 1, .w1c, fun _ => 0, fun _ => true⟩,
  ⟨259, 1, 0, 1, .w1c, fun _ => 0, fun _ => true⟩,
  ⟨258, 1, 0, 1, .w1c, fun _ => 0, fun _ => true⟩,
  ⟨257, 1, 0, 1, .w1c, fun _ => 0, fun _ => true⟩,
  ⟨256, 1, 0, 1, .w1c, fun _ => 0, fun _ => true⟩]

/-! ### Fields of ACQ (R119, R173, R174) -/
def ACQ.SLIDE_EN (j : Nat) : Fld := fld (9) (6159 + 16 * j) 1 0
def ACQ.SLIDE_POS (j : Nat) : Fld := fld (9) (6152 + 16 * j) 5 0
def ACQ.DROP_EN (j : Nat) : Fld := fld (9) (6151 + 16 * j) 1 0
def ACQ.DROP_POS (j : Nat) : Fld := fld (9) (6144 + 16 * j) 5 0
def ACQ.RUN : Fld := fld (9) 543 1 0
def ACQ.TRIG_EN : Fld := fld (9) 536 4 4
def ACQ.SYNC_MASTER : Fld := fld (9) 535 1 0
def ACQ.FILT : Fld := fld (9) 528 4 2
def ACQ.FSO_WIDTH : Fld := fld (9) 512 16 10
def ACQ.FRAME_PERIOD : Fld := fld (9) 544 20 40000
def ACQ.SYNC_TMO : Fld := fld (9) 576 20 45000
def ACQ.NCOL : Fld := fld (9) 624 12 2560
def ACQ.COL_PERIOD : Fld := fld (9) 608 16 10000
def ACQ.FLYBACK_MIN : Fld := fld (9) 656 16 7000
def ACQ.FRAME_DELAY : Fld := fld (9) 640 16 100
def ACQ.BINSEL : Fld := fld (9) 702 2 1
def ACQ.REDUCE : Fld := fld (9) 699 3 7
def ACQ.WIN_Q : Fld := fld (9) 672 11 1000
def ACQ.NBINS : Fld := fld (9) 704 12 2000
def ACQ.RR_CEIL : Fld := fld (9) 797 3 5
def ACQ.RR_FLOOR : Fld := fld (9) 794 3 0
def ACQ.RR_HIGH : Fld := fld (9) 788 4 12
def ACQ.RR_LOW : Fld := fld (9) 784 4 6
def ACQ.RR_RECOVER : Fld := fld (9) 776 8 25
def ACQ.RR_VFAIL : Fld := fld (9) 768 8 16
def ACQ.RR_LEVEL : Fld := fld (9) 829 3 0
def ACQ.PEAK_FILL : Fld := fld (9) 816 5 0
def ACQ.VFAIL_LAST : Fld := fld (9) 800 16 0
def ACQ.RAW_EN : Fld := fld (9) 927 1 0
def ACQ.RAW_PARTS : Fld := fld (9) 924 3 7
def ACQ.RAW_FIRST : Fld := fld (9) 914 10 0
def ACQ.RAW_COUNT : Fld := fld (9) 904 10 8
def ACQ.RAW_EVERY : Fld := fld (9) 896 8 1
def ACQ.RAW_DROPPED : Fld := fld (9) 944 16 0
def ACQ.RAW_FILL : Fld := fld (9) 928 16 0
def ACQ.LAST_CAUSE : Fld := fld (9) 1052 4 0
def ACQ.LAST_SRC : Fld := fld (9) 1050 2 0
def ACQ.TRIG_IGNORED : Fld := fld (9) 1024 16 0
def ACQ.LAST_STAMP_LO : Fld := fld (9) 1056 32 0
def ACQ.LAST_STAMP_HI : Fld := fld (9) 1088 32 0
def ACQ.TIME_LO : Fld := fld (9) 1120 32 0
def ACQ.TIME_HI : Fld := fld (9) 1152 32 0
def ACQ.SW_TRIG : Fld := fld (9) 1184 1 0
def ACQ.COLUMN : Fld := fld (9) 1236 12 0
def ACQ.ST_RR_LEVEL : Fld := fld (9) 133 3 0
def ACQ.ST_SYNC_LOST : Fld := fld (9) 132 1 0
def ACQ.ST_FALLBACK : Fld := fld (9) 131 1 0
def ACQ.ST_TRUNCATING : Fld := fld (9) 130 1 0
def ACQ.ST_ACQUIRING : Fld := fld (9) 129 1 0
def ACQ.INT_LATE_START : Fld := fld (9) 167 1 0
def ACQ.INT_RAW_DROP : Fld := fld (9) 166 1 0
def ACQ.INT_TRUNCATED : Fld := fld (9) 165 1 0
def ACQ.INT_RR_CHANGE : Fld := fld (9) 164 1 0
def ACQ.INT_SYNC_LOST : Fld := fld (9) 163 1 0
def ACQ.INT_TRIG_IGNORED : Fld := fld (9) 162 1 0
def ACQ.INT_FRAME_BOUNDARY : Fld := fld (9) 161 1 0
def ACQ.INT_FRAME_START : Fld := fld (9) 160 1 0
def ACQ.FAULT_NO_FRAMES : Fld := fld (9) 256 1 0

/-- The rows of ACQ (R119, R173, R174). -/
def ACQ.rows : List Row :=
  [
  ⟨6159, 16, 16, 1, .rws, fun _ => 0, fun _ => true⟩,
  ⟨6152, 16, 16, 5, .rws, fun _ => 0, fun _ => true⟩,
  ⟨6151, 16, 16, 1, .rws, fun _ => 0, fun _ => true⟩,
  ⟨6144, 16, 16, 5, .rws, fun _ => 0, fun _ => true⟩,
  ⟨543, 1, 0, 1, .rw, fun _ => 0, fun _ => true⟩,
  ⟨536, 1, 0, 4, .rws, fun _ => 4, fun _ => true⟩,
  ⟨535, 1, 0, 1, .rws, fun _ => 0, fun _ => true⟩,
  ⟨528, 1, 0, 4, .rws, fun _ => 2, fun v => 1 ≤ v⟩,
  ⟨512, 1, 0, 16, .rws, fun _ => 10, fun v => 1 ≤ v && v ≤ 1000⟩,
  ⟨544, 1, 0, 20, .rws, fun _ => 40000, fun v => 40000 ≤ v && v ≤ 1000000⟩,
  ⟨576, 1, 0, 20, .rws, fun _ => 45000, fun v => 41000 ≤ v && v ≤ 1000000⟩,
  ⟨624, 1, 0, 12, .rws, fun _ => 2560, fun v => 1 ≤ v && v ≤ 2560⟩,
  ⟨608, 1, 0, 16, .rws, fun _ => 10000, fun v => 10000 ≤ v⟩,
  ⟨656, 1, 0, 16, .rws, fun _ => 7000, fun _ => true⟩,
  ⟨640, 1, 0, 16, .rws, fun _ => 100, fun v => 20 ≤ v⟩,
  ⟨702, 1, 0, 2, .rws, fun _ => 1, fun v => v ≤ 2⟩,
  ⟨699, 1, 0, 3, .rws, fun _ => 7, fun _ => true⟩,
  ⟨672, 1, 0, 11, .rws, fun _ => 1000, fun v => 125 ≤ v && v ≤ 1024⟩,
  ⟨704, 1, 0, 12, .ro, fun _ => 2000, fun _ => true⟩,
  ⟨797, 1, 0, 3, .rws, fun _ => 5, fun v => v ≤ 5⟩,
  ⟨794, 1, 0, 3, .rws, fun _ => 0, fun v => v ≤ 5⟩,
  ⟨788, 1, 0, 4, .rws, fun _ => 12, fun v => 1 ≤ v && v ≤ 14⟩,
  ⟨784, 1, 0, 4, .rws, fun _ => 6, fun v => v ≤ 13⟩,
  ⟨776, 1, 0, 8, .rws, fun _ => 25, fun v => 1 ≤ v⟩] ++
  [
  ⟨768, 1, 0, 8, .rws, fun _ => 16, fun v => 1 ≤ v⟩,
  ⟨829, 1, 0, 3, .ro, fun _ => 0, fun _ => true⟩,
  ⟨816, 1, 0, 5, .ro, fun _ => 0, fun _ => true⟩,
  ⟨800, 1, 0, 16, .ro, fun _ => 0, fun _ => true⟩,
  ⟨927, 1, 0, 1, .rws, fun _ => 0, fun _ => true⟩,
  ⟨924, 1, 0, 3, .rws, fun _ => 7, fun _ => true⟩,
  ⟨914, 1, 0, 10, .rws, fun _ => 0, fun v => v ≤ 527⟩,
  ⟨904, 1, 0, 10, .rws, fun _ => 8, fun v => 1 ≤ v && v ≤ 528⟩,
  ⟨896, 1, 0, 8, .rws, fun _ => 1, fun v => 1 ≤ v⟩,
  ⟨944, 1, 0, 16, .ro, fun _ => 0, fun _ => true⟩,
  ⟨928, 1, 0, 16, .ro, fun _ => 0, fun _ => true⟩,
  ⟨1052, 1, 0, 4, .ro, fun _ => 0, fun _ => true⟩,
  ⟨1050, 1, 0, 2, .ro, fun _ => 0, fun _ => true⟩,
  ⟨1024, 1, 0, 16, .ro, fun _ => 0, fun _ => true⟩,
  ⟨1056, 1, 0, 32, .ro, fun _ => 0, fun _ => true⟩,
  ⟨1088, 1, 0, 32, .ro, fun _ => 0, fun _ => true⟩,
  ⟨1120, 1, 0, 32, .ro, fun _ => 0, fun _ => true⟩,
  ⟨1152, 1, 0, 32, .ro, fun _ => 0, fun _ => true⟩,
  ⟨1184, 1, 0, 1, .wo, fun _ => 0, fun _ => true⟩,
  ⟨1236, 1, 0, 12, .ro, fun _ => 0, fun _ => true⟩,
  ⟨133, 1, 0, 3, .ro, fun _ => 0, fun _ => true⟩,
  ⟨132, 1, 0, 1, .ro, fun _ => 0, fun _ => true⟩,
  ⟨131, 1, 0, 1, .ro, fun _ => 0, fun _ => true⟩,
  ⟨130, 1, 0, 1, .ro, fun _ => 0, fun _ => true⟩] ++
  [
  ⟨129, 1, 0, 1, .ro, fun _ => 0, fun _ => true⟩,
  ⟨167, 1, 0, 1, .w1c, fun _ => 0, fun _ => true⟩,
  ⟨166, 1, 0, 1, .w1c, fun _ => 0, fun _ => true⟩,
  ⟨165, 1, 0, 1, .w1c, fun _ => 0, fun _ => true⟩,
  ⟨164, 1, 0, 1, .w1c, fun _ => 0, fun _ => true⟩,
  ⟨163, 1, 0, 1, .w1c, fun _ => 0, fun _ => true⟩,
  ⟨162, 1, 0, 1, .w1c, fun _ => 0, fun _ => true⟩,
  ⟨161, 1, 0, 1, .w1c, fun _ => 0, fun _ => true⟩,
  ⟨160, 1, 0, 1, .w1c, fun _ => 0, fun _ => true⟩,
  ⟨256, 1, 0, 1, .w1c, fun _ => 0, fun _ => true⟩]

/-! ### Fields of a stacks bank (R175) -/
def SBANK.CE_COUNT (i : Nat) : Fld := fld (0x53 + i) 528 16 0
def SBANK.UE_COUNT (i : Nat) : Fld := fld (0x53 + i) 512 16 0
def SBANK.LAST_UE_ADDR (i : Nat) : Fld := fld (0x53 + i) 544 24 0
def SBANK.INT_UE (i : Nat) : Fld := fld (0x53 + i) 161 1 0
def SBANK.INT_CE (i : Nat) : Fld := fld (0x53 + i) 160 1 0
def SBANK.FAULT_UE (i : Nat) : Fld := fld (0x53 + i) 256 1 0

/-- The rows of a stacks bank (R175). -/
def SBANK.rows : List Row :=
  [
  ⟨528, 1, 0, 16, .ro, fun _ => 0, fun _ => true⟩,
  ⟨512, 1, 0, 16, .ro, fun _ => 0, fun _ => true⟩,
  ⟨544, 1, 0, 24, .ro, fun _ => 0, fun _ => true⟩,
  ⟨161, 1, 0, 1, .w1c, fun _ => 0, fun _ => true⟩,
  ⟨160, 1, 0, 1, .w1c, fun _ => 0, fun _ => true⟩,
  ⟨256, 1, 0, 1, .w1c, fun _ => 0, fun _ => true⟩]

/-! ### Fields of EMT (R95, R96) -/
def EMT.NPULSE_M1 : Fld := fld (0x12) 541 3 3
def EMT.PW : Fld := fld (0x12) 537 4 4
def EMT.GAP_MIN : Fld := fld (0x12) 531 6 8
def EMT.SPAN : Fld := fld (0x12) 522 9 200
def EMT.ROTATE : Fld := fld (0x12) 521 1 1
def EMT.SFCLK_SEL : Fld := fld (0x12) 520 1 0
def EMT.MPD_EN : Fld := fld (0x12) 519 1 1
def EMT.FIRE_OFFSET : Fld := fld (0x12) 556 10 400
def EMT.SHUNT_SETTLE : Fld := fld (0x12) 544 9 60
def EMT.KNEE : Fld := fld (0x12) 592 8 85
def EMT.P_TARGET : Fld := fld (0x12) 576 16 200
def EMT.CODE_SALT : Fld := fld (0x12) 624 16 0
def EMT.SEQ_LEN_M1 : Fld := fld (0x12) 608 4 0
def EMT.SEQ : Fld := fld (0x12) 640 32 0
def EMT.MPD_WINDOW : Fld := fld (0x12) 688 8 8
def EMT.MPD_TRIM : Fld := fld (0x12) 672 10 0
def EMT.EG_SKEW (j : Nat) : Fld := fld (0x12) (704 + 8 * j) 8 0
def EMT.PATTERN (j : Nat) : Fld := fld (0x12) (768 + 32 * j) 32 (if j < 4 then 0xFFFFFFFF else 0)
def EMT.DISABLE (j : Nat) : Fld := fld (0x12) (1280 + 32 * j) 32 0
def EMT.LOAD : Fld := fld (0x12) 1439 1 0
def EMT.BIN_ADDR : Fld := fld (0x12) 1408 7 80
def EMT.BINS_VALID : Fld := fld (0x12) 1471 1 0
def EMT.BINS_BAD : Fld := fld (0x12) 1470 1 0
def EMT.BAD_OFFSET : Fld := fld (0x12) 1456 8 0
def EMT.DERATE_LEVEL : Fld := fld (0x12) 1501 3 0
def EMT.CODE_FALLBACK : Fld := fld (0x12) 1500 1 0
def EMT.T0_LAST : Fld := fld (0x12) 1472 18 0
def EMT.UNFIRED_LAST : Fld := fld (0x12) 1520 16 0
def EMT.NOREF_LAST : Fld := fld (0x12) 1504 16 0
def EMT.CODE_POS (j : Nat) : Fld := fld (0x12) (1536 + 16 * j) 9 0x1FF
def EMT.STRING_CODE (j : Nat) : Fld := fld (0x12) (1664 + 8 * j) 8 16
def EMT.GAIN (j : Nat) : Fld := fld (0x12) (2048 + 8 * j) 8 255
def EMT.BIN_IMAGE (j : Nat) : Fld := fld (0x12) (4096 + 8 * j) 8 255
def EMT.ST_DERATE_LEVEL : Fld := fld (0x12) 130 3 2
def EMT.ST_CODE_FALLBACK : Fld := fld (0x12) 129 1 0
def EMT.ST_BINS_VALID : Fld := fld (0x12) 128 1 0
def EMT.INT_CODE_FALLBACK : Fld := fld (0x12) 165 1 0
def EMT.INT_DERATE_CHANGE : Fld := fld (0x12) 164 1 0
def EMT.INT_NO_REF : Fld := fld (0x12) 163 1 0
def EMT.INT_UNFIRED : Fld := fld (0x12) 162 1 0
def EMT.INT_BINS_BAD : Fld := fld (0x12) 161 1 0
def EMT.INT_BINS_LOADED : Fld := fld (0x12) 160 1 0
def EMT.FAULT_DERATE_STOP : Fld := fld (0x12) 260 1 0
def EMT.FAULT_BINS_BAD : Fld := fld (0x12) 259 1 0
def EMT.FAULT_TOKEN_TAG : Fld := fld (0x12) 258 1 0
def EMT.FAULT_MPD_EXTRA : Fld := fld (0x12) 257 1 0
def EMT.FAULT_NO_REF_RUN : Fld := fld (0x12) 256 1 0

/-- The rows of EMT (R95, R96). -/
def EMT.rows : List Row :=
  [
  ⟨541, 1, 0, 3, .rws, fun _ => 3, fun _ => true⟩,
  ⟨537, 1, 0, 4, .rws, fun _ => 4, fun v => v ≤ 12⟩,
  ⟨531, 1, 0, 6, .rws, fun _ => 8, fun v => 4 ≤ v && v ≤ 32⟩,
  ⟨522, 1, 0, 9, .rws, fun _ => 200, fun v => v ≤ 320⟩,
  ⟨521, 1, 0, 1, .rws, fun _ => 1, fun _ => true⟩,
  ⟨520, 1, 0, 1, .rws, fun _ => 0, fun _ => true⟩,
  ⟨519, 1, 0, 1, .rws, fun _ => 1, fun _ => true⟩,
  ⟨556, 1, 0, 10, .rws, fun _ => 400, fun v => 200 ≤ v && v ≤ 800⟩,
  ⟨544, 1, 0, 9, .rws, fun _ => 60, fun v => 40 ≤ v && v ≤ 400⟩,
  ⟨592, 1, 0, 8, .rws, fun _ => 85, fun v => 40 ≤ v && v ≤ 110⟩,
  ⟨576, 1, 0, 16, .rws, fun _ => 200, fun v => 1 ≤ v && v ≤ 2000⟩,
  ⟨624, 1, 0, 16, .rws, fun _ => 0, fun _ => true⟩,
  ⟨608, 1, 0, 4, .rws, fun _ => 0, fun _ => true⟩,
  ⟨640, 1, 0, 32, .rws, fun _ => 0, fun _ => true⟩,
  ⟨688, 1, 0, 8, .rws, fun _ => 8, fun v => 1 ≤ v && v ≤ 64⟩,
  ⟨672, 1, 0, 10, .rws, fun _ => 0, fun _ => true⟩,
  ⟨704, 8, 8, 8, .rws, fun _ => 0, fun v => v != 128⟩,
  ⟨768, 16, 32, 32, .rws, fun j => if j < 4 then 0xFFFFFFFF else 0, fun _ => true⟩,
  ⟨1280, 4, 32, 32, .rws, fun _ => 0, fun _ => true⟩,
  ⟨1439, 1, 0, 1, .wo, fun _ => 0, fun _ => true⟩,
  ⟨1408, 1, 0, 7, .rw, fun _ => 80, fun _ => true⟩,
  ⟨1471, 1, 0, 1, .ro, fun _ => 0, fun _ => true⟩,
  ⟨1470, 1, 0, 1, .ro, fun _ => 0, fun _ => true⟩,
  ⟨1456, 1, 0, 8, .ro, fun _ => 0, fun _ => true⟩] ++
  [
  ⟨1501, 1, 0, 3, .ro, fun _ => 0, fun _ => true⟩,
  ⟨1500, 1, 0, 1, .ro, fun _ => 0, fun _ => true⟩,
  ⟨1472, 1, 0, 18, .ro, fun _ => 0, fun _ => true⟩,
  ⟨1520, 1, 0, 16, .ro, fun _ => 0, fun _ => true⟩,
  ⟨1504, 1, 0, 16, .ro, fun _ => 0, fun _ => true⟩,
  ⟨1536, 8, 16, 9, .ro, fun _ => 0x1FF, fun _ => true⟩,
  ⟨1664, 8, 8, 8, .ro, fun _ => 16, fun _ => true⟩,
  ⟨2048, 128, 8, 8, .ro, fun _ => 255, fun _ => true⟩,
  ⟨4096, 212, 8, 8, .rwh, fun _ => 255, fun _ => true⟩,
  ⟨130, 1, 0, 3, .ro, fun _ => 2, fun _ => true⟩,
  ⟨129, 1, 0, 1, .ro, fun _ => 0, fun _ => true⟩,
  ⟨128, 1, 0, 1, .ro, fun _ => 0, fun _ => true⟩,
  ⟨165, 1, 0, 1, .w1c, fun _ => 0, fun _ => true⟩,
  ⟨164, 1, 0, 1, .w1c, fun _ => 0, fun _ => true⟩,
  ⟨163, 1, 0, 1, .w1c, fun _ => 0, fun _ => true⟩,
  ⟨162, 1, 0, 1, .w1c, fun _ => 0, fun _ => true⟩,
  ⟨161, 1, 0, 1, .w1c, fun _ => 0, fun _ => true⟩,
  ⟨160, 1, 0, 1, .w1c, fun _ => 0, fun _ => true⟩,
  ⟨260, 1, 0, 1, .w1c, fun _ => 0, fun _ => true⟩,
  ⟨259, 1, 0, 1, .w1c, fun _ => 0, fun _ => true⟩,
  ⟨258, 1, 0, 1, .w1c, fun _ => 0, fun _ => true⟩,
  ⟨257, 1, 0, 1, .w1c, fun _ => 0, fun _ => true⟩,
  ⟨256, 1, 0, 1, .w1c, fun _ => 0, fun _ => true⟩]

end Sys2Proof.Machine
end

