-- ==== Sys2Proof/Machine/RegMapB.lean ====
section
/-! DEFINITION. The register map, from the register tables of spec/: one definition per field under the name the
tables give it (ST_, INT_ and FAULT_ mark bits of STATUS, INT_RAW and FAULT), and one row list per folio type for the
generic access of R10 to R13. Bit numbers count from the folio's base: 8 × offset + lowest bit. -/
namespace Sys2Proof.Machine
open Sys2Proof

/-! ### Fields of the RE group (R212, R213) -/
def REG.REQ : Fld := fld (0xB) 543 1 0
def REG.ENGINE : Fld := fld (0xB) 528 7 0
def REG.RG : Fld := fld (0xB) 520 6 0
def REG.R_OUTCOME : Fld := fld (0xB) 606 2 0
def REG.R_RG : Fld := fld (0xB) 600 6 0
def REG.R_KIND : Fld := fld (0xB) 599 1 0
def REG.R_ENGINE : Fld := fld (0xB) 592 7 0
def REG.R_ACCESSION : Fld := fld (0xB) 576 16 0
def REG.ERR_LIMIT : Fld := fld (0xB) 616 8 4
def REG.SKIP_LIMIT : Fld := fld (0xB) 608 8 8
def REG.AVAILABLE (j : Nat) : Fld := fld (0xB) (640 + 1 * j) 1 0
def REG.FENCED (j : Nat) : Fld := fld (0xB) (736 + 1 * j) 1 0
def REG.ENGINE_OF_RG (j : Nat) : Fld := fld (0xB) (1024 + 8 * j) 7 j
def REG.PARAM (j : Nat) : Fld := fld (0xB) (2048 + 32 * j) 32 0
def REG.UREQ : Fld := fld (0xB) 575 1 0
def REG.UENGINE : Fld := fld (0xB) 560 7 0
def REG.URG : Fld := fld (0xB) 552 6 0
def REG.INT_HANDOVER_DONE : Fld := fld (0xB) 160 1 0
def REG.INT_REQ_REFUSED : Fld := fld (0xB) 161 1 0

/-- The rows of the RE group (R212, R213). -/
def REG.rows : List Row :=
  [
  ⟨543, 1, 0, 1, .rw, fun _ => 0, fun _ => true⟩,
  ⟨528, 1, 0, 7, .rw, fun _ => 0, fun v => v ≤ 71⟩,
  ⟨520, 1, 0, 6, .rw, fun _ => 0, fun _ => true⟩,
  ⟨606, 1, 0, 2, .ro, fun _ => 0, fun _ => true⟩,
  ⟨600, 1, 0, 6, .ro, fun _ => 0, fun _ => true⟩,
  ⟨599, 1, 0, 1, .ro, fun _ => 0, fun _ => true⟩,
  ⟨592, 1, 0, 7, .ro, fun _ => 0, fun _ => true⟩,
  ⟨576, 1, 0, 16, .ro, fun _ => 0, fun _ => true⟩,
  ⟨616, 1, 0, 8, .rws, fun _ => 4, fun v => 1 ≤ v⟩,
  ⟨608, 1, 0, 8, .rws, fun _ => 8, fun v => 1 ≤ v⟩,
  ⟨640, 72, 1, 1, .ro, fun _ => 0, fun _ => true⟩,
  ⟨736, 72, 1, 1, .ro, fun _ => 0, fun _ => true⟩,
  ⟨1024, 64, 8, 7, .ro, fun j => j, fun _ => true⟩,
  ⟨2048, 64, 32, 32, .rws, fun _ => 0, fun _ => true⟩,
  ⟨575, 1, 0, 1, .rw, fun _ => 0, fun _ => true⟩,
  ⟨560, 1, 0, 7, .rw, fun _ => 0, fun v => v ≤ 71⟩,
  ⟨552, 1, 0, 6, .rw, fun _ => 0, fun _ => true⟩,
  ⟨160, 1, 0, 1, .w1c, fun _ => 0, fun _ => true⟩,
  ⟨161, 1, 0, 1, .w1c, fun _ => 0, fun _ => true⟩]

/-! ### Fields of a return engine (R210, R211) -/
def RE.UNFENCE (i : Nat) : Fld := fld (0x6F + i) 543 1 0
def RE.STATE (i : Nat) : Fld := fld (0x6F + i) 528 3 1
def RE.RG_SERVED (i : Nat) : Fld := fld (0x6F + i) 520 6 0
def RE.LOAD_ADDR (i : Nat) : Fld := fld (0x6F + i) 544 32 0
def RE.LOAD_DATA (i : Nat) : Fld := fld (0x6F + i) 576 32 0
def RE.ABI_MAJOR (i : Nat) : Fld := fld (0x6F + i) 632 8 0
def RE.ABI_MINOR (i : Nat) : Fld := fld (0x6F + i) 624 8 0
def RE.REC_MAJOR (i : Nat) : Fld := fld (0x6F + i) 616 8 0
def RE.VOL_ID (i : Nat) : Fld := fld (0x6F + i) 656 16 0
def RE.VOL_VER (i : Nat) : Fld := fld (0x6F + i) 640 16 0
def RE.SHOTS_LAST (i : Nat) : Fld := fld (0x6F + i) 688 16 0
def RE.SKIPPED_LAST (i : Nat) : Fld := fld (0x6F + i) 672 16 0
def RE.SLOTS_MAX_LAST (i : Nat) : Fld := fld (0x6F + i) 720 16 0
def RE.ERRORS_LAST (i : Nat) : Fld := fld (0x6F + i) 704 16 0
def RE.ERR_CAUSE (i : Nat) : Fld := fld (0x6F + i) 760 8 0
def RE.ERR_PC (i : Nat) : Fld := fld (0x6F + i) 768 32 0
def RE.ERR_ADDR (i : Nat) : Fld := fld (0x6F + i) 800 32 0
def RE.MEM_CE (i : Nat) : Fld := fld (0x6F + i) 848 16 0
def RE.MEM_UE (i : Nat) : Fld := fld (0x6F + i) 832 16 0
def RE.PROX_LATE (i : Nat) : Fld := fld (0x6F + i) 880 16 0
def RE.EMIT_OVF (i : Nat) : Fld := fld (0x6F + i) 864 16 0
def RE.WIN_UE (i : Nat) : Fld := fld (0x6F + i) 912 16 0
def RE.ST_LOCKED (i : Nat) : Fld := fld (0x6F + i) 131 1 0
def RE.ST_SERVING (i : Nat) : Fld := fld (0x6F + i) 130 1 0
def RE.ST_SPARE (i : Nat) : Fld := fld (0x6F + i) 129 1 0
def RE.ST_LOADED (i : Nat) : Fld := fld (0x6F + i) 128 1 0
def RE.INT_ABI_REFUSED (i : Nat) : Fld := fld (0x6F + i) 165 1 0
def RE.INT_HANDOVER_IN (i : Nat) : Fld := fld (0x6F + i) 164 1 0
def RE.INT_HANDOVER_OUT (i : Nat) : Fld := fld (0x6F + i) 163 1 0
def RE.INT_SKIPPED (i : Nat) : Fld := fld (0x6F + i) 162 1 0
def RE.INT_ERROR (i : Nat) : Fld := fld (0x6F + i) 161 1 0
def RE.INT_INIT_DONE (i : Nat) : Fld := fld (0x6F + i) 160 1 0
def RE.FAULT_LOCKUP (i : Nat) : Fld := fld (0x6F + i) 260 1 0
def RE.FAULT_MEM_UE (i : Nat) : Fld := fld (0x6F + i) 259 1 0
def RE.FAULT_PROX_LATE (i : Nat) : Fld := fld (0x6F + i) 258 1 0
def RE.FAULT_ERR_RATE (i : Nat) : Fld := fld (0x6F + i) 257 1 0
def RE.FAULT_SKIP_RATE (i : Nat) : Fld := fld (0x6F + i) 256 1 0

/-- The rows of a return engine (R210, R211). -/
def RE.rows : List Row :=
  [
  ⟨543, 1, 0, 1, .wo, fun _ => 0, fun _ => true⟩,
  ⟨528, 1, 0, 3, .ro, fun _ => 1, fun _ => true⟩,
  ⟨520, 1, 0, 6, .ro, fun _ => 0, fun _ => true⟩,
  ⟨544, 1, 0, 32, .rwh, fun _ => 0, fun _ => true⟩,
  ⟨576, 1, 0, 32, .rwh, fun _ => 0, fun _ => true⟩,
  ⟨632, 1, 0, 8, .ro, fun _ => 0, fun _ => true⟩,
  ⟨624, 1, 0, 8, .ro, fun _ => 0, fun _ => true⟩,
  ⟨616, 1, 0, 8, .ro, fun _ => 0, fun _ => true⟩,
  ⟨656, 1, 0, 16, .rwh, fun _ => 0, fun _ => true⟩,
  ⟨640, 1, 0, 16, .rwh, fun _ => 0, fun _ => true⟩,
  ⟨688, 1, 0, 16, .ro, fun _ => 0, fun _ => true⟩,
  ⟨672, 1, 0, 16, .ro, fun _ => 0, fun _ => true⟩,
  ⟨720, 1, 0, 16, .ro, fun _ => 0, fun _ => true⟩,
  ⟨704, 1, 0, 16, .ro, fun _ => 0, fun _ => true⟩,
  ⟨760, 1, 0, 8, .ro, fun _ => 0, fun _ => true⟩,
  ⟨768, 1, 0, 32, .ro, fun _ => 0, fun _ => true⟩,
  ⟨800, 1, 0, 32, .ro, fun _ => 0, fun _ => true⟩,
  ⟨848, 1, 0, 16, .ro, fun _ => 0, fun _ => true⟩,
  ⟨832, 1, 0, 16, .ro, fun _ => 0, fun _ => true⟩,
  ⟨880, 1, 0, 16, .ro, fun _ => 0, fun _ => true⟩,
  ⟨864, 1, 0, 16, .ro, fun _ => 0, fun _ => true⟩,
  ⟨912, 1, 0, 16, .ro, fun _ => 0, fun _ => true⟩,
  ⟨131, 1, 0, 1, .ro, fun _ => 0, fun _ => true⟩,
  ⟨130, 1, 0, 1, .ro, fun _ => 0, fun _ => true⟩] ++
  [
  ⟨129, 1, 0, 1, .ro, fun _ => 0, fun _ => true⟩,
  ⟨128, 1, 0, 1, .ro, fun _ => 0, fun _ => true⟩,
  ⟨165, 1, 0, 1, .w1c, fun _ => 0, fun _ => true⟩,
  ⟨164, 1, 0, 1, .w1c, fun _ => 0, fun _ => true⟩,
  ⟨163, 1, 0, 1, .w1c, fun _ => 0, fun _ => true⟩,
  ⟨162, 1, 0, 1, .w1c, fun _ => 0, fun _ => true⟩,
  ⟨161, 1, 0, 1, .w1c, fun _ => 0, fun _ => true⟩,
  ⟨160, 1, 0, 1, .w1c, fun _ => 0, fun _ => true⟩,
  ⟨260, 1, 0, 1, .w1c, fun _ => 0, fun _ => true⟩,
  ⟨259, 1, 0, 1, .w1c, fun _ => 0, fun _ => true⟩,
  ⟨258, 1, 0, 1, .w1c, fun _ => 0, fun _ => true⟩,
  ⟨257, 1, 0, 1, .w1c, fun _ => 0, fun _ => true⟩,
  ⟨256, 1, 0, 1, .w1c, fun _ => 0, fun _ => true⟩]

/-! ### Fields of PCA assembly (R261) -/
def PASM.REC_MAJOR : Fld := fld (0x6C) 540 4 1
def PASM.REC_MINOR_MAX : Fld := fld (0x6C) 536 4 1
def PASM.REC_MINOR_SEL : Fld := fld (0x6C) 532 4 1
def PASM.REC_BAD : Fld := fld (0x6C) 560 16 0
def PASM.RETRACT_BAD : Fld := fld (0x6C) 544 16 0
def PASM.MARKER_TMO : Fld := fld (0x6C) 592 16 0
def PASM.NPOINTS_LAST : Fld := fld (0x6C) 608 32 0
def PASM.NRETRACT_LAST : Fld := fld (0x6C) 640 32 0
def PASM.INT_MARKER_TMO : Fld := fld (0x6C) 162 1 0
def PASM.INT_RETRACT_BAD : Fld := fld (0x6C) 161 1 0
def PASM.INT_REC_BAD : Fld := fld (0x6C) 160 1 0
def PASM.FAULT_MARKER_TMO : Fld := fld (0x6C) 257 1 0
def PASM.FAULT_REC_BAD : Fld := fld (0x6C) 256 1 0

/-- The rows of PCA assembly (R261). -/
def PASM.rows : List Row :=
  [
  ⟨540, 1, 0, 4, .ro, fun _ => 1, fun _ => true⟩,
  ⟨536, 1, 0, 4, .ro, fun _ => 1, fun _ => true⟩,
  ⟨532, 1, 0, 4, .rws, fun _ => 1, fun v => v ≤ 1⟩,
  ⟨560, 1, 0, 16, .ro, fun _ => 0, fun _ => true⟩,
  ⟨544, 1, 0, 16, .ro, fun _ => 0, fun _ => true⟩,
  ⟨592, 1, 0, 16, .ro, fun _ => 0, fun _ => true⟩,
  ⟨608, 1, 0, 32, .ro, fun _ => 0, fun _ => true⟩,
  ⟨640, 1, 0, 32, .ro, fun _ => 0, fun _ => true⟩,
  ⟨162, 1, 0, 1, .w1c, fun _ => 0, fun _ => true⟩,
  ⟨161, 1, 0, 1, .w1c, fun _ => 0, fun _ => true⟩,
  ⟨160, 1, 0, 1, .w1c, fun _ => 0, fun _ => true⟩,
  ⟨257, 1, 0, 1, .w1c, fun _ => 0, fun _ => true⟩,
  ⟨256, 1, 0, 1, .w1c, fun _ => 0, fun _ => true⟩]

/-! ### Fields of the PCA codec (R262) -/
def PCOD.CODEC_EN : Fld := fld (0x6D) 543 1 1
def PCOD.OUT_FILL : Fld := fld (0x6D) 560 5 0
def PCOD.OUT_USED : Fld := fld (0x6D) 544 12 0
def PCOD.VFAIL_TOTAL : Fld := fld (0x6D) 592 16 0
def PCOD.OVERSIZE_LAST : Fld := fld (0x6D) 576 16 0
def PCOD.BYTES_RAW_LAST : Fld := fld (0x6D) 608 32 0
def PCOD.BYTES_SENT_LAST : Fld := fld (0x6D) 640 32 0
def PCOD.INT_VFAIL : Fld := fld (0x6D) 160 1 0
def PCOD.FAULT_VERIFY : Fld := fld (0x6D) 256 1 0

/-- The rows of the PCA codec (R262). -/
def PCOD.rows : List Row :=
  [
  ⟨543, 1, 0, 1, .rws, fun _ => 1, fun _ => true⟩,
  ⟨560, 1, 0, 5, .ro, fun _ => 0, fun _ => true⟩,
  ⟨544, 1, 0, 12, .ro, fun _ => 0, fun _ => true⟩,
  ⟨592, 1, 0, 16, .ro, fun _ => 0, fun _ => true⟩,
  ⟨576, 1, 0, 16, .ro, fun _ => 0, fun _ => true⟩,
  ⟨608, 1, 0, 32, .ro, fun _ => 0, fun _ => true⟩,
  ⟨640, 1, 0, 32, .ro, fun _ => 0, fun _ => true⟩,
  ⟨160, 1, 0, 1, .w1c, fun _ => 0, fun _ => true⟩,
  ⟨256, 1, 0, 1, .w1c, fun _ => 0, fun _ => true⟩]

/-! ### Fields of every lane (R306, R309) -/
def LANE.ENABLE (i : Nat) : Fld := fld (0x14 + i) 543 1 1
def LANE.RATE_MAX (i : Nat) : Fld := fld (0x14 + i) 536 3 (if i < 4 then 4 else 2)
def LANE.PRE (i : Nat) : Fld := fld (0x14 + i) 528 5 0
def LANE.POST (i : Nat) : Fld := fld (0x14 + i) 520 5 8
def LANE.EQ_ACCEPT (i : Nat) : Fld := fld (0x14 + i) 519 1 1
def LANE.RETRAIN (i : Nat) : Fld := fld (0x14 + i) 575 1 0
def LANE.BITSLIP (i : Nat) : Fld := fld (0x14 + i) 574 1 0
def LANE.ALIGNED (i : Nat) : Fld := fld (0x14 + i) 573 1 0
def LANE.CDR_LOCK (i : Nat) : Fld := fld (0x14 + i) 572 1 0
def LANE.STATE (i : Nat) : Fld := fld (0x14 + i) 568 3 0
def LANE.RATE (i : Nat) : Fld := fld (0x14 + i) 564 3 0
def LANE.SLIPS (i : Nat) : Fld := fld (0x14 + i) 554 7 0
def LANE.PRE_IN_FORCE (i : Nat) : Fld := fld (0x14 + i) 549 5 0
def LANE.POST_IN_FORCE (i : Nat) : Fld := fld (0x14 + i) 544 5 8
def LANE.ERR_LIMIT (i : Nat) : Fld := fld (0x14 + i) 592 16 16
def LANE.HDR_ERR (i : Nat) : Fld := fld (0x14 + i) 576 16 0
def LANE.BLOCK_ERR (i : Nat) : Fld := fld (0x14 + i) 624 16 0
def LANE.RETRAINS (i : Nat) : Fld := fld (0x14 + i) 608 16 0
def LANE.ST_PAIR_OK (i : Nat) : Fld := fld (0x14 + i) 131 1 0
def LANE.ST_BUNDLE_UP (i : Nat) : Fld := fld (0x14 + i) 130 1 0
def LANE.ST_ALIGNED (i : Nat) : Fld := fld (0x14 + i) 129 1 0
def LANE.ST_LANE_ACTIVE (i : Nat) : Fld := fld (0x14 + i) 128 1 0
def LANE.INT_PAIR_LATE (i : Nat) : Fld := fld (0x14 + i) 167 1 0
def LANE.INT_CODE_CLASH (i : Nat) : Fld := fld (0x14 + i) 166 1 0
def LANE.INT_REPLAY (i : Nat) : Fld := fld (0x14 + i) 165 1 0
def LANE.INT_STALL (i : Nat) : Fld := fld (0x14 + i) 164 1 0
def LANE.INT_VERSION (i : Nat) : Fld := fld (0x14 + i) 163 1 0
def LANE.INT_RETRAIN (i : Nat) : Fld := fld (0x14 + i) 162 1 0
def LANE.INT_DOWN (i : Nat) : Fld := fld (0x14 + i) 161 1 0
def LANE.INT_UP (i : Nat) : Fld := fld (0x14 + i) 160 1 0
def LANE.FAULT_NO_PARTNER (i : Nat) : Fld := fld (0x14 + i) 260 1 0
def LANE.FAULT_ALIGN (i : Nat) : Fld := fld (0x14 + i) 259 1 0
def LANE.FAULT_REPLAY (i : Nat) : Fld := fld (0x14 + i) 258 1 0
def LANE.FAULT_VERSION (i : Nat) : Fld := fld (0x14 + i) 257 1 0
def LANE.FAULT_TRAIN_FAIL (i : Nat) : Fld := fld (0x14 + i) 256 1 0

/-- The rows of every lane (R306, R309). -/
def LANE.rows (i : Nat) : List Row :=
  [
  ⟨543, 1, 0, 1, .rwl, fun _ => 1, fun _ => true⟩,
  ⟨536, 1, 0, 3, .rwl, fun _ => if i < 4 then 4 else 2, fun v => v ≤ (if i < 4 then 4 else 2)⟩,
  ⟨528, 1, 0, 5, .rwl, fun _ => 0, fun v => v ≤ 16⟩,
  ⟨520, 1, 0, 5, .rwl, fun _ => 8, fun v => v ≤ 24⟩,
  ⟨519, 1, 0, 1, .rwl, fun _ => 1, fun _ => true⟩,
  ⟨575, 1, 0, 1, .wo, fun _ => 0, fun _ => true⟩,
  ⟨574, 1, 0, 1, .wo, fun _ => 0, fun _ => true⟩,
  ⟨573, 1, 0, 1, .rw, fun _ => 0, fun _ => true⟩,
  ⟨572, 1, 0, 1, .ro, fun _ => 0, fun _ => true⟩,
  ⟨568, 1, 0, 3, .ro, fun _ => 0, fun _ => true⟩,
  ⟨564, 1, 0, 3, .ro, fun _ => 0, fun _ => true⟩,
  ⟨554, 1, 0, 7, .ro, fun _ => 0, fun _ => true⟩,
  ⟨549, 1, 0, 5, .ro, fun _ => 0, fun _ => true⟩,
  ⟨544, 1, 0, 5, .ro, fun _ => 8, fun _ => true⟩,
  ⟨592, 1, 0, 16, .rwl, fun _ => 16, fun v => 1 ≤ v⟩,
  ⟨576, 1, 0, 16, .ro, fun _ => 0, fun _ => true⟩,
  ⟨624, 1, 0, 16, .ro, fun _ => 0, fun _ => true⟩,
  ⟨608, 1, 0, 16, .ro, fun _ => 0, fun _ => true⟩,
  ⟨131, 1, 0, 1, .ro, fun _ => 0, fun _ => true⟩,
  ⟨130, 1, 0, 1, .ro, fun _ => 0, fun _ => true⟩,
  ⟨129, 1, 0, 1, .ro, fun _ => 0, fun _ => true⟩,
  ⟨128, 1, 0, 1, .ro, fun _ => 0, fun _ => true⟩,
  ⟨167, 1, 0, 1, .w1c, fun _ => 0, fun _ => true⟩,
  ⟨166, 1, 0, 1, .w1c, fun _ => 0, fun _ => true⟩] ++
  [
  ⟨165, 1, 0, 1, .w1c, fun _ => 0, fun _ => true⟩,
  ⟨164, 1, 0, 1, .w1c, fun _ => 0, fun _ => true⟩,
  ⟨163, 1, 0, 1, .w1c, fun _ => 0, fun _ => true⟩,
  ⟨162, 1, 0, 1, .w1c, fun _ => 0, fun _ => true⟩,
  ⟨161, 1, 0, 1, .w1c, fun _ => 0, fun _ => true⟩,
  ⟨160, 1, 0, 1, .w1c, fun _ => 0, fun _ => true⟩,
  ⟨260, 1, 0, 1, .w1c, fun _ => 0, fun _ => true⟩,
  ⟨259, 1, 0, 1, .w1c, fun _ => 0, fun _ => true⟩,
  ⟨258, 1, 0, 1, .w1c, fun _ => 0, fun _ => true⟩,
  ⟨257, 1, 0, 1, .w1c, fun _ => 0, fun _ => true⟩,
  ⟨256, 1, 0, 1, .w1c, fun _ => 0, fun _ => true⟩]

/-! ### Fields of L0, the bundle (R307) -/
def L0.B_VERSION : Fld := fld (0x14) 2078 2 0
def L0.B_ACTIVE : Fld := fld (0x14) 2072 4 0
def L0.B_RATE : Fld := fld (0x14) 2069 3 0
def L0.B_UP : Fld := fld (0x14) 2068 1 0
def L0.RETRY_MS : Fld := fld (0x14) 2048 16 1000
def L0.CREDIT_PTS : Fld := fld (0x14) 2080 24 0
def L0.CREDIT_RAW : Fld := fld (0x14) 2112 24 0
def L0.ACK_TMO : Fld := fld (0x14) 2160 16 200
def L0.REPLAY_MAX : Fld := fld (0x14) 2156 4 4
def L0.SEQ_NEXT : Fld := fld (0x14) 2196 12 0
def L0.SEQ_ACKED : Fld := fld (0x14) 2184 12 4095
def L0.REPLAYS : Fld := fld (0x14) 2224 16 0
def L0.NAKS : Fld := fld (0x14) 2208 16 0
def L0.STALLS : Fld := fld (0x14) 2256 16 0
def L0.TRAIN_LOG : Fld := fld (0x14) 2272 5 18

/-- The rows of L0, the bundle (R307). -/
def L0.rows : List Row :=
  [
  ⟨2078, 1, 0, 2, .ro, fun _ => 0, fun _ => true⟩,
  ⟨2072, 1, 0, 4, .ro, fun _ => 0, fun _ => true⟩,
  ⟨2069, 1, 0, 3, .ro, fun _ => 0, fun _ => true⟩,
  ⟨2068, 1, 0, 1, .ro, fun _ => 0, fun _ => true⟩,
  ⟨2048, 1, 0, 16, .rws, fun _ => 1000, fun v => 10 ≤ v⟩,
  ⟨2080, 1, 0, 24, .ro, fun _ => 0, fun _ => true⟩,
  ⟨2112, 1, 0, 24, .ro, fun _ => 0, fun _ => true⟩,
  ⟨2160, 1, 0, 16, .rws, fun _ => 200, fun v => 10 ≤ v && v ≤ 10000⟩,
  ⟨2156, 1, 0, 4, .rws, fun _ => 4, fun v => 1 ≤ v⟩,
  ⟨2196, 1, 0, 12, .ro, fun _ => 0, fun _ => true⟩,
  ⟨2184, 1, 0, 12, .ro, fun _ => 4095, fun _ => true⟩,
  ⟨2224, 1, 0, 16, .ro, fun _ => 0, fun _ => true⟩,
  ⟨2208, 1, 0, 16, .ro, fun _ => 0, fun _ => true⟩,
  ⟨2256, 1, 0, 16, .ro, fun _ => 0, fun _ => true⟩,
  ⟨2272, 1, 0, 5, .rws, fun _ => 18, fun v => 14 ≤ v && v ≤ 24⟩]

/-! ### Fields of C0 (i = 0) and C1 (i = 1) (R308) -/
def CTL.C_VERSION (i : Nat) : Fld := fld (0x18 + i) 670 2 0
def CTL.VER_MAX (i : Nat) : Fld := fld (0x18 + i) 668 2 3
def CTL.EVENT_GAP (i : Nat) : Fld := fld (0x18 + i) 640 16 1000
def CTL.LEADER (i : Nat) : Fld := fld (0x18 + i) 799 1 0
def CTL.PAIR_TRIG (i : Nat) : Fld := fld (0x18 + i) 798 1 0
def CTL.PHASE_DELAY (i : Nat) : Fld := fld (0x18 + i) 768 16 45000
def CTL.CODE_CLASH (i : Nat) : Fld := fld (0x18 + i) 816 16 0
def CTL.PHASE_LATE (i : Nat) : Fld := fld (0x18 + i) 800 16 0
def CTL.PAIR_LAT (i : Nat) : Fld := fld (0x18 + i) 832 32 0

/-- The rows of C0 (i = 0) and C1 (i = 1) (R308). -/
def CTL.rows : List Row :=
  [
  ⟨670, 1, 0, 2, .ro, fun _ => 0, fun _ => true⟩,
  ⟨668, 1, 0, 2, .rws, fun _ => 3, fun v => 1 ≤ v⟩]

/-- The rows of C0, Reserved in C1 (R308). -/
def CTL.rows0 : List Row := [⟨640, 1, 0, 16, .rws, fun _ => 1000, fun v => 100 ≤ v⟩]

/-- The rows of C1, Reserved in C0 (R308). -/
def CTL.rows1 : List Row :=
  [
  ⟨799, 1, 0, 1, .rws, fun _ => 0, fun _ => true⟩,
  ⟨798, 1, 0, 1, .rws, fun _ => 0, fun _ => true⟩,
  ⟨768, 1, 0, 16, .rws, fun _ => 45000, fun v => 16 ≤ v⟩,
  ⟨816, 1, 0, 16, .ro, fun _ => 0, fun _ => true⟩,
  ⟨800, 1, 0, 16, .ro, fun _ => 0, fun _ => true⟩,
  ⟨832, 1, 0, 32, .ro, fun _ => 0, fun _ => true⟩]

/-! ### Fields of SCN (R336, R337) -/
def SCN.MODE : Fld := fld (0xD) 542 2 0
def SCN.BANK_SEL : Fld := fld (0xD) 541 1 0
def SCN.RESTART : Fld := fld (0xD) 540 1 0
def SCN.FB_AVG : Fld := fld (0xD) 538 2 2
def SCN.LOOP_DIV : Fld := fld (0xD) 512 16 1000
def SCN.SP_POS : Fld := fld (0xD) 560 16 0
def SCN.PARK_POS : Fld := fld (0xD) 544 16 0
def SCN.SWEEP_START : Fld := fld (0xD) 592 16 41536
def SCN.SWEEP_END : Fld := fld (0xD) 576 16 24000
def SCN.VMAX : Fld := fld (0xD) 608 32 6553600
def SCN.AMAX : Fld := fld (0xD) 640 32 13107
def SCN.OUT_MIN : Fld := fld (0xD) 688 16 32769
def SCN.OUT_MAX : Fld := fld (0xD) 672 16 32767
def SCN.PARK_OUT : Fld := fld (0xD) 720 16 0
def SCN.PARK_SLEW : Fld := fld (0xD) 704 16 64
def SCN.FB_MIN : Fld := fld (0xD) 752 16 32769
def SCN.FB_MAX : Fld := fld (0xD) 736 16 32767
def SCN.RES_THR : Fld := fld (0xD) 784 16 256
def SCN.TRK_LIMIT : Fld := fld (0xD) 768 16 0
def SCN.MA1 : Fld := fld (0xD) 816 16 0
def SCN.MA2 : Fld := fld (0xD) 800 16 0
def SCN.MB1 : Fld := fld (0xD) 848 16 0
def SCN.MB2 : Fld := fld (0xD) 832 16 0
def SCN.KP (j : Nat) : Fld := fld (0xD) (1040 + 128 * j) 16 0
def SCN.KI (j : Nat) : Fld := fld (0xD) (1024 + 128 * j) 16 0
def SCN.KD (j : Nat) : Fld := fld (0xD) (1072 + 128 * j) 16 0
def SCN.DF (j : Nat) : Fld := fld (0xD) (1056 + 128 * j) 16 0
def SCN.KFV (j : Nat) : Fld := fld (0xD) (1104 + 128 * j) 16 0
def SCN.KFA (j : Nat) : Fld := fld (0xD) (1088 + 128 * j) 16 0
def SCN.OUT_SHIFT (j : Nat) : Fld := fld (0xD) (1120 + 128 * j) 3 0
def SCN.HTR_EN : Fld := fld (0xD) 1567 1 0
def SCN.HTR_SLOT : Fld := fld (0xD) 1560 4 0
def SCN.HTR_SHIFT : Fld := fld (0xD) 1556 4 0
def SCN.HTR_DMAX : Fld := fld (0xD) 1536 10 1000
def SCN.HTR_SP : Fld := fld (0xD) 1584 16 160
def SCN.HTR_TMAX : Fld := fld (0xD) 1568 16 1280
def SCN.HKP : Fld := fld (0xD) 1616 16 0
def SCN.HKI : Fld := fld (0xD) 1600 16 0
def SCN.SP_EFF : Fld := fld (0xD) 2064 16 0
def SCN.FB : Fld := fld (0xD) 2048 16 0
def SCN.V_EFF : Fld := fld (0xD) 2080 32 0
def SCN.OUT : Fld := fld (0xD) 2128 16 0
def SCN.RESIDUAL : Fld := fld (0xD) 2112 16 0
def SCN.INTEG : Fld := fld (0xD) 2144 32 0
def SCN.MIRROR_STATE : Fld := fld (0xD) 2187 2 1
def SCN.PHASE : Fld := fld (0xD) 2184 3 0
def SCN.STOP_CAUSE : Fld := fld (0xD) 2176 8 64
def SCN.SWEEP_LATE_CNT : Fld := fld (0xD) 2224 16 0
def SCN.SAT_CNT : Fld := fld (0xD) 2208 16 0
def SCN.HTR_TEMP : Fld := fld (0xD) 2256 16 0
def SCN.HTR_DUTY : Fld := fld (0xD) 2240 10 0
def SCN.ST_MIRROR_STATE : Fld := fld (0xD) 131 2 1
def SCN.ST_LOOP_CLOSED : Fld := fld (0xD) 130 1 0
def SCN.ST_SP_LIMITED : Fld := fld (0xD) 129 1 0
def SCN.ST_SAT : Fld := fld (0xD) 128 1 0
def SCN.INT_SWEEP_LATE : Fld := fld (0xD) 166 1 0
def SCN.INT_BANK_SWAPPED : Fld := fld (0xD) 165 1 0
def SCN.INT_STOPPED : Fld := fld (0xD) 164 1 0
def SCN.INT_HTR_OFF : Fld := fld (0xD) 163 1 0
def SCN.INT_SP_LIMITED : Fld := fld (0xD) 162 1 0
def SCN.INT_SAT : Fld := fld (0xD) 161 1 0
def SCN.INT_LOOP_CLOSED : Fld := fld (0xD) 160 1 0
def SCN.FAULT_HTR_SENSOR : Fld := fld (0xD) 262 1 0
def SCN.FAULT_HTR_OVERTEMP : Fld := fld (0xD) 261 1 0
def SCN.FAULT_TRACKING : Fld := fld (0xD) 260 1 0
def SCN.FAULT_IMPLAUSIBLE : Fld := fld (0xD) 259 1 0
def SCN.FAULT_FROZEN : Fld := fld (0xD) 258 1 0
def SCN.FAULT_LOST_SAMPLE : Fld := fld (0xD) 257 1 0
def SCN.FAULT_LOST_RANGE : Fld := fld (0xD) 256 1 0

/-- The rows of SCN (R336, R337). -/
def SCN.rows : List Row :=
  [
  ⟨542, 1, 0, 2, .rws, fun _ => 0, fun _ => true⟩,
  ⟨541, 1, 0, 1, .rwl, fun _ => 0, fun _ => true⟩,
  ⟨540, 1, 0, 1, .wo, fun _ => 0, fun _ => true⟩,
  ⟨538, 1, 0, 2, .rws, fun _ => 2, fun _ => true⟩,
  ⟨512, 1, 0, 16, .rwh, fun _ => 1000, fun v => 1000 ≤ v && v ≤ 20000⟩,
  ⟨560, 1, 0, 16, .rwl, fun _ => 0, fun _ => true⟩,
  ⟨544, 1, 0, 16, .rws, fun _ => 0, fun _ => true⟩,
  ⟨592, 1, 0, 16, .rws, fun _ => 41536, fun _ => true⟩,
  ⟨576, 1, 0, 16, .rws, fun _ => 24000, fun _ => true⟩,
  ⟨608, 1, 0, 32, .rws, fun _ => 6553600, fun v => 1 ≤ v && v ≤ 2147483647⟩,
  ⟨640, 1, 0, 32, .rws, fun _ => 13107, fun v => 1 ≤ v && v ≤ 2147483647⟩,
  ⟨688, 1, 0, 16, .rws, fun _ => 32769, fun _ => true⟩,
  ⟨672, 1, 0, 16, .rws, fun _ => 32767, fun _ => true⟩,
  ⟨720, 1, 0, 16, .rws, fun _ => 0, fun _ => true⟩,
  ⟨704, 1, 0, 16, .rws, fun _ => 64, fun v => 1 ≤ v⟩,
  ⟨752, 1, 0, 16, .rws, fun _ => 32769, fun _ => true⟩,
  ⟨736, 1, 0, 16, .rws, fun _ => 32767, fun _ => true⟩,
  ⟨784, 1, 0, 16, .rws, fun _ => 256, fun v => 1 ≤ v && v ≤ 32767⟩,
  ⟨768, 1, 0, 16, .rws, fun _ => 0, fun v => v ≤ 32767⟩,
  ⟨816, 1, 0, 16, .rws, fun _ => 0, fun _ => true⟩,
  ⟨800, 1, 0, 16, .rws, fun _ => 0, fun _ => true⟩,
  ⟨848, 1, 0, 16, .rws, fun _ => 0, fun _ => true⟩,
  ⟨832, 1, 0, 16, .rws, fun _ => 0, fun _ => true⟩,
  ⟨1040, 2, 128, 16, .rw, fun _ => 0, fun _ => true⟩] ++
  [
  ⟨1024, 2, 128, 16, .rw, fun _ => 0, fun _ => true⟩,
  ⟨1072, 2, 128, 16, .rw, fun _ => 0, fun _ => true⟩,
  ⟨1056, 2, 128, 16, .rw, fun _ => 0, fun _ => true⟩,
  ⟨1104, 2, 128, 16, .rw, fun _ => 0, fun _ => true⟩,
  ⟨1088, 2, 128, 16, .rw, fun _ => 0, fun _ => true⟩,
  ⟨1120, 2, 128, 3, .rw, fun _ => 0, fun _ => true⟩,
  ⟨1567, 1, 0, 1, .rws, fun _ => 0, fun _ => true⟩,
  ⟨1560, 1, 0, 4, .rws, fun _ => 0, fun _ => true⟩,
  ⟨1556, 1, 0, 4, .rws, fun _ => 0, fun v => v ≤ 7⟩,
  ⟨1536, 1, 0, 10, .rws, fun _ => 1000, fun v => v ≤ 1000⟩,
  ⟨1584, 1, 0, 16, .rws, fun _ => 160, fun _ => true⟩,
  ⟨1568, 1, 0, 16, .rws, fun _ => 1280, fun _ => true⟩,
  ⟨1616, 1, 0, 16, .rws, fun _ => 0, fun _ => true⟩,
  ⟨1600, 1, 0, 16, .rws, fun _ => 0, fun _ => true⟩,
  ⟨2064, 1, 0, 16, .ro, fun _ => 0, fun _ => true⟩,
  ⟨2048, 1, 0, 16, .ro, fun _ => 0, fun _ => true⟩,
  ⟨2080, 1, 0, 32, .ro, fun _ => 0, fun _ => true⟩,
  ⟨2128, 1, 0, 16, .ro, fun _ => 0, fun _ => true⟩,
  ⟨2112, 1, 0, 16, .ro, fun _ => 0, fun _ => true⟩,
  ⟨2144, 1, 0, 32, .ro, fun _ => 0, fun _ => true⟩,
  ⟨2187, 1, 0, 2, .ro, fun _ => 1, fun _ => true⟩,
  ⟨2184, 1, 0, 3, .ro, fun _ => 0, fun _ => true⟩,
  ⟨2176, 1, 0, 8, .ro, fun _ => 64, fun _ => true⟩,
  ⟨2224, 1, 0, 16, .ro, fun _ => 0, fun _ => true⟩] ++
  [
  ⟨2208, 1, 0, 16, .ro, fun _ => 0, fun _ => true⟩,
  ⟨2256, 1, 0, 16, .ro, fun _ => 0, fun _ => true⟩,
  ⟨2240, 1, 0, 10, .ro, fun _ => 0, fun _ => true⟩,
  ⟨131, 1, 0, 2, .ro, fun _ => 1, fun _ => true⟩,
  ⟨130, 1, 0, 1, .ro, fun _ => 0, fun _ => true⟩,
  ⟨129, 1, 0, 1, .ro, fun _ => 0, fun _ => true⟩,
  ⟨128, 1, 0, 1, .ro, fun _ => 0, fun _ => true⟩,
  ⟨166, 1, 0, 1, .w1c, fun _ => 0, fun _ => true⟩,
  ⟨165, 1, 0, 1, .w1c, fun _ => 0, fun _ => true⟩,
  ⟨164, 1, 0, 1, .w1c, fun _ => 0, fun _ => true⟩,
  ⟨163, 1, 0, 1, .w1c, fun _ => 0, fun _ => true⟩,
  ⟨162, 1, 0, 1, .w1c, fun _ => 0, fun _ => true⟩,
  ⟨161, 1, 0, 1, .w1c, fun _ => 0, fun _ => true⟩,
  ⟨160, 1, 0, 1, .w1c, fun _ => 0, fun _ => true⟩,
  ⟨262, 1, 0, 1, .w1c, fun _ => 0, fun _ => true⟩,
  ⟨261, 1, 0, 1, .w1c, fun _ => 0, fun _ => true⟩,
  ⟨260, 1, 0, 1, .w1c, fun _ => 0, fun _ => true⟩,
  ⟨259, 1, 0, 1, .w1c, fun _ => 0, fun _ => true⟩,
  ⟨258, 1, 0, 1, .w1c, fun _ => 0, fun _ => true⟩,
  ⟨257, 1, 0, 1, .w1c, fun _ => 0, fun _ => true⟩,
  ⟨256, 1, 0, 1, .w1c, fun _ => 0, fun _ => true⟩]

end Sys2Proof.Machine
end

