-- ==== Sys2Proof/Machine/RegMapC.lean ====
section
/-! DEFINITION. The register map, from the register tables of spec/: one definition per field under the name the
tables give it (ST_, INT_ and FAULT_ mark bits of STATUS, INT_RAW and FAULT), and one row list per folio type for the
generic access of R10 to R13. Bit numbers count from the folio's base: 8 × offset + lowest bit. -/
namespace Sys2Proof.Machine
open Sys2Proof

/-! ### Fields of AFE (R358, R362) -/
def AFE.XREF_RES : Fld := fld (0xE) 512 16 20000
def AFE.CLAMP : Fld := fld (0xE) 560 12 0
def AFE.OPEN_SLOTS : Fld := fld (0xE) 544 16 0
def AFE.WIRES (j : Nat) : Fld := fld (0xE) (1054 + 64 * j) 2 0
def AFE.PIN_P (j : Nat) : Fld := fld (0xE) (1048 + 64 * j) 4 0
def AFE.PIN_Q (j : Nat) : Fld := fld (0xE) (1044 + 64 * j) 4 1
def AFE.PIN_S (j : Nat) : Fld := fld (0xE) (1040 + 64 * j) 4 2
def AFE.GAIN (j : Nat) : Fld := fld (0xE) (1037 + 64 * j) 3 0
def AFE.IEXC (j : Nat) : Fld := fld (0xE) (1024 + 64 * j) 7 10
def AFE.LEAD (j : Nat) : Fld := fld (0xE) (1072 + 64 * j) 16 0
def AFE.LEAD_MEAS (j : Nat) : Fld := fld (0xE) (1056 + 64 * j) 16 0
def AFE.ST_SRC_B_ON : Fld := fld (0xE) 129 1 0
def AFE.ST_SRC_A_ON : Fld := fld (0xE) 128 1 0
def AFE.INT_OPEN : Fld := fld (0xE) 161 1 0
def AFE.INT_CLAMP : Fld := fld (0xE) 160 1 0
def AFE.FAULT_OPEN : Fld := fld (0xE) 257 1 0
def AFE.FAULT_CLAMP : Fld := fld (0xE) 256 1 0

/-- The rows of AFE (R358, R362). -/
def AFE.rows : List Row :=
  [
  ⟨512, 1, 0, 16, .rwl, fun _ => 20000, fun v => 1000 ≤ v⟩,
  ⟨560, 1, 0, 12, .w1c, fun _ => 0, fun _ => true⟩,
  ⟨544, 1, 0, 16, .w1c, fun _ => 0, fun _ => true⟩,
  ⟨1054, 16, 64, 2, .rwl, fun _ => 0, fun _ => true⟩,
  ⟨1048, 16, 64, 4, .rwl, fun _ => 0, fun v => v ≤ 12⟩,
  ⟨1044, 16, 64, 4, .rwl, fun _ => 1, fun v => v ≤ 11⟩,
  ⟨1040, 16, 64, 4, .rwl, fun _ => 2, fun v => v ≤ 11⟩,
  ⟨1037, 16, 64, 3, .rwl, fun _ => 0, fun v => v ≤ 4⟩,
  ⟨1024, 16, 64, 7, .rwl, fun _ => 10, fun v => 1 ≤ v && v ≤ 100⟩,
  ⟨1072, 16, 64, 16, .rwl, fun _ => 0, fun _ => true⟩,
  ⟨1056, 16, 64, 16, .ro, fun _ => 0, fun _ => true⟩,
  ⟨129, 1, 0, 1, .ro, fun _ => 0, fun _ => true⟩,
  ⟨128, 1, 0, 1, .ro, fun _ => 0, fun _ => true⟩,
  ⟨161, 1, 0, 1, .w1c, fun _ => 0, fun _ => true⟩,
  ⟨160, 1, 0, 1, .w1c, fun _ => 0, fun _ => true⟩,
  ⟨257, 1, 0, 1, .w1c, fun _ => 0, fun _ => true⟩,
  ⟨256, 1, 0, 1, .w1c, fun _ => 0, fun _ => true⟩]

/-! ### Fields of CONV-M (R361, R362) -/
def CONVM.LAST_CODE : Fld := fld (0xF) 528 16 0
def CONVM.OVR_CNT : Fld := fld (0xF) 512 16 0
def CONVM.NO_CONV_CNT : Fld := fld (0xF) 560 16 0
def CONVM.ST_OVR_LAST : Fld := fld (0xF) 128 1 0
def CONVM.INT_OVR : Fld := fld (0xF) 160 1 0
def CONVM.FAULT_NO_CONV : Fld := fld (0xF) 257 1 0
def CONVM.FAULT_OVR : Fld := fld (0xF) 256 1 0

/-- The rows of CONV-M (R361, R362). -/
def CONVM.rows : List Row :=
  [
  ⟨528, 1, 0, 16, .ro, fun _ => 0, fun _ => true⟩,
  ⟨512, 1, 0, 16, .ro, fun _ => 0, fun _ => true⟩,
  ⟨560, 1, 0, 16, .ro, fun _ => 0, fun _ => true⟩,
  ⟨128, 1, 0, 1, .ro, fun _ => 0, fun _ => true⟩,
  ⟨160, 1, 0, 1, .w1c, fun _ => 0, fun _ => true⟩,
  ⟨257, 1, 0, 1, .w1c, fun _ => 0, fun _ => true⟩,
  ⟨256, 1, 0, 1, .w1c, fun _ => 0, fun _ => true⟩]

/-! ### Fields of CONV-H (R359, R362) -/
def CONVH.START : Fld := fld (0x10) 543 1 0
def CONVH.STOP : Fld := fld (0x10) 542 1 0
def CONVH.SINGLE : Fld := fld (0x10) 541 1 0
def CONVH.SLOT_PER : Fld := fld (0x10) 512 11 1250
def CONVH.FAST_PER : Fld := fld (0x10) 544 11 25
def CONVH.ROUNDS : Fld := fld (0x10) 576 32 0
def CONVH.BG_CODE : Fld := fld (0x10) 608 12 0
def CONVH.ST_FAST : Fld := fld (0x10) 129 1 0
def CONVH.ST_RUNNING : Fld := fld (0x10) 128 1 0
def CONVH.INT_STOPPED : Fld := fld (0x10) 161 1 0
def CONVH.INT_ROUND : Fld := fld (0x10) 160 1 0
def CONVH.FAULT_REF : Fld := fld (0x10) 256 1 0

/-- The rows of CONV-H (R359, R362). -/
def CONVH.rows : List Row :=
  [
  ⟨543, 1, 0, 1, .wo, fun _ => 0, fun _ => true⟩,
  ⟨542, 1, 0, 1, .wo, fun _ => 0, fun _ => true⟩,
  ⟨541, 1, 0, 1, .rwl, fun _ => 0, fun _ => true⟩,
  ⟨512, 1, 0, 11, .rwl, fun _ => 1250, fun v => 25 ≤ v && v ≤ 1250⟩,
  ⟨544, 1, 0, 11, .rwl, fun _ => 25, fun v => 25 ≤ v && v ≤ 1250⟩,
  ⟨576, 1, 0, 32, .ro, fun _ => 0, fun _ => true⟩,
  ⟨608, 1, 0, 12, .ro, fun _ => 0, fun _ => true⟩,
  ⟨129, 1, 0, 1, .ro, fun _ => 0, fun _ => true⟩,
  ⟨128, 1, 0, 1, .ro, fun _ => 0, fun _ => true⟩,
  ⟨161, 1, 0, 1, .w1c, fun _ => 0, fun _ => true⟩,
  ⟨160, 1, 0, 1, .w1c, fun _ => 0, fun _ => true⟩,
  ⟨256, 1, 0, 1, .w1c, fun _ => 0, fun _ => true⟩]

/-! ### Fields of FLT (R360, R362) -/
def FLT.PT_A : Fld := fld (0x11) 512 32 3908300
def FLT.PT_B : Fld := fld (0x11) 544 32 4294389796
def FLT.EN (j : Nat) : Fld := fld (0x11) (1055 + 32 * j) 1 0
def FLT.OUTFMT (j : Nat) : Fld := fld (0x11) (1053 + 32 * j) 2 0
def FLT.DIFF (j : Nat) : Fld := fld (0x11) (1052 + 32 * j) 1 0
def FLT.INPUT (j : Nat) : Fld := fld (0x11) (1044 + 32 * j) 5 0
def FLT.LEN (j : Nat) : Fld := fld (0x11) (1032 + 32 * j) 9 1
def FLT.PT_NOM (j : Nat) : Fld := fld (0x11) (1536 + 32 * j) 16 32000
def FLT.VALUE (j : Nat) : Fld := fld (0x11) (2064 + 32 * j) 16 0
def FLT.UNSETTLED (j : Nat) : Fld := fld (0x11) (2063 + 32 * j) 1 0
def FLT.BLANK (j : Nat) : Fld := fld (0x11) (2062 + 32 * j) 1 0
def FLT.OPEN (j : Nat) : Fld := fld (0x11) (2061 + 32 * j) 1 0
def FLT.OVR (j : Nat) : Fld := fld (0x11) (2060 + 32 * j) 1 0
def FLT.STALE (j : Nat) : Fld := fld (0x11) (2059 + 32 * j) 1 0
def FLT.SEQ (j : Nat) : Fld := fld (0x11) (2048 + 32 * j) 8 0
def FLT.ST_UNSETTLED : Fld := fld (0x11) 128 16 0
def FLT.INT_FMT_BAD : Fld := fld (0x11) 161 1 0
def FLT.INT_OVR : Fld := fld (0x11) 160 1 0
def FLT.FAULT_OVR : Fld := fld (0x11) 256 1 0

/-- The rows of FLT (R360, R362). -/
def FLT.rows : List Row :=
  [
  ⟨512, 1, 0, 32, .rwl, fun _ => 3908300, fun _ => true⟩,
  ⟨544, 1, 0, 32, .rwl, fun _ => 4294389796, fun _ => true⟩,
  ⟨1055, 16, 32, 1, .rwl, fun _ => 0, fun _ => true⟩,
  ⟨1053, 16, 32, 2, .rwl, fun _ => 0, fun _ => true⟩,
  ⟨1052, 16, 32, 1, .rwl, fun _ => 0, fun _ => true⟩,
  ⟨1044, 16, 32, 5, .rwl, fun _ => 0, fun v => v ≤ 23⟩,
  ⟨1032, 16, 32, 9, .rwl, fun _ => 1, fun v => 1 ≤ v && v ≤ 256⟩,
  ⟨1536, 16, 32, 16, .rwl, fun _ => 32000, fun _ => true⟩,
  ⟨2064, 16, 32, 16, .ro, fun _ => 0, fun _ => true⟩,
  ⟨2063, 16, 32, 1, .ro, fun _ => 0, fun _ => true⟩,
  ⟨2062, 16, 32, 1, .ro, fun _ => 0, fun _ => true⟩,
  ⟨2061, 16, 32, 1, .ro, fun _ => 0, fun _ => true⟩,
  ⟨2060, 16, 32, 1, .ro, fun _ => 0, fun _ => true⟩,
  ⟨2059, 16, 32, 1, .ro, fun _ => 0, fun _ => true⟩,
  ⟨2048, 16, 32, 8, .ro, fun _ => 0, fun _ => true⟩,
  ⟨128, 1, 0, 16, .ro, fun _ => 0, fun _ => true⟩,
  ⟨161, 1, 0, 1, .w1c, fun _ => 0, fun _ => true⟩,
  ⟨160, 1, 0, 1, .w1c, fun _ => 0, fun _ => true⟩,
  ⟨256, 1, 0, 1, .w1c, fun _ => 0, fun _ => true⟩]

/-! ### Fields of CAL (R382, R383) -/
def CAL.CAL_EN : Fld := fld (0x1C) 543 1 1
def CAL.MODE : Fld := fld (0x1C) 542 1 0
def CAL.CAL_PAR : Fld := fld (0x1C) 536 6 8
def CAL.SESS_MAX : Fld := fld (0x1C) 528 8 8
def CAL.LEARN_SHIFT : Fld := fld (0x1C) 524 4 3
def CAL.TRIM_BAND : Fld := fld (0x1C) 520 4 2
def CAL.TSTEP : Fld := fld (0x1C) 512 8 4
def CAL.CAL_COLS : Fld := fld (0x1C) 560 12 640
def CAL.ECHO_GATE : Fld := fld (0x1C) 552 8 4
def CAL.ECHO_BASE : Fld := fld (0x1C) 592 12 410
def CAL.ECHO_MIN : Fld := fld (0x1C) 576 13 256
def CAL.SAVE_MIN : Fld := fld (0x1C) 624 16 60
def CAL.CVH_PERIOD : Fld := fld (0x1C) 608 16 60
def CAL.RG_EXCL (j : Nat) : Fld := fld (0x1C) (640 + 32 * j) 32 0
def CAL.EYE_PERIOD : Fld := fld (0x1C) 720 16 10
def CAL.ECHO_OFS (j : Nat) : Fld := fld (0x1C) (1024 + 16 * j) 16 0
def CAL.STRSK_START : Fld := fld (0x1C) 2079 1 0
def CAL.STRSK_SHOTS : Fld := fld (0x1C) 2048 13 256
def CAL.PROP_EG_SKEW (j : Nat) : Fld := fld (0x1C) (2080 + 8 * j) 8 0
def CAL.CAL_SET : Fld := fld (0x1C) 2144 16 16384
def CAL.SESS_DONE : Fld := fld (0x1C) 2192 16 0
def CAL.SESS_SHORT : Fld := fld (0x1C) 2176 16 0
def CAL.NEXT_CH : Fld := fld (0x1C) 2220 10 0
def CAL.ACTIVE : Fld := fld (0x1C) 2208 6 0
def CAL.CYCLE_FRAMES : Fld := fld (0x1C) 2256 16 0
def CAL.RES_SKEW_MAX : Fld := fld (0x1C) 2320 16 0
def CAL.RES_INL_MAX : Fld := fld (0x1C) 2304 16 0
def CAL.EYE_VALID (j : Nat) : Fld := fld (0x1C) (2463 + 32 * j) 1 0
def CAL.EYE_W (j : Nat) : Fld := fld (0x1C) (2448 + 32 * j) 8 0
def CAL.EYE_H (j : Nat) : Fld := fld (0x1C) (2432 + 32 * j) 16 0
def CAL.CVH_OFS (j : Nat) : Fld := fld (0x1C) (2688 + 32 * j) 16 0
def CAL.Q_CH : Fld := fld (0x1C) 3072 10 0
def CAL.RES_INL : Fld := fld (0x1C) 3128 8 0
def CAL.RES_SKEW : Fld := fld (0x1C) 3120 8 0
def CAL.OUTCOME : Fld := fld (0x1C) 3118 2 0
def CAL.SKEW_SHORT : Fld := fld (0x1C) 3117 1 0
def CAL.RUHAL : Fld := fld (0x1C) 3116 1 0
def CAL.TRIM_LIMIT : Fld := fld (0x1C) 3112 4 0
def CAL.AGE : Fld := fld (0x1C) 3104 8 255
def CAL.ST_STRSK_BUSY : Fld := fld (0x1C) 131 1 0
def CAL.ST_SAVE_PENDING : Fld := fld (0x1C) 130 1 0
def CAL.ST_RUHAL : Fld := fld (0x1C) 129 1 0
def CAL.ST_NOMINAL : Fld := fld (0x1C) 128 1 1
def CAL.INT_STRSK_DONE : Fld := fld (0x1C) 165 1 0
def CAL.INT_SAVE_DEFER : Fld := fld (0x1C) 164 1 0
def CAL.INT_SAVED : Fld := fld (0x1C) 163 1 0
def CAL.INT_CYCLE_DONE : Fld := fld (0x1C) 162 1 0
def CAL.INT_SESS_SHORT : Fld := fld (0x1C) 161 1 0
def CAL.INT_SESS_DONE : Fld := fld (0x1C) 160 1 0
def CAL.FAULT_SAVE_FAIL : Fld := fld (0x1C) 258 1 0
def CAL.FAULT_RUHAL_BAD : Fld := fld (0x1C) 257 1 0
def CAL.FAULT_NO_SETS : Fld := fld (0x1C) 256 1 0

/-- The rows of CAL (R382, R383). -/
def CAL.rows : List Row :=
  [
  ⟨543, 1, 0, 1, .rws, fun _ => 1, fun _ => true⟩,
  ⟨542, 1, 0, 1, .rws, fun _ => 0, fun _ => true⟩,
  ⟨536, 1, 0, 6, .rws, fun _ => 8, fun v => 1 ≤ v && v ≤ 33⟩,
  ⟨528, 1, 0, 8, .rws, fun _ => 8, fun v => 1 ≤ v && v ≤ 64⟩,
  ⟨524, 1, 0, 4, .rws, fun _ => 3, fun v => v ≤ 8⟩,
  ⟨520, 1, 0, 4, .rws, fun _ => 2, fun v => 1 ≤ v && v ≤ 8⟩,
  ⟨512, 1, 0, 8, .rws, fun _ => 4, fun v => 1 ≤ v && v ≤ 16⟩,
  ⟨560, 1, 0, 12, .rws, fun _ => 640, fun v => 1 ≤ v && v ≤ 2560⟩,
  ⟨552, 1, 0, 8, .rws, fun _ => 4, fun v => 1 ≤ v && v ≤ 32⟩,
  ⟨592, 1, 0, 12, .rws, fun _ => 410, fun _ => true⟩,
  ⟨576, 1, 0, 13, .rws, fun _ => 256, fun v => 16 ≤ v && v ≤ 4096⟩,
  ⟨624, 1, 0, 16, .rws, fun _ => 60, fun v => 1 ≤ v && v ≤ 1440⟩,
  ⟨608, 1, 0, 16, .rws, fun _ => 60, fun _ => true⟩,
  ⟨640, 2, 32, 32, .rws, fun _ => 0, fun _ => true⟩,
  ⟨720, 1, 0, 16, .rws, fun _ => 10, fun _ => true⟩,
  ⟨1024, 64, 16, 16, .rws, fun _ => 0, fun _ => true⟩,
  ⟨2079, 1, 0, 1, .wo, fun _ => 0, fun _ => true⟩,
  ⟨2048, 1, 0, 13, .rws, fun _ => 256, fun v => 8 ≤ v && v ≤ 4096⟩,
  ⟨2080, 8, 8, 8, .ro, fun _ => 0, fun _ => true⟩,
  ⟨2144, 1, 0, 16, .ro, fun _ => 16384, fun _ => true⟩,
  ⟨2192, 1, 0, 16, .ro, fun _ => 0, fun _ => true⟩,
  ⟨2176, 1, 0, 16, .ro, fun _ => 0, fun _ => true⟩,
  ⟨2220, 1, 0, 10, .ro, fun _ => 0, fun _ => true⟩,
  ⟨2208, 1, 0, 6, .ro, fun _ => 0, fun _ => true⟩] ++
  [
  ⟨2256, 1, 0, 16, .ro, fun _ => 0, fun _ => true⟩,
  ⟨2320, 1, 0, 16, .ro, fun _ => 0, fun _ => true⟩,
  ⟨2304, 1, 0, 16, .ro, fun _ => 0, fun _ => true⟩,
  ⟨2463, 6, 32, 1, .ro, fun _ => 0, fun _ => true⟩,
  ⟨2448, 6, 32, 8, .ro, fun _ => 0, fun _ => true⟩,
  ⟨2432, 6, 32, 16, .ro, fun _ => 0, fun _ => true⟩,
  ⟨2688, 5, 32, 16, .ro, fun _ => 0, fun _ => true⟩,
  ⟨3072, 1, 0, 10, .rw, fun _ => 0, fun v => v ≤ 529⟩,
  ⟨3128, 1, 0, 8, .ro, fun _ => 0, fun _ => true⟩,
  ⟨3120, 1, 0, 8, .ro, fun _ => 0, fun _ => true⟩,
  ⟨3118, 1, 0, 2, .ro, fun _ => 0, fun _ => true⟩,
  ⟨3117, 1, 0, 1, .ro, fun _ => 0, fun _ => true⟩,
  ⟨3116, 1, 0, 1, .ro, fun _ => 0, fun _ => true⟩,
  ⟨3112, 1, 0, 4, .ro, fun _ => 0, fun _ => true⟩,
  ⟨3104, 1, 0, 8, .ro, fun _ => 255, fun _ => true⟩,
  ⟨131, 1, 0, 1, .ro, fun _ => 0, fun _ => true⟩,
  ⟨130, 1, 0, 1, .ro, fun _ => 0, fun _ => true⟩,
  ⟨129, 1, 0, 1, .ro, fun _ => 0, fun _ => true⟩,
  ⟨128, 1, 0, 1, .ro, fun _ => 1, fun _ => true⟩,
  ⟨165, 1, 0, 1, .w1c, fun _ => 0, fun _ => true⟩,
  ⟨164, 1, 0, 1, .w1c, fun _ => 0, fun _ => true⟩,
  ⟨163, 1, 0, 1, .w1c, fun _ => 0, fun _ => true⟩,
  ⟨162, 1, 0, 1, .w1c, fun _ => 0, fun _ => true⟩,
  ⟨161, 1, 0, 1, .w1c, fun _ => 0, fun _ => true⟩] ++
  [
  ⟨160, 1, 0, 1, .w1c, fun _ => 0, fun _ => true⟩,
  ⟨258, 1, 0, 1, .w1c, fun _ => 0, fun _ => true⟩,
  ⟨257, 1, 0, 1, .w1c, fun _ => 0, fun _ => true⟩,
  ⟨256, 1, 0, 1, .w1c, fun _ => 0, fun _ => true⟩]

/-! ### Fields of THM (R396, R398) -/
def THM.THR_BASE : Fld := fld (0x1D) 536 8 112
def THM.THR_STEP : Fld := fld (0x1D) 532 4 3
def THM.HYST : Fld := fld (0x1D) 528 4 3
def THM.FAST_BAND : Fld := fld (0x1D) 520 8 6
def THM.EMT_SLOT : Fld := fld (0x1D) 572 4 1
def THM.LMP_SLOT : Fld := fld (0x1D) 568 4 2
def THM.READING (j : Nat) : Fld := fld (0x1D) (1040 + 32 * j) 16 0
def THM.EMT_LEVEL : Fld := fld (0x1D) 1821 3 2
def THM.LMP_LEVEL : Fld := fld (0x1D) 1818 3 2
def THM.HOST_STEP : Fld := fld (0x1D) 1815 3 0
def THM.SHELF_STEP (j : Nat) : Fld := fld (0x1D) (1824 + 3 * j) 3 0
def THM.TJ_MAX : Fld := fld (0x1D) 1872 16 0
def THM.TJ_MIN : Fld := fld (0x1D) 1856 16 0
def THM.ST_FAST : Fld := fld (0x1D) 129 1 0
def THM.ST_THROTTLING : Fld := fld (0x1D) 128 1 0
def THM.INT_FAST : Fld := fld (0x1D) 163 1 0
def THM.INT_LEVEL_CHANGE : Fld := fld (0x1D) 162 1 0
def THM.INT_STEP_CHANGE : Fld := fld (0x1D) 161 1 0
def THM.INT_SENSOR : Fld := fld (0x1D) 160 1 0
def THM.FAULT_AFE_SENSOR : Fld := fld (0x1D) 257 1 0
def THM.FAULT_THROTTLE : Fld := fld (0x1D) 256 1 0

/-- The rows of THM (R396, R398). -/
def THM.rows : List Row :=
  [
  ⟨536, 1, 0, 8, .rws, fun _ => 112, fun v => 90 ≤ v && v ≤ 125⟩,
  ⟨532, 1, 0, 4, .rws, fun _ => 3, fun v => 1 ≤ v && v ≤ 8⟩,
  ⟨528, 1, 0, 4, .rws, fun _ => 3, fun v => 1 ≤ v && v ≤ 10⟩,
  ⟨520, 1, 0, 8, .rws, fun _ => 6, fun v => 1 ≤ v && v ≤ 20⟩,
  ⟨572, 1, 0, 4, .rws, fun _ => 1, fun _ => true⟩,
  ⟨568, 1, 0, 4, .rws, fun _ => 2, fun _ => true⟩,
  ⟨1040, 24, 32, 16, .ro, fun _ => 0, fun _ => true⟩,
  ⟨1821, 1, 0, 3, .ro, fun _ => 2, fun _ => true⟩,
  ⟨1818, 1, 0, 3, .ro, fun _ => 2, fun _ => true⟩,
  ⟨1815, 1, 0, 3, .ro, fun _ => 0, fun _ => true⟩,
  ⟨1824, 9, 3, 3, .ro, fun _ => 0, fun _ => true⟩,
  ⟨1872, 1, 0, 16, .ro, fun _ => 0, fun _ => true⟩,
  ⟨1856, 1, 0, 16, .ro, fun _ => 0, fun _ => true⟩,
  ⟨129, 1, 0, 1, .ro, fun _ => 0, fun _ => true⟩,
  ⟨128, 1, 0, 1, .ro, fun _ => 0, fun _ => true⟩,
  ⟨163, 1, 0, 1, .w1c, fun _ => 0, fun _ => true⟩,
  ⟨162, 1, 0, 1, .w1c, fun _ => 0, fun _ => true⟩,
  ⟨161, 1, 0, 1, .w1c, fun _ => 0, fun _ => true⟩,
  ⟨160, 1, 0, 1, .w1c, fun _ => 0, fun _ => true⟩,
  ⟨257, 1, 0, 1, .w1c, fun _ => 0, fun _ => true⟩,
  ⟨256, 1, 0, 1, .w1c, fun _ => 0, fun _ => true⟩]

/-! ### Fields of the THM watch (R397, R398) -/
def WATCH.CRIT : Fld := fld (0x24) 536 8 128
def WATCH.W_TS5 : Fld := fld (0x24) 560 16 0
def WATCH.W_TS15 : Fld := fld (0x24) 544 16 0
def WATCH.W_TS21 : Fld := fld (0x24) 592 16 0
def WATCH.W_TS23 : Fld := fld (0x24) 576 16 0
def WATCH.ST_NVS_OK : Fld := fld (0x24) 129 1 0
def WATCH.ST_OVERTEMP : Fld := fld (0x24) 128 1 0
def WATCH.INT_NVS_BLOCK : Fld := fld (0x24) 161 1 0
def WATCH.INT_OVERTEMP : Fld := fld (0x24) 160 1 0
def WATCH.FAULT_WATCH_SENSOR : Fld := fld (0x24) 257 1 0
def WATCH.FAULT_OVERTEMP : Fld := fld (0x24) 256 1 0

/-- The rows of the THM watch (R397, R398). -/
def WATCH.rows : List Row :=
  [
  ⟨536, 1, 0, 8, .rws, fun _ => 128, fun v => 115 ≤ v && v ≤ 135⟩,
  ⟨560, 1, 0, 16, .ro, fun _ => 0, fun _ => true⟩,
  ⟨544, 1, 0, 16, .ro, fun _ => 0, fun _ => true⟩,
  ⟨592, 1, 0, 16, .ro, fun _ => 0, fun _ => true⟩,
  ⟨576, 1, 0, 16, .ro, fun _ => 0, fun _ => true⟩,
  ⟨129, 1, 0, 1, .ro, fun _ => 0, fun _ => true⟩,
  ⟨128, 1, 0, 1, .ro, fun _ => 0, fun _ => true⟩,
  ⟨161, 1, 0, 1, .w1c, fun _ => 0, fun _ => true⟩,
  ⟨160, 1, 0, 1, .w1c, fun _ => 0, fun _ => true⟩,
  ⟨257, 1, 0, 1, .w1c, fun _ => 0, fun _ => true⟩,
  ⟨256, 1, 0, 1, .w1c, fun _ => 0, fun _ => true⟩]

/-! ### Fields of SAF (R427, R428) -/
def SAF.REQ : Fld := fld (0x21) 512 32 0
def SAF.STATE : Fld := fld (0x21) 573 3 0
def SAF.SAFEMODE : Fld := fld (0x21) 572 1 0
def SAF.STORED_VALID : Fld := fld (0x21) 571 1 0
def SAF.EPERM_A_OK : Fld := fld (0x21) 570 1 0
def SAF.EPERM_B_OK : Fld := fld (0x21) 569 1 0
def SAF.CTR_FB_CLOSED : Fld := fld (0x21) 568 1 0
def SAF.CTR_EN : Fld := fld (0x21) 567 1 0
def SAF.SAFE_OK : Fld := fld (0x21) 566 1 0
def SAF.TOKENS : Fld := fld (0x21) 565 1 0
def SAF.TRIPS_LATCH : Fld := fld (0x21) 584 24 0
def SAF.TRIPS_HOLD : Fld := fld (0x21) 576 8 0
def SAF.DEG_CAUSE : Fld := fld (0x21) 608 16 0
def SAF.CTR_FB_POL : Fld := fld (0x21) 671 1 0
def SAF.TD_MS : Fld := fld (0x21) 656 9 50
def SAF.CTR_T : Fld := fld (0x21) 640 9 100
def SAF.NOREF_TRIP : Fld := fld (0x21) 688 10 64
def SAF.Q_SHOT_MAX : Fld := fld (0x21) 672 16 512
def SAF.Q_W1_MAX : Fld := fld (0x21) 704 24 40960
def SAF.Q_W2_MAX : Fld := fld (0x21) 736 32 32768000
def SAF.PROX_MIN_ROWS : Fld := fld (0x21) 792 8 2
def SAF.PROX_FAILSAFE : Fld := fld (0x21) 791 1 0
def SAF.PROX_HOLD : Fld := fld (0x21) 768 16 200
def SAF.PROX_EN (j : Nat) : Fld := fld (0x21) (800 + 32 * j) 32 0
def SAF.BLIND_LIM : Fld := fld (0x21) 888 8 16
def SAF.MISS_LIM : Fld := fld (0x21) 880 8 8
def SAF.RECOVER_FRAMES : Fld := fld (0x21) 872 8 25
def SAF.AUTO_OPER : Fld := fld (0x21) 871 1 0
def SAF.DEG_MAX : Fld := fld (0x21) 912 16 0
def SAF.DIAG_PERIOD : Fld := fld (0x21) 896 16 10
def SAF.RSVD_IMG : Fld := fld (0x21) 928 32 0
def SAF.COLOPHON_CALC : Fld := fld (0x21) 1024 32 0
def SAF.COLOPHON_STORED : Fld := fld (0x21) 1056 32 0
def SAF.COLOPHON_CONFIRM : Fld := fld (0x21) 1088 32 0
def SAF.DISC_CNT : Fld := fld (0x21) 1168 16 0
def SAF.WITHHELD_LAST : Fld := fld (0x21) 1152 16 0
def SAF.Q_W1_NOW : Fld := fld (0x21) 1184 24 0
def SAF.Q_W2_NOW : Fld := fld (0x21) 1216 32 0
def SAF.BLIND_LAST : Fld := fld (0x21) 1264 16 0
def SAF.MISS_LAST : Fld := fld (0x21) 1248 16 0
def SAF.ST_STATE : Fld := fld (0x21) 129 3 0
def SAF.ST_INHIBIT : Fld := fld (0x21) 128 1 1
def SAF.INT_STORED : Fld := fld (0x21) 165 1 0
def SAF.INT_WITHHELD : Fld := fld (0x21) 164 1 0
def SAF.INT_DISC_BELOW : Fld := fld (0x21) 163 1 0
def SAF.INT_DEGRADE : Fld := fld (0x21) 162 1 0
def SAF.INT_TRIP : Fld := fld (0x21) 161 1 0
def SAF.INT_STATE_CHANGE : Fld := fld (0x21) 160 1 0
def SAF.FAULT_DIAG : Fld := fld (0x21) 258 1 0
def SAF.FAULT_LOCKSTEP : Fld := fld (0x21) 257 1 0
def SAF.FAULT_SAFE_HOLD : Fld := fld (0x21) 256 1 0

/-- The rows of SAF (R427, R428). -/
def SAF.rows : List Row :=
  [
  ⟨512, 1, 0, 32, .wo, fun _ => 0, fun _ => true⟩,
  ⟨573, 1, 0, 3, .ro, fun _ => 0, fun _ => true⟩,
  ⟨572, 1, 0, 1, .ro, fun _ => 0, fun _ => true⟩,
  ⟨571, 1, 0, 1, .ro, fun _ => 0, fun _ => true⟩,
  ⟨570, 1, 0, 1, .ro, fun _ => 0, fun _ => true⟩,
  ⟨569, 1, 0, 1, .ro, fun _ => 0, fun _ => true⟩,
  ⟨568, 1, 0, 1, .ro, fun _ => 0, fun _ => true⟩,
  ⟨567, 1, 0, 1, .ro, fun _ => 0, fun _ => true⟩,
  ⟨566, 1, 0, 1, .ro, fun _ => 0, fun _ => true⟩,
  ⟨565, 1, 0, 1, .ro, fun _ => 0, fun _ => true⟩,
  ⟨584, 1, 0, 24, .w1c, fun _ => 0, fun _ => true⟩,
  ⟨576, 1, 0, 8, .ro, fun _ => 0, fun _ => true⟩,
  ⟨608, 1, 0, 16, .ro, fun _ => 0, fun _ => true⟩,
  ⟨671, 1, 0, 1, .rws, fun _ => 0, fun _ => true⟩,
  ⟨656, 1, 0, 9, .rws, fun _ => 50, fun v => 1 ≤ v && v ≤ 500⟩,
  ⟨640, 1, 0, 9, .rws, fun _ => 100, fun v => 10 ≤ v && v ≤ 500⟩,
  ⟨688, 1, 0, 10, .rws, fun _ => 64, fun v => 8 ≤ v⟩,
  ⟨672, 1, 0, 16, .rws, fun _ => 512, fun v => 1 ≤ v⟩,
  ⟨704, 1, 0, 24, .rws, fun _ => 40960, fun v => 1 ≤ v⟩,
  ⟨736, 1, 0, 32, .rws, fun _ => 32768000, fun v => 1 ≤ v⟩,
  ⟨792, 1, 0, 8, .rws, fun _ => 2, fun v => 1 ≤ v⟩,
  ⟨791, 1, 0, 1, .rws, fun _ => 0, fun _ => true⟩,
  ⟨768, 1, 0, 16, .rws, fun _ => 200, fun v => 1 ≤ v⟩,
  ⟨800, 2, 32, 32, .rws, fun _ => 0, fun _ => true⟩] ++
  [
  ⟨888, 1, 0, 8, .rws, fun _ => 16, fun v => 1 ≤ v⟩,
  ⟨880, 1, 0, 8, .rws, fun _ => 8, fun _ => true⟩,
  ⟨872, 1, 0, 8, .rws, fun _ => 25, fun v => 1 ≤ v⟩,
  ⟨871, 1, 0, 1, .rws, fun _ => 0, fun _ => true⟩,
  ⟨912, 1, 0, 16, .rws, fun _ => 0, fun _ => true⟩,
  ⟨896, 1, 0, 16, .rws, fun _ => 10, fun v => 1 ≤ v && v ≤ 3600⟩,
  ⟨928, 1, 0, 32, .ro, fun _ => 0, fun _ => true⟩,
  ⟨1024, 1, 0, 32, .ro, fun _ => 0, fun _ => true⟩,
  ⟨1056, 1, 0, 32, .ro, fun _ => 0, fun _ => true⟩,
  ⟨1088, 1, 0, 32, .wo, fun _ => 0, fun _ => true⟩,
  ⟨1168, 1, 0, 16, .ro, fun _ => 0, fun _ => true⟩,
  ⟨1152, 1, 0, 16, .ro, fun _ => 0, fun _ => true⟩,
  ⟨1184, 1, 0, 24, .ro, fun _ => 0, fun _ => true⟩,
  ⟨1216, 1, 0, 32, .ro, fun _ => 0, fun _ => true⟩,
  ⟨1264, 1, 0, 16, .ro, fun _ => 0, fun _ => true⟩,
  ⟨1248, 1, 0, 16, .ro, fun _ => 0, fun _ => true⟩,
  ⟨129, 1, 0, 3, .ro, fun _ => 0, fun _ => true⟩,
  ⟨128, 1, 0, 1, .ro, fun _ => 1, fun _ => true⟩,
  ⟨165, 1, 0, 1, .w1c, fun _ => 0, fun _ => true⟩,
  ⟨164, 1, 0, 1, .w1c, fun _ => 0, fun _ => true⟩,
  ⟨163, 1, 0, 1, .w1c, fun _ => 0, fun _ => true⟩,
  ⟨162, 1, 0, 1, .w1c, fun _ => 0, fun _ => true⟩,
  ⟨161, 1, 0, 1, .w1c, fun _ => 0, fun _ => true⟩,
  ⟨160, 1, 0, 1, .w1c, fun _ => 0, fun _ => true⟩] ++
  [
  ⟨258, 1, 0, 1, .w1c, fun _ => 0, fun _ => true⟩,
  ⟨257, 1, 0, 1, .w1c, fun _ => 0, fun _ => true⟩,
  ⟨256, 1, 0, 1, .w1c, fun _ => 0, fun _ => true⟩]

end Sys2Proof.Machine
end

