-- ==== Sys2Proof/Machine/RegMapD.lean ====
section
/-! DEFINITION. The register map, from the register tables of spec/: one definition per field under the name the
tables give it (ST_, INT_ and FAULT_ mark bits of STATUS, INT_RAW and FAULT), and one row list per folio type for the
generic access of R10 to R13. Bit numbers count from the folio's base: 8 × offset + lowest bit. -/
namespace Sys2Proof.Machine
open Sys2Proof

/-! ### Fields of LMP (R440, R441) -/
def LMP.TARGET (j : Nat) : Fld := fld (0x13) (528 + 32 * j) 10 0
def LMP.FADE_MS (j : Nat) : Fld := fld (0x13) (512 + 32 * j) 16 0
def LMP.SYNC_EN (j : Nat) : Fld := fld (0x13) (671 + 32 * j) 1 0
def LMP.DERATE_EXEMPT (j : Nat) : Fld := fld (0x13) (670 + 32 * j) 1 0
def LMP.I_TARGET (j : Nat) : Fld := fld (0x13) (640 + 32 * j) 16 100
def LMP.LAMP_EN (j : Nat) : Fld := fld (0x13) (768 + 16 * j) 16 0xFFFF
def LMP.SYNC_DELAY : Fld := fld (0x13) 848 16 0
def LMP.SYNC_WIDTH : Fld := fld (0x13) 832 16 1000
def LMP.LOAD : Fld := fld (0x13) 895 1 0
def LMP.KNEE : Fld := fld (0x13) 872 8 70
def LMP.BIN_ADDR : Fld := fld (0x13) 864 7 81
def LMP.BINS_VALID : Fld := fld (0x13) 927 1 0
def LMP.BINS_BAD : Fld := fld (0x13) 926 1 0
def LMP.DERATE_LEVEL : Fld := fld (0x13) 923 3 2
def LMP.BAD_OFFSET : Fld := fld (0x13) 896 8 0
def LMP.LEVEL_NOW (j : Nat) : Fld := fld (0x13) (1040 + 32 * j) 10 0
def LMP.CODE (j : Nat) : Fld := fld (0x13) (1024 + 32 * j) 8 16
def LMP.CORR (j : Nat) : Fld := fld (0x13) (2048 + 8 * j) 8 255
def LMP.BIN_IMAGE (j : Nat) : Fld := fld (0x13) (4096 + 8 * j) 8 255
def LMP.ST_SYNC_LOST : Fld := fld (0x13) 130 1 0
def LMP.ST_FADING : Fld := fld (0x13) 129 1 0
def LMP.ST_BINS_VALID : Fld := fld (0x13) 128 1 0
def LMP.INT_SYNC_LOST : Fld := fld (0x13) 163 1 0
def LMP.INT_LEVEL_CHANGE : Fld := fld (0x13) 162 1 0
def LMP.INT_BINS_BAD : Fld := fld (0x13) 161 1 0
def LMP.INT_BINS_LOADED : Fld := fld (0x13) 160 1 0
def LMP.FAULT_OVERHEAT : Fld := fld (0x13) 256 1 0

/-- The rows of LMP (R440, R441). -/
def LMP.rows : List Row :=
  [
  ⟨528, 4, 32, 10, .rwl, fun _ => 0, fun _ => true⟩,
  ⟨512, 4, 32, 16, .rwl, fun _ => 0, fun _ => true⟩,
  ⟨671, 4, 32, 1, .rws, fun _ => 0, fun _ => true⟩,
  ⟨670, 4, 32, 1, .rws, fun _ => 0, fun _ => true⟩,
  ⟨640, 4, 32, 16, .rws, fun _ => 100, fun v => 1 ≤ v⟩,
  ⟨768, 4, 16, 16, .rws, fun _ => 0xFFFF, fun _ => true⟩,
  ⟨848, 1, 0, 16, .rws, fun _ => 0, fun _ => true⟩,
  ⟨832, 1, 0, 16, .rws, fun _ => 1000, fun v => 1 ≤ v⟩,
  ⟨895, 1, 0, 1, .wo, fun _ => 0, fun _ => true⟩,
  ⟨872, 1, 0, 8, .rws, fun _ => 70, fun v => 40 ≤ v && v ≤ 110⟩,
  ⟨864, 1, 0, 7, .rw, fun _ => 81, fun _ => true⟩,
  ⟨927, 1, 0, 1, .ro, fun _ => 0, fun _ => true⟩,
  ⟨926, 1, 0, 1, .ro, fun _ => 0, fun _ => true⟩,
  ⟨923, 1, 0, 3, .ro, fun _ => 2, fun _ => true⟩,
  ⟨896, 1, 0, 8, .ro, fun _ => 0, fun _ => true⟩,
  ⟨1040, 4, 32, 10, .ro, fun _ => 0, fun _ => true⟩,
  ⟨1024, 4, 32, 8, .ro, fun _ => 16, fun _ => true⟩,
  ⟨2048, 64, 8, 8, .ro, fun _ => 255, fun _ => true⟩,
  ⟨4096, 100, 8, 8, .rwh, fun _ => 255, fun _ => true⟩,
  ⟨130, 1, 0, 1, .ro, fun _ => 0, fun _ => true⟩,
  ⟨129, 1, 0, 1, .ro, fun _ => 0, fun _ => true⟩,
  ⟨128, 1, 0, 1, .ro, fun _ => 0, fun _ => true⟩,
  ⟨163, 1, 0, 1, .w1c, fun _ => 0, fun _ => true⟩,
  ⟨162, 1, 0, 1, .w1c, fun _ => 0, fun _ => true⟩] ++
  [
  ⟨161, 1, 0, 1, .w1c, fun _ => 0, fun _ => true⟩,
  ⟨160, 1, 0, 1, .w1c, fun _ => 0, fun _ => true⟩,
  ⟨256, 1, 0, 1, .w1c, fun _ => 0, fun _ => true⟩]

/-! ### Fields of PWR (R462, R463) -/
def PWR.ON : Fld := fld (0x23) 543 1 0
def PWR.BY_FOLIO : Fld := fld (0x23) 542 1 0
def PWR.TARGET : Fld := fld (0x23) 512 24 0
def PWR.CMD_BUSY : Fld := fld (0x23) 575 1 0
def PWR.CMD_RESULT : Fld := fld (0x23) 573 2 0
def PWR.REFUSED_DOMAIN : Fld := fld (0x23) 552 8 255
def PWR.CMD_DOMAIN : Fld := fld (0x23) 544 8 0
def PWR.PARK : Fld := fld (0x23) 607 1 0
def PWR.WAKE_SPI : Fld := fld (0x23) 606 1 1
def PWR.WAKE_MON : Fld := fld (0x23) 605 1 1
def PWR.WAKE_S : Fld := fld (0x23) 576 16 0
def PWR.PRIMARY : Fld := fld (0x23) 671 1 0
def PWR.FEED_ACTIVE : Fld := fld (0x23) 670 1 0
def PWR.A_PRESENT : Fld := fld (0x23) 669 1 0
def PWR.B_PRESENT : Fld := fld (0x23) 668 1 0
def PWR.RETURN_MS : Fld := fld (0x23) 640 10 10
def PWR.SWITCH_CNT : Fld := fld (0x23) 688 16 0
def PWR.RETURN_CNT : Fld := fld (0x23) 672 16 0
def PWR.SWITCH_ACC : Fld := fld (0x23) 704 32 0
def PWR.RAIL_GOOD : Fld := fld (0x23) 736 6 0
def PWR.DOM_ON (j : Nat) : Fld := fld (0x23) (768 + 1 * j) 1 (if j = 151 then 1 else 0)
def PWR.ST_PARKED : Fld := fld (0x23) 130 1 0
def PWR.ST_ON_STANDBY : Fld := fld (0x23) 129 1 0
def PWR.ST_CMD_BUSY : Fld := fld (0x23) 128 1 0
def PWR.INT_FLAP : Fld := fld (0x23) 165 1 0
def PWR.INT_STANDBY_ABSENT : Fld := fld (0x23) 164 1 0
def PWR.INT_SWITCHOVER : Fld := fld (0x23) 163 1 0
def PWR.INT_DOM_FAIL : Fld := fld (0x23) 162 1 0
def PWR.INT_DOM_REFUSED : Fld := fld (0x23) 161 1 0
def PWR.INT_DOM_DONE : Fld := fld (0x23) 160 1 0
def PWR.FAULT_STANDBY_ABSENT : Fld := fld (0x23) 257 1 0
def PWR.FAULT_ON_STANDBY : Fld := fld (0x23) 256 1 0

/-- The rows of PWR (R462, R463). -/
def PWR.rows : List Row :=
  [
  ⟨543, 1, 0, 1, .wo, fun _ => 0, fun _ => true⟩,
  ⟨542, 1, 0, 1, .wo, fun _ => 0, fun _ => true⟩,
  ⟨512, 1, 0, 24, .wo, fun _ => 0, fun _ => true⟩,
  ⟨575, 1, 0, 1, .ro, fun _ => 0, fun _ => true⟩,
  ⟨573, 1, 0, 2, .ro, fun _ => 0, fun _ => true⟩,
  ⟨552, 1, 0, 8, .ro, fun _ => 255, fun _ => true⟩,
  ⟨544, 1, 0, 8, .ro, fun _ => 0, fun _ => true⟩,
  ⟨607, 1, 0, 1, .wo, fun _ => 0, fun _ => true⟩,
  ⟨606, 1, 0, 1, .rws, fun _ => 1, fun _ => true⟩,
  ⟨605, 1, 0, 1, .rws, fun _ => 1, fun _ => true⟩,
  ⟨576, 1, 0, 16, .rws, fun _ => 0, fun _ => true⟩,
  ⟨671, 1, 0, 1, .rws, fun _ => 0, fun _ => true⟩,
  ⟨670, 1, 0, 1, .ro, fun _ => 0, fun _ => true⟩,
  ⟨669, 1, 0, 1, .ro, fun _ => 0, fun _ => true⟩,
  ⟨668, 1, 0, 1, .ro, fun _ => 0, fun _ => true⟩,
  ⟨640, 1, 0, 10, .rws, fun _ => 10, fun v => 1 ≤ v && v ≤ 1000⟩,
  ⟨688, 1, 0, 16, .ro, fun _ => 0, fun _ => true⟩,
  ⟨672, 1, 0, 16, .ro, fun _ => 0, fun _ => true⟩,
  ⟨704, 1, 0, 32, .ro, fun _ => 0, fun _ => true⟩,
  ⟨736, 1, 0, 6, .ro, fun _ => 0, fun _ => true⟩,
  ⟨768, 152, 1, 1, .ro, fun j => if j = 151 then 1 else 0, fun _ => true⟩,
  ⟨130, 1, 0, 1, .ro, fun _ => 0, fun _ => true⟩,
  ⟨129, 1, 0, 1, .ro, fun _ => 0, fun _ => true⟩,
  ⟨128, 1, 0, 1, .ro, fun _ => 0, fun _ => true⟩] ++
  [
  ⟨165, 1, 0, 1, .w1c, fun _ => 0, fun _ => true⟩,
  ⟨164, 1, 0, 1, .w1c, fun _ => 0, fun _ => true⟩,
  ⟨163, 1, 0, 1, .w1c, fun _ => 0, fun _ => true⟩,
  ⟨162, 1, 0, 1, .w1c, fun _ => 0, fun _ => true⟩,
  ⟨161, 1, 0, 1, .w1c, fun _ => 0, fun _ => true⟩,
  ⟨160, 1, 0, 1, .w1c, fun _ => 0, fun _ => true⟩,
  ⟨257, 1, 0, 1, .w1c, fun _ => 0, fun _ => true⟩,
  ⟨256, 1, 0, 1, .w1c, fun _ => 0, fun _ => true⟩]

/-! ### Fields of RST (R485, R486) -/
def RST.REQ_REACH : Fld := fld (0x22) 542 2 0
def RST.GO : Fld := fld (0x22) 541 1 0
def RST.REQ_TARGET : Fld := fld (0x22) 512 24 0
def RST.BOOTSEL : Fld := fld (0x22) 573 3 0
def RST.CLKSEL : Fld := fld (0x22) 571 2 0
def RST.SAFEMODE : Fld := fld (0x22) 570 1 0
def RST.CLKSEL_BAD : Fld := fld (0x22) 569 1 0
def RST.WDOG_EN : Fld := fld (0x22) 607 1 1
def RST.WDOG_REACH : Fld := fld (0x22) 606 1 1
def RST.WDOG_MS : Fld := fld (0x22) 576 16 2000
def RST.WDOG_KICK : Fld := fld (0x22) 608 32 0
def RST.EPISODES : Fld := fld (0x22) 656 16 0
def RST.OPEN : Fld := fld (0x22) 640 5 0
def RST.HOLD (j : Nat) : Fld := fld (0x22) (1055 + 32 * j) 1 0
def RST.SLOT_PENDING_CLK (j : Nat) : Fld := fld (0x22) (1054 + 32 * j) 1 0
def RST.SLOT_CLK_TMO (j : Nat) : Fld := fld (0x22) (1053 + 32 * j) 1 0
def RST.HOLD_TARGET (j : Nat) : Fld := fld (0x22) (1024 + 32 * j) 24 0
def RST.LEDGER_SEL : Fld := fld (0x22) 2048 4 0
def RST.LEDGER (j : Nat) : Fld := fld (0x22) (2080 + 32 * j) 32 0
def RST.ST_PENDING_CLK : Fld := fld (0x22) 129 1 0
def RST.ST_EPISODE_OPEN : Fld := fld (0x22) 128 1 0
def RST.INT_CLK_TMO : Fld := fld (0x22) 161 1 0
def RST.INT_EPISODE_END : Fld := fld (0x22) 160 1 0
def RST.FAULT_CLK_TMO : Fld := fld (0x22) 257 1 0
def RST.FAULT_WATCHDOG : Fld := fld (0x22) 256 1 0

/-- The rows of RST (R485, R486). -/
def RST.rows : List Row :=
  [
  ⟨542, 1, 0, 2, .wo, fun _ => 0, fun _ => true⟩,
  ⟨541, 1, 0, 1, .wo, fun _ => 0, fun _ => true⟩,
  ⟨512, 1, 0, 24, .wo, fun _ => 0, fun _ => true⟩,
  ⟨573, 1, 0, 3, .ro, fun _ => 0, fun _ => true⟩,
  ⟨571, 1, 0, 2, .ro, fun _ => 0, fun _ => true⟩,
  ⟨570, 1, 0, 1, .ro, fun _ => 0, fun _ => true⟩,
  ⟨569, 1, 0, 1, .ro, fun _ => 0, fun _ => true⟩,
  ⟨607, 1, 0, 1, .rws, fun _ => 1, fun _ => true⟩,
  ⟨606, 1, 0, 1, .rws, fun _ => 1, fun _ => true⟩,
  ⟨576, 1, 0, 16, .rws, fun _ => 2000, fun v => 10 ≤ v && v ≤ 60000⟩,
  ⟨608, 1, 0, 32, .wo, fun _ => 0, fun _ => true⟩,
  ⟨656, 1, 0, 16, .ro, fun _ => 0, fun _ => true⟩,
  ⟨640, 1, 0, 5, .ro, fun _ => 0, fun _ => true⟩,
  ⟨1055, 8, 32, 1, .rw, fun _ => 0, fun _ => true⟩,
  ⟨1054, 8, 32, 1, .ro, fun _ => 0, fun _ => true⟩,
  ⟨1053, 8, 32, 1, .ro, fun _ => 0, fun _ => true⟩,
  ⟨1024, 8, 32, 24, .rw, fun _ => 0, fun _ => true⟩,
  ⟨2048, 1, 0, 4, .rw, fun _ => 0, fun _ => true⟩,
  ⟨2080, 4, 32, 32, .ro, fun _ => 0, fun _ => true⟩,
  ⟨129, 1, 0, 1, .ro, fun _ => 0, fun _ => true⟩,
  ⟨128, 1, 0, 1, .ro, fun _ => 0, fun _ => true⟩,
  ⟨161, 1, 0, 1, .w1c, fun _ => 0, fun _ => true⟩,
  ⟨160, 1, 0, 1, .w1c, fun _ => 0, fun _ => true⟩,
  ⟨257, 1, 0, 1, .w1c, fun _ => 0, fun _ => true⟩] ++
  [
  ⟨256, 1, 0, 1, .w1c, fun _ => 0, fun _ => true⟩]

/-! ### Fields of CLK (R487, R488) -/
def CLK.PLL_LOCK : Fld := fld (0x20) 512 6 0
def CLK.UNLOCKS (j : Nat) : Fld := fld (0x20) (560 + 32 * j) 16 0
def CLK.ST_ALL_LOCKED : Fld := fld (0x20) 128 1 0
def CLK.INT_UNLOCK : Fld := fld (0x20) 160 1 0
def CLK.FAULT_UNLOCK : Fld := fld (0x20) 256 1 0

/-- The rows of CLK (R487, R488). -/
def CLK.rows : List Row :=
  [
  ⟨512, 1, 0, 6, .ro, fun _ => 0, fun _ => true⟩,
  ⟨560, 6, 32, 16, .ro, fun _ => 0, fun _ => true⟩,
  ⟨128, 1, 0, 1, .ro, fun _ => 0, fun _ => true⟩,
  ⟨160, 1, 0, 1, .w1c, fun _ => 0, fun _ => true⟩,
  ⟨256, 1, 0, 1, .w1c, fun _ => 0, fun _ => true⟩]

/-! ### Fields of the clock checker (R487, R488) -/
def CHK.REF_GOOD : Fld := fld (0x25) 543 1 0
def CHK.CLK_GOOD : Fld := fld (0x25) 512 6 0
def CHK.REF_COUNT : Fld := fld (0x25) 544 9 0
def CHK.EXPECTED (j : Nat) : Fld := fld (0x25) (1040 + 32 * j) 16 ([8192, 10240, 12288, 5120, 2048, 512].getD j 0)
def CHK.COUNT (j : Nat) : Fld := fld (0x25) (1024 + 32 * j) 16 0
def CHK.ST_ALL_GOOD : Fld := fld (0x25) 128 1 0
def CHK.INT_CLK_LOST : Fld := fld (0x25) 161 1 0
def CHK.INT_CLK_GOOD : Fld := fld (0x25) 160 1 0
def CHK.FAULT_REF : Fld := fld (0x25) 262 1 0
def CHK.FAULT_DOMAIN (j : Nat) : Fld := fld (0x25) (256 + 1 * j) 1 0

/-- The rows of the clock checker (R487, R488). -/
def CHK.rows : List Row :=
  [
  ⟨543, 1, 0, 1, .ro, fun _ => 0, fun _ => true⟩,
  ⟨512, 1, 0, 6, .ro, fun _ => 0, fun _ => true⟩,
  ⟨544, 1, 0, 9, .ro, fun _ => 0, fun _ => true⟩,
  ⟨1040, 6, 32, 16, .ro, fun j => [8192, 10240, 12288, 5120, 2048, 512].getD j 0, fun _ => true⟩,
  ⟨1024, 6, 32, 16, .ro, fun _ => 0, fun _ => true⟩,
  ⟨128, 1, 0, 1, .ro, fun _ => 0, fun _ => true⟩,
  ⟨161, 1, 0, 1, .w1c, fun _ => 0, fun _ => true⟩,
  ⟨160, 1, 0, 1, .w1c, fun _ => 0, fun _ => true⟩,
  ⟨262, 1, 0, 1, .w1c, fun _ => 0, fun _ => true⟩,
  ⟨256, 6, 1, 1, .w1c, fun _ => 0, fun _ => true⟩]

/-! ### Fields of SEC (R512, R513) -/
def SEC.CMD : Fld := fld (0x1E) 540 4 0
def SEC.DEST : Fld := fld (0x1E) 532 8 0
def SEC.SRC_ADDR : Fld := fld (0x1E) 544 32 0
def SEC.SRC_LEN : Fld := fld (0x1E) 576 32 0
def SEC.BUSY : Fld := fld (0x1E) 639 1 0
def SEC.RESULT : Fld := fld (0x1E) 608 4 0
def SEC.XMSS_NEXT : Fld := fld (0x1E) 640 32 0
def SEC.XMSS_CUR : Fld := fld (0x1E) 672 32 0
def SEC.XMSS_RESERVE : Fld := fld (0x1E) 704 8 8
def SEC.MIN_SEC_VER_HOST : Fld := fld (0x1E) 736 32 0
def SEC.MIN_SEC_VER_ENGINE : Fld := fld (0x1E) 768 32 0
def SEC.ENROLLED : Fld := fld (0x1E) 804 4 0
def SEC.REVOKED : Fld := fld (0x1E) 800 4 0
def SEC.HOST_VOL_ID : Fld := fld (0x1E) 848 16 0
def SEC.HOST_VOL_VER : Fld := fld (0x1E) 832 16 0
def SEC.NONCE (j : Nat) : Fld := fld (0x1E) (1024 + 8 * j) 8 0
def SEC.DEVICE_ID (j : Nat) : Fld := fld (0x1E) (1280 + 8 * j) 8 0
def SEC.OUT (j : Nat) : Fld := fld (0x1E) (8192 + 8 * j) 8 0
def SEC.ST_BOOTSEL_BAD : Fld := fld (0x1E) 132 1 0
def SEC.ST_EXHAUSTED : Fld := fld (0x1E) 131 1 0
def SEC.ST_XMSS_WARN : Fld := fld (0x1E) 130 1 0
def SEC.ST_BOOT_REVERTED : Fld := fld (0x1E) 129 1 0
def SEC.ST_BUSY : Fld := fld (0x1E) 128 1 0
def SEC.INT_XMSS_WARN : Fld := fld (0x1E) 162 1 0
def SEC.INT_REFUSED : Fld := fld (0x1E) 161 1 0
def SEC.INT_DONE : Fld := fld (0x1E) 160 1 0
def SEC.FAULT_BOOT : Fld := fld (0x1E) 258 1 0
def SEC.FAULT_STATE_LOST : Fld := fld (0x1E) 257 1 0
def SEC.FAULT_EXHAUSTED : Fld := fld (0x1E) 256 1 0

/-- The rows of SEC (R512, R513). -/
def SEC.rows : List Row :=
  [
  ⟨540, 1, 0, 4, .wo, fun _ => 0, fun _ => true⟩,
  ⟨532, 1, 0, 8, .wo, fun _ => 0, fun _ => true⟩,
  ⟨544, 1, 0, 32, .rw, fun _ => 0, fun _ => true⟩,
  ⟨576, 1, 0, 32, .rw, fun _ => 0, fun _ => true⟩,
  ⟨639, 1, 0, 1, .ro, fun _ => 0, fun _ => true⟩,
  ⟨608, 1, 0, 4, .ro, fun _ => 0, fun _ => true⟩,
  ⟨640, 1, 0, 32, .ro, fun _ => 0, fun _ => true⟩,
  ⟨672, 1, 0, 32, .ro, fun _ => 0, fun _ => true⟩,
  ⟨704, 1, 0, 8, .rws, fun _ => 8, fun v => 1 ≤ v⟩,
  ⟨736, 1, 0, 32, .ro, fun _ => 0, fun _ => true⟩,
  ⟨768, 1, 0, 32, .ro, fun _ => 0, fun _ => true⟩,
  ⟨804, 1, 0, 4, .ro, fun _ => 0, fun _ => true⟩,
  ⟨800, 1, 0, 4, .ro, fun _ => 0, fun _ => true⟩,
  ⟨848, 1, 0, 16, .ro, fun _ => 0, fun _ => true⟩,
  ⟨832, 1, 0, 16, .ro, fun _ => 0, fun _ => true⟩,
  ⟨1024, 32, 8, 8, .rw, fun _ => 0, fun _ => true⟩,
  ⟨1280, 32, 8, 8, .ro, fun _ => 0, fun _ => true⟩,
  ⟨8192, 3072, 8, 8, .ro, fun _ => 0, fun _ => true⟩,
  ⟨132, 1, 0, 1, .ro, fun _ => 0, fun _ => true⟩,
  ⟨131, 1, 0, 1, .ro, fun _ => 0, fun _ => true⟩,
  ⟨130, 1, 0, 1, .ro, fun _ => 0, fun _ => true⟩,
  ⟨129, 1, 0, 1, .ro, fun _ => 0, fun _ => true⟩,
  ⟨128, 1, 0, 1, .ro, fun _ => 0, fun _ => true⟩,
  ⟨162, 1, 0, 1, .w1c, fun _ => 0, fun _ => true⟩] ++
  [
  ⟨161, 1, 0, 1, .w1c, fun _ => 0, fun _ => true⟩,
  ⟨160, 1, 0, 1, .w1c, fun _ => 0, fun _ => true⟩,
  ⟨258, 1, 0, 1, .w1c, fun _ => 0, fun _ => true⟩,
  ⟨257, 1, 0, 1, .w1c, fun _ => 0, fun _ => true⟩,
  ⟨256, 1, 0, 1, .w1c, fun _ => 0, fun _ => true⟩]

/-! ### Fields of NVS (R514, R515) -/
def NVS.WADDR : Fld := fld (0x1F) 515 19 0
def NVS.WDATA_LO : Fld := fld (0x1F) 544 32 0
def NVS.WDATA_HI : Fld := fld (0x1F) 576 32 0
def NVS.WGO : Fld := fld (0x1F) 639 1 0
def NVS.CE_COUNT : Fld := fld (0x1F) 656 16 0
def NVS.UE_COUNT : Fld := fld (0x1F) 640 16 0
def NVS.LAST_UE_ADDR : Fld := fld (0x1F) 672 22 0
def NVS.BLOCKED_CNT : Fld := fld (0x1F) 720 16 0
def NVS.FLASH_MIB : Fld := fld (0x1F) 760 8 0
def NVS.XSPI_8D : Fld := fld (0x1F) 759 1 0
def NVS.ST_NVS_OK : Fld := fld (0x1F) 129 1 0
def NVS.ST_WRITING : Fld := fld (0x1F) 128 1 0
def NVS.INT_UE : Fld := fld (0x1F) 162 1 0
def NVS.INT_CE : Fld := fld (0x1F) 161 1 0
def NVS.INT_BLOCKED : Fld := fld (0x1F) 160 1 0
def NVS.FAULT_FLASH : Fld := fld (0x1F) 257 1 0
def NVS.FAULT_UE : Fld := fld (0x1F) 256 1 0

/-- The rows of NVS (R514, R515). -/
def NVS.rows : List Row :=
  [
  ⟨515, 1, 0, 19, .rw, fun _ => 0, fun _ => true⟩,
  ⟨544, 1, 0, 32, .rw, fun _ => 0, fun _ => true⟩,
  ⟨576, 1, 0, 32, .rw, fun _ => 0, fun _ => true⟩,
  ⟨639, 1, 0, 1, .wo, fun _ => 0, fun _ => true⟩,
  ⟨656, 1, 0, 16, .ro, fun _ => 0, fun _ => true⟩,
  ⟨640, 1, 0, 16, .ro, fun _ => 0, fun _ => true⟩,
  ⟨672, 1, 0, 22, .ro, fun _ => 0, fun _ => true⟩,
  ⟨720, 1, 0, 16, .ro, fun _ => 0, fun _ => true⟩,
  ⟨760, 1, 0, 8, .ro, fun _ => 0, fun _ => true⟩,
  ⟨759, 1, 0, 1, .ro, fun _ => 0, fun _ => true⟩,
  ⟨129, 1, 0, 1, .ro, fun _ => 0, fun _ => true⟩,
  ⟨128, 1, 0, 1, .ro, fun _ => 0, fun _ => true⟩,
  ⟨162, 1, 0, 1, .w1c, fun _ => 0, fun _ => true⟩,
  ⟨161, 1, 0, 1, .w1c, fun _ => 0, fun _ => true⟩,
  ⟨160, 1, 0, 1, .w1c, fun _ => 0, fun _ => true⟩,
  ⟨257, 1, 0, 1, .w1c, fun _ => 0, fun _ => true⟩,
  ⟨256, 1, 0, 1, .w1c, fun _ => 0, fun _ => true⟩]

/-! ### Fields of MON (R532, R533) -/
def MON.UNLOCKED : Fld := fld (0x1B) 543 1 0
def MON.SCOPE : Fld := fld (0x1B) 536 3 0
def MON.UNLOCK_LEFT : Fld := fld (0x1B) 512 17 0
def MON.UNLOCK_FAIL : Fld := fld (0x1B) 560 16 0
def MON.UNLOCK_COUNT : Fld := fld (0x1B) 544 16 0
def MON.BAUD : Fld := fld (0x1B) 576 2 0
def MON.FRAME_ERR : Fld := fld (0x1B) 624 16 0
def MON.RX_OVF : Fld := fld (0x1B) 608 16 0
def MON.RECOV_LEN : Fld := fld (0x1B) 640 23 0
def MON.RECOV_GO : Fld := fld (0x1B) 703 1 0
def MON.RECOV_RESULT : Fld := fld (0x1B) 672 4 0
def MON.ST_EXTEST : Fld := fld (0x1B) 129 1 0
def MON.ST_UNLOCKED : Fld := fld (0x1B) 128 1 0
def MON.INT_RELOCK : Fld := fld (0x1B) 161 1 0
def MON.INT_UNLOCK : Fld := fld (0x1B) 160 1 0
def MON.FAULT_UNLOCK_FAIL : Fld := fld (0x1B) 256 1 0

/-- The rows of MON (R532, R533). -/
def MON.rows : List Row :=
  [
  ⟨543, 1, 0, 1, .ro, fun _ => 0, fun _ => true⟩,
  ⟨536, 1, 0, 3, .ro, fun _ => 0, fun _ => true⟩,
  ⟨512, 1, 0, 17, .ro, fun _ => 0, fun _ => true⟩,
  ⟨560, 1, 0, 16, .ro, fun _ => 0, fun _ => true⟩,
  ⟨544, 1, 0, 16, .ro, fun _ => 0, fun _ => true⟩,
  ⟨576, 1, 0, 2, .ro, fun _ => 0, fun _ => true⟩,
  ⟨624, 1, 0, 16, .ro, fun _ => 0, fun _ => true⟩,
  ⟨608, 1, 0, 16, .ro, fun _ => 0, fun _ => true⟩,
  ⟨640, 1, 0, 23, .rw, fun _ => 0, fun v => 3080 ≤ v && v ≤ 4197380⟩,
  ⟨703, 1, 0, 1, .wo, fun _ => 0, fun _ => true⟩,
  ⟨672, 1, 0, 4, .ro, fun _ => 0, fun _ => true⟩,
  ⟨129, 1, 0, 1, .ro, fun _ => 0, fun _ => true⟩,
  ⟨128, 1, 0, 1, .ro, fun _ => 0, fun _ => true⟩,
  ⟨161, 1, 0, 1, .w1c, fun _ => 0, fun _ => true⟩,
  ⟨160, 1, 0, 1, .w1c, fun _ => 0, fun _ => true⟩,
  ⟨256, 1, 0, 1, .w1c, fun _ => 0, fun _ => true⟩]

end Sys2Proof.Machine
end

