-- ==== Sys2Proof/Machine/Folios.lean ====
section
/-! DEFINITION. The folio tree (R23, R38, R41, R43, R44): which folio lies on which page, its children, its power
domain (R453), its fixed identity words, the fields of the common layout, and each folio's rows. A folio is named by
its page number, its address less 0x4000_0000 over 0x1000. -/
namespace Sys2Proof.Machine
open Sys2Proof

/-- The number of folios as shipped (R44). -/
def folioCount : Nat := 183

/-- First page, number of pages and type code of each run of folios (R43, R44). -/
def folioRuns : List (Nat × Nat × Nat) := [
  (0, 1, 0x001), (1, 1, 0x002), (2, 1, 0x009), (3, 1, 0x00A), (4, 1, 0x00B), (5, 1, 0x00C), (6, 1, 0x00D),
  (7, 1, 0x003), (8, 1, 0x004), (9, 1, 0x104), (0xA, 1, 0x005), (0xB, 1, 0x006), (0xC, 1, 0x008),
  (0xD, 1, 0x109), (0xE, 1, 0x10A), (0xF, 1, 0x10B), (0x10, 1, 0x10C), (0x11, 1, 0x10D),
  (0x12, 1, 0x10E), (0x13, 1, 0x10F), (0x14, 4, 0x110), (0x18, 2, 0x111),
  (0x1A, 1, 0x112), (0x1B, 1, 0x114), (0x1C, 1, 0x115), (0x1D, 1, 0x116), (0x1E, 1, 0x117), (0x1F, 1, 0x118),
  (0x20, 1, 0x119), (0x21, 1, 0x11A), (0x22, 1, 0x11B), (0x23, 1, 0x11C), (0x24, 1, 0x11D), (0x25, 1, 0x11E),
  (0x26, 11, 0x101), (0x31, 33, 0x102), (0x52, 1, 0x103), (0x53, 16, 0x105), (0x63, 9, 0x007),
  (0x6C, 1, 0x107), (0x6D, 1, 0x108), (0x6E, 1, 0x113), (0x6F, 72, 0x106)]

/-- Type code and instance of a page, looked up in the runs. -/
def folioFind (p : Nat) : List (Nat × Nat × Nat) → Nat × Nat
  | [] => (0, 0)
  | (first, n, code) :: t => if first ≤ p && p < first + n then (code, p - first) else folioFind p t

/-- TYPE of a folio (R43). -/
def folioType (p : Nat) : Nat := (folioFind p folioRuns).1

/-- INSTANCE of a folio (R41): its index among folios of the same type. -/
def folioInstance (p : Nat) : Nat := (folioFind p folioRuns).2

/-- First child page and number of direct children (R44, the folio tree of spec/01). -/
def childrenOf (p : Nat) : Nat × Nat :=
  if p = 0 then (1, 6) else if p = 1 then (7, 6) else if p = 2 then (0xD, 5) else if p = 3 then (0x12, 2)
  else if p = 4 then (0x14, 6) else if p = 5 then (0x1A, 7) else if p = 6 then (0x21, 5) else if p = 7 then (0x26, 11)
  else if p = 8 then (0x31, 34) else if p = 0xA then (0x53, 16) else if p = 0xB then (0x63, 9) else if p = 0xC then (0x6C, 2)
  else if p = 0x1A then (0x6E, 1) else if 0x63 ≤ p && p ≤ 0x6B then (0x6F + 8 * (p - 0x63), 8) else (0, 0)

/-- The direct children of a folio, in order. -/
def childPages (p : Nat) : List Nat := List.range' (childrenOf p).1 (childrenOf p).2

/-- The folios beneath `p` down to a depth, each before its own children. -/
def beneath : Nat → Nat → List Nat
  | 0, _ => []
  | d + 1, p => (childPages p).flatMap fun c => c :: beneath d c

/-- Every folio beneath `p` at every depth (R44): the tree is five levels deep at most. -/
def descendants (p : Nat) : List Nat := beneath 4 p

/-- A folio and everything beneath it: what R24 reaches. -/
def subtree (p : Nat) : List Nat := p :: descendants p

/-- Whether a folio has children. -/
def isGroup (p : Nat) : Bool := (childrenOf p).2 != 0

/-- The unit folios at and beneath `p`, whose power domains a request to `p` names (R24). -/
def leaves (p : Nat) : List Nat := (subtree p).filter fun c => !isGroup c

/-! ### Pages by name -/

def pACQ : Nat := 9
def pREG : Nat := 0xB
def pSCN : Nat := 0xD
def pAFE : Nat := 0xE
def pCONVM : Nat := 0xF
def pCONVH : Nat := 0x10
def pFLT : Nat := 0x11
def pEMT : Nat := 0x12
def pLMP : Nat := 0x13
def pHCP : Nat := 0x1A
def pMON : Nat := 0x1B
def pCAL : Nat := 0x1C
def pTHM : Nat := 0x1D
def pSEC : Nat := 0x1E
def pNVS : Nat := 0x1F
def pCLK : Nat := 0x20
def pSAF : Nat := 0x21
def pRST : Nat := 0x22
def pPWR : Nat := 0x23
def pWATCH : Nat := 0x24
def pCHK : Nat := 0x25
def pTIM : Nat := 0x52
def pPASM : Nat := 0x6C
def pPCOD : Nat := 0x6D
def pI2C : Nat := 0x6E
/-- Lane l: L0 to L3, then C0 and C1. -/
def pLane (l : Nat) : Nat := 0x14 + l
def pDet (j : Nat) : Nat := 0x26 + j
def pBank (b : Nat) : Nat := 0x31 + b
def pSbank (b : Nat) : Nat := 0x53 + b
def pRe (k : Nat) : Nat := 0x6F + k

/-! ### Power domains -/

/-- The power domain of a folio's unit (R453; log 9 for the folios that R453 does not name). -/
def domainOf (p : Nat) : Nat :=
  if 0x6F ≤ p then p - 0x6F
  else if 0x31 ≤ p && p ≤ 0x51 then 72 + (p - 0x31)
  else if 0x26 ≤ p && p ≤ 0x30 then 105 + (p - 0x26)
  else if 0x53 ≤ p && p ≤ 0x62 then 116 + (p - 0x53)
  else if 0x14 ≤ p && p ≤ 0x19 then 132 + (p - 0x14)
  else if p = pCONVM then 138 else if p = pCONVH then 139 else if p = pFLT then 140 else if p = pAFE then 141
  else if p = pSCN then 142 else if p = pEMT then 143 else if p = pLMP then 144
  else if p = pPASM then 145 else if p = pPCOD then 146
  else if p = pHCP || p = pI2C || p = pMON then 147
  else if p = pNVS then 148 else if p = pSEC then 149
  else if 0x21 ≤ p && p ≤ 0x25 then 151
  else 150

/-- The page of the unit that owns a domain of 0 to 149; the catalogue for the fabric, SAF for the sentinel domain. -/
def pageOfDomain (d : Nat) : Nat :=
  if d ≤ 71 then pRe d else if d ≤ 104 then pBank (d - 72) else if d ≤ 115 then pDet (d - 105)
  else if d ≤ 131 then pSbank (d - 116) else if d ≤ 137 then pLane (d - 132)
  else if d = 138 then pCONVM else if d = 139 then pCONVH else if d = 140 then pFLT else if d = 141 then pAFE
  else if d = 142 then pSCN else if d = 143 then pEMT else if d = 144 then pLMP else if d = 145 then pPASM
  else if d = 146 then pPCOD else if d = 147 then pHCP else if d = 148 then pNVS else if d = 149 then pSEC
  else if d = 150 then 0 else pSAF

/-- The folios whose power domain is `d`. -/
def pagesOfDomain (d : Nat) : List Nat := (List.range folioCount).filter fun p => domainOf p = d

/-! ### The common layout (R41) -/

def C.SEL_MAJOR (p : Nat) : Fld := fld p 32 8 1
def C.HALT (p : Nat) : Fld := fld p 127 1 0
def C.VIEW (p : Nat) : Fld := fld p 125 2 0
def C.BUSY (p : Nat) : Fld := fld p 159 1 0
def C.HALTED (p : Nat) : Fld := fld p 158 1 0
def C.STALE (p : Nat) : Fld := fld p 156 1 0
def C.ERR_BUSY (p : Nat) : Fld := fld p 151 1 0
def C.ERR_VALUE (p : Nat) : Fld := fld p 150 1 0
def C.ERR_STATE (p : Nat) : Fld := fld p 149 1 0
def C.ERR_LOCK (p : Nat) : Fld := fld p 148 1 0
def C.ERR_ADDR (p : Nat) : Fld := fld p 147 1 0
def C.INT_RAW (p i : Nat) : Fld := fld p (160 + i) 1 0
def C.INT_EN_HI (p : Nat) : Fld := fld p (192 + 29) 3 0
def C.INT_EN (p : Nat) : Fld := fld p 192 16 0
/-- Bit i of FAULT: 24 SAFETY, 25 THERMAL, 26 HEALTH, 27 RANGE, 28 TIMEOUT, 29 POWER, 30 CLOCK, 31 ECC. -/
def C.FAULT (p i : Nat) : Fld := fld p (256 + i) 1 0
def C.GEN_LOW (p : Nat) : Fld := fld p 304 16 0
def C.STAGED (p : Nat) : Fld := fld p 302 1 0
def C.APPLYING (p : Nat) : Fld := fld p 301 1 0
def C.REFUSED (p : Nat) : Fld := fld p 300 1 0
def C.EN (p : Nat) : Fld := fld p 351 1 0
def C.SYNC_STRETCH (p : Nat) : Fld := fld p 344 4 0
def C.HS_DELAY (p : Nat) : Fld := fld p 336 8 0
def C.BP_DUTY (p : Nat) : Fld := fld p 332 4 0
def C.FLAG_DELAY (p : Nat) : Fld := fld p 328 4 0
def C.BP_SEED (p : Nat) : Fld := fld p 320 8 0

/-- The SAFETY bit of FAULT. -/
def safetyBit : Nat := 24

/-- The common rows that a generic write may change: SEL_MAJOR, VIEW, the ERR_ bits, INT_EN and the common FAULT bits.
HALT and PERTURB have rules of their own (R48, R49, R64). -/
def commonRows : List Row := [
  ⟨32, 1, 0, 8, .rwh, fun _ => 1, fun v => v = 1⟩,
  ⟨125, 1, 0, 2, .rw, fun _ => 0, fun v => v ≤ 2⟩,
  ⟨147, 5, 1, 1, .w1c, fun _ => 0, fun _ => true⟩,
  ⟨221, 1, 0, 3, .rw, fun _ => 0, fun _ => true⟩,
  ⟨192, 1, 0, 16, .rw, fun _ => 0, fun _ => true⟩,
  ⟨280, 8, 1, 1, .w1c, fun _ => 0, fun _ => true⟩]

/-- The unit's own rows of a folio. -/
def unitRows (p : Nat) : List Row :=
  if p = 0 then CAT.rows else if 0x6F ≤ p then RE.rows
  else if 0x26 ≤ p && p ≤ 0x30 then DET.rows else if 0x31 ≤ p && p ≤ 0x51 then BANK.rows
  else if 0x53 ≤ p && p ≤ 0x62 then SBANK.rows
  else if p = 0x14 then LANE.rows 0 ++ L0.rows
  else if 0x15 ≤ p && p ≤ 0x17 then LANE.rows (p - 0x14)
  else if p = 0x18 then LANE.rows 4 ++ CTL.rows ++ CTL.rows0
  else if p = 0x19 then LANE.rows 5 ++ CTL.rows ++ CTL.rows1
  else if p = pTIM then TIM.rows else if p = pACQ then ACQ.rows else if p = pREG then REG.rows
  else if p = pPASM then PASM.rows else if p = pPCOD then PCOD.rows else if p = pEMT then EMT.rows
  else if p = pSCN then SCN.rows else if p = pAFE then AFE.rows else if p = pCONVM then CONVM.rows
  else if p = pCONVH then CONVH.rows else if p = pFLT then FLT.rows else if p = pCAL then CAL.rows
  else if p = pTHM then THM.rows else if p = pWATCH then WATCH.rows else if p = pSAF then SAF.rows
  else if p = pLMP then LMP.rows else if p = pPWR then PWR.rows else if p = pRST then RST.rows
  else if p = pCLK then CLK.rows else if p = pCHK then CHK.rows else if p = pSEC then SEC.rows
  else if p = pNVS then NVS.rows else if p = pMON then MON.rows else []

/-- Every row of a folio. -/
def rowsOf (p : Nat) : List Row := commonRows ++ unitRows p

/-- Element j of a row, as a field of folio `p`. -/
def Row.fld (r : Row) (p j : Nat) : Fld := ⟨p * pageBits + (r.bit + r.stride * j), r.width, r.reset j⟩

/-- The fields of a folio that carry an access code. -/
def fieldsOf (p : Nat) (a : Acc) : List Fld :=
  ((unitRows p).filter fun r => r.acc = a).flatMap fun r => (List.range r.n).map (r.fld p)

/-- The elements of a row that begin in the word whose first bit is `w0`. -/
def Row.inWord (r : Row) (w0 : Nat) : List Nat :=
  (List.range r.n).filter fun j => w0 ≤ r.bit + r.stride * j && r.bit + r.stride * j < w0 + 32

/-- Whether a folio's layout defines a word (R39): the common words, the reserved ones among them (log 16), and every
word of the unit's region that holds a field of the unit's tables. -/
def defined (p off : Nat) : Bool :=
  off < 0x40 || (unitRows p).any fun r => !(r.inWord (8 * off)).isEmpty

/-! ### The fixed words -/

/-- CAPS.HALTABLE (the chapters; EMT by R95, log 10 for those that state nothing). -/
def haltable (p : Nat) : Bool :=
  if 0x6F ≤ p || (0x26 ≤ p && p ≤ 0x51) || p = pEMT || p = pSCN || p = pCONVH || p = pCONVM || p = pCAL || p = pLMP then true
  else if isGroup p || p = pI2C then Config.haltable p else false

/-- CAPS.SAFETY_RELEVANT (the chapters; EMT by its faults that set SAFETY, log 10). -/
def safetyRelevant (p : Nat) : Bool :=
  if 0x6F ≤ p || (0x26 ≤ p && p ≤ 0x62) || p = pEMT || p = pSCN || p = pCONVM || p = pACQ || p = pSAF || p = pPWR
    || p = pRST || p = pCHK || p = pWATCH then true
  else if isGroup p || p = pI2C then Config.safetyRelevant p else false

/-- CAPS.SHADOWED: the folio has RWS fields; every lane folio states 1 (R306). -/
def shadowed (p : Nat) : Bool := ((unitRows p).any fun r => r.acc = .rws) || (0x14 ≤ p && p ≤ 0x19)

/-- CAPS.LIVE: the folio has RWL fields. -/
def live (p : Nat) : Bool := (unitRows p).any fun r => r.acc = .rwl

/-- The ID word. -/
def idWord (p : Nat) : Nat := folioType p * 2 ^ 20 + folioInstance p * 2 ^ 8

/-- The CAPS word. -/
def capsWord (p : Nat) : Nat :=
  b2n (isGroup p) * 2 ^ 31 + b2n (haltable p) * 2 ^ 30 + b2n (shadowed p) * 2 ^ 29 + b2n (live p) * 2 ^ 28
    + b2n (safetyRelevant p) * 2 ^ 27 + (Config.unitCaps p).toNat

/-- The CHILD_BASE word. -/
def childBaseWord (p : Nat) : Nat := if isGroup p then 0x40000000 + (childrenOf p).1 * 0x1000 else 0

/-- The CHILD_COUNT word. -/
def childCountWord (p : Nat) : Nat := (descendants p).length * 2 ^ 16 + (childrenOf p).2

/-- The address of a folio. -/
def folioAddr (p : Nat) : Nat := 0x40000000 + p * 0x1000

/-- The common FAULT bits that a unit fault bit also sets (the fault tables of the chapters), as a mask. -/
def faultCommons (p b : Nat) : Nat :=
  let m := fun (l : List Nat) => l.getD b 0
  if p = pEMT then m [0x10000000, 0x01000000, 0x01000000, 0x08000000, 0x02000000]
  else if 0x26 ≤ p && p ≤ 0x30 then m [0x04000000, 0x04000000, 0x04000000, 0x09000000]
  else if 0x31 ≤ p && p ≤ 0x51 then m [0x80000000, 0x05000000, 0x04000000]
  else if p = pTIM then m [0x10000000, 0x08000000, 0x10000000, 0x08000000, 0x05000000]
  else if p = pACQ then m [0x11000000]
  else if 0x53 ≤ p && p ≤ 0x62 then m [0x80000000]
  else if 0x6F ≤ p then m [0x04000000, 0x04000000, 0x05000000, 0x84000000, 0x04000000]
  else if p = pPASM then m [0x08000000, 0x10000000]
  else if p = pPCOD then m [0x04000000]
  else if 0x14 ≤ p && p ≤ 0x19 then m [0x04000000, 0x08000000, 0x10000000, 0x10000000, 0x10000000]
  else if p = pSCN then m [0x09000000, 0x11000000, 0x01000000, 0x05000000, 0x01000000, 0x02000000, 0x08000000]
  else if p = pAFE then m [0x08000000, 0x08000000]
  else if p = pCONVH then m [0x08000000]
  else if p = pFLT then m [0x08000000]
  else if p = pCONVM then m [0x08000000, 0x11000000]
  else if p = pCAL then m [0x08000000, 0x08000000, 0x04000000]
  else if p = pTHM then m [0x02000000, 0x08000000]
  else if p = pWATCH then m [0x03000000, 0x09000000]
  else if p = pSAF then m [0x01000000, 0x05000000, 0x05000000]
  else if p = pLMP then m [0x02000000]
  else if p = pPWR then m [0x21000000, 0x21000000]
  else if p = pRST then m [0x10000000, 0x40000000]
  else if p = pCLK then m [0x40000000]
  else if p = pCHK then m [0x41000000, 0x41000000, 0x40000000, 0x40000000, 0x41000000, 0x40000000, 0x41000000]
  else if p = pSEC then m [0x04000000, 0x80000000, 0x04000000]
  else if p = pNVS then m [0x80000000, 0x10000000]
  else if p = pMON then m [0x08000000]
  else 0

end Sys2Proof.Machine
end

