-- ==== Sys2Proof/Machine/Ops.lean ====
section
/-! DEFINITION. The operations that the meanings share: free values and open quotients, the per-instance tables of the
units, what a folio reads in its common words, fault and interrupt bits, and the movement of register values between
the copies (R10, R46, R47, R50). -/
namespace Sys2Proof.Machine
open Sys2Proof

/-! ### Values that the spec leaves open -/

/-- FREE VALUE (log 7): the k-th value still to be drawn. -/
def State.freeVal (s : State) (k : Nat) : Nat := Config.freeNat (s.free + k)

/-- Count `n` drawn values. -/
def State.drew (s : State) (n : Nat) : State := { s with free := s.free + n }

/-- A quotient of a positive divisor whose rounding the spec does not state (log 8): exact where it divides. -/
def openDiv (a b : Int) : Int := if a % b = 0 then a / b else if Config.roundsUp a b then a / b + 1 else a / b

/-- Rounded to the nearest integer, a tie as the device has it (log 8). -/
def nearest (a b : Int) : Int :=
  if 2 * (a % b) < b then a / b else if b < 2 * (a % b) then a / b + 1 else openDiv a b

/-- Rounded to the nearest integer, a tie away from zero. -/
def nearestAway (a b : Int) : Int :=
  if a < 0 then -((2 * (-a) + b) / (2 * b)) else (2 * a + b) / (2 * b)

/-- Rounded towards zero. -/
def truncDiv (a b : Int) : Int := if a < 0 then -((-a) / b) else a / b

/-- A number with bit `i` set as told. -/
def withBit (v i : Nat) (b : Bool) : Nat := if bit v i = b then v else if b then v + 2 ^ i else v - 2 ^ i

/-! ### Instances of the units -/

def State.section_ (s : State) (j : Nat) : Section := Tab.get {} s.det.sections j
def State.setSection (s : State) (j : Nat) (x : Section) : State := { s with det.sections := Tab.set {} s.det.sections j x }
def State.chan (s : State) (c : Nat) : Chan := Tab.get {} s.det.chans c
def State.setChan (s : State) (c : Nat) (x : Chan) : State := { s with det.chans := Tab.set {} s.det.chans c x }
def State.events (s : State) (c : Nat) : Events := Tab.get {} s.det.events c
def State.setEvents (s : State) (c : Nat) (x : Events) : State := { s with det.events := Tab.set {} s.det.events c x }
def State.bank (s : State) (b : Nat) : Bank := Tab.get {} s.det.banks b
def State.setBank (s : State) (b : Nat) (x : Bank) : State := { s with det.banks := Tab.set {} s.det.banks b x }
def State.timIn (s : State) (n : Nat) : TimInput := Tab.get {} s.det.tims n
def State.setTimIn (s : State) (n : Nat) (x : TimInput) : State := { s with det.tims := Tab.set {} s.det.tims n x }
def State.engine (s : State) (k : Nat) : Engine := Tab.get {} s.engines k
def State.setEngine (s : State) (k : Nat) (e : Engine) : State := { s with engines := Tab.set {} s.engines k e }
def State.lane (s : State) (l : Nat) : LaneState := Tab.get {} s.lnk.lanes l
def State.setLane (s : State) (l : Nat) (x : LaneState) : State := { s with lnk.lanes := Tab.set {} s.lnk.lanes l x }
def State.path (s : State) (l : Nat) : PathState := Tab.get {} s.lnk.paths l
def State.setPath (s : State) (l : Nat) (x : PathState) : State := { s with lnk.paths := Tab.set {} s.lnk.paths l x }
def State.slot (s : State) (k : Nat) : Slot := Tab.get {} s.sense.slots k
def State.setSlot (s : State) (k : Nat) (x : Slot) : State := { s with sense.slots := Tab.set {} s.sense.slots k x }
def State.queue (s : State) (h : Nat) : List Entry := Tab.get [] s.pca.queues h
def State.setQueue (s : State) (h : Nat) (q : List Entry) : State := { s with pca.queues := Tab.set [] s.pca.queues h q }
def State.waitingAt (s : State) (h : Nat) : List Entry := Tab.get [] s.pca.waiting h
def State.setWaiting (s : State) (h : Nat) (q : List Entry) : State := { s with pca.waiting := Tab.set [] s.pca.waiting h q }

/-! ### The shelf queues (R25, R176, R178) -/

/-- The entries that a shelf queue holds. -/
def queueDepth : Nat := 128

/-- A shelf queue takes a further entry: it is not full, and none waits for it. -/
def State.queueFree (s : State) (h : Nat) : Bool := s.waitingAt h = [] && decide ((s.queue h).length < queueDepth)

/-- An entry goes into a shelf queue. At a full one it waits, behind those that wait already (R192). -/
def State.pushEntry (s : State) (h : Nat) (e : Entry) : State :=
  if s.queueFree h then s.setQueue h (s.queue h ++ [e])
  else s.setWaiting h (s.waitingAt h ++ [e])

/-- The entry at the front leaves a shelf queue for PCA, and the first that waits takes the place. -/
def State.popEntry (s : State) (h : Nat) : State :=
  match s.waitingAt h with
  | [] => s.setQueue h (s.queue h).tail
  | e :: r => (s.setQueue h ((s.queue h).tail ++ [e])).setWaiting h r

/-! ### Power and reset as a folio shows them -/

/-- DOM_ON of a power domain; the sentinel domain is always on (R17, R453). -/
def State.domOn (s : State) (d : Nat) : Bool := d = 151 || s.on (PWR.DOM_ON d)

/-- STATUS.OFF of a folio. -/
def State.isOff (s : State) (p : Nat) : Bool := !s.domOn (domainOf p)

/-- STATUS.IN_RESET of a folio. -/
def State.inReset (s : State) (p : Nat) : Bool := s.rst.held.contains p

/-- Powered and out of reset. -/
def State.runs (s : State) (p : Nat) : Bool := !s.isOff p && !s.inReset p

/-- A register write that reaches a folio: its effect, or ERR_STATE while the folio is off or held in reset (R40). -/
def State.writeTo (s : State) (p : Nat) (f : State → State) : State :=
  let s1 : State := { s with bus := {} }
  if s.runs p then f s1 else s1.put (C.ERR_STATE p) true

/-- Something goes into what waits for a feed switch-over's gap to end (R446, R447). -/
def State.keep (s : State) (h : Held) : State := { s with pwr.held := s.pwr.held ++ [h] }

/-- What RST, PWR, the clock checker and the THM watch do on the sentinel clock, which stands still in a feed switch-over (R446). -/
def State.ungated (s : State) (f : State → State) : State := if s.pwr.hold then s else f s

/-- SAF acts: it is out of reset, and its clock does not stand still. -/
def State.sentinelRuns (s : State) : Bool := s.runs pSAF && !s.pwr.hold

/-- What SAF does on its own clock. -/
def State.sentinel (s : State) (f : State → State) : State := if s.sentinelRuns then f s else s

/-- A register write, as a command of its own, to a folio of the sentinel domain: it waits while that domain's clock stands still
(R447). -/
def State.writeSentinel (s : State) (path : Path) (p off value : Nat) (f : State → State) : State :=
  if s.pwr.hold then State.keep { s with bus := {} } (.write path p off value) else s.writeTo p f

/-- A meaning that always completes. -/
def done (s : State) : Host.Outcome State Fault Refusal := .next s

/-! ### The safety state (R399) -/

def sfInit : Nat := 0
def sfCommission : Nat := 1
def sfOperational : Nat := 2
def sfDegraded : Nat := 3
def sfSafeHold : Nat := 4

/-- The safety state. -/
def State.safety (s : State) : Nat := s.rd SAF.STATE

/-- OPERATIONAL or DEGRADED. -/
def State.operating (s : State) : Bool := s.safety = sfOperational || s.safety = sfDegraded

/-! ### Fault and interrupt bits -/

/-- FAULT as it stands in a unit's folio. -/
def State.faultWord (s : State) (p : Nat) : Nat :=
  ((List.range 32).map fun i => if s.on (C.FAULT p i) then 2 ^ i else 0).sum

/-- Set the FAULT bits of a mask; SAFETY newly set in a SAFETY_RELEVANT folio is posted to SAF (R411). -/
def State.setFaults (s : State) (p mask : Nat) : State :=
  let s1 := (List.range 32).foldl (fun s i => if bit mask i then s.put (C.FAULT p i) true else s) s
  if bit mask safetyBit && !s.on (C.FAULT p safetyBit) && safetyRelevant p then
    { s1 with saf.posts := s1.saf.posts ++ [.faultSafety p] }
  else s1

/-- Set a unit fault bit and the common bits that its table names (R41, R568). -/
def State.fault (s : State) (p b : Nat) : State := s.setFaults p (2 ^ b + faultCommons p b)

/-- Raise an interrupt. -/
def State.raise (s : State) (f : Fld) : State := s.put f true

/-- Set one of the ERR_ bits of a folio's STATUS (R62). -/
def State.err (s : State) (f : Fld) : State := s.put f true

/-- The fields of a row that a word holds, put together from what `rd` gives for each. -/
def rowWord (rd : Fld → Nat) (p w0 : Nat) (r : Row) : Nat :=
  ((r.inWord w0).map fun j => rd (r.fld p j) % 2 ^ r.width * 2 ^ (r.bit + r.stride * j - w0)).sum

/-- A word of a folio's rows. -/
def rowsWord (rd : Fld → Nat) (p w0 : Nat) : Nat := ((rowsOf p).map (rowWord rd p w0)).sum

/-! ### Faults and interrupts up the tree (R23, R42, R60 to R63) -/

/-- FAULT: a group's is the OR of its children's. -/
def State.faultIn (s : State) : Nat → Nat → Nat
  | 0, p => if s.runs p then s.faultWord p else 0
  | d + 1, p =>
    if !s.runs p then 0
    else if isGroup p then (childPages p).foldl (fun m c => m ||| s.faultIn d c) 0
    else s.faultWord p

/-- The UNIT bits of INT_RAW. -/
def State.intUnit (s : State) (p : Nat) : Nat := rowsWord s.rd p 160

/-- INT_EN. -/
def State.intEn (s : State) (p : Nat) : Nat := rowsWord s.rd p 192

/-- INT_RAW: FAULT, ERROR, CHILD and the UNIT bits. -/
def State.intRawIn (s : State) : Nat → Nat → Nat
  | 0, p => if s.runs p then s.intUnit p else 0
  | d + 1, p =>
    if !s.runs p then 0
    else
      let child := isGroup p && (childPages p).any fun c => (s.intRawIn d c &&& s.intEn c) != 0
      let error := bits (rowsWord s.rd p 128) 19 5 != 0
      b2n (s.faultIn 4 p != 0) * 2 ^ 31 + b2n error * 2 ^ 30 + b2n child * 2 ^ 29 + s.intUnit p

def State.intRaw (s : State) (p : Nat) : Nat := s.intRawIn 5 p

/-- INT_STAT: INT_RAW AND INT_EN. -/
def State.intStat (s : State) (p : Nat) : Nat := s.intRaw p &&& s.intEn p

/-- The host core's interrupt line: INT_STAT of the catalogue is not zero (R63). -/
def State.hostInterrupt (s : State) : Bool := s.intStat 0 != 0

/-- INT_STAT of the catalogue has returned to zero: the next time it does not read zero it is announced afresh (R300). -/
def State.eventsQuiet (s : State) : State :=
  if s.lnk.lastEvent != [] && !s.hostInterrupt then { s with lnk.lastEvent := [] } else s

/-! ### Values moving between the copies -/

/-- Copy fields from one store to another. -/
def copyFlds (src dst : Store) (l : List Fld) : Store := l.foldl (fun st f => st.wr f (src.rd f)) dst

/-- A folio's RWS fields take their staged values (R50 steps 6 and 7). -/
def State.applyStaged (s : State) (p : Nat) : State :=
  { s with regs.cur := copyFlds s.regs.staged s.regs.cur (fieldsOf p .rws) }

/-- The word address of a field. -/
def Fld.word (f : Fld) : Nat := 0x40000000 + f.key / pageBits * 0x1000 + f.key % pageBits / 32 * 4

/-- A field of a folio as it acts on a shot or record of a generation: while the folio shows APPLYING, its staged copy is in force
for what carries the active generation and its old values for what carries an older one (R28, R50 step 7). -/
def State.rdGen (s : State) (p : Nat) (gen : Word) (f : Fld) : Nat :=
  if s.on (C.APPLYING p) && gen.toNat = s.rd CAT.GEN_ACTIVE then s.rdT f else s.rd f

/-- Note the words of RWL changes that applied, for the next ledger record, each once (R243). -/
def noteWords (l : List Nat) (ws : List Nat) : List Nat :=
  ws.foldl (fun l w => if l.contains w then l else l ++ [w]) l

/-- RWL fields of a list take their written values (R46); the words that change are noted for the ledger (R30). -/
def State.applyLiveOf (s : State) (l : List Fld) : State :=
  let changed := l.filter fun f => s.rdS f != s.rd f
  { s with regs.cur := copyFlds s.regs.shadow s.regs.cur changed, pca.rwl := noteWords s.pca.rwl (changed.map Fld.word) }

/-- All RWL fields of a folio take their written values: its block's sample boundary (R46). -/
def State.applyLive (s : State) (p : Nat) : State := s.applyLiveOf (fieldsOf p .rwl)

/-- RWH values take effect on resumption (R47). -/
def State.applyHeld (s : State) (p : Nat) : State :=
  { s with regs.cur := copyFlds s.regs.shadow s.regs.cur (fieldsOf p .rwh) }

/-- Whether a key lies in a folio. -/
def inFolio (p k : Nat) : Bool := k / pageBits = p

/-- A reset of a folio's registers: every field to its reset value (R11). -/
def State.eraseFolio (s : State) (p : Nat) : State :=
  { s with regs := {
      cur := Tab.clear s.regs.cur (inFolio p)
      shadow := Tab.clear s.regs.shadow (inFolio p)
      staged := Tab.clear s.regs.staged (inFolio p) } }

/-- Write a field whose value the device itself puts in force: both the acting value and what a read shows. -/
def State.wrBoth (s : State) (f : Fld) (v : Nat) : State := (s.wr f v).wrS f v

/-- Whether some RWS field of a folio differs from its value in force: COMMIT_STATE.PENDING (R41). -/
def State.rwsPending (s : State) (p : Nat) : Bool := (fieldsOf p .rws).any fun f => s.rdS f != s.rd f

/-! ### The end of a commit (R50 steps 7 and 8) -/

/-- A folio has applied its staged copy: the generation in force there (R41). -/
def State.applied (s : State) (p : Nat) : State :=
  ((s.put (C.STAGED p) false).put (C.APPLYING p) false).wr (C.GEN_LOW p) (s.rd CAT.GEN_ACTIVE)

/-- Every folio has applied: the commit is complete (R50 step 8). -/
def State.finishCommit (s : State) : State :=
  if s.cat.applying && (List.range folioCount).all fun p => !s.on (C.STAGED p) && !s.on (C.APPLYING p) then
    { (s.put CAT.CAT_STAGED false).raise CAT.INT_COMMIT_APPLIED with cat.applying := false }
  else s

/-- The row group whose shots of a frame an engine has, by the frame's map (R206). -/
def Shot.rgOf (sh : Shot) (k : Nat) : Option Nat := (List.range 64).find? fun g => sh.engines.getD g 127 = k

/-- The shot of the window closed last whose buffer-ready toggle an engine's dispatcher has still to receive (R25, R177). -/
def State.toggleDue (s : State) (k : Nat) : Option Shot :=
  match s.acq.closedShot with
  | some sh => if (sh.rgOf k).isSome && (s.engine k).lastSeq != some sh.seq then some sh else none
  | none => none

/-- An engine holds a shot of an older generation than the active one. -/
def State.engineOld (s : State) (k : Nat) : Bool :=
  let old := fun (g : Word) => g.toNat != s.rd CAT.GEN_ACTIVE
  (s.engine k).current.any (fun x => old x.gen) || (s.engine k).pending.any (fun x => old x.gen) || (s.toggleDue k).any fun sh => old sh.gen

/-- PCA holds a column or a frame of an older generation. -/
def State.pcaOld (s : State) : Bool :=
  let old := fun (g : Word) => g.toNat != s.rd CAT.GEN_ACTIVE
  (s.pca.frames.any fun f => old f.gen) || s.pca.columns.any fun c => old c.shot.gen

/-- Shots of an older generation than the active one are in a folio of the engines or of PCA, or beneath it (R50 step 7). -/
def State.holdsOld (s : State) (p : Nat) : Bool :=
  if p = pREG then (List.range 72).any s.engineOld
  else if 0x63 ≤ p && p ≤ 0x6B then (List.range' (8 * (p - 0x63)) 8).any s.engineOld
  else if 0x6F ≤ p then s.engineOld (p - 0x6F)
  else s.pcaOld

/-- Folios that show APPLYING apply once the last shot of the old generation has left them. -/
def State.retireOld (s : State) : State :=
  if !s.cat.applying then s
  else
    let ready := (List.range folioCount).filter fun p => s.on (C.APPLYING p) && !s.holdsOld p
    (ready.foldl (fun s p => (s.applyStaged p).applied p) s).finishCommit

/-! ### The housekeeping-results queue (R25, R341) -/

/-- The results that the queue holds. -/
def resultDepth : Nat := 16

/-- A result reaches SCN, which keeps the newest of each slot while it runs (R332). -/
def State.resultReaches (s : State) (r : HkResult) : State :=
  if s.runs pSCN then
    { s with scn.results := Tab.set none s.scn.results r.slot (some r), scn.fresh := if s.scn.fresh.contains r.slot then s.scn.fresh else s.scn.fresh ++ [r.slot] }
  else s

/-- Every result in the queue has reached its destination. -/
def State.resultsArrive (s : State) : State :=
  s.sense.results.foldl State.resultReaches { s with sense.results := [] }

/-- A result goes into the queue; what fills it has reached its destination by then. -/
def State.pushResult (s : State) (r : HkResult) : State :=
  let s1 := if resultDepth ≤ s.sense.results.length then s.resultsArrive else s
  { s1 with sense.results := s1.sense.results ++ [r] }

/-! ### MRAM write pulses (R395, R509) -/

/-- The next queued word's pulse starts if it may: NVS_OK, and no reset or switch-off of NVS waits for the pulses to end
(R455, R478). -/
def State.startPulse (s : State) : State :=
  let waits := (s.rst.episodes.any fun e => e.toApply.contains pNVS) || s.pwr.turns.head? = some ⟨148, false, true⟩
  if s.on WATCH.ST_NVS_OK && s.runs pNVS && s.nvs.queue != [] && !waits then { s with nvs.pulse := true } else s

/-! ### Service and halting -/

/-- The row group that an engine serves by the map in force, if any (R205, R213). -/
def State.servedBy (s : State) (k : Nat) : Option Nat :=
  (List.range 64).find? fun g => s.rd (REG.ENGINE_OF_RG g) = k

/-- The row that a channel serves under the map that `rd` reads (R32, R115, R116), if any. -/
def rowUnder (rd : Fld → Nat) (ch : Nat) : Option Nat :=
  let k := ch / 33
  let i := ch % 33
  let p := rd (ACQ.SLIDE_POS k)
  let j : Option Nat :=
    if rd (ACQ.SLIDE_EN k) = 1 then (if i < p then some i else if i = p then none else some (i - 1))
    else if i < 32 then some i else none
  match j with
  | some j => if rd (ACQ.DROP_EN k) = 1 && j = rd (ACQ.DROP_POS k) then none else some (32 * k + j)
  | none => none

/-- The channel that serves a row under the map that `rd` reads, none for a dropped row. -/
def channelUnder (rd : Fld → Nat) (r : Nat) : Option Nat :=
  (List.range' (33 * (r / 32)) 33).find? fun c => rowUnder rd c = some r

/-- The row that a channel serves under the map in force. -/
def State.rowOf (s : State) (ch : Nat) : Option Nat := rowUnder s.rd ch

/-- A frame is in acquisition (R147). -/
def State.inFrame (s : State) : Bool := s.acq.frame.isSome

/-- A shot lies between its SHOT_OPEN and its window close. -/
def State.inShot (s : State) : Bool := s.acq.shot.isSome

/-- The timing grid routes frame data: from an accepted trigger until RUN reads 0 and the frame in acquisition has closed (R95). -/
def State.gridInService (s : State) : Bool := s.inFrame || s.acq.inService

/-- An MRAM write request while NVS_OK reads 0 counts in NVS (R509). -/
def State.nvsBlocked (s : State) : State := if s.runs pNVS then (s.count NVS.BLOCKED_CNT 1).raise NVS.INT_BLOCKED else s

end Sys2Proof.Machine
end

