-- ==== Sys2Proof/Machine/Emitter.lean ====
section
/-! DEFINITION. EMT's own computations (spec/03_emitter_sequencing.md): the burst code, the emitter bins, string codes
and gains, the emitters lit in a shot, its pulse width, and the zero-range reference. -/
namespace Sys2Proof.Machine
open Sys2Proof

/-! ### The burst code (R78, R79) -/

/-- The rulers of R79 and their lengths are the last entries. -/
def ruler (n : Nat) : List Nat :=
  [[], [0], [0, 1], [0, 1, 3], [0, 1, 4, 6], [0, 1, 4, 9, 11], [0, 1, 4, 10, 12, 17], [0, 1, 4, 10, 18, 23, 25],
   [0, 1, 4, 9, 15, 22, 32, 34]].getD n []

/-- L(N). -/
def rulerLength (n : Nat) : Nat := (ruler n).getLastD 0

/-- The distance of two positions. -/
def dist (a b : Nat) : Nat := if a ≤ b then b - a else a - b

/-- The distances between every two positions of a list. -/
def distances : List Nat → List Nat
  | [] => []
  | p :: t => t.map (dist p) ++ distances t

/-- One draw of R78: the position it adds, or the list unchanged. -/
def drawStep (span gap : Nat) (pos : List Nat) (v : Nat) : List Nat :=
  let new := pos.map (dist v)
  if v < 1 || span < v then pos
  else if pos.any fun p => dist v p < gap then pos
  else if !new.Nodup then pos
  else if new.any fun d => (distances pos).contains d then pos
  else pos ++ [v]

/-- The draws of R78 from the stream: `n` draws left, the sponge's lanes, the bytes of the block in hand. -/
def drawAll (span gap want : Nat) : Nat → List Nat → List Byte → List Nat → List Nat
  | 0, _, _, pos => pos
  | n + 1, lanes, bs, pos =>
    if want ≤ pos.length then pos
    else
      let (lanes', bs') := if bs.length < 2 then (keccakF lanes, ((keccakF lanes).take 17).flatMap (leBytes 8)) else (lanes, bs)
      drawAll span gap want n lanes' (bs'.drop 2) (drawStep span gap pos (ofLeBytes (bs'.take 2) % 512))

/-- Insert in ascending order. -/
def insertAsc (v : Nat) : List Nat → List Nat
  | [] => [v]
  | h :: t => if v ≤ h then v :: h :: t else h :: insertAsc v t

/-- Ascending order. -/
def sortAsc (l : List Nat) : List Nat := l.foldr insertAsc []

/-- The fallback code of N pulses (R79). -/
def fallbackCode (n gap : Nat) : List Nat := (ruler n).map (gap * ·)

/-- The burst code of R78 for a device identity and an epoch, and whether it is the fallback. -/
def burstCode (device : List Byte) (epoch salt n span gap : Nat) : List Nat × Bool :=
  let msg := device ++ leBytes 4 epoch ++ leBytes 2 salt ++ [0x42, 0x43]
  let lanes := absorb (msg.length / 136 + 1) (List.replicate 25 0) (shakePad msg)
  let pos := drawAll span gap n 4096 lanes ((lanes.take 17).flatMap (leBytes 8)) [0]
  if pos.length < n then (fallbackCode n gap, true) else (sortAsc pos, false)

/-- Pulses per burst in force. -/
def State.npulse (s : State) : Nat := s.rd EMT.NPULSE_M1 + 1

/-- The code that EMT computes for an accession number (R78). -/
def State.codeFor (s : State) (accession : Word) : ReadyCode :=
  let epoch := if s.on EMT.ROTATE then accession.toNat else 0
  let c := burstCode deviceId epoch (s.rd EMT.CODE_SALT) s.npulse (s.rd EMT.SPAN) (s.rd EMT.GAP_MIN)
  { accession := accession, pos := c.1, fallback := c.2 }

/-! ### The bins (R81 to R84) -/

/-- A u16 of the image at byte `o`. -/
def imgU16 (img : List Nat) (o : Nat) : Nat := img.getD o 0 + 256 * img.getD (o + 1) 0

/-- The offset of the first byte that fails R81's checks in offset order, 0xFF for the check value, none if all pass. -/
def binsFail (img : List Nat) : Option Nat :=
  let exact := fun (o v : Nat) => if img.getD o 0 = v then none else some o
  let range := fun (o lo hi : Nat) => if lo ≤ imgU16 img o && imgU16 img o ≤ hi then none else some o
  let checks := [exact 0 0x48, exact 1 0x4A, exact 2 0x45, exact 3 0x42, exact 4 1, exact 5 8, exact 6 16, range 8 1 65535,
      range 0xA 0 1023]
    ++ (List.range 16).map (fun i => range (0xC + 2 * i) 8000 16000)
    ++ (List.range 16).map (fun i => range (0x2C + 2 * i) 1 10000)
  match checks.findSome? id with
  | some o => some o
  | none =>
    let sum := shake256 ((img.take 0xD0).map (BitVec.ofNat 8)) 4
    if (img.drop 0xD0).take 4 = sum.map BitVec.toNat then none else some 0xFF

/-- P_e: the power-table entry of emitter e's power bin (R83). -/
def binPower (img : List Nat) (e : Nat) : Nat := imgU16 img (0x2C + 2 * (img.getD (0x4C + e) 0 % 16))

/-- Whether DISABLE marks emitter e, in the values that `rd` reads. -/
def disabled (rd : Fld → Nat) (e : Nat) : Bool := bit (rd (EMT.DISABLE (e / 32))) (e % 32)

/-- P_max of string `st`: the largest P_e of its enabled emitters, 0 where every one is disabled (R83). -/
def stringPmax (rd : Fld → Nat) (img : List Nat) (st : Nat) : Nat :=
  (List.range 16).foldl (fun m i => if disabled rd (16 * st + i) then m else max m (binPower img (16 * st + i))) 0

/-- The string code (R83, R84). -/
def stringCode (rd : Fld → Nat) (img : Option (List Nat)) (st : Nat) : Nat :=
  match img with
  | none => 16
  | some b => if stringPmax rd b st = 0 then 0 else min 255 (255 * rd EMT.P_TARGET / stringPmax rd b st)

/-- The gain of emitter e (R83, R84). -/
def emitterGain (rd : Fld → Nat) (img : Option (List Nat)) (e : Nat) : Nat :=
  match img with
  | none => 255
  | some b => if stringPmax rd b (e / 16) = 0 then 0 else min 255 (255 * binPower b e / stringPmax rd b (e / 16))

/-- The image a commit would put in force. -/
def State.imageNext (s : State) : Option (List Nat) :=
  match s.emt.stagedImage with
  | some b => some b
  | none => s.emt.image

/-- The effective MPD delay of a trim reading and an image (R82, R91). -/
def mpdEff (trim : Int) (delay : Nat) : Int := delay + trim

/-- MPD_DELAY that a commit would put in force. -/
def State.mpdNext (s : State) : Nat :=
  match s.emt.stagedImage with
  | some b => imgU16 b 0xA
  | none => s.emt.mpdDelay

/-- EMT's commit check (R77), on the staged copy: true refuses. -/
def State.emtRefuses (s : State) : Bool :=
  let t := s.rdT
  let n := t EMT.NPULSE_M1 + 1
  let p := if t EMT.SFCLK_SEL = 0 then 40 else 20
  let eff := mpdEff (s.rdTI EMT.MPD_TRIM) s.mpdNext
  t EMT.FIRE_OFFSET * 5 < 26 * p + t EMT.SHUNT_SETTLE * 5
    || t EMT.SPAN < t EMT.GAP_MIN * rulerLength n
    -- half nanoseconds: the width is 4 + PW of them
    || t EMT.GAP_MIN * 10 < 4 + t EMT.PW + 20
    || eff < 0 || 1023 < eff
    || (t EMT.MPD_EN = 1 && (t (TIM.MODE 0) != 0 || t (TIM.PRESC 0) != 0))

/-- The widths, codes and gains that an applied commit puts in force in EMT (R82, R83). -/
def State.emtApply (s : State) : State :=
  let s1 := { s with emt.image := s.imageNext, emt.mpdDelay := s.mpdNext, emt.stagedImage := none }
  let s2 := (List.range 8).foldl (fun s i => s.wr (EMT.STRING_CODE i) (stringCode s.rd s.emt.image i)) s1
  (List.range 128).foldl (fun s e => s.wr (EMT.GAIN e) (emitterGain s.rd s.emt.image e)) s2

/-- Whether a field shapes the burst code (R80). -/
def codeFields : List Fld := [EMT.NPULSE_M1, EMT.GAP_MIN, EMT.SPAN, EMT.ROTATE, EMT.CODE_SALT]

/-- EMT applies its staged copy (R50, R80, R82): a code computed for other settings is no longer held. -/
def State.applyEmt (s : State) : State :=
  let changed := codeFields.any fun f => s.rdT f != s.rd f
  let s1 := (s.applyStaged pEMT).emtApply
  if changed then { s1 with emt.ready := none } else s1

/-- LOAD (R82): check the written image; a failed check leaves the bins in force. -/
def State.emtLoad (s : State) : State :=
  let img := (List.range 212).map fun b => s.rdS (EMT.BIN_IMAGE b)
  match binsFail img with
  | some o =>
    (((s.put EMT.BINS_BAD true).wr EMT.BAD_OFFSET o).raise EMT.INT_BINS_BAD).fault pEMT 3
  | none =>
    { ((((s.put EMT.BINS_VALID true).put EMT.ST_BINS_VALID true).put EMT.BINS_BAD false).raise EMT.INT_BINS_LOADED) with
      emt.stagedImage := some img }

/-! ### The emitters of a shot (R88, R89) -/

/-- The pattern of column c. -/
def State.patternOf (s : State) (c : Nat) : Nat := bits (s.rd EMT.SEQ) (2 * (c % (s.rd EMT.SEQ_LEN_M1 + 1))) 2

/-- The string that a string-skew shot lights alone, if one is measured (R378). -/
def State.strskString (s : State) : Option Nat :=
  if s.on CAL.ST_STRSK_BUSY && 0 < s.cal.strskLeft && !s.cal.strskArmed then some (s.cal.strskNext % 8) else none

/-- Whether emitter e is lit at column c under a derating level (R88); a string-skew shot takes the place of the pattern. -/
def State.lit (s : State) (pattern c level e : Nat) : Bool :=
  let named := match s.strskString with
    | some st => decide (e / 16 = st)
    | none => bit (s.rd (EMT.PATTERN (4 * pattern + e / 32))) (e % 32)
  named && !disabled s.rd e && (level < 3 || (e + c) % 2 = 0)

/-- Whether string `st` has a lit emitter. -/
def State.stringLit (s : State) (pattern c level st : Nat) : Bool :=
  (List.range 16).any fun i => s.lit pattern c level (16 * st + i)

/-- The strings with a lit emitter, as a mask. -/
def State.stringMask (s : State) (pattern c level : Nat) : Nat :=
  ((List.range 8).map fun st => if s.stringLit pattern c level st then 2 ^ st else 0).sum

/-- SHUNT of string `st`: bit i 1 for a dark emitter (R85, R87). -/
def State.shunt (s : State) (pattern c level st : Nat) : Nat :=
  ((List.range 16).map fun i => if s.lit pattern c level (16 * st + i) then 0 else 2 ^ i).sum

/-- The eight shunt frames of a shot (R85). -/
def State.shuntFrames (s : State) (pattern c level : Nat) : Tab Nat :=
  (List.range 8).foldl (fun t st => Tab.set 0 t st (s.rd (EMT.STRING_CODE st) * 2 ^ 16 + s.shunt pattern c level st)) []

/-- PW of a shot: the committed width under a derating level, in the code of R89 (width 2.0 + 0.5 × PW ns). DESIGN CHOICE (log 43): R89
gives level 4 no width, since no shot fires; the shot reports that of levels 2 and 3. -/
def derateWidth (pw level : Nat) : Nat :=
  let w := 4 + pw
  (if level = 0 then w else if level = 1 then max 4 (3 * w / 4) else max 4 (w / 2)) - 4

/-- FIRE_OFFSET × 5 ns + pos × 5 ns in TDC LSB: 128 LSB per quantum (R91, R92). -/
def quantaLsb (q : Nat) : Nat := 128 * q

/-- The smallest EG_SKEW over the strings lit in a shot (R91). -/
def State.minSkew (s : State) (strings : Nat) : Int :=
  let l := ((List.range 8).filter fun i => bit strings i).map fun i => s.rdI (EMT.EG_SKEW i)
  match l with
  | [] => 0
  | h :: t => t.foldl min h

/-- The expected instant of pulse k in LSB (R91). -/
def State.expected (s : State) (sh : Shot) (k : Nat) : Int :=
  (quantaLsb (s.rd EMT.FIRE_OFFSET + sh.code.getD k 0) : Nat) + s.minSkew sh.strings + mpdEff (s.rdI EMT.MPD_TRIM) s.emt.mpdDelay

/-- Whether an edge lies in the acceptance window of pulse k: ± MPD_WINDOW TDC cycles of 32 LSB (R91). -/
def State.inAcceptance (s : State) (sh : Shot) (k : Nat) (code : Nat) : Bool :=
  let d := (code : Int) - s.expected sh k
  let w : Int := 32 * (s.rd EMT.MPD_WINDOW : Nat)
  0 ≤ d + w && d ≤ w

/-- An edge inside the listening window that lies in no acceptance window (R93). -/
def State.uncommanded (s : State) (sh : Shot) (code : Nat) : Bool :=
  sh.openCode ≤ code && code < sh.closeCode && !(List.range sh.driven).any fun k => s.inAcceptance sh k code

/-- Each driven pulse in ascending order accepts the earliest edge of its window that no lower pulse has (R91). -/
def State.acceptEdges (s : State) (sh : Shot) (edges : List Nat) : List (Nat × Nat) :=
  ((List.range sh.driven).foldl (fun (acc : List (Nat × Nat) × List Nat) k =>
    match acc.2.find? fun c => s.inAcceptance sh k c with
    | some c => (acc.1 ++ [(k, c)], acc.2.erase c)
    | none => acc) ([], edges)).1

/-- A pulse's rising edge lies at or before a time after SHOT_OPEN, in TDC cycles (log 17). -/
def State.pulseDriven (s : State) (sh : Shot) (k : Nat) : Bool :=
  4 * (s.rd EMT.FIRE_OFFSET + sh.code.getD k 0) ≤ s.acq.time.toNat - sh.openTime

/-- The pulses whose rising edge EMT has driven by now. -/
def State.pulsesSoFar (s : State) (sh : Shot) : Nat := ((List.range sh.code.length).filter (s.pulseDriven sh)).length

/-- EMT sees INHIBIT after the arm point of an armed shot, before its window closes (R76): the shot becomes PARTIAL and no
further pulse is driven. The pulses that INHIBIT blocked have no acceptance windows (R91), so an edge that came in one of theirs lies in
none (R93). -/
def State.emtInhibit (s : State) : State :=
  match s.acq.shot with
  | some sh =>
    if sh.fire = some 0 && !sh.emtReset then
      let sh1 : Shot := { sh with fire := some 2, driven := min sh.driven (s.pulsesSoFar sh) }
      let s1 : State := { s with acq.shot := some sh1, pins.eg := 0 }
      if s.on EMT.MPD_EN && (s.timIn 0).edges.any (s.uncommanded sh1) then s1.fault pEMT 1 else s1
    else s
  | none => s

end Sys2Proof.Machine
end

