-- ==== Sys2Proof/Machine/Sentinel.lean ====
section
/-! DEFINITION. SAF's decisions (spec/15_safety.md): trips, the inhibit latch, the safety states and outputs, the causes
of DEGRADED, the energy sums, the colophon and SAF's commit check. The meanings of SAF's commands are in Safety.lean of
this folder's command files; they and every unit that trips call these. -/
namespace Sys2Proof.Machine
open Sys2Proof

/-! ### Trips and the inhibit latch -/

/-- Trip bit `i` of R409. -/
def State.trip (s : State) (i : Nat) : Bool :=
  if i < 8 then bit (s.rd SAF.TRIPS_HOLD) i else bit (s.rd SAF.TRIPS_LATCH) (i - 8)

/-- Set or clear trip bit `i`. -/
def State.putTrip (s : State) (i : Nat) (b : Bool) : State :=
  if i < 8 then s.wr SAF.TRIPS_HOLD (withBit (s.rd SAF.TRIPS_HOLD) i b)
  else s.wr SAF.TRIPS_LATCH (withBit (s.rd SAF.TRIPS_LATCH) (i - 8) b)

/-- No trip bit is set. -/
def State.noTrip (s : State) : Bool := s.rd SAF.TRIPS_HOLD = 0 && s.rd SAF.TRIPS_LATCH = 0

/-- A state in which emission is permitted under R403. -/
def emitting (st : Nat) : Bool := st = sfCommission || st = sfOperational || st = sfDegraded

/-- Some cause of R404 keeps the inhibit latch set. -/
def State.inhibitCause (s : State) : Bool := !s.noTrip || !emitting s.safety || s.pwr.hold

/-- Set the inhibit latch (R404); EMT sees it rise (R76). -/
def State.inhibit (s : State) : State :=
  if s.on SAF.ST_INHIBIT then s else (s.put SAF.ST_INHIBIT true).emtInhibit

/-! ### Outputs (R399, R403, R418, R419) -/

/-- CTR_EN is driven high (R418). -/
def State.ctrEnable (s : State) : Bool :=
  emitting s.safety && s.rd SAF.TRIPS_LATCH = 0 && !s.trip 0 && !s.trip 2

/-- The mirror state as the sentinel end reads it (R329, R330). -/
def State.mirror (s : State) : Nat := if s.scn.heartbeatLost || !s.runs pSCN then 1 else s.scn.safState

/-- R403 met, energy aside. -/
def State.tokensMet (s : State) : Bool :=
  emitting s.safety && s.noTrip && s.mirror = 0 && s.on SAF.CTR_EN && s.on SAF.CTR_FB_CLOSED && !s.pwr.hold

/-- PROX_N as SAF and the combiner drive it (R419). -/
def State.proxPin (s : State) : Option Bool :=
  if !s.saf.failsafeKnown && !s.saf.committed then none
  else if s.operating then some s.prox.asserted
  else some (s.on SAF.PROX_FAILSAFE)

/-- Bring SAF's outputs up to its state. During a feed switch-over SAFE_OK, CTR_EN and PROX_N hold (R420). A change of
CTR_EN starts the CTR_T interval (R418). -/
def State.safOutputs (s : State) : State :=
  if s.pwr.hold then s.put SAF.TOKENS false
  else
    let en := s.ctrEnable
    let changed := en != s.on SAF.CTR_EN
    let s1 := (s.put SAF.CTR_EN en).put SAF.SAFE_OK (s.safety = sfOperational)
    let s2 := if changed then { s1 with saf.contactorWait := true, saf.contactorDiff := false } else s1
    let s3 := { s2 with pins.proxN := s2.proxPin }
    s3.put SAF.TOKENS s3.tokensMet

/-! ### The safety state (R400) -/

/-- The string-skew measurement ends with no proposal: COMMISSION is left, or a trip sets (R378). -/
def State.strskEnd (s : State) : State :=
  if s.on CAL.ST_STRSK_BUSY then { s.put CAL.ST_STRSK_BUSY false with cal.strskLeft := 0, cal.strskArmed := false } else s

/-- A change to any state but INIT and SAFE_HOLD ends EXTEST (R530). -/
def State.extestEnd (s : State) (st : Nat) : State :=
  if st = sfInit || st = sfSafeHold || !s.on MON.ST_EXTEST then s else { s.put MON.ST_EXTEST false with jtag.instr := 15 }

/-- An OPERATIONAL request that was accepted and still waits for the units' confirmations fails (R401). -/
def State.requestFails (s : State) : State :=
  if s.saf.entering && s.saf.asked then s.err (C.ERR_STATE pSAF) else s

/-- Enter a safety state: STATE_CHANGE, the inhibit latch where emission is not permitted, and the outputs. -/
def State.enter (sIn : State) (st : Nat) : State :=
  let s := if st = sfOperational then sIn else sIn.requestFails
  let s0 := (if st = sfCommission then s else s.strskEnd).extestEnd st
  let s1 := ((s0.wr SAF.STATE st).wr SAF.ST_STATE st).raise SAF.INT_STATE_CHANGE
  let s2 := { s1 with saf.entering := false, saf.asked := false, saf.recoverFrames := 0, saf.degradedInFrame := false }
  let s3 := if st = sfSafeHold then s2.fault pSAF 0 else s2
  (if emitting st then s3 else s3.inhibit).safOutputs

/-- A trip bit sets: the inhibit latch sets, and a latching trip enters SAFE_HOLD (R409). A string-skew measurement ends (R412), and
SCAN_IMPLAUSIBLE waits for a restart. -/
def State.tripNow (sIn : State) (i : Nat) : State :=
  let s : State := { sIn.strskEnd with saf.scnRestarted := sIn.saf.scnRestarted && i != 10 }
  let s0 : State := if 8 ≤ i && !s.trip i then { s with saf.lifeTrips := s.saf.lifeTrips + 1 } else s
  let s1 := ((s0.putTrip i true).raise SAF.INT_TRIP).inhibit
  if 8 ≤ i && s.safety != sfSafeHold then s1.enter sfSafeHold else s1.safOutputs

/-- A trip condition is met; during a feed switch-over its bit waits for the gap's end (R420). -/
def State.tripSet (s : State) (i : Nat) : State :=
  if s.pwr.hold then { s with saf.gapTrips := withBit s.saf.gapTrips i true } else s.tripNow i

/-- A hold trip's condition has gone. -/
def State.tripGone (s : State) (i : Nat) : State :=
  let s1 := { s with saf.gapTrips := withBit s.saf.gapTrips i false }
  if s1.trip i then (s1.putTrip i false).safOutputs else s1

/-! ### DEGRADED (R413) -/

/-- A bank's or the TIM loop's lock. -/
def State.bankLocked (s : State) (b : Nat) : Bool := s.on (BANK.DLL_LOCKED b)

/-- The causes of R413 present now, as DEG_CAUSE shows them: bit 0 is TRIPS bit 32. -/
def State.degCauses (s : State) : Nat :=
  let vspad := (List.range 11).any fun j => s.on (DET.FAULT_VSPAD j) && (s.section_ j).lost
  let unlocked := ((List.range 33).any fun b => !s.bankLocked b) || !s.on TIM.ST_DLL_LOCKED
  let noFrames := s.on ACQ.FAULT_NO_FRAMES && s.on ACQ.ST_SYNC_LOST && s.acq.noFrames
  let other := s.on (C.FAULT pCONVM safetyBit) || s.on (C.FAULT pPWR safetyBit)
  b2n vspad + 2 * b2n unlocked + s.saf.frameCauses + 16 * b2n noFrames + 32 * b2n other

/-- Bring DEG_CAUSE up to date: a cause that appears raises DEGRADE, and any cause takes OPERATIONAL to DEGRADED. -/
def State.judgeCauses (s : State) : State :=
  let now := s.degCauses
  let old := s.rd SAF.DEG_CAUSE
  let appeared := (List.range 6).any fun i => bit now i && !bit old i
  let s1 := s.wr SAF.DEG_CAUSE now
  let s2 := if appeared then s1.raise SAF.INT_DEGRADE else s1
  let s3 := if now != 0 && s2.safety = sfOperational then s2.enter sfDegraded else s2
  if now != 0 then { s3 with saf.degradedInFrame := true } else s3

/-- SAF judges the causes of DEGRADED whenever one changes; in a feed switch-over, at the gap's end (R447). -/
def State.degrade (s : State) : State := s.sentinel State.judgeCauses

/-! ### Energy (R405, R407, R408) -/

/-- The drive of a string code, a width and a pulse count. -/
def drive (code pw n : Nat) : Nat := code * (4 + pw) * n

/-- Q_s of string `st` in a shot, from the committed configuration: SAF sees no derating level (R25, R407). -/
def State.shotDrive (s : State) (pattern c st : Nat) : Nat :=
  if s.stringLit pattern c 0 st then drive (s.rd (EMT.STRING_CODE st)) (s.rd EMT.PW) s.npulse else 0

/-- The sixteen buckets of a string, current bucket first. -/
def buckets (t : Tab (List Nat)) (st : Nat) : List Nat := Tab.get (List.replicate 16 0) t st

/-- A window's sum. -/
def windowSum (t : Tab (List Nat)) (st : Nat) : Nat := (buckets t st).sum

/-- Add a shot's drive to a bucket, counted back from the current one. -/
def addDrive (t : Tab (List Nat)) (st back q : Nat) : Tab (List Nat) :=
  Tab.set (List.replicate 16 0) t st ((buckets t st).zipIdx.map fun e => if e.2 = back then e.1 + q else e.1)

/-- A bucket ends: the window moves on by one. -/
def nextBucket (t : Tab (List Nat)) : Tab (List Nat) :=
  (List.range 8).foldl (fun t st => Tab.set (List.replicate 16 0) t st (0 :: (buckets t st).take 15)) t

/-- The energy check of R405 for a shot. -/
def State.energyOk (s : State) (pattern c : Nat) : Bool :=
  (List.range 8).all fun st =>
    let q := s.shotDrive pattern c st
    q ≤ s.rd SAF.Q_SHOT_MAX && windowSum s.saf.w1 st + q ≤ s.rd SAF.Q_W1_MAX && windowSum s.saf.w2 st + q ≤ s.rd SAF.Q_W2_MAX

/-- Q_W1_NOW and Q_W2_NOW show the largest sums. -/
def State.showEnergy (s : State) : State :=
  let top := fun t => (List.range 8).foldl (fun m st => max m (windowSum t st)) 0
  (s.wr SAF.Q_W1_NOW (top s.saf.w1)).wr SAF.Q_W2_NOW (top s.saf.w2)

/-- An issued token adds each string's drive to both sums, in the bucket that holds the shot's SHOT_OPEN. -/
def State.addEnergy (s : State) (pattern c : Nat) : State :=
  let add : Tab (List Nat) → Nat → Tab (List Nat) :=
    fun t back => (List.range 8).foldl (fun t st => addDrive t st back (s.shotDrive pattern c st)) t
  let saf : SafState := { s.saf with w1 := add s.saf.w1 s.saf.since1, w2 := add s.saf.w2 s.saf.since2 }
  State.showEnergy { s with saf := saf }

/-! ### The colophon (R422) -/

/-- The value of a unit word in the values that `rd` reads. -/
def unitWord (rd : Fld → Nat) (p off : Nat) : Nat :=
  ((unitRows p).map fun r => ((r.inWord (8 * off)).map fun j =>
    rd (r.fld p j) * 2 ^ (r.bit + r.stride * j - 8 * off)).sum).sum

/-- The words of the image: SAF 0x050 to 0x074, PARAM 0 and 1, PARAM 32 to 63, and the watch's word 0x040. -/
def colophonWords (rd : Fld → Nat) : List Nat :=
  ((List.range 10).map fun i => unitWord rd pSAF (0x50 + 4 * i))
    ++ [rd (REG.PARAM 0), rd (REG.PARAM 1)] ++ ((List.range 32).map fun i => rd (REG.PARAM (32 + i)))
    ++ [unitWord rd pWATCH 0x40]

/-- The colophon image. -/
def colophonImage (rd : Fld → Nat) : List Byte :=
  [0x43, 0x4C, 0x50, 0x48] ++ leBytes 2 1 ++ leBytes 2 45 ++ (colophonWords rd).flatMap (leBytes 4)

/-- The check value over an image. -/
def colophonOf (rd : Fld → Nat) : Nat := ofLeBytes (shake256 (colophonImage rd) 4)

/-- Recompute COLOPHON_CALC; in OPERATIONAL and DEGRADED a mismatch trips (R409 bit 19). -/
def State.colophon (s : State) : State :=
  let s1 := s.wr SAF.COLOPHON_CALC (colophonOf s.rd)
  if s1.operating && s1.rd SAF.COLOPHON_CALC != s1.rd SAF.COLOPHON_STORED then s1.tripSet 19 else s1

/-! ### SAF's commit check (R408, R415, R423) -/

/-- PROX_RANGE of a row group in the values that `rd` reads (R237). -/
def proxRangeField (rd : Fld → Nat) (g : Nat) : Nat := bits (rd (REG.PARAM (32 + g / 2))) (16 * (g % 2)) 16

/-- A commit that changes the colophon image in OPERATIONAL or DEGRADED (R423). -/
def State.safRefusesState (s : State) : Bool :=
  s.operating && colophonWords s.rdT != colophonWords s.rd

/-- A staged drive above Q_SHOT_MAX (R408), or proximity enabled for a row group that cannot intrude (R415). -/
def State.safRefuses (s : State) : Bool :=
  let q := (List.range 8).any fun st =>
    s.rdT SAF.Q_SHOT_MAX < drive (stringCode s.rdT s.imageNext st) (s.rdT EMT.PW) (s.rdT EMT.NPULSE_M1 + 1)
  let prox := (List.range 64).any fun g => bit (s.rdT (SAF.PROX_EN (g / 32))) (g % 32) && proxRangeField s.rdT g = 0xFFFF
  q || prox

/-! ### Entry to OPERATIONAL and test access -/

/-- The conditions of R401, the confirmations of R65 aside. -/
def State.mayOperate (s : State) : Bool :=
  s.on SAF.STORED_VALID && s.rd SAF.COLOPHON_CALC = s.rd SAF.COLOPHON_STORED && s.rd SAF.TRIPS_LATCH = 0
    && s.saf.testsPassed && !s.on SAF.SAFEMODE

/-- PERTURB.EN clears in every folio (R65). -/
def State.clearPerturb (s : State) : State := (List.range folioCount).foldl (fun s p => s.put (C.EN p) false) s

/-- No folio's EN is set: every unit confirms that no perturbation acts. -/
def State.noPerturb (s : State) : Bool := (List.range folioCount).all fun p => !s.on (C.EN p)

/-- A held DEBUG reset source ends (R528): code 6 of R471 leaves every open episode. -/
def RstState.endDebug (r : RstState) : RstState :=
  { r with episodes := r.episodes.map fun (e : Episode) => { e with sources := e.sources.filter fun c => !(c.code = 6 && !c.pulse) } }

/-- An engine held for debug runs again (R527); a spare one reads SPARE again (R211). -/
def State.endDebugHalt (s : State) (k : Nat) : State :=
  if (s.engine k).debugHalt then
    (((s.setEngine k { s.engine k with debugHalt := false }).put (C.HALT (pRe k)) false).put (C.HALTED (pRe k)) false).put
      (RE.ST_SPARE k) (s.rd (RE.STATE k) = 3)
  else s

/-- Test access relocks (R525): every EN clears, engines held for debug resume, a held DEBUG reset source ends, and the
test access port returns to Test-Logic-Reset. -/
def State.relock (s : State) : State :=
  if s.on MON.UNLOCKED then
    let s1 := ((((s.put MON.UNLOCKED false).put MON.ST_UNLOCKED false).wr MON.SCOPE 0).wr MON.UNLOCK_LEFT 0).raise MON.INT_RELOCK
    let s2 := ((List.range 72).foldl State.endDebugHalt s1).clearPerturb.put MON.ST_EXTEST false
    { s2 with jtag.instr := 15, rst := s2.rst.endDebug }
  else s

/-- An attempt to enter OPERATIONAL (R401), on request or by AUTO_OPER: EN is cleared and the entry waits for the units'
confirmations. -/
def State.tryOperate (s : State) (asked : Bool) : State :=
  if s.mayOperate then { s.clearPerturb with saf.entering := true, saf.asked := asked } else s

end Sys2Proof.Machine
end

