-- ==== Sys2Proof/Machine/Calibration.lean ====
section
/-! DEFINITION. CAL's computations (spec/13_calibration.md): interpolation of the correction sets, sessions and what they
learn, scheduling, the string-skew measurement. Times are counted in the unit of the tables, 1/16 LSB = 2.44140625 ps: one
TDC cycle is 512 of them, one LSB 16 and one code quantum of 5 ns 2,048 (R127). -/
namespace Sys2Proof.Machine
open Sys2Proof

/-! ### Transfer function and interpolation (R127, R363 to R365) -/

/-- The time of a code in 1/16 LSB, from a MID table in 1/64 of that unit and a SKEW (R127), in 1/64 of 1/16 LSB. -/
def codeTime64 (mid64 : List Int) (skew : Int) (code : Nat) : Int :=
  64 * (512 * (code / 32 : Nat) : Int) + mid64.getD (code % 32) 0 - 64 * skew

/-- The five points P0 to P4, in 1/16 °C. -/
def calPoints : List Int := [-640, 0, 640, 1360, 2000]

/-- The bracket of a temperature: point i and the weight w as a quotient; the end sets outside −40 °C to +125 °C. -/
def bracket (t : Int) : Nat × Int × Int :=
  if t ≤ -640 then (0, 0, 1) else if 2000 ≤ t then (4, 0, 1)
  else
    let i := if t < 0 then 0 else if t < 640 then 1 else if t < 1360 then 2 else 3
    (i, t - calPoints.getD i 0, calPoints.getD (i + 1) 0 - calPoints.getD i 0)

/-- The interpolated value of R365 as a quotient. -/
def valueAt (v : Nat → Int) (t : Int) : Int × Int :=
  match bracket t with
  | (i, n, d) => (v i * d + n * (v (i + 1) - v i), d)

/-- The interpolated value, to the nearest unit, ties away from zero. -/
def interpolate (v : Nat → Int) (t : Int) : Int := nearestAway (valueAt v t).1 (valueAt v t).2

/-- The correction set of a channel at a point. -/
def State.calSet (s : State) (ch p : Nat) : CalSet := Tab.get {} s.cal.sets (5 * ch + p)

def State.setCalSet (s : State) (ch p : Nat) (x : CalSet) : State :=
  { s with cal.sets := Tab.set {} s.cal.sets (5 * ch + p) x }

/-- The bank of a channel, 33 for the TIM inputs. -/
def calBank (ch : Nat) : Nat := if ch < 528 then ch / 16 else 33

/-- T_cal of a channel. -/
def State.tcal (s : State) (ch : Nat) : Option Int := Tab.get none s.cal.tcal (calBank ch)

/-- Whether the Ruhal mode acts on a channel (R368). -/
def State.ruhal (s : State) (ch : Nat) : Bool := s.on CAL.MODE && ch < s.cal.ruhalNch

/-- SEL of a channel at a temperature: from P_i if w ≤ 0.5; 0 in the native mode (R365, R368). -/
def State.selAt (s : State) (ch : Nat) (t : Int) : Nat :=
  if s.ruhal ch then
    match bracket t with
    | (i, n, d) => ((s.calSet ch (if 2 * n ≤ d then i else i + 1)).sel).toNat
  else 0

/-- TRIM of a cell at a temperature: 8 in the Ruhal mode (R368). -/
def State.trimAt (s : State) (ch f : Nat) (t : Int) : Nat :=
  if s.ruhal ch then 8 else (interpolate (fun p => ((s.calSet ch p).trim.getD f 8 : Nat)) t).toNat

/-- MID of a fine step at a temperature. -/
def State.midAt (s : State) (ch f : Nat) (t : Int) : Nat :=
  (interpolate (fun p => ((s.calSet ch p).mid.getD f 0 : Nat)) t).toNat

/-- SKEW at a temperature; TIM0's is always 0. -/
def State.skewAt (s : State) (ch : Nat) (t : Int) : Int :=
  if ch = 528 then 0 else interpolate (fun p => (s.calSet ch p).skew) t

/-- MID in force of a channel. -/
def State.mid (s : State) (ch f : Nat) : Nat :=
  if ch < 528 then s.rd (BANK.MID (ch / 16) (32 * (ch % 16) + f)) else s.rd (TIM.MID (32 * (ch - 528) + f))

/-- SKEW in force of a channel. -/
def State.skew (s : State) (ch : Nat) : Int :=
  if ch < 528 then s.rdI (BANK.SKEW (ch / 16) (ch % 16)) else if ch = 529 then s.rdI TIM.TIM1_SKEW else 0

/-- TRIM in force of a cell. -/
def State.tapTrim (s : State) (ch f : Nat) : Nat :=
  match s.tcal ch with
  | some t => if s.cal.live.contains (calBank ch) then s.trimAt ch f t else 8
  | none => 8

/-- The interpolated values of a channel come into force (R365, R128). -/
def State.putValues (s : State) (ch : Nat) (t : Int) : State :=
  let fs := List.range 32
  if ch < 528 then
    let b := ch / 16
    let i := ch % 16
    let s1 := fs.foldl (fun s f => s.wr (BANK.MID b (32 * i + f)) (s.midAt ch f t)) s
    let s2 := fs.foldl (fun s f => s.wr (BANK.TAP_CFG b (32 * i + f)) (16 * b2n (bit (s.selAt ch t) f) + s.trimAt ch f t)) s1
    s2.wrI (BANK.SKEW b i) (s2.skewAt ch t)
  else
    let s1 := fs.foldl (fun s f => s.wr (TIM.MID (32 * (ch - 528) + f)) (s.midAt ch f t)) s
    if ch = 529 then s1.wrI TIM.TIM1_SKEW (s1.skewAt ch t) else s1

/-- The channels of a bank, 33 for the TIM inputs. -/
def bankChannels (b : Nat) : List Nat := if b < 33 then List.range' (16 * b) 16 else [528, 529]

/-- A bank's loop, 33 for the TIM folio's. -/
def State.locked (s : State) (b : Nat) : Bool := if b < 33 then s.bankLocked b else s.on TIM.ST_DLL_LOCKED

/-- CAL_SET [14] and STATUS.NOMINAL: a bank or the TIM folio runs on the nominal transfer (R366). -/
def State.showNominal (s : State) : State :=
  let nominal := s.cal.live.length < 34
  (s.wr CAL.CAL_SET (withBit (s.rd CAL.CAL_SET) 14 nominal)).put CAL.ST_NOMINAL nominal

/-- The values in force of every bank that runs on interpolated values (R365, R367): the banks whose loop has locked since
their reset and whose temperature is known. REV advances if a value changes (R366). -/
def State.applyCal (s : State) : State :=
  let live := (List.range 34).filter fun b => s.cal.live.contains b || (s.locked b && (Tab.get none s.cal.tcal b).isSome)
  let s0 : State := { s with cal.live := live }
  let s1 := live.foldl (fun s b => match Tab.get none s.cal.tcal b with
    | some t => (bankChannels b).foldl (fun s ch => s.putValues ch t) s
    | none => s) s0
  let rev := bits (s.rd CAL.CAL_SET) 0 14
  let rev' := if s1.regs.cur = s0.regs.cur then rev else (rev + 1) % 16384
  (s1.wr CAL.CAL_SET (b2n (s.on CAL.MODE) * 2 ^ 15 + rev')).showNominal

/-- The die sensor of a bank's temperature (R384). -/
def calSensor (b : Nat) : Nat := if b < 33 then b / 3 else 22

/-- The current reading of a die sensor, if it has delivered one. -/
def State.reading (s : State) (i : Nat) : Option Int :=
  if s.thm.read.contains i then some (s.rdI (THM.READING i)) else none

/-- T_cal takes the last delivered reading where they differ by at least TSTEP (R364). -/
def State.takeTcal (s : State) : State :=
  (List.range 34).foldl (fun s b =>
    match s.reading (calSensor b), Tab.get none s.cal.tcal b with
    | some r, none => { s with cal.tcal := Tab.set none s.cal.tcal b (some r) }
    | some r, some t =>
      if 4 * s.rd CAL.TSTEP ≤ (r - t).natAbs then { s with cal.tcal := Tab.set none s.cal.tcal b (some r) } else s
    | none, _ => s) s

/-- The breakdown model of a section at a temperature, in mV (R111, R363); none where no set is valid (R113). -/
def State.vbdModel (s : State) (j : Nat) (t : Int) : Option Int :=
  match Tab.get [] s.cal.vbd j with
  | [] => none
  | l => some (openDiv (valueAt (fun p => l.getD p 0) t).1 (valueAt (fun p => l.getD p 0) t).2)

/-- CAL loads its last saved copy; without one every set is nominal and FAULT.NO_SETS is set (R367, R380). -/
def State.loadCal (s0 : State) : State :=
  let s : State := { s0 with cal.loaded := true }
  let vbd := (List.range 11).foldl (fun t j =>
    if Config.vbdValid j then Tab.set [] t j ((List.range 5).map (Config.vbdModel j)) else t) []
  match s.nvs.calCopy with
  | some c =>
    let s1 : State := { s with cal.sets := c.sets, cal.props := c.props, cal.vbd := vbd }
    (List.range 5).foldl (fun s g => s.wrI (CAL.CVH_OFS g) (c.ofs.getD g 0)) s1
  | none => State.fault { s with cal.vbd := vbd } pCAL 0

/-! ### Sessions (R370 to R374) -/

/-- The session of a channel, if one runs. -/
def State.sessionOf (s : State) (ch : Nat) : Option Session := s.cal.sessions.find? fun x => x.chan = ch

/-- Whether a channel is stale in the shot in hand (R370, R375). -/
def State.staleChan (s : State) (ch : Nat) : Bool := s.cal.sessions.any fun x => x.chan = ch && x.stale

/-- The first column of the stale span. -/
def State.staleFrom (s : State) : Nat := s.rd ACQ.NCOL - s.rd CAL.CAL_COLS

/-- Trims in force of a channel. -/
def State.trimsInForce (s : State) (ch : Nat) : List Nat := (List.range 32).map (s.tapTrim ch)

/-- One session's stale span begins: trial trims, CH_CAL, HIST_CH, and a fresh histogram in the session's first frame. -/
def State.startStale (s : State) (x : Session) : State :=
  let b := x.chan / 16
  let i := x.chan % 16
  let s1 := (List.range 32).foldl (fun s f =>
    s.wr (BANK.TAP_CFG b (32 * i + f)) (16 * (s.rd (BANK.TAP_CFG b (32 * i + f)) / 16) + x.trial.getD f 8)) s
  let s2 := ((s1.wr (BANK.CH_CAL b) (withBit (s1.rd (BANK.CH_CAL b)) i true)).wr (BANK.HIST_CH b) i).put (BANK.ST_HIST_BUSY b) true
  if x.frames = 0 then ((List.range 32).foldl (fun s f => s.wr (BANK.TAP_HIST b f) 0) s2).wr (BANK.HIST_N b) 0 else s2

/-- The stale span of every running session begins (R370). -/
def State.startSpan (s : State) : State :=
  let s1 := (s.cal.sessions.filter fun x => !x.stale).foldl State.startStale s
  { s1 with cal.sessions := s1.cal.sessions.map fun (x : Session) => { x with stale := true } }

/-- The stale span of a session ends: TAP_CFG returns to the values in force and CH_CAL clears. -/
def State.endStale (s : State) (x : Session) : State :=
  let b := x.chan / 16
  let i := x.chan % 16
  let s1 := (List.range 32).foldl (fun s f =>
    s.wr (BANK.TAP_CFG b (32 * i + f)) (16 * (s.rd (BANK.TAP_CFG b (32 * i + f)) / 16) + s.tapTrim x.chan f)) s
  (s1.wr (BANK.CH_CAL b) (withBit (s1.rd (BANK.CH_CAL b)) i false)).put (BANK.ST_HIST_BUSY b) false

/-- The pulse whose echo gate holds a code, if any (R371): ECHO_GATE ns are 25.6 LSB each. -/
def State.echoPulse (s : State) (sh : Shot) (code : Nat) : Option Nat :=
  (List.range sh.code.length).find? fun k =>
    let lo := sh.openCode + 128 * sh.code.getD k 0
    lo ≤ code && 5 * (code - lo) < 128 * s.rd CAL.ECHO_GATE

/-- Collect the recorded events of a stale channel's shot (R371). -/
def State.collect (s : State) (sh : Shot) (x : Session) (codes : List Nat) (invalid : Bool) : State :=
  let b := x.chan / 16
  let echo := fun c => (s.echoPulse sh c).isSome
  let s1 := if invalid then s else (codes.filter fun c => !echo c).foldl (fun s c =>
    if s.rd (BANK.HIST_N b) < 16384 then (s.count (BANK.TAP_HIST b (c % 32)) 1).count (BANK.HIST_N b) 1 else s) s
  let found := if sh.fire = some 0 && !sh.noRef && !invalid then
      codes.filterMap fun c => (s.echoPulse sh c).map fun k =>
        { code := c, pos := sh.code.getD k 0, tim0 := sh.tim0Code, mpd := sh.mpdEff, refPos := sh.code.getD sh.refPulse 0 : Echo }
    else []
  { s1 with cal.sessions := s1.cal.sessions.map fun (y : Session) =>
      if y.chan = x.chan then { y with echoes := (y.echoes ++ found).take 4096 } else y }

/-- mid[f] of R373 in 1/64 of 1/16 LSB: h/32 summed below f, and half of step f. -/
def midMeasured (h : List Nat) (f : Nat) : Int := (2 * (h.take f).sum + h.getD f 0 : Nat)

/-- Insert in rising order. -/
def insertInt (v : Int) : List Int → List Int
  | [] => [v]
  | h :: t => if v ≤ h then v :: h :: t else h :: insertInt v t

/-- The middle of a sorted list in half units: the two middle values of an even count are averaged (log 18). -/
def median2 (l : List Int) : Int :=
  let a := l.foldr insertInt []
  a.getD ((a.length - 1) / 2) 0 + a.getD (a.length / 2) 0

/-- The row group of a channel for ECHO_OFS (R373). -/
def rgOfChannel (ch : Nat) : Nat := (32 * (ch / 33) + min (ch % 33) 31) / 8

/-- t_ref of an echo's shot in 1/64 of 1/16 LSB (R129). -/
def State.echoRef (s : State) (e : Echo) : Int :=
  codeTime64 ((List.range 32).map fun f => 64 * (s.mid 528 f : Int)) 0 e.tim0 - 64 * (16 * e.mpd) - 64 * (2048 * (e.refPos : Int))

/-- The measured SKEW of a session (R373), none with too few echoes. -/
def State.measuredSkew (s : State) (x : Session) (h : List Nat) : Option Int :=
  if x.chan = 529 then
    let t64 := fun (mid : List Int) c => codeTime64 mid 0 c
    let m1 := (List.range 32).map (midMeasured h)
    let m0 := (List.range 32).map fun f => 64 * (s.mid 528 f : Int)
    if x.pairs.isEmpty then none else some (nearestAway (median2 (x.pairs.map fun p => t64 m1 p.1 - t64 m0 p.2)) 128)
  else if x.chan = 528 || x.echoes.length < s.rd CAL.ECHO_MIN then none
  else
    let mid := (List.range 32).map (midMeasured h)
    let ofs := (s.rd CAL.ECHO_BASE : Int) + s.rdI (CAL.ECHO_OFS (rgOfChannel x.chan))
    some (nearestAway (median2 (x.echoes.map fun e =>
      codeTime64 mid 0 e.code - 64 * (2048 * (e.pos : Int)) - s.echoRef e - 64 * ofs)) 128)

/-- The proposed trim of a cell, and whether a limit held it (R373). Widths h/32 are compared in 1/32. -/
def proposeTrim (h trial band : Nat) : Nat × Bool :=
  if 32 * (16 + band) ≤ h then (if 0 < trial then (trial - 1, false) else (trial, true))
  else if h ≤ 32 * (16 - band) then (if trial < 15 then (trial + 1, false) else (trial, true))
  else (trial, false)

/-- What set point p gains from a measurement m (in 1/64) against the interpolated value (R374): the quotient's parts. -/
def gain (m64 : Int) (v : Nat → Int) (t : Int) (sh p : Nat) : Int :=
  match bracket t with
  | (i, n, d) =>
    let e := m64 * d - 64 * (valueAt v t).1
    if n = 0 && d = 1 then (if p = i then nearestAway e (64 * 2 ^ sh) else 0)
    else
      let q := (d - n) * (d - n) + n * n
      if p = i then nearestAway (e * (d - n)) (64 * q * 2 ^ sh)
      else if p = i + 1 then nearestAway (e * n) (64 * q * 2 ^ sh) else 0

/-- The sets of a channel after a DONE session (R374). -/
def State.learn (s : State) (x : Session) (h : List Nat) (skew : Option Int) (t : Int) : State :=
  let ls := s.rd CAL.LEARN_SHIFT
  let same := x.trial = s.trimsInForce x.chan
  let touched := match bracket t with
    | (i, n, d) => if n = 0 && d = 1 then [i] else [i, i + 1]
  touched.foldl (fun s' p =>
    let old := s.calSet x.chan p
    let mid := (List.range 32).map fun f =>
      (clampI ((old.mid.getD f 0 : Int) + gain (midMeasured h f) (fun q => ((s.calSet x.chan q).mid.getD f 0 : Nat)) t
        (if same then ls else 0) p) 0 511).toNat
    let sk := match skew with
      | some k => clampI (old.skew + gain (64 * k) (fun q => (s.calSet x.chan q).skew) t ls p) (-2048) 2047
      | none => old.skew
    s'.setCalSet x.chan p { old with mid := mid, skew := sk, trim := if s.ruhal x.chan then old.trim else x.trial }) s

/-- A session's outcome shows in its channel's figures. -/
def State.outcome (s : State) (ch : Nat) (f : Quality → Quality) : State :=
  { s with cal.quality := Tab.set {} s.cal.quality ch (f (Tab.get {} s.cal.quality ch)) }

/-- A session ends SHORT (2) or ABORTED (3): nothing is learned (R372). -/
def State.endShort (s : State) (x : Session) (code : Nat) : State :=
  ((s.outcome x.chan fun q => { q with outcome := code }).count CAL.SESS_SHORT 1).raise CAL.INT_SESS_SHORT

/-- A session ends DONE (R373, R374, R381). -/
def State.endDone (s : State) (x : Session) (h : List Nat) : State :=
  match s.tcal x.chan with
  | none => s.endShort x 2
  | some t =>
    let skew := s.measuredSkew x h
    let props := (List.range 32).map fun f => proposeTrim (h.getD f 0) (x.trial.getD f 8) (s.rd CAL.TRIM_BAND)
    let native := !s.ruhal x.chan
    let inl := ((List.range 32).map fun f => (midMeasured h f - 64 * (s.mid x.chan f : Int)).natAbs).foldl max 0
    let resInl := (openDiv inl 4).toNat
    let resSkew := match skew with
      | some k => (k - s.skew x.chan).natAbs
      | none => 0
    let s1 := s.learn x h skew t
    let s2 : State := { s1 with cal.props := Tab.set [] s1.cal.props x.chan (if native then props.map (·.1) else []) }
    let s3 := s2.outcome x.chan fun q => { q with
      outcome := 1, resInl := min 255 resInl, resSkew := min 255 resSkew, skewShort := skew.isNone && x.chan < 528
      trimLimit := if native then min 15 (props.filter (·.2)).length else 0, since := some 0 }
    let s4 : State := { s3 with cal.changed := true, cal.passInl := max s3.cal.passInl resInl, cal.passSkew := max s3.cal.passSkew resSkew }
    ((s4.count CAL.SESS_DONE 1).raise CAL.INT_SESS_DONE).put CAL.ST_SAVE_PENDING true

/-- The histogram a session has gathered. -/
def State.sessionHist (s : State) (x : Session) : List Nat :=
  if x.chan < 528 then (List.range 32).map fun f => s.rd (BANK.TAP_HIST (x.chan / 16) f) else x.hist

/-- A frame of a session has ended: whether and how the session ends (R372). -/
def State.endFrameSession (s : State) (x : Session) : State × Option Session :=
  let h := s.sessionHist x
  if x.abort then (s.endShort x 3, none)
  else if 16384 ≤ h.sum then (s.endDone x h, none)
  else if x.chan < 528 && s.rd CAL.SESS_MAX ≤ x.frames + 1 then (s.endShort x 2, none)
  else (s, some { x with frames := x.frames + 1, stale := false })

/-- All sessions at a frame boundary: stale spans end, sessions end or go on, ages advance. -/
def State.endSessions (s : State) : State :=
  let s1 := (s.cal.sessions.filter (·.stale)).foldl State.endStale s
  let go := fun (acc : State × List Session) (x : Session) =>
    match acc.1.endFrameSession x with
    | (s', some y) => (s', acc.2 ++ [y])
    | (s', none) => (s', acc.2)
  let (s2, keep) := s1.cal.sessions.foldl go ({ s1 with cal.quality := s1.cal.quality.mapV {} fun (q : Quality) =>
    { q with since := q.since.map (· + 1) } }, [])
  let (s3, keepTim) := s2.cal.timSessions.foldl go (s2, [])
  { s3 with cal.sessions := keep, cal.timSessions := keepTim }

/-! ### Scheduling (R376, R377) -/

/-- Whether a session may start on a channel (R376). -/
def State.mayStart (s : State) (ch : Nat) : Bool :=
  let b := ch / 16
  let rg := (s.rowOf ch).map (· / 8)
  let sameBank := s.cal.sessions.any fun x => x.chan / 16 = b
  let sameRg := match rg with
    | some g => s.cal.sessions.any fun x => (s.rowOf x.chan).map (· / 8) = some g
    | none => false
  let excluded := match rg with
    | some g => bit (s.rd (CAL.RG_EXCL (g / 32))) (g % 32)
    | none => false
  !sameBank && !sameRg && !excluded && s.bankLocked b && !s.on (C.HALTED (pBank b)) && s.runs (pBank b)

/-- A new session of a channel: its trial trims are those its last session proposed, or the trims in force (R370), which the Ruhal mode
holds at 8 (R368). -/
def State.newSession (s : State) (ch : Nat) : Session :=
  { chan := ch, trial := match Tab.get [] s.cal.props ch with
      | [] => s.trimsInForce ch
      | l => if s.ruhal ch then s.trimsInForce ch else l }

/-- The first channel from NEXT_CH on, wrapping at 527, on which a session may start. -/
def State.nextChannel (s : State) : Option Nat :=
  ((List.range 528).map fun i => (s.rd CAL.NEXT_CH + i) % 528).find? s.mayStart

/-- Start one session: a channel brought into service by a repair first, else the next in order. -/
def State.startSession (s : State) : State :=
  match s.cal.priority.find? s.mayStart with
  | some ch => { s with
      cal.sessions := s.cal.sessions ++ [s.newSession ch], cal.priority := s.cal.priority.erase ch }
  | none =>
    match s.nextChannel with
    | none => s
    | some ch =>
      let s1 : State := { s with cal.sessions := s.cal.sessions ++ [s.newSession ch] }
      let wraps := ch < s.rd CAL.NEXT_CH || ch = 527
      let s2 := s1.wr CAL.NEXT_CH ((ch + 1) % 528)
      if wraps then
        let s3 := (((s2.wr CAL.CYCLE_FRAMES (min s.cal.passFrames 65535)).wr CAL.RES_INL_MAX (min s.cal.passInl 65535)).wr
          CAL.RES_SKEW_MAX (min s.cal.passSkew 65535)).raise CAL.INT_CYCLE_DONE
        { s3 with cal.passFrames := 0, cal.passInl := 0, cal.passSkew := 0 }
      else s2

/-- Start sessions until CAL_PAR run; a try that finds no channel changes nothing. -/
def State.startSessions (s : State) : Nat → State
  | 0 => s
  | n + 1 => if s.cal.sessions.length < s.rd CAL.CAL_PAR then (s.startSession).startSessions n else s

/-- CAL may start sessions (R376). -/
def State.calStarts (s : State) : Bool :=
  s.on CAL.CAL_EN && !s.on (C.HALTED pCAL) && s.safety != sfSafeHold && s.runs pCAL

/-- Sessions of TIM0 and TIM1 run beside CAL_PAR; TIM1's only while its mode is interval or off (R377). -/
def State.startTim (s : State) : State :=
  let running := fun ch => s.cal.timSessions.any fun x => x.chan = ch
  let new := [528, 529].filter fun ch => !running ch && s.on TIM.ST_DLL_LOCKED && (ch = 528 || s.rd (TIM.MODE 1) != 1)
  { s with cal.timSessions := s.cal.timSessions ++ new.map s.newSession }

/-- CAL at a frame boundary: temperatures, session ends, the values in force, and new sessions. -/
def State.calFrame (s : State) : State :=
  if !s.runs pCAL then s
  else
    let s1 := s.takeTcal.endSessions.applyCal
    let s2 : State := { s1 with cal.passFrames := s1.cal.passFrames + 1 }
    let s3 := if s2.calStarts then (s2.startSessions 33).startTim else s2
    s3.wr CAL.ACTIVE s3.cal.sessions.length

/-- The sessions that a repair, a commit or a halt has broken off end ABORTED (R35, R372). -/
def State.endAborted (s : State) : State :=
  let ends := fun (s : State) (x : Session) => if x.abort then s.endShort x 3 else s
  let s1 := (s.cal.sessions ++ s.cal.timSessions).foldl ends s
  let s2 : State := { s1 with
    cal.sessions := s.cal.sessions.filter fun x => !x.abort, cal.timSessions := s.cal.timSessions.filter fun x => !x.abort }
  s2.wr CAL.ACTIVE s2.cal.sessions.length

/-- CAL at an idle boundary: T_cal is compared (R364), and what a repair or a commit has broken off ends (R35, R372). -/
def State.calIdle (s : State) : State := if s.runs pCAL then s.takeTcal.endAborted else s

/-! ### The Ruhal mode (R368, R369) -/

/-- The Ruhal table in the calibration area: its header, records and check value. -/
def State.ruhalTable (s : State) : List Byte :=
  let nch := s.nvs.mram.le (Config.ruhalBase + 6) 2
  s.nvs.mram.bytes Config.ruhalBase (0x14 + 40 * nch)

/-- The check of a Ruhal table (R369): every row, and the check value over all preceding bytes. -/
def ruhalOk (t : List Byte) : Bool :=
  let nch := ofLeBytes ((t.drop 6).take 2)
  let ofs := (List.range (5 * nch)).map fun r => toSigned 16 (ofLeBytes ((t.drop (0x14 + 8 * r)).take 2))
  t.take 4 = [0x52, 0x55, 0x48, 0x4C] && t.getD 4 0 = 3 && t.getD 5 0 = 5 && 1 ≤ nch && nch ≤ 528
    && ofs.all (fun o => -2048 ≤ o && o ≤ 2047)
    && (t.drop (0x10 + 40 * nch)).take 4 = shake256 (t.take (0x10 + 40 * nch)) 4

/-- The table's SEL masks replace those of the sets and its offsets seed SKEW (R368). -/
def State.loadRuhal (s : State) : State :=
  let t := s.ruhalTable
  let nch := ofLeBytes ((t.drop 6).take 2)
  let s1 := (List.range 5).foldl (fun s p => (List.range nch).foldl (fun s c =>
    let o := 0x10 + 8 * (p * nch + c)
    s.setCalSet c p { s.calSet c p with
      sel := BitVec.ofNat 32 (ofLeBytes ((t.drop o).take 4)), skew := toSigned 16 (ofLeBytes ((t.drop (o + 4)).take 2)) }) s) s
  { s1.put CAL.ST_SAVE_PENDING true with cal.ruhalNch := nch, cal.changed := true }

/-- CAL's commit check (R368): a commit that sets MODE 1 needs a valid table. -/
def State.calRefuses (s : State) : Bool := s.rdT CAL.MODE = 1 && s.rd CAL.MODE = 0 && !ruhalOk s.ruhalTable

/-- CAL applies its staged copy: a change of MODE, CAL_COLS, ECHO_GATE or ECHO_BASE aborts the sessions (R372). -/
def State.applyCalStaged (s : State) : State :=
  let breaks := [CAL.MODE, CAL.CAL_COLS, CAL.ECHO_GATE, CAL.ECHO_BASE].any fun f => s.rdT f != s.rd f
  let ruhal := s.rdT CAL.MODE = 1 && s.rd CAL.MODE = 0
  let s1 := s.applyStaged pCAL
  let s2 := if ruhal then s1.loadRuhal else s1
  let s3 : State := if breaks then { s2 with
      cal.sessions := s2.cal.sessions.map fun (x : Session) => { x with abort := true }
      cal.timSessions := s2.cal.timSessions.map fun (x : Session) => { x with abort := true } } else s2
  (s3.put CAL.ST_RUHAL (s3.on CAL.MODE)).wr CAL.CAL_SET (withBit (s3.rd CAL.CAL_SET) 15 (s3.on CAL.MODE))

/-! ### String skew (R378) -/

/-- A string's mean in R378 step 3 as a sum and a count. FREE VALUE (log 7): the mean of a string without a reference. -/
def State.strskMean (s : State) (i : Nat) : Int × Int :=
  match Tab.get 0 s.cal.strskN i with
  | 0 => ((s.freeVal i : Nat), 1)
  | n => (Tab.get 0 s.cal.strskSum i, (n : Int))

/-- A string's proposal: EG_SKEW less m_s − m_0 over 39.0625 ps, which are 1,024 of 1/64 of 1/16 LSB. -/
def State.strskProposal (s : State) (i : Nat) : Int :=
  let m := s.strskMean i
  let m0 := s.strskMean 0
  clampI (s.rdI (EMT.EG_SKEW i) - nearest (m.1 * m0.2 - m0.1 * m.2) (m.2 * m0.2 * 1024)) (-127) 127

/-- All shots of the measurement are done (R378 step 3). -/
def State.strskFinish (s : State) : State :=
  let s1 := (List.range 8).foldl (fun (a : State) i => a.wrI (CAL.PROP_EG_SKEW i) (s.strskProposal i)) s
  ((s1.drew 8).put CAL.ST_STRSK_BUSY false).raise CAL.INT_STRSK_DONE

/-- A fired string-skew shot counts, and its reference against the nominal fire instant is recorded, in 1/64 of 1/16 LSB. A shot without
a reference has none to record. -/
def State.strskShot (s : State) (sh : Shot) : State :=
  match s.strskString with
  | none => s
  | some st =>
    if sh.fire != some 0 then s
    else
      let o := s.echoRef { tim0 := sh.tim0Code, mpd := sh.mpdEff, refPos := sh.code.getD sh.refPulse 0 }
        - 64 * (2048 * (s.rd EMT.FIRE_OFFSET : Int))
      let s1 : State := if sh.noRef then s else { s with
        cal.strskSum := Tab.set 0 s.cal.strskSum st (Tab.get 0 s.cal.strskSum st + o)
        cal.strskN := Tab.set 0 s.cal.strskN st (Tab.get 0 s.cal.strskN st + 1) }
      let s2 : State := { s1 with cal.strskLeft := s.cal.strskLeft - 1, cal.strskNext := s.cal.strskNext + 1 }
      if s2.cal.strskLeft = 0 then s2.strskFinish else s2

end Sys2Proof.Machine
end

