-- ==== Sys2Proof/Machine/CalCmds.lean ====
section
/-! DEFINITION. The meanings of CAL's own commands (spec/13_calibration.md): TIM session timeouts, the string-skew start, saving,
and the eye monitors. -/
namespace Sys2Proof.Machine
open Sys2Proof

/-- A TIM session that has not reached its events in time ends SHORT (R377). -/
def execTimSessionTimeout (input : Fin 2) (s : State) : Host.Outcome State Fault Refusal :=
  let ch := 528 + (input : Nat)
  done (if !s.runs pCAL then s
    else match s.cal.timSessions.find? fun x => x.chan = ch with
      | none => s
      | some x =>
        if 16384 ≤ x.hist.sum then s
        else State.endShort { s with cal.timSessions := s.cal.timSessions.filter fun y => y.chan != ch } x 2)

/-- A write of the word of STRSK_START (R378). -/
def State.strskWord (s : State) (v : Nat) : State :=
  let n := bits v 0 13
  let s1 := if 8 ≤ n && n ≤ 4096 then s.wrS CAL.STRSK_SHOTS n else s.err (C.ERR_VALUE pCAL)
  if !bit v 31 then s1
  else if s.safety != sfCommission || !s.on EMT.MPD_EN then s1.err (C.ERR_STATE pCAL)
  else { s1.put CAL.ST_STRSK_BUSY true with
    cal.strskArmed := true, cal.strskLeft := 0, cal.strskNext := 0, cal.strskSum := [], cal.strskN := [] }

def execStrskStart (path : Path) (value : Word) (s : State) : Host.Outcome State Fault Refusal :=
  let _ := path
  done (s.writeTo pCAL fun s => s.strskWord value.toNat)

/-- CAL_SAVE: SAVE_MIN minutes have passed since the last save, or a deferred save is retried (R380). -/
def execCalSave (s : State) : Host.Outcome State Fault Refusal :=
  done (if !s.runs pCAL || !s.cal.changed then s
    else if !s.runs pNVS then s.fault pCAL 2
    else if !s.on WATCH.ST_NVS_OK then s.nvsBlocked.raise CAL.INT_SAVE_DEFER
    else
      let copy : CalCopy := {
        sets := s.cal.sets, props := s.cal.props, ofs := (List.range 5).map fun g => s.rdI (CAL.CVH_OFS g) }
      let s1 := (s.put CAL.ST_SAVE_PENDING false).raise CAL.INT_SAVED
      { s1 with nvs.calCopy := some copy, cal.changed := false })

/-- EYE_SCAN: one lane's eye, unless EYE_PERIOD turns the scans off (R381). -/
def execEyeScan (lane : Fin 6) (width : BitVec 8) (height : BitVec 16) (s : State) : Host.Outcome State Fault Refusal :=
  let l : Nat := lane
  done (if !s.runs pCAL || s.rd CAL.EYE_PERIOD = 0 then s
    else if s.rd (LANE.STATE l) = 5 then
      ((s.put (CAL.EYE_VALID l) true).wr (CAL.EYE_W l) width.toNat).wr (CAL.EYE_H l) height.toNat
    else s.put (CAL.EYE_VALID l) false)

end Sys2Proof.Machine
end

