-- ==== Sys2Proof/Machine/Port.lean ====
section
/-! DEFINITION. MON_TX and MON_RX, and how Carrel prints and answers (spec/20_monitor_and_test.md: R516 to R518). Line formats
that the spec does not show are the model's (log 37). -/
namespace Sys2Proof.Machine
open Sys2Proof

/-! ### Text -/

/-- A hexadecimal digit. -/
def hexDigit (d : Nat) : String :=
  ["0", "1", "2", "3", "4", "5", "6", "7", "8", "9", "A", "B", "C", "D", "E", "F"].getD (d % 16) "0"

/-- The low `n` hexadecimal digits of a number. -/
def hexDigits : Nat → Nat → String
  | 0, _ => ""
  | n + 1, v => hexDigits n (v / 16) ++ hexDigit v

/-- A word: 0x with an underscore after every four digits (R518). -/
def hexWord (v : Nat) : String := "0x" ++ hexDigits 4 (v / 65536) ++ "_" ++ hexDigits 4 v

/-- A 64-bit number. -/
def hexLong (v : Nat) : String := hexWord (v / 2 ^ 32) ++ "_" ++ hexDigits 4 (v / 65536) ++ "_" ++ hexDigits 4 v

/-- Bytes as hexadecimal digits, in order. -/
def hexBytes (l : List Byte) : String := l.foldl (fun t b => t ++ hexDigits 2 b.toNat) ""

/-- Words on one line. -/
def spaced : List String → String
  | [] => ""
  | [x] => x
  | x :: r => x ++ " " ++ spaced r

def ansOk : String := "OK"
def ansSyntax : String := "E 01 SYNTAX"
def ansLocked : String := "E 02 LOCKED"
def ansState : String := "E 03 STATE"
def ansBusy : String := "E 04 BUSY"
def ansValue : String := "E 05 VALUE"
def ansAddr : String := "E 06 ADDR"
def ansCheck : String := "E 07 CHECK"
def ansLong : String := "E 08 LONG"
def ansTimeout : String := "E 09 TIMEOUT"

def prompt : String := "carrel> "

/-! ### Lines (R517) -/

/-- Carrel or the recovery monitor reads the port; under BOOTSEL 0b011 the recovery monitor listens to SPI alone. -/
def State.monitorReads (s : State) : Bool :=
  s.runs pHCP && (s.mon.running || (s.mon.recovery && s.rd RST.BOOTSEL != 3))

/-- A character of a line; a completed line waits for its answer, one that is too long is answered at once. -/
def State.lineChar (s : State) (c : Byte) : State :=
  if c = 13 || c = 10 then
    if s.mon.lineLong then { s with mon.line := [], mon.lineLong := false, mon.output := [ansLong, prompt] }
    else if s.mon.line = [] then s
    else { s with mon.busy := true }
  else if s.mon.lineLong then s
  else if 128 ≤ s.mon.line.length then { s with mon.line := [], mon.lineLong := true }
  else { s with mon.line := s.mon.line ++ [c] }

/-- Characters that waited, up to the end of the next line. -/
def State.feed : List Byte → State → State
  | [], s => { s with mon.rx := [] }
  | c :: r, s => if s.mon.busy then { s with mon.rx := c :: r } else State.feed r (s.lineChar c)

/-- Carrel's answer: data lines, the status line, the prompt; then it reads on. -/
def State.answer (s : State) (lines : List String) (status : String) : State :=
  let s1 : State := { s with mon.output := s.mon.output ++ lines ++ [status, prompt], mon.busy := false, mon.line := [], mon.lineLong := false }
  s1.feed s1.mon.rx

/-- SNAP_DONE has come for a waiting `snap`: it prints SNAP_ACCESSION and SNAP_SHOT (R520). -/
def State.snapAnswer (s : State) : State :=
  if s.mon.snapWait then
    State.answer { s with mon.snapWait := false, mon.output := [] } [hexWord (s.rd CAT.SNAP_ACCESSION), hexWord (s.rd CAT.SNAP_SHOT)] ansOk
  else s

/-- MON_CHARACTER: a framing error is counted, a character joins the line or waits in the buffer of 256. -/
def execMonCharacter (char : Byte) (framing : Bool) (s : State) : Host.Outcome State Fault Refusal :=
  done (if !s.runs pHCP then s
    else if framing then s.count MON.FRAME_ERR 1
    else if !s.monitorReads then s
    else if !s.mon.busy then s.lineChar char
    else if s.mon.rx.length < 256 then { s with mon.rx := s.mon.rx ++ [char] }
    else s.count MON.RX_OVF 1)

/-- LINE_TIMEOUT: a partial line is discarded. -/
def execLineTimeout (s : State) : Host.Outcome State Fault Refusal :=
  done (if s.mon.busy then s else { s with mon.line := [], mon.lineLong := false })

end Sys2Proof.Machine
end

