-- ==== Sys2Proof/Machine/Detector.lean ====
section
/-! DEFINITION. The detector tier and the time-to-digital converters (spec/04_detector_tier.md, spec/05_time_to_digital.md):
coincidence gates, k in force, channel health, hot SPADs, bias and breakdown tracking, banks and TIM inputs. -/
namespace Sys2Proof.Machine
open Sys2Proof

/-! ### Channels, SPADs and k (R98, R100 to R103, R107) -/

/-- The section of a channel and its index there (R98). -/
def secOf (ch : Nat) : Nat := ch / 48
def idxOf (ch : Nat) : Nat := ch % 48

/-- SPADs enabled in force: SPAD_EN, less the hot mask of the last boundary while HOT_AUTO is set (R107). -/
def State.spadsOn (s : State) (ch : Nat) : Nat :=
  let en := s.rd (DET.SPAD_EN (secOf ch) (idxOf ch))
  if s.on (DET.HOT_AUTO (secOf ch)) then en &&& (0xFFF ^^^ (s.chan ch).masked) else en

/-- The number of set bits of a 12-bit mask. -/
def popcount12 (m : Nat) : Nat := ((List.range 12).filter fun i => bit m i).length

/-- k in force (R102): AUTO_K's choice or K, limited to the number of SPADs enabled. -/
def State.kInForce (s : State) (ch : Nat) : Nat :=
  min (if s.on (DET.AUTO_K (secOf ch)) then (s.chan ch).kAuto else s.rd (DET.K (secOf ch) (idxOf ch))) (popcount12 (s.spadsOn ch))

/-- SPADS_ON and K_IN_FORCE show what is in force. -/
def State.showChan (s : State) (ch : Nat) : State :=
  (s.wr (DET.SPADS_ON (secOf ch) (idxOf ch)) (popcount12 (s.spadsOn ch))).wr (DET.K_IN_FORCE (secOf ch) (idxOf ch)) (s.kInForce ch)

/-- The channels of a section. -/
def secChannels (j : Nat) : List Nat := List.range' (48 * j) 48

/-- The trim of a section takes a value; a change is marked for the next frame's ledger (R112). DESIGN CHOICE (log 44): a change at any
boundary since the last frame opened marks it, of several idle boundaries not the last one alone. -/
def State.setTrim (s : State) (j v : Nat) : State :=
  if s.rd (DET.TRIM j) = v then s else { s.wr (DET.TRIM j) v with det.trimChanged := true }

/-- The position after a scanned SPAD, in order of channel and then SPAD (R106). -/
def scanNext (n : Nat) : Nat := (n + 1) % 576

/-- The next SPAD to scan: the first enabled one after position `n`. -/
def State.scanFrom (s : State) (j : Nat) : Nat → Nat → Nat
  | 0, n => scanNext n
  | fuel + 1, n =>
    let m := scanNext n
    if bit (s.spadsOn (48 * j + m / 12)) (m % 12) then m else s.scanFrom j fuel m

/-- The scan of a section goes to the first enabled SPAD after position `n`. -/
def State.scanTo (s : State) (j n : Nat) : State :=
  let m := s.scanFrom j 576 n
  (s.wr (DET.SCAN_CH j) (m / 12)).wr (DET.SCAN_SPAD j) (m % 12)

/-- A SPAD due for its scan that is not enabled in force is skipped (R106). -/
def State.scanSkip (s : State) (j : Nat) : State :=
  if bit (s.spadsOn (48 * j + s.rd (DET.SCAN_CH j))) (s.rd (DET.SCAN_SPAD j)) then s
  else s.scanTo j (12 * s.rd (DET.SCAN_CH j) + s.rd (DET.SCAN_SPAD j))

/-- A section applies its staged copy: AUTO_K newly set starts from K, and with TRACK clear TRIM_MANUAL applies
(R103, R112), unless VSPAD is lost (R110). -/
def State.applySection (s : State) (j : Nat) : State :=
  let starts := s.rdT (DET.AUTO_K j) = 1 && s.rd (DET.AUTO_K j) = 0
  let s1 := s.applyStaged (pDet j)
  let s2 := if starts then (secChannels j).foldl (fun s c =>
      let k := min (max (s.rd (DET.K j (idxOf c))) (s.rd (DET.K_MIN j))) (s.rd (DET.K_MAX j))
      s.setChan c { s.chan c with kAuto := k }) s1 else s1
  let s3 := if s2.on (DET.TRACK j) || (s2.section_ j).lost then s2 else s2.setTrim j (s2.rd (DET.TRIM_MANUAL j))
  (secChannels j).foldl State.showChan (s3.scanSkip j)

/-! ### The coincidence gate (R99 to R101) -/

/-- The armed interval of a shot, in codes: from 100 ns (2,560 codes) before the window opens until it closes. -/
def armed (sh : Shot) (code : Nat) : Bool := sh.openCode ≤ code + 2560 && code < sh.closeCode

/-- An avalanche reaches its gate: hold-off of HOLDOFF ns (25.6 codes each), COINC_WIN of 0.5 + 0.25 × WIN ns (6.4 codes
per 0.25 ns); the gate emits an event at the k-th distinct SPAD. An event before the window opens passes until the opening decides
by HALTED (R120, `openSection`). -/
def State.avalanche (s : State) (sh : Shot) (ch spad code : Nat) : State :=
  let j := secOf ch
  let c := s.chan ch
  let ready := match c.fired.find? fun e => e.1 = spad with
    | some e => 128 * s.rd (DET.HOLDOFF j) ≤ 5 * (code - e.2)
    | none => true
  if !armed sh code || !s.runs (pDet j) || !bit (s.spadsOn ch) spad || !ready then s
  else
    let win := 32 * (2 + s.rd (DET.WIN j))
    let waiting := (c.gate.filter fun e => 5 * (code - e.2) ≤ win && e.1 != spad) ++ [(spad, code)]
    let k := s.kInForce ch
    let fires := k ≤ waiting.length
    let s1 := s.setChan ch { c with
      gate := if fires then [] else waiting
      fired := (spad, code) :: c.fired.filter fun e => e.1 != spad }
    let x := s1.section_ j
    let s2 := if s1.rd (DET.SCAN_CH j) = idxOf ch then s1.setSection j { x with
        scanMacro := x.scanMacro + 1, scanSpad := x.scanSpad + b2n (s1.rd (DET.SCAN_SPAD j) = spad) } else s1
    if fires && !x.lost && !(sh.windowOpen && x.haltedAtOpen) then { s2 with det.flight := s2.det.flight ++ [(ch, code)] } else s2

/-- A SPAD avalanche on the shot in flight; without a shot the SPADs are disarmed. -/
def execSpadAvalanche (ch : Fin 528) (spad : Fin 12) (code : BitVec 18) (s : State) : Host.Outcome State Fault Refusal :=
  done (match s.acq.shot with
    | some sh => s.avalanche sh ch spad code.toNat
    | none => s)

/-! ### Slots and the delivery of events (R124, R130 to R133, R155 to R161) -/

/-- The slot of a channel (R155): its row, or 512 + k for the lowest channel of block k that serves no row. -/
def State.slotOf (s : State) (ch : Nat) : Option Nat :=
  match s.rowOf ch with
  | some r => some r
  | none =>
    let k := ch / 33
    if ((List.range' (33 * k) 33).find? fun c => (s.rowOf c).isNone) = some ch then some (512 + k) else none

/-- The first address of a slot of the buffer that a shot fills (R160, R164). -/
def slotAddr (sh : Shot) (slot : Nat) : Nat := 0x210000 * (sh.seq.toNat % 2) + 0x1000 * slot

/-- A stacks bank's error check of an access (R161): what it counts. The last uncorrectable error shows as the address of its 64-bit
word, which is what the code protects. -/
def State.stackEcc (s : State) (addr : Nat) (found : Ecc) : State :=
  let b := addr / 0x1000 % 16
  match found with
  | .clean => s
  | .single => (s.count (SBANK.CE_COUNT b) 1).raise (SBANK.INT_CE b)
  | .double => ((((s.count (SBANK.UE_COUNT b) 1).wr (SBANK.LAST_UE_ADDR b) (addr / 8 * 8)).raise (SBANK.INT_UE b)).fault (pSbank b) 0)

/-- The data bits that are bad in a word with a double error: two of the 72 bits that the code protects (R161, R182). -/
def badBits (p q : Nat) : Nat := (2 ^ (p % 72) ^^^ 2 ^ (q % 72)) % 2 ^ 64

/-- The stacks as a read finds them whose word at `addr` has a double error: every other bit stands as stored. FREE VALUE (log 7):
which two bits are bad, from the k-th free value on. -/
def State.spoiled (s : State) (m : Mem) (addr k : Nat) : Mem :=
  m.setLe (addr / 8 * 8) 8 (m.le (addr / 8 * 8) 8 ^^^ badBits (s.freeVal k) (s.freeVal (k + 1)))

/-- The stacks as reads find them that meet some errors. -/
def State.spoiledBy (s : State) (errors : List StackError) : Mem :=
  (errors.zipIdx.filter fun e => e.1.double).foldl (fun m e => s.spoiled m e.1.addr (2 * e.2)) s.stackMem

/-- The errors that some reads of the stacks meet count in their banks. -/
def State.stackErrors (s : State) (errors : List StackError) : State :=
  errors.foldl (fun (s : State) e => s.stackEcc e.addr (if e.double then .double else .single)) s

/-- ACQ records an event in its slot: the histogram byte, the list entry (R156, R157, R159). A word found uncorrectable keeps its bad
bits. -/
def State.record (s : State) (sh : Shot) (ch code n : Nat) (histogram : Ecc) : State :=
  match s.slotOf ch with
  | none => s
  | some slot =>
    if !s.runs (pSbank (slot % 16)) then s
    else
      let base := slotAddr sh slot
      let bin := base + 0x200 + (code - sh.openCode) / 2 ^ (5 + sh.binsel)
      let s1 := if bit sh.reduce 2 then
          let s' := s.stackEcc bin histogram
          let m := if histogram = .double then s'.spoiled s'.stackMem bin 0 else s'.stackMem
          { s'.drew (if histogram = .double then 2 else 0) with stackMem := m.write bin [m.read bin + 1] }
        else s
      let s2 := if bit sh.reduce 1 then { s1 with stackMem := s1.stackMem.setLe (base + 0x100 + 4 * n) 4 code } else s1
      if bit sh.reduce 2 && histogram = .double then s2.setEvents ch { s2.events ch with stackErr := true } else s2

/-- A timestamped event reaches ACQ (R130 to R133). Dead time 1.5 ns is 38.4 codes. -/
def State.deliver (s : State) (sh : Shot) (ch code : Nat) (entry histogram : Ecc) : State :=
  let b := ch / 16
  let e := s.events ch
  let dead : Bool := match e.lastCode with
    | some l => decide (10 * (code - l) ≤ 384)
    | none => false
  if dead then s
  else
    let s0 := s.setEvents ch { e with lastCode := some code }
    if code < sh.openCode || sh.closeCode ≤ code || !(s.bank b).open_ || (s.bank b).invalid then s0
    else if 64 ≤ e.codes.length then
      let s1 := s0.setEvents ch { e with
        lastCode := some code, ovf := min 4095 (e.ovf + 1), pileupT := if e.ovf = 0 then code else e.pileupT }
      (s1.setBank b { s1.bank b with pileup := withBit (s1.bank b).pileup (ch % 16) true }).raise (BANK.INT_PILEUP b)
    else if entry = .double then
      ((s0.setEvents ch { e with lastCode := some code, lost := true }).count (BANK.ECC_EVENTS b) 1).fault (pBank b) 0
    else
      (s0.setEvents ch { e with lastCode := some code, codes := e.codes ++ [code] }).record sh ch code e.codes.length histogram

/-- The oldest event on its way arrives. -/
def execEventDelivery (entry histogram : Ecc) (s : State) : Host.Outcome State Fault Refusal :=
  done (match s.det.flight, s.acq.shot with
    | (ch, code) :: r, some sh => State.deliver { s with det.flight := r } sh ch code entry histogram
    | _ :: r, none => { s with det.flight := r }
    | [], _ => s)

/-! ### Frame boundary work of a section -/

/-- k of a channel for the next frame (R103). -/
def stepK (c : Chan) (lo hi kmin kmax : Nat) : Nat :=
  if c.windows = 0 then c.kAuto
  else if hi * c.windows < c.bgSum && c.kAuto < kmax then c.kAuto + 1
  else if c.bgSum < lo * c.windows && kmin < c.kAuto then c.kAuto - 1
  else c.kAuto

/-- AUTO_K over a section's channels. -/
def State.autoK (s : State) (j : Nat) : State :=
  if !s.on (DET.AUTO_K j) then s
  else (secChannels j).foldl (fun s c => s.setChan c { s.chan c with
    kAuto := stepK (s.chan c) (s.rd (DET.BG_LOW j)) (s.rd (DET.BG_HIGH j)) (s.rd (DET.K_MIN j)) (s.rd (DET.K_MAX j)) }) s

/-- The scanned SPAD of one section is judged at the end of a frame, under the enables of that frame (R106, R107). -/
def State.hotJudge (s : State) (j : Nat) : State :=
  let x := s.section_ j
  let i := s.rd (DET.SCAN_CH j)
  let p := s.rd (DET.SCAN_SPAD j)
  let on := s.spadsOn (48 * j + i)
  let hot := 256 ≤ x.scanMacro && bit on p && s.rd (DET.HOT_FACTOR j) * x.scanMacro ≤ x.scanSpad * popcount12 on
  let s1 := if hot then
      (s.wr (DET.HOT_MASK j i) (withBit (s.rd (DET.HOT_MASK j i)) p true)).raise (DET.INT_HOT_MASKED j)
    else s
  s1.setSection j { x with scanSpad := 0, scanMacro := 0 }

/-- HOT_MASK as the boundary found it, in `s0`, comes into force for the frames that follow. DEDUCED (log 44): the bit of a SPAD that
this boundary finds hot acts from the next one (R107). -/
def State.applyMask (s s0 : State) (j : Nat) : State :=
  (secChannels j).foldl (fun s c => s.setChan c { s.chan c with masked := s0.rd (DET.HOT_MASK j (idxOf c)) }) s

/-- One channel's checks of R108 over the frame just closed. `otherEv` and `otherWin` sum the section's other channels,
`below` counts those with fewer than 16 events per shot out of `n`. DESIGN CHOICE (log 44): a frame in which no window opened counts
as one without the conditions of events and of full windows; the median lies below 16 where more than half of the channels do. -/
def State.checkChannel (s : State) (ch otherEv otherWin below n : Nat) : State :=
  let j := secOf ch
  let i := idxOf ch
  let c := s.chan ch
  let none_ := decide (0 < c.windows) && c.evSum = 0 && 0 < otherWin && otherWin ≤ otherEv
  let dark := popcount12 (s.spadsOn ch) = 0
  let stuck := decide (0 < c.windows) && c.allFull && n < 2 * below
  let hot := s.rd (DET.HOT_MAX j) < popcount12 (s.rd (DET.HOT_MASK j i))
  let c1 : Chan := { c with
    noneRun := if none_ then c.noneRun + 1 else 0
    darkRun := if dark then c.darkRun + 1 else 0
    stuckRun := if stuck then c.stuckRun + 1 else 0
    deadOk := if none_ || dark then 0 else c.deadOk + 1
    stuckOk := if stuck then 0 else c.stuckOk + 1
    hotOk := if hot then 0 else c.hotOk + 1
    windows := 0, bgSum := 0, evSum := 0, allFull := true }
  let flag := fun (s : State) (f : Fld) (sets clears : Bool) =>
    if sets && !s.on f then ((s.put f true).raise (DET.INT_CH_HEALTH j)).fault (pDet j) 0
    else if clears then s.put f false else s
  let s1 := flag (s.setChan ch c1) (DET.HOT_LIMIT j i) hot (4 ≤ c1.hotOk)
  let s2 := flag s1 (DET.DEAD j i) (4 ≤ c1.noneRun || 4 ≤ c1.darkRun) (4 ≤ c1.deadOk)
  flag s2 (DET.GATE_STUCK j i) (4 ≤ c1.stuckRun) (4 ≤ c1.stuckOk)

/-- The health checks of a section (R108). -/
def State.checkSection (s : State) (j : Nat) : State :=
  let cs := secChannels j
  (cs.foldl (fun (s' : State) ch =>
    let others := (cs.erase ch).map s.chan
    let seen := others.filter fun c => 0 < c.windows
    s'.checkChannel ch (others.map (·.evSum)).sum (others.map (·.windows)).sum
      (seen.filter fun c => c.evSum < 16 * c.windows).length seen.length) s)

/-! ### Bias and breakdown tracking (R110 to R114) -/

/-- VSPAD_filtered in mV: the mean of the last accepted readings, at most four (R110; rounding log 8). -/
def vspadMean (l : List Nat) : Int := if l.isEmpty then 0 else openDiv (l.sum : Nat) (l.length : Nat)

/-- A reading of VSPAD in one section (R110). DESIGN CHOICE (log 44): VSPAD_OK reads 0 from a discarded reading to the next accepted one,
and while VSPAD is lost (R121). -/
def State.vspadSection (s : State) (mv : Int) (j : Nat) : State :=
  let x := s.section_ j
  if mv < 22000 || 34000 < mv then
    ((s.setSection j { x with recovered := 0 }).raise (DET.INT_VSPAD_RANGE j)).put (DET.ST_VSPAD_OK j) false
  else
    let l := (mv.toNat :: x.vspad).take 4
    let back := x.lost && 4 ≤ x.recovered + 1
    let x1 : Section := { x with
      vspad := l, vspadSeen := true, recovered := if x.lost then x.recovered + 1 else 0, lost := x.lost && !back }
    ((s.setSection j x1).wrI (DET.VSPAD_MV j) (vspadMean l)).put (DET.ST_VSPAD_OK j) (!x1.lost)

/-- A reading of VSPAD reaches every section. -/
def State.vspadReading (s : State) (mv : Int) : State :=
  (List.range 11).foldl (fun s j => if s.runs (pDet j) then s.vspadSection mv j else s) s

/-- A housekeeping round ends: each section counts the rounds without an accepted reading. -/
def State.vspadRound (s : State) : State :=
  (List.range 11).foldl (fun s j =>
    let x := s.section_ j
    s.setSection j { x with vspadSeen := false, vspadMiss := if x.vspadSeen then 0 else min 3 (x.vspadMiss + 1) }) s

/-- Three rounds without an accepted reading: FAULT.VSPAD in every section and every TRIM to 511 at once (R110). -/
def execVspadLost (s : State) : Host.Outcome State Fault Refusal :=
  done ((List.range 11).foldl (fun s j =>
    let x := s.section_ j
    if s.runs (pDet j) && 3 ≤ x.vspadMiss then
      (((s.setSection j { x with lost := true, recovered := 0 }).put (DET.ST_VSPAD_OK j) false).wr (DET.TRIM j) 511).fault (pDet j) 3
    else s) s)

/-- Tracking acts in a section: TRACK set and a model at hand (R113). -/
def State.tracks (s : State) (j : Nat) : Bool := s.on (DET.TRACK j) && (Tab.get [] s.cal.vbd j) != []

/-- The trim that a section aims for (R112), in codes of 12.5 mV: 2 / 25 of the mV. -/
def State.trimTarget (s : State) (j : Nat) (model : Int) : Int :=
  nearest (2 * (vspadMean (s.section_ j).vspad - model - (s.section_ j).drift - 25 * (s.rd (DET.V_EX j) : Int))) 25

/-- TRIM moves toward its target by at most MAX_STEP, clamped to 0 to 511 (R112). -/
def State.moveTrim (s : State) (j : Nat) (target : Int) : State :=
  let now : Int := (s.rd (DET.TRIM j) : Int)
  let step : Int := (s.rd (DET.MAX_STEP j) : Int)
  let next := clampI target (now - step) (now + step)
  let held := clampI next 0 511
  let s1 := (s.setTrim j held.toNat).put (DET.ST_TRIM_LIMIT j) (held != next)
  if held != next then s1.raise (DET.INT_TRIM_LIMIT j) else s1

/-- A section's trim at a frame boundary or an idle boundary (R112, R113): with TRACK clear or no model TRIM_MANUAL stands, again after
VSPAD has been lost (R110), and TRIM_LIMIT tells of this boundary alone (R121). -/
def State.trimBoundary (s : State) (j : Nat) : State :=
  if !s.runs (pDet j) then s
  else
    let noModel := (Tab.get [] s.cal.vbd j) = []
    let s1 := ((s.put (DET.ST_NO_MODEL j) noModel).put (DET.ST_TRACKING j) (s.tracks j)).put (DET.ST_TRIM_LIMIT j) false
    if (s.section_ j).lost then s1
    else if !s.on (DET.TRACK j) || noModel then s1.setTrim j (s1.rd (DET.TRIM_MANUAL j))
    else
      match s1.reading j with
      | some t =>
        if (s1.section_ j).vspad != [] then
          match s1.vbdModel j t with
          | some m => s1.moveTrim j (s1.trimTarget j m)
          | none => s1
        else s1
      | none => s1

/-- A pair that R111 rejects. -/
def State.rejectPair (s : State) (j : Nat) : State :=
  let x := s.section_ j
  let s1 := (s.setSection j { x with rejects := x.rejects + 1 }).raise (DET.INT_TRACK_REJECT j)
  if 8 ≤ x.rejects + 1 then s1.fault (pDet j) 2 else s1

/-- The drift warnings of R114. -/
def State.driftChecks (s : State) (j : Nat) (drift : Int) : State :=
  let s1 := if 400 ≤ drift.natAbs then s.raise (DET.INT_DRIFT_WARN j) else s
  if 800 ≤ drift.natAbs then s1.fault (pDet j) 1 else s1

/-- A signed figure of a section shows in its 16 bits. FREE VALUE (log 7): what they read where it lies beyond them. -/
def State.showFigure (s : State) (f : Fld) (v : Int) : State :=
  if -32768 ≤ v && v ≤ 32767 then s.wrI f v else (s.wr f (s.freeVal 0 % 65536)).drew 1

/-- VSPAD as a section's bias has it, in mV. FREE VALUE (log 7): its voltage before a reading has been accepted and while it is lost. -/
def State.vspadNow (s : State) (j : Nat) : Int :=
  let x := s.section_ j
  if x.vspad = [] || x.lost then (s.freeVal 0 : Nat) else vspadMean x.vspad

/-- A reference-cell pair of counts (R111). Biases are kept in half millivolts; quotients by log 8. -/
def State.trackPair (s : State) (j ca cb : Nat) (model : Int) : State :=
  let s0 := (s.wr (DET.REF_CNT_A j) (min ca 65535)).wr (DET.REF_CNT_B j) (min cb 65535)
  let x := s0.section_ j
  let s1 := (s0.wrI (DET.VBD_MODEL j) model).drew 1
  let va2 := 2 * s.vspadNow j - 25 * (s.rd (DET.TRIM j) : Int)
  let dv2 := 50 * (s.rd (DET.REF_DROP j) : Int)
  let vbd2 := va2 - dv2 - openDiv (dv2 * cb) ((ca : Int) - cb)
  let d := openDiv (vbd2 - 2 * model) 2
  let drift := x.drift
  if ca < 64 || ca ≤ cb then s1.rejectPair j
  else if 500 < (d - drift).natAbs && 16 ≤ x.pairs then s1.rejectPair j
  else
    let drift' := drift + openDiv (d - drift) (2 ^ s.rd (DET.AVG_SHIFT j) : Nat)
    let s2 := s1.setSection j { x with pairs := x.pairs + 1, rejects := 0, drift := drift' }
    ((s2.showFigure (DET.VBD_MEAS j) (openDiv vbd2 2)).showFigure (DET.DRIFT j) drift').driftChecks j drift'

/-- A dwell pair ends in a section whose tracking acts and whose sensor has read. -/
def execTrackPairDone (section_ : Fin 11) (countA countB : Nat) (s : State) : Host.Outcome State Fault Refusal :=
  done (match s.reading section_ with
    | some t =>
      match s.vbdModel section_ t with
      | some m => if s.runs (pDet section_) && s.on (DET.TRACK section_) then s.trackPair section_ countA countB m else s
      | none => s
    | none => s)

/-- A section at a frame boundary: k, health and the hot scan of the frame just closed under its own enables, then the masks of the next
frame and the SPAD it scans; the trim follows under the new configuration. DESIGN CHOICE (log 44): HOT_LIMIT is checked before the scan
judges its SPAD, which so counts at the boundary after. -/
def State.sectionFrame (s : State) (j : Nat) : State :=
  if !s.runs (pDet j) then s
  else
    let s1 := (((s.autoK j).checkSection j).hotJudge j).applyMask s j
    (secChannels j).foldl State.showChan (s1.scanTo j (12 * s.rd (DET.SCAN_CH j) + s.rd (DET.SCAN_SPAD j)))

/-- The DET group's and the sections' commit checks (R104, R109): true refuses. -/
def State.sectionRefuses (s : State) (j : Nat) : Bool :=
  let t := s.rdT
  t (DET.K_MAX j) < t (DET.K_MIN j) || t (DET.BG_HIGH j) ≤ t (DET.BG_LOW j)
    || t (DET.V_EX j) * 25 < t (DET.REF_DROP j) * 25 + 500
    || (List.range 48).any fun i => t (DET.K j i) < 1 || 6 < t (DET.K j i)

/-- Two sections' V_EX differ by more than 17 units (R109). -/
def State.vexRefuses (s : State) : Bool :=
  (List.range 11).any fun i => (List.range 11).any fun j => s.rdT (DET.V_EX i) + 17 < s.rdT (DET.V_EX j)

/-- A W1C write to HOT_MASK: the enable returns from the next frame boundary (R107). -/
def State.clearHot (s : State) (j i v : Nat) : State :=
  s.wr (DET.HOT_MASK j i) (s.rd (DET.HOT_MASK j i) &&& (0xFFF ^^^ v))

/-- A write of the word that holds HOT_MASK: bits [31:20]. -/
def execHotMaskClear (_path : Path) (section_ : Fin 11) (chan : Fin 48) (value : Word) (s : State) : Host.Outcome State Fault Refusal :=
  done (s.writeTo (pDet section_) fun s => s.clearHot section_ chan (bits value.toNat 20 12))

/-! ### TDC banks (R125, R134) -/

/-- A loop locks: a bank's, or with 33 the TIM folio's. -/
def State.lockLoop (s : State) (b : Nat) : State :=
  if b = 33 then (if s.runs pTIM then s.put TIM.ST_DLL_LOCKED true else s).degrade
  else if !s.runs (pBank b) || s.bankLocked b then s
  else
    let again := (s.bank b).wasLocked
    let s1 := ((s.put (BANK.DLL_LOCKED b) true).put (BANK.ST_DLL_LOCKED b) true).setBank b { s.bank b with wasLocked := true }
    (if again then s1.raise (BANK.INT_DLL_RELOCK b) else s1).degrade

/-- A loop loses lock: while a window is open its shot is TDC_INVALID (R125). -/
def State.unlockLoop (s : State) (b : Nat) : State :=
  if b = 33 then
    if s.on TIM.ST_DLL_LOCKED then ((s.put TIM.ST_DLL_LOCKED false).fault pTIM 4).degrade else s
  else if !s.bankLocked b then s
  else
    let x := s.bank b
    let s1 := ((s.put (BANK.DLL_LOCKED b) false).put (BANK.ST_DLL_LOCKED b) false).raise (BANK.INT_DLL_UNLOCK b)
    ((s1.setBank b { x with invalid := x.invalid || x.open_ }).fault (pBank b) 1).degrade

def execDllLock (bank : Fin 34) (s : State) : Host.Outcome State Fault Refusal := done (s.lockLoop bank)

def execDllUnlock (bank : Fin 34) (s : State) : Host.Outcome State Fault Refusal := done (s.unlockLoop bank)

/-- The check of a full TAP_HIST (R134). DESIGN CHOICE (log 44): each flag clears by its own check, whatever the other finds. -/
def State.tapCheck (s : State) (b : Nat) : State :=
  if s.rd (BANK.HIST_N b) < 16384 then s
  else
    let i := s.rd (BANK.HIST_CH b)
    let h := (List.range 32).map fun f => s.rd (BANK.TAP_HIST b f)
    let dead := h.any fun n => n = 0
    let wide := h.any fun n => 1536 < n
    let s1 := (s.put (BANK.TAP_DEAD b i) dead).put (BANK.TAP_WIDE b i) wide
    if dead || wide then (s1.raise (BANK.INT_TAP_FAULT b)).fault (pBank b) 2 else s1

def execTapHistCheck (bank : Fin 33) (s : State) : Host.Outcome State Fault Refusal := done (s.tapCheck bank)

/-! ### TIM0 and TIM1 (R135 to R139) -/

/-- EMT owns TIM0 (R91, R139). -/
def State.emtOwns (s : State) (n : Nat) : Bool := n = 0 && s.on EMT.MPD_EN

/-- The interrupt and fault of an input: the pair for its timeout, the pair for its range. -/
def State.timTimeout (s : State) (n : Nat) : State :=
  if n = 0 then (s.raise TIM.INT_TIM0_TIMEOUT).fault pTIM 0 else (s.raise TIM.INT_TIM1_TIMEOUT).fault pTIM 2
def State.timRange (s : State) (n : Nat) : State :=
  if n = 0 then (s.raise TIM.INT_TIM0_RANGE).fault pTIM 1 else (s.raise TIM.INT_TIM1_RANGE).fault pTIM 3

/-- An edge of a TIM session (R377): counted by its fine code; a TIM1 edge pairs with the TIM0 edge before it. -/
def State.timSession (s : State) (n code : Nat) : State :=
  let add := fun (x : Session) =>
    if x.chan = 528 + n && x.hist.sum < 16384 then
      { x with hist := x.hist.set (code % 32) (x.hist.getD (code % 32) 0 + 1)
               pairs := match n, s.cal.tim0Pair with
                 | 1, some c0 => x.pairs ++ [(code, c0)]
                 | _, _ => x.pairs }
    else x
  { s with cal.timSessions := s.cal.timSessions.map add, cal.tim0Pair := if n = 0 then some code else none }

/-- A monitor edge that light without command caused (R93). EMT raises nothing for a shot that a reset covers (R94). -/
def State.monitorEdge (s : State) (sh : Shot) (code : Nat) : State :=
  if s.runs pEMT && !sh.emtReset && s.uncommanded sh code then s.fault pEMT 1 else s

/-- A session of an input runs (R377). -/
def State.timInSession (s : State) (n : Nat) : Bool := s.cal.timSessions.any fun x => x.chan = 528 + n

/-- A divided edge (R136, R137). The dead time of 1.5 ns is 38.4 codes; the code counts from SHOT_OPEN in interval mode and
runs on 32 bits in frequency mode. While the TIM loop is unlocked TIM0 accepts no monitor edge (R143). An input that is off has the
avalanches of its session between shots (R377), and no other edge. -/
def State.timEdge (s : State) (n code : Nat) : State :=
  let x := s.timIn n
  let mode := if s.emtOwns n then 0 else s.rd (TIM.MODE n)
  let dead := match x.lastCode with
    | some l => 10 * ((code + 2 ^ 32 - l) % 2 ^ 32) ≤ 384
    | none => false
  let deaf := s.emtOwns n && s.inShot && !s.on TIM.ST_DLL_LOCKED
  if !s.runs pTIM || (mode = 2 && (s.inShot || !s.timInSession n)) || dead || deaf then s
  else
    let s1 := (s.setTimIn n { x with lastCode := some code }).put (TIM.NO_SIGNAL n) false
    let x1 := s1.timIn n
    if mode = 1 then
      s1.setTimIn n { x1 with
        gateFirst := some (x1.gateFirst.getD code), gateLast := code, gateCount := x1.gateCount + 1 }
    else
      match s1.acq.shot with
      | none => s1.timSession n code
      | some sh =>
        let s2 := if x1.edges.length < 16 then s1.setTimIn n { x1 with edges := x1.edges ++ [code % 2 ^ 18] }
          else s1.setTimIn n { x1 with ovf := min 65535 (x1.ovf + 1) }
        if s.emtOwns n then s2.monitorEdge sh (code % 2 ^ 18) else s2

def execTimEdge (input : Fin 2) (code : BitVec 32) (s : State) : Host.Outcome State Fault Refusal :=
  done (s.timEdge input code.toNat)

/-- FREQ: one code per 39.0625 ps is 25.6 GHz (R137). -/
def freqOf (count presc elapsed : Nat) : Nat := (nearest (count * 2 ^ presc * 25600000000 : Nat) (elapsed : Nat)).toNat

/-- A gate of frequency mode closes (R137, R138); a new one opens back to back. -/
def State.gateClose (s : State) (n : Nat) : State :=
  if !s.runs pTIM || s.emtOwns n || s.rd (TIM.MODE n) != 1 then s
  else
    let x := s.timIn n
    let s0 := s.setTimIn n { x with gateFirst := none, gateLast := 0, gateCount := 0 }
    match x.gateFirst with
    | none => s0.put (TIM.NO_SIGNAL n) true
    | some first =>
      let elapsed := (x.gateLast + 2 ^ 32 - first) % 2 ^ 32
      if x.gateCount < 2 then s0.put (TIM.NO_SIGNAL n) true
      else
        let freq := freqOf (x.gateCount - 1) (s.rd (TIM.PRESC n)) elapsed
        let s1 := (((s0.wr (TIM.COUNT n) (x.gateCount - 1)).wr (TIM.ELAPSED n) elapsed).wr (TIM.FREQ n) freq).put (TIM.VALID n) true
        let s2 := s1.raise (if n = 0 then TIM.INT_TIM0_RESULT else TIM.INT_TIM1_RESULT)
        if freq < s.rd (TIM.FMIN n) || s.rd (TIM.FMAX n) < freq then (s2.put (TIM.OUT_RANGE n) true).timRange n
        else s2.put (TIM.OUT_RANGE n) false

def execTimGateClose (input : Fin 2) (s : State) : Host.Outcome State Fault Refusal := done (s.gateClose input)

/-- No divided edge for TIMEOUT µs (R138); it does not act on an input that EMT owns (R139). -/
def execTimTimeout (input : Fin 2) (s : State) : Host.Outcome State Fault Refusal :=
  done (if !s.runs pTIM || s.emtOwns input || s.rd (TIM.MODE input) = 2 || s.rd (TIM.TIMEOUT input) = 0 then s
    else (s.put (TIM.NO_SIGNAL input) true).timTimeout input)

/-- The TIM folio applies its staged copy: a change of MODE, PRESC, EDGE or GATE clears VALID and starts a new gate (R137). DESIGN CHOICE
(log 45): a session of TIM1, which runs only while its mode is interval or off, ends ABORTED where the mode becomes frequency. -/
def State.applyTim (s : State) : State :=
  let s0 := s.applyStaged pTIM
  let s1 : State := if s0.rd (TIM.MODE 1) = 1 then
      { s0 with cal.timSessions := s0.cal.timSessions.map fun (x : Session) => if x.chan = 529 then { x with abort := true } else x }
    else s0
  [0, 1].foldl (fun (a : State) n =>
    if [TIM.MODE n, TIM.PRESC n, TIM.EDGE n, TIM.GATE n].any fun f => s.rdT f != s.rd f then
      (a.put (TIM.VALID n) false).setTimIn n { a.timIn n with gateFirst := none, gateLast := 0, gateCount := 0 }
    else a) s1

end Sys2Proof.Machine
end

