-- ==== Sys2Proof/Machine/Thermal.lean ====
section
/-! DEFINITION. THM and the THM watch (spec/14_thermal.md): sensor readings, thresholds with hysteresis and persistence,
throttling steps, derating levels and the write window. Temperatures are in 1/16 °C. -/
namespace Sys2Proof.Machine
open Sys2Proof

/-! ### Thresholds (R387) -/

/-- One reading against an upper threshold θ with hysteresis h. -/
def Thresh.upper (x : Thresh) (r θ h : Int) : Thresh :=
  if x.crossed then
    if r ≤ θ - h then (if 3 ≤ x.down then {} else { x with down := x.down + 1 }) else { x with down := 0 }
  else if θ < r then (if 3 ≤ x.up then { crossed := true } else { x with up := x.up + 1 }) else { x with up := 0 }

/-- One reading against a lower threshold. -/
def Thresh.lower (x : Thresh) (r θ h : Int) : Thresh := x.upper (-r) (-θ) h

/-- A count of R387 is running. -/
def Thresh.counting (x : Thresh) : Bool := 0 < x.up || 0 < x.down

/-- The thresholds of a bank of four: a sensor's counts stand at 8 × sensor + n; EMT's thermometer is 24, LMP's 25. -/
def State.thresh (s : State) (x n : Nat) : Thresh := Tab.get {} s.thm.counts (8 * x + n)

/-- One reading against a bank of four upper thresholds `base + n × step`. -/
def State.bankReading (s : State) (x : Nat) (r base step h : Int) : State :=
  (List.range 4).foldl (fun s n =>
    { s with thm.counts := Tab.set {} s.thm.counts (8 * x + n) ((s.thresh x n).upper r (base + n * step) h) }) s

/-- The number of the highest threshold crossed. -/
def State.bankLevel (s : State) (x : Nat) : Nat :=
  if (s.thresh x 3).crossed then 4 else if (s.thresh x 2).crossed then 3
  else if (s.thresh x 1).crossed then 2 else if (s.thresh x 0).crossed then 1 else 0

/-- The counts of a bank start afresh (R390); what is crossed stays crossed. -/
def State.freshBank (s : State) (x : Nat) : State :=
  (List.range 4).foldl (fun s n =>
    { s with thm.counts := Tab.set {} s.thm.counts (8 * x + n) { crossed := (s.thresh x n).crossed } }) s

/-- HYST in 1/16 K. -/
def State.hyst (s : State) : Int := 16 * (s.rd THM.HYST : Nat)

/-- Change what a frame in acquisition gathers. -/
def State.inFrameDo (s : State) (f : Frame → Frame) : State :=
  match s.acq.frame with
  | some fr => { s with acq.frame := some (f fr) }
  | none => s

/-! ### Sensors and throttling (R385, R391, R392) -/

/-- A reading outside −60 °C to +160 °C is discarded. -/
def sensorOk (r : Int) : Bool := -960 ≤ r && r ≤ 2560

/-- The larger of a value and an optional one. -/
def maxOf (o : Option Int) (r : Int) : Option Int :=
  match o with
  | some x => some (max x r)
  | none => some r

/-- One sensor of THM is read. -/
def State.readSensor (s : State) (i : Nat) (r : Int) : State :=
  if !sensorOk r then s.raise THM.INT_SENSOR
  else
    let s1 := (s.wrI (THM.READING i) r).inFrameDo fun fr => { fr with tjMax := maxOf fr.tjMax r }
    let s2 : State := { s1 with thm.read := if s1.thm.read.contains i then s1.thm.read else s1.thm.read ++ [i] }
    if 11 ≤ i && i ≤ 20 then
      s2.bankReading i r (16 * (s2.rd THM.THR_BASE : Nat)) (16 * (s2.rd THM.THR_STEP : Nat)) s2.hyst
    else s2

/-- TJ_MAX and TJ_MIN over the sensors that have delivered. -/
def State.showTj (s : State) : State :=
  match s.thm.read.map fun i => s.rdI (THM.READING i) with
  | [] => s
  | h :: t => (s.wrI THM.TJ_MAX (t.foldl max h)).wrI THM.TJ_MIN (t.foldl min h)

/-- A throttling step of a domain: shelf s for x = 11 + s, the host domain for x = 20. -/
def State.showStep (s : State) (x : Nat) : State :=
  let f := if x = 20 then THM.HOST_STEP else THM.SHELF_STEP (x - 11)
  let n := s.bankLevel x
  let s1 := if n = s.rd f then s else (s.wr f n).raise THM.INT_STEP_CHANGE
  if n = 4 && x != 20 && s.rd f != 4 then s1.fault pTHM 0 else s1

/-- The highest of the readings that are not discarded. -/
def topReading (sensors : List (BitVec 16)) : Option Int :=
  ((sensors.map (·.toInt)).filter sensorOk).foldl (fun o r => maxOf o r) none

/-- Every sensor is read and the steps follow. -/
def State.readSensors (s0 : State) (sensors : List (BitVec 16)) : State :=
  let s : State := { s0 with thm.tjLast := (topReading sensors).or s0.thm.tjLast }
  let s1 := (sensors.zipIdx.foldl (fun s e => s.readSensor e.2 e.1.toInt) s).showTj
  let s2 := (List.range' 11 10).foldl State.showStep s1
  s2.put THM.ST_THROTTLING ((List.range' 11 10).any fun x => 0 < s2.bankLevel x)

/-! ### Derating levels (R386, R389, R390) -/

/-- The knee of a derating bank: EMT's for 24, LMP's for 25. -/
def State.knee (s : State) (x : Nat) : Int := 16 * (s.rd (if x = 24 then EMT.KNEE else LMP.KNEE) : Nat)

/-- EMT receives a derating level (R89, R96): a change raises DERATE_CHANGE, and level 4 sets DERATE_STOP. -/
def State.emtLevel (s : State) (n : Nat) : State :=
  if !s.runs pEMT || n = s.rd EMT.ST_DERATE_LEVEL then s
  else
    let s1 := (s.wr EMT.ST_DERATE_LEVEL n).raise EMT.INT_DERATE_CHANGE
    if n = 4 then s1.fault pEMT 4 else s1

/-- A level is decided and reaches its unit. -/
def State.setLevel (s : State) (x n : Nat) : State :=
  let f := if x = 24 then THM.EMT_LEVEL else THM.LMP_LEVEL
  if n = s.rd f then s
  else
    let s1 := (s.wr f n).raise THM.INT_LEVEL_CHANGE
    if x = 24 then s1.emtLevel n else { s1 with lmp.level := n }

/-- The level in force of a bank. -/
def State.levelOf (s : State) (x : Nat) : Nat := s.rd (if x = 24 then THM.EMT_LEVEL else THM.LMP_LEVEL)

/-- Whether a bank has had a usable output since its level was last forced. -/
def State.slotSeen (s : State) (x : Nat) : Bool := if x = 24 then s.thm.emtSeen else s.thm.lmpSeen

def State.setSlotSeen (s : State) (x : Nat) (b : Bool) : State :=
  if x = 24 then { s with thm.emtSeen := b } else { s with thm.lmpSeen := b }

/-- A derating slot is lost: level at least 2 (R390). -/
def State.forceLevel (s : State) (x : Nat) : State := (s.setSlotSeen x false).setLevel x (max 2 (s.levelOf x))

/-- A slot of THM: the one that derates EMT (24) or LMP (25). -/
def State.derateSlot (s : State) (x : Nat) : Nat := s.rd (if x = 24 then THM.EMT_SLOT else THM.LMP_SLOT)

/-- A derating slot's newest usable output is kept, and the slot is lost no more. -/
def State.keepUsable (s : State) (x : Nat) (r : Int) : State :=
  if x = 24 then { s with thm.emtLast := some (s.derateSlot x, r), thm.emtLost := false }
  else { s with thm.lmpLast := some (s.derateSlot x, r), thm.lmpLost := false }

/-- A usable output: the thresholds decide the level. -/
def State.usable (s0 : State) (x : Nat) (r : Int) : State :=
  let s := s0.keepUsable x r
  let s1 := if s.slotSeen x then s else (s.freshBank x).setSlotSeen x true
  let s2 := s1.bankReading x r (s1.knee x) 80 s1.hyst
  s2.setLevel x (s2.bankLevel x)

/-- Output of a derating slot this round, and its silent rounds. -/
def State.delivered (s : State) (x : Nat) (usable : Bool) : State :=
  if x = 24 then { s with thm.emtDelivered := true, thm.emtSilent := if usable then 0 else s.thm.emtSilent }
  else { s with thm.lmpDelivered := true, thm.lmpSilent := if usable then 0 else s.thm.lmpSilent }

/-- FAULT.AFE_SENSOR of a derating slot, whose cause lasts until the slot's next usable output (R390). -/
def State.slotLost (s : State) (x : Nat) : State :=
  let s1 : State := if x = 24 then { s with thm.emtLost := true } else { s with thm.lmpLost := true }
  (s1.fault pTHM 1).forceLevel x

/-- An output of slot k as THM takes it for one bank: bad (OPEN or OVR), held back (UNSETTLED, BLANK, STALE) or usable. -/
def State.derateOutput (s : State) (x : Nat) (bad held : Bool) (value : Int) : State :=
  if bad then (s.delivered x false).slotLost x
  else if held then s.delivered x false
  else (s.delivered x true).usable x value

/-- A round ends: a slot that delivered nothing advances its count (R390). -/
def State.thmRound (s : State) : State :=
  { s with
    thm.emtSilent := if s.thm.emtDelivered then s.thm.emtSilent else s.thm.emtSilent + 1
    thm.lmpSilent := if s.thm.lmpDelivered then s.thm.lmpSilent else s.thm.lmpSilent + 1
    thm.emtDelivered := false, thm.lmpDelivered := false }

/-- The CONV-H rounds stop (R390). -/
def State.thmStopped (s : State) : State :=
  if s.runs pTHM then
    State.forceLevel (State.forceLevel { s with
      thm.emtSilent := 0, thm.lmpSilent := 0, thm.emtDelivered := false, thm.lmpDelivered := false } 24) 25
  else s

/-- The rounds are stopped: RUNNING reads 0, or CONV-H is halted between two rounds (R340, R357). -/
def State.roundsStopped (s : State) : Bool :=
  !s.on CONVH.ST_RUNNING || (s.on (C.HALTED pCONVH) && s.sense.slot = 0 && !s.sense.inPeriod)

/-- The count of silent rounds reaches three (R390). -/
def execThmSlotSilent (lamp : Bool) (s : State) : Host.Outcome State Fault Refusal :=
  let x := if lamp then 25 else 24
  let n := if lamp then s.thm.lmpSilent else s.thm.emtSilent
  done (if s.runs pTHM && !s.roundsStopped && 3 ≤ n then s.slotLost x else s)

/-! ### Fast measurement (R388) -/

/-- A reading lies within FAST_BAND of a threshold of its bank, or a count of the bank runs. -/
def State.nearBank (s : State) (x : Nat) (r : Option Int) (base step : Int) : Bool :=
  (List.range 4).any fun n =>
    (s.thresh x n).counting ||
    (match r with
      | some v => decide ((v - (base + n * step)).natAbs ≤ 16 * s.rd THM.FAST_BAND)
      | none => false)

/-- The newest usable output of a derating slot, once one has come from the slot in force (R386). -/
def State.slotReading (s : State) (x : Nat) : Option Int :=
  match (if x = 24 then s.thm.emtLast else s.thm.lmpLast) with
  | some (k, r) => if s.slotSeen x && k = s.derateSlot x then some r else none
  | none => none

/-- THM asks for fast measurement. -/
def State.wantsFast (s : State) : Bool :=
  ((List.range' 11 10).any fun x => s.nearBank x
    (if s.thm.read.contains x then some (s.rdI (THM.READING x)) else none)
    (16 * (s.rd THM.THR_BASE : Nat)) (16 * (s.rd THM.THR_STEP : Nat))) ||
  [24, 25].any fun x => s.nearBank x (s.slotReading x) (s.knee x) 80

/-- THM makes the request as soon as a condition of it holds. -/
def State.requestFast (s : State) : State :=
  if s.wantsFast && !s.on THM.ST_FAST then (s.raise THM.INT_FAST).put THM.ST_FAST true else s

/-- The request as it stands at a round boundary, the only instant at which it ends. -/
def State.showFast (s : State) : State := if s.wantsFast then s.requestFast else s.put THM.ST_FAST false

/-- THM takes an output of FLT (R386). -/
def State.thmOutput (s : State) (k : Nat) (bad held : Bool) (value : Int) : State :=
  if !s.runs pTHM then s
  else
    let s1 := if s.rd THM.EMT_SLOT = k then s.derateOutput 24 bad held value else s
    (if s1.rd THM.LMP_SLOT = k then s1.derateOutput 25 bad held value else s1).requestFast

/-- A read on THM's own timer, while the rounds are stopped (R385). -/
def execThmTimerRead (sensors : List (BitVec 16)) (s : State) : Host.Outcome State Fault Refusal :=
  if sensors.length != 24 then .fault .illFormed
  else done (if s.runs pTHM && s.roundsStopped then (s.readSensors sensors).requestFast else s)

/-! ### The THM watch (R393 to R395) -/

/-- A threshold of the watch: sensor i of TS 5, 15, 21, 23 and m = 0 CRIT, 1 lower and 2 upper of the write window, which
start crossed (R395). -/
def watchStart (k : Nat) : Thresh := { crossed := k % 4 != 0 }

def State.watchAt (s : State) (k : Nat) : Thresh := Tab.get (watchStart k) s.thm.watch k

def State.setWatch (s : State) (k : Nat) (x : Thresh) : State :=
  { s with thm.watch := Tab.set (watchStart k) s.thm.watch k x }

/-- The register of a watch sensor's reading. -/
def watchField (i : Nat) : Fld :=
  if i = 0 then WATCH.W_TS5 else if i = 1 then WATCH.W_TS15 else if i = 2 then WATCH.W_TS21 else WATCH.W_TS23

/-- One reading of one watch sensor; HYST is 3 K. -/
def State.watchSensor (s : State) (i : Nat) (r : Int) : State :=
  if !sensorOk r then s
  else
    let s1 := (s.wrI (watchField i) r).setWatch (4 * i) ((s.watchAt (4 * i)).upper r (16 * (s.rd WATCH.CRIT : Nat)) 48)
    (s1.setWatch (4 * i + 1) ((s1.watchAt (4 * i + 1)).lower r (-640) 48)).setWatch (4 * i + 2) ((s1.watchAt (4 * i + 2)).upper r 1760 48)

/-- OVERTEMP and NVS_OK follow the thresholds (R394, R395). -/
def State.showWatch (s : State) : State :=
  let hot := (List.range 4).any fun i => (s.watchAt (4 * i)).crossed
  let ok := (List.range 4).all fun i => !(s.watchAt (4 * i + 1)).crossed && !(s.watchAt (4 * i + 2)).crossed
  let s1 := if hot && !s.on WATCH.ST_OVERTEMP then
      (((s.put WATCH.ST_OVERTEMP true).raise WATCH.INT_OVERTEMP).fault pWATCH 0).tripSet 14
    else s.put WATCH.ST_OVERTEMP hot
  let s2 := if s1.on WATCH.ST_NVS_OK && !ok then s1.raise WATCH.INT_NVS_BLOCK else s1
  let s3 := if ok then s2 else s2.inFrameDo fun fr => { fr with nvsBlocked := true }
  (s3.put WATCH.ST_NVS_OK ok).startPulse

/-- The watch reads its four sensors. -/
def execWatchRead (ts5 ts15 ts21 ts23 : BitVec 16) (s : State) : Host.Outcome State Fault Refusal :=
  let rs := [ts5.toInt, ts15.toInt, ts21.toInt, ts23.toInt]
  done (if !s.runs pWATCH || s.pwr.hold then s
    else
      let s1 := (rs.zipIdx.foldl (fun s e => s.watchSensor e.2 e.1) s).showWatch
      { s1 with thm.watchMiss := if rs.any sensorOk then 0 else s1.thm.watchMiss + 1 })

/-- All four readings have been discarded for three milliseconds: the window counts as left and CRIT as crossed (R393). -/
def execWatchSensorLost (s : State) : Host.Outcome State Fault Refusal :=
  done (if s.runs pWATCH && !s.pwr.hold && 3 ≤ s.thm.watchMiss then
      State.showWatch ((List.range 4).foldl (fun s i => (List.range 3).foldl (fun s m =>
        s.setWatch (4 * i + m) { crossed := true }) s) (s.fault pWATCH 1))
    else s)

end Sys2Proof.Machine
end

