-- ==== Sys2Proof/Machine/Sensing.lean ====
section
/-! DEFINITION. AFE, CONV-H, FLT and CONV-M (spec/12_sensing_and_conversion.md): the slots of a housekeeping round, the
codes and the resistances, the filter and its counts. A conversion's operand is the code before the clamp of R343. -/
namespace Sys2Proof.Machine
open Sys2Proof

/-! ### The platinum curve (R351) -/

/-- Integer square root, by bits from 2^i down. -/
def isqrtFrom (n : Nat) : Nat → Nat → Nat
  | 0, r => r
  | i + 1, r => isqrtFrom n i (if (r + 2 ^ i) * (r + 2 ^ i) ≤ n then r + 2 ^ i else r)

/-- The integer square root of a number below 2^140. -/
def isqrt (n : Nat) : Nat := isqrtFrom n 70 0

/-- ⌊(p + √q) / m⌋ for m ≠ 0. -/
def floorRoot (p : Int) (q : Nat) (m : Int) : Int :=
  let r := isqrt q
  if 0 < m then (p + (r : Int)) / m
  else (-p - (if r * r = q then (r : Int) else (r : Int) + 1)) / (-m)

/-- What FLT makes of a mean resistance in TEMP format. -/
inductive TempResult where
  | value (v : Int)
  | outOfRange
  | unstated
  deriving DecidableEq, Repr

/-- round(16 × T) of a mean resistance r and a nominal resistance n, with A = a × 10⁻⁹ and B = b × 10⁻¹² (R351): the
root is taken exactly. Where B or the nominal resistance is 0 the formula states no value. -/
def temperature (a b : Int) (r n : Int) : TempResult :=
  if b = 0 || n = 0 then .unstated
  else
    let e := n * n * a * a * 1000000 - 4 * b * 1000000000000 * (n - r) * n
    if e < 0 then .outOfRange
    else
      let q := (256 * e).toNat
      let d := b * n
      let num := -16000 * a * n
      let down := floorRoot num q (2 * d)
      let up := -floorRoot num q (-2 * d)
      if down < -1600 || 3200 < up then .outOfRange
      else
        let hi := floorRoot (num + d) q (2 * d)
        let lo := -floorRoot (num - d) q (-2 * d)
        .value (if lo = hi then hi else if Config.roundsUp (2 * lo + 1) 2 then hi else lo)

/-! ### Slots -/

/-- A slot's words in the FLT and AFE folios (R341). -/
def slotFields (k : Nat) : List Fld :=
  [FLT.EN k, FLT.OUTFMT k, FLT.DIFF k, FLT.INPUT k, FLT.LEN k, FLT.PT_NOM k,
   AFE.WIRES k, AFE.PIN_P k, AFE.PIN_Q k, AFE.PIN_S k, AFE.GAIN k, AFE.IEXC k, AFE.LEAD k]

/-- A written RWL value is not yet in force. -/
def State.awaits (s : State) (f : Fld) : Bool := s.rdS f != s.rd f

/-- The change at a slot's boundary restarts its filter (R353). -/
def State.restarts (s : State) (k : Nat) : Bool :=
  (s.rdS (FLT.EN k) = 1 && s.rd (FLT.EN k) = 0)
    || [FLT.INPUT k, FLT.DIFF k, FLT.LEN k, AFE.GAIN k, AFE.WIRES k, AFE.PIN_P k, AFE.PIN_Q k, AFE.PIN_S k, AFE.IEXC k].any s.awaits

/-- The change also switches the excitation (R353). -/
def State.blanks (s : State) (k : Nat) : Bool :=
  [AFE.WIRES k, AFE.PIN_P k, AFE.PIN_Q k, AFE.PIN_S k, AFE.IEXC k].any s.awaits

/-- The slot is a thermometer. -/
def State.isThermo (s : State) (k : Nat) : Bool := s.rd (FLT.INPUT k) = 12

/-- The sense pins that a slot uses, in any role (R346, R348). -/
def State.pinsOf (s : State) (k : Nat) : List Nat :=
  let n := s.rd (FLT.INPUT k)
  let w := s.rd (AFE.WIRES k)
  if n < 12 then (if s.on (FLT.DIFF k) then [n, n + 1] else [n])
  else if n = 12 then
    (if w = 1 then [s.rd (AFE.PIN_P k)] else if w = 2 then [s.rd (AFE.PIN_P k), s.rd (AFE.PIN_Q k)]
     else if w = 3 then [s.rd (AFE.PIN_P k), s.rd (AFE.PIN_Q k), s.rd (AFE.PIN_S k)] else [])
  else []

/-- The period converts CONV-H's shorted input: the first five of a calibration round (R379). -/
def State.shorted (s : State) (k : Nat) : Bool := s.sense.calRound && k < 5

/-- Conversions of a slot's period (R341, R346). -/
def State.conversions (s : State) (k : Nat) : Nat :=
  if s.shorted k then 1
  else if !s.on (FLT.EN k) then 0
  else if s.isThermo k then (if s.rd (AFE.WIRES k) = 0 then 0 else if s.rd (AFE.WIRES k) = 2 then 2 else 1)
  else 1

/-- A round begins: the words without a slot apply, and the slot period in force is taken (R339). -/
def State.roundStart (s : State) (sensors : List (BitVec 16)) : State :=
  let s1 := (s.applyLive pCONVH).applyLiveOf [FLT.PT_A, FLT.PT_B]
  let s3 := if s1.runs pTHM then s1.showFast else s1
  let fast := s3.runs pTHM && s3.on THM.ST_FAST
  let s4 : State := { s3.put CONVH.ST_FAST fast with
    sense.fast := fast
    sense.period := if fast then min (s3.rd CONVH.FAST_PER) (s3.rd CONVH.SLOT_PER) else s3.rd CONVH.SLOT_PER
    sense.calRound := s3.sense.calAsked && !fast, sense.calAsked := s3.sense.calAsked && fast }
  if s4.runs pTHM then (s4.readSensors sensors).requestFast else s4

/-- A slot's period begins: its changes apply, restart and blank its filter, and the sources are steered (R341, R345). XREF_RES
reaches each thermometer slot at the slot's own boundary (R353). BLANK waits for the slot's first conversion under the change. -/
def State.slotStart (s : State) (k : Nat) : State :=
  let x := s.slot k
  let s1 := s.applyLiveOf (AFE.XREF_RES :: slotFields k)
  let reference := s1.isThermo k && x.xref != s1.rd AFE.XREF_RES
  let xref := if s1.isThermo k then s1.rd AFE.XREF_RES else x.xref
  let blank := x.blank || s.blanks k
  let thermo := s1.on (FLT.EN k) && s1.isThermo k && s1.runs pAFE
  let x1 : Slot := if reference || s.restarts k then { count := some 0 } else x
  let s2 := s1.setSlot k { x1 with blank := blank, xref := xref, codes := [], open_ := false, ovr := false }
  let s3 := (s2.put AFE.ST_SRC_A_ON (thermo && s1.rd (AFE.WIRES k) != 0)).put AFE.ST_SRC_B_ON (thermo && s1.rd (AFE.WIRES k) = 2)
  { s3 with sense.inPeriod := true, sense.clamped := [] }

/-- The rounds run and a slot period may begin: a halted CONV-H begins no round (R340, R357). -/
def State.periodDue (s : State) : Bool :=
  s.runs pCONVH && s.on CONVH.ST_RUNNING && !s.sense.inPeriod && !(s.sense.slot = 0 && s.on (C.HALTED pCONVH))

def execSlotPeriodStart (sensors : List (BitVec 16)) (s : State) : Host.Outcome State Fault Refusal :=
  if sensors.length != 24 then .fault .illFormed
  else done (if !s.periodDue then s
    else if s.sense.slot = 0 then (s.roundStart sensors).slotStart 0
    else s.slotStart s.sense.slot)

/-! ### Conversions (R342 to R344) -/

/-- The offset that a slot's conversions lose, in 1/16 code (R379): that of its gain, GAIN 0 for all but input 12. -/
def State.slotOffset (s : State) (k : Nat) : Int := s.rdI (CAL.CVH_OFS (if s.isThermo k then s.rd (AFE.GAIN k) else 0))

/-- A code of the bandgap lies outside 1.176 V to 1.224 V (R344). -/
def refBad (v : Int) : Bool := decide (1600 * v < 1176 * 4096) || decide (1224 * 4096 < 1600 * v)

/-- A code of a slot's input before its clamp. -/
def State.convert (s : State) (k : Nat) (code : Int) : State :=
  let x := s.slot k
  let c := openDiv (16 * code - s.slotOffset k) 16
  let signed := s.isThermo k || s.on (FLT.DIFF k)
  let lo : Int := if signed then -2048 else 0
  let hi : Int := if signed then 2047 else 4095
  let v := clampI c lo hi
  let s1 := s.setSlot k { x with codes := x.codes ++ [v], ovr := x.ovr || decide (c < lo) || decide (hi < c) }
  if s.rd (FLT.INPUT k) = 13 then
    let s2 := s1.wr CONVH.BG_CODE v.toNat
    if refBad v then s2.fault pCONVH 0 else s2
  else s1

def execConvhConversion (code : Int) (s : State) : Host.Outcome State Fault Refusal :=
  let k := s.sense.slot
  done (if !s.runs pCONVH || !s.sense.inPeriod || s.conversions k ≤ (s.slot k).codes.length then s
    else if s.shorted k then s.setSlot k { s.slot k with codes := (s.slot k).codes ++ [code] }
    else s.convert k code)

/-! ### Clamps and open circuits (R348, R349) -/

def execClampConduction (pin : Fin 12) (s : State) : Host.Outcome State Fault Refusal :=
  done (if !s.runs pAFE then s
    else
      let s1 := ((s.wr AFE.CLAMP (withBit (s.rd AFE.CLAMP) pin true)).raise AFE.INT_CLAMP).fault pAFE 0
      if s.sense.inPeriod then { s1 with sense.clamped := s1.sense.clamped ++ [(pin : Nat)] } else s1)

def execOpenDetect (s : State) : Host.Outcome State Fault Refusal :=
  let k := s.sense.slot
  done (if s.runs pAFE && s.sense.inPeriod && s.on AFE.ST_SRC_A_ON then
      (((s.setSlot k { s.slot k with open_ := true }).wr AFE.OPEN_SLOTS (withBit (s.rd AFE.OPEN_SLOTS) k true)).raise AFE.INT_OPEN).fault pAFE 1
    else s)

/-! ### The filter (R350 to R354) -/

/-- The working value of a slot's conversions: a resistance in 1/32 Ω, or the code. -/
def State.working (s : State) (k : Nat) (codes : List Int) : Int :=
  let c1 := codes.getD 0 0
  let c2 := codes.getD 1 0
  let x : Int := ((s.slot k).xref : Nat)
  let g : Int := (2 ^ s.rd (AFE.GAIN k) : Nat)
  if !s.isThermo k then c1
  else if s.rd (AFE.WIRES k) = 1 then openDiv (32 * c1 * x) (20480 * g) - (s.rd (AFE.LEAD k) : Nat)
  else if s.rd (AFE.WIRES k) = 2 then openDiv (32 * (c1 - c2) * x) (10240 * g)
  else openDiv (32 * c1 * x) (20480 * g)

/-- LEAD_MEAS of a three-wire conversion in 1/32 Ω. -/
def State.leadMeas (s : State) (k : Nat) (codes : List Int) : Int :=
  openDiv (32 * codes.getD 1 0 * ((s.slot k).xref : Nat)) (30720 * (2 ^ s.rd (AFE.GAIN k) : Nat))

/-- VALUE of a mean, none where the result is out of range (R351), and how many free values it drew. A thermometer in a
code format and a resistance past 16 bits have no stated VALUE. -/
def State.format (s : State) (k : Nat) (mean : Int) : Option Nat × Nat :=
  let f := s.rd (FLT.OUTFMT k)
  let free := (some (s.freeVal 0 % 65536), 1)
  if !s.isThermo k then
    (if f = 0 then (some (ofSigned 16 mean), 0) else if f = 1 then (some (ofSigned 16 (16 * mean)), 0) else (none, 0))
  else if f = 2 then (if 0 ≤ mean && mean < 65536 then (some mean.toNat, 0) else free)
  else if f = 3 then
    match temperature (s.rdI FLT.PT_A) (s.rdI FLT.PT_B) mean (s.rd (FLT.PT_NOM k) : Nat) with
    | .value v => (some (ofSigned 16 v), 0)
    | .outOfRange => (none, 0)
    | .unstated => free
  else free

/-- The flags of an output (R352). -/
structure OutFlags where
  unsettled : Bool
  blank : Bool
  open_ : Bool
  ovr : Bool
  stale : Bool

/-- FLT delivers an output: the RESULT word, the status bit and the interrupts, the housekeeping-results queue, and the units that
use it. -/
def State.deliverOut (s : State) (k : Nat) (value : Nat) (f : OutFlags) : State :=
  let s1 := (((((((s.wr (FLT.VALUE k) value).put (FLT.UNSETTLED k) f.unsettled).put (FLT.BLANK k) f.blank).put (FLT.OPEN k) f.open_).put
    (FLT.OVR k) f.ovr).put (FLT.STALE k) f.stale).wrap (FLT.SEQ k) 1).wr FLT.ST_UNSETTLED (withBit (s.rd FLT.ST_UNSETTLED) k f.unsettled)
  let s2 := State.pushResult (if f.ovr then (s1.raise FLT.INT_OVR).fault pFLT 0 else s1)
    ⟨k, toSigned 16 value, f.open_, f.ovr, f.unsettled, f.blank, f.stale, s1.rd (FLT.SEQ k)⟩
  s2.thmOutput k (f.open_ || f.ovr) (f.unsettled || f.blank || f.stale) (toSigned 16 value)

/-- A STALE output of a calibration round: nothing restarts and nothing counts (R352, R379); the other flags have their own
conditions. -/
def State.staleOut (s : State) (k : Nat) (blank open_ ovr : Bool) : State :=
  s.deliverOut k (s.rd (FLT.VALUE k)) ⟨(s.slot k).count.isSome, blank, open_, ovr, true⟩

/-- The output of a period whose conversions are all valid (R350, R351, R354). -/
def State.validOut (s : State) (k : Nat) : State :=
  let x := s.slot k
  let len := s.rd (FLT.LEN k)
  let n := match x.count with
    | some n => n + 1
    | none => len + 3
  let unsettled := decide (n ≤ len + 2)
  let count := if n < len + 2 then some n else none
  if n ≤ 2 then (s.setSlot k { x with count := count }).deliverOut k (s.rd (FLT.VALUE k)) ⟨unsettled, false, false, false, false⟩
  else
    let window := (s.working k x.codes :: x.window).take len
    let lead := if s.isThermo k && s.rd (AFE.WIRES k) = 2 then (s.leadMeas k x.codes :: x.lead).take len else x.lead
    match s.format k (nearestAway window.sum (window.length : Nat)) with
    | (some v, d) => ((s.setSlot k { x with window := window, lead := lead, count := count }).deliverOut k v ⟨unsettled, false, false, false, false⟩).drew d
    | (none, _) =>
      let s1 := s.setSlot k { x with window := [], lead := [], count := some 1 }
      let s2 := if s.isThermo k then s1 else s1.raise FLT.INT_FMT_BAD
      s2.deliverOut k (s.rd (FLT.VALUE k)) ⟨true, false, false, true, false⟩

/-- The output of a slot's period (R352). -/
def State.slotOutput (s : State) (k : Nat) : State :=
  let x := s.slot k
  let ovr := x.ovr || (s.isThermo k && s.rd (AFE.WIRES k) = 0) || (s.pinsOf k).any s.sense.clamped.contains
  if s.shorted k then s.staleOut k false x.open_ ovr
  else
    let s1 := if s.isThermo k && s.rd (AFE.WIRES k) = 2 && 2 ≤ x.codes.length then s.wrI (AFE.LEAD_MEAS k) (s.leadMeas k x.codes) else s
    if s.sense.calRound then s1.staleOut k x.blank x.open_ ovr
    else if x.open_ || ovr then
      (s1.setSlot k { x with window := [], lead := [], count := some 1 }).deliverOut k (s.rd (FLT.VALUE k)) ⟨true, x.blank, x.open_, ovr, false⟩
    else if x.blank then
      (s1.setSlot k { x with count := some 1 }).deliverOut k (s.rd (FLT.VALUE k)) ⟨true, true, false, false, false⟩
    else s1.validOut k

/-- The slot from which DET takes VSPAD: the first enabled one whose INPUT is 23 (R343). -/
def State.vspadSlot (s : State) : Option Nat :=
  (List.range 16).find? fun k => s.on (FLT.EN k) && s.rd (FLT.INPUT k) = 23

/-- The rounds stop (R340). -/
def State.stopRounds (s : State) : State :=
  State.thmStopped { ((s.put CONVH.ST_RUNNING false).put CONVH.ST_FAST false).raise CONVH.INT_STOPPED with
    sense.stopAsked := false, sense.calAsked := false, sense.calRound := false }

/-- The offset that a period of a calibration round has measured: the mean code in 1/16 code (R379). -/
def State.offsetOut (s : State) (k : Nat) : State :=
  match (s.slot k).codes with
  | [] => s
  | l => { s with sense.offsets := s.sense.offsets ++ [(k, openDiv (16 * l.sum) (l.length : Nat))] }

/-- The offsets that a calibration round has measured come into force with its end; what CAL saves has changed (R379, R380). -/
def State.takeOffsets (s : State) : State :=
  if s.sense.offsets = [] then s
  else
    let s0 : State := { s with sense.offsets := [] }
    if s.runs pCAL then
      let s1 := s.sense.offsets.foldl (fun (s : State) e => s.wrI (CAL.CVH_OFS e.1) e.2) s0
      { s1.put CAL.ST_SAVE_PENDING true with cal.changed := true }
    else s0

/-- A round is complete. -/
def State.roundEnd (s0 : State) : State :=
  let s := s0.takeOffsets
  let s1 := ((s.wrap CONVH.ROUNDS 1).raise CONVH.INT_ROUND).vspadRound
  let s2 := if s1.runs pTHM then s1.thmRound else s1
  if s2.sense.stopAsked || s2.on CONVH.SINGLE then s2.stopRounds else { s2 with sense.calRound := false }

/-- The slot's first conversion under an excitation switch is over (R353). -/
def State.blankOver (s : State) (k : Nat) : State :=
  if s.shorted k || !s.on (FLT.EN k) then s else s.setSlot k { s.slot k with blank := false }

/-- A slot's period ends. -/
def State.periodEnd (s : State) : State :=
  let k := s.sense.slot
  let s1 := if s.shorted k then s.offsetOut k else s
  let s2 := State.blankOver (if s1.on (FLT.EN k) && s1.runs pFLT then s1.slotOutput k else s1) k
  let s3 := if s.vspadSlot = some k && !s.sense.calRound then
      match (s.slot k).codes with
      | c :: _ => s2.vspadReading (openDiv (25 * c) 2)
      | [] => s2
    else s2
  let s4 : State := { s3 with sense.inPeriod := false, sense.slot := (k + 1) % 16 }
  if k = 15 then s4.roundEnd else s4

/-- The verdict is final and the slot's output is delivered (R341, R352). -/
def execSlotPeriodEnd (s : State) : Host.Outcome State Fault Refusal :=
  done (if s.runs pCONVH && s.sense.inPeriod then s.periodEnd else s)

/-! ### START and STOP (R340) -/

/-- A write of the word that holds START and STOP: both bits act on the state before the write. -/
def State.convhControl (s : State) (v : Nat) : State :=
  let running := s.on CONVH.ST_RUNNING
  let s1 := if bit v 31 && !running then
      { s.put CONVH.ST_RUNNING true with sense.slot := 0, sense.inPeriod := false, sense.stopAsked := false }
    else s
  if !bit v 30 || !running then s1
  else if s1.operating then s1.err (C.ERR_STATE pCONVH)
  else { s1 with sense.stopAsked := true }

/-- CAL takes the next round, unless THM asks for fast measurement; with CVH_PERIOD 0 none is due (R379). -/
def execCvhOffsetRound (s : State) : Host.Outcome State Fault Refusal :=
  done (if s.runs pCAL && s.rd CAL.CVH_PERIOD != 0 && s.runs pCONVH && s.on CONVH.ST_RUNNING && !s.on THM.ST_FAST then { s with sense.calAsked := true } else s)

/-! ### The mirror converter (R355, R356) -/

/-- A conversion of MFB completes, or 100 scan cycles pass without a result. -/
def execConvmConversion (code : Option Int) (pinOutside : Bool) (s : State) : Host.Outcome State Fault Refusal :=
  done (if !s.runs pCONVM || s.on (C.HALTED pCONVM) then s
    else match code with
      | none => (s.count CONVM.NO_CONV_CNT 1).fault pCONVM 1
      | some c =>
        let beyond := decide (c < -32768) || decide (32767 < c) || pinOutside
        let v := clampI c (-32768) 32767
        let s1 := (s.wrI CONVM.LAST_CODE v).put CONVM.ST_OVR_LAST beyond
        let s2 := if beyond then ((s1.count CONVM.OVR_CNT 1).raise CONVM.INT_OVR).fault pCONVM 0 else s1
        { s2 with scn.conv := s2.scn.conv ++ [(v, beyond)] })

end Sys2Proof.Machine
end

