-- ==== Sys2Proof/Machine/ReEncode.lean ====
section
/-! DEFINITION. The return engine's 32-bit instruction words (R187): the fields of each format, their encoding, and the
decoding of a word by its opcode. -/
namespace Sys2Proof.Machine
open Sys2Proof

/-- An instruction word by its format; opcode and fields as they stand in the word. -/
inductive ReWord where
  /-- R: rd, ra, rb and FUNC. -/
  | fmtR (op : BitVec 6) (rd ra rb : BitVec 5) (func : BitVec 11)
  /-- I, S, B, L and C: two register fields and 16 bits. -/
  | fmtI (op : BitVec 6) (rd ra : BitVec 5) (imm : BitVec 16)
  /-- J: a signed word offset. -/
  | fmtJ (op : BitVec 6) (off : BitVec 26)
  /-- V: vd, va, vb, MODE and FUNC. -/
  | fmtV (op : BitVec 6) (vd va vb : BitVec 5) (mode : BitVec 3) (func : BitVec 8)
  /-- VM: v, base, MODE and a signed byte offset. -/
  | fmtM (op : BitVec 6) (v ra : BitVec 5) (mode : BitVec 3) (off : BitVec 13)
  deriving DecidableEq, Repr

/-- The formats of the opcode map. -/
inductive ReFormat where
  | r | i | j | v | m
  deriving DecidableEq, Repr

/-- The format of an opcode, none where the map defines no instruction (R187). -/
def formatOf (op : BitVec 6) : Option ReFormat :=
  let n := op.toNat
  if n = 0x00 || n = 0x3F then some .r
  else if (0x01 ≤ n && n ≤ 0x15) || n = 0x17 || n = 0x18 || n = 0x3D || n = 0x3E then some .i
  else if n = 0x16 then some .j
  else if n = 0x20 || n = 0x21 then some .m
  else if 0x22 ≤ n && n ≤ 0x25 then some .v
  else none

/-- The word of an instruction. -/
def encode : ReWord → Word
  | .fmtR op rd ra rb func => op ++ rd ++ ra ++ rb ++ func
  | .fmtI op rd ra imm => op ++ rd ++ ra ++ imm
  | .fmtJ op off => op ++ off
  | .fmtV op vd va vb mode func => op ++ vd ++ va ++ vb ++ mode ++ func
  | .fmtM op v ra mode off => op ++ v ++ ra ++ mode ++ off

/-- The opcode of an instruction. -/
def ReWord.opcode : ReWord → BitVec 6
  | .fmtR op .. => op
  | .fmtI op .. => op
  | .fmtJ op _ => op
  | .fmtV op .. => op
  | .fmtM op .. => op

/-- The format of an instruction. -/
def ReWord.format : ReWord → ReFormat
  | .fmtR .. => .r
  | .fmtI .. => .i
  | .fmtJ .. => .j
  | .fmtV .. => .v
  | .fmtM .. => .m

/-- The instruction has an opcode of its own format. -/
def ReWord.wf (i : ReWord) : Bool := formatOf i.opcode = some i.format

/-- The instruction that a word encodes, none for an undefined opcode. -/
def decodeWord (w : Word) : Option ReWord :=
  let op := w.extractLsb' 26 6
  let a := w.extractLsb' 21 5
  let b := w.extractLsb' 16 5
  match formatOf op with
  | some .r => some (.fmtR op a b (w.extractLsb' 11 5) (w.extractLsb' 0 11))
  | some .i => some (.fmtI op a b (w.extractLsb' 0 16))
  | some .j => some (.fmtJ op (w.extractLsb' 0 26))
  | some .v => some (.fmtV op a b (w.extractLsb' 11 5) (w.extractLsb' 8 3) (w.extractLsb' 0 8))
  | some .m => some (.fmtM op a b (w.extractLsb' 13 3) (w.extractLsb' 0 13))
  | none => none

end Sys2Proof.Machine
end

