-- ==== Sys2Proof/Machine/Engine.lean ====
section
/-! DEFINITION. A return engine (spec/07_return_engines.md): its registers, its address map with the error checks of its
memories, its hardware loops, the ERROR handler, shot markers, and the issue of one instruction. An instruction command is
the engine's issue of the word at its pc: where the memory holds another word there, nothing issues. -/
namespace Sys2Proof.Machine
open Sys2Proof

/-! ### State and markers -/

def stEmpty : Nat := 1
def stHalted : Nat := 2
def stSpare : Nat := 3
def stServing : Nat := 4
def stFenced : Nat := 5
def stLocked : Nat := 6

/-- STATE as the engine's unit holds it (R210). -/
def State.reState (s : State) (k : Nat) : Nat := s.rd (RE.STATE k)

/-- STATUS.SPARE shows STATE SPARE, which a halted spare does not read (R210, R211). -/
def State.showSpare (s : State) (k : Nat) : State :=
  s.put (RE.ST_SPARE k) (s.reState k = stSpare && !s.on (C.HALTED (pRe k)))

/-- A new STATE, with the status bits that show it (R211). -/
def State.setReState (s : State) (k st : Nat) : State :=
  (((s.wr (RE.STATE k) st).put (RE.ST_LOCKED k) (st = stLocked)).put (RE.ST_SERVING k) (st = stServing)).showSpare k

/-- HALT and HALTED of an engine that its unit halts by itself (R201, R206, R192). -/
def State.haltSelf (s : State) (k : Nat) : State := ((s.put (C.HALT (pRe k)) true).put (C.HALTED (pRe k)) true).showSpare k

/-- Outcomes of a shot marker (R178). -/
def ocDone : Nat := 0
def ocVoid : Nat := 1
def ocSkipped : Nat := 2
def ocFault : Nat := 3

/-- A shot marker word (R178). -/
def markerWord (x : ShotRef) (outcome records : Nat) : DWord :=
  BitVec.ofNat 64 (x.accession.toNat * 2 ^ 32 + x.column % 4096 * 2 ^ 20 + x.rg % 64 * 2 ^ 14 + outcome % 8 * 2 ^ 11 + records % 2048)

/-- The figures of the last closed frame, taken with the marker of its last shot (R210). -/
def State.closeReFrame (s : State) (k : Nat) : State :=
  let e := s.engine k
  let cap := fun n => min n 65535
  let s1 := (((s.wr (RE.SHOTS_LAST k) (cap e.shotsFrame)).wr (RE.SKIPPED_LAST k) (cap e.skippedFrame)).wr
    (RE.SLOTS_MAX_LAST k) (cap e.slotsMax)).wr (RE.ERRORS_LAST k) (cap e.errorsFrame)
  s1.setEngine k { e with shotsFrame := 0, skippedFrame := 0, errorsFrame := 0, slotsMax := 0 }

/-- FRAME_END follows the marker of the frame's last shot, ahead of every later frame's handlers (R196). -/
def State.callFrameEnd (s : State) (k : Nat) (x : ShotRef) : State :=
  if !x.last then s
  else
    let e := s.engine k
    let c : Call := {
      handler := .frameEnd, arg1 := x.accession, arg2 := BitVec.ofNat 32 e.skippedFrame, accession := x.accession, gen := x.gen, rg := x.rg }
    State.closeReFrame (s.setEngine k { e with calls := if s.reState k = stServing then c :: e.calls else e.calls }) k

/-- The dispatcher writes a shot marker into the shelf queue, where it waits while the queue is full. -/
def State.writeMarker (s : State) (k : Nat) (x : ShotRef) (outcome records : Nat) : State :=
  let e := s.engine k
  let s1 := s.pushEntry (k / 8) { marker := true, word := markerWord x outcome records, re := k }
  let s2 := if outcome = ocDone then s1.setEngine k { e with shotsFrame := e.shotsFrame + 1 } else s1
  s2.callFrameEnd k x

/-- The dispatcher gives up a shot of which `records` have entered the queue: a SKIPPED marker, the count and SKIP_RATE (R178, R196,
R209) by the limit of the shot's generation (R28). -/
def State.giveUpWith (s : State) (k : Nat) (x : ShotRef) (records : Nat) : State :=
  let e := s.engine k
  let n := e.skippedFrame + 1
  let s1 := (s.setEngine k { e with skippedFrame := n }).raise (RE.INT_SKIPPED k)
  let s2 := if s.rdGen pREG x.gen REG.SKIP_LIMIT ≤ n then s1.fault (pRe k) 0 else s1
  s2.writeMarker k x ocSkipped records

/-- A shot of which nothing has been emitted is given up. -/
def State.giveUp (s : State) (k : Nat) (x : ShotRef) : State := s.giveUpWith k x 0

/-- Give up a shot, if there is one. -/
def State.giveUpOpt (s : State) (k : Nat) (x : Option ShotRef) : State :=
  match x with
  | some r => s.giveUp k r
  | none => s

/-! ### Registers (R184) -/

def Engine.reg (e : Engine) (r : BitVec 5) : Word := Tab.get 0 e.s r.toNat

/-- Writes to s0 are discarded. -/
def Engine.setReg (e : Engine) (r : BitVec 5) (v : Word) : Engine := if r = 0 then e else { e with s := Tab.set 0 e.s r.toNat v }

def Engine.vec (e : Engine) (r : BitVec 5) : BitVec 256 := Tab.get 0 e.v r.toNat
def Engine.setVec (e : Engine) (r : BitVec 5) (v : BitVec 256) : Engine := { e with v := Tab.set 0 e.v r.toNat v }

/-- acc0 or acc1. -/
def Engine.acc (e : Engine) (one : Bool) : BitVec 640 := if one then e.acc1 else e.acc0
def Engine.setAcc (e : Engine) (one : Bool) (a : BitVec 640) : Engine := if one then { e with acc1 := a } else { e with acc0 := a }

/-! ### pc and loops (R191) -/

/-- The dispatcher return address (R179). -/
def retAddr : Word := 0xFFFFFFF0

/-- The pc and the loops after the instruction at `pc`: the end of a body repeats it or leaves the level. -/
def afterPc (pc : Word) : List LoopLevel → Word × List LoopLevel
  | [] => (pc + 4, [])
  | l :: r =>
    if pc = l.last then (if 1 < l.left.toNat then (l.start, { l with left := l.left - 1 } :: r) else afterPc pc r)
    else (pc + 4, l :: r)

/-- Go on with the next instruction. -/
def Engine.advance (e : Engine) : Engine := { e with pc := (afterPc e.pc e.loops).1, loops := (afterPc e.pc e.loops).2 }

/-- A taken branch or jump ends every level whose body its target lies outside. -/
def Engine.jump (e : Engine) (target : Word) : Engine :=
  { e with pc := target, loops := e.loops.dropWhile fun l => target < l.start || l.last < target }

/-- A branch or jump target: pc + 4 + 4 × offset (R187). -/
def Engine.target (e : Engine) (off : Int) : Word := e.pc + 4 + BitVec.ofInt 32 (4 * off)

/-! ### The ERROR handler (R197) -/

def ceIllegal : Nat := 1
def ceMisaligned : Nat := 2
def ceAccess : Nat := 3
def ceImem : Nat := 4
def ceDmem : Nat := 5
def ceSoft : Nat := 6
def ceLoop : Nat := 7

/-- The registers that the dispatcher sets at every handler entry (R195). -/
def Engine.enterHandler (e : Engine) (n : Nat) (h : Handler) (a1 a2 a3 a4 : Word) : Engine :=
  let e1 := ((((e.setReg 1 a1).setReg 2 a2).setReg 3 a3).setReg 4 a4).setReg 30 e.stackTop
  { e1.setReg 31 retAddr with pc := BitVec.ofNat 32 (4 * n), running := some h, winEcc := false, slots := 0 }

/-- An engine that a handover has relieved leaves service (R206): fenced and halted after a repair, a free spare after an
update; one that has locked up stays LOCKED after an update (R197). -/
def State.leave (s : State) (k : Nat) : State :=
  let e := s.engine k
  match e.leaving with
  | none => s
  | some st =>
    let st1 := if st = stSpare && s.reState k = stLocked then stLocked else st
    let s1 := ((s.setEngine k { e with leaving := none, fresh := false }).setReState k st1).raise (RE.INT_HANDOVER_OUT k)
    let s2 := s1.wr (RE.RG_SERVED k) 0
    if st = stFenced then s2.haltSelf k else s2

/-- A cause inside ERROR: the engine stops and its shots are given up (R197), the one in hand with what it has emitted. -/
def State.lockUp (s : State) (k : Nat) (e : Engine) : State :=
  let s1 := s.setEngine k { e with running := none, interrupted := none, current := none, pending := none, calls := [] }
  let s2 := (s1.setReState k stLocked).fault (pRe k) 4
  let s3 := match e.current with
    | some x => if e.interrupted = some Handler.shot then s2.giveUpWith k x e.emitted else s2
    | none => s2
  ((s3.giveUpOpt k e.pending).leave k).retireOld

/-- A cause of R197 raised by the instruction at the engine's pc. -/
def State.reError (s : State) (k : Nat) (e : Engine) (cause : Nat) (addr : Word) : State :=
  let s1 := ((s.wr (RE.ERR_CAUSE k) cause).wr (RE.ERR_PC k) e.pc.toNat).wr (RE.ERR_ADDR k) addr.toNat
  if e.running = some .error then s1.lockUp k e
  else
    let n := e.errorsFrame + 1
    let e1 := { e with errorsFrame := n, interrupted := e.running, shotSlots := e.slots }
    let s2 := (s1.setEngine k (e1.enterHandler 4 .error (BitVec.ofNat 32 cause) addr e.pc 0)).raise (RE.INT_ERROR k)
    if s.rdGen pREG e.frameGen REG.ERR_LIMIT ≤ n then s2.fault (pRe k) 1 else s2

/-- An uncorrectable error in the engine's memory on a fetch or load (R181). -/
def State.memUe (s : State) (k : Nat) (e : Engine) (cause : Nat) (addr : Word) : State :=
  ((s.count (RE.MEM_UE k) 1).fault (pRe k) 3).reError k e cause addr

/-! ### The address map (R179, R180, R183) -/

/-- The regions of an engine's address space. -/
inductive Region where
  | imem | dmem | window | descriptor | context | none_
  deriving DecidableEq, Repr

/-- The region that holds all of the `n` bytes from address `a` on. -/
def regionOf (a n : Nat) : Region :=
  if a + n ≤ 0x10000 then .imem
  else if 0x10000 ≤ a && a + n ≤ 0x30000 then .dmem
  else if 0x100000 ≤ a && a + n ≤ 0x110000 then .window
  else if 0x110000 ≤ a && a + n ≤ 0x110100 then .descriptor
  else if 0x120000 ≤ a && a + n ≤ 0x122000 then .context
  else .none_

/-- The stacks address of a window address for row group g (R160, R180). -/
def windowAddr (g a : Nat) : Nat :=
  let o := a - 0x100000
  0x210000 * (o / 0x8000) + 0x1000 * (8 * g + o / 0x1000 % 8) + o % 0x1000

/-- The stacks address of a descriptor address. -/
def descriptorAddr (a : Nat) : Nat := 0x420000 + (a - 0x110000)

/-- A half-word of a context page at offset `o` (even), for row group g (R183). -/
def Context.half (c : Context) (g o : Nat) : Nat :=
  let rd := c.regs.rd
  let row := fun j => channelUnder rd (8 * g + j)
  if o < 0x04 then bits c.accession.toNat (8 * o) 16
  else if o < 0x08 then bits c.gen.toNat (8 * (o - 4)) 16
  else if o = 0x08 then g
  else if o = 0x0A then c.calSet % 65536
  else if o < 0x10 then 0
  else if o < 0x20 then (row ((o - 0x10) / 2)).getD 0x3FF
  else if o = 0x20 then rd (EMT.GAIN (2 * g + 1)) * 256 + rd (EMT.GAIN (2 * g))
  else if o < 0x40 then 0
  else if o < 0x80 then rd (TIM.MID ((o - 0x40) / 2))
  else if o < 0x100 then 0
  else if o < 0x500 then
    let j := (o - 0x100) / 0x80
    let i := (o - 0x100) % 0x80
    match row j with
    | some ch =>
      if i < 0x40 then rd (BANK.MID (ch / 16) (32 * (ch % 16) + i / 2))
      else if i = 0x40 then ofSigned 16 (toSigned 12 (rd (BANK.SKEW (ch / 16) (ch % 16))))
      else 0
    | none => 0
  else if 0x800 ≤ o && o < 0x900 then bits (rd (REG.PARAM ((o - 0x800) / 4))) (8 * (o % 4)) 16
  else 0

/-- A byte of the two context pages, for the engine serving g. -/
def State.contextByte (s : State) (g a : Nat) : Byte :=
  let o := (a - 0x120000) % 0x1000
  match s.acq.pages.lookup ((a - 0x120000) / 0x1000) with
  | some c => BitVec.ofNat 8 (c.half g (o - o % 2) / 256 ^ (o % 2))
  | none => 0

/-- The bytes that an engine reads from a region. -/
def State.reBytes (s : State) (e : Engine) (g : Nat) (r : Region) (a n : Nat) : List Byte :=
  match r with
  | .imem => e.imem.bytes a n
  | .dmem => e.dmem.bytes (a - 0x10000) n
  | .window => (List.range n).map fun i => s.stackMem.read (windowAddr g (a + i))
  | .descriptor => s.stackMem.bytes (descriptorAddr a) n
  | .context => (List.range n).map fun i => s.contextByte g (a + i)
  | .none_ => []

/-- The word addresses that `n` bytes from `a` touch. -/
def wordsOf (a n : Nat) : List Nat := (List.range ((a + n - 1) / 4 - a / 4 + 1)).map fun i => a / 4 * 4 + 4 * i

/-- Some word of an access is known to hold an uncorrectable error (R181). -/
def Engine.bad (e : Engine) (a n : Nat) : Bool := (wordsOf a n).any e.badWords.contains

/-- A load of `n` bytes with its alignment and error checks (R179, R181, R182, R190); `k` goes on with the bytes.
FREE VALUE (log 7): which word of the access
an uncorrectable stacks error lies in, and its bad bits. -/
def State.load (s : State) (k : Nat) (e : Engine) (a : Word) (n align : Nat) (found : Ecc)
    (go : State → Engine → List Byte → State) : State :=
  let at_ := a.toNat
  let g := s.rd (RE.RG_SERVED k)
  if at_ % align != 0 then s.reError k e ceMisaligned a
  else match regionOf at_ n with
    | .none_ => s.reError k e ceAccess a
    | .context => go s e (s.reBytes e g .context at_ n)
    | .imem =>
      if found = .double || e.bad at_ n then s.memUe k e ceImem a
      else go (if found = .single then s.count (RE.MEM_CE k) 1 else s) e (s.reBytes e g .imem at_ n)
    | .dmem =>
      if found = .double || e.bad at_ n then s.memUe k e ceDmem a
      else go (if found = .single then s.count (RE.MEM_CE k) 1 else s) e (s.reBytes e g .dmem at_ n)
    | r =>
      let addr := if r = .window then windowAddr g at_ else descriptorAddr at_
      let word := addr + 8 * (s.freeVal 2 % ((addr + n - 1) / 8 - addr / 8 + 1))
      if found = .double then
        let seen : State := { s with stackMem := s.spoiled s.stackMem word 0 }
        go (((s.stackEcc word .double).count (RE.WIN_UE k) 1).drew 3) { e with winEcc := true } (seen.reBytes e g r at_ n)
      else go (s.stackEcc addr found) e (s.reBytes e g r at_ n)

/-- A store to data memory (R179, R190); a whole word written anew holds no error. -/
def State.store (s : State) (k : Nat) (e : Engine) (a : Word) (align : Nat) (bs : List Byte) : State :=
  let at_ := a.toNat
  if at_ % align != 0 then s.reError k e ceMisaligned a
  else if regionOf at_ bs.length != .dmem then s.reError k e ceAccess a
  else
    let whole := fun w => at_ ≤ w && w + 4 ≤ at_ + bs.length
    s.setEngine k (Engine.advance { e with dmem := e.dmem.write (at_ - 0x10000) bs, badWords := e.badWords.filter fun w => !whole w })

/-! ### Issue -/

/-- The engine runs a handler and is not halted. -/
def State.executing (s : State) (k : Nat) : Bool :=
  s.runs (pRe k) && (s.engine k).running.isSome && !s.on (C.HALTED (pRe k)) && s.reState k != stLocked

/-- The engine's instruction memory holds a word at its pc. -/
def Engine.fetches (e : Engine) (w : Word) : Bool := e.imem.le e.pc.toNat 4 = w.toNat

/-- A fetch that its check corrected counts (R181). -/
def State.fetched (s : State) (k : Nat) (fetch : Ecc) : State := if fetch = .single then s.count (RE.MEM_CE k) 1 else s

/-- The issue of the instruction word at the engine's pc: the checks of the fetch first (R179, R181), `fetch` being what the memory's
check found, one issue slot, then its effect. -/
def State.issue (s : State) (k : Nat) (w : Word) (fetch : Ecc) (go : State → Engine → State) : State :=
  let e := s.engine k
  if !s.executing k || e.pc = retAddr then s
  else if 0x10000 ≤ e.pc.toNat then s.reError k e ceAccess e.pc
  else if fetch = .double || e.badWords.contains e.pc.toNat then s.memUe k e ceImem e.pc
  else if !e.fetches w then s
  else go (s.fetched k fetch) { e with slots := e.slots + 1 }

/-- The end of an instruction that goes on at the next one. -/
def State.next (s : State) (k : Nat) (e : Engine) : State := s.setEngine k e.advance

/-- An instruction with a cause of its own: ILLEGAL. -/
def State.illegal (s : State) (k : Nat) (e : Engine) : State := s.reError k e ceIllegal 0

end Sys2Proof.Machine
end

