-- ==== Sys2Proof/Machine/EngineScalar.lean ====
section
/-! DEFINITION. The scalar instructions of a return engine: ALU, immediates, loads, stores, branches, jumps, LOOP, the CSRs
and SYS (R187, R188, R190 to R194). -/
namespace Sys2Proof.Machine
open Sys2Proof

/-! ### ALU (R188) -/

/-- The number of leading zeros of a word. -/
def clz (x : Word) : Nat := ((List.range 32).takeWhile fun i => !x.getLsbD (31 - i)).length

/-- The number of ones of a word. -/
def popc (x : Word) : Nat := ((List.range 32).filter fun i => x.getLsbD i).length

/-- A truth value as a word. -/
def bword (b : Bool) : Word := if b then 1 else 0

/-- The scalar ALU; none for a reserved FUNC, or a CLZ or POPC whose rb field is not 0. -/
def aluOp (func : BitVec 11) (rb : BitVec 5) (a b : Word) : Option Word :=
  match func.toNat with
  | 0x00 => some (a + b)
  | 0x01 => some (a - b)
  | 0x02 => some (a &&& b)
  | 0x03 => some (a ||| b)
  | 0x04 => some (a ^^^ b)
  | 0x05 => some (a <<< (b.toNat % 32))
  | 0x06 => some (a >>> (b.toNat % 32))
  | 0x07 => some (a.sshiftRight (b.toNat % 32))
  | 0x08 => some (bword (a.slt b))
  | 0x09 => some (bword (a.ult b))
  | 0x0A => some (if a.slt b then a else b)
  | 0x0B => some (if a.slt b then b else a)
  | 0x0C => some (a * b)
  | 0x0D => some (BitVec.ofInt 32 (a.toInt * b.toInt / (2 ^ 32 : Nat)))
  | 0x0E => some (BitVec.ofNat 32 (a.toNat * b.toNat / 2 ^ 32))
  | 0x0F => if rb = 0 then some (BitVec.ofNat 32 (clz a)) else none
  | 0x10 => if rb = 0 then some (BitVec.ofNat 32 (popc a)) else none
  | _ => none

def execAlu (fetch : Fetch) (rd ra rb : BitVec 5) (func : BitVec 11) (s : State) : Host.Outcome State Fault Refusal :=
  done (s.issue fetch.engine (encode (.fmtR 0x00 rd ra rb func)) fetch.check fun s e =>
    match aluOp func rb (e.reg ra) (e.reg rb) with
    | some v => s.next fetch.engine (e.setReg rd v)
    | none => s.illegal fetch.engine e)

/-! ### Immediates (R187) -/

/-- An immediate instruction whose result is a function of ra. -/
def State.immediate (s : State) (re : Nat) (fetch : Ecc) (op : BitVec 6) (rd ra : BitVec 5) (imm : BitVec 16) (f : Word → Word) : State :=
  s.issue re (encode (.fmtI op rd ra imm)) fetch fun s e => s.next re (e.setReg rd (f (e.reg ra)))

def execAddi (fetch : Fetch) (rd ra : BitVec 5) (imm : BitVec 16) (s : State) : Host.Outcome State Fault Refusal :=
  done (s.immediate fetch.engine fetch.check 0x01 rd ra imm fun a => a + imm.signExtend 32)

def execAndi (fetch : Fetch) (rd ra : BitVec 5) (imm : BitVec 16) (s : State) : Host.Outcome State Fault Refusal :=
  done (s.immediate fetch.engine fetch.check 0x02 rd ra imm fun a => a &&& imm.zeroExtend 32)

def execOri (fetch : Fetch) (rd ra : BitVec 5) (imm : BitVec 16) (s : State) : Host.Outcome State Fault Refusal :=
  done (s.immediate fetch.engine fetch.check 0x03 rd ra imm fun a => a ||| imm.zeroExtend 32)

def execXori (fetch : Fetch) (rd ra : BitVec 5) (imm : BitVec 16) (s : State) : Host.Outcome State Fault Refusal :=
  done (s.immediate fetch.engine fetch.check 0x04 rd ra imm fun a => a ^^^ imm.zeroExtend 32)

def execSlti (fetch : Fetch) (rd ra : BitVec 5) (imm : BitVec 16) (s : State) : Host.Outcome State Fault Refusal :=
  done (s.immediate fetch.engine fetch.check 0x05 rd ra imm fun a => bword (a.slt (imm.signExtend 32)))

/-- SHI: the shift by IMM16[4:0] that IMM16[6:5] names; none where the code or IMM16[15:7] is reserved. -/
def shiftImm (imm : BitVec 16) (a : Word) : Option Word :=
  let n := imm.toNat % 32
  match imm.toNat / 32 with
  | 0 => some (a <<< n)
  | 1 => some (a >>> n)
  | 2 => some (a.sshiftRight n)
  | _ => none

def execShi (fetch : Fetch) (rd ra : BitVec 5) (imm : BitVec 16) (s : State) : Host.Outcome State Fault Refusal :=
  done (s.issue fetch.engine (encode (.fmtI 0x06 rd ra imm)) fetch.check fun s e =>
    match shiftImm imm (e.reg ra) with
    | some v => s.next fetch.engine (e.setReg rd v)
    | none => s.illegal fetch.engine e)

def execLui (fetch : Fetch) (rd ra : BitVec 5) (imm : BitVec 16) (s : State) : Host.Outcome State Fault Refusal :=
  done (s.issue fetch.engine (encode (.fmtI 0x07 rd ra imm)) fetch.check fun s e =>
    if ra = 0 then s.next fetch.engine (e.setReg rd (imm.zeroExtend 32 <<< 16)) else s.illegal fetch.engine e)

/-! ### Loads and stores (R187, R190) -/

/-- A scalar load of `n` bytes, its value formed by `f`. -/
def State.loadReg (s : State) (re : Nat) (fetch : Ecc) (op : BitVec 6) (rd ra : BitVec 5) (imm : BitVec 16) (n : Nat) (found : Ecc)
    (f : Nat → Word) : State :=
  s.issue re (encode (.fmtI op rd ra imm)) fetch fun s e =>
    s.load re e (e.reg ra + imm.signExtend 32) n n found fun s e bs => s.next re (e.setReg rd (f (ofLeBytes bs)))

def execLw (fetch : Fetch) (rd ra : BitVec 5) (imm : BitVec 16) (found : Ecc) (s : State) : Host.Outcome State Fault Refusal :=
  done (s.loadReg fetch.engine fetch.check 0x08 rd ra imm 4 found fun v => BitVec.ofNat 32 v)

def execLh (fetch : Fetch) (rd ra : BitVec 5) (imm : BitVec 16) (found : Ecc) (s : State) : Host.Outcome State Fault Refusal :=
  done (s.loadReg fetch.engine fetch.check 0x09 rd ra imm 2 found fun v => (BitVec.ofNat 16 v).signExtend 32)

def execLhu (fetch : Fetch) (rd ra : BitVec 5) (imm : BitVec 16) (found : Ecc) (s : State) : Host.Outcome State Fault Refusal :=
  done (s.loadReg fetch.engine fetch.check 0x0A rd ra imm 2 found fun v => (BitVec.ofNat 16 v).zeroExtend 32)

def execLb (fetch : Fetch) (rd ra : BitVec 5) (imm : BitVec 16) (found : Ecc) (s : State) : Host.Outcome State Fault Refusal :=
  done (s.loadReg fetch.engine fetch.check 0x0B rd ra imm 1 found fun v => (BitVec.ofNat 8 v).signExtend 32)

def execLbu (fetch : Fetch) (rd ra : BitVec 5) (imm : BitVec 16) (found : Ecc) (s : State) : Host.Outcome State Fault Refusal :=
  done (s.loadReg fetch.engine fetch.check 0x0C rd ra imm 1 found fun v => (BitVec.ofNat 8 v).zeroExtend 32)

/-- A scalar store of the low `n` bytes of rs. -/
def State.storeReg (s : State) (re : Nat) (fetch : Ecc) (op : BitVec 6) (rs ra : BitVec 5) (imm : BitVec 16) (n : Nat) : State :=
  s.issue re (encode (.fmtI op rs ra imm)) fetch fun s e =>
    s.store re e (e.reg ra + imm.signExtend 32) n (leBytes n (e.reg rs).toNat)

def execSw (fetch : Fetch) (rs ra : BitVec 5) (imm : BitVec 16) (s : State) : Host.Outcome State Fault Refusal :=
  done (s.storeReg fetch.engine fetch.check 0x0D rs ra imm 4)

def execSh (fetch : Fetch) (rs ra : BitVec 5) (imm : BitVec 16) (s : State) : Host.Outcome State Fault Refusal :=
  done (s.storeReg fetch.engine fetch.check 0x0E rs ra imm 2)

def execSb (fetch : Fetch) (rs ra : BitVec 5) (imm : BitVec 16) (s : State) : Host.Outcome State Fault Refusal :=
  done (s.storeReg fetch.engine fetch.check 0x0F rs ra imm 1)

/-! ### Branches, jumps and LOOP (R187, R191) -/

/-- A branch, taken where `c` holds of ra and rb. -/
def State.branch (s : State) (re : Nat) (fetch : Ecc) (op : BitVec 6) (ra rb : BitVec 5) (off : BitVec 16) (c : Word → Word → Bool) : State :=
  s.issue re (encode (.fmtI op ra rb off)) fetch fun s e =>
    if c (e.reg ra) (e.reg rb) then s.setEngine re (e.jump (e.target off.toInt)) else s.next re e

def execBeq (fetch : Fetch) (ra rb : BitVec 5) (off : BitVec 16) (s : State) : Host.Outcome State Fault Refusal :=
  done (s.branch fetch.engine fetch.check 0x10 ra rb off fun a b => a == b)

def execBne (fetch : Fetch) (ra rb : BitVec 5) (off : BitVec 16) (s : State) : Host.Outcome State Fault Refusal :=
  done (s.branch fetch.engine fetch.check 0x11 ra rb off fun a b => a != b)

def execBlt (fetch : Fetch) (ra rb : BitVec 5) (off : BitVec 16) (s : State) : Host.Outcome State Fault Refusal :=
  done (s.branch fetch.engine fetch.check 0x12 ra rb off fun a b => a.slt b)

def execBge (fetch : Fetch) (ra rb : BitVec 5) (off : BitVec 16) (s : State) : Host.Outcome State Fault Refusal :=
  done (s.branch fetch.engine fetch.check 0x13 ra rb off fun a b => !a.slt b)

def execBltu (fetch : Fetch) (ra rb : BitVec 5) (off : BitVec 16) (s : State) : Host.Outcome State Fault Refusal :=
  done (s.branch fetch.engine fetch.check 0x14 ra rb off fun a b => a.ult b)

def execBgeu (fetch : Fetch) (ra rb : BitVec 5) (off : BitVec 16) (s : State) : Host.Outcome State Fault Refusal :=
  done (s.branch fetch.engine fetch.check 0x15 ra rb off fun a b => !a.ult b)

def execJal (fetch : Fetch) (off : BitVec 26) (s : State) : Host.Outcome State Fault Refusal :=
  done (s.issue fetch.engine (encode (.fmtJ 0x16 off)) fetch.check fun s e =>
    s.setEngine fetch.engine ((e.setReg 31 (e.pc + 4)).jump (e.target off.toInt)))

/-- JALR: the target is formed from ra before rd is written; bits [1:0] are cleared. -/
def execJalr (fetch : Fetch) (rd ra : BitVec 5) (imm : BitVec 16) (s : State) : Host.Outcome State Fault Refusal :=
  done (s.issue fetch.engine (encode (.fmtI 0x17 rd ra imm)) fetch.check fun s e =>
    s.setEngine fetch.engine ((e.setReg rd (e.pc + 4)).jump ((e.reg ra + imm.signExtend 32) &&& 0xFFFFFFFC)))

/-- LOOP: a field that must be 0 or an END16 of 0 is ILLEGAL, a third level LOOP_NEST; a count of 0 skips the body. -/
def execLoop (fetch : Fetch) (zero ra : BitVec 5) (endWord : BitVec 16) (s : State) : Host.Outcome State Fault Refusal :=
  done (s.issue fetch.engine (encode (.fmtI 0x18 zero ra endWord)) fetch.check fun s e =>
    let last := e.pc + BitVec.ofNat 32 (4 * endWord.toNat)
    if zero != 0 || endWord = 0 then s.illegal fetch.engine e
    else if 2 ≤ e.loops.length then s.reError fetch.engine e ceLoop 0
    else if e.reg ra = 0 then s.setEngine fetch.engine { e with pc := last + 4 }
    else s.setEngine fetch.engine { e with pc := e.pc + 4, loops := { start := e.pc + 4, last := last, left := e.reg ra } :: e.loops })

/-! ### CSRs (R194) -/

/-- A CSR's value and the number of free values it draws, none for a number that names no CSR. FREE VALUES (log 7): the
engine cycles, which the model does not count; PROX_LEFT is below 777. -/
def State.readCsr (s : State) (re : Nat) (e : Engine) (n : Nat) : Option (Word × Nat) :=
  if n = 0x000 then some (BitVec.ofNat 32 (s.freeVal 0), 1)
  else if n = 0x001 then some (if e.minor1 then BitVec.ofNat 32 (e.slots - 1) else 0, 0)
  else if n = 0x002 then
    match e.current with
    | some x => if e.minor1 && !x.late then some (BitVec.ofNat 32 (s.freeVal 0 % 777), 1) else some (0, 0)
    | none => some (0, 0)
  else if n = 0x003 then some (bword e.winEcc, 0)
  else if n = 0x004 then some (BitVec.ofNat 32 re, 0)
  else if n = 0x005 then some (BitVec.ofNat 32 (s.rd (RE.RG_SERVED re)), 0)
  else if n = 0x006 then some (BitVec.ofNat 32 e.emitted, 0)
  else if n = 0x010 then some (e.scratch, 0)
  else none

/-- CSRW: SCRATCH alone is writable, a write to another CSR has no effect. -/
def execCsrw (fetch : Fetch) (rs zero : BitVec 5) (csr : BitVec 16) (s : State) : Host.Outcome State Fault Refusal :=
  done (s.issue fetch.engine (encode (.fmtI 0x3D rs zero csr)) fetch.check fun s e =>
    if zero != 0 || (s.readCsr fetch.engine e csr.toNat).isNone then s.illegal fetch.engine e
    else if csr = 0x010 then s.next fetch.engine { e with scratch := e.reg rs }
    else s.next fetch.engine e)

def execCsrr (fetch : Fetch) (rd zero : BitVec 5) (csr : BitVec 16) (s : State) : Host.Outcome State Fault Refusal :=
  done (s.issue fetch.engine (encode (.fmtI 0x3E rd zero csr)) fetch.check fun s e =>
    match s.readCsr fetch.engine e csr.toNat with
    | some (v, d) => if zero = 0 then (s.drew d).next fetch.engine (e.setReg rd v) else s.illegal fetch.engine e
    | none => s.illegal fetch.engine e)

/-! ### SYS (R187, R192) -/

/-- A SYS instruction of a FUNC; `ok` says that the fields its function requires to be 0 are 0. -/
def State.sys (s : State) (re : Nat) (fetch : Ecc) (func : BitVec 11) (rd ra rb : BitVec 5) (ok : Bool) (go : State → Engine → State) : State :=
  s.issue re (encode (.fmtR 0x3F rd ra rb func)) fetch fun s e => if ok then go s e else s.illegal re e

def execSysNop (fetch : Fetch) (rd ra rb : BitVec 5) (s : State) : Host.Outcome State Fault Refusal :=
  done (s.sys fetch.engine fetch.check 0x000 rd ra rb true fun s e => s.next fetch.engine e)

/-- EMIT: waits while the queue is full; past 64 records in a shot it is discarded and counted. -/
def execEmit (fetch : Fetch) (rd ra rb : BitVec 5) (s : State) : Host.Outcome State Fault Refusal :=
  let h := (fetch.engine : Nat) / 8
  done (s.sys fetch.engine fetch.check 0x001 rd ra rb true fun t e =>
    if 64 ≤ e.emitted then (t.count (RE.EMIT_OVF fetch.engine) 1).next fetch.engine e
    else if !s.queueFree h then s
    else (t.pushEntry h { marker := false, word := e.reg rb ++ e.reg ra, re := fetch.engine }).next fetch.engine { e with emitted := e.emitted + 1 })

/-- A PROX word leaves an engine, unless its shot's deadline has passed (R198). -/
def State.sendProx (s : State) (re : Nat) (late : Bool) (w : Word) : State :=
  if late then
    let g := s.rd (RE.RG_SERVED re)
    let s1 := (s.count (RE.PROX_LATE re) 1).fault (pRe re) 2
    { s1 with prox.lateRgs := if s1.prox.lateRgs.contains g then s1.prox.lateRgs else s1.prox.lateRgs ++ [g] }
  else { s with prox.flight := s.prox.flight ++ [w] }

/-- Whether the deadline of the engine's current shot has passed; without a shot there is none to meet. -/
def Engine.late (e : Engine) : Bool := match e.current with
  | some x => x.late
  | none => false

def execProx (fetch : Fetch) (rd ra rb : BitVec 5) (s : State) : Host.Outcome State Fault Refusal :=
  done (s.sys fetch.engine fetch.check 0x002 rd ra rb true fun s e => (s.sendProx fetch.engine e.late (e.reg ra)).next fetch.engine e)

/-- FENCE: every earlier EMIT and PROX has been accepted when it issues, since each issues only when accepted. -/
def execFence (fetch : Fetch) (rd ra rb : BitVec 5) (s : State) : Host.Outcome State Fault Refusal :=
  done (s.sys fetch.engine fetch.check 0x003 rd ra rb true fun s e => s.next fetch.engine e)

def execTrap (fetch : Fetch) (rd ra rb : BitVec 5) (s : State) : Host.Outcome State Fault Refusal :=
  done (s.sys fetch.engine fetch.check 0x004 rd ra rb true fun s e => s.reError fetch.engine e ceSoft 0)

/-- BRK: the engine halts inside its handler while test access with SCOPE bit 1 is unlocked (R526, R527), else a NOP. -/
def execBrk (fetch : Fetch) (rd ra rb : BitVec 5) (s : State) : Host.Outcome State Fault Refusal :=
  done (s.sys fetch.engine fetch.check 0x005 rd ra rb true fun s e =>
    if s.on MON.UNLOCKED && bit (s.rd MON.SCOPE) 1 then
      State.next (s.haltSelf fetch.engine) fetch.engine { e with debugHalt := true }
    else s.next fetch.engine e)

/-- A fetched word that is no instruction: an undefined opcode or a SYS with a reserved FUNC (R187). -/
def execIllegalOpcode (fetch : Fetch) (word : Word) (s : State) : Host.Outcome State Fault Refusal :=
  done (match decodeWord word with
    | none => s.issue fetch.engine word fetch.check fun s e => s.illegal fetch.engine e
    | some (.fmtR op _ _ _ func) => if op = 0x3F && 5 < func.toNat then s.issue fetch.engine word fetch.check fun s e => s.illegal fetch.engine e else s
    | some _ => s)

end Sys2Proof.Machine
end

