-- ==== Sys2Proof/Machine/Firmware.lean ====
section
/-! DEFINITION. What the standard firmware computes of a shot (spec/08_return_processing.md, R214 to R233, R237, R238).
Times are integers in units of 1/2,048 ns: 80 units are one LSB, 5 units the firmware's 1/16 LSB. Results that the spec
states in real arithmetic are exact here up to the time of a candidate, which is held in 1/16 LSB (R214; log 13). -/
namespace Sys2Proof.Machine
open Sys2Proof

/-! ### Parameters (R237) -/

/-- A PARAM field: 0 selects the default, a value outside its range acts as the nearest end. -/
def paramField (ps : List Nat) (n lsb width lo hi dflt : Nat) : Nat :=
  let v := bits (ps.getD n 0) lsb width
  if v = 0 then dflt else min (max v lo) hi

def fwSigma (ps : List Nat) : Nat := paramField ps 0 24 8 16 255 80
def fwVmin (ps : List Nat) (n : Nat) : Nat := paramField ps 0 16 8 1 8 (max 2 (n - 1))
def fwDom (ps : List Nat) : Nat := paramField ps 0 8 8 128 255 192
def fwMaxRet (ps : List Nat) : Nat := paramField ps 0 0 8 1 4 4
/-- cm. -/
def fwNear (ps : List Nat) : Nat := paramField ps 1 16 16 100 3000 3000
/-- mm. -/
def fwWinDist (ps : List Nat) : Nat := paramField ps 1 0 16 10 1000 150
def fwRainS (ps : List Nat) : Nat := paramField ps 2 24 8 1 32 4
def fwRainRange (ps : List Nat) : Nat := paramField ps 2 16 8 1 100 40
def fwSprayRange (ps : List Nat) : Nat := paramField ps 2 8 8 1 50 15
def fwSprayWidth (ps : List Nat) : Nat := paramField ps 2 0 8 17 255 40
def fwFogExt (ps : List Nat) : Nat := paramField ps 3 24 8 4 100 12
def fwFogContrast (ps : List Nat) : Nat := paramField ps 3 16 8 17 64 24
def fwWinShots (ps : List Nat) : Nat := paramField ps 3 8 8 1 64 32
def fwIntRef (ps : List Nat) : Nat := paramField ps 4 16 16 100 30000 1000
def fwIntScale (ps : List Nat) : Nat := paramField ps 4 0 16 1 4096 256

/-- PROX_RANGE of row group g in cm, at most NF_RANGE; none where no row of it intrudes. -/
def fwProxRange (ps : List Nat) (g : Nat) : Option Nat :=
  if bits (ps.getD (32 + g / 2) 0) (16 * (g % 2)) 16 = 0xFFFF then none
  else some (min (paramField ps (32 + g / 2) (16 * (g % 2)) 16 10 3000 300) (fwNear ps))

/-- The report limit of R226. -/
def fwLimit (ps : List Nat) (level : Nat) : Nat :=
  if level ≤ 2 then fwMaxRet ps else if level = 3 then min (fwMaxRet ps) 2 else 1

/-! ### A shot and its rows as the firmware sees them -/

/-- What the rows of a shot share. -/
structure FwShot where
  params : List Nat
  rg : Nat
  accession : Nat
  column : Nat
  pos : List Nat
  /-- Pulse offsets in bins, bin width and pulse width in units. -/
  qs : List Nat
  w : Nat
  pw : Nat
  tref : Int
  open_ : Nat
  /-- T_open in units. -/
  span : Nat
  nbins : Nat
  shift : Nat
  veff : Nat
  lnf : Nat
  nmax : Nat
  noRef : Bool
  refPartial : Bool
  winEcc : Bool

/-- A candidate (R220, R222). `a` is S × T_open. -/
structure Cand where
  lag : Nat
  corr : Nat
  neff : Nat
  near : Bool
  counts : List Nat := []
  values : List Int := []
  a : Int := 0
  /-- Time of flight in 1/16 LSB. -/
  time : Int := 0
  dropped : Bool := false
  valid : Bool := false
  cls : Nat := 0
  /-- Return index once emitted, and whether as a provisional return. -/
  index : Option Nat := none
  prov : Bool := false

/-- The mode of a row (R216). -/
inductive Mode where
  | skip | stale | process
  deriving DecidableEq, Repr

/-- A point record of the shot in hand: what the row would hold of it, its index, and whether it is retracted. -/
structure FwRecord where
  ret : HeldReturn
  index : Nat
  retracted : Bool := false

/-- A row's work in a shot. -/
structure FwRow where
  j : Nat
  row : Nat
  mode : Mode := .skip
  /-- E of R218. -/
  count : Nat := 0
  pbin : Nat := 0
  hist : Nat → Nat := fun _ => 0
  stamps : List Int := []
  /-- The flags that every return of the row carries, in place. -/
  flags : Nat := 0
  blind : Bool := true
  gain : Nat := 0
  held : List HeldReturn := []
  cands : List Cand := []
  records : List FwRecord := []

/-! ### Correlation and detection (R219 to R221) -/

/-- C and N_eff at a lag. -/
def FwRow.corr (x : FwShot) (r : FwRow) (lag : Nat) : Nat × Nat :=
  let seen := x.qs.filter fun q => lag + q < r.pbin
  ((seen.map fun q => r.hist (lag + q)).sum, seen.length)

/-- L_max, none where the burst does not fit the bins. -/
def FwShot.lmax (x : FwShot) : Option Nat :=
  let q := x.qs.foldl max 0
  if q + 1 ≤ x.nbins then some (x.nbins - 1 - q) else none

/-- C at a lag, 0 below lag 0 and above L_max. -/
def FwRow.corrIn (x : FwShot) (r : FwRow) (lag : Int) : Nat :=
  match x.lmax with
  | some m => if 0 ≤ lag && lag ≤ m then (r.corr x lag.toNat).1 else 0
  | none => 0

/-- Whether a lag is a candidate. With μ = N_eff × E × W / T_open, C ≥ μ + (DET_SIGMA / 16) × √μ is squared out. -/
def FwRow.detects (x : FwShot) (r : FwRow) (lag : Nat) : Bool :=
  let (c, n) := r.corr x lag
  let mu : Int := ((n * r.count * x.w : Nat) : Int)
  let excess : Int := (c * x.span : Nat) - mu
  let sigma := fwSigma x.params
  decide (x.veff ≤ n) && decide (x.veff ≤ c) && decide (0 ≤ excess) &&
    decide (((sigma * sigma : Nat) : Int) * mu * (x.span : Int) ≤ 256 * excess * excess) &&
    decide (r.corrIn x (lag - 1) ≤ c) && decide (r.corrIn x (lag + 1) < c)

/-- Insert by an order. -/
def insertBy {α : Type} (before : α → α → Bool) (v : α) : List α → List α
  | [] => [v]
  | h :: t => if before h v then h :: insertBy before v t else v :: h :: t

/-- Sort by an order; equal elements keep theirs. -/
def sortBy {α : Type} (before : α → α → Bool) (l : List α) : List α := l.foldl (fun acc v => insertBy before v acc) []

/-- The candidates of a pass: thinned, the largest first, at most `keep`. -/
def FwRow.detect (x : FwShot) (r : FwRow) (lo hi keep : Nat) (near : Bool) : List Cand :=
  let found := ((List.range' lo (hi + 1 - lo)).filter (r.detects x)).map fun l =>
    ({ lag := l, corr := (r.corr x l).1, neff := (r.corr x l).2, near := near } : Cand)
  let gap := (x.pw + x.w - 1) / x.w + 1
  let kept := (sortBy (fun a b => b.corr < a.corr || (a.corr = b.corr && a.lag < b.lag)) found).foldl
    (fun (acc : List Cand) c => if acc.any fun m => m.lag < c.lag + gap && c.lag < m.lag + gap then acc else acc ++ [c]) []
  kept.take keep

/-! ### Refinement and validation (R222, R223) -/

/-- BETA in hundredths. -/
def beta (m : Nat) : Nat := if m ≤ 1 then 0 else if m = 2 then 6 else if m = 3 then 11 else 15

/-- Refine a candidate. -/
def FwRow.refine (x : FwShot) (r : FwRow) (c : Cand) : Cand :=
  let pulses := (List.range x.qs.length).filter fun k => c.lag + x.qs.getD k 0 < r.pbin
  let lo : Int := (c.lag * x.w : Nat) - 2048
  let hi : Int := ((c.lag + 1) * x.w + x.pw + 2048 : Nat)
  let gates := pulses.map fun k =>
    (r.stamps.map fun t => t - (10240 * x.pos.getD k 0 : Nat) - x.tref).filter fun v => lo ≤ v && v ≤ hi
  let vals := gates.flatten
  let raw : Int := (vals.length : Int)
  if vals.isEmpty then { c with counts := gates.map (·.length), dropped := true }
  else
    let span : Int := (x.span : Int)
    let bg : Int := (r.count * (c.neff * (x.w + x.pw + 4096)) : Nat)
    let a := if raw * span < bg then 0 else raw * span - bg
    let centre : Int := (c.lag * x.w + (x.w + x.pw) / 2 : Nat)
    -- t_m as a quotient
    let (num, den) : Int × Int := if span < 2 * a then (vals.sum * span - bg * centre, a) else (vals.sum, raw)
    let m := (a / (span * (c.neff : Int))).toNat
    -- t_hat = t_m - PW / 2 + BETA × PW, in 1/16 LSB: (100 num - 50 PW den + BETA PW den) / (500 den)
    let top := 100 * num + ((beta m : Int) - 50) * (x.pw : Int) * den
    { c with counts := gates.map (·.length), values := vals, a := a, time := openDiv top (500 * den) }

/-- Validation; with N_eff = 1 the dominance test is skipped. -/
def FwRow.validate (x : FwShot) (r : FwRow) (c : Cand) : Cand :=
  let need : Int := 1 + nearest (r.count * (x.w + x.pw + 4096) : Nat) (x.span : Int)
  let good := (c.counts.filter fun n => need ≤ (n : Int)).length
  let top := c.counts.foldl max 0
  { c with valid := !c.dropped && x.veff ≤ good && (c.neff = 1 || top * 256 ≤ fwDom x.params * c.values.length) }

/-! ### Ranges and classes (R222, R224) -/

/-- A time in 1/16 LSB as a range: mm = time × 149,896,229 / 409,600,000. -/
def mmNum : Int := 149896229
def mmDen : Int := 409600000

/-- The range of a candidate is at most `mm`. -/
def within (time : Int) (mm : Nat) : Bool := time * mmNum ≤ (mm : Int) * mmDen

/-- Two ranges lie within 0.5 m. -/
def close500 (a b : Int) : Bool := (if a ≤ b then b - a else a - b) * mmNum ≤ 500 * mmDen

/-- Lags next to `lag` in one direction at which C stays at or over half of `half`: how many, and their sum of C. -/
def FwRow.runFrom (x : FwShot) (r : FwRow) (half : Nat) (d : Int) : Nat → Int → Nat × Nat
  | 0, _ => (0, 0)
  | fuel + 1, lag =>
    let c := r.corrIn x (lag + d)
    if 4 ≤ 2 * c && half ≤ 2 * c then
      let (n, t) := r.runFrom x half d fuel (lag + d)
      (n + 1, t + c)
    else (0, 0)

/-- FOG. -/
def FwRow.fog (x : FwShot) (r : FwRow) (c : Cand) : Bool :=
  let (n1, t1) := r.runFrom x c.corr (-1) x.nbins c.lag
  let (n2, t2) := r.runFrom x c.corr 1 x.nbins c.lag
  let n := n1 + n2 + 1
  let total := t1 + t2 + c.corr
  2 ≤ c.corr && fwFogExt x.params * 2048 ≤ n * x.w && c.corr * 16 * n < fwFogContrast x.params * total

/-- SPRAY: S ≥ 3 and the variance over (SPRAY_WIDTH / 16)² × PW² / 12. -/
def FwRow.spray (x : FwShot) (_r : FwRow) (c : Cand) : Bool :=
  let n : Int := (c.values.length : Int)
  let sq := (c.values.map fun v => v * v).sum
  let sum := c.values.sum
  let lim : Int := (fwSprayWidth x.params * x.pw : Nat)
  within c.time (1000 * fwSprayRange x.params) && decide (3 * (x.span : Int) ≤ c.a) &&
    decide (lim * lim * n * n < 3072 * (n * sq - sum * sum))

/-- RAIN, with the candidates of the rows beside. -/
def FwRow.rain (x : FwShot) (r : FwRow) (beside : List Cand) (c : Cand) : Bool :=
  within c.time (1000 * fwRainRange x.params) && decide (c.a ≤ (fwRainS x.params : Int) * (x.span : Int)) &&
    !(beside.any fun o => !o.dropped && close500 o.time c.time) && !(r.held.any fun h => close500 h.time c.time)

/-- The class of a candidate. -/
def FwRow.classify (x : FwShot) (r : FwRow) (beside : List Cand) (c : Cand) : Nat :=
  if within c.time (fwWinDist x.params + 100) then 4
  else if r.fog x c then 3
  else if r.spray x c then 2
  else if r.rain x beside c then 1
  else 0

/-! ### Records (R227 to R231, R238, R239) -/

/-- Quality: the largest q of at most 15 with q × √(S + b × G) ≤ S. -/
def quality (a bg : Int) (c : Cand) (x : FwShot) : Nat :=
  let g : Int := (c.neff * (x.w + x.pw + 4096) : Nat)
  ((List.range 15).filter fun q => ((q + 1) * (q + 1) : Nat) * (a * (x.span : Int) + bg * g) ≤ a * a).length

/-- Emit a candidate of a row. FREE VALUES (log 7): the intensity of an emitter with gain 0 and the quality of S = b = 0, for
which R227 states no result, from `z`. -/
def FwRow.emit (x : FwShot) (z : Nat → Nat) (prov : Bool) (r : FwRow) (i : Nat) : FwRow × List DWord :=
  match r.cands[i]? with
  | none => (r, [])
  | some c =>
    let idx := r.records.length
    let sum := ((r.cands.filter (·.valid)).map (·.a)).sum
    let all : Int := (r.count : Int) * (x.span : Int) - sum
    let bg := if all < 0 then 0 else all
    let refMm : Int := (10 * fwIntRef x.params : Nat)
    let num := c.a * 255 * (fwIntScale x.params : Int) * (c.time * mmNum) * (c.time * mmNum)
    let den := (x.span : Int) * (r.gain : Int) * 256 * (c.neff : Int) * (refMm * mmDen) * (refMm * mmDen)
    let inten := if r.gain = 0 then z (4 * r.j + idx) % 256 else (clampI (nearest num den) 0 255).toNat
    let q := if c.a = 0 && bg = 0 then z (32 + 4 * r.j + idx) % 16 else quality c.a bg c x
    let mm := (clampI (nearest (c.time * mmNum) mmDen) 0 1048575).toNat
    let w := r.row * 2 ^ 53 + idx * 2 ^ 51 + c.cls * 2 ^ 48 + b2n prov * 2 ^ 47 + r.flags + b2n (c.neff = 1) * 2 ^ 40
      + q * 2 ^ 36 + inten * 2 ^ 28 + mm * 2 ^ 8
    let word : DWord := BitVec.ofNat 64 w
    ({ r with
        cands := r.cands.set i { c with index := some idx, prov := prov }
        records := r.records ++ [{ ret := { record := word, time := c.time }, index := idx }] }, [word])

/-- The retraction of a record (R239). -/
def retraction (x : FwShot) (row idx : Nat) : DWord :=
  BitVec.ofNat 64 (2 ^ 62 + row * 2 ^ 53 + idx * 2 ^ 51 + x.column % 4096 * 2 ^ 32 + x.accession % 2 ^ 32)

/-- Retract the record with an index. -/
def FwRow.retract (x : FwShot) (r : FwRow) (idx : Nat) : FwRow × List DWord :=
  ({ r with records := r.records.map fun m => if m.index = idx then { m with retracted := true } else m },
   [retraction x r.row idx])

/-- The candidates of a row by position, in an order. -/
def FwRow.ranked (before : Cand → Cand → Bool) (keep : Cand → Bool) (r : FwRow) : List Nat :=
  (sortBy (fun a b => before a.2 b.2) (((List.range r.cands.length).zip r.cands).filter fun p => keep p.2)).map (·.1)

/-- The provisional returns of a row (R230), while `room` provisional emissions remain in the shot (R233). -/
def FwRow.provisional (x : FwShot) (z : Nat → Nat) (r : FwRow) (room : Nat) : FwRow × List DWord :=
  let seen := r.cands.filter fun c => !c.dropped
  if !seen.any fun c => within c.time (10 * fwNear x.params) then (r, [])
  else
    let order := r.ranked (fun a b => a.time < b.time) fun c => !c.dropped && c.cls = 0
    (order.take (min x.nmax room)).foldl (fun (acc : FwRow × List DWord) i =>
      ((acc.1.emit x z true i).1, acc.2 ++ (acc.1.emit x z true i).2)) (r, [])

/-- The retractions of the provisional returns that failed validation (R231). -/
def FwRow.failed (x : FwShot) (r : FwRow) : FwRow × List DWord :=
  ((r.cands.filter fun c => c.prov && !c.valid).filterMap (·.index)).foldl (fun (acc : FwRow × List DWord) i =>
    ((acc.1.retract x i).1, acc.2 ++ (acc.1.retract x i).2)) (r, [])

/-- Selection at the end of the far pass (R226). -/
def FwRow.select (x : FwShot) (z : Nat → Nat) (r : FwRow) : FwRow × List DWord :=
  let order := r.ranked (fun a b => (a.cls = 0 && b.cls != 0) || ((a.cls = 0) = (b.cls = 0) && a.time < b.time))
    fun c => c.valid && c.index.isNone
  (order.take (x.nmax - r.records.length)).foldl (fun (acc : FwRow × List DWord) i =>
    ((acc.1.emit x z false i).1, acc.2 ++ (acc.1.emit x z false i).2)) (r, [])

/-- The copies of a STALE row (R228): the held returns with STALE and the flags that this shot gives every return of the row (R217,
R221, R225, R229), never provisional. -/
def FwRow.hold (r : FwRow) : FwRow × List DWord :=
  let copies := r.held.map fun h => (h.record ||| BitVec.ofNat 64 (2 ^ 46 + r.flags)) &&& ~~~(BitVec.ofNat 64 (2 ^ 47))
  ({ r with records := (copies.zip r.held).map fun p =>
      { ret := { p.2 with record := p.1 }, index := bits p.1.toNat 51 2 } }, copies)

/-! ### The shot (R215 to R218, R232, R233) -/

/-- A function over the rows that also emits. -/
def overRows (f : FwRow → FwRow × List DWord) (rows : List FwRow) : List FwRow × List DWord :=
  (rows.map fun r => (f r).1, rows.flatMap fun r => (f r).2)

/-- The candidates of the rows beside a row of the group. -/
def beside (rows : List FwRow) (j : Nat) : List Cand :=
  (rows.filter fun r => r.j + 1 = j || r.j = j + 1).flatMap (·.cands)

/-- Classify the candidates of one pass in every row. -/
def classifyAll (x : FwShot) (near : Bool) (rows : List FwRow) : List FwRow :=
  rows.map fun r => { r with cands := r.cands.map fun c =>
    if c.near = near && !c.dropped then { c with cls := r.classify x (beside rows r.j) c } else c }

/-- What a shot leaves. -/
structure FwResult where
  rows : List FwRow
  records : List DWord
  prox : Word

/-- A PROX word (R232). -/
def proxWord (rg rows blind seq : Nat) : Word :=
  BitVec.ofNat 32 (2 ^ 31 + rg % 64 * 2 ^ 25 + b2n (rows != 0) * 2 ^ 24 + rows % 256 * 2 ^ 16 + blind % 256 * 2 ^ 8 + seq % 256)

/-- The rows' masks. -/
def rowMask (f : FwRow → Bool) (rows : List FwRow) : Nat := (rows.map fun r => if f r then 2 ^ r.j else 0).sum

/-- Row j intrudes (R233). -/
def FwRow.intrudes (x : FwShot) (r : FwRow) : Bool :=
  match fwProxRange x.params x.rg with
  | none => false
  | some cm => !r.blind && r.cands.any fun c => c.valid && c.near && c.cls = 0 && within c.time (10 * cm)

/-- The provisional pass over the rows in order, with the provisional emissions that the deadline leaves room for. -/
def provisionalAll (x : FwShot) (z : Nat → Nat) : Nat → List FwRow → List FwRow × List DWord
  | _, [] => ([], [])
  | room, r :: t =>
    let p := r.provisional x z room
    let q := provisionalAll x z (room - p.2.length) t
    (p.1 :: q.1, p.2 ++ q.2)

/-- What the far pass reads anew of a row: its histogram and list, and the ECC flag of an error met by then (R229). -/
def FwRow.reread (later : List FwRow) (r : FwRow) : FwRow :=
  match later.find? fun x => x.j = r.j with
  | some x => { r with hist := x.hist, stamps := x.stamps, flags := x.flags }
  | none => r

/-- The SHOT handler's work on a shot whose data is not void. `room` is how many provisional EMITs the cycles before the
deadline leave room for, `unfinished` the rows whose validation they do not (R233; log 13). `later` are the rows as the reads of the
far pass find them. -/
def runShot (x : FwShot) (seq room unfinished : Nat) (z : Nat → Nat) (rows0 later : List FwRow) : FwResult :=
  let active := fun (f : FwRow → FwRow) (r : FwRow) => if r.mode = .process then f r else r
  let emits := fun (f : FwRow → FwRow × List DWord) (r : FwRow) => if r.mode = .process then f r else (r, [])
  let last := x.lmax.getD 0
  let fits := x.lmax.isSome
  let near := rows0.map (active fun r =>
    { r with cands := if fits then (r.detect x 0 (min x.lnf last) 8 true).map (r.refine x) else [] })
  let classed := classifyAll x true near
  let wanted := (provisionalAll x z (8 * 8) classed).2.length
  let short := room < wanted
  let (prov, out1) := provisionalAll x z room classed
  let judged := prov.map (active fun r => { r with cands := r.cands.map (r.validate x) })
  let late := fun (r : FwRow) => short && bit unfinished r.j && r.cands.any (·.near)
  let blind := rowMask (fun r => r.blind || late r) judged
  let intr := rowMask (fun r => r.intrudes x && !late r) judged
  let (r2, out2) := overRows (emits (FwRow.failed x)) judged
  let far := (r2.map (FwRow.reread later)).map (active fun r =>
    let c := if fits && x.lnf < last then (r.detect x (x.lnf + 1) last (8 - r.cands.length) false).map fun c => r.validate x (r.refine x c) else []
    { r with cands := r.cands ++ c })
  let (r3, out3) := overRows (emits (FwRow.select x z)) (classifyAll x false far)
  let (r4, out4) := overRows (fun r => if r.mode = .stale then r.hold else (r, [])) r3
  { rows := r4, records := out1 ++ out2 ++ out3 ++ out4, prox := proxWord x.rg intr blind seq }

/-! ### Reading the shot -/

/-- The standard firmware runs in an engine (log 13). -/
def State.standard (s : State) (k : Nat) : Bool := Config.isStandardVolume (s.rd (RE.VOL_ID k)) (s.rd (RE.VOL_VER k))

/-- A word of the descriptor of a buffer. -/
def State.descWord (s : State) (b w : Nat) : Nat := s.stackMem.le (0x420000 + 0x80 * b + 4 * w) 4

/-- The burst code of a descriptor. -/
def State.descCode (s : State) (b : Nat) : List Nat :=
  ((List.range 8).map fun i => bits (s.descWord b (8 + i / 2)) (16 * (i % 2)) 9).takeWhile fun p => p != 0x1FF

/-- The PARAM words of a context page. -/
def Context.params (c : Context) : List Nat := (List.range 64).map fun n => c.regs.rd (REG.PARAM n)

/-- A word of a context page's half-words for the engine serving g. -/
def State.contextHalf (s : State) (accession g o : Nat) : Nat :=
  match s.acq.pages.lookup (accession % 2) with
  | some c => c.half g o
  | none => 0

/-- t_ps in units (R127): 2,560 per TDC cycle, 5 per 1/16 LSB. -/
def unitsOf (code mid : Nat) (skew : Int) : Int := 2560 * (bits code 5 13 : Int) + 5 * ((mid : Int) - skew)

/-- The shot's descriptor as the firmware uses it (R215, R217). -/
def State.fwShot (s : State) (e : Engine) (rg b : Nat) (x : ShotRef) : FwShot :=
  let d := s.descWord b
  let acc := x.accession.toNat
  let binsel := bits (d 7) 30 2
  let pos := s.descCode b
  let w := 2560 * 2 ^ binsel
  let noRef := bit (d 2) 8
  let nominal := bit (d 3) 18
  let openCode := bits (d 5) 0 18
  let tim0 := bits (d 4) 0 18
  let mid := s.contextHalf acc rg (0x40 + 2 * (tim0 % 32))
  let tref : Int := if noRef || nominal then 80 * (openCode : Int)
    else unitsOf tim0 mid 0 - 80 * (bits (d 3) 19 10 : Int) - 10240 * (pos.getD (bits (d 3) 29 3) 0 : Int)
  { params := e.fw.params, rg := rg, accession := acc, column := bits (d 2) 20 12, pos := pos
    qs := pos.map fun p => 4 * p / 2 ^ binsel, w := w, pw := 1024 * (4 + bits (d 2) 10 4), tref := tref, open_ := openCode
    span := 80 * (bits (d 6) 0 18 - openCode), nbins := bits (d 7) 12 12, shift := 5 + binsel
    veff := min (fwVmin e.fw.params pos.length) pos.length
    lnf := fwNear e.fw.params * 40000000 / (149896229 * 5 * 2 ^ binsel), nmax := fwLimit e.fw.params (bits (d 7) 27 3)
    noRef := noRef, refPartial := bit (d 2) 9, winEcc := e.winEcc }

/-- Row j of the shot: its mode (R216), background (R218) and flags (R229). -/
def State.fwRow (s : State) (e : Engine) (x : FwShot) (b j : Nat) : FwRow :=
  let base := windowAddr x.rg (0x100000 + 0x8000 * b + 0x1000 * j)
  let h := fun n => s.stackMem.le (base + 4 * n) 4
  let d := s.descWord b
  let reduce := bits (d 7) 24 3
  let fire := bits (d 2) 17 3
  let em := (8 * x.rg + j) / 4
  let ch := bits (h 0) 22 10
  let skip := fire != 0 || !bit reduce 2 || !bit reduce 1 || !bit (h 0) 15 || ch = 0x3FF || bit (h 0) 17
    || (3 ≤ bits (d 2) 14 3 && (em + x.column) % 2 = 1)
  let stale := bit (h 0) 16
  let pile := bit (h 0) 18
  let ecc := bit (h 0) 14
  let dirty := fwWinShots x.params ≤ ((List.range 64).filter (bit (Tab.get 0 e.fw.window j))).length
  let pbin := if pile then (bits (h 1) 0 18 - x.open_) / 2 ^ x.shift else x.nbins
  let half := fun o => s.contextHalf x.accession x.rg o
  let skew := toSigned 16 (half (0x140 + 0x80 * j))
  { j := j, row := 8 * x.rg + j, mode := if skip then .skip else if stale then .stale else .process
    count := if bit reduce 0 then bits (h 2) 0 12 else bits (h 0) 0 7 + bits (h 1) 20 12
    pbin := pbin, hist := fun i => (s.stackMem.read (base + 0x200 + i)).toNat
    stamps := (List.range (bits (h 0) 0 7)).map fun i =>
      let q := bits (s.stackMem.le (base + 0x100 + 4 * i) 4) 0 18
      unitsOf q (half (0x100 + 0x80 * j + 2 * (q % 32))) skew
    flags := b2n x.noRef * 2 ^ 45 + b2n x.refPartial * 2 ^ 44 + b2n (ecc || x.winEcc) * 2 ^ 43 + b2n pile * 2 ^ 42 + b2n dirty * 2 ^ 41
    blind := skip || stale || x.noRef || ecc || x.winEcc || dirty || pbin ≤ x.lnf + x.qs.foldl max 0
    gain := bits (half 0x20) (8 * (j / 4)) 8
    held := Tab.get [] e.fw.held j }

/-- The shot's data is void: the buffer fills again or holds another shot (R164, R215). -/
def State.descVoid (s : State) (x : ShotRef) : Bool :=
  let d := s.descWord (x.seq.toNat % 2) 31
  bit d 31 || bits d 0 16 != x.seq.toNat % 65536

/-- Records that the standard firmware emits enter the shelf queue, or wait at a full one (R178, R192). -/
def State.emitAll (s : State) (k : Nat) (ws : List DWord) : State :=
  ws.foldl (fun (s : State) w => s.pushEntry (k / 8) { marker := false, word := w, re := k }) s

/-- The stacks words that an engine's reads of a shot reach: its rows' slots and its descriptor (R180). -/
def readsWord (rg b addr : Nat) : Bool :=
  let slot := 0x210000 * b + 0x8000 * rg
  (slot ≤ addr && decide (addr < slot + 0x8000)) || (0x420000 + 0x80 * b ≤ addr && decide (addr < 0x420080 + 0x80 * b))

/-- The errors that the firmware's reads of a shot meet (R161, R182): counted in their banks, an uncorrectable one in WIN_UE and in
WIN_ECC. -/
def State.fwErrors (s : State) (k : Nat) (errors : List StackError) : State :=
  let n := (errors.filter (·.double)).length
  let s1 := (s.stackErrors errors).count (RE.WIN_UE k) n
  if n = 0 then s1 else s1.setEngine k { s1.engine k with winEcc := true }

/-- The standard firmware's SHOT (R215): the PROX word and every record, and in s1 the outcome that it will return. `found` are the
errors that its reads meet; what it reads once one is met holds the bad bits (R182).
FREE VALUES (log 7): the provisional EMITs that the deadline leaves room for and the rows left unvalidated (R233), the
intensities and qualities that R227 does not state, the issue slots taken, and the bad bits. -/
def State.fwShotRun (s0 : State) (k : Nat) (x : ShotRef) (found : List StackError) : State :=
  let b := x.seq.toNat % 2
  let errors := found.filter fun e => readsWord x.rg b e.addr
  let early := errors.filter (·.early)
  let near : State := State.fwErrors { s0.drew (2 * errors.length) with stackMem := s0.spoiledBy early } k early
  let rest := if near.descVoid x then [] else errors.filter fun e => !e.early
  let far : State := State.fwErrors { near with stackMem := s0.spoiledBy (early ++ rest) } k rest
  let s : State := { far with stackMem := s0.stackMem }
  let e := s.engine k
  let late := e.late
  if near.descVoid x then
    let s1 := s.setEngine k { e.setReg 1 1 with pc := retAddr, slots := s.freeVal 0, fw := { e.fw with records := [], nextHeld := e.fw.held, nextWindow := e.fw.window } }
    State.sendProx (s1.drew 1) k late (proxWord x.rg 0 0xFF x.seq.toNat)
  else
    let sh := near.fwShot (near.engine k) x.rg b x
    let res := runShot sh x.seq.toNat (if late then 0 else s.freeVal 1) (s.freeVal 2) (fun i => s.freeVal (3 + i))
      ((List.range 8).map (near.fwRow (near.engine k) sh b)) ((List.range 8).map (far.fwRow e { sh with winEcc := e.winEcc } b))
    let processed := res.rows.filter fun r => r.mode = .process
    let fw : Firmware := { e.fw with
      records := res.rows.flatMap fun r => (r.records.filter fun m => !m.retracted).map (·.ret.record)
      nextHeld := processed.foldl (fun t r => Tab.set [] t r.j ((r.records.filter fun m => !m.retracted).map (·.ret))) e.fw.held
      nextWindow := processed.foldl (fun t r =>
        let new := r.cands.any fun c => c.valid && c.cls = 4
        Tab.set 0 t r.j ((2 * Tab.get 0 t r.j + b2n new) % 2 ^ 64)) e.fw.window }
    let s1 := s.setEngine k { e.setReg 1 0 with pc := retAddr, slots := s.freeVal 0, emitted := res.records.length, fw := fw }
    State.emitAll (State.sendProx (s1.drew 67) k late res.prox) k res.records

/-- The end of the standard firmware's SHOT: the window bitmaps are in force (R225), then the final check of descriptor word 31 (R215).
A void shot retracts every record not yet retracted and leaves the held returns (R214); a done one puts the new ones in force. -/
def State.fwShotEnd (s : State) (k : Nat) (x : ShotRef) : State :=
  let e := s.engine k
  if e.reg 1 != 0 then s
  else if s.descVoid x then
    let ws := e.fw.records.map fun w =>
      BitVec.ofNat 64 (2 ^ 62 + bits w.toNat 51 11 * 2 ^ 51 + x.column % 4096 * 2 ^ 32 + x.accession.toNat)
    State.emitAll (s.setEngine k { e.setReg 1 1 with emitted := e.emitted + ws.length, fw := { e.fw with records := [], window := e.fw.nextWindow } }) k ws
  else s.setEngine k { e with fw := { e.fw with records := [], held := e.fw.nextHeld, window := e.fw.nextWindow } }

/-- The standard firmware's other handlers (R214): INIT clears everything, FRAME_BEGIN clears the held returns, FRAME_BEGIN and
CONFIG read the PARAM words of the context page. -/
def State.fwHandler (s : State) (k : Nat) (h : Handler) (accession : Word) : State :=
  let e := s.engine k
  let ps := match s.acq.pages.lookup (accession.toNat % 2) with
    | some c => c.params
    | none => []
  let fw : Firmware := match h with
    | .init => {}
    | .frameBegin => { e.fw with held := [], params := ps }
    | .config => { e.fw with params := ps }
    | _ => e.fw
  s.setEngine k { e with pc := retAddr, fw := fw }

end Sys2Proof.Machine
end

