-- ==== Sys2Proof/Machine/Dispatcher.lean ====
section
/-! DEFINITION. The dispatchers of the return engines (R177, R195 to R198): buffer-ready toggles, the entry of handlers and
their return, the PROX deadline, and the memory scrubber (R181). -/
namespace Sys2Proof.Machine
open Sys2Proof

/-- The shot as the dispatcher knows it. -/
def Shot.ref (sh : Shot) (g : Nat) : ShotRef :=
  { seq := sh.seq, accession := sh.accession, gen := sh.gen, column := sh.column, last := sh.last, rg := g }

/-- The engine can take shots: it serves, it runs and it is not halted (R208, R210). -/
def State.canServe (s : State) (k : Nat) : Bool :=
  s.reState k = stServing && s.runs (pRe k) && !s.on (C.HALTED (pRe k))

/-- A shot becomes ready for an engine: it becomes pending, and a shot pending before it is given up; an engine that cannot
serve has every shot given up (R196, R197, R208, R210). -/
def State.shotReady (s : State) (k : Nat) (x : ShotRef) : State :=
  let e := s.engine k
  let s1 := s.setEngine k { e with lastSeq := some x.seq, pending := none }
  let s2 := s1.giveUpOpt k e.pending
  (if s2.canServe k then s2.setEngine k { s2.engine k with pending := some x } else s2.giveUp k x).retireOld

/-- The buffer-ready toggle of the shot of the window closed last (R164, R177). -/
def execBufferReady (re : Fin 72) (s : State) : Host.Outcome State Fault Refusal :=
  done (match s.acq.closedShot with
    | none => s
    | some sh =>
      match sh.rgOf re with
      | none => s
      | some g => if (s.engine re).lastSeq = some sh.seq then s else s.shotReady re (sh.ref g))

/-- The context page of a frame (R183). -/
def contextPage (accession : Word) : Word := BitVec.ofNat 32 (0x120000 + 0x1000 * (accession.toNat % 2))

/-- A handler is entered: THM's step for the shelf applies from here on (R392). -/
def State.takeStep (s : State) (k : Nat) : State :=
  let h := k / 8
  let step := s.rd (THM.SHELF_STEP h)
  let fr := s.acq.frame.map fun f => { f with throttleMax := max f.throttleMax step }
  { s with thm.applied := Tab.set 0 s.thm.applied h step, acq.frame := fr }

/-- Enter a handler other than SHOT (R195). -/
def State.enterCall (s : State) (k : Nat) (c : Call) : State :=
  let e := s.engine k
  let page := if c.handler = .init then 0 else contextPage c.accession
  let n := match c.handler with
    | .init => 0
    | .frameBegin => 1
    | .shot => 2
    | .frameEnd => 3
    | .error => 4
    | .config => 5
  let s1 := s.setEngine k { e.enterHandler n c.handler c.arg1 c.arg2 page 0 with frameGen := c.gen }
  if s1.standard k then s1.fwHandler k c.handler c.accession else s1

/-- Enter SHOT (R195): the window and descriptor of the shot's buffer, the frame's context page, COLUMN and SHOT_SEQ. -/
def State.enterShot (s : State) (k : Nat) (x : ShotRef) (errors : List StackError) : State :=
  let e := s.engine k
  let b := x.seq.toNat % 2
  let e1 := e.enterHandler 2 .shot (BitVec.ofNat 32 (0x100000 + 0x8000 * b)) (BitVec.ofNat 32 (0x110000 + 0x80 * b))
    (contextPage x.accession) (BitVec.ofNat 32 (x.column % 4096 * 2 ^ 20 + x.seq.toNat % 65536))
  let s1 := s.setEngine k { e1 with current := some x, pending := none, emitted := 0, frameGen := x.gen }
  if s1.standard k then s1.fwShotRun k x errors else s1

/-- The engine is idle and may enter a handler. -/
def State.dispatchable (s : State) (k : Nat) : Bool :=
  s.runs (pRe k) && (s.engine k).running.isNone && !s.on (C.HALTED (pRe k)) && s.reState k != stLocked

/-- The pending shot goes before a call that opens a later frame. -/
def Call.waits (c : Call) (x : ShotRef) : Bool :=
  (c.handler = .frameBegin || c.handler = .config) && decide (0 < (c.accession - x.accession).toInt)

/-- The dispatcher enters the next handler of an idle engine. -/
def execDispatchHandler (entry : HandlerEntry) (s : State) : Host.Outcome State Fault Refusal :=
  let re : Nat := entry.engine
  let e := s.engine re
  done (if !s.dispatchable re then s
    else
      match e.calls, e.pending with
      | c :: r, some x =>
        if c.waits x then (s.takeStep re).enterShot re x entry.errors
        else ((s.setEngine re { e with calls := r }).takeStep re).enterCall re c
      | c :: r, none => ((s.setEngine re { e with calls := r }).takeStep re).enterCall re c
      | [], some x => (s.takeStep re).enterShot re x entry.errors
      | [], none => s)

/-- INIT has ended: the engine waits as a spare for a handover or for its row group (R201, R565). -/
def State.initEnds (s : State) (k : Nat) (returned : Bool) : State :=
  let s1 := (s.setEngine k { s.engine k with inited := true }).setReState k stSpare
  if returned then s1.raise (RE.INT_INIT_DONE k) else s1

/-- The outcome of s1 at SHOT's return (R196). -/
def outcomeOf (v : Word) : Nat := if v = 0 then ocDone else if v = 1 then ocVoid else ocFault

/-- A handler has ended, by its return or by the ERROR handler's. `error` says that ERROR interrupted it. -/
def State.handlerEnds (s : State) (k : Nat) (h : Handler) (error : Bool) : State :=
  let e := s.engine k
  match h with
  | .init => s.initEnds k (!error)
  | .shot =>
    match e.current with
    | none => s
    | some x =>
      let s1 := if !error && s.standard k then s.fwShotEnd k x else s
      let e1 := s1.engine k
      let s2 := s1.setEngine k { e1 with current := none, slotsMax := max e1.slotsMax (if error then e1.shotSlots else e1.slots) }
      (s2.writeMarker k x (if error then ocFault else outcomeOf (e1.reg 1)) e1.emitted).retireOld
  | .frameEnd => s.leave k
  | _ => s

/-- A handler jumps to the dispatcher return address. -/
def execHandlerReturn (re : Fin 72) (s : State) : Host.Outcome State Fault Refusal :=
  let e := s.engine re
  done (if !s.executing re || e.pc != retAddr then s
    else
      match e.running with
      | none => s
      | some .error =>
        let s1 := s.setEngine re { e with running := none, interrupted := none, loops := [] }
        match e.interrupted with
        | some h => s1.handlerEnds re h true
        | none => s1
      | some h => State.handlerEnds (s.setEngine re { e with running := none, loops := [] }) re h false)

/-- The PROX deadline of the oldest shot that has not met it passes (R198). -/
def execProxDeadline (re : Fin 72) (s : State) : Host.Outcome State Fault Refusal :=
  let e := s.engine re
  let late := fun (x : ShotRef) => { x with late := true }
  done (match e.current with
    | some x => if x.late then s.setEngine re { e with pending := e.pending.map late }
        else s.setEngine re { e with current := some (late x) }
    | none => s.setEngine re { e with pending := e.pending.map late })

/-- The scrubber checks a word of an engine's memories (R181). -/
def execMemoryScrub (re : Fin 72) (addr : Word) (found : Ecc) (s : State) : Host.Outcome State Fault Refusal :=
  let e := s.engine re
  let a := addr.toNat
  done (if !s.runs (pRe re) || 0x30000 ≤ a || a % 4 != 0 then s
    else match found with
      | .clean => s
      | .single => s.count (RE.MEM_CE re) 1
      | .double =>
        State.fault ((s.setEngine re { e with badWords := if e.badWords.contains a then e.badWords else e.badWords ++ [a] }).count
          (RE.MEM_UE re) 1) (pRe re) 3)

end Sys2Proof.Machine
end

