-- ==== Sys2Proof/Machine/Handover.lean ====
section
/-! DEFINITION. Loading of the return engines, their volumes' ABI check, repair and update requests, handover, take-up and
resets (spec/07_return_engines.md: R200 to R208, R565). -/
namespace Sys2Proof.Machine
open Sys2Proof

/-! ### Loading (R202, R495) -/

/-- SEC's record of an engine's volume is cleared (R495). -/
def State.clearSecRecord (s : State) (k : Nat) : State := { s with sec.records := s.sec.records.drop k }

/-- A write of LOAD_ADDR. -/
def State.loadAddr (s : State) (k v : Nat) : State :=
  let ok := v ≤ 0x2FFFC && v % 4 = 0
  let s1 := if s.on (C.HALTED (pRe k)) then s else s.err (C.ERR_BUSY (pRe k))
  if !ok then s1.err (C.ERR_VALUE (pRe k)) else if s.on (C.HALTED (pRe k)) then (s1.wrBoth (RE.LOAD_ADDR k) v).clearSecRecord k else s1

/-- A write of LOAD_DATA: only from the host core, while HALTED reads 1. -/
def State.loadData (s : State) (path : Path) (k v : Nat) : State :=
  let a := s.rd (RE.LOAD_ADDR k)
  let e := s.engine k
  if path != .host then s.err (C.ERR_STATE (pRe k))
  else if !s.on (C.HALTED (pRe k)) then s.err (C.ERR_BUSY (pRe k))
  else if 0x30000 ≤ a then s.err (C.ERR_VALUE (pRe k))
  else
    let e1 : Engine := if a < 0x10000 then { e with imem := e.imem.setLe a 4 v } else { e with dmem := e.dmem.setLe (a - 0x10000) 4 v }
    let s1 := s.setEngine k { e1 with badWords := e.badWords.filter (· != a), written := true }
    let s2 := s1.wrBoth (RE.LOAD_ADDR k) (a + 4)
    if s.on (RE.ST_LOADED k) then s2.clearSecRecord k else s2

def execLoadAddrWrite (path : Path) (re : Fin 72) (value : Word) (s : State) : Host.Outcome State Fault Refusal :=
  let _ := path
  done (s.writeTo (pRe re) fun s => s.loadAddr re value.toNat)

def execLoadDataWrite (path : Path) (re : Fin 72) (value : Word) (s : State) : Host.Outcome State Fault Refusal :=
  done (s.writeTo (pRe re) fun s => s.loadData path re value.toNat)

/-- What LOAD_DATA reads: the word at LOAD_ADDR. -/
def State.loadDataRead (s : State) (k : Nat) : Nat :=
  let a := s.rd (RE.LOAD_ADDR k)
  if a < 0x10000 then (s.engine k).imem.le a 4 else (s.engine k).dmem.le (a - 0x10000) 4

/-! ### Halting and resuming an engine (R47, R201, R210) -/

/-- The ABI descriptor is accepted (R200, R201). -/
def State.abiOk (s : State) (e : Engine) : Bool :=
  let w := fun a => e.imem.le a 4
  w 0x20 = 0x31424552 && bits (w 0x24) 24 8 = 1 && bits (w 0x24) 16 8 ≤ 1 && 0x10010 ≤ w 0x28 && w 0x28 ≤ 0x30000
    && bits (w 0x2C) 8 8 = s.rd PASM.REC_MAJOR

/-- HALT is cleared after loading: the volume is refused, or accepted and its INIT called. The registers start at 0
(R184); until INIT returns the engine reads HALTED (2). -/
def State.checkAbi (s : State) (k : Nat) : State :=
  let e := s.engine k
  let w := fun a => e.imem.le a 4
  if !s.abiOk e then
    let s1 := (s.raise (RE.INT_ABI_REFUSED k)).err (C.ERR_VALUE (pRe k))
    (s1.haltSelf k).setReState k stHalted
  else
    let e1 : Engine := {
      imem := e.imem, dmem := e.dmem, badWords := e.badWords, stackTop := BitVec.ofNat 32 (w 0x28), minor1 := bits (w 0x24) 16 8 = 1
      calls := [{}], lastSeq := e.lastSeq, skippedFrame := e.skippedFrame, errorsFrame := e.errorsFrame
      shotsFrame := e.shotsFrame, slotsMax := e.slotsMax }
    let s1 := (((s.setEngine k e1).wr (RE.ABI_MAJOR k) 1).wr (RE.ABI_MINOR k) (bits (w 0x24) 16 8)).wr (RE.REC_MAJOR k) (bits (w 0x2C) 8 8)
    ((s1.put (RE.ST_LOADED k) true).wr (RE.RG_SERVED k) 0).setReState k stHalted

/-- A halted engine's pending shot is given up (R210). -/
def State.reHalted (s : State) (k : Nat) : State :=
  let e := s.engine k
  State.retireOld ((State.giveUpOpt (s.setEngine k { e with pending := none }) k e.pending).showSpare k)

/-- An engine resumes; a fenced one stays fenced (R207). -/
def State.reResumed (s : State) (k : Nat) : State :=
  let e := s.engine k
  if e.written && s.reState k != stFenced then s.checkAbi k else (s.setEngine k { e with debugHalt := false }).showSpare k

/-- What STATE reads (R210): OFF without power, HALTED while halted but for a fenced or locked engine. -/
def State.stateRead (s : State) (k : Nat) : Nat :=
  let st := s.reState k
  if s.isOff (pRe k) then 0
  else if s.on (C.HALTED (pRe k)) && (st = stEmpty || st = stSpare || st = stServing) then stHalted
  else st

/-! ### Requests (R204) -/

/-- A free spare: STATE SPARE, serving no row group, without FAULT.HEALTH. -/
def State.freeSpare (s : State) (k : Nat) : Bool :=
  s.reState k = stSpare && s.runs (pRe k) && !s.on (C.HALTED (pRe k)) && (s.servedBy k).isNone && !s.on (C.FAULT (pRe k) 26)

/-- The engine's REC_MAJOR differs from that of a serving engine. -/
def State.recDiffers (s : State) (k : Nat) : Bool :=
  s.on (RE.ST_LOADED k) && (List.range 72).any fun i => s.reState i = stServing && s.rd (RE.REC_MAJOR i) != s.rd (RE.REC_MAJOR k)

/-- The three fields of a request. -/
structure ReqFlds where
  req : Fld
  engine : Fld
  rg : Fld
  kind : Nat

def repairFlds : ReqFlds := ⟨REG.REQ, REG.ENGINE, REG.RG, 0⟩
def updateFlds : ReqFlds := ⟨REG.UREQ, REG.UENGINE, REG.URG, 1⟩

/-- A write of a request word; a refused one raises REQ_REFUSED and changes nothing. -/
def State.request (s : State) (f other : ReqFlds) (v : Nat) : State :=
  let k := bits v 16 7
  let g := bits v 8 6
  let no := fun (e : Nat → Fld) => (s.err (e pREG)).raise REG.INT_REQ_REFUSED
  let clash := s.on other.req && (s.rd other.engine = k || s.rd other.rg = g)
  if s.on f.req then no C.ERR_BUSY
  else if 71 < k then (if bit v 31 then no C.ERR_VALUE else (s.err (C.ERR_VALUE pREG)).wr f.rg g)
  else if !bit v 31 then (s.wr f.engine k).wr f.rg g
  else if s.recDiffers k then no C.ERR_VALUE
  else if clash || !s.freeSpare k then no C.ERR_BUSY
  else ((s.put f.req true).wr f.engine k).wr f.rg g

def execRepairReq (path : Path) (value : Word) (s : State) : Host.Outcome State Fault Refusal :=
  let _ := path
  done (s.writeTo pREG fun s => s.request repairFlds updateFlds value.toNat)

def execUpdateReq (path : Path) (value : Word) (s : State) : Host.Outcome State Fault Refusal :=
  let _ := path
  done (s.writeTo pREG fun s => s.request updateFlds repairFlds value.toNat)

/-- A write of UNFENCE (R207). -/
def State.unfence (s : State) (k v : Nat) : State :=
  if !bit v 31 then s
  else if s.reState k = stFenced && !(s.engine k).uncleared then
    { (s.setReState k stEmpty).put (REG.FENCED k) false with nvs.lifePending := true }
  else s.err (C.ERR_STATE (pRe k))

def execUnfence (path : Path) (re : Fin 72) (value : Word) (s : State) : Host.Outcome State Fault Refusal :=
  let _ := path
  done (s.writeTo (pRe re) fun s => s.unfence re value.toNat)

/-! ### Handover and take-up (R205, R206, R565) -/

/-- An engine begins to serve a row group, from cleared state (R214). -/
def State.beginService (s : State) (k g : Nat) : State :=
  let e := s.engine k
  let s1 := (s.setEngine k { e with fresh := true, fw := {} }).setReState k stServing
  (s1.wr (RE.RG_SERVED k) g).raise (RE.INT_HANDOVER_IN k)

/-- The engine that a handover relieves: one that serves goes on to its FRAME_END; any other leaves at once. -/
def State.relieve (s : State) (k kind : Nat) : State :=
  let e := s.engine k
  let st := s.reState k
  if st = stServing then
    let s1 := s.setEngine k { e with leaving := some (if kind = 0 then stFenced else stSpare) }
    if s.canServe k then s1 else s1.leave k
  else if kind = 0 then (s.setReState k stFenced).haltSelf k
  else s

/-- RESULT of a request. -/
def State.reqResult (s : State) (f : ReqFlds) (outcome : Nat) (first : Word) : State :=
  ((((s.wr REG.R_OUTCOME outcome).wr REG.R_RG (s.rd f.rg)).wr REG.R_KIND f.kind).wr REG.R_ENGINE (s.rd f.engine)).wr REG.R_ACCESSION first.toNat

/-- A pending request at a frame boundary; `first` is the first frame under the new map. -/
def State.carryOut (s : State) (f : ReqFlds) (first : Word) : State :=
  let k := s.rd f.engine
  let g := s.rd f.rg
  let s1 := (s.put f.req false).reqResult f (if s.freeSpare k then 1 else 2) first
  if !s.freeSpare k then s1.raise REG.INT_REQ_REFUSED
  else
    let old := s.rd (REG.ENGINE_OF_RG g)
    let s2 := (s1.wr (REG.ENGINE_OF_RG g) k).raise REG.INT_HANDOVER_DONE
    let s3 := if f.kind = 0 then s2.put (REG.FENCED old) true else s2
    let s4 := (s3.relieve old f.kind).beginService k g
    let s5 := if f.kind = 0 then s4.setEngine old { s4.engine old with uncleared := true } else s4
    { s5 with nvs.lifePending := true }

/-- The handover of a frame boundary: at most one request, repair before update. -/
def State.handover (s : State) (first : Word) : State :=
  if s.on REG.REQ then
    let carried := s.freeSpare (s.rd REG.ENGINE)
    let s1 := s.carryOut repairFlds first
    if !carried && s1.on REG.UREQ then s1.carryOut updateFlds first else s1
  else if s.on REG.UREQ then s.carryOut updateFlds first
  else s

/-- The take-up of the row groups whose engines wait with an accepted volume. -/
def State.takeUp (s : State) : State :=
  (List.range 64).foldl (fun s g =>
    let k := s.rd (REG.ENGINE_OF_RG g)
    if s.reState k = stSpare && (s.engine k).inited && s.runs (pRe k) && !s.on (C.HALTED (pRe k)) then s.beginService k g
    else s) s

/-! ### Resets (R184, R203, R207) -/

/-- Before a reset clears an engine: its shot in hand ends with a FAULT marker, a pending one is given up, and an engine that
a handover has relieved is gone. -/
def State.reBeforeReset (s : State) (k : Nat) : State :=
  let e := s.engine k
  let cut := match e.current with
    | some x => if e.running = some Handler.shot || e.interrupted = some Handler.shot then State.writeMarker s k x ocFault e.emitted else s
    | none => s
  let s1 := State.giveUpOpt (cut.setEngine k { cut.engine k with pending := none, current := none }) k e.pending
  (s1.leave k).clearSecRecord k

/-- After a reset: registers and memories cleared, STATE EMPTY, or FENCED for a fenced engine. -/
def State.reAfterReset (s : State) (k : Nat) : State :=
  let fenced := s.on (REG.FENCED k)
  let s1 := s.setEngine k { ({} : Engine) with lastSeq := (s.engine k).lastSeq }
  if fenced then s1.setReState k stFenced else s1

end Sys2Proof.Machine
end

