-- ==== Sys2Proof/Machine/Lamp.lean ====
section
/-! DEFINITION. LMP (spec/16_lamp_driver.md): the bins of the lamp board, the 2 µs ticks with their frames, accumulators and
fades, the derating multiplier, and the flood's exposure window. -/
namespace Sys2Proof.Machine
open Sys2Proof

/-! ### The bins (R434, R435) -/

/-- A u16 of the lamp-board image at byte `o`. -/
def lmpU16 (img : List Nat) (o : Nat) : Nat := img.getD o 0 + 256 * img.getD (o + 1) 0

/-- The offset of the first byte that fails R434's checks, 0xFF for the check value, none if all pass. -/
def lampBinsFail (img : List Nat) : Option Nat :=
  let exact := fun (o v : Nat) => if img.getD o 0 = v then none else some o
  let checks := [exact 0 0x48, exact 1 0x4A, exact 2 0x4C, exact 3 0x42, exact 4 1, exact 5 4, exact 6 16]
    ++ (List.range 4).map (fun i => if lmpU16 img (8 + 2 * i) = 0 then some (8 + 2 * i) else none)
    ++ (List.range 16).map (fun i => if img.getD (0x10 + i) 0 = 0 then some (0x10 + i) else none)
  match checks.findSome? id with
  | some o => some o
  | none =>
    let sum := shake256 ((img.take 0x60).map (BitVec.ofNat 8)) 4
    if (img.drop 0x60).take 4 = sum.map BitVec.toNat then none else some 0xFF

/-- LOAD (R435): a rejection sets no FAULT bit. -/
def State.lmpLoad (s : State) : State :=
  let img := (List.range 100).map fun b => s.rdS (LMP.BIN_IMAGE b)
  match lampBinsFail img with
  | some o => ((s.put LMP.BINS_BAD true).wr LMP.BAD_OFFSET o).raise LMP.INT_BINS_BAD
  | none =>
    { ((((s.put LMP.BINS_VALID true).put LMP.ST_BINS_VALID true).put LMP.BINS_BAD false).raise LMP.INT_BINS_LOADED) with
      lmp.stagedImage := some img }

/-- CODE of a string (R435). -/
def lampCode (rd : Fld → Nat) (img : Option (List Nat)) (st : Nat) : Nat :=
  match img with
  | none => 16
  | some b => min 255 (255 * rd (LMP.I_TARGET st) / lmpU16 b (8 + 2 * st))

/-- CORR of a lamp (R435). -/
def lampCorr (img : Option (List Nat)) (l : Nat) : Nat :=
  match img with
  | none => 255
  | some b => b.getD (0x10 + b.getD (0x20 + l) 0 % 16) 0

/-- LMP applies its staged copy: codes and corrections of the staged image with it. -/
def State.applyLmp (s : State) : State :=
  let s0 := s.applyStaged pLMP
  let img := match s.lmp.stagedImage with
    | some b => some b
    | none => s.lmp.image
  let s1 : State := { s0 with lmp.image := img, lmp.stagedImage := none }
  let s2 := (List.range 4).foldl (fun s i => s.wr (LMP.CODE i) (lampCode s.rd s.lmp.image i)) s1
  (List.range 64).foldl (fun s l => s.wr (LMP.CORR l) (lampCorr s.lmp.image l)) s2

/-! ### Fades (R433) -/

/-- The level m whole milliseconds into a fade. -/
def fadeLevel (from_ target m ms : Nat) : Nat :=
  if ms ≤ m then target else ((from_ : Int) + truncDiv (((target : Int) - from_) * m) (ms : Nat)).toNat

/-- A string's level at a tick: a written TARGET starts a fade, a running fade advances by one tick of 500 to the ms. -/
def State.fadeTick (s : State) (st : Nat) : State :=
  let ask := s.lmp.asked.contains st
  let from_ := if ask then s.rd (LMP.LEVEL_NOW st) else Tab.get 0 s.lmp.fadeFrom st
  let ticks := if ask then 0 else Tab.get 0 s.lmp.fadeTicks st + 1
  if !ask && !s.lmp.fading.contains st then s
  else
    let ms := s.rd (LMP.FADE_MS st)
    let s1 := s.wr (LMP.LEVEL_NOW st) (fadeLevel from_ (s.rd (LMP.TARGET st)) (ticks / 500) ms)
    let rest := s.lmp.fading.filter (· != st)
    if ms ≤ ticks / 500 then
      { s1 with lmp.fading := rest, lmp.fadeFrom := Tab.set 0 s.lmp.fadeFrom st 0, lmp.fadeTicks := Tab.set 0 s.lmp.fadeTicks st 0 }
    else
      { s1 with
        lmp.fading := st :: rest, lmp.fadeFrom := Tab.set 0 s.lmp.fadeFrom st from_, lmp.fadeTicks := Tab.set 0 s.lmp.fadeTicks st ticks }

/-! ### A tick (R431, R432) -/

/-- M of a string (R436). -/
def State.lampM (s : State) (st : Nat) : Nat :=
  let n := s.rd LMP.DERATE_LEVEL
  if n = 4 then 0 else if s.on (LMP.DERATE_EXEMPT st) then 4 else 4 - n

/-- The exposure window is open at the tick that starts t cycles after the edge (R438): times in cycles of 20 ns. DEDUCED (log 48): the
further SYNC_WIDTH runs from the tick at which the window opens. -/
def windowLit (delay width t : Nat) : Bool :=
  let opens := t % 100 + 100 * ((50 * delay - t % 100 + 99) / 100)
  opens ≤ t && t < opens + 50 * width

/-- A string's lamps may light in this tick: no synchronisation, none left (R439), or inside the window. -/
def State.stringOpen (s : State) (st : Nat) : Bool :=
  !s.on (LMP.SYNC_EN st) || s.on LMP.ST_SYNC_LOST ||
    (match s.lmp.sinceEdge with
      | some t => windowLit (s.rd LMP.SYNC_DELAY) (s.rd LMP.SYNC_WIDTH) t
      | none => false)

/-- One lamp's accumulator. -/
def State.lampStep (s : State) (l : Nat) : State :=
  if !s.stringOpen (l / 16) then { s with lmp.lit := Tab.set false s.lmp.lit l false }
  else
    let x := if bit (s.rd (LMP.LAMP_EN (l / 16))) (l % 16) then s.rd (LMP.LEVEL_NOW (l / 16)) * s.lampM (l / 16) * s.rd (LMP.CORR l) / 1020 else 0
    let a := Tab.get 0 s.lmp.acc l + x
    { s with lmp.acc := Tab.set 0 s.lmp.acc l (if 1024 ≤ a then a - 1024 else a), lmp.lit := Tab.set false s.lmp.lit l (decide (1024 ≤ a)) }

/-- A lamp lights in this tick: the state computed in the last one, and none outside the string's window. -/
def State.lampShows (s : State) (l : Nat) : Bool := s.stringOpen (l / 16) && Tab.get false s.lmp.lit l

/-- The frame of a string: its code, and a 1 for every lamp that stays dark. -/
def State.lampFrame (s : State) (st : Nat) (dark : Bool) : Nat :=
  s.rd (LMP.CODE st) * 65536 + ((List.range 16).map fun i => if !dark && s.lampShows (16 * st + i) then 0 else 2 ^ i).sum

/-- The frames and gates of a tick. -/
def State.lampPins (s : State) (dark : Bool) : State :=
  { s with
    pins.lsf := (List.range 4).foldl (fun t st => Tab.set 0 t st (s.lampFrame st dark)) []
    pins.lg := ((List.range 4).map fun st =>
      if !dark && (List.range 16).any fun i => s.lampShows (16 * st + i) then 2 ^ st else 0).sum }

/-- A new derating level comes into force (R436). -/
def State.lampLevel (s : State) : State :=
  if s.lmp.level = s.rd LMP.DERATE_LEVEL then s
  else
    let s1 := (s.wr LMP.DERATE_LEVEL s.lmp.level).raise LMP.INT_LEVEL_CHANGE
    if s.lmp.level = 4 then s1.fault pLMP 0 else s1

/-- One tick: the frames of the lamps computed last, then changes, fades and the lamps of the next tick. DEDUCED (log 48): while LMP is
halted a new derating level applies at its tick, and fades and accumulators wait. -/
def State.lampTick (s : State) : State :=
  if s.on (C.HALTED pLMP) then
    let s1 := (s.lampPins true).lampLevel
    { s1 with lmp.sinceEdge := s1.lmp.sinceEdge.map (· + 100) }
  else
    let s1 := ((s.lampPins false).applyLive pLMP).lampLevel
    let s2 := (List.range 4).foldl State.fadeTick s1
    let s3 := (List.range 64).foldl State.lampStep s2
    { s3.put LMP.ST_FADING (s3.lmp.fading != []) with lmp.asked := [], lmp.sinceEdge := s3.lmp.sinceEdge.map (· + 100) }

def execLampTick (s : State) : Host.Outcome State Fault Refusal := done (if s.runs pLMP then s.lampTick else s)

/-! ### Synchronisation (R438, R439) -/

/-- The qualified edge reaches LMP. FREE VALUE (log 7): its place within the tick that is running. -/
def execLampSyncEdge (s : State) : Host.Outcome State Fault Refusal :=
  done (if s.runs pLMP then
      { (s.put LMP.ST_SYNC_LOST false).drew 1 with lmp.sinceEdge := some (s.freeVal 0 % 100) }
    else s)

/-- No edge for 100 ms while some string synchronises. -/
def execLampSyncLost (s : State) : Host.Outcome State Fault Refusal :=
  done (if s.runs pLMP && (List.range 4).any fun st => s.on (LMP.SYNC_EN st) then
      (s.put LMP.ST_SYNC_LOST true).raise LMP.INT_SYNC_LOST
    else s)

end Sys2Proof.Machine
end

