-- ==== Sys2Proof/Machine/Pca.lean ====
section
/-! DEFINITION. Point assembly and the codec (spec/09_point_records_and_compression.md): the columns, the checks of records and
markers, the frame-level records, the blocks, the coder, and the output buffer. -/
namespace Sys2Proof.Machine
open Sys2Proof

/-! ### Columns, records and markers (R247, R248) -/

/-- A shot as a marker names it (R178). -/
structure MarkerId where
  accession : Nat
  column : Nat
  rg : Nat

/-- The shot that a marker word names. -/
def markerId (w : DWord) : MarkerId := ⟨bits w.toNat 32 32, bits w.toNat 20 12, bits w.toNat 14 6⟩

/-- The shot of an engine's record: that of the engine's next marker in the queue, or the one in its hands. -/
def State.recordShot (s : State) (re : Nat) (rest : List Entry) : Option MarkerId :=
  match rest.find? fun e => e.marker && e.re = re with
  | some e => some (markerId e.word)
  | none => (s.engine re).current.map fun x => ⟨x.accession.toNat, x.column, x.rg⟩

/-- The column of a shot that is not closed yet. -/
def Column.of (c : Column) (m : MarkerId) : Bool :=
  !c.closed && c.shot.accession.toNat = m.accession && c.shot.column = m.column

/-- ROW and INDEX of a record as one number. -/
def recordKey (w : Nat) : Nat := bits w 51 11

/-- What PCA finds in a record. -/
inductive RecordCheck where
  | good | recBad | retractBad
  deriving DecidableEq, Repr

/-- The checks of R248. -/
def Column.check (c : Column) (m : MarkerId) (w : Nat) : RecordCheck :=
  let type := bits w 62 2
  let points := c.records.filter fun r => bits r.2.toNat 62 2 = 0 && recordKey r.2.toNat = recordKey w
  if 2 ≤ type || bits w 53 9 / 8 != m.rg then .recBad
  else if type = 0 then (if 5 ≤ bits w 48 3 || !points.isEmpty then .recBad else .good)
  else if bits w 0 32 != m.accession || bits w 32 12 != m.column || points.isEmpty || c.retracted.contains (recordKey w) then .retractBad
  else .good

/-- The record minor version of a generation's shots and frames (R28, R249, R250). -/
def State.recMinor (s : State) (gen : Word) : Nat := s.rdGen pPASM gen PASM.REC_MINOR_SEL

/-- COL_TAG as PCA writes it (R249). -/
def tagged (minor column w : Nat) : Nat :=
  if bits w 62 2 = 0 then w - w % 256 + (if minor = 1 then column % 256 else 0) else w

/-- A discarded record. -/
def State.recBad (s : State) : State := ((s.count PASM.REC_BAD 1).raise PASM.INT_REC_BAD).fault pPASM 0

/-- A record of a shot: checked, and added to its column. A record of a closed column is discarded (R247). -/
def State.takeRecord (s : State) (m : MarkerId) (w : Nat) : State :=
  match s.pca.columns.find? fun c => c.of m with
  | none => s
  | some c =>
    match c.check m w with
    | .recBad => s.recBad
    | .retractBad => (s.count PASM.RETRACT_BAD 1).raise PASM.INT_RETRACT_BAD
    | .good =>
      let c1 : Column := { c with
        records := c.records ++ [(m.rg, BitVec.ofNat 64 (tagged (s.recMinor c.shot.gen) m.column w))]
        retracted := if bits w 62 2 = 1 then c.retracted ++ [recordKey w] else c.retracted }
      { s with pca.columns := s.pca.columns.map fun d => if d.of m then c1 else d }

/-- PCA takes the entry at the front of a shelf queue, if it is a record. -/
def execRecordEntry (shelf : Fin 9) (s : State) : Host.Outcome State Fault Refusal :=
  done (if !s.runs pPASM then s
    else match s.queue shelf with
      | [] => s
      | e :: r =>
        if e.marker then s
        else
          let s1 := s.popEntry shelf
          match s.recordShot e.re (r ++ s.waitingAt shelf) with
          | some m => s1.takeRecord m e.word.toNat
          | none => s1.recBad)

/-- A marker for a row group; the column closes with the last one. -/
def Column.mark (c : Column) (rg outcome : Nat) : Column :=
  if c.markers.any fun m => m.1 = rg then c
  else { c with markers := c.markers ++ [(rg, outcome)], closed := 64 ≤ c.markers.length + 1 }

/-- PCA takes the entry at the front of a shelf queue, if it is a shot marker. -/
def execShotMarker (shelf : Fin 9) (s : State) : Host.Outcome State Fault Refusal :=
  done (if !s.runs pPASM then s
    else match s.queue shelf with
      | [] => s
      | e :: _ =>
        if !e.marker then s
        else
          let m := markerId e.word
          let s1 := s.popEntry shelf
          { s1 with pca.columns := s1.pca.columns.map fun c => if c.of m then c.mark m.rg (bits e.word.toNat 11 3) else c })

/-- The oldest open column closes without its missing markers: each missing row group has OUTCOME 3. -/
def Column.timeout (c : Column) : Column :=
  let missing := (List.range 64).filter fun g => !c.markers.any fun m => m.1 = g
  { c with markers := c.markers ++ missing.map fun g => (g, ocFault), closed := true }

/-- Apply to the first element that satisfies a test. -/
def mapFirst {α : Type} (p : α → Bool) (f : α → α) : List α → List α
  | [] => []
  | h :: t => if p h then f h :: t else h :: mapFirst p f t

def execMarkerTimeout (s : State) : Host.Outcome State Fault Refusal :=
  done (if !s.runs pPASM || s.pca.columns.all (·.closed) then s
    else
      let s1 : State := { s with pca.columns := mapFirst (fun c => !c.closed) Column.timeout s.pca.columns }
      ((s1.count PASM.MARKER_TMO 1).raise PASM.INT_MARKER_TMO).fault pPASM 1)

/-! ### The column's own records (R240, R241) -/

/-- Rows of a row group with TDC_INVALID, as a mask. -/
def Shot.invalidMask (sh : Shot) (g : Nat) : Nat :=
  ((List.range 8).map fun j => if sh.invalidRows.contains (8 * g + j) then 2 ^ j else 0).sum

/-- The exception records of a column, in ascending RG order. -/
def Column.exceptions (c : Column) : List Nat :=
  (List.range 64).filterMap fun g =>
    let oc := ((c.markers.find? fun m => m.1 = g).map (·.2)).getD ocFault
    let inv := c.shot.invalidMask g
    if oc = 0 && inv = 0 then none else some (3 * 2 ^ 62 + 2 ^ 58 + g * 2 ^ 52 + oc % 8 * 2 ^ 49 + inv * 2 ^ 41)

/-- Point records and retractions in ascending RG order, in each RG as they were emitted (R245). -/
def Column.words (c : Column) : List Nat :=
  (List.range 64).flatMap fun g => (c.records.filter fun r => r.1 = g).map (·.2.toNat)

/-- The column record. -/
def State.columnRecord (s : State) (c : Column) (nexc nrec : Nat) : Nat :=
  let sh := c.shot
  2 * 2 ^ 62 + sh.column % 4096 * 2 ^ 50 + (sh.fire.getD 5) % 8 * 2 ^ 47 + sh.derate % 8 * 2 ^ 44 + sh.pw % 16 * 2 ^ 40
    + b2n sh.noRef * 2 ^ 39 + nexc % 128 * 2 ^ 32 + (if s.recMinor sh.gen = 1 then sh.angle % 65536 * 2 ^ 16 else 0) + nrec % 8192

/-! ### The coder (R252, R253) -/

/-- A number in `w` bits, most significant first. -/
def msbBits : Nat → Nat → List Bool
  | 0, _ => []
  | w + 1, v => bit v w :: msbBits w v

/-- zigzag. -/
def zigzag (d : Int) : Nat := if 0 ≤ d then (2 * d).toNat else (-2 * d - 1).toNat

/-- Exp-Golomb order 0. -/
def expGolomb (z : Nat) : List Bool :=
  let n := Nat.log2 (z + 1)
  List.replicate n false ++ msbBits (n + 1) (z + 1)

/-- An adaptive Rice state. -/
structure Rice where
  a : Nat
  n : Nat
  kmax : Nat
  raw : Nat

/-- k of a Rice state. -/
def Rice.k (r : Rice) : Nat := ((List.range r.kmax).find? fun k => r.a ≤ r.n * 2 ^ k).getD r.kmax

/-- The code of u. -/
def Rice.code (r : Rice) (u : Nat) : List Bool :=
  let q := u / 2 ^ r.k
  if q < 24 then List.replicate q true ++ [false] ++ msbBits r.k u else List.replicate 24 true ++ msbBits r.raw u

/-- The state after u. -/
def Rice.after (r : Rice) (u : Nat) : Rice :=
  if r.n + 1 = 32 then { r with a := (r.a + u) / 2, n := 16 } else { r with a := r.a + u, n := r.n + 1 }

/-- The coder's state. -/
structure Coder where
  row : Nat := 0
  /-- CLASS and FLAGS of the previous point record. -/
  kind : Nat × Nat := (0, 0)
  last : List (Option (Nat × Nat)) := [none, none, none, none]
  any : Option (Nat × Nat) := none
  range : Rice := ⟨256, 1, 20, 21⟩
  intensity : Rice := ⟨16, 1, 8, 9⟩

/-- The bits of one record, and the state after it. -/
def Coder.record (c : Coder) (w : Nat) : List Bool × Coder :=
  let row := bits w 53 9
  let i := bits w 51 2
  if bits w 62 2 = 1 then (true :: msbBits 9 row ++ msbBits 2 i, c)
  else
    let kind := (bits w 48 3, bits w 40 8)
    let now := (bits w 8 20, bits w 28 8)
    let src := match c.last.getD i none with
      | some p => some p
      | none => c.any
    let pred := src.getD (0, 0)
    let ui := zigzag ((now.2 : Int) - pred.2)
    let ur := zigzag ((now.1 : Int) - pred.1)
    let same := decide (kind = c.kind)
    let out := [false] ++ expGolomb (zigzag ((row : Int) - c.row)) ++ msbBits 2 i ++ [same]
      ++ (if same then [] else msbBits 3 kind.1 ++ msbBits 8 kind.2) ++ msbBits 4 (bits w 36 4)
      ++ c.intensity.code ui ++ c.range.code ur
    (out, { row := row, kind := kind, last := c.last.set i (some now), any := some now
            range := c.range.after ur, intensity := c.intensity.after ui })

/-- The bit stream of a column's records. -/
def codeStream (ws : List Nat) : List Bool :=
  (ws.foldl (fun (acc : List Bool × Coder) w => (acc.1 ++ (acc.2.record w).1, (acc.2.record w).2)) ([], {})).1

/-- Bits packed from bit 63 downward into words, padded with zeros. -/
def packBits : Nat → List Bool → List Nat
  | 0, _ => []
  | n + 1, bs =>
    if bs.isEmpty then []
    else (List.range 64).foldl (fun v i => 2 * v + b2n (bs.getD i false)) 0 :: packBits n (bs.drop 64)

/-! ### Blocks (R251) -/

/-- CHECK over a raw payload. -/
def blockCheck (raw : List Nat) : Nat := ofLeBytes (shake256 (raw.flatMap (leBytes 8)) 2)

/-- A block's header. -/
def blockHeader (mode column nrec words : Nat) (raw : List Nat) : Nat :=
  mode * 2 ^ 62 + column % 4096 * 2 ^ 50 + nrec % 8192 * 2 ^ 37 + words % 65536 * 2 ^ 16 + blockCheck raw

/-! ### The decoder (R258): every function answers none where the block must be rejected -/

/-- The number that bits spell, most significant first. -/
def ofMsb (bs : List Bool) : Nat := bs.foldl (fun v b => 2 * v + b2n b) 0

/-- The next `n` bits of a stream. -/
def takeBits (n : Nat) (bs : List Bool) : Option (Nat × List Bool) :=
  if bs.length < n then none else some (ofMsb (bs.take n), bs.drop n)

/-- The inverse of zigzag. -/
def unzigzag (u : Nat) : Int := if u % 2 = 0 then ((u / 2 : Nat) : Int) else -((u / 2 : Nat) : Int) - 1

/-- An Exp-Golomb code, of at most 9 leading zeros. -/
def expGolombRead (bs : List Bool) : Option (Nat × List Bool) :=
  let n := (bs.takeWhile fun b => !b).length
  if 9 < n then none else (takeBits (n + 1) (bs.drop n)).map fun r => (r.1 - 1, r.2)

/-- A Rice code under a state: 24 one bits escape to raw bits. -/
def Rice.read (r : Rice) (bs : List Bool) : Option (Nat × List Bool) :=
  let q := ((bs.take 24).takeWhile id).length
  if q = 24 then takeBits r.raw (bs.drop 24)
  else if bs.length ≤ q then none
  else (takeBits r.k (bs.drop (q + 1))).map fun x => (q * 2 ^ r.k + x.1, x.2)

/-- What a decoder knows of the block's frame: its accession number and record minor, and the block's column. -/
structure BlockOf where
  accession : Nat
  minor : Nat
  column : Nat

/-- One record from the stream: the word, the decoder's state after it, and the rest of the stream. -/
def Coder.read (c : Coder) (b : BlockOf) (bs : List Bool) : Option (Nat × Coder × List Bool) := do
  let (kind, bs) ← takeBits 1 bs
  if kind = 1 then
    let (row, bs) ← takeBits 9 bs
    let (i, bs) ← takeBits 2 bs
    return (2 ^ 62 + row * 2 ^ 53 + i * 2 ^ 51 + b.column % 4096 * 2 ^ 32 + b.accession, c, bs)
  else
    let (dz, bs) ← expGolombRead bs
    let row := (c.row : Int) + unzigzag dz
    let (i, bs) ← takeBits 2 bs
    let (same, bs) ← takeBits 1 bs
    let (kf, bs) ← if same = 1 then some (c.kind.1 * 256 + c.kind.2, bs) else takeBits 11 bs
    let (quality, bs) ← takeBits 4 bs
    let src := match c.last.getD i none with
      | some p => some p
      | none => c.any
    let (ui, bs) ← c.intensity.read bs
    let (ur, bs) ← c.range.read bs
    let intensity := ((src.getD (0, 0)).2 : Int) + unzigzag ui
    let range := ((src.getD (0, 0)).1 : Int) + unzigzag ur
    if row < 0 || 511 < row || 5 ≤ kf / 256 || range < 0 || 1048575 < range || intensity < 0 || 255 < intensity then none
    else
      let now := (range.toNat, intensity.toNat)
      let tag := if b.minor = 1 then b.column % 256 else 0
      return (row.toNat * 2 ^ 53 + i * 2 ^ 51 + kf / 256 * 2 ^ 48 + kf % 256 * 2 ^ 40 + quality * 2 ^ 36 + intensity.toNat * 2 ^ 28
          + range.toNat * 2 ^ 8 + tag,
        { row := row.toNat, kind := (kf / 256, kf % 256), last := c.last.set i (some now), any := some now
          range := c.range.after ur, intensity := c.intensity.after ui }, bs)

/-- `n` records, at which a decoder stops; what is left must be padding: at most 63 bits, all zero. -/
def readRecords (b : BlockOf) : Nat → Coder → List Bool → Option (List Nat)
  | 0, _, bs => if bs.length ≤ 63 && bs.all (fun x => !x) then some [] else none
  | n + 1, c, bs => do
    let (w, c', rest) ← c.read b bs
    let ws ← readRecords b n c' rest
    return w :: ws

/-- A decoder's output for a block of a frame: its raw payload, or none for a block that it must reject. -/
def decodeBlock (accession minor : Nat) (block : List Nat) : Option (List Nat) :=
  match block with
  | [] => none
  | h :: payload =>
    let nrec := bits h 37 13
    let words := bits h 16 16
    let head := payload.headD 0
    let nexc := bits head 32 7
    let columnOk := bits head 50 12 = bits h 50 12 && nexc ≤ 64 && bits head 0 13 = nrec
    let checked := fun (raw : List Nat) => if blockCheck raw = bits h 0 16 then some raw else none
    if payload.length != words then none
    else match bits h 62 2 with
      | 2 => if words = nrec then checked payload else none
      | 0 => if columnOk && words = 1 + nexc + nrec then checked payload else none
      | 1 =>
        if !columnOk || 1 + nexc + nrec ≤ words || words < 1 + nexc then none
        else
          let stream := (payload.drop (1 + nexc)).flatMap (msbBits 64)
          match readRecords ⟨accession, minor, bits h 50 12⟩ nrec {} stream with
          | some recs => checked (payload.take (1 + nexc) ++ recs)
          | none => none
      | _ => none

/-! ### The output buffer (R259) -/

/-- Bytes held in the output buffer. -/
def PcaState.held (p : PcaState) : Nat := 8 * (p.out.map (·.length)).sum

/-- OUT_FILL of the buffer's bytes (R259). -/
def outFill (bytes : Nat) : Nat := min 16 (16 * bytes / 2097152)

/-- The figures of the buffer, reported to ACQ (R166). -/
def State.showOut (s : State) : State :=
  let b := s.pca.held
  let s1 := (s.wr PCOD.OUT_FILL (outFill b)).wr PCOD.OUT_USED (b / 1024)
  { s1 with acq.peakFill := max s1.acq.peakFill (outFill b) }

/-- The buffer holds 2 MiB: whether a block of some words still fits. -/
def State.fits (s : State) (words : Nat) : Bool := decide (s.pca.held + 8 * words ≤ 2097152)

/-- A block enters the buffer. -/
def State.pushBlock (s : State) (rawWords : Nat) (block : List Nat) : State :=
  State.showOut { s with
    pca.out := s.pca.out ++ [block.map (BitVec.ofNat 64)]
    pca.bytesRaw := s.pca.bytesRaw + 8 * (1 + rawWords), pca.bytesSent := s.pca.bytesSent + 8 * block.length }

/-- A FRAME block. -/
def State.pushFrame (s : State) (ws : List Nat) : State :=
  s.pushBlock ws.length (blockHeader 2 0xFFF ws.length ws.length ws :: ws)

/-! ### Column blocks (R254 to R256) -/

/-- A VERIFY return (R256). -/
def State.verifyFailed (s : State) : State :=
  let s1 := ((s.count PCOD.VFAIL_TOTAL 1).raise PCOD.INT_VFAIL).fault pPCOD 0
  { s1 with acq.vfail := s1.acq.vfail + 1 }

/-- A block with some of its bits turned, as an error in the codec's circuits leaves them. -/
def flipBits (flips : List Nat) (block : List Nat) : List Nat :=
  block.zipIdx.map fun e => (List.range 64).foldl (fun w i => if flips.contains (64 * e.2 + i) then w ^^^ 2 ^ i else w) e.1

/-- The verifier's verdict on a coded block (R255): it decodes to the encoder's input. -/
def verifies (accession minor : Nat) (block raw : List Nat) : Bool := decodeBlock accession minor block = some raw

/-- A column's records in raw form. -/
def State.rawPayload (s : State) (c : Column) : List Nat :=
  s.columnRecord c c.exceptions.length c.words.length :: c.exceptions ++ c.words

/-- The encoder's block of a column (R252), none where it returns OVERSIZE: its bits have reached 64 × NREC (R255). -/
def State.codedBlock (s : State) (c : Column) : Option (List Nat) :=
  let recs := c.words
  let stream := codeStream recs
  if 64 * recs.length ≤ stream.length then none
  else
    let payload := s.columnRecord c c.exceptions.length recs.length :: c.exceptions ++ packBits (stream.length / 64 + 1) stream
    some (blockHeader 1 c.shot.column recs.length payload.length (s.rawPayload c) :: payload)

/-- The RAW block of a column. -/
def State.rawBlock (s : State) (c : Column) : List Nat :=
  blockHeader 0 c.shot.column c.words.length (s.rawPayload c).length (s.rawPayload c) :: s.rawPayload c

/-- The block in which a column leaves, and the codec's returns on the way: coded where CODEC_EN is 1 in the shot's generation, the
encoder completes, the block verifies and is smaller; raw otherwise (R254). `flips` are bits of the block that an error turns
between the encoder and the verifier, which then sees the block so. -/
def State.columnBlock (s : State) (c : Column) (flips : List Nat) : State × List Nat :=
  if s.rdGen pPCOD c.shot.gen PCOD.CODEC_EN = 0 then (s, s.rawBlock c)
  else match s.codedBlock c with
    | none => ({ s with pca.oversize := s.pca.oversize + 1 }, s.rawBlock c)
    | some block =>
      if !verifies c.shot.accession.toNat (s.recMinor c.shot.gen) (flipBits flips block) (s.rawPayload c) then (s.verifyFailed, s.rawBlock c)
      else (s, if block.length < (s.rawBlock c).length then block else s.rawBlock c)

/-- A column's block enters the buffer, and its records count. -/
def State.pushColumn (s : State) (c : Column) (flips : List Nat) : State :=
  let r := s.columnBlock c flips
  let pts := (c.words.filter fun w => bits w 62 2 = 0).length
  let s1 : State := { r.1 with pca.npoints := r.1.pca.npoints + pts, pca.nretract := r.1.pca.nretract + (c.words.length - pts) }
  s1.pushBlock (s.rawPayload c).length r.2

/-- A frame withheld at level 5 (R166). -/
def withheld (level accession : Nat) : Bool := level = 5 && accession % 2 = 1

/-- The frame in output: the oldest closed one, or the one in acquisition unless a reset has cut it (R56). -/
def State.outFrame (s : State) : Option Frame :=
  match s.pca.frames with
  | f :: _ => some f
  | [] => s.acq.frame.filter fun f => !f.cut

/-! ### Frame-level records (R242 to R245) -/

/-- The frame-head record. -/
def State.headRecord (s : State) (f : Frame) : Nat :=
  3 * 2 ^ 62 + s.rd PASM.REC_MAJOR % 16 * 2 ^ 54 + s.recMinor f.gen % 16 * 2 ^ 50 + f.ncol % 4096 * 2 ^ 32 + f.accession.toNat

/-- The frame-head block of the frame that comes into output; one that the buffer cannot hold waits (R259). -/
def State.pushHead (s : State) : State :=
  if s.pca.headSent || !s.runs pPASM || !s.runs pPCOD || !s.fits 2 then s
  else
    match s.outFrame with
    | some f => { s.pushFrame [s.headRecord f] with pca.headSent := true }
    | none => s

/-- The block of the oldest closed column of the frame in output; an undelivered column leaves without one (R246). A block that
the buffer cannot hold waits (R259). -/
def execBlockOutput (flips : List Nat) (s0 : State) : Host.Outcome State Fault Refusal :=
  let s := s0.pushHead
  done (match s.pca.columns with
    | [] => s
    | c :: r =>
      if !s.runs pPASM || !s.runs pPCOD || !c.closed || !s.pca.headSent || s.outFrame.map (·.accession) != some c.shot.accession then s
      else if c.shot.trunc || withheld c.shot.rrLevel c.shot.accession.toNat then { s with pca.columns := r }
      else if s.fits (s.columnBlock c flips).2.length then State.pushColumn { s with pca.columns := r } c flips
      else s)

/-- Eight bytes as a word, byte 0 lowest. -/
def packBytes (l : List Nat) : Nat := ofLeBytes (l.map (BitVec.ofNat 8))

/-- LAST_COLUMN of a frame: NCOL − 1 for one that is not truncated, withheld or not (R246); else the last column delivered, 0xFFF
where there is none (R168, R243; log 24). -/
def Frame.lastColumn (f : Frame) : Nat :=
  if !f.truncated then f.ncol - 1
  else if withheld f.rrLevel f.accession.toNat || f.firstTrunc = 0 then 0xFFF
  else f.firstTrunc - 1

/-- TJ_MAX: whole °C rounded down, + 64, of a reading in 1/16 °C; 0 where none has been taken. -/
def tjField (t : Option Int) : Nat :=
  match t with
  | some v => (clampI (v / 16 + 64) 0 255).toNat
  | none => 0

/-- The ledger record of a frame. -/
def Frame.ledger (f : Frame) (npoints nretract : Nat) : List Nat :=
  let rwl := (f.rwl.take 32).map fun e => (e.1 - 0x40000000) * 2 ^ 40 + e.2 % 2 ^ 32
  let nwords := 17 + rwl.length
  let w0 := 3 * 2 ^ 62 + 0xF * 2 ^ 58 + nwords * 2 ^ 52 + f.accession.toNat
  let w1 := f.gen.toNat * 2 ^ 32 + f.calSet % 65536 * 2 ^ 16 + f.safety % 8 * 2 ^ 13 + f.rrLevel % 8 * 2 ^ 10
    + b2n (withheld f.rrLevel f.accession.toNat) * 2 ^ 9 + b2n f.truncated * 2 ^ 8 + b2n f.fallback * 2 ^ 7 + b2n f.trimChanged * 2 ^ 6
    + f.derateMax % 8 * 2 ^ 3 + b2n f.derateChanged * 2 ^ 2
  let w2 := f.cause % 16 * 2 ^ 60 + f.src % 4 * 2 ^ 58 + f.lastColumn * 2 ^ 46 + f.reduce % 8 * 2 ^ 43 + f.throttleMax % 8 * 2 ^ 40
    + b2n f.nvsBlocked * 2 ^ 39 + tjField f.tjMax * 2 ^ 31 + b2n (decide (32 < f.rwl.length)) * 2 ^ 30 + f.unfired % 4096 * 2 ^ 18
    + f.noref % 4096 * 2 ^ 6
  let engines := (List.range 8).map fun i => packBytes ((List.range 8).map fun j => f.engineMap.getD (8 * i + j) 0)
  let channels := (List.range 4).map fun i =>
    ((List.range 4).map fun j => f.channelMap.getD (4 * i + j) 0 % 65536 * 2 ^ (16 * j)).sum
  [w0, w1, w2, f.stamp % 2 ^ 64] ++ engines ++ channels ++ rwl ++ [npoints % 2 ^ 32 * 2 ^ 32 + nretract % 2 ^ 32]

/-- The figures of the last closed frame show (R261, R262). -/
def State.showFrame (s : State) : State :=
  let p := s.pca
  let s1 := (s.wr PASM.NPOINTS_LAST p.npoints).wr PASM.NRETRACT_LAST p.nretract
  ((s1.wr PCOD.OVERSIZE_LAST (min 65535 p.oversize)).wr PCOD.BYTES_RAW_LAST p.bytesRaw).wr PCOD.BYTES_SENT_LAST p.bytesSent

/-- PCA has done with the frame in output: nothing is counted of the next one. -/
def PcaState.nextFrame (p : PcaState) : PcaState :=
  { p with headSent := false, npoints := 0, nretract := 0, oversize := 0, bytesRaw := 0, bytesSent := 0 }

/-- The ledger record of the oldest closed frame enters the buffer once every other record of the frame has (R244), and the next
frame comes into output. The folios that held the old generation apply before the next frame's head is written (R50 step 7). -/
def State.ledgerOutput (s0 : State) : State :=
  let s := s0.pushHead
  match s.pca.frames with
  | [] => s
  | f :: r =>
    let record := f.ledger s.pca.npoints s.pca.nretract
    if !s.runs pPASM || !s.runs pPCOD || !s.pca.headSent || (s.pca.columns.any fun c => c.shot.accession = f.accession)
      || !s.fits (record.length + 1) then s
    else
      let s1 := (s.pushFrame record).showFrame
      State.pushHead (State.retireOld { s1 with pca := { s1.pca.nextFrame with frames := r } })

end Sys2Proof.Machine
end

