-- ==== Sys2Proof/Machine/Link.lean ====
section
/-! DEFINITION. Yomos Link (spec/10_serial_link.md): blocks, the lanes' states, training, the bundle, credits, acknowledgement
and replay, and what the device sends. Lanes 0 to 3 are L0 to L3, 4 and 5 are C0 and C1; path 0 is the bundle, 1 is C0,
2 is C1. -/
namespace Sys2Proof.Machine
open Sys2Proof

/-! ### Control blocks (R271) -/

/-- A control block's payload. -/
def controlBlock (btype content : Nat) : DWord :=
  let v := btype + content % 2 ^ 48 * 2 ^ 8
  BitVec.ofNat 64 (v + crc8Block v * 2 ^ 56)

def btMarker : Nat := 0x1B
def btAck : Nat := 0x55
def btNak : Nat := 0x5A
def btCaps : Nat := 0x66
def btTrain : Nat := 0x72
def btTsReq : Nat := 0x93

/-- The device sends control blocks. A field's place in the content is its place in the block less 8. -/
def State.send (s : State) (l : List (Nat × DWord)) : State := { s with lnk.sent := l }

/-! ### Lanes (R264, R288, R295) -/

def lsDown : Nat := 0
def lsLock : Nat := 1
def lsCaps : Nat := 2
def lsTrain : Nat := 3
def lsDeskew : Nat := 4
def lsActive : Nat := 5
def lsRemoved : Nat := 6

def isData (l : Nat) : Bool := l < 4
def dataLanes : List Nat := [0, 1, 2, 3]
def State.laneState (s : State) (l : Nat) : Nat := s.rd (LANE.STATE l)
def State.laneRate (s : State) (l : Nat) : Nat := s.rd (LANE.RATE l)

/-- The version that the data lanes run under: the one agreed on C0, and the bundle's own while it is not DOWN (R290, R295). -/
def State.version (s : State) : Nat := if s.lnk.bundleDown then s.rd (CTL.C_VERSION 0) else s.rd L0.B_VERSION

/-- The version that a lane runs under. -/
def State.laneVersion (s : State) (l : Nat) : Nat := if isData l then s.version else s.rd (CTL.C_VERSION (l - 4))

/-- PAIR_OK. -/
def State.showPair (s : State) : State := s.put (LANE.ST_PAIR_OK 5) (s.lnk.pairSeen && s.lnk.pairMeasured)

/-- A lane runs training windows: in TRAIN, or out of the stripe in REMOVED (R288, R297). -/
def State.training (s : State) (l : Nat) : Bool :=
  s.laneState l = lsTrain || (s.laneState l = lsRemoved && (s.lane l).retraining)

/-- The highest rate code of a version (R295). -/
def versionRate (data : Bool) (v : Nat) : Nat :=
  if data then (if v = 1 then 1 else if v = 2 then 3 else 4) else if v = 1 then 0 else if v = 2 then 1 else 2

/-- The highest rate code that both ends and the version allow. -/
def State.topRate (s : State) (l : Nat) : Nat :=
  let partner := match (s.lane l).caps with
    | some c => bits c.toNat 4 3
    | none => 0
  min (min (s.rd (LANE.RATE_MAX l)) partner) (versionRate (isData l) (s.laneVersion l))

/-- What a lane's entry to ACTIVE brings: MSG_SEQ counts from 0 at each bring-up of C0 (R301). -/
def State.laneUp (s : State) (l : Nat) : State :=
  let s1 := s.raise (LANE.INT_UP l)
  if l = 4 && (s.lane l).comingUp then { s1 with lnk.msgSeq := 0 } else s1

/-- What a lane's leaving ACTIVE brings: its eye reading is no longer valid (R381), and no PAIR packets arrive on C1 (R303). -/
def State.laneLeft (s : State) (l : Nat) : State :=
  let s1 := (s.raise (LANE.INT_DOWN l)).put (CAL.EYE_VALID l) false
  if l = 5 then State.showPair { s1 with lnk.pairSeen := false } else s1

/-- A lane enters a state; entering and leaving ACTIVE shows (R309). -/
def State.setLaneState (s : State) (l st : Nat) : State :=
  let old := s.laneState l
  let s1 := (s.wr (LANE.STATE l) st).put (LANE.ST_LANE_ACTIVE l) (st = lsActive)
  if st = lsActive && old != lsActive then s1.laneUp l
  else if old = lsActive && st != lsActive then s1.laneLeft l
  else s1

/-- A lane may come up: enabled under a CLKSEL other than 0b10 (R465), and for a data lane C0's version agreed and the lane part
of it (R290, R295). -/
def State.mayComeUp (s : State) (l : Nat) : Bool :=
  s.rd RST.CLKSEL != 2 && s.runs (pLane l) && s.on (LANE.ENABLE l) && (!isData l || (s.version != 0 && (s.version != 1 || l = 0)))

/-- A lane goes to DOWN. -/
def State.laneDown (s : State) (l : Nat) : State :=
  let s1 := ((s.setLaneState l lsDown).setLane l {}).wr (LANE.RATE l) 0
  if isData l then s1
  else (((s1.put (LANE.ALIGNED l) false).put (LANE.ST_ALIGNED l) false).put (LANE.CDR_LOCK l) false).wr (LANE.SLIPS l) 0

/-! ### Training windows (R291, R292, R306) -/

/-- A lane's RWL fields but ENABLE take effect at the start of a training window. DEDUCED (log 46): a new PRE or POST takes both
coefficients in force back to PRE and POST, whose sum R267 has checked. -/
def State.windowFields (s : State) (l : Nat) : State :=
  let taps := s.rdS (LANE.PRE l) != s.rd (LANE.PRE l) || s.rdS (LANE.POST l) != s.rd (LANE.POST l)
  let s1 := s.applyLiveOf ((fieldsOf (pLane l) .rwl).filter fun f => f.key != (LANE.ENABLE l).key)
  if taps then (s1.wr (LANE.PRE_IN_FORCE l) (s1.rd (LANE.PRE l))).wr (LANE.POST_IN_FORCE l) (s1.rd (LANE.POST l)) else s1

/-- A coefficient after a request, 1 to increase and 2 to decrease it; none where the request asks for nothing or leaves 0 to
`most` (R267, R292). -/
def stepped (v req most : Nat) : Option Nat :=
  if req = 1 && v < most then some (v + 1) else if req = 2 && 0 < v then some (v - 1) else none

/-- One of the partner's requests acts if it stays within the limits of R267 and fewer than 32 have been honoured at this rate. -/
def State.equaliseTap (s : State) (l : Nat) (tap other : Fld) (req most : Nat) : State :=
  match stepped (s.rd tap) req most with
  | some v =>
    if v + s.rd other ≤ 32 && (s.lane l).eqReqs < 32 then (s.wr tap v).setLane l { s.lane l with eqReqs := (s.lane l).eqReqs + 1 } else s
  | none => s

/-- The partner's requests act, each by itself. -/
def State.equalise (s : State) (l : Nat) : State :=
  let x := s.lane l
  let s1 := s.equaliseTap l (LANE.PRE_IN_FORCE l) (LANE.POST_IN_FORCE l) x.preReq 16
  s1.equaliseTap l (LANE.POST_IN_FORCE l) (LANE.PRE_IN_FORCE l) x.postReq 24

/-- A new training window starts. -/
def State.startWindow (s : State) (l : Nat) : State :=
  let s1 := s.windowFields l
  s1.setLane l { s1.lane l with windowErrs := 0, partnerPass := none, ended := false, preReq := 0, postReq := 0 }

/-- A lane takes a rate code and locks again. A control lane repeats the bit-slip search (R291, R294). -/
def State.takeRate (s : State) (l r : Nat) : State :=
  let x := s.lane l
  let s1 := State.startWindow ((s.wr (LANE.RATE l) r).setLane l { x with
    locked := false, passed := false, fails := 0, eqReqs := 0, relock := !isData l }) l
  if isData l then s1
  else ((((s1.put (LANE.ALIGNED l) false).put (LANE.ST_ALIGNED l) false).put (LANE.CDR_LOCK l) false).wr (LANE.SLIPS l) 0).setLaneState l lsLock

/-- A lane begins to train at a rate in force: a retrain (R296, R297). A lane out of the stripe reads REMOVED meanwhile. -/
def State.retrainLane (s : State) (l st rate : Nat) : State :=
  let x := s.lane l
  let s1 := (((s.wr (LANE.RATE l) rate).setLaneState l st).raise (LANE.INT_RETRAIN l)).count (LANE.RETRAINS l) 1
  State.startWindow (s1.setLane l { x with
    leaving := false, retraining := true, passed := false, fails := 0, eqReqs := 0, errs125 := 0, markers := 0 }) l

/-! ### The bundle (R278, R279, R293, R296) -/

/-- Lanes in a state. -/
def State.lanesIn (s : State) (st : Nat) : List Nat := dataLanes.filter fun l => s.laneState l = st

/-- A set of lanes as a mask. -/
def laneMask (l : List Nat) : Nat := (l.map (2 ^ ·)).sum

/-- UP and the stripe of the bundle, with ACTIVE. -/
def State.setBundle (s : State) (up : Bool) (active : List Nat) : State :=
  { ((s.put L0.B_UP up).put (LANE.ST_BUNDLE_UP 0) up).wr L0.B_ACTIVE (laneMask active) with lnk.stripe := active }

/-- Credits available: (LIMIT - CONSUMED) modulo 2^24 (R281). -/
def State.showCredit (s : State) : State :=
  (s.wr L0.CREDIT_PTS (s.lnk.limitPts - s.lnk.usedPts).toNat).wr L0.CREDIT_RAW (s.lnk.limitRaw - s.lnk.usedRaw).toNat

/-- SEQ_NEXT and SEQ_ACKED of the bundle. -/
def State.showSeq (s : State) : State := (s.wr L0.SEQ_NEXT (s.path 0).seqNext).wr L0.SEQ_ACKED (s.path 0).seqAcked

/-- The bundle goes DOWN: credits, SEQ and the replay buffer restart (R282, R296). -/
def State.bundleDown (s : State) : State :=
  let s1 := dataLanes.foldl (fun s l => if s.laneState l = lsRemoved then s else s.laneDown l) s
  let k : LinkState := { s1.lnk with bundleDown := true, limitPts := 0, limitRaw := 0, usedPts := 0, usedRaw := 0 }
  State.showSeq (State.showCredit (((State.setPath { s1 with lnk := k } 0 {}).setBundle false []).wr L0.B_VERSION 0))

/-- No data lane is left to carry traffic: the bundle goes DOWN, and its lanes come up again (R296). -/
def State.noneLeft (s : State) : State :=
  if dataLanes.all fun l => s.laneState l < lsTrain || s.laneState l = lsRemoved then
    (dataLanes.foldl (fun s l => s.laneDown l) s).bundleDown
  else s

/-- A bundle retrain (R296): every data lane of the bundle not in REMOVED trains at the bundle rate, one with ENABLE clear goes to
DOWN (R306); traffic stops. -/
def State.retrainBundle (s : State) : State :=
  let ls := dataLanes.filter fun l => lsTrain ≤ s.laneState l && s.laneState l ≤ lsActive
  let one := fun (s : State) l => if s.on (LANE.ENABLE l) then s.retrainLane l lsTrain (s.rd L0.B_RATE) else s.laneDown l
  let s1 := (ls.foldl one s).setBundle false []
  if s.lnk.bundleDown then s1 else s1.noneLeft

/-- A cause of R297 in a data lane: under version 3 it leaves the stripe at the next marker, else the bundle retrains. -/
def State.leaveStripe (s : State) (l : Nat) : State :=
  if s.laneState l != lsActive then s
  else if s.version = 3 then s.setLane l { s.lane l with leaving := true }
  else s.retrainBundle

/-- A data lane has trained: it carries IDLE and markers until it is striped; under version 1, which has no markers, the bundle is
up at once (R293, R295). -/
def State.deskew (s : State) (l : Nat) : State :=
  let s1 := (s.setLaneState l lsDeskew).setLane l { s.lane l with
    markers := 0, passed := false, ended := false, retraining := false, fails := 0 }
  if s.version = 1 then State.setBundle { s1.setLaneState l lsActive with lnk.bundleDown := false } true [l] else s1

/-- The data lanes that step together: in training, not at the rate in force. -/
def State.stepping (s : State) : List Nat := (s.lanesIn lsTrain).filter fun l => !(s.lane l).retraining

/-- Every stepping lane has passed at one rate: they take the next one, or it becomes the bundle rate (R293). -/
def State.stepTogether (s : State) : State :=
  let ls := s.stepping
  let r := (ls.map s.laneRate).foldl max 0
  if ls.isEmpty || !(ls.all fun l => (s.lane l).passed && s.laneRate l = r) then s
  else if ls.all fun l => r + 1 ≤ s.topRate l then ls.foldl (fun s l => s.takeRate l (r + 1)) s
  else ls.foldl State.deskew (s.wr L0.B_RATE r)

/-- Every lane has failed at a rate: all return to the rate before it, which becomes the bundle rate (R293). -/
def State.allFailed (s : State) (r : Nat) : State :=
  if !s.stepping.isEmpty || !s.lnk.bundleDown then s
  else
    let ls := (s.lanesIn lsRemoved).filter fun l => s.laneRate l = r
    ls.foldl (fun s l => (s.wr (LANE.RATE l) (r - 1)).deskew l) (s.wr L0.B_RATE (r - 1))

/-- The bundle rate is fixed: the bundle is not DOWN, or the lanes of its bring-up carry markers already. -/
def State.rated (s : State) : Bool := !s.lnk.bundleDown || s.lanesIn lsDeskew != []

/-- A data lane passes its window. A lane that comes up beside a bundle whose rate is fixed steps up to that rate by itself; DESIGN
CHOICE (log 46): where its limits end below it, it stays out of the stripe. -/
def State.dataPassed (s : State) (l : Nat) : State :=
  let x := s.lane l
  let r := s.laneRate l
  let ahead := (dataLanes.filter fun m => m != l && lsTrain ≤ s.laneState m && s.laneState m ≤ lsActive).map s.laneRate
  let top := ahead.foldl max 0
  if x.retraining then s.deskew l
  else if s.rated then
    if s.rd L0.B_RATE ≤ r then s.deskew l
    else if r + 1 ≤ s.topRate l then s.takeRate l (r + 1)
    else s.setLaneState l lsRemoved
  else if r < top && r + 1 ≤ s.topRate l then s.takeRate l (r + 1)
  else State.stepTogether (s.setLane l { x with passed := true })

/-- A data lane has left the training or the bundle: the bundle goes DOWN with its last lane (R282, R296), and the lanes that wait
for the others step on (R293). -/
def State.laneGone (s : State) : State := (if s.lnk.bundleDown then s else s.noneLeft).stepTogether

/-- A data lane fails its window twice. -/
def State.dataFailed (s : State) (l : Nat) : State :=
  let x := s.lane l
  let r := s.laneRate l
  if x.retraining || !s.lnk.bundleDown then
    State.noneLeft ((s.setLaneState l lsRemoved).setLane l { x with locked := false, retraining := false, ended := false, fails := 0 })
  else if r = 0 then State.laneGone ((s.laneDown l).fault (pLane l) 0)
  else
    let s1 := (s.setLaneState l lsRemoved).setLane l { x with ended := false, fails := 0 }
    (s1.allFailed r).stepTogether

/-- A control lane passes: the next rate, or it carries traffic. -/
def State.controlPassed (s : State) (l : Nat) : State :=
  let x := s.lane l
  let r := s.laneRate l
  if !x.retraining && !x.final && r + 1 ≤ s.topRate l then s.takeRate l (r + 1)
  else
    let s1 := s.setLaneState l lsActive
    s1.setLane l { s1.lane l with retraining := false, final := false, ended := false, comingUp := false, fails := 0 }

/-- A control lane fails twice: one rate back, its final one; at code 0 the training has failed. -/
def State.controlFailed (s : State) (l : Nat) : State :=
  let r := s.laneRate l
  if r = 0 then (s.laneDown l).fault (pLane l) 0
  else
    let s1 := s.takeRate l (r - 1)
    s1.setLane l { s1.lane l with final := true, retraining := false }

/-- Both ends have passed the window. -/
def State.windowPassed (s : State) (l : Nat) : State := if isData l then s.dataPassed l else s.controlPassed l

/-- The window has failed: it is repeated once. -/
def State.windowFailed (s : State) (l : Nat) : State :=
  let x := s.lane l
  if x.fails = 0 then State.startWindow (s.setLane l { x with fails := 1 }) l
  else if isData l then s.dataFailed l else s.controlFailed l

/-- A training window ends: the device sends its result; equalisation requests that it honours restart the pass. DESIGN CHOICE (log
46): an end that has passed waits for its partner's result as long as a further window lasts, and takes none as a failed window. -/
def execTrainWindowEnd (lane : Fin 6) (s : State) : Host.Outcome State Fault Refusal :=
  let l : Nat := lane
  let x := s.lane l
  let own := x.locked && x.windowErrs = 0
  done (if !s.runs (pLane l) || !s.training l then s
    else
      let s1 := s.send [(l, controlBlock btTrain (s.laneRate l + 8 * b2n own))]
      let s2 := if s.on (LANE.EQ_ACCEPT l) && s.laneVersion l = 3 then s1.equalise l else s1
      if (s2.lane l).eqReqs != x.eqReqs then State.startWindow (s2.setLane l { s2.lane l with fails := 0 }) l
      else if own && x.partnerPass = some true then s1.windowPassed l
      else if own && !x.ended then s1.setLane l { x with ended := true }
      else s1.windowFailed l)

/-- A TRAIN block of the partner at the lane's rate. Once the device's own window has ended it gives the partner's result. -/
def execTrainReceived (lane : Fin 6) (rate : BitVec 3) (pass : Bool) (preReq postReq : BitVec 2) (s : State) :
    Host.Outcome State Fault Refusal :=
  let l : Nat := lane
  let x := s.lane l
  let own := x.locked && x.windowErrs = 0
  done (if !s.runs (pLane l) || !s.training l || rate.toNat != s.laneRate l then s
    else if x.ended then (if pass && own then s.windowPassed l else s.windowFailed l)
    else s.setLane l { x with partnerPass := some pass, preReq := preReq.toNat, postReq := postReq.toNat })

/-! ### Block lock and capabilities (R270, R288 to R290, R294) -/

/-- A lane holds block lock: bring-up goes on with the capabilities, a lane in training goes on training. DEDUCED (log 46): a data
lane searches for block lock in DOWN, and the lock takes it through LOCK to CAPS in one step. -/
def State.laneLocked (s : State) (l : Nat) : State :=
  let x := s.lane l
  let st := s.laneState l
  let s1 := s.setLane l { x with locked := true, relock := false }
  if x.relock then s1.setLaneState l lsTrain
  else if st = lsDown || st = lsLock then
    State.setLaneState (s1.setLane l { ({} : LaneState) with locked := true }) l lsCaps
  else s1

def execBlockLockGained (lane : Fin 6) (s : State) : Host.Outcome State Fault Refusal :=
  let l : Nat := lane
  done (if !s.mayComeUp l || (!isData l && !s.on (LANE.ALIGNED l)) then s else s.laneLocked l)

/-- A lane loses block lock: a control lane returns to LOCK with ALIGNED cleared, an active data lane leaves the stripe, one in
bring-up searches again. -/
def State.lockLost (s : State) (l : Nat) : State :=
  let x := s.lane l
  let st := s.laneState l
  let s1 := s.setLane l { x with locked := false, windowErrs := x.windowErrs + 1 }
  if !isData l then
    let s2 := ((s1.put (LANE.ALIGNED l) false).put (LANE.ST_ALIGNED l) false).wr (LANE.SLIPS l) 0
    if st = lsDown then s2
    else (s2.setLane l { s2.lane l with relock := st = lsTrain || x.relock }).setLaneState l lsLock
  else if st = lsActive then s1.leaveStripe l
  else if st = lsCaps then s1.setLaneState l lsLock
  else if st = lsDeskew then s1.retrainLane l (if s.on L0.B_UP then lsRemoved else lsTrain) (s.rd L0.B_RATE)
  else s1

def execBlockLockLost (lane : Fin 6) (s : State) : Host.Outcome State Fault Refusal :=
  done (if !s.runs (pLane lane) then s else s.lockLost lane)

/-- 100 ms in DOWN without block lock. -/
def execNoPartnerTimeout (lane : Fin 6) (s : State) : Host.Outcome State Fault Refusal :=
  let x := s.lane lane
  done (if s.runs (pLane lane) && s.on (LANE.ENABLE lane) && s.laneState lane = lsDown && !x.locked then
      (s.setLane lane { x with noPartner := true }).fault (pLane lane) 4
    else s)

/-- The content of a CAPS block (R289), each field in its place less 8. -/
def State.capsContent (s : State) (l : Nat) : Nat :=
  let top := if isData l then s.rd (CTL.VER_MAX 0) else s.rd (CTL.VER_MAX (l - 4))
  let minor := if (if isData l then s.version else top) = 1 then 0 else s.rd PASM.REC_MINOR_MAX
  1 + top * 2 ^ 2 + s.rd (LANE.RATE_MAX l) * 2 ^ 4 + (if isData l then 0xF else 0) * 2 ^ 8 + (if l = 5 then 2 else 1) * 2 ^ 12
    + s.rd PASM.REC_MAJOR * 2 ^ 14 + minor * 2 ^ 18 + (if isData l then s.version else 0) * 2 ^ 24

def execCapsSend (lane : Fin 6) (s : State) : Host.Outcome State Fault Refusal :=
  done (if s.runs (pLane lane) && s.laneState lane = lsCaps then s.send [(lane, controlBlock btCaps (s.capsContent lane))] else s)

/-- Block errors (R272); an active data lane that counts ERR_LIMIT of them in one 125 µs window leaves the stripe (R297). -/
def State.blockErrors (s : State) (l n : Nat) : State :=
  let x := s.lane l
  let s1 := (s.count (LANE.BLOCK_ERR l) n).setLane l { x with windowErrs := x.windowErrs + n, errs125 := x.errs125 + n }
  if isData l && n != 0 && s.rd (LANE.ERR_LIMIT l) ≤ x.errs125 + n then s1.leaveStripe l else s1

/-- The reserved bits of a CAPS content. -/
def capsReserved (c : Nat) : Bool := bits c 7 1 != 0 || bits c 22 2 != 0 || bits c 26 22 != 0

/-- The partner's CAPS (R290): the version is agreed or refused, and the lane goes on to training. -/
def execCapsReceived (lane : Fin 6) (content : BitVec 48) (s : State) : Host.Outcome State Fault Refusal :=
  let l : Nat := lane
  let c := content.toNat
  let train := fun (s : State) => State.startWindow ((s.setLane l { s.lane l with
    caps := some content, comingUp := true, badVersion := false }).setLaneState l lsTrain) l
  let refuse := fun (s : State) => (s.setLane l { s.lane l with badVersion := true }).fault (pLane l) 1
  done (if !s.runs (pLane l) || s.laneState l != lsCaps then s
    else if capsReserved c then s.blockErrors l 1
    else if isData l then
      if bits c 24 2 != s.version then refuse s
      else train ((s.wr L0.B_VERSION s.version).raise (LANE.INT_VERSION l))
    else
      let v := min (s.rd (CTL.VER_MAX (l - 4))) (bits c 2 2)
      if v < max 1 (bits c 0 2) then refuse s
      else train ((s.wr (CTL.C_VERSION (l - 4)) v).raise (LANE.INT_VERSION l)))

/-! ### The bit-slip search of the control lanes (R266, R294) -/

def execCdrLock (ctl : Fin 2) (hdrErr : BitVec 16) (s : State) : Host.Outcome State Fault Refusal :=
  let l := 4 + (ctl : Nat)
  done (if !s.mayComeUp l || lsLock < s.laneState l then s
    else
      let s1 := (s.put (LANE.CDR_LOCK l) true).wr (LANE.HDR_ERR l) hdrErr.toNat
      if s.laneState l = lsDown then s1.setLaneState l lsLock else s1)

def execCdrLockTimeout (ctl : Fin 2) (s : State) : Host.Outcome State Fault Refusal :=
  let l := 4 + (ctl : Nat)
  done (if s.runs (pLane l) && s.laneState l = lsLock && !s.on (LANE.CDR_LOCK l) then s.laneDown l else s)

/-- One slip, and the count after it. -/
def State.slip (s : State) (l hdrErr : Nat) : State :=
  if isData l || s.laneState l != lsLock then s
  else
    let n := s.rd (LANE.SLIPS l) + 1
    let s1 := (s.wr (LANE.SLIPS l) n).wr (LANE.HDR_ERR l) hdrErr
    if 66 ≤ n && hdrErr != 0 then (s1.laneDown l).fault (pLane l) 3 else s1

/-- A write of ALIGNED = 1 fixes the boundary. -/
def State.align (s : State) (l : Nat) (on : Bool) : State :=
  let s1 := (s.put (LANE.ALIGNED l) on).put (LANE.ST_ALIGNED l) on
  if on && s.laneState l = lsLock && s.on (LANE.CDR_LOCK l) then (s1.wr (LANE.SLIPS l) 0).laneLocked l else s1

/-- A write of RETRAIN. -/
def State.retrain (s : State) (l : Nat) : State :=
  if isData l then s.leaveStripe l
  else if s.laneState l = lsActive then s.retrainLane l lsTrain (s.laneRate l)
  else s

/-- A write of the word that holds RETRAIN, BITSLIP and ALIGNED; `hdrErr` is the count that follows a slip. -/
def State.laneControl (s : State) (l v hdrErr : Nat) : State :=
  let s1 := if bit v 31 then s.retrain l else s
  if isData l then s1
  else
    let s2 := if bit v 30 then s1.slip l hdrErr else s1
    if bit v 29 != s2.on (LANE.ALIGNED l) then s2.align l (bit v 29) else s2

def execBitslip (path : Path) (ctl : Fin 2) (value : Word) (hdrErr : BitVec 16) (s : State) : Host.Outcome State Fault Refusal :=
  let _ := path
  done (s.writeTo (pLane (4 + ctl)) fun s => s.laneControl (4 + ctl) value.toNat hdrErr.toNat)

def execAligned (path : Path) (ctl : Fin 2) (value : Word) (s : State) : Host.Outcome State Fault Refusal :=
  let _ := path
  done (s.writeTo (pLane (4 + ctl)) fun s =>
    State.drew (s.laneControl (4 + ctl) value.toNat (s.freeVal 0 % 1025)) (b2n (bit value.toNat 30)))

def execRetrain (path : Path) (lane : Fin 6) (value : Word) (s : State) : Host.Outcome State Fault Refusal :=
  let _ := path
  done (s.writeTo (pLane lane) fun s =>
    State.drew (s.laneControl lane value.toNat (s.freeVal 0 % 1025)) (b2n (bit value.toNat 30)))

/-- ENABLE applies at the lane's next block boundary (R306). -/
def State.applyEnable (s : State) (l : Nat) : State :=
  let s1 := s.applyLiveOf [LANE.ENABLE l]
  if s.on (LANE.ENABLE l) && !s1.on (LANE.ENABLE l) then
    if !isData l then s1.laneDown l else if s1.laneState l = lsActive then s1.leaveStripe l else (s1.laneDown l).laneGone
  else s1

/-- A write of a lane's first word: each field is checked for itself (R13), PRE and POST also for their sum (R267); ENABLE applies at
once. -/
def State.laneSetup (s : State) (l v : Nat) : State :=
  let rate := bits v 24 3
  let rateOk : Bool := rate ≤ if isData l then 4 else 2
  let preOk : Bool := bits v 16 5 ≤ 16
  let postOk : Bool := bits v 8 5 ≤ 24
  let pre := if preOk then bits v 16 5 else s.rdS (LANE.PRE l)
  let post := if postOk then bits v 8 5 else s.rdS (LANE.POST l)
  let sumOk : Bool := pre + post ≤ 32
  let s1 := (s.wrS (LANE.ENABLE l) (bits v 31 1)).wrS (LANE.EQ_ACCEPT l) (bits v 7 1)
  let s2 := if rateOk then s1.wrS (LANE.RATE_MAX l) rate else s1
  let s3 := if sumOk then (s2.wrS (LANE.PRE l) pre).wrS (LANE.POST l) post else s2
  (if rateOk && preOk && postOk && sumOk then s3 else s3.err (C.ERR_VALUE (pLane l))).applyEnable l

def execEnable (path : Path) (lane : Fin 6) (value : Word) (s : State) : Host.Outcome State Fault Refusal :=
  let _ := path
  done (s.writeTo (pLane lane) fun s => s.laneSetup lane value.toNat)

/-- A 125 µs window ends: a lane at its limit leaves the stripe (R297), and the count starts again. -/
def execErrLimitWindow (lane : Fin 6) (s : State) : Host.Outcome State Fault Refusal :=
  let x := s.lane lane
  let s1 := s.setLane lane { x with errs125 := 0 }
  done (if s.runs (pLane lane) && isData lane && s.rd (LANE.ERR_LIMIT lane) ≤ x.errs125 then s1.leaveStripe lane else s1)

/-- The host's RETRAIN_REQ. -/
def execRetrainReq (lanes : BitVec 4) (s : State) : Host.Outcome State Fault Refusal :=
  done (dataLanes.foldl (fun s l => if bit lanes.toNat l then s.leaveStripe l else s) s)

/-- RETRY_MS after a lane failed: it trains again. -/
def execLaneRetry (lane : Fin 4) (s : State) : Host.Outcome State Fault Refusal :=
  let l : Nat := lane
  done (if s.runs (pLane l) && s.on (LANE.ENABLE l) && s.laneState l = lsRemoved && !(s.lane l).retraining && !s.lnk.bundleDown then
      s.retrainLane l lsRemoved (s.rd L0.B_RATE)
    else s)

/-! ### Markers (R279, R293, R297, R298) -/

/-- The marker of a lane. -/
def State.marker (s : State) (l active next : Nat) : DWord :=
  controlBlock btMarker (s.lnk.mcount.toNat + l * 2 ^ 16 + active * 2 ^ 18 + next * 2 ^ 22 + s.rd L0.B_RATE * 2 ^ 26)

/-- The lanes that join the stripe at a marker (R293, R296, R297): with the bundle up, each at its second marker; else all of them,
once each has carried its second and no lane of the bundle is still training. -/
def State.joining (s : State) : List Nat :=
  let desk := s.lanesIn lsDeskew
  let second := desk.filter fun l => 2 ≤ (s.lane l).markers + 1
  if s.on L0.B_UP then second
  else if second = desk && (s.lanesIn lsTrain).all fun l => !(s.lane l).retraining then desk
  else []

/-- A lane leaves the stripe at a marker: it trains at the bundle rate, or goes to DOWN with ENABLE clear (R297). -/
def State.outOfStripe (s : State) (l : Nat) : State :=
  if s.on (LANE.ENABLE l) then s.retrainLane l lsRemoved (s.rd L0.B_RATE) else s.laneDown l

/-- Every lane in ACTIVE or DESKEW sends a marker; the lane set changes there. When the last striped lane would leave, the bundle
retrains instead. -/
def execMarkerSend (s : State) : Host.Outcome State Fault Refusal :=
  let act := s.lnk.stripe
  let desk := s.lanesIn lsDeskew
  done (if s.version < 2 || (act ++ desk).isEmpty then s
    else
      let leave := act.filter fun l => (s.lane l).leaving
      let join := s.joining
      let next := sortAsc ((act.filter fun l => !leave.contains l) ++ join)
      let s1 := desk.foldl (fun s l => s.setLane l { s.lane l with markers := (s.lane l).markers + 1 }) s
      let sent := (sortAsc (act ++ desk)).map fun l => (l, s.marker l (laneMask act) (laneMask next))
      let s2 : State := { s1.send sent with lnk.mcount := s1.lnk.mcount + 1 }
      if next.isEmpty && !leave.isEmpty then s2.retrainBundle
      else
        let s3 := leave.foldl State.outOfStripe s2
        let s4 := join.foldl (fun s l => (s.setLane l { s.lane l with markers := 0 }).setLaneState l lsActive) s3
        if next.isEmpty then s4 else State.setBundle { s4 with lnk.bundleDown := false } true next)

/-! ### Credits (R281 to R283) -/

/-- LIMIT moves only forward, by less than 2^23. -/
def newer (new old : BitVec 24) : Bool := let d := (new - old).toNat; 1 ≤ d && d < 2 ^ 23

/-- A CREDIT block: an accepted LIMIT clears STALL. -/
def execCreditReceived (raw : Bool) (limit : BitVec 24) (s : State) : Host.Outcome State Fault Refusal :=
  done (if !newer limit (if raw then s.lnk.limitRaw else s.lnk.limitPts) then s
    else if raw then State.showCredit { s with lnk.limitRaw := limit, lnk.stalled := false }
    else State.showCredit { s with lnk.limitPts := limit, lnk.stalled := false })

/-- Credits that a packet of LEN words takes. -/
def creditsOf (len : Nat) : Nat := (len + 63) / 64

/-- A channel has credit for a packet. -/
def hasCredit (limit used : BitVec 24) (len : Nat) : Bool :=
  let d := (limit - used).toNat
  creditsOf len ≤ d && d < 2 ^ 23

/-- A channel 0 packet waits for credit: LNK reports STALL to ACQ. -/
def execStall (s : State) : Host.Outcome State Fault Refusal :=
  done (match s.pca.out with
    | [] => s
    | b :: _ =>
      if s.lnk.stalled || hasCredit s.lnk.limitPts s.lnk.usedPts b.length then s
      else State.raise { s.count L0.STALLS 1 with lnk.stalled := true, acq.stall := true } (LANE.INT_STALL 0))

/-! ### Acknowledgement and replay (R284 to R287) -/

/-- The folio lane of a path: L0 for the bundle. -/
def pathLane (p : Nat) : Nat := if p = 0 then 0 else 3 + p

/-- The version of a path. -/
def State.pathVersion (s : State) (p : Nat) : Nat := if p = 0 then s.version else s.rd (CTL.C_VERSION (p - 1))

/-- How many of a path's unacknowledged packets come before the SEQ `n`. -/
def PathState.before (x : PathState) (n : Nat) : Nat :=
  match x.replay with
  | [] => 0
  | p :: _ => (n + 4096 - p.seq) % 4096

/-- An ACK drops every packet up to its SEQ from the replay buffer. The count of replays restarts when it covers the SEQ that they
started from (R286). -/
def execAckReceived (link : Fin 3) (seq : BitVec 12) (s : State) : Host.Outcome State Fault Refusal :=
  let x := s.path link
  let n := x.before seq.toNat + 1
  done (if s.pathVersion link < 2 || x.replay.length < n then s
    else State.showSeq (s.setPath link { x with
      replay := x.replay.drop n, resend := min x.resend (x.replay.length - n), seqAcked := seq.toNat
      tries := if x.before x.triesAt < n then 0 else x.tries }))

/-- The path's lanes retrain after too many replays. -/
def State.retrainPath (s : State) (p : Nat) : State :=
  let l := pathLane p
  if p = 0 then s.retrainBundle else if s.laneState l = lsActive then s.retrainLane l lsTrain (s.laneRate l) else s

/-- A replay starts at the i-th unacknowledged packet. -/
def State.replayFrom (s : State) (p i : Nat) : State :=
  let x := s.path p
  let seq := match x.replay[i]? with
    | some pkt => pkt.seq
    | none => x.seqNext
  let tries := if 0 < x.tries && x.triesAt = seq then x.tries + 1 else 1
  let most := s.rd L0.REPLAY_MAX ≤ tries
  let s1 := (s.setPath p { x with resend := x.replay.length - i, tries := if most then 0 else tries, triesAt := seq }).raise
    (LANE.INT_REPLAY (pathLane p))
  let s2 := if p = 0 then s1.count L0.REPLAYS 1 else s1
  if most then (s2.fault (pLane (pathLane p)) 2).retrainPath p else s2

/-- A NAK: a replay from its SEQ, or ignored. -/
def execNakReceived (link : Fin 3) (seq : BitVec 12) (s : State) : Host.Outcome State Fault Refusal :=
  let p : Nat := link
  let x := s.path p
  let i := x.before seq.toNat
  let s1 := if p = 0 then s.count L0.NAKS 1 else s
  done (if s.pathVersion p < 2 then s
    else if i < x.replay.length && (x.resend = 0 || i ≤ x.replay.length - x.resend) then s1.replayFrom p i
    else s1)

def execAckTimeout (link : Fin 3) (s : State) : Host.Outcome State Fault Refusal :=
  done (if s.pathVersion link < 2 || (s.path link).replay.isEmpty then s else s.replayFrom link 0)

/-! ### Packets received (R272, R275, R277, R285) -/

/-- LEN of a channel that a control lane receives, by version. -/
def rxLenOk (l channel len version : Nat) : Bool :=
  if l = 4 then channel = 2 && 1 ≤ len && len ≤ 17
  else (channel = 5 && len = 3) || (channel = 6 && len = 5 && version = 3)

/-- A packet is accepted whole. -/
def packetWhole (p : Packet) (l version errors : Nat) : Bool :=
  errors = 0 && rxLenOk l p.channel.toNat p.len.toNat version && p.words.length = p.len.toNat && p.endSeq = some p.seq
    && p.crc = some (BitVec.ofNat 32 (crc32 (p.words.flatMap fun w => leBytes 8 w.toNat)))

/-- Blocks arrive on a lane, with a packet or without. Packets go to the device on the control lanes only; what a REGISTER or PAIR packet does is a command of its own. -/
def execPacketReceived (lane : Fin 6) (blocks : BlockCheck) (packet : Option Packet) (s : State) :
    Host.Outcome State Fault Refusal :=
  let l : Nat := lane
  let s1 := (s.wr (LANE.HDR_ERR l) blocks.headers.toNat).blockErrors l blocks.errors
  done (if !s.runs (pLane l) || s.laneState l < lsLock then s
    else match packet with
      | none => s1
      | some p =>
        if isData l || s.laneState l != lsActive then s1
        else
          let x := s1.path (l - 3)
          let ack := fun n => s1.send [(l, controlBlock btAck (n % 4096))]
          let nak := s1.send [(l, controlBlock btNak x.rxNext)]
          let v := s.laneVersion l
          if v < 2 then s1
          else if !packetWhole p l v blocks.errors then nak
          else if p.seq.toNat = x.rxNext then State.setPath (ack p.seq.toNat) (l - 3) { x with rxNext := (x.rxNext + 1) % 4096 }
          else if (x.rxNext + 4096 - p.seq.toNat) % 4096 < 2048 then ack (x.rxNext + 4095)
          else nak)

/-! ### Packets sent (R274 to R276, R284, R302, R303) -/

/-- A packet waits on a path. -/
def State.enqueue (s : State) (p : Nat) (pkt : TxPacket) : State :=
  let x := s.path p
  s.setPath p { x with queue := x.queue ++ [pkt] }

/-- Bytes of a packet's payload. -/
def TxPacket.bytes (p : TxPacket) : Nat := 8 * p.words.length

/-- The replay buffer and the SEQ window have room (R284). -/
def PathState.room (x : PathState) (p bytes : Nat) : Bool :=
  x.replay.length < 2047 && ((x.replay.map TxPacket.bytes).sum + bytes ≤ if p = 0 then 1048576 else 16384)

/-- A new packet leaves. T3 and DEPART are the TIME at which its START leaves. -/
def State.transmit (s : State) (p : Nat) (pkt : TxPacket) : State :=
  let x := s.path p
  let now := s.acq.time
  let ws := if pkt.channel = 5 || pkt.channel = 6 then pkt.words.set 2 now else pkt.words
  let out : TxPacket := { pkt with seq := x.seqNext, words := ws }
  let x1 : PathState := { x with
    seqNext := (x.seqNext + 1) % 4096, replay := if s.pathVersion p < 2 then [] else x.replay ++ [out] }
  State.showSeq { s.setPath p x1 with lnk.tx := some (p, out) }

/-- The ring entry at the front: its bytes (R171, R276), `m` being the stacks as the reads find them. -/
def State.ringBytes (s : State) (m : Mem) (len : Nat) : List Byte :=
  let start := (s.acq.ringAt + 8192000 - s.acq.ringUsed) % 8192000
  (List.range len).map fun i => m.read (0x430000 + (start + i) % 8192000)

/-- Bytes as words, the last padded with zeros. -/
def wordsOfBytes : Nat → List Byte → List DWord
  | 0, _ => []
  | n + 1, bs => BitVec.ofNat 64 (ofLeBytes (bs.take 8)) :: wordsOfBytes n (bs.drop 8)

/-- The oldest ring entry leaves the ring. -/
def State.ringFree (s : State) (len : Nat) : State :=
  let used := s.acq.ringUsed - len
  State.wr { s with acq.ringUsed := used, acq.ringEntries := s.acq.ringEntries.drop 1, acq.ringSent := 0 } ACQ.RAW_FILL (used / 1024)

/-- A RAW packet of the oldest ring entry; under version 1 the entry is dropped as in R172. The errors that its reads meet count
(R161). -/
def State.sendRaw (s : State) (errors : List StackError) : State :=
  match s.acq.ringEntries with
  | [] => s
  | len :: _ =>
    if s.version = 1 then ((s.ringFree len).count ACQ.RAW_DROPPED 1).raise ACQ.INT_RAW_DROP
    else
      let all := wordsOfBytes ((len + 7) / 8) (s.ringBytes (s.spoiledBy errors) len)
      let ws := (all.drop s.acq.ringSent).take 4096
      let last := all.length ≤ s.acq.ringSent + ws.length
      if !hasCredit s.lnk.limitRaw s.lnk.usedRaw ws.length || !(s.path 0).room 0 (8 * ws.length) then s
      else
        let s1 := ((s.stackErrors errors).drew (2 * errors.length)).transmit 0 { channel := 1, first := s.acq.ringSent = 0, last := last, words := ws }
        let s2 := State.showCredit { s1 with lnk.usedRaw := s1.lnk.usedRaw + BitVec.ofNat 24 (creditsOf ws.length) }
        if last then s2.ringFree len else { s2 with acq.ringSent := s2.acq.ringSent + ws.length }

/-- The bundle's next packet: a waiting PCA block before a ring entry. -/
def State.sendBundle (s : State) (errors : List StackError) : State :=
  match s.pca.out with
  | [] => s.sendRaw errors
  | b :: r =>
    if !hasCredit s.lnk.limitPts s.lnk.usedPts b.length || (2 ≤ s.version && !(s.path 0).room 0 (8 * b.length)) then s
    else
      let s1 := s.transmit 0 { channel := 0, first := true, last := true, words := b }
      let used := s1.lnk.usedPts + BitVec.ofNat 24 (creditsOf b.length)
      State.showOut (State.showCredit { s1 with lnk.usedPts := used, pca.out := r })

/-- The order of C0's channels: SAFETY, TIME, REGISTER, EVENT; any other path in the order of arrival. -/
def nextPacket (p : Nat) (q : List TxPacket) : Option TxPacket :=
  if p = 1 then [4, 5, 2, 3].findSome? fun c => q.find? fun x => x.channel = c else q.head?

/-- A control lane's next packet. -/
def State.sendControl (s : State) (p : Nat) : State :=
  let x := s.path p
  match nextPacket p x.queue with
  | none => s
  | some pkt =>
    if 2 ≤ s.pathVersion p && !x.room p pkt.bytes then s
    else (s.setPath p { x with queue := x.queue.erase pkt }).transmit p pkt

/-- The next packet of a path starts: one to be sent again, or a new one. -/
def execPacketTransmit (sending : Sending) (s : State) : Host.Outcome State Fault Refusal :=
  let p : Nat := sending.path
  let x := s.path p
  let up := if p = 0 then s.on L0.B_UP else s.laneState (pathLane p) = lsActive
  done (if !up then s
    else if 0 < x.resend then
      match x.replay[x.replay.length - x.resend]? with
      | some pkt => { s.setPath p { x with resend := x.resend - 1 } with lnk.tx := some (p, pkt) }
      | none => s
    else if p = 0 then s.sendBundle sending.errors
    else s.sendControl p)

/-! ### Messages (R301 to R303) -/

/-- A TS_REQ: the reply of channel 5 waits, T2 stamped. -/
def execTsReq (onC1 : Bool) (tag : BitVec 48) (arrival : DWord) (s : State) : Host.Outcome State Fault Refusal :=
  let p := if onC1 then 2 else 1
  done (if s.laneState (pathLane p) != lsActive then s
    else s.enqueue p { channel := 5, first := true, last := true, words := [tag.zeroExtend 64 <<< 16, arrival, 0] })

/-- TRIPS, bits [63:0] of R409 and R413. -/
def State.trips (s : State) : Nat := s.rd SAF.TRIPS_HOLD + s.rd SAF.TRIPS_LATCH * 2 ^ 8 + s.rd SAF.DEG_CAUSE * 2 ^ 32

def execSafetyPacketSend (s : State) : Host.Outcome State Fault Refusal :=
  done (if s.laneState 4 != lsActive then s
    else
      let w0 := s.lnk.msgSeq.toNat * 2 ^ 32 + s.safety * 2 ^ 29
      { s.enqueue 1 { channel := 4, first := true, last := true, words := [BitVec.ofNat 64 w0, BitVec.ofNat 64 s.trips] } with
        lnk.msgSeq := s.lnk.msgSeq + 1 })

/-- A burst code as its four CODE_POS words, two in a 64-bit word. -/
def codeWord (pos : List Nat) (h : Nat) : DWord :=
  BitVec.ofNat 64 (((List.range 4).map fun i => pos.getD (4 * h + i) 0x1FF * 2 ^ (16 * i)).sum)

/-- The PAIR packet of the trigger accepted last (R303), under version 3. -/
def execPairPacketSend (s : State) : Host.Outcome State Fault Refusal :=
  done (match s.lnk.pairSend with
    | none => s
    | some (acc, stamp) =>
      if s.laneState 5 != lsActive || s.pathVersion 2 != 3 then s
      else
        let pos := (s.codeFor acc).pos
        State.enqueue { s with lnk.pairSend := none } 2 { channel := 6, first := true, last := true
                                                          words := [acc.zeroExtend 64 <<< 32, stamp, 0, codeWord pos 0, codeWord pos 1] })

/-- A TS_REQ leaves on C1. DESIGN CHOICE (log 46): PAIR packets count as arriving until eleven of them, 1.1 s, have gone out since
the last packet, a frame period being at most 1 s. -/
def State.pairTick (s : State) : State :=
  let n := s.lnk.pairSilent + 1
  State.showPair { s with lnk.pairSilent := n, lnk.pairSeen := s.lnk.pairSeen && n < 11 }

/-- The 100 ms of R303: a TS_REQ on C1, and PAIR_LAT from the answer. FREE VALUE (log 7): the TAG, whose content the spec leaves
open. -/
def execPairTsReqSend (reply : Option TsReply) (s : State) : Host.Outcome State Fault Refusal :=
  done (if s.laneState 5 != lsActive || s.pathVersion 2 != 3 then s
    else
      let s1 := State.pairTick ((s.send [(5, controlBlock btTsReq (s.freeVal 0))]).drew 1)
      match reply with
      | none => s1
      | some r =>
        let trip : Int := (r.received - r.sent).toNat
        let stay : Int := (r.partnerOut - r.partnerIn).toNat
        State.showPair { s1.wrI (CTL.PAIR_LAT 1) (openDiv (trip - stay) 2) with lnk.pairMeasured := true })

end Sys2Proof.Machine
end

