-- ==== Sys2Proof/Machine/SafetyCmds.lean ====
section
/-! DEFINITION. The meanings of SAF's commands (spec/15_safety.md). Requests come as writes of REQ; the permit inputs, the
contactor, the self-tests and the energy buckets come as events that the sentinel oscillator times. -/
namespace Sys2Proof.Machine
open Sys2Proof

/-! ### Requests (R400, R401, R427, R570) -/

/-- A request that the state does not allow. -/
def State.refuseReq (s : State) : State := s.err (C.ERR_STATE pSAF)

/-- A request has changed the state: AUTO_OPER makes no further attempt (R401). -/
def State.byRequest (s : State) (st : Nat) : State :=
  { s.enter st with saf.autoLeft := false }

/-- Any other write to REQ while the pair is armed disarms it (R570). -/
def State.disarm (s : State) : State := { s with saf.pairArmed := false }

/-- An OPERATIONAL request (R401). -/
def State.reqOperational (s : State) : State :=
  if (s.safety = sfInit || s.safety = sfCommission) && s.mayOperate then s.tryOperate true else s.refuseReq

/-- An INIT request. -/
def State.reqInit (s : State) : State :=
  if emitting s.safety then s.byRequest sfInit else s.refuseReq

/-- A CLEAR request: no latching trip bit reads 1. -/
def State.reqClear (s : State) : State :=
  if s.safety = sfSafeHold && s.rd SAF.TRIPS_LATCH = 0 then s.byRequest sfInit else s.refuseReq

/-- A SAFE_HOLD request latches SOFT. -/
def State.reqSafeHold (s : State) : State :=
  if s.safety = sfSafeHold then s.refuseReq else { s.tripSet 20 with saf.autoLeft := false }

/-- A path that may write the commissioning pair: the host core or the SPI target (R425, R570). -/
def localPath (p : Path) : Bool := p = .host || p = .spi

/-- The first half of the pair (R570). -/
def State.reqArm (s : State) (p : Path) : State :=
  if localPath p then { s with saf.pairArmed := true } else s.refuseReq

/-- The second half of the pair: the COMMISSION request of R400 while armed. -/
def State.reqCommission (s : State) (p : Path) : State :=
  if !localPath p then s.refuseReq
  else if !s.saf.pairArmed then s.refuseReq
  else if s.safety = sfInit then s.disarm.byRequest sfCommission else s.disarm.refuseReq

/-- A write to REQ (R427). -/
def State.writeReq (s : State) (p : Path) (v : Nat) : State :=
  if v = 0xC515 then s.reqArm p
  else if v = 0x3AEA then s.reqCommission p
  else if v = 1 then s.disarm.reqOperational
  else if v = 2 then s.disarm.reqInit
  else if v = 3 then s.disarm.reqClear
  else if v = 4 then s.disarm.reqSafeHold
  else s.disarm.err (C.ERR_VALUE pSAF)

def execReqOperational (path : Path) (s : State) : Host.Outcome State Fault Refusal :=
  done (s.writeSentinel path pSAF 0x40 1 fun s => s.writeReq path 1)

def execReqInit (path : Path) (s : State) : Host.Outcome State Fault Refusal :=
  done (s.writeSentinel path pSAF 0x40 2 fun s => s.writeReq path 2)

def execReqClear (path : Path) (s : State) : Host.Outcome State Fault Refusal :=
  done (s.writeSentinel path pSAF 0x40 3 fun s => s.writeReq path 3)

def execReqSafeHold (path : Path) (s : State) : Host.Outcome State Fault Refusal :=
  done (s.writeSentinel path pSAF 0x40 4 fun s => s.writeReq path 4)

def execPairArm (path : Path) (s : State) : Host.Outcome State Fault Refusal :=
  done (s.writeSentinel path pSAF 0x40 0xC515 fun s => s.writeReq path 0xC515)

def execPairCommission (path : Path) (s : State) : Host.Outcome State Fault Refusal :=
  done (s.writeSentinel path pSAF 0x40 0x3AEA fun s => s.writeReq path 0x3AEA)

/-- The 1 ms of the pair passes (R570). -/
def execPairArmExpiry (s : State) : Host.Outcome State Fault Refusal := done (s.sentinel State.disarm)

/-- The units have confirmed that no perturbation acts: the entry completes if the checks still hold (R65, R401). A cause
of DEGRADED that is present takes effect at once (R400). A request whose checks no longer hold fails. -/
def State.completeEntry (s : State) : State :=
  if !s.saf.entering then s
  else if (s.safety = sfInit || s.safety = sfCommission) && s.mayOperate && s.noPerturb then
    let s1 := s.relock.enter sfOperational
    State.degrade { s1 with saf.autoLeft := false, regs.cur := s1.regs.cur.wr SAF.DEG_CAUSE 0 }
  else { s.requestFails with saf.entering := false, saf.asked := false }

def execOperationalEntryComplete (s : State) : Host.Outcome State Fault Refusal := done (s.sentinel State.completeEntry)

/-- An attempt of AUTO_OPER (R401): a failed one sets no error bit. -/
def State.autoOper (s : State) : State :=
  if s.saf.autoLeft && s.on SAF.AUTO_OPER && (s.safety = sfInit || s.safety = sfCommission) && !s.saf.entering then
    State.tryOperate { s with saf.autoTried := true } false
  else s

/-- The 10 ms after a failed attempt pass; a retry follows only a first attempt. -/
def execAutoOperRetry (s : State) : Host.Outcome State Fault Refusal :=
  done (s.sentinel fun s => if s.saf.autoTried then s.autoOper else s)

/-! ### Posts (R411 to R413) -/

/-- A fire report (R409 bits 11 and 15): light without a token or above what the token authorised, and runs of NO_REF. A shot with
the nominal reference takes no part in a run (R91). -/
def State.fireReport (s : State) (fire pw pulses authPw authPulses : Nat) (noRef tokened nominal : Bool) : State :=
  let run := if fire = 0 && !nominal then (if noRef then s.saf.norefRun + 1 else 0) else s.saf.norefRun
  let s1 : State := { s with saf.norefRun := run }
  let lit := fire = 0 || fire = 2
  let s2 := if lit && (!tokened || authPw < pw || authPulses < pulses) then s1.tripSet 11 else s1
  if fire = 0 && noRef && s.rd SAF.NOREF_TRIP ≤ run then s2.tripSet 15 else s2

/-- A change of FAULT.SAFETY posted by a folio: EMT's two faults trip, every other cause counts for DEGRADED. -/
def State.safetyPost (s : State) (p : Nat) : State :=
  let s1 := if p = pEMT && s.on EMT.FAULT_MPD_EXTRA && !s.trip 12 then s.tripSet 12 else s
  let s2 := if p = pEMT && s1.on EMT.FAULT_TOKEN_TAG && !s1.trip 13 then s1.tripSet 13 else s1
  s2.degrade

/-- The oldest post arrives at SAF, which a crossing keeps while SAF's clock stands still (R447). -/
def execSafetyFaultPost (s : State) : Host.Outcome State Fault Refusal :=
  done (s.sentinel fun s => match s.saf.posts with
    | [] => s
    | .faultSafety p :: r => State.safetyPost { s with saf.posts := r } p
    | .fireReport f w n aw an r t m :: q => State.fireReport { s with saf.posts := q } f w n aw an r t m)

/-- Clock-good of the domains whose loss trips CLOCK: TDC 0, engine 1, scan 4 (R409 bit 17, R468). -/
def State.clockGood (s : State) (d : Nat) : Bool := bit (s.rd CHK.CLK_GOOD) d

/-- Whether a W1C write may clear latching trip `i` (R409). -/
def State.tripClears (s : State) (i : Nat) : Bool :=
  if i = 8 || i = 16 || i = 18 then false
  else if i = 9 then s.on SAF.CTR_FB_CLOSED = s.on SAF.CTR_EN
  else if i = 10 then s.saf.scnRestarted
  else if i = 12 then !s.on EMT.FAULT_MPD_EXTRA
  else if i = 13 then !s.on EMT.FAULT_TOKEN_TAG
  else if i = 14 then !s.on WATCH.ST_OVERTEMP
  else if i = 17 then !s.saf.oscLost && s.clockGood 0 && s.clockGood 1 && s.clockGood 4
  else if i = 19 then s.rd SAF.COLOPHON_CALC = s.rd SAF.COLOPHON_STORED
  else true

/-- A W1C write to TRIPS_LATCH: each written bit clears where its rule is met (R409, R61). -/
def State.clearTrips (s : State) (v : Nat) : State :=
  State.safOutputs ((List.range' 8 24).foldl (fun s i => if bit v i && s.tripClears i then s.putTrip i false else s) s)

def execTripsLatchClear (path : Path) (value : Word) (s : State) : Host.Outcome State Fault Refusal :=
  done (s.writeSentinel path pSAF 0x48 value.toNat fun s => s.clearTrips value.toNat)

/-- The latch clears between a window close and the next SHOT_OPEN, once no cause remains (R404). -/
def execInhibitLatchClear (s : State) : Host.Outcome State Fault Refusal :=
  done (if s.inShot || s.inhibitCause then s else s.put SAF.ST_INHIBIT false)

/-! ### Permit inputs and contactor (R416 to R418) -/

/-- The raw permit levels inhibit. -/
def State.rawInhibits (s : State) : Bool := !s.saf.rawA || s.saf.rawB

/-- A permit pin changes: PERMIT acts on the raw level at once, while SAF is out of reset. -/
def execEpermChange (channelB level : Bool) (s : State) : Host.Outcome State Fault Refusal :=
  let s1 : State := if channelB then { s with saf.rawB := level } else { s with saf.rawA := level }
  done (if s1.runs pSAF && s1.rawInhibits && !s1.trip 0 then s1.tripSet 0 else s1)

/-- The filtered permit channels have changed: the disagreement timer, DISCREPANCY's clearing and the return of PERMIT. -/
def State.permitSettled (s : State) (before : Bool) : State :=
  let a := s.on SAF.EPERM_A_OK
  let b := s.on SAF.EPERM_B_OK
  let s1 : State :=
    if a != b then { s with saf.disagree := s.saf.disagree || before }
    else if s.saf.disagree then
      State.raise { s.count SAF.DISC_CNT 1 with saf.disagree := false } SAF.INT_DISC_BELOW
    else s
  let s2 : State :=
    if s1.saf.discLatched = 1 && !a && !b then { s1 with saf.discLatched := 2 }
    else if s1.saf.discLatched = 2 && a && b then State.safOutputs { s1.putTrip 8 false with saf.discLatched := 0 }
    else s1
  if a && b && !s2.rawInhibits then s2.tripGone 0 else s2

/-- The filtered contactor feedback has changed: outside CTR_T a disagreement starts its 2 ms (R418). -/
def State.contactorSettled (s : State) : State :=
  let s1 : State := if s.saf.contactorWait then s else { s with saf.contactorDiff := s.on SAF.CTR_FB_CLOSED != s.on SAF.CTR_EN }
  s1.safOutputs

/-- A permit or contactor input has been stable for 200 µs (R416). A permit channel's level is its raw level. -/
def execPermitFilterSettled (input : PermitInput) (level : Bool) (s : State) : Host.Outcome State Fault Refusal :=
  let agreed := s.on SAF.EPERM_A_OK = s.on SAF.EPERM_B_OK
  done (s.sentinel fun s => match input with
    | .epermA => if level = s.saf.rawA then (s.put SAF.EPERM_A_OK level).permitSettled agreed else s
    | .epermB => if level = s.saf.rawB then (s.put SAF.EPERM_B_OK !level).permitSettled agreed else s
    | .ctrFb => State.contactorSettled (State.put { s with saf.rawFb := level } SAF.CTR_FB_CLOSED (level != s.on SAF.CTR_FB_POL)))

/-- Tick Td of a disagreement that still runs (R417). -/
def execDiscrepancyTick (s : State) : Host.Outcome State Fault Refusal :=
  done (s.sentinel fun s => if s.saf.disagree then State.tripSet { s with saf.disagree := false, saf.discLatched := 1 } 8 else s)

/-- CTR_T ends, or a disagreement outside it has lasted 2 ms (R418). -/
def execContactorTimeout (s : State) : Host.Outcome State Fault Refusal :=
  let differs := s.on SAF.CTR_FB_CLOSED != s.on SAF.CTR_EN
  done (s.sentinel fun s => if s.saf.contactorWait then
      let s1 : State := { s with saf.contactorWait := false }
      if differs then s1.tripSet 9 else s1
    else if s.saf.contactorDiff && differs then State.tripSet { s with saf.contactorDiff := false } 9
    else s)

/-! ### Sentinel cores, oscillator and self-tests -/

def execLockstepMismatch (s : State) : Host.Outcome State Fault Refusal :=
  done (s.sentinel fun s => (s.fault pSAF 1).tripSet 16)

def execOscEdgeLoss (s : State) : Host.Outcome State Fault Refusal :=
  done (s.sentinel fun s => State.tripSet { s with saf.oscLost := true } 17)

/-- No watch sensor reads more than 10 K from TS 23; readings are in 1/16 K (R421). -/
def State.watchAgree (s : State) : Bool :=
  let ref := s.rdI WATCH.W_TS23
  [WATCH.W_TS5, WATCH.W_TS15, WATCH.W_TS21].all fun f => (s.rdI f - ref).natAbs ≤ 160

/-- A pass of the periodic self-tests: in the emitting states it runs only between a window close and the next SHOT_OPEN;
a failure trips DIAG (R421). -/
def execSelfTest (readback : SelfTestReadback) (s : State) : Host.Outcome State Fault Refusal :=
  done (s.sentinel fun s => if emitting s.safety && s.inShot then s
    else if readback.gateOk && readback.permitOk && readback.ctrEnOk && readback.oscillatorOk && s.watchAgree then
      { s with saf.testsPassed := true }
    else (s.fault pSAF 2).tripSet 18)

/-! ### The colophon (R422, R424) -/

def execColophonRecompute (s : State) : Host.Outcome State Fault Refusal := done (s.sentinel State.colophon)

/-- A write of COLOPHON_CONFIRM. -/
def State.confirmColophon (s : State) (p : Path) (v : Word) : State :=
  if s.safety != sfCommission || !localPath p then s.refuseReq
  else if !s.on WATCH.ST_NVS_OK then s.nvsBlocked.refuseReq
  else if v.toNat != s.rd SAF.COLOPHON_CALC then s.err (C.ERR_VALUE pSAF)
  else { s with saf.confirm := some (v, s.on SAF.PROX_FAILSAFE) }

def execColophonConfirm (path : Path) (value : Word) (s : State) : Host.Outcome State Fault Refusal :=
  done (s.writeSentinel path pSAF 0x88 value.toNat fun s => s.confirmColophon path value)

/-- The safety record and its copy are written (R424). -/
def execColophonStored (s : State) : Host.Outcome State Fault Refusal :=
  done (s.sentinel fun s => match s.saf.confirm with
    | none => s
    | some (v, f) =>
      let s1 := ((s.wr SAF.COLOPHON_STORED v.toNat).put SAF.STORED_VALID true).raise SAF.INT_STORED
      { s1 with saf.confirm := none, nvs.safetyRecord := some (v, f), nvs.safetyCopy := some (v, f) })

/-- The safety record is read after the release of the NVS domain, once per COLD reset (R419, R424). It is valid if it agrees with
its copy: PROX_FAILSAFE takes its value unless a commit has applied, and SAF starts driving PROX_N. -/
def execSafetyRecordLoad (s : State) : Host.Outcome State Fault Refusal :=
  done (s.sentinel fun s => if s.saf.recordLoaded || !s.runs pNVS then s
    else
      let s0 : State := { s with saf.recordLoaded := true }
      match (if s.nvs.safetyRecord = s.nvs.safetyCopy then s.nvs.safetyRecord else none) with
      | none => s0
      | some (v, f) =>
        let s1 := (s0.put SAF.STORED_VALID true).wr SAF.COLOPHON_STORED v.toNat
        let s2 := if s1.saf.committed then s1 else s1.wrBoth SAF.PROX_FAILSAFE (b2n f)
        State.safOutputs { s2 with saf.failsafeKnown := true })

/-! ### Energy buckets and DEGRADED's limit -/

/-- A bucket of W1 or W2 ends (R405, R571). -/
def execEnergyBucketAdvance (second : Bool) (s : State) : Host.Outcome State Fault Refusal :=
  done (s.sentinel fun s => State.showEnergy (
    if second then { s with saf.w2 := nextBucket s.saf.w2, saf.since2 := min 16 (s.saf.since2 + 1) }
    else { s with saf.w1 := nextBucket s.saf.w1, saf.since1 := min 16 (s.saf.since1 + 1) }))

/-- DEGRADED has lasted DEG_MAX seconds (R414). -/
def execDegMaxExpiry (s : State) : Host.Outcome State Fault Refusal :=
  done (s.sentinel fun s => if s.safety = sfDegraded && s.rd SAF.DEG_MAX != 0 then s.tripSet 20 else s)

/-! ### The arm token (R403 to R405) -/

/-- SAF decides the shot's token when its open strobe arrives: once per shot (R74). -/
def execArmTokenDecision (s : State) : Host.Outcome State Fault Refusal :=
  done (match s.acq.shot, s.emt.token with
    | some sh, none =>
      let tag := sh.seq.toNat % 16
      let deny := { s with emt.token := some { token := false, tag := tag } }
      if !s.tokensMet then deny
      else if s.energyOk sh.pattern sh.column then
        let s1 := s.addEnergy sh.pattern sh.column
        { s1 with
          emt.token := some { token := true, tag := tag }
          acq.shot := some { sh with tokened := true, authPw := s.rd EMT.PW, authPulses := s.npulse } }
      else State.raise { deny with saf.withheld := s.saf.withheld + 1 } SAF.INT_WITHHELD
    | _, _ => s)

end Sys2Proof.Machine
end

