-- ==== Sys2Proof/Machine/Scan.lean ====
section
/-! DEFINITION. SCN (spec/11_scan_control.md): the mirror loop with its set-point profile, rate limiter, control law, model
and checks, the mirror state toward SAF, and the window heater. Positions, velocities and commands are in 1/65,536 LSB;
times of the sweep are in scan cycles of 5 ns. -/
namespace Sys2Proof.Machine
open Sys2Proof

/-! ### Arithmetic (R313) -/

def sat16 (x : Int) : Int := clampI x (-32768) 32767

/-- A sum in the 40-bit accumulator. -/
def acc40 (l : List Int) : Int := l.foldl (fun a x => clampI (a + x) (-549755813888) 549755813887) 0

/-- Arithmetic shift right. -/
def asr (x : Int) (n : Nat) : Int := x / (2 ^ n : Nat)

/-- The sign of an integer. -/
def sgn (x : Int) : Int := if x < 0 then -1 else if 0 < x then 1 else 0

/-! ### The profile of a sweep (R320) -/

/-- The direction of a sweep. -/
def sweepDir (rd : Fld → Nat) : Int := sgn (toSigned 16 (rd SCN.SWEEP_END) - toSigned 16 (rd SCN.SWEEP_START))

/-- |SWEEP_END − SWEEP_START|. -/
def sweepSpan (rd : Fld → Nat) : Nat := (toSigned 16 (rd SCN.SWEEP_END) - toSigned 16 (rd SCN.SWEEP_START)).natAbs

/-- v_s; 0 where NCOL leaves no interval, which the commit check excludes (R322). -/
def sweepVelocity (rd : Fld → Nat) (div : Nat) : Int :=
  let t := (rd ACQ.NCOL - 1) * rd ACQ.COL_PERIOD
  if t = 0 then 0 else nearestAway (sweepSpan rd * div * 4 * 65536 : Nat) (t : Nat)

/-- The pre-position for a velocity. -/
def prePosition (rd : Fld → Nat) (vs : Int) : Int :=
  let a : Int := (rd SCN.AMAX : Nat)
  nearestAway (toSigned 16 (rd SCN.SWEEP_START) * 65536 * (2 * a) - sweepDir rd * vs * vs) (2 * a)

/-- r_c at τ = t / L samples, in RUN_IN (with the term in AMAX) or SWEEP. -/
def sweepCommand (rd : Fld → Nat) (vs t : Int) (runIn : Bool) : Int :=
  let l : Int := (rd SCN.LOOP_DIV : Nat)
  let a : Int := (rd SCN.AMAX : Nat)
  let start := toSigned 16 (rd SCN.SWEEP_START) * 65536
  let x := 2 * vs * t * l + (if runIn then a * t * t else 0)
  nearestAway (start * (2 * l * l) + sweepDir rd * x) (2 * l * l)

/-- v_s of the configuration in force. -/
def State.velocity (s : State) : Int := sweepVelocity s.rd (s.rd SCN.LOOP_DIV)

/-- The pre-position in force: the scheduled frame's, else that of the configuration. -/
def State.prePos (s : State) : Int := prePosition s.rd (if s.scn.tau.isSome then s.scn.vs else s.velocity)

/-! ### Phases -/

def phOff : Nat := 0
def phWait : Nat := 3
def phRunIn : Nat := 4
def phSweep : Nat := 5
def phFlyback : Nat := 6
def phOpen : Nat := 7

def State.phase (s : State) : Nat := s.rd SCN.PHASE
def State.setPhase (s : State) (p : Nat) : State := s.wr SCN.PHASE p

/-- The mirror loop is closed. -/
def State.closed (s : State) : Bool := s.on SCN.ST_LOOP_CLOSED

/-- Open the loop, or add to the causes of an open one (R325 to R327): `phase` is what PHASE becomes. -/
def State.scnStop (s : State) (causes phase : Nat) : State :=
  let s0 := (List.range 5).foldl (fun s i => if bit causes i then s.fault pSCN i else s) s
  let s1 : State := { s0 with scn.restart := false }
  if s1.closed then
    { (((s1.put SCN.ST_LOOP_CLOSED false).setPhase phase).wr SCN.STOP_CAUSE causes).raise SCN.INT_STOPPED with
      scn.tau := none, scn.implausible := bit causes 3 }
  else s1.wr SCN.STOP_CAUSE (s1.rd SCN.STOP_CAUSE ||| causes)

/-- A restart is accepted: IMPLAUSIBLE ends, and with it what keeps SCAN_IMPLAUSIBLE from clearing (R328, R329, R409). -/
def State.restartAccepted (s : State) : State := { s with scn.restart := true, scn.implausible := false, saf.scnRestarted := true }

/-- Close the loop at a sample with feedback y (R328). -/
def State.scnClose (s : State) (y : Int) : State :=
  let s1 := ((s.restartAccepted.put SCN.ST_LOOP_CLOSED true).setPhase (s.rd SCN.MODE)).raise SCN.INT_LOOP_CLOSED
  { s1 with
    scn.integ := 0, scn.d := 0, scn.ePrev := 0, scn.pEff := y * 65536, scn.vEff := 0, scn.cmd := y * 65536
    scn.y1 := none, scn.y2 := none, scn.closedFor := 0, scn.implRun := 0, scn.trkRun := 0
    scn.frozenBase := none, scn.frozenSums := [], scn.tau := none, scn.restart := false }

/-- The conditions of a restart (R328). -/
def State.mayRestart (s : State) : Bool :=
  s.phase = phOpen && s.scn.drive = s.rdI SCN.PARK_OUT && !s.on (C.HALTED pSCN) && s.rd SCN.MODE != 0 && s.scn.lostFor = 0

/-! ### A closed-loop sample -/

/-- The phase of a scheduled frame at time t: WAIT or FLYBACK until RUN_IN begins, then RUN_IN, then SWEEP. -/
def State.sweepPhase (s : State) (t : Int) : State :=
  let a : Int := (s.rd SCN.AMAX : Nat)
  let l : Int := (s.rd SCN.LOOP_DIV : Nat)
  if (s.phase = phWait || s.phase = phFlyback) && -s.scn.vs * l ≤ t * a then
    let late := s.scn.pEff != s.prePos || s.scn.vEff != 0
    let s1 := if late then (s.count SCN.SWEEP_LATE_CNT 1).raise SCN.INT_SWEEP_LATE else s
    s1.setPhase (if 0 ≤ t then phSweep else phRunIn)
  else if s.phase = phRunIn && 0 ≤ t then s.setPhase phSweep
  else s

/-- The commanded set-point and its step w (R319, R320). -/
def State.command (s : State) : Int × Int :=
  if s.rd SCN.MODE = 1 then (s.rdI SCN.PARK_POS * 65536, 0)
  else if s.rd SCN.MODE = 2 then (s.rdI SCN.SP_POS * 65536, 0)
  else
    match s.scn.tau with
    | some t =>
      if s.phase = phRunIn || s.phase = phSweep then
        let c := sweepCommand s.rd s.scn.vs t (s.phase = phRunIn)
        (c, c - s.scn.cmd)
      else (s.prePos, 0)
    | none => (s.prePos, 0)

/-- The rate limiter (R318): the new velocity and whether it limits. -/
def limiter (vmax amax p v rc w : Int) : Int × Bool :=
  let e := rc - p
  if (e.natAbs : Int) ≤ vmax && ((e - v).natAbs : Int) ≤ amax + 2 then (e, false)
  else
    let rv := v - w
    let a : Int := rv.natAbs
    let rv' :=
      if rv != 0 && (sgn rv != sgn e || ((e.natAbs : Int) - a) * (2 * amax) ≤ rv * rv) then rv - sgn rv * min amax a
      else if e != 0 then rv + sgn e * amax
      else rv
    (clampI (w + rv') (-vmax) vmax, true)

/-- A coefficient of the bank in force, in Q1.15. -/
def State.coeff (s : State) (f : Nat → Fld) : Int := s.rdI (f (s.rd SCN.BANK_SEL))

/-- The control law (R314): the new d, integrator and drive code, and whether the output saturates. -/
def State.control (s : State) (e v' a : Int) : Int × Int × Int × Bool :=
  let k := s.coeff
  let d := sat16 (asr (acc40 [k SCN.DF * s.scn.d, k SCN.KD * sat16 (e - s.scn.ePrev)]) 15)
  let base := acc40 [k SCN.KP * e, d * 32768, k SCN.KFV * sat16 (asr v' 8), k SCN.KFA * sat16 (asr a 4)]
  let i' := acc40 [s.scn.integ, k SCN.KI * e]
  let sh := 15 - s.rd (SCN.OUT_SHIFT (s.rd SCN.BANK_SEL))
  let u := asr (acc40 [base, i']) sh
  let lo := s.rdI SCN.OUT_MIN
  let hi := s.rdI SCN.OUT_MAX
  if lo ≤ u && u ≤ hi then (d, i', u, false)
  else (d, s.scn.integ, clampI (asr (acc40 [base, s.scn.integ]) sh) lo hi, true)

/-- ŷ of the model, where it is computed (R323). -/
def State.predict (s : State) : Option (Int × Int) :=
  match s.scn.y1, s.scn.y2 with
  | some y1, some y2 =>
    if 2 ≤ s.scn.closedFor then
      some (2 * y1 - y2 + asr (acc40 [s.rdI SCN.MA1 * y1, s.rdI SCN.MA2 * y2, s.rdI SCN.MB1 * s.scn.u1, s.rdI SCN.MB2 * s.scn.u2]) 15, y1)
    else none
  | _, _ => none

/-- The drive steps toward PARK_OUT (R325). -/
def State.rampDrive (s : State) : State :=
  let step : Int := (s.rd SCN.PARK_SLEW : Nat)
  let s1 := (s.put SCN.ST_SAT false).put SCN.ST_SP_LIMITED false
  { s1 with scn.drive := s.scn.drive + clampI (s.rdI SCN.PARK_OUT - s.scn.drive) (-step) step }

/-- The limiter's result of a sample takes effect (R318, R321). -/
def State.moveSetPoint (s : State) (rc v' : Int) (limited : Bool) : State :=
  let s1 := s.put SCN.ST_SP_LIMITED limited
  let s2 := if limited && (s.phase = phRunIn || s.phase = phSweep) then s1.raise SCN.INT_SP_LIMITED else s1
  let s3 := { s2 with scn.pEff := s.scn.pEff + v', scn.vEff := v', scn.cmd := rc }
  if s.phase = phFlyback && s3.scn.pEff = s3.prePos && v' = 0 then s3.setPhase phWait else s3

/-- A closed-loop sample without feedback (R311). -/
def State.blindSample (s : State) (lost : Nat) (rc v' : Int) (limited : Bool) : State :=
  if lost != 0 then (s.scnStop lost phOpen).rampDrive
  else { s.moveSetPoint rc v' limited with scn.y1 := none, scn.y2 := none }

/-- The causes of R324 that the closed loop judges, and the runs they keep. -/
def State.judge (s : State) (y e : Int) (pred : Option (Int × Int)) : Nat × State :=
  let diff := match pred with
    | some (p, y1) => p - y1
    | none => 0
  let sameRun := match s.scn.frozenBase with
    | some b => decide ((y - b).natAbs ≤ 2)
    | none => false
  let sums := (diff :: (if sameRun then s.scn.frozenSums else [])).take 64
  let base := if sameRun then s.scn.frozenBase else some y
  let impl := match pred with
    | some (p, _) => if s.rd SCN.RES_THR < (sat16 (y - p)).natAbs then s.scn.implRun + 1 else 0
    | none => 0
  let lim := s.rd SCN.TRK_LIMIT
  let trk := if lim != 0 && (s.phase = phRunIn || s.phase = phSweep) && lim < e.natAbs then s.scn.trkRun + 1 else 0
  let causes := (if sums.length = 64 && 64 ≤ sums.sum.natAbs then 4 else 0) + (if 16 ≤ impl then 8 else 0) + (if 16 ≤ trk then 16 else 0)
  (causes, { s with scn.frozenBase := base, scn.frozenSums := sums, scn.implRun := min 16 impl, scn.trkRun := min 16 trk })

/-- A closed-loop sample with feedback: checks, then the control law (R314, R323, R324). -/
def State.seenSample (s : State) (y : Int) (lost : Nat) (rc v' : Int) (limited : Bool) : State :=
  let e := sat16 (nearestAway (s.scn.pEff + v') 65536 - y)
  let pred := s.predict
  let s0 := match pred with
    | some (p, _) => s.wrI SCN.RESIDUAL (sat16 (y - p))
    | none => s
  let j := s0.judge y e pred
  let causes := lost + j.1
  if causes != 0 then (j.2.scnStop causes phOpen).rampDrive
  else
    let c := j.2.control e v' (v' - s.scn.vEff)
    let s1 := j.2.moveSetPoint rc v' limited
    let s2 := s1.put SCN.ST_SAT c.2.2.2
    let s3 := if c.2.2.2 then (s2.count SCN.SAT_CNT 1).raise SCN.INT_SAT else s2
    { s3 with
      scn.d := c.1, scn.integ := c.2.1, scn.drive := c.2.2.1, scn.ePrev := e
      scn.y1 := some y, scn.y2 := s.scn.y1, scn.u1 := c.2.2.1, scn.u2 := s.scn.u1
      scn.closedFor := min 2 (s.scn.closedFor + 1) }

/-- A sample with the loop closed. -/
def State.closedSample (s : State) (y : Option Int) (lost : Nat) : State :=
  let s1 := match s.scn.tau with
    | some t => s.sweepPhase t
    | none => s
  let cw := s1.command
  let lim := limiter (s1.rd SCN.VMAX : Nat) (s1.rd SCN.AMAX : Nat) s1.scn.pEff s1.scn.vEff cw.1 cw.2
  match y with
  | some v => s1.seenSample v lost cw.1 lim.1 lim.2
  | none => s1.blindSample lost cw.1 lim.1 lim.2

/-! ### The mirror sample (R311, R312) -/

/-- MIRROR_STATE (R329). -/
def State.mirrorState (s : State) : Nat :=
  if s.closed then (if s.rd SCN.MODE = 3 && phWait ≤ s.phase && s.phase ≤ phFlyback then 0 else 1)
  else if s.scn.implausible then 2 else 1

/-- The update instant: the drive code and the registers show the sample's results (R312). -/
def State.scnShow (s : State) : State :=
  let m := s.mirrorState
  ((((((s.wrI SCN.SP_EFF (nearestAway s.scn.pEff 65536)).wrI SCN.V_EFF s.scn.vEff).wrI SCN.OUT s.scn.drive).wr
    SCN.INTEG (ofSigned 40 s.scn.integ / 256)).wr SCN.MIRROR_STATE m).wr SCN.ST_MIRROR_STATE m).wrI SCN.FB s.scn.lastY

/-- The mean of a sample's codes (R311). -/
def meanCode (l : List Int) : Option Int := if l.isEmpty then none else some (openDiv l.sum (l.length : Nat))

/-- RWL changes apply at the sample instant; a bank swap is raised (R316). -/
def State.scnLive (s : State) : State :=
  let swap := s.awaits SCN.BANK_SEL
  let s1 := s.applyLive pSCN
  if swap then s1.raise SCN.INT_BANK_SWAPPED else s1

/-- The loop closes at this sample if a change of MODE or a restart asks for it (R328). -/
def State.maybeClose (s : State) (y : Option Int) (lost : Nat) : State :=
  let fromOff := s.phase = phOff && s.rd SCN.MODE != 0 && s.scn.drive = s.rdI SCN.PARK_OUT
  if fromOff && (s.on (C.HALTED pSCN) || s.scn.lostFor != 0) then s.setPhase phOpen
  else if lost != 0 then { s with scn.restart := false }
  else match y with
    | some v => if !s.closed && (fromOff || s.scn.restart) then s.scnClose v else s
    | none => s

/-- One mirror sample. -/
def State.mirrorSample (s : State) : State :=
  let s1 := s.scnLive
  let used := s1.scn.conv.reverse.take (2 ^ s1.rd SCN.FB_AVG)
  let y := meanCode (used.map (·.1))
  let missed := if y.isSome then 0 else min 2 (s1.scn.missed + 1)
  let range := match y with
    | some v => used.any (·.2) || decide (v < s1.rdI SCN.FB_MIN) || decide (s1.rdI SCN.FB_MAX < v)
    | none => false
  let lost := b2n range + 2 * b2n (missed = 2)
  let s2 : State := { s1 with
    scn.conv := [], scn.missed := missed, scn.lost := lost, scn.lastY := y.getD s1.scn.lastY
    scn.lostFor := if lost != 0 then 64 else s1.scn.lostFor - 1
    scn.tau := s1.scn.tau.map (· + (s1.rd SCN.LOOP_DIV : Nat)) }
  let s3 := s2.maybeClose y lost
  let s4 := if s3.closed then s3.closedSample y lost
    else (if lost != 0 then s3.scnStop lost phOpen else s3).rampDrive
  s4.scnShow

def execMirrorSample (s : State) : Host.Outcome State Fault Refusal :=
  done (if s.runs pSCN then s.mirrorSample else s)

/-! ### Strobes, MODE, RESTART and halting -/

/-- The accepted-trigger strobe schedules RUN_IN and SWEEP (R320). FREE VALUE (log 7): where in the sample period it
arrives. -/
def execFrameStartStrobe (s : State) : Host.Outcome State Fault Refusal :=
  done (if s.runs pSCN && s.closed && s.rd SCN.MODE = 3 && s.acq.frame.isSome then
      let l := s.rd SCN.LOOP_DIV
      { s.drew 1 with
        scn.tau := some ((s.freeVal 0 % l : Nat) - (200 * s.rd ACQ.FRAME_DELAY : Nat) - (l : Nat)), scn.vs := s.velocity }
    else s)

/-- The frame-boundary strobe reaches SCN: a sweep ends in FLYBACK (R320). -/
def State.scnBoundary (s : State) : State :=
  if s.closed && (s.phase = phRunIn || s.phase = phSweep) then { s.setPhase phFlyback with scn.tau := none } else s

/-- A commit has applied in SCN: the mode it brings into force (R319, R327, R328), and HTR_PWM low without HTR_EN (R334). -/
def State.scnApplied (s0 : State) (oldMode : Nat) : State :=
  let s : State := if s0.on SCN.HTR_EN then s0 else { s0 with pins.htrPwm := 0 }
  let m := s.rd SCN.MODE
  if m = oldMode then s
  else if m = 0 then s.scnStop 64 phOff
  else if s.closed then { s.setPhase m with scn.tau := none }
  else s

/-- A write of 1 to RESTART (R328). -/
def State.scnRestart (s : State) : State :=
  if s.mayRestart then s.restartAccepted else s.err (C.ERR_STATE pSCN)

/-- SCN halts (R327); HTR_PWM is low (R334). -/
def State.scnHalted (s : State) : State := { s.scnStop 32 phOpen with pins.htrPwm := 0 }

/-- SCN resumes: the loop closes again at the next sample if R328 allows it. -/
def State.scnResumed (s : State) : State := if s.mayRestart then s.restartAccepted else s

/-- Whether a write to a coefficient of a bank is refused (R317). -/
def State.coeffBusy (s : State) (bank : Nat) : Bool := s.closed && (s.rd SCN.BANK_SEL = bank || s.rdS SCN.BANK_SEL = bank)

/-! ### The commit check (R322) -/

/-- T_fb × T_s ≤ FLYBACK_MIN, with all quantities scaled to integers: `dn` is D_fb × AMAX. -/
def flybackFits (v a vmax dn : Int) (l fm : Nat) : Bool :=
  if dn < vmax * vmax then
    let r := 200 * (fm : Int) * a - (l : Int) * (v + 4 * a)
    0 ≤ r && 4 * (l : Int) * l * dn ≤ r * r
  else (l : Int) * (v * vmax + dn + vmax * vmax + 4 * a * vmax) ≤ 200 * (fm : Int) * a * vmax

/-- A staged configuration with MODE SWEEP that breaks R322. -/
def sweepBad (rd : Fld → Nat) (l : Nat) : Bool :=
  let v := sweepVelocity rd l
  let a : Int := (rd SCN.AMAX : Nat)
  let lo := toSigned 16 (rd SCN.FB_MIN)
  let hi := toSigned 16 (rd SCN.FB_MAX)
  let st := toSigned 16 (rd SCN.SWEEP_START)
  let en := toSigned 16 (rd SCN.SWEEP_END)
  let dn := (sweepSpan rd : Int) * 65536 * a + v * v + v * ((2000 + l - 1) / l : Nat) * a
  rd ACQ.NCOL < 2 || st = en || st < lo || hi < st || en < lo || hi < en || (rd SCN.VMAX : Int) < v
    || 200 * (rd ACQ.FRAME_DELAY : Int) * a < (v + a) * (l : Int)
    || !flybackFits v a (rd SCN.VMAX : Nat) dn l (rd ACQ.FLYBACK_MIN)

/-- SCN refuses the staged configuration. -/
def State.scnRefuses (s : State) : Bool :=
  (s.rdT SCN.MODE = 3 && sweepBad s.rdT (s.rd SCN.LOOP_DIV))
    || s.rdTI SCN.OUT_MAX ≤ s.rdTI SCN.OUT_MIN || s.rdTI SCN.PARK_OUT < s.rdTI SCN.OUT_MIN || s.rdTI SCN.OUT_MAX < s.rdTI SCN.PARK_OUT
    || s.rdTI SCN.FB_MAX ≤ s.rdTI SCN.FB_MIN

/-! ### Mirror state at SAF (R329, R330) -/

/-- SAF reads a mirror state: SCAN_STOPPED and SCAN_IMPLAUSIBLE (R409). -/
def State.safMirror (s : State) : State :=
  let m := s.mirror
  if m = 0 then s.tripGone 1
  else if m = 2 then (if s.trip 10 then s else s.tripSet 10)
  else if s.trip 1 then s else s.tripSet 1

/-- A state and a stop cause reach SAF's end of the crossing, with a toggle. -/
def State.takeMirror (s : State) (state cause : Nat) : State :=
  let s1 : State := { s with scn.safState := state, scn.safCause := cause, scn.heartbeatLost := false }
  if s1.runs pSAF then s1.safMirror else s1

/-- MIRROR_STATE_UPDATE; during a feed switch-over the crossing keeps it (R447). -/
def execMirrorStateUpdate (s : State) : Host.Outcome State Fault Refusal :=
  let state := s.rd SCN.MIRROR_STATE
  let cause := s.rd SCN.STOP_CAUSE
  done (if !s.runs pSCN then s
    else if s.pwr.hold then s.keep (.mirror state cause)
    else s.takeMirror state cause)

/-- No toggle for 210 µs; the timer stands still during a feed switch-over (R446). -/
def execHeartbeatTimeout (s : State) : Host.Outcome State Fault Refusal :=
  done (s.sentinel fun s => State.safMirror { s with scn.heartbeatLost := true })

/-! ### The window heater (R332 to R335) -/

/-- A heater sensor fault: duty and hinteg 0. -/
def State.heaterLost (s : State) : State :=
  let s1 : State := { s with scn.duty := 0, scn.hinteg := 0, scn.hFault := true, scn.hot := 0, scn.cool := 0 }
  (s1.fault pSCN 6).raise SCN.INT_HTR_OFF

/-- R333 with a temperature. -/
def State.heaterLaw (s : State) (t : Int) : State :=
  let e := sat16 (s.rdI SCN.HTR_SP - t)
  let sh := 15 - s.rd SCN.HTR_SHIFT
  let i' := acc40 [s.scn.hinteg, s.rdI SCN.HKI * e]
  let u := asr (acc40 [s.rdI SCN.HKP * e, i']) sh
  let hi : Int := (s.rd SCN.HTR_DMAX : Nat)
  if 0 ≤ u && u ≤ hi then { s with scn.hinteg := i', scn.duty := u.toNat }
  else { s with scn.duty := (clampI (asr (acc40 [s.rdI SCN.HKP * e, s.scn.hinteg]) sh) 0 hi).toNat }

/-- A valid temperature: over-temperature with its four-sample counts, else R333. -/
def State.heaterTemp (s : State) (t : Int) : State :=
  let hot := if s.rdI SCN.HTR_TMAX < t then min 4 (s.scn.hot + 1) else 0
  let cool := if t ≤ s.rdI SCN.HTR_TMAX - 48 then min 4 (s.scn.cool + 1) else 0
  let over_ := hot = 4 || (s.scn.hOver && cool != 4)
  let s1 : State := { s.wrI SCN.HTR_TEMP t with scn.hot := hot, scn.cool := cool, scn.hOver := over_, scn.hFault := false }
  if over_ then
    let s2 : State := { s1 with scn.duty := 0 }
    (s2.fault pSCN 5).raise SCN.INT_HTR_OFF
  else s1.heaterLaw t

/-- The heater takes a slot's newest result (R335); none has arrived before the first. -/
def State.heaterTakes (s : State) : Option HkResult → State
  | none => s
  | some r =>
    if r.open_ || r.value < -960 || 2400 < r.value then s.heaterLost
    else if r.unsettled || r.blank || r.stale then s
    else s.heaterTemp r.value

/-- A heater sample on the newest result of HTR_SLOT that has reached SCN; with none new in three samples it is a sensor fault (R335). -/
def State.heaterSample (s : State) : State :=
  let k := s.rd SCN.HTR_SLOT
  let silent := if s.scn.fresh.contains k then 0 else min 3 (s.scn.hSilent + 1)
  let s1 : State := { s with scn.fresh := [], scn.hSilent := silent }
  if silent = 3 then s1.heaterLost else s1.heaterTakes (Tab.get none s.scn.results k)

/-- HEATER_SAMPLE: the results that wait in the housekeeping-results queue have reached SCN (R332). -/
def execHeaterSample (s : State) : Host.Outcome State Fault Refusal :=
  let s1 := s.resultsArrive
  done (if s1.runs pSCN && s1.on SCN.HTR_EN && !s1.on (C.HALTED pSCN) then s1.heaterSample else s1)

/-- A period of HTR_PWM begins: the newest duty comes into force, and the output is high for that many µs (R334). -/
def execHtrPwmPeriodStart (s : State) : Host.Outcome State Fault Refusal :=
  let drives := s.runs pSCN && s.on SCN.HTR_EN && !s.on (C.HALTED pSCN)
  let s1 := if s.runs pSCN then s.wr SCN.HTR_DUTY s.scn.duty else s
  done { s1 with pins.htrPwm := if drives then s.scn.duty else 0 }

end Sys2Proof.Machine
end

