-- ==== Sys2Proof/Machine/Reset.lean ====
section
/-! DEFINITION. Reset and clocks (spec/18_reset_and_clocks.md): sources and episodes, what a reset does to each unit, the
release sequences, and the clock checker. Windows, timeouts and settled levels arrive as commands. -/
namespace Sys2Proof.Machine
open Sys2Proof

/-! ### Service (R41, R48) -/

/-- IN_SERVICE of a unit: the repair map or the timing grid routes frame data through it (log 14). -/
def State.unitInService (s : State) (p : Nat) : Bool :=
  s.runs p && (
    if 0x6F ≤ p then s.reState (p - 0x6F) = stServing
    else if 0x26 ≤ p && p ≤ 0x30 then (secChannels (p - 0x26)).any fun c => (s.rowOf c).isSome
    else if 0x31 ≤ p && p ≤ 0x51 then true
    else if (0x53 ≤ p && p ≤ 0x62) || p = pACQ || p = pEMT || p = pPASM || p = pPCOD then s.gridInService
    else if 0x14 ≤ p && p ≤ 0x17 then s.laneState (p - 0x14) = lsActive
    else if p = pSCN then s.rd SCN.MIRROR_STATE = 0
    else if p = pCONVM then s.closed
    else false)

/-- IN_SERVICE of a folio: its unit's, or any child's (R49). -/
def State.inService (s : State) (p : Nat) : Bool := (subtree p).any s.unitInService

/-! ### What a reset leaves alone -/

/-- Registers that a reset of their folio does not change: those that count since the COLD reset, the engine map (R208), what a data
lane and the bundle show when the lane alone is reset (R310: `lockLost` is all that happens to them), and at COLD the sampled
straps (R484) and the episode count (R476). -/
def keptFields (cold link : Bool) (p : Nat) : List Fld :=
  if cold then
    if p = pRST then [RST.BOOTSEL, RST.CLKSEL, RST.SAFEMODE, RST.CLKSEL_BAD, RST.EPISODES] else []
  else if p = pLane 0 then if link then [] else [LANE.STATE 0, LANE.RATE 0, LANE.ST_LANE_ACTIVE 0, L0.B_VERSION, L0.B_ACTIVE, L0.B_RATE, L0.B_UP, LANE.ST_BUNDLE_UP 0]
  else if 0x14 ≤ p && p ≤ 0x17 then if link then [] else [LANE.STATE (p - 0x14), LANE.RATE (p - 0x14), LANE.ST_LANE_ACTIVE (p - 0x14)]
  else if p = pREG then ((List.range 64).map REG.ENGINE_OF_RG) ++ (List.range 72).map REG.FENCED
  else if p = pCLK then (List.range 6).map CLK.UNLOCKS
  else if p = pMON then [MON.UNLOCK_COUNT, MON.UNLOCK_FAIL]
  else []

/-- A folio's registers return to their reset values (R11), the kept ones aside. -/
def State.clearFolio (s : State) (cold link : Bool) (p : Nat) : State :=
  let s1 := s.eraseFolio p
  { s1 with regs.cur := copyFlds s.regs.cur s1.regs.cur (keptFields cold link p) }

/-! ### The units (R477 and the chapters) -/

/-- DET section j: gates, runs and bias state start again (R113). -/
def State.sectionReset (s : State) (j : Nat) : State :=
  { s with det.sections := s.det.sections.drop j, det.chans := Tab.clear s.det.chans fun c => c / 48 = j }

/-- TDC bank b: its loop loses lock, its events on their way are gone, and the sessions of its channels end ABORTED (R372); it
runs on the nominal transfer (R367). -/
def State.bankReset (s : State) (b : Nat) : State :=
  let x := s.bank b
  let s1 := s.setBank b { open_ := x.open_, invalid := x.open_ }
  State.showNominal { s1 with
    det.flight := s1.det.flight.filter fun e => e.1 / 16 != b
    cal.live := s1.cal.live.filter (· != b)
    cal.sessions := s1.cal.sessions.map fun (y : Session) => if y.chan / 16 = b then { y with abort := true } else y }

/-- The TIM folio: its inputs stop, run on the nominal transfer, and TIM0_EMT shows MPD_EN in force (R143, R367). -/
def State.timReset (s : State) : State :=
  State.showNominal { s.put TIM.ST_TIM0_EMT (s.on EMT.MPD_EN) with
    det.tims := [], cal.tim0Pair := none, cal.live := s.cal.live.filter (· != 33)
    cal.timSessions := s.cal.timSessions.map fun (y : Session) => { y with abort := true } }

/-- PCA loses the frame in acquisition, which ends without a ledger record (R56): its columns, and what was counted of it while it
was in output. -/
def State.dropFrame (s : State) : State :=
  match s.acq.frame with
  | none => s
  | some f =>
    let p : PcaState := if s.pca.frames = [] then s.pca.nextFrame else s.pca
    { s with pca := { p with columns := p.columns.filter fun c => c.shot.accession != f.accession } }

/-- ACQ: the grid stops, the frame in acquisition is lost with what the channels and the banks have counted of it, and the raw ring
is empty. -/
def State.acqReset (s0 : State) : State :=
  let s := s0.dropFrame
  { s with
    acq := {}, det.flight := []
    det.chans := s.det.chans.mapV {} fun (c : Chan) => { c with windows := 0, bgSum := 0, evSum := 0, allFull := true }
    det.sections := s.det.sections.mapV {} fun (x : Section) => { x with scanSpad := 0, scanMacro := 0 }
    det.banks := s.det.banks.mapV {} fun (b : Bank) => { b with open_ := false, invalid := false, pileShots := 0, invShots := 0 } }

/-- PCA: the frames in its hands end without a ledger record (R56). The assembly's reset empties the shelf queues, which what has
waited at them enters. -/
def State.pcaReset (s : State) (p : Nat) : State :=
  { s with
    pca :=
      if p = pPASM then { queues := s.pca.waiting, rwl := s.pca.rwl }
      else { queues := s.pca.queues, waiting := s.pca.waiting, rwl := s.pca.rwl }
    acq.frame := s.acq.frame.map fun (f : Frame) => { f with cut := true } }

/-- EMT: EG0 to EG7 low, the shot in flight reports HALTED (R94), runs of NO_REF restart (R92). -/
def State.emtReset (s : State) : State :=
  { s.put TIM.ST_TIM0_EMT (s.on EMT.MPD_EN) with
    emt := {}, pins.eg := 0, pins.sf := [], saf.norefRun := 0
    acq.shot := s.acq.shot.map fun (sh : Shot) => { sh with emtReset := true } }

/-- A lane whose reset comes from the Link group or wider: DOWN, its path empty. -/
def State.laneReset (s : State) (l : Nat) : State :=
  let s1 := s.laneDown l
  if l = 4 then s1.setPath 1 {} else if l = 5 then s1.setPath 2 {} else s1

/-- CONV-H: its rounds stop (R390). -/
def State.convhReset (s : State) (running : Bool) : State :=
  let s1 : State := { s with
    sense.slot := 0, sense.inPeriod := false, sense.stopAsked := false, sense.fast := false, sense.period := 0
    sense.calAsked := false, sense.calRound := false, sense.offsets := [] }
  if running then s1.thmStopped else s1

/-- THM: both levels are 2 and reach their units (R390). -/
def State.thmReset (s : State) : State :=
  let s1 : State := { s with thm := { watch := s.thm.watch, watchMiss := s.thm.watchMiss }, lmp.level := 2 }
  s1.emtLevel 2

/-- CAL: stale spans end and every session with them. -/
def State.calReset (s : State) : State :=
  let s1 := (s.cal.sessions.filter (·.stale)).foldl State.endStale s
  { s1 with cal := {} }

/-- HCP: the host core stops, its memory and Carrel with it. -/
def State.hostReset (s : State) : State :=
  { (s.wr MON.BAUD 0) with mon := {}, sec.sourceLost := s.sec.sourceLost || s.sec.command.isSome }

/-- SAF's write of the safety record and its copy is cut (R424). FREE VALUE (log 7): how far it has come. -/
def State.cutConfirm (s : State) : State :=
  match s.saf.confirm with
  | none => s
  | some r =>
    let n := s.freeVal 0 % 3
    { s.drew 1 with
      nvs.safetyRecord := if n = 0 then s.nvs.safetyRecord else some r, nvs.safetyCopy := if n = 2 then some r else s.nvs.safetyCopy }

/-- SAF: INIT, every sum and count at 0; the permit pins keep their levels. -/
def State.safReset (s : State) : State :=
  { s.cutConfirm with
    saf := { rawA := s.saf.rawA, rawB := s.saf.rawB, rawFb := s.saf.rawFb }
    prox := {}, pins.proxN := none }

/-- The state that a unit holds beside its registers, once its registers are cleared. `running`: CONV-H's rounds ran. -/
def State.unitReset (s : State) (p : Nat) (running : Bool) : State :=
  if 0x6F ≤ p then s.reAfterReset (p - 0x6F)
  else if 0x63 ≤ p && p ≤ 0x6B then (s.setQueue (p - 0x63) []).setWaiting (p - 0x63) []
  else if 0x26 ≤ p && p ≤ 0x30 then s.sectionReset (p - 0x26)
  else if 0x31 ≤ p && p ≤ 0x51 then s.bankReset (p - 0x31)
  else if p = pTIM then s.timReset
  else if p = pACQ then s.acqReset
  else if p = pPASM || p = pPCOD then s.pcaReset p
  else if p = pEMT then s.emtReset
  else if p = pSCN then { s with scn := {}, pins.htrPwm := 0 }
  else if p = pCONVH then s.convhReset running
  else if p = pFLT then { s with sense.results := [], sense.slots := s.sense.slots.mapV {} fun (x : Slot) => { xref := x.xref } }
  else if p = pAFE then { s with
    sense.clamped := [], sense.slots := s.sense.slots.mapV {} fun (x : Slot) => { x with xref := 20000 } }
  else if p = pLMP then State.lampPins { s with lmp := { level := s.lmp.level } } true
  else if p = pTHM then s.thmReset
  else if p = pCAL then s.calReset
  else if p = pHCP then s.hostReset
  else if p = pSEC then { s with sec := {} }
  else if p = pNVS then { s with nvs.queue := [], nvs.pulse := false }
  else if p = 0 then { s with cat := {}, snap := {} }
  else if p = 4 then { s with lnk := {} }
  else if p = pSAF then s.safReset
  else if p = pPWR then { s with pwr := {} }
  else if p = pWATCH then { s with thm.watch := [], thm.watchMiss := 0 }
  else s

/-- What a unit does as its reset asserts, before its registers clear. -/
def State.beforeReset (s : State) (p : Nat) (link : Bool) : State :=
  if 0x6F ≤ p then s.reBeforeReset (p - 0x6F)
  else if 0x14 ≤ p && p ≤ 0x17 && !link then s.lockLost (p - 0x14)
  else if p = pMON then s.relock
  else s

/-- A reset of one folio: its registers and its unit's state. -/
def State.resetFolio (s : State) (cold link : Bool) (p : Nat) : State :=
  let running := s.on CONVH.ST_RUNNING
  let s1 := (s.clearFolio cold link p).unitReset p running
  if 0x14 ≤ p && p ≤ 0x19 && (link || 0x18 ≤ p) then s1.laneReset (p - 0x14) else s1

/-- Restore what the bundle's registers show after a reset of lane folios. -/
def State.showBundle (s : State) (link : Bool) : State :=
  if link then s.bundleDown.wr L0.B_RATE 0 else (s.showCredit).showSeq

/-! ### Commits and resets (R53) -/

/-- A commit is discarded: `cause` is its REFUSE_CAUSE. A folio that has not applied its staged copy drops it. -/
def State.discardCommit (s : State) (cause : Nat) : State :=
  let s1 := ((((s.put CAT.CHECKING false).put CAT.CAT_STAGED false).wr CAT.REFUSE_CAUSE cause).wr CAT.GEN_STAGED 0).raise CAT.INT_COMMIT_REFUSED
  let s2 := (List.range folioCount).foldl (fun s p => (s.put (C.STAGED p) false).put (C.APPLYING p) false) s1
  { s2 with cat.abortPending := false, cat.applying := false }

/-- A reset of some folios cancels the commit (R53): one of them takes part in the check that runs, as every folio that runs does, or
holds staged values, before the boundary or while it waits for the strobe after it. DEDUCED (log 19): past the boundary the folios
that have applied keep the new generation, and those that have not, APPLYING among them, drop theirs. -/
def State.commitCut (s : State) (ps : List Nat) : Bool :=
  (s.on CAT.CHECKING && ps.any s.runs) || (s.on CAT.CAT_STAGED && ps.any fun p => s.on (C.STAGED p))

/-- A reset takes effect on a list of folios. -/
def State.resetPages (s : State) (cold : Bool) (ps : List Nat) : State :=
  let s0 := if s.commitCut ps then s.discardCommit 2 else s
  let r : RstState := { s0.rst with
    held := s0.rst.held ++ ps.filter fun p => !s0.rst.held.contains p
    due := s0.rst.due.filter fun d => !ps.contains d.page }
  let link := ps.contains 4
  let before := ps.foldl (fun (s : State) p => s.beforeReset p link) { s0 with rst := r }
  let s1 := ps.foldl (fun s p => s.resetFolio cold link p) before
  let s2 := if ps.any fun p => 0x14 ≤ p && p ≤ 0x19 then s1.showBundle link else s1
  let s3 := s2.retireOld
  State.eventsQuiet (if s3.runs pSAF then s3.degrade.safMirror else s3)

/-! ### What RST shows -/

/-- OPEN, EPISODE_OPEN and the PENDING_CLK bits. -/
def State.showRst (s : State) : State :=
  let waiting := s.rst.due.filter (·.waits)
  let s1 := ((s.wr RST.OPEN s.rst.episodes.length).put RST.ST_EPISODE_OPEN (s.rst.episodes != [])).put RST.ST_PENDING_CLK (waiting != [])
  (List.range 8).foldl (fun s i => s.put (RST.SLOT_PENDING_CLK i) (waiting.any fun d => d.slots.contains i)) s1

/-- A word of the ledger entry that LEDGER_SEL selects (R476); 0 where it holds none. -/
def State.ledgerWord (s : State) (w : Nat) : Nat :=
  match s.rst.ledger[s.rd RST.LEDGER_SEL]? with
  | none => 0
  | some e =>
    if w = 0 then e.episode * 65536 + e.reach * 16384 + b2n e.pendingClk * 8192 + b2n e.clkTmo * 4096 + b2n e.nvsWait * 2048 + e.ncause
    else if w = 1 then ((List.range 8).map fun i => e.causes.getD i 15 * 16 ^ i).sum
    else if w = 2 then e.accession.toNat
    else e.duration * 65536 + e.target

/-- Change the ledger entry of an episode. -/
def State.inLedger (s : State) (episode : Option Nat) (f : LedgerEntry → LedgerEntry) : State :=
  { s with rst.ledger := s.rst.ledger.map fun e => if some e.episode = episode then f e else e }

/-! ### Episodes (R470 to R475) -/

/-- Every folio that a SYSTEM reset covers: all but the Sentinel group and its children. -/
def systemPages : List Nat := (List.range folioCount).filter fun p => !(subtree 6).contains p

/-- The coverage of a reach. -/
def coverage (reach : Nat) (pages : List Nat) : List Nat :=
  if reach = 0 then List.range folioCount else if reach = 1 then systemPages else pages

/-- A SUBTREE target that R470 allows, given as its address less 0x4000_0000: its page. -/
def resetTarget (t : Nat) : Option Nat :=
  let p := t / 0x1000
  if t % 0x1000 = 0 && p < folioCount && p != 0 && p != 5 && p != pCLK && !(subtree 6).contains p then some p else none

/-- Put an assertion in its place among the first eight. -/
def insertCause (x : Nat × Nat) : List (Nat × Nat) → List (Nat × Nat)
  | [] => [x]
  | y :: t => if x.1 < y.1 then x :: y :: t else y :: insertCause x t

/-- Two episodes joined (R474). -/
def Episode.join (a b : Episode) : Episode :=
  { pages := a.pages ++ b.pages.filter fun p => !a.pages.contains p
    reach := min a.reach b.reach
    sources := a.sources ++ b.sources
    causes := (b.causes.foldl (fun l x => insertCause x l) a.causes).take 8
    ncause := min 255 (a.ncause + b.ncause)
    toApply := a.toApply ++ b.toApply.filter fun p => !a.toApply.contains p
    slots := a.slots ++ b.slots
    accession := a.accession
    target := a.target.or b.target
    nvsWait := a.nvsWait || b.nvsWait }

/-- HOLD slots clear, and their sources count as deasserted (R475), as does a held DEBUG source (R528). -/
def State.clearHolds (s : State) : State :=
  let s1 := (List.range 8).foldl (fun s i => s.put (RST.HOLD i) false) s
  { s1 with rst.episodes := s1.rst.episodes.map fun (e : Episode) =>
      { e with sources := e.sources.filter fun x => !(x.code = 5 && x.detail < 8) && !(x.code = 6 && !x.pulse) } }

/-- A source that RST has not taken in waits while the sentinel clock stands still (R446, R447); the brown-out of the sentinel rail
itself does not. -/
def State.sourceWaits (s : State) (code : Nat) : Bool := s.pwr.hold && code != 1

/-- A source asserts (R471, R474): it opens an episode, or joins those it overlaps. -/
def State.assertReset (s : State) (src : Source) (reach : Nat) (pages : List Nat) (target : Option Nat) : State :=
  if s.sourceWaits src.code then s.keep (.source src.code src.detail src.pulse reach pages target)
  else if s.rst.episodes.any fun e => e.sources.contains src then s
  else
    let cover := coverage reach pages
    let hits := fun (e : Episode) => reach ≤ 1 || e.reach ≤ 1 || e.pages.any cover.contains
    let old := s.rst.episodes.filter hits
    let before := old.foldl (fun m (e : Episode) => min m e.reach) 2
    let one : Episode := {
      pages := cover, reach := reach, sources := [src], causes := [(s.rst.asserts, src.code)], ncause := 1, toApply := cover
      slots := if src.code = 5 && src.detail < 8 then [src.detail] else []
      accession := match s.acq.frame with
        | some f => f.accession
        | none => s.lastAccession.getD 0
      target := target }
    let whole := match old with
      | [] => one
      | e :: l => (l.foldl Episode.join e).join one
    let widens := old = [] || reach < before
    let known := old.flatMap fun (e : Episode) => e.pages.filter fun p => !e.toApply.contains p
    let ep : Episode := { whole with
      toApply := if widens then coverage whole.reach whole.pages else whole.toApply.filter fun p => !known.contains p
      nvsWait := whole.nvsWait || (s.nvs.pulse && whole.toApply.contains pNVS) }
    let s1 : State := { s with rst.episodes := s.rst.episodes.filter (fun e => !hits e) ++ [ep], rst.asserts := s.rst.asserts + 1 }
    (if widens && reach ≤ 1 then s1.clearHolds else s1).showRst

/-- A source deasserts. -/
def State.deassertReset (s : State) (code detail : Nat) : State :=
  if s.sourceWaits code then s.keep (.sourceEnds code detail)
  else { s with rst.episodes := s.rst.episodes.map fun (e : Episode) =>
      { e with sources := e.sources.filter fun x => !(x.code = code && x.detail = detail) } }

/-- A 10 µs pulse (R471). It ends with the next EPISODE_END. -/
def State.pulseReset (s : State) (code detail reach : Nat) (pages : List Nat) (target : Option Nat) : State :=
  s.assertReset ⟨code, detail, true⟩ reach pages target

/-- The software pulse runs (R472). -/
def State.swPulse (s : State) : Bool := s.rst.episodes.any fun e => e.sources.any fun x => x.code = 5 && x.pulse

/-! ### The clock checker (R466 to R469) -/

/-- Clock-good of a PLL domain: 0 TDC, 1 engine, 2 host, 3 fabric, 4 scan, 5 housekeeping. -/
def State.pllGood (s : State) (d : Nat) : Bool := s.clockGood d && s.on CHK.REF_GOOD

/-- ALL_GOOD and ALL_LOCKED. -/
def State.showClocks (s : State) : State :=
  (s.put CHK.ST_ALL_GOOD (s.on CHK.REF_GOOD && s.rd CHK.CLK_GOOD = 63)).put CLK.ST_ALL_LOCKED (s.rd CLK.PLL_LOCK = 63)

/-- The coverage and the target of a domain's CLOCK source (R469). -/
def clockCover (d : Nat) : List Nat × Nat :=
  if d = 0 then (subtree 7 ++ subtree 8 ++ [pACQ] ++ subtree 0xA ++ [pEMT], 7)
  else if d = 1 then (subtree pREG, pREG)
  else if d = 2 then (subtree pHCP, pHCP)
  else if d = 4 then ([pSCN, pCONVM], pSCN)
  else ([pAFE, pCONVH, pFLT, pLMP, pTHM], pAFE)

/-- Clock-good of a domain falls: CLK_LOST, its fault, and the CLOCK trip of R409. -/
def State.clockFalls (s : State) (d : Nat) : State :=
  if !s.clockGood d then s
  else
    let s1 := State.showClocks (((s.wr CHK.CLK_GOOD (withBit (s.rd CHK.CLK_GOOD) d false)).raise CHK.INT_CLK_LOST).fault pCHK d)
    if (d = 0 || d = 1 || d = 4) && s1.operating then s1.tripSet 17 else s1

/-- A fall with its CLOCK source (R469). -/
def State.clockLost (s : State) (d : Nat) : State :=
  if !s.clockGood d then s
  else if d = 3 then (s.clockFalls 3).pulseReset 7 3 1 [] none
  else (s.clockFalls d).assertReset ⟨7, d, false⟩ 2 (clockCover d).1 (some (clockCover d).2)

/-- REF_GOOD falls (R467): no PLL domain counts as good, and its source asserts at reach SYSTEM. -/
def State.refLost (s : State) : State :=
  if !s.on CHK.REF_GOOD then s
  else
    let s1 := ((s.put CHK.REF_GOOD false).raise CHK.INT_CLK_LOST).fault pCHK 6
    (List.range 6).foldl State.clockLost (s1.assertReset ⟨7, 6, false⟩ 1 [] none)

/-- The clock domains of a unit (R25, the Units table of spec/01): the sentinel units and the lane clocks aside. -/
def clocksOf (p : Nat) : List Nat :=
  if 0x6F ≤ p then [1]
  else if 0x53 ≤ p && p ≤ 0x62 then [0, 1]
  else if (0x26 ≤ p && p ≤ 0x52) || p = pACQ || p = pEMT then [0]
  else if p = pHCP || p = pI2C || p = pMON then [2]
  else if p = pSCN || p = pCONVM then [4]
  else if p = pAFE || p = pCONVH || p = pFLT || p = pLMP || p = pTHM then [5]
  else if (subtree 6).contains p then []
  else [3]

/-- The clocks of a unit are good (R483). -/
def State.clocksGood (s : State) (p : Nat) : Bool := (clocksOf p).all s.pllGood

/-! ### Power at SYSTEM and COLD (R477) -/

/-- The PLLs lose their rail: every clock-good falls; the CLOCK sources of the domains whose PLLs are off end (R469). -/
def State.pllsOff (s : State) : State :=
  let s1 := (List.range 6).foldl State.clockFalls s
  let s2 := State.showClocks (s1.wr CLK.PLL_LOCK 0)
  { s2 with rst.episodes := s2.rst.episodes.map fun (e : Episode) =>
      { e with sources := e.sources.filter fun x => !(x.code = 7 && x.detail < 6 && !x.pulse) } }

/-- PWR opens every switchable domain's switch; the stacks' contents are lost (log 4). -/
def State.openSwitches (s : State) : State :=
  let s1 := (List.range 151).foldl (fun s d => s.put (PWR.DOM_ON d) false) s.pllsOff
  { s1 with stackMem := [], pwr.turns := s1.pwr.turns.filter (·.command), pwr.parking := false, rst.sequence := none }

/-- A reset of an episode takes effect on the folios it has still to reach; SYSTEM and COLD relock test access (R525). After COLD
RAIL_GOOD reads 0 until the rails settle afresh (R11), so BROWNOUT_RAIL asserts (R471, log 3). -/
def State.takeEffect (s : State) (e : Episode) : State :=
  let cold := e.reach = 0
  let s0 : State := if cold then { s with lastAccession := none, rst.coldWait := none, rst.refWait := none } else s
  let s1 := if e.reach ≤ 1 then s0.relock else s0
  let s2 := s1.resetPages cold e.toApply
  let s3 := if e.reach ≤ 1 then s2.openSwitches else s2
  (if cold then s3.assertReset ⟨2, 0, false⟩ 1 [] none else s3).showRst

/-- RESET_TAKE_EFFECT: the oldest episode with folios still to reach; one that covers NVS waits for a write pulse (R478), and one
narrower than COLD for the end of a feed switch-over. -/
def execResetTakeEffect (s : State) : Host.Outcome State Fault Refusal :=
  let ready := fun (e : Episode) => e.toApply != [] && !(s.nvs.pulse && e.toApply.contains pNVS) && (e.reach = 0 || !s.pwr.hold)
  done (match s.rst.episodes.find? ready with
    | none => s
    | some e =>
      let eps := s.rst.episodes.map fun (x : Episode) => if x = e then { x with toApply := [] } else x
      State.takeEffect { s with rst.episodes := eps } e)

end Sys2Proof.Machine
end

