-- ==== Sys2Proof/Machine/Release.lean ====
section
/-! DEFINITION. The meanings of the reset and clock commands (spec/18_reset_and_clocks.md): sources, the end of an episode, the
release of the units, and the clock checker's windows. -/
namespace Sys2Proof.Machine
open Sys2Proof

/-! ### Release -/

/-- The order of R458. -/
def powerOrder : List Nat :=
  [150] ++ List.range' 147 3 ++ List.range' 138 9 ++ List.range' 132 6 ++ List.range' 116 16 ++ List.range' 105 11
    ++ List.range' 72 33 ++ List.range 72

/-- The held folios of a domain that no open episode covers become due for release. -/
def State.dueDomain (s : State) (d : Nat) (episode : Option Nat) (slots : List Nat) (among : List Nat) : State :=
  let free := fun p => s.rst.held.contains p && !(s.rst.episodes.any fun e => e.pages.contains p) && !(s.rst.due.any fun x => x.page = p)
  let ps := (pagesOfDomain d).filter fun p => among.contains p && free p
  { s with rst.due := s.rst.due ++ ps.map fun p => { page := p, episode := episode, slots := slots } }

/-- The SYSTEM sequence starts: PWR's turns in the order of R458 (R481). -/
def State.startSequence (s : State) (episode : Nat) : State :=
  { s with
    pwr.turns := s.pwr.turns ++ powerOrder.map fun d => { domain := d, on := true }
    rst.sequence := some episode }

/-- The straps are sampled (R465, R484). -/
def State.sampleStraps (s : State) : State :=
  let v := s.rst.strapPins.toNat
  ((((s.wr RST.BOOTSEL (bits v 3 3)).wr RST.CLKSEL (bits v 1 2)).put RST.SAFEMODE (bit v 0))).put RST.CLKSEL_BAD (bits v 1 2 = 3)

/-- The engine map and the fenced engines of the newest valid life-record entry (R31). -/
def State.loadMap (s : State) : State :=
  match s.nvs.life with
  | [] => s
  | e :: _ =>
    let s1 := (List.range 64).foldl (fun s g => s.wr (REG.ENGINE_OF_RG g) (e.map.getD g g)) s
    e.fenced.foldl (fun s k => (s.put (REG.FENCED k) true).setReState k stFenced) s1

/-- EPISODE_END: pulses are over; the first open episode whose every source has deasserted and whose reset has taken effect is
logged and released (R474, R476, R480 to R482). FREE VALUE (log 7): DURATION, since the model has no microsecond clock. -/
def execEpisodeEnd (s : State) : Host.Outcome State Fault Refusal :=
  let eps := s.rst.episodes.map fun (e : Episode) => { e with sources := e.sources.filter fun x => !x.pulse }
  let over_ := fun (e : Episode) => e.sources = [] && e.toApply = []
  done (s.ungated fun s => match eps.find? over_ with
    | none => State.showRst { s with rst.episodes := eps }
    | some e =>
      let n := (s.rd RST.EPISODES + 1) % 65536
      let entry : LedgerEntry := {
        episode := n, reach := e.reach, nvsWait := e.nvsWait, ncause := e.ncause, causes := e.causes.map (·.2)
        accession := e.accession, duration := s.freeVal 0 % 65536
        target := if e.reach = 2 then e.target.getD 0xFFFF else 0xFFFF }
      let s1 : State := { s.drew 1 with
        rst.episodes := eps.filter (· != e), rst.ledger := (entry :: s.rst.ledger).take 16 }
      let s2 := ((s1.wr RST.EPISODES n).raise RST.INT_EPISODE_END)
      State.showRst (if e.reach = 0 then { s2.sampleStraps.loadMap with rst.coldWait := some n, nvs.coldPending := true }
        else if e.reach = 1 then s2.startSequence n
        else powerOrder.foldl (fun s d => if s.domOn d then s.dueDomain d (some n) e.slots e.pages else s) s2))

/-- SENTINEL_RELEASE: SAF in INIT with the inhibit latch set; the hold trips show what their inputs read (R402, R409, R480). -/
def execSentinelRelease (s : State) : Host.Outcome State Fault Refusal :=
  done (match s.rst.coldWait with
    | none => s
    | some n =>
      let s1 : State := { s with
        rst.held := s.rst.held.filter fun p => !(subtree 6).contains p, rst.coldWait := none, rst.refWait := some n }
      let s2 := s1.put SAF.SAFEMODE (s1.on RST.SAFEMODE)
      let s3 := if s2.on SAF.SAFEMODE then s2.tripSet 2 else s2
      let s4 := if s3.rawInhibits then s3.tripSet 0 else s3
      s4.safMirror.colophon.degrade.safOutputs.showRst)

/-- NEXT has reached the first index beyond 90 % (R507). -/
def State.xmssWarn (s : State) : State :=
  if 943719 ≤ s.rd SEC.XMSS_NEXT && !s.on SEC.ST_XMSS_WARN then (s.put SEC.ST_XMSS_WARN true).raise SEC.INT_XMSS_WARN else s

/-- CUR has reached 2^20 (R507). -/
def State.xmssExhausted (s : State) : State :=
  if 2 ^ 20 ≤ s.rd SEC.XMSS_CUR && !s.on SEC.ST_EXHAUSTED then (s.put SEC.ST_EXHAUSTED true).fault pSEC 0 else s

/-- At SEC's release: NEXT, CUR and the rest of the security record (R505). -/
def State.loadSec (s : State) : State :=
  let r := s.nvs.security
  let s1 := (((s.wr SEC.XMSS_NEXT r.next).wr SEC.XMSS_CUR r.next).wr SEC.MIN_SEC_VER_HOST r.minHost).wr SEC.MIN_SEC_VER_ENGINE r.minEngine
  ((s1.wr SEC.ENROLLED r.enrolled).wr SEC.REVOKED r.revoked).xmssWarn.xmssExhausted

/-- CAL loads its sets once CAL and NVS both run (R380). -/
def State.bootCal (s : State) : State := if s.runs pCAL && s.runs pNVS && !s.cal.loaded then s.loadCal else s

/-- What a unit does at its release. DESIGN CHOICE (log 43): EMT and LMP released while THM runs show THM's standing level at once,
with DERATE_CHANGE where it is not EMT's reset level; R96 gives the reset value 2 and R390 speaks of resets covering THM. -/
def State.afterRelease (s : State) (p : Nat) : State :=
  if p = pEMT then s.emtLevel (if s.runs pTHM then s.rd THM.EMT_LEVEL else 2)
  else if p = pLMP then { s with lmp.level := if s.runs pTHM then s.rd THM.LMP_LEVEL else 2 }
  else if p = pCAL || p = pNVS then s.bootCal
  else if p = pSEC then s.loadSec
  else s

/-- UNIT_RELEASE of a folio that is due: released with its clocks good, else the release stays pending (R483). A release waits
its turn in the order of R458. -/
def execUnitRelease (page : Fin 183) (s : State) : Host.Outcome State Fault Refusal :=
  let p : Nat := page
  let ahead := s.rst.due.takeWhile fun d => d.page != p
  done (s.ungated fun s => match s.rst.due.find? fun d => d.page = p with
    | none => s
    | some d =>
      if ahead.any fun x => !x.waits && domainOf x.page != domainOf p then s
      else if s.clocksGood p then
        State.showRst (State.afterRelease { s with
          rst.held := s.rst.held.filter (· != p), rst.due := s.rst.due.filter fun x => x.page != p } p)
      else
        let s1 : State := { s with rst.due := s.rst.due.map fun x => if x.page = p then { x with waits := true } else x }
        (s1.inLedger d.episode fun e => { e with pendingClk := true }).showRst)

/-- CLK_TMO: a release has waited 10 ms; the unit stays in reset until a later episode (R483). -/
def execClkTmo (page : Fin 183) (s : State) : Host.Outcome State Fault Refusal :=
  let p : Nat := page
  done (s.ungated fun s => match s.rst.due.find? fun d => d.page = p && d.waits with
    | none => s
    | some d =>
      let s1 : State := { s with rst.due := s.rst.due.filter fun x => x.page != p }
      let s2 := (s1.inLedger d.episode fun e => { e with clkTmo := true }).fault pRST 1
      (d.slots.foldl (fun s i => s.put (RST.SLOT_CLK_TMO i) true) (s2.raise RST.INT_CLK_TMO)).showRst)

/-- REF_TIMEOUT: REF_GOOD is not true 10 ms after the sentinel release (R480). -/
def execRefTimeout (s : State) : Host.Outcome State Fault Refusal :=
  done (s.ungated fun s => if s.rst.refWait.isSome && !s.on CHK.REF_GOOD then s.fault pCHK 6 else s)

/-! ### Clocks -/

/-- A window of 512 sentinel cycles ends (R467). The first good one of a COLD release starts the SYSTEM sequence (R480). -/
def execRefCheckWindow (count : BitVec 9) (s : State) : Host.Outcome State Fault Refusal :=
  let n := count.toNat
  let s1 := s.wr CHK.REF_COUNT n
  done (if !s.runs pCHK || s.pwr.hold then s
    else if 254 ≤ n && n ≤ 280 then
      let s2 := if s1.on CHK.REF_GOOD then s1
        else ((State.showClocks ((s1.put CHK.REF_GOOD true).raise CHK.INT_CLK_GOOD)).deassertReset 7 6).showRst
      match s2.rst.refWait with
      | some e => State.startSequence { s2 with rst.refWait := none } e
      | none => s2
    else s1.refLost)

/-- E of R468. -/
def expectedCount (d : Nat) : Nat := [8192, 10240, 12288, 5120, 2048, 512].getD d 0

/-- A window of 256 XTAL cycles of a domain ends (R468). -/
def execClockCheckWindow (domain : Fin 6) (count : BitVec 16) (s : State) : Host.Outcome State Fault Refusal :=
  let d : Nat := domain
  let n := count.toNat
  let e := expectedCount d
  let s1 := s.wr (CHK.COUNT d) n
  done (if !s.runs pCHK || s.pwr.hold then s
    else if e - e / 100 ≤ n && n ≤ e + e / 100 then
      if s1.clockGood d || !s1.on CHK.REF_GOOD then s1
      else (State.showClocks ((s1.wr CHK.CLK_GOOD (withBit (s1.rd CHK.CLK_GOOD) d true)).raise CHK.INT_CLK_GOOD)).deassertReset 7 d
    else s1.clockLost d)

/-- No edge of XTAL (none) or of a domain clock for 32 sentinel cycles (R467, R468). -/
def execClockEdgeTimeout (domain : Option (Fin 6)) (s : State) : Host.Outcome State Fault Refusal :=
  done (if !s.runs pCHK || s.pwr.hold then s
    else match domain with
      | none => s.refLost
      | some d => s.clockLost d)

/-- A PLL locks; CLK lies in the PLLs' own power domain (R466). -/
def execPllLock (domain : Fin 6) (s : State) : Host.Outcome State Fault Refusal :=
  done (if s.isOff pCLK then s else State.showClocks (s.wr CLK.PLL_LOCK (withBit (s.rd CLK.PLL_LOCK) domain true)))

/-- A PLL loses lock and is restarted: UNLOCK, and clock-good falls at once (R466, R468). -/
def execPllUnlock (domain : Fin 6) (s : State) : Host.Outcome State Fault Refusal :=
  let d : Nat := domain
  done (if s.isOff pCLK || !bit (s.rd CLK.PLL_LOCK) d then s
    else
      let s1 := s.wr CLK.PLL_LOCK (withBit (s.rd CLK.PLL_LOCK) d false)
      let s2 := if s1.runs pCLK then ((s1.count (CLK.UNLOCKS d) 1).raise CLK.INT_UNLOCK).fault pCLK 0 else s1
      (if s2.pwr.hold then s2.keep (.unlock d) else if s2.runs pCHK then s2.clockLost d else s2).showClocks)

/-! ### Sources (R471 to R473) -/

/-- POWER_ON: asserted while the sentinel rail is below its threshold; it clears the ledger, which it then begins (R476), and
no comparator or switch-over survives it. -/
def State.powerLost (s : State) : State :=
  let s1 := (((s.wr RST.EPISODES 0).wr PWR.RAIL_GOOD 0).put PWR.A_PRESENT false).put PWR.B_PRESENT false
  let s2 : State := { s1 with rst.ledger := [], rst.episodes := [], pwr.hold := false, pwr.held := [] }
  (s2.assertReset ⟨0, 0, false⟩ 0 [] none).assertReset ⟨2, 0, false⟩ 1 [] none

def execPowerOn (above : Bool) (s : State) : Host.Outcome State Fault Refusal :=
  done (if above then s.deassertReset 0 0 else s.powerLost)

def execBrownoutSen (s : State) : Host.Outcome State Fault Refusal := done (s.assertReset ⟨1, 0, false⟩ 0 [] none)

def execBrownoutSenDeassert (s : State) : Host.Outcome State Fault Refusal := done (s.deassertReset 1 0)

/-- RESET_N has held a level for 1 µs. -/
def execResetPin (low : Bool) (s : State) : Host.Outcome State Fault Refusal :=
  let s1 : State := { s with pins.resetN := !low }
  done (if low then s1.assertReset ⟨3, 0, false⟩ 0 [] none else s1.deassertReset 3 0)

/-- The watchdog counts while WDOG_EN is 1 and the host core is out of reset (R473). -/
def execWatchdogExpiry (s : State) : Host.Outcome State Fault Refusal :=
  done (if !s.runs pRST || !s.on RST.WDOG_EN || !s.runs pHCP || s.pwr.hold then s
    else
      let s1 := s.fault pRST 0
      if s.on RST.WDOG_REACH then s1.pulseReset 4 0 1 [] none else s1.pulseReset 4 0 2 (subtree pHCP) (some pHCP))

/-- A write of WDOG_KICK. -/
def State.wdogKick (s : State) (path : Path) (v : Nat) : State :=
  if path != .host then s.err (C.ERR_STATE pRST) else if v != 0xA5A then s.err (C.ERR_VALUE pRST) else s

def execWdogKick (path : Path) (value : Word) (s : State) : Host.Outcome State Fault Refusal :=
  done (s.writeSentinel path pRST 0x4C value.toNat fun s => s.wdogKick path value.toNat)

/-- A SUBTREE request that OPERATIONAL and DEGRADED refuse: its coverage holds a folio in service. A request that names a data
lane is the exception (R310, R472). -/
def State.serviceRefuses (s : State) (target : Nat) : Bool :=
  s.operating && !(0x14 ≤ target && target ≤ 0x17) && (subtree target).any s.inService

/-- A write of SW_REQ (R470, R472). -/
def State.swRequest (s : State) (path : Path) (v : Nat) : State :=
  let reach := bits v 30 2
  if reach = 3 then s.err (C.ERR_VALUE pRST)
  else if !bit v 29 then s
  else if reach = 2 then
    match resetTarget (bits v 0 24) with
    | none => s.err (C.ERR_VALUE pRST)
    | some p =>
      if s.serviceRefuses p then s.err (C.ERR_STATE pRST)
      else if s.swPulse then s.err (C.ERR_BUSY pRST)
      else s.pulseReset 5 8 2 (subtree p) (some p)
  else if !localPath path || s.operating then s.err (C.ERR_STATE pRST)
  else if s.swPulse then s.err (C.ERR_BUSY pRST)
  else s.pulseReset 5 8 reach [] none

def execSwReqGo (path : Path) (value : Word) (s : State) : Host.Outcome State Fault Refusal :=
  done (s.writeSentinel path pRST 0x40 value.toNat fun s => s.swRequest path value.toNat)

/-- A write of a HOLD slot (R472, R485): TARGET keeps its value while HOLD is 1. -/
def State.holdSlot (s : State) (i v : Nat) : State :=
  let t := bits v 0 24
  let held := s.on (RST.HOLD i)
  let s1 := if !held then s.wr (RST.HOLD_TARGET i) t else if t != s.rd (RST.HOLD_TARGET i) then s.err (C.ERR_BUSY pRST) else s
  if bit v 31 && !held then
    match resetTarget t with
    | none => s.err (C.ERR_VALUE pRST)
    | some p =>
      if s.serviceRefuses p then s.err (C.ERR_STATE pRST)
      else State.assertReset ((s1.put (RST.HOLD i) true).put (RST.SLOT_CLK_TMO i) false) ⟨5, i, false⟩ 2 (subtree p) (some p)
  else if !bit v 31 && held then (s1.put (RST.HOLD i) false).deassertReset 5 i
  else s1

def execHoldSlotWrite (path : Path) (slot : Fin 8) (value : Word) (s : State) : Host.Outcome State Fault Refusal :=
  done (s.writeSentinel path pRST (0x80 + 4 * slot) value.toNat fun s => s.holdSlot slot value.toNat)

def execHostLockup (s : State) : Host.Outcome State Fault Refusal :=
  done (if s.runs pHCP then s.pulseReset 8 0 2 (subtree pHCP) (some pHCP) else s)

end Sys2Proof.Machine
end

