-- ==== Sys2Proof/Machine/Power.lean ====
section
/-! DEFINITION. PWR (spec/17_power_feeds_and_domains.md): the rails, the sentinel feeds and their switch-over, the power domains
and parking. Comparators and timers arrive as commands. -/
namespace Sys2Proof.Machine
open Sys2Proof

/-! ### Rails (R442, R443) -/

/-- A rail-good bit changes; BROWNOUT_RAIL is asserted while any of the six reads 0 (R471). -/
def State.rail (s : State) (i : Nat) (good : Bool) : State :=
  let s1 := s.wr PWR.RAIL_GOOD (withBit (s.rd PWR.RAIL_GOOD) i good)
  if s1.rd PWR.RAIL_GOOD = 63 then s1.deassertReset 2 0 else s1.assertReset ⟨2, 0, false⟩ 1 [] none

def execRailGood (rail : Fin 6) (s : State) : Host.Outcome State Fault Refusal :=
  done (s.ungated fun s => s.rail rail true)

def execRailLost (rail : Fin 6) (s : State) : Host.Outcome State Fault Refusal :=
  done (s.ungated fun s => s.rail rail false)

/-! ### The sentinel feeds (R444 to R450) -/

/-- Presence of a regulator's feed: 0 A, 1 B. -/
def State.present (s : State) (feed : Nat) : Bool := s.on (if feed = 0 then PWR.A_PRESENT else PWR.B_PRESENT)

def execFeedPresenceChange (feedB present : Bool) (s : State) : Host.Outcome State Fault Refusal :=
  done (s.ungated fun s => s.put (if feedB then PWR.B_PRESENT else PWR.A_PRESENT) present)

/-- The standby feed has read absent for 100 ms. -/
def execStandbyAbsent (s : State) : Host.Outcome State Fault Refusal :=
  done (if s.runs pPWR && !s.pwr.hold && !s.present (1 - s.rd PWR.FEED_ACTIVE) then ((s.raise PWR.INT_STANDBY_ABSENT).fault pPWR 1).degrade else s)

/-- ON_STANDBY and its fault follow the active regulator (R449). -/
def State.showFeed (s : State) : State :=
  let standby := s.rd PWR.FEED_ACTIVE != s.rd PWR.PRIMARY
  let s1 := s.put PWR.ST_ON_STANDBY standby
  if standby then (s1.fault pPWR 0).degrade else s1

/-- The decision to switch over: HOLD is asserted and the inhibit latch sets (R445, R446, R420). -/
def State.switchFeed (s : State) : State :=
  let other := 1 - s.rd PWR.FEED_ACTIVE
  let s1 : State := { s with pwr.hold := true, pwr.back := decide (other = s.rd PWR.PRIMARY) }
  (s1.wr PWR.FEED_ACTIVE other).inhibit.safOutputs

/-- FEED_SWITCHOVER: the active regulator's output sags below the standby's. -/
def execFeedSwitchover (s : State) : Host.Outcome State Fault Refusal :=
  done (if !s.runs pPWR || s.pwr.hold then s else s.switchFeed)

/-- FEED_RETURN: the primary has stayed in range for RETURN_MS. After FLAP no return is made until 10 s have passed without a
switch-over. FREE VALUE (log 7): whether they have. -/
def execFeedReturn (s : State) : Host.Outcome State Fault Refusal :=
  let waits := s.pwr.flapped && s.freeVal 0 % 2 = 0
  done (if !s.runs pPWR || s.pwr.hold || s.rd PWR.FEED_ACTIVE = s.rd PWR.PRIMARY then s
    else if waits then s.drew 1
    else State.switchFeed { s.drew 1 with pwr.flapped := false })

/-- PWR's commit check: PRIMARY does not change in OPERATIONAL and DEGRADED (R450). -/
def State.pwrRefuses (s : State) : Bool := s.operating && s.rdT PWR.PRIMARY != s.rd PWR.PRIMARY

/-- A commit applies in PWR: a changed PRIMARY whose feed is healthy switches at once (R450). -/
def State.applyPwr (s : State) : State :=
  let old := s.rd PWR.PRIMARY
  let s1 := s.applyStaged pPWR
  let now := s1.rd PWR.PRIMARY
  if now = old then s1
  else if s1.rd PWR.FEED_ACTIVE != now && s1.present now && !s1.pwr.hold then s1.switchFeed
  else s1.showFeed

/-! ### Domains (R453 to R458) -/

/-- A domain is switched on: its units are due for release once their clocks are good (R454). -/
def State.switchOn (s : State) (d : Nat) (command : Bool) : State :=
  (s.put (PWR.DOM_ON d) true).dueDomain d (if command then none else s.rst.sequence) [] (List.range folioCount)

/-- A domain is switched off: its units are reset and its memories lost (R455). -/
def State.switchOff (s : State) (d : Nat) : State :=
  let s1 := s.resetPages false (pagesOfDomain d)
  let s2 : State := if 116 ≤ d && d ≤ 131 then { s1 with stackMem := s1.stackMem.filter fun e => e.1 / 0x1000 % 16 != d - 116 } else s1
  let s3 := if d = 150 then s2.pllsOff else s2
  (s3.put (PWR.DOM_ON d) false).showRst

/-- R456: a domain that PWR does not switch off in the present state. -/
def State.offRefused (s : State) (d : Nat) : Bool :=
  let named := (105 ≤ d && d ≤ 115 && (secChannels (d - 105)).any fun c => (s.rowOf c).isSome) || (72 ≤ d && d ≤ 104)
    || (116 ≤ d && d ≤ 131) || d = 142 || (d = 138 && s.closed) || ((d = 139 || d = 140 || d = 141) && s.on CONVH.ST_RUNNING)
  let lane := 132 ≤ d && d ≤ 137
    && !((s.laneState (d - 132) = lsDown || s.laneState (d - 132) = lsRemoved) && !s.on (LANE.ENABLE (d - 132)))
  d = 150 || d = 151 || lane || (s.operating && (named || (pagesOfDomain d).any s.unitInService))

/-- The domains that a command names, in the order in which they switch on; none for a target that does not exist. -/
def commandDomains (v : Nat) : Option (List Nat) :=
  let t := bits v 0 24
  if !bit v 30 then (if t ≤ 151 then some [t] else none)
  else if t % 0x1000 = 0 && t / 0x1000 < folioCount then
    let ds := (leaves (t / 0x1000)).map domainOf
    some ((powerOrder ++ [151]).filter fun d => ds.contains d)
  else none

/-- A command's last turn is over: its result (R462, R463). -/
def State.commandEnds (s : State) : State :=
  if s.pwr.turns.any (·.command) then s
  else
    let s1 := (s.put PWR.CMD_BUSY false).put PWR.ST_CMD_BUSY false
    let s2 := if s.pwr.failed then s1.wr PWR.CMD_RESULT 3 else (s1.wr PWR.CMD_RESULT 1).raise PWR.INT_DOM_DONE
    let s3 := if s.pwr.parking then s2.put PWR.ST_PARKED true else s2
    { s3 with pwr.parking := false, pwr.failed := false }

/-- A command is accepted: its turns join the queue. -/
def State.commandStarts (s : State) (turns : List Turn) : State :=
  let s1 := (((s.put PWR.CMD_BUSY true).put PWR.ST_CMD_BUSY true).wr PWR.CMD_RESULT 0).wr PWR.REFUSED_DOMAIN 0xFF
  State.commandEnds { s1 with pwr.turns := s1.pwr.turns ++ turns, pwr.failed := false }

/-- A refused command (R456). -/
def State.commandRefused (s : State) (d : Nat) : State :=
  let s1 := ((s.err (C.ERR_STATE pPWR)).raise PWR.INT_DOM_REFUSED).wr PWR.CMD_RESULT 2
  let s2 := s1.wr PWR.REFUSED_DOMAIN d
  if 150 ≤ d then s2.err (C.ERR_VALUE pPWR) else s2

/-- A write of the command word (R457). -/
def State.pwrCommand (s : State) (v : Nat) : State :=
  if s.on PWR.CMD_BUSY then s.err (C.ERR_BUSY pPWR)
  else match commandDomains v with
    | none => s.err (C.ERR_VALUE pPWR)
    | some ds =>
      if bit v 31 then s.commandStarts ((ds.filter fun d => !s.domOn d).map fun d => ⟨d, true, true⟩)
      else match ds.reverse.find? s.offRefused with
        | some d => s.commandRefused d
        | none => s.commandStarts ((ds.reverse.filter s.domOn).map fun d => ⟨d, false, true⟩)

def execDomainOn (path : Path) (value : Word) (s : State) : Host.Outcome State Fault Refusal :=
  done (s.writeSentinel path pPWR 0x40 value.toNat fun s => s.pwrCommand value.toNat)

def execDomainOff (path : Path) (value : Word) (s : State) : Host.Outcome State Fault Refusal :=
  done (s.writeSentinel path pPWR 0x40 value.toNat fun s => s.pwrCommand value.toNat)

/-- A domain's rail is not good in time (R454). -/
def State.turnFails (s : State) (t : Turn) : State :=
  let s1 := (s.setFaults (pageOfDomain t.domain) (2 ^ 29)).raise PWR.INT_DOM_FAIL
  if t.command then
    { (if s.pwr.failed then s1 else s1.wr PWR.REFUSED_DOMAIN t.domain) with pwr.failed := true }
  else s1

/-- DOMAIN_TURN: the next turn runs. In the NVS domain it waits for a write pulse to end (R455). -/
def execDomainTurn (railOk : Bool) (s : State) : Host.Outcome State Fault Refusal :=
  done (if !s.runs pPWR || s.pwr.hold then s
    else match s.pwr.turns with
      | [] => s
      | t :: rest =>
        if !t.on && t.domain = 148 && s.nvs.pulse then s
        else
          let s1 : State := { (s.wr PWR.CMD_DOMAIN t.domain) with pwr.turns := rest }
          let s2 := if t.on = s1.domOn t.domain then s1
            else if !t.on then s1.switchOff t.domain
            else if railOk then s1.switchOn t.domain t.command
            else s1.turnFails t
          if t.command then s2.commandEnds else s2)

/-! ### Parking (R459, R460) -/

/-- A write of 1 to PARK: every switchable domain goes off, fabric last. -/
def State.park (s : State) : State :=
  if s.on PWR.CMD_BUSY then s.err (C.ERR_BUSY pPWR)
  else if s.safety != sfInit && s.safety != sfSafeHold then s.err (C.ERR_STATE pPWR)
  else State.commandStarts { s with pwr.parking := true } ((powerOrder.reverse.filter s.domOn).map fun d => ⟨d, false, true⟩)

/-- A write of the word that holds PARK and the wake settings. -/
def State.parkWord (s : State) (v : Nat) : State :=
  let s1 := ((s.wrS PWR.WAKE_SPI (bits v 30 1)).wrS PWR.WAKE_MON (bits v 29 1)).wrS PWR.WAKE_S (bits v 0 16)
  if bit v 31 then s1.park else s1

def execPark (path : Path) (value : Word) (s : State) : Host.Outcome State Fault Refusal :=
  done (s.writeSentinel path pPWR 0x48 value.toNat fun s => s.parkWord value.toNat)

/-- A wake: a SYSTEM episode with cause WAKE. -/
def State.wake (s : State) : State := (s.put PWR.ST_PARKED false).pulseReset 9 0 1 [] none

/-- SPI_CS_N or MON_RX has stayed low for 1 µs. -/
def execWakePin (monRx : Bool) (s : State) : Host.Outcome State Fault Refusal :=
  done (s.ungated fun s => if s.on PWR.ST_PARKED && s.on (if monRx then PWR.WAKE_MON else PWR.WAKE_SPI) then s.wake else s)

def execWakeTimer (s : State) : Host.Outcome State Fault Refusal :=
  done (s.ungated fun s => if s.on PWR.ST_PARKED && s.rd PWR.WAKE_S != 0 then s.wake else s)

end Sys2Proof.Machine
end

