-- ==== Sys2Proof/Machine/Commit.lean ====
section
/-! DEFINITION. Halting (spec/02_folios_and_commit.md, R47 to R49) and the commit and snapshot engine of the catalogue (R50 to R59):
capture, check, boundaries, and what each folio does when its staged copy applies. -/
namespace Sys2Proof.Machine
open Sys2Proof

/-! ### Halting (R47) -/

/-- A halt or a resume waits in a folio. -/
def State.haltPending (s : State) (p : Nat) : Bool := s.on (C.HALT p) != s.on (C.HALTED p)

/-- A block that is at a sample boundary whenever nothing of a shot or a handler runs in it: EMT between shots (R95), a section
or a bank while no window is open (R120, R123), an idle engine (R210). Every other block's boundary comes as a command. -/
def State.atBoundary (s : State) (p : Nat) : Bool :=
  if p = pEMT then !s.inShot
  else if 0x26 ≤ p && p ≤ 0x51 then !(s.acq.shot.any (·.windowOpen))
  else if 0x6F ≤ p then (s.engine (p - 0x6F)).running.isNone
  else true

/-- A block whose boundary is at hand as soon as it is idle. -/
def idlesAtBoundary (p : Nat) : Bool := p = pEMT || (0x26 ≤ p && p ≤ 0x51) || 0x6F ≤ p

/-- What a unit does as it halts. -/
def State.unitHalts (s : State) (p : Nat) : State :=
  if p = pSCN then s.scnHalted
  else if 0x6F ≤ p then s.reHalted (p - 0x6F)
  else if p = pCAL then { s with
    cal.sessions := s.cal.sessions.map fun (x : Session) => { x with abort := true }
    cal.timSessions := s.cal.timSessions.map fun (x : Session) => { x with abort := true } }
  else if p = pLMP then s.lampPins true
  else if p = pCONVH && s.on CONVH.ST_RUNNING then s.thmStopped
  else s

/-- What a unit does as it resumes. -/
def State.unitResumes (s : State) (p : Nat) : State :=
  if p = pSCN then s.scnResumed else if 0x6F ≤ p then s.reResumed (p - 0x6F) else s

/-- The block stops or resumes; RWH values take effect on resumption. -/
def State.takeHalt (s : State) (p : Nat) : State :=
  if !s.haltPending p || !s.runs p || isGroup p then s
  else if s.on (C.HALT p) then (s.put (C.HALTED p) true).unitHalts p
  else ((s.put (C.HALTED p) false).applyHeld p).unitResumes p

/-- HALT_TAKE_EFFECT: a sample boundary of the block. -/
def execHaltTakeEffect (page : Fin 183) (s : State) : Host.Outcome State Fault Refusal :=
  done (if s.atBoundary page then s.takeHalt page else s)

/-! ### Requests and the check (R50, R51) -/

/-- NBINS for SPAN, WIN_Q and BINSEL (R156). -/
def nbins (span winQ binsel : Nat) : Nat :=
  let d := 4 * span + (16 * winQ + 4) / 5
  (d + 2 ^ binsel - 1) / 2 ^ binsel

/-- A channel that a health check has flagged (R117, R134). -/
def State.unhealthy (s : State) (c : Nat) : Bool :=
  let j := secOf c
  let i := idxOf c
  s.on (DET.HOT_LIMIT j i) || s.on (DET.DEAD j i) || s.on (DET.GATE_STUCK j i) || s.on (BANK.TAP_DEAD (c / 16) (c % 16))
    || s.on (BANK.TAP_WIDE (c / 16) (c % 16))

/-- ACQ's commit check (R117, R154), times in TDC cycles. -/
def State.acqRefuses (s : State) : Bool :=
  let t := s.rdT
  let total := 800 * t ACQ.FRAME_DELAY + (t ACQ.NCOL - 1) * t ACQ.COL_PERIOD + 10000 + 800 * t ACQ.FLYBACK_MIN
  t ACQ.TRIG_EN = 0 || (t ACQ.SYNC_MASTER = 1 && bit (t ACQ.TRIG_EN) 1) || 800 * 39800 < total
    || (bit (t ACQ.TRIG_EN) 2 && 800 * t ACQ.FRAME_PERIOD < total)
    || 2048 < nbins (t EMT.SPAN) (t ACQ.WIN_Q) (t ACQ.BINSEL)
    || 528 < t ACQ.RAW_FIRST + t ACQ.RAW_COUNT || t ACQ.RR_HIGH ≤ t ACQ.RR_LOW || t ACQ.RR_CEIL < t ACQ.RR_FLOOR
    || (List.range 528).any fun c => (rowUnder t c).isSome && (rowUnder s.rd c).isNone && s.unhealthy c

/-- A folio's own consistency check of its staged copy: true refuses. -/
def State.refuses (s : State) (p : Nat) : Bool :=
  if p = pEMT then s.emtRefuses
  else if p = pACQ then s.acqRefuses
  else if p = 7 then s.vexRefuses
  else if 0x26 ≤ p && p ≤ 0x30 then s.sectionRefuses (p - 0x26)
  else if p = pSCN then s.scnRefuses
  else if p = pCAL then s.calRefuses
  else if p = pSAF then s.safRefuses
  else false

/-- A folio refuses for the safety state. -/
def State.refusesState (s : State) (p : Nat) : Bool :=
  if p = pSAF then s.safRefusesState else if p = pPWR then s.pwrRefuses else false

/-- The folios that refuse. -/
def State.refusers (s : State) : List Nat :=
  (List.range folioCount).filter fun p => s.runs p && (s.refuses p || s.refusesState p)

/-- A write of 1 to COMMIT: every folio copies its shadow into its staged copy and REFUSED clears. -/
def State.commit (s : State) : State :=
  if s.on CAT.CHECKING || s.on CAT.CAT_STAGED then s.err (C.ERR_BUSY 0)
  else
    let s1 := (List.range folioCount).foldl (fun s p => s.put (C.REFUSED p) false) s
    { s1.put CAT.CHECKING true with regs.staged := s1.regs.shadow }

/-- A write of 1 to ABORT (R51). The staged commit can be discarded until the boundary strobe reaches the catalogue. -/
def State.abort (s : State) : State :=
  if s.on CAT.CHECKING then { s with cat.abortPending := true }
  else if s.on CAT.CAT_STAGED && !s.cat.applying then s.discardCommit 3
  else s.err (C.ERR_BUSY 0)

/-- A write of 1 to SNAP: a new request, or one that joins the capture in progress (R59). DESIGN CHOICE (log 19): SNAP_MERGED stays
at 0xFFFF; the spec does not say what a further request makes of it. -/
def State.snapRequest (s : State) : State :=
  if s.on CAT.SNAP_BUSY then s.count CAT.SNAP_MERGED 1
  else { (s.put CAT.SNAP_BUSY true).wr CAT.SNAP_MERGED 0 with cat.snapWaiting := true }

def execCommit (path : Path) (s : State) : Host.Outcome State Fault Refusal :=
  let _ := path
  done (s.writeTo 0 State.commit)

def execAbort (path : Path) (s : State) : Host.Outcome State Fault Refusal :=
  let _ := path
  done (s.writeTo 0 State.abort)

def execSnap (path : Path) (s : State) : Host.Outcome State Fault Refusal :=
  let _ := path
  done (s.writeTo 0 State.snapRequest)

/-- A refused commit (R50 step 4): cause 4 takes precedence. CAL says of a table that fails its check (R368). -/
def State.refuseCommit (s : State) (by_ : List Nat) : State :=
  let cause := if by_.any s.refusesState then 4 else 1
  let s1 := by_.foldl (fun s p => (s.put (C.REFUSED p) true).err (C.ERR_VALUE p)) s
  State.discardCommit (if by_.contains pCAL then s1.fault pCAL 1 else s1) cause

/-- A commit that passes its check (R50 step 5): every folio that runs holds its staged copy. -/
def State.stageCommit (s : State) : State :=
  let s1 := ((s.put CAT.CHECKING false).put CAT.CAT_STAGED true).wr CAT.GEN_STAGED (s.rd CAT.GEN_ACTIVE + 1)
  (List.range folioCount).foldl (fun s p => if s.runs p then s.put (C.STAGED p) true else s) s1

/-- COMMIT_CHECK_DONE: refusal, discard after an ABORT, or staging. -/
def execCommitCheckDone (s : State) : Host.Outcome State Fault Refusal :=
  done (if !s.on CAT.CHECKING then s
    else if s.refusers != [] then s.refuseCommit s.refusers
    else if s.cat.abortPending then s.discardCommit 3
    else s.stageCommit)

/-! ### What a folio does as its staged copy applies -/

/-- A pin source is enabled. -/
def State.pinEnabled (s : State) : Bool := s.rd ACQ.TRIG_EN % 4 != 0

/-- The frame timer acts: enabled, and either alone or as fallback. -/
def State.timerActs (s : State) : Bool :=
  s.on ACQ.RUN && bit (s.rd ACQ.TRIG_EN) 2 && (!s.pinEnabled || s.on ACQ.ST_SYNC_LOST)

/-- FALLBACK: the timer acts beside a pin source that is lost. A trigger of a timer that no longer acts waits no longer (R151). -/
def State.showFallback (s : State) : State :=
  { s.put ACQ.ST_FALLBACK (s.pinEnabled && bit (s.rd ACQ.TRIG_EN) 2 && s.on ACQ.ST_SYNC_LOST) with
    acq.timerPending := s.acq.timerPending && s.timerActs }

/-- SYNC_LOST ends, and with it the condition of NO_FRAMES (R152). -/
def State.syncFound (s : State) : State :=
  State.degrade (State.showFallback { s.put ACQ.ST_SYNC_LOST false with acq.noFrames := false })

/-- ACQ applies: the sources of triggers (R152), NBINS (R156), and the repair map, which ends the calibration of the channels it
takes out of service and asks for that of those it brings in (R35, R376). -/
def State.applyAcq (s : State) : State :=
  let s1 := s.applyStaged pACQ
  let s3 := if s1.rd ACQ.TRIG_EN % 4 = 0 then s1.syncFound else s1.showFallback
  let s4 := s3.wr ACQ.NBINS (nbins (s3.rd EMT.SPAN) (s3.rd ACQ.WIN_Q) (s3.rd ACQ.BINSEL))
  let out := (List.range 528).filter fun c => (s.rowOf c).isSome && (s4.rowOf c).isNone
  let in_ := (List.range 528).filter fun c => (s.rowOf c).isNone && (s4.rowOf c).isSome
  { s4 with
    cal.sessions := s4.cal.sessions.map fun (x : Session) => if out.contains x.chan then { x with abort := true } else x
    cal.priority := (s4.cal.priority.filter fun c => !out.contains c) ++ in_ }

/-- EMT applies; TIM0_EMT shows MPD_EN in force (R143). -/
def State.applyEmtFolio (s : State) : State := let s1 := s.applyEmt; s1.put TIM.ST_TIM0_EMT (s1.on EMT.MPD_EN)

/-- SAF applies: PROX_N is driven from here on (R419), the contactor feedback takes its polarity, and AUTO_OPER makes its attempt
(R401). -/
def State.applySaf (s : State) : State :=
  let s1 : State := { s.applyStaged pSAF with saf.committed := true }
  let s2 := (s1.put SAF.CTR_FB_CLOSED (s1.saf.rawFb != s1.on SAF.CTR_FB_POL)).contactorSettled
  if s2.saf.autoTried then s2 else s2.autoOper

/-- A folio applies its staged copy (R50). -/
def State.applyPage (s : State) (p : Nat) : State :=
  if p = pEMT then s.applyEmtFolio
  else if 0x26 ≤ p && p ≤ 0x30 then s.applySection (p - 0x26)
  else if p = pTIM then s.applyTim
  else if p = pACQ then s.applyAcq
  else if p = pSCN then (s.applyStaged pSCN).scnApplied (s.rd SCN.MODE)
  else if p = pPWR then s.applyPwr
  else if p = pCAL then s.applyCalStaged
  else if p = pLMP then s.applyLmp
  else if p = pSAF then s.applySaf
  else s.applyStaged p

/-- A folio that holds staged values, past their boundary, applies; one of the sentinel domain once its clock runs (R447). -/
def State.applyNow (s : State) (p : Nat) : State :=
  if !s.cat.applying || !s.on (C.STAGED p) then s
  else if s.pwr.hold && domainOf p = 151 then s.keep (.apply p)
  else (s.applyPage p).applied p

/-! ### Boundaries (R27, R28, R50, R54) -/

/-- The units of the TDC domain, which the boundary reaches without a crossing (R25); the stacks banks, which it writes, among them. -/
def tdcPages : List Nat := [pEMT] ++ List.range' 0x26 11 ++ List.range' 0x31 33 ++ [pTIM, pACQ] ++ List.range' 0x53 16

/-- The folios whose blocks work on shots after ACQ: the RE and PCA groups and all beneath them. -/
def holdsShots (p : Nat) : Bool := p = 0xB || p = 0xC || (0x63 ≤ p && p ≤ 0x6D) || 0x6F ≤ p

/-- A folio of the engines or PCA at the boundary: it shows APPLYING while shots of the old generation are in it. -/
def State.holdOrApply (s : State) (p : Nat) : State :=
  if !s.on (C.STAGED p) then s
  else if s.holdsOld p then (s.put (C.STAGED p) false).put (C.APPLYING p) true
  else (s.applyPage p).applied p

/-- A staged commit's boundary (R50 step 6): the generation advances, the folios of the TDC domain apply, those that hold shots
apply or show APPLYING, and those with nothing staged take the generation. -/
def State.commitBoundary (s : State) : State :=
  if !s.on CAT.CAT_STAGED || s.cat.applying then s
  else
    let s1 : State := { s.wr CAT.GEN_ACTIVE (s.rd CAT.GEN_STAGED) with cat.applying := true }
    let all := List.range folioCount
    let s2 := all.foldl (fun s p => if s.on (C.STAGED p) || !s.runs p then s else s.wr (C.GEN_LOW p) (s.rd CAT.GEN_ACTIVE)) s1
    let s3 := tdcPages.foldl State.applyNow s2
    ((all.filter holdsShots).foldl State.holdOrApply s3).finishCommit

/-- What R58 copies. -/
def State.image (s : State) : Snapshot :=
  { regs := s.regs, cat := s.cat, acq := s.acq, emt := s.emt, det := s.det, engines := s.engines, prox := s.prox, pca := s.pca
    lnk := s.lnk, scn := s.scn, sense := s.sense, thm := s.thm, cal := s.cal, saf := s.saf, lmp := s.lmp, pwr := s.pwr
    rst := s.rst, sec := s.sec, nvs := s.nvs, mon := s.mon, free := s.free }

/-- A waiting snapshot's boundary: every folio copies its status (R30, R58). -/
def State.snapBoundary (s : State) (accession : Word) (shot : Nat) : State :=
  if s.cat.snapWaiting then
    { s.drew 1 with snap := s.image, cat.snapWaiting := false, cat.snapCapturing := true, cat.snapAccession := accession, cat.snapShot := shot }
  else s

/-- SNAPSHOT_CAPTURE: the folios have copied. -/
def execSnapshotCapture (s : State) : Host.Outcome State Fault Refusal :=
  done (if !s.cat.snapCapturing then s
    else
      let s1 := ((s.put CAT.SNAP_BUSY false).put CAT.SNAP_VALID true).raise CAT.INT_SNAP_DONE
      let s2 := (s1.wr CAT.SNAP_ACCESSION s.cat.snapAccession.toNat).wr CAT.SNAP_SHOT s.cat.snapShot
      State.snapAnswer { s2 with cat.snapCapturing := false })

/-- The strobe reaches a folio in its domain: SCN's profile ends, and a staged copy applies. -/
def State.strobe (s : State) (p : Nat) : State :=
  let s1 := if p = pSCN && s.runs pSCN then s.scnBoundary else s
  s1.applyNow p

/-- The clock domains outside the TDC domain as the strobe reaches them: the folios that share a unit's clock, those aside that the
boundary reaches in the TDC domain and those that wait for their shots. -/
def strobePages (page : Nat) : List Nat :=
  (List.range folioCount).filter fun p => clocksOf p = clocksOf page && !tdcPages.contains p && !holdsShots p

/-- The level is clamped into the range in force, and shows (R167). -/
def State.clampRate (s : State) : State :=
  let n := min (max s.acq.rrNext (s.rd ACQ.RR_FLOOR)) (s.rd ACQ.RR_CEIL)
  let s1 := if n = s.acq.rrNext then s else State.raise { s with acq.rrNext := n } ACQ.INT_RR_CHANGE
  (s1.wr ACQ.RR_LEVEL n).wr ACQ.ST_RR_LEVEL n

/-- A string-skew measurement that waits for a boundary begins (R378). -/
def State.strskBegin (s : State) : State :=
  if s.cal.strskArmed then { s with cal.strskArmed := false, cal.strskLeft := 8 * s.rd CAL.STRSK_SHOTS } else s

/-- The strobe of a frame boundary reaches the fabric, where the catalogue stands (R27, R51): a commit whose check has passed by
now applies, and what follows it at a boundary: trims, the level of the next frame, CAL's values and sessions. DEDUCED (log 19):
the folios of the TDC domain apply with it, before the next frame can open. -/
def State.boundaryReached (s : State) : State :=
  if !s.cat.boundaryDue then s
  else
    let s1 := State.commitBoundary { s with cat.boundaryDue := false, cat.early := [] }
    let s2 := s.cat.early.foldl State.applyNow s1
    ((List.range 11).foldl State.trimBoundary s2).clampRate.calFrame.strskBegin

/-- FRAME_BOUNDARY_STROBE: the strobe arrives in the clock domain of a unit, and so in every folio of that domain (R25). A domain
that it reaches before the fabric applies with the fabric. -/
def execFrameBoundaryStrobe (page : Fin 183) (s : State) : Host.Outcome State Fault Refusal :=
  let there := strobePages page
  let s1 := if clocksOf page = [3] then s.boundaryReached
    else if s.cat.boundaryDue then { s with cat.early := s.cat.early ++ there.filter fun p => !s.cat.early.contains p }
    else s
  done ((there.foldl State.strobe s1).finishCommit)

/-- LEDGER_OUTPUT: the record of the oldest closed frame enters the buffer, and with the last one of the old generation PCA's folios
apply (R50 steps 7 and 8). -/
def execLedgerOutput (s : State) : Host.Outcome State Fault Refusal := done s.ledgerOutput

/-- IDLE_BOUNDARY: with no frame in acquisition a waiting snapshot is taken, and then a staged commit takes effect in every folio
(R54). DEDUCED (log 19): the copy shows the state before the boundary's own effects, here and at a shot boundary. -/
def execIdleBoundary (s : State) : Host.Outcome State Fault Refusal :=
  done (if s.inFrame || !s.runs pACQ then s
    else
      let s0 := s.boundaryReached
      let s1 := (s0.snapBoundary (s0.lastAccession.getD 0) 0xFFF).commitBoundary
      let s2 := ((List.range folioCount).foldl State.applyNow s1).finishCommit
      ((List.range 11).foldl State.trimBoundary s2).calIdle.clampRate.takeUp)

end Sys2Proof.Machine
end

