-- ==== Sys2Proof/WellFormed.lean ====
section
/-! DEFINITION. Which commands a sender can send at all. A command carries what was measured; a few carry lists, whose
lengths the spec fixes. A meaning that is given an ill-formed command stops with Fault.illFormed. -/
namespace Sys2Proof

/-- The operand lists of a command have the lengths that the spec fixes. -/
def Instr.wf : Instr → Bool
  /- 24 die sensors, TS 0 to TS 23 (R384). -/
  | .slotPeriodStart sensors => sensors.length = 24
  | .thmTimerRead sensors => sensors.length = 24
  /- A REGISTER write carries 1 to 16 values (R299). -/
  | .registerWriteRequest _ _ values => 1 ≤ values.length && values.length ≤ 16
  /- A PAIR packet carries one position per pulse, at most eight (R303). -/
  | .pairPacketReceived _ _ _ _ code => code.length ≤ 8
  | _ => true

end Sys2Proof
end

