-- ==== Sys2Proof/Machine/Grid.lean ====
section
/-! DEFINITION. Frame triggers (spec/06_acquisition_and_stacks.md, R147 to R154; the pair trigger of R303 to R305): their
conditions, what an accepted trigger opens, SYNC_LOST, and the frame's burst code (R80). An event that a timer brings implies
the time it has run (log 2). -/
namespace Sys2Proof.Machine
open Sys2Proof

/-! ### The conditions of a trigger (R149 to R151) -/

/-- At least `us` µs have passed since an instant, if there is one. -/
def State.passed (s : State) (since : Option Nat) (us : Nat) : Bool :=
  match since with
  | some t => t + 800 * us ≤ s.acq.time.toNat
  | none => true

/-- The conditions of time of R149 for a sample that meets some sources: FLYBACK_MIN since the last frame boundary, and 39,800 µs since the
last trigger unless the event implies them. They count as met for the timer's first trigger after RUN was set, and where there was no
trigger or boundary before (R151). -/
def State.timeMet (s : State) (met : Nat) (implied : Bool) : Bool :=
  (bit met 2 && !s.acq.triggered)
    || (s.passed s.acq.lastBoundary (s.rd ACQ.FLYBACK_MIN) && (implied || s.passed s.acq.lastTrigger 39800))

/-- RUN is 1 and no frame is in acquisition (R149). -/
def State.mayOpen (s : State) : Bool := s.on ACQ.RUN && !s.inFrame

/-- The highest-priority source of a cause mask. -/
def causeSrc (cause : Nat) : Nat := ((List.range 4).find? (bit cause)).getD 3

/-! ### What an accepted trigger opens (R55, R145, R150, R183) -/

/-- Block k's repair map in the layout of R119. -/
def State.blockMap (s : State) (k : Nat) : Nat :=
  s.rd (ACQ.SLIDE_EN k) * 2 ^ 15 + s.rd (ACQ.SLIDE_POS k) * 2 ^ 8 + s.rd (ACQ.DROP_EN k) * 2 ^ 7 + s.rd (ACQ.DROP_POS k)

/-- The frame that a trigger opens. -/
def State.newFrame (s : State) (accession : Word) (cause : Nat) (stamp : DWord) : Frame :=
  { accession := accession, gen := BitVec.ofNat 32 (s.rd CAT.GEN_ACTIVE), cause := cause, src := causeSrc cause, stamp := stamp.toNat
    ncol := s.rd ACQ.NCOL, colPeriod := s.rd ACQ.COL_PERIOD, rrLevel := s.acq.rrNext, reduce := s.rd ACQ.REDUCE
    calSet := s.rd CAL.CAL_SET, nvsBlocked := !s.on WATCH.ST_NVS_OK, trimChanged := s.det.trimChanged
    engineMap := (List.range 64).map fun g => s.rd (REG.ENGINE_OF_RG g), channelMap := (List.range 16).map s.blockMap }

/-- The registers that a context page is filled from: the RE group's staged values, if it has still to apply them. -/
def State.pageRegs (s : State) : Store :=
  if s.cat.applying && (s.on (C.APPLYING pREG) || s.on (C.STAGED pREG)) then copyFlds s.regs.staged s.regs.cur (fieldsOf pREG .rws)
  else s.regs.cur

/-- The frame's context page is filled. -/
def State.fillPage (s : State) (f : Frame) : State :=
  let c : Context := { accession := f.accession, gen := f.gen, calSet := f.calSet, regs := s.pageRegs }
  { s with acq.pages := Tab.set {} s.acq.pages (f.accession.toNat % 2) c }

/-- FRAME_BEGIN is called in the engine of a row group, preceded under ABI 1.1 by CONFIG where the generation differs or the
engine is new to the row group (R195, R206). FREE VALUE (log 7): the old generation of an engine's first CONFIG. -/
def State.callFrame (s : State) (f : Frame) (g : Nat) : State :=
  let k := s.rd (REG.ENGINE_OF_RG g)
  let e := s.engine k
  if !s.canServe k then s
  else
    let begin_ : Call := { handler := .frameBegin, arg1 := f.accession, accession := f.accession, rg := g }
    let old := s.acq.lastGen.getD (BitVec.ofNat 32 (s.freeVal 0))
    let config : Call := { handler := .config, arg1 := f.gen, arg2 := old, accession := f.accession, rg := g }
    let asks := e.minor1 && (s.acq.lastGen != some f.gen || e.fresh)
    let s1 := s.setEngine k { e with calls := e.calls ++ (if asks then [config, begin_] else [begin_]), fresh := false }
    if asks && s.acq.lastGen.isNone then s1.drew 1 else s1

/-- What the capture of a trigger shows and starts. -/
def State.capture (s : State) (accession : Word) (cause : Nat) (stamp : DWord) : State :=
  let s1 := ((s.wr ACQ.LAST_CAUSE cause).wr ACQ.LAST_SRC (causeSrc cause)).raise ACQ.INT_FRAME_START
  let s2 := (s1.put ACQ.ST_ACQUIRING true).wr CAT.ACCESSION accession.toNat
  let ready := match s.emt.ready with
    | some r => if r.accession = accession then some r else none
    | none => none
  { s2 with
    lastAccession := some accession
    acq.lastStamp := stamp, acq.lastTrigger := some s.acq.time.toNat, acq.triggered := true, acq.inService := true, acq.timerPending := false
    acq.rawParity := false, acq.bus := s.acq.bus || s.on ACQ.SYNC_MASTER
    emt.ready := ready, emt.unfired := 0, emt.noref := 0, det.trimChanged := false
    lnk.pairSend := some (accession, stamp) }

/-- The stamp of a capture: the sample, less the synchroniser and the filter of a pin that is its highest-priority source (R150). -/
def State.stampOf (s : State) (cause : Nat) : DWord :=
  if causeSrc cause < 2 then s.acq.time - BitVec.ofNat 64 (2 + 8 * s.rd ACQ.FILT) else s.acq.time

/-- A trigger with a cause mask is accepted and opens a frame, a strobe of the last boundary that is still on its way having arrived
before. A waiting timer trigger joins it. -/
def State.acceptTrigger (s0 : State) (met : Nat) : State :=
  let s := s0.boundaryReached
  let cause := if s.acq.timerPending && s.timerActs then withBit met 2 true else met
  let stamp := s.stampOf cause
  let accession : Word := match s.lastAccession with
    | some a => a + 1
    | none => 0
  let f := s.newFrame accession cause stamp
  let s1 := (s.capture accession cause stamp).fillPage f
  let s2 : State := { s1 with acq.frame := some f }
  let s3 := (List.range 64).foldl (fun (a : State) g => a.callFrame f g) s2
  let s4 : State := State.pushHead { s3 with acq.lastGen := some f.gen }
  let s5 := if s4.runs pCAL && s4.staleFrom = 0 then s4.startSpan else s4
  if cause % 4 != 0 then s5.syncFound else s5

/-- A trigger that R149 ignores counts once; a timer trigger among its sources waits (R151). -/
def State.ignoreTrigger (s : State) (met : Nat) : State :=
  let s1 := (s.count ACQ.TRIG_IGNORED 1).raise ACQ.INT_TRIG_IGNORED
  if bit met 2 then { s1 with acq.timerPending := true } else s1

/-- The enabled sources of a sample's mask. -/
def State.enabledMet (s : State) (met : Nat) : Nat :=
  let m := met &&& s.rd ACQ.TRIG_EN
  if s.timerActs && !s.acq.timerPending then m else withBit m 2 false

/-- The frame in acquisition was opened by a capture at this very TIME: what meets its condition now meets it in the same sample (R150).
DEDUCED (log 20): commands between which TIME does not move act in one sample, until the frame's first shot has opened. -/
def State.sameSample (s : State) : Bool :=
  match s.acq.frame with
  | some f => f.next = 0 && s.acq.lastTrigger = some s.acq.time.toNat
  | none => false

/-- Sources that the capture of this sample has not told yet join it: its cause mask, LAST_SRC and its stamp follow (R150). -/
def State.joinCapture (s : State) (f : Frame) (met : Nat) : State :=
  let cause := f.cause ||| met
  let stamp := s.stampOf cause
  let s1 : State := { (s.wr ACQ.LAST_CAUSE cause).wr ACQ.LAST_SRC (causeSrc cause) with
    acq.frame := some { f with cause := cause, src := causeSrc cause, stamp := stamp.toNat }, acq.lastStamp := stamp
    lnk.pairSend := s.lnk.pairSend.map fun x => (x.1, stamp) }
  if met % 4 != 0 then s1.syncFound else s1

/-- A trigger that opens no frame: it joins the capture of its own sample, or is ignored. -/
def State.laterTrigger (s : State) (met : Nat) : State :=
  match s.acq.frame with
  | some f => if s.sameSample && met &&& f.cause != met then s.joinCapture f met else s.ignoreTrigger met
  | none => s.ignoreTrigger met

/-- A trigger sample: the sources that meet their condition in it, and whether the event implies 39,800 µs since the last trigger. -/
def State.triggerIf (s : State) (sources : Nat) (implied : Bool) : State :=
  let met := s.enabledMet sources
  if !s.runs pACQ || met = 0 then s
  else if s.mayOpen && s.timeMet met implied then s.acceptTrigger met
  else s.laterTrigger met

/-- A trigger sample. A timer trigger falls FRAME_PERIOD, 40,000 µs or more, after the last trigger. -/
def State.trigger (s : State) (sources : Nat) : State := s.triggerIf sources (bit (s.enabledMet sources) 2)

def execFrameSyncInEdge (also : BitVec 4) (s : State) : Host.Outcome State Fault Refusal := done (s.trigger (1 ||| also.toNat))

def execSyncBusEdge (also : BitVec 4) (s : State) : Host.Outcome State Fault Refusal := done (s.trigger (2 ||| also.toNat))

def execFrameTimer (s : State) : Host.Outcome State Fault Refusal := done (s.trigger 4)

def execSwTrig (path : Path) (s : State) : Host.Outcome State Fault Refusal :=
  let _ := path
  done (s.writeTo pACQ fun s => s.trigger 8)

/-- A waiting timer trigger is accepted in the first sample in which the conditions of R149 hold: by the event, those of time do. -/
def execPendingTriggerAccept (s : State) : Host.Outcome State Fault Refusal :=
  done (if s.runs pACQ && s.acq.timerPending && s.timerActs && s.mayOpen then s.acceptTrigger 4 else s)

/-- A write of RUN (R147, R152): clearing it is refused in OPERATIONAL and DEGRADED, and takes the grid out of service once the frame
in acquisition has closed (R95). -/
def State.writeRun (s : State) (on : Bool) : State :=
  if on = s.on ACQ.RUN then s
  else if on then { s.put ACQ.RUN true with acq.triggered := false, acq.timerPending := false }
  else if s.operating then s.err (C.ERR_STATE pACQ)
  else State.syncFound { s.put ACQ.RUN false with acq.inService := s.inFrame }

/-! ### SYNC_LOST and the pulses (R152, R153) -/

/-- SYNC_TMO, 41,000 µs or more, has passed without an accepted pin trigger: SYNC_LOST, and the timer fires as fallback in the same
sample. The event implies 39,800 µs since the last trigger where that came from a pin. -/
def execSyncLostTimeout (s : State) : Host.Outcome State Fault Refusal :=
  done (if !s.runs pACQ || !s.on ACQ.RUN || !s.pinEnabled || s.on ACQ.ST_SYNC_LOST then s
    else
      let s1 := ((s.put ACQ.ST_SYNC_LOST true).raise ACQ.INT_SYNC_LOST).showFallback
      let s2 := if bit (s.rd ACQ.TRIG_EN) 2 then s1 else State.degrade (State.fault { s1 with acq.noFrames := true } pACQ 0)
      s2.triggerIf 4 (s2.rd ACQ.LAST_CAUSE % 4 != 0))

def execFsoPulseEnd (bus : Bool) (s : State) : Host.Outcome State Fault Refusal :=
  done (if bus then { s with acq.bus := false } else { s with acq.fso := false })

/-! ### The burst code of a frame (R80) -/

/-- The frame whose code EMT computes next: the one in acquisition while its first shot has not opened and no code waits for it,
and the one after it from then on. -/
def State.codeWanted (s : State) : Option Word :=
  match s.acq.frame with
  | none => none
  | some f =>
    if 0 < f.next then some (f.accession + 1)
    else match s.emt.ready with
      | some r => if r.accession = f.accession then none else some f.accession
      | none => some f.accession

def execBurstCodeDone (s : State) : Host.Outcome State Fault Refusal :=
  done (match s.codeWanted with
    | some a => if s.runs pEMT then { s with emt.ready := some (s.codeFor a) } else s
    | none => s)

/-! ### Pairing (R303 to R305) -/

/-- The positions of a code as CODE_POS gives them: unused entries are 0x1FF. -/
def codePositions (code : List (BitVec 9)) : List Nat := (code.map BitVec.toNat).filter (· != 0x1FF)

/-- The number of pulse differences that two codes share. -/
def sharedDistances (a b : List Nat) : Nat := ((distances a).filter fun d => (distances b).contains d).length

/-- The code of the frame in acquisition, while EMT has one. -/
def State.ownCode (s : State) : List Nat :=
  match s.acq.frame with
  | none => []
  | some f =>
    if 0 < f.next then f.code
    else match s.emt.ready with
      | some r => if r.accession = f.accession then r.pos else []
      | none => []

/-- Shared differences count and raise (R305). -/
def State.codeClash (s : State) (code : List Nat) : State :=
  let n := sharedDistances code s.ownCode
  if n = 0 then s else (s.count (CTL.CODE_CLASH 1) n).raise (LANE.INT_CODE_CLASH 5)

/-- The first shot of a frame opens: its code is compared with a partner's code that still waits for one (R305). -/
def State.clashAtOpen (s : State) : State :=
  match s.lnk.partnerCode with
  | some c => State.codeClash { s with lnk.partnerCode := none } c
  | none => s

/-- A PAIR packet's code is compared with the code of the frame in acquisition. It waits for a further frame where there is none
with a code yet, or where the packet's own trigger is still to open one: DEDUCED (log 46), the frame in acquisition is then that
one. -/
def State.clashAtPacket (s : State) (code : List Nat) : State :=
  let s1 := s.codeClash code
  if s.ownCode = [] || s.lnk.pairAt.isSome then { s1 with lnk.partnerCode := some code } else { s1 with lnk.partnerCode := none }

/-- The instant of the pair trigger in the follower's own TIME (R304). -/
def State.pairInstant (s : State) (stamp depart arrival : DWord) : DWord :=
  arrival - BitVec.ofInt 64 (s.rdI (CTL.PAIR_LAT 1)) - (depart - stamp) + BitVec.ofNat 64 (s.rd (CTL.PHASE_DELAY 1))

/-- A follower's trigger: it waits for its instant, or comes at once where that has passed. -/
def State.followPair (s : State) (stamp depart arrival : DWord) : State :=
  let at_ := s.pairInstant stamp depart arrival
  if (at_ - s.acq.time).toInt < 0 then ((s.count (CTL.PHASE_LATE 1) 1).raise (LANE.INT_PAIR_LATE 5)).trigger 8
  else { s with lnk.pairAt := some at_ }

def execPairPacketReceived (accession : Word) (stamp depart arrival : DWord) (code : List (BitVec 9)) (s : State) :
    Host.Outcome State Fault Refusal :=
  let _ := accession
  if !(Instr.pairPacketReceived accession stamp depart arrival code).wf then .fault .illFormed
  else done (if s.laneState 5 != lsActive || s.pathVersion 2 != 3 then s
    else
      let s1 := State.showPair { s with lnk.pairSeen := true, lnk.pairSilent := 0 }
      let s2 := if !s.on (CTL.LEADER 1) && s.on (CTL.PAIR_TRIG 1) then s1.followPair stamp depart arrival else s1
      s2.clashAtPacket (codePositions code))

def execPairTrigger (s : State) : Host.Outcome State Fault Refusal :=
  done (match s.lnk.pairAt with
    | some _ => State.trigger { s with lnk.pairAt := none } 8
    | none => s)

end Sys2Proof.Machine
end

