-- ==== Sys2Proof/Machine/Prox.lean ====
section
/-! DEFINITION. The proximity combiner (R234, R235) and the coverage that it reports to SAF (R413 bits 34 and 35, R415). It lies
in the sentinel domain, whose clock stands still during a feed switch-over (R446, R447). -/
namespace Sys2Proof.Machine
open Sys2Proof

/-- PROX_EN of a row group. -/
def State.proxEnabled (s : State) (g : Nat) : Bool := bit (s.rd (SAF.PROX_EN (g / 32))) (g % 32)

/-- The number of set bits of a byte. -/
def popcount8 (m : Nat) : Nat := ((List.range 8).filter (bit m)).length

/-- Collection for a shot opens at its window close. -/
def State.proxOpen (s : State) (seq : Word) (last : Bool) : State :=
  { s with prox.collecting := true, prox.tag := seq.toNat % 256, prox.last := last, prox.accepted := [], prox.rows := 0 }

/-- The combiner accepts a word: VALIDATED, the tag of the shot whose collection runs, and the first of its row group. -/
def ProxState.takes (p : ProxState) (w : Word) : Bool :=
  p.collecting && bit w.toNat 31 && bits w.toNat 0 8 = p.tag && !p.accepted.contains (bits w.toNat 25 6)

/-- A word is accepted: its blind rows count for coverage, and its rows toward PROX_MIN_ROWS, for a row group in PROX_EN. -/
def State.proxAccept (s : State) (w : Word) : State :=
  let g := bits w.toNat 25 6
  let on := s.proxEnabled g
  let n := s.prox.rows + if on then popcount8 (bits w.toNat 16 8) else 0
  let blind := if on then popcount8 (bits w.toNat 8 8) else 0
  let p : ProxState := { s.prox with
    accepted := s.prox.accepted ++ [g], rows := n, blindFrame := s.prox.blindFrame + blind
    asserted := s.prox.asserted || s.rd SAF.PROX_MIN_ROWS ≤ n }
  State.safOutputs { s with prox := p }

/-- The oldest word reaches the combiner. -/
def execProxWordArrival (s : State) : Host.Outcome State Fault Refusal :=
  done (if s.pwr.hold then s
    else match s.prox.flight with
      | [] => s
      | w :: r =>
        if s.prox.takes w then State.proxAccept { s with prox.flight := r } w
        else { s with prox.flight := r, prox.discarded := s.prox.discarded + 1 })

/-- A frame's figures are complete: BLIND_LAST, MISS_LAST, and the causes PROX_LATE and COVERAGE of the closed frame. -/
def State.proxFrame (s : State) : State :=
  let enabled := ((List.range 64).filter s.proxEnabled).length
  let p := s.prox
  let breaks := decide (s.rd SAF.BLIND_LIM * (8 * enabled) * p.shotsFrame < 256 * p.blindFrame) || decide (s.rd SAF.MISS_LIM < p.missFrame)
  let late := p.lateRgs.any s.proxEnabled
  let s1 := (s.wr SAF.BLIND_LAST (min p.blindFrame 65535)).wr SAF.MISS_LAST (min p.missFrame 65535)
  let p1 : ProxState := { p with blindFrame := 0, missFrame := 0, shotsFrame := 0, lateRgs := [], last := false }
  State.degrade { s1 with prox := p1, saf.frameCauses := 4 * b2n late + 8 * b2n breaks }

/-- Collection closes: every enabled row group without an accepted word counts as missing and as eight blind rows. -/
def execProxCollectionClose (s : State) : Host.Outcome State Fault Refusal :=
  done (if s.pwr.hold || !s.prox.collecting then s
    else
      let missing := ((List.range 64).filter fun g => s.proxEnabled g && !s.prox.accepted.contains g).length
      let p : ProxState := { s.prox with
        collecting := false, missFrame := s.prox.missFrame + missing
        blindFrame := s.prox.blindFrame + 8 * missing, shotsFrame := s.prox.shotsFrame + 1 }
      let s1 : State := { s with prox := p }
      if s.prox.last then s1.proxFrame else s1)

/-- PROX_HOLD has passed since the close of the last window that reached PROX_MIN_ROWS: it ends only while no later window has. -/
def execProxHoldExpiry (s : State) : Host.Outcome State Fault Refusal :=
  done (if s.pwr.hold || (s.prox.collecting && s.rd SAF.PROX_MIN_ROWS ≤ s.prox.rows) then s
    else State.safOutputs { s with prox.asserted := false })

end Sys2Proof.Machine
end

