-- ==== Sys2Proof/Machine/Shots.lean ====
section
/-! DEFINITION. The shot grid (spec/03_emitter_sequencing.md R73 to R76, R87 to R94; spec/06_acquisition_and_stacks.md R144,
R145, R155 to R172): SHOT_OPEN, the arm point, the listening window, what a window's close writes, and the frame boundary. -/
namespace Sys2Proof.Machine
open Sys2Proof

/-! ### The stacks' memory (R160, R161) -/

/-- Write bytes into the stacks; a byte of a bank that does not run is lost. -/
def State.stackWrite (s : State) (a : Nat) (bs : List Byte) : State :=
  let kept := bs.zipIdx.map fun e => if s.runs (pSbank ((a + e.2) / 0x1000 % 16)) then e.1 else s.stackMem.read (a + e.2)
  { s with stackMem := s.stackMem.write a kept }

/-- Write 32-bit words into the stacks. -/
def State.stackWords (s : State) (a : Nat) (ws : List Nat) : State := s.stackWrite a (ws.flatMap (leBytes 4))

/-- The shot descriptor of the buffer that a shot fills. -/
def descAddr (sh : Shot) : Nat := 0x420000 + 0x80 * (sh.seq.toNat % 2)

/-- SHOT_OPEN reclaims a buffer (R159, R164): every histogram clears, a disabled list reads 0, and FILLING is set. -/
def State.reclaim (s : State) (sh : Shot) : State :=
  let base := slotAddr sh 0
  let cleared := fun a => base ≤ a && decide (a < base + 0x210000)
    && ((0x200 ≤ a % 0x1000 && decide (a % 0x1000 < 0xA00)) || (!bit sh.reduce 1 && 0x100 ≤ a % 0x1000 && decide (a % 0x1000 < 0x200)))
  State.stackWords { s with stackMem := Tab.clear s.stackMem cleared } (descAddr sh + 0x7C) [2 ^ 31 + sh.seq.toNat % 65536]

/-! ### SHOT_OPEN (R73, R80, R145, R164) -/

/-- The code of the frame at its first SHOT_OPEN, and whether it was late (R80): EMT's code for it, or the fallback. -/
def State.firstCode (s : State) (f : Frame) : ReadyCode × Bool :=
  let late : ReadyCode := { accession := f.accession, pos := fallbackCode s.npulse (s.rd EMT.GAP_MIN), fallback := true }
  match s.emt.ready with
  | some r => if r.accession = f.accession then (r, false) else (late, true)
  | none => (late, true)

/-- EMT shows the code in force. -/
def State.showCode (s : State) (c : ReadyCode) : State :=
  let s1 := (List.range 8).foldl (fun s i => s.wr (EMT.CODE_POS i) (c.pos.getD i 0x1FF)) s
  let s2 := (s1.put EMT.CODE_FALLBACK c.fallback).put EMT.ST_CODE_FALLBACK c.fallback
  if c.fallback then s2.raise EMT.INT_CODE_FALLBACK else s2

/-- The first SHOT_OPEN of a frame settles its code, and FRAME_SYNC_OUT rises (R153). -/
def State.openFirst (s : State) (f : Frame) : State :=
  let c := s.firstCode f
  let s1 := if c.2 then s.raise ACQ.INT_LATE_START else s
  let s2 := if s.runs pEMT then { s1.showCode c.1 with emt.ready := none } else s1
  { s2 with acq.fso := true, acq.frame := some { f with code := c.1.pos, fallback := c.1.fallback } }

/-- Bytes of one captured slot (R171). -/
def State.rawSlotBytes (s : State) (parts : Nat) : Nat :=
  16 * b2n (bit parts 0) + 256 * b2n (bit parts 1) + (s.rd ACQ.NBINS + 3) / 4 * 4 * b2n (bit parts 2)

/-- LENGTH of a ring entry. -/
def State.rawLength (s : State) : Nat := 144 + s.rd ACQ.RAW_COUNT * s.rawSlotBytes (s.rd ACQ.RAW_PARTS)

/-- A shot that R170 selects, and that no level or truncation drops before level 1's choice (R166, R168). -/
def State.rawSelected (s : State) (f : Frame) (c : Nat) : Bool :=
  s.on ACQ.RAW_EN && c % max 1 (s.rd ACQ.RAW_EVERY) = 0 && f.rrLevel < 2 && !f.truncated

/-- Whether a shot is raw-captured: level 1 drops every second selected one, and the ring must hold the whole entry (R172). -/
def State.rawDecide (s : State) (f : Frame) (c : Nat) : State × Bool :=
  if !s.rawSelected f c then (s, false)
  else
    let drop := f.rrLevel = 1 && s.acq.rawParity
    let s1 : State := if f.rrLevel = 1 then { s with acq.rawParity := !s.acq.rawParity } else s
    if drop then (s1, false)
    else if s.acq.ringUsed + s.rawLength ≤ 8192000 then (s1, true)
    else ((s1.count ACQ.RAW_DROPPED 1).raise ACQ.INT_RAW_DROP, false)

/-- The shot at column c of a frame. A shot that finds EMT held in reset reports HALTED with zeros (R94). The window's codes
count TDC cycles of 32 LSB; WIN_Q × 4 ns are 3.2 cycles each. -/
def State.newShot (s : State) (f : Frame) (raw : Bool) : Shot :=
  let c := f.next
  let held := !s.runs pEMT
  let level := if held then 0 else s.rd EMT.ST_DERATE_LEVEL
  let fo := s.rd EMT.FIRE_OFFSET
  { seq := s.acq.nextSeq, accession := f.accession, gen := f.gen, column := c, first := c = 0, last := c + 1 = f.ncol
    trunc := f.truncated, raw := raw, openTime := s.acq.time.toNat, derate := level
    pw := if held then 0 else derateWidth (s.rd EMT.PW) level, pattern := s.patternOf c, strings := s.stringMask (s.patternOf c) c level
    code := f.code, emtReset := held, openCode := quantaLsb fo
    closeCode := 32 * (4 * (fo + f.code.getLastD 0) + (16 * s.rd ACQ.WIN_Q + 4) / 5)
    binsel := s.rd ACQ.BINSEL, reduce := s.rd ACQ.REDUCE, nbins := s.rd ACQ.NBINS, rrLevel := f.rrLevel, engines := f.engineMap }

/-- The code of an edge after the last SHOT_OPEN, counted from the one that comes now: modulo 2^32, as the dead time of R131 reads it. -/
def State.rebase (s : State) (code : Nat) : Option Nat :=
  match s.acq.closedShot with
  | some sh =>
    let since := 32 * (s.acq.time.toNat - sh.openTime)
    if since < 2 ^ 32 then some ((code % 2 ^ 32 + 2 ^ 32 - since) % 2 ^ 32) else none
  | none => none

/-- The grids of DET, the banks and TIM start a shot: gates, events and stamps of the last one are gone. The dead time of an input's
last edge runs on (R131, R135). -/
def State.clearChannels (s : State) : State :=
  let tim := fun (n : Nat) (x : TimInput) =>
    { x with edges := [], ovf := 0, lastCode := if s.rd (TIM.MODE n) = 1 && !s.emtOwns n then x.lastCode else x.lastCode.bind s.rebase }
  let s1 := (s.setTimIn 0 (tim 0 (s.timIn 0))).setTimIn 1 (tim 1 (s.timIn 1))
  { s1 with
    det.events := [], det.flight := [], cal.tim0Pair := none
    det.chans := s.det.chans.mapV {} fun (c : Chan) => { c with gate := [], fired := [] }
    det.banks := s.det.banks.mapV {} fun (b : Bank) => { b with open_ := false, invalid := false, pileup := 0 } }

/-- A frame's record of the derating levels it used (R90). -/
def Frame.derated (f : Frame) (sh : Shot) : Frame :=
  if sh.emtReset then f
  else { f with
    derateMax := max f.derateMax sh.derate, derateFirst := some (f.derateFirst.getD sh.derate)
    derateChanged := f.derateChanged || f.derateFirst.getD sh.derate != sh.derate }

/-- A shot opens. -/
def State.openShot (s : State) (f : Frame) : State :=
  let (s1, raw) := s.rawDecide f f.next
  let sh := s1.newShot f raw
  let s2 := (s1.clearChannels.reclaim sh).wr ACQ.COLUMN sh.column
  let s3 := if sh.emtReset then s2 else s2.wr EMT.DERATE_LEVEL sh.derate
  let sf := if sh.emtReset || s.on (C.HALTED pEMT) then s.pins.sf else s3.shuntFrames sh.pattern sh.column sh.derate
  { s3 with
    acq.shot := some sh, acq.nextSeq := s.acq.nextSeq + 1, emt.token := none, pins.sf := sf, saf.since1 := 0, saf.since2 := 0
    acq.frame := some ({ f with next := f.next + 1 }.derated sh) }

def execShotOpen (s : State) : Host.Outcome State Fault Refusal :=
  done (match s.acq.frame with
    | none => s
    | some f =>
      if !s.runs pACQ || s.inShot || f.ncol ≤ f.next then s
      else
        let s1 := s.takeHalt pEMT
        let s2 := if f.next = 0 then s1.openFirst f else s1
        match s2.acq.frame with
        | some g => (s2.openShot g).clashAtOpen
        | none => s2)

/-! ### The arm point and the window's opening (R75, R94, R120, R123, R125) -/

/-- A token for this shot is present; one with a wrong tag is discarded. -/
def State.tokenHeld (s : State) (sh : Shot) : Bool :=
  match s.emt.token with
  | some t => t.token && t.tag = sh.seq.toNat % 16
  | none => false

/-- The fire state that the arm point decides, in R94's order. -/
def State.fireState (s : State) (sh : Shot) : Nat :=
  if s.on SAF.ST_INHIBIT then 1
  else if !s.tokenHeld sh then 3
  else if s.on (C.HALTED pEMT) then 6
  else if sh.derate = 4 then 5
  else if sh.strings = 0 then 4
  else 0

/-- The arm point: the token is sampled, and the burst fires or not. -/
def State.arm (s : State) : State :=
  match s.acq.shot with
  | none => s
  | some sh =>
    if sh.fire.isSome || sh.emtReset then s
    else
      let wrong := match s.emt.token with
        | some t => t.token && t.tag != sh.seq.toNat % 16
        | none => false
      let s1 := if wrong then State.fault { s with emt.token := none } pEMT 2 else s
      let fire := s.fireState sh
      { s1 with
        acq.shot := some { sh with fire := some fire, driven := if fire = 0 then sh.code.length else 0 }
        pins.eg := if fire = 0 then sh.strings else 0 }

def execArmPoint (s : State) : Host.Outcome State Fault Refusal := done s.arm

/-- A bank's part in a window that opens: it takes part while it runs, is locked and is not halted. -/
def State.openBank (s : State) (b : Nat) : State :=
  let on := s.runs (pBank b) && s.bankLocked b && !s.on (C.HALTED (pBank b))
  s.setBank b { s.bank b with open_ := on, invalid := !on }

/-- A section's part: HALTED as it reads now decides whether the shot's events are passed, those before the window too (R120). -/
def State.openSection (s : State) (j : Nat) : State :=
  let halted := s.on (C.HALTED (pDet j))
  let s1 := s.setSection j { s.section_ j with haltedAtOpen := halted }
  if !halted then s1
  else
    (secChannels j).foldl (fun (a : State) c => a.setEvents c { a.events c with lastCode := none })
      { s1 with det.flight := s1.det.flight.filter fun e => secOf e.1 != j }

/-- The window opens; the mirror feedback code of R240 is the last one before it. -/
def execWindowOpen (s : State) : Host.Outcome State Fault Refusal :=
  done (match s.arm.acq.shot with
    | none => s
    | some sh =>
      if sh.windowOpen then s
      else
        let s1 := (List.range 33).foldl State.openBank s.arm
        let s2 := (List.range 11).foldl State.openSection s1
        { s2 with acq.shot := some { sh with windowOpen := true, angle := s.rd CONVM.LAST_CODE } })

/-! ### EMT's report (R91 to R94) -/

/-- The earliest of some edges by code. -/
def earliest : List (Nat × Nat) → Option (Nat × Nat)
  | [] => none
  | e :: t => match earliest t with
    | some d => if d.2 < e.2 then some d else some e
    | none => some e

/-- The zero-range reference of a shot, and the free values drawn for it. With MPD_EN clear it is the nominal one. FREE VALUE
(log 7): T0, TIM0_CODE and REF_PULSE of a shot that has no reference. -/
def State.reference (s : State) (sh : Shot) : Shot × Nat :=
  let eff := (mpdEff (s.rdI EMT.MPD_TRIM) s.emt.mpdDelay).toNat
  let open_ : Shot := { sh with
    t0 := s.freeVal 0 % 2 ^ 18, tim0Code := s.freeVal 1 % 2 ^ 18, refPulse := s.freeVal 2 % 8, mpdEff := eff }
  if sh.emtReset then ({ open_ with fire := some 6, derate := 0, pw := 0, t0 := 0, driven := 0, mpdEff := s.freeVal 0 % 1024 }, 3)
  else if !s.on EMT.MPD_EN then
    ({ sh with t0 := sh.openCode, tim0Code := sh.openCode, mpdEff := 0, refPulse := 0, refNominal := true }, 0)
  else if sh.fire != some 0 && sh.fire != some 2 then (open_, 3)
  else
    let acc := s.acceptEdges sh (s.timIn 0).edges
    match earliest acc with
    | none => ({ open_ with noRef := true }, 3)
    | some (k, c) =>
      ({ sh with
        edges := acc, t0 := ofSigned 18 ((c : Int) - (eff : Int) - quantaLsb (sh.code.getD k 0)), tim0Code := c, mpdEff := eff, refPulse := k
        refPartial := !acc.any fun e => e.1 = 0 }, 0)

/-- A run of NO_REF shots, as EMT counts it: a shot with the nominal reference takes no part. -/
def State.norefStep (s : State) (sh : Shot) : State :=
  if sh.refNominal then s
  else if !sh.noRef then { s with emt.norefRun := 0 }
  else
    let s1 : State := { s with emt.norefRun := s.emt.norefRun + 1, emt.noref := s.emt.noref + 1 }
    let s2 := (s1.raise EMT.INT_NO_REF).inFrameDo fun f => { f with noref := f.noref + 1 }
    if 8 ≤ s2.emt.norefRun then s2.fault pEMT 0 else s2

/-- EMT reports a shot: the registers, the counts, and the post to SAF (R36, R411). A shot that a reset cut short raises and counts
nothing in EMT. -/
def State.emtReport (s : State) (sh : Shot) : State :=
  let fired := sh.fire = some 0
  let s1 := if fired then (s.wr EMT.T0_LAST sh.t0).norefStep sh
    else s.inFrameDo fun f => { f with unfired := f.unfired + 1 }
  if sh.emtReset then s1
  else
    let s2 := if fired then s1 else State.raise { s1 with emt.unfired := s1.emt.unfired + 1 } EMT.INT_UNFIRED
    let post := Post.fireReport (sh.fire.getD 6) sh.pw sh.driven sh.authPw sh.authPulses sh.noRef sh.tokened sh.refNominal
    { s2 with saf.posts := s2.saf.posts ++ [post] }

/-! ### What the window's close writes (R132, R136, R155 to R163) -/

/-- A TIM input publishes the shot's stamps; the words of edges that the shot had not keep what they showed. -/
def State.publishTim (s : State) (n : Nat) : State :=
  let x := s.timIn n
  if !s.runs pTIM || (s.rd (TIM.MODE n) != 0 && !s.emtOwns n) then s
  else
    let s1 := (s.wr (TIM.EDGES_LAST n) x.edges.length).wr (TIM.OVF_LAST n) x.ovf
    x.edges.zipIdx.foldl (fun s e => s.wr (TIM.STAMP (16 * n + e.2)) e.1) s1

/-- A channel is TDC_INVALID in the shot. -/
def State.invalidChan (s : State) (ch : Nat) : Bool := (s.bank (ch / 16)).invalid || (s.events ch).lost

/-- A channel's recorded events, with none where it is invalid. -/
def State.validCodes (s : State) (ch : Nat) : List Nat := if s.invalidChan ch then [] else (s.events ch).codes

/-- Events beyond 64. -/
def State.validOvf (s : State) (ch : Nat) : Nat := if s.invalidChan ch then 0 else (s.events ch).ovf

/-- BG_COUNT. -/
def State.bgCount (s : State) (ch : Nat) : Nat := min 4095 ((s.validCodes ch).length + s.validOvf ch)

/-- The statistics of a channel that DET keeps over the frame while its section runs (R103, R108), and its bank's words of the shot. -/
def State.chanClose (s : State) (ch : Nat) : State :=
  let n := (s.validCodes ch).length
  let c := s.chan ch
  let s1 := if !s.runs (pDet (secOf ch)) then s else s.setChan ch { c with
    windows := c.windows + 1, bgSum := c.bgSum + s.bgCount ch, evSum := c.evSum + n + s.validOvf ch, allFull := c.allFull && n = 64 }
  if !s.runs (pBank (ch / 16)) then s1
  else (s1.wr (BANK.OVF_LAST (ch / 16) (ch % 16)) (s.validOvf ch)).wr (BANK.EVENTS_LAST (ch / 16) (ch % 16)) n

/-- A bank's figures of the shot. -/
def State.bankClose (s : State) (b : Nat) : State :=
  let x := s.bank b
  let invalid := x.invalid || (List.range' (16 * b) 16).any fun ch => (s.events ch).lost
  let s1 := s.setBank b { x with
    open_ := false, pileShots := x.pileShots + b2n (x.pileup != 0), invShots := x.invShots + b2n invalid }
  if s.runs (pBank b) then s1.wr (BANK.PILEUP_LAST b) x.pileup else s1

/-- The channel of a slot (R155). -/
def State.slotChan (s : State) (slot : Nat) : Option Nat :=
  if slot < 512 then channelUnder s.rd slot
  else (List.range' (33 * (slot - 512)) 33).find? fun c => (s.rowOf c).isNone

/-- The header of a slot (R162). -/
def State.slotHeader (s : State) (sh : Shot) (slot : Nat) : List Nat :=
  match s.slotChan slot with
  | none => [0x3FF * 2 ^ 22, 0, 0, 0]
  | some ch =>
    let e := s.events ch
    let inv := s.invalidChan ch
    let full := !inv && 0 < e.ovf
    [ch * 2 ^ 22 + s.kInForce ch % 8 * 2 ^ 19 + b2n full * 2 ^ 18 + b2n inv * 2 ^ 17 + b2n (s.staleChan ch) * 2 ^ 16
        + b2n (decide (slot < 512)) * 2 ^ 15 + b2n e.stackErr * 2 ^ 14 + (s.validCodes ch).length % 128,
      s.validOvf ch * 2 ^ 20 + (if full then e.pileupT else 0), (if bit sh.reduce 0 then s.bgCount ch else 0), 0]

/-- A slot at the swap: its header, and nothing recorded where its channel is invalid. -/
def State.slotClose (s : State) (sh : Shot) (slot : Nat) : State :=
  let base := slotAddr sh slot
  let s1 := s.stackWords base (s.slotHeader sh slot)
  match s.slotChan slot with
  | some ch => if s.invalidChan ch then { s1 with stackMem := s1.stackMem.wipe (base + 0x100) 0x900 } else s1
  | none => s1

/-- The shot descriptor (R163), complete: FILLING is clear. -/
def descriptor (sh : Shot) : List Nat :=
  let code := fun i => sh.code.getD (2 * i) 0x1FF + sh.code.getD (2 * i + 1) 0x1FF * 2 ^ 16
  [sh.accession.toNat, sh.gen.toNat,
    sh.column % 4096 * 2 ^ 20 + sh.fire.getD 6 % 8 * 2 ^ 17 + sh.derate % 8 * 2 ^ 14 + sh.pw % 16 * 2 ^ 10 + b2n sh.refPartial * 2 ^ 9
      + b2n sh.noRef * 2 ^ 8 + b2n sh.first * 2 ^ 7 + b2n sh.last * 2 ^ 6 + b2n sh.trunc * 2 ^ 5 + b2n sh.raw * 2 ^ 4 + sh.pattern % 4 * 2 ^ 2,
    sh.refPulse % 8 * 2 ^ 29 + sh.mpdEff % 1024 * 2 ^ 19 + b2n sh.refNominal * 2 ^ 18 + sh.t0 % 2 ^ 18,
    sh.tim0Code % 2 ^ 18, sh.openCode % 2 ^ 18, sh.closeCode % 2 ^ 18,
    sh.binsel % 4 * 2 ^ 30 + sh.rrLevel % 8 * 2 ^ 27 + sh.reduce % 8 * 2 ^ 24 + sh.nbins % 4096 * 2 ^ 12 + sh.tim1.length % 32,
    code 0, code 1, code 2, code 3]
    ++ ((List.range 16).map fun j => sh.tim1.getD j 0 % 2 ^ 18) ++ [0, 0, 0, sh.seq.toNat % 65536]

/-- A ring entry of the shot just written (R171). -/
def State.rawEntry (s : State) (sh : Shot) : List Byte :=
  let m := s.stackMem
  let first := s.rd ACQ.RAW_FIRST
  let n := s.rd ACQ.RAW_COUNT
  let parts := s.rd ACQ.RAW_PARTS
  let pad := (s.rd ACQ.NBINS + 3) / 4 * 4 - s.rd ACQ.NBINS
  let slot := fun i =>
    let base := slotAddr sh (first + i)
    (if bit parts 0 then m.bytes base 16 else []) ++ (if bit parts 1 then m.bytes (base + 0x100) 256 else [])
      ++ (if bit parts 2 then m.bytes (base + 0x200) (s.rd ACQ.NBINS) ++ List.replicate pad 0 else [])
  [sh.accession.toNat, sh.column % 4096 * 2 ^ 20 + first % 1024 * 2 ^ 10 + n % 1024, s.rawLength, parts % 8].flatMap (leBytes 4)
    ++ m.bytes (descAddr sh) 128 ++ (List.range n).flatMap slot

/-- The entry enters the ring, which wraps at its end. -/
def State.rawWrite (s : State) (sh : Shot) : State :=
  if !sh.raw then s
  else
    let bs := s.rawEntry sh
    let room := 8192000 - s.acq.ringAt
    let s1 := (s.stackWrite (0x430000 + s.acq.ringAt) (bs.take room)).stackWrite 0x430000 (bs.drop room)
    let used := s.acq.ringUsed + bs.length
    State.wr { s1 with
      acq.ringAt := (s.acq.ringAt + bs.length) % 8192000, acq.ringUsed := used, acq.ringEntries := s.acq.ringEntries ++ [bs.length] }
      ACQ.RAW_FILL (used / 1024)

/-- CAL collects the shot of its stale channels (R371), and of a string-skew measurement (R378). -/
def State.calShot (s : State) (sh : Shot) : State :=
  if !s.runs pCAL then s
  else
    let s1 := (s.cal.sessions.filter (·.stale)).foldl (fun (a : State) x => a.collect sh x (s.validCodes x.chan) (s.invalidChan x.chan)) s
    s1.strskShot sh

/-- A fill of 15 at a shot boundary other than the frame's truncates the rest of the frame (R168). -/
def State.truncate (s : State) (sh : Shot) : State :=
  if sh.last || sh.trunc || s.rd PCOD.OUT_FILL < 15 then s
  else ((s.inFrameDo fun f => { f with truncated := true, firstTrunc := sh.column + 1 }).put ACQ.ST_TRUNCATING true).raise ACQ.INT_TRUNCATED

/-- PCA awaits the shot's column, the combiner its PROX words. -/
def State.passShot (s : State) (sh : Shot) : State :=
  let cut := s.acq.frame.any (·.cut)
  let s1 : State := if s.runs pPASM && !cut then { s with pca.columns := s.pca.columns ++ [{ shot := sh }] } else s
  let s2 := if !s.runs pSAF then s1 else if s.pwr.hold then s1.keep (.collect sh.seq sh.last) else s1.proxOpen sh.seq sh.last
  { s2 with acq.closedShot := some sh, acq.shot := none, pins.eg := 0 }

/-! ### The frame boundary (R27, R103 to R114, R140, R167, R243) -/

/-- The level of the next frame (R167). -/
def State.rateStep (s : State) (f : Frame) : State :=
  let n := s.acq.rrNext
  let rise := s.rd ACQ.RR_HIGH ≤ s.acq.peakFill || s.rd ACQ.RR_VFAIL ≤ s.acq.vfail || s.acq.stall || f.truncated
  let calm := if s.acq.peakFill < s.rd ACQ.RR_LOW then s.acq.recover + 1 else 0
  let next : Nat × Nat :=
    if rise then (if n < s.rd ACQ.RR_CEIL then n + 1 else n, 0)
    else if s.rd ACQ.RR_RECOVER ≤ calm && s.rd ACQ.RR_FLOOR < n then (n - 1, 0) else (n, calm)
  let s1 := (s.wr ACQ.PEAK_FILL s.acq.peakFill).wr ACQ.VFAIL_LAST (min 65535 s.acq.vfail)
  let s2 := if next.1 = n then s1 else s1.raise ACQ.INT_RR_CHANGE
  { s2 with
    acq.rrNext := next.1, acq.recover := next.2, acq.peakFill := s.rd PCOD.OUT_FILL, acq.vfail := 0, acq.stall := s.lnk.stalled }

/-- The figures of the frame just closed in EMT and the banks. -/
def State.frameFigures (s : State) : State :=
  let s1 := if s.runs pEMT then (s.wr EMT.UNFIRED_LAST (min 65535 s.emt.unfired)).wr EMT.NOREF_LAST (min 65535 s.emt.noref) else s
  (List.range 33).foldl (fun (a : State) b =>
    let x := a.bank b
    let a1 := if a.runs (pBank b) then
      (a.wr (BANK.PILEUP_SHOTS b) (min 65535 x.pileShots)).wr (BANK.INVALID_SHOTS b) (min 65535 x.invShots) else a
    a1.setBank b { x with pileShots := 0, invShots := 0 }) s1

/-- The frame goes to PCA with what its ledger record takes at the boundary. -/
def State.giveFrame (s : State) (f : Frame) : State :=
  if !s.runs pPASM || f.cut then s
  else
    let value := fun a => unitWord s.rd ((a - 0x40000000) / 0x1000) (a % 0x1000)
    let f1 : Frame := { f with
      safety := s.safety, tjMax := f.tjMax.orElse fun _ => s.thm.tjLast, rwl := s.pca.rwl.map fun a => (a, value a) }
    { s with pca.frames := s.pca.frames ++ [f1], pca.rwl := [] }

/-- SAF at a frame boundary: WITHHELD_LAST shows (R407), and DEGRADED returns to OPERATIONAL after RECOVER_FRAMES frames without a cause
if the checks of R401 hold (R414). -/
def State.recoverFrame (s : State) : State :=
  if !s.runs pSAF then s
  else if s.pwr.hold then s.keep .boundary
  else
    let caused := s.degCauses != 0
    let n := if s.saf.degradedInFrame || caused then 0 else s.saf.recoverFrames + 1
    let s1 : State := { s.wr SAF.WITHHELD_LAST (min 65535 s.saf.withheld) with
      saf.withheld := 0, saf.degradedInFrame := caused, saf.recoverFrames := n }
    if s.safety = sfDegraded && s.rd SAF.RECOVER_FRAMES ≤ n && s.mayOperate && s.noPerturb then s1.enter sfOperational else s1

/-- The frame boundary: the closed frame is settled under the configuration it ran under, a handover and take-ups take effect, and
the strobe leaves for the other domains (R25). What a commit can change follows as it reaches the fabric (`boundaryReached`). -/
def State.frameBoundary (s : State) (f : Frame) : State :=
  let s1 : State := { s with
    acq.frame := none, acq.lastBoundary := some s.acq.time.toNat, acq.inService := s.on ACQ.RUN }
  let s2 := ((s1.put ACQ.ST_ACQUIRING false).put ACQ.ST_TRUNCATING false).raise ACQ.INT_FRAME_BOUNDARY
  let s3 := ((s2.rateStep f).frameFigures).giveFrame f
  let s4 := (List.range 11).foldl State.sectionFrame s3
  let s5 := if s4.runs pREG then s4.handover (f.accession + 1) else s4
  State.recoverFrame { s5.takeUp with cat.boundaryDue := true, cat.early := [] }

/-- The blocks whose sample boundary is the shot boundary: EMT, the sections and the banks. -/
def shotHalts : List Nat := [pEMT] ++ List.range' 0x26 44

/-- The window of a shot closes (R73, R144): the last events arrive, EMT reports, the buffers swap, and the shot goes on. -/
def State.closeShot (s : State) (sh0 : Shot) : State :=
  let s1 := s.det.flight.foldl (fun (a : State) e => a.deliver sh0 e.1 e.2 .clean .clean) { s with det.flight := [], emt.token := none }
  let (sh1, drawn) := s1.reference sh0
  let tim1 := if s1.runs pTIM && s1.rd (TIM.MODE 1) = 0 then (s1.timIn 1).edges else []
  let rows := (List.range 512).filter fun r => ((channelUnder s1.rd r).map s1.invalidChan).getD false
  let sh : Shot := { sh1 with tim1 := tim1, invalidRows := rows, windowOpen := false }
  let s2 := ((s1.drew drawn).emtReport sh).publishTim 0
  let s3 := (List.range 528).foldl State.chanClose (s2.publishTim 1)
  let s4 := (List.range 33).foldl State.bankClose s3
  let s5 := (List.range 528).foldl (fun (a : State) k => a.slotClose sh k) s4
  let s6 := (s5.stackWords (descAddr sh) (descriptor sh)).rawWrite sh
  ((s6.calShot sh).truncate sh).passShot sh

/-- What follows a shot boundary: the stale span of CAL, a waiting snapshot (R30; with RUN cleared it waits for the frame boundary,
R54), waiting halts, and at the last shot the frame boundary. -/
def State.afterShot (s : State) (sh : Shot) : State :=
  let next := sh.column + 1
  let s1 := if s.runs pCAL && !sh.last && s.staleFrom ≤ next then s.startSpan else s
  let s1' := if s.on ACQ.RUN || sh.last then s1.snapBoundary sh.accession sh.column else s1
  let s2 := shotHalts.foldl State.takeHalt s1'
  match s2.acq.frame with
  | some f => if sh.last then s2.frameBoundary f else s2
  | none => s2

def execWindowClose (s : State) : Host.Outcome State Fault Refusal :=
  done (match s.acq.shot with
    | none => s
    | some sh => if !sh.windowOpen then s else (s.closeShot sh).afterShot sh)

end Sys2Proof.Machine
end

