-- ==== Sys2Proof/Machine/Storage.lean ====
section
/-! DEFINITION. SEC and NVS (spec/19_security_and_storage.md): volumes and their verification, the boot, attestation and the
signing state, and the MRAM's writes. Times are the senders'. -/
namespace Sys2Proof.Machine
open Sys2Proof

/-! ### Volumes and certificates (R491, R493, R494) -/

/-- A run of bytes that `rd` reads. -/
def slice (rd : Nat → Byte) (o n : Nat) : List Byte := (List.range n).map fun i => rd (o + i)

/-- A little-endian number that `rd` reads. -/
def sliceLe (rd : Nat → Byte) (o n : Nat) : Nat := ofLeBytes (slice rd o n)

def magicVolume : List Byte := [0x48, 0x4A, 0x56, 0x4C]
def magicOwner : List Byte := [0x48, 0x4A, 0x4F, 0x4B]
def magicDir : List Byte := [0x48, 0x4A, 0x44, 0x52]

/-- A TARGET_ID that names any device or this one. -/
def targetOk (id : List Byte) : Bool := id = List.replicate 32 0 || id = deviceId

/-- Where the owner certificate of slot n = 1 to 4 stands in the MRAM (R508). -/
def ownerAddr (n : Nat) : Nat := 0x2000 + 0x1000 * (n - 1)

/-- The public key of a slot. -/
def State.slotKey (s : State) (n : Nat) : List Byte := if n = 0 then rootKey else s.nvs.mram.bytes (ownerAddr n + 8) 68

/-- A slot holds a key; slot 0 always does. -/
def State.slotHolds (s : State) (n : Nat) : Bool := n = 0 || (n ≤ 4 && bit s.nvs.security.enrolled (n - 1))

/-- A slot is revoked. -/
def State.slotRevoked (s : State) (n : Nat) : Bool := 1 ≤ n && n ≤ 4 && bit s.nvs.security.revoked (n - 1)

/-- Rows 1 to 7 of VERIFY, which read the header alone, for the volume of `len` bytes that `rd` reads and DEST `dest` (R494): 0 when
every one passes. -/
def State.verifyHeader (s : State) (rd : Nat → Byte) (len dest : Nat) : Nat :=
  let u8 := fun o => (rd o).toNat
  let type := u8 5
  let slot := u8 6
  let plen := sliceLe rd 0x10 4
  let most := if type = 1 then 4194304 else 196608
  let owner := if slot = 0 then true else targetOk (s.nvs.mram.bytes (ownerAddr slot + 0x4C) 32)
  let floor := if type = 1 then s.nvs.security.minHost else s.nvs.security.minEngine
  if slice rd 0 4 != magicVolume || u8 4 != 1 then 1
  else if !((type = 1 && dest = 0x7F && slot = 0) || (type = 2 && dest ≤ 71)) then 2
  else if plen < 4 || most < plen || plen % 4 != 0 || len != 256 + plen + 2820 then 3
  else if !s.slotHolds slot then 4
  else if s.slotRevoked slot then 5
  else if !(targetOk (slice rd 0x18 32) && owner) then 6
  else if sliceLe rd 0x0C 4 < floor then 7
  else 0

/-- Rows 8 and 9 of VERIFY, over the payload and its signature (R494). -/
def State.verifyPayload (s : State) (rd : Nat → Byte) : Nat :=
  let plen := sliceLe rd 0x10 4
  if shake256 (slice rd 256 plen) 32 != slice rd 0x38 32 then 8
  else if !Config.xmssVerify (s.slotKey (rd 6).toNat) (slice rd 0 256) (slice rd (256 + plen) 2820) then 9
  else 0

/-- The RESULT of VERIFY where every byte can be read (R494): the first row that fails, 0 when every row passes. -/
def State.verifyVolume (s : State) (rd : Nat → Byte) (len dest : Nat) : Nat :=
  let r := s.verifyHeader rd len dest
  if r != 0 then r else s.verifyPayload rd

/-- What a verified volume's header says (R495). -/
def volumeRecord (rd : Nat → Byte) : SecRecord :=
  { hash := slice rd 0x38 32, volId := sliceLe rd 8 2, volVer := sliceLe rd 0x0A 2, secVer := sliceLe rd 0x0C 4 }

/-! ### SEC's commands (R492, R496, R504, R512) -/

/-- What SEC reads of host memory from SRC_ADDR on. -/
def State.source (s : State) (o : Nat) : Byte := s.mon.mem.read (s.rd SEC.SRC_ADDR + o)

/-- A read of host memory fails: HCP is not running, was reset, or the range leaves the address space. -/
def State.sourceFails (s : State) (len : Nat) : Bool :=
  s.sec.sourceLost || !s.runs pHCP || 2 ^ 32 < s.rd SEC.SRC_ADDR + len

/-- A command ends with a RESULT. -/
def State.secEnds (s : State) (result : Nat) : State :=
  let s1 := ((s.put SEC.BUSY false).put SEC.ST_BUSY false).wr SEC.RESULT result
  let s2 := s1.raise (if result = 0 then SEC.INT_DONE else SEC.INT_REFUSED)
  { s2 with sec.command := none, sec.sourceLost := false, sec.body := [] }

/-- INIT or COMMISSION. -/
def State.mayEnroll (s : State) : Bool := s.safety = sfInit || s.safety = sfCommission

/-- The security record changes, and the registers that show it. -/
def State.putSecurity (s : State) (r : SecurityRecord) : State :=
  let s1 : State := { s with nvs.security := r }
  let s2 := ((s1.wr SEC.XMSS_NEXT r.next).wr SEC.MIN_SEC_VER_HOST r.minHost).wr SEC.MIN_SEC_VER_ENGINE r.minEngine
  (s2.wr SEC.ENROLLED r.enrolled).wr SEC.REVOKED r.revoked

/-- VERIFY: the rows in their order, each after the read that it needs; a read that fails ends it with SOURCE (R494). -/
def State.doVerify (s : State) (dest : Nat) : State :=
  let len := s.rd SEC.SRC_LEN
  if s.sourceFails 256 then s.secEnds 10
  else if s.verifyHeader s.source len dest = 0 && s.sourceFails len then s.secEnds 10
  else
    let r := s.verifyVolume s.source len dest
    let s1 : State := if r = 0 && dest ≤ 71 then { s with sec.records := Tab.set {} s.sec.records dest (volumeRecord s.source) } else s
    s1.secEnds r

/-- ENROLL. FREE VALUE (log 7): the RESULT of a certificate whose slot holds a key already, which no code of R512 names. -/
def State.doEnroll (s : State) : State :=
  let rd := s.source
  let slot := (rd 5).toNat
  let r := s.nvs.security
  if s.sourceFails 2948 then s.secEnds 10
  else if !s.mayEnroll then s.secEnds 13
  else if slice rd 0 4 != magicOwner || rd 4 != 1 || slot < 1 || 4 < slot then s.secEnds 1
  else if s.slotRevoked slot then s.secEnds 5
  else if s.slotHolds slot then (s.drew 1).secEnds (1 + s.freeVal 0 % 14)
  else if !targetOk (slice rd 0x4C 32) then s.secEnds 6
  else if !Config.xmssVerify rootKey (slice rd 0 128) (slice rd 128 2820) then s.secEnds 9
  else if !s.on WATCH.ST_NVS_OK then s.nvsBlocked.secEnds 11
  else
    let s1 : State := { s with nvs.mram := s.nvs.mram.write (ownerAddr slot) (slice rd 0 2948) }
    (s1.putSecurity { r with enrolled := withBit r.enrolled (slot - 1) true }).secEnds 0

/-- REVOKE of slot 1 to 4. -/
def State.doRevoke (s : State) (slot : Nat) : State :=
  let r := s.nvs.security
  if !s.mayEnroll then s.secEnds 13
  else if !s.on WATCH.ST_NVS_OK then s.nvsBlocked.secEnds 11
  else
    let s1 : State := { s with nvs.mram := s.nvs.mram.wipe (ownerAddr slot) 2948 }
    (s1.putSecurity { r with enrolled := withBit r.enrolled (slot - 1) false, revoked := withBit r.revoked (slot - 1) true }).secEnds 0

/-- The engines in STATE SERVING. -/
def State.servingEngines (s : State) : List Nat := (List.range 72).filter fun k => s.reState k = stServing

/-- CONFIRM (R496). -/
def State.doConfirm (s : State) (dest : Nat) : State :=
  let r := s.nvs.security
  let recs := s.servingEngines.map fun k => Tab.get {} s.sec.records k
  let target : SecurityRecord := if dest = 0x7F then { r with minHost := max r.minHost s.sec.hostSecVer }
    else match recs with
      | [] => r
      | x :: l => { r with minEngine := max r.minEngine (l.foldl (fun m y => min m y.secVer) x.secVer) }
  if dest = 0x7E && recs.any fun x => x.hash = [] then s.secEnds 10
  else if target = r then s.secEnds 0
  else if !s.on WATCH.ST_NVS_OK then s.nvsBlocked.secEnds 11
  else (s.putSecurity target).secEnds 0

/-- CERT: the device certificate of the identity area, to the output window (R491). -/
def State.doCert (s : State) : State :=
  let c := s.nvs.mram.bytes 0x1000 2948
  State.secEnds { s with sec.out := c ++ s.sec.out.drop 2948 } 0

/-- The engines' digest of an evidence record (R504). -/
def State.engineDigest (s : State) : List Byte :=
  shake256 ((List.range 72).flatMap fun k =>
    let r := Tab.get {} s.sec.records k
    let hash := if r.hash = [] then List.replicate 32 0 else r.hash
    leBytes 1 k ++ leBytes 1 (s.stateRead k) ++ leBytes 2 r.volId ++ leBytes 2 r.volVer ++ [0, 0] ++ hash) 32

/-- The body of an evidence record before its index, from the values in force (R504). -/
def State.evidence (s : State) : List Byte :=
  let life := s.nvs.life.head?.getD {}
  let hash := if s.sec.hostHash = [] then List.replicate 32 0 else s.sec.hostHash
  [0x48, 0x4A, 0x41, 0x54, 0x01] ++ leBytes 1 s.safety ++ [0, 0] ++ deviceId ++ (List.range 32).map (fun j => BitVec.ofNat 8 (s.rd (SEC.NONCE j)))
    ++ leBytes 4 (s.rd CAT.ACCESSION) ++ leBytes 8 s.acq.time.toNat ++ leBytes 4 (s.rd CAT.GEN_ACTIVE) ++ leBytes 4 (s.rd SAF.COLOPHON_STORED)
    ++ leBytes 2 (s.rd CAL.CAL_SET) ++ [0, 0] ++ hash ++ leBytes 2 (s.rd SEC.HOST_VOL_ID) ++ leBytes 2 (s.rd SEC.HOST_VOL_VER)
    ++ leBytes 4 s.sec.hostSecVer ++ s.engineDigest ++ leBytes 4 (life.minutes / 60) ++ leBytes 4 life.colds

/-- The signature over a message with an index. -/
def signature (i : Nat) (m : List Byte) : List Byte := (List.range 2820).map (Config.xmssSign i m)

/-- ATTEST: reserve indices if need be, sign, release the evidence (R506, R507). -/
def State.doAttest (s : State) : State :=
  let i := s.rd SEC.XMSS_CUR
  let r := s.nvs.security
  if r.lost then (s.fault pSEC 1).secEnds 14
  else if 2 ^ 20 ≤ i then s.xmssExhausted.secEnds 12
  else if r.next ≤ i && !s.on WATCH.ST_NVS_OK then s.nvsBlocked.secEnds 11
  else
    let s1 := if r.next ≤ i then (s.putSecurity { r with next := min (i + s.rd SEC.XMSS_RESERVE) (2 ^ 20) }).xmssWarn else s
    let body := s.sec.body ++ leBytes 4 i ++ List.replicate 12 0
    let evidence := body ++ signature i body
    let s2 : State := { (s1.wr SEC.XMSS_CUR (i + 1)) with sec.out := evidence ++ s1.sec.out.drop evidence.length }
    s2.xmssExhausted.secEnds 0

/-- SEC_COMMAND_DONE: the command in progress ends. -/
def execSecCommandDone (s : State) : Host.Outcome State Fault Refusal :=
  done (if !s.runs pSEC then s
    else match s.sec.command with
      | none => s
      | some (c, dest) =>
        if c = 1 then s.doVerify dest
        else if c = 2 then s.doAttest
        else if c = 3 then s.doCert
        else if c = 4 then s.doEnroll
        else if c = 5 then s.doRevoke dest
        else s.doConfirm dest)

/-- DEST is in its range for a command. -/
def destOk (c dest : Nat) : Bool :=
  if c = 1 then dest ≤ 71 || dest = 0x7F else if c = 5 then 1 ≤ dest && dest ≤ 4
  else if c = 6 then dest = 0x7E || dest = 0x7F else true

/-- A write of the CMD word (R512, R13). -/
def State.secCommand (s : State) (path : Path) (v : Nat) : State :=
  let c := bits v 28 4
  let dest := bits v 20 8
  if s.on SEC.BUSY then s.err (C.ERR_BUSY pSEC)
  else if c = 0 || 6 < c || !destOk c dest then s.err (C.ERR_VALUE pSEC)
  else if path != .host && c != 2 && c != 3 then s.err (C.ERR_STATE pSEC)
  else
    let s1 := (s.put SEC.BUSY true).put SEC.ST_BUSY true
    { s1 with sec.command := some (c, dest), sec.sourceLost := false, sec.body := if c = 2 then s.evidence else [] }

def execVerify (path : Path) (value : Word) (s : State) : Host.Outcome State Fault Refusal :=
  done (s.writeTo pSEC fun s => s.secCommand path value.toNat)

def execAttest (path : Path) (value : Word) (s : State) : Host.Outcome State Fault Refusal :=
  done (s.writeTo pSEC fun s => s.secCommand path value.toNat)

def execCert (path : Path) (value : Word) (s : State) : Host.Outcome State Fault Refusal :=
  done (s.writeTo pSEC fun s => s.secCommand path value.toNat)

def execEnroll (path : Path) (value : Word) (s : State) : Host.Outcome State Fault Refusal :=
  done (s.writeTo pSEC fun s => s.secCommand path value.toNat)

def execRevoke (path : Path) (value : Word) (s : State) : Host.Outcome State Fault Refusal :=
  done (s.writeTo pSEC fun s => s.secCommand path value.toNat)

def execConfirm (path : Path) (value : Word) (s : State) : Host.Outcome State Fault Refusal :=
  done (s.writeTo pSEC fun s => s.secCommand path value.toNat)

/-! ### The boot (R497 to R500) -/

/-- A copy of the boot record. -/
structure BootRecord where
  seq : Nat := 0
  active : Nat := 0
  pending : Nat := 0
  tries : Nat := 0
  deriving DecidableEq, Repr

/-- The fields of a copy in their order, a byte each after SEQ (log 4). -/
def BootRecord.bytes (b : BootRecord) : List Byte := leBytes 4 b.seq ++ leBytes 1 b.active ++ leBytes 1 b.pending ++ leBytes 1 b.tries

/-- A copy whose check holds. -/
def State.bootCopy (s : State) (n : Nat) : Option BootRecord :=
  let l := s.nvs.mram.bytes (Config.bootCopy n) 11
  if l.drop 7 = shake256 (l.take 7) 4 then
    some ⟨ofLeBytes (l.take 4), (l.getD 4 0).toNat, (l.getD 5 0).toNat, (l.getD 6 0).toNat⟩
  else none

/-- The valid copy with the higher SEQ (R510). -/
def State.bootRecord (s : State) : Option BootRecord :=
  match s.bootCopy 0, s.bootCopy 1 with
  | some a, some b => some (if a.seq < b.seq then b else a)
  | some a, none => some a
  | none, b => b

/-- Both copies are written, SEQ advanced. -/
def State.putBoot (s : State) (b : BootRecord) : State :=
  let l := BootRecord.bytes { b with seq := b.seq + 1 }
  let w := fun (m : Mem) n => m.write (Config.bootCopy n) (l ++ shake256 l 4)
  { s with nvs.mram := w (w s.nvs.mram 0) 1 }

/-- Where a flash slot begins: A at 0, B at half the flash (R497). -/
def slotBase (slot : Nat) : Nat := if slot = 0 then 0 else Config.flashMib * 2 ^ 20 / 2

/-- The one HOST volume of a slot: its offset in the flash and its length; none where the directory is not valid. -/
def State.hostVolume (s : State) (slot : Nat) : Option (Nat × Nat) :=
  let rd := fun o => s.nvs.flash.read (slotBase slot + o)
  let n := (rd 5).toNat
  let hosts := (List.range n).filter fun i => rd (0x10 + 16 * i) = 1
  if slice rd 0 4 = magicDir && rd 4 = 1 && 1 ≤ n && n ≤ 17 then
    match hosts with
    | [i] => some (slotBase slot + sliceLe rd (0x14 + 16 * i) 4, sliceLe rd (0x18 + 16 * i) 4)
    | _ => none
  else none

/-- The host core runs a verified volume. -/
def State.runHost (s : State) (rd : Nat → Byte) : State :=
  let r := volumeRecord rd
  let s1 := (s.wr SEC.HOST_VOL_ID r.volId).wr SEC.HOST_VOL_VER r.volVer
  { s1 with mon.running := true, mon.recovery := false, sec.hostHash := r.hash, sec.hostSecVer := r.secVer }

/-- The longest volume (R493). -/
def volumeMax : Nat := 4197380

/-- The ROM tries a slot: its volume goes to host memory and is verified; a slot that fails sets FAULT.BOOT. -/
def State.trySlot (s : State) (slot : Nat) : State :=
  match s.hostVolume slot with
  | none => s.fault pSEC 2
  | some (o, len) =>
    let rd := fun i => s.nvs.flash.read (o + i)
    let s1 : State := { s with mon.mem := s.mon.mem.write Config.hostLoad (slice rd 0 (min len volumeMax)) }
    if s1.verifyVolume rd len 0x7F = 0 then s1.runHost rd else s1.fault pSEC 2

/-- The slots to try in turn; where none passes the recovery monitor starts. -/
def State.trySlots (s : State) : List Nat → State
  | [] => { s with mon.recovery := true }
  | slot :: rest =>
    let s1 := s.trySlot slot
    if s1.mon.running then s1 else s1.trySlots rest

/-- The slot that the boot record chooses, and what the ROM writes for it (R498, R500 step 2). -/
def State.chooseSlot (s : State) : Nat × State :=
  match s.bootRecord with
  | none => (0, s.put SEC.ST_BOOT_REVERTED true)
  | some b =>
    let named := b.pending = 1 || b.pending = 2
    if named && s.on WATCH.ST_NVS_OK then
      if 0 < b.tries then (b.pending - 1, s.putBoot { b with tries := b.tries - 1 })
      else (b.active % 2, (s.putBoot { b with pending := 0 }).put SEC.ST_BOOT_REVERTED true)
    else (b.active % 2, s)

/-- BOOT_SEQUENCE: the boot ROM after a release of HCP, once SEC and NVS run (R499, R500). -/
def execBootSequence (s : State) : Host.Outcome State Fault Refusal :=
  let sel := s.rd RST.BOOTSEL
  done (if !s.runs pHCP || !s.runs pSEC || !s.runs pNVS || s.mon.running || s.mon.recovery then s
    else
      let s1 := (s.wr NVS.FLASH_MIB Config.flashMib).put NVS.XSPI_8D s.nvs.flash8d
      if sel = 1 then s1.trySlots [0]
      else if sel = 2 then s1.trySlots [1]
      else if sel = 3 || sel = 4 then { s1 with mon.recovery := true }
      else
        let s2 := if 5 ≤ sel then s1.put SEC.ST_BOOTSEL_BAD true else s1
        let (slot, s3) := s2.chooseSlot
        s3.trySlots [slot, 1 - slot])

/-! ### The MRAM (R508 to R511) -/

/-- WRITING. -/
def State.showWriting (s : State) : State := s.put NVS.ST_WRITING (s.nvs.queue != [])

/-- A write of WGO (R508, R509): the host core writes the configuration, calibration and owner areas. -/
def State.wgo (s : State) (path : Path) (v : Nat) : State :=
  let a := s.rd NVS.WADDR
  let waiting := if s.nvs.pulse then s.nvs.queue.length - 1 else s.nvs.queue.length
  if !bit v 31 then s
  else if path != .host || 8 * a < 0x10000 then s.err (C.ERR_STATE pNVS)
  else if !s.on WATCH.ST_NVS_OK then s.nvsBlocked.err (C.ERR_STATE pNVS)
  else if s.nvs.pulse && 8 ≤ waiting then s.err (C.ERR_BUSY pNVS)
  else
    let w : DWord := BitVec.ofNat 64 (s.rd NVS.WDATA_HI * 2 ^ 32 + s.rd NVS.WDATA_LO)
    let s1 : State := { (s.wr NVS.WADDR (a + 1)) with nvs.queue := s.nvs.queue ++ [(a, w)] }
    (if s1.nvs.pulse then s1 else s1.startPulse).showWriting

def execWgo (path : Path) (value : Word) (s : State) : Host.Outcome State Fault Refusal :=
  done (s.writeTo pNVS fun s => s.wgo path value.toNat)

/-- MRAM_WRITE_DONE: the word in progress is written and the next begins. -/
def execMramWriteDone (s : State) : Host.Outcome State Fault Refusal :=
  done (if !s.nvs.pulse then s
    else match s.nvs.queue with
      | [] => { s with nvs.pulse := false }
      | (a, w) :: rest =>
        State.showWriting (State.startPulse { s with
          nvs.mram := s.nvs.mram.setLe (8 * a) 8 w.toNat, nvs.queue := rest, nvs.pulse := false }))

/-- LIFE_RECORD_WRITE: at a COLD release, after a handover or an UNFENCE, else once a minute (R511). A refused minute is owed. -/
def execLifeRecordWrite (s : State) : Host.Outcome State Fault Refusal :=
  let minute := if s.nvs.coldPending || s.nvs.lifePending then 0 else 1
  let old := s.nvs.life.head?.getD {}
  let new : LifeEntry := {
    seq := old.seq + 1, minutes := old.minutes + s.nvs.owed + minute, colds := old.colds + b2n s.nvs.coldPending
    switches := old.switches + s.pwr.lifeSwitches, trips := old.trips + s.saf.lifeTrips
    map := (List.range 64).map fun g => s.rd (REG.ENGINE_OF_RG g)
    fenced := (List.range 72).filter fun k => s.on (REG.FENCED k) }
  done (if !s.runs pNVS then s
    else if !s.on WATCH.ST_NVS_OK then { s.nvsBlocked with nvs.owed := s.nvs.owed + minute }
    else { s with
      nvs.life := (new :: s.nvs.life).take 256, nvs.owed := 0, nvs.coldPending := false, nvs.lifePending := false
      pwr.lifeSwitches := 0, saf.lifeTrips := 0 })

end Sys2Proof.Machine
end

