-- ==== Sys2Proof/Machine/View.lean ====
section
/-! DEFINITION. What a register read shows (spec/02_folios_and_commit.md: R23, R38 to R42, R45, R58, R59): the common words
of a folio, the summaries of the tree, the unit's words under the three views, and the folio that an address names. -/
namespace Sys2Proof.Machine
open Sys2Proof

/-! ### STATUS (R41, R23) -/

/-- A unit is processing (log 34). -/
def State.unitBusy (s : State) (p : Nat) : Bool :=
  if 0x6F ≤ p then (s.engine (p - 0x6F)).running.isSome
  else if p = pSEC then s.on SEC.BUSY
  else if p = pNVS then s.nvs.queue != []
  else if p = pCAL then s.cal.sessions != [] || s.cal.timSessions != [] || s.on CAL.ST_STRSK_BUSY
  else if p = pCONVH then s.sense.inPeriod
  else if p = pACQ || p = pEMT || (0x26 ≤ p && p ≤ 0x62) then s.inShot
  else if p = pPASM || p = pPCOD then s.pca.columns != [] || s.pca.frames != []
  else if p = pPWR then s.on PWR.CMD_BUSY
  else false

/-- A unit holds outputs at their last value for calibration (log 34). -/
def State.unitStale (s : State) (p : Nat) : Bool :=
  if 0x31 ≤ p && p ≤ 0x51 then s.rd (BANK.CH_CAL (p - 0x31)) != 0
  else if p = pCONVH || p = pFLT then s.sense.calRound
  else false

/-- BUSY: a group is busy while any unit beneath it is. -/
def State.busy (s : State) (p : Nat) : Bool := (subtree p).any fun c => s.runs c && s.unitBusy c

/-- HALTED: a group's reads 1 while every child's does (R49). -/
def State.haltedIn (s : State) : Nat → Nat → Bool
  | 0, p => s.on (C.HALTED p)
  | d + 1, p => if isGroup p then (childPages p).all (s.haltedIn d) else s.runs p && s.on (C.HALTED p)

/-- STATUS. Off or in reset it shows its ERR_ bits, OFF and IN_RESET (R40). -/
def State.statusWord (s : State) (p : Nat) : Nat :=
  let runs := s.runs p
  let stored := if runs then rowsWord s.rd p 128 else bits (rowsWord s.rd p 128) 19 5 * 2 ^ 19
  stored + b2n (s.busy p) * 2 ^ 31 + b2n (s.haltedIn 4 p) * 2 ^ 30 + b2n (s.inService p) * 2 ^ 29
    + b2n (runs && s.unitStale p) * 2 ^ 28 + b2n (s.isOff p) * 2 ^ 27 + b2n (s.inReset p) * 2 ^ 26

/-- COMMIT_STATE. -/
def State.commitWord (s : State) (p : Nat) : Nat :=
  s.rd (C.GEN_LOW p) * 2 ^ 16 + b2n (s.rwsPending p) * 2 ^ 15 + b2n (s.on (C.STAGED p)) * 2 ^ 14
    + b2n (s.on (C.APPLYING p)) * 2 ^ 13 + b2n (s.on (C.REFUSED p)) * 2 ^ 12

/-- PERTURB. -/
def State.perturbWord (s : State) (p : Nat) : Nat :=
  s.rd (C.EN p) * 2 ^ 31 + s.rd (C.SYNC_STRETCH p) * 2 ^ 24 + s.rd (C.HS_DELAY p) * 2 ^ 16 + s.rd (C.BP_DUTY p) * 2 ^ 12
    + s.rd (C.FLAG_DELAY p) * 2 ^ 8 + s.rd (C.BP_SEED p)

/-- A common word of a folio that runs; the reserved ones read 0 (log 16). -/
def State.commonWord (s : State) (p off : Nat) : Nat :=
  if off = 0 then idWord p
  else if off = 4 then 0x01000100 + s.rd (C.SEL_MAJOR p)
  else if off = 8 then capsWord p
  else if off = 0xC then s.rd (C.HALT p) * 2 ^ 31 + s.rd (C.VIEW p) * 2 ^ 29
  else if off = 0x10 then s.statusWord p
  else if off = 0x14 then s.intRaw p
  else if off = 0x18 then s.intEn p
  else if off = 0x1C then s.intStat p
  else if off = 0x20 then s.faultIn 4 p
  else if off = 0x24 then s.commitWord p
  else if off = 0x28 then s.perturbWord p
  else if off = 0x2C then childBaseWord p
  else if off = 0x30 then childCountWord p
  else 0

/-- The six words that no view, no reset and no capture changes (R40, R59). -/
def fixedWord (off : Nat) : Bool := off = 0 || off = 4 || off = 8 || off = 0xC || off = 0x2C || off = 0x30

/-- A common word of a folio that is off or in reset (R40): STATUS and the identity words; the others at their reset values. -/
def State.idleWord (s : State) (p off : Nat) : Nat :=
  if off = 0xC then 0 else if fixedWord off || off = 0x10 then s.commonWord p off else 0

/-! ### Figures that no register holds -/

/-- Byte j of a list as a field at bit `base` shows it. -/
def byteAt (l : List Byte) (base b : Nat) : Nat := (l.getD ((b - base) / 8) 0).toNat

/-- CAL's figures of the channel that Q_CH selects (R381), by their bit. -/
def State.qualityField (s : State) (b : Nat) : Nat :=
  let ch := s.rd CAL.Q_CH
  let q := Tab.get {} s.cal.quality ch
  if b = 3128 then min q.resInl 255
  else if b = 3120 then min q.resSkew 255
  else if b = 3118 then q.outcome
  else if b = 3117 then b2n q.skewShort
  else if b = 3116 then b2n (s.ruhal ch)
  else if b = 3112 then min q.trimLimit 15
  else match q.since with
    | none => 255
    | some n => min (n / 64) 255

/-- What an RO field shows: a figure of its unit where one stands behind it, else its register. FREE VALUE (log 7): the seconds left
of an unlock, of which the table's commands tell only the end (R525). -/
def State.roField (s : State) (p : Nat) (f : Fld) : Nat :=
  let b := f.key % pageBits
  if p = pACQ && f = ACQ.TIME_LO then s.acq.time.toNat
  else if p = pACQ && f = ACQ.TIME_HI then s.acq.timeHi.toNat
  else if p = pACQ && f = ACQ.LAST_STAMP_LO then s.acq.lastStamp.toNat
  else if p = pACQ && f = ACQ.LAST_STAMP_HI then s.acq.stampHi.toNat
  else if 0x6F ≤ p && f = RE.STATE (p - 0x6F) then s.stateRead (p - 0x6F)
  else if p = pREG && 640 ≤ b && b < 712 then b2n (s.freeSpare (b - 640))
  else if p = pMON && f = MON.UNLOCK_LEFT then (if s.on MON.UNLOCKED then 1 + s.freeVal 0 % s.rd f else 0)
  else if p = pNVS && f = NVS.ST_NVS_OK then s.rd WATCH.ST_NVS_OK
  else if p = pSEC && 1280 ≤ b && b < 1536 then byteAt deviceId 1280 b
  else if p = pSEC && 8192 ≤ b then (if s.on SEC.BUSY then 0 else byteAt s.sec.out 8192 b)
  else if p = pRST && 2080 ≤ b && b < 2208 then s.ledgerWord ((b - 2080) / 32)
  else if p = pCAL && 3104 ≤ b && b < 3136 then s.qualityField b
  else s.rd f

/-- What a field of the unit's region reads under VIEW 0b00 (`force` false) or 0b01 (R45; log 15 for RWH). -/
def State.showField (s : State) (force : Bool) (p : Nat) (r : Row) (f : Fld) : Nat :=
  match r.acc with
  | .rw => if 0x6F ≤ p && f = RE.LOAD_DATA (p - 0x6F) then s.loadDataRead (p - 0x6F) else s.rd f
  | .w1c => s.rd f
  | .rws => if force then s.rd f else s.rdS f
  | .rwl => if force then s.rd f else s.rdS f
  | .rwh => if 0x6F ≤ p && f = RE.LOAD_DATA (p - 0x6F) then s.loadDataRead (p - 0x6F) else s.rdS f
  | .ro => s.roField p f
  | .wo => 0

/-- What a field of the unit's region reads under VIEW 0b10: RO and W1C fields only (R58, R59). -/
def State.snapField (s : State) (p : Nat) (r : Row) (f : Fld) : Nat :=
  match r.acc with
  | .ro => s.roField p f
  | .w1c => s.rd f
  | _ => 0

/-- A word of a folio's unit region from what `show_` gives for each field. -/
def unitRegion (show_ : Row → Fld → Nat) (p off : Nat) : Nat :=
  ((unitRows p).map fun r => rowWord (show_ r) p (8 * off) r).sum

/-- The state that a snapshot holds (R58). -/
def State.captured (s : State) : State :=
  let n := s.snap
  { s with
    regs := n.regs, cat := n.cat, acq := n.acq, emt := n.emt, det := n.det, engines := n.engines, prox := n.prox, pca := n.pca
    lnk := n.lnk, scn := n.scn, sense := n.sense, thm := n.thm, cal := n.cal, saf := n.saf, lmp := n.lmp, pwr := n.pwr
    rst := n.rst, sec := n.sec, nvs := n.nvs, mon := n.mon, free := n.free }

/-- The capture's values of the words and fields that R58 names, of a folio as it stood then. -/
def State.capturedWord (s : State) (p off : Nat) : Nat :=
  let resets := unitRegion (fun r f => if r.acc = .ro || r.acc = .w1c then f.reset else 0) p off
  if off = 0x10 then s.statusWord p
  else if off < 0x40 then (if s.runs p && (off = 0x14 || off = 0x20 || off = 0x24) then s.commonWord p off else 0)
  else if s.runs p then unitRegion (s.snapField p) p off
  else resets

/-- What VIEW 0b10 reads; before the first capture the copy holds reset values. -/
def State.snapWord (s : State) (p off : Nat) : Nat :=
  if fixedWord off then s.commonWord p off
  else if s.on CAT.SNAP_VALID then s.captured.capturedWord p off
  else if off < 0x40 then 0
  else unitRegion (fun r f => if r.acc = .ro || r.acc = .w1c then f.reset else 0) p off

/-! ### A read of a word -/

/-- The word that a defined offset reads (R40, R45, R59). -/
def State.wordShown (s : State) (p off : Nat) : Nat :=
  let view := s.rd (C.VIEW p)
  if !s.runs p then
    (if off < 0x40 then s.idleWord p off else unitRegion (fun r f => if r.acc = .wo then 0 else f.reset) p off)
  else if view = 2 then (if s.on CAT.SNAP_BUSY && !fixedWord off then 0 else s.snapWord p off)
  else if off < 0x40 then s.commonWord p off
  else unitRegion (s.showField (view = 1) p) p off

/-- What a read does: the latches of the low words of TIME and LAST_STAMP (R150), and the ERR_BUSY of a read during a capture
(R59) or of SEC's output window while a command runs (R512). A read of
UNLOCK_LEFT has drawn its value. -/
def State.afterRead (s : State) (p off : Nat) : State :=
  if !s.runs p then s
  else if s.rd (C.VIEW p) = 2 then (if s.on CAT.SNAP_BUSY && !fixedWord off then s.err (C.ERR_BUSY p) else s)
  else if p = pACQ && off = 0x8C then { s with acq.timeHi := (s.acq.time >>> 32).setWidth 32 }
  else if p = pACQ && off = 0x84 then { s with acq.stampHi := (s.acq.lastStamp >>> 32).setWidth 32 }
  else if p = pMON && off = 0x40 then s.drew 1
  else if p = pSEC && 0x400 ≤ off && s.on SEC.BUSY then s.err (C.ERR_BUSY pSEC)
  else s

/-- A read of a word of a folio: the state after it and the word. -/
def State.readWord (s : State) (p off : Nat) : State × Nat :=
  if defined p off then (s.afterRead p off, s.wordShown p off) else (s.err (C.ERR_ADDR p), 0)

/-! ### Addresses (R38, R39) -/

/-- The folio that an address lies in. -/
def folioOf (a : Nat) : Option Nat :=
  if 0x40000000 ≤ a && a < 0x40000000 + 0x1000 * folioCount then some ((a - 0x40000000) / 0x1000) else none

/-- An access of a wrong size or alignment, or to no folio: an error response, and ERR_ADDR in the folio it falls in. -/
def State.badAccess (s : State) (a : Nat) : State :=
  match folioOf a with
  | none => s
  | some p => s.err (C.ERR_ADDR p)

/-- A read access of a 32-bit word: the state after it, and its answer. -/
def State.busRead (s : State) (a : Nat) : State × BusAnswer :=
  if a % 4 != 0 then (s.badAccess a, { error := true })
  else match folioOf a with
    | none => (s, { error := true })
    | some p =>
      let (s1, v) := s.readWord p (a % 0x1000)
      (s1, { data := BitVec.ofNat 32 v })

end Sys2Proof.Machine
end

