-- ==== Sys2Proof/Machine/Access.lean ====
section
/-! DEFINITION. Register writes (spec/02_folios_and_commit.md: R10 to R13, R38 to R42, R47 to R49, R61, R64, R568), the words of
the units that do more than hold a value, and the register channel of the link (R299, R300). -/
namespace Sys2Proof.Machine
open Sys2Proof

/-! ### Present causes (R61) -/

/-- The cause of unit fault bit `i` of a folio is still present (log 35); a bit whose cause is an event never has one. -/
def State.faultCause (s : State) (p i : Nat) : Bool :=
  if p = pEMT then (i = 4 && s.rd EMT.ST_DERATE_LEVEL = 4) || (i = 0 && 8 ≤ s.emt.norefRun)
  else if 0x26 ≤ p && p ≤ 0x30 then
    let j := p - 0x26
    if i = 3 then (s.section_ j).lost
    else if i = 2 then 8 ≤ (s.section_ j).rejects
    else if i = 1 then 800 ≤ (s.section_ j).drift.natAbs
    else i = 0 && (List.range 48).any fun c => s.on (DET.HOT_LIMIT j c) || s.on (DET.DEAD j c) || s.on (DET.GATE_STUCK j c)
  else if 0x31 ≤ p && p ≤ 0x51 then
    let b := p - 0x31
    (i = 1 && !s.bankLocked b) || (i = 2 && (List.range 16).any fun c => s.on (BANK.TAP_DEAD b c) || s.on (BANK.TAP_WIDE b c))
  else if p = pTIM then
    if i = 4 then !s.on TIM.ST_DLL_LOCKED
    else if i = 0 || i = 2 then s.on (TIM.NO_SIGNAL (i / 2))
    else (i = 1 || i = 3) && s.on (TIM.OUT_RANGE (i / 2))
  else if p = pACQ then i = 0 && s.acq.noFrames
  else if 0x14 ≤ p && p ≤ 0x19 then
    let x := s.lane (p - 0x14)
    (i = 4 && x.noPartner && s.on (LANE.ENABLE (p - 0x14)) && !x.locked) || (i = 1 && x.badVersion)
  else if 0x6F ≤ p then i = 4 && s.on (RE.ST_LOCKED (p - 0x6F))
  else if p = pCONVH then i = 0 && refBad (s.rd CONVH.BG_CODE : Nat)
  else if p = pSCN then (i ≤ 1 && bit s.scn.lost i) || (i = 5 && s.scn.hOver) || (i = 6 && s.scn.hFault)
  else if p = pAFE then (i = 0 && s.sense.clamped != []) || (i = 1 && (List.range 16).any fun k => (s.slot k).open_)
  else if p = pCONVM then i = 0 && s.on CONVM.ST_OVR_LAST
  else if p = pFLT then i = 0 && (List.range 16).any fun k => s.on (FLT.OVR k)
  else if p = pTHM then
    (i = 0 && (List.range 9).any fun h => s.rd (THM.SHELF_STEP h) = 4)
      || (i = 1 && (s.thm.emtLost || s.thm.lmpLost))
  else if p = pWATCH then (i = 0 && s.on WATCH.ST_OVERTEMP) || (i = 1 && 3 ≤ s.thm.watchMiss)
  else if p = pSAF then i = 0 && s.safety = sfSafeHold
  else if p = pLMP then i = 0 && s.rd LMP.DERATE_LEVEL = 4
  else if p = pPWR then
    (i = 0 && s.on PWR.ST_ON_STANDBY) || (i = 1 && !s.present (1 - s.rd PWR.FEED_ACTIVE))
  else if p = pCLK then i = 0 && !s.on CLK.ST_ALL_LOCKED
  else if p = pCHK then (i < 6 && !s.clockGood i) || (i = 6 && !s.on CHK.REF_GOOD)
  else if p = pSEC then (i = 0 && s.on SEC.ST_EXHAUSTED) || (i = 1 && s.nvs.security.lost)
  else false

/-- A W1C write to FAULT: unit bits first, then each common bit that no unit bit still holds (R61, R568). In a folio with children
every bit is RO. -/
def State.clearFaults (s : State) (p v : Nat) : State :=
  if isGroup p then s
  else
    let s1 := (List.range 16).foldl (fun s i => if bit v i && !s.faultCause p i then s.put (C.FAULT p i) false else s) s
    let held := fun (s : State) k => (List.range 16).any fun i => s.on (C.FAULT p i) && bit (faultCommons p i) k
    ((List.range' 24 8).foldl (fun s k => if bit v k && !held s k then s.put (C.FAULT p k) false else s) s1).degrade

/-! ### Fields (R10, R13) -/

/-- An RWH field is writable: the block has halted, in a group every child has; in a folio that cannot halt, safety state INIT
(R47, R49). -/
def State.mayHold (s : State) (p : Nat) : Bool := if haltable p then s.haltedIn 4 p else s.safety = sfInit

/-- A write of a value to one field by its access code. -/
def State.writeField (s : State) (p : Nat) (r : Row) (f : Fld) (v : Nat) : State :=
  match r.acc with
  | .rw => if r.ok v then s.wr f v else s.err (C.ERR_VALUE p)
  | .rws => if r.ok v then s.wrS f v else s.err (C.ERR_VALUE p)
  | .rwl => if r.ok v then s.wrS f v else s.err (C.ERR_VALUE p)
  | .rwh =>
    let s1 := if s.mayHold p then s else s.err (C.ERR_BUSY p)
    if !r.ok v then s1.err (C.ERR_VALUE p) else if s.mayHold p then s1.wrS f v else s1
  | .w1c => s.wr f (s.rd f &&& (2 ^ f.width - 1 ^^^ v))
  | .ro => s
  | .wo => s

/-- A write of a word's fields, each checked for itself; `keep` tells by the field's bit which ones. -/
def State.writeFieldsOf (s : State) (keep : Nat → Bool) (p off v : Nat) : State :=
  (rowsOf p).foldl (fun s r => (r.inWord (8 * off)).foldl (fun s j =>
    let b := r.bit + r.stride * j
    if keep b then s.writeField p r (r.fld p j) (bits v (b - 8 * off) r.width) else s) s) s

def State.writeFields (s : State) (p off v : Nat) : State := s.writeFieldsOf (fun _ => true) p off v

/-! ### HALT (R47 to R49, R340) -/

/-- HALT = 1 reaches a folio without children. -/
def State.haltLeaf (s : State) (p : Nat) : State :=
  if !haltable p then s.err (C.ERR_VALUE p)
  else if s.on (C.HALT p) then s
  else if s.operating && (s.inService p || (p = pCONVH && s.on CONVH.ST_RUNNING)) then s.err (C.ERR_STATE p)
  else
    let s1 := s.put (C.HALT p) true
    if idlesAtBoundary p && s1.atBoundary p then s1.takeHalt p else s1

/-- HALT = 0 reaches a folio without children. -/
def State.resumeLeaf (s : State) (p : Nat) : State :=
  if !haltable p then s
  else
    let s1 := s.put (C.HALT p) false
    if idlesAtBoundary p && s1.atBoundary p then s1.takeHalt p else s1

/-- A halt or a resume at a folio, passed on to everything beneath it. A folio that is off or in reset refuses it (R40). -/
def State.haltTree (s : State) (on : Bool) : Nat → Nat → State
  | 0, _ => s
  | d + 1, p =>
    if !s.runs p then s.err (C.ERR_STATE p)
    else if isGroup p then (childPages p).foldl (fun s c => s.haltTree on d c) (s.put (C.HALT p) on)
    else if on then s.haltLeaf p else s.resumeLeaf p

/-- A write of CTRL: VIEW, and HALT with its rules. -/
def State.ctrlWord (s : State) (p v : Nat) : State := (s.writeFields p 0xC v).haltTree (bit v 31) 5 p

/-! ### PERTURB (R64, R526) -/

/-- A write of PERTURB: accepted while test access is unlocked for it and the state is not OPERATIONAL. -/
def State.perturbWrite (s : State) (p v : Nat) : State :=
  if s.on MON.UNLOCKED && bit (s.rd MON.SCOPE) 0 && s.safety != sfOperational then
    (((((s.wr (C.EN p) (bits v 31 1)).wr (C.SYNC_STRETCH p) (bits v 24 4)).wr (C.HS_DELAY p) (bits v 16 8)).wr (C.BP_DUTY p)
      (bits v 12 4)).wr (C.FLAG_DELAY p) (bits v 8 4)).wr (C.BP_SEED p) (bits v 0 8)
  else s.err (C.ERR_LOCK p)

/-- PERTURB as it acts in a folio: EN if set there or in any ancestor, the other fields the larger of its own and its ancestors'
(R66, R24). -/
def State.perturbActs (s : State) (f : Nat → Fld) (p : Nat) : Nat :=
  ((List.range folioCount).filter fun a => (subtree a).contains p).foldl (fun m a => max m (s.rd (f a))) 0

/-! ### The words of single units -/

/-- The catalogue's control word: COMMIT, ABORT, SNAP in the order of their bits. -/
def State.catWord (s : State) (v : Nat) : State :=
  let s1 := if bit v 0 then s.commit else s
  let s2 := if bit v 1 then s1.abort else s1
  if bit v 2 then s2.snapRequest else s2

/-- RECOV_GO: the recovery monitor verifies the staged volume and jumps to it (R522); under BOOTSEL 0b100 it waits for a volume over
MON_RX alone (R499, R500). -/
def State.recovGo (s : State) : State :=
  if s.mon.recovery && s.rd RST.BOOTSEL != 4 then
    let rd := fun i => s.mon.staging.read i
    let r := s.verifyVolume rd (s.rd MON.RECOV_LEN) 0x7F
    let s1 := s.wr MON.RECOV_RESULT r
    if r = 0 then s1.runHost rd else s1
  else s

/-- A FLT slot's word: DIFF is accepted only on even inputs 0 to 10 (R342). -/
def State.fltWord (s : State) (off v : Nat) : State :=
  let k := (off - 0x80) / 4
  let input := if bits v 20 5 ≤ 23 then bits v 20 5 else s.rdS (FLT.INPUT k)
  if bit v 28 && !(input % 2 = 0 && input ≤ 10) then
    (s.writeFieldsOf (fun b => b != 1052 + 32 * k) pFLT off v).err (C.ERR_VALUE pFLT)
  else s.writeFields pFLT off v

/-- The pins of a wiring's used roles (R346). -/
def usedPins (wires p q r : Nat) : List Nat :=
  if wires = 1 then [p] else if wires = 2 then [p, q] else if wires = 3 then [p, q, r] else []

/-- An AFE slot's first word: one pin in two used roles rejects it whole; the source's own pin is PIN_P in four-wire form only
(R346). -/
def State.afeWord (s : State) (off v : Nat) : State :=
  let k := (off - 0x80) / 8
  let wires := bits v 30 2
  let own := bits v 24 4 = 12 && wires != 3
  let p := if own || 12 < bits v 24 4 then s.rdS (AFE.PIN_P k) else bits v 24 4
  let q := if 11 < bits v 20 4 then s.rdS (AFE.PIN_Q k) else bits v 20 4
  let r := if 11 < bits v 16 4 then s.rdS (AFE.PIN_S k) else bits v 16 4
  if !(usedPins wires p q r).Nodup then s.err (C.ERR_VALUE pAFE)
  else if own then (s.writeFieldsOf (fun b => b != 1048 + 64 * k) pAFE off v).err (C.ERR_VALUE pAFE)
  else s.writeFields pAFE off v

/-- A word of a lamp string: TARGET asks for a fade (R433). -/
def State.lampWord (s : State) (off v : Nat) : State :=
  let st := (off - 0x40) / 4
  let s1 := s.writeFields pLMP off v
  if s1.lmp.asked.contains st then s1 else { s1 with lmp.asked := s1.lmp.asked ++ [st] }

/-- LOAD after the other fields of its word. -/
def State.loadWord (s : State) (p off v : Nat) : State :=
  let s1 := s.writeFields p off v
  if !bit v 31 then s1 else if p = pEMT then s1.emtLoad else s1.lmpLoad

/-- A coefficient of a bank (R317): refused while the loop is closed on that bank. -/
def State.coeffWord (s : State) (off v : Nat) : State :=
  if s.coeffBusy ((off - 0x80) / 16) then s.err (C.ERR_BUSY pSCN) else s.writeFields pSCN off v

/-- A lane's control word; the header count that follows a slip is a free value (log 7). -/
def State.laneWord (s : State) (l v : Nat) : State :=
  State.drew (s.laneControl l v (s.freeVal 0 % 1025)) (b2n (bit v 30))

/-- A word of SEC: the operands of a command hold while one runs (R512). -/
def State.secWord (s : State) (path : Path) (off v : Nat) : State :=
  if off = 0x40 then s.secCommand path v
  else if (off = 0x44 || off = 0x48 || (0x80 ≤ off && off < 0xA0)) && s.on SEC.BUSY then s.err (C.ERR_BUSY pSEC)
  else s.writeFields pSEC off v

/-- A word of RST. -/
def State.rstWord (s : State) (path : Path) (off v : Nat) : State :=
  if off = 0x40 then s.swRequest path v
  else if off = 0x4C then s.wdogKick path v
  else if 0x80 ≤ off && off < 0xA0 then s.holdSlot ((off - 0x80) / 4) v
  else s.writeFields pRST off v

/-- A word of SAF. -/
def State.safWord (s : State) (path : Path) (off v : Nat) : State :=
  if off = 0x40 then s.writeReq path v
  else if off = 0x48 then s.clearTrips v
  else if off = 0x88 then s.confirmColophon path (BitVec.ofNat 32 v)
  else s.writeFields pSAF off v

/-- A word of an engine's folio. -/
def State.reWord (s : State) (path : Path) (k off v : Nat) : State :=
  if off = 0x40 then s.unfence k v
  else if off = 0x44 then s.loadAddr k v
  else if off = 0x48 then s.loadData path k v
  else s.writeFields (pRe k) off v

/-- A word of SCN: RESTART after the other fields of its word. -/
def State.scnWord (s : State) (off v : Nat) : State :=
  if off = 0x40 then (let s1 := s.writeFields pSCN off v; if bit v 28 then s1.scnRestart else s1)
  else if 0x80 ≤ off && off < 0xA0 then s.coeffWord off v
  else s.writeFields pSCN off v

/-- A word of ACQ: RUN after the other fields of its word, and SW_TRIG. -/
def State.acqWord (s : State) (off v : Nat) : State :=
  if off = 0x40 then (s.writeFieldsOf (fun b => b != 543) pACQ off v).writeRun (bit v 31)
  else if off = 0x94 then (if bit v 0 then s.trigger 8 else s)
  else s.writeFields pACQ off v

/-- A word of a folio's unit region. -/
def State.unitWrite (s : State) (path : Path) (p off v : Nat) : State :=
  if 0x6F ≤ p then s.reWord path (p - 0x6F) off v
  else if p = 0 && off = 0x40 then s.catWord v
  else if p = pACQ then s.acqWord off v
  else if p = pREG && off = 0x40 then s.request repairFlds updateFlds v
  else if p = pREG && off = 0x44 then s.request updateFlds repairFlds v
  else if 0x26 ≤ p && p ≤ 0x30 && 0x200 ≤ off && off < 0x2C0 then
    (s.writeFieldsOf (fun b => b % 32 != 20) p off v).clearHot (p - 0x26) ((off - 0x200) / 4) (bits v 20 12)
  else if 0x14 ≤ p && p ≤ 0x19 && off = 0x40 then s.laneSetup (p - 0x14) v
  else if 0x14 ≤ p && p ≤ 0x19 && off = 0x44 then s.laneWord (p - 0x14) v
  else if p = pEMT && off = 0xB0 then s.loadWord pEMT off v
  else if p = pLMP && off = 0x6C then s.loadWord pLMP off v
  else if p = pLMP && off < 0x50 then s.lampWord off v
  else if p = pSCN then s.scnWord off v
  else if p = pCONVH && off = 0x40 then (s.writeFields p off v).convhControl v
  else if p = pFLT && 0x80 ≤ off && off < 0xC0 then s.fltWord off v
  else if p = pAFE && 0x80 ≤ off && off < 0x100 && off % 8 = 0 then s.afeWord off v
  else if p = pCAL && off = 0x100 then s.strskWord v
  else if p = pSAF then s.safWord path off v
  else if p = pPWR && off = 0x40 then s.pwrCommand v
  else if p = pPWR && off = 0x48 then s.parkWord v
  else if p = pRST then s.rstWord path off v
  else if p = pSEC then s.secWord path off v
  else if p = pNVS && off = 0x4C then s.wgo path v
  else if p = pMON && off = 0x54 then (if bit v 31 then s.recovGo else s)
  else s.writeFields p off v

/-! ### A write of a word -/

/-- A write of a word of a folio (R39, R40). -/
def State.writeWord (s : State) (path : Path) (p off v : Nat) : State :=
  if !defined p off then s.err (C.ERR_ADDR p)
  else if off = 0x10 then s.writeFields p off v
  else if !s.runs p then s.err (C.ERR_STATE p)
  else if off = 0xC then s.ctrlWord p v
  else if off = 0x20 then s.clearFaults p v
  else if off = 0x28 then s.perturbWrite p v
  else if off < 0x40 then s.writeFields p off v
  else s.unitWrite path p off v

/-- A write access of a 32-bit word: the state after it, and its answer. A write that clears what INT_STAT reports ends the
announcement (R300). One to the sentinel domain arrives there once its clock runs (R447). -/
def State.busWrite (s : State) (path : Path) (a v : Nat) : State × BusAnswer :=
  if a % 4 != 0 then (s.badAccess a, { error := true })
  else match folioOf a with
    | none => (s, { error := true })
    | some p =>
      if s.pwr.hold && domainOf p = 151 then (s.keep (.write path p (a % 0x1000) v), {})
      else ((s.writeWord path p (a % 0x1000) v).eventsQuiet, {})

/-- The answer of an access shows. -/
def answered (r : State × BusAnswer) : State := { r.1 with bus := r.2 }

/-- REGISTER_WRITE. -/
def execRegisterWrite (path : Path) (addr value : Word) (s : State) : Host.Outcome State Fault Refusal :=
  done (answered (s.busWrite path addr.toNat value.toNat))

/-- BAD_REGISTER_ACCESS: an access of a wrong size or alignment, or to no folio; any other access is not this one. -/
def execBadRegisterAccess (path : Path) (write : Bool) (addr : Word) (size : Nat) (s : State) : Host.Outcome State Fault Refusal :=
  let _ := path
  let _ := write
  let a := addr.toNat
  done (if size != 4 || a % 4 != 0 || folioOf a = none then answered (s.badAccess a, { error := true }) else s)

/-- UNDEFINED_OFFSET_ACCESS: the access as any other, which finds its offset undefined. -/
def execUndefinedOffsetAccess (path : Path) (write : Bool) (addr value : Word) (s : State) : Host.Outcome State Fault Refusal :=
  done (answered (if write then s.busWrite path addr.toNat value.toNat else s.busRead addr.toNat))

/-- A write of a word of a folio, as a command of its own. -/
def State.wordCommand (s : State) (path : Path) (p off : Nat) (value : Word) : State :=
  answered (s.busWrite path (folioAddr p + off) value.toNat)

def execHaltWrite (path : Path) (page : Fin 183) (value : Word) (s : State) : Host.Outcome State Fault Refusal :=
  done (s.wordCommand path page 0xC value)

def execPerturbWrite (path : Path) (page : Fin 183) (value : Word) (s : State) : Host.Outcome State Fault Refusal :=
  done (s.wordCommand path page 0x28 value)

def execRunWrite (path : Path) (value : Word) (s : State) : Host.Outcome State Fault Refusal :=
  done (s.wordCommand path pACQ 0x40 value)

def execEmtLoad (path : Path) (value : Word) (s : State) : Host.Outcome State Fault Refusal :=
  done (s.wordCommand path pEMT 0xB0 value)

def execLmpLoad (path : Path) (value : Word) (s : State) : Host.Outcome State Fault Refusal :=
  done (s.wordCommand path pLMP 0x6C value)

def execRestart (path : Path) (value : Word) (s : State) : Host.Outcome State Fault Refusal :=
  done (s.wordCommand path pSCN 0x40 value)

def execCoeffWrite (path : Path) (bank : Fin 2) (word : Fin 4) (value : Word) (s : State) : Host.Outcome State Fault Refusal :=
  done (s.wordCommand path pSCN (0x80 + 16 * bank + 4 * word) value)

def execStart (path : Path) (value : Word) (s : State) : Host.Outcome State Fault Refusal :=
  done (s.wordCommand path pCONVH 0x40 value)

def execStop (path : Path) (value : Word) (s : State) : Host.Outcome State Fault Refusal :=
  done (s.wordCommand path pCONVH 0x40 value)

def execRecovGo (path : Path) (value : Word) (s : State) : Host.Outcome State Fault Refusal :=
  done (s.wordCommand path pMON 0x54 value)

/-! ### The register channel (R299) -/

def rsOk : Nat := 0
def rsError : Nat := 1
def rsBusy : Nat := 2
def rsMalformed : Nat := 3

/-- A response's first word. -/
def responseHead (op tag countM1 status mask addr : Nat) : DWord :=
  BitVec.ofNat 64 (op * 2 ^ 62 + tag * 2 ^ 54 + countM1 * 2 ^ 50 + status * 2 ^ 48 + mask * 2 ^ 32 + addr)

/-- A response on C0. -/
def State.respond (s : State) (words : List DWord) : State := s.enqueue 1 { channel := 2, first := true, last := true, words := words }

/-- Requests carried out whose responses have not left. -/
def State.outstanding (s : State) : Nat :=
  ((s.path 1).queue.filter fun (k : TxPacket) => k.channel = 2 && (k.words.head?.any fun w => bits w.toNat 48 2 ≤ rsError)).length

/-- Reads of successive words: the state, and the answers in order. -/
def State.readMany (s : State) (a : Nat) : Nat → State × List BusAnswer
  | 0 => (s, [])
  | n + 1 =>
    let (s1, r) := s.busRead a
    let (s2, rs) := s1.readMany ((a + 4) % 2 ^ 32) n
    (s2, r :: rs)

/-- Writes of successive words over the link. -/
def State.writeMany (s : State) (a : Nat) : List Word → State × List BusAnswer
  | [] => (s, [])
  | v :: vs =>
    let (s1, r) := s.busWrite .link a v.toNat
    let (s2, rs) := s1.writeMany ((a + 4) % 2 ^ 32) vs
    (s2, r :: rs)

/-- ERRMASK. -/
def errMask : List BusAnswer → Nat
  | [] => 0
  | r :: rs => b2n r.error + 2 * errMask rs

/-- C0 carries requests while it is ACTIVE. -/
def State.c0Active (s : State) : Bool := s.laneState 4 = lsActive

/-- REGISTER_READ_REQUEST. -/
def execRegisterReadRequest (tag : BitVec 8) (countM1 : BitVec 4) (addr : Word) (s : State) : Host.Outcome State Fault Refusal :=
  let head := fun status mask => responseHead 0 tag.toNat countM1.toNat status mask addr.toNat
  done (if !s.c0Active then s
    else if 8 ≤ s.outstanding then s.respond (head rsBusy 0 :: List.replicate (countM1.toNat + 1) 0)
    else
      let (s1, rs) := s.readMany addr.toNat (countM1.toNat + 1)
      let m := errMask rs
      s1.respond (head (if m = 0 then rsOk else rsError) m :: rs.map fun r => r.data.zeroExtend 64))

/-- REGISTER_WRITE_REQUEST. -/
def execRegisterWriteRequest (tag : BitVec 8) (addr : Word) (values : List Word) (s : State) : Host.Outcome State Fault Refusal :=
  let head := fun status mask => responseHead 1 tag.toNat (values.length - 1) status mask addr.toNat
  if values.length = 0 || 16 < values.length then .fault .illFormed
  else done (if !s.c0Active then s
    else if 8 ≤ s.outstanding then s.respond [head rsBusy 0]
    else
      let (s1, rs) := s.writeMany addr.toNat values
      let m := errMask rs
      s1.respond [head (if m = 0 then rsOk else rsError) m])

/-- REGISTER_MALFORMED_REQUEST: the response echoes what the request's first word holds, and no access is made. A request that the
rules carry out is not this one. -/
def execRegisterMalformedRequest (head : DWord) (len : Nat) (s : State) : Host.Outcome State Fault Refusal :=
  let h := head.toNat
  let op := bits h 62 2
  let count := bits h 50 4 + 1
  let malformed := 2 ≤ op || len != 1 + (if op = 1 then count else 0)
  done (if !s.c0Active || !malformed then s
    else s.respond (responseHead op (bits h 54 8) (bits h 50 4) rsMalformed 0 (bits h 0 32) :: if op = 0 then List.replicate count 0 else []))

/-! ### EVENT packets (R300) -/

/-- The words that an EVENT packet reports: the catalogue's INT_STAT and those of its six children. -/
def State.eventWords (s : State) : List Word := (List.range 7).map fun p => BitVec.ofNat 32 (s.intStat p)

/-- EVENT_PACKET_SEND: INT_STAT of the catalogue has become non-zero, so the host core is interrupted (R63), or a reported word has
changed and EVENT_GAP has passed. -/
def execEventPacketSend (s : State) : Host.Outcome State Fault Refusal :=
  let ws := s.eventWords
  let w := fun i => (ws.getD i 0).toNat
  done (if !s.hostInterrupt then { s with lnk.lastEvent := [] }
    else if !s.c0Active || ws = s.lnk.lastEvent then s
    else
      let pair := fun i => BitVec.ofNat 64 (w i * 2 ^ 32 + w (i + 1))
      let first : DWord := BitVec.ofNat 64 (s.rd CAT.ACCESSION * 2 ^ 32 + w 0)
      { s.enqueue 1 { channel := 3, first := true, last := true, words := [s.acq.time, first, pair 1, pair 3, pair 5] } with
        lnk.lastEvent := ws })

end Sys2Proof.Machine
end

