-- ==== Sys2Proof/Machine/Spi.lean ====
section
/-! DEFINITION. The SPI target and the I2C controller (spec/21_electrical_and_timing.md: R552, R553, R555), and the test access
port (spec/20_monitor_and_test.md: R529 to R531). A frame's bits, its wait bytes and its edges are timing (NOTES.md, Scope). -/
namespace Sys2Proof.Machine
open Sys2Proof

/-! ### SPI frames (R552, R553) -/

def spiOk : Byte := 0
def spiError : Byte := 1
def spiCrc : Byte := 2
def spiMalformed : Byte := 3

/-- The target answers: the fabric domain is on and out of reset. -/
def State.spiAnswers (s : State) : Bool := s.runs 0

/-- A word's four bytes, most significant first. -/
def beBytes (v : Word) : List Byte := (leBytes 4 v.toNat).reverse

/-- A response: SYNC, STATUS, data, and the CRC over STATUS and data. -/
def spiResponse (status : Byte) (data : List Byte) : List Byte :=
  [0xA5, status] ++ data ++ [BitVec.ofNat 8 (crc8Spi (status :: data))]

/-- The last frame's response shows. -/
def State.spiSays (s : State) (r : List Byte) : State := { s with spi := { response := r, abandoned := false } }

/-- The staging window, which the SPI target reaches for a recovery monitor that takes its volume there (R522, R500). -/
def State.inStaging (s : State) (a : Nat) : Bool :=
  0x70000000 ≤ a && a ≤ 0x70400FFF && s.runs pHCP && (s.rd RST.BOOTSEL = 3 || (s.mon.recovery && s.rd RST.BOOTSEL != 4))

/-- A read by the SPI target. -/
def State.spiReadAt (s : State) (a : Nat) : State × BusAnswer :=
  if s.inStaging a && a % 4 = 0 then (s, { data := BitVec.ofNat 32 (s.mon.staging.le (a - 0x70000000) 4) }) else s.busRead a

/-- A write by the SPI target. -/
def State.spiWriteAt (s : State) (a v : Nat) : State × BusAnswer :=
  if s.inStaging a && a % 4 = 0 then ({ s with mon.staging := s.mon.staging.setLe (a - 0x70000000) 4 v }, {}) else s.busWrite .spi a v

/-- SPI_READ. A response to a read carries four data bytes, 0 where no word was read. -/
def execSpiRead (addr : Word) (crc : Byte) (s : State) : Host.Outcome State Fault Refusal :=
  done (if !s.spiAnswers then s.spiSays []
    else if crc8Spi (0x0B :: beBytes addr) != crc.toNat then s.spiSays (spiResponse spiCrc [0, 0, 0, 0])
    else
      let (s1, r) := s.spiReadAt addr.toNat
      State.spiSays { s1 with bus := r } (spiResponse (if r.error then spiError else spiOk) (beBytes (if r.error then 0 else r.data))))

/-- SPI_WRITE. -/
def execSpiWrite (addr data : Word) (crc : Byte) (s : State) : Host.Outcome State Fault Refusal :=
  done (if !s.spiAnswers then s.spiSays []
    else if crc8Spi (0x02 :: (beBytes addr ++ beBytes data)) != crc.toNat then s.spiSays (spiResponse spiCrc [])
    else
      let (s1, r) := s.spiWriteAt addr.toNat data.toNat
      State.spiSays { s1 with bus := r } (spiResponse (if r.error then spiError else spiOk) []))

/-- SPI_MALFORMED_FRAME: no access. A frame whose CMD is a read or a write is not this one. -/
def execSpiMalformedFrame (cmd : Byte) (s : State) : Host.Outcome State Fault Refusal :=
  done (if cmd = 0x0B || cmd = 0x02 then s
    else if s.spiAnswers then s.spiSays (spiResponse spiMalformed []) else s.spiSays [])

/-- SPI_FRAME_ABANDON: the target ignores SPI_SCK until SPI_CS_N rises. -/
def execSpiFrameAbandon (s : State) : Host.Outcome State Fault Refusal :=
  done { s with spi := { response := [], abandoned := true } }

/-- SPI_CS_N_EARLY_RISE: the frame is discarded, no access is made. -/
def execSpiCsNEarlyRise (s : State) : Host.Outcome State Fault Refusal := done (s.spiSays [])

/-! ### I2C (R555) -/

/-- I2C_STRETCH_TIMEOUT: the transfer ends and is reported as failed. -/
def execI2cStretchTimeout (s : State) : Host.Outcome State Fault Refusal :=
  done (if s.runs pI2C then { s with mon.i2cFailed := s.mon.i2cFailed + 1 } else s)

/-! ### The test access port (R529 to R531) -/

/-- EXTEST acts: unlocked with SCOPE bit 2, in INIT or SAFE_HOLD (R530). -/
def State.extestAllowed (s : State) : Bool :=
  s.on MON.UNLOCKED && bit (s.rd MON.SCOPE) 2 && (s.safety = sfInit || s.safety = sfSafeHold)

/-- The observe-only cells: EG0 to EG7, PROX_N, SAFE_OK and CTR_EN (R531; log 36). -/
def observeOnly : BitVec 79 := 0xFF ||| 1 <<< 34 ||| 1 <<< 35 ||| 1 <<< 39

/-- A level in its cell. -/
def cellOf (i : Nat) (b : Bool) : BitVec 79 := BitVec.ofNat 79 (b2n b * 2 ^ i)

/-- What the pads show to EXTEST: the observe-only cells the levels that SAF and EMT drive, every other cell what its pin carries,
which the board decides. FREE VALUE (log 7): those levels. -/
def State.padsSeen (s : State) : BitVec 79 :=
  let free := BitVec.ofNat 79 (s.freeVal 0)
  let prox := match s.pins.proxN with
    | some asserted => cellOf 34 (!asserted)
    | none => free &&& cellOf 34 true
  (free &&& ~~~observeOnly) ||| prox ||| cellOf 35 (s.on SAF.SAFE_OK) ||| cellOf 39 (s.on SAF.CTR_EN)

/-- A bypass instruction is selected: EXTEST, if it acted, ends. -/
def State.bypass (s : State) : State := { s.put MON.ST_EXTEST false with jtag.instr := 15 }

/-- EXTEST: the cells drive their pins, the observe-only ones aside; else the bypass register is selected. -/
def execExtest (cells : BitVec 79) (s : State) : Host.Outcome State Fault Refusal :=
  done (if s.extestAllowed then
      { State.drew (s.put MON.ST_EXTEST true) 1 with jtag := { instr := 0, cells := cells &&& ~~~observeOnly, captured := s.padsSeen } }
    else s.bypass)

/-- SAMPLE/PRELOAD: the pins are captured. -/
def execSamplePreload (pins : BitVec 79) (s : State) : Host.Outcome State Fault Refusal :=
  done { s.put MON.ST_EXTEST false with jtag := { s.jtag with instr := 1, captured := pins } }

/-- BYPASS. -/
def execBypass (s : State) : Host.Outcome State Fault Refusal := done s.bypass

end Sys2Proof.Machine
end

