-- ==== Sys2Proof/Machine/Carrel.lean ====
section
/-! DEFINITION. Carrel's commands (spec/20_monitor_and_test.md: R518 to R522) and the recovery monitor's (R522). A command row
carries its arguments; the whole answer is given at once, but for `snap`, which waits for SNAP_DONE. -/
namespace Sys2Proof.Machine
open Sys2Proof

/-! ### Commands and their answers -/

/-- What a command does: the state after it, its data lines, its status line; with `waits` the status line comes later. -/
structure Reply where
  state : State
  lines : List String := []
  status : String := ansOk
  waits : Bool := false

/-- The reply goes out. -/
def Reply.sent (r : Reply) : State :=
  if r.waits then { r.state with mon.output := r.state.mon.output ++ r.lines, mon.busy := true }
  else r.state.answer r.lines r.status

/-- A `snap` whose SNAP_DONE has not come when the next line is read has run into its limit (R517, R520). -/
def State.snapExpires (s : State) : State :=
  if s.mon.snapWait then { s with mon.snapWait := false, mon.output := [ansTimeout, prompt] } else { s with mon.output := [] }

/-- Run a command: nobody answers while no monitor reads the port; the recovery monitor knows its own commands alone; a command
marked "unlock" needs test access with SCOPE bit 1 (R520, R526). -/
def State.carrel (s : State) (inRecovery inCarrel unlock : Bool) (f : State → Reply) : State :=
  if !s.monitorReads then s
  else
    let s1 := s.snapExpires
    if !(if s.mon.running then inCarrel else inRecovery) then s1.answer [] ansSyntax
    else if unlock && !(s.on MON.UNLOCKED && bit (s.rd MON.SCOPE) 1) then s1.answer [] ansLocked
    else (f s1).sent

/-- A command of Carrel alone that needs no unlock. -/
def State.carrelOnly (s : State) (f : State → Reply) : State := s.carrel false true false f

/-- CARREL_UNKNOWN_COMMAND. -/
def execCarrelUnknownCommand (s : State) : Host.Outcome State Fault Refusal :=
  done (s.carrel true true false fun s => { state := s, status := ansSyntax })

/-! ### Reading and writing (R519, R520) -/

/-- CARREL_VER: PART and STEPPING; HOST_VOL_ID and HOST_VOL_VER; VERSION of C0 and of the bundle; STRAPS. -/
def execCarrelVer (s : State) : Host.Outcome State Fault Refusal :=
  done (s.carrel true true false fun s => {
    state := s
    lines := [hexWord (s.wordShown 0 0x60), hexWord (s.rd SEC.HOST_VOL_ID * 65536 + s.rd SEC.HOST_VOL_VER),
              spaced [toString (s.rd (CTL.C_VERSION 0)), toString (s.rd L0.B_VERSION)], hexWord (s.wordShown pRST 0x44)] })

/-- One line of `peek`. -/
def peekLine (a : Nat) (r : BusAnswer) : String :=
  hexWord a ++ ": " ++ if r.error then "E 06" else hexWord r.data.toNat

/-- CARREL_PEEK. -/
def execCarrelPeek (addr : Word) (count : Nat) (s : State) : Host.Outcome State Fault Refusal :=
  done (s.carrel true true false fun s =>
    if count = 0 || 64 < count then { state := s, status := ansSyntax }
    else
      let (s1, rs) := s.readMany addr.toNat count
      { state := s1, lines := (List.range count).zipWith (fun i r => peekLine ((addr.toNat + 4 * i) % 2 ^ 32) r) rs })

/-- The ERR_ bits of a folio, as STATUS [23:19]. -/
def State.errBits (s : State) (p : Nat) : Nat := bits (rowsWord s.rd p 128) 19 5

/-- Set the ERR_ bits of a folio. -/
def State.putErrBits (s : State) (p m : Nat) : State :=
  (List.range 5).foldl (fun s i => s.put (fld p (147 + i) 1 0) (bit m i)) s

/-- The names of ERR_ bits. -/
def errNames (m : Nat) : List String :=
  (List.range 5).flatMap fun i => if bit m i then [["ERR_ADDR", "ERR_LOCK", "ERR_STATE", "ERR_VALUE", "ERR_BUSY"].getD i ""] else []

/-- The status line for the ERR_ bits that an access set. -/
def errStatus (m : Nat) : String :=
  if bit m 1 then ansLocked else if bit m 2 then ansState else if bit m 4 then ansBusy else if bit m 3 then ansValue else ansOk

/-- CARREL_POKE: the write, then the ERR_ bits that it set. -/
def execCarrelPoke (addr value : Word) (s : State) : Host.Outcome State Fault Refusal :=
  done (s.carrelOnly fun s =>
    match folioOf addr.toNat with
    | none => { state := s, status := ansAddr }
    | some p =>
      let old := s.errBits p
      let (s1, r) := (s.putErrBits p 0).busWrite .mon addr.toNat value.toNat
      let new := s1.errBits p
      { state := s1.putErrBits p (new ||| old), lines := errNames new, status := if r.error then ansAddr else errStatus new })

/-- Reads of some words of a folio, in order. -/
def State.readOffsets (s : State) (p : Nat) : List Nat → State × List (Nat × Nat)
  | [] => (s, [])
  | o :: os =>
    let (s1, v) := s.readWord p o
    let (s2, vs) := s1.readOffsets p os
    (s2, (o, v) :: vs)

/-- Words eight a line, the offset of the first in front. -/
def eightPerLine : Nat → List (Nat × Nat) → List String
  | 0, _ => []
  | _ + 1, [] => []
  | n + 1, x :: l => spaced (hexWord x.1 :: ((x :: l).take 8).map fun w => hexWord w.2) :: eightPerLine n ((x :: l).drop 8)

/-- CARREL_FOLIO: the 16 common words, then every word that the layout defines. -/
def execCarrelFolio (addr : Word) (s : State) : Host.Outcome State Fault Refusal :=
  done (s.carrelOnly fun s =>
    match folioOf addr.toNat with
    | none => { state := s, status := ansAddr }
    | some p =>
      let (s1, ws) := s.readOffsets p (((List.range 1024).map (4 * ·)).filter (defined p))
      { state := s1, lines := eightPerLine 128 (ws.take 16) ++ eightPerLine 128 (ws.drop 16) })

/-- The folios with their depth, in the order of the walk of R44. -/
def walkFrom : Nat → Nat → Nat → List (Nat × Nat)
  | 0, _, _ => []
  | d + 1, depth, p => (depth, p) :: (childPages p).flatMap (walkFrom d (depth + 1))

/-- One line of `tree`: depth, address, TYPE, INSTANCE, MAJOR.MINOR. -/
def treeLine (x : Nat × Nat) : String :=
  spaced [toString x.1, hexWord (folioAddr x.2), "0x" ++ hexDigits 3 (folioType x.2), toString (folioInstance x.2), "1.0"]

/-- CARREL_TREE. -/
def execCarrelTree (s : State) : Host.Outcome State Fault Refusal :=
  done (s.carrelOnly fun s => { state := s, lines := (walkFrom 5 0 0).map treeLine })

/-- CARREL_SNAP: the request; the answer comes with SNAP_DONE. -/
def execCarrelSnap (s : State) : Host.Outcome State Fault Refusal :=
  done (s.carrelOnly fun s => { state := { s.writeWord .mon 0 0x40 4 with mon.snapWait := true }, waits := true })

/-! ### Traces (R521) -/

/-- CARREL_TRACE. -/
def execCarrelTrace (addr : Word) (s : State) : Host.Outcome State Fault Refusal :=
  done (s.carrelOnly fun s =>
    match folioOf addr.toNat with
    | none => { state := s, status := ansAddr }
    | some p => { state := { s with mon.trace := some (subtree p), mon.traceLast := [], mon.traceBuf := [], mon.traceLost := 0 } })

/-- CARREL_TRACE_OFF. -/
def execCarrelTraceOff (s : State) : Host.Outcome State Fault Refusal :=
  done (s.carrelOnly fun s => { state := { s with mon.trace := none, mon.traceLast := [], mon.traceBuf := [], mon.traceLost := 0 } })

/-- One line for each bit that has risen. -/
def State.traceLines (s : State) (p now : Nat) : List String :=
  let old := Tab.get 0 s.mon.traceLast p
  (List.range 32).flatMap fun i =>
    if bit now i && !bit old i then
      [spaced ["T", hexLong s.acq.time.toNat, hexWord (s.rd CAT.ACCESSION), hexWord (folioAddr p), hexWord (2 ^ i)]] else []

/-- A line waits in the buffer of 256, or is dropped. -/
def State.traceAdd (s : State) (line : String) : State :=
  if s.mon.traceBuf.length < 256 then { s with mon.traceBuf := s.mon.traceBuf ++ [line] }
  else { s with mon.traceLost := s.mon.traceLost + 1 }

/-- One folio's poll. -/
def State.tracePoll (s : State) (p : Nat) : State :=
  let (s1, now) := s.readWord p 0x14
  let s2 := (s1.traceLines p now).foldl State.traceAdd s1
  { s2 with mon.traceLast := Tab.set 0 s2.mon.traceLast p now }

/-- The lines that have been sent since the last poll. FREE VALUE (log 7): how many, which the port's rate decides. After an
overflow the next line tells how many entries were dropped. -/
def State.traceSend (s : State) : State :=
  let k := s.freeVal 0 % (s.mon.traceBuf.length + 1)
  let lost := if 0 < s.mon.traceLost && 0 < k then ["T LOST " ++ toString s.mon.traceLost] else []
  let sent := s.mon.traceBuf.take k
  { s.drew 1 with
    mon.output := lost ++ sent, mon.traceBuf := s.mon.traceBuf.drop k
    mon.traceLost := if lost = [] then s.mon.traceLost else 0 }

/-- TRACE_POLL. -/
def execTracePoll (s : State) : Host.Outcome State Fault Refusal :=
  done (match s.mon.trace with
    | none => s
    | some ps => ps.foldl State.tracePoll s.traceSend)

/-! ### Volumes (R522) -/

/-- VOL_LOAD: the bytes that came and the check bytes after them; fewer than announced leave the transfer waiting. -/
def execVolLoad (size : Nat) (bytes check : List Byte) (s : State) : Host.Outcome State Fault Refusal :=
  let all := bytes ++ check
  let vol := all.take size
  done (s.carrel true true false fun s =>
    if size < 3080 || volumeMax < size then { state := s, status := ansValue }
    else
      let s1 : State := { s with mon.volume := none, mon.receiving := false }
      if all.length < size + 4 then { state := { s1 with mon.receiving := true }, lines := ["READY"], waits := true }
      else if (all.drop size).take 4 = shake256 vol 4 then { state := { s1 with mon.volume := some vol }, lines := ["READY"] }
      else { state := s1, lines := ["READY"], status := ansCheck })

/-- VOL_LOAD_TIMEOUT: a gap of more than 1 s ends a transfer. -/
def execVolLoadTimeout (s : State) : Host.Outcome State Fault Refusal :=
  done (if s.mon.receiving then State.answer { s with mon.receiving := false, mon.output := [] } [] ansTimeout else s)

/-- A volume of a slot: TYPE, VOL_ID and its bytes. -/
structure SlotVolume where
  type : Nat
  id : Nat
  bytes : List Byte

/-- The volumes that a slot's directory names; none where the directory is not valid. -/
def State.slotVolumes (s : State) (slot : Nat) : List SlotVolume :=
  let rd := fun o => s.nvs.flash.read (slotBase slot + o)
  let n := (rd 5).toNat
  if slice rd 0 4 = magicDir && rd 4 = 1 && 1 ≤ n && n ≤ 17 then
    (List.range n).map fun i =>
      { type := (rd (0x10 + 16 * i)).toNat, id := sliceLe rd (0x12 + 16 * i) 2
        bytes := slice rd (sliceLe rd (0x14 + 16 * i) 4) (min (sliceLe rd (0x18 + 16 * i) 4) volumeMax) }
  else []

/-- A length rounded up to 4 KiB. -/
def pageUp (n : Nat) : Nat := (n + 4095) / 4096 * 4096

/-- The offsets of volumes laid one after another from `o` on. -/
def layOut : Nat → List SlotVolume → List (Nat × SlotVolume)
  | _, [] => []
  | o, v :: vs => (o, v) :: layOut (o + pageUp v.bytes.length) vs

/-- The 16 bytes of a directory entry (R497). -/
def dirEntry (x : Nat × SlotVolume) : List Byte :=
  leBytes 1 x.2.type ++ [0] ++ leBytes 2 x.2.id ++ leBytes 4 x.1 ++ leBytes 4 x.2.bytes.length ++ leBytes 4 0

/-- A slot written anew: its directory and its volumes, each aligned to 4 KiB (log 38). -/
def State.writeSlot (s : State) (slot : Nat) (vs : List SlotVolume) : State :=
  let b := slotBase slot
  let laid := layOut 4096 vs
  let dir := magicDir ++ [1] ++ leBytes 1 vs.length ++ List.replicate 10 0 ++ laid.flatMap dirEntry
  let m := (s.nvs.flash.wipe b (Config.flashMib * 2 ^ 20 / 2)).write b dir
  { s with nvs.flash := laid.foldl (fun (m : Mem) x => m.write (b + x.1) x.2.bytes) m }

/-- The slot that the boot record names as ACTIVE. -/
def State.activeSlot (s : State) : Nat :=
  match s.bootRecord with
  | none => 0
  | some b => b.active % 2

/-- The loaded volume goes into a slot: a HOST volume in place of the slot's, an ENGINE volume in place of the one with its VOL_ID. -/
def State.volInto (s : State) (slot : Nat) (vol : List Byte) : Reply :=
  let rd := fun i => vol.getD i 0
  let new : SlotVolume := { type := (rd 5).toNat, id := sliceLe rd 8 2, bytes := vol }
  let kept := (s.slotVolumes slot).filter fun v => !(v.type = new.type && (new.type = 1 || v.id = new.id))
  let vs := kept ++ [new]
  let size := 4096 + (vs.map fun v => pageUp v.bytes.length).sum
  if new.type != 1 && new.type != 2 then { state := s, status := ansCheck }
  else if 16 < (vs.filter fun v => v.type = 2).length || Config.flashMib * 2 ^ 20 / 2 < size then { state := s, status := ansValue }
  else { state := s.writeSlot slot vs }

/-- VOL_WRITE. -/
def execVolWrite (slotB : Bool) (s : State) : Host.Outcome State Fault Refusal :=
  let slot := if slotB then 1 else 0
  done (s.carrel true true false fun s =>
    match s.mon.volume with
    | none => { state := s, status := ansState }
    | some vol =>
      if s.activeSlot = slot || !s.runs pNVS then { state := s, status := ansState }
      else s.volInto slot vol)

/-- VERIFY of the loaded volume, which the firmware hands to SEC and waits for. FREE VALUE (log 7): where in host memory the volume
stands, which SRC_ADDR then shows. -/
def State.volVerify (s : State) (vol : List Byte) (dest : Nat) : State × Nat :=
  let rd := fun i => vol.getD i 0
  let r := s.verifyVolume rd vol.length dest
  let s1 := State.drew ((s.wr SEC.SRC_ADDR (s.freeVal 0)).wr SEC.SRC_LEN vol.length) 1
  let s2 : State := if r = 0 && dest ≤ 71 then { s1 with sec.records := Tab.set {} s1.sec.records dest (volumeRecord rd) } else s1
  (s2.secEnds r, r)

/-- VOL_VERIFY. -/
def execVolVerify (dest : Byte) (s : State) : Host.Outcome State Fault Refusal :=
  done (s.carrelOnly fun s =>
    match s.mon.volume with
    | none => { state := s, status := ansState }
    | some vol =>
      if !s.runs pSEC then { state := s, status := ansState }
      else if s.on SEC.BUSY then { state := s, status := ansBusy }
      else if !destOk 1 dest.toNat then { state := s, status := ansValue }
      else
        let (s1, r) := s.volVerify vol dest.toNat
        { state := s1, lines := [toString r] })

/-- CARREL_BOOT: the recovery monitor verifies the loaded volume with DEST 0x7F and jumps to it. -/
def execCarrelBoot (s : State) : Host.Outcome State Fault Refusal :=
  done (s.carrel true false false fun s =>
    match s.mon.volume with
    | none => { state := s, status := ansState }
    | some vol =>
      let rd := fun i => vol.getD i 0
      if s.verifyVolume rd vol.length 0x7F = 0 then { state := s.runHost rd } else { state := s, status := ansCheck })

/-! ### The rate (R516) -/

/-- BAUD. -/
def execBaud (rate : Nat) (s : State) : Host.Outcome State Fault Refusal :=
  done (s.carrelOnly fun s =>
    if rate = 921600 then { state := s.wr MON.BAUD 1 }
    else if rate = 3000000 then { state := s.wr MON.BAUD 2 }
    else { state := s, status := ansValue })

end Sys2Proof.Machine
end

