-- ==== Sys2Proof/Machine/EngineVector.lean ====
section
/-! DEFINITION. The vector instructions of a return engine (R187, R189, R190): sixteen lanes of 16 bits, two accumulators of
sixteen lanes of 40 bits. -/
namespace Sys2Proof.Machine
open Sys2Proof

/-! ### Lanes -/

abbrev Lane := BitVec 16

/-- Lane i of a vector register. -/
def lane (v : BitVec 256) (i : Nat) : Lane := v.extractLsb' (16 * i) 16

/-- The vector whose lane i is `f i`. -/
def ofLanes (f : Nat → Lane) : BitVec 256 :=
  BitVec.ofNat 256 ((List.range 16).map fun i => (f i).toNat * 2 ^ (16 * i)).sum

/-- Lane i of an accumulator. -/
def accLane (a : BitVec 640) (i : Nat) : BitVec 40 := a.extractLsb' (40 * i) 40

/-- The accumulator whose lane i is `f i`. -/
def ofAccLanes (f : Nat → BitVec 40) : BitVec 640 :=
  BitVec.ofNat 640 ((List.range 16).map fun i => (f i).toNat * 2 ^ (40 * i)).sum

/-- Saturated to a signed 16-bit lane. -/
def satLane (x : Int) : Lane := BitVec.ofInt 16 (clampI x (-32768) 32767)

/-- All ones or 0. -/
def maskLane (b : Bool) : Lane := if b then 0xFFFF else 0

/-! ### VLD and VST -/

/-- VLD: half-words, or bytes extended with zeros or their sign; another MODE is ILLEGAL. -/
def execVld (fetch : Fetch) (v ra : BitVec 5) (mode : BitVec 3) (off : BitVec 13) (found : Ecc) (s : State) : Host.Outcome State Fault Refusal :=
  done (s.issue fetch.engine (encode (.fmtM 0x20 v ra mode off)) fetch.check fun s e =>
    let a := e.reg ra + off.signExtend 32
    let byte := fun (bs : List Byte) i => bs.getD i 0
    if mode = 0 then s.load fetch.engine e a 32 2 found fun s e bs => s.next fetch.engine (e.setVec v (ofLanes fun i => byte bs (2 * i + 1) ++ byte bs (2 * i)))
    else if mode = 1 then s.load fetch.engine e a 16 1 found fun s e bs => s.next fetch.engine (e.setVec v (ofLanes fun i => (byte bs i).zeroExtend 16))
    else if mode = 2 then s.load fetch.engine e a 16 1 found fun s e bs => s.next fetch.engine (e.setVec v (ofLanes fun i => (byte bs i).signExtend 16))
    else s.illegal fetch.engine e)

/-- VST: half-words, or bytes of lanes saturated to 0 to 255. -/
def execVst (fetch : Fetch) (v ra : BitVec 5) (mode : BitVec 3) (off : BitVec 13) (s : State) : Host.Outcome State Fault Refusal :=
  done (s.issue fetch.engine (encode (.fmtM 0x21 v ra mode off)) fetch.check fun s e =>
    let a := e.reg ra + off.signExtend 32
    let x := e.vec v
    if mode = 0 then s.store fetch.engine e a 2 (leBytes 32 x.toNat)
    else if mode = 3 then s.store fetch.engine e a 1 ((List.range 16).map fun i => BitVec.ofInt 8 (clampI (lane x i).toInt 0 255))
    else s.illegal fetch.engine e)

/-! ### VALU -/

/-- A lane of VALU; none for a reserved FUNC. -/
def valuLane (func : Nat) (d a b : Lane) : Option Lane :=
  match func with
  | 0x00 => some (a + b)
  | 0x01 => some (a - b)
  | 0x02 => some (satLane (a.toInt + b.toInt))
  | 0x03 => some (satLane (a.toInt - b.toInt))
  | 0x04 => some (BitVec.ofNat 16 (min 65535 (a.toNat + b.toNat)))
  | 0x05 => some (if a.slt b then a else b)
  | 0x06 => some (if a.slt b then b else a)
  | 0x07 => some (if a.ult b then a else b)
  | 0x08 => some (if a.ult b then b else a)
  | 0x09 => some (a &&& b)
  | 0x0A => some (a ||| b)
  | 0x0B => some (a ^^^ b)
  | 0x0C => some (a <<< (b.toNat % 16))
  | 0x0D => some (a >>> (b.toNat % 16))
  | 0x0E => some (a.sshiftRight (b.toNat % 16))
  | 0x0F => some (satLane a.toInt.natAbs)
  | 0x10 => some (maskLane (b.slt a))
  | 0x11 => some (maskLane (a == b))
  | 0x12 => some (if d = 0 then b else a)
  | _ => none

/-- Lane i of the second operand: a vector register in MODE 0, the low half of a scalar register in MODE 1 (R189). -/
def Engine.operand (e : Engine) (mode : BitVec 3) (vb : BitVec 5) (i : Nat) : Lane :=
  if mode = 0 then lane (e.vec vb) i else (e.reg vb).extractLsb' 0 16

/-- VALU: a reserved MODE or FUNC, or a VABS whose vb field is not 0, is ILLEGAL. -/
def execValu (fetch : Fetch) (vd va vb : BitVec 5) (mode : BitVec 3) (func : BitVec 8) (s : State) : Host.Outcome State Fault Refusal :=
  done (s.issue fetch.engine (encode (.fmtV 0x22 vd va vb mode func)) fetch.check fun s e =>
    let n := func.toNat
    if 1 < mode.toNat || 0x12 < n || (n = 0x0F && vb != 0) then s.illegal fetch.engine e
    else s.next fetch.engine (e.setVec vd (ofLanes fun i => (valuLane n (lane (e.vec vd) i) (lane (e.vec va) i) (e.operand mode vb i)).getD 0)))

/-! ### VMAC -/

/-- VMULQ: ((a × b + 2^14) >> 15), saturated. -/
def mulQ (a b : Lane) : Lane := satLane ((a.toInt * b.toInt + 16384) / 32768)

/-- VACCR: an accumulator lane shifted right by n, saturated to a signed lane. -/
def accRead (a : BitVec 40) (n : Nat) : Lane := satLane (a.toInt / (2 ^ n : Nat))

/-- The reserved forms of VMAC: FUNC past 5, a MODE other than 0 or 1 for FUNC 0 to 3 and other than 0 above, and
vd[4:1] other than 0 where the instruction accumulates. -/
def vmacReserved (vd : BitVec 5) (mode : BitVec 3) (n : Nat) : Bool :=
  5 < n || (n ≤ 3 && 1 < mode.toNat) || (3 < n && mode != 0) || ((n = 2 || n = 3) && 1 < vd.toNat)

/-- The exact sum of an accumulator lane and a product, read as signed or unsigned. -/
def accSum (signed : Bool) (c : BitVec 40) (a b : Lane) : Int :=
  if signed then c.toInt + a.toInt * b.toInt else (c.toNat + a.toNat * b.toNat : Nat)

/-- The sum lies in the accumulator's 40 bits. -/
def accFits (signed : Bool) (x : Int) : Bool :=
  if signed then -549755813888 ≤ x && x < 549755813888 else x < 1099511627776

/-- VMAC and VMACU: FREE VALUE (log 7) in a lane whose sum leaves its 40 bits, which the spec does not state. -/
def State.accumulate (s : State) (re : Nat) (e : Engine) (one signed : Bool) (a b : Nat → Lane) : State :=
  let x := fun i => accSum signed (accLane (e.acc one) i) (a i) (b i)
  let all := (List.range 16).all fun i => accFits signed (x i)
  (s.drew (if all then 0 else 16)).next re (e.setAcc one (ofAccLanes fun i =>
    if accFits signed (x i) then BitVec.ofInt 40 (x i) else BitVec.ofNat 40 (s.freeVal i)))

/-- VMAC: products, accumulation and the reading and clearing of an accumulator. -/
def execVmac (fetch : Fetch) (vd va vb : BitVec 5) (mode : BitVec 3) (func : BitVec 8) (s : State) : Host.Outcome State Fault Refusal :=
  done (s.issue fetch.engine (encode (.fmtV 0x23 vd va vb mode func)) fetch.check fun s e =>
    let n := func.toNat
    let a := fun i => lane (e.vec va) i
    let b := fun i => e.operand mode vb i
    let one := vd.getLsbD 0
    if vmacReserved vd mode n then s.illegal fetch.engine e
    else if n = 0 then s.next fetch.engine (e.setVec vd (ofLanes fun i => a i * b i))
    else if n = 1 then s.next fetch.engine (e.setVec vd (ofLanes fun i => mulQ (a i) (b i)))
    else if n = 2 || n = 3 then s.accumulate fetch.engine e one (n = 2) a b
    else if n = 4 then s.next fetch.engine (e.setVec vd (ofLanes fun i => accRead (accLane (e.acc (va.getLsbD 0)) i) vb.toNat))
    else s.next fetch.engine (e.setAcc one 0))

/-! ### VPERM and VRED -/

/-- VPERM: broadcast, moves between lanes and scalars, iota and slides; another FUNC or a MODE other than 0 is ILLEGAL. -/
def execVperm (fetch : Fetch) (vd va vb : BitVec 5) (mode : BitVec 3) (func : BitVec 8) (s : State) : Host.Outcome State Fault Refusal :=
  done (s.issue fetch.engine (encode (.fmtV 0x24 vd va vb mode func)) fetch.check fun s e =>
    let n := func.toNat
    let k := vb.toNat % 16
    let low := (e.reg va).extractLsb' 0 16
    if mode != 0 then s.illegal fetch.engine e
    else if n = 0 then s.next fetch.engine (e.setVec vd (ofLanes fun _ => low))
    else if n = 1 then s.next fetch.engine (e.setReg vd ((lane (e.vec va) k).signExtend 32))
    else if n = 2 then s.next fetch.engine (e.setVec vd (ofLanes fun i => if i = k then low else lane (e.vec vd) i))
    else if n = 3 then s.next fetch.engine (e.setVec vd (ofLanes fun i => BitVec.ofNat 16 i))
    else if 0x10 ≤ n && n ≤ 0x1F then
      s.next fetch.engine (e.setVec vd (ofLanes fun i =>
        if i + n % 16 < 16 then lane (e.vec va) (i + n % 16) else lane (e.vec vb) (i + n % 16 - 16)))
    else s.illegal fetch.engine e)

/-- The sixteen lanes of a vector. -/
def lanes (v : BitVec 256) : List Lane := (List.range 16).map (lane v)

/-- VMAXI and VMINI: the extreme value in [31:16] and the lowest lane that holds it in [3:0]. -/
def extremeWord (v : BitVec 256) (better : Lane → Lane → Bool) : Word :=
  let best := (lanes v).foldl (fun m x => if better x m then x else m) (lane v 0)
  best ++ BitVec.ofNat 16 ((lanes v).takeWhile fun x => x != best).length

/-- VRED; another FUNC or a MODE other than 0 is ILLEGAL. -/
def execVred (fetch : Fetch) (vd va vb : BitVec 5) (mode : BitVec 3) (func : BitVec 8) (s : State) : Host.Outcome State Fault Refusal :=
  done (s.issue fetch.engine (encode (.fmtV 0x25 vd va vb mode func)) fetch.check fun s e =>
    let n := func.toNat
    let v := e.vec va
    if mode != 0 || 4 < n then s.illegal fetch.engine e
    else if n = 0 then s.next fetch.engine (e.setReg vd (BitVec.ofInt 32 ((lanes v).map BitVec.toInt).sum))
    else if n = 1 then s.next fetch.engine (e.setReg vd (BitVec.ofNat 32 ((lanes v).map BitVec.toNat).sum))
    else if n = 2 then s.next fetch.engine (e.setReg vd (extremeWord v fun x m => m.slt x))
    else if n = 3 then s.next fetch.engine (e.setReg vd (extremeWord v fun x m => x.slt m))
    else
      let sum := ((List.range 16).map fun i => (accLane (e.acc (va.getLsbD 0)) i).toInt).sum
      s.next fetch.engine (e.setReg vd (BitVec.ofInt 32 (clampI sum (-2147483648) 2147483647))))

end Sys2Proof.Machine
end

