-- ==== Sys2Proof/Machine/Gap.lean ====
section
/-! DEFINITION. The end of a feed switch-over's gap (R420, R445 to R449): while HOLD was asserted the sentinel domain's clock stood still,
and what arrived there was kept (log 47). -/
namespace Sys2Proof.Machine
open Sys2Proof

/-- One kept item arrives in the sentinel domain. -/
def State.runHeld (s : State) : Held → State
  | .write path p off v => (s.writeWord path p off v).eventsQuiet
  | .mirror state cause => s.takeMirror state cause
  | .apply p => (s.applyNow p).finishCommit
  | .boundary => s.recoverFrame
  | .collect seq last => if s.runs pSAF then s.proxOpen seq last else s
  | .unlock d => if s.runs pCHK then (s.clockLost d).showClocks else s
  | .source code detail pulse reach pages target => s.assertReset ⟨code, detail, pulse⟩ reach pages target
  | .sourceEnds code detail => s.deassertReset code detail

/-- HOLD_RELEASE: the gap ends. The switch-over is counted and shown (R449), the trips met in the gap set (R420), and what the
crossings have kept arrives in order (R447). FREE VALUE (log 7): whether four switch-overs fell within 1 s, which raises FLAP (R448). -/
def execHoldRelease (s : State) : Host.Outcome State Fault Refusal :=
  done (if !s.pwr.hold then s
    else
      let n := min 4 (s.pwr.recent + 1)
      let flap := n = 4 && s.freeVal 0 % 2 = 1
      let acc := match s.acq.frame with
        | some f => f.accession
        | none => s.lastAccession.getD 0
      let gap := s.saf.gapTrips
      let s1 : State := { s.drew 1 with
        pwr.hold := false, pwr.recent := n, pwr.flapped := s.pwr.flapped || flap
        pwr.lifeSwitches := s.pwr.lifeSwitches + 1, saf.gapTrips := 0, pwr.held := [] }
      let s2 := (s1.count (if s.pwr.back then PWR.RETURN_CNT else PWR.SWITCH_CNT) 1).wr PWR.SWITCH_ACC acc.toNat
      let s3 := (if flap then s2.raise PWR.INT_FLAP else s2).raise PWR.INT_SWITCHOVER
      let s4 := (List.range 24).foldl (fun s i => if bit gap i && !s.trip i then s.tripSet i else s) s3.showFeed
      (s.pwr.held.foldl State.runHeld s4.degrade).safOutputs)

end Sys2Proof.Machine
end

