-- ==== Sys2Proof/Machine/TestAccess.lean ====
section
/-! DEFINITION. Test access (spec/20_monitor_and_test.md): the unlock and its tokens (R523 to R526), debug halts (R527) and debug
resets (R528). -/
namespace Sys2Proof.Machine
open Sys2Proof

/-! ### Unlock (R523 to R525) -/

/-- The challenge (R523). -/
def State.challengeBytes (s : State) : List Byte :=
  shake256 (deviceId ++ leBytes 8 s.acq.time.toNat ++ leBytes 4 (s.rd MON.UNLOCK_COUNT)) 16

/-- UNLOCK: it is counted, and ends the challenge before it. -/
def execUnlock (s : State) : Host.Outcome State Fault Refusal :=
  done (s.carrelOnly fun s =>
    let s1 : State := { s.count MON.UNLOCK_COUNT 1 with mon.challenge := none }
    if s.operating then { state := s1, status := ansState }
    else { state := { s1 with mon.challenge := some s1.challengeBytes }, lines := [hexBytes s1.challengeBytes] })

def magicToken : List Byte := [0x48, 0x4A, 0x54, 0x55]

/-- Every field of a token's body is in its range (R524). -/
def State.tokenOk (s : State) (body signature : List Byte) : Bool :=
  let rd := fun i => body.getD i 0
  let scope := (rd 5).toNat
  let duration := sliceLe rd 0x38 4
  body.length = 64 && signature.length = 2820 && slice rd 0 4 = magicToken && rd 4 = 1 && 1 ≤ scope && scope ≤ 7 && sliceLe rd 6 2 = 0
    && slice rd 8 32 = deviceId && s.mon.challenge = some (slice rd 0x28 16) && 1 ≤ duration && duration ≤ 86400
    && sliceLe rd 0x3C 4 = 0 && Config.xmssVerify rootKey body signature

/-- TOKEN: a pass unlocks and consumes the challenge, a failure is counted. -/
def execToken (body signature : List Byte) (s : State) : Host.Outcome State Fault Refusal :=
  done (s.carrelOnly fun s =>
    let rd := fun i => body.getD i 0
    if s.operating then { state := s, status := ansState }
    else if s.tokenOk body signature then
      let s1 := ((s.put MON.UNLOCKED true).put MON.ST_UNLOCKED true).wr MON.SCOPE (rd 5).toNat
      let s2 := (s1.wr MON.UNLOCK_LEFT (sliceLe rd 0x38 4)).raise MON.INT_UNLOCK
      { state := { s2 with mon.challenge := none } }
    else { state := (s.count MON.UNLOCK_FAIL 1).fault pMON 0, status := ansCheck })

/-- LOCK. -/
def execLock (s : State) : Host.Outcome State Fault Refusal := done (s.carrelOnly fun s => { state := s.relock })

/-- UNLOCK_EXPIRY. -/
def execUnlockExpiry (s : State) : Host.Outcome State Fault Refusal := done s.relock

/-- CHALLENGE_EXPIRY. -/
def execChallengeExpiry (s : State) : Host.Outcome State Fault Refusal := done { s with mon.challenge := none }

/-! ### Debug halt (R527) -/

/-- HALT_RE: HALT of an engine, as a debug halt where it was not halted before. -/
def execHaltRe (re : Fin 72) (s : State) : Host.Outcome State Fault Refusal :=
  let k : Nat := re
  done (s.carrel false true true fun s =>
    if !s.runs (pRe k) then { state := s.err (C.ERR_STATE (pRe k)), status := ansState }
    else if s.on (C.HALT (pRe k)) then { state := s }
    else { state := State.haltLeaf (s.setEngine k { s.engine k with debugHalt := true }) (pRe k) })

/-- GO_RE: an engine halted inside its handler goes on there; an idle one resumes as any halted engine does. An engine in reset stays
as it is (R203). -/
def execGoRe (re : Fin 72) (s : State) : Host.Outcome State Fault Refusal :=
  let k : Nat := re
  done (s.carrel false true true fun s =>
    if !s.runs (pRe k) then { state := s.err (C.ERR_STATE (pRe k)), status := ansState }
    else if (s.engine k).running.isSome && (s.engine k).debugHalt then { state := s.endDebugHalt k }
    else { state := s.resumeLeaf (pRe k) })

/-- The lines of `regs`: pc, the scalar registers, the vector registers, the accumulators, the loops. -/
def Engine.regLines (e : Engine) : List String :=
  let s := (List.range 32).map fun i => spaced ["s" ++ toString i, hexWord (Tab.get 0 e.s i).toNat]
  let v := (List.range 32).map fun i =>
    let x := Tab.get 0 e.v i
    spaced (("v" ++ toString i) :: (List.range 16).map fun j => hexDigits 4 (x.extractLsb' (16 * j) 16).toNat)
  let acc := fun (n : String) (a : BitVec 640) => spaced (n :: (List.range 16).map fun j => hexDigits 10 (a.extractLsb' (40 * j) 40).toNat)
  let loops := e.loops.map fun l => spaced ["loop", hexWord l.start.toNat, hexWord l.last.toNat, hexWord l.left.toNat]
  [spaced ["pc", hexWord e.pc.toNat]] ++ s ++ v ++ [acc "acc0" e.acc0, acc "acc1" e.acc1] ++ loops

/-- REGS_RE: once HALTED reads 1. -/
def execRegsRe (re : Fin 72) (s : State) : Host.Outcome State Fault Refusal :=
  let k : Nat := re
  done (s.carrel false true true fun s =>
    if s.runs (pRe k) && s.on (C.HALTED (pRe k)) then { state := s, lines := (s.engine k).regLines }
    else { state := s, status := ansState })

/-! ### Debug reset (R528) -/

/-- A DEBUG source is held. -/
def State.debugHeld (s : State) : Bool := s.rst.episodes.any fun e => e.sources.contains ⟨6, 0, false⟩

/-- DRESET_SUBTREE: the DEBUG source holds a subtree; one at a time. -/
def execDresetSubtree (addr : Word) (s : State) : Host.Outcome State Fault Refusal :=
  done (s.carrel false true true fun s =>
    let a := addr.toNat
    if a < 0x40000000 || 0x40FFFFFF < a then { state := s, status := ansValue }
    else match resetTarget (a - 0x40000000) with
      | none => { state := s, status := ansValue }
      | some p =>
        if (subtree p).contains pHCP then { state := s, status := ansValue }
        else if s.debugHeld then { state := s, status := ansBusy }
        else { state := s.assertReset ⟨6, 0, false⟩ 2 (subtree p) (some p) })

/-- DRESET_SYS: DEBUG pulses at reach SYSTEM. -/
def execDresetSys (s : State) : Host.Outcome State Fault Refusal :=
  done (s.carrel false true true fun s => { state := s.pulseReset 6 1 1 [] none })

/-- RELEASE: a held DEBUG source ends. -/
def execRelease (s : State) : Host.Outcome State Fault Refusal :=
  done (s.carrel false true true fun s => { state := s.deassertReset 6 0 })

end Sys2Proof.Machine
end

