-- ==== Sys2Proof/Machine/Dispatch.lean ====
section
/-! DEFINITION. The one meaning of each command: one arm per row of the table, each a direct call. -/
namespace Sys2Proof.Machine
open Sys2Proof

def exec (i : Instr) (s : State) : Host.Outcome State Fault Refusal :=
  match i with
  -- Register access, halt, commit and snapshot (spec/02_folios_and_commit.md)
  | .registerWrite path addr value => Sys2Proof.Machine.execRegisterWrite path addr value s
  | .badRegisterAccess path write addr size => Sys2Proof.Machine.execBadRegisterAccess path write addr size s
  | .undefinedOffsetAccess path write addr value => Sys2Proof.Machine.execUndefinedOffsetAccess path write addr value s
  | .haltWrite path page value => Sys2Proof.Machine.execHaltWrite path page value s
  | .haltTakeEffect page => Sys2Proof.Machine.execHaltTakeEffect page s
  | .perturbWrite path page value => Sys2Proof.Machine.execPerturbWrite path page value s
  | .commit path => Sys2Proof.Machine.execCommit path s
  | .commitCheckDone => Sys2Proof.Machine.execCommitCheckDone s
  | .abort path => Sys2Proof.Machine.execAbort path s
  | .snap path => Sys2Proof.Machine.execSnap path s
  | .snapshotCapture => Sys2Proof.Machine.execSnapshotCapture s
  | .idleBoundary => Sys2Proof.Machine.execIdleBoundary s
  | .frameBoundaryStrobe page => Sys2Proof.Machine.execFrameBoundaryStrobe page s
  -- Frame triggers and the shot grid (spec/06, spec/03)
  | .frameSyncInEdge also => Sys2Proof.Machine.execFrameSyncInEdge also s
  | .syncBusEdge also => Sys2Proof.Machine.execSyncBusEdge also s
  | .frameTimer => Sys2Proof.Machine.execFrameTimer s
  | .swTrig path => Sys2Proof.Machine.execSwTrig path s
  | .runWrite path value => Sys2Proof.Machine.execRunWrite path value s
  | .syncLostTimeout => Sys2Proof.Machine.execSyncLostTimeout s
  | .fsoPulseEnd bus => Sys2Proof.Machine.execFsoPulseEnd bus s
  | .burstCodeDone => Sys2Proof.Machine.execBurstCodeDone s
  | .shotOpen => Sys2Proof.Machine.execShotOpen s
  | .armTokenDecision => Sys2Proof.Machine.execArmTokenDecision s
  | .armPoint => Sys2Proof.Machine.execArmPoint s
  | .windowOpen => Sys2Proof.Machine.execWindowOpen s
  | .windowClose => Sys2Proof.Machine.execWindowClose s
  -- Detector tier and time-to-digital conversion (spec/04, spec/05)
  | .spadAvalanche ch spad code => Sys2Proof.Machine.execSpadAvalanche ch spad code s
  | .eventDelivery entry histogram => Sys2Proof.Machine.execEventDelivery entry histogram s
  | .hotMaskClear path section_ chan value => Sys2Proof.Machine.execHotMaskClear path section_ chan value s
  | .vspadLost => Sys2Proof.Machine.execVspadLost s
  | .trackPairDone section_ countA countB => Sys2Proof.Machine.execTrackPairDone section_ countA countB s
  | .dllLock bank => Sys2Proof.Machine.execDllLock bank s
  | .dllUnlock bank => Sys2Proof.Machine.execDllUnlock bank s
  | .tapHistCheck bank => Sys2Proof.Machine.execTapHistCheck bank s
  | .timEdge input code => Sys2Proof.Machine.execTimEdge input code s
  | .timGateClose input => Sys2Proof.Machine.execTimGateClose input s
  | .timTimeout input => Sys2Proof.Machine.execTimTimeout input s
  | .emtLoad path value => Sys2Proof.Machine.execEmtLoad path value s
  | .lmpLoad path value => Sys2Proof.Machine.execLmpLoad path value s
  | .stall => Sys2Proof.Machine.execStall s
  -- Return engines: dispatch (spec/07_return_engines.md)
  | .bufferReady re => Sys2Proof.Machine.execBufferReady re s
  | .dispatchHandler entry => Sys2Proof.Machine.execDispatchHandler entry s
  | .handlerReturn re => Sys2Proof.Machine.execHandlerReturn re s
  | .proxDeadline re => Sys2Proof.Machine.execProxDeadline re s
  | .memoryScrub re addr found => Sys2Proof.Machine.execMemoryScrub re addr found s
  -- Return engines: the instruction set (R187 to R194)
  | .alu fetch rd ra rb func => Sys2Proof.Machine.execAlu fetch rd ra rb func s
  | .addi fetch rd ra imm => Sys2Proof.Machine.execAddi fetch rd ra imm s
  | .andi fetch rd ra imm => Sys2Proof.Machine.execAndi fetch rd ra imm s
  | .ori fetch rd ra imm => Sys2Proof.Machine.execOri fetch rd ra imm s
  | .xori fetch rd ra imm => Sys2Proof.Machine.execXori fetch rd ra imm s
  | .slti fetch rd ra imm => Sys2Proof.Machine.execSlti fetch rd ra imm s
  | .shi fetch rd ra imm => Sys2Proof.Machine.execShi fetch rd ra imm s
  | .lui fetch rd ra imm => Sys2Proof.Machine.execLui fetch rd ra imm s
  | .lw fetch rd ra imm found => Sys2Proof.Machine.execLw fetch rd ra imm found s
  | .lh fetch rd ra imm found => Sys2Proof.Machine.execLh fetch rd ra imm found s
  | .lhu fetch rd ra imm found => Sys2Proof.Machine.execLhu fetch rd ra imm found s
  | .lb fetch rd ra imm found => Sys2Proof.Machine.execLb fetch rd ra imm found s
  | .lbu fetch rd ra imm found => Sys2Proof.Machine.execLbu fetch rd ra imm found s
  | .sw fetch rs ra imm => Sys2Proof.Machine.execSw fetch rs ra imm s
  | .sh fetch rs ra imm => Sys2Proof.Machine.execSh fetch rs ra imm s
  | .sb fetch rs ra imm => Sys2Proof.Machine.execSb fetch rs ra imm s
  | .beq fetch ra rb off => Sys2Proof.Machine.execBeq fetch ra rb off s
  | .bne fetch ra rb off => Sys2Proof.Machine.execBne fetch ra rb off s
  | .blt fetch ra rb off => Sys2Proof.Machine.execBlt fetch ra rb off s
  | .bge fetch ra rb off => Sys2Proof.Machine.execBge fetch ra rb off s
  | .bltu fetch ra rb off => Sys2Proof.Machine.execBltu fetch ra rb off s
  | .bgeu fetch ra rb off => Sys2Proof.Machine.execBgeu fetch ra rb off s
  | .jal fetch off => Sys2Proof.Machine.execJal fetch off s
  | .jalr fetch rd ra imm => Sys2Proof.Machine.execJalr fetch rd ra imm s
  | .loop fetch zero ra endWord => Sys2Proof.Machine.execLoop fetch zero ra endWord s
  | .vld fetch v ra mode off found => Sys2Proof.Machine.execVld fetch v ra mode off found s
  | .vst fetch v ra mode off => Sys2Proof.Machine.execVst fetch v ra mode off s
  | .valu fetch vd va vb mode func => Sys2Proof.Machine.execValu fetch vd va vb mode func s
  | .vmac fetch vd va vb mode func => Sys2Proof.Machine.execVmac fetch vd va vb mode func s
  | .vperm fetch vd va vb mode func => Sys2Proof.Machine.execVperm fetch vd va vb mode func s
  | .vred fetch vd va vb mode func => Sys2Proof.Machine.execVred fetch vd va vb mode func s
  | .csrw fetch rs zero csr => Sys2Proof.Machine.execCsrw fetch rs zero csr s
  | .csrr fetch rd zero csr => Sys2Proof.Machine.execCsrr fetch rd zero csr s
  | .sysNop fetch rd ra rb => Sys2Proof.Machine.execSysNop fetch rd ra rb s
  | .emit fetch rd ra rb => Sys2Proof.Machine.execEmit fetch rd ra rb s
  | .prox fetch rd ra rb => Sys2Proof.Machine.execProx fetch rd ra rb s
  | .fence fetch rd ra rb => Sys2Proof.Machine.execFence fetch rd ra rb s
  | .trap fetch rd ra rb => Sys2Proof.Machine.execTrap fetch rd ra rb s
  | .brk fetch rd ra rb => Sys2Proof.Machine.execBrk fetch rd ra rb s
  -- Return engines: loading and handover
  | .loadAddrWrite path re value => Sys2Proof.Machine.execLoadAddrWrite path re value s
  | .loadDataWrite path re value => Sys2Proof.Machine.execLoadDataWrite path re value s
  | .repairReq path value => Sys2Proof.Machine.execRepairReq path value s
  | .updateReq path value => Sys2Proof.Machine.execUpdateReq path value s
  | .unfence path re value => Sys2Proof.Machine.execUnfence path re value s
  -- Proximity combiner (spec/08_return_processing.md)
  | .proxWordArrival => Sys2Proof.Machine.execProxWordArrival s
  | .proxCollectionClose => Sys2Proof.Machine.execProxCollectionClose s
  | .proxHoldExpiry => Sys2Proof.Machine.execProxHoldExpiry s
  -- Point assembly and compression (spec/09_point_records_and_compression.md)
  | .recordEntry shelf => Sys2Proof.Machine.execRecordEntry shelf s
  | .shotMarker shelf => Sys2Proof.Machine.execShotMarker shelf s
  | .markerTimeout => Sys2Proof.Machine.execMarkerTimeout s
  | .blockOutput flips => Sys2Proof.Machine.execBlockOutput flips s
  | .ledgerOutput => Sys2Proof.Machine.execLedgerOutput s
  -- Yomos Link (spec/10_serial_link.md)
  | .blockLockGained lane => Sys2Proof.Machine.execBlockLockGained lane s
  | .blockLockLost lane => Sys2Proof.Machine.execBlockLockLost lane s
  | .packetReceived lane blocks packet => Sys2Proof.Machine.execPacketReceived lane blocks packet s
  | .registerReadRequest tag countM1 addr => Sys2Proof.Machine.execRegisterReadRequest tag countM1 addr s
  | .registerWriteRequest tag addr values => Sys2Proof.Machine.execRegisterWriteRequest tag addr values s
  | .pairPacketReceived accession stamp depart arrival code => Sys2Proof.Machine.execPairPacketReceived accession stamp depart arrival code s
  | .pairTrigger => Sys2Proof.Machine.execPairTrigger s
  | .creditReceived raw limit => Sys2Proof.Machine.execCreditReceived raw limit s
  | .ackReceived link seq => Sys2Proof.Machine.execAckReceived link seq s
  | .nakReceived link seq => Sys2Proof.Machine.execNakReceived link seq s
  | .ackTimeout link => Sys2Proof.Machine.execAckTimeout link s
  | .capsReceived lane content => Sys2Proof.Machine.execCapsReceived lane content s
  | .capsSend lane => Sys2Proof.Machine.execCapsSend lane s
  | .trainReceived lane rate pass preReq postReq => Sys2Proof.Machine.execTrainReceived lane rate pass preReq postReq s
  | .trainWindowEnd lane => Sys2Proof.Machine.execTrainWindowEnd lane s
  | .retrainReq lanes => Sys2Proof.Machine.execRetrainReq lanes s
  | .tsReq onC1 tag arrival => Sys2Proof.Machine.execTsReq onC1 tag arrival s
  | .packetTransmit sending => Sys2Proof.Machine.execPacketTransmit sending s
  | .markerSend => Sys2Proof.Machine.execMarkerSend s
  | .eventPacketSend => Sys2Proof.Machine.execEventPacketSend s
  | .safetyPacketSend => Sys2Proof.Machine.execSafetyPacketSend s
  | .pairPacketSend => Sys2Proof.Machine.execPairPacketSend s
  | .pairTsReqSend reply => Sys2Proof.Machine.execPairTsReqSend reply s
  | .noPartnerTimeout lane => Sys2Proof.Machine.execNoPartnerTimeout lane s
  | .cdrLock ctl hdrErr => Sys2Proof.Machine.execCdrLock ctl hdrErr s
  | .cdrLockTimeout ctl => Sys2Proof.Machine.execCdrLockTimeout ctl s
  | .bitslip path ctl value hdrErr => Sys2Proof.Machine.execBitslip path ctl value hdrErr s
  | .aligned path ctl value => Sys2Proof.Machine.execAligned path ctl value s
  | .retrain path lane value => Sys2Proof.Machine.execRetrain path lane value s
  | .enable path lane value => Sys2Proof.Machine.execEnable path lane value s
  | .errLimitWindow lane => Sys2Proof.Machine.execErrLimitWindow lane s
  | .laneRetry lane => Sys2Proof.Machine.execLaneRetry lane s
  -- Scan control (spec/11_scan_control.md)
  | .mirrorSample => Sys2Proof.Machine.execMirrorSample s
  | .frameStartStrobe => Sys2Proof.Machine.execFrameStartStrobe s
  | .restart path value => Sys2Proof.Machine.execRestart path value s
  | .coeffWrite path bank word value => Sys2Proof.Machine.execCoeffWrite path bank word value s
  | .mirrorStateUpdate => Sys2Proof.Machine.execMirrorStateUpdate s
  | .heartbeatTimeout => Sys2Proof.Machine.execHeartbeatTimeout s
  | .heaterSample => Sys2Proof.Machine.execHeaterSample s
  -- Sensing and conversion (spec/12_sensing_and_conversion.md)
  | .convmConversion code pinOutside => Sys2Proof.Machine.execConvmConversion code pinOutside s
  | .start path value => Sys2Proof.Machine.execStart path value s
  | .stop path value => Sys2Proof.Machine.execStop path value s
  | .slotPeriodStart sensors => Sys2Proof.Machine.execSlotPeriodStart sensors s
  | .convhConversion code => Sys2Proof.Machine.execConvhConversion code s
  | .slotPeriodEnd => Sys2Proof.Machine.execSlotPeriodEnd s
  | .clampConduction pin => Sys2Proof.Machine.execClampConduction pin s
  | .openDetect => Sys2Proof.Machine.execOpenDetect s
  -- Thermal management (spec/14_thermal.md)
  | .thmTimerRead sensors => Sys2Proof.Machine.execThmTimerRead sensors s
  | .thmSlotSilent lamp => Sys2Proof.Machine.execThmSlotSilent lamp s
  | .watchRead ts5 ts15 ts21 ts23 => Sys2Proof.Machine.execWatchRead ts5 ts15 ts21 ts23 s
  | .watchSensorLost => Sys2Proof.Machine.execWatchSensorLost s
  -- Calibration (spec/13_calibration.md)
  | .timSessionTimeout input => Sys2Proof.Machine.execTimSessionTimeout input s
  | .strskStart path value => Sys2Proof.Machine.execStrskStart path value s
  | .cvhOffsetRound => Sys2Proof.Machine.execCvhOffsetRound s
  | .calSave => Sys2Proof.Machine.execCalSave s
  | .eyeScan lane width height => Sys2Proof.Machine.execEyeScan lane width height s
  -- Safety (spec/15_safety.md)
  | .reqOperational path => Sys2Proof.Machine.execReqOperational path s
  | .operationalEntryComplete => Sys2Proof.Machine.execOperationalEntryComplete s
  | .reqInit path => Sys2Proof.Machine.execReqInit path s
  | .reqClear path => Sys2Proof.Machine.execReqClear path s
  | .reqSafeHold path => Sys2Proof.Machine.execReqSafeHold path s
  | .pairArm path => Sys2Proof.Machine.execPairArm path s
  | .pairCommission path => Sys2Proof.Machine.execPairCommission path s
  | .pairArmExpiry => Sys2Proof.Machine.execPairArmExpiry s
  | .autoOperRetry => Sys2Proof.Machine.execAutoOperRetry s
  | .safetyFaultPost => Sys2Proof.Machine.execSafetyFaultPost s
  | .tripsLatchClear path value => Sys2Proof.Machine.execTripsLatchClear path value s
  | .inhibitLatchClear => Sys2Proof.Machine.execInhibitLatchClear s
  | .epermChange channelB level => Sys2Proof.Machine.execEpermChange channelB level s
  | .permitFilterSettled input level => Sys2Proof.Machine.execPermitFilterSettled input level s
  | .discrepancyTick => Sys2Proof.Machine.execDiscrepancyTick s
  | .contactorTimeout => Sys2Proof.Machine.execContactorTimeout s
  | .lockstepMismatch => Sys2Proof.Machine.execLockstepMismatch s
  | .oscEdgeLoss => Sys2Proof.Machine.execOscEdgeLoss s
  | .selfTest readback => Sys2Proof.Machine.execSelfTest readback s
  | .colophonRecompute => Sys2Proof.Machine.execColophonRecompute s
  | .colophonConfirm path value => Sys2Proof.Machine.execColophonConfirm path value s
  | .colophonStored => Sys2Proof.Machine.execColophonStored s
  | .energyBucketAdvance second => Sys2Proof.Machine.execEnergyBucketAdvance second s
  | .degMaxExpiry => Sys2Proof.Machine.execDegMaxExpiry s
  -- Lamp strings (spec/16_lamp_driver.md)
  | .lampTick => Sys2Proof.Machine.execLampTick s
  | .lampSyncEdge => Sys2Proof.Machine.execLampSyncEdge s
  | .lampSyncLost => Sys2Proof.Machine.execLampSyncLost s
  -- Power (spec/17_power_feeds_and_domains.md)
  | .railGood rail => Sys2Proof.Machine.execRailGood rail s
  | .railLost rail => Sys2Proof.Machine.execRailLost rail s
  | .feedPresenceChange feedB present => Sys2Proof.Machine.execFeedPresenceChange feedB present s
  | .standbyAbsent => Sys2Proof.Machine.execStandbyAbsent s
  | .feedSwitchover => Sys2Proof.Machine.execFeedSwitchover s
  | .holdRelease => Sys2Proof.Machine.execHoldRelease s
  | .feedReturn => Sys2Proof.Machine.execFeedReturn s
  | .domainOn path value => Sys2Proof.Machine.execDomainOn path value s
  | .domainOff path value => Sys2Proof.Machine.execDomainOff path value s
  | .domainTurn railOk => Sys2Proof.Machine.execDomainTurn railOk s
  | .park path value => Sys2Proof.Machine.execPark path value s
  | .wakePin monRx => Sys2Proof.Machine.execWakePin monRx s
  | .wakeTimer => Sys2Proof.Machine.execWakeTimer s
  -- Reset and clocks (spec/18_reset_and_clocks.md)
  | .powerOn above => Sys2Proof.Machine.execPowerOn above s
  | .brownoutSen => Sys2Proof.Machine.execBrownoutSen s
  | .resetPin low => Sys2Proof.Machine.execResetPin low s
  | .watchdogExpiry => Sys2Proof.Machine.execWatchdogExpiry s
  | .wdogKick path value => Sys2Proof.Machine.execWdogKick path value s
  | .swReqGo path value => Sys2Proof.Machine.execSwReqGo path value s
  | .holdSlotWrite path slot value => Sys2Proof.Machine.execHoldSlotWrite path slot value s
  | .hostLockup => Sys2Proof.Machine.execHostLockup s
  | .resetTakeEffect => Sys2Proof.Machine.execResetTakeEffect s
  | .episodeEnd => Sys2Proof.Machine.execEpisodeEnd s
  | .sentinelRelease => Sys2Proof.Machine.execSentinelRelease s
  | .unitRelease page => Sys2Proof.Machine.execUnitRelease page s
  | .clkTmo page => Sys2Proof.Machine.execClkTmo page s
  | .refTimeout => Sys2Proof.Machine.execRefTimeout s
  | .refCheckWindow count => Sys2Proof.Machine.execRefCheckWindow count s
  | .clockCheckWindow domain count => Sys2Proof.Machine.execClockCheckWindow domain count s
  | .clockEdgeTimeout domain => Sys2Proof.Machine.execClockEdgeTimeout domain s
  | .pllLock domain => Sys2Proof.Machine.execPllLock domain s
  | .pllUnlock domain => Sys2Proof.Machine.execPllUnlock domain s
  -- Security and storage (spec/19_security_and_storage.md)
  | .bootSequence => Sys2Proof.Machine.execBootSequence s
  | .verify path value => Sys2Proof.Machine.execVerify path value s
  | .attest path value => Sys2Proof.Machine.execAttest path value s
  | .cert path value => Sys2Proof.Machine.execCert path value s
  | .enroll path value => Sys2Proof.Machine.execEnroll path value s
  | .revoke path value => Sys2Proof.Machine.execRevoke path value s
  | .confirm path value => Sys2Proof.Machine.execConfirm path value s
  | .secCommandDone => Sys2Proof.Machine.execSecCommandDone s
  | .wgo path value => Sys2Proof.Machine.execWgo path value s
  | .mramWriteDone => Sys2Proof.Machine.execMramWriteDone s
  | .lifeRecordWrite => Sys2Proof.Machine.execLifeRecordWrite s
  | .recovGo path value => Sys2Proof.Machine.execRecovGo path value s
  -- The SPI target and the I2C controller (spec/21_electrical_and_timing.md)
  | .spiRead addr crc => Sys2Proof.Machine.execSpiRead addr crc s
  | .spiWrite addr data crc => Sys2Proof.Machine.execSpiWrite addr data crc s
  | .spiFrameAbandon => Sys2Proof.Machine.execSpiFrameAbandon s
  | .i2cStretchTimeout => Sys2Proof.Machine.execI2cStretchTimeout s
  -- The Carrel monitor and test access (spec/20_monitor_and_test.md)
  | .monCharacter char framing => Sys2Proof.Machine.execMonCharacter char framing s
  | .lineTimeout => Sys2Proof.Machine.execLineTimeout s
  | .carrelVer => Sys2Proof.Machine.execCarrelVer s
  | .carrelPeek addr count => Sys2Proof.Machine.execCarrelPeek addr count s
  | .carrelPoke addr value => Sys2Proof.Machine.execCarrelPoke addr value s
  | .carrelFolio addr => Sys2Proof.Machine.execCarrelFolio addr s
  | .carrelTree => Sys2Proof.Machine.execCarrelTree s
  | .carrelSnap => Sys2Proof.Machine.execCarrelSnap s
  | .carrelTrace addr => Sys2Proof.Machine.execCarrelTrace addr s
  | .carrelTraceOff => Sys2Proof.Machine.execCarrelTraceOff s
  | .tracePoll => Sys2Proof.Machine.execTracePoll s
  | .volLoad size bytes check => Sys2Proof.Machine.execVolLoad size bytes check s
  | .volLoadTimeout => Sys2Proof.Machine.execVolLoadTimeout s
  | .volWrite slotB => Sys2Proof.Machine.execVolWrite slotB s
  | .volVerify dest => Sys2Proof.Machine.execVolVerify dest s
  | .carrelBoot => Sys2Proof.Machine.execCarrelBoot s
  | .baud rate => Sys2Proof.Machine.execBaud rate s
  | .unlock => Sys2Proof.Machine.execUnlock s
  | .token body signature => Sys2Proof.Machine.execToken body signature s
  | .lock => Sys2Proof.Machine.execLock s
  | .unlockExpiry => Sys2Proof.Machine.execUnlockExpiry s
  | .challengeExpiry => Sys2Proof.Machine.execChallengeExpiry s
  | .haltRe re => Sys2Proof.Machine.execHaltRe re s
  | .goRe re => Sys2Proof.Machine.execGoRe re s
  | .regsRe re => Sys2Proof.Machine.execRegsRe re s
  | .dresetSubtree addr => Sys2Proof.Machine.execDresetSubtree addr s
  | .dresetSys => Sys2Proof.Machine.execDresetSys s
  | .release => Sys2Proof.Machine.execRelease s
  | .extest cells => Sys2Proof.Machine.execExtest cells s
  | .samplePreload pins => Sys2Proof.Machine.execSamplePreload pins s
  | .bypass => Sys2Proof.Machine.execBypass s
  -- The rows that the table adds at its end
  | .pendingTriggerAccept => Sys2Proof.Machine.execPendingTriggerAccept s
  | .brownoutSenDeassert => Sys2Proof.Machine.execBrownoutSenDeassert s
  | .spiMalformedFrame cmd => Sys2Proof.Machine.execSpiMalformedFrame cmd s
  | .spiCsNEarlyRise => Sys2Proof.Machine.execSpiCsNEarlyRise s
  | .registerMalformedRequest head len => Sys2Proof.Machine.execRegisterMalformedRequest head len s
  | .carrelUnknownCommand => Sys2Proof.Machine.execCarrelUnknownCommand s
  | .illegalOpcode fetch word => Sys2Proof.Machine.execIllegalOpcode fetch word s
  | .htrPwmPeriodStart => Sys2Proof.Machine.execHtrPwmPeriodStart s
  | .safetyRecordLoad => Sys2Proof.Machine.execSafetyRecordLoad s

end Sys2Proof.Machine
end

