-- ==== Sys2Proof/Machine/Idle.lean ====
section
/-! DEFINITION. What a step does on an empty queue (log 1): one cycle of the TDC clock passes, which ACQ's TIME counts
(R150). Every other effect of time is a command of the table. -/
namespace Sys2Proof.Machine
open Sys2Proof

/-- One TDC cycle: TIME counts while ACQ runs (R150), and what waits in the housekeeping-results queue reaches SCN (R332). -/
def idleTick (s : State) : State :=
  let s1 := s.resultsArrive
  if s1.runs pACQ then { s1 with acq.time := s1.acq.time + 1 } else s1

end Sys2Proof.Machine
end

