-- ==== Sys2Proof/Safety.lean ====
section
/-! DEFINITION. The words in which the statements speak of a run: a step that completes, registers that are kept, an engine that
issues an instruction, and the invariants. -/
namespace Sys2Proof.Machine
open Sys2Proof

/-- No step of a run stops: the command at the front of the queue has its effect. -/
def Runs (s : State) : Prop := ∃ t, step s = .next t

/-- Every register field whose key is not listed holds the acting value it held. -/
def KeepsRegs (keys : List Nat) (s t : State) : Prop := ∀ f : Fld, f.key ∉ keys → t.rd f = s.rd f

/-- Engine k issues the instruction word w (R179, R181, R187): it runs a handler, is not halted, and its pc names a word of
instruction memory that holds w and no error. -/
def Issues (s : State) (k : Nat) (w : Word) : Prop :=
  s.executing k = true ∧ (s.engine k).pc ≠ retAddr ∧ (s.engine k).pc.toNat < 0x10000
    ∧ (s.engine k).badWords.contains (s.engine k).pc.toNat = false ∧ (s.engine k).fetches w = true

/-- Issued by engine k as the word w, whether its fetch is clean or corrected, the command completes with Q: from a state that has
counted a corrected fetch in MEM_CE (R181), to the next state. What a fetch that cannot be corrected does is stated in
Obligations.ReLoadErrorsAndLockup. -/
def Issued (c : Ecc → Instr) (s : State) (k : Nat) (w : Word) (Q : State → State → Prop) : Prop :=
  Issues s k w → ∀ fetch, fetch ≠ .double → ∃ t, exec (c fetch) s = .next t
    ∧ Q (if fetch = .single then s.wr (RE.MEM_CE k) (min (s.rd (RE.MEM_CE k) + 1) 65535) else s) t

/-- An engine as the instruction that it issues finds it: one issue slot counted (R194). -/
def Engine.slotted (e : Engine) : Engine := { e with slots := e.slots + 1 }

/-- A command of engine k changes that engine alone: every register field, every other engine and every other unit is as before. -/
def OnlyEngine (k : Nat) (s t : State) : Prop := t = s.setEngine k (t.engine k)

/-- Engine e has written v to scalar register rd and gone on: a write to s0 is discarded (R184), every other scalar register, every
vector register, both accumulators and both memories are kept, and one issue slot is counted. -/
def Engine.GotScalar (e e' : Engine) (rd : BitVec 5) (v : Word) : Prop :=
  (rd ≠ 0 → e'.reg rd = v) ∧ (∀ r : BitVec 5, r ≠ rd ∨ r = 0 → e'.reg r = e.reg r) ∧ (e'.pc, e'.loops) = afterPc e.pc e.loops
    ∧ e' = { e with s := e'.s, pc := e'.pc, loops := e'.loops, slots := e.slots + 1 }

/-- Engine e has written a vector register whose lane i is f i and gone on; every other register and both memories are kept. -/
def Engine.GotVector (e e' : Engine) (vd : BitVec 5) (f : Nat → Lane) : Prop :=
  (∀ i < 16, lane (e'.vec vd) i = f i) ∧ (∀ r : BitVec 5, r ≠ vd → e'.vec r = e.vec r) ∧ (e'.pc, e'.loops) = afterPc e.pc e.loops
    ∧ e' = { e with v := e'.v, pc := e'.pc, loops := e'.loops, slots := e.slots + 1 }

/-- Issued by engine k as the word w, the command c completes with v in scalar register rd and nothing else changed. -/
def GivesScalar (c : Ecc → Instr) (s : State) (k : Nat) (w : Word) (rd : BitVec 5) (v : Word) : Prop :=
  Issued c s k w fun s t => OnlyEngine k s t ∧ (s.engine k).GotScalar (t.engine k) rd v

/-- Issued by engine k as the word w, the command c completes with the lanes f in vector register vd and nothing else changed. -/
def GivesVector (c : Ecc → Instr) (s : State) (k : Nat) (w : Word) (vd : BitVec 5) (f : Nat → Lane) : Prop :=
  Issued c s k w fun s t => OnlyEngine k s t ∧ (s.engine k).GotVector (t.engine k) vd f

/-- A load of n bytes from address a meets no error and no hole (R179, R181, R182): the bytes lie in one region, and neither the
check of the access nor an earlier scrub has found an error in them. -/
def CleanLoad (e : Engine) (a : Word) (n : Nat) (found : Ecc) : Prop :=
  regionOf a.toNat n ≠ .none_ ∧ found = .clean ∧ e.bad a.toNat n = false

/-- Byte i of a load of n bytes from address a by engine k. -/
def State.loadedByte (s : State) (k : Nat) (a : Word) (n i : Nat) : Byte :=
  (s.reBytes (s.engine k) (s.rd (RE.RG_SERVED k)) (regionOf a.toNat n) a.toNat n).getD i 0

/-- Issued by engine k as the word w, the command c stores the bytes b 0 to b (n - 1) at address a of data memory and changes nothing
else: every other byte of both memories, every register and every unit is as before. -/
def GivesStore (c : Ecc → Instr) (s : State) (k : Nat) (w : Word) (a : Word) (n : Nat) (b : Nat → Byte) : Prop :=
  Issued c s k w fun s t => OnlyEngine k s t ∧
    let e := s.engine k
    let e' := t.engine k
    (∀ x, e'.dmem.read x = if a.toNat - 0x10000 ≤ x ∧ x < a.toNat - 0x10000 + n then b (x - (a.toNat - 0x10000)) else e.dmem.read x)
      ∧ (∀ x, x ∈ e'.badWords ↔ x ∈ e.badWords ∧ ¬(a.toNat ≤ x ∧ x + 4 ≤ a.toNat + n))
      ∧ (e'.pc, e'.loops) = afterPc e.pc e.loops
      ∧ e' = { e with dmem := e'.dmem, badWords := e'.badWords, pc := e'.pc, loops := e'.loops, slots := e.slots + 1 }

/-- Issued by engine k as the word w, a branch or jump completes: the pc is the target, s31 or rd holds the return address where the
instruction links, every loop whose body the target lies outside has ended (R187, R191), and nothing else has changed. -/
def GivesJump (c : Ecc → Instr) (s : State) (k : Nat) (w : Word) (link : BitVec 5) (target : Word) : Prop :=
  Issued c s k w fun s t => OnlyEngine k s t ∧
    let e := s.engine k
    let e' := t.engine k
    (link ≠ 0 → e'.reg link = e.pc + 4) ∧ (∀ r : BitVec 5, r ≠ link ∨ r = 0 → e'.reg r = e.reg r) ∧ e'.pc = target
      ∧ e'.loops = e.loops.dropWhile (fun l => target < l.start || l.last < target)
      ∧ e' = { e with s := e'.s, pc := e'.pc, loops := e'.loops, slots := e.slots + 1 }

/-- Issued by engine k as the word w, the command c goes on at the next instruction and changes nothing else. -/
def GivesNothing (c : Ecc → Instr) (s : State) (k : Nat) (w : Word) : Prop :=
  Issued c s k w fun s t => OnlyEngine k s t ∧
    (t.engine k) = { s.engine k with
      pc := (afterPc (s.engine k).pc (s.engine k).loops).1, loops := (afterPc (s.engine k).pc (s.engine k).loops).2,
      slots := (s.engine k).slots + 1 }

/-- Engine k, not yet in ERROR, enters the ERROR handler with a cause and an address (R195, R197, R209): s1 to s4 hold the cause, the
address, the pc and 0, s30 and s31 the stack top and the return address, every other register is kept; the cause is shown in the folio,
INT.ERROR is raised, and FAULT.ERR_RATE and FAULT.HEALTH are set with the ERR_LIMIT-th entry of the frame, by the limit in force for
the frame that the handler works on (R28). What the model keeps of the slots that the interrupted handler took (R210) is not stated. -/
def EntersError (k cause : Nat) (addr : Word) (s t : State) : Prop :=
  let e := s.engine k
  let e' := t.engine k
  e'.running = some .error ∧ e'.interrupted = e.running ∧ e'.pc = 16
    ∧ e'.reg 1 = BitVec.ofNat 32 cause ∧ e'.reg 2 = addr ∧ e'.reg 3 = e.pc ∧ e'.reg 4 = 0 ∧ e'.reg 30 = e.stackTop
    ∧ e'.reg 31 = 0xFFFFFFF0 ∧ (∀ r ∉ ([1, 2, 3, 4, 30, 31] : List (BitVec 5)), e'.reg r = e.reg r)
    ∧ e' = { e with
        s := e'.s, pc := 16, running := some .error, interrupted := e.running, winEcc := false, slots := 0,
        shotSlots := e'.shotSlots, errorsFrame := e.errorsFrame + 1 }
    ∧ t.rd (RE.ERR_CAUSE k) = cause ∧ t.rd (RE.ERR_PC k) = e.pc.toNat ∧ t.rd (RE.ERR_ADDR k) = addr.toNat ∧ t.on (RE.INT_ERROR k) = true
    ∧ (s.rdGen pREG e.frameGen REG.ERR_LIMIT ≤ e.errorsFrame + 1 → t.on (RE.FAULT_ERR_RATE k) = true ∧ t.on (C.FAULT (pRe k) 26) = true)
    ∧ KeepsRegs [(RE.ERR_CAUSE k).key, (RE.ERR_PC k).key, (RE.ERR_ADDR k).key, (RE.INT_ERROR k).key, (RE.FAULT_ERR_RATE k).key,
        (C.FAULT (pRe k) 26).key] s t
    ∧ t = { s.setEngine k e' with regs := t.regs }

/-- Issued by engine k as the word w outside the ERROR handler, the command c raises the ERROR handler with a cause and an address. -/
def RaisesError (c : Ecc → Instr) (s : State) (k : Nat) (w : Word) (cause : Nat) (addr : Word) : Prop :=
  (s.engine k).running ≠ some .error → Issued c s k w (EntersError k cause addr)

/-- Nothing but what the link keeps of lane l beside its registers has changed. -/
def OnlyLane (l : Nat) (s t : State) : Prop :=
  t = { s with lnk := { s.lnk with lanes := t.lnk.lanes } } ∧ ∀ n, n ≠ l → t.lane n = s.lane n

/-- A shot marker by the layout of R178. -/
def shotMarkerWord (x : ShotRef) (outcome : BitVec 3) (records : Nat) : DWord :=
  x.accession ++ BitVec.ofNat 12 x.column ++ BitVec.ofNat 6 x.rg ++ outcome ++ BitVec.ofNat 11 records

/-- An entry has gone into shelf queue h, or waits behind it while the queue holds 128 entries or others wait (R25, R176, R192). -/
def Enqueues (h : Nat) (e : Entry) (s t : State) : Prop :=
  if s.waitingAt h = [] ∧ (s.queue h).length < 128 then t.queue h = s.queue h ++ [e] ∧ t.waitingAt h = []
  else t.queue h = s.queue h ∧ t.waitingAt h = s.waitingAt h ++ [e]

/-- A register write to folio p waits for the end of a feed switch-over's gap (R446, R447, log 47). -/
def State.writesWait (s : State) (p : Nat) : Prop := s.pwr.hold = true ∧ domainOf p = 151

/-- A state as a register write from a bus leaves it: the write is answered without an error, and where INT_STAT of the catalogue reads
0 by then the EVENT announcement has ended (R300). -/
def State.written (s : State) : State := { s.eventsQuiet with bus := {} }

/-- A trigger has opened a frame in t (R55, R145, R147, R150): its accession number follows the last one, or is 0 for the first, it
carries the active generation and the column count in force, its cause holds source bit b, and ACQ and the catalogue show it. -/
def OpensFrame (b : Nat) (s t : State) : Prop :=
  ∃ f, t.acq.frame = some f
    ∧ f.accession = (match s.lastAccession with | some a => a + 1 | none => 0)
    ∧ f.gen = BitVec.ofNat 32 (s.rd CAT.GEN_ACTIVE) ∧ f.ncol = s.rd ACQ.NCOL ∧ f.next = 0 ∧ bit f.cause b = true
    ∧ t.lastAccession = some f.accession ∧ t.rd CAT.ACCESSION = f.accession.toNat ∧ t.on ACQ.INT_FRAME_START = true
    ∧ t.on ACQ.ST_ACQUIRING = true ∧ t.acq.timerPending = false ∧ t.acq.triggered = true

/-- A source of cause bit b has joined the capture that opened frame f in this sample (R150): its cause mask, LAST_CAUSE, LAST_SRC and
the stamp follow, and nothing else of the trigger's registers changes. -/
def JoinsCapture (f : Frame) (b : Nat) (s t : State) : Prop :=
  let cause := f.cause ||| 2 ^ b
  let src := causeSrc cause
  t.acq.frame = some { f with cause := cause, src := src, stamp := t.acq.lastStamp.toNat }
    ∧ t.acq.lastStamp = (if src < 2 then s.acq.time - BitVec.ofNat 64 (2 + 8 * s.rd ACQ.FILT) else s.acq.time)
    ∧ t.rd ACQ.LAST_CAUSE = cause % 16 ∧ t.rd ACQ.LAST_SRC = src ∧ t.rd ACQ.TRIG_IGNORED = s.rd ACQ.TRIG_IGNORED
    ∧ t.lastAccession = s.lastAccession

/-- Trip i has set in t (R404, R409): TRIP is raised, the inhibit latch is set and no token is issued; a latching trip has entered
SAFE_HOLD and opened the contactor. -/
def Trips (i : Nat) (t : State) : Prop :=
  t.trip i = true ∧ t.on SAF.INT_TRIP = true ∧ t.on SAF.ST_INHIBIT = true ∧ t.on SAF.TOKENS = false
    ∧ (8 ≤ i → t.rd SAF.STATE = 4 ∧ t.on SAF.CTR_EN = false ∧ t.on SAF.SAFE_OK = false)

/-- With no episode open before, a reset source has opened one in t (R471, R474): it holds that source and cause alone, covers the pages
with that reach, and has still to take effect on all of them. -/
def OpensEpisode (src : Source) (reach : Nat) (pages : List Nat) (t : State) : Prop :=
  ∃ e, t.rst.episodes = [e] ∧ e.sources = [src] ∧ e.reach = reach ∧ e.pages = pages ∧ e.toApply = pages ∧ e.ncause = 1
    ∧ e.causes.map (·.2) = [src.code] ∧ t.on RST.ST_EPISODE_OPEN = true ∧ t.rd RST.OPEN = 1

/-- No open episode of t holds a source of that code and detail any more. -/
def SourceGone (code detail : Nat) (t : State) : Prop :=
  ∀ e ∈ t.rst.episodes, ∀ x ∈ e.sources, ¬(x.code = code ∧ x.detail = detail)

/-- Register s0 of every engine reads 0 (R184). -/
def State.zeroRegs (s : State) : Prop := ∀ k, (s.engine k).reg 0 = 0

/-- The stacks memory, host memory and the MRAM are in their canonical form. -/
def State.memsWf (s : State) : Prop := Mem.wf s.stackMem ∧ Mem.wf s.mon.mem ∧ Mem.wf s.nvs.mram ∧ Mem.wf s.nvs.flash

/-- Every engine's own two memories are in their canonical form. -/
def State.engineMemsWf (s : State) : Prop := ∀ k, Mem.wf (s.engine k).imem ∧ Mem.wf (s.engine k).dmem

/-- No boundary cell of an observe-only pin drives (R531). -/
def State.cellsObserve (s : State) : Prop := s.jtag.cells &&& observeOnly = 0

/-- What every step keeps: s0 reads 0, every memory is in its canonical form, no observe-only cell drives. -/
def State.Inv (s : State) : Prop := s.zeroRegs ∧ s.memsWf ∧ s.engineMemsWf ∧ s.cellsObserve

/-- In OPERATIONAL and DEGRADED test access is not unlocked (R525). -/
def State.LockedWhileOperating (s : State) : Prop := s.operating = true → s.on MON.UNLOCKED = false

end Sys2Proof.Machine
end

