-- ==== Sys2Proof/Certificates/Slice0/Obligations.lean ====
section
/-! DEFINITION. The statements. Each names in its docstring the rules of spec/ it formalises, or the log entry whose reading it
states. `exec c s = .next t` says that the command completes; a clause such as `t = { s with ... }` is the frame: every field of
the state that it does not name is as before. -/
open Sys2Proof Sys2Proof.Machine

/-! ### Return engines: the instruction set (spec/07_return_engines.md) -/

/-- R187, R188: the results of the scalar ALU, of the immediate instructions and of LUI, for every engine, every register and every
defined FUNC; CLZ and POPC with a field rb that is not 0 raise ILLEGAL, as the other forms do (Obligations.ReIllegalForms). -/
def Obligations.ReScalarResults : Prop :=
  ∀ (re : Fin 72) (rd ra rb : BitVec 5) (imm : BitVec 16) (s : State),
    let a := (s.engine re).reg ra
    let b := (s.engine re).reg rb
    let n := b.toNat % 32
    let k := imm.toNat % 32
    let flag := fun c : Bool => if c then (1 : Word) else 0
    (∀ p ∈ ([(0x000, a + b), (0x001, a - b), (0x002, a &&& b), (0x003, a ||| b), (0x004, a ^^^ b), (0x005, a <<< n), (0x006, a >>> n),
        (0x007, a.sshiftRight n), (0x008, flag (a.slt b)), (0x009, flag (a.ult b)), (0x00A, if a.slt b then a else b),
        (0x00B, if a.slt b then b else a), (0x00C, a * b), (0x00D, (a.signExtend 64 * b.signExtend 64).extractLsb' 32 32),
        (0x00E, (a.zeroExtend 64 * b.zeroExtend 64).extractLsb' 32 32)] : List (BitVec 11 × Word)),
      GivesScalar (.alu ⟨re, ·⟩ rd ra rb p.1) s re (encode (.fmtR 0x00 rd ra rb p.1)) rd p.2)
    ∧ GivesScalar (.alu ⟨re, ·⟩ rd ra 0 0x00F) s re (encode (.fmtR 0x00 rd ra 0 0x00F)) rd (BitVec.clz a)
    ∧ GivesScalar (.alu ⟨re, ·⟩ rd ra 0 0x010) s re (encode (.fmtR 0x00 rd ra 0 0x010)) rd (BitVec.ofNat 32 ((List.range 32).countP a.getLsbD))
    ∧ (rb ≠ 0 → ∀ func ∈ ([0x00F, 0x010] : List (BitVec 11)), RaisesError (.alu ⟨re, ·⟩ rd ra rb func) s re (encode (.fmtR 0x00 rd ra rb func)) 1 0)
    ∧ GivesScalar (.addi ⟨re, ·⟩ rd ra imm) s re (encode (.fmtI 0x01 rd ra imm)) rd (a + imm.signExtend 32)
    ∧ GivesScalar (.andi ⟨re, ·⟩ rd ra imm) s re (encode (.fmtI 0x02 rd ra imm)) rd (a &&& imm.zeroExtend 32)
    ∧ GivesScalar (.ori ⟨re, ·⟩ rd ra imm) s re (encode (.fmtI 0x03 rd ra imm)) rd (a ||| imm.zeroExtend 32)
    ∧ GivesScalar (.xori ⟨re, ·⟩ rd ra imm) s re (encode (.fmtI 0x04 rd ra imm)) rd (a ^^^ imm.zeroExtend 32)
    ∧ GivesScalar (.slti ⟨re, ·⟩ rd ra imm) s re (encode (.fmtI 0x05 rd ra imm)) rd (flag (a.slt (imm.signExtend 32)))
    ∧ (imm.toNat / 32 = 0 → GivesScalar (.shi ⟨re, ·⟩ rd ra imm) s re (encode (.fmtI 0x06 rd ra imm)) rd (a <<< k))
    ∧ (imm.toNat / 32 = 1 → GivesScalar (.shi ⟨re, ·⟩ rd ra imm) s re (encode (.fmtI 0x06 rd ra imm)) rd (a >>> k))
    ∧ (imm.toNat / 32 = 2 → GivesScalar (.shi ⟨re, ·⟩ rd ra imm) s re (encode (.fmtI 0x06 rd ra imm)) rd (a.sshiftRight k))
    ∧ GivesScalar (.lui ⟨re, ·⟩ rd 0 imm) s re (encode (.fmtI 0x07 rd 0 imm)) rd (imm ++ (0 : BitVec 16))

/-- R187, R189: scalar loads put the little-endian bytes of the access, extended as the mnemonic says, into rd, and VLD puts
half-words or extended bytes into the lanes. The access is aligned (R190) and meets no error and no hole (CleanLoad); what the
others do is stated in Obligations.ReMisaligned and Obligations.ReLoadErrorsAndLockup. -/
def Obligations.ReLoadResults : Prop :=
  ∀ (re : Fin 72) (rd ra v : BitVec 5) (imm : BitVec 16) (off : BitVec 13) (found : Ecc) (s : State),
    let e := s.engine re
    let a := e.reg ra + imm.signExtend 32
    let va := e.reg ra + off.signExtend 32
    let b := s.loadedByte re a
    let vb := s.loadedByte re va
    (CleanLoad e a 4 found → a.toNat % 4 = 0 →
      GivesScalar (.lw ⟨re, ·⟩ rd ra imm found) s re (encode (.fmtI 0x08 rd ra imm)) rd (b 4 3 ++ b 4 2 ++ b 4 1 ++ b 4 0))
    ∧ (CleanLoad e a 2 found → a.toNat % 2 = 0 →
      GivesScalar (.lh ⟨re, ·⟩ rd ra imm found) s re (encode (.fmtI 0x09 rd ra imm)) rd ((b 2 1 ++ b 2 0).signExtend 32))
    ∧ (CleanLoad e a 2 found → a.toNat % 2 = 0 →
      GivesScalar (.lhu ⟨re, ·⟩ rd ra imm found) s re (encode (.fmtI 0x0A rd ra imm)) rd ((b 2 1 ++ b 2 0).zeroExtend 32))
    ∧ (CleanLoad e a 1 found → GivesScalar (.lb ⟨re, ·⟩ rd ra imm found) s re (encode (.fmtI 0x0B rd ra imm)) rd ((b 1 0).signExtend 32))
    ∧ (CleanLoad e a 1 found → GivesScalar (.lbu ⟨re, ·⟩ rd ra imm found) s re (encode (.fmtI 0x0C rd ra imm)) rd ((b 1 0).zeroExtend 32))
    ∧ (CleanLoad e va 32 found → va.toNat % 2 = 0 →
      GivesVector (.vld ⟨re, ·⟩ v ra 0 off found) s re (encode (.fmtM 0x20 v ra 0 off)) v fun i => vb 32 (2 * i + 1) ++ vb 32 (2 * i))
    ∧ (CleanLoad e va 16 found →
      GivesVector (.vld ⟨re, ·⟩ v ra 1 off found) s re (encode (.fmtM 0x20 v ra 1 off)) v fun i => (vb 16 i).zeroExtend 16)
    ∧ (CleanLoad e va 16 found →
      GivesVector (.vld ⟨re, ·⟩ v ra 2 off found) s re (encode (.fmtM 0x20 v ra 2 off)) v fun i => (vb 16 i).signExtend 16)

/-- R187, R189: a store to data memory writes the low bytes of rs, least significant first, or the lanes of v as half-words or as
bytes saturated to 0 to 255, and changes no other byte and no register. The whole access lies in data memory and is aligned. -/
def Obligations.ReStoreResults : Prop :=
  ∀ (re : Fin 72) (rs ra v : BitVec 5) (imm : BitVec 16) (off : BitVec 13) (s : State),
    let e := s.engine re
    let a := e.reg ra + imm.signExtend 32
    let va := e.reg ra + off.signExtend 32
    let inside := fun (x : Word) n => 0x10000 ≤ x.toNat ∧ x.toNat + n ≤ 0x30000
    let x := e.reg rs
    let l := fun i => lane (e.vec v) i
    (inside a 4 → a.toNat % 4 = 0 → GivesStore (.sw ⟨re, ·⟩ rs ra imm) s re (encode (.fmtI 0x0D rs ra imm)) a 4 fun i => x.extractLsb' (8 * i) 8)
    ∧ (inside a 2 → a.toNat % 2 = 0 → GivesStore (.sh ⟨re, ·⟩ rs ra imm) s re (encode (.fmtI 0x0E rs ra imm)) a 2 fun i => x.extractLsb' (8 * i) 8)
    ∧ (inside a 1 → GivesStore (.sb ⟨re, ·⟩ rs ra imm) s re (encode (.fmtI 0x0F rs ra imm)) a 1 fun _ => x.extractLsb' 0 8)
    ∧ (inside va 32 → va.toNat % 2 = 0 → GivesStore (.vst ⟨re, ·⟩ v ra 0 off) s re (encode (.fmtM 0x21 v ra 0 off)) va 32
        fun i => (l (i / 2)).extractLsb' (8 * (i % 2)) 8)
    ∧ (inside va 16 → GivesStore (.vst ⟨re, ·⟩ v ra 3 off) s re (encode (.fmtM 0x21 v ra 3 off)) va 16
        fun i => BitVec.ofInt 8 (max 0 (min 255 (l i).toInt)))

/-- R187, R191: branches, JAL and JALR. A branch that is not taken goes on at the next instruction and changes nothing else. -/
def Obligations.ReBranchResults : Prop :=
  ∀ (re : Fin 72) (rd ra rb : BitVec 5) (off imm : BitVec 16) (joff : BitVec 26) (s : State),
    let e := s.engine re
    let a := e.reg ra
    let b := e.reg rb
    let target := e.pc + 4 + 4 * off.signExtend 32
    (∀ p ∈ ([((.beq ⟨re, ·⟩ ra rb off), 0x10, a = b), ((.bne ⟨re, ·⟩ ra rb off), 0x11, a ≠ b), ((.blt ⟨re, ·⟩ ra rb off), 0x12, a.toInt < b.toInt),
        ((.bge ⟨re, ·⟩ ra rb off), 0x13, b.toInt ≤ a.toInt), ((.bltu ⟨re, ·⟩ ra rb off), 0x14, a.toNat < b.toNat),
        ((.bgeu ⟨re, ·⟩ ra rb off), 0x15, b.toNat ≤ a.toNat)] : List ((Ecc → Instr) × BitVec 6 × Prop)),
      (p.2.2 → GivesJump p.1 s re (encode (.fmtI p.2.1 ra rb off)) 0 target)
        ∧ (¬p.2.2 → GivesNothing p.1 s re (encode (.fmtI p.2.1 ra rb off))))
    ∧ GivesJump (.jal ⟨re, ·⟩ joff) s re (encode (.fmtJ 0x16 joff)) 31 (e.pc + 4 + 4 * joff.signExtend 32)
    ∧ GivesJump (.jalr ⟨re, ·⟩ rd ra imm) s re (encode (.fmtI 0x17 rd ra imm)) rd ((a + imm.signExtend 32) &&& ~~~3)

/-- R187, R191: LOOP opens a level over the words pc + 4 to pc + 4 × END16, a count of 0 skips the body, and a LOOP while two levels
are active raises LOOP_NEST. At the last word of the innermost body an instruction that goes on returns to the start while a
repetition is left, and otherwise leaves the level (stated with a NOP). -/
def Obligations.ReLoopRule : Prop :=
  ∀ (re : Fin 72) (ra : BitVec 5) (endWord : BitVec 16) (s : State),
    let e := s.engine re
    let w := encode (.fmtI 0x18 0 ra endWord)
    let last := e.pc + 4 * endWord.zeroExtend 32
    (endWord ≠ 0 → e.loops.length < 2 → Issued (.loop ⟨re, ·⟩ 0 ra endWord) s re w fun s t => t = s.setEngine re
        (if e.reg ra = 0 then { e with slots := e.slots + 1, pc := last + 4 }
         else { e with slots := e.slots + 1, pc := e.pc + 4, loops := ⟨e.pc + 4, last, e.reg ra⟩ :: e.loops }))
    ∧ (endWord ≠ 0 → 2 ≤ e.loops.length → RaisesError (.loop ⟨re, ·⟩ 0 ra endWord) s re w 7 0)
    ∧ (∀ l r, e.loops = l :: r → e.pc = l.last → Issued (.sysNop ⟨re, ·⟩ 0 0 0) s re (encode (.fmtR 0x3F 0 0 0 0)) fun s t =>
        OnlyEngine re s t
        ∧ (1 < l.left.toNat → (t.engine re).pc = l.start ∧ (t.engine re).loops = { l with left := l.left - 1 } :: r)
        ∧ (l.left.toNat ≤ 1 → r = [] → (t.engine re).pc = e.pc + 4 ∧ (t.engine re).loops = []))

/-- R189: the lanes of VALU, for every FUNC and both operand forms. -/
def Obligations.ReVectorAluResults : Prop :=
  ∀ (re : Fin 72) (vd va vb : BitVec 5) (mode : BitVec 3) (s : State),
    let e := s.engine re
    let x := fun i => lane (e.vec va) i
    let y := fun i => if mode = 0 then lane (e.vec vb) i else (e.reg vb).extractLsb' 0 16
    let sat := fun z : Int => BitVec.ofInt 16 (max (-32768) (min 32767 z))
    let mask := fun c : Bool => if c then (0xFFFF : Lane) else 0
    (mode = 0 ∨ mode = 1) →
    (∀ p ∈ ([(0x00, fun i => x i + y i), (0x01, fun i => x i - y i), (0x02, fun i => sat ((x i).toInt + (y i).toInt)),
        (0x03, fun i => sat ((x i).toInt - (y i).toInt)), (0x04, fun i => BitVec.ofNat 16 (min 65535 ((x i).toNat + (y i).toNat))),
        (0x05, fun i => if (x i).slt (y i) then x i else y i), (0x06, fun i => if (x i).slt (y i) then y i else x i),
        (0x07, fun i => if (x i).ult (y i) then x i else y i), (0x08, fun i => if (x i).ult (y i) then y i else x i),
        (0x09, fun i => x i &&& y i), (0x0A, fun i => x i ||| y i), (0x0B, fun i => x i ^^^ y i),
        (0x0C, fun i => x i <<< ((y i).toNat % 16)), (0x0D, fun i => x i >>> ((y i).toNat % 16)),
        (0x0E, fun i => (x i).sshiftRight ((y i).toNat % 16)), (0x10, fun i => mask ((y i).slt (x i))),
        (0x11, fun i => mask (x i = y i)),
        (0x12, fun i => if lane (e.vec vd) i ≠ 0 then x i else y i)] : List (BitVec 8 × (Nat → Lane))),
      GivesVector (.valu ⟨re, ·⟩ vd va vb mode p.1) s re (encode (.fmtV 0x22 vd va vb mode p.1)) vd p.2)
    ∧ GivesVector (.valu ⟨re, ·⟩ vd va 0 mode 0x0F) s re (encode (.fmtV 0x22 vd va 0 mode 0x0F)) vd fun i => sat |(x i).toInt|

/-- R189: VMAC. A product is exact, rounded to Q1.15 or added to an accumulator; a lane whose sum leaves its 40 bits holds a free
value (log 7), which the spec does not state. -/
def Obligations.ReVectorMacResults : Prop :=
  ∀ (re : Fin 72) (vd va vb : BitVec 5) (mode : BitVec 3) (s : State),
    let e := s.engine re
    let x := fun i => lane (e.vec va) i
    let y := fun i => if mode = 0 then lane (e.vec vb) i else (e.reg vb).extractLsb' 0 16
    let sat := fun z : Int => BitVec.ofInt 16 (max (-32768) (min 32767 z))
    let accOf := fun (e : Engine) (r : BitVec 5) i => accLane (e.acc (r.getLsbD 0)) i
    let word := fun func => encode (.fmtV 0x23 vd va vb mode func)
    ((mode = 0 ∨ mode = 1) →
      GivesVector (.vmac ⟨re, ·⟩ vd va vb mode 0x00) s re (word 0x00) vd (fun i => x i * y i)
      ∧ GivesVector (.vmac ⟨re, ·⟩ vd va vb mode 0x01) s re (word 0x01) vd (fun i => sat (((x i).toInt * (y i).toInt + 2 ^ 14) / 2 ^ 15))
      ∧ (vd.toNat ≤ 1 → ∀ p ∈ ([(0x02, true), (0x03, false)] : List (BitVec 8 × Bool)),
          Issued (.vmac ⟨re, ·⟩ vd va vb mode p.1) s re (word p.1) fun s t =>
            let e' := t.engine re
            let sum := fun i => if p.2 then (accOf e vd i).toInt + (x i).toInt * (y i).toInt else ((accOf e vd i).toNat + (x i).toNat * (y i).toNat : Nat)
            (∀ i < 16, (if p.2 then -2 ^ 39 ≤ sum i ∧ sum i < 2 ^ 39 else sum i < 2 ^ 40) → accOf e' vd i = BitVec.ofInt 40 (sum i))
              ∧ e'.acc (!vd.getLsbD 0) = e.acc (!vd.getLsbD 0) ∧ (e'.pc, e'.loops) = afterPc e.pc e.loops
              ∧ e' = { e with acc0 := e'.acc0, acc1 := e'.acc1, pc := e'.pc, loops := e'.loops, slots := e.slots + 1 }
              ∧ t = { s.setEngine re e' with free := t.free }))
    ∧ (mode = 0 →
      GivesVector (.vmac ⟨re, ·⟩ vd va vb mode 0x04) s re (word 0x04) vd (fun i => sat ((accOf e va i).toInt / 2 ^ vb.toNat))
      ∧ Issued (.vmac ⟨re, ·⟩ vd va vb mode 0x05) s re (word 0x05) fun s t => OnlyEngine re s t ∧
          let e' := t.engine re
          e'.acc (vd.getLsbD 0) = 0 ∧ e'.acc (!vd.getLsbD 0) = e.acc (!vd.getLsbD 0) ∧ (e'.pc, e'.loops) = afterPc e.pc e.loops
            ∧ e' = { e with acc0 := e'.acc0, acc1 := e'.acc1, pc := e'.pc, loops := e'.loops, slots := e.slots + 1 })

/-- R189: lane movement and reductions. VMAXI and VMINI give the extreme value and the lowest lane that holds it. -/
def Obligations.ReVectorMoveAndReduce : Prop :=
  ∀ (re : Fin 72) (vd va vb : BitVec 5) (s : State),
    let e := s.engine re
    let x := fun i => lane (e.vec va) i
    let low := (e.reg va).extractLsb' 0 16
    let k := vb.toNat % 16
    let word := fun op func => encode (.fmtV op vd va vb 0 func)
    let all := List.range 16
    let accSum := (all.map fun i => (accLane (e.acc (va.getLsbD 0)) i).toInt).sum
    GivesVector (.vperm ⟨re, ·⟩ vd va vb 0 0x00) s re (word 0x24 0x00) vd (fun _ => low)
    ∧ GivesScalar (.vperm ⟨re, ·⟩ vd va vb 0 0x01) s re (word 0x24 0x01) vd ((x k).signExtend 32)
    ∧ GivesVector (.vperm ⟨re, ·⟩ vd va vb 0 0x02) s re (word 0x24 0x02) vd (fun i => if i = k then low else lane (e.vec vd) i)
    ∧ GivesVector (.vperm ⟨re, ·⟩ vd va vb 0 0x03) s re (word 0x24 0x03) vd (fun i => BitVec.ofNat 16 i)
    ∧ (∀ n < 16, GivesVector (.vperm ⟨re, ·⟩ vd va vb 0 (BitVec.ofNat 8 (16 + n))) s re (word 0x24 (BitVec.ofNat 8 (16 + n))) vd
        (fun i => if i + n < 16 then x (i + n) else lane (e.vec vb) (i + n - 16)))
    ∧ GivesScalar (.vred ⟨re, ·⟩ vd va vb 0 0x00) s re (word 0x25 0x00) vd (BitVec.ofInt 32 (all.map fun i => (x i).toInt).sum)
    ∧ GivesScalar (.vred ⟨re, ·⟩ vd va vb 0 0x01) s re (word 0x25 0x01) vd (BitVec.ofNat 32 (all.map fun i => (x i).toNat).sum)
    ∧ (∃ m < 16, (∀ i < 16, (x i).toInt ≤ (x m).toInt) ∧ (∀ i < m, x i ≠ x m)
        ∧ GivesScalar (.vred ⟨re, ·⟩ vd va vb 0 0x02) s re (word 0x25 0x02) vd (x m ++ BitVec.ofNat 16 m))
    ∧ (∃ m < 16, (∀ i < 16, (x m).toInt ≤ (x i).toInt) ∧ (∀ i < m, x i ≠ x m)
        ∧ GivesScalar (.vred ⟨re, ·⟩ vd va vb 0 0x03) s re (word 0x25 0x03) vd (x m ++ BitVec.ofNat 16 m))
    ∧ GivesScalar (.vred ⟨re, ·⟩ vd va vb 0 0x04) s re (word 0x25 0x04) vd (BitVec.ofInt 32 (max (-2 ^ 31) (min (2 ^ 31 - 1) accSum)))

/-- R194: CSRR of each CSR, and CSRW, which changes SCRATCH alone. CYCLE is a free value (log 7): the model counts no engine cycles.
PROX_LEFT is a free value below 777 before the deadline of the current shot and 0 after it and under ABI 1.0. -/
def Obligations.ReCsrResults : Prop :=
  ∀ (re : Fin 72) (rd rs : BitVec 5) (s : State),
    let e := s.engine re
    let word := fun n => encode (.fmtI 0x3E rd 0 n)
    (∀ p ∈ ([(0x001, if e.minor1 then BitVec.ofNat 32 e.slots else 0), (0x003, if e.winEcc then 1 else 0), (0x004, BitVec.ofNat 32 re),
        (0x005, BitVec.ofNat 32 (s.rd (RE.RG_SERVED re))), (0x006, BitVec.ofNat 32 e.emitted),
        (0x010, e.scratch)] : List (BitVec 16 × Word)),
      GivesScalar (.csrr ⟨re, ·⟩ rd 0 p.1) s re (word p.1) rd p.2)
    ∧ (∀ p ∈ ([(0x000, 2 ^ 32), (0x002, if e.minor1 ∧ (∃ x, e.current = some x ∧ x.late = false) then 777 else 1)] : List (BitVec 16 × Nat)),
        Issued (.csrr ⟨re, ·⟩ rd 0 p.1) s re (word p.1) fun s t => (∃ v, v.toNat < p.2 ∧ e.GotScalar (t.engine re) rd v)
          ∧ t = { s.setEngine re (t.engine re) with free := t.free })
    ∧ (∀ csr ∈ ([0x000, 0x001, 0x002, 0x003, 0x004, 0x005, 0x006] : List (BitVec 16)),
        GivesNothing (.csrw ⟨re, ·⟩ rs 0 csr) s re (encode (.fmtI 0x3D rs 0 csr)))
    ∧ Issued (.csrw ⟨re, ·⟩ rs 0 0x010) s re (encode (.fmtI 0x3D rs 0 0x010)) fun s t => OnlyEngine re s t
        ∧ t.engine re = { e with
            scratch := e.reg rs, slots := e.slots + 1, pc := (afterPc e.pc e.loops).1, loops := (afterPc e.pc e.loops).2 }

/-- R192, R198, R527: the SYS functions that go on. EMIT waits while the shelf queue is full and is discarded and counted past 64
records of a shot; PROX sends s[ra] to the combiner, or is discarded, counted and faulted past the shot's deadline; NOP and FENCE go
on; BRK halts the engine where test access with SCOPE bit 1 is unlocked and is a NOP otherwise. -/
def Obligations.ReSysResults : Prop :=
  ∀ (re : Fin 72) (rd ra rb : BitVec 5) (s : State),
    let e := s.engine re
    let word := fun func => encode (.fmtR 0x3F rd ra rb func)
    let on := fun e : Engine => { e with slots := e.slots + 1, pc := (afterPc e.pc e.loops).1, loops := (afterPc e.pc e.loops).2 }
    let q := s.queue (re / 8)
    GivesNothing (.sysNop ⟨re, ·⟩ rd ra rb) s re (word 0)
    ∧ GivesNothing (.fence ⟨re, ·⟩ rd ra rb) s re (word 3)
    ∧ (e.emitted < 64 → s.waitingAt (re / 8) = [] → q.length < 128 → Issued (.emit ⟨re, ·⟩ rd ra rb) s re (word 1) fun s t => t =
        (s.setQueue (re / 8) (q ++ [⟨false, e.reg rb ++ e.reg ra, re⟩])).setEngine re { on e with emitted := e.emitted + 1 })
    ∧ (e.emitted < 64 → s.waitingAt (re / 8) ≠ [] ∨ 128 ≤ q.length → Issues s re (word 1) → ∀ fetch, fetch ≠ .double → exec (.emit ⟨re, fetch⟩ rd ra rb) s = .next s)
    ∧ (64 ≤ e.emitted → Issued (.emit ⟨re, ·⟩ rd ra rb) s re (word 1) fun s t => t = (s.count (RE.EMIT_OVF re) 1).setEngine re (on e))
    ∧ ((∀ x, e.current = some x → x.late = false) → Issued (.prox ⟨re, ·⟩ rd ra rb) s re (word 2) fun s t => t =
        { s.setEngine re (on e) with prox.flight := s.prox.flight ++ [e.reg ra] })
    ∧ ((∃ x, e.current = some x ∧ x.late = true) → Issued (.prox ⟨re, ·⟩ rd ra rb) s re (word 2) fun s t =>
        t.prox.flight = s.prox.flight ∧ t.engine re = on e ∧ t.rd (RE.PROX_LATE re) = min (s.rd (RE.PROX_LATE re) + 1) 65535
        ∧ t.on (RE.FAULT_PROX_LATE re) = true ∧ s.rd (RE.RG_SERVED re) ∈ t.prox.lateRgs)
    ∧ ((s.on MON.UNLOCKED = false ∨ bit (s.rd MON.SCOPE) 1 = false) → GivesNothing (.brk ⟨re, ·⟩ rd ra rb) s re (word 5))
    ∧ (s.on MON.UNLOCKED = true → bit (s.rd MON.SCOPE) 1 = true → Issued (.brk ⟨re, ·⟩ rd ra rb) s re (word 5) fun s t =>
        t.on (C.HALT (pRe re)) = true ∧ t.on (C.HALTED (pRe re)) = true ∧ t.on (RE.ST_SPARE re) = false
        ∧ t.engine re = { on e with debugHalt := true }
        ∧ KeepsRegs [(C.HALT (pRe re)).key, (C.HALTED (pRe re)).key, (RE.ST_SPARE re).key] s t
        ∧ t = { s.setEngine re (t.engine re) with regs := t.regs })

/-- R187, R188, R189, R194, R197: TRAP raises ERROR with cause SOFT, and every reserved FUNC or MODE, every non-zero field that must
be 0, every undefined opcode and every undefined CSR raises it with cause ILLEGAL. -/
def Obligations.ReIllegalForms : Prop :=
  ∀ (re : Fin 72) (a b c : BitVec 5) (imm : BitVec 16) (func : BitVec 11) (mode : BitVec 3) (f : BitVec 8) (off : BitVec 13)
    (found : Ecc) (word : Word) (s : State),
    let n := f.toNat
    RaisesError (.trap ⟨re, ·⟩ a b c) s re (encode (.fmtR 0x3F a b c 4)) 6 0
    ∧ (0x010 < func.toNat ∨ (0x00F ≤ func.toNat ∧ c ≠ 0) → RaisesError (.alu ⟨re, ·⟩ a b c func) s re (encode (.fmtR 0x00 a b c func)) 1 0)
    ∧ (0x60 ≤ imm.toNat → RaisesError (.shi ⟨re, ·⟩ a b imm) s re (encode (.fmtI 0x06 a b imm)) 1 0)
    ∧ (b ≠ 0 → RaisesError (.lui ⟨re, ·⟩ a b imm) s re (encode (.fmtI 0x07 a b imm)) 1 0)
    ∧ (a ≠ 0 ∨ imm = 0 → RaisesError (.loop ⟨re, ·⟩ a b imm) s re (encode (.fmtI 0x18 a b imm)) 1 0)
    ∧ (2 < mode.toNat → RaisesError (.vld ⟨re, ·⟩ a b mode off found) s re (encode (.fmtM 0x20 a b mode off)) 1 0)
    ∧ (mode ≠ 0 → mode ≠ 3 → RaisesError (.vst ⟨re, ·⟩ a b mode off) s re (encode (.fmtM 0x21 a b mode off)) 1 0)
    ∧ (1 < mode.toNat ∨ 0x12 < n ∨ (n = 0x0F ∧ c ≠ 0) → RaisesError (.valu ⟨re, ·⟩ a b c mode f) s re (encode (.fmtV 0x22 a b c mode f)) 1 0)
    ∧ (5 < n ∨ (n ≤ 3 ∧ 1 < mode.toNat) ∨ ((n = 2 ∨ n = 3) ∧ 1 < a.toNat) →
        RaisesError (.vmac ⟨re, ·⟩ a b c mode f) s re (encode (.fmtV 0x23 a b c mode f)) 1 0)
    ∧ (3 < n → (n < 0x10 ∨ 0x1F < n) → RaisesError (.vperm ⟨re, ·⟩ a b c mode f) s re (encode (.fmtV 0x24 a b c mode f)) 1 0)
    ∧ (4 < n → RaisesError (.vred ⟨re, ·⟩ a b c mode f) s re (encode (.fmtV 0x25 a b c mode f)) 1 0)
    ∧ (b ≠ 0 ∨ (6 < imm.toNat ∧ imm ≠ 0x010) → RaisesError (.csrw ⟨re, ·⟩ a b imm) s re (encode (.fmtI 0x3D a b imm)) 1 0)
    ∧ (b ≠ 0 ∨ (6 < imm.toNat ∧ imm ≠ 0x010) → RaisesError (.csrr ⟨re, ·⟩ a b imm) s re (encode (.fmtI 0x3E a b imm)) 1 0)
    ∧ (formatOf (word.extractLsb' 26 6) = none ∨ (word.extractLsb' 26 6 = 0x3F ∧ 5 < (word.extractLsb' 0 11).toNat) →
        RaisesError (.illegalOpcode ⟨re, ·⟩ word) s re word 1 0)

/-- R190: a scalar access that is not aligned to its size, and a VLD or VST of half-words at an odd address, raises ERROR with cause
MISALIGNED and the address; a VLD or VST of bytes at an odd address has its effect. (A scalar access of one byte is always aligned.) -/
def Obligations.ReMisaligned : Prop :=
  ∀ (re : Fin 72) (r ra : BitVec 5) (imm : BitVec 16) (off : BitVec 13) (found : Ecc) (s : State),
    let a := (s.engine re).reg ra + imm.signExtend 32
    let v := (s.engine re).reg ra + off.signExtend 32
    let word := fun op => encode (.fmtI op r ra imm)
    (∀ p ∈ ([((.lw ⟨re, ·⟩ r ra imm found), 0x08, 4), ((.lh ⟨re, ·⟩ r ra imm found), 0x09, 2), ((.lhu ⟨re, ·⟩ r ra imm found), 0x0A, 2),
        ((.sw ⟨re, ·⟩ r ra imm), 0x0D, 4), ((.sh ⟨re, ·⟩ r ra imm), 0x0E, 2)] : List ((Ecc → Instr) × BitVec 6 × Nat)),
      a.toNat % p.2.2 ≠ 0 → RaisesError p.1 s re (word p.2.1) 2 a)
    ∧ (v.toNat % 2 ≠ 0 → RaisesError (.vld ⟨re, ·⟩ r ra 0 off found) s re (encode (.fmtM 0x20 r ra 0 off)) 2 v)
    ∧ (v.toNat % 2 ≠ 0 → RaisesError (.vst ⟨re, ·⟩ r ra 0 off) s re (encode (.fmtM 0x21 r ra 0 off)) 2 v)
    ∧ (v.toNat % 2 ≠ 0 → CleanLoad (s.engine re) v 16 found →
      GivesVector (.vld ⟨re, ·⟩ r ra 1 off found) s re (encode (.fmtM 0x20 r ra 1 off)) r (fun i => (s.loadedByte re v 16 i).zeroExtend 16)
      ∧ GivesVector (.vld ⟨re, ·⟩ r ra 2 off found) s re (encode (.fmtM 0x20 r ra 2 off)) r (fun i => (s.loadedByte re v 16 i).signExtend 16))
    ∧ (v.toNat % 2 ≠ 0 → 0x10000 ≤ v.toNat → v.toNat + 16 ≤ 0x30000 →
      GivesStore (.vst ⟨re, ·⟩ r ra 3 off) s re (encode (.fmtM 0x21 r ra 3 off)) v 16
        fun i => BitVec.ofInt 8 (max 0 (min 255 (lane ((s.engine re).vec r) i).toInt)))

/-- R179, R181, R182, R197, with LW for the loads and SW for the stores: an aligned access outside every region and a store outside
data memory raise ACCESS; an uncorrectable error of instruction or data memory counts in MEM_UE, sets FAULT.MEM_UE and raises IMEM_UE
or DMEM_UE, whichever instruction the fetch was of; an error of data memory that the check corrects counts in MEM_CE and changes
nothing of the load; an uncorrectable one of the window or the descriptors counts in WIN_UE, sets SHOT_STATUS.WIN_ECC and goes on with
the stored data, whose bad bits are a free value (log 7). A cause raised inside the ERROR handler stops the engine: its STATE is
LOCKED, it runs no handler, and FAULT.LOCKUP with FAULT.HEALTH is set. -/
def Obligations.ReLoadErrorsAndLockup : Prop :=
  (∀ (re : Fin 72) (rd ra : BitVec 5) (imm : BitVec 16) (s : State),
    let e := s.engine re
    let a := e.reg ra + imm.signExtend 32
    let r := regionOf a.toNat 4
    let w := encode (.fmtI 0x08 rd ra imm)
    let b := s.loadedByte re a 4
    a.toNat % 4 = 0 →
    (∀ found, r = .none_ → RaisesError (.lw ⟨re, ·⟩ rd ra imm found) s re w 3 a)
    ∧ (r ≠ .dmem → RaisesError (.sw ⟨re, ·⟩ rd ra imm) s re (encode (.fmtI 0x0D rd ra imm)) 3 a)
    ∧ (r = .imem ∨ r = .dmem → e.running ≠ some .error → Issued (.lw ⟨re, ·⟩ rd ra imm .double) s re w fun s t =>
        EntersError re (if r = .imem then 4 else 5) a ((s.count (RE.MEM_UE re) 1).fault (pRe re) 3) t
          ∧ t.rd (RE.MEM_UE re) = min (s.rd (RE.MEM_UE re) + 1) 65535 ∧ t.on (RE.FAULT_MEM_UE re) = true)
    ∧ (r = .imem ∨ r = .dmem → e.bad a.toNat 4 = false → Issued (.lw ⟨re, ·⟩ rd ra imm .single) s re w fun s t =>
        e.GotScalar (t.engine re) rd (b 3 ++ b 2 ++ b 1 ++ b 0) ∧ t.rd (RE.MEM_CE re) = min (s.rd (RE.MEM_CE re) + 1) 65535
          ∧ KeepsRegs [(RE.MEM_CE re).key] s t)
    ∧ (r = .window ∨ r = .descriptor → Issued (.lw ⟨re, ·⟩ rd ra imm .double) s re w fun s t =>
        (∃ v, { e with winEcc := true }.GotScalar (t.engine re) rd v) ∧ t.rd (RE.WIN_UE re) = min (s.rd (RE.WIN_UE re) + 1) 65535))
  ∧ (∀ (re : Fin 72) (a b c : BitVec 5) (imm : BitVec 16) (joff : BitVec 26) (off : BitVec 13) (mode : BitVec 3) (f : BitVec 8)
      (func : BitVec 11) (found : Ecc) (s : State),
    let e := s.engine re
    s.executing re = true → e.running ≠ some .error → e.pc ≠ 0xFFFFFFF0 → e.pc.toNat < 0x10000 →
    ∀ i ∈ ([.alu ⟨re, .double⟩ a b c func, .addi ⟨re, .double⟩ a b imm, .andi ⟨re, .double⟩ a b imm, .ori ⟨re, .double⟩ a b imm,
        .xori ⟨re, .double⟩ a b imm, .slti ⟨re, .double⟩ a b imm, .shi ⟨re, .double⟩ a b imm, .lui ⟨re, .double⟩ a b imm,
        .lw ⟨re, .double⟩ a b imm found, .lh ⟨re, .double⟩ a b imm found, .lhu ⟨re, .double⟩ a b imm found, .lb ⟨re, .double⟩ a b imm found,
        .lbu ⟨re, .double⟩ a b imm found, .sw ⟨re, .double⟩ a b imm, .sh ⟨re, .double⟩ a b imm, .sb ⟨re, .double⟩ a b imm, .beq ⟨re, .double⟩ a b imm,
        .bne ⟨re, .double⟩ a b imm, .blt ⟨re, .double⟩ a b imm, .bge ⟨re, .double⟩ a b imm, .bltu ⟨re, .double⟩ a b imm, .bgeu ⟨re, .double⟩ a b imm,
        .jal ⟨re, .double⟩ joff, .jalr ⟨re, .double⟩ a b imm, .loop ⟨re, .double⟩ a b imm, .vld ⟨re, .double⟩ a b mode off found,
        .vst ⟨re, .double⟩ a b mode off, .valu ⟨re, .double⟩ a b c mode f, .vmac ⟨re, .double⟩ a b c mode f, .vperm ⟨re, .double⟩ a b c mode f,
        .vred ⟨re, .double⟩ a b c mode f, .csrw ⟨re, .double⟩ a b imm, .csrr ⟨re, .double⟩ a b imm, .sysNop ⟨re, .double⟩ a b c,
        .emit ⟨re, .double⟩ a b c, .prox ⟨re, .double⟩ a b c, .fence ⟨re, .double⟩ a b c, .trap ⟨re, .double⟩ a b c,
        .brk ⟨re, .double⟩ a b c] : List Instr),
      ∃ t, exec i s = .next t ∧ EntersError re 4 e.pc ((s.count (RE.MEM_UE re) 1).fault (pRe re) 3) t
        ∧ t.rd (RE.MEM_UE re) = min (s.rd (RE.MEM_UE re) + 1) 65535 ∧ t.on (RE.FAULT_MEM_UE re) = true)
  ∧ (∀ (re : Fin 72) (rd ra rb : BitVec 5) (s : State), (s.engine re).running = some .error → (s.engine re).leaving = none →
    Issued (.trap ⟨re, ·⟩ rd ra rb) s re (encode (.fmtR 0x3F rd ra rb 4)) fun _ t =>
      t.rd (RE.STATE re) = 6 ∧ t.on (RE.ST_LOCKED re) = true ∧ (t.engine re).running = none
      ∧ t.on (RE.FAULT_LOCKUP re) = true ∧ t.on (C.FAULT (pRe re) 26) = true ∧ t.rd (RE.ERR_CAUSE re) = 6
      ∧ (t.engine re).pending = none ∧ (t.engine re).current = none)

/-! ### Return engines: words, dispatch, loading -/

/-- R187: every well-formed instruction of every format is read back from its word, every operand at every value the encoding
admits; and a word that decodes is the word of what it decodes to, so no bit of a defined word is dropped. -/
def Obligations.ReEncodingRoundTrip : Prop :=
  (∀ i : ReWord, i.wf = true → decodeWord (encode i) = some i)
    ∧ (∀ (w : Word) (i : ReWord), decodeWord w = some i → i.wf = true ∧ encode i = w)

/-- R187, R193: the three words that the spec writes out bit by bit, and one word each of the formats J, V, C, S and R, decode to the
instructions they stand for; opcodes that the map does not define decode to none. -/
def Obligations.ReWordsOfTheSpec : Prop :=
  decodeWord 0x04A00040 = some (.fmtI 0x01 5 0 0x0040)
    ∧ decodeWord 0x80412200 = some (.fmtM 0x20 2 1 1 0x0200)
    ∧ decodeWord 0x4480FFFD = some (.fmtI 0x11 4 0 0xFFFD)
    ∧ decodeWord 0b01011000000000000000000000000111 = some (.fmtJ 0x16 7)
    ∧ decodeWord 0b10001000011000100011100000010010 = some (.fmtV 0x22 3 2 7 0 0x12)
    ∧ decodeWord 0b11111000100000000000000000010000 = some (.fmtI 0x3E 4 0 0x0010)
    ∧ decodeWord 0b00110100011001001111111111111100 = some (.fmtI 0x0D 3 4 0xFFFC)
    ∧ decodeWord 0b11111100000000010001000000000001 = some (.fmtR 0x3F 0 1 2 0x001)
    ∧ (∀ op ∈ ([0x19, 0x1F, 0x26, 0x30, 0x3C] : List (BitVec 6)), ∀ rest : BitVec 26, decodeWord (op ++ rest) = none)

/-- R177, R195, R196: the buffer-ready toggle of a shot makes it pending with an engine that serves, and gives up a shot that was
pending, with a SKIPPED marker; an engine that does not serve gives up the shot itself. An idle engine with no call waiting enters
SHOT, a volume other than the standard firmware with s1 to s4, s30 and s31 of R195; a call that waits is entered first, unless it opens
a later frame than the pending shot's. -/
def Obligations.ReDispatch : Prop :=
  ∀ (re : Fin 72) (errors : List StackError) (s : State),
    let e := s.engine re
    let skipped := fun x => (⟨true, shotMarkerWord x 2 0, re⟩ : Entry)
    (∀ sh g, s.acq.closedShot = some sh → sh.rgOf re = some g → e.lastSeq ≠ some sh.seq →
      ∃ t, exec (.bufferReady re) s = .next t ∧ (t.engine re).lastSeq = some sh.seq
        ∧ (s.canServe re = true → (t.engine re).pending = some (sh.ref g)
          ∧ (e.pending = none → t.pca = s.pca ∧ (s.cat.applying = false → OnlyEngine re s t))
          ∧ (∀ x, e.pending = some x → Enqueues (re / 8) (skipped x) s t ∧ t.on (RE.INT_SKIPPED re) = true))
        ∧ (s.canServe re = false → e.pending = none → (t.engine re).pending = none
          ∧ Enqueues (re / 8) (skipped (sh.ref g)) s t ∧ t.on (RE.INT_SKIPPED re) = true))
    ∧ (∀ x, s.dispatchable re = true → e.calls = [] → e.pending = some x →
      ∃ t, exec (.dispatchHandler ⟨re, errors⟩) s = .next t ∧ (t.engine re).running = some .shot ∧ (t.engine re).current = some x
        ∧ (t.engine re).pending = none
        ∧ (s.standard re = false → (t.engine re).pc = 8 ∧ (t.engine re).winEcc = false
            ∧ (t.engine re).reg 1 = 0x100000 + 0x8000 * (x.seq &&& 1) ∧ (t.engine re).reg 2 = 0x110000 + 0x80 * (x.seq &&& 1)
            ∧ (t.engine re).reg 3 = 0x120000 + 0x1000 * (x.accession &&& 1)
            ∧ (t.engine re).reg 4 = BitVec.ofNat 12 x.column ++ (0 : BitVec 4) ++ x.seq.extractLsb' 0 16
            ∧ (t.engine re).reg 30 = e.stackTop ∧ (t.engine re).reg 31 = 0xFFFFFFF0))
    ∧ (∀ c r, s.dispatchable re = true → e.calls = c :: r →
        (∀ x, e.pending = some x → ¬((c.handler = .frameBegin ∨ c.handler = .config) ∧ 0 < (c.accession - x.accession).toInt)) →
      ∃ t, exec (.dispatchHandler ⟨re, errors⟩) s = .next t ∧ (t.engine re).running = some c.handler ∧ (t.engine re).calls = r
        ∧ (t.engine re).pending = e.pending
        ∧ (s.standard re = false → (t.engine re).reg 1 = c.arg1 ∧ (t.engine re).reg 2 = c.arg2 ∧ (t.engine re).reg 4 = 0
            ∧ (c.handler ≠ .init → (t.engine re).reg 3 = 0x120000 + 0x1000 * (c.accession &&& 1))))

/-- R181, R196 to R198, R201: a handler's return ends it. SHOT's outcome is s1, any value but 0, 1 and 3 counting as 3; a SHOT that
ERROR interrupted ends with a FAULT marker when ERROR returns; INIT's return raises INIT_DONE and the engine waits as a spare. The
PROX deadline of the current shot passes once; a corrected error that the scrubber finds counts in MEM_CE, an uncorrectable one counts
in MEM_UE and sets FAULT.MEM_UE with ECC and HEALTH, and neither raises a handler. -/
def Obligations.ReHandlerEndsDeadlineAndScrub : Prop :=
  (∀ (re : Fin 72) (s : State),
    let e := s.engine re
    let marker := fun x (outcome : BitVec 3) => (⟨true, shotMarkerWord x outcome e.emitted, re⟩ : Entry)
    s.executing re = true → e.pc = 0xFFFFFFF0 →
    (∀ x, e.running = some .shot → e.current = some x → s.standard re = false →
      ∃ t, exec (.handlerReturn re) s = .next t ∧ (t.engine re).running = none ∧ (t.engine re).current = none
        ∧ Enqueues (re / 8) (marker x (if e.reg 1 = 0 then 0 else if e.reg 1 = 1 then 1 else 3)) s t)
    ∧ (∀ x, e.running = some .error → e.interrupted = some .shot → e.current = some x →
      ∃ t, exec (.handlerReturn re) s = .next t ∧ (t.engine re).running = none ∧ (t.engine re).current = none
        ∧ Enqueues (re / 8) (marker x 3) s t)
    ∧ (e.running = some .init → ∃ t, exec (.handlerReturn re) s = .next t ∧ (t.engine re).running = none
        ∧ t.rd (RE.STATE re) = 3 ∧ t.on (RE.ST_SPARE re) = true ∧ t.on (RE.INT_INIT_DONE re) = true)
    ∧ (e.running = some .frameBegin ∨ e.running = some .config → exec (.handlerReturn re) s =
        .next (s.setEngine re { e with running := none, loops := [] })))
  ∧ (∀ (re : Fin 72) (addr : Word) (s : State),
    let e := s.engine re
    (∀ x, e.current = some x → x.late = false →
      exec (.proxDeadline re) s = .next (s.setEngine re { e with current := some { x with late := true } }))
    ∧ (s.runs (pRe re) = true → addr.toNat < 0x30000 → addr.toNat % 4 = 0 →
      exec (.memoryScrub re addr .clean) s = .next s
      ∧ (∃ t, exec (.memoryScrub re addr .single) s = .next t ∧ t.rd (RE.MEM_CE re) = min (s.rd (RE.MEM_CE re) + 1) 65535
          ∧ KeepsRegs [(RE.MEM_CE re).key] s t ∧ t = { s with regs := t.regs })
      ∧ (∃ t, exec (.memoryScrub re addr .double) s = .next t ∧ t.rd (RE.MEM_UE re) = min (s.rd (RE.MEM_UE re) + 1) 65535
          ∧ t.on (RE.FAULT_MEM_UE re) = true ∧ t.on (C.FAULT (pRe re) 26) = true ∧ t.on (C.FAULT (pRe re) 31) = true
          ∧ KeepsRegs [(RE.MEM_UE re).key, (RE.FAULT_MEM_UE re).key, (C.FAULT (pRe re) 26).key, (C.FAULT (pRe re) 31).key] s t
          ∧ addr.toNat ∈ (t.engine re).badWords
          ∧ t.engine re = { e with badWords := (t.engine re).badWords } ∧ t = { s.setEngine re (t.engine re) with regs := t.regs })))

/-- R13, R202, R204, R207, R495: while HALTED reads 1, a legal LOAD_ADDR is taken and clears SEC's record of the volume; an illegal one
sets ERR_VALUE, and one while HALTED reads 0 sets ERR_BUSY; LOAD_DATA, from the host core alone, writes the word at LOAD_ADDR and adds 4;
on every other path it sets ERR_STATE and changes nothing else. UNFENCE frees a fenced engine whose memories a reset has cleared. A
repair or update request for a free spare is taken into REQ, ENGINE and RG and changes nothing else; a request while REQ is 1, for an
engine that is no free spare, or for the engine or row group of the other pending request is refused with ERR_BUSY, one for an engine
above 71 or of another record major with ERR_VALUE; a refusal raises REQ_REFUSED and changes no request. -/
def Obligations.ReLoadingAndRequests : Prop :=
  (∀ (path : Path) (re : Fin 72) (value : Word) (s : State),
    let p := pRe re
    let a := s.rd (RE.LOAD_ADDR re)
    let e := s.engine re
    let taken := { s with bus := {} }
    let legal := value.toNat ≤ 0x2FFFC ∧ value.toNat % 4 = 0
    s.runs p = true →
    (s.on (C.HALTED p) = true → legal →
      ∃ t, exec (.loadAddrWrite path re value) s = .next t ∧ t.rd (RE.LOAD_ADDR re) = value.toNat
        ∧ KeepsRegs [(RE.LOAD_ADDR re).key] s t ∧ t.sec.records = s.sec.records.filter (fun r => r.1 ≠ (re : Nat))
        ∧ t = { s with bus := {}, regs := t.regs, sec.records := t.sec.records })
    ∧ (s.on (C.HALTED p) = true → ¬legal → exec (.loadAddrWrite path re value) s = .next (taken.put (C.ERR_VALUE p) true))
    ∧ (s.on (C.HALTED p) = false → legal → exec (.loadAddrWrite path re value) s = .next (taken.put (C.ERR_BUSY p) true))
    ∧ (s.on (C.HALTED p) = false → ¬legal → exec (.loadAddrWrite path re value) s =
        .next ((taken.put (C.ERR_BUSY p) true).put (C.ERR_VALUE p) true))
    ∧ (s.on (C.HALTED p) = true → a < 0x30000 → a % 4 = 0 →
      ∃ t, exec (.loadDataWrite .host re value) s = .next t ∧ t.rd (RE.LOAD_ADDR re) = a + 4 ∧ KeepsRegs [(RE.LOAD_ADDR re).key] s t
        ∧ (∀ x, (t.engine re).imem.read x = if a ≤ x ∧ x < a + 4 ∧ a < 0x10000 then value.extractLsb' (8 * (x - a)) 8 else e.imem.read x)
        ∧ (∀ x, (t.engine re).dmem.read x =
            if a ≤ x + 0x10000 ∧ x + 0x10000 < a + 4 ∧ 0x10000 ≤ a then value.extractLsb' (8 * (x + 0x10000 - a)) 8 else e.dmem.read x))
    ∧ (path ≠ .host → exec (.loadDataWrite path re value) s = .next (taken.put (C.ERR_STATE p) true))
    ∧ (value.getLsbD 31 = true → s.rd (RE.STATE re) = 5 → e.uncleared = false →
      ∃ t, exec (.unfence path re value) s = .next t ∧ t.rd (RE.STATE re) = 1 ∧ t.on (REG.FENCED re) = false
        ∧ t.nvs = { s.nvs with lifePending := true } ∧ t.engines = s.engines)
    ∧ (value.getLsbD 31 = true → ¬(s.rd (RE.STATE re) = 5 ∧ e.uncleared = false) →
      exec (.unfence path re value) s = .next (taken.put (C.ERR_STATE p) true)))
  ∧ (∀ (path : Path) (value : Word) (s : State),
    let k := (value.extractLsb' 16 7).toNat
    let g := (value.extractLsb' 8 6).toNat
    s.runs pREG = true → value.getLsbD 31 = true →
    ∀ p ∈ ([(.repairReq path value, repairFlds, updateFlds), (.updateReq path value, updateFlds, repairFlds)] :
        List (Instr × ReqFlds × ReqFlds)),
      let clash := s.on p.2.2.req = true ∧ (s.rd p.2.2.engine = k ∨ s.rd p.2.2.rg = g)
      let refused := fun e : Fld => exec p.1 s = .next (({ s with bus := {} }.put e true).put REG.INT_REQ_REFUSED true)
      (s.on p.2.1.req = false → k ≤ 71 → s.recDiffers k = false → s.freeSpare k = true → ¬clash →
        ∃ t, exec p.1 s = .next t ∧ t.on p.2.1.req = true ∧ t.rd p.2.1.engine = k ∧ t.rd p.2.1.rg = g
          ∧ KeepsRegs [p.2.1.req.key, p.2.1.engine.key, p.2.1.rg.key] s t ∧ t = { s with bus := {}, regs := t.regs })
      ∧ (s.on p.2.1.req = true → refused (C.ERR_BUSY pREG))
      ∧ (s.on p.2.1.req = false → (71 < k ∨ s.recDiffers k = true) → refused (C.ERR_VALUE pREG))
      ∧ (s.on p.2.1.req = false → k ≤ 71 → s.recDiffers k = false → (s.freeSpare k = false ∨ clash) → refused (C.ERR_BUSY pREG)))

/-! ### Register access, halt, commit and snapshot (spec/02_folios_and_commit.md) -/

/-- R38, R39, R40, R447: an access of a wrong size or alignment answers an error and sets ERR_ADDR in the folio it falls in; an access
to no folio answers an error and changes nothing; an access to an undefined offset answers no error, reads 0 and sets ERR_ADDR; a write
to a folio that is off or held in reset answers no error and sets ERR_STATE; nothing else changes, but that a write which quiets the
catalogue ends the EVENT announcement (State.written). Log 47: in a feed switch-over's gap a write to a folio of the sentinel domain
answers no error, waits for the gap's end, and changes nothing till then. -/
def Obligations.RegisterAccessErrors : Prop :=
  ∀ (path : Path) (write : Bool) (addr value : Word) (size p off : Nat) (s : State),
    (p < 183 → off < 0x1000 → addr.toNat = 0x40000000 + 0x1000 * p + off →
      (size ≠ 4 ∨ off % 4 ≠ 0 → exec (.badRegisterAccess path write addr size) s =
        .next { s.put (C.ERR_ADDR p) true with bus := ⟨true, 0⟩ })
      ∧ (off % 4 ≠ 0 → exec (.registerWrite path addr value) s = .next { s.put (C.ERR_ADDR p) true with bus := ⟨true, 0⟩ })
      ∧ (off % 4 = 0 → defined p off = false →
          exec (.undefinedOffsetAccess path false addr value) s = .next { s.put (C.ERR_ADDR p) true with bus := ⟨false, 0⟩ }
          ∧ (¬s.writesWait p → exec (.undefinedOffsetAccess path true addr value) s = .next (s.put (C.ERR_ADDR p) true).written
              ∧ exec (.registerWrite path addr value) s = .next (s.put (C.ERR_ADDR p) true).written))
      ∧ (off % 4 = 0 → defined p off = true → off ≠ 0x10 → s.runs p = false → ¬s.writesWait p →
          exec (.registerWrite path addr value) s = .next (s.put (C.ERR_STATE p) true).written)
      ∧ (off % 4 = 0 → s.writesWait p →
          exec (.registerWrite path addr value) s = .next { s.keep (.write path p off value.toNat) with bus := ⟨false, 0⟩ }))
    ∧ (addr.toNat < 0x40000000 ∨ 0x40000000 + 0x1000 * 183 ≤ addr.toNat →
        exec (.badRegisterAccess path write addr size) s = .next { s with bus := ⟨true, 0⟩ }
        ∧ exec (.registerWrite path addr value) s = .next { s with bus := ⟨true, 0⟩ })

/-- R10, R13, R41, R45, R47: what a write leaves in the fields of each access code. INT_EN (RW) of every folio that runs takes its
bits; the ERR_ bits of STATUS (W1C) clear where a 1 is written; a PARAM word (RWS) of the RE group changes what was last written and
not what is in force; ERR_LIMIT of 0 is rejected with ERR_VALUE and leaves the field; VOL_ID and VOL_VER (RWH) of an engine are taken
only while HALTED reads 1, else ERR_BUSY is set; a write of the RO word AVAILABLE has no effect. -/
def Obligations.RegisterWriteByAccessCode : Prop :=
  ∀ (path : Path) (value : Word) (s : State),
    let v := value.toNat
    let at_ := fun p off => BitVec.ofNat 32 (0x40000000 + 0x1000 * p + off)
    (∀ p < 183, s.runs p = true → ¬s.writesWait p → ∃ u, exec (.registerWrite path (at_ p 0x18) value) s = .next u.written
        ∧ u.rd (C.INT_EN p) = v % 2 ^ 16 ∧ u.rd (C.INT_EN_HI p) = v / 2 ^ 29
        ∧ KeepsRegs [(C.INT_EN p).key, (C.INT_EN_HI p).key] s u ∧ u = { s with regs.cur := u.regs.cur })
    ∧ (∀ p < 183, ¬s.writesWait p → ∃ u, exec (.registerWrite path (at_ p 0x10) value) s = .next u.written
        ∧ (∀ f ∈ ([C.ERR_ADDR p, C.ERR_LOCK p, C.ERR_STATE p, C.ERR_VALUE p, C.ERR_BUSY p] : List Fld),
            u.rd f = if value.getLsbD (f.key % 32) then 0 else s.rd f % 2)
        ∧ KeepsRegs [(C.ERR_ADDR p).key, (C.ERR_LOCK p).key, (C.ERR_STATE p).key, (C.ERR_VALUE p).key, (C.ERR_BUSY p).key] s u
        ∧ u = { s with regs.cur := u.regs.cur })
    ∧ (∀ n < 64, s.runs pREG = true → exec (.registerWrite path (at_ pREG (0x100 + 4 * n)) value) s =
        .next (s.wrS (REG.PARAM n) v).written)
    ∧ (s.runs pREG = true → v / 2 ^ 8 % 2 ^ 8 = 0 → 0 < v % 2 ^ 8 → exec (.registerWrite path (at_ pREG 0x4C) value) s =
        .next ((s.wrS REG.SKIP_LIMIT (v % 2 ^ 8)).put (C.ERR_VALUE pREG) true).written)
    ∧ (∀ k < 72, s.runs (pRe k) = true →
        (s.on (C.HALTED (pRe k)) = true → exec (.registerWrite path (at_ (pRe k) 0x50) value) s =
          .next ((s.wrS (RE.VOL_ID k) (v / 2 ^ 16)).wrS (RE.VOL_VER k) (v % 2 ^ 16)).written)
        ∧ (s.on (C.HALTED (pRe k)) = false → exec (.registerWrite path (at_ (pRe k) 0x50) value) s =
          .next (s.put (C.ERR_BUSY (pRe k)) true).written))
    ∧ (s.runs pREG = true → exec (.registerWrite path (at_ pREG 0x50) value) s = .next s.written)

/-- R47, R48, R49: HALT = 1 is taken by a block that can halt and is not in service in OPERATIONAL or DEGRADED, refused there with
ERR_STATE, and refused with ERR_VALUE by a block that cannot halt and has no children; HALT = 0 is taken. At the block's next sample
boundary HALTED follows HALT, and RWH values take effect on resumption; a block that is at its boundary whenever it is idle halts at
once. A group refuses nothing on its own account. -/
def Obligations.HaltRule : Prop :=
  ∀ (path : Path) (page : Fin 183) (value : Word) (s : State),
    let p := (page : Nat)
    let refused := fun e : Fld => ∃ t, exec (.haltWrite path page value) s = .next t ∧ t.on (C.HALT p) = s.on (C.HALT p)
      ∧ t.on (C.HALTED p) = s.on (C.HALTED p) ∧ t.on e = true
    let serves := s.operating && (s.inService p || (decide (p = pCONVH) && s.on CONVH.ST_RUNNING))
    s.runs p = true → ¬s.writesWait p →
    (isGroup p = true → ∃ t, exec (.haltWrite path page value) s = .next t ∧ t.on (C.HALT p) = value.getLsbD 31)
    ∧ (isGroup p = false → idlesAtBoundary p = true → s.atBoundary p = true → haltable p = true → value.getLsbD 31 = true →
        s.on (C.HALT p) = false → serves = false →
        ∃ t, exec (.haltWrite path page value) s = .next t ∧ t.on (C.HALT p) = true ∧ t.on (C.HALTED p) = true)
    ∧ (isGroup p = false → idlesAtBoundary p = false →
    (haltable p = true → value.getLsbD 31 = true → s.on (C.HALT p) = false → serves = false →
      ∃ t, exec (.haltWrite path page value) s = .next t ∧ t.on (C.HALT p) = true ∧ t.on (C.HALTED p) = s.on (C.HALTED p))
    ∧ (haltable p = true → value.getLsbD 31 = true → s.on (C.HALT p) = false → serves = true → refused (C.ERR_STATE p))
    ∧ (haltable p = false → value.getLsbD 31 = true → refused (C.ERR_VALUE p))
    ∧ (haltable p = true → value.getLsbD 31 = false → ∃ t, exec (.haltWrite path page value) s = .next t ∧ t.on (C.HALT p) = false)
    ∧ (s.on (C.HALT p) = true → s.on (C.HALTED p) = false → ∃ t, exec (.haltTakeEffect page) s = .next t ∧ t.on (C.HALTED p) = true
        ∧ t.on (C.HALT p) = true)
    ∧ (s.on (C.HALT p) = false → s.on (C.HALTED p) = true → ∃ t, exec (.haltTakeEffect page) s = .next t ∧ t.on (C.HALTED p) = false
        ∧ ∀ f ∈ fieldsOf p .rwh, p ≠ pSCN → t.rd f = s.rdS f % 2 ^ f.width))

/-- R64 with R526: a write of PERTURB takes every field while test access is unlocked for perturbation (SCOPE bit 0) and the state is
not OPERATIONAL; at all other times it sets ERR_LOCK and changes nothing else. -/
def Obligations.PerturbRule : Prop :=
  ∀ (path : Path) (page : Fin 183) (value : Word) (s : State),
    let p := (page : Nat)
    let open_ := s.on MON.UNLOCKED = true ∧ bit (s.rd MON.SCOPE) 0 = true ∧ s.rd SAF.STATE ≠ 2
    s.runs p = true → ¬s.writesWait p →
    (open_ → ∃ u, exec (.perturbWrite path page value) s = .next u.written
      ∧ u.on (C.EN p) = value.getLsbD 31 ∧ u.rd (C.SYNC_STRETCH p) = (value.extractLsb' 24 4).toNat
      ∧ u.rd (C.HS_DELAY p) = (value.extractLsb' 16 8).toNat ∧ u.rd (C.BP_DUTY p) = (value.extractLsb' 12 4).toNat
      ∧ u.rd (C.FLAG_DELAY p) = (value.extractLsb' 8 4).toNat ∧ u.rd (C.BP_SEED p) = (value.extractLsb' 0 8).toNat
      ∧ KeepsRegs [(C.EN p).key, (C.SYNC_STRETCH p).key, (C.HS_DELAY p).key, (C.BP_DUTY p).key, (C.FLAG_DELAY p).key,
          (C.BP_SEED p).key] s u
      ∧ u = { s with regs.cur := u.regs.cur })
    ∧ (¬open_ → exec (.perturbWrite path page value) s = .next (s.put (C.ERR_LOCK p) true).written)

/-- R50, R51, R368: COMMIT captures every shadow and starts the check, or sets ERR_BUSY while one is checked or staged; a check that no
folio refuses stages the next generation in every folio that runs; one that folios refuse clears CHECKING, marks each of them REFUSED
with ERR_VALUE, raises COMMIT_REFUSED with cause 4 or 1, and sets CAL's FAULT.RUHAL_BAD where CAL is among them; one that ABORT has met
is discarded with cause 3. ABORT discards a staged commit, with cause 3, till the boundary strobe has reached the catalogue, and sets
ERR_BUSY from then on and where nothing is checked or staged. -/
def Obligations.CommitRequestAndCheck : Prop :=
  ∀ (path : Path) (s : State), s.runs 0 = true →
    let checking := s.on CAT.CHECKING
    let staged := s.on CAT.CAT_STAGED
    let ends := fun t cause => t.on CAT.CHECKING = false ∧ t.on CAT.CAT_STAGED = false ∧ t.rd CAT.REFUSE_CAUSE = cause
      ∧ t.on CAT.INT_COMMIT_REFUSED = true ∧ t.rd CAT.GEN_ACTIVE = s.rd CAT.GEN_ACTIVE ∧ t.regs.shadow = s.regs.shadow
    let busy := { s with bus := {} }.put (C.ERR_BUSY 0) true
    (checking = false → staged = false → ∃ t, exec (.commit path) s = .next t ∧ t.on CAT.CHECKING = true
      ∧ t.regs.staged = s.regs.shadow ∧ t.regs.shadow = s.regs.shadow ∧ (∀ p < 183, t.on (C.REFUSED p) = false)
      ∧ t = { s with bus := {}, regs := t.regs })
    ∧ (checking = true ∨ staged = true → exec (.commit path) s = .next busy)
    ∧ (checking = true → s.refusers = [] → s.cat.abortPending = false → ∃ t, exec .commitCheckDone s = .next t
        ∧ t.on CAT.CHECKING = false ∧ t.on CAT.CAT_STAGED = true ∧ t.rd CAT.GEN_STAGED = (s.rd CAT.GEN_ACTIVE + 1) % 2 ^ 32
        ∧ (∀ p < 183, s.runs p = true → t.on (C.STAGED p) = true) ∧ t = { s with regs.cur := t.regs.cur })
    ∧ (checking = true → s.refusers ≠ [] → ∃ t, exec .commitCheckDone s = .next t
        ∧ ends t (if s.refusers.any s.refusesState then 4 else 1)
        ∧ (∀ p ∈ s.refusers, t.on (C.REFUSED p) = true ∧ t.on (C.ERR_VALUE p) = true)
        ∧ (pCAL ∈ s.refusers → t.on (C.FAULT pCAL 1) = true))
    ∧ (checking = true → s.refusers = [] → s.cat.abortPending = true → ∃ t, exec .commitCheckDone s = .next t ∧ ends t 3)
    ∧ (checking = true → exec (.abort path) s = .next { s with bus := {}, cat.abortPending := true })
    ∧ (checking = false → staged = true → s.cat.applying = false → ∃ t, exec (.abort path) s = .next t ∧ ends t 3)
    ∧ (checking = false → staged = false ∨ s.cat.applying = true → exec (.abort path) s = .next busy)

/-- R27, R28, R50, R54: at an idle boundary, and when the strobe of a frame boundary reaches the fabric, the staged generation becomes
the active one, whatever the commit changes (R52). The strobe makes a folio of the domain that holds staged values apply them: it takes
the active generation, holds nothing staged any more, and every RWS field of a folio without rules of its own for it, here AFE, holds
the staged value. A folio of the sentinel domain does so outside a feed switch-over's gap. -/
def Obligations.CommitBoundary : Prop :=
  ∀ s : State,
    (s.runs pACQ = true → s.acq.frame = none → s.on CAT.CAT_STAGED = true → s.cat.applying = false →
      ∃ t, exec .idleBoundary s = .next t ∧ t.rd CAT.GEN_ACTIVE = s.rd CAT.GEN_STAGED % 2 ^ 32)
    ∧ (s.cat.boundaryDue = true → s.on CAT.CAT_STAGED = true → s.cat.applying = false →
      ∃ t, exec (.frameBoundaryStrobe 0) s = .next t ∧ t.rd CAT.GEN_ACTIVE = s.rd CAT.GEN_STAGED % 2 ^ 32
        ∧ t.cat.boundaryDue = false)
    ∧ (∀ page : Fin 183, (page : Nat) ∉ tdcPages → holdsShots page = false → ¬s.writesWait page → s.cat.applying = true →
      s.on (C.STAGED page) = true →
      ∃ t, exec (.frameBoundaryStrobe page) s = .next t ∧ t.on (C.STAGED page) = false
        ∧ t.rd (C.GEN_LOW page) = s.rd CAT.GEN_ACTIVE % 2 ^ 16
        ∧ ((page : Nat) = pAFE → ∀ f ∈ fieldsOf pAFE .rws, t.rd f = s.rdT f % 2 ^ f.width))

/-- R30, R58, R59: SNAP asks for a capture, or joins the one in progress and counts in SNAP_MERGED (which stays at 0xFFFF by log 19); an
idle boundary takes a waiting capture, which holds every unit as it stands there before the boundary's own effects (log 19), and keeps
the last accession number and 0xFFFF of no shot, 0xFFF; once the folios have copied, SNAP_BUSY clears, SNAP_VALID and SNAP_DONE are set
and the boundary's numbers show, the copy unchanged. -/
def Obligations.SnapshotCapture : Prop :=
  ∀ (path : Path) (s : State),
    (s.runs 0 = true → s.on CAT.SNAP_BUSY = false → ∃ t, exec (.snap path) s = .next t ∧ t.on CAT.SNAP_BUSY = true
      ∧ t.rd CAT.SNAP_MERGED = 0 ∧ KeepsRegs [CAT.SNAP_BUSY.key, CAT.SNAP_MERGED.key] s t
      ∧ t = { s with bus := {}, regs.cur := t.regs.cur, cat.snapWaiting := true })
    ∧ (s.runs 0 = true → s.on CAT.SNAP_BUSY = true → ∃ t, exec (.snap path) s = .next t
        ∧ t.rd CAT.SNAP_MERGED = min (s.rd CAT.SNAP_MERGED + 1) 65535 ∧ KeepsRegs [CAT.SNAP_MERGED.key] s t
        ∧ t = { s with bus := {}, regs.cur := t.regs.cur })
    ∧ (s.runs pACQ = true → s.acq.frame = none → s.cat.boundaryDue = false → s.cat.snapWaiting = true →
      ∃ t, exec .idleBoundary s = .next t
        ∧ t.snap = s.image ∧ t.cat.snapWaiting = false ∧ t.cat.snapCapturing = true ∧ t.cat.snapShot = 0xFFF
        ∧ t.cat.snapAccession = s.lastAccession.getD 0)
    ∧ (s.cat.snapCapturing = true → ∃ t, exec .snapshotCapture s = .next t ∧ t.on CAT.SNAP_BUSY = false ∧ t.on CAT.SNAP_VALID = true
        ∧ t.on CAT.INT_SNAP_DONE = true ∧ t.rd CAT.SNAP_ACCESSION = s.cat.snapAccession.toNat
        ∧ t.rd CAT.SNAP_SHOT = s.cat.snapShot % 2 ^ 12
        ∧ KeepsRegs [CAT.SNAP_BUSY.key, CAT.SNAP_VALID.key, CAT.INT_SNAP_DONE.key, CAT.SNAP_ACCESSION.key, CAT.SNAP_SHOT.key] s t
        ∧ t = { s with regs.cur := t.regs.cur, cat.snapCapturing := false, mon := t.mon }
        ∧ (s.mon.snapWait = false → t.mon = s.mon))

/-! ### Triggers, the burst code and the shot grid (spec/06, spec/03) -/

/-- R55, R145, R147 to R153, R304: an enabled source, alone or with others in its sample, opens a frame when RUN is set, no frame is in
acquisition, the last boundary's strobe has arrived, and FLYBACK_MIN and the 39.8 ms of R149 have passed; while a frame is in
acquisition, or either time has not passed, the trigger is ignored and counted once, but a further source that meets its condition in
the sample of the frame's own capture, at the same TIME (log 20), joins that capture; a timer trigger that is ignored waits and is
accepted when the conditions hold. RUN, the loss of the pin triggers and the ends of the two pulses: setting RUN makes the timer's next
trigger the first; clearing RUN is refused in OPERATIONAL and DEGRADED, and takes the grid out of service unless a frame is in
acquisition; SYNC_TMO without a pin trigger sets SYNC_LOST and the timer fires as fallback in the same sample; with the frame timer
disabled it sets FAULT.NO_FRAMES. -/
def Obligations.TriggersAndRun : Prop :=
  (∀ (path : Path) (also : BitVec 4) (at_ : DWord) (s : State), s.runs pACQ = true → s.on ACQ.RUN = true →
    let flyback := s.passed s.acq.lastBoundary (s.rd ACQ.FLYBACK_MIN) = true
    let spaced := s.passed s.acq.lastTrigger 39800 = true
    let free := s.acq.frame = none ∧ s.cat.boundaryDue = false ∧ flyback ∧ spaced
    let early := s.sameSample = false ∧ (s.acq.frame ≠ none ∨ (s.acq.triggered = true ∧ (¬flyback ∨ (¬spaced ∧ bit also.toNat 2 = false))))
    let enabled := fun b => bit (s.rd ACQ.TRIG_EN) b = true
    let ignored := fun c => ∃ t, exec c s = .next t ∧ t.rd ACQ.TRIG_IGNORED = min (s.rd ACQ.TRIG_IGNORED + 1) 65535
      ∧ t.on ACQ.INT_TRIG_IGNORED = true ∧ KeepsRegs [ACQ.TRIG_IGNORED.key, ACQ.INT_TRIG_IGNORED.key] s t ∧ t.acq.frame = s.acq.frame
      ∧ t.lastAccession = s.lastAccession
    (∀ p ∈ ([(.frameSyncInEdge also, 0), (.syncBusEdge also, 1), (.swTrig path, 3)] : List (Instr × Nat)), enabled p.2 →
      (free → ∃ t, exec p.1 s = .next t ∧ OpensFrame p.2 s t) ∧ (early → ignored p.1))
    ∧ (∀ f, s.acq.frame = some f → s.sameSample = true →
      (∀ p ∈ ([(.frameSyncInEdge 0, 0), (.syncBusEdge 0, 1)] : List (Instr × Nat)), enabled p.2 → bit f.cause p.2 = false →
          ∃ t, exec p.1 s = .next t ∧ JoinsCapture f p.2 s t)
      ∧ (enabled 3 → bit f.cause 3 = false → ∃ t, exec (.swTrig path) s = .next t ∧ JoinsCapture f 3 s t)
      ∧ (s.timerActs = true → s.acq.timerPending = false → enabled 2 → bit f.cause 2 = false →
          ∃ t, exec .frameTimer s = .next t ∧ JoinsCapture f 2 s t)
      ∧ (s.lnk.pairAt = some at_ → enabled 3 → bit f.cause 3 = false →
          ∃ t, exec .pairTrigger s = .next t ∧ JoinsCapture f 3 s t ∧ t.lnk.pairAt = none))
    ∧ (s.lnk.pairAt = some at_ → enabled 3 →
      (free → ∃ t, exec .pairTrigger s = .next t ∧ OpensFrame 3 s t ∧ t.lnk.pairAt = none)
      ∧ (early → ignored .pairTrigger))
    ∧ (s.timerActs = true → s.acq.timerPending = false →
      (s.acq.frame = none → s.cat.boundaryDue = false → (flyback ∨ s.acq.triggered = false) →
        ∃ t, exec .frameTimer s = .next t ∧ OpensFrame 2 s t)
      ∧ (s.sameSample = false → s.acq.frame ≠ none ∨ (s.acq.triggered = true ∧ ¬flyback) →
        ignored .frameTimer ∧ ∃ t, exec .frameTimer s = .next t ∧ t.acq.timerPending = true))
    ∧ (s.timerActs = true → s.acq.timerPending = true → s.acq.frame = none → s.cat.boundaryDue = false →
      ∃ t, exec .pendingTriggerAccept s = .next t ∧ OpensFrame 2 s t))
  ∧ (∀ (path : Path) (value : Word) (s : State),
    (s.runs pACQ = true →
      (value.getLsbD 31 = true → s.on ACQ.RUN = false → ∃ t, exec (.runWrite path value) s = .next t ∧ t.on ACQ.RUN = true
        ∧ t.acq.triggered = false ∧ t.acq.timerPending = false)
      ∧ (value.getLsbD 31 = false → s.on ACQ.RUN = true → s.operating = true → ∃ t, exec (.runWrite path value) s = .next t
        ∧ t.on ACQ.RUN = true ∧ t.on (C.ERR_STATE pACQ) = true)
      ∧ (value.getLsbD 31 = false → s.on ACQ.RUN = true → s.operating = false → ∃ t, exec (.runWrite path value) s = .next t
        ∧ t.on ACQ.RUN = false ∧ t.on ACQ.ST_SYNC_LOST = false ∧ t.gridInService = s.acq.frame.isSome)
      ∧ (s.on ACQ.RUN = true → s.pinEnabled = true → s.on ACQ.ST_SYNC_LOST = false → s.cat.boundaryDue = false →
        ∃ t, exec .syncLostTimeout s = .next t ∧ t.on ACQ.ST_SYNC_LOST = true ∧ t.on ACQ.INT_SYNC_LOST = true
          ∧ (bit (s.rd ACQ.TRIG_EN) 2 = false → t.on ACQ.FAULT_NO_FRAMES = true ∧ t.acq.noFrames = true)
          ∧ (bit (s.rd ACQ.TRIG_EN) 2 = true → s.acq.timerPending = false → s.acq.frame = none →
              s.passed s.acq.lastBoundary (s.rd ACQ.FLYBACK_MIN) = true → s.rd ACQ.LAST_CAUSE % 4 ≠ 0 → OpensFrame 2 s t)))
    ∧ exec (.fsoPulseEnd false) s = .next { s with acq.fso := false }
    ∧ exec (.fsoPulseEnd true) s = .next { s with acq.bus := false })

/-- R78, R79, R80: the code that EMT has computed waits for the frame that wants it, and nothing else changes; and every code of R78,
for any identity, salt and epoch, that is no fallback code has N ascending positions from 0 to at most SPAN, no two nearer than
GAP_MIN, and no two pairs the same distance apart; every fallback code has that property too. -/
def Obligations.BurstCodes : Prop :=
  (∀ (a : Word) (s : State), s.runs pEMT = true → s.codeWanted = some a →
    exec .burstCodeDone s = .next { s with emt.ready := some (s.codeFor a) })
  ∧ (∀ (device : List Byte) (epoch salt n span gap : Nat), 1 ≤ n → n ≤ 8 → 1 ≤ gap →
      let c := burstCode device epoch salt n span gap
      c.1.length = n ∧ c.1.head? = some 0 ∧ c.1.Pairwise (fun a b => a + gap ≤ b) ∧ (distances c.1).Nodup
        ∧ (c.2 = false → ∀ x ∈ c.1, x ≤ span) ∧ (c.2 = true → ∀ x ∈ c.1, x ≤ gap * rulerLength n))

/-- R73, R120, R123, R144, R145, R159, R163, R164: SHOT_OPEN opens the shot of the frame's next column under the shot counter and the
frame's tags, clears the arm token, shows the column, counts the column and the shot, clears the histograms of the buffer that the shot
fills and sets FILLING in its descriptor. The window opens on the banks that run, are locked and are not halted, and on the sections as
HALTED reads there. Its close ends the shot and completes its descriptor's tags; the shot is then the one whose buffer-ready toggles the
engines' dispatchers receive, and, where PCA's assembly runs and no reset has cut the frame, PCA awaits its column; a waiting
snapshot is taken there, under the shot's numbers, while RUN reads 1; the close of a frame's last window is the frame boundary, whose
strobe is then on its way. -/
def Obligations.ShotOpensAndCloses : Prop :=
  (∀ (f : Frame) (s : State), s.runs pACQ = true → s.acq.frame = some f → s.acq.shot = none → f.next < f.ncol →
    ∃ t sh g, exec .shotOpen s = .next t ∧ t.acq.shot = some sh ∧ t.acq.frame = some g
      ∧ sh.seq = s.acq.nextSeq ∧ t.acq.nextSeq = s.acq.nextSeq + 1 ∧ sh.accession = f.accession ∧ sh.gen = f.gen
      ∧ sh.column = f.next ∧ g.next = f.next + 1 ∧ sh.first = decide (f.next = 0) ∧ sh.last = decide (f.next + 1 = f.ncol)
      ∧ sh.fire = none ∧ sh.tokened = false ∧ sh.windowOpen = false ∧ sh.engines = f.engineMap
      ∧ t.emt.token = none ∧ t.rd ACQ.COLUMN = f.next % 2 ^ 12 ∧ g.accession = f.accession ∧ g.ncol = f.ncol
      ∧ (∀ a, slotAddr sh 0 ≤ a → a < slotAddr sh 0 + 0x210000 → 0x200 ≤ a % 0x1000 → a % 0x1000 < 0xA00 → t.stackMem.read a = 0)
      ∧ (s.runs (pSbank 0) = true → t.stackMem.read (descAddr sh + 0x7F) = 0x80))
  ∧ (∀ (sh : Shot) (s : State), s.acq.shot = some sh →
    (sh.fire ≠ none → sh.windowOpen = false → ∃ t, exec .windowOpen s = .next t
      ∧ t.acq.shot = some { sh with windowOpen := true, angle := s.rd CONVM.LAST_CODE }
      ∧ (∀ b < 33, (t.bank b).open_ = (s.runs (pBank b) && s.on (BANK.DLL_LOCKED b) && !s.on (C.HALTED (pBank b))))
      ∧ (∀ b < 33, (t.bank b).invalid = !(t.bank b).open_)
      ∧ (∀ j < 11, (t.section_ j).haltedAtOpen = s.on (C.HALTED (pDet j)))
      ∧ t = { s with acq.shot := t.acq.shot, det := t.det })
    ∧ (sh.windowOpen = true → ∃ t sh', exec (.windowClose) s = .next t ∧ t.acq.shot = none ∧ t.acq.closedShot = some sh'
      ∧ sh'.seq = sh.seq ∧ sh'.accession = sh.accession ∧ sh'.gen = sh.gen ∧ sh'.column = sh.column ∧ sh'.first = sh.first
      ∧ sh'.last = sh.last ∧ sh'.engines = sh.engines ∧ sh'.windowOpen = false ∧ t.emt.token = none ∧ t.pins.eg = 0
      ∧ (s.runs (pSbank 0) = true → (List.range 8).map (fun i => t.stackMem.read (descAddr sh + i)) =
          leBytes 4 sh.accession.toNat ++ leBytes 4 sh.gen.toNat)
      ∧ (∀ f, s.acq.frame = some f → f.cut = false → s.runs pPASM = true → { shot := sh' } ∈ t.pca.columns)
      ∧ (s.cat.snapWaiting = true → s.on ACQ.RUN = true →
          t.cat.snapCapturing = true ∧ t.cat.snapAccession = sh.accession ∧ t.cat.snapShot = sh.column)
      ∧ (∀ f, s.acq.frame = some f → sh.last = true → t.acq.frame = none ∧ t.on ACQ.INT_FRAME_BOUNDARY = true
          ∧ t.on ACQ.ST_ACQUIRING = false ∧ t.cat.boundaryDue = true ∧ t.acq.lastBoundary = some s.acq.time.toNat)
      ∧ (∀ f, s.acq.frame = some f → sh.last = false → t.acq.frame ≠ none)))

/-- R74, R75, R94, R403, R405: SAF issues the shot's token where emission is permitted and no string's drive would pass its limits,
adding each string's drive to the bucket of both windows that holds the SHOT_OPEN, and withholds and counts it where it would; at the
arm point the first cause of R94 that holds decides the fire state, and the burst fires on the lit strings only without any. -/
def Obligations.ArmTokenAndArmPoint : Prop :=
  ∀ (sh : Shot) (s : State), s.acq.shot = some sh →
    let tag := sh.seq.toNat % 16
    let permitted := (s.rd SAF.STATE = 1 ∨ s.rd SAF.STATE = 2 ∨ s.rd SAF.STATE = 3) ∧ s.rd SAF.TRIPS_HOLD = 0 ∧ s.rd SAF.TRIPS_LATCH = 0
      ∧ s.mirror = 0 ∧ s.on SAF.CTR_EN = true ∧ s.on SAF.CTR_FB_CLOSED = true ∧ s.pwr.hold = false
    let q := s.shotDrive sh.pattern sh.column
    let within := ∀ st < 8, q st ≤ s.rd SAF.Q_SHOT_MAX ∧ windowSum s.saf.w1 st + q st ≤ s.rd SAF.Q_W1_MAX
      ∧ windowSum s.saf.w2 st + q st ≤ s.rd SAF.Q_W2_MAX
    let added := fun (w : Tab (List Nat)) back st => (buckets w st).zipIdx.map fun e => if e.2 = back then e.1 + q st else e.1
    (s.emt.token = none →
      (¬permitted → exec .armTokenDecision s = .next { s with emt.token := some ⟨false, tag⟩ })
      ∧ (permitted → within → ∃ t, exec .armTokenDecision s = .next t ∧ t.emt.token = some ⟨true, tag⟩
          ∧ t.acq.shot = some { sh with tokened := true, authPw := s.rd EMT.PW, authPulses := s.npulse }
          ∧ (∀ st < 8, buckets t.saf.w1 st = added s.saf.w1 s.saf.since1 st ∧ buckets t.saf.w2 st = added s.saf.w2 s.saf.since2 st)
          ∧ KeepsRegs [SAF.Q_W1_NOW.key, SAF.Q_W2_NOW.key] s t)
      ∧ (permitted → ¬within → ∃ t, exec .armTokenDecision s = .next t ∧ t.emt.token = some ⟨false, tag⟩
          ∧ t.saf.withheld = s.saf.withheld + 1 ∧ t.on SAF.INT_WITHHELD = true ∧ t.acq = s.acq ∧ KeepsRegs [SAF.INT_WITHHELD.key] s t))
    ∧ (sh.fire = none → sh.emtReset = false →
      let held := ∃ k, s.emt.token = some k ∧ k.token = true ∧ k.tag = tag
      ∃ t fire, exec .armPoint s = .next t
        ∧ t.acq.shot = some { sh with fire := some fire, driven := if fire = 0 then sh.code.length else 0 }
        ∧ t.pins.eg = (if fire = 0 then sh.strings else 0)
        ∧ (s.on SAF.ST_INHIBIT = true → fire = 1)
        ∧ (s.on SAF.ST_INHIBIT = false → ¬held → fire = 3)
        ∧ (s.on SAF.ST_INHIBIT = false → held → s.on (C.HALTED pEMT) = true → fire = 6)
        ∧ (s.on SAF.ST_INHIBIT = false → held → s.on (C.HALTED pEMT) = false → sh.derate = 4 → fire = 5)
        ∧ (s.on SAF.ST_INHIBIT = false → held → s.on (C.HALTED pEMT) = false → sh.derate ≠ 4 → sh.strings = 0 → fire = 4)
        ∧ (s.on SAF.ST_INHIBIT = false → held → s.on (C.HALTED pEMT) = false → sh.derate ≠ 4 → sh.strings ≠ 0 → fire = 0))

/-! ### Safety (spec/15_safety.md) -/

/-- R400, R401, R427, R570: the requests of SAF, outside a feed switch-over's gap. INIT is taken from the emitting states and CLEAR from
SAFE_HOLD without a latching trip, each entering INIT with the inhibit latch set and no OPERATIONAL attempt left to AUTO_OPER; SAFE_HOLD
latches SOFT; the pair of writes from the host core or SPI commissions from INIT; a request that the state does not allow sets ERR_STATE
and, the pair's disarming aside, changes nothing else. -/
def Obligations.SafetyRequests : Prop :=
  ∀ (path : Path) (s : State), s.runs pSAF = true → s.pwr.hold = false →
    let st := s.rd SAF.STATE
    let refused := fun c => ∃ t, exec c s = .next t ∧ t.on (C.ERR_STATE pSAF) = true ∧ KeepsRegs [(C.ERR_STATE pSAF).key] s t
      ∧ t = { s with bus := {}, regs.cur := t.regs.cur, saf.pairArmed := t.saf.pairArmed }
    let enters := fun c n => ∃ t, exec c s = .next t ∧ t.rd SAF.STATE = n ∧ t.on SAF.INT_STATE_CHANGE = true ∧ t.saf.pairArmed = false
      ∧ t.saf.autoLeft = false ∧ (n = 0 → t.on SAF.ST_INHIBIT = true)
    let local_ := path = .host ∨ path = .spi
    (st = 1 ∨ st = 2 ∨ st = 3 → enters (.reqInit path) 0)
    ∧ (st = 0 ∨ st = 4 → refused (.reqInit path))
    ∧ (st = 4 → s.rd SAF.TRIPS_LATCH = 0 → enters (.reqClear path) 0)
    ∧ (st ≠ 4 ∨ s.rd SAF.TRIPS_LATCH ≠ 0 → refused (.reqClear path))
    ∧ (st ≠ 4 → ∃ t, exec (.reqSafeHold path) s = .next t ∧ Trips 20 t ∧ t.saf.autoLeft = false)
    ∧ (st = 4 → refused (.reqSafeHold path))
    ∧ (local_ → exec (.pairArm path) s = .next { s with bus := {}, saf.pairArmed := true })
    ∧ (¬local_ → refused (.pairArm path))
    ∧ (local_ → s.saf.pairArmed = true → st = 0 → enters (.pairCommission path) 1)
    ∧ (¬local_ ∨ s.saf.pairArmed = false ∨ st ≠ 0 → refused (.pairCommission path))
    ∧ exec .pairArmExpiry s = .next { s with saf.pairArmed := false }

/-- R65, R400, R401: an OPERATIONAL request whose conditions hold clears every PERTURB.EN and waits for the units' confirmation; with
it the entry completes, test access relocks, and DEGRADED follows at once where a cause of R413 is present; an entry whose conditions
hold no longer fails, with ERR_STATE where it was asked for; AUTO_OPER's attempt does the same as a request and sets no error bit. -/
def Obligations.OperationalEntry : Prop :=
  ∀ (path : Path) (s : State), s.runs pSAF = true → s.pwr.hold = false →
    let st := s.rd SAF.STATE
    let ready := s.on SAF.STORED_VALID = true ∧ s.rd SAF.COLOPHON_CALC = s.rd SAF.COLOPHON_STORED ∧ s.rd SAF.TRIPS_LATCH = 0
      ∧ s.saf.testsPassed = true ∧ s.on SAF.SAFEMODE = false
    let confirmed := ∀ p < 183, s.on (C.EN p) = false
    let waits := fun t => t.saf.entering = true ∧ (∀ p < 183, t.on (C.EN p) = false) ∧ t.rd SAF.STATE = st
    ((st = 0 ∨ st = 1) → ready → ∃ t, exec (.reqOperational path) s = .next t ∧ waits t ∧ t.saf.asked = true)
    ∧ (¬((st = 0 ∨ st = 1) ∧ ready) → ∃ t, exec (.reqOperational path) s = .next t ∧ t.on (C.ERR_STATE pSAF) = true
        ∧ KeepsRegs [(C.ERR_STATE pSAF).key] s t)
    ∧ (s.saf.autoTried = true → s.saf.autoLeft = true → s.on SAF.AUTO_OPER = true → (st = 0 ∨ st = 1) → s.saf.entering = false → ready →
        ∃ t, exec .autoOperRetry s = .next t ∧ waits t ∧ t.saf.asked = false)
    ∧ (s.saf.entering = true → (st = 0 ∨ st = 1) → ready → confirmed → ∃ t, exec .operationalEntryComplete s = .next t
        ∧ t.rd SAF.STATE = (if t.degCauses = 0 then 2 else 3) ∧ t.saf.entering = false ∧ t.on MON.UNLOCKED = false
        ∧ t.on SAF.INT_STATE_CHANGE = true)
    ∧ (s.saf.entering = true → ¬((st = 0 ∨ st = 1) ∧ ready ∧ confirmed) → exec .operationalEntryComplete s =
        .next { (if s.saf.asked then s.put (C.ERR_STATE pSAF) true else s) with saf.entering := false, saf.asked := false })

/-- R404, R409, R411, R413, R414, R416 to R421: what trips, outside a feed switch-over's gap (that is stated in
Obligations.SafetyClearsAndTheGap), and that a post of a folio's FAULT.SAFETY with a cause of DEGRADED present takes OPERATIONAL to
DEGRADED. -/
def Obligations.SafetyTrips : Prop :=
  ∀ (a : Bool) (fire pw n authPw authN : Nat) (noRef tokened nominal : Bool) (p : Nat) (rest : List Post) (r : SelfTestReadback)
    (s : State), s.runs pSAF = true → s.pwr.hold = false →
    let trips := fun c i => ∃ t, exec c s = .next t ∧ Trips i t
    (trips .lockstepMismatch 16) ∧ (trips .oscEdgeLoss 17)
    ∧ (∀ level, (if a then level else !level) = true → s.trip 0 = false → trips (.epermChange a level) 0)
    ∧ (s.saf.disagree = true → trips .discrepancyTick 8)
    ∧ (s.saf.contactorWait = true ∨ s.saf.contactorDiff = true → s.on SAF.CTR_FB_CLOSED ≠ s.on SAF.CTR_EN → trips .contactorTimeout 9)
    ∧ (s.rd SAF.STATE = 3 → s.rd SAF.DEG_MAX ≠ 0 → trips .degMaxExpiry 20)
    ∧ ((emitting (s.rd SAF.STATE) && s.inShot) = false →
        (r.gateOk && r.permitOk && r.ctrEnOk && r.oscillatorOk && s.watchAgree) = false → trips (.selfTest r) 18)
    ∧ ((emitting (s.rd SAF.STATE) && s.inShot) = false →
        (r.gateOk && r.permitOk && r.ctrEnOk && r.oscillatorOk && s.watchAgree) = true →
        exec (.selfTest r) s = .next { s with saf.testsPassed := true })
    ∧ (s.saf.posts = .fireReport fire pw n authPw authN noRef tokened nominal :: rest →
        (fire = 0 ∨ fire = 2) → (tokened = false ∨ authPw < pw ∨ authN < n) → trips .safetyFaultPost 11)
    ∧ (s.saf.posts = .fireReport 0 pw n authPw authN true tokened false :: rest → s.rd SAF.NOREF_TRIP ≤ s.saf.norefRun + 1 →
        trips .safetyFaultPost 15)
    ∧ (s.saf.posts = .faultSafety pEMT :: rest → s.on EMT.FAULT_MPD_EXTRA = true → s.trip 12 = false → trips .safetyFaultPost 12)
    ∧ (s.saf.posts = .faultSafety pEMT :: rest → s.on EMT.FAULT_TOKEN_TAG = true → s.trip 13 = false → trips .safetyFaultPost 13)
    ∧ (s.saf.posts = .faultSafety p :: rest → p ≠ pEMT → s.rd SAF.STATE = 2 → s.degCauses ≠ 0 →
        ∃ t, exec .safetyFaultPost s = .next t ∧ t.rd SAF.STATE = 3 ∧ t.saf.posts = rest)

/-- R404, R405, R409, R416, R418, R420, R446, R447: what clears. Each latching trip that a write names clears where its rule is met, and
only those; the latch clears between shots once no cause of R404 remains; a permit channel that has been stable shows its level and lets
PERMIT go once both permit; the contactor feedback is read with its polarity; a bucket of a window ends for every string. In the gap of
a feed switch-over the sentinel's timers and its logic stand still; a permit input that inhibits sets no trip bit yet; a request waits;
at the end of the gap every trip bit that waits sets, and what the crossings have kept arrives in order. -/
def Obligations.SafetyClearsAndTheGap : Prop :=
  (∀ (path : Path) (value : Word) (level second : Bool) (s : State), s.runs pSAF = true → s.pwr.hold = false →
    (∃ t, exec (.tripsLatchClear path value) s = .next t
      ∧ ∀ i, 8 ≤ i → i < 32 → t.trip i = (s.trip i && !(value.getLsbD i && s.tripClears i)))
    ∧ (s.acq.shot = none → s.rd SAF.TRIPS_HOLD = 0 → s.rd SAF.TRIPS_LATCH = 0 → (s.rd SAF.STATE = 1 ∨ s.rd SAF.STATE = 2 ∨ s.rd SAF.STATE = 3) →
        exec .inhibitLatchClear s = .next (s.put SAF.ST_INHIBIT false))
    ∧ (s.acq.shot ≠ none ∨ s.rd SAF.TRIPS_HOLD ≠ 0 ∨ s.rd SAF.TRIPS_LATCH ≠ 0 ∨ s.rd SAF.STATE = 0 ∨ s.rd SAF.STATE = 4 →
        exec .inhibitLatchClear s = .next s)
    ∧ (s.saf.rawA = level → ∃ t, exec (.permitFilterSettled .epermA level) s = .next t ∧ t.on SAF.EPERM_A_OK = level
        ∧ (level = true → s.on SAF.EPERM_B_OK = true → s.saf.rawB = false → t.trip 0 = false))
    ∧ (s.saf.rawB = level → ∃ t, exec (.permitFilterSettled .epermB level) s = .next t ∧ t.on SAF.EPERM_B_OK = !level
        ∧ (level = false → s.on SAF.EPERM_A_OK = true → s.saf.rawA = true → t.trip 0 = false))
    ∧ (∃ t, exec (.permitFilterSettled .ctrFb level) s = .next t ∧ t.on SAF.CTR_FB_CLOSED = (level != s.on SAF.CTR_FB_POL))
    ∧ (∃ t, exec (.energyBucketAdvance second) s = .next t
        ∧ (∀ st < 8, buckets (if second then t.saf.w2 else t.saf.w1) st =
            0 :: (buckets (if second then s.saf.w2 else s.saf.w1) st).take 15)
        ∧ (if second then t.saf.w1 = s.saf.w1 else t.saf.w2 = s.saf.w2)
        ∧ KeepsRegs [SAF.Q_W1_NOW.key, SAF.Q_W2_NOW.key] s t))
  ∧ (∀ (path : Path) (r : SelfTestReadback) (second : Bool) (s : State), s.pwr.hold = true →
    (∀ c ∈ ([.lockstepMismatch, .oscEdgeLoss, .discrepancyTick, .contactorTimeout, .degMaxExpiry, .selfTest r, .safetyFaultPost,
        .pairArmExpiry, .autoOperRetry, .operationalEntryComplete, .energyBucketAdvance second, .colophonRecompute, .colophonStored] :
        List Instr), exec c s = .next s)
    ∧ (s.runs pSAF = true → s.saf.rawA = true → s.trip 0 = false → exec (.epermChange false false) s =
        .next { s with saf.rawA := false, saf.gapTrips := withBit s.saf.gapTrips 0 true })
    ∧ exec (.reqInit path) s = .next { s with bus := {}, pwr.held := s.pwr.held ++ [.write path pSAF 0x40 2] }
    ∧ (∃ u, exec .holdRelease s = .next ((s.pwr.held.foldl State.runHeld u).safOutputs) ∧ u.pwr.hold = false ∧ u.pwr.held = []
        ∧ ∀ i < 24, bit s.saf.gapTrips i = true → u.trip i = true))

/-- R419, R422 to R424, R509: the colophon. Its check value is SHAKE256 over the image, shown in COLOPHON_CALC, and a mismatch trips in
OPERATIONAL and DEGRADED; a confirmation with that value in COMMISSION is accepted, with another sets ERR_VALUE, and while NVS_OK reads
0, outside COMMISSION, or over the link or Carrel sets ERR_STATE; its storing shows it as the stored value and writes the safety record
and its copy; the record is read once after a COLD reset, and PROX_FAILSAFE takes its value unless a commit has applied; a record that
differs from its copy is not valid. -/
def Obligations.ColophonRule : Prop :=
  ∀ (path : Path) (value v : Word) (failsafe : Bool) (s : State), s.runs pSAF = true → s.pwr.hold = false →
    (∃ t, exec .colophonRecompute s = .next t ∧ t.rd SAF.COLOPHON_CALC = ofLeBytes (shake256 (colophonImage s.rd) 4)
      ∧ (s.rd SAF.STATE = 2 ∨ s.rd SAF.STATE = 3 → ofLeBytes (shake256 (colophonImage s.rd) 4) ≠ s.rd SAF.COLOPHON_STORED → Trips 19 t))
    ∧ (s.rd SAF.STATE = 1 → (path = .host ∨ path = .spi) → s.on WATCH.ST_NVS_OK = true →
        (value.toNat = s.rd SAF.COLOPHON_CALC → exec (.colophonConfirm path value) s =
          .next { s with bus := {}, saf.confirm := some (value, s.on SAF.PROX_FAILSAFE) })
        ∧ (value.toNat ≠ s.rd SAF.COLOPHON_CALC → exec (.colophonConfirm path value) s =
          .next ({ s with bus := {} }.put (C.ERR_VALUE pSAF) true)))
    ∧ (s.rd SAF.STATE = 1 → (path = .host ∨ path = .spi) → s.on WATCH.ST_NVS_OK = false → exec (.colophonConfirm path value) s =
          .next (State.put (State.nvsBlocked { s with bus := {} }) (C.ERR_STATE pSAF) true))
    ∧ (s.rd SAF.STATE ≠ 1 ∨ path = .link ∨ path = .mon → exec (.colophonConfirm path value) s =
          .next ({ s with bus := {} }.put (C.ERR_STATE pSAF) true))
    ∧ (s.saf.confirm = some (v, failsafe) → ∃ t, exec .colophonStored s = .next t ∧ t.rd SAF.COLOPHON_STORED = v.toNat
        ∧ t.on SAF.STORED_VALID = true ∧ t.on SAF.INT_STORED = true
        ∧ KeepsRegs [SAF.COLOPHON_STORED.key, SAF.STORED_VALID.key, SAF.INT_STORED.key] s t
        ∧ t = { s with
            regs.cur := t.regs.cur, saf.confirm := none, nvs.safetyRecord := some (v, failsafe), nvs.safetyCopy := some (v, failsafe) })
    ∧ (s.saf.recordLoaded = false → s.runs pNVS = true → s.nvs.safetyRecord = some (v, failsafe) →
        (s.nvs.safetyCopy = some (v, failsafe) → ∃ t, exec .safetyRecordLoad s = .next t ∧ t.saf.recordLoaded = true
          ∧ t.saf.failsafeKnown = true ∧ t.rd SAF.COLOPHON_STORED = v.toNat ∧ t.on SAF.STORED_VALID = true
          ∧ (s.saf.committed = false → t.on SAF.PROX_FAILSAFE = failsafe)
          ∧ (s.saf.committed = true → t.rd SAF.PROX_FAILSAFE = s.rd SAF.PROX_FAILSAFE))
        ∧ (s.nvs.safetyCopy ≠ some (v, failsafe) → exec .safetyRecordLoad s = .next { s with saf.recordLoaded := true }))

/-! ### Detector tier and time-to-digital conversion (spec/04, spec/05) -/

/-- R99 to R101, R110, R120, R130 to R133, R155 to R157: an avalanche of an enabled, ready SPAD in the armed interval joins the
coincidence gate, and the gate emits an event at the k-th distinct SPAD within COINC_WIN, unless VSPAD is lost or the window has opened
on a halted section; an event in the window that no dead time, pile-up or error takes away is recorded: its code joins the channel's
list, and its histogram byte in the stacks counts. From the 65th event on the channel counts and raises PILEUP; an event whose buffer
entry has more than one bad bit is discarded, counted, and makes the channel invalid for the shot. -/
def Obligations.EventsAreGatedAndRecorded : Prop :=
  ∀ (ch : Fin 528) (spad : Fin 12) (code : BitVec 18) (entry histogram : Ecc) (sh : Shot) (c r : Nat) (rest : List (Nat × Nat)) (s : State),
    s.acq.shot = some sh →
    let j := ch.val / 48
    let g := s.chan ch
    let waiting := (g.gate.filter fun e => 5 * (code.toNat - e.2) ≤ 32 * (2 + s.rd (DET.WIN j)) && e.1 != spad.val) ++ [(spad.val, code.toNat)]
    (sh.openCode ≤ code.toNat + 2560 → code.toNat < sh.closeCode → s.runs (pDet j) = true → bit (s.spadsOn ch) spad = true →
      (∀ e ∈ g.fired, e.1 ≠ spad.val) →
      ∃ t, exec (.spadAvalanche ch spad code) s = .next t
        ∧ (t.chan ch).gate = (if s.kInForce ch ≤ waiting.length then [] else waiting)
        ∧ (∀ o, o ≠ ch.val → t.chan o = s.chan o)
        ∧ t.det.flight = (if s.kInForce ch ≤ waiting.length ∧ (s.section_ j).lost = false
              ∧ ¬(sh.windowOpen = true ∧ (s.section_ j).haltedAtOpen = true)
            then s.det.flight ++ [(ch.val, code.toNat)] else s.det.flight)
        ∧ t = { s with det := t.det })
    ∧ (s.det.flight = (c, r) :: rest → sh.openCode ≤ r → r < sh.closeCode → (s.bank (c / 16)).open_ = true →
        (s.bank (c / 16)).invalid = false → (s.events c).lastCode = none → (s.events c).codes.length < 64 → entry ≠ .double →
        ∃ t, exec (.eventDelivery entry histogram) s = .next t ∧ t.det.flight = rest ∧ (t.events c).codes = (s.events c).codes ++ [r]
          ∧ (t.events c).lastCode = some r
          ∧ (∀ slot, histogram = .clean → s.slotOf c = some slot → s.runs (pSbank (slot % 16)) = true → bit sh.reduce 2 = true →
              bit sh.reduce 1 = false →
              let bin := 0x210000 * (sh.seq.toNat % 2) + 0x1000 * slot + 0x200 + (r - sh.openCode) / 2 ^ (5 + sh.binsel)
              ∀ a, t.stackMem.read a = if a = bin then s.stackMem.read bin + 1 else s.stackMem.read a))
    ∧ (s.det.flight = (c, r) :: rest → sh.openCode ≤ r → r < sh.closeCode → (s.bank (c / 16)).open_ = true →
        (s.bank (c / 16)).invalid = false → (s.events c).lastCode = none → (s.events c).codes.length < 64 →
        ∃ t, exec (.eventDelivery .double histogram) s = .next t ∧ t.det.flight = rest ∧ (t.events c).codes = (s.events c).codes
          ∧ (t.events c).lost = true ∧ t.rd (BANK.ECC_EVENTS (c / 16)) = min (s.rd (BANK.ECC_EVENTS (c / 16)) + 1) 65535
          ∧ t.stackMem = s.stackMem)
    ∧ (s.det.flight = (c, r) :: rest → sh.openCode ≤ r → r < sh.closeCode → (s.bank (c / 16)).open_ = true →
        (s.bank (c / 16)).invalid = false → (s.events c).lastCode = none → 64 ≤ (s.events c).codes.length →
        ∃ t, exec (.eventDelivery entry histogram) s = .next t ∧ t.det.flight = rest ∧ (t.events c).codes = (s.events c).codes
          ∧ (t.events c).ovf = min 4095 ((s.events c).ovf + 1) ∧ t.stackMem = s.stackMem ∧ t.on (BANK.INT_PILEUP (c / 16)) = true)

/-- R107, R110, R111, R114: a write of HOT_MASK clears the bits written as 1 and no other; three housekeeping rounds without an accepted
reading of VSPAD put every trim of a running section to 511 and set FAULT.VSPAD; a dwell pair with fewer than 64 counts, or not more in
A than in B, or, after 16 accepted pairs, more than 500 mV from the drift, is rejected and leaves the drift; any other pair is accepted
and moves the drift by R111, with VSPAD's mean of its accepted readings in the bias (quotients by log 8),
shows it where 16 bits hold it, and warns from 400 mV and faults from 800 mV on; the counts show either way. -/
def Obligations.BiasTracking : Prop :=
  ∀ (path : Path) (j : Fin 11) (i : Fin 48) (value : Word) (ca cb : Nat) (temp model : Int) (s : State),
    (s.runs (pDet j) = true → ∃ t, exec (.hotMaskClear path j i value) s = .next t
      ∧ (∀ b < 12, bit (t.rd (DET.HOT_MASK j i)) b = (bit (s.rd (DET.HOT_MASK j i)) b && !value.getLsbD (20 + b)))
      ∧ KeepsRegs [(DET.HOT_MASK j i).key] s t ∧ t = { s with bus := {}, regs.cur := t.regs.cur })
    ∧ (∃ t, exec .vspadLost s = .next t ∧ ∀ k < 11, s.runs (pDet k) = true → 3 ≤ (s.section_ k).vspadMiss →
        t.rd (DET.TRIM k) = 511 ∧ t.on (DET.FAULT_VSPAD k) = true ∧ (t.section_ k).lost = true)
    ∧ (s.reading j = some temp → s.vbdModel j temp = some model → s.runs (pDet j) = true → s.on (DET.TRACK j) = true →
        let x := s.section_ j
        let va2 : Int := 2 * vspadMean x.vspad - 25 * (s.rd (DET.TRIM j) : Int)
        let dv2 : Int := 50 * (s.rd (DET.REF_DROP j) : Int)
        let vbd2 := va2 - dv2 - openDiv (dv2 * cb) ((ca : Int) - cb)
        let d := openDiv (vbd2 - 2 * model) 2
        let drift := x.drift + openDiv (d - x.drift) ((2 ^ s.rd (DET.AVG_SHIFT j) : Nat) : Int)
        let shown := fun t => t.rd (DET.REF_CNT_A j) = min ca 65535 ∧ t.rd (DET.REF_CNT_B j) = min cb 65535
        ((ca < 64 ∨ ca ≤ cb) ∨ (x.vspad ≠ [] ∧ x.lost = false ∧ 500 < (d - x.drift).natAbs ∧ 16 ≤ x.pairs) →
          ∃ t, exec (.trackPairDone j ca cb) s = .next t ∧ t.rd (DET.DRIFT j) = s.rd (DET.DRIFT j)
            ∧ t.on (DET.INT_TRACK_REJECT j) = true ∧ shown t
            ∧ t.section_ j = { x with rejects := x.rejects + 1 }
            ∧ (8 ≤ x.rejects + 1 → t.on (C.FAULT (pDet j) 2) = true))
        ∧ (64 ≤ ca → cb < ca → x.vspad ≠ [] → x.lost = false → (d - x.drift).natAbs ≤ 500 ∨ x.pairs < 16 →
          ∃ t, exec (.trackPairDone j ca cb) s = .next t ∧ shown t
            ∧ t.section_ j = { x with pairs := x.pairs + 1, rejects := 0, drift := drift }
            ∧ (-32768 ≤ drift → drift ≤ 32767 → t.rdI (DET.DRIFT j) = drift)
            ∧ (400 ≤ drift.natAbs → t.on (DET.INT_DRIFT_WARN j) = true)
            ∧ (800 ≤ drift.natAbs → t.on (C.FAULT (pDet j) 1) = true)))

/-- R125, R131, R134, R136 to R138: a loop that locks or loses lock shows it, one that locks again raises DLL_RELOCK, and a lost one
raises DLL_UNLOCK with FAULT.DLL and makes the open window's shot invalid; a full tap histogram with an empty or a wide bin marks the
channel and raises TAP_FAULT with FAULT.TAP; an edge of a TIM input in interval mode joins the shot's stamps or, from the 17th on,
counts, and one within 1.5 ns of the last is ignored; an edge in frequency mode ends the gate's measurement anew; a gate with two edges
or more shows COUNT, ELAPSED and the rounded frequency (by log 8 where it lies half-way) as valid, and OUT_RANGE tells whether it lies
outside FMIN to FMAX; a gate with fewer shows NO_SIGNAL, and so does an input without an edge for its timeout, which raises TIMEOUT and
its fault. -/
def Obligations.BanksAndTim : Prop :=
  ∀ (b : Fin 34) (n : Fin 2) (code : BitVec 32) (sh : Shot) (first : Nat) (s : State),
    let x := s.timIn n
    let k := (b : Nat)
    let stamps := s.runs pTIM = true ∧ (if s.emtOwns n then s.on TIM.ST_DLL_LOCKED = true else s.rd (TIM.MODE n) = 0)
      ∧ s.acq.shot = some sh
    let near := fun l => 10 * ((code.toNat + 2 ^ 32 - l) % 2 ^ 32) ≤ 384
    (k ≠ 33 → s.runs (pBank k) = true → s.on (BANK.DLL_LOCKED k) = false → ∃ t, exec (.dllLock b) s = .next t
      ∧ t.on (BANK.DLL_LOCKED k) = true ∧ t.on (BANK.ST_DLL_LOCKED k) = true ∧ t.bank k = { s.bank k with wasLocked := true }
      ∧ ((s.bank k).wasLocked = true → t.on (BANK.INT_DLL_RELOCK k) = true))
    ∧ (k = 33 → s.runs pTIM = true → ∃ t, exec (.dllLock b) s = .next t ∧ t.on TIM.ST_DLL_LOCKED = true)
    ∧ (k ≠ 33 → s.on (BANK.DLL_LOCKED k) = true → ∃ t, exec (.dllUnlock b) s = .next t ∧ t.on (BANK.DLL_LOCKED k) = false
        ∧ t.on (BANK.ST_DLL_LOCKED k) = false ∧ t.on (BANK.INT_DLL_UNLOCK k) = true ∧ t.on (C.FAULT (pBank k) 1) = true
        ∧ ((s.bank k).open_ = true → (t.bank k).invalid = true))
    ∧ (k = 33 → s.on TIM.ST_DLL_LOCKED = true → ∃ t, exec (.dllUnlock b) s = .next t ∧ t.on TIM.ST_DLL_LOCKED = false
        ∧ t.on (C.FAULT pTIM 4) = true)
    ∧ (∀ c : Fin 33, 16384 ≤ s.rd (BANK.HIST_N c) →
        let dead := ∃ f < 32, s.rd (BANK.TAP_HIST c f) = 0
        let wide := ∃ f < 32, 1536 < s.rd (BANK.TAP_HIST c f)
        ∃ t, exec (.tapHistCheck c) s = .next t
          ∧ (t.on (BANK.TAP_DEAD c (s.rd (BANK.HIST_CH c))) = true ↔ dead) ∧ (t.on (BANK.TAP_WIDE c (s.rd (BANK.HIST_CH c))) = true ↔ wide)
          ∧ (dead ∨ wide → t.on (BANK.INT_TAP_FAULT c) = true ∧ t.on (C.FAULT (pBank c) 2) = true)
          ∧ (¬dead → ¬wide → KeepsRegs [(BANK.TAP_DEAD c (s.rd (BANK.HIST_CH c))).key, (BANK.TAP_WIDE c (s.rd (BANK.HIST_CH c))).key] s t))
    ∧ (stamps → (∀ l, x.lastCode = some l → ¬near l) → ∃ t, exec (.timEdge n code) s = .next t
        ∧ (x.edges.length < 16 → t.timIn n = { x with lastCode := some code.toNat, edges := x.edges ++ [code.toNat % 2 ^ 18] })
        ∧ (16 ≤ x.edges.length → t.timIn n = { x with lastCode := some code.toNat, ovf := min 65535 (x.ovf + 1) })
        ∧ t.on (TIM.NO_SIGNAL n) = false)
    ∧ (∀ l, x.lastCode = some l → near l → exec (.timEdge n code) s = .next s)
    ∧ (s.runs pTIM = true → s.emtOwns n = false → s.rd (TIM.MODE n) = 1 → (∀ l, x.lastCode = some l → ¬near l) →
        ∃ t, exec (.timEdge n code) s = .next t ∧ t.on (TIM.NO_SIGNAL n) = false ∧ KeepsRegs [(TIM.NO_SIGNAL n).key] s t
          ∧ t.timIn n = { x with
              lastCode := some code.toNat, gateFirst := some (x.gateFirst.getD code.toNat), gateLast := code.toNat
              gateCount := x.gateCount + 1 })
    ∧ (s.runs pTIM = true → s.emtOwns n = false → s.rd (TIM.MODE n) = 1 → x.gateFirst = some first → 2 ≤ x.gateCount →
        let elapsed : Nat := (x.gateLast + 2 ^ 32 - first) % 2 ^ 32
        let freq := (nearest (((x.gateCount - 1) * 2 ^ s.rd (TIM.PRESC n) * 25600000000 : Nat) : Int) (elapsed : Int)).toNat
        ∃ t, exec (.timGateClose n) s = .next t ∧ t.rd (TIM.COUNT n) = (x.gateCount - 1) % 2 ^ 32
          ∧ t.rd (TIM.ELAPSED n) = elapsed ∧ t.rd (TIM.FREQ n) = freq % 2 ^ 32 ∧ t.on (TIM.VALID n) = true
          ∧ t.on (if (n : Nat) = 0 then TIM.INT_TIM0_RESULT else TIM.INT_TIM1_RESULT) = true
          ∧ (t.on (TIM.OUT_RANGE n) = true ↔ freq < s.rd (TIM.FMIN n) ∨ s.rd (TIM.FMAX n) < freq)
          ∧ (freq < s.rd (TIM.FMIN n) ∨ s.rd (TIM.FMAX n) < freq → t.on (C.FAULT pTIM (2 * (n : Nat) + 1)) = true
              ∧ t.on (if (n : Nat) = 0 then TIM.INT_TIM0_RANGE else TIM.INT_TIM1_RANGE) = true)
          ∧ t.timIn n = { x with gateFirst := none, gateLast := 0, gateCount := 0 })
    ∧ (s.runs pTIM = true → s.emtOwns n = false → s.rd (TIM.MODE n) = 1 → (x.gateFirst = none ∨ x.gateCount < 2) →
        ∃ t, exec (.timGateClose n) s = .next t ∧ t.on (TIM.NO_SIGNAL n) = true ∧ KeepsRegs [(TIM.NO_SIGNAL n).key] s t)
    ∧ (s.runs pTIM = true → s.emtOwns n = false → s.rd (TIM.MODE n) ≠ 2 → s.rd (TIM.TIMEOUT n) ≠ 0 →
        ∃ t, exec (.timTimeout n) s = .next t ∧ t.on (TIM.NO_SIGNAL n) = true
          ∧ t.on (if (n : Nat) = 0 then TIM.INT_TIM0_TIMEOUT else TIM.INT_TIM1_TIMEOUT) = true
          ∧ t.on (C.FAULT pTIM (2 * (n : Nat))) = true)

/-- R81, R82, R434, R435: LOAD checks the image that has been written, 212 bytes for EMT and 100 for LMP, by the rows of R81 and R434
and the check value. One that passes is staged for the next commit and shown valid; one that fails leaves what is staged and in force,
and shows the offset of its first failing byte; EMT also raises FAULT.BINS_BAD. An image that passes begins with its magic bytes and
counts, and ends with SHAKE256 over the bytes before. -/
def Obligations.BinImagesLoad : Prop :=
  ∀ (path : Path) (value : Word) (s : State), value.getLsbD 31 = true →
    let emt := (List.range 212).map fun b => s.rdS (EMT.BIN_IMAGE b)
    let lmp := (List.range 100).map fun b => s.rdS (LMP.BIN_IMAGE b)
    let sum := fun l : List Nat => (shake256 (l.map (BitVec.ofNat 8)) 4).map BitVec.toNat
    (binsFail emt = none → emt.take 7 = [0x48, 0x4A, 0x45, 0x42, 1, 8, 16] ∧ (emt.drop 0xD0).take 4 = sum (emt.take 0xD0))
    ∧ (lampBinsFail lmp = none → lmp.take 7 = [0x48, 0x4A, 0x4C, 0x42, 1, 4, 16] ∧ (lmp.drop 0x60).take 4 = sum (lmp.take 0x60))
    ∧ (s.runs pEMT = true →
      (binsFail emt = none → ∃ t, exec (.emtLoad path value) s = .next t ∧ t.emt = { s.emt with stagedImage := some emt }
        ∧ t.on EMT.BINS_VALID = true ∧ t.on EMT.ST_BINS_VALID = true ∧ t.on EMT.BINS_BAD = false ∧ t.on EMT.INT_BINS_LOADED = true)
      ∧ (∀ o, binsFail emt = some o → ∃ t, exec (.emtLoad path value) s = .next t ∧ t.emt = s.emt ∧ t.on EMT.BINS_BAD = true
        ∧ t.rd EMT.BAD_OFFSET = o % 2 ^ 8 ∧ t.on EMT.INT_BINS_BAD = true ∧ t.on (C.FAULT pEMT 3) = true))
    ∧ (s.runs pLMP = true →
      (lampBinsFail lmp = none → ∃ t, exec (.lmpLoad path value) s = .next t ∧ t.lmp = { s.lmp with stagedImage := some lmp }
        ∧ t.on LMP.BINS_VALID = true ∧ t.on LMP.ST_BINS_VALID = true ∧ t.on LMP.BINS_BAD = false ∧ t.on LMP.INT_BINS_LOADED = true)
      ∧ (∀ o, lampBinsFail lmp = some o → ∃ t, exec (.lmpLoad path value) s = .next t ∧ t.lmp = s.lmp ∧ t.on LMP.BINS_BAD = true
        ∧ t.rd LMP.BAD_OFFSET = o % 2 ^ 8 ∧ t.on LMP.INT_BINS_BAD = true))

/-! ### Scan control (spec/11_scan_control.md) -/

/-- R311, R312, R314, R315, R325: a mirror sample. With the loop open the drive steps toward PARK_OUT by at most PARK_SLEW and OUT
shows it. With the loop closed at rest in PARK, a feedback code in range gives the drive code of R314 or, outside OUT_MIN to OUT_MAX,
its clamp with the integrator kept and SAT raised; a second sample without feedback opens the loop with cause LOST_SAMPLE. The
frame strobe schedules a sweep from the frame delay, at a phase of the sample period that is free (log 7). -/
def Obligations.MirrorSample : Prop :=
  ∀ (y : Int) (s : State), s.runs pSCN = true →
    let clamp16 := fun x : Int => max (-32768) (min 32767 x)
    let k := s.coeff
    let step := fun t : State => max (-(t.rd SCN.PARK_SLEW : Int)) (min (t.rd SCN.PARK_SLEW : Int) (t.rdI SCN.PARK_OUT - s.scn.drive))
    (s.closed = false → s.rd SCN.PHASE = 7 → s.scn.restart = false → ∃ t, exec .mirrorSample s = .next t ∧ t.closed = false
      ∧ t.scn.drive = s.scn.drive + step t ∧ t.rd SCN.OUT = ofSigned 16 t.scn.drive ∧ t.scn.conv = [])
    ∧ (s.closed = true → s.scn.conv = [] → 1 ≤ s.scn.missed → ∃ t, exec .mirrorSample s = .next t ∧ t.closed = false
      ∧ t.rd SCN.PHASE = 7 ∧ t.rd SCN.STOP_CAUSE = 2 ∧ t.on SCN.INT_STOPPED = true ∧ t.on (C.FAULT pSCN 1) = true
      ∧ t.scn.drive = s.scn.drive + step t ∧ t.scn.integ = s.scn.integ ∧ t.scn.d = s.scn.d)
    ∧ (s.closed = true → s.rd SCN.MODE = 1 → s.rd SCN.PHASE = 1 → (∀ f ∈ fieldsOf pSCN .rwl, s.rdS f = s.rd f) →
      s.scn.conv = [(y, false)] → s.rdI SCN.FB_MIN ≤ y → y ≤ s.rdI SCN.FB_MAX → s.scn.tau = none → s.scn.y1 = none →
      s.scn.frozenBase = none → s.scn.pEff = s.rdI SCN.PARK_POS * 65536 → s.scn.vEff = 0 →
      let e := clamp16 (s.rdI SCN.PARK_POS - y)
      let d := clamp16 (acc40 [k SCN.DF * s.scn.d, k SCN.KD * clamp16 (e - s.scn.ePrev)] / 2 ^ 15)
      let base := acc40 [k SCN.KP * e, d * 2 ^ 15]
      let tried := acc40 [s.scn.integ, k SCN.KI * e]
      let shift := 15 - s.rd (SCN.OUT_SHIFT (s.rd SCN.BANK_SEL))
      let u := acc40 [base, tried] / 2 ^ shift
      let lo := s.rdI SCN.OUT_MIN
      let hi := s.rdI SCN.OUT_MAX
      ∃ t, exec .mirrorSample s = .next t ∧ t.closed = true ∧ t.scn.d = d ∧ t.scn.ePrev = e ∧ t.scn.pEff = s.scn.pEff
        ∧ (lo ≤ u → u ≤ hi → t.scn.drive = u ∧ t.scn.integ = tried ∧ t.on SCN.ST_SAT = false ∧ t.rd SCN.SAT_CNT = s.rd SCN.SAT_CNT)
        ∧ (u < lo ∨ hi < u → lo ≤ hi → t.scn.drive = max lo (min hi (acc40 [base, s.scn.integ] / 2 ^ shift)) ∧ t.scn.integ = s.scn.integ
            ∧ t.on SCN.ST_SAT = true ∧ t.on SCN.INT_SAT = true ∧ t.rd SCN.SAT_CNT = min (s.rd SCN.SAT_CNT + 1) 65535))
    ∧ (s.closed = true → s.rd SCN.MODE = 3 → s.acq.frame ≠ none → 0 < s.rd SCN.LOOP_DIV →
      ∃ n, n < s.rd SCN.LOOP_DIV ∧ exec .frameStartStrobe s = .next { s with
        free := s.free + 1, scn.vs := s.velocity
        scn.tau := some ((n : Int) - 200 * s.rd ACQ.FRAME_DELAY - s.rd SCN.LOOP_DIV) })

/-- R317, R328 to R330, R332 to R335, R447: RESTART is accepted where the loop may close, which ends IMPLAUSIBLE, and waits for the next
sample; it sets ERR_STATE where it may not; a coefficient word of a bank is taken unless the loop is closed on that bank, then ERR_BUSY;
SAF reads the mirror state that SCN shows, trips SCAN_IMPLAUSIBLE or SCAN_STOPPED and clears the latter, and a crossing keeps the state
in a feed switch-over's gap; a lost heartbeat reads as stopped; a heater sample on the newest result of the slot that has reached SCN
computes the duty of R333; a result that is open or out of range, or none new in three samples, turns the heater off with its fault,
and so does the fourth reading in a row above HTR_TMAX; the PWM period takes the newest duty while the heater runs, and 0 else. -/
def Obligations.MirrorCommandsAndHeater : Prop :=
  ∀ (path : Path) (value : Word) (bank : Fin 2) (r : HkResult) (s : State),
    let b := (bank : Nat)
    let slot := s.rd SCN.HTR_SLOT
    let temp := r.value
    let hi16 := value.toNat / 2 ^ 16
    let lo16 := value.toNat % 2 ^ 16
    let may := s.rd SCN.PHASE = 7 ∧ s.scn.drive = s.rdI SCN.PARK_OUT ∧ s.on (C.HALTED pSCN) = false ∧ s.rd SCN.MODE ≠ 0 ∧ s.scn.lostFor = 0
    let heats := s.on SCN.HTR_EN = true ∧ s.on (C.HALTED pSCN) = false
    (s.runs pSCN = true → value.getLsbD 28 = true →
      (may → ∃ t, exec (.restart path value) s = .next t ∧ t.scn = { s.scn with restart := true, implausible := false }
        ∧ KeepsRegs [(C.ERR_VALUE pSCN).key, (C.ERR_BUSY pSCN).key] s t)
      ∧ (¬may → ∃ t, exec (.restart path value) s = .next t ∧ t.scn = s.scn ∧ t.on (C.ERR_STATE pSCN) = true))
    ∧ (s.runs pSCN = true → s.closed = false ∨ (s.rd SCN.BANK_SEL ≠ b ∧ s.rdS SCN.BANK_SEL ≠ b) →
      (∀ w ∈ ([(0, SCN.KP b, SCN.KI b), (1, SCN.KD b, SCN.DF b), (2, SCN.KFV b, SCN.KFA b)] : List (Fin 4 × Fld × Fld)),
        ∃ t, exec (.coeffWrite path bank w.1 value) s = .next t ∧ t.rd w.2.1 = hi16 ∧ t.rd w.2.2 = lo16
          ∧ KeepsRegs [w.2.1.key, w.2.2.key] s t)
      ∧ (∃ t, exec (.coeffWrite path bank 3 value) s = .next t ∧ t.rd (SCN.OUT_SHIFT b) = value.toNat % 2 ^ 3
        ∧ KeepsRegs [(SCN.OUT_SHIFT b).key] s t))
    ∧ (s.runs pSCN = true → s.closed = true → s.rd SCN.BANK_SEL = b ∨ s.rdS SCN.BANK_SEL = b → ∀ w : Fin 4,
      exec (.coeffWrite path bank w value) s = .next (s.put (C.ERR_BUSY pSCN) true).written)
    ∧ (s.runs pSCN = true → s.runs pSAF = true → s.pwr.hold = false → ∃ t, exec .mirrorStateUpdate s = .next t
        ∧ t.scn = { s.scn with safState := s.rd SCN.MIRROR_STATE, safCause := s.rd SCN.STOP_CAUSE, heartbeatLost := false }
        ∧ (s.rd SCN.MIRROR_STATE = 0 → t.trip 1 = false) ∧ (s.rd SCN.MIRROR_STATE = 1 → t.trip 1 = true ∧ (s.trip 1 = false → Trips 1 t))
        ∧ (s.rd SCN.MIRROR_STATE = 2 → t.trip 10 = true ∧ (s.trip 10 = false → Trips 10 t)))
    ∧ (s.runs pSCN = true → s.pwr.hold = true → exec .mirrorStateUpdate s =
        .next { s with pwr.held := s.pwr.held ++ [.mirror (s.rd SCN.MIRROR_STATE) (s.rd SCN.STOP_CAUSE)] })
    ∧ (s.runs pSAF = true → s.pwr.hold = false →
        ∃ t, exec .heartbeatTimeout s = .next t ∧ t.scn = { s.scn with heartbeatLost := true } ∧ t.trip 1 = true)
    ∧ (s.runs pSCN = true → heats → s.sense.results = [] → Tab.get none s.scn.results slot = some r →
      let e := max (-32768) (min 32767 (s.rdI SCN.HTR_SP - temp))
      let tried := acc40 [s.scn.hinteg, s.rdI SCN.HKI * e]
      let shift := 15 - s.rd SCN.HTR_SHIFT
      let u := acc40 [s.rdI SCN.HKP * e, tried] / 2 ^ shift
      let hi : Int := s.rd SCN.HTR_DMAX
      let heard := s.scn.fresh.contains slot = true ∨ s.scn.hSilent < 2
      let good := r.open_ = false ∧ r.unsettled = false ∧ r.blank = false ∧ r.stale = false ∧ -960 ≤ temp ∧ temp ≤ 2400
      (heard → good → temp ≤ s.rdI SCN.HTR_TMAX → s.scn.hOver = false →
        ∃ t, exec .heaterSample s = .next t ∧ t.rdI SCN.HTR_TEMP = temp ∧ KeepsRegs [SCN.HTR_TEMP.key] s t
          ∧ (0 ≤ u → u ≤ hi → t.scn.duty = u ∧ t.scn.hinteg = tried)
          ∧ (u < 0 ∨ hi < u → t.scn.duty = max 0 (min hi (acc40 [s.rdI SCN.HKP * e, s.scn.hinteg] / 2 ^ shift))
              ∧ t.scn.hinteg = s.scn.hinteg))
      ∧ (¬heard ∨ r.open_ = true ∨ temp < -960 ∨ 2400 < temp → ∃ t, exec .heaterSample s = .next t ∧ t.scn.duty = 0
          ∧ t.scn.hinteg = 0 ∧ t.scn.hFault = true ∧ t.on (C.FAULT pSCN 6) = true ∧ t.on SCN.INT_HTR_OFF = true)
      ∧ (heard → good → s.rdI SCN.HTR_TMAX < temp → 3 ≤ s.scn.hot → ∃ t, exec .heaterSample s = .next t ∧ t.scn.duty = 0
          ∧ t.scn.hOver = true ∧ t.on (C.FAULT pSCN 5) = true ∧ t.on SCN.INT_HTR_OFF = true))
    ∧ (s.runs pSCN = true → heats → exec .htrPwmPeriodStart s = .next { s.wr SCN.HTR_DUTY s.scn.duty with pins.htrPwm := s.scn.duty })
    ∧ (s.runs pSCN = false ∨ ¬heats → ∃ t, exec .htrPwmPeriodStart s = .next t ∧ t.pins.htrPwm = 0)

/-! ### Sensing and conversion, thermal management, calibration, lamps (spec/12 to 14, spec/16) -/

/-- R340 to R345, R348 to R350, R352 to R356, R379: START begins the rounds at slot 0 and STOP is kept for the round's end, or refused
in OPERATIONAL and DEGRADED; a slot's period takes the slot's written words into force and clears its codes, its filter starts afresh
where the change restarts it or a thermometer's XREF_RES has changed, and only there, and BLANK waits where the excitation switches; the
first period of a round takes the slot period in force and a calibration round that was asked for; a conversion is clamped to its
input's range and marked, and in the first five slots of a calibration round the code of the shorted input is kept as it is; the
period's end moves to the next slot and gives the output a new SEQ and a place in the housekeeping-results queue: the mean of the window,
or, of an over-range period, the last VALUE with OVR and UNSETTLED; offsets that a calibration round has measured come into force with
its end; clamps and open circuits are latched; a code of the mirror converter waits for the mirror sample and a missing one sets its
fault; CAL's request for a round is noted unless THM measures fast or CVH_PERIOD is 0. -/
def Obligations.HousekeepingRounds : Prop :=
  ∀ (path : Path) (value : Word) (sensors : List (BitVec 16)) (code : Int) (outside : Bool) (pin : Fin 12) (s : State),
    let k := s.sense.slot
    let x := s.slot k
    let start := exec (.start path value) s
    let stop := exec (.stop path value) s
    let switches := [AFE.WIRES k, AFE.PIN_P k, AFE.PIN_Q k, AFE.PIN_S k, AFE.IEXC k]
    let cuts := [FLT.INPUT k, FLT.DIFF k, FLT.LEN k, AFE.GAIN k] ++ switches
    (s.runs pCONVH = true → s.on CONVH.ST_RUNNING = false → value.getLsbD 31 = true → ∃ t, start = .next t
      ∧ t.on CONVH.ST_RUNNING = true ∧ t.sense = { s.sense with slot := 0, inPeriod := false, stopAsked := false })
    ∧ (s.runs pCONVH = true → s.on CONVH.ST_RUNNING = true → value.getLsbD 30 = true →
      (s.operating = true → ∃ t, stop = .next t ∧ t.on (C.ERR_STATE pCONVH) = true ∧ t.sense = s.sense)
      ∧ (s.operating = false → ∃ t, stop = .next t ∧ t.sense = { s.sense with stopAsked := true } ∧ t.on CONVH.ST_RUNNING = true))
    ∧ (sensors.length = 24 → s.periodDue = true → ∃ t, exec (.slotPeriodStart sensors) s = .next t ∧ t.sense.inPeriod = true
      ∧ t.sense.slot = k ∧ t.sense.clamped = [] ∧ (t.slot k).codes = [] ∧ (t.slot k).ovr = false ∧ (t.slot k).open_ = false
      ∧ (k < 16 →
        let restart := (s.rdS (FLT.EN k) = 1 ∧ s.rd (FLT.EN k) = 0) ∨ (∃ f ∈ cuts, s.rdS f ≠ s.rd f)
          ∨ (t.rd (FLT.INPUT k) = 12 ∧ x.xref ≠ t.rd AFE.XREF_RES)
        (∀ f ∈ AFE.XREF_RES :: slotFields k, t.rd f % 2 ^ f.width = s.rdS f % 2 ^ f.width)
        ∧ (restart → (t.slot k).count = some 0 ∧ (t.slot k).window = [])
        ∧ (¬restart → (t.slot k).count = x.count ∧ (t.slot k).window = x.window)
        ∧ ((t.slot k).blank = true ↔ x.blank = true ∨ ∃ f ∈ switches, s.rdS f ≠ s.rd f))
      ∧ (k = 0 → t.sense.fast = t.on CONVH.ST_FAST ∧ t.sense.calRound = (s.sense.calAsked && !t.sense.fast)
        ∧ t.sense.period = if t.sense.fast then min (t.rd CONVH.FAST_PER) (t.rd CONVH.SLOT_PER) else t.rd CONVH.SLOT_PER))
    ∧ (s.runs pCONVH = true → s.sense.inPeriod = true → x.codes.length < s.conversions k →
      let signed := s.rd (FLT.INPUT k) = 12 ∨ s.on (FLT.DIFF k) = true
      let gain := if s.rd (FLT.INPUT k) = 12 then s.rd (AFE.GAIN k) else 0
      let c := openDiv (16 * code - s.rdI (CAL.CVH_OFS gain)) 16
      let lo : Int := if signed then -2048 else 0
      let hi : Int := if signed then 2047 else 4095
      ∃ t, exec (.convhConversion code) s = .next t
        ∧ (s.sense.calRound = true → k < 5 → t = s.setSlot k { x with codes := x.codes ++ [code] })
        ∧ (s.sense.calRound = false ∨ 5 ≤ k → (t.slot k).codes = x.codes ++ [max lo (min hi c)]
          ∧ ((t.slot k).ovr = true ↔ x.ovr = true ∨ c < lo ∨ hi < c)))
    ∧ (s.runs pCONVH = true → s.sense.inPeriod = true → ∃ t, exec .slotPeriodEnd s = .next t ∧ t.sense.inPeriod = false
      ∧ t.sense.slot = (k + 1) % 16
      ∧ (k < 16 → s.on (FLT.EN k) = true → s.runs pFLT = true → s.sense.calRound = false → s.rd (FLT.INPUT k) < 12 →
          t.rd (FLT.SEQ k) = (s.rd (FLT.SEQ k) + 1) % 2 ^ 8
          ∧ (∃ r, t.sense.results.getLast? = some r ∧ r.slot = k ∧ r.value = t.rdI (FLT.VALUE k) ∧ r.seq = t.rd (FLT.SEQ k)
              ∧ r.ovr = t.on (FLT.OVR k) ∧ r.unsettled = t.on (FLT.UNSETTLED k))
          ∧ (x.ovr = true → t.rd (FLT.VALUE k) = s.rd (FLT.VALUE k) % 2 ^ 16 ∧ t.on (FLT.OVR k) = true ∧ t.on (FLT.UNSETTLED k) = true
              ∧ t.on FLT.INT_OVR = true ∧ (t.slot k).window = [] ∧ (t.slot k).count = some 1)
          ∧ (∀ c, x.ovr = false → x.open_ = false → x.blank = false → s.sense.clamped = [] → x.count = none → x.codes = [c] →
              s.rd (FLT.OUTFMT k) = 0 → 1 ≤ s.rd (FLT.LEN k) →
              let window := (c :: x.window).take (s.rd (FLT.LEN k))
              t.rd (FLT.VALUE k) = ofSigned 16 (nearestAway window.sum window.length) ∧ t.on (FLT.UNSETTLED k) = false
                ∧ t.on (FLT.OVR k) = false ∧ (t.slot k).window = window))
      ∧ (∀ c, s.sense.calRound = true → k < 5 → x.codes = [c] → t.sense.offsets = s.sense.offsets ++ [(k, 16 * c)])
      ∧ (∀ o, ∀ g < 5, k = 15 → s.runs pCAL = true → s.sense.offsets = [(g, o)] → t.rd (CAL.CVH_OFS g) = ofSigned 16 o
          ∧ t.sense.offsets = [] ∧ t.cal.changed = true ∧ t.on CAL.ST_SAVE_PENDING = true))
    ∧ (s.runs pAFE = true → ∃ t, exec (.clampConduction pin) s = .next t ∧ bit (t.rd AFE.CLAMP) pin = true
      ∧ (∀ b < 12, b ≠ pin → bit (t.rd AFE.CLAMP) b = bit (s.rd AFE.CLAMP) b) ∧ t.on AFE.INT_CLAMP = true
      ∧ t.on (C.FAULT pAFE 0) = true ∧ (s.sense.inPeriod = true → (pin : Nat) ∈ t.sense.clamped))
    ∧ (s.runs pAFE = true → s.sense.inPeriod = true → s.on AFE.ST_SRC_A_ON = true → k < 16 → ∃ t, exec .openDetect s = .next t
      ∧ (t.slot k).open_ = true ∧ bit (t.rd AFE.OPEN_SLOTS) k = true ∧ t.on AFE.INT_OPEN = true ∧ t.on (C.FAULT pAFE 1) = true)
    ∧ (s.runs pCONVM = true → s.on (C.HALTED pCONVM) = false →
      let beyond := code < -32768 ∨ 32767 < code ∨ outside = true
      let v := max (-32768) (min 32767 code)
      (∃ t, exec (.convmConversion (some code) outside) s = .next t ∧ t.rd CONVM.LAST_CODE = ofSigned 16 v
        ∧ (t.on CONVM.ST_OVR_LAST = true ↔ beyond) ∧ t.scn.conv = s.scn.conv ++ [(v, decide beyond)]
        ∧ (beyond → t.rd CONVM.OVR_CNT = min (s.rd CONVM.OVR_CNT + 1) 65535 ∧ t.on (C.FAULT pCONVM 0) = true))
      ∧ (∃ t, exec (.convmConversion none outside) s = .next t ∧ t.scn = s.scn ∧ t.on (C.FAULT pCONVM 1) = true
        ∧ t.rd CONVM.NO_CONV_CNT = min (s.rd CONVM.NO_CONV_CNT + 1) 65535))
    ∧ (s.runs pCAL = true → s.runs pCONVH = true → s.on CONVH.ST_RUNNING = true →
      (s.rd CAL.CVH_PERIOD ≠ 0 → s.on THM.ST_FAST = false →
        exec .cvhOffsetRound s = .next { s with sense := { s.sense with calAsked := true } })
      ∧ (s.rd CAL.CVH_PERIOD = 0 ∨ s.on THM.ST_FAST = true → exec .cvhOffsetRound s = .next s))

/-- R385, R387, R390 to R395: four readings above a threshold in a row cross it, four at or below it less HYST uncross it, and one at or
below it between restarts the count. On THM's own timer, while CONV-H's rounds are stopped, every sensor's reading is taken, or discarded
outside −60 °C to +160 °C with INT.SENSOR, and the shelf steps follow the sensors' thresholds; a derating slot that is silent for three
rounds, while they run, forces at least level 2 and sets its fault, and the level reaches its unit; the watch shows its readings,
OVERTEMP and the write window by its thresholds, counts the reads of which it had to discard all four, and trips bit 14 where OVERTEMP
appears; after three of those it counts both as crossed and left. -/
def Obligations.ThermalReadings : Prop :=
  (∀ (θ h : Int) (rs : List Int), 0 ≤ h →
    let run := fun x : Thresh => rs.foldl (fun x r => x.upper r θ h) x
    ((∀ r ∈ rs, θ < r) → (run {}).crossed = decide (4 ≤ rs.length))
      ∧ ((∀ r ∈ rs, r ≤ θ - h) → (run { crossed := true }).crossed = decide (rs.length < 4))
      ∧ ∀ (x : Thresh) (r : Int), x.crossed = false → r ≤ θ → x.upper r θ h = { x with up := 0 })
  ∧ ∀ (sensors : List (BitVec 16)) (lamp : Bool) (a b c d : BitVec 16) (s : State),
    let ok := fun r : Int => -960 ≤ r ∧ r ≤ 2560
    let level := if lamp then THM.LMP_LEVEL else THM.EMT_LEVEL
    let watched : List (Fld × BitVec 16) := [(WATCH.W_TS5, a), (WATCH.W_TS15, b), (WATCH.W_TS21, c), (WATCH.W_TS23, d)]
    let stopped := s.on CONVH.ST_RUNNING = false ∨ (s.on (C.HALTED pCONVH) = true ∧ s.sense.slot = 0 ∧ s.sense.inPeriod = false)
    (sensors.length = 24 → s.runs pTHM = true → stopped → ∃ t, exec (.thmTimerRead sensors) s = .next t
      ∧ (∀ i < 24, (ok (sensors.getD i 0).toInt → t.rdI (THM.READING i) = (sensors.getD i 0).toInt)
        ∧ (¬ok (sensors.getD i 0).toInt → t.rd (THM.READING i) = s.rd (THM.READING i) ∧ t.on THM.INT_SENSOR = true))
      ∧ (∀ h < 9, t.rd (THM.SHELF_STEP h) = t.bankLevel (11 + h)))
    ∧ (s.runs pTHM = true → ¬stopped → 3 ≤ (if lamp then s.thm.lmpSilent else s.thm.emtSilent) →
      ∃ t, exec (.thmSlotSilent lamp) s = .next t ∧ t.rd level = max 2 (s.rd level) ∧ t.on (C.FAULT pTHM 1) = true
        ∧ (s.rd level < 2 → t.on THM.INT_LEVEL_CHANGE = true ∧ (lamp = false → s.runs pEMT = true → t.rd EMT.ST_DERATE_LEVEL = 2)
            ∧ (lamp = true → t.lmp.level = 2)))
    ∧ (s.runs pWATCH = true → s.pwr.hold = false → ∃ t, exec (.watchRead a b c d) s = .next t
      ∧ (∀ p ∈ watched, (ok p.2.toInt → t.rdI p.1 = p.2.toInt) ∧ (¬ok p.2.toInt → t.rd p.1 = s.rd p.1))
      ∧ t.thm.watchMiss = (if ∃ p ∈ watched, ok p.2.toInt then 0 else s.thm.watchMiss + 1)
      ∧ (t.on WATCH.ST_OVERTEMP = true ↔ ∃ i < 4, (t.watchAt (4 * i)).crossed = true)
      ∧ (t.on WATCH.ST_NVS_OK = true ↔ ∀ i < 4, (t.watchAt (4 * i + 1)).crossed = false ∧ (t.watchAt (4 * i + 2)).crossed = false)
      ∧ (s.on WATCH.ST_OVERTEMP = false → t.on WATCH.ST_OVERTEMP = true → Trips 14 t))
    ∧ (s.runs pWATCH = true → s.pwr.hold = false → 3 ≤ s.thm.watchMiss → ∃ t, exec .watchSensorLost s = .next t
      ∧ t.on (C.FAULT pWATCH 1) = true ∧ t.on WATCH.ST_OVERTEMP = true ∧ t.on WATCH.ST_NVS_OK = false
      ∧ (s.on WATCH.ST_OVERTEMP = false → Trips 14 t))

/-- R377 to R381: CAL's own commands. A TIM session that is too long ends SHORT and changes no correction set; a string-skew measurement
starts in COMMISSION with the MPD enabled and sets ERR_STATE otherwise; CAL_SAVE stores the sets, proposals and offsets, or is deferred
and counted while MRAM may not be written, or sets its fault where NVS does not run; an eye is shown for a lane that is ACTIVE and its
valid bit clears for one that is not, and with EYE_PERIOD 0 there is no scan. R431 to R433, R436, R438, R439: a lamp tick puts out the
gates of the lamps computed last, those of a string outside its exposure window dark; a lamp of a string that is not synchronised adds
LEVEL × M × CORR / 1020 to its accumulator and lights where that reaches 1,024; a written TARGET without a fade is the level at once; a
new derating level comes into force, in a halted block too, whose lamps all stay dark and whose accumulators and fades wait. The sync
edge's place within its tick is free (log 7). -/
def Obligations.CalibrationAndLamps : Prop :=
  (∀ (path : Path) (value : Word) (input : Fin 2) (lane : Fin 6) (w : BitVec 8) (h : BitVec 16) (x : Session) (s : State),
    s.runs pCAL = true →
    let n := value.toNat % 2 ^ 13
    let l := (lane : Nat)
    (s.cal.timSessions.find? (fun y => y.chan = 528 + (input : Nat)) = some x → x.hist.sum < 16384 →
      ∃ t, exec (.timSessionTimeout input) s = .next t ∧ t.cal.timSessions = s.cal.timSessions.filter (fun y => y.chan ≠ 528 + (input : Nat))
        ∧ t.rd CAL.SESS_SHORT = min (s.rd CAL.SESS_SHORT + 1) 65535 ∧ t.on CAL.INT_SESS_SHORT = true ∧ t.cal.sets = s.cal.sets)
    ∧ (8 ≤ n → n ≤ 4096 → value.getLsbD 31 = true →
      (s.rd SAF.STATE = 1 → s.on EMT.MPD_EN = true → ∃ t, exec (.strskStart path value) s = .next t ∧ t.rdS CAL.STRSK_SHOTS = n
        ∧ t.on CAL.ST_STRSK_BUSY = true ∧ t.cal = { s.cal with
            strskArmed := true, strskLeft := 0, strskNext := 0, strskSum := [], strskN := [] })
      ∧ (s.rd SAF.STATE ≠ 1 ∨ s.on EMT.MPD_EN = false → ∃ t, exec (.strskStart path value) s = .next t
        ∧ t.on (C.ERR_STATE pCAL) = true ∧ KeepsRegs [(C.ERR_STATE pCAL).key] s t ∧ t.cal = s.cal))
    ∧ (s.cal.changed = true →
      (s.runs pNVS = true → s.on WATCH.ST_NVS_OK = true → ∃ t c, exec .calSave s = .next t ∧ t.nvs = { s.nvs with calCopy := some c }
        ∧ c.sets = s.cal.sets ∧ c.props = s.cal.props ∧ (∀ g < 5, c.ofs.getD g 0 = s.rdI (CAL.CVH_OFS g))
        ∧ t.cal.changed = false ∧ t.on CAL.INT_SAVED = true ∧ t.on CAL.ST_SAVE_PENDING = false)
      ∧ (s.runs pNVS = true → s.on WATCH.ST_NVS_OK = false → ∃ t, exec .calSave s = .next t ∧ t.nvs = s.nvs ∧ t.cal = s.cal
        ∧ t.on CAL.INT_SAVE_DEFER = true ∧ t.rd NVS.BLOCKED_CNT = min (s.rd NVS.BLOCKED_CNT + 1) 65535)
      ∧ (s.runs pNVS = false → ∃ t, exec .calSave s = .next t ∧ t.nvs = s.nvs ∧ t.cal = s.cal ∧ t.on (C.FAULT pCAL 2) = true))
    ∧ (s.rd CAL.EYE_PERIOD = 0 → exec (.eyeScan lane w h) s = .next s)
    ∧ (s.rd CAL.EYE_PERIOD ≠ 0 →
      (s.rd (LANE.STATE l) = 5 → ∃ t, exec (.eyeScan lane w h) s = .next t ∧ t.on (CAL.EYE_VALID l) = true
        ∧ t.rd (CAL.EYE_W l) = w.toNat ∧ t.rd (CAL.EYE_H l) = h.toNat
        ∧ KeepsRegs [(CAL.EYE_VALID l).key, (CAL.EYE_W l).key, (CAL.EYE_H l).key] s t)
      ∧ (s.rd (LANE.STATE l) ≠ 5 → exec (.eyeScan lane w h) s = .next (s.put (CAL.EYE_VALID l) false))))
  ∧ (∀ s : State, s.runs pLMP = true →
    let lit := fun (u : State) l => Tab.get false u.lmp.lit l
    let after := s.lmp.sinceEdge.map (· + 100)
    (s.on (C.HALTED pLMP) = true → ∃ t, exec .lampTick s = .next t ∧ t.pins.lg = 0 ∧ t.lmp = { s.lmp with sinceEdge := after }
      ∧ t.rd LMP.DERATE_LEVEL % 2 ^ 3 = s.lmp.level % 2 ^ 3
      ∧ KeepsRegs [LMP.DERATE_LEVEL.key, LMP.INT_LEVEL_CHANGE.key, (C.FAULT pLMP 0).key, (C.FAULT pLMP 25).key] s t)
    ∧ (s.on (C.HALTED pLMP) = false → ∃ t, exec .lampTick s = .next t
      ∧ (∀ st < 4, bit t.pins.lg st = (s.stringOpen st && (List.range 16).any fun i => lit s (16 * st + i)))
      ∧ (∀ l < 64, t.on (LMP.SYNC_EN (l / 16)) = false →
          let level := t.rd (LMP.LEVEL_NOW (l / 16))
          let m := if t.rd LMP.DERATE_LEVEL = 4 then 0 else if t.on (LMP.DERATE_EXEMPT (l / 16)) then 4 else 4 - t.rd LMP.DERATE_LEVEL
          let add := if bit (t.rd (LMP.LAMP_EN (l / 16))) (l % 16) then level * m * t.rd (LMP.CORR l) / 1020 else 0
          let sum := Tab.get 0 s.lmp.acc l + add
          (lit t l = true ↔ 1024 ≤ sum) ∧ Tab.get 0 t.lmp.acc l = if 1024 ≤ sum then sum - 1024 else sum)
      ∧ (∀ st < 4, st ∈ s.lmp.asked → t.rd (LMP.FADE_MS st) = 0 → t.rd (LMP.LEVEL_NOW st) = t.rd (LMP.TARGET st) % 2 ^ 10)
      ∧ t.lmp.asked = [] ∧ t.lmp.sinceEdge = after ∧ t.rd LMP.DERATE_LEVEL % 2 ^ 3 = s.lmp.level % 2 ^ 3)
    ∧ (∃ n < 100, exec .lampSyncEdge s =
        .next { s.put LMP.ST_SYNC_LOST false with free := s.free + 1, lmp := { s.lmp with sinceEdge := some n } })
    ∧ ((∃ st < 4, s.on (LMP.SYNC_EN st) = true) → exec .lampSyncLost s =
        .next ((s.put LMP.ST_SYNC_LOST true).put LMP.INT_SYNC_LOST true)))

/-! ### Proximity, point assembly and the codec (spec/08, spec/09) -/

/-- R234, R235, R415, R419, the sentinel clock running: a word that is validated, tagged with the shot in collection and the first of its
row group is accepted, its blind rows count, and PROX is asserted where the rows of the enabled row groups reach PROX_MIN_ROWS; any other
word is discarded; the close of collection counts each enabled row group without a word as missing and as eight blind rows, and the last
shot's close shows the frame's figures; PROX_HOLD's expiry ends the assertion, unless the window in collection has reached the
threshold. In OPERATIONAL and DEGRADED, PROX_N follows. -/
def Obligations.ProximityCombiner : Prop :=
  ∀ (w : Word) (rest : List Word) (s : State), s.pwr.hold = false →
    let p := s.prox
    let g := bits w.toNat 25 6
    let enabled := fun g => bit (s.rd (SAF.PROX_EN (g / 32))) (g % 32)
    let ones := fun m => ((List.range 8).filter (bit m)).length
    let rows := p.rows + if enabled g then ones (bits w.toNat 16 8) else 0
    let blind := p.blindFrame + if enabled g then ones (bits w.toNat 8 8) else 0
    let taken := p.collecting = true ∧ w.getLsbD 31 = true ∧ w.toNat % 2 ^ 8 = p.tag ∧ g ∉ p.accepted
    let missing := ((List.range 64).filter fun g => enabled g && !p.accepted.contains g).length
    (p.flight = w :: rest →
      (taken → ∃ t, exec .proxWordArrival s = .next t
        ∧ t.prox = { p with
            flight := rest, accepted := p.accepted ++ [g], rows := rows, blindFrame := blind
            asserted := p.asserted || decide (s.rd SAF.PROX_MIN_ROWS ≤ rows) }
        ∧ (s.rd SAF.STATE = 2 ∨ s.rd SAF.STATE = 3 → s.saf.failsafeKnown = true → t.pins.proxN = some t.prox.asserted))
      ∧ (¬taken → exec .proxWordArrival s = .next { s with prox := { p with flight := rest, discarded := p.discarded + 1 } }))
    ∧ (p.collecting = true → p.last = false → exec .proxCollectionClose s = .next { s with prox := { p with
        collecting := false, missFrame := p.missFrame + missing, blindFrame := p.blindFrame + 8 * missing
        shotsFrame := p.shotsFrame + 1 } })
    ∧ (p.collecting = true → p.last = true → ∃ t, exec .proxCollectionClose s = .next t ∧ t.prox.collecting = false
        ∧ t.rd SAF.MISS_LAST = min (p.missFrame + missing) 65535 ∧ t.rd SAF.BLIND_LAST = min (p.blindFrame + 8 * missing) 65535
        ∧ t.prox.missFrame = 0 ∧ t.prox.blindFrame = 0 ∧ t.prox.shotsFrame = 0)
    ∧ (p.collecting = false ∨ p.rows < s.rd SAF.PROX_MIN_ROWS → ∃ t, exec .proxHoldExpiry s = .next t ∧ t.prox = { p with asserted := false }
        ∧ (s.rd SAF.STATE = 2 ∨ s.rd SAF.STATE = 3 → s.saf.failsafeKnown = true → t.pins.proxN = some false))
    ∧ (p.collecting = true → s.rd SAF.PROX_MIN_ROWS ≤ p.rows → exec .proxHoldExpiry s = .next s)

/-- R247 to R249, R25: PCA takes the entry at the front of a shelf queue, and the first that waits takes the place. A good record joins
its open column, a point with the COL_TAG that the minor version of its shot's generation gives it; a record of a reserved type
or class, of another row group, or a second point of its row and index is discarded as REC_BAD, and a retraction of no point of the
column, or a second one, as RETRACT_BAD; a record of a column that is not open is discarded; a marker marks its row group, once, and a
column with 64 markers closes; a timeout closes the oldest open column with OUTCOME 3 for every row group that is missing. -/
def Obligations.RecordsAndMarkers : Prop :=
  ∀ (shelf : Fin 9) (e : Entry) (rest : List Entry) (m : MarkerId) (c : Column) (pre post : List Column) (s : State), s.runs pPASM = true →
    let q := s.queue shelf
    let waiting := s.waitingAt shelf
    let popped := s.popEntry shelf
    let w := e.word.toNat
    let type := bits w 62 2
    let key := fun w => bits w 51 11
    let point := ∃ r ∈ c.records, bits r.2.toNat 62 2 = 0 ∧ key r.2.toNat = key w
    let recBad := 2 ≤ type ∨ bits w 53 9 / 8 ≠ m.rg ∨ (type = 0 ∧ (5 ≤ bits w 48 3 ∨ point))
    let retractBad := type = 1 ∧ (bits w 0 32 ≠ m.accession ∨ bits w 32 12 ≠ m.column ∨ ¬point ∨ key w ∈ c.retracted)
    let id := markerId e.word
    (q = e :: rest → popped.queue shelf = rest ++ waiting.take 1 ∧ popped.waitingAt shelf = waiting.drop 1)
    ∧ (q = e :: rest → e.marker = false → s.recordShot e.re (rest ++ waiting) = some m →
        s.pca.columns.find? (fun c => c.of m) = some c →
      (recBad → ∃ t, exec (.recordEntry shelf) s = .next t ∧ t.pca = popped.pca
        ∧ t.rd PASM.REC_BAD = min (s.rd PASM.REC_BAD + 1) 65535 ∧ t.on PASM.INT_REC_BAD = true ∧ t.on (C.FAULT pPASM 0) = true)
      ∧ (¬recBad → retractBad → ∃ t, exec (.recordEntry shelf) s = .next t ∧ t.pca = popped.pca
        ∧ t.rd PASM.RETRACT_BAD = min (s.rd PASM.RETRACT_BAD + 1) 65535 ∧ t.on PASM.INT_RETRACT_BAD = true)
      ∧ (¬recBad → ¬retractBad → ∃ tagged, exec (.recordEntry shelf) s = .next { popped with pca := { popped.pca with
            columns := s.pca.columns.map fun (d : Column) => if d.of m then { c with
              records := c.records ++ [(m.rg, tagged)]
              retracted := if type = 1 then c.retracted ++ [key w] else c.retracted } else d } }
          ∧ tagged.toNat / 2 ^ 8 = w / 2 ^ 8
          ∧ (type = 1 → tagged = e.word)
          ∧ (type = 0 → tagged.toNat % 2 ^ 8 =
              if s.rdGen pPASM c.shot.gen PASM.REC_MINOR_SEL = 1 then m.column % 2 ^ 8 else 0)))
    ∧ (q = e :: rest → e.marker = false → s.recordShot e.re (rest ++ waiting) = some m → (∀ d ∈ s.pca.columns, d.of m = false) →
        exec (.recordEntry shelf) s = .next popped)
    ∧ (q = e :: rest → e.marker = true → exec (.shotMarker shelf) s = .next { popped with pca := { popped.pca with
        columns := s.pca.columns.map fun (d : Column) =>
          if d.of id && !d.markers.any (fun x => x.1 = id.rg) then
            { d with markers := d.markers ++ [(id.rg, bits w 11 3)], closed := 64 ≤ d.markers.length + 1 }
          else d } })
    ∧ (s.pca.columns = pre ++ c :: post → (∀ d ∈ pre, d.closed = true) → c.closed = false → ∃ t, exec .markerTimeout s = .next t
      ∧ t.pca.columns = pre ++ { c with
          markers := c.markers ++ ((List.range 64).filter fun g => !c.markers.any fun x => x.1 = g).map fun g => (g, 3), closed := true } :: post
      ∧ t.rd PASM.MARKER_TMO = min (s.rd PASM.MARKER_TMO + 1) 65535 ∧ t.on PASM.INT_MARKER_TMO = true ∧ t.on (C.FAULT pPASM 1) = true)

/-- R242 to R246, R251, R254 to R256, R258, R259: the oldest closed column of the frame in output leaves as a block where the buffer
holds it: raw where the codec is off in its shot's generation, coded where the encoder stays below 64 bits a record, the block verifies
and is smaller, and raw else, counted where the verifier fails; a truncated or withheld column leaves without a block, and a block that
the buffer cannot hold waits. The verifier sees the block with the bits turned that an error turns, and a decoder gives no output for a
block of a wrong length, of mode 3, or whose output has another CHECK. The ledger record leaves last, with its words, the figures of the
frame show, and the head record of the next closed frame follows. -/
def Obligations.BlocksAndLedger : Prop :=
  (∀ (c : Column) (cols : List Column) (flips : List Nat) (f : Frame) (frames : List Frame) (s : State), s.runs pPASM = true →
      s.runs pPCOD = true → s.pca.headSent = true →
    let exc := c.exceptions
    let recs := c.words
    let head := s.columnRecord c exc.length recs.length
    let raw := head :: exc ++ recs
    let stream := codeStream recs
    let packed := head :: exc ++ packBits (stream.length / 64 + 1) stream
    let block := fun mode column nrec (ws : List Nat) (raw : List Nat) => blockHeader mode column nrec ws.length raw :: ws
    let out := fun ws : List Nat => ws.map (BitVec.ofNat 64)
    let rawBlock := block 0 c.shot.column recs.length raw raw
    let coded := block 1 c.shot.column recs.length packed raw
    let fits := fun ws : List Nat => s.pca.held + 8 * ws.length ≤ 2097152
    let verified := decodeBlock c.shot.accession.toNat (s.rdGen pPASM c.shot.gen PASM.REC_MINOR_SEL) (flipBits flips coded) = some raw
    let leaves := fun b => ∃ t, exec (.blockOutput flips) s = .next t ∧ t.pca.columns = cols ∧ t.pca.out = s.pca.out ++ [out b]
      ∧ t.pca.npoints + t.pca.nretract = s.pca.npoints + s.pca.nretract + recs.length
    let codec := s.rdGen pPCOD c.shot.gen PCOD.CODEC_EN ≠ 0
    let below := stream.length < 64 * recs.length
    let dropped := c.shot.trunc = true ∨ (c.shot.rrLevel = 5 ∧ c.shot.accession.toNat % 2 = 1)
    let ledger := f.ledger s.pca.npoints s.pca.nretract
    (s.pca.columns = c :: cols → c.closed = true → s.outFrame.map (·.accession) = some c.shot.accession →
      (dropped → exec (.blockOutput flips) s = .next { s with pca := { s.pca with columns := cols } })
      ∧ (¬dropped → ¬codec ∨ ¬below ∨ (verified ∧ raw.length ≤ packed.length) → fits rawBlock → leaves rawBlock)
      ∧ (¬dropped → codec → below → verified → packed.length < raw.length → fits coded → leaves coded)
      ∧ (¬dropped → codec → below → ¬verified → fits rawBlock → leaves rawBlock ∧ ∃ t, exec (.blockOutput flips) s = .next t
        ∧ t.rd PCOD.VFAIL_TOTAL = min (s.rd PCOD.VFAIL_TOTAL + 1) 65535 ∧ t.on PCOD.INT_VFAIL = true ∧ t.on (C.FAULT pPCOD 0) = true)
      ∧ (¬dropped → ¬codec → ¬fits rawBlock → exec (.blockOutput flips) s = .next s))
    ∧ (s.pca.frames = f :: frames → (∀ d ∈ s.pca.columns, d.shot.accession ≠ f.accession) →
        fits (block 2 0xFFF ledger.length ledger ledger) →
      ∃ t more, exec .ledgerOutput s = .next t ∧ t.pca.frames = frames
        ∧ t.pca.out = s.pca.out ++ out (block 2 0xFFF ledger.length ledger ledger) :: more
        ∧ t.rd PASM.NPOINTS_LAST = s.pca.npoints % 2 ^ 32 ∧ t.rd PASM.NRETRACT_LAST = s.pca.nretract % 2 ^ 32
        ∧ ledger.length = 17 + min 32 f.rwl.length ∧ t.pca.npoints = 0 ∧ t.pca.nretract = 0
        ∧ (frames = [] → s.acq.frame = none → more = [])
        ∧ (∀ g rest, frames = g :: rest → s.pca.held + 8 * (ledger.length + 3) ≤ 2097152 →
            let h := t.headRecord g
            more = [out (block 2 0xFFF 1 [h] [h])] ∧ bits h 62 2 = 3 ∧ bits h 0 32 = g.accession.toNat ∧ bits h 32 12 = g.ncol % 2 ^ 12)))
  ∧ (∀ (accession minor h : Nat) (payload raw : List Nat), decodeBlock accession minor (h :: payload) = some raw →
    let nexc := bits (payload.headD 0) 32 7
    payload.length = bits h 16 16 ∧ bits h 62 2 ≠ 3 ∧ blockCheck raw = bits h 0 16
      ∧ (bits h 62 2 = 2 → raw = payload ∧ payload.length = bits h 37 13)
      ∧ (bits h 62 2 = 0 → raw = payload ∧ payload.length = 1 + nexc + bits h 37 13)
      ∧ (bits h 62 2 = 1 → raw.length = 1 + nexc + bits h 37 13 ∧ payload.length < raw.length))

/-! ### Yomos Link (spec/10_serial_link.md) -/

/-- R264 to R272, R288 to R297, R306: the bring-up of a lane. Block lock takes it to CAPS, or back to its training; CAPS of both ends
agree a version or set FAULT.VERSION, and one with a reserved bit counts as a block error; a window that both ends pass takes a control
lane to its next rate or, at the top or its final one, to ACTIVE, and a data lane that retrains to DESKEW; a failed one is tried once
more, then the control lane takes one rate back, at code 0 with FAULT.TRAIN and DOWN, and a retraining data lane is REMOVED; an end that
has passed waits one further window for its partner's result (log 46); an honoured request moves its coefficient and restarts the
window; a control lane that loses lock returns to LOCK; the bit-slip search shows its counts and gives up after 66 slips; under version
3 a data lane with a cause to retrain leaves the stripe at a marker, and under an older one the bundle retrains; a removed lane trains
again in REMOVED; markers leave on every lane of the stripe and on those in DESKEW, and the stripe changes there. -/
def Obligations.LinkLanes : Prop :=
  ∀ (path : Path) (lane : Fin 6) (ctl : Fin 2) (content : BitVec 48) (rate : BitVec 3) (pass : Bool) (pre post : BitVec 2) (mask : BitVec 4)
    (errs : BitVec 16) (value : Word) (s : State),
    let l := (lane : Nat)
    let k := 4 + (ctl : Nat)
    let x := s.lane l
    let st := fun (u : State) n => u.rd (LANE.STATE n)
    let c := content.toNat
    let v := min (s.rd (CTL.VER_MAX ctl)) (c / 2 ^ 2 % 2 ^ 2)
    let plain := c / 2 ^ 7 % 2 = 0 ∧ c / 2 ^ 22 % 2 ^ 2 = 0 ∧ c / 2 ^ 26 = 0
    let three := s.version = 3
    let r := s.rd (LANE.RATE l)
    let own := x.locked = true ∧ x.windowErrs = 0
    let trains := st s l = 3 ∨ (st s l = 6 ∧ x.retraining = true)
    let last := x.retraining = true ∨ x.final = true ∨ s.topRate l ≤ r
    let passed := fun t : State =>
      (4 ≤ l → last → st t l = 5 ∧ (t.lane l).fails = 0 ∧ (t.lane l).comingUp = false)
      ∧ (4 ≤ l → ¬last → st t l = 1 ∧ t.rd (LANE.RATE l) = r + 1 ∧ (t.lane l).relock = true ∧ (t.lane l).fails = 0)
      ∧ (l < 4 → x.retraining = true → s.version ≠ 1 → st t l = 4 ∧ (t.lane l).markers = 0 ∧ (t.lane l).retraining = false)
    let failed := fun t : State =>
      (x.fails = 0 → st t l = st s l ∧ (t.lane l).fails = 1 ∧ (t.lane l).partnerPass = none ∧ (t.lane l).windowErrs = 0)
      ∧ (x.fails ≠ 0 → 4 ≤ l → r = 0 → st t l = 0 ∧ t.on (C.FAULT (pLane l) 0) = true)
      ∧ (x.fails ≠ 0 → 4 ≤ l → r ≠ 0 → st t l = 1 ∧ t.rd (LANE.RATE l) = (r - 1) % 2 ^ 3 ∧ (t.lane l).final = true)
      ∧ (x.fails ≠ 0 → l < 4 → x.retraining = true → (∃ n < 4, n ≠ l ∧ 3 ≤ st s n ∧ st s n ≠ 6) →
        st t l = 6 ∧ (t.lane l).retraining = false)
    let settled := s.rdS (LANE.PRE l) = s.rd (LANE.PRE l) ∧ s.rdS (LANE.POST l) = s.rd (LANE.POST l)
    let retrains := fun t : State => t.on L0.B_UP = false ∧ t.lnk.stripe = []
      ∧ ∀ n < 4, s.on (LANE.ENABLE n) = true → 3 ≤ st s n → st s n ≤ 5 → st t n = 3 ∧ t.rd (LANE.RATE n) = s.rd L0.B_RATE % 2 ^ 3
    (s.mayComeUp l = true → (l < 4 ∨ s.on (LANE.ALIGNED l) = true) →
      (x.relock = false → st s l ≤ 1 → ∃ t, exec (.blockLockGained lane) s = .next t ∧ st t l = 2
        ∧ t.lane l = { ({} : LaneState) with locked := true })
      ∧ (x.relock = true → ∃ t, exec (.blockLockGained lane) s = .next t ∧ st t l = 3 ∧ t.lane l = { x with locked := true, relock := false }))
    ∧ (s.runs (pLane l) = true →
      (4 ≤ l → st s l ≠ 0 → ∃ t, exec (.blockLockLost lane) s = .next t ∧ st t l = 1 ∧ t.on (LANE.ALIGNED l) = false
        ∧ t.rd (LANE.SLIPS l) = 0 ∧ (t.lane l).locked = false)
      ∧ (l < 4 → st s l = 2 → ∃ t, exec (.blockLockLost lane) s = .next t ∧ st t l = 1 ∧ (t.lane l).locked = false)
      ∧ (l < 4 → three → st s l = 5 → ∃ t, exec (.blockLockLost lane) s = .next t ∧ OnlyLane l s t
        ∧ t.lane l = { x with locked := false, windowErrs := x.windowErrs + 1, leaving := true })
      ∧ (s.on (LANE.ENABLE l) = true → st s l = 0 → x.locked = false → ∃ t, exec (.noPartnerTimeout lane) s = .next t
        ∧ t.on (C.FAULT (pLane l) 4) = true ∧ st t l = 0 ∧ t.lnk = (s.setLane l { x with noPartner := true }).lnk)
      ∧ (st s l = 2 → exec (.capsSend lane) s =
          .next { s with lnk := { s.lnk with sent := [(l, controlBlock 0x66 (s.capsContent l))] } })
      ∧ (trains → rate.toNat = r →
        (x.ended = false → exec (.trainReceived lane rate pass pre post) s =
          .next (s.setLane l { x with partnerPass := some pass, preReq := pre.toNat, postReq := post.toNat }))
        ∧ (x.ended = true → own → ∃ t, exec (.trainReceived lane rate true pre post) s = .next t ∧ passed t)
        ∧ (x.ended = true → pass = false ∨ ¬own → ∃ t, exec (.trainReceived lane rate pass pre post) s = .next t ∧ failed t))
      ∧ (trains →
        let sent := [(l, controlBlock 0x72 (r + 8 * if own then 1 else 0))]
        (x.preReq = 0 → x.postReq = 0 →
          (own → x.partnerPass = some true → ∃ t, exec (.trainWindowEnd lane) s = .next t ∧ t.lnk.sent = sent ∧ passed t)
          ∧ (own → x.partnerPass ≠ some true → x.ended = false → exec (.trainWindowEnd lane) s =
              .next (({ s with lnk := { s.lnk with sent := sent } } : State).setLane l { x with ended := true }))
          ∧ (¬own ∨ (x.partnerPass ≠ some true ∧ x.ended = true) →
              ∃ t, exec (.trainWindowEnd lane) s = .next t ∧ t.lnk.sent = sent ∧ failed t))
        ∧ (x.preReq = 1 → x.postReq = 0 → s.on (LANE.EQ_ACCEPT l) = true → s.laneVersion l = 3 → s.rd (LANE.PRE_IN_FORCE l) < 16 →
            s.rd (LANE.PRE_IN_FORCE l) + s.rd (LANE.POST_IN_FORCE l) < 32 → x.eqReqs < 32 → settled →
            ∃ t, exec (.trainWindowEnd lane) s = .next t ∧ t.lnk.sent = sent ∧ st t l = st s l
              ∧ t.rd (LANE.PRE_IN_FORCE l) = s.rd (LANE.PRE_IN_FORCE l) + 1 ∧ t.rd (LANE.POST_IN_FORCE l) = s.rd (LANE.POST_IN_FORCE l)
              ∧ (t.lane l).eqReqs = x.eqReqs + 1 ∧ (t.lane l).fails = 0 ∧ (t.lane l).windowErrs = 0))
      ∧ (4 ≤ l ∨ x.errs125 < s.rd (LANE.ERR_LIMIT l) → exec (.errLimitWindow lane) s = .next (s.setLane l { x with errs125 := 0 }))
      ∧ (three → l < 4 → st s l = 5 → s.rd (LANE.ERR_LIMIT l) ≤ x.errs125 → ∃ t, exec (.errLimitWindow lane) s = .next t
          ∧ OnlyLane l s t ∧ t.lane l = { x with errs125 := 0, leaving := true })
      ∧ (three → l < 4 → st s l = 5 → value.getLsbD 31 = true → value.getLsbD 30 = false →
          ∃ t, exec (.retrain path lane value) s = .next t ∧ (t.lane l).leaving = true ∧ t.regs = s.regs)
      ∧ (¬three → l < 4 → st s l = 5 → value.getLsbD 31 = true → value.getLsbD 30 = false →
          ∃ t, exec (.retrain path lane value) s = .next t ∧ retrains t)
      ∧ (4 ≤ l → st s l = 5 → value.getLsbD 31 = true → value.getLsbD 30 = false → value.getLsbD 29 = s.on (LANE.ALIGNED l) →
          ∃ t, exec (.retrain path lane value) s = .next t ∧ st t l = 3 ∧ t.on (LANE.INT_RETRAIN l) = true
            ∧ t.rd (LANE.RETRAINS l) = min (s.rd (LANE.RETRAINS l) + 1) 65535)
      ∧ ((value.extractLsb' 24 3).toNat ≤ (if l < 4 then 4 else 2) → (value.extractLsb' 16 5).toNat ≤ 16 →
          (value.extractLsb' 8 5).toNat ≤ 24 → (value.extractLsb' 16 5).toNat + (value.extractLsb' 8 5).toNat ≤ 32 →
          ∃ t, exec (.enable path lane value) s = .next t ∧ t.on (LANE.ENABLE l) = value.getLsbD 31
            ∧ t.rdS (LANE.RATE_MAX l) = (value.extractLsb' 24 3).toNat ∧ t.rdS (LANE.PRE l) = (value.extractLsb' 16 5).toNat
            ∧ t.rdS (LANE.POST l) = (value.extractLsb' 8 5).toNat ∧ t.rdS (LANE.EQ_ACCEPT l) = b2n (value.getLsbD 7)
            ∧ (s.on (LANE.ENABLE l) = true → value.getLsbD 31 = false → (4 ≤ l ∨ st s l ≠ 5 → st t l = 0)
                ∧ (l < 4 → st s l = 5 → three → st t l = 5 ∧ (t.lane l).leaving = true)))
      ∧ (l < 4 → st s l = 2 → plain →
        (c / 2 ^ 24 % 2 ^ 2 = s.version → ∃ t, exec (.capsReceived lane content) s = .next t ∧ st t l = 3
          ∧ t.rd L0.B_VERSION = s.version ∧ t.on (LANE.INT_VERSION l) = true ∧ (t.lane l).caps = some content)
        ∧ (c / 2 ^ 24 % 2 ^ 2 ≠ s.version → ∃ t, exec (.capsReceived lane content) s = .next t ∧ st t l = 2
          ∧ t.on (C.FAULT (pLane l) 1) = true))
      ∧ (st s l = 2 → ¬plain → ∃ t, exec (.capsReceived lane content) s = .next t ∧ st t l = 2
        ∧ t.rd (LANE.BLOCK_ERR l) = min (s.rd (LANE.BLOCK_ERR l) + 1) 65535))
    ∧ (s.runs (pLane k) = true →
      (st s k = 2 → plain → 1 ≤ v → c % 2 ^ 2 ≤ v → ∃ t, exec (.capsReceived ⟨k, by omega⟩ content) s = .next t ∧ st t k = 3
        ∧ t.rd (CTL.C_VERSION ctl) = v ∧ t.on (LANE.INT_VERSION k) = true ∧ (t.lane k).caps = some content)
      ∧ (st s k = 2 → plain → v < 1 ∨ v < c % 2 ^ 2 → ∃ t, exec (.capsReceived ⟨k, by omega⟩ content) s = .next t ∧ st t k = 2
        ∧ t.on (C.FAULT (pLane k) 1) = true)
      ∧ (s.mayComeUp k = true → st s k ≤ 1 → ∃ t, exec (.cdrLock ctl errs) s = .next t ∧ st t k = 1 ∧ t.on (LANE.CDR_LOCK k) = true
        ∧ t.rd (LANE.HDR_ERR k) = errs.toNat)
      ∧ (st s k = 1 → s.on (LANE.CDR_LOCK k) = false → ∃ t, exec (.cdrLockTimeout ctl) s = .next t ∧ st t k = 0 ∧ t.lane k = {})
      ∧ (st s k = 1 → s.on (LANE.ALIGNED k) = false → value.getLsbD 31 = false → value.getLsbD 30 = true → value.getLsbD 29 = false →
        (s.rd (LANE.SLIPS k) < 65 ∨ errs = 0 ∧ s.rd (LANE.SLIPS k) < 127 → ∃ t, exec (.bitslip path ctl value errs) s = .next t
          ∧ t.rd (LANE.SLIPS k) = s.rd (LANE.SLIPS k) + 1 ∧ t.rd (LANE.HDR_ERR k) = errs.toNat ∧ st t k = 1)
        ∧ (65 ≤ s.rd (LANE.SLIPS k) → errs ≠ 0 → ∃ t, exec (.bitslip path ctl value errs) s = .next t ∧ st t k = 0
          ∧ t.on (C.FAULT (pLane k) 3) = true))
      ∧ (st s k = 1 → s.on (LANE.ALIGNED k) = false → s.on (LANE.CDR_LOCK k) = true → value.getLsbD 31 = false →
        value.getLsbD 30 = false → value.getLsbD 29 = true → ∃ t, exec (.aligned path ctl value) s = .next t
          ∧ st t k = (if (s.lane k).relock then 3 else 2) ∧ t.on (LANE.ALIGNED k) = true ∧ t.rd (LANE.SLIPS k) = 0))
    ∧ (three → ∃ t, exec (.retrainReq mask) s = .next t ∧ t = { s with lnk := { s.lnk with lanes := t.lnk.lanes } }
      ∧ (∀ n < 4, (t.lane n).leaving = ((s.lane n).leaving || (mask.getLsbD n && st s n = 5))) ∧ (∀ n, 4 ≤ n → t.lane n = s.lane n))
    ∧ (¬three → (∃ n < 4, mask.getLsbD n = true ∧ st s n = 5) → ∃ t, exec (.retrainReq mask) s = .next t ∧ retrains t)
    ∧ (∀ n : Fin 4, s.runs (pLane n) = true → s.on (LANE.ENABLE n) = true → st s n = 6 → (s.lane n).retraining = false →
        s.lnk.bundleDown = false → ∃ t, exec (.laneRetry n) s = .next t ∧ st t n = 6 ∧ t.rd (LANE.RATE n) = s.rd L0.B_RATE % 2 ^ 3
        ∧ (t.lane n).retraining = true ∧ t.rd (LANE.RETRAINS n) = min (s.rd (LANE.RETRAINS n) + 1) 65535)
    ∧ (2 ≤ s.version →
      let stripe := s.lnk.stripe
      let desk := (List.range 4).filter fun n => st s n = 4
      let second := desk.filter fun n => 1 ≤ (s.lane n).markers
      let ready := second = desk && (List.range 4).all fun n => st s n != 3 || !(s.lane n).retraining
      let join := if s.on L0.B_UP then second else if ready then desk else []
      let stays := fun n => !(s.lane n).leaving
      let next := sortAsc (stripe.filter stays ++ join)
      stripe ++ desk ≠ [] → ∃ t, exec .markerSend s = .next t ∧ t.lnk.mcount = s.lnk.mcount + 1
        ∧ t.lnk.sent.map (·.1) = sortAsc (stripe ++ desk)
        ∧ (next ≠ [] → t.lnk.stripe = next ∧ t.on L0.B_UP = true ∧ t.rd L0.B_ACTIVE = (next.map (2 ^ ·)).sum % 2 ^ 4
          ∧ (∀ n ∈ join, st t n = 5)
          ∧ (∀ n ∈ stripe, n < 4 → stays n = false → st s n = 5 → st t n = if s.on (LANE.ENABLE n) then 6 else 0))
        ∧ (∀ n ∈ desk, n ∉ join → stripe.filter stays = stripe → st t n = 4 ∧ (t.lane n).markers = (s.lane n).markers + 1)
        ∧ (next = [] → (∃ n ∈ stripe, stays n = false) → retrains t))

/-- R274 to R277, R281 to R287, R306: credits, acknowledgement and replay. A newer LIMIT is taken and clears STALL, an older one is not; a
waiting PCA block leaves with its credits, or stalls ACQ without them; behind it a ring entry leaves, or is dropped under version 1; a
control lane sends the first packet of its order; each goes into the replay buffer under the path's SEQ, but for version 1. ACK drops
what it acknowledges, by its distance from the oldest unacknowledged SEQ; NAK and the timeout send again, and the REPLAY_MAX-th replay
from one SEQ sets the fault and retrains. Blocks that arrive count their errors; a packet that is whole and next in order is
acknowledged, one that has come before is acknowledged again, and any other is refused with NAK. -/
def Obligations.LinkFlow : Prop :=
  ∀ (raw : Bool) (limit : BitVec 24) (link : Fin 3) (seq : BitVec 12) (lane : Fin 6) (ctl : Fin 2) (n len : Nat) (hdr : BitVec 16)
    (packet : Packet) (b : List DWord) (rest : List (List DWord)) (errors : List StackError) (entries : List Nat) (pkt : TxPacket)
    (s : State),
    let p := (link : Nat)
    let x := s.path p
    let l := if p = 0 then 0 else 3 + p
    let limitOf := if raw then s.lnk.limitRaw else s.lnk.limitPts
    let ahead := (limit - limitOf).toNat
    let versioned := 2 ≤ s.pathVersion p
    let distance := fun q => match x.replay with
      | [] => 0
      | h :: _ => (q + 4096 - h.seq) % 4096
    let at_ := distance seq.toNat
    let again := fun (t : State) i =>
      let from_ := (x.replay[i]?.map (·.seq)).getD x.seqNext
      let tries := if 0 < x.tries ∧ x.triesAt = from_ then x.tries + 1 else 1
      t.on (LANE.INT_REPLAY l) = true
        ∧ (tries < s.rd L0.REPLAY_MAX → t.path p = { x with resend := x.replay.length - i, tries := tries, triesAt := from_ }
          ∧ (p = 0 → t.rd L0.REPLAYS = min (s.rd L0.REPLAYS + 1) 65535))
        ∧ (s.rd L0.REPLAY_MAX ≤ tries → t.on (C.FAULT (pLane l) 2) = true ∧ (p = 0 → t.on L0.B_UP = false)
          ∧ (p ≠ 0 → s.rd (LANE.STATE l) = 5 → t.rd (LANE.STATE l) = 3))
    let k := 4 + (ctl : Nat)
    let y := s.path (k - 3)
    let credits := fun words => (words + 63) / 64
    let enough := fun (limit used : BitVec 24) words => credits words ≤ (limit - used).toNat ∧ (limit - used).toNat < 2 ^ 23
    let sends := fun (t : State) (m : TxPacket) =>
      t.lnk.tx = some (p, { m with seq := x.seqNext }) ∧ (t.path p).seqNext = (x.seqNext + 1) % 4096
        ∧ (t.path p).replay = if versioned then x.replay ++ [{ m with seq := x.seqNext }] else []
    let ringWords := ((wordsOfBytes ((len + 7) / 8) (s.ringBytes (s.spoiledBy errors) len)).drop s.acq.ringSent).take 4096
    let behind := (y.rxNext + 4096 - packet.seq.toNat) % 4096
    let answer := fun (t : State) btype content => t.path (k - 3) = y ∧ t.lnk.sent = [(k, controlBlock btype content)]
    (1 ≤ ahead → ahead < 2 ^ 23 → ∃ t, exec (.creditReceived raw limit) s = .next t ∧ t.lnk.stalled = false
      ∧ t.lnk.limitRaw = (if raw then limit else s.lnk.limitRaw) ∧ t.lnk.limitPts = (if raw then s.lnk.limitPts else limit)
      ∧ t.rd L0.CREDIT_PTS = (t.lnk.limitPts - t.lnk.usedPts).toNat ∧ t.rd L0.CREDIT_RAW = (t.lnk.limitRaw - t.lnk.usedRaw).toNat
      ∧ KeepsRegs [L0.CREDIT_PTS.key, L0.CREDIT_RAW.key] s t)
    ∧ (ahead = 0 ∨ 2 ^ 23 ≤ ahead → exec (.creditReceived raw limit) s = .next s)
    ∧ (s.pca.out = b :: rest →
      let credit := enough s.lnk.limitPts s.lnk.usedPts b.length
      (s.lnk.stalled = false → ¬credit → ∃ t, exec .stall s = .next t ∧ t.lnk.stalled = true ∧ t.acq.stall = true
        ∧ t.rd L0.STALLS = min (s.rd L0.STALLS + 1) 65535 ∧ t.on (LANE.INT_STALL 0) = true)
      ∧ (s.lnk.stalled = true ∨ credit → exec .stall s = .next s)
      ∧ (p = 0 → s.on L0.B_UP = true → x.resend = 0 → credit → (versioned → x.room 0 (8 * b.length) = true) →
        ∃ t, exec (.packetTransmit ⟨link, errors⟩) s = .next t ∧ t.pca.out = rest
          ∧ t.lnk.usedPts = s.lnk.usedPts + BitVec.ofNat 24 (credits b.length)
          ∧ sends t { channel := 0, first := true, last := true, words := b }))
    ∧ (p = 0 → s.on L0.B_UP = true → x.resend = 0 → s.pca.out = [] → s.acq.ringEntries = len :: entries →
      (s.version = 1 → ∃ t, exec (.packetTransmit ⟨link, errors⟩) s = .next t ∧ t.acq.ringEntries = entries
        ∧ t.acq.ringUsed = s.acq.ringUsed - len ∧ t.rd ACQ.RAW_DROPPED = min (s.rd ACQ.RAW_DROPPED + 1) 65535
        ∧ t.on ACQ.INT_RAW_DROP = true)
      ∧ (versioned → enough s.lnk.limitRaw s.lnk.usedRaw ringWords.length → x.room 0 (8 * ringWords.length) = true →
        ∃ t final, exec (.packetTransmit ⟨link, errors⟩) s = .next t
          ∧ t.lnk.usedRaw = s.lnk.usedRaw + BitVec.ofNat 24 (credits ringWords.length)
          ∧ sends t { channel := 1, first := decide (s.acq.ringSent = 0), last := final, words := ringWords }
          ∧ (final = true ↔ (len + 7) / 8 ≤ s.acq.ringSent + ringWords.length)
          ∧ t.acq.ringEntries = (if final then entries else len :: entries)
          ∧ t.acq.ringSent = if final then 0 else s.acq.ringSent + ringWords.length))
    ∧ (p ≠ 0 → s.rd (LANE.STATE l) = 5 → x.resend = 0 → nextPacket p x.queue = some pkt → (versioned → x.room p pkt.bytes = true) →
      ∃ t, exec (.packetTransmit ⟨link, errors⟩) s = .next t ∧ (t.path p).queue = x.queue.erase pkt
        ∧ sends t { pkt with words := if pkt.channel = 5 ∨ pkt.channel = 6 then pkt.words.set 2 s.acq.time else pkt.words })
    ∧ ((if p = 0 then s.on L0.B_UP = true else s.rd (LANE.STATE l) = 5) → 0 < x.resend →
        x.replay[x.replay.length - x.resend]? = some pkt → exec (.packetTransmit ⟨link, errors⟩) s =
          .next { s.setPath p { x with resend := x.resend - 1 } with lnk.tx := some (p, pkt) })
    ∧ (versioned → at_ < x.replay.length → ∃ t, exec (.ackReceived link seq) s = .next t
      ∧ t.path p = { x with
          replay := x.replay.drop (at_ + 1), resend := min x.resend (x.replay.length - (at_ + 1)), seqAcked := seq.toNat
          tries := if distance x.triesAt ≤ at_ then 0 else x.tries }
      ∧ (p = 0 → t.rd L0.SEQ_ACKED = seq.toNat) ∧ KeepsRegs [L0.SEQ_ACKED.key, L0.SEQ_NEXT.key] s t)
    ∧ (¬versioned ∨ x.replay.length ≤ at_ → exec (.ackReceived link seq) s = .next s)
    ∧ (versioned → at_ < x.replay.length → x.resend = 0 ∨ at_ ≤ x.replay.length - x.resend → ∃ t, exec (.nakReceived link seq) s = .next t
      ∧ again t at_ ∧ (p = 0 → t.rd L0.NAKS = min (s.rd L0.NAKS + 1) 65535))
    ∧ (versioned → x.replay ≠ [] → ∃ t, exec (.ackTimeout link) s = .next t ∧ again t 0)
    ∧ (s.runs (pLane lane) = true → 1 ≤ s.rd (LANE.STATE lane) → 4 ≤ (lane : Nat) ∨ n = 0 ∨ s.rd (LANE.STATE lane) ≠ 5 →
      ∃ t, exec (.packetReceived lane ⟨n, hdr⟩ none) s = .next t ∧ t.rd (LANE.HDR_ERR lane) = hdr.toNat
        ∧ t.rd (LANE.BLOCK_ERR lane) = min (s.rd (LANE.BLOCK_ERR lane) + n) 65535
        ∧ t.lane lane = { s.lane lane with windowErrs := (s.lane lane).windowErrs + n, errs125 := (s.lane lane).errs125 + n }
        ∧ KeepsRegs [(LANE.HDR_ERR lane).key, (LANE.BLOCK_ERR lane).key] s t)
    ∧ (s.runs (pLane k) = true → s.rd (LANE.STATE k) = 5 → 2 ≤ s.laneVersion k →
      (packetWhole packet k (s.laneVersion k) n = true →
        (packet.seq.toNat = y.rxNext → ∃ t, exec (.packetReceived ⟨k, by omega⟩ ⟨n, hdr⟩ (some packet)) s = .next t
          ∧ t.path (k - 3) = { y with rxNext := (y.rxNext + 1) % 4096 } ∧ t.lnk.sent = [(k, controlBlock 0x55 packet.seq.toNat)])
        ∧ (packet.seq.toNat ≠ y.rxNext → behind < 2048 → ∃ t, exec (.packetReceived ⟨k, by omega⟩ ⟨n, hdr⟩ (some packet)) s = .next t
          ∧ answer t 0x55 ((y.rxNext + 4095) % 4096))
        ∧ (2048 ≤ behind → ∃ t, exec (.packetReceived ⟨k, by omega⟩ ⟨n, hdr⟩ (some packet)) s = .next t ∧ answer t 0x5A y.rxNext))
      ∧ (packetWhole packet k (s.laneVersion k) n = false → ∃ t, exec (.packetReceived ⟨k, by omega⟩ ⟨n, hdr⟩ (some packet)) s = .next t
          ∧ answer t 0x5A y.rxNext ∧ t.rd (LANE.BLOCK_ERR k) = min (s.rd (LANE.BLOCK_ERR k) + n) 65535))

/-- R299 to R305: the messages of the control lanes. A register request is answered on C0 with its tag, its count and the words that
its accesses read, with BUSY while eight answers wait, and with MALFORMED and no access where its form is none of R299's; TS_REQ, the
EVENT, SAFETY and PAIR packets are queued with their words; an EVENT packet follows a change of what it reports, and the announcement
ends where INT_STAT reads 0; a TS_REQ on C1 counts toward the end of PAIR_OK (log 46), and an answered one gives PAIR_LAT; a PAIR packet
shows PAIR_OK, gives a follower its trigger's instant, or its trigger at once where that has passed, and counts the differences that the
partner's code shares with the device's own. -/
def Obligations.LinkMessages : Prop :=
  ∀ (tag : BitVec 8) (countM1 : BitVec 4) (addr acc : Word) (values : List Word) (head stamp depart arrival : DWord) (len : Nat)
    (onC1 : Bool) (tsTag : BitVec 48) (r : TsReply) (code : List (BitVec 9)) (s : State),
    let c0 := s.rd (LANE.STATE 4) = 5
    let c1 := s.rd (LANE.STATE 5) = 5 ∧ s.rd (CTL.C_VERSION 1) = 3
    let pkt := fun channel words => ({ channel := channel, first := true, last := true, words := words } : TxPacket)
    let queues := fun (t : State) n (k : TxPacket) => (t.path n).queue = (s.path n).queue ++ [k]
    let reads := s.readMany addr.toNat (countM1.toNat + 1)
    let writes := s.writeMany addr.toNat values
    let status := fun answers => if errMask answers = 0 then 0 else 1
    let w := fun i => (s.eventWords.getD i 0).toNat
    let op := head.toNat / 2 ^ 62
    let count := head.toNat / 2 ^ 50 % 2 ^ 4 + 1
    let seen := s.lnk.pairSeen && decide (s.lnk.pairSilent + 1 < 11)
    let instant := arrival - BitVec.ofInt 64 (s.rdI (CTL.PAIR_LAT 1)) - (depart - stamp) + BitVec.ofNat 64 (s.rd (CTL.PHASE_DELAY 1))
    let follows := s.on (CTL.LEADER 1) = false ∧ s.on (CTL.PAIR_TRIG 1) = true
    let late := (instant - s.acq.time).toInt < 0
    let shared := sharedDistances (codePositions code) s.ownCode
    let shown := State.showPair { s with lnk := { s.lnk with pairSeen := true, pairSilent := 0 } }
    (c0 →
      (s.outstanding < 8 → exec (.registerReadRequest tag countM1 addr) s = .next (reads.1.enqueue 1 (pkt 2
        (responseHead 0 tag.toNat countM1.toNat (status reads.2) (errMask reads.2) addr.toNat :: reads.2.map fun a => a.data.zeroExtend 64))))
      ∧ (8 ≤ s.outstanding → exec (.registerReadRequest tag countM1 addr) s = .next (s.enqueue 1 (pkt 2
        (responseHead 0 tag.toNat countM1.toNat 2 0 addr.toNat :: List.replicate (countM1.toNat + 1) 0))))
      ∧ (1 ≤ values.length → values.length ≤ 16 → s.outstanding < 8 → exec (.registerWriteRequest tag addr values) s =
        .next (writes.1.enqueue 1 (pkt 2 [responseHead 1 tag.toNat (values.length - 1) (status writes.2) (errMask writes.2) addr.toNat])))
      ∧ (1 ≤ values.length → values.length ≤ 16 → 8 ≤ s.outstanding → exec (.registerWriteRequest tag addr values) s =
        .next (s.enqueue 1 (pkt 2 [responseHead 1 tag.toNat (values.length - 1) 2 0 addr.toNat])))
      ∧ (2 ≤ op ∨ len ≠ 1 + (if op = 1 then count else 0) → exec (.registerMalformedRequest head len) s = .next (s.enqueue 1 (pkt 2
        (responseHead op (head.toNat / 2 ^ 54 % 2 ^ 8) (count - 1) 3 0 (head.toNat % 2 ^ 32) :: if op = 0 then List.replicate count 0 else []))))
      ∧ (∃ t, exec .safetyPacketSend s = .next t ∧ t.lnk.msgSeq = s.lnk.msgSeq + 1 ∧ t.regs = s.regs
        ∧ queues t 1 (pkt 4 [BitVec.ofNat 64 (s.lnk.msgSeq.toNat * 2 ^ 32 + s.rd SAF.STATE * 2 ^ 29), BitVec.ofNat 64 s.trips]))
      ∧ (s.intStat 0 ≠ 0 → s.eventWords ≠ s.lnk.lastEvent → ∃ t, exec .eventPacketSend s = .next t ∧ t.lnk.lastEvent = s.eventWords
        ∧ queues t 1 (pkt 3 (s.acq.time :: BitVec.ofNat 64 (s.rd CAT.ACCESSION * 2 ^ 32 + w 0) ::
            [1, 3, 5].map fun i => BitVec.ofNat 64 (w i * 2 ^ 32 + w (i + 1)))))
      ∧ (s.intStat 0 ≠ 0 → s.eventWords = s.lnk.lastEvent → exec .eventPacketSend s = .next s))
    ∧ (s.intStat 0 = 0 → exec .eventPacketSend s = .next { s with lnk := { s.lnk with lastEvent := [] } })
    ∧ (s.rd (LANE.STATE (if onC1 then 5 else 4)) = 5 → exec (.tsReq onC1 tsTag arrival) s =
      .next (s.enqueue (if onC1 then 2 else 1) (pkt 5 [tsTag.zeroExtend 64 <<< 16, arrival, 0])))
    ∧ (c1 →
      (s.lnk.pairSend = some (acc, stamp) → ∃ t, exec .pairPacketSend s = .next t ∧ t.lnk.pairSend = none
        ∧ queues t 2 (pkt 6 [acc.zeroExtend 64 <<< 32, stamp, 0, codeWord (s.codeFor acc).pos 0, codeWord (s.codeFor acc).pos 1]))
      ∧ (∃ t tagged, exec (.pairTsReqSend none) s = .next t ∧ t.lnk.sent = [(5, controlBlock 0x93 tagged)] ∧ t.free = s.free + 1
        ∧ t.lnk.pairSilent = s.lnk.pairSilent + 1 ∧ t.lnk.pairSeen = seen
        ∧ t.on (LANE.ST_PAIR_OK 5) = (seen && s.lnk.pairMeasured) ∧ KeepsRegs [(LANE.ST_PAIR_OK 5).key] s t)
      ∧ (∃ t tagged, exec (.pairTsReqSend (some r)) s = .next t ∧ t.lnk.sent = [(5, controlBlock 0x93 tagged)] ∧ t.lnk.pairMeasured = true
        ∧ t.on (LANE.ST_PAIR_OK 5) = seen
        ∧ t.rd (CTL.PAIR_LAT 1) = ofSigned 32 (openDiv (((r.received - r.sent).toNat : Int) - (r.partnerOut - r.partnerIn).toNat) 2))
      ∧ (code.length ≤ 8 →
        (¬follows ∨ ¬late → ∃ t, exec (.pairPacketReceived acc stamp depart arrival code) s = .next t
          ∧ t.lnk.pairSeen = true ∧ t.lnk.pairSilent = 0 ∧ t.on (LANE.ST_PAIR_OK 5) = s.lnk.pairMeasured
          ∧ (follows → t.lnk.pairAt = some instant) ∧ (¬follows → t.lnk.pairAt = s.lnk.pairAt)
          ∧ t.lnk.partnerCode = (if s.ownCode = [] ∨ t.lnk.pairAt ≠ none then some (codePositions code) else none)
          ∧ (0 < shared → t.rd (CTL.CODE_CLASH 1) = min (s.rd (CTL.CODE_CLASH 1) + shared) 65535 ∧ t.on (LANE.INT_CODE_CLASH 5) = true)
          ∧ (shared = 0 → t.rd (CTL.CODE_CLASH 1) = s.rd (CTL.CODE_CLASH 1)))
        ∧ (follows → late → exec (.pairPacketReceived acc stamp depart arrival code) s = .next
            ((((shown.count (CTL.PHASE_LATE 1) 1).put (LANE.INT_PAIR_LATE 5) true).trigger 8).clashAtPacket (codePositions code)))))

/-! ### Power, reset and clocks (spec/17, spec/18) -/

/-- R442 to R463, the sentinel clock running: the rails assert BROWNOUT_RAIL, the feeds switch over with HOLD and the inhibit latch set,
commands on the domains of a target queue their turns or are refused, a turn switches the domain and resets its units or makes them due
for release, parking queues a turn for every domain that is on, and a wake is a SYSTEM reset. The end of a gap counts the switch-over,
sets the trips met in it and then lets in what waited, in order; a write to PWR in the gap waits (log 47). Whether FLAP shows after four
switch-overs, and whether a return after it has waited long enough, are free values (log 7). -/
def Obligations.PowerRules : Prop :=
  ∀ (path : Path) (value : Word) (rail : Fin 6) (isB yes monRx : Bool) (turn : Turn) (rest : List Turn) (ds : List Nat) (s : State),
    let i := (rail : Nat)
    let other := 1 - s.rd PWR.FEED_ACTIVE
    let v := value.toNat
    let arrived := ({ s with bus := {} } : State)
    let err := fun e : Fld => arrived.put e true
    let switched := fun t : State => t.pwr.hold = true ∧ t.rd PWR.FEED_ACTIVE = other ∧ t.on SAF.ST_INHIBIT = true ∧ t.on SAF.TOKENS = false
      ∧ t.pwr.back = decide (other = s.rd PWR.PRIMARY)
    let queued := fun (t : State) turns => t.pwr.turns = s.pwr.turns ++ turns ∧ t.on PWR.CMD_BUSY = true ∧ t.rd PWR.CMD_RESULT = 0
    let onDomains := powerOrder.reverse.filter fun n => s.on (PWR.DOM_ON n)
    (s.pwr.hold = false →
      (∃ t, exec (.railLost rail) s = .next t ∧ bit (t.rd PWR.RAIL_GOOD) i = false
        ∧ (s.rst.episodes = [] → OpensEpisode ⟨2, 0, false⟩ 1 systemPages t))
      ∧ (∃ t, exec (.railGood rail) s = .next t ∧ bit (t.rd PWR.RAIL_GOOD) i = true
        ∧ (t.rd PWR.RAIL_GOOD = 63 → SourceGone 2 0 t))
      ∧ exec (.feedPresenceChange isB yes) s = .next (s.put (if isB then PWR.B_PRESENT else PWR.A_PRESENT) yes)
      ∧ (s.on PWR.ST_PARKED = true → s.rst.episodes = [] →
        (s.on (if monRx then PWR.WAKE_MON else PWR.WAKE_SPI) = true → ∃ t, exec (.wakePin monRx) s = .next t ∧ t.on PWR.ST_PARKED = false
          ∧ OpensEpisode ⟨9, 0, true⟩ 1 systemPages t)
        ∧ (s.rd PWR.WAKE_S ≠ 0 → ∃ t, exec .wakeTimer s = .next t ∧ t.on PWR.ST_PARKED = false
          ∧ OpensEpisode ⟨9, 0, true⟩ 1 systemPages t)))
    ∧ (s.runs pPWR = true → s.pwr.hold = false →
      (s.on (if other = 0 then PWR.A_PRESENT else PWR.B_PRESENT) = false → ∃ t, exec .standbyAbsent s = .next t
        ∧ t.on PWR.INT_STANDBY_ABSENT = true ∧ t.on (C.FAULT pPWR 1) = true)
      ∧ (∃ t, exec .feedSwitchover s = .next t ∧ switched t)
      ∧ (s.rd PWR.FEED_ACTIVE ≠ s.rd PWR.PRIMARY →
        (s.pwr.flapped = false → ∃ t, exec .feedReturn s = .next t ∧ switched t)
        ∧ (s.pwr.flapped = true → ∃ t, exec .feedReturn s = .next t
          ∧ ((switched t ∧ t.pwr.flapped = false) ∨ t = { s with free := s.free + 1 })))
      ∧ (s.pwr.turns = turn :: rest → turn.domain ≤ 150 → (turn.on = false → turn.domain = 148 → s.nvs.pulse = false) →
        (turn.on = true → s.on (PWR.DOM_ON turn.domain) = false → ∃ t, exec (.domainTurn true) s = .next t
          ∧ t.on (PWR.DOM_ON turn.domain) = true ∧ t.pwr.turns = rest
          ∧ (∀ p ∈ pagesOfDomain turn.domain, p ∈ s.rst.held → (∀ e ∈ s.rst.episodes, p ∉ e.pages) → ∃ x ∈ t.rst.due, x.page = p))
        ∧ (turn.on = true → s.on (PWR.DOM_ON turn.domain) = false → ∃ t, exec (.domainTurn false) s = .next t
          ∧ t.on (PWR.DOM_ON turn.domain) = false ∧ t.pwr.turns = rest ∧ t.on PWR.INT_DOM_FAIL = true
          ∧ t.on (C.FAULT (pageOfDomain turn.domain) 29) = true)
        ∧ (turn.on = false → s.on (PWR.DOM_ON turn.domain) = true → ∃ t, exec (.domainTurn yes) s = .next t
          ∧ t.on (PWR.DOM_ON turn.domain) = false ∧ t.pwr.turns = rest ∧ ∀ p ∈ pagesOfDomain turn.domain, p ∈ t.rst.held)
        ∧ (turn.on = s.on (PWR.DOM_ON turn.domain) → ∃ t, exec (.domainTurn yes) s = .next t ∧ t.pwr.turns = rest
          ∧ t.on (PWR.DOM_ON turn.domain) = turn.on ∧ t.rst = s.rst)))
    ∧ (s.pwr.hold = true → ∃ u : State, exec .holdRelease s = .next (s.pwr.held.foldl State.runHeld u.degrade).safOutputs
      ∧ u.pwr.hold = false ∧ u.pwr.held = [] ∧ u.saf.gapTrips = 0 ∧ u.on PWR.INT_SWITCHOVER = true
      ∧ (∀ i < 24, bit s.saf.gapTrips i = true → u.trip i = true)
      ∧ (if s.pwr.back then u.rd PWR.RETURN_CNT = min (s.rd PWR.RETURN_CNT + 1) 65535
         else u.rd PWR.SWITCH_CNT = min (s.rd PWR.SWITCH_CNT + 1) 65535))
    ∧ (s.pwr.hold = true → exec (.domainOn path value) s = .next (arrived.keep (.write path pPWR 0x40 v))
      ∧ exec (.domainOff path value) s = .next (arrived.keep (.write path pPWR 0x40 v))
      ∧ exec (.park path value) s = .next (arrived.keep (.write path pPWR 0x48 v)))
    ∧ (s.runs pPWR = true → s.pwr.hold = false →
      (s.on PWR.CMD_BUSY = true → exec (.domainOn path value) s = .next (err (C.ERR_BUSY pPWR))
        ∧ exec (.domainOff path value) s = .next (err (C.ERR_BUSY pPWR))
        ∧ (value.getLsbD 31 = true → ∃ t, exec (.park path value) s = .next t ∧ t.on (C.ERR_BUSY pPWR) = true
          ∧ KeepsRegs [(C.ERR_BUSY pPWR).key] s t ∧ t.pwr = s.pwr))
      ∧ (s.on PWR.CMD_BUSY = false →
        (commandDomains v = none → exec (.domainOn path value) s = .next (err (C.ERR_VALUE pPWR))
          ∧ exec (.domainOff path value) s = .next (err (C.ERR_VALUE pPWR)))
        ∧ (commandDomains v = some ds → value.getLsbD 31 = true →
          let turns := (ds.filter fun d => !s.domOn d).map fun d => (⟨d, true, true⟩ : Turn)
          (turns ≠ [] → ∃ t, exec (.domainOn path value) s = .next t ∧ queued t turns)
          ∧ (turns = [] → (∀ x ∈ s.pwr.turns, x.command = false) → ∃ t, exec (.domainOn path value) s = .next t
            ∧ t.pwr.turns = s.pwr.turns ∧ t.on PWR.CMD_BUSY = false ∧ t.rd PWR.CMD_RESULT = 1 ∧ t.on PWR.INT_DOM_DONE = true))
        ∧ (commandDomains v = some ds → value.getLsbD 31 = false →
          let turns := (ds.reverse.filter s.domOn).map fun d => (⟨d, false, true⟩ : Turn)
          ((∀ d ∈ ds, s.offRefused d = false) → turns ≠ [] → ∃ t, exec (.domainOff path value) s = .next t ∧ queued t turns)
          ∧ (∀ d, ds.reverse.find? s.offRefused = some d → d ≤ 151 → ∃ t, exec (.domainOff path value) s = .next t
            ∧ t.pwr = s.pwr ∧ t.on (C.ERR_STATE pPWR) = true ∧ t.on PWR.INT_DOM_REFUSED = true ∧ t.rd PWR.CMD_RESULT = 2
            ∧ t.rd PWR.REFUSED_DOMAIN = d))
        ∧ (value.getLsbD 31 = true →
          (s.rd SAF.STATE = 0 ∨ s.rd SAF.STATE = 4 → onDomains ≠ [] → ∃ t, exec (.park path value) s = .next t
            ∧ queued t (onDomains.map fun n => ⟨n, false, true⟩) ∧ t.pwr.parking = true)
          ∧ (s.rd SAF.STATE ≠ 0 → s.rd SAF.STATE ≠ 4 → ∃ t, exec (.park path value) s = .next t
            ∧ t.on (C.ERR_STATE pPWR) = true ∧ t.pwr = s.pwr))))
    ∧ (value.getLsbD 30 = false → commandDomains v = if v % 2 ^ 24 ≤ 151 then some [v % 2 ^ 24] else none)
    ∧ (∀ p, value.getLsbD 30 = true → v % 2 ^ 24 = 0x1000 * p → p < 183 → commandDomains v =
        some ((powerOrder ++ [151]).filter fun d => ((leaves p).map domainOf).contains d))
    ∧ s.offRefused 150 = true ∧ s.offRefused 151 = true

/-- R470 to R476, R485, the sentinel clock running: the sources of reset. Each opens an episode of its reach where none is open; a level
that returns takes its source away; a reset that takes effect holds its folios in reset with their registers at their reset values, and
at COLD leaves RAIL_GOOD at 0 with BROWNOUT_RAIL asserted (log 3); an episode whose sources have all gone ends, is counted and is
logged, and its units are due for release or PWR's sequence starts. The brown-out of the sentinel rail asserts in a feed switch-over's
gap too; any other source waits (log 47). DURATION is a free value (log 7). -/
def Obligations.ResetSources : Prop :=
  ∀ (path : Path) (value : Word) (slot : Fin 8) (e : Episode) (s : State),
    let all := List.range 183
    let none_ := s.rst.episodes = []
    let j := (slot : Nat)
    let opens := fun c src reach pages => ∃ t, exec c s = .next t ∧ OpensEpisode src reach pages t
    let err := fun f : Fld => ({ s with bus := {} }.put f true)
    let reach := value.toNat / 2 ^ 30
    let target := resetTarget (value.toNat % 2 ^ 24)
    let allowed := (path = .host ∨ path = .spi) ∧ s.operating = false
    (∃ t x, exec (.powerOn false) s = .next t ∧ t.rst.ledger = [] ∧ t.rd RST.EPISODES = 0 ∧ t.rst.episodes = [x] ∧ x.reach = 0
      ∧ x.pages = all ∧ x.sources = [⟨0, 0, false⟩, ⟨2, 0, false⟩])
    ∧ (none_ → opens .brownoutSen ⟨1, 0, false⟩ 0 all)
    ∧ (∃ t, exec .brownoutSenDeassert s = .next t ∧ SourceGone 1 0 t ∧ t.regs = s.regs ∧ t.rst.held = s.rst.held)
    ∧ (s.pwr.hold = true → exec (.resetPin true) s =
        .next ({ s with pins := { s.pins with resetN := false } }.keep (.source 3 0 false 0 [] none)))
    ∧ (s.pwr.hold = false →
      (∃ t, exec (.powerOn true) s = .next t ∧ SourceGone 0 0 t ∧ t.regs = s.regs ∧ t.rst.held = s.rst.held)
      ∧ (∃ t, exec (.resetPin false) s = .next t ∧ SourceGone 3 0 t ∧ t.pins.resetN = true)
      ∧ (none_ → opens (.resetPin true) ⟨3, 0, false⟩ 0 all
        ∧ (s.runs pHCP = true → opens .hostLockup ⟨8, 0, true⟩ 2 (subtree pHCP))
        ∧ (s.runs pRST = true → s.runs pHCP = true → s.on RST.WDOG_EN = true →
            (∃ t, exec .watchdogExpiry s = .next t ∧ t.on (C.FAULT pRST 0) = true)
            ∧ (s.on RST.WDOG_REACH = true → opens .watchdogExpiry ⟨4, 0, true⟩ 1 systemPages)
            ∧ (s.on RST.WDOG_REACH = false → opens .watchdogExpiry ⟨4, 0, true⟩ 2 (subtree pHCP)))
        ∧ (s.runs pRST = true → value.getLsbD 29 = true →
            (∀ p, reach = 2 → target = some p → s.serviceRefuses p = false → opens (.swReqGo path value) ⟨5, 8, true⟩ 2 (subtree p))
            ∧ (reach = 1 → allowed → opens (.swReqGo path value) ⟨5, 8, true⟩ 1 systemPages)
            ∧ (reach = 0 → allowed → opens (.swReqGo path value) ⟨5, 8, true⟩ 0 all))
        ∧ (∀ p, s.runs pRST = true → value.getLsbD 31 = true → s.on (RST.HOLD j) = false → target = some p →
            s.serviceRefuses p = false → ∃ t, exec (.holdSlotWrite path slot value) s = .next t ∧ t.on (RST.HOLD j) = true
              ∧ t.rd (RST.HOLD_TARGET j) = value.toNat % 2 ^ 24 ∧ OpensEpisode ⟨5, j, false⟩ 2 (subtree p) t))
      ∧ (s.runs pRST = true →
        (reach = 3 → exec (.swReqGo path value) s = .next (err (C.ERR_VALUE pRST)))
        ∧ (value.getLsbD 29 = true → reach = 2 → target = none → exec (.swReqGo path value) s = .next (err (C.ERR_VALUE pRST)))
        ∧ (∀ p, value.getLsbD 29 = true → reach = 2 → target = some p → s.serviceRefuses p = true →
            exec (.swReqGo path value) s = .next (err (C.ERR_STATE pRST)))
        ∧ (value.getLsbD 29 = true → reach ≤ 1 → ¬allowed → exec (.swReqGo path value) s = .next (err (C.ERR_STATE pRST)))
        ∧ (value.getLsbD 29 = true → reach ≤ 1 → allowed → s.swPulse = true →
            exec (.swReqGo path value) s = .next (err (C.ERR_BUSY pRST)))
        ∧ (value.getLsbD 31 = false → s.on (RST.HOLD j) = true → value.toNat % 2 ^ 24 = s.rd (RST.HOLD_TARGET j) →
            ∃ t, exec (.holdSlotWrite path slot value) s = .next t ∧ t.on (RST.HOLD j) = false ∧ SourceGone 5 j t)
        ∧ (value.getLsbD 31 = true → s.on (RST.HOLD j) = true → value.toNat % 2 ^ 24 ≠ s.rd (RST.HOLD_TARGET j) →
            exec (.holdSlotWrite path slot value) s = .next (err (C.ERR_BUSY pRST)))
        ∧ (path = .host → value = 0xA5A → exec (.wdogKick path value) s = .next { s with bus := {} })
        ∧ (path = .host → value ≠ 0xA5A → exec (.wdogKick path value) s = .next (err (C.ERR_VALUE pRST)))
        ∧ (path ≠ .host → exec (.wdogKick path value) s = .next (err (C.ERR_STATE pRST))))
      ∧ (s.rst.episodes = [e] → e.toApply = [] → (∀ x ∈ e.sources, x.pulse = true) → ∃ t entry, exec .episodeEnd s = .next t
        ∧ t.rst.episodes = [] ∧ t.rd RST.EPISODES = (s.rd RST.EPISODES + 1) % 65536 ∧ t.on RST.INT_EPISODE_END = true
        ∧ t.rst.ledger = (entry :: s.rst.ledger).take 16 ∧ entry.episode = (s.rd RST.EPISODES + 1) % 65536 ∧ entry.reach = e.reach
        ∧ entry.causes = e.causes.map (·.2) ∧ entry.ncause = e.ncause ∧ entry.accession = e.accession
        ∧ (e.reach = 0 → t.rst.coldWait.isSome = true) ∧ (e.reach = 1 → t.pwr.turns = s.pwr.turns ++ powerOrder.map fun d => ⟨d, true, false⟩)
        ∧ (e.reach = 2 → ∀ p ∈ e.pages, p < 183 → domainOf p ≠ 151 → s.on (PWR.DOM_ON (domainOf p)) = true → p ∈ s.rst.held →
            ∃ x ∈ t.rst.due, x.page = p)))
    ∧ (s.rst.episodes = [e] → e.toApply ≠ [] → (s.nvs.pulse = false ∨ pNVS ∉ e.toApply) → (e.reach = 0 ∨ s.pwr.hold = false) →
      ∃ t, exec .resetTakeEffect s = .next t ∧ (∀ p ∈ e.toApply, p ∈ t.rst.held ∧ t.rd (C.INT_EN p) = 0)
        ∧ (e.reach ≤ 1 → (∀ d < 151, t.on (PWR.DOM_ON d) = false) ∧ t.on MON.UNLOCKED = false)
        ∧ (e.reach ≠ 0 → ∀ x ∈ t.rst.episodes, x.toApply = [])
        ∧ (e.reach = 0 → e.pages = all → e.toApply = all → (∀ x ∈ t.rst.episodes, x.toApply = []) ∧ t.rd PWR.RAIL_GOOD = 0
          ∧ ∃ x ∈ t.rst.episodes, (⟨2, 0, false⟩ : Source) ∈ x.sources))

/-- R466 to R469, R480 to R483: releases and clocks. The sentinel logic leaves reset before the rest; a unit that is due is released in
its turn with its clocks good and waits otherwise, for at most 10 ms; a window of the clock checker shows its count and sets or clears its
good bit by the limits of R467 and R468; a lost edge clears it at once; the PLL lock bits follow the PLLs. In a feed switch-over's gap
the clock checker and the releases stand still, and the fall of clock-good waits (log 47). -/
def Obligations.ReleasesAndClocks : Prop :=
  ∀ (page : Fin 183) (domain : Fin 6) (ref : BitVec 9) (count : BitVec 16) (d : Due) (rest : List Due) (n : Nat) (s : State),
    let p := (page : Nat)
    let k := (domain : Nat)
    let expected := [8192, 10240, 12288, 5120, 2048, 512].getD k 0
    let inRange := expected - expected / 100 ≤ count.toNat ∧ count.toNat ≤ expected + expected / 100
    let good := fun t : State => bit (t.rd CHK.CLK_GOOD) k
    (s.rst.coldWait = some n → ∃ t, exec .sentinelRelease s = .next t ∧ (∀ q, q ∈ t.rst.held ↔ q ∈ s.rst.held ∧ q ∉ subtree 6)
      ∧ t.rst.coldWait = none ∧ t.rst.refWait = some n ∧ t.on SAF.SAFEMODE = s.on RST.SAFEMODE)
    ∧ (s.pwr.hold = false → s.rst.due = d :: rest →
      (d.page = p →
        (s.clocksGood p = true → ∃ t, exec (.unitRelease page) s = .next t ∧ p ∉ t.rst.held ∧ (∀ x ∈ t.rst.due, x.page ≠ p)
          ∧ (∀ q, q ≠ p → (q ∈ t.rst.held ↔ q ∈ s.rst.held)))
        ∧ (s.clocksGood p = false → ∃ t, exec (.unitRelease page) s = .next t ∧ t.rst.held = s.rst.held
          ∧ (∀ x ∈ t.rst.due, x.page = p → x.waits = true) ∧ t.on RST.ST_PENDING_CLK = true)
        ∧ (d.waits = true → ∃ t, exec (.clkTmo page) s = .next t ∧ t.rst.held = s.rst.held ∧ (∀ x ∈ t.rst.due, x.page ≠ p)
          ∧ t.on RST.INT_CLK_TMO = true ∧ t.on (C.FAULT pRST 1) = true))
      ∧ (d.page ≠ p → d.waits = false → domainOf d.page ≠ domainOf p → exec (.unitRelease page) s = .next s))
    ∧ (s.pwr.hold = false → s.rst.refWait ≠ none → s.on CHK.REF_GOOD = false → ∃ t, exec .refTimeout s = .next t
        ∧ t.on (C.FAULT pCHK 6) = true ∧ t.rst = s.rst)
    ∧ (s.pwr.hold = true → exec (.unitRelease page) s = .next s ∧ exec (.clkTmo page) s = .next s ∧ exec .refTimeout s = .next s
      ∧ exec (.refCheckWindow ref) s = .next s ∧ exec (.clockCheckWindow domain count) s = .next s)
    ∧ (s.runs pCHK = true → s.pwr.hold = false →
      (254 ≤ ref.toNat → ref.toNat ≤ 280 → ∃ t, exec (.refCheckWindow ref) s = .next t ∧ t.rd CHK.REF_COUNT = ref.toNat
        ∧ t.on CHK.REF_GOOD = true
        ∧ (∀ m, s.rst.refWait = some m → t.rst.refWait = none ∧ t.pwr.turns = s.pwr.turns ++ powerOrder.map fun d => ⟨d, true, false⟩))
      ∧ (ref.toNat < 254 ∨ 280 < ref.toNat → ∃ t, exec (.refCheckWindow ref) s = .next t ∧ t.rd CHK.REF_COUNT = ref.toNat
        ∧ t.on CHK.REF_GOOD = false ∧ (s.on CHK.REF_GOOD = true → t.on CHK.INT_CLK_LOST = true ∧ t.on (C.FAULT pCHK 6) = true))
      ∧ (inRange → s.on CHK.REF_GOOD = true → ∃ t, exec (.clockCheckWindow domain count) s = .next t ∧ t.rd (CHK.COUNT k) = count.toNat
        ∧ good t = true)
      ∧ (inRange → s.on CHK.REF_GOOD = false →
          exec (.clockCheckWindow domain count) s = .next (s.wr (CHK.COUNT k) count.toNat))
      ∧ (¬inRange → ∃ t, exec (.clockCheckWindow domain count) s = .next t ∧ t.rd (CHK.COUNT k) = count.toNat ∧ good t = false
        ∧ (good s = true → t.on CHK.INT_CLK_LOST = true ∧ t.on (C.FAULT pCHK k) = true))
      ∧ (∃ t, exec (.clockEdgeTimeout none) s = .next t ∧ t.on CHK.REF_GOOD = false)
      ∧ (∃ t, exec (.clockEdgeTimeout (some domain)) s = .next t ∧ good t = false
        ∧ (good s = true → t.on CHK.INT_CLK_LOST = true ∧ t.on (C.FAULT pCHK k) = true)))
    ∧ (s.isOff pCLK = false →
      (∃ t, exec (.pllLock domain) s = .next t ∧ bit (t.rd CLK.PLL_LOCK) k = true
        ∧ KeepsRegs [CLK.PLL_LOCK.key, CHK.ST_ALL_GOOD.key, CLK.ST_ALL_LOCKED.key] s t)
      ∧ (bit (s.rd CLK.PLL_LOCK) k = true → ∃ t, exec (.pllUnlock domain) s = .next t ∧ bit (t.rd CLK.PLL_LOCK) k = false
        ∧ (s.pwr.hold = false → s.runs pCHK = true → good t = false)
        ∧ (s.pwr.hold = true → t.pwr.held = s.pwr.held ++ [.unlock k])
        ∧ (s.runs pCLK = true → t.on CLK.INT_UNLOCK = true ∧ t.rd (CLK.UNLOCKS k) = min (s.rd (CLK.UNLOCKS k) + 1) 65535
            ∧ t.on (C.FAULT pCLK 0) = true)))

/-! ### Security, storage, the SPI target and test access (spec/19 to 21) -/

/-- R491 to R512, R522: SEC takes a command from the path that may send it, or sets the error bit of R512; VERIFY ends with the first
row of R494 that fails, its header's rows before the bytes after the header are read, or with SOURCE where the read that comes next fails;
ENROLL stores a root-signed certificate in its empty slot, REVOKE clears and marks its slot, CONFIRM raises the host's minimum, CERT gives
the device certificate, and ATTEST signs with CUR and advances it, reserving indices first where it must; MRAM words wait, at most eight
behind the pulse, are written in order and show; the life record gains an entry; the boot follows BOOTSEL, with no valid boot record from
slot A, and the recovery monitor runs the staged volume that it verifies. -/
def Obligations.SecurityAndStorage : Prop :=
  ∀ (path : Path) (value : Word) (slot o len : Nat) (a : Nat) (w : DWord) (rest : List (Nat × DWord)) (s : State),
    let dest := (value.extractLsb' 20 8).toNat
    let code := value.toNat / 2 ^ 28
    let err := fun f : Fld => ({ s with bus := {} }.put f true)
    let commands : List (Instr × Nat) := [(.verify path value, 1), (.attest path value, 2), (.cert path value, 3), (.enroll path value, 4),
      (.revoke path value, 5), (.confirm path value, 6)]
    let ends := fun (t : State) result => t.on SEC.BUSY = false ∧ t.sec.command = none ∧ t.rd SEC.RESULT = result
      ∧ t.on (if result = 0 then SEC.INT_DONE else SEC.INT_REFUSED) = true
    let flash := fun i => s.nvs.flash.read (o + i)
    let word := s.rd NVS.WADDR
    let srcLen := s.rd SEC.SRC_LEN
    let enrolls := s.rd SAF.STATE = 0 ∨ s.rd SAF.STATE = 1
    let nvsOk := s.on WATCH.ST_NVS_OK = true
    let security := s.nvs.security
    let cur := s.rd SEC.XMSS_CUR
    let fullQueue := s.nvs.pulse = true ∧ 9 ≤ s.nvs.queue.length
    let staged := fun i => s.mon.staging.read i
    (s.runs pSEC = true → ∀ c ∈ commands, code = c.2 →
      (s.on SEC.BUSY = true → exec c.1 s = .next (err (C.ERR_BUSY pSEC)))
      ∧ (s.on SEC.BUSY = false → destOk c.2 dest = false → exec c.1 s = .next (err (C.ERR_VALUE pSEC)))
      ∧ (s.on SEC.BUSY = false → destOk c.2 dest = true → path ≠ .host → c.2 ≠ 2 → c.2 ≠ 3 → exec c.1 s = .next (err (C.ERR_STATE pSEC)))
      ∧ (s.on SEC.BUSY = false → destOk c.2 dest = true → (path = .host ∨ c.2 = 2 ∨ c.2 = 3) → ∃ t, exec c.1 s = .next t
        ∧ t.on SEC.BUSY = true ∧ t.sec.command = some (c.2, dest) ∧ KeepsRegs [SEC.BUSY.key, SEC.ST_BUSY.key] s t))
    ∧ (s.runs pSEC = true →
      (s.sec.command = some (1, slot) → s.sourceFails 256 = false →
        let header := s.verifyHeader s.source srcLen slot
        let result := s.verifyPayload s.source
        (header ≠ 0 → ∃ t, exec .secCommandDone s = .next t ∧ ends t header ∧ t.sec.records = s.sec.records)
        ∧ (header = 0 → s.sourceFails srcLen = true → ∃ t, exec .secCommandDone s = .next t ∧ ends t 10 ∧ t.sec.records = s.sec.records)
        ∧ (header = 0 → s.sourceFails srcLen = false → ∃ t, exec .secCommandDone s = .next t ∧ ends t result
          ∧ (result ≠ 0 ∨ 71 < slot → t.sec.records = s.sec.records)
          ∧ (result = 0 → slot ≤ 71 → Tab.get {} t.sec.records slot = volumeRecord s.source)))
      ∧ (s.sec.command = some (1, slot) → s.sourceFails 256 = true → ∃ t, exec .secCommandDone s = .next t ∧ ends t 10
        ∧ t.sec.records = s.sec.records)
      ∧ (s.sec.command = some (3, slot) → ∃ t, exec .secCommandDone s = .next t ∧ ends t 0
        ∧ t.sec.out = s.nvs.mram.bytes 0x1000 2948 ++ s.sec.out.drop 2948)
      ∧ (let id := (s.source 5).toNat
        s.sec.command = some (4, slot) → s.sourceFails 2948 = false → enrolls → nvsOk → slice s.source 0 4 = magicOwner → s.source 4 = 1 →
        1 ≤ id → id ≤ 4 → s.slotHolds id = false → s.slotRevoked id = false → targetOk (slice s.source 0x4C 32) = true →
        Config.xmssVerify rootKey (slice s.source 0 128) (slice s.source 128 2820) = true → ∃ t, exec .secCommandDone s = .next t
          ∧ ends t 0 ∧ bit t.nvs.security.enrolled (id - 1) = true
          ∧ (∀ x, t.nvs.mram.read x =
              if ownerAddr id ≤ x ∧ x < ownerAddr id + 2948 then s.source (x - ownerAddr id) else s.nvs.mram.read x))
      ∧ (s.sec.command = some (5, slot) → 1 ≤ slot → slot ≤ 4 → enrolls →
        (nvsOk → ∃ t, exec .secCommandDone s = .next t ∧ ends t 0 ∧ bit t.nvs.security.enrolled (slot - 1) = false
          ∧ bit t.nvs.security.revoked (slot - 1) = true ∧ t.rd SEC.REVOKED = t.nvs.security.revoked % 2 ^ 4
          ∧ (∀ x, ownerAddr slot ≤ x → x < ownerAddr slot + 2948 → t.nvs.mram.read x = 0))
        ∧ (¬nvsOk → ∃ t, exec .secCommandDone s = .next t ∧ ends t 11 ∧ t.nvs = s.nvs))
      ∧ (s.sec.command = some (5, slot) → ¬enrolls → ∃ t, exec .secCommandDone s = .next t ∧ ends t 13 ∧ t.nvs = s.nvs)
      ∧ (s.sec.command = some (6, 0x7F) → security.minHost < s.sec.hostSecVer → nvsOk → ∃ t, exec .secCommandDone s = .next t ∧ ends t 0
        ∧ t.nvs = { s.nvs with security := { security with minHost := s.sec.hostSecVer } })
      ∧ (s.sec.command = some (2, slot) →
        (security.lost = true → ∃ t, exec .secCommandDone s = .next t ∧ ends t 14 ∧ t.on (C.FAULT pSEC 1) = true ∧ t.nvs = s.nvs)
        ∧ (security.lost = false → 2 ^ 20 ≤ cur → ∃ t, exec .secCommandDone s = .next t ∧ ends t 12 ∧ t.on SEC.ST_EXHAUSTED = true
          ∧ t.nvs = s.nvs)
        ∧ (security.lost = false → cur < 2 ^ 20 → security.next ≤ cur → ¬nvsOk → ∃ t, exec .secCommandDone s = .next t ∧ ends t 11
          ∧ t.nvs = s.nvs ∧ t.rd SEC.XMSS_CUR = cur)
        ∧ (security.lost = false → cur < 2 ^ 20 → cur < security.next ∨ nvsOk → ∃ t, exec .secCommandDone s = .next t ∧ ends t 0
          ∧ t.rd SEC.XMSS_CUR = cur + 1
          ∧ t.nvs = (if cur < security.next then s.nvs
              else { s.nvs with security := { security with next := min (cur + s.rd SEC.XMSS_RESERVE) (2 ^ 20) } })
          ∧ (cur + 1 = 2 ^ 20 → t.on SEC.ST_EXHAUSTED = true)
          ∧ let body := s.sec.body ++ leBytes 4 cur ++ List.replicate 12 0
            let out := body ++ signature cur body
            t.sec.out = out ++ s.sec.out.drop out.length)))
    ∧ (s.runs pNVS = true →
      (value.getLsbD 31 = true → path = .host → 0x10000 ≤ 8 * word →
        (nvsOk → ¬fullQueue → ∃ t, exec (.wgo path value) s = .next t ∧ t.rd NVS.WADDR = (word + 1) % 2 ^ 19 ∧ t.on NVS.ST_WRITING = true
          ∧ t.nvs.queue = s.nvs.queue ++ [(word, BitVec.ofNat 64 (s.rd NVS.WDATA_HI * 2 ^ 32 + s.rd NVS.WDATA_LO))])
        ∧ (nvsOk → fullQueue → exec (.wgo path value) s = .next (err (C.ERR_BUSY pNVS)))
        ∧ (¬nvsOk → ∃ t, exec (.wgo path value) s = .next t ∧ t.on (C.ERR_STATE pNVS) = true ∧ t.nvs = s.nvs
          ∧ t.rd NVS.BLOCKED_CNT = min (s.rd NVS.BLOCKED_CNT + 1) 65535))
      ∧ (value.getLsbD 31 = true → path ≠ .host ∨ 8 * word < 0x10000 → exec (.wgo path value) s = .next (err (C.ERR_STATE pNVS)))
      ∧ (nvsOk → ∃ t new, exec .lifeRecordWrite s = .next t ∧ t.nvs.life = (new :: s.nvs.life).take 256
        ∧ new.seq = (s.nvs.life.head?.getD {}).seq + 1 ∧ new.map = (List.range 64).map (fun g => s.rd (REG.ENGINE_OF_RG g)) ∧ t.nvs.owed = 0 ∧ t.nvs.coldPending = false
        ∧ t.nvs.lifePending = false ∧ t.regs = s.regs)
      ∧ (¬nvsOk → ∃ t, exec .lifeRecordWrite s = .next t ∧ t.nvs.life = s.nvs.life
        ∧ t.rd NVS.BLOCKED_CNT = min (s.rd NVS.BLOCKED_CNT + 1) 65535))
    ∧ (s.nvs.pulse = true → s.nvs.queue = (a, w) :: rest → ∃ t, exec .mramWriteDone s = .next t ∧ t.nvs.queue = rest
      ∧ ∀ x, t.nvs.mram.read x = if 8 * a ≤ x ∧ x < 8 * a + 8 then w.extractLsb' (8 * (x - 8 * a)) 8 else s.nvs.mram.read x)
    ∧ (s.runs pHCP = true → s.runs pSEC = true → s.runs pNVS = true → s.mon.running = false → s.mon.recovery = false →
      (s.rd RST.BOOTSEL = 3 ∨ s.rd RST.BOOTSEL = 4 → ∃ t, exec .bootSequence s = .next t ∧ t.mon.recovery = true ∧ t.mon.running = false)
      ∧ (s.rd RST.BOOTSEL = 1 → s.hostVolume 0 = none → ∃ t, exec .bootSequence s = .next t ∧ t.mon.recovery = true
        ∧ t.on (C.FAULT pSEC 2) = true)
      ∧ (s.rd RST.BOOTSEL = 2 → s.hostVolume 1 = some (o, len) → s.verifyVolume flash len 0x7F = 0 → ∃ t, exec .bootSequence s = .next t
        ∧ t.mon.running = true ∧ t.mon.recovery = false ∧ t.rd SEC.HOST_VOL_ID = sliceLe flash 8 2 ∧ t.rd SEC.HOST_VOL_VER = sliceLe flash 0x0A 2
        ∧ t.sec.hostHash = slice flash 0x38 32)
      ∧ (s.rd RST.BOOTSEL = 0 ∨ 5 ≤ s.rd RST.BOOTSEL → s.bootRecord = none → s.hostVolume 0 = some (o, len) →
        s.verifyVolume flash len 0x7F = 0 → ∃ t, exec .bootSequence s = .next t ∧ t.mon.running = true ∧ t.mon.recovery = false
        ∧ t.on SEC.ST_BOOT_REVERTED = true ∧ t.sec.hostHash = slice flash 0x38 32))
    ∧ (s.runs pMON = true → value.getLsbD 31 = true → s.mon.recovery = true → s.rd RST.BOOTSEL ≠ 4 → ∃ t,
      exec (.recovGo path value) s = .next t ∧ t.rd MON.RECOV_RESULT = s.verifyVolume staged (s.rd MON.RECOV_LEN) 0x7F
        ∧ (s.verifyVolume staged (s.rd MON.RECOV_LEN) 0x7F = 0 → t.mon.running = true ∧ t.mon.recovery = false)
        ∧ (s.verifyVolume staged (s.rd MON.RECOV_LEN) 0x7F ≠ 0 → t.mon = s.mon))
    ∧ (s.runs pMON = true → value.getLsbD 31 = false ∨ s.mon.recovery = false ∨ s.rd RST.BOOTSEL = 4 →
      exec (.recovGo path value) s = .next s.written)

/-- R516 to R522, R552, R553, R555: the SPI target answers a whole frame with SYNC, STATUS, data and CRC, with CRC or MALFORMED and no
access where the frame is wrong, and with nothing while its domain is off or the frame breaks off, and reaches the staging window of a
recovery monitor that listens to it; Carrel reads characters into a line of 128, answers each command with its data lines, its status line
and the prompt, after the timeout of a `snap` that still waits, and the recovery monitor knows its own commands. -/
def Obligations.SpiAndCarrel : Prop :=
  ∀ (addr data value : Word) (crc char : Byte) (count size rate : Nat) (bytes check : List Byte) (dest : Byte) (slotB : Bool) (p : Nat)
    (s : State),
    let frame := fun (status : Byte) (l : List Byte) => ([0xA5, status] : List Byte) ++ l ++ [BitVec.ofNat 8 (crc8Spi (status :: l))]
    let be := fun v : Word => [v.extractLsb' 24 8, v.extractLsb' 16 8, v.extractLsb' 8 8, v.extractLsb' 0 8]
    let read := s.busRead addr.toNat
    let write := s.busWrite .spi addr.toNat data.toNat
    let spi := fun (t : State) l => { t with spi := { response := l, abandoned := false } }
    let expired := if s.mon.snapWait then ["E 09 TIMEOUT", "carrel> "] else []
    let heard := s.snapExpires
    let replies := fun c (lines : List String) (status : String) (q : State → Prop) => ∃ t, exec c s = .next t
      ∧ t.mon.output = expired ++ lines ++ [status, "carrel> "] ∧ t.mon.busy = false ∧ t.mon.snapWait = false ∧ q t
    let plain := fun t : State => t.regs = s.regs ∧ t.nvs = s.nvs
    let slot := if slotB then 1 else 0
    let vol := fun i => bytes.getD i 0
    (s.runs 0 = true → s.inStaging addr.toNat = false →
      (crc8Spi (0x0B :: be addr) = crc.toNat → read.2.error = false →
        exec (.spiRead addr crc) s = .next (spi { read.1 with bus := read.2 } (frame 0 (be read.2.data))))
      ∧ (crc8Spi (0x0B :: be addr) = crc.toNat → read.2.error = true →
        exec (.spiRead addr crc) s = .next (spi { read.1 with bus := read.2 } (frame 1 [0, 0, 0, 0])))
      ∧ (crc8Spi (0x0B :: be addr) ≠ crc.toNat → exec (.spiRead addr crc) s = .next (spi s (frame 2 [0, 0, 0, 0])))
      ∧ (crc8Spi (0x02 :: (be addr ++ be data)) = crc.toNat →
        exec (.spiWrite addr data crc) s = .next (spi { write.1 with bus := write.2 } (frame (if write.2.error then 1 else 0) [])))
      ∧ (crc8Spi (0x02 :: (be addr ++ be data)) ≠ crc.toNat → exec (.spiWrite addr data crc) s = .next (spi s (frame 2 [])))
      ∧ (char ≠ 0x0B → char ≠ 0x02 → exec (.spiMalformedFrame char) s = .next (spi s (frame 3 []))))
    ∧ (s.runs 0 = true → s.inStaging addr.toNat = true → addr.toNat % 4 = 0 →
      (crc8Spi (0x0B :: be addr) = crc.toNat → ∃ t, exec (.spiRead addr crc) s = .next t ∧ t.regs = s.regs
        ∧ t.spi.response = frame 0 (be (BitVec.ofNat 32 (s.mon.staging.le (addr.toNat - 0x70000000) 4))))
      ∧ (crc8Spi (0x02 :: (be addr ++ be data)) = crc.toNat → ∃ t, exec (.spiWrite addr data crc) s = .next t ∧ t.regs = s.regs
        ∧ t.spi.response = frame 0 [] ∧ t.mon.staging = s.mon.staging.setLe (addr.toNat - 0x70000000) 4 data.toNat))
    ∧ (s.runs 0 = false → exec (.spiRead addr crc) s = .next (spi s []) ∧ exec (.spiWrite addr data crc) s = .next (spi s [])
      ∧ (char ≠ 0x0B → char ≠ 0x02 → exec (.spiMalformedFrame char) s = .next (spi s [])))
    ∧ exec .spiCsNEarlyRise s = .next (spi s [])
    ∧ exec .spiFrameAbandon s = .next { s with spi := { response := [], abandoned := true } }
    ∧ (s.runs pI2C = true → exec .i2cStretchTimeout s = .next { s with mon.i2cFailed := s.mon.i2cFailed + 1 })
    ∧ (s.mon.busy = false → exec .lineTimeout s = .next { s with mon.line := [], mon.lineLong := false })
    ∧ (s.runs pHCP = true → exec (.monCharacter char true) s = .next (s.count MON.FRAME_ERR 1))
    ∧ (s.runs pHCP = true → s.mon.running = true →
      (s.mon.busy = false → s.mon.lineLong = false → char ≠ 13 → char ≠ 10 → s.mon.line.length < 128 →
        exec (.monCharacter char false) s = .next { s with mon.line := s.mon.line ++ [char] })
      ∧ (s.mon.busy = false → s.mon.lineLong = false → char ≠ 13 → char ≠ 10 → 128 ≤ s.mon.line.length →
        exec (.monCharacter char false) s = .next { s with mon.line := [], mon.lineLong := true })
      ∧ (s.mon.busy = false → s.mon.lineLong = true → char = 13 ∨ char = 10 → exec (.monCharacter char false) s =
        .next { s with mon.line := [], mon.lineLong := false, mon.output := ["E 08 LONG", "carrel> "] })
      ∧ (s.mon.busy = true → s.mon.rx.length < 256 → exec (.monCharacter char false) s = .next { s with mon.rx := s.mon.rx ++ [char] })
      ∧ (s.mon.busy = true → 256 ≤ s.mon.rx.length → exec (.monCharacter char false) s = .next (s.count MON.RX_OVF 1)))
    ∧ (s.runs pHCP = true → s.mon.running = true → s.mon.rx = [] →
      replies .carrelUnknownCommand [] "E 01 SYNTAX" plain
      ∧ replies .carrelVer [hexWord (s.wordShown 0 0x60), hexWord (s.rd SEC.HOST_VOL_ID * 65536 + s.rd SEC.HOST_VOL_VER),
          toString (s.rd (CTL.C_VERSION 0)) ++ " " ++ toString (s.rd L0.B_VERSION), hexWord (s.wordShown pRST 0x44)] "OK" plain
      ∧ (count = 0 ∨ 64 < count → replies (.carrelPeek addr count) [] "E 01 SYNTAX" plain)
      ∧ (1 ≤ count → count ≤ 64 →
        let lines := (List.range count).zipWith (fun i r => peekLine ((addr.toNat + 4 * i) % 2 ^ 32) r) (heard.readMany addr.toNat count).2
        lines.length = count ∧ replies (.carrelPeek addr count) lines "OK" fun t => t.regs = (heard.readMany addr.toNat count).1.regs)
      ∧ (addr.toNat < 0x40000000 ∨ 0x40000000 + 0x1000 * 183 ≤ addr.toNat → replies (.carrelPoke addr value) [] "E 06 ADDR" plain
        ∧ replies (.carrelFolio addr) [] "E 06 ADDR" plain ∧ replies (.carrelTrace addr) [] "E 06 ADDR" plain)
      ∧ (folioOf addr.toNat = some p →
        let u := heard.putErrBits p 0
        let r := u.busWrite .mon addr.toNat value.toNat
        let new := r.1.errBits p
        replies (.carrelPoke addr value) (errNames new) (if r.2.error then "E 06 ADDR" else errStatus new) fun t =>
          t.regs = (r.1.putErrBits p (new ||| heard.errBits p)).regs)
      ∧ (s.runs pREG = true → addr.toNat = 0x40000000 + 0x1000 * pREG + 0x100 → replies (.carrelPoke addr value) [] "OK" fun t =>
          t.rdS (REG.PARAM 0) = value.toNat ∧ t.rd (REG.PARAM 0) = s.rd (REG.PARAM 0))
      ∧ (folioOf addr.toNat = some p →
        (∃ lines : List String, 2 ≤ lines.length ∧ replies (.carrelFolio addr) lines "OK" fun _ => True)
        ∧ replies (.carrelTrace addr) [] "OK" (fun t => t.mon.trace = some (subtree p) ∧ plain t))
      ∧ (∃ lines : List String, lines.length = 183 ∧ replies .carrelTree lines "OK" plain)
      ∧ replies .carrelTraceOff [] "OK" (fun t => t.mon.trace = none ∧ t.mon.traceBuf = [] ∧ plain t)
      ∧ (s.runs 0 = true → ∃ t, exec .carrelSnap s = .next t ∧ t.mon.snapWait = true ∧ t.mon.busy = true ∧ t.on CAT.SNAP_BUSY = true
        ∧ t.mon.output = expired)
      ∧ (size < 3080 ∨ 4197380 < size → replies (.volLoad size bytes check) [] "E 05 VALUE" plain)
      ∧ (3080 ≤ size → size ≤ 4197380 → bytes.length = size → check.length = 4 →
        (check = shake256 bytes 4 → replies (.volLoad size bytes check) ["READY"] "OK" fun t => t.mon.volume = some bytes)
        ∧ (check ≠ shake256 bytes 4 → replies (.volLoad size bytes check) ["READY"] "E 07 CHECK" fun t => t.mon.volume = none))
      ∧ (3080 ≤ size → size ≤ 4197380 → bytes.length + check.length < size + 4 → ∃ t, exec (.volLoad size bytes check) s = .next t
        ∧ t.mon.output = expired ++ ["READY"] ∧ t.mon.busy = true ∧ t.mon.receiving = true ∧ t.mon.volume = none ∧ plain t)
      ∧ (rate = 921600 → replies (.baud rate) [] "OK" fun t => t.rd MON.BAUD = 1)
      ∧ (rate = 3000000 → replies (.baud rate) [] "OK" fun t => t.rd MON.BAUD = 2)
      ∧ (rate ≠ 921600 → rate ≠ 3000000 → replies (.baud rate) [] "E 05 VALUE" plain)
      ∧ (s.mon.volume = none → replies (.volWrite slotB) [] "E 03 STATE" plain ∧ replies (.volVerify dest) [] "E 03 STATE" plain)
      ∧ (s.mon.volume = some bytes →
        (s.runs pSEC = true → s.on SEC.BUSY = false → destOk 1 dest.toNat = true →
          let r := s.verifyVolume vol bytes.length dest.toNat
          replies (.volVerify dest) [toString r] "OK" fun t => t.rd SEC.RESULT = r ∧ t.on SEC.BUSY = false)
        ∧ (s.activeSlot = slot → replies (.volWrite slotB) [] "E 03 STATE" plain)
        ∧ (s.activeSlot ≠ slot → s.runs pNVS = true → s.slotVolumes slot = [] → vol 5 = 1 ∨ vol 5 = 2 →
          4096 + pageUp bytes.length ≤ Config.flashMib * 2 ^ 20 / 2 → replies (.volWrite slotB) [] "OK" fun t =>
            ∀ i < bytes.length, t.nvs.flash.read (slotBase slot + 4096 + i) = vol i)
        ∧ (s.activeSlot ≠ slot → s.runs pNVS = true → vol 5 ≠ 1 → vol 5 ≠ 2 → replies (.volWrite slotB) [] "E 07 CHECK" plain)))
    ∧ (s.mon.receiving = true → s.mon.rx = [] → ∃ t, exec .volLoadTimeout s = .next t
      ∧ t.mon.output = ["E 09 TIMEOUT", "carrel> "] ∧ t.mon.busy = false ∧ t.mon.receiving = false ∧ plain t)
    ∧ (s.runs pHCP = true → s.mon.running = false → s.mon.recovery = true → s.rd RST.BOOTSEL ≠ 3 → s.mon.rx = [] →
      (s.mon.volume = none → replies .carrelBoot [] "E 03 STATE" plain)
      ∧ (s.mon.volume = some bytes → s.verifyVolume vol bytes.length 0x7F = 0 → replies .carrelBoot [] "OK" fun t => t.mon.running = true)
      ∧ (s.mon.volume = some bytes → s.verifyVolume vol bytes.length 0x7F ≠ 0 → replies .carrelBoot [] "E 07 CHECK" plain)
      ∧ replies .carrelTree [] "E 01 SYNTAX" plain)
    ∧ (s.mon.trace = none → exec .tracePoll s = .next s)
    ∧ (p < 183 → s.mon.trace = some [p] → s.mon.traceBuf = [] → s.mon.traceLost = 0 →
      let now := (s.readWord p 0x14).2
      ∃ t, exec .tracePoll s = .next t ∧ t.mon.output = [] ∧ Tab.get 0 t.mon.traceLast p = now
        ∧ t.mon.traceBuf.length = (List.range 32).countP fun i => bit now i && !bit (Tab.get 0 s.mon.traceLast p) i)

/-- R523 to R531: an unlock answers with a challenge outside OPERATIONAL and DEGRADED and is counted, a token for it unlocks its SCOPE and
ends the challenge, any other is counted, and every relock ends what test access held. With SCOPE bit 1, an engine halts and goes on, or
answers STATE in reset, and the DEBUG source holds a subtree, one at a time, or pulses at reach SYSTEM, once a feed switch-over's gap is
over (log 47); EXTEST drives the pins in INIT and SAFE_HOLD with SCOPE bit 2. -/
def Obligations.TestAccess : Prop :=
  ∀ (re : Fin 72) (addr : Word) (body signature : List Byte) (cells pins : BitVec 79) (p : Nat) (s : State),
    let k := (re : Nat)
    let e := s.engine re
    let reads := s.runs pHCP = true ∧ s.mon.running = true ∧ s.mon.rx = []
    let open_ := s.on MON.UNLOCKED = true ∧ bit (s.rd MON.SCOPE) 1 = true
    let expired := if s.mon.snapWait then ["E 09 TIMEOUT", "carrel> "] else []
    let heard := s.snapExpires
    let replies := fun c (lines : List String) (status : String) (q : State → Prop) => ∃ t, exec c s = .next t
      ∧ t.mon.output = expired ++ lines ++ [status, "carrel> "] ∧ t.mon.busy = false ∧ t.mon.snapWait = false ∧ q t
    let relocked := fun t : State => t.on MON.UNLOCKED = false ∧ (s.on MON.UNLOCKED = true → t.rd MON.SCOPE = 0 ∧ t.rd MON.UNLOCK_LEFT = 0
      ∧ t.on MON.INT_RELOCK = true ∧ t.on MON.ST_EXTEST = false ∧ t.jtag.instr = 15 ∧ (∀ q < 183, t.on (C.EN q) = false)
      ∧ (∀ n < 72, (t.engine n).debugHalt = false) ∧ (∀ x ∈ t.rst.episodes, ∀ y ∈ x.sources, ¬(y.code = 6 ∧ y.pulse = false)))
    let field := fun a n => (body.drop a).take n
    let may := s.on MON.UNLOCKED = true ∧ bit (s.rd MON.SCOPE) 2 = true ∧ (s.rd SAF.STATE = 0 ∨ s.rd SAF.STATE = 4)
    (reads →
      (s.operating = false → ∃ challenge, challenge = shake256 (deviceId ++ leBytes 8 s.acq.time.toNat
            ++ leBytes 4 (min (s.rd MON.UNLOCK_COUNT + 1) 65535)) 16
        ∧ replies .unlock [hexBytes challenge] "OK" fun t => t.mon.challenge = some challenge
          ∧ t.rd MON.UNLOCK_COUNT = min (s.rd MON.UNLOCK_COUNT + 1) 65535 ∧ KeepsRegs [MON.UNLOCK_COUNT.key] s t)
      ∧ (s.operating = true → replies .unlock [] "E 03 STATE" (fun t => t.mon.challenge = none
          ∧ t.rd MON.UNLOCK_COUNT = min (s.rd MON.UNLOCK_COUNT + 1) 65535)
        ∧ replies (.token body signature) [] "E 03 STATE" fun t => t.regs = s.regs)
      ∧ (s.operating = false → body.length = 64 → signature.length = 2820 → field 0 5 = [0x48, 0x4A, 0x54, 0x55, 1] → field 6 2 = [0, 0] →
        1 ≤ (body.getD 5 0).toNat → (body.getD 5 0).toNat ≤ 7 → field 8 32 = deviceId → s.mon.challenge = some (field 0x28 16) →
        1 ≤ ofLeBytes (field 0x38 4) → ofLeBytes (field 0x38 4) ≤ 86400 → field 0x3C 4 = [0, 0, 0, 0] →
        Config.xmssVerify rootKey body signature = true → replies (.token body signature) [] "OK" fun t => t.on MON.UNLOCKED = true
          ∧ t.rd MON.SCOPE = (body.getD 5 0).toNat ∧ t.rd MON.UNLOCK_LEFT = ofLeBytes (field 0x38 4) ∧ t.mon.challenge = none
          ∧ t.on MON.INT_UNLOCK = true)
      ∧ (s.operating = false → s.mon.challenge = none ∨ Config.xmssVerify rootKey body signature = false ∨ body.length ≠ 64 →
        replies (.token body signature) [] "E 07 CHECK" fun t => t.rd MON.UNLOCK_FAIL = min (s.rd MON.UNLOCK_FAIL + 1) 65535
          ∧ t.on (C.FAULT pMON 0) = true ∧ t.on MON.UNLOCKED = s.on MON.UNLOCKED ∧ t.mon.challenge = s.mon.challenge)
      ∧ replies .lock [] "OK" relocked
      ∧ (¬open_ → ∀ c ∈ ([.haltRe re, .goRe re, .regsRe re, .dresetSubtree addr, .dresetSys, .release] : List Instr),
        replies c [] "E 02 LOCKED" fun t => t.regs = s.regs ∧ t.engines = s.engines ∧ t.rst = s.rst)
      ∧ (open_ →
        (s.runs (pRe k) = true →
          (s.on (C.HALT (pRe k)) = false → s.operating = false →
            replies (.haltRe re) [] "OK" fun t => t.on (C.HALT (pRe k)) = true ∧ (t.engine k).debugHalt = true)
          ∧ (s.on (C.HALT (pRe k)) = true → replies (.haltRe re) [] "OK" fun t => t.regs = s.regs ∧ t.engines = s.engines)
          ∧ (e.running.isSome = true → e.debugHalt = true →
            replies (.goRe re) [] "OK" fun t => t.on (C.HALT (pRe k)) = false ∧ t.on (C.HALTED (pRe k)) = false
              ∧ t.engine k = { e with debugHalt := false })
          ∧ (e.running.isSome = false ∨ e.debugHalt = false → replies (.goRe re) [] "OK" fun t =>
            t.regs = (heard.resumeLeaf (pRe k)).regs ∧ t.engines = (heard.resumeLeaf (pRe k)).engines)
          ∧ (s.on (C.HALTED (pRe k)) = true → replies (.regsRe re) e.regLines "OK" fun t => t.engines = s.engines))
        ∧ (s.runs (pRe k) = false → replies (.haltRe re) [] "E 03 STATE" (fun t => t.on (C.ERR_STATE (pRe k)) = true ∧ t.engines = s.engines)
          ∧ replies (.goRe re) [] "E 03 STATE" fun t => t.on (C.ERR_STATE (pRe k)) = true ∧ t.engines = s.engines)
        ∧ (s.runs (pRe k) = false ∨ s.on (C.HALTED (pRe k)) = false → replies (.regsRe re) [] "E 03 STATE" fun t => t.engines = s.engines)
        ∧ (s.pwr.hold = false → s.rst.episodes = [] → replies .dresetSys [] "OK" (OpensEpisode ⟨6, 1, true⟩ 1 systemPages))
        ∧ (addr.toNat / 2 ^ 24 ≠ 0x40 ∨ resetTarget (addr.toNat - 0x40000000) = none →
          replies (.dresetSubtree addr) [] "E 05 VALUE" fun t => t.regs = s.regs ∧ t.rst = s.rst)
        ∧ (addr.toNat / 2 ^ 24 = 0x40 → resetTarget (addr.toNat - 0x40000000) = some p → pHCP ∉ subtree p →
          (s.debugHeld = true → replies (.dresetSubtree addr) [] "E 04 BUSY" fun t => t.regs = s.regs ∧ t.rst = s.rst)
          ∧ (s.pwr.hold = false → s.rst.episodes = [] →
            replies (.dresetSubtree addr) [] "OK" (OpensEpisode ⟨6, 0, false⟩ 2 (subtree p))))
        ∧ (s.pwr.hold = false → replies .release [] "OK" (SourceGone 6 0))
        ∧ (s.pwr.hold = true → replies .release [] "OK" fun t => t.pwr.held = s.pwr.held ++ [.sourceEnds 6 0])))
    ∧ (∃ t, exec .unlockExpiry s = .next t ∧ relocked t)
    ∧ exec .challengeExpiry s = .next { s with mon.challenge := none }
    ∧ (may → ∃ t, exec (.extest cells) s = .next t ∧ t.on MON.ST_EXTEST = true ∧ t.jtag.instr = 0
      ∧ t.jtag.cells = cells &&& ~~~observeOnly ∧ t.jtag.captured.getLsbD 35 = s.on SAF.SAFE_OK
      ∧ t.jtag.captured.getLsbD 39 = s.on SAF.CTR_EN)
    ∧ (¬may → ∃ t, exec (.extest cells) s = .next t ∧ t.on MON.ST_EXTEST = false ∧ t.jtag = { s.jtag with instr := 15 })
    ∧ exec (.samplePreload pins) s = .next { s.put MON.ST_EXTEST false with jtag := { s.jtag with instr := 1, captured := pins } }
    ∧ exec .bypass s = .next { s.put MON.ST_EXTEST false with jtag := { s.jtag with instr := 15 } }

/-! ### The block as a whole -/

/-- The step runs the command at the front of the queue on the state with the queue's rest; on an empty queue one TDC cycle passes and the
housekeeping results that wait reach SCN, which the model lets the idle step be (log 1 and log 49: DESIGN CHOICE). -/
def Obligations.StepRunsTheFront : Prop :=
  (∀ (c : Instr) (rest : List Instr) (s : State), step { s with pending := c :: rest } = exec c { s with pending := rest })
  ∧ ∀ s : State, s.pending = [] → step s = .next (idleTick s)

/-- Every command whose operand lists have the lengths that the spec fixes (R299, R303, R384) completes, in every state, and leaves the
queue as it finds it; a command of other lengths stops, whatever the state. -/
def Obligations.EveryCommandCompletes : Prop :=
  ∀ (c : Instr) (s : State), (c.wf = true → ∃ t, exec c s = .next t ∧ t.pending = s.pending)
    ∧ (c.wf = false → exec c s = .fault .illFormed)

/-- R184, R531 and the memories' canonical form: whatever the state, a step that completes keeps s0 of every engine at 0, every memory
in its canonical form and the cells of the observe-only pins undriven. -/
def Obligations.StepKeepsTheInvariant : Prop :=
  ∀ s t : State, s.Inv → step s = .next t → t.Inv

/-- R525: no step unlocks test access in OPERATIONAL or DEGRADED, and none enters those states with it unlocked. -/
def Obligations.LockedInOperation : Prop :=
  ∀ s t : State, s.LockedWhileOperating → step s = .next t → t.LockedWhileOperating

/-- R11, R70: after reset every register field holds its reset value, every folio reads VERSION 1.0 with OLDEST_MAJOR and SEL_MAJOR 1,
nothing waits, and the two invariants hold. That every folio is then held in reset by one COLD episode, and the values of state beside
the registers, are the model's (log 3, log 5 and log 6: DESIGN CHOICE). -/
def Obligations.ResetState : Prop :=
  (∀ f : Fld, State.reset.rd f = f.reset) ∧ State.reset.rd SAF.STATE = 0
    ∧ (∀ p < 183, (State.reset.busRead (0x40000000 + 0x1000 * p + 4)).2 = { data := 0x01000101, error := false })
    ∧ State.reset.pending = [] ∧ State.reset.Inv ∧ State.reset.LockedWhileOperating
end

