-- ==== Sys2Proof/Laws/Tab.lean ====
section
/-! SUPPORT. The laws of the sparse tables and of memories: what a read answers after a write, and that every operation keeps
the canonical form. -/
namespace Sys2Proof.Machine
open Sys2Proof

variable {α : Type}

/-! ### Reading after writing -/

theorem Tab.get_drop_self (d : α) (t : Tab α) (k : Nat) : Tab.get d (Tab.drop t k) k = d := by
  induction t with
  | nil => rfl
  | cons e t ih =>
    obtain ⟨a, b⟩ := e
    by_cases h : a = k
    · simpa [Tab.drop, h] using ih
    · have h' : ¬ k = a := fun x => h x.symm
      simpa [Tab.drop, h, Tab.get, h'] using ih

theorem Tab.get_drop_ne (d : α) (t : Tab α) {k j : Nat} (hj : j ≠ k) : Tab.get d (Tab.drop t k) j = Tab.get d t j := by
  induction t with
  | nil => rfl
  | cons e t ih =>
    obtain ⟨a, b⟩ := e
    by_cases h : a = k
    · subst h
      simpa [Tab.drop, Tab.get, hj] using ih
    · simp only [Tab.drop, bne_iff_ne, ne_eq, h, not_false_eq_true, List.filter_cons_of_pos] at ih ⊢
      simp only [Tab.get, ih]

theorem Tab.get_ins_self (d : α) (t : Tab α) (k : Nat) (v : α) (h : ∀ e ∈ t, e.1 ≠ k) : Tab.get d (Tab.ins k v t) k = v := by
  induction t with
  | nil => simp [Tab.ins, Tab.get]
  | cons e t ih =>
    obtain ⟨a, b⟩ := e
    have ha : ¬ k = a := fun x => h (a, b) (by simp) x.symm
    have ih' := ih fun e he => h e (by simp [he])
    by_cases hk : k < a
    · simp [Tab.ins, hk, Tab.get]
    · simp [Tab.ins, hk, Tab.get, ha, ih']

theorem Tab.get_ins_ne (d : α) (t : Tab α) {k j : Nat} (v : α) (hj : j ≠ k) : Tab.get d (Tab.ins k v t) j = Tab.get d t j := by
  induction t with
  | nil => simp [Tab.ins, Tab.get, hj]
  | cons e t ih =>
    obtain ⟨a, b⟩ := e
    by_cases hk : k < a
    · simp [Tab.ins, hk, Tab.get, hj]
    · simp [Tab.ins, hk, Tab.get, ih]

theorem Tab.drop_ne (t : Tab α) (k : Nat) : ∀ e ∈ Tab.drop t k, e.1 ≠ k := by
  intro e he
  simpa using (List.mem_filter.mp he).2

/-- A table reads back what was written. -/
@[simp] theorem Tab.get_set_self [DecidableEq α] (d : α) (t : Tab α) (k : Nat) (v : α) : Tab.get d (Tab.set d t k v) k = v := by
  unfold Tab.set
  split
  · rename_i h
    rw [Tab.get_drop_self, h]
  · exact Tab.get_ins_self d _ k v (Tab.drop_ne t k)

/-- A write leaves every other key alone. -/
theorem Tab.get_set_ne [DecidableEq α] (d d' : α) (t : Tab α) {k j : Nat} (v : α) (hj : j ≠ k) :
    Tab.get d' (Tab.set d t k v) j = Tab.get d' t j := by
  unfold Tab.set
  split
  · exact Tab.get_drop_ne d' t hj
  · rw [Tab.get_ins_ne d' _ v hj, Tab.get_drop_ne d' t hj]

theorem Tab.get_set [DecidableEq α] (d : α) (t : Tab α) (k j : Nat) (v : α) :
    Tab.get d (Tab.set d t k v) j = if j = k then v else Tab.get d t j := by
  split
  · subst j
    exact Tab.get_set_self d t k v
  · exact Tab.get_set_ne d d t v ‹_›

/-! ### The canonical form -/

theorem Tab.wf_iff [DecidableEq α] (d : α) (t : Tab α) :
    Tab.wf d t = true ↔ (t.map (·.1)).Pairwise (· < ·) ∧ ∀ e ∈ t, e.2 ≠ d := by
  simp [Tab.wf]

@[simp] theorem Tab.wf_nil [DecidableEq α] (d : α) : Tab.wf d ([] : Tab α) = true := by simp [Tab.wf]

theorem Tab.wf_filter [DecidableEq α] (d : α) (t : Tab α) (p : Nat × α → Bool) (h : Tab.wf d t = true) :
    Tab.wf d (t.filter p) = true := by
  rw [Tab.wf_iff] at h ⊢
  exact ⟨h.1.sublist ((List.filter_sublist (l := t)).map _), fun e he => h.2 e (List.mem_of_mem_filter he)⟩

theorem Tab.mem_ins (k : Nat) (v : α) (t : Tab α) (e : Nat × α) (h : e ∈ Tab.ins k v t) : e = (k, v) ∨ e ∈ t := by
  induction t with
  | nil => exact .inl (by simpa [Tab.ins] using h)
  | cons a t ih =>
    obtain ⟨x, y⟩ := a
    by_cases hk : k < x
    · simpa [Tab.ins, hk] using h
    · simp only [Tab.ins, hk, if_false, List.mem_cons] at h
      rcases h with h | h
      · exact .inr (by simp [h])
      · rcases ih h with h | h
        · exact .inl h
        · exact .inr (by simp [h])

theorem Tab.wf_ins [DecidableEq α] (d : α) (t : Tab α) (k : Nat) (v : α) (hv : v ≠ d) (hk : ∀ e ∈ t, e.1 ≠ k)
    (h : Tab.wf d t = true) : Tab.wf d (Tab.ins k v t) = true := by
  induction t with
  | nil => simp [Tab.wf, Tab.ins, hv]
  | cons a t ih =>
    obtain ⟨x, y⟩ := a
    have hkx : x ≠ k := hk (x, y) (by simp)
    rw [Tab.wf_iff] at h
    obtain ⟨hp, hd⟩ := h
    simp only [List.map_cons, List.pairwise_cons] at hp
    have ht : Tab.wf d t = true := (Tab.wf_iff d t).mpr ⟨hp.2, fun e he => hd e (by simp [he])⟩
    by_cases hlt : k < x
    · simp only [Tab.ins, hlt, if_true]
      rw [Tab.wf_iff]
      refine ⟨?_, ?_⟩
      · simp only [List.map_cons, List.pairwise_cons, List.mem_cons, forall_eq_or_imp]
        exact ⟨⟨hlt, fun b hb => lt_trans hlt (hp.1 b hb)⟩, hp.1, hp.2⟩
      · intro e he
        rcases List.mem_cons.mp he with he | he
        · rw [he]; exact hv
        · exact hd e he
    · simp only [Tab.ins, hlt, if_false]
      have hrec := (Tab.wf_iff d _).mp (ih (fun e he => hk e (by simp [he])) ht)
      rw [Tab.wf_iff]
      refine ⟨?_, ?_⟩
      · simp only [List.map_cons, List.pairwise_cons]
        refine ⟨?_, hrec.1⟩
        intro b hb
        obtain ⟨e, he, rfl⟩ := List.mem_map.mp hb
        rcases Tab.mem_ins k v t e he with h | h
        · rw [h]; exact lt_of_le_of_ne (not_lt.mp hlt) hkx
        · exact hp.1 _ (List.mem_map_of_mem h)
      · intro e he
        rcases List.mem_cons.mp he with he | he
        · rw [he]; exact hd _ (by simp)
        · exact hrec.2 e he

/-- A write keeps the canonical form. -/
theorem Tab.wf_set [DecidableEq α] (d : α) (t : Tab α) (k : Nat) (v : α) (h : Tab.wf d t = true) : Tab.wf d (Tab.set d t k v) = true := by
  unfold Tab.set
  split
  · exact Tab.wf_filter d t _ h
  · exact Tab.wf_ins d _ k v ‹_› (Tab.drop_ne t k) (Tab.wf_filter d t _ h)

/-- Unlisting keys keeps the canonical form. -/
theorem Tab.wf_clear [DecidableEq α] (d : α) (t : Tab α) (p : Nat → Bool) (h : Tab.wf d t = true) : Tab.wf d (Tab.clear t p) = true :=
  Tab.wf_filter d t _ h

theorem Tab.wf_drop [DecidableEq α] (d : α) (t : Tab α) (k : Nat) (h : Tab.wf d t = true) : Tab.wf d (Tab.drop t k) = true :=
  Tab.wf_filter d t _ h

/-- Changing every value keeps the canonical form. -/
theorem Tab.wf_mapV [DecidableEq α] (d : α) (f : α → α) (t : Tab α) (h : Tab.wf d t = true) : Tab.wf d (Tab.mapV d f t) = true := by
  rw [Tab.wf_iff] at h ⊢
  refine ⟨?_, ?_⟩
  · refine List.Pairwise.sublist ((List.filter_sublist).map _) ?_
    simpa [List.map_map, Function.comp_def] using h.1
  · intro e he
    simpa using (List.mem_filter.mp he).2

/-! ### Memories -/

theorem Mem.read_cells (bs : List Byte) (a j : Nat) :
    Tab.get 0 (Mem.cells a bs) j = if a ≤ j ∧ j < a + bs.length then bs.getD (j - a) 0 else 0 := by
  induction bs generalizing a with
  | nil => simp [Mem.cells, Tab.get]
  | cons b bs ih =>
    by_cases hb : b = 0
    · simp only [Mem.cells, hb, if_true, ih, List.length_cons]
      by_cases h1 : j = a
      · subst h1; simp
      · by_cases h2 : a + 1 ≤ j ∧ j < a + 1 + bs.length
        · have h3 : a ≤ j ∧ j < a + (bs.length + 1) := by omega
          obtain ⟨n, hn⟩ : ∃ n, j - a = n + 1 := ⟨j - a - 1, by omega⟩
          have hn' : j - (a + 1) = n := by omega
          simp [h2, h3, hn, hn']
        · have h3 : ¬ (a ≤ j ∧ j < a + (bs.length + 1)) := by omega
          rw [if_neg h2, if_neg h3]
    · simp only [Mem.cells, hb, if_false, Tab.get, ih, List.length_cons]
      by_cases h1 : j = a
      · subst h1; simp
      · by_cases h2 : a + 1 ≤ j ∧ j < a + 1 + bs.length
        · have h3 : a ≤ j ∧ j < a + (bs.length + 1) := by omega
          obtain ⟨n, hn⟩ : ∃ n, j - a = n + 1 := ⟨j - a - 1, by omega⟩
          have hn' : j - (a + 1) = n := by omega
          simp [h1, h2, h3, hn, hn']
        · have h3 : ¬ (a ≤ j ∧ j < a + (bs.length + 1)) := by omega
          rw [if_neg h1, if_neg h2, if_neg h3]

theorem Tab.get_of_not_mem (d : α) (t : Tab α) (j : Nat) (h : ∀ e ∈ t, e.1 ≠ j) : Tab.get d t j = d := by
  induction t with
  | nil => rfl
  | cons e t ih =>
    obtain ⟨a, b⟩ := e
    have : ¬ j = a := fun x => h (a, b) (by simp) x.symm
    simp only [Tab.get, this, if_false]
    exact ih fun e he => h e (by simp [he])

theorem Tab.get_append (d : α) (t u : Tab α) (j : Nat) :
    Tab.get d (t ++ u) j = if t.any (fun e => e.1 = j) then Tab.get d t j else Tab.get d u j := by
  induction t with
  | nil => simp
  | cons e t ih =>
    obtain ⟨a, b⟩ := e
    by_cases h : j = a
    · subst h; simp [Tab.get]
    · have h' : ¬ a = j := fun x => h x.symm
      simp only [List.cons_append, Tab.get, h, if_false, ih, List.any_cons, h', decide_false, Bool.false_or]

theorem Tab.get_filter (d : α) (t : Tab α) (p : Nat → Bool) (j : Nat) :
    Tab.get d (t.filter fun e => p e.1) j = if p j then Tab.get d t j else d := by
  induction t with
  | nil => simp [Tab.get]
  | cons e t ih =>
    obtain ⟨a, b⟩ := e
    by_cases hp : p a = true
    · simp only [List.filter_cons, hp, if_true, Tab.get, ih]
      by_cases h : j = a
      · subst h; simp [hp]
      · simp [h]
    · simp only [List.filter_cons, hp, Tab.get]
      by_cases h : j = a
      · subst h
        simp [hp, ih]
      · simp [h, ih]

/-- Unlisting reads as the default where it unlists, and leaves the rest. -/
theorem Tab.get_clear (d : α) (t : Tab α) (p : Nat → Bool) (j : Nat) : Tab.get d (Tab.clear t p) j = if p j then d else Tab.get d t j := by
  have := Tab.get_filter d t (fun k => !p k) j
  simp only [Tab.clear, this]
  cases p j <;> simp

theorem Mem.cells_keys (bs : List Byte) (a : Nat) : ∀ e ∈ Mem.cells a bs, a ≤ e.1 ∧ e.1 < a + bs.length ∧ e.2 ≠ 0 := by
  induction bs generalizing a with
  | nil => simp [Mem.cells]
  | cons b bs ih =>
    intro e he
    by_cases hb : b = 0
    · simp only [Mem.cells, hb, if_true] at he
      have := ih (a + 1) e he
      simp only [List.length_cons]
      exact ⟨by omega, by omega, this.2.2⟩
    · simp only [Mem.cells, hb, if_false, List.mem_cons] at he
      simp only [List.length_cons]
      rcases he with rfl | he
      · exact ⟨by simp, by simp, hb⟩
      · have := ih (a + 1) e he
        exact ⟨by omega, by omega, this.2.2⟩

/-- A memory reads back the bytes written to a run, and every byte outside it as before. -/
theorem Mem.read_write (m : Mem) (a : Nat) (bs : List Byte) (j : Nat) :
    (m.write a bs).read j = if a ≤ j ∧ j < a + bs.length then bs.getD (j - a) 0 else m.read j := by
  have hf1 := Tab.get_filter (0 : Byte) m (fun k => decide (k < a)) j
  have hf2 := Tab.get_filter (0 : Byte) m (fun k => decide (a + bs.length ≤ k)) j
  have key : ∀ (t : Mem), (∀ e ∈ t, e.1 ≠ j) → t.any (fun e => decide (e.1 = j)) = false := by
    intro t ht
    rw [List.any_eq_false]
    intro e he
    simpa using ht e he
  have none_ : ∀ (t : Mem), t.any (fun e => decide (e.1 = j)) = false → ∀ e ∈ t, e.1 ≠ j := by
    intro t ht e he
    have := List.any_eq_false.mp ht e he
    simpa using this
  simp only [Mem.write, Mem.read, List.append_assoc]
  by_cases h1 : j < a
  · have hn : ¬ (a ≤ j ∧ j < a + bs.length) := by omega
    have h2 : ¬ (a + bs.length ≤ j) := by omega
    simp only [h1, decide_true, if_true] at hf1
    simp only [h2, decide_false, Bool.false_eq_true, if_false] at hf2
    rw [if_neg hn, Tab.get_append]
    split
    · exact hf1
    · rename_i hany
      rw [Tab.get_append, key (Mem.cells a bs) (fun e he => by have := Mem.cells_keys bs a e he; omega), if_neg (by simp), hf2, ← hf1]
      exact (Tab.get_of_not_mem _ _ _ (none_ _ (Bool.eq_false_iff.mpr hany))).symm
  · rw [Tab.get_append, key _ (fun e he => by have := (List.mem_filter.mp he).2; simp at this; omega), if_neg (by simp), Tab.get_append]
    by_cases h2 : j < a + bs.length
    · have hin : a ≤ j ∧ j < a + bs.length := by omega
      have h3 : ¬ (a + bs.length ≤ j) := by omega
      simp only [h3, decide_false, Bool.false_eq_true, if_false] at hf2
      have hc := Mem.read_cells bs a j
      rw [if_pos hin] at hc ⊢
      split
      · exact hc
      · rename_i hany
        rw [hf2, ← hc]
        exact (Tab.get_of_not_mem _ _ _ (none_ _ (Bool.eq_false_iff.mpr hany))).symm
    · have hn : ¬ (a ≤ j ∧ j < a + bs.length) := by omega
      have h3 : a + bs.length ≤ j := by omega
      simp only [h3, decide_true, if_true] at hf2
      rw [if_neg hn, key (Mem.cells a bs) (fun e he => by have := Mem.cells_keys bs a e he; omega), if_neg (by simp)]
      exact hf2

theorem Mem.cells_rising (bs : List Byte) (a : Nat) : ((Mem.cells a bs).map (·.1)).Pairwise (· < ·) := by
  induction bs generalizing a with
  | nil => simp [Mem.cells]
  | cons b bs ih =>
    by_cases hb : b = 0
    · simpa [Mem.cells, hb] using ih (a + 1)
    · simp only [Mem.cells, hb, if_false, List.map_cons, List.pairwise_cons]
      refine ⟨?_, ih (a + 1)⟩
      intro k hk
      obtain ⟨e, he, rfl⟩ := List.mem_map.mp hk
      have := Mem.cells_keys bs (a + 1) e he
      omega

/-- Writing a run of bytes keeps the canonical form. -/
theorem Mem.wf_write (m : Mem) (a : Nat) (bs : List Byte) (h : m.wf) : (m.write a bs).wf := by
  obtain ⟨hp, hd⟩ := h
  have hs : ∀ p : Nat × Byte → Bool, ((m.filter p).map (·.1)).Pairwise (· < ·) := fun p =>
    hp.sublist ((List.filter_sublist (l := m)).map _)
  refine ⟨?_, ?_⟩
  · simp only [Mem.write, List.map_append, List.pairwise_append]
    refine ⟨⟨hs _, Mem.cells_rising bs a, ?_⟩, hs _, ?_⟩
    · intro x hx y hy
      obtain ⟨e, he, rfl⟩ := List.mem_map.mp hx
      obtain ⟨f, hf, rfl⟩ := List.mem_map.mp hy
      have h1 := (List.mem_filter.mp he).2
      have h2 := Mem.cells_keys bs a f hf
      simp at h1; omega
    · intro x hx y hy
      obtain ⟨f, hf, rfl⟩ := List.mem_map.mp hy
      have h1 := (List.mem_filter.mp hf).2
      simp at h1
      rcases List.mem_append.mp hx with hx | hx
      · obtain ⟨e, he, rfl⟩ := List.mem_map.mp hx
        have h2 := (List.mem_filter.mp he).2
        simp at h2; omega
      · obtain ⟨e, he, rfl⟩ := List.mem_map.mp hx
        have h2 := Mem.cells_keys bs a e he
        omega
  · intro e he
    simp only [Mem.write, List.mem_append] at he
    rcases he with (he | he) | he
    · exact hd e (List.mem_of_mem_filter he)
    · exact (Mem.cells_keys bs a e he).2.2
    · exact hd e (List.mem_of_mem_filter he)

/-- Writing a number keeps the canonical form. -/
theorem Mem.wf_setLe (m : Mem) (a n v : Nat) (h : m.wf) : (m.setLe a n v).wf := Mem.wf_write m a _ h

theorem leBytes_length (n v : Nat) : (leBytes n v).length = n := by
  induction n generalizing v with
  | zero => rfl
  | succ n ih => simp [leBytes, ih]

/-- A number's bytes spell the number. -/
theorem ofLeBytes_leBytes (n v : Nat) : ofLeBytes (leBytes n v) = v % 256 ^ n := by
  induction n generalizing v with
  | zero => simp [leBytes, ofLeBytes, Nat.mod_one]
  | succ n ih =>
    have h : (BitVec.ofNat 8 v).toNat = v % 256 := BitVec.toNat_ofNat v 8
    show (BitVec.ofNat 8 v).toNat + 256 * ofLeBytes (leBytes n (v / 256)) = _
    rw [h, ih, Nat.pow_succ', Nat.mod_mul]

/-- A number read where it was written. -/
theorem Mem.le_setLe (m : Mem) (a n v : Nat) : (m.setLe a n v).le a n = v % 256 ^ n := by
  rw [← ofLeBytes_leBytes]
  unfold Mem.le Mem.setLe
  congr 1
  apply List.ext_getElem
  · simp [Mem.bytes, leBytes_length]
  · intro i h1 h2
    have hi : i < n := by simpa [Mem.bytes] using h1
    simp only [Mem.bytes, List.getElem_map, List.getElem_range, Mem.read_write, leBytes_length]
    rw [if_pos ⟨by omega, by omega⟩]
    have e : a + i - a = i := by omega
    rw [e, List.getD_eq_getElem?_getD, List.getElem?_eq_getElem h2]
    rfl

/-- Clearing a run keeps the canonical form. -/
theorem Mem.wf_wipe (m : Mem) (a n : Nat) (h : m.wf) : (m.wipe a n).wf := by
  obtain ⟨hp, hd⟩ := h
  have hs : ∀ p : Nat × Byte → Bool, ((m.filter p).map (·.1)).Pairwise (· < ·) := fun p =>
    hp.sublist ((List.filter_sublist (l := m)).map _)
  refine ⟨?_, ?_⟩
  · simp only [Mem.wipe, List.map_append, List.pairwise_append]
    refine ⟨hs _, hs _, ?_⟩
    intro x hx y hy
    obtain ⟨e, he, rfl⟩ := List.mem_map.mp hx
    obtain ⟨f, hf, rfl⟩ := List.mem_map.mp hy
    have h1 := (List.mem_filter.mp he).2
    have h2 := (List.mem_filter.mp hf).2
    simp at h1 h2; omega
  · intro e he
    simp only [Mem.wipe, List.mem_append] at he
    rcases he with he | he <;> exact hd e (List.mem_of_mem_filter he)

/-- Unlisting keys keeps a memory's canonical form. -/
theorem Mem.wf_clear (m : Mem) (p : Nat → Bool) (h : m.wf) : Mem.wf (Tab.clear m p) :=
  ⟨h.1.sublist ((List.filter_sublist (l := m)).map _), fun e he => h.2 e (List.mem_of_mem_filter he)⟩

end Sys2Proof.Machine
end

