-- ==== Sys2Proof/Laws/State.lean ====
section
/-! SUPPORT. One lemma per field and update of the state, so that no proof unfolds a record update, and what a register or an
instance reads after it was written. -/
namespace Sys2Proof.Machine
open Sys2Proof

/-! ### Fields that an update leaves alone -/

@[simp] theorem State.wr_snap (s : State) (f : Fld) (v : Nat) : (s.wr f v).snap = s.snap := rfl
@[simp] theorem State.wr_bus (s : State) (f : Fld) (v : Nat) : (s.wr f v).bus = s.bus := rfl
@[simp] theorem State.wr_cat (s : State) (f : Fld) (v : Nat) : (s.wr f v).cat = s.cat := rfl
@[simp] theorem State.wr_lastAccession (s : State) (f : Fld) (v : Nat) : (s.wr f v).lastAccession = s.lastAccession := rfl
@[simp] theorem State.wr_acq (s : State) (f : Fld) (v : Nat) : (s.wr f v).acq = s.acq := rfl
@[simp] theorem State.wr_stackMem (s : State) (f : Fld) (v : Nat) : (s.wr f v).stackMem = s.stackMem := rfl
@[simp] theorem State.wr_emt (s : State) (f : Fld) (v : Nat) : (s.wr f v).emt = s.emt := rfl
@[simp] theorem State.wr_det (s : State) (f : Fld) (v : Nat) : (s.wr f v).det = s.det := rfl
@[simp] theorem State.wr_engines (s : State) (f : Fld) (v : Nat) : (s.wr f v).engines = s.engines := rfl
@[simp] theorem State.wr_prox (s : State) (f : Fld) (v : Nat) : (s.wr f v).prox = s.prox := rfl
@[simp] theorem State.wr_pca (s : State) (f : Fld) (v : Nat) : (s.wr f v).pca = s.pca := rfl
@[simp] theorem State.wr_lnk (s : State) (f : Fld) (v : Nat) : (s.wr f v).lnk = s.lnk := rfl
@[simp] theorem State.wr_scn (s : State) (f : Fld) (v : Nat) : (s.wr f v).scn = s.scn := rfl
@[simp] theorem State.wr_sense (s : State) (f : Fld) (v : Nat) : (s.wr f v).sense = s.sense := rfl
@[simp] theorem State.wr_thm (s : State) (f : Fld) (v : Nat) : (s.wr f v).thm = s.thm := rfl
@[simp] theorem State.wr_cal (s : State) (f : Fld) (v : Nat) : (s.wr f v).cal = s.cal := rfl
@[simp] theorem State.wr_saf (s : State) (f : Fld) (v : Nat) : (s.wr f v).saf = s.saf := rfl
@[simp] theorem State.wr_lmp (s : State) (f : Fld) (v : Nat) : (s.wr f v).lmp = s.lmp := rfl
@[simp] theorem State.wr_pwr (s : State) (f : Fld) (v : Nat) : (s.wr f v).pwr = s.pwr := rfl
@[simp] theorem State.wr_rst (s : State) (f : Fld) (v : Nat) : (s.wr f v).rst = s.rst := rfl
@[simp] theorem State.wr_sec (s : State) (f : Fld) (v : Nat) : (s.wr f v).sec = s.sec := rfl
@[simp] theorem State.wr_nvs (s : State) (f : Fld) (v : Nat) : (s.wr f v).nvs = s.nvs := rfl
@[simp] theorem State.wr_mon (s : State) (f : Fld) (v : Nat) : (s.wr f v).mon = s.mon := rfl
@[simp] theorem State.wr_spi (s : State) (f : Fld) (v : Nat) : (s.wr f v).spi = s.spi := rfl
@[simp] theorem State.wr_jtag (s : State) (f : Fld) (v : Nat) : (s.wr f v).jtag = s.jtag := rfl
@[simp] theorem State.wr_pins (s : State) (f : Fld) (v : Nat) : (s.wr f v).pins = s.pins := rfl
@[simp] theorem State.wr_free (s : State) (f : Fld) (v : Nat) : (s.wr f v).free = s.free := rfl
@[simp] theorem State.wr_pending (s : State) (f : Fld) (v : Nat) : (s.wr f v).pending = s.pending := rfl

@[simp] theorem State.wrI_snap (s : State) (f : Fld) (v : Int) : (s.wrI f v).snap = s.snap := rfl
@[simp] theorem State.wrI_bus (s : State) (f : Fld) (v : Int) : (s.wrI f v).bus = s.bus := rfl
@[simp] theorem State.wrI_cat (s : State) (f : Fld) (v : Int) : (s.wrI f v).cat = s.cat := rfl
@[simp] theorem State.wrI_lastAccession (s : State) (f : Fld) (v : Int) : (s.wrI f v).lastAccession = s.lastAccession := rfl
@[simp] theorem State.wrI_acq (s : State) (f : Fld) (v : Int) : (s.wrI f v).acq = s.acq := rfl
@[simp] theorem State.wrI_stackMem (s : State) (f : Fld) (v : Int) : (s.wrI f v).stackMem = s.stackMem := rfl
@[simp] theorem State.wrI_emt (s : State) (f : Fld) (v : Int) : (s.wrI f v).emt = s.emt := rfl
@[simp] theorem State.wrI_det (s : State) (f : Fld) (v : Int) : (s.wrI f v).det = s.det := rfl
@[simp] theorem State.wrI_engines (s : State) (f : Fld) (v : Int) : (s.wrI f v).engines = s.engines := rfl
@[simp] theorem State.wrI_prox (s : State) (f : Fld) (v : Int) : (s.wrI f v).prox = s.prox := rfl
@[simp] theorem State.wrI_pca (s : State) (f : Fld) (v : Int) : (s.wrI f v).pca = s.pca := rfl
@[simp] theorem State.wrI_lnk (s : State) (f : Fld) (v : Int) : (s.wrI f v).lnk = s.lnk := rfl
@[simp] theorem State.wrI_scn (s : State) (f : Fld) (v : Int) : (s.wrI f v).scn = s.scn := rfl
@[simp] theorem State.wrI_sense (s : State) (f : Fld) (v : Int) : (s.wrI f v).sense = s.sense := rfl
@[simp] theorem State.wrI_thm (s : State) (f : Fld) (v : Int) : (s.wrI f v).thm = s.thm := rfl
@[simp] theorem State.wrI_cal (s : State) (f : Fld) (v : Int) : (s.wrI f v).cal = s.cal := rfl
@[simp] theorem State.wrI_saf (s : State) (f : Fld) (v : Int) : (s.wrI f v).saf = s.saf := rfl
@[simp] theorem State.wrI_lmp (s : State) (f : Fld) (v : Int) : (s.wrI f v).lmp = s.lmp := rfl
@[simp] theorem State.wrI_pwr (s : State) (f : Fld) (v : Int) : (s.wrI f v).pwr = s.pwr := rfl
@[simp] theorem State.wrI_rst (s : State) (f : Fld) (v : Int) : (s.wrI f v).rst = s.rst := rfl
@[simp] theorem State.wrI_sec (s : State) (f : Fld) (v : Int) : (s.wrI f v).sec = s.sec := rfl
@[simp] theorem State.wrI_nvs (s : State) (f : Fld) (v : Int) : (s.wrI f v).nvs = s.nvs := rfl
@[simp] theorem State.wrI_mon (s : State) (f : Fld) (v : Int) : (s.wrI f v).mon = s.mon := rfl
@[simp] theorem State.wrI_spi (s : State) (f : Fld) (v : Int) : (s.wrI f v).spi = s.spi := rfl
@[simp] theorem State.wrI_jtag (s : State) (f : Fld) (v : Int) : (s.wrI f v).jtag = s.jtag := rfl
@[simp] theorem State.wrI_pins (s : State) (f : Fld) (v : Int) : (s.wrI f v).pins = s.pins := rfl
@[simp] theorem State.wrI_free (s : State) (f : Fld) (v : Int) : (s.wrI f v).free = s.free := rfl
@[simp] theorem State.wrI_pending (s : State) (f : Fld) (v : Int) : (s.wrI f v).pending = s.pending := rfl

@[simp] theorem State.wrS_snap (s : State) (f : Fld) (v : Nat) : (s.wrS f v).snap = s.snap := rfl
@[simp] theorem State.wrS_bus (s : State) (f : Fld) (v : Nat) : (s.wrS f v).bus = s.bus := rfl
@[simp] theorem State.wrS_cat (s : State) (f : Fld) (v : Nat) : (s.wrS f v).cat = s.cat := rfl
@[simp] theorem State.wrS_lastAccession (s : State) (f : Fld) (v : Nat) : (s.wrS f v).lastAccession = s.lastAccession := rfl
@[simp] theorem State.wrS_acq (s : State) (f : Fld) (v : Nat) : (s.wrS f v).acq = s.acq := rfl
@[simp] theorem State.wrS_stackMem (s : State) (f : Fld) (v : Nat) : (s.wrS f v).stackMem = s.stackMem := rfl
@[simp] theorem State.wrS_emt (s : State) (f : Fld) (v : Nat) : (s.wrS f v).emt = s.emt := rfl
@[simp] theorem State.wrS_det (s : State) (f : Fld) (v : Nat) : (s.wrS f v).det = s.det := rfl
@[simp] theorem State.wrS_engines (s : State) (f : Fld) (v : Nat) : (s.wrS f v).engines = s.engines := rfl
@[simp] theorem State.wrS_prox (s : State) (f : Fld) (v : Nat) : (s.wrS f v).prox = s.prox := rfl
@[simp] theorem State.wrS_pca (s : State) (f : Fld) (v : Nat) : (s.wrS f v).pca = s.pca := rfl
@[simp] theorem State.wrS_lnk (s : State) (f : Fld) (v : Nat) : (s.wrS f v).lnk = s.lnk := rfl
@[simp] theorem State.wrS_scn (s : State) (f : Fld) (v : Nat) : (s.wrS f v).scn = s.scn := rfl
@[simp] theorem State.wrS_sense (s : State) (f : Fld) (v : Nat) : (s.wrS f v).sense = s.sense := rfl
@[simp] theorem State.wrS_thm (s : State) (f : Fld) (v : Nat) : (s.wrS f v).thm = s.thm := rfl
@[simp] theorem State.wrS_cal (s : State) (f : Fld) (v : Nat) : (s.wrS f v).cal = s.cal := rfl
@[simp] theorem State.wrS_saf (s : State) (f : Fld) (v : Nat) : (s.wrS f v).saf = s.saf := rfl
@[simp] theorem State.wrS_lmp (s : State) (f : Fld) (v : Nat) : (s.wrS f v).lmp = s.lmp := rfl
@[simp] theorem State.wrS_pwr (s : State) (f : Fld) (v : Nat) : (s.wrS f v).pwr = s.pwr := rfl
@[simp] theorem State.wrS_rst (s : State) (f : Fld) (v : Nat) : (s.wrS f v).rst = s.rst := rfl
@[simp] theorem State.wrS_sec (s : State) (f : Fld) (v : Nat) : (s.wrS f v).sec = s.sec := rfl
@[simp] theorem State.wrS_nvs (s : State) (f : Fld) (v : Nat) : (s.wrS f v).nvs = s.nvs := rfl
@[simp] theorem State.wrS_mon (s : State) (f : Fld) (v : Nat) : (s.wrS f v).mon = s.mon := rfl
@[simp] theorem State.wrS_spi (s : State) (f : Fld) (v : Nat) : (s.wrS f v).spi = s.spi := rfl
@[simp] theorem State.wrS_jtag (s : State) (f : Fld) (v : Nat) : (s.wrS f v).jtag = s.jtag := rfl
@[simp] theorem State.wrS_pins (s : State) (f : Fld) (v : Nat) : (s.wrS f v).pins = s.pins := rfl
@[simp] theorem State.wrS_free (s : State) (f : Fld) (v : Nat) : (s.wrS f v).free = s.free := rfl
@[simp] theorem State.wrS_pending (s : State) (f : Fld) (v : Nat) : (s.wrS f v).pending = s.pending := rfl

@[simp] theorem State.put_snap (s : State) (f : Fld) (b : Bool) : (s.put f b).snap = s.snap := rfl
@[simp] theorem State.put_bus (s : State) (f : Fld) (b : Bool) : (s.put f b).bus = s.bus := rfl
@[simp] theorem State.put_cat (s : State) (f : Fld) (b : Bool) : (s.put f b).cat = s.cat := rfl
@[simp] theorem State.put_lastAccession (s : State) (f : Fld) (b : Bool) : (s.put f b).lastAccession = s.lastAccession := rfl
@[simp] theorem State.put_acq (s : State) (f : Fld) (b : Bool) : (s.put f b).acq = s.acq := rfl
@[simp] theorem State.put_stackMem (s : State) (f : Fld) (b : Bool) : (s.put f b).stackMem = s.stackMem := rfl
@[simp] theorem State.put_emt (s : State) (f : Fld) (b : Bool) : (s.put f b).emt = s.emt := rfl
@[simp] theorem State.put_det (s : State) (f : Fld) (b : Bool) : (s.put f b).det = s.det := rfl
@[simp] theorem State.put_engines (s : State) (f : Fld) (b : Bool) : (s.put f b).engines = s.engines := rfl
@[simp] theorem State.put_prox (s : State) (f : Fld) (b : Bool) : (s.put f b).prox = s.prox := rfl
@[simp] theorem State.put_pca (s : State) (f : Fld) (b : Bool) : (s.put f b).pca = s.pca := rfl
@[simp] theorem State.put_lnk (s : State) (f : Fld) (b : Bool) : (s.put f b).lnk = s.lnk := rfl
@[simp] theorem State.put_scn (s : State) (f : Fld) (b : Bool) : (s.put f b).scn = s.scn := rfl
@[simp] theorem State.put_sense (s : State) (f : Fld) (b : Bool) : (s.put f b).sense = s.sense := rfl
@[simp] theorem State.put_thm (s : State) (f : Fld) (b : Bool) : (s.put f b).thm = s.thm := rfl
@[simp] theorem State.put_cal (s : State) (f : Fld) (b : Bool) : (s.put f b).cal = s.cal := rfl
@[simp] theorem State.put_saf (s : State) (f : Fld) (b : Bool) : (s.put f b).saf = s.saf := rfl
@[simp] theorem State.put_lmp (s : State) (f : Fld) (b : Bool) : (s.put f b).lmp = s.lmp := rfl
@[simp] theorem State.put_pwr (s : State) (f : Fld) (b : Bool) : (s.put f b).pwr = s.pwr := rfl
@[simp] theorem State.put_rst (s : State) (f : Fld) (b : Bool) : (s.put f b).rst = s.rst := rfl
@[simp] theorem State.put_sec (s : State) (f : Fld) (b : Bool) : (s.put f b).sec = s.sec := rfl
@[simp] theorem State.put_nvs (s : State) (f : Fld) (b : Bool) : (s.put f b).nvs = s.nvs := rfl
@[simp] theorem State.put_mon (s : State) (f : Fld) (b : Bool) : (s.put f b).mon = s.mon := rfl
@[simp] theorem State.put_spi (s : State) (f : Fld) (b : Bool) : (s.put f b).spi = s.spi := rfl
@[simp] theorem State.put_jtag (s : State) (f : Fld) (b : Bool) : (s.put f b).jtag = s.jtag := rfl
@[simp] theorem State.put_pins (s : State) (f : Fld) (b : Bool) : (s.put f b).pins = s.pins := rfl
@[simp] theorem State.put_free (s : State) (f : Fld) (b : Bool) : (s.put f b).free = s.free := rfl
@[simp] theorem State.put_pending (s : State) (f : Fld) (b : Bool) : (s.put f b).pending = s.pending := rfl

@[simp] theorem State.count_snap (s : State) (f : Fld) (d : Nat) : (s.count f d).snap = s.snap := rfl
@[simp] theorem State.count_bus (s : State) (f : Fld) (d : Nat) : (s.count f d).bus = s.bus := rfl
@[simp] theorem State.count_cat (s : State) (f : Fld) (d : Nat) : (s.count f d).cat = s.cat := rfl
@[simp] theorem State.count_lastAccession (s : State) (f : Fld) (d : Nat) : (s.count f d).lastAccession = s.lastAccession := rfl
@[simp] theorem State.count_acq (s : State) (f : Fld) (d : Nat) : (s.count f d).acq = s.acq := rfl
@[simp] theorem State.count_stackMem (s : State) (f : Fld) (d : Nat) : (s.count f d).stackMem = s.stackMem := rfl
@[simp] theorem State.count_emt (s : State) (f : Fld) (d : Nat) : (s.count f d).emt = s.emt := rfl
@[simp] theorem State.count_det (s : State) (f : Fld) (d : Nat) : (s.count f d).det = s.det := rfl
@[simp] theorem State.count_engines (s : State) (f : Fld) (d : Nat) : (s.count f d).engines = s.engines := rfl
@[simp] theorem State.count_prox (s : State) (f : Fld) (d : Nat) : (s.count f d).prox = s.prox := rfl
@[simp] theorem State.count_pca (s : State) (f : Fld) (d : Nat) : (s.count f d).pca = s.pca := rfl
@[simp] theorem State.count_lnk (s : State) (f : Fld) (d : Nat) : (s.count f d).lnk = s.lnk := rfl
@[simp] theorem State.count_scn (s : State) (f : Fld) (d : Nat) : (s.count f d).scn = s.scn := rfl
@[simp] theorem State.count_sense (s : State) (f : Fld) (d : Nat) : (s.count f d).sense = s.sense := rfl
@[simp] theorem State.count_thm (s : State) (f : Fld) (d : Nat) : (s.count f d).thm = s.thm := rfl
@[simp] theorem State.count_cal (s : State) (f : Fld) (d : Nat) : (s.count f d).cal = s.cal := rfl
@[simp] theorem State.count_saf (s : State) (f : Fld) (d : Nat) : (s.count f d).saf = s.saf := rfl
@[simp] theorem State.count_lmp (s : State) (f : Fld) (d : Nat) : (s.count f d).lmp = s.lmp := rfl
@[simp] theorem State.count_pwr (s : State) (f : Fld) (d : Nat) : (s.count f d).pwr = s.pwr := rfl
@[simp] theorem State.count_rst (s : State) (f : Fld) (d : Nat) : (s.count f d).rst = s.rst := rfl
@[simp] theorem State.count_sec (s : State) (f : Fld) (d : Nat) : (s.count f d).sec = s.sec := rfl
@[simp] theorem State.count_nvs (s : State) (f : Fld) (d : Nat) : (s.count f d).nvs = s.nvs := rfl
@[simp] theorem State.count_mon (s : State) (f : Fld) (d : Nat) : (s.count f d).mon = s.mon := rfl
@[simp] theorem State.count_spi (s : State) (f : Fld) (d : Nat) : (s.count f d).spi = s.spi := rfl
@[simp] theorem State.count_jtag (s : State) (f : Fld) (d : Nat) : (s.count f d).jtag = s.jtag := rfl
@[simp] theorem State.count_pins (s : State) (f : Fld) (d : Nat) : (s.count f d).pins = s.pins := rfl
@[simp] theorem State.count_free (s : State) (f : Fld) (d : Nat) : (s.count f d).free = s.free := rfl
@[simp] theorem State.count_pending (s : State) (f : Fld) (d : Nat) : (s.count f d).pending = s.pending := rfl

@[simp] theorem State.raise_snap (s : State) (f : Fld) : (s.raise f).snap = s.snap := rfl
@[simp] theorem State.raise_bus (s : State) (f : Fld) : (s.raise f).bus = s.bus := rfl
@[simp] theorem State.raise_cat (s : State) (f : Fld) : (s.raise f).cat = s.cat := rfl
@[simp] theorem State.raise_lastAccession (s : State) (f : Fld) : (s.raise f).lastAccession = s.lastAccession := rfl
@[simp] theorem State.raise_acq (s : State) (f : Fld) : (s.raise f).acq = s.acq := rfl
@[simp] theorem State.raise_stackMem (s : State) (f : Fld) : (s.raise f).stackMem = s.stackMem := rfl
@[simp] theorem State.raise_emt (s : State) (f : Fld) : (s.raise f).emt = s.emt := rfl
@[simp] theorem State.raise_det (s : State) (f : Fld) : (s.raise f).det = s.det := rfl
@[simp] theorem State.raise_engines (s : State) (f : Fld) : (s.raise f).engines = s.engines := rfl
@[simp] theorem State.raise_prox (s : State) (f : Fld) : (s.raise f).prox = s.prox := rfl
@[simp] theorem State.raise_pca (s : State) (f : Fld) : (s.raise f).pca = s.pca := rfl
@[simp] theorem State.raise_lnk (s : State) (f : Fld) : (s.raise f).lnk = s.lnk := rfl
@[simp] theorem State.raise_scn (s : State) (f : Fld) : (s.raise f).scn = s.scn := rfl
@[simp] theorem State.raise_sense (s : State) (f : Fld) : (s.raise f).sense = s.sense := rfl
@[simp] theorem State.raise_thm (s : State) (f : Fld) : (s.raise f).thm = s.thm := rfl
@[simp] theorem State.raise_cal (s : State) (f : Fld) : (s.raise f).cal = s.cal := rfl
@[simp] theorem State.raise_saf (s : State) (f : Fld) : (s.raise f).saf = s.saf := rfl
@[simp] theorem State.raise_lmp (s : State) (f : Fld) : (s.raise f).lmp = s.lmp := rfl
@[simp] theorem State.raise_pwr (s : State) (f : Fld) : (s.raise f).pwr = s.pwr := rfl
@[simp] theorem State.raise_rst (s : State) (f : Fld) : (s.raise f).rst = s.rst := rfl
@[simp] theorem State.raise_sec (s : State) (f : Fld) : (s.raise f).sec = s.sec := rfl
@[simp] theorem State.raise_nvs (s : State) (f : Fld) : (s.raise f).nvs = s.nvs := rfl
@[simp] theorem State.raise_mon (s : State) (f : Fld) : (s.raise f).mon = s.mon := rfl
@[simp] theorem State.raise_spi (s : State) (f : Fld) : (s.raise f).spi = s.spi := rfl
@[simp] theorem State.raise_jtag (s : State) (f : Fld) : (s.raise f).jtag = s.jtag := rfl
@[simp] theorem State.raise_pins (s : State) (f : Fld) : (s.raise f).pins = s.pins := rfl
@[simp] theorem State.raise_free (s : State) (f : Fld) : (s.raise f).free = s.free := rfl
@[simp] theorem State.raise_pending (s : State) (f : Fld) : (s.raise f).pending = s.pending := rfl

@[simp] theorem State.err_snap (s : State) (f : Fld) : (s.err f).snap = s.snap := rfl
@[simp] theorem State.err_bus (s : State) (f : Fld) : (s.err f).bus = s.bus := rfl
@[simp] theorem State.err_cat (s : State) (f : Fld) : (s.err f).cat = s.cat := rfl
@[simp] theorem State.err_lastAccession (s : State) (f : Fld) : (s.err f).lastAccession = s.lastAccession := rfl
@[simp] theorem State.err_acq (s : State) (f : Fld) : (s.err f).acq = s.acq := rfl
@[simp] theorem State.err_stackMem (s : State) (f : Fld) : (s.err f).stackMem = s.stackMem := rfl
@[simp] theorem State.err_emt (s : State) (f : Fld) : (s.err f).emt = s.emt := rfl
@[simp] theorem State.err_det (s : State) (f : Fld) : (s.err f).det = s.det := rfl
@[simp] theorem State.err_engines (s : State) (f : Fld) : (s.err f).engines = s.engines := rfl
@[simp] theorem State.err_prox (s : State) (f : Fld) : (s.err f).prox = s.prox := rfl
@[simp] theorem State.err_pca (s : State) (f : Fld) : (s.err f).pca = s.pca := rfl
@[simp] theorem State.err_lnk (s : State) (f : Fld) : (s.err f).lnk = s.lnk := rfl
@[simp] theorem State.err_scn (s : State) (f : Fld) : (s.err f).scn = s.scn := rfl
@[simp] theorem State.err_sense (s : State) (f : Fld) : (s.err f).sense = s.sense := rfl
@[simp] theorem State.err_thm (s : State) (f : Fld) : (s.err f).thm = s.thm := rfl
@[simp] theorem State.err_cal (s : State) (f : Fld) : (s.err f).cal = s.cal := rfl
@[simp] theorem State.err_saf (s : State) (f : Fld) : (s.err f).saf = s.saf := rfl
@[simp] theorem State.err_lmp (s : State) (f : Fld) : (s.err f).lmp = s.lmp := rfl
@[simp] theorem State.err_pwr (s : State) (f : Fld) : (s.err f).pwr = s.pwr := rfl
@[simp] theorem State.err_rst (s : State) (f : Fld) : (s.err f).rst = s.rst := rfl
@[simp] theorem State.err_sec (s : State) (f : Fld) : (s.err f).sec = s.sec := rfl
@[simp] theorem State.err_nvs (s : State) (f : Fld) : (s.err f).nvs = s.nvs := rfl
@[simp] theorem State.err_mon (s : State) (f : Fld) : (s.err f).mon = s.mon := rfl
@[simp] theorem State.err_spi (s : State) (f : Fld) : (s.err f).spi = s.spi := rfl
@[simp] theorem State.err_jtag (s : State) (f : Fld) : (s.err f).jtag = s.jtag := rfl
@[simp] theorem State.err_pins (s : State) (f : Fld) : (s.err f).pins = s.pins := rfl
@[simp] theorem State.err_free (s : State) (f : Fld) : (s.err f).free = s.free := rfl
@[simp] theorem State.err_pending (s : State) (f : Fld) : (s.err f).pending = s.pending := rfl

@[simp] theorem State.wrBoth_snap (s : State) (f : Fld) (v : Nat) : (s.wrBoth f v).snap = s.snap := rfl
@[simp] theorem State.wrBoth_bus (s : State) (f : Fld) (v : Nat) : (s.wrBoth f v).bus = s.bus := rfl
@[simp] theorem State.wrBoth_cat (s : State) (f : Fld) (v : Nat) : (s.wrBoth f v).cat = s.cat := rfl
@[simp] theorem State.wrBoth_lastAccession (s : State) (f : Fld) (v : Nat) : (s.wrBoth f v).lastAccession = s.lastAccession := rfl
@[simp] theorem State.wrBoth_acq (s : State) (f : Fld) (v : Nat) : (s.wrBoth f v).acq = s.acq := rfl
@[simp] theorem State.wrBoth_stackMem (s : State) (f : Fld) (v : Nat) : (s.wrBoth f v).stackMem = s.stackMem := rfl
@[simp] theorem State.wrBoth_emt (s : State) (f : Fld) (v : Nat) : (s.wrBoth f v).emt = s.emt := rfl
@[simp] theorem State.wrBoth_det (s : State) (f : Fld) (v : Nat) : (s.wrBoth f v).det = s.det := rfl
@[simp] theorem State.wrBoth_engines (s : State) (f : Fld) (v : Nat) : (s.wrBoth f v).engines = s.engines := rfl
@[simp] theorem State.wrBoth_prox (s : State) (f : Fld) (v : Nat) : (s.wrBoth f v).prox = s.prox := rfl
@[simp] theorem State.wrBoth_pca (s : State) (f : Fld) (v : Nat) : (s.wrBoth f v).pca = s.pca := rfl
@[simp] theorem State.wrBoth_lnk (s : State) (f : Fld) (v : Nat) : (s.wrBoth f v).lnk = s.lnk := rfl
@[simp] theorem State.wrBoth_scn (s : State) (f : Fld) (v : Nat) : (s.wrBoth f v).scn = s.scn := rfl
@[simp] theorem State.wrBoth_sense (s : State) (f : Fld) (v : Nat) : (s.wrBoth f v).sense = s.sense := rfl
@[simp] theorem State.wrBoth_thm (s : State) (f : Fld) (v : Nat) : (s.wrBoth f v).thm = s.thm := rfl
@[simp] theorem State.wrBoth_cal (s : State) (f : Fld) (v : Nat) : (s.wrBoth f v).cal = s.cal := rfl
@[simp] theorem State.wrBoth_saf (s : State) (f : Fld) (v : Nat) : (s.wrBoth f v).saf = s.saf := rfl
@[simp] theorem State.wrBoth_lmp (s : State) (f : Fld) (v : Nat) : (s.wrBoth f v).lmp = s.lmp := rfl
@[simp] theorem State.wrBoth_pwr (s : State) (f : Fld) (v : Nat) : (s.wrBoth f v).pwr = s.pwr := rfl
@[simp] theorem State.wrBoth_rst (s : State) (f : Fld) (v : Nat) : (s.wrBoth f v).rst = s.rst := rfl
@[simp] theorem State.wrBoth_sec (s : State) (f : Fld) (v : Nat) : (s.wrBoth f v).sec = s.sec := rfl
@[simp] theorem State.wrBoth_nvs (s : State) (f : Fld) (v : Nat) : (s.wrBoth f v).nvs = s.nvs := rfl
@[simp] theorem State.wrBoth_mon (s : State) (f : Fld) (v : Nat) : (s.wrBoth f v).mon = s.mon := rfl
@[simp] theorem State.wrBoth_spi (s : State) (f : Fld) (v : Nat) : (s.wrBoth f v).spi = s.spi := rfl
@[simp] theorem State.wrBoth_jtag (s : State) (f : Fld) (v : Nat) : (s.wrBoth f v).jtag = s.jtag := rfl
@[simp] theorem State.wrBoth_pins (s : State) (f : Fld) (v : Nat) : (s.wrBoth f v).pins = s.pins := rfl
@[simp] theorem State.wrBoth_free (s : State) (f : Fld) (v : Nat) : (s.wrBoth f v).free = s.free := rfl
@[simp] theorem State.wrBoth_pending (s : State) (f : Fld) (v : Nat) : (s.wrBoth f v).pending = s.pending := rfl

@[simp] theorem State.setSection_regs (s : State) (j : Nat) (x : Section) : (s.setSection j x).regs = s.regs := rfl
@[simp] theorem State.setSection_snap (s : State) (j : Nat) (x : Section) : (s.setSection j x).snap = s.snap := rfl
@[simp] theorem State.setSection_bus (s : State) (j : Nat) (x : Section) : (s.setSection j x).bus = s.bus := rfl
@[simp] theorem State.setSection_cat (s : State) (j : Nat) (x : Section) : (s.setSection j x).cat = s.cat := rfl
@[simp] theorem State.setSection_lastAccession (s : State) (j : Nat) (x : Section) : (s.setSection j x).lastAccession = s.lastAccession := rfl
@[simp] theorem State.setSection_acq (s : State) (j : Nat) (x : Section) : (s.setSection j x).acq = s.acq := rfl
@[simp] theorem State.setSection_stackMem (s : State) (j : Nat) (x : Section) : (s.setSection j x).stackMem = s.stackMem := rfl
@[simp] theorem State.setSection_emt (s : State) (j : Nat) (x : Section) : (s.setSection j x).emt = s.emt := rfl
@[simp] theorem State.setSection_engines (s : State) (j : Nat) (x : Section) : (s.setSection j x).engines = s.engines := rfl
@[simp] theorem State.setSection_prox (s : State) (j : Nat) (x : Section) : (s.setSection j x).prox = s.prox := rfl
@[simp] theorem State.setSection_pca (s : State) (j : Nat) (x : Section) : (s.setSection j x).pca = s.pca := rfl
@[simp] theorem State.setSection_lnk (s : State) (j : Nat) (x : Section) : (s.setSection j x).lnk = s.lnk := rfl
@[simp] theorem State.setSection_scn (s : State) (j : Nat) (x : Section) : (s.setSection j x).scn = s.scn := rfl
@[simp] theorem State.setSection_sense (s : State) (j : Nat) (x : Section) : (s.setSection j x).sense = s.sense := rfl
@[simp] theorem State.setSection_thm (s : State) (j : Nat) (x : Section) : (s.setSection j x).thm = s.thm := rfl
@[simp] theorem State.setSection_cal (s : State) (j : Nat) (x : Section) : (s.setSection j x).cal = s.cal := rfl
@[simp] theorem State.setSection_saf (s : State) (j : Nat) (x : Section) : (s.setSection j x).saf = s.saf := rfl
@[simp] theorem State.setSection_lmp (s : State) (j : Nat) (x : Section) : (s.setSection j x).lmp = s.lmp := rfl
@[simp] theorem State.setSection_pwr (s : State) (j : Nat) (x : Section) : (s.setSection j x).pwr = s.pwr := rfl
@[simp] theorem State.setSection_rst (s : State) (j : Nat) (x : Section) : (s.setSection j x).rst = s.rst := rfl
@[simp] theorem State.setSection_sec (s : State) (j : Nat) (x : Section) : (s.setSection j x).sec = s.sec := rfl
@[simp] theorem State.setSection_nvs (s : State) (j : Nat) (x : Section) : (s.setSection j x).nvs = s.nvs := rfl
@[simp] theorem State.setSection_mon (s : State) (j : Nat) (x : Section) : (s.setSection j x).mon = s.mon := rfl
@[simp] theorem State.setSection_spi (s : State) (j : Nat) (x : Section) : (s.setSection j x).spi = s.spi := rfl
@[simp] theorem State.setSection_jtag (s : State) (j : Nat) (x : Section) : (s.setSection j x).jtag = s.jtag := rfl
@[simp] theorem State.setSection_pins (s : State) (j : Nat) (x : Section) : (s.setSection j x).pins = s.pins := rfl
@[simp] theorem State.setSection_free (s : State) (j : Nat) (x : Section) : (s.setSection j x).free = s.free := rfl
@[simp] theorem State.setSection_pending (s : State) (j : Nat) (x : Section) : (s.setSection j x).pending = s.pending := rfl

@[simp] theorem State.setChan_regs (s : State) (c : Nat) (x : Chan) : (s.setChan c x).regs = s.regs := rfl
@[simp] theorem State.setChan_snap (s : State) (c : Nat) (x : Chan) : (s.setChan c x).snap = s.snap := rfl
@[simp] theorem State.setChan_bus (s : State) (c : Nat) (x : Chan) : (s.setChan c x).bus = s.bus := rfl
@[simp] theorem State.setChan_cat (s : State) (c : Nat) (x : Chan) : (s.setChan c x).cat = s.cat := rfl
@[simp] theorem State.setChan_lastAccession (s : State) (c : Nat) (x : Chan) : (s.setChan c x).lastAccession = s.lastAccession := rfl
@[simp] theorem State.setChan_acq (s : State) (c : Nat) (x : Chan) : (s.setChan c x).acq = s.acq := rfl
@[simp] theorem State.setChan_stackMem (s : State) (c : Nat) (x : Chan) : (s.setChan c x).stackMem = s.stackMem := rfl
@[simp] theorem State.setChan_emt (s : State) (c : Nat) (x : Chan) : (s.setChan c x).emt = s.emt := rfl
@[simp] theorem State.setChan_engines (s : State) (c : Nat) (x : Chan) : (s.setChan c x).engines = s.engines := rfl
@[simp] theorem State.setChan_prox (s : State) (c : Nat) (x : Chan) : (s.setChan c x).prox = s.prox := rfl
@[simp] theorem State.setChan_pca (s : State) (c : Nat) (x : Chan) : (s.setChan c x).pca = s.pca := rfl
@[simp] theorem State.setChan_lnk (s : State) (c : Nat) (x : Chan) : (s.setChan c x).lnk = s.lnk := rfl
@[simp] theorem State.setChan_scn (s : State) (c : Nat) (x : Chan) : (s.setChan c x).scn = s.scn := rfl
@[simp] theorem State.setChan_sense (s : State) (c : Nat) (x : Chan) : (s.setChan c x).sense = s.sense := rfl
@[simp] theorem State.setChan_thm (s : State) (c : Nat) (x : Chan) : (s.setChan c x).thm = s.thm := rfl
@[simp] theorem State.setChan_cal (s : State) (c : Nat) (x : Chan) : (s.setChan c x).cal = s.cal := rfl
@[simp] theorem State.setChan_saf (s : State) (c : Nat) (x : Chan) : (s.setChan c x).saf = s.saf := rfl
@[simp] theorem State.setChan_lmp (s : State) (c : Nat) (x : Chan) : (s.setChan c x).lmp = s.lmp := rfl
@[simp] theorem State.setChan_pwr (s : State) (c : Nat) (x : Chan) : (s.setChan c x).pwr = s.pwr := rfl
@[simp] theorem State.setChan_rst (s : State) (c : Nat) (x : Chan) : (s.setChan c x).rst = s.rst := rfl
@[simp] theorem State.setChan_sec (s : State) (c : Nat) (x : Chan) : (s.setChan c x).sec = s.sec := rfl
@[simp] theorem State.setChan_nvs (s : State) (c : Nat) (x : Chan) : (s.setChan c x).nvs = s.nvs := rfl
@[simp] theorem State.setChan_mon (s : State) (c : Nat) (x : Chan) : (s.setChan c x).mon = s.mon := rfl
@[simp] theorem State.setChan_spi (s : State) (c : Nat) (x : Chan) : (s.setChan c x).spi = s.spi := rfl
@[simp] theorem State.setChan_jtag (s : State) (c : Nat) (x : Chan) : (s.setChan c x).jtag = s.jtag := rfl
@[simp] theorem State.setChan_pins (s : State) (c : Nat) (x : Chan) : (s.setChan c x).pins = s.pins := rfl
@[simp] theorem State.setChan_free (s : State) (c : Nat) (x : Chan) : (s.setChan c x).free = s.free := rfl
@[simp] theorem State.setChan_pending (s : State) (c : Nat) (x : Chan) : (s.setChan c x).pending = s.pending := rfl

@[simp] theorem State.setEvents_regs (s : State) (c : Nat) (x : Events) : (s.setEvents c x).regs = s.regs := rfl
@[simp] theorem State.setEvents_snap (s : State) (c : Nat) (x : Events) : (s.setEvents c x).snap = s.snap := rfl
@[simp] theorem State.setEvents_bus (s : State) (c : Nat) (x : Events) : (s.setEvents c x).bus = s.bus := rfl
@[simp] theorem State.setEvents_cat (s : State) (c : Nat) (x : Events) : (s.setEvents c x).cat = s.cat := rfl
@[simp] theorem State.setEvents_lastAccession (s : State) (c : Nat) (x : Events) : (s.setEvents c x).lastAccession = s.lastAccession := rfl
@[simp] theorem State.setEvents_acq (s : State) (c : Nat) (x : Events) : (s.setEvents c x).acq = s.acq := rfl
@[simp] theorem State.setEvents_stackMem (s : State) (c : Nat) (x : Events) : (s.setEvents c x).stackMem = s.stackMem := rfl
@[simp] theorem State.setEvents_emt (s : State) (c : Nat) (x : Events) : (s.setEvents c x).emt = s.emt := rfl
@[simp] theorem State.setEvents_engines (s : State) (c : Nat) (x : Events) : (s.setEvents c x).engines = s.engines := rfl
@[simp] theorem State.setEvents_prox (s : State) (c : Nat) (x : Events) : (s.setEvents c x).prox = s.prox := rfl
@[simp] theorem State.setEvents_pca (s : State) (c : Nat) (x : Events) : (s.setEvents c x).pca = s.pca := rfl
@[simp] theorem State.setEvents_lnk (s : State) (c : Nat) (x : Events) : (s.setEvents c x).lnk = s.lnk := rfl
@[simp] theorem State.setEvents_scn (s : State) (c : Nat) (x : Events) : (s.setEvents c x).scn = s.scn := rfl
@[simp] theorem State.setEvents_sense (s : State) (c : Nat) (x : Events) : (s.setEvents c x).sense = s.sense := rfl
@[simp] theorem State.setEvents_thm (s : State) (c : Nat) (x : Events) : (s.setEvents c x).thm = s.thm := rfl
@[simp] theorem State.setEvents_cal (s : State) (c : Nat) (x : Events) : (s.setEvents c x).cal = s.cal := rfl
@[simp] theorem State.setEvents_saf (s : State) (c : Nat) (x : Events) : (s.setEvents c x).saf = s.saf := rfl
@[simp] theorem State.setEvents_lmp (s : State) (c : Nat) (x : Events) : (s.setEvents c x).lmp = s.lmp := rfl
@[simp] theorem State.setEvents_pwr (s : State) (c : Nat) (x : Events) : (s.setEvents c x).pwr = s.pwr := rfl
@[simp] theorem State.setEvents_rst (s : State) (c : Nat) (x : Events) : (s.setEvents c x).rst = s.rst := rfl
@[simp] theorem State.setEvents_sec (s : State) (c : Nat) (x : Events) : (s.setEvents c x).sec = s.sec := rfl
@[simp] theorem State.setEvents_nvs (s : State) (c : Nat) (x : Events) : (s.setEvents c x).nvs = s.nvs := rfl
@[simp] theorem State.setEvents_mon (s : State) (c : Nat) (x : Events) : (s.setEvents c x).mon = s.mon := rfl
@[simp] theorem State.setEvents_spi (s : State) (c : Nat) (x : Events) : (s.setEvents c x).spi = s.spi := rfl
@[simp] theorem State.setEvents_jtag (s : State) (c : Nat) (x : Events) : (s.setEvents c x).jtag = s.jtag := rfl
@[simp] theorem State.setEvents_pins (s : State) (c : Nat) (x : Events) : (s.setEvents c x).pins = s.pins := rfl
@[simp] theorem State.setEvents_free (s : State) (c : Nat) (x : Events) : (s.setEvents c x).free = s.free := rfl
@[simp] theorem State.setEvents_pending (s : State) (c : Nat) (x : Events) : (s.setEvents c x).pending = s.pending := rfl

@[simp] theorem State.setBank_regs (s : State) (b : Nat) (x : Bank) : (s.setBank b x).regs = s.regs := rfl
@[simp] theorem State.setBank_snap (s : State) (b : Nat) (x : Bank) : (s.setBank b x).snap = s.snap := rfl
@[simp] theorem State.setBank_bus (s : State) (b : Nat) (x : Bank) : (s.setBank b x).bus = s.bus := rfl
@[simp] theorem State.setBank_cat (s : State) (b : Nat) (x : Bank) : (s.setBank b x).cat = s.cat := rfl
@[simp] theorem State.setBank_lastAccession (s : State) (b : Nat) (x : Bank) : (s.setBank b x).lastAccession = s.lastAccession := rfl
@[simp] theorem State.setBank_acq (s : State) (b : Nat) (x : Bank) : (s.setBank b x).acq = s.acq := rfl
@[simp] theorem State.setBank_stackMem (s : State) (b : Nat) (x : Bank) : (s.setBank b x).stackMem = s.stackMem := rfl
@[simp] theorem State.setBank_emt (s : State) (b : Nat) (x : Bank) : (s.setBank b x).emt = s.emt := rfl
@[simp] theorem State.setBank_engines (s : State) (b : Nat) (x : Bank) : (s.setBank b x).engines = s.engines := rfl
@[simp] theorem State.setBank_prox (s : State) (b : Nat) (x : Bank) : (s.setBank b x).prox = s.prox := rfl
@[simp] theorem State.setBank_pca (s : State) (b : Nat) (x : Bank) : (s.setBank b x).pca = s.pca := rfl
@[simp] theorem State.setBank_lnk (s : State) (b : Nat) (x : Bank) : (s.setBank b x).lnk = s.lnk := rfl
@[simp] theorem State.setBank_scn (s : State) (b : Nat) (x : Bank) : (s.setBank b x).scn = s.scn := rfl
@[simp] theorem State.setBank_sense (s : State) (b : Nat) (x : Bank) : (s.setBank b x).sense = s.sense := rfl
@[simp] theorem State.setBank_thm (s : State) (b : Nat) (x : Bank) : (s.setBank b x).thm = s.thm := rfl
@[simp] theorem State.setBank_cal (s : State) (b : Nat) (x : Bank) : (s.setBank b x).cal = s.cal := rfl
@[simp] theorem State.setBank_saf (s : State) (b : Nat) (x : Bank) : (s.setBank b x).saf = s.saf := rfl
@[simp] theorem State.setBank_lmp (s : State) (b : Nat) (x : Bank) : (s.setBank b x).lmp = s.lmp := rfl
@[simp] theorem State.setBank_pwr (s : State) (b : Nat) (x : Bank) : (s.setBank b x).pwr = s.pwr := rfl
@[simp] theorem State.setBank_rst (s : State) (b : Nat) (x : Bank) : (s.setBank b x).rst = s.rst := rfl
@[simp] theorem State.setBank_sec (s : State) (b : Nat) (x : Bank) : (s.setBank b x).sec = s.sec := rfl
@[simp] theorem State.setBank_nvs (s : State) (b : Nat) (x : Bank) : (s.setBank b x).nvs = s.nvs := rfl
@[simp] theorem State.setBank_mon (s : State) (b : Nat) (x : Bank) : (s.setBank b x).mon = s.mon := rfl
@[simp] theorem State.setBank_spi (s : State) (b : Nat) (x : Bank) : (s.setBank b x).spi = s.spi := rfl
@[simp] theorem State.setBank_jtag (s : State) (b : Nat) (x : Bank) : (s.setBank b x).jtag = s.jtag := rfl
@[simp] theorem State.setBank_pins (s : State) (b : Nat) (x : Bank) : (s.setBank b x).pins = s.pins := rfl
@[simp] theorem State.setBank_free (s : State) (b : Nat) (x : Bank) : (s.setBank b x).free = s.free := rfl
@[simp] theorem State.setBank_pending (s : State) (b : Nat) (x : Bank) : (s.setBank b x).pending = s.pending := rfl

@[simp] theorem State.setTimIn_regs (s : State) (n : Nat) (x : TimInput) : (s.setTimIn n x).regs = s.regs := rfl
@[simp] theorem State.setTimIn_snap (s : State) (n : Nat) (x : TimInput) : (s.setTimIn n x).snap = s.snap := rfl
@[simp] theorem State.setTimIn_bus (s : State) (n : Nat) (x : TimInput) : (s.setTimIn n x).bus = s.bus := rfl
@[simp] theorem State.setTimIn_cat (s : State) (n : Nat) (x : TimInput) : (s.setTimIn n x).cat = s.cat := rfl
@[simp] theorem State.setTimIn_lastAccession (s : State) (n : Nat) (x : TimInput) : (s.setTimIn n x).lastAccession = s.lastAccession := rfl
@[simp] theorem State.setTimIn_acq (s : State) (n : Nat) (x : TimInput) : (s.setTimIn n x).acq = s.acq := rfl
@[simp] theorem State.setTimIn_stackMem (s : State) (n : Nat) (x : TimInput) : (s.setTimIn n x).stackMem = s.stackMem := rfl
@[simp] theorem State.setTimIn_emt (s : State) (n : Nat) (x : TimInput) : (s.setTimIn n x).emt = s.emt := rfl
@[simp] theorem State.setTimIn_engines (s : State) (n : Nat) (x : TimInput) : (s.setTimIn n x).engines = s.engines := rfl
@[simp] theorem State.setTimIn_prox (s : State) (n : Nat) (x : TimInput) : (s.setTimIn n x).prox = s.prox := rfl
@[simp] theorem State.setTimIn_pca (s : State) (n : Nat) (x : TimInput) : (s.setTimIn n x).pca = s.pca := rfl
@[simp] theorem State.setTimIn_lnk (s : State) (n : Nat) (x : TimInput) : (s.setTimIn n x).lnk = s.lnk := rfl
@[simp] theorem State.setTimIn_scn (s : State) (n : Nat) (x : TimInput) : (s.setTimIn n x).scn = s.scn := rfl
@[simp] theorem State.setTimIn_sense (s : State) (n : Nat) (x : TimInput) : (s.setTimIn n x).sense = s.sense := rfl
@[simp] theorem State.setTimIn_thm (s : State) (n : Nat) (x : TimInput) : (s.setTimIn n x).thm = s.thm := rfl
@[simp] theorem State.setTimIn_cal (s : State) (n : Nat) (x : TimInput) : (s.setTimIn n x).cal = s.cal := rfl
@[simp] theorem State.setTimIn_saf (s : State) (n : Nat) (x : TimInput) : (s.setTimIn n x).saf = s.saf := rfl
@[simp] theorem State.setTimIn_lmp (s : State) (n : Nat) (x : TimInput) : (s.setTimIn n x).lmp = s.lmp := rfl
@[simp] theorem State.setTimIn_pwr (s : State) (n : Nat) (x : TimInput) : (s.setTimIn n x).pwr = s.pwr := rfl
@[simp] theorem State.setTimIn_rst (s : State) (n : Nat) (x : TimInput) : (s.setTimIn n x).rst = s.rst := rfl
@[simp] theorem State.setTimIn_sec (s : State) (n : Nat) (x : TimInput) : (s.setTimIn n x).sec = s.sec := rfl
@[simp] theorem State.setTimIn_nvs (s : State) (n : Nat) (x : TimInput) : (s.setTimIn n x).nvs = s.nvs := rfl
@[simp] theorem State.setTimIn_mon (s : State) (n : Nat) (x : TimInput) : (s.setTimIn n x).mon = s.mon := rfl
@[simp] theorem State.setTimIn_spi (s : State) (n : Nat) (x : TimInput) : (s.setTimIn n x).spi = s.spi := rfl
@[simp] theorem State.setTimIn_jtag (s : State) (n : Nat) (x : TimInput) : (s.setTimIn n x).jtag = s.jtag := rfl
@[simp] theorem State.setTimIn_pins (s : State) (n : Nat) (x : TimInput) : (s.setTimIn n x).pins = s.pins := rfl
@[simp] theorem State.setTimIn_free (s : State) (n : Nat) (x : TimInput) : (s.setTimIn n x).free = s.free := rfl
@[simp] theorem State.setTimIn_pending (s : State) (n : Nat) (x : TimInput) : (s.setTimIn n x).pending = s.pending := rfl

@[simp] theorem State.setEngine_regs (s : State) (k : Nat) (e : Engine) : (s.setEngine k e).regs = s.regs := rfl
@[simp] theorem State.setEngine_snap (s : State) (k : Nat) (e : Engine) : (s.setEngine k e).snap = s.snap := rfl
@[simp] theorem State.setEngine_bus (s : State) (k : Nat) (e : Engine) : (s.setEngine k e).bus = s.bus := rfl
@[simp] theorem State.setEngine_cat (s : State) (k : Nat) (e : Engine) : (s.setEngine k e).cat = s.cat := rfl
@[simp] theorem State.setEngine_lastAccession (s : State) (k : Nat) (e : Engine) : (s.setEngine k e).lastAccession = s.lastAccession := rfl
@[simp] theorem State.setEngine_acq (s : State) (k : Nat) (e : Engine) : (s.setEngine k e).acq = s.acq := rfl
@[simp] theorem State.setEngine_stackMem (s : State) (k : Nat) (e : Engine) : (s.setEngine k e).stackMem = s.stackMem := rfl
@[simp] theorem State.setEngine_emt (s : State) (k : Nat) (e : Engine) : (s.setEngine k e).emt = s.emt := rfl
@[simp] theorem State.setEngine_det (s : State) (k : Nat) (e : Engine) : (s.setEngine k e).det = s.det := rfl
@[simp] theorem State.setEngine_prox (s : State) (k : Nat) (e : Engine) : (s.setEngine k e).prox = s.prox := rfl
@[simp] theorem State.setEngine_pca (s : State) (k : Nat) (e : Engine) : (s.setEngine k e).pca = s.pca := rfl
@[simp] theorem State.setEngine_lnk (s : State) (k : Nat) (e : Engine) : (s.setEngine k e).lnk = s.lnk := rfl
@[simp] theorem State.setEngine_scn (s : State) (k : Nat) (e : Engine) : (s.setEngine k e).scn = s.scn := rfl
@[simp] theorem State.setEngine_sense (s : State) (k : Nat) (e : Engine) : (s.setEngine k e).sense = s.sense := rfl
@[simp] theorem State.setEngine_thm (s : State) (k : Nat) (e : Engine) : (s.setEngine k e).thm = s.thm := rfl
@[simp] theorem State.setEngine_cal (s : State) (k : Nat) (e : Engine) : (s.setEngine k e).cal = s.cal := rfl
@[simp] theorem State.setEngine_saf (s : State) (k : Nat) (e : Engine) : (s.setEngine k e).saf = s.saf := rfl
@[simp] theorem State.setEngine_lmp (s : State) (k : Nat) (e : Engine) : (s.setEngine k e).lmp = s.lmp := rfl
@[simp] theorem State.setEngine_pwr (s : State) (k : Nat) (e : Engine) : (s.setEngine k e).pwr = s.pwr := rfl
@[simp] theorem State.setEngine_rst (s : State) (k : Nat) (e : Engine) : (s.setEngine k e).rst = s.rst := rfl
@[simp] theorem State.setEngine_sec (s : State) (k : Nat) (e : Engine) : (s.setEngine k e).sec = s.sec := rfl
@[simp] theorem State.setEngine_nvs (s : State) (k : Nat) (e : Engine) : (s.setEngine k e).nvs = s.nvs := rfl
@[simp] theorem State.setEngine_mon (s : State) (k : Nat) (e : Engine) : (s.setEngine k e).mon = s.mon := rfl
@[simp] theorem State.setEngine_spi (s : State) (k : Nat) (e : Engine) : (s.setEngine k e).spi = s.spi := rfl
@[simp] theorem State.setEngine_jtag (s : State) (k : Nat) (e : Engine) : (s.setEngine k e).jtag = s.jtag := rfl
@[simp] theorem State.setEngine_pins (s : State) (k : Nat) (e : Engine) : (s.setEngine k e).pins = s.pins := rfl
@[simp] theorem State.setEngine_free (s : State) (k : Nat) (e : Engine) : (s.setEngine k e).free = s.free := rfl
@[simp] theorem State.setEngine_pending (s : State) (k : Nat) (e : Engine) : (s.setEngine k e).pending = s.pending := rfl

@[simp] theorem State.setLane_regs (s : State) (l : Nat) (x : LaneState) : (s.setLane l x).regs = s.regs := rfl
@[simp] theorem State.setLane_snap (s : State) (l : Nat) (x : LaneState) : (s.setLane l x).snap = s.snap := rfl
@[simp] theorem State.setLane_bus (s : State) (l : Nat) (x : LaneState) : (s.setLane l x).bus = s.bus := rfl
@[simp] theorem State.setLane_cat (s : State) (l : Nat) (x : LaneState) : (s.setLane l x).cat = s.cat := rfl
@[simp] theorem State.setLane_lastAccession (s : State) (l : Nat) (x : LaneState) : (s.setLane l x).lastAccession = s.lastAccession := rfl
@[simp] theorem State.setLane_acq (s : State) (l : Nat) (x : LaneState) : (s.setLane l x).acq = s.acq := rfl
@[simp] theorem State.setLane_stackMem (s : State) (l : Nat) (x : LaneState) : (s.setLane l x).stackMem = s.stackMem := rfl
@[simp] theorem State.setLane_emt (s : State) (l : Nat) (x : LaneState) : (s.setLane l x).emt = s.emt := rfl
@[simp] theorem State.setLane_det (s : State) (l : Nat) (x : LaneState) : (s.setLane l x).det = s.det := rfl
@[simp] theorem State.setLane_engines (s : State) (l : Nat) (x : LaneState) : (s.setLane l x).engines = s.engines := rfl
@[simp] theorem State.setLane_prox (s : State) (l : Nat) (x : LaneState) : (s.setLane l x).prox = s.prox := rfl
@[simp] theorem State.setLane_pca (s : State) (l : Nat) (x : LaneState) : (s.setLane l x).pca = s.pca := rfl
@[simp] theorem State.setLane_scn (s : State) (l : Nat) (x : LaneState) : (s.setLane l x).scn = s.scn := rfl
@[simp] theorem State.setLane_sense (s : State) (l : Nat) (x : LaneState) : (s.setLane l x).sense = s.sense := rfl
@[simp] theorem State.setLane_thm (s : State) (l : Nat) (x : LaneState) : (s.setLane l x).thm = s.thm := rfl
@[simp] theorem State.setLane_cal (s : State) (l : Nat) (x : LaneState) : (s.setLane l x).cal = s.cal := rfl
@[simp] theorem State.setLane_saf (s : State) (l : Nat) (x : LaneState) : (s.setLane l x).saf = s.saf := rfl
@[simp] theorem State.setLane_lmp (s : State) (l : Nat) (x : LaneState) : (s.setLane l x).lmp = s.lmp := rfl
@[simp] theorem State.setLane_pwr (s : State) (l : Nat) (x : LaneState) : (s.setLane l x).pwr = s.pwr := rfl
@[simp] theorem State.setLane_rst (s : State) (l : Nat) (x : LaneState) : (s.setLane l x).rst = s.rst := rfl
@[simp] theorem State.setLane_sec (s : State) (l : Nat) (x : LaneState) : (s.setLane l x).sec = s.sec := rfl
@[simp] theorem State.setLane_nvs (s : State) (l : Nat) (x : LaneState) : (s.setLane l x).nvs = s.nvs := rfl
@[simp] theorem State.setLane_mon (s : State) (l : Nat) (x : LaneState) : (s.setLane l x).mon = s.mon := rfl
@[simp] theorem State.setLane_spi (s : State) (l : Nat) (x : LaneState) : (s.setLane l x).spi = s.spi := rfl
@[simp] theorem State.setLane_jtag (s : State) (l : Nat) (x : LaneState) : (s.setLane l x).jtag = s.jtag := rfl
@[simp] theorem State.setLane_pins (s : State) (l : Nat) (x : LaneState) : (s.setLane l x).pins = s.pins := rfl
@[simp] theorem State.setLane_free (s : State) (l : Nat) (x : LaneState) : (s.setLane l x).free = s.free := rfl
@[simp] theorem State.setLane_pending (s : State) (l : Nat) (x : LaneState) : (s.setLane l x).pending = s.pending := rfl

@[simp] theorem State.setPath_regs (s : State) (l : Nat) (x : PathState) : (s.setPath l x).regs = s.regs := rfl
@[simp] theorem State.setPath_snap (s : State) (l : Nat) (x : PathState) : (s.setPath l x).snap = s.snap := rfl
@[simp] theorem State.setPath_bus (s : State) (l : Nat) (x : PathState) : (s.setPath l x).bus = s.bus := rfl
@[simp] theorem State.setPath_cat (s : State) (l : Nat) (x : PathState) : (s.setPath l x).cat = s.cat := rfl
@[simp] theorem State.setPath_lastAccession (s : State) (l : Nat) (x : PathState) : (s.setPath l x).lastAccession = s.lastAccession := rfl
@[simp] theorem State.setPath_acq (s : State) (l : Nat) (x : PathState) : (s.setPath l x).acq = s.acq := rfl
@[simp] theorem State.setPath_stackMem (s : State) (l : Nat) (x : PathState) : (s.setPath l x).stackMem = s.stackMem := rfl
@[simp] theorem State.setPath_emt (s : State) (l : Nat) (x : PathState) : (s.setPath l x).emt = s.emt := rfl
@[simp] theorem State.setPath_det (s : State) (l : Nat) (x : PathState) : (s.setPath l x).det = s.det := rfl
@[simp] theorem State.setPath_engines (s : State) (l : Nat) (x : PathState) : (s.setPath l x).engines = s.engines := rfl
@[simp] theorem State.setPath_prox (s : State) (l : Nat) (x : PathState) : (s.setPath l x).prox = s.prox := rfl
@[simp] theorem State.setPath_pca (s : State) (l : Nat) (x : PathState) : (s.setPath l x).pca = s.pca := rfl
@[simp] theorem State.setPath_scn (s : State) (l : Nat) (x : PathState) : (s.setPath l x).scn = s.scn := rfl
@[simp] theorem State.setPath_sense (s : State) (l : Nat) (x : PathState) : (s.setPath l x).sense = s.sense := rfl
@[simp] theorem State.setPath_thm (s : State) (l : Nat) (x : PathState) : (s.setPath l x).thm = s.thm := rfl
@[simp] theorem State.setPath_cal (s : State) (l : Nat) (x : PathState) : (s.setPath l x).cal = s.cal := rfl
@[simp] theorem State.setPath_saf (s : State) (l : Nat) (x : PathState) : (s.setPath l x).saf = s.saf := rfl
@[simp] theorem State.setPath_lmp (s : State) (l : Nat) (x : PathState) : (s.setPath l x).lmp = s.lmp := rfl
@[simp] theorem State.setPath_pwr (s : State) (l : Nat) (x : PathState) : (s.setPath l x).pwr = s.pwr := rfl
@[simp] theorem State.setPath_rst (s : State) (l : Nat) (x : PathState) : (s.setPath l x).rst = s.rst := rfl
@[simp] theorem State.setPath_sec (s : State) (l : Nat) (x : PathState) : (s.setPath l x).sec = s.sec := rfl
@[simp] theorem State.setPath_nvs (s : State) (l : Nat) (x : PathState) : (s.setPath l x).nvs = s.nvs := rfl
@[simp] theorem State.setPath_mon (s : State) (l : Nat) (x : PathState) : (s.setPath l x).mon = s.mon := rfl
@[simp] theorem State.setPath_spi (s : State) (l : Nat) (x : PathState) : (s.setPath l x).spi = s.spi := rfl
@[simp] theorem State.setPath_jtag (s : State) (l : Nat) (x : PathState) : (s.setPath l x).jtag = s.jtag := rfl
@[simp] theorem State.setPath_pins (s : State) (l : Nat) (x : PathState) : (s.setPath l x).pins = s.pins := rfl
@[simp] theorem State.setPath_free (s : State) (l : Nat) (x : PathState) : (s.setPath l x).free = s.free := rfl
@[simp] theorem State.setPath_pending (s : State) (l : Nat) (x : PathState) : (s.setPath l x).pending = s.pending := rfl

@[simp] theorem State.setSlot_regs (s : State) (k : Nat) (x : Slot) : (s.setSlot k x).regs = s.regs := rfl
@[simp] theorem State.setSlot_snap (s : State) (k : Nat) (x : Slot) : (s.setSlot k x).snap = s.snap := rfl
@[simp] theorem State.setSlot_bus (s : State) (k : Nat) (x : Slot) : (s.setSlot k x).bus = s.bus := rfl
@[simp] theorem State.setSlot_cat (s : State) (k : Nat) (x : Slot) : (s.setSlot k x).cat = s.cat := rfl
@[simp] theorem State.setSlot_lastAccession (s : State) (k : Nat) (x : Slot) : (s.setSlot k x).lastAccession = s.lastAccession := rfl
@[simp] theorem State.setSlot_acq (s : State) (k : Nat) (x : Slot) : (s.setSlot k x).acq = s.acq := rfl
@[simp] theorem State.setSlot_stackMem (s : State) (k : Nat) (x : Slot) : (s.setSlot k x).stackMem = s.stackMem := rfl
@[simp] theorem State.setSlot_emt (s : State) (k : Nat) (x : Slot) : (s.setSlot k x).emt = s.emt := rfl
@[simp] theorem State.setSlot_det (s : State) (k : Nat) (x : Slot) : (s.setSlot k x).det = s.det := rfl
@[simp] theorem State.setSlot_engines (s : State) (k : Nat) (x : Slot) : (s.setSlot k x).engines = s.engines := rfl
@[simp] theorem State.setSlot_prox (s : State) (k : Nat) (x : Slot) : (s.setSlot k x).prox = s.prox := rfl
@[simp] theorem State.setSlot_pca (s : State) (k : Nat) (x : Slot) : (s.setSlot k x).pca = s.pca := rfl
@[simp] theorem State.setSlot_lnk (s : State) (k : Nat) (x : Slot) : (s.setSlot k x).lnk = s.lnk := rfl
@[simp] theorem State.setSlot_scn (s : State) (k : Nat) (x : Slot) : (s.setSlot k x).scn = s.scn := rfl
@[simp] theorem State.setSlot_thm (s : State) (k : Nat) (x : Slot) : (s.setSlot k x).thm = s.thm := rfl
@[simp] theorem State.setSlot_cal (s : State) (k : Nat) (x : Slot) : (s.setSlot k x).cal = s.cal := rfl
@[simp] theorem State.setSlot_saf (s : State) (k : Nat) (x : Slot) : (s.setSlot k x).saf = s.saf := rfl
@[simp] theorem State.setSlot_lmp (s : State) (k : Nat) (x : Slot) : (s.setSlot k x).lmp = s.lmp := rfl
@[simp] theorem State.setSlot_pwr (s : State) (k : Nat) (x : Slot) : (s.setSlot k x).pwr = s.pwr := rfl
@[simp] theorem State.setSlot_rst (s : State) (k : Nat) (x : Slot) : (s.setSlot k x).rst = s.rst := rfl
@[simp] theorem State.setSlot_sec (s : State) (k : Nat) (x : Slot) : (s.setSlot k x).sec = s.sec := rfl
@[simp] theorem State.setSlot_nvs (s : State) (k : Nat) (x : Slot) : (s.setSlot k x).nvs = s.nvs := rfl
@[simp] theorem State.setSlot_mon (s : State) (k : Nat) (x : Slot) : (s.setSlot k x).mon = s.mon := rfl
@[simp] theorem State.setSlot_spi (s : State) (k : Nat) (x : Slot) : (s.setSlot k x).spi = s.spi := rfl
@[simp] theorem State.setSlot_jtag (s : State) (k : Nat) (x : Slot) : (s.setSlot k x).jtag = s.jtag := rfl
@[simp] theorem State.setSlot_pins (s : State) (k : Nat) (x : Slot) : (s.setSlot k x).pins = s.pins := rfl
@[simp] theorem State.setSlot_free (s : State) (k : Nat) (x : Slot) : (s.setSlot k x).free = s.free := rfl
@[simp] theorem State.setSlot_pending (s : State) (k : Nat) (x : Slot) : (s.setSlot k x).pending = s.pending := rfl

@[simp] theorem State.setQueue_regs (s : State) (h : Nat) (q : List Entry) : (s.setQueue h q).regs = s.regs := rfl
@[simp] theorem State.setQueue_snap (s : State) (h : Nat) (q : List Entry) : (s.setQueue h q).snap = s.snap := rfl
@[simp] theorem State.setQueue_bus (s : State) (h : Nat) (q : List Entry) : (s.setQueue h q).bus = s.bus := rfl
@[simp] theorem State.setQueue_cat (s : State) (h : Nat) (q : List Entry) : (s.setQueue h q).cat = s.cat := rfl
@[simp] theorem State.setQueue_lastAccession (s : State) (h : Nat) (q : List Entry) : (s.setQueue h q).lastAccession = s.lastAccession := rfl
@[simp] theorem State.setQueue_acq (s : State) (h : Nat) (q : List Entry) : (s.setQueue h q).acq = s.acq := rfl
@[simp] theorem State.setQueue_stackMem (s : State) (h : Nat) (q : List Entry) : (s.setQueue h q).stackMem = s.stackMem := rfl
@[simp] theorem State.setQueue_emt (s : State) (h : Nat) (q : List Entry) : (s.setQueue h q).emt = s.emt := rfl
@[simp] theorem State.setQueue_det (s : State) (h : Nat) (q : List Entry) : (s.setQueue h q).det = s.det := rfl
@[simp] theorem State.setQueue_engines (s : State) (h : Nat) (q : List Entry) : (s.setQueue h q).engines = s.engines := rfl
@[simp] theorem State.setQueue_prox (s : State) (h : Nat) (q : List Entry) : (s.setQueue h q).prox = s.prox := rfl
@[simp] theorem State.setQueue_lnk (s : State) (h : Nat) (q : List Entry) : (s.setQueue h q).lnk = s.lnk := rfl
@[simp] theorem State.setQueue_scn (s : State) (h : Nat) (q : List Entry) : (s.setQueue h q).scn = s.scn := rfl
@[simp] theorem State.setQueue_sense (s : State) (h : Nat) (q : List Entry) : (s.setQueue h q).sense = s.sense := rfl
@[simp] theorem State.setQueue_thm (s : State) (h : Nat) (q : List Entry) : (s.setQueue h q).thm = s.thm := rfl
@[simp] theorem State.setQueue_cal (s : State) (h : Nat) (q : List Entry) : (s.setQueue h q).cal = s.cal := rfl
@[simp] theorem State.setQueue_saf (s : State) (h : Nat) (q : List Entry) : (s.setQueue h q).saf = s.saf := rfl
@[simp] theorem State.setQueue_lmp (s : State) (h : Nat) (q : List Entry) : (s.setQueue h q).lmp = s.lmp := rfl
@[simp] theorem State.setQueue_pwr (s : State) (h : Nat) (q : List Entry) : (s.setQueue h q).pwr = s.pwr := rfl
@[simp] theorem State.setQueue_rst (s : State) (h : Nat) (q : List Entry) : (s.setQueue h q).rst = s.rst := rfl
@[simp] theorem State.setQueue_sec (s : State) (h : Nat) (q : List Entry) : (s.setQueue h q).sec = s.sec := rfl
@[simp] theorem State.setQueue_nvs (s : State) (h : Nat) (q : List Entry) : (s.setQueue h q).nvs = s.nvs := rfl
@[simp] theorem State.setQueue_mon (s : State) (h : Nat) (q : List Entry) : (s.setQueue h q).mon = s.mon := rfl
@[simp] theorem State.setQueue_spi (s : State) (h : Nat) (q : List Entry) : (s.setQueue h q).spi = s.spi := rfl
@[simp] theorem State.setQueue_jtag (s : State) (h : Nat) (q : List Entry) : (s.setQueue h q).jtag = s.jtag := rfl
@[simp] theorem State.setQueue_pins (s : State) (h : Nat) (q : List Entry) : (s.setQueue h q).pins = s.pins := rfl
@[simp] theorem State.setQueue_free (s : State) (h : Nat) (q : List Entry) : (s.setQueue h q).free = s.free := rfl
@[simp] theorem State.setQueue_pending (s : State) (h : Nat) (q : List Entry) : (s.setQueue h q).pending = s.pending := rfl
@[simp] theorem State.setWaiting_regs (s : State) (h : Nat) (q : List Entry) : (s.setWaiting h q).regs = s.regs := rfl
@[simp] theorem State.setWaiting_snap (s : State) (h : Nat) (q : List Entry) : (s.setWaiting h q).snap = s.snap := rfl
@[simp] theorem State.setWaiting_bus (s : State) (h : Nat) (q : List Entry) : (s.setWaiting h q).bus = s.bus := rfl
@[simp] theorem State.setWaiting_cat (s : State) (h : Nat) (q : List Entry) : (s.setWaiting h q).cat = s.cat := rfl
@[simp] theorem State.setWaiting_lastAccession (s : State) (h : Nat) (q : List Entry) : (s.setWaiting h q).lastAccession = s.lastAccession := rfl
@[simp] theorem State.setWaiting_acq (s : State) (h : Nat) (q : List Entry) : (s.setWaiting h q).acq = s.acq := rfl
@[simp] theorem State.setWaiting_stackMem (s : State) (h : Nat) (q : List Entry) : (s.setWaiting h q).stackMem = s.stackMem := rfl
@[simp] theorem State.setWaiting_emt (s : State) (h : Nat) (q : List Entry) : (s.setWaiting h q).emt = s.emt := rfl
@[simp] theorem State.setWaiting_det (s : State) (h : Nat) (q : List Entry) : (s.setWaiting h q).det = s.det := rfl
@[simp] theorem State.setWaiting_engines (s : State) (h : Nat) (q : List Entry) : (s.setWaiting h q).engines = s.engines := rfl
@[simp] theorem State.setWaiting_prox (s : State) (h : Nat) (q : List Entry) : (s.setWaiting h q).prox = s.prox := rfl
@[simp] theorem State.setWaiting_lnk (s : State) (h : Nat) (q : List Entry) : (s.setWaiting h q).lnk = s.lnk := rfl
@[simp] theorem State.setWaiting_scn (s : State) (h : Nat) (q : List Entry) : (s.setWaiting h q).scn = s.scn := rfl
@[simp] theorem State.setWaiting_sense (s : State) (h : Nat) (q : List Entry) : (s.setWaiting h q).sense = s.sense := rfl
@[simp] theorem State.setWaiting_thm (s : State) (h : Nat) (q : List Entry) : (s.setWaiting h q).thm = s.thm := rfl
@[simp] theorem State.setWaiting_cal (s : State) (h : Nat) (q : List Entry) : (s.setWaiting h q).cal = s.cal := rfl
@[simp] theorem State.setWaiting_saf (s : State) (h : Nat) (q : List Entry) : (s.setWaiting h q).saf = s.saf := rfl
@[simp] theorem State.setWaiting_lmp (s : State) (h : Nat) (q : List Entry) : (s.setWaiting h q).lmp = s.lmp := rfl
@[simp] theorem State.setWaiting_pwr (s : State) (h : Nat) (q : List Entry) : (s.setWaiting h q).pwr = s.pwr := rfl
@[simp] theorem State.setWaiting_rst (s : State) (h : Nat) (q : List Entry) : (s.setWaiting h q).rst = s.rst := rfl
@[simp] theorem State.setWaiting_sec (s : State) (h : Nat) (q : List Entry) : (s.setWaiting h q).sec = s.sec := rfl
@[simp] theorem State.setWaiting_nvs (s : State) (h : Nat) (q : List Entry) : (s.setWaiting h q).nvs = s.nvs := rfl
@[simp] theorem State.setWaiting_mon (s : State) (h : Nat) (q : List Entry) : (s.setWaiting h q).mon = s.mon := rfl
@[simp] theorem State.setWaiting_spi (s : State) (h : Nat) (q : List Entry) : (s.setWaiting h q).spi = s.spi := rfl
@[simp] theorem State.setWaiting_jtag (s : State) (h : Nat) (q : List Entry) : (s.setWaiting h q).jtag = s.jtag := rfl
@[simp] theorem State.setWaiting_pins (s : State) (h : Nat) (q : List Entry) : (s.setWaiting h q).pins = s.pins := rfl
@[simp] theorem State.setWaiting_free (s : State) (h : Nat) (q : List Entry) : (s.setWaiting h q).free = s.free := rfl
@[simp] theorem State.setWaiting_pending (s : State) (h : Nat) (q : List Entry) : (s.setWaiting h q).pending = s.pending := rfl
@[simp] theorem State.keep_regs (s : State) (h : Held) : (s.keep h).regs = s.regs := rfl
@[simp] theorem State.keep_snap (s : State) (h : Held) : (s.keep h).snap = s.snap := rfl
@[simp] theorem State.keep_bus (s : State) (h : Held) : (s.keep h).bus = s.bus := rfl
@[simp] theorem State.keep_cat (s : State) (h : Held) : (s.keep h).cat = s.cat := rfl
@[simp] theorem State.keep_lastAccession (s : State) (h : Held) : (s.keep h).lastAccession = s.lastAccession := rfl
@[simp] theorem State.keep_acq (s : State) (h : Held) : (s.keep h).acq = s.acq := rfl
@[simp] theorem State.keep_stackMem (s : State) (h : Held) : (s.keep h).stackMem = s.stackMem := rfl
@[simp] theorem State.keep_emt (s : State) (h : Held) : (s.keep h).emt = s.emt := rfl
@[simp] theorem State.keep_det (s : State) (h : Held) : (s.keep h).det = s.det := rfl
@[simp] theorem State.keep_engines (s : State) (h : Held) : (s.keep h).engines = s.engines := rfl
@[simp] theorem State.keep_prox (s : State) (h : Held) : (s.keep h).prox = s.prox := rfl
@[simp] theorem State.keep_lnk (s : State) (h : Held) : (s.keep h).lnk = s.lnk := rfl
@[simp] theorem State.keep_scn (s : State) (h : Held) : (s.keep h).scn = s.scn := rfl
@[simp] theorem State.keep_sense (s : State) (h : Held) : (s.keep h).sense = s.sense := rfl
@[simp] theorem State.keep_thm (s : State) (h : Held) : (s.keep h).thm = s.thm := rfl
@[simp] theorem State.keep_cal (s : State) (h : Held) : (s.keep h).cal = s.cal := rfl
@[simp] theorem State.keep_saf (s : State) (h : Held) : (s.keep h).saf = s.saf := rfl
@[simp] theorem State.keep_lmp (s : State) (h : Held) : (s.keep h).lmp = s.lmp := rfl
@[simp] theorem State.keep_rst (s : State) (h : Held) : (s.keep h).rst = s.rst := rfl
@[simp] theorem State.keep_sec (s : State) (h : Held) : (s.keep h).sec = s.sec := rfl
@[simp] theorem State.keep_nvs (s : State) (h : Held) : (s.keep h).nvs = s.nvs := rfl
@[simp] theorem State.keep_mon (s : State) (h : Held) : (s.keep h).mon = s.mon := rfl
@[simp] theorem State.keep_spi (s : State) (h : Held) : (s.keep h).spi = s.spi := rfl
@[simp] theorem State.keep_jtag (s : State) (h : Held) : (s.keep h).jtag = s.jtag := rfl
@[simp] theorem State.keep_pins (s : State) (h : Held) : (s.keep h).pins = s.pins := rfl
@[simp] theorem State.keep_free (s : State) (h : Held) : (s.keep h).free = s.free := rfl
@[simp] theorem State.keep_pending (s : State) (h : Held) : (s.keep h).pending = s.pending := rfl
@[simp] theorem State.keep_held (s : State) (h : Held) : (s.keep h).pwr.held = s.pwr.held ++ [h] := rfl
@[simp] theorem State.keep_hold (s : State) (h : Held) : (s.keep h).pwr.hold = s.pwr.hold := rfl

@[simp] theorem State.drew_regs (s : State) (n : Nat) : (s.drew n).regs = s.regs := rfl
@[simp] theorem State.drew_snap (s : State) (n : Nat) : (s.drew n).snap = s.snap := rfl
@[simp] theorem State.drew_bus (s : State) (n : Nat) : (s.drew n).bus = s.bus := rfl
@[simp] theorem State.drew_cat (s : State) (n : Nat) : (s.drew n).cat = s.cat := rfl
@[simp] theorem State.drew_lastAccession (s : State) (n : Nat) : (s.drew n).lastAccession = s.lastAccession := rfl
@[simp] theorem State.drew_acq (s : State) (n : Nat) : (s.drew n).acq = s.acq := rfl
@[simp] theorem State.drew_stackMem (s : State) (n : Nat) : (s.drew n).stackMem = s.stackMem := rfl
@[simp] theorem State.drew_emt (s : State) (n : Nat) : (s.drew n).emt = s.emt := rfl
@[simp] theorem State.drew_det (s : State) (n : Nat) : (s.drew n).det = s.det := rfl
@[simp] theorem State.drew_engines (s : State) (n : Nat) : (s.drew n).engines = s.engines := rfl
@[simp] theorem State.drew_prox (s : State) (n : Nat) : (s.drew n).prox = s.prox := rfl
@[simp] theorem State.drew_pca (s : State) (n : Nat) : (s.drew n).pca = s.pca := rfl
@[simp] theorem State.drew_lnk (s : State) (n : Nat) : (s.drew n).lnk = s.lnk := rfl
@[simp] theorem State.drew_scn (s : State) (n : Nat) : (s.drew n).scn = s.scn := rfl
@[simp] theorem State.drew_sense (s : State) (n : Nat) : (s.drew n).sense = s.sense := rfl
@[simp] theorem State.drew_thm (s : State) (n : Nat) : (s.drew n).thm = s.thm := rfl
@[simp] theorem State.drew_cal (s : State) (n : Nat) : (s.drew n).cal = s.cal := rfl
@[simp] theorem State.drew_saf (s : State) (n : Nat) : (s.drew n).saf = s.saf := rfl
@[simp] theorem State.drew_lmp (s : State) (n : Nat) : (s.drew n).lmp = s.lmp := rfl
@[simp] theorem State.drew_pwr (s : State) (n : Nat) : (s.drew n).pwr = s.pwr := rfl
@[simp] theorem State.drew_rst (s : State) (n : Nat) : (s.drew n).rst = s.rst := rfl
@[simp] theorem State.drew_sec (s : State) (n : Nat) : (s.drew n).sec = s.sec := rfl
@[simp] theorem State.drew_nvs (s : State) (n : Nat) : (s.drew n).nvs = s.nvs := rfl
@[simp] theorem State.drew_mon (s : State) (n : Nat) : (s.drew n).mon = s.mon := rfl
@[simp] theorem State.drew_spi (s : State) (n : Nat) : (s.drew n).spi = s.spi := rfl
@[simp] theorem State.drew_jtag (s : State) (n : Nat) : (s.drew n).jtag = s.jtag := rfl
@[simp] theorem State.drew_pins (s : State) (n : Nat) : (s.drew n).pins = s.pins := rfl
@[simp] theorem State.drew_pending (s : State) (n : Nat) : (s.drew n).pending = s.pending := rfl

@[simp] theorem State.drew_free_eq (s : State) (n : Nat) : (s.drew n).free = s.free + n := rfl

/-! ### Registers -/

@[simp] theorem State.rd_wr_self (s : State) (f : Fld) (v : Nat) : (s.wr f v).rd f = v % 2 ^ f.width := Tab.get_set_self _ _ _ _

theorem State.rd_wr_ne (s : State) (f g : Fld) (v : Nat) (h : g.key ≠ f.key) : (s.wr f v).rd g = s.rd g := Tab.get_set_ne _ _ _ _ h

@[simp] theorem State.rdS_wr (s : State) (f g : Fld) (v : Nat) : (s.wr f v).rdS g = s.rdS g := rfl
@[simp] theorem State.rdT_wr (s : State) (f g : Fld) (v : Nat) : (s.wr f v).rdT g = s.rdT g := rfl
@[simp] theorem State.rd_wrS (s : State) (f g : Fld) (v : Nat) : (s.wrS f v).rd g = s.rd g := rfl
@[simp] theorem State.rdS_wrS_self (s : State) (f : Fld) (v : Nat) : (s.wrS f v).rdS f = v % 2 ^ f.width := Tab.get_set_self _ _ _ _

theorem State.rdS_wrS_ne (s : State) (f g : Fld) (v : Nat) (h : g.key ≠ f.key) : (s.wrS f v).rdS g = s.rdS g := Tab.get_set_ne _ _ _ _ h

theorem State.rd_put_self (s : State) (f : Fld) (b : Bool) (h : 0 < f.width) : (s.put f b).rd f = b2n b := by
  have h2 : (1 : Nat) < 2 ^ f.width := Nat.one_lt_two_pow (by omega)
  rw [State.put, State.rd_wr_self]
  cases b
  · rfl
  · exact Nat.mod_eq_of_lt h2

theorem State.rd_put_ne (s : State) (f g : Fld) (b : Bool) (h : g.key ≠ f.key) : (s.put f b).rd g = s.rd g := State.rd_wr_ne s f g _ h

theorem State.on_put_self (s : State) (f : Fld) (b : Bool) (h : 0 < f.width) : (s.put f b).on f = b := by
  rw [State.on, State.rd_put_self s f b h]
  cases b <;> rfl

theorem State.on_put_ne (s : State) (f g : Fld) (b : Bool) (h : g.key ≠ f.key) : (s.put f b).on g = s.on g := by
  rw [State.on, State.rd_put_ne s f g b h, State.on]

theorem State.on_wr_ne (s : State) (f g : Fld) (v : Nat) (h : g.key ≠ f.key) : (s.wr f v).on g = s.on g := by
  rw [State.on, State.rd_wr_ne s f g v h, State.on]

/-- Two values written to one field: the last stands. -/
theorem State.rd_count_self (s : State) (f : Fld) (d : Nat) : (s.count f d).rd f = satAdd (s.rd f) d f.width % 2 ^ f.width :=
  State.rd_wr_self s f _

/-- A field of the register store keeps the store's canonical form whatever is written. -/
theorem Store.wf_wr (st : Store) (f : Fld) (v d : Nat) (h : Tab.wf d st = true) (hr : f.reset = d) : Tab.wf d (st.wr f v) = true := by
  subst hr
  exact Tab.wf_set _ _ _ _ h

/-! ### Instances -/

@[simp] theorem State.section_set (s : State) (j : Nat) (x : Section) : (s.setSection j x).section_ j = x := Tab.get_set_self _ _ _ _
@[simp] theorem State.chan_set (s : State) (c : Nat) (x : Chan) : (s.setChan c x).chan c = x := Tab.get_set_self _ _ _ _
@[simp] theorem State.events_set (s : State) (c : Nat) (x : Events) : (s.setEvents c x).events c = x := Tab.get_set_self _ _ _ _
@[simp] theorem State.bank_set (s : State) (b : Nat) (x : Bank) : (s.setBank b x).bank b = x := Tab.get_set_self _ _ _ _
@[simp] theorem State.timIn_set (s : State) (n : Nat) (x : TimInput) : (s.setTimIn n x).timIn n = x := Tab.get_set_self _ _ _ _
@[simp] theorem State.engine_set (s : State) (k : Nat) (e : Engine) : (s.setEngine k e).engine k = e := Tab.get_set_self _ _ _ _
@[simp] theorem State.lane_set (s : State) (l : Nat) (x : LaneState) : (s.setLane l x).lane l = x := Tab.get_set_self _ _ _ _
@[simp] theorem State.path_set (s : State) (l : Nat) (x : PathState) : (s.setPath l x).path l = x := Tab.get_set_self _ _ _ _
@[simp] theorem State.slot_set (s : State) (k : Nat) (x : Slot) : (s.setSlot k x).slot k = x := Tab.get_set_self _ _ _ _
@[simp] theorem State.waitingAt_set (s : State) (h : Nat) (q : List Entry) : (s.setWaiting h q).waitingAt h = q := Tab.get_set_self _ _ _ _
@[simp] theorem State.queue_setWaiting (s : State) (h j : Nat) (q : List Entry) : (s.setWaiting h q).queue j = s.queue j := rfl
@[simp] theorem State.waitingAt_setQueue (s : State) (h j : Nat) (q : List Entry) : (s.setQueue h q).waitingAt j = s.waitingAt j := rfl
@[simp] theorem State.queue_set (s : State) (h : Nat) (q : List Entry) : (s.setQueue h q).queue h = q := Tab.get_set_self _ _ _ _

theorem State.engine_set_ne (s : State) {k j : Nat} (e : Engine) (h : j ≠ k) : (s.setEngine k e).engine j = s.engine j :=
  Tab.get_set_ne _ _ _ _ h
theorem State.waitingAt_set_ne (s : State) {h j : Nat} (q : List Entry) (n : j ≠ h) : (s.setWaiting h q).waitingAt j = s.waitingAt j :=
  Tab.get_set_ne _ _ _ _ n
theorem State.queue_set_ne (s : State) {h j : Nat} (q : List Entry) (n : j ≠ h) : (s.setQueue h q).queue j = s.queue j :=
  Tab.get_set_ne _ _ _ _ n
theorem State.lane_set_ne (s : State) {l j : Nat} (x : LaneState) (n : j ≠ l) : (s.setLane l x).lane j = s.lane j :=
  Tab.get_set_ne _ _ _ _ n
theorem State.path_set_ne (s : State) {l j : Nat} (x : PathState) (n : j ≠ l) : (s.setPath l x).path j = s.path j :=
  Tab.get_set_ne _ _ _ _ n

end Sys2Proof.Machine
end

