-- ==== Sys2Proof/Laws/Ops.lean ====
section
/-! SUPPORT. What each shared operation can do, said once: the registers that it leaves and the ones that it sets, and the rest of
the state as it was. A proof about a command cites these and unfolds no operation. -/
namespace Sys2Proof.Machine
open Sys2Proof

/-! ### Keys -/

/-- Fields of different folios, or at different bits of one folio, have different keys. -/
theorem fld_key (p b w r : Nat) : (fld p b w r).key = p * pageBits + b := rfl

theorem fld_key_inj {p q b c w v r x : Nat} (hb : b < pageBits) (hc : c < pageBits) :
    (fld p b w r).key = (fld q c v x).key ↔ p = q ∧ b = c := by
  simp only [fld_key, pageBits] at *
  omega

/-! ### Registers kept -/

theorem KeepsRegs.refl (l : List Nat) (s : State) : KeepsRegs l s s := fun _ _ => rfl

theorem KeepsRegs.trans {l : List Nat} {s t u : State} (h : KeepsRegs l s t) (h' : KeepsRegs l t u) : KeepsRegs l s u :=
  fun f hf => (h' f hf).trans (h f hf)

theorem KeepsRegs.mono {l m : List Nat} {s t : State} (h : KeepsRegs l s t) (hm : ∀ k ∈ l, k ∈ m) : KeepsRegs m s t :=
  fun f hf => h f fun hl => hf (hm _ hl)

/-- A write of a listed field keeps the others. -/
theorem KeepsRegs.wr {l : List Nat} {s t : State} (h : KeepsRegs l s t) (f : Fld) (v : Nat) (hf : f.key ∈ l) : KeepsRegs l s (t.wr f v) :=
  fun g hg => (State.rd_wr_ne t f g v fun e => hg (e ▸ hf)).trans (h g hg)

theorem KeepsRegs.put {l : List Nat} {s t : State} (h : KeepsRegs l s t) (f : Fld) (b : Bool) (hf : f.key ∈ l) :
    KeepsRegs l s (t.put f b) := h.wr f _ hf

theorem KeepsRegs.count {l : List Nat} {s t : State} (h : KeepsRegs l s t) (f : Fld) (d : Nat) (hf : f.key ∈ l) :
    KeepsRegs l s (t.count f d) := h.wr f _ hf

/-- A state with the same acting registers keeps the same ones. -/
theorem KeepsRegs.of_cur {l : List Nat} {s t u : State} (h : KeepsRegs l s t) (hu : u.regs.cur = t.regs.cur) : KeepsRegs l s u := by
  intro f hf
  have : u.rd f = t.rd f := by unfold State.rd; rw [hu]
  exact this.trans (h f hf)

/-! ### Counting and bits -/

/-- A saturating count, in a field of its width. -/
theorem satAdd_mod (x d w : Nat) : satAdd x d w % 2 ^ w = min (x + d) (2 ^ w - 1) := by
  have h : 0 < 2 ^ w := Nat.two_pow_pos w
  unfold satAdd
  exact Nat.mod_eq_of_lt (by omega)

theorem State.rd_count (s : State) (f : Fld) (d : Nat) : (s.count f d).rd f = min (s.rd f + d) (2 ^ f.width - 1) := by
  rw [State.rd_count_self, satAdd_mod]

/-! ### A write that reaches a folio (R40) -/

theorem State.writeTo_runs (s : State) (p : Nat) (f : State → State) (h : s.runs p = true) : s.writeTo p f = f { s with bus := {} } := by
  simp [State.writeTo, h]

theorem State.writeTo_refused (s : State) (p : Nat) (f : State → State) (h : s.runs p = false) :
    s.writeTo p f = { s with bus := {} }.put (C.ERR_STATE p) true := by
  simp [State.writeTo, h]

/-! ### The gap of a feed switch-over (R446, R447) -/

theorem State.ungated_runs (s : State) (f : State → State) (h : s.pwr.hold = false) : s.ungated f = f s := by simp [State.ungated, h]

theorem State.ungated_gap (s : State) (f : State → State) (h : s.pwr.hold = true) : s.ungated f = s := by simp [State.ungated, h]

theorem State.sentinel_runs (s : State) (f : State → State) (h : s.runs pSAF = true) (hg : s.pwr.hold = false) : s.sentinel f = f s := by
  simp [State.sentinel, State.sentinelRuns, h, hg]

theorem State.sentinel_gap (s : State) (f : State → State) (h : s.pwr.hold = true) : s.sentinel f = s := by
  simp [State.sentinel, State.sentinelRuns, h]

/-- A register command to the sentinel domain: it acts, is refused by a folio that is off or in reset, or waits for the gap's end. -/
theorem State.writeSentinel_runs (s : State) (path : Path) (p off v : Nat) (f : State → State) (h : s.runs p = true)
    (hg : s.pwr.hold = false) : s.writeSentinel path p off v f = f { s with bus := {} } := by
  simp [State.writeSentinel, hg, State.writeTo_runs _ _ _ h]

theorem State.writeSentinel_gap (s : State) (path : Path) (p off v : Nat) (f : State → State) (hg : s.pwr.hold = true) :
    s.writeSentinel path p off v f = State.keep { s with bus := {} } (.write path p off v) := by
  simp [State.writeSentinel, hg]

/-- Outside the gap no source waits. -/
theorem State.sourceWaits_false (s : State) (code : Nat) (h : s.pwr.hold = false) : s.sourceWaits code = false := by
  simp [State.sourceWaits, h]

/-! ### The shelf queues (R25, R176) -/

/-- An entry joins the queue, or waits behind it. -/
theorem State.pushEntry_enqueues (s : State) (h : Nat) (e : Entry) : Enqueues h e s (s.pushEntry h e) := by
  unfold Enqueues State.pushEntry State.queueFree queueDepth
  split <;> rename_i hq
  · simp [hq]
  · rw [if_neg (by simpa using hq)]
    simp

/-- The front entry leaves, and the first that waits takes the place. -/
theorem State.popEntry_queue (s : State) (h : Nat) : (s.popEntry h).queue h = (s.queue h).tail ++ (s.waitingAt h).take 1 := by
  unfold State.popEntry
  split <;> rename_i hw <;> simp [hw]

theorem State.popEntry_waiting (s : State) (h : Nat) : (s.popEntry h).waitingAt h = (s.waitingAt h).drop 1 := by
  unfold State.popEntry
  split <;> rename_i hw <;> simp [hw]

/-! ### Faults (R41, R411, R568) -/

/-- The registers after a fault: its bits are set, nothing else has changed. -/
theorem State.foldl_put_rd (p m : Nat) (l : List Nat) (s : State) (f : Fld) (h : ∀ i ∈ l, f.key ≠ (C.FAULT p i).key) :
    (l.foldl (fun s i => if bit m i then s.put (C.FAULT p i) true else s) s).rd f = s.rd f := by
  induction l generalizing s with
  | nil => rfl
  | cons i l ih =>
    simp only [List.foldl_cons]
    rw [ih _ fun j hj => h j (List.mem_cons_of_mem _ hj)]
    split
    · exact State.rd_put_ne _ _ _ _ (h i List.mem_cons_self)
    · rfl

theorem State.foldl_put_state (p m : Nat) (l : List Nat) (s : State) :
    ∃ r, l.foldl (fun s i => if bit m i then s.put (C.FAULT p i) true else s) s = { s with regs := { s.regs with cur := r } } := by
  induction l generalizing s with
  | nil => exact ⟨s.regs.cur, rfl⟩
  | cons i l ih =>
    simp only [List.foldl_cons]
    split
    · obtain ⟨r, hr⟩ := ih (s.put (C.FAULT p i) true)
      exact ⟨r, by rw [hr]; rfl⟩
    · exact ih s

theorem State.foldl_put_on (p m : Nat) (l : List Nat) (s : State) (j : Nat) (hj : bit m j = true) :
    j ∈ l ∨ s.on (C.FAULT p j) = true → (l.foldl (fun s i => if bit m i then s.put (C.FAULT p i) true else s) s).on (C.FAULT p j) = true := by
  induction l generalizing s with
  | nil => intro h; simpa using h
  | cons i l ih =>
    intro h
    simp only [List.foldl_cons]
    apply ih
    by_cases hi : i = j
    · subst hi; right; rw [if_pos hj]; exact State.on_put_self _ _ _ Nat.one_pos
    · rcases h with h | h
      · rcases List.mem_cons.mp h with h | h
        · exact absurd h.symm hi
        · exact .inl h
      · right
        split
        · have hk : (C.FAULT p j).key ≠ (C.FAULT p i).key := by
            show p * pageBits + _ ≠ p * pageBits + _
            omega
          rw [State.on_put_ne _ _ _ _ hk]; exact h
        · exact h

/-- A fault touches the acting registers and SAF's posts only. -/
theorem State.setFaults_state (s : State) (p m : Nat) : ∃ r posts, s.setFaults p m =
    { s with regs := { s.regs with cur := r }, saf := { s.saf with posts := posts } } := by
  obtain ⟨r, hr⟩ := State.foldl_put_state p m (List.range 32) s
  unfold State.setFaults
  simp only [hr]
  split
  · exact ⟨r, _, rfl⟩
  · exact ⟨r, s.saf.posts, rfl⟩

theorem State.setFaults_rd (s : State) (p m : Nat) (f : Fld) (h : ∀ i < 32, f.key ≠ (C.FAULT p i).key) :
    (s.setFaults p m).rd f = s.rd f := by
  have := State.foldl_put_rd p m (List.range 32) s f fun i hi => h i (List.mem_range.mp hi)
  unfold State.setFaults
  split
  · exact this
  · exact this

theorem State.setFaults_on (s : State) (p m i : Nat) (hi : i < 32) (hm : bit m i = true) : (s.setFaults p m).on (C.FAULT p i) = true := by
  have := State.foldl_put_on p m (List.range 32) s i hm (.inl (List.mem_range.mpr hi))
  unfold State.setFaults
  split
  · exact this
  · exact this

/-- A fault keeps every field of another folio. -/
theorem State.fault_rd (s : State) (p b : Nat) (f : Fld) (h : ∀ i < 32, f.key ≠ (C.FAULT p i).key) : (s.fault p b).rd f = s.rd f :=
  State.setFaults_rd s p _ f h

theorem State.fault_state (s : State) (p b : Nat) : ∃ r posts, s.fault p b =
    { s with regs := { s.regs with cur := r }, saf := { s.saf with posts := posts } } := State.setFaults_state s p _

@[simp] theorem State.fault_engine (s : State) (p b k : Nat) : (s.fault p b).engine k = s.engine k := by
  obtain ⟨r, q, h⟩ := State.fault_state s p b
  rw [h]; rfl

@[simp] theorem State.fault_pending (s : State) (p b : Nat) : (s.fault p b).pending = s.pending := by
  obtain ⟨r, q, h⟩ := State.fault_state s p b
  rw [h]

/-! ### Copies of fields (R46, R47, R50) -/

/-- Copied fields hold the source's values, the others what they held. -/
theorem copyFlds_ne (src dst : Store) (l : List Fld) (f : Fld) (h : ∀ g ∈ l, f.key ≠ g.key) : (copyFlds src dst l).rd f = dst.rd f := by
  induction l generalizing dst with
  | nil => rfl
  | cons g l ih =>
    have h1 := ih (dst.wr g (src.rd g)) fun x hx => h x (List.mem_cons_of_mem _ hx)
    exact h1.trans (Tab.get_set_ne _ _ _ _ (h g List.mem_cons_self))

theorem copyFlds_mem (src dst : Store) (l : List Fld) (f : Fld) (hf : f ∈ l) (hl : (l.map (·.key)).Nodup) :
    (copyFlds src dst l).rd f = src.rd f % 2 ^ f.width := by
  induction l generalizing dst with
  | nil => exact absurd hf (List.not_mem_nil)
  | cons g l ih =>
    simp only [List.map_cons, List.nodup_cons] at hl
    rcases List.mem_cons.mp hf with rfl | hf
    · have := copyFlds_ne src (dst.wr f (src.rd f)) l f fun x hx e => hl.1 (e ▸ List.mem_map.mpr ⟨x, hx, rfl⟩)
      exact this.trans (Tab.get_set_self _ _ _ _)
    · exact ih _ hf hl.2

/-- Applying a folio's staged values changes its RWS fields only. -/
theorem State.applyStaged_rd_ne (s : State) (p : Nat) (f : Fld) (h : ∀ g ∈ fieldsOf p .rws, f.key ≠ g.key) :
    (s.applyStaged p).rd f = s.rd f := copyFlds_ne _ _ _ _ h

/-- A reset of a folio's registers leaves every field of another folio. -/
theorem State.eraseFolio_rd (s : State) (p : Nat) (f : Fld) :
    (s.eraseFolio p).rd f = if inFolio p f.key then f.reset else s.rd f := Tab.get_clear _ _ _ _

/-! ### Register accesses (R38 to R40) -/

/-- A word write to a folio: in the gap of a feed switch-over the sentinel's folios keep it for the gap's end. -/
theorem State.busWrite_folio (s : State) (path : Path) (p off v : Nat) (hp : p < 183) (ho : off < 0x1000) (ha : off % 4 = 0) :
    s.busWrite path (0x40000000 + 0x1000 * p + off) v =
      if s.pwr.hold = true ∧ domainOf p = 151 then (s.keep (Held.write path p off v), {}) else ((s.writeWord path p off v).eventsQuiet, {}) := by
  unfold State.busWrite folioOf
  have h1 : (0x40000000 + 0x1000 * p + off) % 4 = 0 := by omega
  have h2 : (0x40000000 + 0x1000 * p + off) % 0x1000 = off := by omega
  have h3 : (0x40000000 + 0x1000 * p + off - 0x40000000) / 0x1000 = p := by omega
  have h4 : 0x40000000 + 0x1000 * p + off < 0x40000000 + 0x1000 * folioCount := by simp only [folioCount]; omega
  have h5 : 0x40000000 ≤ 0x40000000 + 0x1000 * p + off := by omega
  simp only [h1, h2, h3, h4, h5]
  simp

/-- A word read of a folio. -/
theorem State.busRead_folio (s : State) (p off : Nat) (hp : p < 183) (ho : off < 0x1000) (ha : off % 4 = 0) :
    s.busRead (0x40000000 + 0x1000 * p + off) = ((s.readWord p off).1, { data := BitVec.ofNat 32 (s.readWord p off).2 }) := by
  unfold State.busRead folioOf
  have h1 : (0x40000000 + 0x1000 * p + off) % 4 = 0 := by omega
  have h2 : (0x40000000 + 0x1000 * p + off) % 0x1000 = off := by omega
  have h3 : (0x40000000 + 0x1000 * p + off - 0x40000000) / 0x1000 = p := by omega
  have h4 : 0x40000000 + 0x1000 * p + off < 0x40000000 + 0x1000 * folioCount := by simp only [folioCount]; omega
  have h5 : 0x40000000 ≤ 0x40000000 + 0x1000 * p + off := by omega
  simp only [h1, h2, h3, h4, h5]
  simp

/-! ### Carrel's answers (R517, R518) -/

/-- With no character waiting, an answer changes the port alone. -/
theorem State.answer_idle (s : State) (lines : List String) (status : String) (h : s.mon.rx = []) :
    s.answer lines status = { s with mon := { s.mon with
      output := s.mon.output ++ lines ++ [status, prompt], busy := false, line := [], lineLong := false, rx := [] } } := by
  simp only [State.answer, h, State.feed]

/-- A command that Carrel knows and that needs no unlock runs on the state in which a `snap` that still waited has expired. -/
theorem State.carrelOnly_running (s : State) (f : State → Reply) (h : s.runs pHCP = true) (hr : s.mon.running = true) :
    s.carrelOnly f = (f s.snapExpires).sent := by
  have hm : s.snapExpires.mon.running = true := by unfold State.snapExpires; split <;> exact hr
  simp [State.carrelOnly, State.carrel, State.monitorReads, h, hr]

/-! ### The safety state (R399, R404) -/

/-- EMT's part of the inhibit latch sets FAULT.MPD_EXTRA at most; every field outside its fault word is kept. -/
theorem State.emtInhibit_rd (s : State) (f : Fld) (h : ∀ i < 32, f.key ≠ (C.FAULT pEMT i).key) : s.emtInhibit.rd f = s.rd f := by
  unfold State.emtInhibit
  split
  · split
    · simp only []
      split
      · exact State.fault_rd _ _ _ _ h
      · rfl
    · rfl
  · rfl

/-- The inhibit latch is set, whatever it was, and no register outside EMT's fault word has changed. -/
theorem State.inhibit_on (s : State) : s.inhibit.on SAF.ST_INHIBIT = true := by
  unfold State.inhibit
  split
  · assumption
  · unfold State.on
    rw [State.emtInhibit_rd _ _ (by decide)]
    exact State.on_put_self s SAF.ST_INHIBIT true Nat.one_pos

theorem State.inhibit_rd (s : State) (f : Fld) (h : f.key ≠ SAF.ST_INHIBIT.key) (he : ∀ i < 32, f.key ≠ (C.FAULT pEMT i).key) :
    s.inhibit.rd f = s.rd f := by
  unfold State.inhibit
  split
  · rfl
  · rw [State.emtInhibit_rd _ _ he]
    exact State.rd_put_ne s _ f true h

/-! ### Memories at reset -/

/-- Every memory is in its canonical form at reset. -/
theorem State.reset_memsWf : State.reset.memsWf := by
  unfold State.memsWf
  decide

/-! ### Resets (R471) -/

/-- A level that returns leaves no source of its code and detail, unless the gap of a feed switch-over keeps its return. -/
theorem State.deassertReset_gone (s : State) (code detail : Nat) (h : s.sourceWaits code = false) :
    SourceGone code detail (s.deassertReset code detail) := by
  intro e he x hx
  simp only [State.deassertReset, h, Bool.false_eq_true, if_false, List.mem_map] at he
  obtain ⟨y, -, rfl⟩ := he
  have := (List.mem_filter.mp hx).2
  intro h
  simp [h.1, h.2] at this

end Sys2Proof.Machine
end

