-- ==== Sys2Proof/Laws/Engine.lean ====
section
/-! SUPPORT. What the shared operations of a return engine can do: issuing, writing a register, loading, storing, the ERROR handler,
and the lanes of the vector registers and accumulators. -/
namespace Sys2Proof.Machine
open Sys2Proof

/-! ### Lanes (R184) -/

/-- A sum of shifted lanes gives each lane back. -/
theorem lane_sum (w : Nat) (f : Nat → BitVec w) : ∀ n i, i < n →
    ((List.range n).map fun i => (f i).toNat * 2 ^ (w * i)).sum / 2 ^ (w * i) % 2 ^ w = (f i).toNat := by
  intro n
  have bound : ∀ n, ((List.range n).map fun i => (f i).toNat * 2 ^ (w * i)).sum < 2 ^ (w * n) := by
    intro n
    induction n with
    | zero => simp
    | succ n ih =>
      rw [List.range_succ, List.map_append, List.sum_append]
      simp only [List.map_cons, List.map_nil, List.sum_cons, List.sum_nil, Nat.add_zero]
      have h1 : (f n).toNat + 1 ≤ 2 ^ w := (f n).isLt
      have h2 : ((f n).toNat + 1) * 2 ^ (w * n) ≤ 2 ^ w * 2 ^ (w * n) := Nat.mul_le_mul_right _ h1
      have h3 : 2 ^ (w * (n + 1)) = 2 ^ w * 2 ^ (w * n) := by rw [← Nat.pow_add]; congr 1; ring
      rw [h3]; linarith [ih, h2]
  induction n with
  | zero => intro i h; omega
  | succ n ih =>
    intro i h
    rw [List.range_succ, List.map_append, List.sum_append]
    simp only [List.map_cons, List.map_nil, List.sum_cons, List.sum_nil, Nat.add_zero]
    rcases Nat.lt_or_ge i n with hlt | hge
    · have e : w * n = w * i + w + w * (n - i - 1) := by
        have : n = i + 1 + (n - i - 1) := by omega
        conv_lhs => rw [this]
        ring
      have : (f n).toNat * 2 ^ (w * n) = 2 ^ (w * i) * (2 ^ w * ((f n).toNat * 2 ^ (w * (n - i - 1)))) := by
        rw [e, Nat.pow_add, Nat.pow_add]; ring
      rw [this, Nat.add_mul_div_left _ _ (Nat.two_pow_pos _), Nat.add_mul_mod_self_left]
      exact ih i hlt
    · have : i = n := by omega
      subst this
      rw [Nat.mul_comm (f i).toNat, Nat.add_mul_div_left _ _ (Nat.two_pow_pos _), Nat.div_eq_of_lt (bound i), Nat.zero_add, Nat.mod_eq_of_lt (f i).isLt]

/-- A lane of a word built from its lanes. -/
theorem extract_sum (w m : Nat) (f : Nat → BitVec w) (i : Nat) (h : i < m) :
    (BitVec.ofNat (w * m) ((List.range m).map fun i => (f i).toNat * 2 ^ (w * i)).sum).extractLsb' (w * i) w = f i := by
  apply BitVec.eq_of_toNat_eq
  rw [BitVec.extractLsb'_toNat, BitVec.toNat_ofNat, Nat.shiftRight_eq_div_pow, ← lane_sum w f m i h]
  generalize ((List.range m).map fun i => (f i).toNat * 2 ^ (w * i)).sum = x
  have e1 : w * m = w * i + w * (m - i) := by rw [← Nat.mul_add]; congr 1; omega
  rw [e1, Nat.pow_add, Nat.mod_mul_right_div_self]
  exact Nat.mod_mod_of_dvd _ (Nat.pow_dvd_pow 2 (Nat.le_mul_of_pos_right _ (by omega)))

theorem lane_ofLanes (f : Nat → Lane) (i : Nat) (h : i < 16) : lane (ofLanes f) i = f i := extract_sum 16 16 f i h
theorem accLane_ofAccLanes (f : Nat → BitVec 40) (i : Nat) (h : i < 16) : accLane (ofAccLanes f) i = f i := extract_sum 40 16 f i h

/-! ### Issuing (R179, R187) -/

/-- An engine that issues the word runs the instruction with one slot counted, and the fetch too where it was corrected. -/
theorem issue_of {s : State} {k : Nat} {w : Word} {fetch : Ecc} (h : Issues s k w) (hf : fetch ≠ .double) (go : State → Engine → State) :
    s.issue k w fetch go = go (s.fetched k fetch) (s.engine k).slotted := by
  obtain ⟨h1, h2, h3, h4, h5⟩ := h
  have h3' : ¬ (0x10000 ≤ (s.engine k).pc.toNat) := by omega
  unfold State.issue
  simp only [h1, h2, h3', h4, h5, hf, Engine.slotted]; simp

/-- The state that has counted a corrected fetch. -/
theorem fetched_eq (s : State) (k : Nat) (fetch : Ecc) :
    (if fetch = .single then s.wr (RE.MEM_CE k) (min (s.rd (RE.MEM_CE k) + 1) 65535) else s) = s.fetched k fetch := rfl

/-- A counted fetch changes one register field alone. -/
theorem fetched_state (s : State) (k : Nat) (fetch : Ecc) : ∃ r, s.fetched k fetch = { s with regs := { s.regs with cur := r } } := by
  unfold State.fetched
  split
  · exact ⟨_, rfl⟩
  · exact ⟨s.regs.cur, rfl⟩

@[simp] theorem fetched_engine (s : State) (k i : Nat) (fetch : Ecc) : (s.fetched k fetch).engine i = s.engine i := by
  obtain ⟨r, h⟩ := fetched_state s k fetch
  rw [h]; rfl

theorem fetched_rd (s : State) (k : Nat) (fetch : Ecc) (f : Fld) (h : f.key ≠ (RE.MEM_CE k).key) : (s.fetched k fetch).rd f = s.rd f := by
  unfold State.fetched
  split
  · exact State.rd_wr_ne _ _ _ _ h
  · rfl

/-- What an engine reads of its memories and windows does not depend on the fetch. -/
theorem fetched_reBytes (s : State) (k : Nat) (fetch : Ecc) (e : Engine) (g : Nat) (r : Region) (a n : Nat) :
    (s.fetched k fetch).reBytes e g r a n = s.reBytes e g r a n := by
  obtain ⟨x, h⟩ := fetched_state s k fetch
  rw [h]; rfl

/-- An instruction whose meaning ends in Q, whatever its fetch. -/
theorem issued {c : Ecc → Instr} {s : State} {k : Nat} {w : Word} {Q : State → State → Prop} {go : State → Engine → State}
    (h : ∀ fetch, exec (c fetch) s = .next (s.issue k w fetch go))
    (hq : ∀ fetch, Q (s.fetched k fetch) (go (s.fetched k fetch) (s.engine k).slotted)) : Issued c s k w Q := by
  intro hi fetch hf
  exact ⟨_, (h fetch).trans (congrArg _ (issue_of hi hf go)), by rw [fetched_eq]; exact hq fetch⟩

theorem reg_slotted (e : Engine) (r : BitVec 5) : e.slotted.reg r = e.reg r := rfl

/-- A scalar register after a write; s0 keeps reading what it read. -/
theorem reg_setReg (e : Engine) (rd r : BitVec 5) (v : Word) : (e.setReg rd v).reg r = if rd ≠ 0 ∧ r = rd then v else e.reg r := by
  unfold Engine.setReg Engine.reg
  split
  · rename_i h; simp [h]
  · rename_i h
    by_cases hr : r = rd
    · subst hr; rw [if_pos ⟨h, rfl⟩]; exact Tab.get_set_self _ _ _ _
    · have : r.toNat ≠ rd.toNat := fun x => hr (BitVec.eq_of_toNat_eq x)
      simp [hr, Tab.get_set_ne _ _ _ _ this]

/-- Writing a scalar register and going on. -/
theorem gotScalar (e : Engine) (rd : BitVec 5) (v : Word) : e.GotScalar ((e.slotted.setReg rd v).advance) rd v := by
  refine ⟨fun h => ?_, fun r h => ?_, ?_, ?_⟩
  · have := reg_setReg e.slotted rd rd v
    rw [if_pos ⟨h, rfl⟩] at this; exact this
  · have := reg_setReg e.slotted rd r v
    have hh : ¬ (rd ≠ 0 ∧ r = rd) := by rintro ⟨h1, rfl⟩; simp_all
    rw [if_neg hh] at this; exact this
  · unfold Engine.setReg; split <;> rfl
  · unfold Engine.setReg; split <;> rfl

theorem onlyEngine (s : State) (k : Nat) (e : Engine) : OnlyEngine k s (s.setEngine k e) := by
  unfold OnlyEngine; rw [State.engine_set]

/-- An instruction whose meaning writes rd and goes on. -/
theorem givesScalar {c : Ecc → Instr} {s : State} {k : Nat} {w : Word} {rd : BitVec 5} {v : Word} {go : State → Engine → State}
    (h : ∀ fetch, exec (c fetch) s = .next (s.issue k w fetch go))
    (hg : ∀ fetch, go (s.fetched k fetch) (s.engine k).slotted = (s.fetched k fetch).next k ((s.engine k).slotted.setReg rd v)) :
    GivesScalar c s k w rd v := by
  refine issued h fun fetch => ?_
  rw [hg, fetched_engine]
  refine ⟨onlyEngine _ _ _, ?_⟩
  unfold State.next; rw [State.engine_set]; exact gotScalar _ _ _

/-- An ALU instruction gives what its FUNC computes. -/
theorem execAlu_of {re : Fin 72} {rd ra rb : BitVec 5} {func : BitVec 11} {s : State} {v : Word}
    (h : aluOp func rb ((s.engine re).reg ra) ((s.engine re).reg rb) = some v) :
    GivesScalar (.alu ⟨re, ·⟩ rd ra rb func) s re (encode (.fmtR 0x00 rd ra rb func)) rd v :=
  givesScalar (go := fun s e => match aluOp func rb (e.reg ra) (e.reg rb) with
    | some v => s.next re (e.setReg rd v)
    | none => s.illegal re e) (fun _ => rfl) fun _ => by simp only [reg_slotted, h]

/-! ### Loads (R179, R181) -/

/-- A clean, aligned load goes on with the bytes of its region. -/
theorem load_clean {s : State} {k : Nat} {e : Engine} {a : Word} {n align : Nat} {go : State → Engine → List Byte → State}
    (h : CleanLoad e a n .clean) (hal : a.toNat % align = 0) :
    s.load k e a n align .clean go = go s e (s.reBytes e (s.rd (RE.RG_SERVED k)) (regionOf a.toNat n) a.toNat n) := by
  obtain ⟨h1, -, h3⟩ := h
  unfold State.load
  simp only [hal]
  have hne : (0 != 0) = false := rfl
  rw [hne]
  simp only [Bool.false_eq_true, if_false]
  cases hr : regionOf a.toNat n
  · simp [h3]
  · simp [h3]
  · simp [State.stackEcc]
  · simp [State.stackEcc]
  · simp
  · exact absurd hr h1

theorem bytes_len (s : State) (e : Engine) (g : Nat) (r : Region) (a n : Nat) (h : r ≠ .none_) : (s.reBytes e g r a n).length = n := by
  cases r <;> simp_all [State.reBytes, Mem.bytes]

/-- A clean, aligned scalar load gives its bytes, extended. -/
theorem load_gives {s : State} {k : Nat} {w : Word} {c : Ecc → Instr} {rd : BitVec 5} {a : Word} {n : Nat} {found : Ecc} {f : Nat → Word} {v : Word}
    (hc : CleanLoad (s.engine k) a n found) (hal : a.toNat % n = 0)
    (hx : ∀ fetch, exec (c fetch) s = .next (s.issue k w fetch fun s e =>
      s.load k e a n n found fun s e bs => s.next k (e.setReg rd (f (ofLeBytes bs)))))
    (hv : f (ofLeBytes ((List.range n).map (s.loadedByte k a n))) = v) : GivesScalar c s k w rd v := by
  have hf := hc.2.1
  subst hf
  have hc' : CleanLoad (s.engine k).slotted a n .clean := hc
  refine givesScalar hx fun fetch => ?_
  have hr : (s.fetched k fetch).rd (RE.RG_SERVED k) = s.rd (RE.RG_SERVED k) := by
    apply fetched_rd
    unfold RE.RG_SERVED RE.MEM_CE
    simp only [fld_key]
    omega
  rw [load_clean hc' hal, hr, fetched_reBytes]
  have : s.reBytes (s.engine k).slotted (s.rd (RE.RG_SERVED k)) (regionOf a.toNat n) a.toNat n = (List.range n).map (s.loadedByte k a n) := by
    have hl := bytes_len s (s.engine k).slotted (s.rd (RE.RG_SERVED k)) (regionOf a.toNat n) a.toNat n hc.1
    apply List.ext_getElem
    · simp [hl]
    · intro i h1 h2
      simp only [List.getElem_map, List.getElem_range, State.loadedByte]
      have e1 : s.reBytes (s.engine k) (s.rd (RE.RG_SERVED k)) (regionOf a.toNat n) a.toNat n = s.reBytes (s.engine k).slotted (s.rd (RE.RG_SERVED k)) (regionOf a.toNat n) a.toNat n := rfl
      rw [e1, List.getD_eq_getElem?_getD, List.getElem?_eq_getElem h1]; rfl
  rw [this, hv]

/-! ### Vector registers and accumulators -/

/-- A vector register after a write. -/
theorem vec_setVec (e : Engine) (vd r : BitVec 5) (v : BitVec 256) : (e.setVec vd v).vec r = if r = vd then v else e.vec r := by
  unfold Engine.setVec Engine.vec
  by_cases h : r = vd
  · subst h; rw [if_pos rfl]; exact Tab.get_set_self _ _ _ _
  · have h' : r.toNat ≠ vd.toNat := fun x => h (BitVec.eq_of_toNat_eq x)
    rw [if_neg h]; exact Tab.get_set_ne _ _ _ _ h'

theorem vec_advance (e : Engine) (r : BitVec 5) : e.advance.vec r = e.vec r := rfl

/-- What a write of a vector register leaves as it was. -/
theorem advance_setVec (e : Engine) (vd : BitVec 5) (v : BitVec 256) :
    let e' := (e.slotted.setVec vd v).advance
    (e'.pc, e'.loops) = afterPc e.pc e.loops ∧ e' = { e with v := e'.v, pc := e'.pc, loops := e'.loops, slots := e.slots + 1 } := by
  refine ⟨rfl, ?_⟩
  unfold Engine.setVec
  generalize Tab.set 0 e.slotted.v vd.toNat v = t
  rfl

/-- Writing a vector register from its lanes and going on. -/
theorem gotVector (e : Engine) (vd : BitVec 5) (f : Nat → Lane) : e.GotVector ((e.slotted.setVec vd (ofLanes f)).advance) vd f := by
  refine ⟨fun i hi => ?_, fun r hr => ?_, (advance_setVec e vd _).1, (advance_setVec e vd _).2⟩
  · rw [vec_advance, vec_setVec, if_pos rfl]
    exact lane_ofLanes f i hi
  · rw [vec_advance, vec_setVec, if_neg hr]
    rfl

/-- An instruction whose meaning writes the lanes f to vd and goes on. -/
theorem givesVector {c : Ecc → Instr} {s : State} {k : Nat} {w : Word} {vd : BitVec 5} {f : Nat → Lane} {go : State → Engine → State}
    (h : ∀ fetch, exec (c fetch) s = .next (s.issue k w fetch go))
    (hg : ∀ fetch, go (s.fetched k fetch) (s.engine k).slotted = (s.fetched k fetch).next k ((s.engine k).slotted.setVec vd (ofLanes f))) :
    GivesVector c s k w vd f := by
  refine issued h fun fetch => ?_
  rw [hg, fetched_engine]
  refine ⟨onlyEngine _ _ _, ?_⟩
  unfold State.next; rw [State.engine_set]; exact gotVector _ _ _

/-! ### Stores (R179, R189, R190) -/

/-- An aligned store that lies in data memory. -/
theorem store_dmem {s : State} {k : Nat} {e : Engine} {a : Word} {align : Nat} {bs : List Byte} (ha : a.toNat % align = 0)
    (hr : regionOf a.toNat bs.length = .dmem) : s.store k e a align bs = s.setEngine k (Engine.advance { e with
      dmem := e.dmem.write (a.toNat - 0x10000) bs
      badWords := e.badWords.filter fun w => !(decide (a.toNat ≤ w) && decide (w + 4 ≤ a.toNat + bs.length)) }) := by
  unfold State.store
  simp [ha, hr]

/-! ### The ERROR handler (R195, R197) -/

/-- s1 to s4, s30 and s31 at a handler's entry, and every other register as it was. -/
theorem reg_enterHandler (e : Engine) (n : Nat) (h : Handler) (a1 a2 a3 a4 : Word) (r : BitVec 5) :
    (e.enterHandler n h a1 a2 a3 a4).reg r =
      if r = 31 then retAddr else if r = 30 then e.stackTop else if r = 4 then a4 else if r = 3 then a3 else if r = 2 then a2
      else if r = 1 then a1 else e.reg r := by
  have h1 : (e.enterHandler n h a1 a2 a3 a4).reg r =
      (((((((e.setReg 1 a1).setReg 2 a2).setReg 3 a3).setReg 4 a4).setReg 30 e.stackTop).setReg 31 retAddr)).reg r := rfl
  rw [h1]
  simp only [reg_setReg]
  simp

/-- A write to any register leaves s0. -/
theorem reg_zero_setReg (e : Engine) (rd : BitVec 5) (v : Word) : (e.setReg rd v).reg 0 = e.reg 0 := by
  rw [reg_setReg]
  split
  · rename_i h; exact absurd h.2.symm h.1
  · rfl

end Sys2Proof.Machine
end

