-- ==== Sys2Proof/Laws/Hash.lean ====
section
/-! SUPPORT. The lengths of hashes. -/
namespace Sys2Proof.Machine
open Sys2Proof

theorem rounds_length (n r : Nat) (a : List Nat) (h : n = 0 → a.length = 25) : (rounds n r a).length = 25 := by
  induction n generalizing r a with
  | zero => exact h rfl
  | succ n ih => exact ih _ _ fun _ => by simp [mixRows, fromLanes]

theorem keccakF_length (a : List Nat) : (keccakF a).length = 25 := rounds_length 24 1 a (by simp)

theorem absorb_length (n : Nat) (a : List Nat) (bs : List Byte) (h : a.length = 25) : (absorb n a bs).length = 25 := by
  induction n generalizing a bs with
  | zero => exact h
  | succ n ih => exact ih _ _ (keccakF_length _)

theorem squeeze_length (n : Nat) (a : List Nat) (h : a.length = 25) : (squeeze n a).length = 136 * n := by
  induction n generalizing a with
  | zero => rfl
  | succ n ih =>
    rw [squeeze, List.length_append, ih _ (keccakF_length _), List.length_flatMap]
    simp [leBytes_length, h]
    omega

/-- A hash has the length asked for. -/
theorem shake256_length (m : List Byte) (n : Nat) : (shake256 m n).length = n := by
  rw [shake256, List.length_take, squeeze_length _ _ (absorb_length _ _ _ (by simp))]
  omega

end Sys2Proof.Machine
end

