-- ==== Sys2Proof/Tests/Slice0.lean ====
section
/-! SUPPORT. The model's own small tests: ill-formed commands, worked examples of the spec, and for every statement that has
hypotheses a state and operands that meet all of them, clause by clause. -/
namespace Sys2Proof.Tests
open Sys2Proof Sys2Proof.Machine

-- The kernel checks of this file run one after another: many at once ask for more threads than memory holds.
set_option Elab.async false

theorem test_wf_slotPeriodStart : (Instr.slotPeriodStart []).wf = false := by decide
theorem test_wf_thmTimerRead : (Instr.thmTimerRead [0]).wf = false := by decide
theorem test_wf_registerWriteRequest : (Instr.registerWriteRequest 0 0 []).wf = false := by decide
theorem test_wf_pairPacketReceived : (Instr.pairPacketReceived 0 0 0 0 (List.replicate 9 0)).wf = false := by decide

/-! ### Small states -/

/-- A state in which the folios `ps` are powered and nothing is held in reset, with some registers at other values than reset's. -/
def up (ps : List Nat) (l : List (Fld × Nat) := []) : State :=
  { rst := { held := [] }
    regs := { cur := ((ps.map fun p => (PWR.DOM_ON (domainOf p), 1)) ++ l).foldl (fun (st : Store) (x : Fld × Nat) => st.wr x.1 x.2) [] } }

/-- A running, unhalted engine 0 in handler SHOT, its pc at a word of instruction memory. -/
def atWord (w : Word) (e : Engine) : Engine := { e with imem := Mem.setLe [] 0 4 w.toNat, pc := 0, badWords := [], running := some .shot }

/-- Engine 0 alone, not halted. -/
def withEngine (e : Engine) (l : List (Fld × Nat) := []) : State := { up [pRe 0] ((C.HALTED (pRe 0), 0) :: l) with engines := [(0, e)] }

/-- Whatever word an engine statement names, engine 0 of this state issues it, in whatever state its registers are. -/
theorem wit_Issues (w : Word) (e : Engine) : Issues (withEngine (atWord w e)) 0 w := by
  have h : (withEngine (atWord w e)).engine 0 = atWord w e := by simp [withEngine, State.engine, Tab.get]
  refine ⟨?_, ?_, ?_, ?_, ?_⟩
  · unfold State.executing
    rw [h]
    have h1 : (withEngine (atWord w e)).runs (pRe 0) = true := by
      show (up [pRe 0] [(C.HALTED (pRe 0), 0)]).runs (pRe 0) = true
      decide +kernel
    have h2 : (withEngine (atWord w e)).on (C.HALTED (pRe 0)) = false := by
      show (up [pRe 0] [(C.HALTED (pRe 0), 0)]).on (C.HALTED (pRe 0)) = false
      decide +kernel
    have h3 : ((withEngine (atWord w e)).reState 0 != stLocked) = true := by
      show ((up [pRe 0] [(C.HALTED (pRe 0), 0)]).reState 0 != stLocked) = true
      decide +kernel
    have h4 : (atWord w e).running.isSome = true := rfl
    rw [h1, h2, h3, h4]
    rfl
  · rw [h]; exact fun x => absurd x (by decide : (0 : Word) ≠ retAddr)
  · rw [h]; exact (by decide : (0 : Word).toNat < 0x10000)
  · rw [h]; rfl
  · rw [h]
    have hle : (Mem.setLe [] 0 4 w.toNat).le 0 4 = w.toNat := by
      rw [Mem.le_setLe]; exact Nat.mod_eq_of_lt w.isLt
    exact decide_eq_true hle

/-! ### Witnesses: return engines

`wit_Issues` meets the premise of every statement about an instruction; what the statements ask beside it follows. -/

/-- An engine with s1 at an address. -/
def base (a : Word) : Engine := { s := [(1, a)] }

/-- ReLoadResults: the first and the last aligned word of data memory, a half-word of instruction memory, a byte, a window access
of 32 bytes and of 16. -/
theorem wit_ReLoadResults : CleanLoad (base 0x10000) 0x10000 4 .clean ∧ CleanLoad (base 0x2FFFC) 0x2FFFC 4 .clean
    ∧ CleanLoad (base 0xFFFE) 0xFFFE 2 .clean ∧ CleanLoad (base 0x121FFF) 0x121FFF 1 .clean ∧ CleanLoad (base 0x10FFE0) 0x10FFE0 32 .clean
    ∧ CleanLoad (base 0x110000) 0x110000 16 .clean ∧ (base 0x2FFFC).reg 1 + (0 : BitVec 16).signExtend 32 = 0x2FFFC := by
  unfold CleanLoad
  decide +kernel

/-- ReScalarResults, ReStoreResults, ReVectorAluResults, ReVectorMacResults: the three shifts; the first and the last bytes of data
memory for each width; both operand forms; both accumulators and both ends of their range. -/
theorem wit_ReOperands : (0x1F : BitVec 16).toNat / 32 = 0 ∧ (0x20 : BitVec 16).toNat / 32 = 1 ∧ (0x5F : BitVec 16).toNat / 32 = 2
    ∧ (∀ x ∈ ([(0x10000, 32), (0x2FFE0, 32), (0x2FFF0, 16), (0x2FFFC, 4), (0x2FFFE, 2), (0x2FFFF, 1)] : List (Nat × Nat)),
        0x10000 ≤ x.1 ∧ x.1 + x.2 ≤ 0x30000)
    ∧ ((0 : BitVec 3) = 0 ∧ (1 : BitVec 3) = 1 ∧ (1 : BitVec 5).toNat ≤ 1)
    ∧ (-2 ^ 39 ≤ (accLane (({} : Engine).acc true) 15).toInt + (1 : Int) * 1 ∧ (accLane (({} : Engine).acc true) 15).toInt + (1 : Int) * 1 < 2 ^ 39)
    := by decide +kernel

/-- ReBranchResults: operands for which each condition holds, and for which it fails. -/
theorem wit_ReBranchResults : (0 : Word) = 0 ∧ (1 : Word) ≠ 0 ∧ (0xFFFFFFFF : Word).toInt < (0 : Word).toInt
    ∧ (0 : Word).toNat < (0xFFFFFFFF : Word).toNat ∧ ¬(0 : Word).toInt < (0xFFFFFFFF : Word).toInt
    ∧ ¬(0xFFFFFFFF : Word).toNat ≤ (0 : Word).toNat := by decide

/-- ReLoopRule: no level and two levels active; the last word of a body with a repetition left and with none. -/
theorem wit_ReLoopRule : (atWord 0 {}).loops.length < 2 ∧ 2 ≤ (atWord 0 { loops := [⟨0, 0, 1⟩, ⟨0, 4, 1⟩] }).loops.length
    ∧ (atWord 0 { loops := [⟨0, 0, 2⟩] }).pc = 0 ∧ 1 < (2 : Word).toNat ∧ (1 : Word).toNat ≤ 1 := by decide

/-- ReCsrResults: a shot in hand before its deadline under ABI 1.1, and after it. -/
theorem wit_ReCsrResults : (∃ x, ({ current := some {}, minor1 := true } : Engine).current = some x ∧ x.late = false)
    ∧ ¬∃ x, ({ current := some { late := true } } : Engine).current = some x ∧ x.late = false := by simp

/-- ReSysResults: a shelf queue with room, one at which entries wait, a full one, the 64th record, a late shot, BRK with test access unlocked for it. -/
theorem wit_ReSysResults : (withEngine (atWord 0 { emitted := 63 })).queue 0 = []
    ∧ (withEngine (atWord 0 { emitted := 63 })).waitingAt 0 = [] ∧ ({ withEngine {} with pca.waiting := [(0, [{}])] } : State).waitingAt 0 ≠ []
    ∧ 128 ≤ (({ withEngine {} with pca.queues := [(0, List.replicate 128 {})] } : State).queue 0).length
    ∧ 64 ≤ (atWord 0 { emitted := 64 }).emitted ∧ (atWord 0 { current := some { late := true } }).current = some { late := true }
    ∧ (withEngine {} [(MON.UNLOCKED, 1), (MON.SCOPE, 2)]).on MON.UNLOCKED = true
    ∧ bit ((withEngine {} [(MON.UNLOCKED, 1), (MON.SCOPE, 2)]).rd MON.SCOPE) 1 = true := by decide +kernel

/-- ReIllegalForms: the first reserved value of each field, and an undefined opcode. -/
theorem wit_ReIllegalForms : 0x010 < (0x011 : BitVec 11).toNat ∧ (0x00F : BitVec 11).toNat ≥ 0x00F ∧ 0x60 ≤ (0x60 : BitVec 16).toNat
    ∧ 2 < (3 : BitVec 3).toNat ∧ (1 : BitVec 3) ≠ 0 ∧ (1 : BitVec 3) ≠ 3 ∧ 0x12 < (0x13 : BitVec 8).toNat ∧ 5 < (6 : BitVec 8).toNat
    ∧ (0x20 : BitVec 8).toNat > 0x1F ∧ 4 < (5 : BitVec 8).toNat ∧ 6 < (7 : BitVec 16).toNat ∧ (7 : BitVec 16) ≠ 0x010
    ∧ formatOf (0x19 : BitVec 6) = none ∧ ((0xFC000006 : Word).extractLsb' 26 6 = 0x3F ∧ 5 < ((0xFC000006 : Word).extractLsb' 0 11).toNat)
    := by decide

/-- ReMisaligned: an address one past an aligned one. -/
theorem wit_ReMisaligned : (0x10001 : Word).toNat % 4 ≠ 0 ∧ (0x10001 : Word).toNat % 2 ≠ 0
    ∧ (base 0x10001).reg 1 + (0 : BitVec 16).signExtend 32 = 0x10001 ∧ CleanLoad (base 0x10001) 0x10001 16 .clean
    ∧ 0x10000 ≤ (0x2FFEF : Word).toNat ∧ (0x2FFEF : Word).toNat + 16 ≤ 0x30000 ∧ (0x2FFEF : Word).toNat % 2 ≠ 0 := by
  unfold CleanLoad
  decide +kernel

/-- ReLoadErrorsAndLockup: the hole below the window, the window, both memories; an engine that issues; a cause inside ERROR. -/
theorem wit_ReLoadErrorsAndLockup : (base 0x2FFFC).bad 0x2FFFC 4 = false
    ∧ ((withEngine (atWord 0 {})).executing 0 = true ∧ (atWord 0 {}).running ≠ some .error ∧ (atWord 0 {}).pc ≠ 0xFFFFFFF0
      ∧ (atWord 0 {}).pc.toNat < 0x10000)
    ∧ regionOf 0x30000 4 = .none_ ∧ regionOf 0x100000 4 = .window ∧ regionOf 0x1100FC 4 = .descriptor
    ∧ regionOf 0xFFFC 4 = .imem ∧ regionOf 0x2FFFC 4 = .dmem
    ∧ ({ atWord 0 {} with running := some .error } : Engine).running = some .error
    ∧ (withEngine { atWord 0 {} with running := some .error }).executing 0 = true ∧ (atWord 0 {}).leaving = none := by decide +kernel

/-- ReDispatch: a closed shot of row group 0 that engine 0 serves, with and without a pending one; an engine that does not serve; an
idle engine with a pending shot; a call that waits alone, and one for the pending shot's frame. -/
theorem wit_ReDispatch :
    let st := fun e l => ({ withEngine e l with acq.closedShot := some { engines := [0] } } : State)
    let s := st {} [(RE.STATE 0, 4)]
    let p : State := withEngine { pending := some {} }
    let c : State := withEngine { calls := [{}] }
    let b : State := withEngine { calls := [{ handler := .frameBegin }], pending := some {} }
    ({ engines := [0] } : Shot).rgOf 0 = some 0 ∧ s.canServe 0 = true ∧ (s.engine 0).lastSeq ≠ some 0 ∧ s.cat.applying = false
    ∧ (s.engine 0).pending = none ∧ ((st { pending := some {} } [(RE.STATE 0, 4)]).engine 0).pending = some {}
    ∧ ((st {} []).canServe 0 = false ∧ ((st {} []).engine 0).pending = none)
    ∧ (b.dispatchable 0 = true ∧ ¬0 < ((0 : Word) - 0).toInt)
    ∧ p.dispatchable 0 = true ∧ (p.engine 0).calls = [] ∧ (p.engine 0).pending = some {}
    ∧ c.dispatchable 0 = true ∧ (c.engine 0).calls = [{}] ∧ (c.engine 0).pending = none := by decide +kernel

/-- ReDispatch, ReHandlerEndsDeadlineAndScrub: an engine whose volume is not the standard firmware, where the opaque identity says so. -/
theorem wit_ReVolume (e : Engine) (h : Config.isStandardVolume 0 0 = false) : (withEngine e).standard 0 = false := by
  have h1 : (withEngine e).rd (RE.VOL_ID 0) = 0 := by
    show (up [pRe 0] [(C.HALTED (pRe 0), 0)]).rd (RE.VOL_ID 0) = 0
    decide +kernel
  have h2 : (withEngine e).rd (RE.VOL_VER 0) = 0 := by
    show (up [pRe 0] [(C.HALTED (pRe 0), 0)]).rd (RE.VOL_VER 0) = 0
    decide +kernel
  rw [State.standard, h1, h2, h]

/-- ReHandlerEndsDeadlineAndScrub: SHOT, ERROR over SHOT, INIT and CONFIG at the return address; the scrubber's first
and last word. -/
theorem wit_ReHandlerEnds :
    let r : Engine := { pc := 0xFFFFFFF0, current := some {} }
    (∀ h ∈ ([.shot, .error, .init, .config] : List Handler),
      (withEngine { r with running := some h, interrupted := some .shot }).executing 0 = true)
    ∧ r.pc = retAddr ∧ r.current = some {} ∧ (withEngine r).runs (pRe 0) = true ∧ (0x2FFFC : Word).toNat < 0x30000 := by decide +kernel

/-- ReLoadingAndRequests: a halted engine with the least and the greatest LOAD_ADDR, and one beyond them; a fenced and cleared engine; a free spare, the
same while its request waits, an engine above 71, and an engine that is no spare. -/
theorem wit_ReLoadingAndRequests :
    let h := up [pRe 0] [(C.HALTED (pRe 0), 1)]
    let f : State := { up [pRe 0] [(RE.STATE 0, 5)] with engines := [(0, {})] }
    let r := up [pREG, pRe 0] [(C.HALTED (pRe 0), 0), (RE.STATE 0, 3), (REG.ENGINE_OF_RG 0, 1)]
    h.runs (pRe 0) = true ∧ h.on (C.HALTED (pRe 0)) = true ∧ (0 : Word).toNat ≤ 0x2FFFC ∧ (0x2FFFC : Word).toNat % 4 = 0
    ∧ 0x2FFFC < (0x30000 : Word).toNat ∧ h.rd (RE.LOAD_ADDR 0) < 0x30000 ∧ (withEngine {}).on (C.HALTED (pRe 0)) = false
    ∧ (0x80000000 : Word).getLsbD 31 = true
    ∧ f.rd (RE.STATE 0) = 5 ∧ (f.engine 0).uncleared = false ∧ h.rd (RE.STATE 0) ≠ 5
    ∧ r.runs pREG = true ∧ r.on repairFlds.req = false ∧ r.on updateFlds.req = false ∧ r.recDiffers 0 = false ∧ r.freeSpare 0 = true
    ∧ (up [pREG] [(repairFlds.req, 1)]).on repairFlds.req = true ∧ 71 < ((0x80480000 : Word).extractLsb' 16 7).toNat
    ∧ (up [pREG]).freeSpare 0 = false := by decide +kernel

/-! ### Witnesses: accesses, halts, commits -/

/-- RegisterAccessErrors: a bad size, a bad alignment, an undefined offset, a folio that is off, a folio of the sentinel in a gap and
outside it, no folio. -/
theorem wit_RegisterAccessErrors : (({ up [pSAF] with pwr.hold := true } : State).writesWait pSAF ∧ ¬(up [pSAF]).writesWait pSAF)
    ∧ (0x40000002 : Word).toNat = 0x40000000 + 0x1000 * 0 + 2 ∧ 2 % 4 ≠ 0 ∧ defined 0 0xFFC = false
    ∧ defined pAFE 0x14 = true ∧ State.reset.runs pAFE = false ∧ (0x3FFFFFFC : Word).toNat < 0x40000000
    ∧ 0x40000000 + 0x1000 * 183 ≤ (0x400B7000 : Word).toNat := by
  unfold State.writesWait
  decide +kernel

/-- RegisterWriteByAccessCode: a folio that runs, REG with a word whose ERR_LIMIT is 0, an engine halted and not. -/
theorem wit_RegisterWriteByAccessCode : (up [pAFE]).runs pAFE = true ∧ ¬(up [pAFE]).writesWait pAFE ∧ (up [pREG]).runs pREG = true
    ∧ (0x1 : Word).toNat / 2 ^ 8 % 2 ^ 8 = 0 ∧ 0 < (0x1 : Word).toNat % 2 ^ 8 ∧ (up [pRe 0] [(C.HALTED (pRe 0), 1)]).on (C.HALTED (pRe 0)) = true
    ∧ (withEngine {}).runs (pRe 0) = true ∧ (withEngine {}).on (C.HALTED (pRe 0)) = false := by
  unfold State.writesWait
  decide +kernel

/-- HaltRule: a group; an idle engine; the lamps in INIT and CONV-H running in OPERATIONAL; AFE, which cannot halt; a halt and a
resume that wait. -/
theorem wit_HaltRule :
    let l := up [pLMP] [(C.HALT pLMP, 0), (C.HALTED pLMP, 0)]
    let o := up [pCONVH] [(C.HALT pCONVH, 0), (CONVH.ST_RUNNING, 1), (SAF.STATE, 2)]
    (up [0]).pwr.hold = false ∧ (up [0]).runs 0 = true ∧ isGroup 0 = true
    ∧ ((withEngine {} [(C.HALT (pRe 0), 0)]).atBoundary (pRe 0) = true ∧ idlesAtBoundary (pRe 0) = true ∧ haltable (pRe 0) = true
      ∧ isGroup (pRe 0) = false ∧ (withEngine {} [(C.HALT (pRe 0), 0)]).on (C.HALT (pRe 0)) = false
      ∧ (withEngine {}).operating = false ∧ (withEngine {}).runs (pRe 0) = true)
    ∧ (l.runs pLMP = true ∧ isGroup pLMP = false ∧ idlesAtBoundary pLMP = false ∧ haltable pLMP = true ∧ l.on (C.HALT pLMP) = false
      ∧ l.operating = false)
    ∧ (o.runs pCONVH = true ∧ o.on (C.HALT pCONVH) = false ∧ o.operating = true ∧ o.on CONVH.ST_RUNNING = true ∧ haltable pCONVH = true
      ∧ isGroup pCONVH = false ∧ idlesAtBoundary pCONVH = false)
    ∧ (haltable pAFE = false ∧ isGroup pAFE = false ∧ idlesAtBoundary pAFE = false ∧ (up [pAFE]).runs pAFE = true)
    ∧ ((up [pLMP] [(C.HALT pLMP, 1), (C.HALTED pLMP, 0)]).on (C.HALT pLMP) = true
      ∧ (up [pLMP] [(C.HALT pLMP, 1), (C.HALTED pLMP, 0)]).on (C.HALTED pLMP) = false)
    ∧ ((up [pLMP] [(C.HALT pLMP, 0), (C.HALTED pLMP, 1)]).on (C.HALT pLMP) = false
      ∧ (up [pLMP] [(C.HALT pLMP, 0), (C.HALTED pLMP, 1)]).on (C.HALTED pLMP) = true) := by decide +kernel

/-- PerturbRule: unlocked in COMMISSION, and locked. -/
theorem wit_PerturbRule :
    let s := up [pAFE] [(MON.UNLOCKED, 1), (MON.SCOPE, 1), (SAF.STATE, 1)]
    s.pwr.hold = false ∧ s.runs pAFE = true ∧ s.on MON.UNLOCKED = true ∧ bit (s.rd MON.SCOPE) 0 = true ∧ s.rd SAF.STATE ≠ 2
    ∧ (up [pAFE]).runs pAFE = true ∧ (up [pAFE]).on MON.UNLOCKED = false := by decide +kernel

/-- CommitRequestAndCheck: idle, checking with and without refusers, staged and applying. -/
theorem wit_CommitRequestAndCheck :
    let c := up [0] [(CAT.CHECKING, 1)]
    let g := up [0] [(CAT.CAT_STAGED, 1)]
    let a : State := { up [0] [(CAT.CHECKING, 1)] with cat.abortPending := true }
    let m : State := { up [0] [(CAT.CAT_STAGED, 1)] with cat.applying := true }
    (up [0]).runs 0 = true ∧ (up [0]).on CAT.CHECKING = false ∧ (up [0]).on CAT.CAT_STAGED = false
    ∧ (c.runs 0 = true ∧ c.on CAT.CHECKING = true ∧ c.refusers = [] ∧ c.cat.abortPending = false)
    ∧ (a.runs 0 = true ∧ a.on CAT.CHECKING = true ∧ a.refusers = [] ∧ a.cat.abortPending = true)
    ∧ (g.runs 0 = true ∧ g.on CAT.CHECKING = false ∧ g.on CAT.CAT_STAGED = true ∧ g.cat.applying = false)
    ∧ (m.on CAT.CHECKING = false ∧ m.cat.applying = true) := by decide +kernel

/-- CommitRequestAndCheck: a folio that refuses, and CAL among those that do. -/
theorem wit_CommitRefused :
    let r : State := { up [0, pACQ] [(CAT.CHECKING, 1)] with regs.staged := [(ACQ.TRIG_EN.key, 0)] }
    let c : State := { up [0, pCAL] [(CAT.CHECKING, 1)] with regs.staged := [(CAL.MODE.key, 1)] }
    r.runs 0 = true ∧ r.on CAT.CHECKING = true ∧ r.refusers ≠ [] ∧ pCAL ∈ c.refusers := by decide +kernel

/-- CommitBoundary: a staged commit at an idle boundary, and at a frame boundary whose strobe is on its way; a folio of the housekeeping
domain that holds it while it applies. -/
theorem wit_CommitBoundary :
    let s := up [pACQ] [(CAT.CAT_STAGED, 1)]
    let d : State := { s with cat.boundaryDue := true }
    let t : State := { up [pAFE] [(C.STAGED pAFE, 1)] with cat.applying := true }
    (s.runs pACQ = true ∧ s.acq.frame = none ∧ s.on CAT.CAT_STAGED = true ∧ s.cat.applying = false)
    ∧ (d.cat.boundaryDue = true ∧ d.on CAT.CAT_STAGED = true ∧ d.cat.applying = false)
    ∧ (pAFE ∉ tdcPages ∧ holdsShots pAFE = false ∧ t.pwr.hold = false ∧ t.cat.applying = true ∧ t.on (C.STAGED pAFE) = true) := by decide +kernel

/-- SnapshotCapture: no capture asked for, one asked for, one waiting at an idle boundary, one in progress. -/
theorem wit_SnapshotCapture :
    let b := up [0] [(CAT.SNAP_BUSY, 1)]
    let w : State := { up [pACQ] [(CAT.SNAP_BUSY, 1)] with cat.snapWaiting := true }
    let c : State := { up [0] [(CAT.SNAP_BUSY, 1)] with cat.snapCapturing := true }
    (up [0]).runs 0 = true ∧ (up [0]).on CAT.SNAP_BUSY = false ∧ b.runs 0 = true ∧ b.on CAT.SNAP_BUSY = true
    ∧ (w.runs pACQ = true ∧ w.acq.frame = none ∧ w.cat.boundaryDue = false ∧ w.cat.snapWaiting = true) ∧ c.cat.snapCapturing = true
    ∧ c.mon.snapWait = false := by decide +kernel

/-! ### Witnesses: triggers, shots, emission -/

/-- TriggersAndRun: all four sources enabled and no frame yet; a frame in acquisition; a leader's instant; the frame timer with and
without a trigger that waits; a boundary and a trigger just passed; RUN clear and set; OPERATIONAL; pin triggers that have not been seen. -/
theorem wit_TriggersAndRun :
    let s : State := { up [pACQ] [(ACQ.RUN, 1), (ACQ.TRIG_EN, 15)] with lnk.pairAt := some 0 }
    let f : State := { s with acq.frame := some {} }
    let p : State := { up [pACQ] [(ACQ.RUN, 1), (ACQ.TRIG_EN, 4)] with acq.timerPending := true }
    let e : State := { s with acq.triggered := true, acq.lastBoundary := some 0, acq.lastTrigger := some 0 }
    let o := up [pACQ] [(ACQ.RUN, 1), (SAF.STATE, 2)]
    let m := up [pACQ] [(ACQ.RUN, 1), (ACQ.TRIG_EN, 4)]
    (s.runs pACQ = true ∧ s.on ACQ.RUN = true ∧ s.acq.frame = none ∧ s.cat.boundaryDue = false
      ∧ s.passed s.acq.lastBoundary (s.rd ACQ.FLYBACK_MIN) = true
      ∧ s.passed s.acq.lastTrigger 39800 = true ∧ (∀ b < 4, bit (s.rd ACQ.TRIG_EN) b = true) ∧ s.lnk.pairAt = some 0)
    ∧ (f.runs pACQ = true ∧ f.acq.frame ≠ none ∧ f.on ACQ.RUN = true)
    ∧ (e.acq.triggered = true ∧ e.passed e.acq.lastBoundary (e.rd ACQ.FLYBACK_MIN) = false ∧ e.passed e.acq.lastTrigger 39800 = false
      ∧ bit (0 : BitVec 4).toNat 2 = false)
    ∧ (let j : State := { up [pACQ] [(ACQ.RUN, 1), (ACQ.TRIG_EN, 12)] with
         acq.frame := some { cause := 2 }, acq.lastTrigger := some 0, lnk.pairAt := some 0 }
       let x : State := { s with acq.frame := some { cause := 12 }, acq.lastTrigger := some 0 }
       j.runs pACQ = true ∧ j.on ACQ.RUN = true ∧ j.sameSample = true ∧ j.timerActs = true ∧ j.acq.timerPending = false
         ∧ bit (j.rd ACQ.TRIG_EN) 2 = true ∧ bit (j.rd ACQ.TRIG_EN) 3 = true ∧ bit 2 2 = false ∧ bit 2 3 = false
         ∧ x.sameSample = true ∧ bit (x.rd ACQ.TRIG_EN) 0 = true ∧ bit (x.rd ACQ.TRIG_EN) 1 = true ∧ bit 12 0 = false ∧ bit 12 1 = false
         ∧ f.sameSample = false ∧ e.sameSample = false)
    ∧ (m.timerActs = true ∧ m.acq.timerPending = false ∧ p.timerActs = true ∧ p.acq.timerPending = true ∧ m.acq.frame = none)
    ∧ ((up [pACQ]).runs pACQ = true ∧ (up [pACQ]).on ACQ.RUN = false ∧ (up [pACQ]).operating = false)
    ∧ (o.runs pACQ = true ∧ o.on ACQ.RUN = true ∧ o.operating = true)
    ∧ (s.operating = false ∧ s.pinEnabled = true ∧ s.on ACQ.ST_SYNC_LOST = false ∧ bit (s.rd ACQ.TRIG_EN) 2 = true
      ∧ (up [pACQ] [(ACQ.LAST_CAUSE, 1)]).rd ACQ.LAST_CAUSE % 4 ≠ 0 ∧ bit ((up [pACQ] [(ACQ.TRIG_EN, 1)]).rd ACQ.TRIG_EN) 2 = false) := by decide +kernel

/-- R150: the timer and a software trigger met in one sample make one capture with cause 0b1100 and LAST_SRC 2. -/
theorem test_timerAndSoftware :
    let s := up [pACQ] [(ACQ.RUN, 1), (ACQ.TRIG_EN, 12)]
    let run := fun (s : State) c => match exec c s with
      | .next t => t
      | _ => s
    let t := run (run s (.swTrig .host)) .frameTimer
    t.acq.frame.map (·.cause) = some 12 ∧ t.rd ACQ.LAST_CAUSE = 12 ∧ t.rd ACQ.LAST_SRC = 2 ∧ t.rd ACQ.TRIG_IGNORED = 0 := by decide +kernel

/-- BurstCodes: EMT runs and a frame without a code wants one; the least and the greatest pulse count. -/
theorem wit_BurstCodes : (up [pEMT]).runs pEMT = true ∧ ({ up [pEMT] with acq.frame := some {} } : State).codeWanted = some 0 ∧ (1 : Nat) ≤ 8 := by decide +kernel

/-- ShotOpensAndCloses: the last column of a frame; a shot past its arm point, and one whose window is open, with PCA and a snapshot
that waits. -/
theorem wit_ShotOpensAndCloses :
    let s : State := { up [pACQ] with acq.frame := some { ncol := 1 } }
    (s.runs pACQ = true ∧ s.acq.frame = some { ncol := 1 } ∧ s.acq.shot = none ∧ ({ ncol := 1 } : Frame).next < 1)
    ∧ ({ fire := some 0 } : Shot).fire ≠ none ∧ ({ fire := some 0 } : Shot).windowOpen = false
    ∧ ({ windowOpen := true, last := true } : Shot).windowOpen = true
    ∧ (let c : State := { up [pACQ, pPASM] [(ACQ.RUN, 1)] with acq.shot := some { windowOpen := true }, acq.frame := some {}, cat.snapWaiting := true }
       c.runs pPASM = true ∧ ({} : Frame).cut = false ∧ c.cat.snapWaiting = true ∧ c.on ACQ.RUN = true) := by decide +kernel

/-- ArmTokenAndArmPoint: emission permitted within the limits and beyond one of them; INIT; a shot before its arm point with and without
its token. -/
theorem wit_ArmTokenAndArmPoint :
    let l := [(SAF.STATE, 1), (SAF.CTR_EN, 1), (SAF.CTR_FB_CLOSED, 1), (SAF.ST_INHIBIT, 0)]
    let s : State := { up [pSCN] l with acq.shot := some {}, scn.safState := 0 }
    let b : State := { up [pSCN] (l ++ [(SAF.Q_W1_MAX, 0)]) with acq.shot := some {}, scn.safState := 0, saf.w1 := [(0, [1])] }
    let h : State := { s with emt.token := some ⟨true, 0⟩ }
    ((s.rd SAF.STATE = 1 ∧ s.rd SAF.TRIPS_HOLD = 0 ∧ s.rd SAF.TRIPS_LATCH = 0 ∧ s.mirror = 0 ∧ s.on SAF.CTR_EN = true
      ∧ s.on SAF.CTR_FB_CLOSED = true ∧ s.pwr.hold = false) ∧ s.emt.token = none)
    ∧ (∀ st < 8, s.shotDrive 0 0 st ≤ s.rd SAF.Q_SHOT_MAX ∧ windowSum s.saf.w1 st + s.shotDrive 0 0 st ≤ s.rd SAF.Q_W1_MAX
      ∧ windowSum s.saf.w2 st + s.shotDrive 0 0 st ≤ s.rd SAF.Q_W2_MAX)
    ∧ (b.mirror = 0 ∧ ¬windowSum b.saf.w1 0 + b.shotDrive 0 0 0 ≤ b.rd SAF.Q_W1_MAX)
    ∧ ((up [pSCN]).rd SAF.STATE = 0 ∧ (up [pSCN]).emt.token = none)
    ∧ (h.on SAF.ST_INHIBIT = false ∧ h.emt.token = some ⟨true, 0⟩ ∧ ({} : Shot).fire = none ∧ ({} : Shot).emtReset = false)
    := by decide +kernel

/-! ### Witnesses: safety -/

/-- SafetyRequests: COMMISSION, INIT and SAFE_HOLD with and without a latching trip; the pair armed; both kinds of path. -/
theorem wit_SafetyRequests :
    let i := up []
    let h := up [] [(SAF.STATE, 4)]
    let l := up [] [(SAF.STATE, 4), (SAF.TRIPS_LATCH, 1)]
    i.runs pSAF = true ∧ i.pwr.hold = false ∧ i.rd SAF.STATE = 0 ∧ (up [] [(SAF.STATE, 1)]).rd SAF.STATE = 1
    ∧ h.rd SAF.STATE = 4 ∧ h.rd SAF.TRIPS_LATCH = 0 ∧ l.rd SAF.TRIPS_LATCH ≠ 0
    ∧ ({ i with saf.pairArmed := true } : State).saf.pairArmed = true ∧ i.saf.pairArmed = false
    ∧ (Path.spi = .host ∨ Path.spi = .spi) ∧ ¬(Path.link = .host ∨ Path.link = .spi) := by decide +kernel

/-- OperationalEntry: a ready INIT; one that is not; AUTO_OPER with an attempt left; an entry that waits. -/
theorem wit_OperationalEntry :
    let s : State := { up [] [(SAF.STORED_VALID, 1), (SAF.AUTO_OPER, 1), (SAF.SAFEMODE, 0)] with
      saf.testsPassed := true, saf.autoTried := true, saf.autoLeft := true }
    let w : State := { s with saf.entering := true }
    (s.runs pSAF = true ∧ s.rd SAF.STATE = 0 ∧ s.on SAF.STORED_VALID = true ∧ s.rd SAF.COLOPHON_CALC = s.rd SAF.COLOPHON_STORED
      ∧ s.rd SAF.TRIPS_LATCH = 0 ∧ s.saf.testsPassed = true ∧ s.on SAF.SAFEMODE = false)
    ∧ (s.saf.autoTried = true ∧ s.saf.autoLeft = true ∧ s.on SAF.AUTO_OPER = true ∧ s.saf.entering = false)
    ∧ s.pwr.hold = false ∧ (w.saf.entering = true ∧ ∀ p < 183, w.on (C.EN p) = false)
    ∧ ((up []).runs pSAF = true ∧ (up []).on SAF.STORED_VALID = false ∧ ({ up [] with saf.entering := true } : State).saf.entering = true)
    := by decide +kernel

/-- SafetyTrips: each condition outside a switch-over. -/
theorem wit_SafetyTrips :
    let s : State := { up [] with saf.disagree := true, saf.contactorWait := true }
    let c : State := { up [] [(SAF.CTR_FB_CLOSED, 1)] with saf.contactorWait := true }
    let d := up [] [(SAF.STATE, 3), (SAF.DEG_MAX, 1)]
    let f : State := { up [] with saf.posts := [.fireReport 0 200 1 0 0 false false false] }
    let n : State := { up [] [(SAF.NOREF_TRIP, 1)] with saf.posts := [.fireReport 0 0 1 0 1 true true false] }
    let m : State := { up [] [(EMT.FAULT_MPD_EXTRA, 1)] with saf.posts := [.faultSafety pEMT] }
    let g : State := { up [] [(SAF.STATE, 2), (EMT.FAULT_TOKEN_TAG, 1)] with saf.posts := [.faultSafety pACQ], saf.frameCauses := 2 ^ 34 }
    (g.rd SAF.STATE = 2 ∧ g.degCauses ≠ 0 ∧ pACQ ≠ pEMT ∧ g.on EMT.FAULT_TOKEN_TAG = true ∧ g.trip 13 = false)
    ∧ s.runs pSAF = true ∧ s.pwr.hold = false ∧ s.trip 0 = false ∧ (if true then true else !true) = true ∧ s.saf.disagree = true
    ∧ (c.saf.contactorWait = true ∧ c.on SAF.CTR_FB_CLOSED ≠ c.on SAF.CTR_EN)
    ∧ (d.rd SAF.STATE = 3 ∧ d.rd SAF.DEG_MAX ≠ 0)
    ∧ ((emitting (s.rd SAF.STATE) && s.inShot) = false ∧ (false && true && true && true && s.watchAgree) = false
      ∧ (true && true && true && true && s.watchAgree) = true)
    ∧ (f.saf.posts = .fireReport 0 200 1 0 0 false false false :: [])
    ∧ (n.saf.posts = .fireReport 0 0 1 0 1 true true false :: [] ∧ n.rd SAF.NOREF_TRIP ≤ n.saf.norefRun + 1)
    ∧ (m.saf.posts = .faultSafety pEMT :: [] ∧ m.on EMT.FAULT_MPD_EXTRA = true ∧ m.trip 12 = false) := by decide +kernel

/-- SafetyClearsAndTheGap: no trip in COMMISSION; a hold trip; both permits; a switch-over with a trip that waits. -/
theorem wit_SafetyClearsAndTheGap :
    let s := up [] [(SAF.STATE, 1)]
    let a : State := { up [] [(SAF.EPERM_B_OK, 1)] with saf.rawA := true, saf.rawB := false }
    let b : State := { up [] [(SAF.EPERM_A_OK, 1)] with saf.rawA := true, saf.rawB := false }
    let g : State := { up [] with pwr.hold := true, saf.gapTrips := 1 }
    (s.pwr.hold = false ∧ s.runs pSAF = true ∧ s.acq.shot = none ∧ s.rd SAF.TRIPS_HOLD = 0 ∧ s.rd SAF.TRIPS_LATCH = 0 ∧ s.rd SAF.STATE = 1)
    ∧ (up [] [(SAF.TRIPS_HOLD, 1)]).rd SAF.TRIPS_HOLD ≠ 0
    ∧ (a.saf.rawA = true ∧ a.on SAF.EPERM_B_OK = true ∧ a.saf.rawB = false)
    ∧ (b.saf.rawB = false ∧ b.on SAF.EPERM_A_OK = true ∧ b.saf.rawA = true)
    ∧ (g.pwr.hold = true ∧ g.runs pSAF = true ∧ bit g.saf.gapTrips 0 = true)
    ∧ (let r : State := { g with saf.rawA := true }
       r.pwr.hold = true ∧ r.saf.rawA = true ∧ r.trip 0 = false) := by decide +kernel

/-- ColophonRule: a mismatch in OPERATIONAL; COMMISSION while MRAM may be written and not; a confirmation that waits; a
record not yet read, with its copy and without. -/
theorem wit_ColophonRule :
    let o := up [] [(SAF.STATE, 2)]
    let c := up [] [(SAF.STATE, 1), (WATCH.ST_NVS_OK, 1)]
    let r : State := { up [pNVS] with
      nvs.safetyRecord := some (0, true), nvs.safetyCopy := some (0, true), saf.confirm := some (0, true) }
    (o.pwr.hold = false ∧ o.rd SAF.STATE = 2 ∧ ofLeBytes (shake256 (colophonImage o.rd) 4) ≠ o.rd SAF.COLOPHON_STORED)
    ∧ (c.runs pSAF = true ∧ c.rd SAF.STATE = 1 ∧ c.on WATCH.ST_NVS_OK = true ∧ (0 : Word).toNat = c.rd SAF.COLOPHON_CALC
      ∧ (1 : Word).toNat ≠ c.rd SAF.COLOPHON_CALC)
    ∧ (r.saf.confirm = some (0, true) ∧ r.saf.recordLoaded = false ∧ r.runs pNVS = true ∧ r.nvs.safetyRecord = some (0, true)
      ∧ r.saf.committed = false ∧ ({ r with saf.committed := true } : State).saf.committed = true ∧ r.nvs.safetyCopy = some (0, true)
      ∧ ({ r with nvs.safetyCopy := none } : State).nvs.safetyCopy ≠ some (0, true)
      ∧ (up [] [(SAF.STATE, 1), (WATCH.ST_NVS_OK, 0)]).on WATCH.ST_NVS_OK = false) := by decide +kernel

/-! ### Witnesses: detector, mirror, housekeeping -/

/-- EventsAreGatedAndRecorded: a ready SPAD at the first armed instant; an event in flight at the window's first code, on a channel with
no code yet and on a full one. -/
theorem wit_EventsAreGatedAndRecorded :
    let sh : Shot := { openCode := 2560, closeCode := 2561, reduce := 4 }
    let s : State := { up [pDet 0, pSbank 0, pBank 0] with
      acq.shot := some sh, det.flight := [(0, 2560)], det.banks := [(0, { open_ := true, invalid := false })] }
    let f : State := { s with det.events := [(0, { codes := List.replicate 64 0 })] }
    (s.acq.shot = some sh ∧ sh.openCode ≤ (0 : BitVec 18).toNat + 2560 ∧ (0 : BitVec 18).toNat < sh.closeCode ∧ s.runs (pDet 0) = true
      ∧ bit (s.spadsOn 0) 0 = true ∧ (∀ e ∈ (s.chan 0).fired, e.1 ≠ 0))
    ∧ (s.det.flight = (0, 2560) :: [] ∧ sh.openCode ≤ 2560 ∧ 2560 < sh.closeCode ∧ (s.bank 0).open_ = true ∧ (s.bank 0).invalid = false
      ∧ (s.events 0).lastCode = none ∧ (s.events 0).codes.length < 64 ∧ s.slotOf 0 = some 0 ∧ s.runs (pSbank 0) = true
      ∧ bit sh.reduce 2 = true ∧ bit sh.reduce 1 = false)
    ∧ (s.section_ 0).lost = false ∧ ((f.events 0).lastCode = none ∧ 64 ≤ (f.events 0).codes.length) := by decide +kernel

/-- BanksAndTim: a bank and TIM without and with lock; a full histogram; TIM inputs in interval and frequency mode, and
EMT's with its stamps full. -/
theorem wit_BanksAndTim :
    let u := up [pBank 0, pTIM]
    let l := up [pBank 0, pTIM] [(BANK.DLL_LOCKED 0, 1), (TIM.ST_DLL_LOCKED, 1), (BANK.HIST_N 0, 16384)]
    let e : State := { up [pTIM] [(TIM.ST_DLL_LOCKED, 1), (TIM.MODE 1, 0), (TIM.TIMEOUT 1, 1)] with acq.shot := some {} }
    let o : State := { up [pTIM] [(TIM.ST_DLL_LOCKED, 1), (EMT.MPD_EN, 1)] with
      acq.shot := some {}, det.tims := [(0, { lastCode := some 0, edges := List.replicate 16 0 })] }
    let g : State := { up [pTIM] [(TIM.MODE 1, 1)] with det.tims := [(1, { gateFirst := some 0, gateCount := 2 })] }
    (u.runs (pBank 0) = true ∧ u.on (BANK.DLL_LOCKED 0) = false ∧ u.runs pTIM = true)
    ∧ (l.on (BANK.DLL_LOCKED 0) = true ∧ l.on TIM.ST_DLL_LOCKED = true ∧ 16384 ≤ l.rd (BANK.HIST_N 0))
    ∧ (e.runs pTIM = true ∧ e.emtOwns 1 = false ∧ e.rd (TIM.MODE 1) = 0 ∧ (e.timIn 1).lastCode = none ∧ e.acq.shot = some {}
      ∧ e.on TIM.ST_DLL_LOCKED = true ∧ (e.timIn 1).edges.length < 16 ∧ e.rd (TIM.TIMEOUT 1) ≠ 0)
    ∧ (o.emtOwns 0 = true ∧ o.on TIM.ST_DLL_LOCKED = true ∧ 16 ≤ (o.timIn 0).edges.length ∧ (o.timIn 0).lastCode = some 0
      ∧ 10 * ((38 + 2 ^ 32 - 0) % 2 ^ 32) ≤ 384 ∧ ¬10 * ((39 + 2 ^ 32 - 0) % 2 ^ 32) ≤ 384)
    ∧ (g.runs pTIM = true ∧ g.emtOwns 1 = false ∧ g.rd (TIM.MODE 1) = 1 ∧ (g.timIn 1).gateFirst = some 0 ∧ 2 ≤ (g.timIn 1).gateCount
      ∧ (up [pTIM] [(TIM.MODE 1, 1)]).timIn 1 = {}) := by decide +kernel

/-- BinImagesLoad: the image at reset, which fails, and one that passes for each unit, if it is written so. -/
theorem wit_BinImagesLoad :
    let s := up [pEMT, pLMP]
    s.runs pEMT = true ∧ s.runs pLMP = true ∧ (0x80000000 : Word).getLsbD 31 = true
    ∧ binsFail ((List.range 212).map fun b => s.rdS (EMT.BIN_IMAGE b)) ≠ none
    ∧ lampBinsFail ((List.range 100).map fun b => s.rdS (LMP.BIN_IMAGE b)) ≠ none := by decide +kernel

/-- MirrorSample: the loop open in PARKED; closed with a second missed sample; closed at rest in PARK with a code at FB_MIN; a frame with
the sweep. -/
theorem wit_MirrorSample :
    let o := up [pSCN] [(SCN.PHASE, 7)]
    let c : State := { up [pSCN] [(SCN.PHASE, 1), (SCN.MODE, 1), (SCN.ST_LOOP_CLOSED, 1)] with scn.missed := 1 }
    let r : State := { up [pSCN] [(SCN.PHASE, 1), (SCN.MODE, 1), (SCN.ST_LOOP_CLOSED, 1)] with
      scn.conv := [(0, false)], scn.pEff := (up [pSCN]).rdI SCN.PARK_POS * 65536, scn.vEff := 0 }
    let w : State := { up [pSCN] [(SCN.PHASE, 1), (SCN.MODE, 3), (SCN.ST_LOOP_CLOSED, 1)] with acq.frame := some {} }
    (o.runs pSCN = true ∧ o.closed = false ∧ o.rd SCN.PHASE = 7 ∧ o.scn.restart = false)
    ∧ (c.closed = true ∧ c.scn.conv = [] ∧ 1 ≤ c.scn.missed)
    ∧ (r.closed = true ∧ r.rd SCN.MODE = 1 ∧ r.scn.conv = [(0, false)] ∧ r.rdI SCN.FB_MIN ≤ 0 ∧ (0 : Int) ≤ r.rdI SCN.FB_MAX
      ∧ r.scn.tau = none ∧ r.scn.y1 = none ∧ r.scn.frozenBase = none ∧ r.scn.pEff = r.rdI SCN.PARK_POS * 65536 ∧ r.scn.vEff = 0)
    ∧ (w.closed = true ∧ w.rd SCN.MODE = 3 ∧ w.acq.frame ≠ none ∧ 0 < w.rd SCN.LOOP_DIV) := by decide +kernel

/-- MirrorSample: the last written values of SCN's live fields are the ones in force at reset. -/
theorem wit_MirrorSample_live : ∀ f ∈ fieldsOf pSCN .rwl, (up [pSCN] [(SCN.PHASE, 1)]).rdS f = (up [pSCN] [(SCN.PHASE, 1)]).rd f := by
  decide +kernel

/-- MirrorCommandsAndHeater: a stopped mirror that may close and one that may not; the heater on with a new result in its range, with
one that is open and old, and with one above HTR_TMAX; a feed switch-over's gap. -/
theorem wit_MirrorCommandsAndHeater :
    let m : State := { up [pSCN] [(SCN.PHASE, 7), (SCN.MODE, 1), (C.HALTED pSCN, 0)] with scn.drive := (up [pSCN]).rdI SCN.PARK_OUT, scn.lostFor := 0 }
    let c := up [pSCN] [(SCN.PHASE, 1), (SCN.BANK_SEL, 0), (SCN.ST_LOOP_CLOSED, 1)]
    let h : State := { up [pSCN] [(SCN.HTR_EN, 1), (C.HALTED pSCN, 0), (SCN.HTR_SLOT, 0)] with scn.results := [(0, some {})], scn.fresh := [0] }
    let x : State := { h with scn.results := [(0, some { open_ := true })], scn.fresh := [], scn.hSilent := 2 }
    let t : State := { h with scn.results := [(0, some { value := 2400 })], scn.hot := 3 }
    (m.runs pSCN = true ∧ m.rd SCN.PHASE = 7 ∧ m.scn.drive = m.rdI SCN.PARK_OUT ∧ m.on (C.HALTED pSCN) = false ∧ m.rd SCN.MODE ≠ 0
      ∧ m.scn.lostFor = 0 ∧ m.closed = false ∧ m.pwr.hold = false)
    ∧ (c.closed = true ∧ c.rd SCN.BANK_SEL = 0 ∧ c.rd SCN.PHASE ≠ 7)
    ∧ (h.on SCN.HTR_EN = true ∧ h.on (C.HALTED pSCN) = false ∧ h.rd SCN.HTR_SLOT = 0
      ∧ h.sense.results = [] ∧ Tab.get none h.scn.results 0 = some {} ∧ h.scn.fresh.contains 0 = true
      ∧ 0 ≤ h.rdI SCN.HTR_TMAX ∧ h.scn.hOver = false)
    ∧ (Tab.get none x.scn.results 0 = some { open_ := true } ∧ ¬(x.scn.fresh.contains 0 = true ∨ x.scn.hSilent < 2))
    ∧ (Tab.get none t.scn.results 0 = some { value := 2400 } ∧ t.rdI SCN.HTR_TMAX < 2400 ∧ 3 ≤ t.scn.hot)
    ∧ ({ up [pSCN] with pwr.hold := true } : State).pwr.hold = true
    ∧ ((up [pSCN]).on SCN.HTR_EN = false) := by decide +kernel

/-- HousekeepingRounds: the rounds stopped, running, and running in OPERATIONAL; a period due in slot 1, one that runs with no code yet
and one with its code, in a calibration round and outside it; the end of such a round; a thermometer slot whose
XREF_RES has changed; a clamp, an open source, a mirror code. -/
theorem wit_HousekeepingRounds :
    let s := up [pCONVH]
    let r : State := { up [pCONVH, pFLT, pAFE] [(CONVH.ST_RUNNING, 1), (FLT.EN 0, 1), (FLT.LEN 0, 1), (AFE.ST_SRC_A_ON, 1)] with
      sense.inPeriod := true }
    let o := up [pCONVH] [(CONVH.ST_RUNNING, 1), (SAF.STATE, 2)]
    let d : State := { up [pCONVH] [(CONVH.ST_RUNNING, 1), (C.HALTED pCONVH, 0)] with sense.slot := 1 }
    let v : State := { r with sense.slots := [(0, { codes := [0], count := none, ovr := true })] }
    let p : State := { r with sense.slots := [(0, { codes := [0], count := none })] }
    let c : State := { p with sense.calRound := true }
    let z : State := { up [pCONVH, pCAL] with sense.inPeriod := true, sense.slot := 15, sense.offsets := [(0, 16)] }
    let n : State := { up [pCONVH, pFLT, pAFE] [(FLT.INPUT 0, 12), (CONVH.ST_RUNNING, 1)] with sense.slots := [(0, { xref := 0 })] }
    (s.runs pCONVH = true ∧ s.on CONVH.ST_RUNNING = false ∧ (0x80000000 : Word).getLsbD 31 = true)
    ∧ (o.on CONVH.ST_RUNNING = true ∧ o.operating = true ∧ r.operating = false ∧ (0x40000000 : Word).getLsbD 30 = true)
    ∧ ((List.replicate 24 (0 : BitVec 16)).length = 24 ∧ d.periodDue = true ∧ 0 < d.sense.slot ∧ d.sense.slot < 16)
    ∧ (r.runs pCONVH = true ∧ r.sense.inPeriod = true ∧ r.sense.calRound = false ∧ (r.slot 0).codes.length < r.conversions 0)
    ∧ (v.on (FLT.EN 0) = true ∧ v.runs pFLT = true ∧ v.rd (FLT.INPUT 0) < 12 ∧ (v.slot 0).ovr = true)
    ∧ ((p.slot 0).ovr = false ∧ (p.slot 0).open_ = false ∧ (p.slot 0).blank = false ∧ p.sense.clamped = [] ∧ (p.slot 0).count = none
      ∧ (p.slot 0).codes = [0] ∧ p.rd (FLT.OUTFMT 0) = 0 ∧ 1 ≤ p.rd (FLT.LEN 0))
    ∧ (c.sense.calRound = true ∧ c.sense.slot < 5 ∧ (c.slot 0).codes = [0])
    ∧ (z.runs pCONVH = true ∧ z.sense.inPeriod = true ∧ z.sense.slot = 15 ∧ z.runs pCAL = true ∧ z.sense.offsets = [(0, 16)])
    ∧ (n.periodDue = true ∧ n.rd (FLT.INPUT 0) = 12 ∧ (n.slot 0).xref ≠ n.rd AFE.XREF_RES ∧ n.rdS (FLT.EN 0) = n.rd (FLT.EN 0))
    ∧ (r.runs pAFE = true ∧ r.on AFE.ST_SRC_A_ON = true)
    ∧ ((up [pCONVM]).runs pCONVM = true ∧ (up [pCONVM]).on (C.HALTED pCONVM) = false)
    ∧ (let c := up [pCAL, pCONVH] [(CONVH.ST_RUNNING, 1)]
       c.runs pCAL = true ∧ c.runs pCONVH = true ∧ c.on CONVH.ST_RUNNING = true ∧ c.on THM.ST_FAST = false ∧ c.rd CAL.CVH_PERIOD ≠ 0
        ∧ (up [pCAL] [(CAL.CVH_PERIOD, 0)]).rd CAL.CVH_PERIOD = 0) := by decide +kernel

/-- ThermalReadings: readings just above and just at the threshold; the rounds stopped, halted and running; three silent rounds of each
slot; the watch with and without readings. -/
theorem wit_ThermalReadings :
    let s := up [pTHM]
    let r : State := { up [pTHM] [(CONVH.ST_RUNNING, 1), (C.HALTED pCONVH, 0)] with thm.emtSilent := 3, thm.lmpSilent := 3 }
    let w : State := { up [] with thm.watchMiss := 3 }
    (∀ x ∈ [(1 : Int), 1, 1, 1], (0 : Int) < x) ∧ (∀ x ∈ [(-1 : Int), -1, -1, -1], x ≤ 0 - 1)
    ∧ (s.runs pTHM = true ∧ s.on CONVH.ST_RUNNING = false ∧ (List.replicate 24 (0 : BitVec 16)).length = 24)
    ∧ (let h := up [pTHM] [(CONVH.ST_RUNNING, 1), (C.HALTED pCONVH, 1)]
       h.on CONVH.ST_RUNNING = true ∧ h.on (C.HALTED pCONVH) = true ∧ h.sense.slot = 0 ∧ h.sense.inPeriod = false)
    ∧ (r.runs pTHM = true ∧ r.on CONVH.ST_RUNNING = true ∧ r.on (C.HALTED pCONVH) = false ∧ 3 ≤ r.thm.lmpSilent ∧ 3 ≤ r.thm.emtSilent)
    ∧ (w.runs pWATCH = true ∧ w.pwr.hold = false ∧ 3 ≤ w.thm.watchMiss ∧ w.on WATCH.ST_OVERTEMP = false) := by decide +kernel

/-- CalibrationAndLamps: a short TIM session; the skew measurement at both ends of its range, allowed and not; changed sets with MRAM
writable, not writable and off; a lane that is up; lamps that run and lamps that halt. -/
theorem wit_CalibrationAndLamps :
    let t : State := { up [pCAL] with cal.timSessions := [{ chan := 528, hist := [1] }] }
    let a := up [pCAL] [(SAF.STATE, 1), (EMT.MPD_EN, 1)]
    let n : State := { up [pCAL, pNVS] [(WATCH.ST_NVS_OK, 1)] with cal.changed := true }
    let b : State := { up [pCAL, pNVS] [(WATCH.ST_NVS_OK, 0)] with cal.changed := true }
    let o : State := { up [pCAL] with cal.changed := true }
    (t.runs pCAL = true ∧ t.cal.timSessions.find? (fun y => y.chan = 528 + 0) = some { chan := 528, hist := [1] }
      ∧ ({ chan := 528, hist := [1] } : Session).hist.sum < 16384)
    ∧ (8 ≤ (0x80000008 : Word).toNat % 2 ^ 13 ∧ (0x80001000 : Word).toNat % 2 ^ 13 ≤ 4096 ∧ (0x80001000 : Word).getLsbD 31 = true)
    ∧ (a.runs pCAL = true ∧ a.rd SAF.STATE = 1 ∧ a.on EMT.MPD_EN = true ∧ (up [pCAL]).rd SAF.STATE ≠ 1)
    ∧ (n.cal.changed = true ∧ n.runs pNVS = true ∧ n.on WATCH.ST_NVS_OK = true)
    ∧ (b.runs pNVS = true ∧ b.on WATCH.ST_NVS_OK = false ∧ o.cal.changed = true ∧ o.runs pNVS = false)
    ∧ ((up [pCAL]).rd CAL.EYE_PERIOD ≠ 0 ∧ (up [pCAL] [(CAL.EYE_PERIOD, 0)]).rd CAL.EYE_PERIOD = 0)
    ∧ ((up [pCAL] [(LANE.STATE 0, 5)]).rd (LANE.STATE 0) = 5 ∧ (up [pCAL]).rd (LANE.STATE 0) ≠ 5)
    ∧ ((up [pLMP] [(C.HALTED pLMP, 1)]).runs pLMP = true ∧ (up [pLMP] [(C.HALTED pLMP, 1)]).on (C.HALTED pLMP) = true
      ∧ (up [pLMP] [(C.HALTED pLMP, 0)]).on (C.HALTED pLMP) = false ∧ (up [pLMP] [(LMP.SYNC_EN 0, 1)]).on (LMP.SYNC_EN 0) = true
      ∧ 0 ∈ ({ up [pLMP] [(LMP.FADE_MS 0, 0)] with lmp.asked := [0] } : State).lmp.asked ∧ (up [pLMP] [(LMP.FADE_MS 0, 0)]).rd (LMP.FADE_MS 0) = 0)
    := by decide +kernel

/-! ### Witnesses: bias, proximity, points, link -/

/-- BiasTracking: a running section; VSPAD lost after three rounds; a tracked section with a reading and a model, and the counts at
the two edges of rejection. -/
theorem wit_BiasTracking :
    let s : State := { up [pDet 0] [(DET.TRACK 0, 1), (DET.TRIM 0, 0)] with
      det.sections := [(0, { vspadMiss := 3, vspad := [24000] })], thm.read := [0], cal.vbd := [(0, [0, 0, 0, 0, 0])] }
    let f : State := { s with det.sections := [(0, { vspad := [24000], pairs := 16 })] }
    (up [pDet 10]).runs (pDet 10) = true ∧ 3 ≤ (s.section_ 0).vspadMiss ∧ (s.section_ 0).vspadMiss ≤ 3
    ∧ s.reading 0 = some 0 ∧ s.vbdModel 0 0 = some 0 ∧ s.runs (pDet 0) = true ∧ s.on (DET.TRACK 0) = true
    ∧ ((63 : Nat) < 64 ∨ (63 : Nat) ≤ 0) ∧ ((64 : Nat) < 64 ∨ (64 : Nat) ≤ 64)
    ∧ ((s.section_ 0).vspad ≠ [] ∧ (s.section_ 0).lost = false ∧ (s.section_ 0).pairs < 16 ∧ 64 ≤ (64 : Nat) ∧ (63 : Nat) < 64)
    ∧ (16 ≤ (f.section_ 0).pairs ∧ 500 < (openDiv (2 * vspadMean [24000] - 25 * (f.rd (DET.TRIM 0) : Int) - 50 * (f.rd (DET.REF_DROP 0) : Int)
      - openDiv (50 * (f.rd (DET.REF_DROP 0) : Int) * 0) 64 - 0) 2).natAbs) := by decide +kernel

/-- ProximityCombiner: a word that is taken; one with the wrong tag, and one with no collection; the close of a shot and of the last; rows
below the threshold and at it. -/
theorem wit_ProximityCombiner :
    let s : State := { up [] with prox.flight := [0x80000005], prox.collecting := true, prox.tag := 5 }
    let l : State := { s with prox.last := true }
    let o : State := { up [] [(SAF.STATE, 2)] with saf.failsafeKnown := true }
    s.pwr.hold = false ∧ s.prox.flight = 0x80000005 :: []
    ∧ (s.prox.collecting = true ∧ (0x80000005 : Word).getLsbD 31 = true ∧ (0x80000005 : Word).toNat % 2 ^ 8 = s.prox.tag
      ∧ bits (0x80000005 : Word).toNat 25 6 ∉ s.prox.accepted)
    ∧ (0x80000006 : Word).toNat % 2 ^ 8 ≠ s.prox.tag ∧ o.prox.collecting = false
    ∧ (s.prox.last = false ∧ l.prox.collecting = true ∧ l.prox.last = true)
    ∧ (l.prox.rows < l.rd SAF.PROX_MIN_ROWS ∧ s.rd SAF.PROX_MIN_ROWS ≤ ({ s with prox.rows := 2 } : State).prox.rows)
    ∧ (o.rd SAF.STATE = 2 ∧ o.saf.failsafeKnown = true ∧ o.pwr.hold = false) := by decide +kernel

/-- RecordsAndMarkers: a good point; a record of type 2; a retraction of no point; a marker; an open column that is the oldest. -/
theorem wit_RecordsAndMarkers :
    let c : Column := {}
    let m : MarkerId := ⟨0, 0, 0⟩
    let st := fun (e : Entry) => ({ up [pPASM] with
      pca.columns := [c], pca.queues := [(0, [e])], engines := [(0, { current := some {} })] } : State)
    let e : Entry := { word := 0, re := 0 }
    let k : Entry := { marker := true, word := 0 }
    (st e).runs pPASM = true ∧ (st e).queue 0 = e :: [] ∧ e.marker = false ∧ (st e).waitingAt 0 = []
    ∧ ((st e).recordShot e.re []).map (·.accession) = some 0 ∧ ((st e).recordShot e.re []).map (·.column) = some 0
    ∧ ((st e).recordShot e.re []).map (·.rg) = some 0 ∧ (st e).pca.columns.find? (fun c => c.of m) = some c
    ∧ 2 ≤ bits (0x8000000000000000 : DWord).toNat 62 2
    ∧ (bits 0 62 2 < 2 ∧ bits 0 53 9 / 8 = m.rg ∧ bits 0 48 3 < 5 ∧ ¬∃ r ∈ c.records, bits r.2.toNat 62 2 = 0 ∧ bits r.2.toNat 51 11 = bits 0 51 11)
    ∧ (bits (0x4000000000000000 : DWord).toNat 62 2 = 1 ∧ c.records = [])
    ∧ (st k).queue 0 = k :: [] ∧ k.marker = true
    ∧ (st e).pca.columns = [] ++ c :: [] ∧ c.closed = false := by decide +kernel

/-- BlocksAndLedger: an empty closed column, one of four records, whose coded block verifies, and with its first bit turned does not,
and a truncated one, of the frame in output; the frame alone. -/
theorem wit_BlocksAndLedger :
    let c : Column := { closed := true }
    let r : Column := { closed := true, markers := (List.range 64).map (·, 0), records := List.replicate 4 (0, 0) }
    let st := fun (c : Column) l => ({ up [pPASM, pPCOD] l with pca.columns := [c], pca.headSent := true, acq.frame := some {} } : State)
    let s := st c []
    let on := st r [(PCOD.CODEC_EN, 1)]
    let f : State := { up [pPASM, pPCOD] with pca.headSent := true, pca.frames := [{}] }
    (s.runs pPASM = true ∧ s.runs pPCOD = true ∧ c.closed = true ∧ s.pca.headSent = true ∧ s.outFrame.map (·.accession) = some c.shot.accession
      ∧ c.shot.trunc = false ∧ c.shot.rrLevel < 5 ∧ s.pca.held + 8 * ((s.columnRecord c c.exceptions.length c.words.length :: c.exceptions ++ c.words).length + 1) ≤ 2097152)
    ∧ ({ c with shot.trunc := true } : Column).shot.trunc = true
    ∧ ((st c [(PCOD.CODEC_EN, 0)]).on PCOD.CODEC_EN = false ∧ on.on PCOD.CODEC_EN = true
      ∧ on.rdGen pPCOD r.shot.gen PCOD.CODEC_EN ≠ 0 ∧ (st r [(PCOD.CODEC_EN, 0)]).rdGen pPCOD r.shot.gen PCOD.CODEC_EN = 0
      ∧ (codeStream r.words).length < 64 * r.words.length
      ∧ (let h := on.columnRecord r r.exceptions.length r.words.length
         let packed := h :: r.exceptions ++ packBits ((codeStream r.words).length / 64 + 1) (codeStream r.words)
         let raw := h :: r.exceptions ++ r.words
         let coded := blockHeader 1 0 r.words.length packed.length raw :: packed
         packed.length < raw.length ∧ decodeBlock 0 (on.rdGen pPASM 0 PASM.REC_MINOR_SEL) (flipBits [] coded) = some raw
           ∧ decodeBlock 0 (on.rdGen pPASM 0 PASM.REC_MINOR_SEL) (flipBits [0] coded) ≠ some raw))
    ∧ (f.pca.frames = {} :: [] ∧ (∀ d ∈ f.pca.columns, d.shot.accession ≠ (0 : Word)) ∧ f.pca.headSent = true ∧ f.acq.frame = none)
    := by decide +kernel

/-- LinkLanes: lanes in each state that a clause names, CAPS that agree and that do not, the edges of the slip count, values of each field. -/
theorem wit_LinkLanes :
    let s := fun l => up ((List.range 6).map pLane) l
    let lk := fun l (x : LaneState) r => ({ s r with lnk.lanes := [(l, x)] } : State)
    let up0 := s [(LANE.ENABLE 0, 1), (LANE.ENABLE 4, 1), (CTL.C_VERSION 0, 3), (LANE.ALIGNED 4, 1)]
    (up0.mayComeUp 0 = true ∧ up0.rd (LANE.STATE 0) ≤ 1 ∧ (up0.lane 0).relock = false ∧ up0.mayComeUp 4 = true ∧ up0.on (LANE.ALIGNED 4) = true)
    ∧ (up0.runs (pLane 4) = true ∧ (s [(LANE.STATE 4, 1)]).rd (LANE.STATE 4) ≠ 0 ∧ (s [(LANE.STATE 0, 2)]).rd (LANE.STATE 0) = 2
      ∧ up0.on (LANE.ENABLE 0) = true ∧ up0.rd (LANE.STATE 0) = 0 ∧ (up0.lane 0).locked = false)
    ∧ (let t := lk 4 { locked := true, partnerPass := some true } [(LANE.STATE 4, 3)]
       t.rd (LANE.STATE 4) = 3 ∧ (t.lane 4).preReq = 0 ∧ (t.lane 4).postReq = 0 ∧ ((t.lane 4).locked && (t.lane 4).windowErrs = 0) = true
        ∧ (t.lane 4).partnerPass = some true ∧ t.topRate 4 ≤ t.rd (LANE.RATE 4) ∧ (0 : BitVec 3).toNat = t.rd (LANE.RATE 4))
    ∧ (let t := lk 0 { locked := true, partnerPass := some true, retraining := true } [(LANE.STATE 0, 3), (CTL.C_VERSION 0, 3)]
       t.rd (LANE.STATE 0) = 3 ∧ (t.lane 0).retraining = true ∧ t.version ≠ 1)
    ∧ (let t := lk 4 { fails := 1 } [(LANE.STATE 4, 3)]
       t.rd (LANE.STATE 4) = 3 ∧ (t.lane 4).fails ≠ 0 ∧ t.rd (LANE.RATE 4) = 0 ∧ (t.lane 4).partnerPass ≠ some true
        ∧ ((s [(LANE.STATE 4, 3)]).lane 4).fails = 0)
    ∧ (let t := lk 0 { errs125 := 100 } [(LANE.STATE 0, 5), (LANE.ERR_LIMIT 0, 100), (CTL.C_VERSION 0, 3)]
       t.version = 3 ∧ t.rd (LANE.STATE 0) = 5 ∧ t.rd (LANE.ERR_LIMIT 0) ≤ (t.lane 0).errs125
        ∧ ((s [(LANE.ERR_LIMIT 0, 1)]).lane 0).errs125 < (s [(LANE.ERR_LIMIT 0, 1)]).rd (LANE.ERR_LIMIT 0))
    ∧ ((0x80000000 : Word).getLsbD 31 = true ∧ (0x80000000 : Word).getLsbD 30 = false
      ∧ (s [(LANE.STATE 4, 5)]).rd (LANE.STATE 4) = 5 ∧ (0x80000000 : Word).getLsbD 29 = (s [(LANE.ALIGNED 4, 0)]).on (LANE.ALIGNED 4))
    ∧ (((0x84001000 : Word).extractLsb' 24 3).toNat = 4 ∧ ((0x84001800 : Word).extractLsb' 8 5).toNat = 24
      ∧ ((0x82100000 : Word).extractLsb' 16 5).toNat = 16 ∧ ((0x82101000 : Word).extractLsb' 16 5).toNat + ((0x82101000 : Word).extractLsb' 8 5).toNat ≤ 32)
    := by decide +kernel

/-- LinkLanes: training windows: a retraining lane out of the stripe, a lane that waits for its partner's result, one that has failed once
at a rate above the lowest, a data lane that fails beside another of the stripe, and a request that is honoured; the stripe's losses under
version 3 and under version 2, and its next marker. -/
theorem wit_LinkLanes_training :
    let s := fun l => up ((List.range 6).map pLane) l
    let lk := fun l (x : LaneState) r => ({ s r with lnk.lanes := [(l, x)] } : State)
    (let t := lk 0 { retraining := true, locked := true, ended := true } [(LANE.STATE 0, 6)]
     t.rd (LANE.STATE 0) = 6 ∧ (t.lane 0).retraining = true ∧ (t.lane 0).ended = true ∧ (t.lane 0).locked = true ∧ (t.lane 0).windowErrs = 0)
    ∧ (let t := lk 4 { fails := 1 } [(LANE.STATE 4, 3), (LANE.RATE 4, 1)]
       t.rd (LANE.STATE 4) = 3 ∧ (t.lane 4).locked = false ∧ (t.lane 4).fails ≠ 0 ∧ t.rd (LANE.RATE 4) ≠ 0 ∧ (t.lane 4).ended = false
        ∧ (t.lane 4).partnerPass ≠ some true ∧ (t.lane 4).preReq = 0 ∧ (t.lane 4).postReq = 0)
    ∧ (let t := lk 0 { fails := 1, retraining := true } [(LANE.STATE 0, 6), (LANE.STATE 1, 5)]
       (t.lane 0).retraining = true ∧ (t.lane 0).fails ≠ 0 ∧ 1 ≠ 0 ∧ 3 ≤ t.rd (LANE.STATE 1) ∧ t.rd (LANE.STATE 1) ≠ 6)
    ∧ (let t := lk 4 { caps := some 0x20 } [(LANE.STATE 4, 3), (CTL.C_VERSION 0, 3)]
       (t.lane 4).retraining = false ∧ (t.lane 4).final = false ∧ ¬t.topRate 4 ≤ t.rd (LANE.RATE 4))
    ∧ (let t := lk 4 { preReq := 1, eqReqs := 31 } [(LANE.STATE 4, 3), (CTL.C_VERSION 0, 3), (LANE.PRE_IN_FORCE 4, 15), (LANE.POST_IN_FORCE 4, 16)]
       (t.lane 4).preReq = 1 ∧ (t.lane 4).postReq = 0 ∧ t.on (LANE.EQ_ACCEPT 4) = true ∧ t.laneVersion 4 = 3 ∧ t.rd (LANE.PRE_IN_FORCE 4) < 16
        ∧ t.rd (LANE.PRE_IN_FORCE 4) + t.rd (LANE.POST_IN_FORCE 4) < 32 ∧ (t.lane 4).eqReqs < 32
        ∧ t.rdS (LANE.PRE 4) = t.rd (LANE.PRE 4) ∧ t.rdS (LANE.POST 4) = t.rd (LANE.POST 4))
    ∧ (let t := s [(LANE.STATE 0, 5), (CTL.C_VERSION 0, 3)]
       t.version = 3 ∧ t.rd (LANE.STATE 0) = 5 ∧ (1 : BitVec 4).getLsbD 0 = true
        ∧ (s [(LANE.STATE 0, 5), (CTL.C_VERSION 0, 2)]).version ≠ 3 ∧ (s [(LANE.STATE 0, 2)]).rd (LANE.STATE 0) = 2
        ∧ ((s [(LANE.STATE 0, 2)]).lane 0).relock = false ∧ ((lk 4 { relock := true } []).lane 4).relock = true)
    ∧ (let t : State := { s [(LANE.STATE 0, 5), (LANE.STATE 1, 4), (L0.B_UP, 1), (CTL.C_VERSION 0, 3), (LANE.ENABLE 0, 1)] with
         lnk.stripe := [0], lnk.lanes := [(1, { markers := 1 })] }
       2 ≤ t.version ∧ t.lnk.stripe = [0] ∧ (t.lane 0).leaving = false ∧ t.rd (LANE.STATE 1) = 4 ∧ 1 ≤ (t.lane 1).markers ∧ t.on L0.B_UP = true
        ∧ (({ t with lnk.lanes := [(0, { leaving := true })] } : State).lane 0).leaving = true
        ∧ (({ t with lnk.lanes := [] } : State).lane 1).markers = 0)
    ∧ (0xD / 2 ^ 24 % 2 ^ 2 ≠ (s [(CTL.C_VERSION 0, 1)]).version ∧ 0x100000D / 2 ^ 24 % 2 ^ 2 = (s [(CTL.C_VERSION 0, 1)]).version
      ∧ ¬0x80 / 2 ^ 7 % 2 = 0) := by decide +kernel

/-- LinkLanes: a control lane's CAPS, its search, its alignment; a removed lane that may train again; lanes in DESKEW. -/
theorem wit_LinkLanes_control :
    let s := fun l => up ((List.range 6).map pLane) l
    (let t := s [(LANE.STATE 4, 2)]
       let c := 0xD
       t.rd (LANE.STATE 4) = 2 ∧ c / 2 ^ 7 % 2 = 0 ∧ c / 2 ^ 22 % 2 ^ 2 = 0 ∧ c / 2 ^ 26 = 0
        ∧ 1 ≤ min (t.rd (CTL.VER_MAX 0)) (c / 2 ^ 2 % 2 ^ 2) ∧ c % 2 ^ 2 ≤ min (t.rd (CTL.VER_MAX 0)) (c / 2 ^ 2 % 2 ^ 2)
        ∧ min (t.rd (CTL.VER_MAX 0)) (0 / 2 ^ 2 % 2 ^ 2) < 1)
    ∧ (let t := s [(LANE.ENABLE 4, 1), (LANE.STATE 4, 1), (LANE.SLIPS 4, 64)]
       t.mayComeUp 4 = true ∧ t.rd (LANE.STATE 4) = 1 ∧ t.on (LANE.CDR_LOCK 4) = false ∧ t.on (LANE.ALIGNED 4) = false
        ∧ t.rd (LANE.SLIPS 4) < 65 ∧ 65 ≤ (s [(LANE.SLIPS 4, 65)]).rd (LANE.SLIPS 4)
        ∧ (0x40000000 : Word).getLsbD 31 = false ∧ (0x40000000 : Word).getLsbD 30 = true ∧ (0x40000000 : Word).getLsbD 29 = false)
    ∧ (let t := s [(LANE.STATE 4, 1), (LANE.CDR_LOCK 4, 1)]
       t.on (LANE.CDR_LOCK 4) = true ∧ t.on (LANE.ALIGNED 4) = false
        ∧ (0x20000000 : Word).getLsbD 30 = false ∧ (0x20000000 : Word).getLsbD 29 = true)
    ∧ (let t : State := { s [(LANE.ENABLE 0, 1), (LANE.STATE 0, 6)] with lnk.bundleDown := false }
       t.runs (pLane 0) = true ∧ t.on (LANE.ENABLE 0) = true ∧ t.rd (LANE.STATE 0) = 6 ∧ t.lnk.bundleDown = false)
    ∧ (let t := s [(LANE.STATE 0, 4), (LANE.STATE 1, 4), (CTL.C_VERSION 0, 2)]
       2 ≤ t.version ∧ (t.rd (LANE.STATE 0) = 4 ∨ t.rd (LANE.STATE 0) = 5) ∧ (∀ n < 4, (t.lane n).leaving = false)
        ∧ (t.lane 0).markers = 0 ∧ 1 ≤ (({ t with lnk.lanes := [(1, { markers := 1 })] } : State).lane 1).markers) := by decide +kernel

/-- LinkFlow: a newer LIMIT and an older one; a block with and without its credits; a ring entry; a packet that waits and one to send
again; ACK, NAK and timeout of an unacknowledged packet; a packet that is whole and one that is not. -/
theorem wit_LinkFlow :
    let k : TxPacket := { channel := 2, seq := 0, first := true, last := true, words := [0] }
    let b : State := { up [pLane 0] [(L0.B_UP, 1), (CTL.C_VERSION 0, 1)] with pca.out := [[0]], lnk.limitPts := 1 }
    let r : State := { up [pLane 4] [(CTL.C_VERSION 0, 3), (LANE.STATE 4, 5)] with lnk.paths := [(1, { replay := [k] })] }
    let a : State := { r with lnk.paths := [(1, { replay := [k], resend := 1 })] }
    let p : Packet := { channel := 2, seq := 0, len := 1, words := [0], endSeq := some 0
                        crc := some (BitVec.ofNat 32 (crc32 (List.replicate 8 0))) }
    let g : State := { up [pLane 0] [(L0.B_UP, 1), (CTL.C_VERSION 0, 2)] with acq.ringEntries := [8], lnk.limitRaw := 1 }
    let o : State := { r with lnk.paths := [(1, { queue := [k] })] }
    (1 ≤ ((1 : BitVec 24) - 0).toNat ∧ ((1 : BitVec 24) - 0).toNat < 2 ^ 23 ∧ ((0 : BitVec 24) - 0).toNat = 0)
    ∧ (b.pca.out = [0] :: [] ∧ b.on L0.B_UP = true ∧ b.lnk.stalled = false ∧ b.version = 1 ∧ (b.path 0).resend = 0
      ∧ (([0] : List DWord).length + 63) / 64 ≤ (b.lnk.limitPts - b.lnk.usedPts).toNat ∧ (b.lnk.limitPts - b.lnk.usedPts).toNat < 2 ^ 23
      ∧ ¬(([0] : List DWord).length + 63) / 64 ≤ (({ b with lnk.limitPts := 0 } : State).lnk.limitPts - b.lnk.usedPts).toNat)
    ∧ (a.rd (LANE.STATE 4) = 5 ∧ 0 < (a.path 1).resend ∧ (a.path 1).replay[(a.path 1).replay.length - (a.path 1).resend]? = some k)
    ∧ (g.on L0.B_UP = true ∧ (g.path 0).resend = 0 ∧ g.pca.out = [] ∧ g.acq.ringEntries = 8 :: [] ∧ 2 ≤ g.pathVersion 0
      ∧ ((wordsOfBytes 1 (g.ringBytes (g.spoiledBy []) 8)).drop g.acq.ringSent).length = 1 ∧ (g.path 0).room 0 8 = true
      ∧ (1 + 63) / 64 ≤ (g.lnk.limitRaw - g.lnk.usedRaw).toNat ∧ (g.lnk.limitRaw - g.lnk.usedRaw).toNat < 2 ^ 23)
    ∧ (o.rd (LANE.STATE 4) = 5 ∧ (o.path 1).resend = 0 ∧ nextPacket 1 (o.path 1).queue = some k ∧ (o.path 1).room 1 k.bytes = true)
    ∧ (2 ≤ r.pathVersion 1 ∧ (r.path 1).replay = [k] ∧ (0 + 4096 - k.seq) % 4096 < (r.path 1).replay.length ∧ (r.path 1).resend = 0
      ∧ (r.path 1).replay.length ≤ (1 + 4096 - k.seq) % 4096 ∧ (r.path 1).tries = 0 ∧ 1 < r.rd L0.REPLAY_MAX
      ∧ ¬2 ≤ (up [pLane 4]).pathVersion 1)
    ∧ (1 ≤ (up [pLane 0] [(LANE.STATE 0, 3)]).rd (LANE.STATE 0) ∧ (up [pLane 0] [(LANE.STATE 0, 3)]).rd (LANE.STATE 0) ≠ 5)
    ∧ ((0 + 4096 - 1) % 4096 ≥ 2048 ∧ (1 + 4096 - 0) % 4096 < 2048)
    ∧ (r.runs (pLane 4) = true ∧ r.rd (LANE.STATE 4) = 5 ∧ 2 ≤ r.laneVersion 4 ∧ packetWhole p 4 (r.laneVersion 4) 0 = true
      ∧ p.seq.toNat = (r.path 1).rxNext ∧ packetWhole p 4 (r.laneVersion 4) 1 = false) := by decide +kernel

/-- LinkMessages: C0 and C1 active; seven answers waiting and eight; a malformed head; both lengths of a write; event words that changed;
a follower whose instant is to come, and one whose instant has passed. -/
theorem wit_LinkMessages :
    let s := up [pLane 4, pLane 5] [(LANE.STATE 4, 5), (LANE.STATE 5, 5), (CTL.C_VERSION 1, 3), (CTL.PAIR_TRIG 1, 1)]
    let k : TxPacket := { channel := 2, words := [0] }
    let q : State := { s with lnk.paths := [(1, { queue := List.replicate 8 k })] }
    let v : State := { s with lnk.pairSend := some (0, 0), lnk.lastEvent := [] }
    (s.rd (LANE.STATE 4) = 5 ∧ s.outstanding < 8 ∧ 8 ≤ q.outstanding
      ∧ 1 ≤ (List.replicate 16 (0 : Word)).length ∧ (List.replicate 16 (0 : Word)).length ≤ 16
      ∧ (0x4000000000000000 : DWord).toNat / 2 ^ 62 = 1 ∧ 3 ≠ 2 + (0x4000000000000000 : DWord).toNat / 2 ^ 50 % 2 ^ 4)
    ∧ (up []).intStat 0 = 0
    ∧ (let e := up [0, pLane 4] [(LANE.STATE 4, 5), (C.ERR_VALUE 0, 1), (C.INT_EN_HI 0, 7)]
       e.rd (LANE.STATE 4) = 5 ∧ e.intStat 0 ≠ 0 ∧ e.eventWords ≠ e.lnk.lastEvent)
    ∧ (s.rd (LANE.STATE (if true then 5 else 4)) = 5 ∧ s.rd (CTL.C_VERSION 1) = 3 ∧ v.lnk.pairSend = some (0, 0)
      ∧ s.on (CTL.LEADER 1) = false ∧ s.on (CTL.PAIR_TRIG 1) = true
      ∧ 0 ≤ (((0 : DWord) - BitVec.ofInt 64 (s.rdI (CTL.PAIR_LAT 1)) - (0 - 0) + BitVec.ofNat 64 (s.rd (CTL.PHASE_DELAY 1))) - s.acq.time).toInt)
    ∧ (((0 : DWord) - BitVec.ofInt 64 (s.rdI (CTL.PAIR_LAT 1)) - (100000 - 0) + BitVec.ofNat 64 (s.rd (CTL.PHASE_DELAY 1))) - s.acq.time).toInt < 0
    ∧ (sharedDistances [0, 3] s.ownCode = 0 ∧ ([] : List (BitVec 9)).length ≤ 8)
    := by decide +kernel

/-! ### Witnesses: power, reset, security, access, the block -/

/-- PowerRules: a rail, both feeds, a switch-over out and back, turns each way, commands at the edges of their range, parked wakes. -/
theorem wit_PowerRules :
    let s := up [pPWR]
    let r := up [pPWR] [(PWR.FEED_ACTIVE, 1)]
    let on : State := { up [pPWR] [(PWR.DOM_ON 0, 0)] with pwr.turns := [⟨0, true, true⟩], rst.held := [0x6F] }
    let off : State := { up [pPWR] [(PWR.DOM_ON 0, 1)] with pwr.turns := [⟨0, false, true⟩] }
    let w := up [pPWR] [(PWR.ST_PARKED, 1), (PWR.WAKE_MON, 1), (PWR.WAKE_SPI, 1), (PWR.WAKE_S, 1)]
    (up []).rst.episodes = []
    ∧ (s.runs pPWR = true ∧ s.pwr.hold = false ∧ s.on PWR.B_PRESENT = false ∧ s.rd PWR.FEED_ACTIVE = s.rd PWR.PRIMARY
      ∧ r.rd PWR.FEED_ACTIVE ≠ r.rd PWR.PRIMARY ∧ r.pwr.flapped = false)
    ∧ (on.pwr.turns = ⟨0, true, true⟩ :: [] ∧ on.on (PWR.DOM_ON 0) = false ∧ off.pwr.turns = ⟨0, false, true⟩ :: []
      ∧ off.on (PWR.DOM_ON 0) = true ∧ (0 : Nat) ≤ 150 ∧ off.nvs.pulse = false)
    ∧ (({ s with pwr.hold := true } : State).pwr.hold = true)
    ∧ ((0x4001F000 : Word).getLsbD 30 = true ∧ (0x4001F000 : Word).toNat % 2 ^ 24 = 0x1000 * pNVS ∧ pNVS < 183
      ∧ commandDomains 0x4001F000 = some [148] ∧ commandDomains 152 = none ∧ s.pwr.turns = []
      ∧ ({ s with pwr.flapped := true } : State).pwr.flapped = true)
    ∧ ((up [pPWR] [(PWR.CMD_BUSY, 1)]).on PWR.CMD_BUSY = true ∧ s.on PWR.CMD_BUSY = false
      ∧ (0x80000000 : Word).getLsbD 31 = true ∧ (0x80000000 : Word).getLsbD 30 = false ∧ s.on (PWR.DOM_ON 0) = false
      ∧ 151 < (152 : Word).toNat % 2 ^ 24 ∧ off.offRefused 0 = false ∧ (151 : Word).toNat % 2 ^ 24 = 151 ∧ s.offRefused 151 = true
      ∧ s.rd SAF.STATE = 0 ∧ 0 ∈ powerOrder ∧ off.on (PWR.DOM_ON 0) = true ∧ r.rd SAF.STATE = 0
      ∧ (up [] [(SAF.STATE, 3)]).rd SAF.STATE = 3)
    ∧ (w.on PWR.ST_PARKED = true ∧ w.rst.episodes = [] ∧ w.on PWR.WAKE_MON = true ∧ w.on PWR.WAKE_SPI = true ∧ w.rd PWR.WAKE_S ≠ 0)
    := by decide +kernel

/-- ResetSources: no episode; the watchdog of either reach; requests of every reach; a HOLD slot set and released; an episode of each
reach that is still to take effect, and one whose pulses have ended. -/
theorem wit_ResetSources :
    let s := up [pRST, pHCP] [(RST.WDOG_EN, 1)]
    let e : Episode := { pages := [pREG], sources := [⟨5, 8, true⟩], toApply := [pREG] }
    let ep := fun x => ({ s with rst.episodes := [x] } : State)
    (s.rst.episodes = [] ∧ s.runs pHCP = true ∧ s.runs pRST = true ∧ s.on RST.WDOG_EN = true ∧ s.pwr.hold = false
      ∧ (up [pRST, pHCP] [(RST.WDOG_REACH, 1)]).on RST.WDOG_REACH = true ∧ (up [pRST, pHCP] [(RST.WDOG_REACH, 0)]).on RST.WDOG_REACH = false)
    ∧ ((0xA000B000 : Word).getLsbD 29 = true ∧ (0x60000000 : Word).getLsbD 29 = true ∧ (0xE0000000 : Word).getLsbD 29 = true)
    ∧ ((0xA000B000 : Word).toNat / 2 ^ 30 = 2 ∧ resetTarget ((0xA000B000 : Word).toNat % 2 ^ 24) = some pREG ∧ s.serviceRefuses pREG = false
      ∧ (0x60000000 : Word).toNat / 2 ^ 30 = 1 ∧ s.operating = false ∧ (0xE0000000 : Word).toNat / 2 ^ 30 = 3)
    ∧ (s.on (RST.HOLD 7) = false ∧ (0x8000B000 : Word).getLsbD 31 = true ∧ resetTarget ((0x8000B000 : Word).toNat % 2 ^ 24) = some pREG)
    ∧ (let h := up [pRST] [(RST.HOLD 7, 1), (RST.HOLD_TARGET 7, 0xB000)]
       h.on (RST.HOLD 7) = true ∧ (0xB000 : Word).toNat % 2 ^ 24 = h.rd (RST.HOLD_TARGET 7) ∧ (0xB000 : Word).getLsbD 31 = false)
    ∧ ((ep e).rst.episodes = [e] ∧ e.toApply ≠ [] ∧ (ep e).nvs.pulse = false ∧ ({ e with reach := 1 } : Episode).reach ≤ 1)
    ∧ (({ e with toApply := [] } : Episode).toApply = [] ∧ ∀ x ∈ e.sources, x.pulse = true)
    ∧ (let c : Episode := { reach := 0, pages := List.range 183, toApply := List.range 183, sources := [⟨1, 0, false⟩] }
       c.reach = 0 ∧ c.pages = List.range 183 ∧ c.toApply = List.range 183 ∧ c.toApply ≠ [])
    ∧ (({ s with pwr.hold := true } : State).pwr.hold = true ∧ (0x9000B000 : Word).getLsbD 31 = true
      ∧ (0x9000B000 : Word).toNat % 2 ^ 24 ≠ (up [pRST] [(RST.HOLD 7, 1), (RST.HOLD_TARGET 7, 0xA000)]).rd (RST.HOLD_TARGET 7)
      ∧ resetTarget 0xFFFFFF = none ∧ (ep { e with sources := [⟨5, 8, true⟩], reach := 1 }).swPulse = true) := by decide +kernel

/-- ReleasesAndClocks: a COLD release that waits; a folio due with its clocks and without; counts on both sides of both limits. -/
theorem wit_ReleasesAndClocks :
    let c : State := { up [] with rst.coldWait := some 1 }
    let d : State := { up [] [(CHK.CLK_GOOD, 63), (CHK.REF_GOOD, 1)] with rst.due := [{ page := pREG }], rst.held := [pREG] }
    let e : State := { up [] [(CHK.CLK_GOOD, 0)] with rst.due := [{ page := pREG, waits := true }], rst.held := [pREG] }
    let k := up [pCHK, pCLK] [(CHK.CLK_GOOD, 63), (CLK.PLL_LOCK, 63), (CHK.REF_GOOD, 1)]
    c.rst.coldWait = some 1
    ∧ (d.rst.due = { page := pREG } :: [] ∧ d.clocksGood pREG = true ∧ e.rst.due = { page := pREG, waits := true } :: []
      ∧ e.clocksGood pREG = false)
    ∧ (let r : State := { up [] with rst.refWait := some 1 }
       r.rst.refWait ≠ none ∧ r.on CHK.REF_GOOD = false)
    ∧ (k.runs pCHK = true ∧ 254 ≤ (254 : BitVec 9).toNat ∧ (280 : BitVec 9).toNat ≤ 280 ∧ (253 : BitVec 9).toNat < 254 ∧ 280 < (281 : BitVec 9).toNat)
    ∧ (8192 - 8192 / 100 ≤ (8111 : BitVec 16).toNat ∧ (8273 : BitVec 16).toNat ≤ 8192 + 8192 / 100 ∧ (8110 : BitVec 16).toNat < 8192 - 8192 / 100
      ∧ k.on CHK.REF_GOOD = true ∧ bit (k.rd CHK.CLK_GOOD) 0 = true)
    ∧ (domainOf pREG ≠ domainOf (pDet 0) ∧ ({ k with pwr.hold := true } : State).pwr.hold = true)
    ∧ (k.isOff pCLK = false ∧ bit (k.rd CLK.PLL_LOCK) 5 = true ∧ k.runs pCLK = true) := by decide +kernel

/-- SecurityAndStorage: each command's word, a DEST in and out of range, BUSY; a VERIFY in progress with and without its source; REVOKE
in COMMISSION and OPERATIONAL; ATTEST below and at the end of its indices; an MRAM word; the boots and the recovery monitor. -/
theorem wit_SecurityAndStorage :
    let s := up [pSEC, pNVS, pHCP, pMON] [(WATCH.ST_NVS_OK, 1)]
    let c := fun x l => ({ up [pSEC, pNVS, pHCP, pMON] l with sec.command := some x } : State)
    (s.runs pSEC = true ∧ s.on SEC.BUSY = false ∧ (up [pSEC] [(SEC.BUSY, 1)]).on SEC.BUSY = true
      ∧ (0x14700000 : Word).toNat / 2 ^ 28 = 1 ∧ destOk 1 ((0x14700000 : Word).extractLsb' 20 8).toNat = true
      ∧ destOk 1 ((0x14800000 : Word).extractLsb' 20 8).toNat = false ∧ Path.spi ≠ .host)
    ∧ ((c (1, 71) []).sec.command = some (1, 71) ∧ (c (1, 71) []).sourceFails ((c (1, 71) []).rd SEC.SRC_LEN) = false
      ∧ ({ c (1, 71) [] with sec.sourceLost := true } : State).sourceFails 0 = true
      ∧ (c (1, 71) []).verifyHeader (c (1, 71) []).source 0 71 ≠ 0 ∧ (c (1, 71) []).sourceFails 256 = false
      ∧ (c (1, 71) [(SEC.SRC_ADDR, 0xFFFFFF00), (SEC.SRC_LEN, 3080)]).sourceFails 256 = false
      ∧ (c (1, 71) [(SEC.SRC_ADDR, 0xFFFFFF00), (SEC.SRC_LEN, 3080)]).sourceFails 3080 = true
      ∧ (c (3, 0) []).sec.command = some (3, 0) ∧ (c (6, 0x7F) []).sec.command = some (6, 0x7F))
    ∧ ((c (5, 4) [(SAF.STATE, 1), (WATCH.ST_NVS_OK, 1)]).rd SAF.STATE = 1 ∧ (c (5, 4) [(WATCH.ST_NVS_OK, 1)]).on WATCH.ST_NVS_OK = true
      ∧ (c (5, 4) [(SAF.STATE, 2)]).rd SAF.STATE = 2)
    ∧ (let a : State := { c (2, 0) [] with nvs.security.next := 1 }
       ({ a with nvs.security.lost := true } : State).nvs.security.lost = true ∧ a.nvs.security.lost = false ∧ a.rd SEC.XMSS_CUR < 2 ^ 20 - 1 ∧ a.rd SEC.XMSS_CUR < a.nvs.security.next
        ∧ (c (2, 0) [(WATCH.ST_NVS_OK, 0)]).nvs.security.next ≤ 0 ∧ (c (2, 0) [(WATCH.ST_NVS_OK, 0)]).on WATCH.ST_NVS_OK = false
        ∧ 2 ^ 20 ≤ (c (2, 0) [(SEC.XMSS_CUR, 2 ^ 20)]).rd SEC.XMSS_CUR)
    ∧ (let n := up [pNVS] [(NVS.WADDR, 0x2000), (WATCH.ST_NVS_OK, 1)]
       n.runs pNVS = true ∧ 0x10000 ≤ 8 * n.rd NVS.WADDR ∧ n.on WATCH.ST_NVS_OK = true ∧ n.nvs.pulse = false ∧ 8 * s.rd NVS.WADDR < 0x10000
        ∧ (up [pNVS] [(WATCH.ST_NVS_OK, 0)]).on WATCH.ST_NVS_OK = false)
    ∧ (let m : State := { s with nvs.pulse := true, nvs.queue := [(0x2000, 0)] }
       m.nvs.pulse = true ∧ m.nvs.queue = (0x2000, 0) :: []
        ∧ 9 ≤ ({ s with nvs.queue := List.replicate 9 (0x2000, 0) } : State).nvs.queue.length)
    ∧ (s.runs pHCP = true ∧ s.mon.running = false ∧ s.mon.recovery = false ∧ (up [] [(RST.BOOTSEL, 3)]).rd RST.BOOTSEL = 3
      ∧ (up [] [(RST.BOOTSEL, 1)]).rd RST.BOOTSEL = 1 ∧ (up [] [(RST.BOOTSEL, 2)]).rd RST.BOOTSEL = 2
      ∧ s.hostVolume 0 = none)
    ∧ (s.runs pMON = true ∧ ({ s with mon.recovery := true } : State).mon.recovery = true ∧ s.rd RST.BOOTSEL ≠ 4
      ∧ s.verifyVolume (fun i => s.mon.staging.read i) 0 0x7F ≠ 0) := by decide +kernel

/-- SHAKE256 over four zero bytes. -/
def volumeHash : List Byte :=
  [0xB4, 0xA2, 0x1E, 0x79, 0x39, 0xBE, 0xB1, 0x25, 0xBD, 0x3C, 0x10, 0x23, 0x7E, 0xD5, 0xEA, 0x31,
   0xB3, 0x1A, 0xEE, 0x7E, 0x64, 0x68, 0x73, 0x4F, 0x8D, 0x15, 0x8B, 0x4D, 0x50, 0xE9, 0x95, 0xD6]

theorem test_volumeHash : shake256 [0, 0, 0, 0] 32 = volumeHash := by decide +kernel

/-- The header of a volume of a type with a payload of four zero bytes, for any device, to be signed with the root key. -/
def volumeHead (type : Byte) : List Byte :=
  [0x48, 0x4A, 0x56, 0x4C, 1, type, 0, 0, 0, 0, 0, 0, 0, 0, 0, 0, 4, 0, 0, 0, 0, 0, 0, 0] ++ List.replicate 32 0 ++ volumeHash

/-- SecurityAndStorage, SpiAndCarrel: where the opaque signature check accepts, a host volume and an engine's verify. -/
theorem wit_verifyVolume (s : State) (type : Byte) (dest : Nat) (ht : (type = 1 ∧ dest = 0x7F) ∨ (type = 2 ∧ dest = 71))
    (hm : s.nvs.security.minHost = 0) (hn : s.nvs.security.minEngine = 0)
    (h : Config.xmssVerify rootKey (slice (fun i => (volumeHead type).getD i 0) 0 256)
      (slice (fun i => (volumeHead type).getD i 0) 260 2820) = true) :
    s.verifyHeader (fun i => (volumeHead type).getD i 0) 3080 dest = 0 ∧ s.verifyPayload (fun i => (volumeHead type).getD i 0) = 0
      ∧ s.verifyVolume (fun i => (volumeHead type).getD i 0) 3080 dest = 0 := by
  have hk : s.slotKey 0 = rootKey := rfl
  have hl : ∀ t ∈ ([1, 2] : List Byte), sliceLe (fun i => (volumeHead t).getD i 0) 0x10 4 = 4
      ∧ ((volumeHead t).getD 6 0).toNat = 0 ∧ ((volumeHead t).getD 5 0) = t
      ∧ (slice (fun i => (volumeHead t).getD i 0) 0 4 != magicVolume || ((volumeHead t).getD 4 0).toNat != 1) = false
      ∧ slice (fun i => (volumeHead t).getD i 0) 0x18 32 = List.replicate 32 0 ∧ sliceLe (fun i => (volumeHead t).getD i 0) 0x0C 4 = 0
      ∧ slice (fun i => (volumeHead t).getD i 0) 256 4 = [0, 0, 0, 0] ∧ slice (fun i => (volumeHead t).getD i 0) 0x38 32 = volumeHash := by
    decide +kernel
  obtain ⟨h1, h2, h3, h4, h5, h6, h7, h8⟩ := hl type (by rcases ht with ⟨e, -⟩ | ⟨e, -⟩ <;> simp [e])
  have hh : s.verifyHeader (fun i => (volumeHead type).getD i 0) 3080 dest = 0 := by
    unfold State.verifyHeader
    simp only [h1, h2, h3, h4, h5, h6, hm, hn]
    rcases ht with ⟨rfl, rfl⟩ | ⟨rfl, rfl⟩ <;> simp [targetOk, State.slotHolds, State.slotRevoked]
  have hp : s.verifyPayload (fun i => (volumeHead type).getD i 0) = 0 := by
    unfold State.verifyPayload
    simp only [h1, h2, h7, h8, test_volumeHash, hk, h]
    simp
  exact ⟨hh, hp, by rw [State.verifyVolume, hh]; simpa using hp⟩

/-- A slot's image of 3,112 bytes: a directory of one HOST volume, and the volume. -/
def slotImage : List Byte :=
  magicDir ++ [1, 1] ++ List.replicate 10 0 ++ ([1, 0, 0, 0, 32, 0, 0, 0, 0x08, 0x0C, 0, 0, 0, 0, 0, 0] ++ volumeHead 1)

/-- SecurityAndStorage: a slot whose host volume verifies where the opaque signature check accepts; no boot record. -/
theorem wit_hostVolume (slot : Nat) (l : List (Fld × Nat))
    (h : Config.xmssVerify rootKey (slice (fun i => (volumeHead 1).getD i 0) 0 256) (slice (fun i => (volumeHead 1).getD i 0) 260 2820) = true) :
    let s : State := { up [pHCP, pSEC, pNVS] l with nvs.flash := Mem.write [] (slotBase slot) slotImage }
    s.hostVolume slot = some (slotBase slot + 32, 3080) ∧ s.verifyVolume (fun i => s.nvs.flash.read (slotBase slot + 32 + i)) 3080 0x7F = 0
      ∧ s.bootRecord = none ∧ s.mon.running = false ∧ s.mon.recovery = false := by
  intro s
  have hr : ∀ i, s.nvs.flash.read (slotBase slot + i) = slotImage.getD i 0 := by
    intro i
    show (Mem.write [] (slotBase slot) slotImage).read _ = _
    rw [Mem.read_write]
    by_cases hi : i < slotImage.length
    · rw [if_pos ⟨by omega, by omega⟩]
      congr 1
      omega
    · rw [if_neg (by omega), List.getD_eq_default _ _ (by omega)]
      rfl
  have hv : (fun i => s.nvs.flash.read (slotBase slot + 32 + i)) = fun i => (volumeHead 1).getD i 0 := by
    funext i
    rw [Nat.add_assoc, hr]
    simp [slotImage, magicDir, List.getD_eq_getElem?_getD, Nat.add_comm 32 i]
  have hm : s.nvs.mram = [] := rfl
  refine ⟨?_, ?_, ?_, rfl, rfl⟩
  rotate_left 2
  · rw [← Option.isNone_iff_eq_none]
    simp only [State.bootRecord, State.bootCopy, hm]
    decide +kernel
  · unfold State.hostVolume
    simp only [hr]
    have hf : (List.range (slotImage.getD 5 0).toNat).filter (fun i => slotImage.getD (0x10 + 16 * i) 0 = 1) = [0] := by decide +kernel
    have hd : (slice (fun o => slotImage.getD o 0) 0 4 = magicDir && slotImage.getD 4 0 = 1 && 1 ≤ (slotImage.getD 5 0).toNat
        && (slotImage.getD 5 0).toNat ≤ 17) = true := by decide +kernel
    have ho : sliceLe (fun o => slotImage.getD o 0) (0x14 + 16 * 0) 4 = 32 ∧ sliceLe (fun o => slotImage.getD o 0) (0x18 + 16 * 0) 4 = 3080 := by
      decide +kernel
    rw [if_pos hd, hf]
    simp only [ho.1, ho.2]
  · rw [hv]
    exact (wit_verifyVolume s 1 0x7F (.inl ⟨rfl, rfl⟩) rfl rfl h).2.2

/-- An owner's certificate for slot 1 and any device, to be signed with the root key. -/
def certHead : List Byte := magicOwner ++ [1, 1]

/-- SecurityAndStorage: ENROLL of an empty slot, where the opaque signature check accepts; CONFIRM, and ATTEST that reserves. -/
theorem wit_enroll (h : Config.xmssVerify rootKey (slice (fun i => certHead.getD i 0) 0 128)
      (slice (fun i => certHead.getD i 0) 128 2820) = true) :
    let s : State := { up [pSEC, pHCP] [(WATCH.ST_NVS_OK, 1)] with sec.command := some (4, 0), mon.mem := Mem.write [] 0 certHead }
    s.sourceFails 2948 = false ∧ slice s.source 0 4 = magicOwner ∧ s.source 4 = 1 ∧ (s.source 5).toNat = 1 ∧ s.slotHolds 1 = false
      ∧ s.slotRevoked 1 = false ∧ targetOk (slice s.source 0x4C 32) = true ∧ s.rd SAF.STATE = 0
      ∧ Config.xmssVerify rootKey (slice s.source 0 128) (slice s.source 128 2820) = true
      ∧ (({ s with sec.hostSecVer := 1 } : State).nvs.security.minHost < 1 ∧ s.nvs.security.next ≤ s.rd SEC.XMSS_CUR ∧ s.on WATCH.ST_NVS_OK = true)
      := by
  intro s
  have hr : s.source = fun i => certHead.getD i 0 := by
    funext i
    show (Mem.write [] 0 certHead).read _ = _
    have hz : (up [pSEC, pHCP] [(WATCH.ST_NVS_OK, 1)]).rd SEC.SRC_ADDR = 0 := by decide +kernel
    rw [show s.rd SEC.SRC_ADDR = 0 from hz, Mem.read_write]
    by_cases hi : i < certHead.length
    · rw [if_pos ⟨by omega, by omega⟩]
      congr 1
      omega
    · rw [if_neg (by omega), List.getD_eq_default _ _ (by omega)]
      rfl
  rw [hr]
  refine ⟨?_, ?_, ?_, ?_, ?_, ?_, ?_, ?_, h, ?_⟩ <;> decide +kernel

/-- SpiAndCarrel: frames whose CRC is right and wrong, reads that answer and that fail, the line and its buffer at their ends, a monitor
that waits for a command, a loaded volume in reach of its slots, a trace. -/
theorem wit_SpiAndCarrel :
    let s := up [0, pHCP, pREG, pSEC, pNVS, pMON]
    let r : State := { s with mon.running := true }
    let b : State := { r with mon.busy := true, mon.rx := List.replicate 256 0 }
    let v : State := { r with mon.volume := some [0] }
    (s.runs 0 = true ∧ s.inStaging 0x40000000 = false ∧ crc8Spi (0x0B :: [0x40, 0, 0, 0]) = (0x24 : Byte).toNat
      ∧ (s.busRead 0x40000000).2.error = false ∧ (s.busRead 0x40000002).2.error = true
      ∧ crc8Spi (0x0B :: [0x40, 0, 0, 0]) ≠ (0x25 : Byte).toNat ∧ (0xFF : Byte) ≠ 0x0B ∧ (0xFF : Byte) ≠ 0x02)
    ∧ (let m : State := { s with mon.recovery := true }
       m.inStaging 0x70000000 = true ∧ m.inStaging 0x70400FFC = true ∧ crc8Spi (0x0B :: [0x70, 0, 0, 0]) < 256)
    ∧ ((up []).runs 0 = false ∧ (up [pI2C]).runs pI2C = true ∧ s.mon.busy = false)
    ∧ (s.runs pHCP = true ∧ r.mon.running = true ∧ r.mon.lineLong = false ∧ (0x76 : Byte) ≠ 13 ∧ (0x76 : Byte) ≠ 10
      ∧ (List.replicate 127 (0 : Byte)).length < 128 ∧ 128 ≤ (List.replicate 128 (0 : Byte)).length
      ∧ b.mon.busy = true ∧ 256 ≤ b.mon.rx.length ∧ r.mon.rx.length < 256)
    ∧ (({ r with mon.snapWait := true } : State).mon.snapWait = true ∧ r.mon.rx = [] ∧ 64 < 65
      ∧ (0x400B7000 : Word).toNat = 0x40000000 + 0x1000 * 183 ∧ (0x4000B100 : Word).toNat = 0x40000000 + 0x1000 * pREG + 0x100
      ∧ (0x400B6000 : Word).toNat = 0x40000000 + 0x1000 * 182 ∧ r.runs pREG = true)
    ∧ (r.mon.volume = none ∧ v.mon.volume = some [0] ∧ v.runs pSEC = true ∧ v.on SEC.BUSY = false ∧ destOk 1 (0x7F : Byte).toNat = true
      ∧ v.activeSlot = 0 ∧ v.runs pNVS = true ∧ v.slotVolumes 1 = [] ∧ v.verifyVolume (fun i => ([0] : List Byte).getD i 0) 1 0x7F ≠ 0)
    ∧ (({ s with mon.receiving := true } : State).mon.receiving = true)
    ∧ (let q : State := { s with mon.recovery := true }
       q.mon.running = false ∧ q.mon.recovery = true ∧ q.rd RST.BOOTSEL ≠ 3)
    ∧ (let t : State := { s with mon.trace := some [182] }
       t.mon.trace = some [182] ∧ t.mon.traceBuf = [] ∧ t.mon.traceLost = 0) := by decide +kernel

/-- SpiAndCarrel: a transfer of the shortest volume with its check bytes. -/
theorem wit_volLoad : (List.replicate 3080 (0 : Byte)).length = 3080 ∧ (shake256 (List.replicate 3080 0) 4).length = 4 :=
  ⟨List.length_replicate, shake256_length _ _⟩

/-- TestAccess: a monitor that waits for a command, locked, unlocked with SCOPE bits 1 and 2, OPERATIONAL; an engine to halt, one halted by
the monitor; a subtree outside HCP. -/
theorem wit_TestAccess :
    let s : State := { up [pHCP, pRe 0] [(C.HALTED (pRe 0), 0)] with mon.running := true }
    let o : State := { up [pHCP, pRe 0] [(MON.UNLOCKED, 1), (MON.SCOPE, 6), (C.HALTED (pRe 0), 1)] with
      mon.running := true, engines := [(0, { running := some .shot, debugHalt := true })] }
    (s.runs pHCP = true ∧ s.mon.running = true ∧ s.mon.rx = [] ∧ s.operating = false
      ∧ (up [] [(SAF.STATE, 2)]).operating = true ∧ s.mon.challenge = none)
    ∧ (s.on MON.UNLOCKED = false ∧ o.on MON.UNLOCKED = true ∧ bit (o.rd MON.SCOPE) 1 = true ∧ bit (o.rd MON.SCOPE) 2 = true ∧ o.rd SAF.STATE = 0)
    ∧ (o.runs (pRe 0) = true ∧ haltable (pRe 0) = true ∧ o.on (C.HALT (pRe 0)) = false ∧ (o.engine 0).running.isSome = true
      ∧ (o.engine 0).debugHalt = true ∧ o.on (C.HALTED (pRe 0)) = true ∧ s.on (C.HALTED (pRe 0)) = false)
    ∧ ((up [pHCP]).runs (pRe 0) = false ∧ (o.engine 1).debugHalt = false ∧ o.debugHeld = false ∧ o.pwr.hold = false
      ∧ ({ o with rst.episodes := [{ sources := [⟨6, 0, false⟩] }] } : State).debugHeld = true
      ∧ (0x30000000 : Word).toNat / 2 ^ 24 ≠ 0x40)
    ∧ (o.rst.episodes = [] ∧ (0x4000B000 : Word).toNat / 2 ^ 24 = 0x40
      ∧ resetTarget ((0x4000B000 : Word).toNat - 0x40000000) = some pREG ∧ pHCP ∉ subtree pREG) := by decide +kernel

/-- The body of a token for this device that answers a challenge of 16 zero bytes with SCOPE 7 for a day. -/
def tokenBody : List Byte :=
  [0x48, 0x4A, 0x54, 0x55, 1, 7, 0, 0] ++ deviceId ++ List.replicate 16 0 ++ [0x80, 0x51, 0x01, 0x00] ++ [0, 0, 0, 0]

/-- TestAccess: its body meets every field's condition; its signature is the opaque check's to accept. -/
theorem wit_token :
    tokenBody.length = 64 ∧ tokenBody.take 5 = [0x48, 0x4A, 0x54, 0x55, 1] ∧ tokenBody.getD 5 0 = 7 ∧ (tokenBody.drop 6).take 2 = [0, 0]
    ∧ (tokenBody.drop 8).take 32 = deviceId ∧ (tokenBody.drop 0x28).take 16 = List.replicate 16 0
    ∧ ofLeBytes ((tokenBody.drop 0x38).take 4) = 86400 ∧ (tokenBody.drop 0x3C).take 4 = [0, 0, 0, 0] := by
  have h : deviceId.length = 32 := shake256_length _ _
  refine ⟨by simp [tokenBody, h], by simp [tokenBody], by simp [tokenBody], by simp [tokenBody], ?_, ?_, ?_, ?_⟩
  · simp [tokenBody, h]
  · simp [tokenBody, h]
  · simp [tokenBody, h, List.drop_append]
    decide
  · simp [tokenBody, h, List.drop_append, List.drop_eq_nil_of_le]

/-- EveryCommandCompletes, StepRunsTheFront: commands of either kind, and an empty queue. -/
theorem wit_commands : (Instr.slotPeriodStart (List.replicate 24 0)).wf = true ∧ (Instr.slotPeriodStart []).wf = false
    ∧ (up []).pending = [] := by decide

/-- StepKeepsTheInvariant, LockedInOperation: a state right after reset with a command in front meets both, and its step completes. -/
theorem wit_invariant : State.reset.Inv ∧ State.reset.LockedWhileOperating
    ∧ ∃ t, step { State.reset with pending := [.challengeExpiry] } = .next t := by
  refine ⟨⟨?_, State.reset_memsWf, ?_, ?_⟩, ?_, ⟨_, rfl⟩⟩
  · exact fun _ => rfl
  · exact fun k => (show Mem.wf [] ∧ Mem.wf [] by decide)
  · unfold State.cellsObserve; decide +kernel
  · unfold State.LockedWhileOperating; decide +kernel

/-! ### Worked examples of the spec -/

/-- R89, R90: 4.0 ns at levels 1 and 2, and 2.5 ns at level 1, raised to 2.0 ns. -/
theorem test_derateWidth : derateWidth 4 1 = 2 ∧ derateWidth 4 2 = 0 ∧ derateWidth 1 1 = 0 := by decide

/-- R118, R119: block 2 slid at position 4: ROW 67 on CH 69, ROW 68 on CH 71, ROW 95 on the spare CH 98, CH 70 on no row. -/
theorem test_slide :
    let s := up [] [(ACQ.SLIDE_EN 2, 1), (ACQ.SLIDE_POS 2, 4)]
    s.rowOf 69 = some 67 ∧ s.rowOf 70 = none ∧ s.rowOf 71 = some 68 ∧ s.rowOf 98 = some 95 := by decide +kernel

/-- R252: Record A takes 81 bits and Record B 34. -/
theorem test_codec :
    let w := fun row i r => row * 2 ^ 53 + 7 * 2 ^ 36 + i * 2 ^ 28 + r * 2 ^ 8
    (codeStream [w 200 52 23417]).length = 81 ∧ (codeStream [w 200 52 23417, w 201 49 23452]).length = 115 := by decide +kernel

/-- R234, R235: the PROX word of RG 24, rows 3 and 4, for SHOT_SEQ 0x0A3C reaches PROX_MIN_ROWS 2. -/
theorem test_prox :
    let s : State := { up [] [(SAF.PROX_EN 0, 0x01000000), (SAF.PROX_MIN_ROWS, 2)] with
      prox.flight := [0xB118003C], prox.collecting := true, prox.tag := 0x3C }
    let t := match exec .proxWordArrival s with
      | .next t => t
      | _ => s
    t.prox.asserted = true ∧ t.prox.rows = 2 ∧ t.prox.accepted = [24] := by decide +kernel

/-- R432: target 256, CORR 200, level 1 (so that the string's multiplier is 3): the accumulator gains 150. -/
theorem test_lamp :
    let s := up [pLMP] [(C.HALTED pLMP, 0), (LMP.LEVEL_NOW 0, 256), (LMP.TARGET 0, 256), (LMP.CORR 0, 200), (LMP.LAMP_EN 0, 1), (LMP.SYNC_EN 0, 0)]
    let t := match exec .lampTick { s with lmp.level := 1 } with
      | .next t => t
      | _ => s
    Tab.get 0 t.lmp.acc 0 = 150 ∧ t.pins.lg = 0 := by decide +kernel

/-- R552, R553: the host reads the catalogue's ID word. -/
theorem test_spi :
    let t := match exec (.spiRead 0x40000000 0x24) (up [0]) with
      | .next t => t
      | _ => {}
    t.spi.response = [0xA5, 0x00, 0x00, 0x10, 0x00, 0x00, 0xA2] := by decide +kernel

/-- R518, R520: the first two words of EMT's folio. -/
theorem test_peek :
    let s : State := { up [pHCP, pMON, pEMT] with mon.running := true }
    let t := match exec (.carrelPeek 0x40012000 2) s with
      | .next t => t
      | _ => {}
    t.mon.output = ["0x4001_2000: 0x10E0_0000", "0x4001_2004: 0x0100_0101", "OK", "carrel> "] := by decide +kernel

/-- R187: the spec's `addi s5, s0, 64`, issued by engine 0, writes 64 to s5 and goes on. -/
theorem test_addi :
    let s := withEngine (atWord 0x04A00040 {})
    let t := match exec (.addi ⟨0, .clean⟩ 5 0 64) s with
      | .next t => t
      | _ => s
    (t.engine 0).reg 5 = 64 ∧ (t.engine 0).pc = 4 ∧ (t.engine 0).slots = 1 := by decide +kernel

end Sys2Proof.Tests
end

section
/-! PROOFS. The return engines' instruction set (spec/07_return_engines.md): scalar results, and misaligned accesses with the entry of
the ERROR handler that they share with every other cause. -/
namespace Sys2Proof.Machine
open Sys2Proof

/-! ### Arithmetic of the scalar ALU (R188) -/

/-- The core library's count of leading zeros from bit n downwards, with k bits above it: the k bits and the run of clear bits. -/
theorem clzAuxRec_eq_takeWhile (x : Word) (n k : Nat) (hk : k + n = 31) : BitVec.clzAuxRec x n =
    BitVec.ofNat 32 (k + ((List.range' k (n + 1)).takeWhile fun i => !x.getLsbD (31 - i)).length) := by
  induction n generalizing k with
  | zero =>
    obtain rfl : k = 31 := hk
    rw [BitVec.clzAuxRec_zero, List.range'_one, List.takeWhile_cons, List.takeWhile_nil]
    cases x.getLsbD (31 - 31) <;> rfl
  | succ n ih =>
    have hbit : 31 - k = n + 1 := by omega
    have hk31 : 32 - 1 - (n + 1) = k := by omega
    rw [BitVec.clzAuxRec_succ, List.range'_succ, List.takeWhile_cons, hbit, ih (k + 1) (by omega), hk31]
    cases x.getLsbD (n + 1)
    · simp only [Bool.not_false, if_true, Bool.false_eq_true, if_false, List.length_cons]
      congr 1; omega
    · rfl

theorem ofNat_clz (x : Word) : BitVec.ofNat 32 (clz x) = BitVec.clz x := by
  rw [BitVec.clz, clzAuxRec_eq_takeWhile x 31 0 rfl, clz, List.range_eq_range', Nat.zero_add]

theorem popc_eq_countP (x : Word) : popc x = (List.range 32).countP x.getLsbD := List.countP_eq_length_filter.symm

/-- The high word of the exact signed product is the high half of the 64-bit product (MULH). -/
theorem mulh_eq_extract (a b : Word) :
    BitVec.ofInt 32 (a.toInt * b.toInt / (2 ^ 32 : Nat)) = (a.signExtend 64 * b.signExtend 64).extractLsb' 32 32 := by
  have hprod : a.signExtend 64 * b.signExtend 64 = BitVec.ofInt 64 (a.toInt * b.toInt) := by
    rw [BitVec.ofInt_mul]; rfl
  rw [hprod]
  generalize a.toInt * b.toInt = p
  apply BitVec.eq_of_toNat_eq
  rw [BitVec.extractLsb'_toNat, BitVec.toNat_ofInt, BitVec.toNat_ofInt, Nat.shiftRight_eq_div_pow]
  omega

/-- The same for the unsigned product (MULHU). -/
theorem mulhu_eq_extract (a b : Word) :
    BitVec.ofNat 32 (a.toNat * b.toNat / 2 ^ 32) = (a.zeroExtend 64 * b.zeroExtend 64).extractLsb' 32 32 := by
  have hprod : a.zeroExtend 64 * b.zeroExtend 64 = BitVec.ofNat 64 (a.toNat * b.toNat) := by
    rw [BitVec.ofNat_mul, BitVec.ofNat_toNat, BitVec.ofNat_toNat]
  rw [hprod]
  generalize a.toNat * b.toNat = p
  apply BitVec.eq_of_toNat_eq
  rw [BitVec.extractLsb'_toNat, BitVec.toNat_ofNat, BitVec.toNat_ofNat, Nat.shiftRight_eq_div_pow]
  omega

/-- LUI's half-word in the high half. -/
theorem shiftLeft_high_eq_append (imm : BitVec 16) : imm.zeroExtend 32 <<< 16 = imm ++ (0 : BitVec 16) := by
  apply BitVec.eq_of_toNat_eq
  have := imm.isLt
  have hlow : (0 : BitVec 16).toNat = 0 := rfl
  rw [BitVec.toNat_append, hlow, Nat.or_zero, BitVec.toNat_shiftLeft, BitVec.toNat_setWidth, Nat.shiftLeft_eq, Nat.shiftLeft_eq]
  omega

/-! ### What raising ERR_RATE does (R197, R568) -/

/-- ERR_RATE, bit 1 of an engine's FAULT, sets HEALTH beside itself and nothing else. -/
theorem errRate_mask (re : Fin 72) : 2 ^ 1 + faultCommons (pRe re) 1 = 0x04000002 := by
  revert re; decide

theorem foldl_put_keeps {p m : Nat} {keys : List Nat} {s : State} (l : List Nat) (t : State) (h : KeepsRegs keys s t)
    (hl : ∀ i ∈ l, bit m i = true → (C.FAULT p i).key ∈ keys) :
    KeepsRegs keys s (l.foldl (fun s i => if bit m i then s.put (C.FAULT p i) true else s) t) := by
  induction l generalizing t with
  | nil => exact h
  | cons i l ih =>
    rw [List.foldl_cons]
    refine ih _ ?_ fun j hj => hl j (List.mem_cons_of_mem _ hj)
    split
    · rename_i hi; exact h.put _ _ (hl i List.mem_cons_self hi)
    · exact h

/-- A fault keeps every field but the FAULT bits of its mask. -/
theorem setFaults_keeps {p m : Nat} {keys : List Nat} {s t : State} (h : KeepsRegs keys s t)
    (hm : ∀ i < 32, bit m i = true → (C.FAULT p i).key ∈ keys) : KeepsRegs keys s (t.setFaults p m) := by
  have hfold := foldl_put_keeps (List.range 32) t h fun i hi => hm i (List.mem_range.mp hi)
  unfold State.setFaults
  split
  · exact hfold.of_cur rfl
  · exact hfold

/-- A mask without SAFETY posts nothing to SAF (R411): the acting registers alone change. -/
theorem setFaults_regs_of_not_safety (s : State) {p m : Nat} (hm : bit m safetyBit = false) :
    s.setFaults p m = { s with regs := (s.setFaults p m).regs } := by
  obtain ⟨r, hr⟩ := State.foldl_put_state p m (List.range 32) s
  simp [State.setFaults, hr, hm]

/-- The keys of the FAULT bits that ERR_RATE sets. -/
def errRateKeys (k : Nat) : List Nat := [(RE.FAULT_ERR_RATE k).key, (C.FAULT (pRe k) 26).key]

theorem errRate_keeps {keys : List Nat} {s t : State} (re : Fin 72) (h : KeepsRegs keys s t) (hk : ∀ x ∈ errRateKeys re, x ∈ keys) :
    KeepsRegs keys s (t.fault (pRe re) 1) := by
  rw [State.fault, errRate_mask]
  refine setFaults_keeps h fun i hi hbit => ?_
  have hbits : ∀ i < 32, bit 0x04000002 i = true → i = 1 ∨ i = 26 := by decide
  obtain rfl | rfl := hbits i hi hbit
  · exact hk _ List.mem_cons_self
  · exact hk _ (List.mem_cons_of_mem _ List.mem_cons_self)

theorem errRate_regs (s : State) (re : Fin 72) : s.fault (pRe re) 1 = { s with regs := (s.fault (pRe re) 1).regs } := by
  rw [State.fault, errRate_mask]
  exact setFaults_regs_of_not_safety s (by decide)

theorem errRate_on (s : State) (re : Fin 72) :
    (s.fault (pRe re) 1).on (RE.FAULT_ERR_RATE re) = true ∧ (s.fault (pRe re) 1).on (C.FAULT (pRe re) 26) = true := by
  rw [State.fault, errRate_mask]
  exact ⟨State.setFaults_on s (pRe re) _ 1 (by decide) (by decide), State.setFaults_on s (pRe re) _ 26 (by decide) (by decide)⟩

/-! ### The entry of the ERROR handler (R195, R197, R209) -/

/-- The engine that has entered ERROR from the instruction it has just issued. -/
def Engine.raised (e : Engine) (cause : Nat) (addr : Word) : Engine :=
  { e.slotted with errorsFrame := e.errorsFrame + 1, interrupted := e.running, shotSlots := e.slots + 1 }.enterHandler 4 .error
    (BitVec.ofNat 32 cause) addr e.pc 0

/-- The state with the cause shown and the handler entered, before the frame's entries are compared with ERR_LIMIT. -/
def State.errorShown (s : State) (k cause : Nat) (addr : Word) : State :=
  ((((s.wr (RE.ERR_CAUSE k) cause).wr (RE.ERR_PC k) (s.engine k).pc.toNat).wr (RE.ERR_ADDR k) addr.toNat).setEngine k
    ((s.engine k).raised cause addr)).raise (RE.INT_ERROR k)

theorem reError_of_not_error {s : State} {k : Nat} (cause : Nat) (addr : Word) (hr : (s.engine k).running ≠ some .error) :
    s.reError k (s.engine k).slotted cause addr =
      if s.rdGen pREG (s.engine k).frameGen REG.ERR_LIMIT ≤ (s.engine k).errorsFrame + 1
      then (s.errorShown k cause addr).fault (pRe k) 1 else s.errorShown k cause addr := by
  unfold State.reError
  exact if_neg hr

/-- The registers at ERROR's entry (R195, R197). -/
theorem raised_reg (e : Engine) (cause : Nat) (addr : Word) :
    (e.raised cause addr).reg 1 = BitVec.ofNat 32 cause ∧ (e.raised cause addr).reg 2 = addr ∧ (e.raised cause addr).reg 3 = e.pc
      ∧ (e.raised cause addr).reg 4 = 0 ∧ (e.raised cause addr).reg 30 = e.stackTop ∧ (e.raised cause addr).reg 31 = 0xFFFFFFF0
      ∧ ∀ r ∉ ([1, 2, 3, 4, 30, 31] : List (BitVec 5)), (e.raised cause addr).reg r = e.reg r := by
  unfold Engine.raised
  simp only [reg_enterHandler]
  refine ⟨rfl, rfl, rfl, rfl, rfl, rfl, fun r hr => ?_⟩
  simp only [List.mem_cons, List.not_mem_nil, or_false, not_or] at hr
  obtain ⟨h1, h2, h3, h4, h30, h31⟩ := hr
  simp only [h1, h2, h3, h4, h30, h31, if_false]
  rfl

/-- Everything of the engine that ERROR's entry keeps. -/
theorem raised_frame (e : Engine) (cause : Nat) (addr : Word) : e.raised cause addr =
    { e with
      s := (e.raised cause addr).s, pc := 16, running := some .error, interrupted := e.running, winEcc := false, slots := 0,
      shotSlots := (e.raised cause addr).shotSlots, errorsFrame := e.errorsFrame + 1 } := rfl

theorem errorShown_state (s : State) (k cause : Nat) (addr : Word) : s.errorShown k cause addr =
    { s.setEngine k ((s.engine k).raised cause addr) with regs := (s.errorShown k cause addr).regs } := rfl

/-- The keys of the register fields that ERROR's entry writes. -/
def errorKeys (k : Nat) : List Nat :=
  [(RE.ERR_CAUSE k).key, (RE.ERR_PC k).key, (RE.ERR_ADDR k).key, (RE.INT_ERROR k).key, (RE.FAULT_ERR_RATE k).key, (C.FAULT (pRe k) 26).key]

theorem errorShown_keeps (s : State) (k cause : Nat) (addr : Word) : KeepsRegs (errorKeys k) s (s.errorShown k cause addr) := by
  have hregs : KeepsRegs (errorKeys k) s
      (((s.wr (RE.ERR_CAUSE k) cause).wr (RE.ERR_PC k) (s.engine k).pc.toNat).wr (RE.ERR_ADDR k) addr.toNat) :=
    (((KeepsRegs.refl _ s).wr _ _ (by simp [errorKeys])).wr _ _ (by simp [errorKeys])).wr _ _ (by simp [errorKeys])
  exact (hregs.of_cur (u := State.setEngine _ k ((s.engine k).raised cause addr)) rfl).put _ _ (by simp [errorKeys])

/-- What the folio shows at ERROR's entry. -/
def ShowsError (s : State) (k cause : Nat) (pc addr : Word) : Prop :=
  s.rd (RE.ERR_CAUSE k) = cause ∧ s.rd (RE.ERR_PC k) = pc.toNat ∧ s.rd (RE.ERR_ADDR k) = addr.toNat ∧ s.on (RE.INT_ERROR k) = true

theorem errorShown_shows (s : State) (k cause : Nat) (addr : Word) (hc : cause < 256) :
    ShowsError (s.errorShown k cause addr) k cause (s.engine k).pc addr := by
  have hkeys : (RE.ERR_CAUSE k).key ≠ (RE.ERR_PC k).key ∧ (RE.ERR_CAUSE k).key ≠ (RE.ERR_ADDR k).key
      ∧ (RE.ERR_CAUSE k).key ≠ (RE.INT_ERROR k).key ∧ (RE.ERR_PC k).key ≠ (RE.ERR_ADDR k).key
      ∧ (RE.ERR_PC k).key ≠ (RE.INT_ERROR k).key ∧ (RE.ERR_ADDR k).key ≠ (RE.INT_ERROR k).key := by
    simp [RE.ERR_CAUSE, RE.ERR_PC, RE.ERR_ADDR, RE.INT_ERROR, fld_key]
  obtain ⟨hcp, hca, hci, hpa, hpi, hai⟩ := hkeys
  have hset (t : State) (e : Engine) (f : Fld) : (t.setEngine k e).rd f = t.rd f := rfl
  unfold ShowsError State.errorShown State.raise
  refine ⟨?_, ?_, ?_, State.on_put_self _ _ _ Nat.one_pos⟩
  · rw [State.rd_put_ne _ _ _ _ hci, hset, State.rd_wr_ne _ _ _ _ hca, State.rd_wr_ne _ _ _ _ hcp, State.rd_wr_self]
    exact Nat.mod_eq_of_lt hc
  · rw [State.rd_put_ne _ _ _ _ hpi, hset, State.rd_wr_ne _ _ _ _ hpa, State.rd_wr_self]
    exact Nat.mod_eq_of_lt (s.engine k).pc.isLt
  · rw [State.rd_put_ne _ _ _ _ hai, hset, State.rd_wr_self]
    exact Nat.mod_eq_of_lt addr.isLt

/-- ERR_RATE's fault leaves what the folio shows of the error. -/
theorem ShowsError.errRate {s : State} {re : Fin 72} {cause : Nat} {pc addr : Word} (h : ShowsError s re cause pc addr) :
    ShowsError (s.fault (pRe re) 1) re cause pc addr := by
  have hkeep := errRate_keeps re (KeepsRegs.refl (errRateKeys re) s) fun _ hx => hx
  have hcause := hkeep (RE.ERR_CAUSE re) (by simp [errRateKeys, RE.ERR_CAUSE, RE.FAULT_ERR_RATE, C.FAULT, pRe, fld_key])
  have hpc := hkeep (RE.ERR_PC re) (by simp [errRateKeys, RE.ERR_PC, RE.FAULT_ERR_RATE, C.FAULT, pRe, fld_key])
  have haddr := hkeep (RE.ERR_ADDR re) (by simp [errRateKeys, RE.ERR_ADDR, RE.FAULT_ERR_RATE, C.FAULT, pRe, fld_key])
  have hint := hkeep (RE.INT_ERROR re) (by simp [errRateKeys, RE.INT_ERROR, RE.FAULT_ERR_RATE, C.FAULT, pRe, fld_key])
  unfold ShowsError State.on at *
  rwa [hcause, hpc, haddr, hint]

/-- ERROR's entry from the parts that its statement lists: the engine, the folio, the rate fault and the frame. -/
theorem entersError_of {s t : State} {k cause : Nat} {addr : Word} (he : t.engine k = (s.engine k).raised cause addr)
    (hshow : ShowsError t k cause (s.engine k).pc addr)
    (hrate : s.rdGen pREG (s.engine k).frameGen REG.ERR_LIMIT ≤ (s.engine k).errorsFrame + 1 →
      t.on (RE.FAULT_ERR_RATE k) = true ∧ t.on (C.FAULT (pRe k) 26) = true)
    (hkeep : KeepsRegs (errorKeys k) s t)
    (hstate : t = { s.setEngine k ((s.engine k).raised cause addr) with regs := t.regs }) : EntersError k cause addr s t := by
  obtain ⟨h1, h2, h3, h4, h30, h31, hregs⟩ := raised_reg (s.engine k) cause addr
  obtain ⟨hcause, hpc, haddr, hint⟩ := hshow
  unfold EntersError
  rw [he]
  exact ⟨rfl, rfl, rfl, h1, h2, h3, h4, h30, h31, hregs, raised_frame _ _ _, hcause, hpc, haddr, hint, hrate, hkeep, hstate⟩

/-- A cause raised outside the ERROR handler enters it. -/
theorem reError_entersError {s : State} {re : Fin 72} {cause : Nat} (addr : Word) (hc : cause < 256)
    (hr : (s.engine re).running ≠ some .error) : EntersError re cause addr s (s.reError re (s.engine re).slotted cause addr) := by
  have hshow := errorShown_shows s re cause addr hc
  have hkeep := errorShown_keeps s re cause addr
  have hengine : (s.errorShown re cause addr).engine re = (s.engine re).raised cause addr := State.engine_set s re _
  rw [reError_of_not_error cause addr hr]
  split
  · refine entersError_of ?_ hshow.errRate (fun _ => errRate_on _ re) (errRate_keeps re hkeep ?_) ?_
    · rw [State.fault_engine, hengine]
    · simp [errRateKeys, errorKeys]
    · exact errRate_regs _ re
  · rename_i hlimit
    exact entersError_of hengine hshow (fun h => absurd h hlimit) hkeep (errorShown_state _ _ _ _)

/-- An instruction whose meaning raises a cause enters the ERROR handler. -/
theorem raisesError {c : Ecc → Instr} {s : State} {re : Fin 72} {w : Word} {cause : Nat} {addr : Word} {go : State → Engine → State}
    (hc : cause < 256) (hx : ∀ fetch, exec (c fetch) s = .next (s.issue re w fetch go))
    (hg : ∀ t : State, go t (s.engine re).slotted = t.reError re (s.engine re).slotted cause addr) : RaisesError c s re w cause addr := by
  intro hr
  refine issued hx fun fetch => ?_
  have h := reError_entersError (s := s.fetched re fetch) (re := re) addr hc (by rwa [fetched_engine])
  rwa [fetched_engine, ← hg] at h

/-! ### The scalar instructions (R187, R188) -/

/-- An immediate instruction gives its function of ra. -/
theorem immediate_gives {c : Ecc → Instr} {re : Fin 72} {op : BitVec 6} {rd ra : BitVec 5} {imm : BitVec 16} {s : State} (f : Word → Word)
    (hx : ∀ fetch, exec (c fetch) s = .next (s.immediate re fetch op rd ra imm f)) :
    GivesScalar c s re (encode (.fmtI op rd ra imm)) rd (f ((s.engine re).reg ra)) :=
  givesScalar (go := fun s e => s.next re (e.setReg rd (f (e.reg ra)))) hx fun _ => rfl

/-- SHI gives the shift that IMM16[6:5] names. -/
theorem execShi_of {re : Fin 72} {rd ra : BitVec 5} {imm : BitVec 16} {s : State} {v : Word}
    (h : shiftImm imm ((s.engine re).reg ra) = some v) :
    GivesScalar (.shi ⟨re, ·⟩ rd ra imm) s re (encode (.fmtI 0x06 rd ra imm)) rd v :=
  givesScalar (go := fun s e => match shiftImm imm (e.reg ra) with
    | some v => s.next re (e.setReg rd v)
    | none => s.illegal re e) (fun _ => rfl) fun _ => by simp only [reg_slotted, h]

theorem execLui_gives (re : Fin 72) (rd : BitVec 5) (imm : BitVec 16) (s : State) :
    GivesScalar (.lui ⟨re, ·⟩ rd 0 imm) s re (encode (.fmtI 0x07 rd 0 imm)) rd (imm.zeroExtend 32 <<< 16) :=
  givesScalar (go := fun s e => if (0 : BitVec 5) = 0 then s.next re (e.setReg rd (imm.zeroExtend 32 <<< 16)) else s.illegal re e)
    (fun _ => rfl) fun _ => if_pos rfl

/-- An ALU instruction whose FUNC and rb name no operation raises ILLEGAL. -/
theorem execAlu_illegal {re : Fin 72} {rd ra rb : BitVec 5} {func : BitVec 11} {s : State} (h : ∀ a b, aluOp func rb a b = none) :
    RaisesError (.alu ⟨re, ·⟩ rd ra rb func) s re (encode (.fmtR 0x00 rd ra rb func)) 1 0 :=
  raisesError (go := fun s e => match aluOp func rb (e.reg ra) (e.reg rb) with
    | some v => s.next re (e.setReg rd v)
    | none => s.illegal re e) (by decide) (fun _ => rfl) fun _ => by rw [h]; rfl

theorem aluOp_clz (a b : Word) : aluOp 0x00F 0 a b = some (BitVec.clz a) := congrArg some (ofNat_clz a)

theorem aluOp_popc (a b : Word) : aluOp 0x010 0 a b = some (BitVec.ofNat 32 ((List.range 32).countP a.getLsbD)) :=
  congrArg (fun n => some (BitVec.ofNat 32 n)) (popc_eq_countP a)

/-- CLZ and POPC with an rb field other than 0 are reserved. -/
theorem aluOp_count_of_rb_ne {rb : BitVec 5} (hrb : rb ≠ 0) (a b : Word) : aluOp 0x00F rb a b = none ∧ aluOp 0x010 rb a b = none :=
  ⟨if_neg hrb, if_neg hrb⟩

/-- Settles O1: each FUNC by `aluOp`, where only the high products, CLZ, POPC and LUI are written otherwise than in R188. -/
theorem reScalarResults : Obligations.ReScalarResults := by
  unfold Obligations.ReScalarResults
  intro re rd ra rb imm s a b n k flag
  refine ⟨?alu, execAlu_of (aluOp_clz a _), execAlu_of (aluOp_popc a _), ?reserved,
    immediate_gives (· + imm.signExtend 32) fun _ => rfl, immediate_gives (· &&& imm.zeroExtend 32) fun _ => rfl,
    immediate_gives (· ||| imm.zeroExtend 32) fun _ => rfl, immediate_gives (· ^^^ imm.zeroExtend 32) fun _ => rfl,
    immediate_gives (fun x => bword (x.slt (imm.signExtend 32))) fun _ => rfl, ?sll, ?srl, ?sra, ?lui⟩
  case alu =>
    simp only [List.forall_mem_cons]
    exact ⟨execAlu_of rfl, execAlu_of rfl, execAlu_of rfl, execAlu_of rfl, execAlu_of rfl, execAlu_of rfl, execAlu_of rfl,
      execAlu_of rfl, execAlu_of rfl, execAlu_of rfl, execAlu_of rfl, execAlu_of rfl, execAlu_of rfl,
      execAlu_of (congrArg some (mulh_eq_extract a b)), execAlu_of (congrArg some (mulhu_eq_extract a b)), List.forall_mem_nil _⟩
  case reserved =>
    intro hrb
    simp only [List.forall_mem_cons]
    exact ⟨execAlu_illegal fun x y => (aluOp_count_of_rb_ne hrb x y).1, execAlu_illegal fun x y => (aluOp_count_of_rb_ne hrb x y).2,
      List.forall_mem_nil _⟩
  case sll => exact fun h => execShi_of (by simp [shiftImm, h, a, k])
  case srl => exact fun h => execShi_of (by simp [shiftImm, h, a, k])
  case sra => exact fun h => execShi_of (by simp [shiftImm, h, a, k])
  case lui => exact shiftLeft_high_eq_append imm ▸ execLui_gives re rd imm s

/-! ### Loads and stores of return engines (R179, R190) -/

theorem load_misaligned {s : State} {k : Nat} {e : Engine} {a : Word} {n align : Nat} {found : Ecc} {go : State → Engine → List Byte → State}
    (h : a.toNat % align ≠ 0) : s.load k e a n align found go = s.reError k e ceMisaligned a :=
  if_pos (by simpa using h)

theorem store_misaligned {s : State} {k : Nat} {e : Engine} {a : Word} {align : Nat} {bs : List Byte} (h : a.toNat % align ≠ 0) :
    s.store k e a align bs = s.reError k e ceMisaligned a :=
  if_pos (by simpa using h)

/-- A scalar load that is not aligned to its size. -/
theorem loadReg_misaligned {c : Ecc → Instr} {s : State} {re : Fin 72} {op : BitVec 6} {rd ra : BitVec 5} {imm : BitVec 16} {n : Nat}
    {found : Ecc} {f : Nat → Word} (hx : ∀ fetch, exec (c fetch) s = .next (s.loadReg re fetch op rd ra imm n found f))
    (h : ((s.engine re).reg ra + imm.signExtend 32).toNat % n ≠ 0) :
    RaisesError c s re (encode (.fmtI op rd ra imm)) 2 ((s.engine re).reg ra + imm.signExtend 32) :=
  raisesError (go := fun s e => s.load re e (e.reg ra + imm.signExtend 32) n n found
    fun s e bs => s.next re (e.setReg rd (f (ofLeBytes bs)))) (by decide) hx fun _ => load_misaligned h

/-- A scalar store that is not aligned to its size. -/
theorem storeReg_misaligned {c : Ecc → Instr} {s : State} {re : Fin 72} {op : BitVec 6} {rs ra : BitVec 5} {imm : BitVec 16} {n : Nat}
    (hx : ∀ fetch, exec (c fetch) s = .next (s.storeReg re fetch op rs ra imm n))
    (h : ((s.engine re).reg ra + imm.signExtend 32).toNat % n ≠ 0) :
    RaisesError c s re (encode (.fmtI op rs ra imm)) 2 ((s.engine re).reg ra + imm.signExtend 32) :=
  raisesError (go := fun s e => s.store re e (e.reg ra + imm.signExtend 32) n (leBytes n (e.reg rs).toNat)) (by decide) hx
    fun _ => store_misaligned h

/-- A load reads the bytes of its region as the engine found them at its issue, whatever its fetch. -/
theorem fetched_loadedBytes (s : State) (k : Nat) (fetch : Ecc) (a : Word) (n i : Nat) :
    ((s.fetched k fetch).reBytes (s.engine k).slotted ((s.fetched k fetch).rd (RE.RG_SERVED k)) (regionOf a.toNat n) a.toNat n).getD i 0
      = s.loadedByte k a n i := by
  rw [fetched_reBytes, fetched_rd s k fetch (RE.RG_SERVED k) (by simp [RE.RG_SERVED, RE.MEM_CE, fld_key])]
  rfl

/-- A clean vector load of n bytes, the lanes formed from the bytes by f. -/
theorem load_givesVector {c : Ecc → Instr} {s : State} {k : Nat} {w a : Word} {v : BitVec 5} {n align : Nat} {found : Ecc}
    {go : State → Engine → State} (f : (Nat → Byte) → Nat → Lane) (hc : CleanLoad (s.engine k) a n found) (hal : a.toNat % align = 0)
    (hx : ∀ fetch, exec (c fetch) s = .next (s.issue k w fetch go))
    (hg : ∀ t : State, go t (s.engine k).slotted = t.load k (s.engine k).slotted a n align found
      fun s e bs => s.next k (e.setVec v (ofLanes (f fun i => bs.getD i 0)))) :
    GivesVector c s k w v (f (s.loadedByte k a n)) := by
  obtain ⟨hregion, rfl, hbad⟩ := hc
  have hc' : CleanLoad (s.engine k).slotted a n .clean := ⟨hregion, rfl, hbad⟩
  refine givesVector hx fun fetch => ?_
  rw [hg, load_clean hc' hal]
  simp only [fetched_loadedBytes]

/-- A store of the n bytes bs to data memory. -/
theorem store_gives {c : Ecc → Instr} {s : State} {k : Nat} {w a : Word} {n align : Nat} {bs : List Byte} {b : Nat → Byte}
    {go : State → Engine → State} (hn : bs.length = n) (hb : ∀ i < n, bs.getD i 0 = b i) (hal : a.toNat % align = 0) (hpos : 0 < n)
    (hlo : 0x10000 ≤ a.toNat) (hhi : a.toNat + n ≤ 0x30000) (hx : ∀ fetch, exec (c fetch) s = .next (s.issue k w fetch go))
    (hg : ∀ t : State, go t (s.engine k).slotted = t.store k (s.engine k).slotted a align bs) : GivesStore c s k w a n b := by
  subst hn
  have hregion : regionOf a.toNat bs.length = .dmem := by
    have himem : ¬ a.toNat + bs.length ≤ 0x10000 := by omega
    simp [regionOf, himem, hlo, hhi]
  refine issued hx fun fetch => ?_
  rw [hg, store_dmem hal hregion]
  refine ⟨onlyEngine _ _ _, ?_⟩
  simp only [State.engine_set, fetched_engine]
  refine ⟨fun x => ?dmem, fun x => ?badWords, rfl, rfl⟩
  case dmem =>
    refine (Mem.read_write (s.engine k).dmem _ bs x).trans ?_
    split
    · exact hb _ (by omega)
    · rfl
  case badWords =>
    show x ∈ List.filter _ (s.engine k).badWords ↔ _
    simp only [List.mem_filter, Bool.not_eq_true', Bool.and_eq_false_iff, decide_eq_false_iff_not, not_and_or]

/-- Saturation to a byte's range. -/
theorem clampI_byte (x : Int) : clampI x 0 255 = max 0 (min 255 x) := by
  unfold clampI
  split
  · omega
  · split <;> omega

/-! ### VLD and VST by mode (R189, R190) -/

section
variable (re : Fin 72) (fetch found : Ecc) (v ra : BitVec 5) (off : BitVec 13) (s : State)

theorem exec_vld_halfwords : exec (.vld ⟨re, fetch⟩ v ra 0 off found) s =
    .next (s.issue re (encode (.fmtM 0x20 v ra 0 off)) fetch fun s e => s.load re e (e.reg ra + off.signExtend 32) 32 2 found
      fun s e bs => s.next re (e.setVec v (ofLanes fun i => bs.getD (2 * i + 1) 0 ++ bs.getD (2 * i) 0))) := by
  show execVld _ _ _ _ _ _ _ = _
  simp only [execVld, if_true]
  rfl

theorem exec_vld_bytesUnsigned : exec (.vld ⟨re, fetch⟩ v ra 1 off found) s =
    .next (s.issue re (encode (.fmtM 0x20 v ra 1 off)) fetch fun s e => s.load re e (e.reg ra + off.signExtend 32) 16 1 found
      fun s e bs => s.next re (e.setVec v (ofLanes fun i => (bs.getD i 0).zeroExtend 16))) := by
  show execVld _ _ _ _ _ _ _ = _
  simp only [execVld, show (1 : BitVec 3) ≠ 0 by decide, if_false, if_true]
  rfl

theorem exec_vld_bytesSigned : exec (.vld ⟨re, fetch⟩ v ra 2 off found) s =
    .next (s.issue re (encode (.fmtM 0x20 v ra 2 off)) fetch fun s e => s.load re e (e.reg ra + off.signExtend 32) 16 1 found
      fun s e bs => s.next re (e.setVec v (ofLanes fun i => (bs.getD i 0).signExtend 16))) := by
  show execVld _ _ _ _ _ _ _ = _
  simp only [execVld, show (2 : BitVec 3) ≠ 0 by decide, show (2 : BitVec 3) ≠ 1 by decide, if_false, if_true]
  rfl

theorem exec_vst_halfwords : exec (.vst ⟨re, fetch⟩ v ra 0 off) s =
    .next (s.issue re (encode (.fmtM 0x21 v ra 0 off)) fetch fun s e =>
      s.store re e (e.reg ra + off.signExtend 32) 2 (leBytes 32 (e.vec v).toNat)) := by
  show execVst _ _ _ _ _ _ = _
  simp only [execVst, if_true]
  rfl

theorem exec_vst_bytes : exec (.vst ⟨re, fetch⟩ v ra 3 off) s =
    .next (s.issue re (encode (.fmtM 0x21 v ra 3 off)) fetch fun s e => s.store re e (e.reg ra + off.signExtend 32) 1
      ((List.range 16).map fun i => BitVec.ofInt 8 (clampI (lane (e.vec v) i).toInt 0 255))) := by
  show execVst _ _ _ _ _ _ = _
  simp only [execVst, show (3 : BitVec 3) ≠ 0 by decide, if_false, if_true]
  rfl

end

section
variable {re : Fin 72} {found : Ecc} {v ra : BitVec 5} {off : BitVec 13} {s : State}

theorem vld_misaligned (h : ((s.engine re).reg ra + off.signExtend 32).toNat % 2 ≠ 0) :
    RaisesError (.vld ⟨re, ·⟩ v ra 0 off found) s re (encode (.fmtM 0x20 v ra 0 off)) 2 ((s.engine re).reg ra + off.signExtend 32) :=
  raisesError (by decide) (fun fetch => exec_vld_halfwords re fetch found v ra off s) fun _ => load_misaligned h

theorem vst_misaligned (h : ((s.engine re).reg ra + off.signExtend 32).toNat % 2 ≠ 0) :
    RaisesError (.vst ⟨re, ·⟩ v ra 0 off) s re (encode (.fmtM 0x21 v ra 0 off)) 2 ((s.engine re).reg ra + off.signExtend 32) :=
  raisesError (by decide) (fun fetch => exec_vst_halfwords re fetch v ra off s) fun _ => store_misaligned h

/-- VLD of bytes has its effect at any address: alignment 1 asks nothing. -/
theorem vld_bytesUnsigned_gives (hc : CleanLoad (s.engine re) ((s.engine re).reg ra + off.signExtend 32) 16 found) :
    GivesVector (.vld ⟨re, ·⟩ v ra 1 off found) s re (encode (.fmtM 0x20 v ra 1 off)) v
      fun i => (s.loadedByte re ((s.engine re).reg ra + off.signExtend 32) 16 i).zeroExtend 16 :=
  load_givesVector (fun byte i => (byte i).zeroExtend 16) hc (Nat.mod_one _)
    (fun fetch => exec_vld_bytesUnsigned re fetch found v ra off s) fun _ => rfl

theorem vld_bytesSigned_gives (hc : CleanLoad (s.engine re) ((s.engine re).reg ra + off.signExtend 32) 16 found) :
    GivesVector (.vld ⟨re, ·⟩ v ra 2 off found) s re (encode (.fmtM 0x20 v ra 2 off)) v
      fun i => (s.loadedByte re ((s.engine re).reg ra + off.signExtend 32) 16 i).signExtend 16 :=
  load_givesVector (fun byte i => (byte i).signExtend 16) hc (Nat.mod_one _)
    (fun fetch => exec_vld_bytesSigned re fetch found v ra off s) fun _ => rfl

/-- VST of bytes stores the saturated lanes, at any address of data memory. -/
theorem vst_bytes_gives (hlo : 0x10000 ≤ ((s.engine re).reg ra + off.signExtend 32).toNat)
    (hhi : ((s.engine re).reg ra + off.signExtend 32).toNat + 16 ≤ 0x30000) :
    GivesStore (.vst ⟨re, ·⟩ v ra 3 off) s re (encode (.fmtM 0x21 v ra 3 off)) ((s.engine re).reg ra + off.signExtend 32) 16
      fun i => BitVec.ofInt 8 (max 0 (min 255 (lane ((s.engine re).vec v) i).toInt)) := by
  have hlanes (i : Nat) (hi : i < 16) : ((List.range 16).map fun i =>
      BitVec.ofInt 8 (clampI (lane ((s.engine re).vec v) i).toInt 0 255)).getD i 0
        = BitVec.ofInt 8 (max 0 (min 255 (lane ((s.engine re).vec v) i).toInt)) := by
    rw [List.getD_eq_getElem?_getD, List.getElem?_map, List.getElem?_range hi, Option.map_some, Option.getD_some, clampI_byte]
  exact store_gives (by simp) hlanes (Nat.mod_one _) (by decide) hlo hhi (fun fetch => exec_vst_bytes re fetch v ra off s) fun _ => rfl

end

/-- Settles O12: the alignment check comes first in every load and store, and byte modes have alignment 1. -/
theorem reMisaligned : Obligations.ReMisaligned := by
  unfold Obligations.ReMisaligned
  intro re r ra imm off found s a v word
  refine ⟨?scalar, vld_misaligned, vst_misaligned,
    fun _ hc => ⟨vld_bytesUnsigned_gives hc, vld_bytesSigned_gives hc⟩, fun _ => vst_bytes_gives⟩
  simp only [List.forall_mem_cons]
  exact ⟨loadReg_misaligned fun _ => rfl, loadReg_misaligned fun _ => rfl, loadReg_misaligned fun _ => rfl,
    storeReg_misaligned fun _ => rfl, storeReg_misaligned fun _ => rfl, List.forall_mem_nil _⟩

end Sys2Proof.Machine
end

section
/-! PROOFS. The return engine's instruction words (R187): decode of encode, encode of decode, and the words that the spec writes out. -/
namespace Sys2Proof.Machine
open Sys2Proof

/-- The fields of a word of format R, as `decodeWord` takes them out. -/
theorem fields_fmtR (op : BitVec 6) (rd ra rb : BitVec 5) (func : BitVec 11) :
    (op ++ rd ++ ra ++ rb ++ func).extractLsb' 26 6 = op ∧ (op ++ rd ++ ra ++ rb ++ func).extractLsb' 21 5 = rd
      ∧ (op ++ rd ++ ra ++ rb ++ func).extractLsb' 16 5 = ra ∧ (op ++ rd ++ ra ++ rb ++ func).extractLsb' 11 5 = rb
      ∧ (op ++ rd ++ ra ++ rb ++ func).extractLsb' 0 11 = func := by
  refine ⟨?_, ?_, ?_, ?_, ?_⟩ <;> simp (disch := decide) only [BitVec.extractLsb'_append_eq_of_le,
    BitVec.extractLsb'_append_eq_of_add_le, -Nat.reduceAdd] <;> exact BitVec.extractLsb'_eq_self

theorem fields_fmtI (op : BitVec 6) (rd ra : BitVec 5) (imm : BitVec 16) :
    (op ++ rd ++ ra ++ imm).extractLsb' 26 6 = op ∧ (op ++ rd ++ ra ++ imm).extractLsb' 21 5 = rd
      ∧ (op ++ rd ++ ra ++ imm).extractLsb' 16 5 = ra ∧ (op ++ rd ++ ra ++ imm).extractLsb' 0 16 = imm := by
  refine ⟨?_, ?_, ?_, ?_⟩ <;> simp (disch := decide) only [BitVec.extractLsb'_append_eq_of_le,
    BitVec.extractLsb'_append_eq_of_add_le, -Nat.reduceAdd] <;> exact BitVec.extractLsb'_eq_self

theorem fields_fmtJ (op : BitVec 6) (off : BitVec 26) :
    (op ++ off).extractLsb' 26 6 = op ∧ (op ++ off).extractLsb' 0 26 = off := by
  refine ⟨?_, ?_⟩ <;> simp (disch := decide) only [BitVec.extractLsb'_append_eq_of_le,
    BitVec.extractLsb'_append_eq_of_add_le, -Nat.reduceAdd] <;> exact BitVec.extractLsb'_eq_self

theorem fields_fmtV (op : BitVec 6) (vd va vb : BitVec 5) (mode : BitVec 3) (func : BitVec 8) :
    (op ++ vd ++ va ++ vb ++ mode ++ func).extractLsb' 26 6 = op ∧ (op ++ vd ++ va ++ vb ++ mode ++ func).extractLsb' 21 5 = vd
      ∧ (op ++ vd ++ va ++ vb ++ mode ++ func).extractLsb' 16 5 = va ∧ (op ++ vd ++ va ++ vb ++ mode ++ func).extractLsb' 11 5 = vb
      ∧ (op ++ vd ++ va ++ vb ++ mode ++ func).extractLsb' 8 3 = mode
      ∧ (op ++ vd ++ va ++ vb ++ mode ++ func).extractLsb' 0 8 = func := by
  refine ⟨?_, ?_, ?_, ?_, ?_, ?_⟩ <;> simp (disch := decide) only [BitVec.extractLsb'_append_eq_of_le,
    BitVec.extractLsb'_append_eq_of_add_le, -Nat.reduceAdd] <;> exact BitVec.extractLsb'_eq_self

theorem fields_fmtM (op : BitVec 6) (v ra : BitVec 5) (mode : BitVec 3) (off : BitVec 13) :
    (op ++ v ++ ra ++ mode ++ off).extractLsb' 26 6 = op ∧ (op ++ v ++ ra ++ mode ++ off).extractLsb' 21 5 = v
      ∧ (op ++ v ++ ra ++ mode ++ off).extractLsb' 16 5 = ra ∧ (op ++ v ++ ra ++ mode ++ off).extractLsb' 13 3 = mode
      ∧ (op ++ v ++ ra ++ mode ++ off).extractLsb' 0 13 = off := by
  refine ⟨?_, ?_, ?_, ?_, ?_⟩ <;> simp (disch := decide) only [BitVec.extractLsb'_append_eq_of_le,
    BitVec.extractLsb'_append_eq_of_add_le, -Nat.reduceAdd] <;> exact BitVec.extractLsb'_eq_self

theorem decodeWord_encode (i : ReWord) (h : i.wf = true) : decodeWord (encode i) = some i := by
  have hf : formatOf i.opcode = some i.format := of_decide_eq_true h
  unfold decodeWord
  cases i with
  | fmtR op rd ra rb func =>
    obtain ⟨hop, hd, ha, hb, hfunc⟩ := fields_fmtR op rd ra rb func
    simp only [encode]
    erw [hop, hd, ha, hb, hfunc, hf]
    rfl
  | fmtI op rd ra imm =>
    obtain ⟨hop, hd, ha, himm⟩ := fields_fmtI op rd ra imm
    simp only [encode]
    erw [hop, hd, ha, himm, hf]; rfl
  | fmtJ op off =>
    obtain ⟨hop, hoff⟩ := fields_fmtJ op off
    simp only [encode]
    erw [hop, hoff, hf]; rfl
  | fmtV op vd va vb mode func =>
    obtain ⟨hop, hd, ha, hb, hm, hfunc⟩ := fields_fmtV op vd va vb mode func
    simp only [encode]
    erw [hop, hd, ha, hb, hm, hfunc, hf]; rfl
  | fmtM op v ra mode off =>
    obtain ⟨hop, hv, ha, hm, hoff⟩ := fields_fmtM op v ra mode off
    simp only [encode]
    erw [hop, hv, ha, hm, hoff, hf]; rfl

/-- Adjacent fields of a word, put together again, are the whole word. -/
theorem encode_decodeWord {w : Word} {i : ReWord} (h : decodeWord w = some i) : i.wf = true ∧ encode i = w := by
  have hall : w.extractLsb' 0 32 = w := BitVec.extractLsb'_eq_self
  unfold decodeWord at h
  simp only [] at h
  split at h <;> rename_i hf <;> cases h <;> refine ⟨decide_eq_true hf, ?_⟩ <;>
    simp (disch := rfl) only [encode, BitVec.extractLsb'_append_extractLsb'_eq_extractLsb'] <;> exact hall

/-- Settles O14: the fields of a format are adjacent and fill the word, and the opcode alone names the format. -/
theorem reEncodingRoundTrip : Obligations.ReEncodingRoundTrip :=
  ⟨decodeWord_encode, fun _ _ => encode_decodeWord⟩

theorem decodeWord_undefined {op : BitVec 6} (h : formatOf op = none) (rest : BitVec 26) : decodeWord (op ++ rest) = none := by
  obtain ⟨hop, -⟩ := fields_fmtJ op rest
  unfold decodeWord
  erw [hop]
  simp only [h]

/-- Settles O15: the fields of each literal, and that the map defines none of the five opcodes. -/
theorem reWordsOfTheSpec : Obligations.ReWordsOfTheSpec := by
  unfold Obligations.ReWordsOfTheSpec
  refine ⟨by decide, by decide, by decide, by decide, by decide, by decide, by decide, by decide, ?_⟩
  simp only [List.forall_mem_cons]
  exact ⟨decodeWord_undefined rfl, decodeWord_undefined rfl, decodeWord_undefined rfl, decodeWord_undefined rfl,
    decodeWord_undefined rfl, List.forall_mem_nil _⟩
end Sys2Proof.Machine
end

section
/-! PROOFS. Loads, stores, branches and loops of the return engines (R187, R189 to R191). -/
namespace Sys2Proof.Machine
open Sys2Proof

/-! ### Bytes of a word -/

theorem toNat_append_eq_add {m n : Nat} (x : BitVec m) (y : BitVec n) : (x ++ y).toNat = x.toNat * 2 ^ n + y.toNat := by
  rw [BitVec.toNat_append, ← Nat.shiftLeft_add_eq_or_of_lt y.isLt, Nat.shiftLeft_eq]

/-- Four bytes as the word that they spell. -/
theorem ofLeBytes_word (b0 b1 b2 b3 : Byte) : BitVec.ofNat 32 (ofLeBytes [b0, b1, b2, b3]) = b3 ++ b2 ++ b1 ++ b0 := by
  have h0 := b0.isLt
  have h1 := b1.isLt
  have h2 := b2.isLt
  have h3 := b3.isLt
  apply BitVec.eq_of_toNat_eq
  erw [toNat_append_eq_add, toNat_append_eq_add, toNat_append_eq_add]
  simp only [BitVec.toNat_ofNat, ofLeBytes]
  omega

theorem ofLeBytes_half (b0 b1 : Byte) : BitVec.ofNat 16 (ofLeBytes [b0, b1]) = b1 ++ b0 := by
  have h0 := b0.isLt
  have h1 := b1.isLt
  apply BitVec.eq_of_toNat_eq
  erw [toNat_append_eq_add]
  simp only [BitVec.toNat_ofNat, ofLeBytes]
  omega

theorem ofLeBytes_byte (b : Byte) : BitVec.ofNat 8 (ofLeBytes [b]) = b := by
  apply BitVec.eq_of_toNat_eq
  have h := b.isLt
  simp only [BitVec.toNat_ofNat, ofLeBytes]
  omega

theorem getD_leBytes {n i : Nat} (v : Nat) (hi : i < n) : (leBytes n v).getD i 0 = BitVec.ofNat 8 (v / 256 ^ i) := by
  induction n generalizing v i with
  | zero => omega
  | succ n ih =>
    cases i with
    | zero => simp [leBytes]
    | succ i =>
      have := ih (v / 256) (i := i) (by omega)
      rw [Nat.div_div_eq_div_mul, ← Nat.pow_succ'] at this
      simpa [leBytes] using this

/-- Byte i of a bit vector, least significant first. -/
theorem ofNat_div_eq_extract {w : Nat} (x : BitVec w) (i : Nat) : BitVec.ofNat 8 (x.toNat / 256 ^ i) = x.extractLsb' (8 * i) 8 := by
  apply BitVec.eq_of_toNat_eq
  rw [BitVec.extractLsb'_toNat, BitVec.toNat_ofNat, Nat.shiftRight_eq_div_pow, Nat.pow_mul]

theorem getD_leBytes_toNat {w n i : Nat} (x : BitVec w) (hi : i < n) : (leBytes n x.toNat).getD i 0 = x.extractLsb' (8 * i) 8 :=
  (getD_leBytes _ hi).trans (ofNat_div_eq_extract x i)

/-- Byte i of a vector register is byte i % 2 of lane i / 2. -/
theorem extract_vector_eq_lane (v : BitVec 256) (i : Nat) : v.extractLsb' (8 * i) 8 = (lane v (i / 2)).extractLsb' (8 * (i % 2)) 8 := by
  have hstart : 8 * i = 16 * (i / 2) + 8 * (i % 2) := by omega
  have hlen : 8 * (i % 2) + 8 ≤ 16 := by omega
  apply BitVec.eq_of_getLsbD_eq
  intro j hj
  have hin : 8 * (i % 2) + j < 16 := by omega
  simp only [lane, BitVec.getLsbD_extractLsb', hj, hin, decide_true, Bool.true_and]
  congr 1
  omega

/-! ### Loads and stores -/

/-- The bytes of a clean load, one by one. -/
theorem fetched_loadedList {s : State} {k : Nat} (fetch : Ecc) {a : Word} {n : Nat} (h : regionOf a.toNat n ≠ .none_) :
    (s.fetched k fetch).reBytes (s.engine k).slotted ((s.fetched k fetch).rd (RE.RG_SERVED k)) (regionOf a.toNat n) a.toNat n
      = (List.range n).map (s.loadedByte k a n) := by
  have hlen := bytes_len (s.fetched k fetch) (s.engine k).slotted ((s.fetched k fetch).rd (RE.RG_SERVED k)) (regionOf a.toNat n) a.toNat n h
  refine List.ext_getElem (by simp [hlen]) fun i h1 h2 => ?_
  have hbyte := fetched_loadedBytes s k fetch a n i
  rw [List.getD_eq_getElem?_getD, List.getElem?_eq_getElem h1] at hbyte
  simpa using hbyte

/-- A clean, aligned scalar load of n bytes, its value formed by f. -/
theorem loadReg_gives {c : Ecc → Instr} {s : State} {re : Fin 72} {op : BitVec 6} {rd ra : BitVec 5} {imm : BitVec 16} {n : Nat}
    {found : Ecc} {f : Nat → Word} {v : Word} (hx : ∀ fetch, exec (c fetch) s = .next (s.loadReg re fetch op rd ra imm n found f))
    (hc : CleanLoad (s.engine re) ((s.engine re).reg ra + imm.signExtend 32) n found)
    (hal : ((s.engine re).reg ra + imm.signExtend 32).toNat % n = 0)
    (hv : f (ofLeBytes ((List.range n).map (s.loadedByte re ((s.engine re).reg ra + imm.signExtend 32) n))) = v) :
    GivesScalar c s re (encode (.fmtI op rd ra imm)) rd v := by
  obtain ⟨hregion, rfl, hbad⟩ := hc
  have hc' : CleanLoad (s.engine re).slotted ((s.engine re).reg ra + imm.signExtend 32) n .clean := ⟨hregion, rfl, hbad⟩
  refine givesScalar (go := fun s e => s.load re e (e.reg ra + imm.signExtend 32) n n .clean
    fun s e bs => s.next re (e.setReg rd (f (ofLeBytes bs)))) hx fun fetch => ?_
  simp only [reg_slotted]
  rw [load_clean hc' hal, fetched_loadedList fetch hregion, hv]

/-- Settles O2: a scalar load by the number that its bytes spell, VLD by its bytes. -/
theorem reLoadResults : Obligations.ReLoadResults := by
  unfold Obligations.ReLoadResults
  intro re rd ra v imm off found s e a va b vb
  refine ⟨fun h hal => ?lw, fun h hal => ?lh, fun h hal => ?lhu, fun h => ?lb, fun h => ?lbu, fun h hal => ?halfwords,
    vld_bytesUnsigned_gives, vld_bytesSigned_gives⟩
  case lw => exact loadReg_gives (fun _ => rfl) h hal (ofLeBytes_word _ _ _ _)
  case lh => exact loadReg_gives (fun _ => rfl) h hal (congrArg _ (ofLeBytes_half _ _))
  case lhu => exact loadReg_gives (fun _ => rfl) h hal (congrArg _ (ofLeBytes_half _ _))
  case lb => exact loadReg_gives (fun _ => rfl) h (Nat.mod_one _) (congrArg _ (ofLeBytes_byte _))
  case lbu => exact loadReg_gives (fun _ => rfl) h (Nat.mod_one _) (congrArg _ (ofLeBytes_byte _))
  case halfwords =>
    exact load_givesVector (fun byte i => byte (2 * i + 1) ++ byte (2 * i)) h hal
      (fun fetch => exec_vld_halfwords re fetch found v ra off s) fun _ => rfl

/-- An aligned scalar store to data memory of the low n bytes of rs. -/
theorem storeReg_gives {c : Ecc → Instr} {s : State} {re : Fin 72} {op : BitVec 6} {rs ra : BitVec 5} {imm : BitVec 16} {n : Nat}
    {a : Word} (hx : ∀ fetch, exec (c fetch) s = .next (s.storeReg re fetch op rs ra imm n))
    (ha : (s.engine re).reg ra + imm.signExtend 32 = a) (hpos : 0 < n) (h : 0x10000 ≤ a.toNat ∧ a.toNat + n ≤ 0x30000)
    (hal : a.toNat % n = 0) :
    GivesStore c s re (encode (.fmtI op rs ra imm)) a n fun i => ((s.engine re).reg rs).extractLsb' (8 * i) 8 := by
  subst ha
  exact store_gives (go := fun s e => s.store re e (e.reg ra + imm.signExtend 32) n (leBytes n (e.reg rs).toNat)) (leBytes_length n _)
    (fun _ hi => getD_leBytes_toNat _ hi) hal hpos h.1 h.2 hx fun _ => rfl

/-- Settles O3: the bytes of `leBytes`, and VST's saturated lanes. -/
theorem reStoreResults : Obligations.ReStoreResults := by
  unfold Obligations.ReStoreResults
  intro re rs ra v imm off s e a va inside x l
  refine ⟨fun h hal => storeReg_gives (fun _ => rfl) rfl (by decide) h hal, fun h hal => storeReg_gives (fun _ => rfl) rfl (by decide) h hal,
    fun h => ?sb, fun h hal => ?halfwords, fun h => vst_bytes_gives h.1 h.2⟩
  case sb =>
    refine store_gives (go := fun s e => s.store re e (e.reg ra + imm.signExtend 32) 1 (leBytes 1 (e.reg rs).toNat)) (leBytes_length 1 _)
      (fun i hi => ?_) (Nat.mod_one _) (by decide) h.1 h.2 (fun _ => rfl) fun _ => rfl
    obtain rfl : i = 0 := by omega
    exact getD_leBytes_toNat x hi
  case halfwords =>
    exact store_gives (leBytes_length 32 _) (fun i hi => (getD_leBytes_toNat _ hi).trans (extract_vector_eq_lane _ i)) hal (by decide) h.1 h.2
      (fun fetch => exec_vst_halfwords re fetch v ra off s) fun _ => rfl

/-! ### Branches and jumps (R187, R191) -/

theorem target_eq {w : Nat} (e : Engine) (off : BitVec w) : e.target off.toInt = e.pc + 4 + 4 * off.signExtend 32 := by
  unfold Engine.target
  rw [BitVec.ofInt_mul]
  rfl

/-- An engine that has linked and jumped. -/
theorem jump_link (e : Engine) (link : BitVec 5) (v target : Word) :
    let e' := (e.slotted.setReg link v).jump target
    (link ≠ 0 → e'.reg link = v) ∧ (∀ r : BitVec 5, r ≠ link ∨ r = 0 → e'.reg r = e.reg r) ∧ e'.pc = target
      ∧ e'.loops = e.loops.dropWhile (fun l => target < l.start || l.last < target)
      ∧ e' = { e with s := e'.s, pc := e'.pc, loops := e'.loops, slots := e.slots + 1 } := by
  have hreg (r : BitVec 5) : ((e.slotted.setReg link v).jump target).reg r = if link ≠ 0 ∧ r = link then v else e.reg r :=
    reg_setReg e.slotted link r v
  refine ⟨fun h => ?_, fun r h => ?_, rfl, ?_, ?_⟩
  · rw [hreg, if_pos ⟨h, rfl⟩]
  · rw [hreg, if_neg]
    rintro ⟨hl, rfl⟩
    exact h.elim (· rfl) hl
  · unfold Engine.setReg; split <;> rfl
  · unfold Engine.setReg; split <;> rfl

/-- An instruction whose meaning links and jumps. -/
theorem givesJump {c : Ecc → Instr} {s : State} {k : Nat} {w : Word} {link : BitVec 5} {target : Word} {go : State → Engine → State}
    (hx : ∀ fetch, exec (c fetch) s = .next (s.issue k w fetch go))
    (hg : ∀ t : State, go t (s.engine k).slotted = t.setEngine k (((s.engine k).slotted.setReg link ((s.engine k).pc + 4)).jump target)) :
    GivesJump c s k w link target := by
  refine issued hx fun fetch => ?_
  rw [hg]
  refine ⟨onlyEngine _ _ _, ?_⟩
  simp only [State.engine_set, fetched_engine]
  exact jump_link _ _ _ _

/-- An instruction whose meaning goes on. -/
theorem givesNothing {c : Ecc → Instr} {s : State} {k : Nat} {w : Word} {go : State → Engine → State}
    (hx : ∀ fetch, exec (c fetch) s = .next (s.issue k w fetch go))
    (hg : ∀ fetch, go (s.fetched k fetch) (s.engine k).slotted = (s.fetched k fetch).next k (s.engine k).slotted) :
    GivesNothing c s k w := by
  refine issued hx fun fetch => ?_
  rw [hg, State.next]
  refine ⟨onlyEngine _ _ _, ?_⟩
  simp only [State.engine_set, fetched_engine]
  rfl

/-- A branch by the condition that it decides. -/
theorem branch_gives {c : Ecc → Instr} {re : Fin 72} {op : BitVec 6} {ra rb : BitVec 5} {off : BitVec 16} {s : State}
    {cond : Word → Word → Bool} {p : Prop} (hx : ∀ fetch, exec (c fetch) s = .next (s.branch re fetch op ra rb off cond))
    (hc : cond ((s.engine re).reg ra) ((s.engine re).reg rb) = true ↔ p) :
    (p → GivesJump c s re (encode (.fmtI op ra rb off)) 0 ((s.engine re).pc + 4 + 4 * off.signExtend 32))
      ∧ (¬p → GivesNothing c s re (encode (.fmtI op ra rb off))) := by
  let go := fun (s : State) (e : Engine) =>
    if cond (e.reg ra) (e.reg rb) then s.setEngine re (e.jump (e.target off.toInt)) else s.next re e
  refine ⟨fun h => givesJump (go := go) hx fun t => ?taken, fun h => givesNothing (go := go) hx fun t => ?fallsThrough⟩
  case taken =>
    refine (if_pos (hc.mpr h)).trans ?_
    rw [target_eq]
    rfl
  case fallsThrough => exact if_neg (fun x => h (hc.mp x))

theorem execJal_gives (re : Fin 72) (joff : BitVec 26) (s : State) : GivesJump (.jal ⟨re, ·⟩ joff) s re (encode (.fmtJ 0x16 joff)) 31
    ((s.engine re).pc + 4 + 4 * joff.signExtend 32) :=
  givesJump (go := fun s e => s.setEngine re ((e.setReg 31 (e.pc + 4)).jump (e.target joff.toInt))) (fun _ => rfl) fun t => by
    rw [target_eq]; rfl

theorem execJalr_gives (re : Fin 72) (rd ra : BitVec 5) (imm : BitVec 16) (s : State) :
    GivesJump (.jalr ⟨re, ·⟩ rd ra imm) s re (encode (.fmtI 0x17 rd ra imm)) rd (((s.engine re).reg ra + imm.signExtend 32) &&& ~~~3) := by
  have hmask : (~~~3 : Word) = 0xFFFFFFFC := by decide
  rw [hmask]
  exact givesJump (go := fun s e => s.setEngine re ((e.setReg rd (e.pc + 4)).jump ((e.reg ra + imm.signExtend 32) &&& 0xFFFFFFFC)))
    (fun _ => rfl) fun _ => rfl

/-- Settles O4: each branch by its condition; the levels that end are those that `Engine.jump` drops. -/
theorem reBranchResults : Obligations.ReBranchResults := by
  unfold Obligations.ReBranchResults
  intro re rd ra rb off imm joff s e a b target
  refine ⟨?branches, execJal_gives re joff s, execJalr_gives re rd ra imm s⟩
  simp only [List.forall_mem_cons]
  exact ⟨branch_gives (fun _ => rfl) beq_iff_eq, branch_gives (fun _ => rfl) bne_iff_ne,
    branch_gives (fun _ => rfl) BitVec.slt_iff_toInt_lt,
    branch_gives (cond := fun a b => !a.slt b) (fun _ => rfl) (by rw [Bool.not_eq_true', ← Bool.not_eq_true, BitVec.slt_iff_toInt_lt, Int.not_lt]),
    branch_gives (fun _ => rfl) BitVec.ult_iff_lt,
    branch_gives (cond := fun a b => !a.ult b) (fun _ => rfl) (by rw [Bool.not_eq_true', ← Bool.not_eq_true, BitVec.ult_iff_lt, BitVec.not_lt]; rfl),
    List.forall_mem_nil _⟩

/-! ### LOOP (R191) -/

/-- The meaning of a LOOP whose zero field is 0. -/
def loopGo (re : Fin 72) (ra : BitVec 5) (endWord : BitVec 16) (s : State) (e : Engine) : State :=
  if endWord = 0 then s.illegal re e
  else if 2 ≤ e.loops.length then s.reError re e ceLoop 0
  else if e.reg ra = 0 then s.setEngine re { e with pc := e.pc + 4 * endWord.zeroExtend 32 + 4 }
  else s.setEngine re
    { e with pc := e.pc + 4, loops := { start := e.pc + 4, last := e.pc + 4 * endWord.zeroExtend 32, left := e.reg ra } :: e.loops }

theorem execLoop_eq (re : Fin 72) (fetch : Ecc) (ra : BitVec 5) (endWord : BitVec 16) (s : State) : exec (.loop ⟨re, fetch⟩ 0 ra endWord) s =
    .next (s.issue re (encode (.fmtI 0x18 0 ra endWord)) fetch (loopGo re ra endWord)) := by
  have hoff : BitVec.ofNat 32 (4 * endWord.toNat) = 4 * endWord.zeroExtend 32 := by
    rw [BitVec.ofNat_mul, BitVec.ofNat_toNat]; rfl
  show done _ = Host.Outcome.next _
  unfold done loopGo
  congr 2
  funext t e
  simp [hoff]

/-- The end of the innermost body (R191). -/
theorem afterPc_last {pc : Word} {l : LoopLevel} {r : List LoopLevel} (h : pc = l.last) :
    (1 < l.left.toNat → afterPc pc (l :: r) = (l.start, { l with left := l.left - 1 } :: r))
      ∧ (l.left.toNat ≤ 1 → afterPc pc (l :: r) = afterPc pc r) := by
  refine ⟨fun hl => ?_, fun hl => ?_⟩
  · rw [afterPc, if_pos h, if_pos hl]
  · rw [afterPc, if_pos h, if_neg (by omega)]

theorem execSysNop_gives (re : Fin 72) (rd ra rb : BitVec 5) (s : State) :
    GivesNothing (.sysNop ⟨re, ·⟩ rd ra rb) s re (encode (.fmtR 0x3F rd ra rb 0)) :=
  givesNothing (go := fun s e => if true then s.next re e else s.illegal re e) (fun _ => rfl) fun _ => rfl

/-- Settles O5: LOOP by `loopGo`, the end of a body by `afterPc`. -/
theorem reLoopRule : Obligations.ReLoopRule := by
  unfold Obligations.ReLoopRule
  intro re ra endWord s e w last
  refine ⟨fun hne hlen => ?opens, fun hne hlen => ?nests, fun l r hl hpc => ?ends⟩
  case opens =>
    refine issued (execLoop_eq re · ra endWord s) fun fetch => ?_
    have hlen' : ¬ 2 ≤ (s.engine re).slotted.loops.length := Nat.not_le.mpr hlen
    unfold loopGo
    rw [if_neg hne, if_neg hlen', ← apply_ite]
    rfl
  case nests =>
    refine raisesError (by decide) (execLoop_eq re · ra endWord s) fun t => ?_
    have hlen' : 2 ≤ (s.engine re).slotted.loops.length := hlen
    unfold loopGo
    rw [if_neg hne, if_pos hlen']
    rfl
  case ends =>
    intro hi fetch hf
    obtain ⟨t, ht, honly, hengine⟩ := execSysNop_gives re 0 0 0 s hi fetch hf
    refine ⟨t, ht, honly, ?_⟩
    rw [fetched_eq, fetched_engine] at hengine
    have hloops : (s.engine re).loops = l :: r := hl
    obtain ⟨hagain, hleave⟩ := afterPc_last (r := r) hpc
    rw [hengine, hloops]
    refine ⟨fun h => ?_, fun h hr => ?_⟩
    · rw [hagain h]; exact ⟨rfl, rfl⟩
    · rw [hleave h, hr]; exact ⟨rfl, rfl⟩

end Sys2Proof.Machine
end

section
/-! PROOFS. The vector instructions of the return engines (R189): VALU, VMAC, VPERM and VRED. -/
namespace Sys2Proof.Machine
open Sys2Proof

theorem clampI_eq_max_min {lo hi : Int} (h : lo ≤ hi) (x : Int) : clampI x lo hi = max lo (min hi x) := by
  unfold clampI
  split
  · omega
  · split <;> omega

theorem satLane_eq (x : Int) : satLane x = BitVec.ofInt 16 (max (-32768) (min 32767 x)) :=
  congrArg _ (clampI_eq_max_min (by decide) x)

theorem mode_le_one {mode : BitVec 3} (h : mode = 0 ∨ mode = 1) : ¬ 1 < mode.toNat := by
  rcases h with rfl | rfl <;> decide

/-! ### VALU -/

/-- VALU of a defined FUNC gives what `valuLane` computes in each lane. -/
theorem execValu_of {re : Fin 72} {vd va vb : BitVec 5} {mode : BitVec 3} {func : BitVec 8} {s : State} {f : Nat → Lane}
    (hm : mode = 0 ∨ mode = 1) (hn : func.toNat ≤ 0x12) (hvb : func.toNat = 0x0F → vb = 0)
    (hf : ∀ i, valuLane func.toNat (lane ((s.engine re).vec vd) i) (lane ((s.engine re).vec va) i) ((s.engine re).operand mode vb i) = some (f i)) :
    GivesVector (.valu ⟨re, ·⟩ vd va vb mode func) s re (encode (.fmtV 0x22 vd va vb mode func)) vd f := by
  refine givesVector (go := fun s e =>
    if 1 < mode.toNat || 0x12 < func.toNat || (func.toNat = 0x0F && vb != 0) then s.illegal re e
    else s.next re (e.setVec vd (ofLanes fun i =>
      (valuLane func.toNat (lane (e.vec vd) i) (lane (e.vec va) i) (e.operand mode vb i)).getD 0))) (fun _ => rfl) fun fetch => ?_
  have hreserved : (1 < mode.toNat || 0x12 < func.toNat || (func.toNat = 0x0F && vb != 0)) = false := by
    have := mode_le_one hm
    have : ¬ 0x12 < func.toNat := by omega
    simp_all
  have hlanes : (fun i => (valuLane func.toNat (lane ((s.engine re).slotted.vec vd) i) (lane ((s.engine re).slotted.vec va) i)
      ((s.engine re).slotted.operand mode vb i)).getD 0) = f := funext fun i => congrArg (Option.getD · 0) (hf i)
  simp only [hreserved, hlanes, Bool.false_eq_true, if_false]

/-- Settles O6: each FUNC by `valuLane`. -/
theorem reVectorAluResults : Obligations.ReVectorAluResults := by
  unfold Obligations.ReVectorAluResults
  intro re vd va vb mode s e x y sat mask hm
  refine ⟨?funcs, execValu_of hm (by decide) (fun _ => rfl) fun i => ?abs⟩
  case abs =>
    show some (satLane ((x i).toInt.natAbs : Int)) = _
    rw [satLane_eq, ← Int.abs_eq_natAbs]
  case funcs =>
    simp only [List.forall_mem_cons]
    refine ⟨?_, ?_, ?_, ?_, ?_, ?_, ?_, ?_, ?_, ?_, ?_, ?_, ?_, ?_, ?_, ?_, ?_, ?_, List.forall_mem_nil _⟩ <;>
      refine execValu_of hm (by decide) (fun h => absurd h (by decide)) fun i => ?_
    case refine_3 => exact congrArg some (satLane_eq _)
    case refine_4 => exact congrArg some (satLane_eq _)
    case refine_17 => exact congrArg (fun c => some (maskLane c)) (beq_eq_decide _ _)
    case refine_18 => exact congrArg some (ite_not _ _ _).symm
    all_goals rfl

/-! ### VMAC -/

@[simp] theorem acc_setAcc_self (e : Engine) (one : Bool) (a : BitVec 640) : (e.setAcc one a).acc one = a := by
  cases one <;> rfl

@[simp] theorem acc_setAcc_not (e : Engine) (one : Bool) (a : BitVec 640) : (e.setAcc one a).acc (!one) = e.acc (!one) := by
  cases one <;> rfl

theorem acc_advance (e : Engine) (one : Bool) : e.advance.acc one = e.acc one := by cases one <;> rfl

/-- What a write of an accumulator leaves as it was. -/
theorem advance_setAcc (e : Engine) (one : Bool) (a : BitVec 640) :
    let e' := (e.slotted.setAcc one a).advance
    e'.acc one = a ∧ e'.acc (!one) = e.acc (!one) ∧ (e'.pc, e'.loops) = afterPc e.pc e.loops
      ∧ e' = { e with acc0 := e'.acc0, acc1 := e'.acc1, pc := e'.pc, loops := e'.loops, slots := e.slots + 1 } := by
  cases one <;> exact ⟨rfl, rfl, rfl, rfl⟩

/-- The meaning of a VMAC that is not reserved. -/
def vmacGo (re : Fin 72) (vd va vb : BitVec 5) (mode : BitVec 3) (n : Nat) (s : State) (e : Engine) : State :=
  let a := fun i => lane (e.vec va) i
  let b := fun i => e.operand mode vb i
  if n = 0 then s.next re (e.setVec vd (ofLanes fun i => a i * b i))
  else if n = 1 then s.next re (e.setVec vd (ofLanes fun i => mulQ (a i) (b i)))
  else if n = 2 || n = 3 then s.accumulate re e (vd.getLsbD 0) (n = 2) a b
  else if n = 4 then s.next re (e.setVec vd (ofLanes fun i => accRead (accLane (e.acc (va.getLsbD 0)) i) vb.toNat))
  else s.next re (e.setAcc (vd.getLsbD 0) 0)

theorem execVmac_eq {re : Fin 72} {vd va vb : BitVec 5} {mode : BitVec 3} {func : BitVec 8} (h : vmacReserved vd mode func.toNat = false)
    (fetch : Ecc) (s : State) : exec (.vmac ⟨re, fetch⟩ vd va vb mode func) s =
      .next (s.issue re (encode (.fmtV 0x23 vd va vb mode func)) fetch (vmacGo re vd va vb mode func.toNat)) := by
  show done _ = Host.Outcome.next _
  unfold done vmacGo
  simp only [h, Bool.false_eq_true, if_false]

/-- The lane of an accumulator whose exact sum fits. -/
theorem accumulate_lane {s : State} {re : Fin 72} {e : Engine} {one signed : Bool} {a b : Nat → Lane} {i : Nat} (hi : i < 16)
    (h : accFits signed (accSum signed (accLane (e.acc one) i) (a i) (b i)) = true) :
    accLane (((s.accumulate re e one signed a b).engine re).acc one) i
      = BitVec.ofInt 40 (accSum signed (accLane (e.acc one) i) (a i) (b i)) := by
  unfold State.accumulate State.next
  rw [State.engine_set, acc_advance, acc_setAcc_self, accLane_ofAccLanes _ _ hi, if_pos h]

theorem accumulate_eq (s : State) (re : Fin 72) (e : Engine) (one signed : Bool) (a b : Nat → Lane) :
    ∃ v n, s.accumulate re e one signed a b = (s.drew n).setEngine re (e.setAcc one v).advance := ⟨_, _, rfl⟩

theorem accFits_signed {x : Int} (h : -2 ^ 39 ≤ x ∧ x < 2 ^ 39) : accFits true x = true := by
  simp only [accFits, if_true, Bool.and_eq_true, decide_eq_true_eq]
  omega

theorem accFits_unsigned {x : Int} (h : x < 2 ^ 40) : accFits false x = true := by
  simp only [accFits, Bool.false_eq_true, if_false, decide_eq_true_eq]
  omega

/-- What accumulation leaves as it was (R189). -/
theorem accumulate_frame (s : State) (re : Fin 72) (e : Engine) (one signed : Bool) (a b : Nat → Lane) :
    let t := s.accumulate re e.slotted one signed a b
    let e' := t.engine re
    e'.acc (!one) = e.acc (!one) ∧ (e'.pc, e'.loops) = afterPc e.pc e.loops
      ∧ e' = { e with acc0 := e'.acc0, acc1 := e'.acc1, pc := e'.pc, loops := e'.loops, slots := e.slots + 1 }
      ∧ t = { s.setEngine re e' with free := t.free } := by
  obtain ⟨v, n, h⟩ := accumulate_eq s re e.slotted one signed a b
  obtain ⟨-, hother, hpc, hrest⟩ := advance_setAcc e one v
  simp only [h, State.engine_set]
  exact ⟨hother, hpc, hrest, rfl⟩

theorem vmac_not_reserved {vd : BitVec 5} {mode : BitVec 3} {n : Nat} (hm : mode = 0 ∨ mode = 1) (hn : n ≤ 3) (hvd : n < 2 ∨ vd.toNat ≤ 1) :
    vmacReserved vd mode n = false := by
  have := mode_le_one hm
  have h5 : ¬ 5 < n := by omega
  have h3 : ¬ 3 < n := by omega
  unfold vmacReserved
  simp only [h5, h3, this, decide_false, Bool.false_and, Bool.and_false, Bool.or_self, Bool.false_or]
  rcases hvd with h | h
  · have h2 : n ≠ 2 := by omega
    have h3' : n ≠ 3 := by omega
    simp [h2, h3']
  · simp [Nat.not_lt.mpr h]

/-- Settles O7: the accumulator's lanes by `accumulate_lane`, the rest by `vmacGo`. -/
theorem reVectorMacResults : Obligations.ReVectorMacResults := by
  unfold Obligations.ReVectorMacResults
  intro re vd va vb mode s e x y sat accOf word
  have hread (a : BitVec 40) (n : Nat) : accRead a n = sat (a.toInt / 2 ^ n) := by
    unfold accRead
    rw [satLane_eq]
    push_cast
    rfl
  refine ⟨fun hm => ⟨?mul, ?mulq, fun hvd => ?acc⟩, fun hm => ⟨?read, ?clear⟩⟩
  case mul => exact givesVector (execVmac_eq (vmac_not_reserved hm (by decide) (.inl (by decide))) · s) fun _ => rfl
  case mulq =>
    refine givesVector (execVmac_eq (vmac_not_reserved hm (by decide) (.inl (by decide))) · s) fun fetch => ?_
    have hq : (fun i => mulQ (x i) (y i)) = fun i => sat (((x i).toInt * (y i).toInt + 2 ^ 14) / 2 ^ 15) :=
      funext fun i => satLane_eq _
    exact congrArg (fun f => (s.fetched re fetch).next re ((s.engine re).slotted.setVec vd (ofLanes f))) hq
  case acc =>
    simp only [List.forall_mem_cons]
    refine ⟨?signed, ?unsigned, List.forall_mem_nil _⟩
    case signed =>
      refine issued (execVmac_eq (vmac_not_reserved hm (by decide) (.inr hvd)) · s) fun fetch => ?_
      have hframe := accumulate_frame (s.fetched re fetch) re (s.engine re) (vd.getLsbD 0) true x y
      exact ⟨fun i hi h => accumulate_lane hi (accFits_signed h), hframe⟩
    case unsigned =>
      refine issued (execVmac_eq (vmac_not_reserved hm (by decide) (.inr hvd)) · s) fun fetch => ?_
      have hframe := accumulate_frame (s.fetched re fetch) re (s.engine re) (vd.getLsbD 0) false x y
      exact ⟨fun i hi h => accumulate_lane hi (accFits_unsigned h), hframe⟩
  case read =>
    subst hm
    refine givesVector (execVmac_eq rfl · s) fun fetch => ?_
    exact congrArg (fun f => (s.fetched re fetch).next re ((s.engine re).slotted.setVec vd (ofLanes f))) (funext fun i => hread _ _)
  case clear =>
    subst hm
    refine issued (execVmac_eq rfl · s) fun fetch => ?_
    have h := advance_setAcc (s.engine re) (vd.getLsbD 0) 0
    refine ⟨onlyEngine _ _ _, ?_⟩
    rw [← State.engine_set (s.fetched re fetch) re ((s.engine re).slotted.setAcc (vd.getLsbD 0) 0).advance] at h
    exact h
/-! ### VPERM and VRED -/

/-- The meaning of a VPERM of MODE 0. -/
def vpermGo (re : Fin 72) (vd va vb : BitVec 5) (n : Nat) (s : State) (e : Engine) : State :=
  let k := vb.toNat % 16
  let low := (e.reg va).extractLsb' 0 16
  if n = 0 then s.next re (e.setVec vd (ofLanes fun _ => low))
  else if n = 1 then s.next re (e.setReg vd ((lane (e.vec va) k).signExtend 32))
  else if n = 2 then s.next re (e.setVec vd (ofLanes fun i => if i = k then low else lane (e.vec vd) i))
  else if n = 3 then s.next re (e.setVec vd (ofLanes fun i => BitVec.ofNat 16 i))
  else if 0x10 ≤ n && n ≤ 0x1F then
    s.next re (e.setVec vd (ofLanes fun i =>
      if i + n % 16 < 16 then lane (e.vec va) (i + n % 16) else lane (e.vec vb) (i + n % 16 - 16)))
  else s.illegal re e

theorem execVperm_eq (re : Fin 72) (fetch : Ecc) (vd va vb : BitVec 5) (func : BitVec 8) (s : State) :
    exec (.vperm ⟨re, fetch⟩ vd va vb 0 func) s =
      .next (s.issue re (encode (.fmtV 0x24 vd va vb 0 func)) fetch (vpermGo re vd va vb func.toNat)) := rfl

/-- VSLIDE by n lanes. -/
theorem execVslide_gives (re : Fin 72) (vd va vb : BitVec 5) (s : State) {n : Nat} (hn : n < 16) :
    GivesVector (.vperm ⟨re, ·⟩ vd va vb 0 (BitVec.ofNat 8 (16 + n))) s re (encode (.fmtV 0x24 vd va vb 0 (BitVec.ofNat 8 (16 + n)))) vd
      fun i => if i + n < 16 then lane ((s.engine re).vec va) (i + n) else lane ((s.engine re).vec vb) (i + n - 16) := by
  have hfunc : (BitVec.ofNat 8 (16 + n)).toNat = 16 + n := by
    rw [BitVec.toNat_ofNat]; omega
  refine givesVector (execVperm_eq re · vd va vb _ s) fun fetch => ?_
  have h0 : ¬ 16 + n = 0 := by omega
  have h1 : ¬ 16 + n = 1 := by omega
  have h2 : ¬ 16 + n = 2 := by omega
  have h3 : ¬ 16 + n = 3 := by omega
  have hle : 16 + n ≤ 31 := by omega
  have hmod : (16 + n) % 16 = n := by omega
  rw [hfunc]
  unfold vpermGo
  simp only [h0, h1, h2, h3, hle, hmod, Nat.le_add_right, if_false, decide_true, Bool.and_self, if_true]
  rfl

/-- The best element of a list by a key, found by replacing the best so far with a better one. -/
theorem foldl_best {α : Type} (key : α → Int) (better : α → α → Bool) (hb : ∀ x m, better x m = true ↔ key m < key x) (l : List α) (a : α) :
    let best := l.foldl (fun m x => if better x m then x else m) a
    (best = a ∨ best ∈ l) ∧ key a ≤ key best ∧ ∀ x ∈ l, key x ≤ key best := by
  induction l generalizing a with
  | nil => exact ⟨.inl rfl, le_refl _, fun x hx => absurd hx List.not_mem_nil⟩
  | cons y l ih =>
    have hstep : (if better y a then y else a) = a ∨ (if better y a then y else a) = y := by
      split
      · exact .inr rfl
      · exact .inl rfl
    have hge : key a ≤ key (if better y a then y else a) ∧ key y ≤ key (if better y a then y else a) := by
      split
      · rename_i h; exact ⟨((hb y a).mp h).le, le_refl _⟩
      · rename_i h; exact ⟨le_refl _, not_lt.mp fun x => h ((hb y a).mpr x)⟩
    obtain ⟨hmem, hinit, hall⟩ := ih (if better y a then y else a)
    simp only [List.foldl_cons]
    refine ⟨?_, hge.1.trans hinit, fun x hx => ?_⟩
    · rcases hmem with h | h
      · rcases hstep with h' | h'
        · exact .inl (h.trans h')
        · exact .inr (List.mem_cons.mpr (.inl (h.trans h')))
      · exact .inr (List.mem_cons_of_mem _ h)
    · rcases List.mem_cons.mp hx with rfl | hx
      · exact hge.2.trans hinit
      · exact hall x hx

/-- The place of the first element equal to a member of a list. -/
theorem first_place {α : Type} [DecidableEq α] {l : List α} {b : α} (h : b ∈ l) :
    ∃ hm : (l.takeWhile (· != b)).length < l.length, l[(l.takeWhile (· != b)).length] = b
      ∧ ∀ i (hi : i < (l.takeWhile (· != b)).length), l[i] ≠ b := by
  induction l with
  | nil => exact absurd h List.not_mem_nil
  | cons a l ih =>
    by_cases hab : a = b
    · subst hab
      simp
    · obtain ⟨hm, hat, hbefore⟩ := ih ((List.mem_cons.mp h).resolve_left fun x => hab x.symm)
      have htake : (a :: l).takeWhile (· != b) = a :: l.takeWhile (· != b) := by
        rw [List.takeWhile_cons, if_pos (bne_iff_ne.mpr hab)]
      simp only [htake, List.length_cons]
      refine ⟨by omega, by simpa using hat, fun i hi => ?_⟩
      cases i with
      | zero => exact hab
      | succ i => exact hbefore i (by omega)

/-- VMAXI and VMINI: the extreme value by a key, and the lowest lane that holds it. -/
theorem extremeWord_eq (v : BitVec 256) (key : Lane → Int) (better : Lane → Lane → Bool) (hb : ∀ x m, better x m = true ↔ key m < key x) :
    ∃ m < 16, (∀ i < 16, key (lane v i) ≤ key (lane v m)) ∧ (∀ i < m, lane v i ≠ lane v m)
      ∧ extremeWord v better = lane v m ++ BitVec.ofNat 16 m := by
  obtain ⟨hmem, -, hall⟩ := foldl_best key better hb (lanes v) (lane v 0)
  unfold extremeWord
  generalize (lanes v).foldl (fun m x => if better x m then x else m) (lane v 0) = best at *
  have hbest : best ∈ lanes v := hmem.elim (fun h => h ▸ List.mem_map_of_mem (List.mem_range.mpr (by decide))) id
  have hlen : (lanes v).length = 16 := by simp [lanes]
  have hget (i : Nat) (hi : i < (lanes v).length) : (lanes v)[i] = lane v i := by simp [lanes]
  obtain ⟨hm, hat, hbefore⟩ := first_place hbest
  rw [hget] at hat
  refine ⟨_, hlen ▸ hm, fun i hi => ?_, fun i hi => ?_, ?_⟩
  · rw [hat]
    exact hall _ (List.mem_map_of_mem (List.mem_range.mpr hi))
  · rw [hat, ← hget i (hi.trans hm)]
    exact hbefore i hi
  · rw [hat]

/-- The meaning of a VRED of MODE 0 and a defined FUNC. -/
def vredGo (re : Fin 72) (vd va : BitVec 5) (n : Nat) (s : State) (e : Engine) : State :=
  let v := e.vec va
  if n = 0 then s.next re (e.setReg vd (BitVec.ofInt 32 ((lanes v).map BitVec.toInt).sum))
  else if n = 1 then s.next re (e.setReg vd (BitVec.ofNat 32 ((lanes v).map BitVec.toNat).sum))
  else if n = 2 then s.next re (e.setReg vd (extremeWord v fun x m => m.slt x))
  else if n = 3 then s.next re (e.setReg vd (extremeWord v fun x m => x.slt m))
  else s.next re (e.setReg vd (BitVec.ofInt 32
    (clampI ((List.range 16).map fun i => (accLane (e.acc (va.getLsbD 0)) i).toInt).sum (-2147483648) 2147483647)))

theorem execVred_eq {func : BitVec 8} (h : func.toNat ≤ 4) (re : Fin 72) (fetch : Ecc) (vd va vb : BitVec 5) (s : State) :
    exec (.vred ⟨re, fetch⟩ vd va vb 0 func) s =
      .next (s.issue re (encode (.fmtV 0x25 vd va vb 0 func)) fetch (vredGo re vd va func.toNat)) := by
  show done _ = Host.Outcome.next _
  unfold done vredGo
  simp only [Nat.not_lt.mpr h, bne_self_eq_false, decide_false, Bool.or_self, Bool.false_eq_true, if_false]

/-- Settles O8: lane movement by `vpermGo`, the reductions by `vredGo`, the extremes by `extremeWord_eq`. -/
theorem reVectorMoveAndReduce : Obligations.ReVectorMoveAndReduce := by
  unfold Obligations.ReVectorMoveAndReduce
  intro re vd va vb s e x low k word all accSum
  have hmapInt : (lanes (e.vec va)).map BitVec.toInt = all.map fun i => (x i).toInt := List.map_map
  have hmapNat : (lanes (e.vec va)).map BitVec.toNat = all.map fun i => (x i).toNat := List.map_map
  have hred {func : BitVec 8} {v : Word} (h : func.toNat ≤ 4)
      (hg : ∀ t : State, vredGo re vd va func.toNat t (s.engine re).slotted = t.next re ((s.engine re).slotted.setReg vd v)) :
      GivesScalar (.vred ⟨re, ·⟩ vd va vb 0 func) s re (word 0x25 func) vd v :=
    givesScalar (execVred_eq h re · vd va vb s) fun _ => hg _
  refine ⟨givesVector (execVperm_eq re · vd va vb _ s) fun _ => rfl, givesScalar (execVperm_eq re · vd va vb _ s) fun _ => rfl,
    givesVector (execVperm_eq re · vd va vb _ s) fun _ => rfl, givesVector (execVperm_eq re · vd va vb _ s) fun _ => rfl,
    fun n hn => execVslide_gives re vd va vb s hn, ?sumSigned, ?sumUnsigned, ?max, ?min, ?acc⟩
  case sumSigned => exact hred (by decide) fun t => by rw [← hmapInt]; rfl
  case sumUnsigned => exact hred (by decide) fun t => by rw [← hmapNat]; rfl
  case max =>
    obtain ⟨m, hm, hmax, hfirst, hword⟩ := extremeWord_eq (e.vec va) BitVec.toInt (fun x m => m.slt x) fun x m => BitVec.slt_iff_toInt_lt
    exact ⟨m, hm, hmax, hfirst, hred (by decide) fun t => by rw [← hword]; rfl⟩
  case min =>
    obtain ⟨m, hm, hmin, hfirst, hword⟩ := extremeWord_eq (e.vec va) (fun x => -x.toInt) (fun x m => x.slt m) fun x m => by
      rw [BitVec.slt_iff_toInt_lt, Int.neg_lt_neg_iff]
    exact ⟨m, hm, fun i hi => Int.neg_le_neg_iff.mp (hmin i hi), hfirst, hred (by decide) fun t => by rw [← hword]; rfl⟩
  case acc =>
    refine hred (by decide) fun t => ?_
    have hclamp := clampI_eq_max_min (show (-2147483648 : Int) ≤ 2147483647 by decide) accSum
    exact congrArg (fun z => t.next re ((s.engine re).slotted.setReg vd (BitVec.ofInt 32 z))) hclamp

end Sys2Proof.Machine
end

section
/-! PROOFS. The CSRs, the SYS functions and the reserved forms of the return engines (R187, R192, R194, R197, R527). -/
namespace Sys2Proof.Machine
open Sys2Proof

/-! ### CSRs (R194) -/

theorem fetched_rg (s : State) (re : Fin 72) (fetch : Ecc) : (s.fetched re fetch).rd (RE.RG_SERVED re) = s.rd (RE.RG_SERVED re) :=
  fetched_rd s re fetch _ (by simp [RE.RG_SERVED, RE.MEM_CE, fld_key])

/-- The meaning of a CSRR whose zero field is 0. -/
def csrrGo (re : Fin 72) (rd : BitVec 5) (n : Nat) (s : State) (e : Engine) : State :=
  match s.readCsr re e n with
  | some (v, d) => (s.drew d).next re (e.setReg rd v)
  | none => s.illegal re e

theorem execCsrr_eq (re : Fin 72) (fetch : Ecc) (rd : BitVec 5) (csr : BitVec 16) (s : State) :
    exec (.csrr ⟨re, fetch⟩ rd 0 csr) s = .next (s.issue re (encode (.fmtI 0x3E rd 0 csr)) fetch (csrrGo re rd csr.toNat)) := rfl

/-- A CSR that draws no free value. -/
theorem execCsrr_gives {re : Fin 72} {rd : BitVec 5} {csr : BitVec 16} {s : State} {v : Word}
    (h : ∀ fetch, (s.fetched re fetch).readCsr re (s.engine re).slotted csr.toNat = some (v, 0)) :
    GivesScalar (.csrr ⟨re, ·⟩ rd 0 csr) s re (encode (.fmtI 0x3E rd 0 csr)) rd v :=
  givesScalar (execCsrr_eq re · rd csr s) fun fetch => by
    unfold csrrGo
    rw [h fetch]
    rfl

/-- A CSR whose value may be a free one: below a bound, and nothing but the count of free values has moved. -/
theorem execCsrr_free {re : Fin 72} {rd : BitVec 5} {csr : BitVec 16} {s : State} {bound : Nat}
    (h : ∀ fetch, ∃ v d, (s.fetched re fetch).readCsr re (s.engine re).slotted csr.toNat = some (v, d) ∧ v.toNat < bound) :
    Issued (.csrr ⟨re, ·⟩ rd 0 csr) s re (encode (.fmtI 0x3E rd 0 csr)) fun s' t =>
      (∃ v, v.toNat < bound ∧ (s.engine re).GotScalar (t.engine re) rd v) ∧ t = { s'.setEngine re (t.engine re) with free := t.free } := by
  refine issued (execCsrr_eq re · rd csr s) fun fetch => ?_
  obtain ⟨v, d, hread, hv⟩ := h fetch
  unfold csrrGo
  rw [hread]
  simp only [State.next, State.engine_set]
  exact ⟨⟨v, hv, gotScalar _ _ _⟩, rfl⟩

/-- PROX_LEFT is a free value below 777 before the deadline of the current shot, and 0 after it and under ABI 1.0. -/
theorem readCsr_proxLeft (s : State) (re : Fin 72) (e : Engine) : ∃ v d, s.readCsr re e.slotted 2 = some (v, d) ∧
    v.toNat < if e.minor1 = true ∧ (∃ x, e.current = some x ∧ x.late = false) then 777 else 1 := by
  have hread : s.readCsr re e.slotted 2 = match e.current with
    | some x => if e.minor1 && !x.late then some (BitVec.ofNat 32 (s.freeVal 0 % 777), 1) else some (0, 0)
    | none => some (0, 0) := rfl
  rw [hread]
  cases hcur : e.current with
  | none => exact ⟨0, 0, rfl, by simp⟩
  | some x =>
    by_cases hopen : e.minor1 = true ∧ x.late = false
    · refine ⟨BitVec.ofNat 32 (s.freeVal 0 % 777), 1, by simp [hopen], ?_⟩
      have hlt : s.freeVal 0 % 777 < 777 := Nat.mod_lt _ (by decide)
      rw [if_pos ⟨hopen.1, x, rfl, hopen.2⟩, BitVec.toNat_ofNat]
      omega
    · refine ⟨0, 0, ?_, ?_⟩
      · have : (e.minor1 && !x.late) = false := by
          simp only [Bool.and_eq_false_iff, Bool.not_eq_false']
          by_contra hc
          simp only [not_or, Bool.not_eq_false, Bool.not_eq_true] at hc
          exact hopen hc
        simp [this]
      · rw [if_neg]
        · decide
        · rintro ⟨hm, y, hy, hl⟩
          exact hopen ⟨hm, by cases hy; exact hl⟩

/-- CSRW of a defined CSR other than SCRATCH. -/
theorem execCsrw_gives {re : Fin 72} {rs : BitVec 5} {csr : BitVec 16} {s : State}
    (hdef : ∀ (t : State) (e : Engine), (t.readCsr re e csr.toNat).isNone = false) (hro : csr ≠ 0x010) :
    GivesNothing (.csrw ⟨re, ·⟩ rs 0 csr) s re (encode (.fmtI 0x3D rs 0 csr)) :=
  givesNothing (go := fun s e => if (0 : BitVec 5) != 0 || (s.readCsr re e csr.toNat).isNone then s.illegal re e
    else if csr = 0x010 then s.next re { e with scratch := e.reg rs } else s.next re e) (fun _ => rfl) fun t => by
      simp only [hdef, hro, bne_self_eq_false, Bool.or_self, Bool.false_eq_true, if_false]

theorem isNone_readCsr_proxLeft (s : State) (re : Fin 72) (e : Engine) : (s.readCsr re e 2).isNone = false := by
  have hread : s.readCsr re e 2 = match e.current with
    | some x => if e.minor1 && !x.late then some (BitVec.ofNat 32 (s.freeVal 0 % 777), 1) else some (0, 0)
    | none => some (0, 0) := rfl
  rw [hread]
  split
  · split <;> rfl
  · rfl

/-- Settles O9: each CSR by `readCsr`; a write of SCRATCH is the only one that leaves a trace. -/
theorem reCsrResults : Obligations.ReCsrResults := by
  unfold Obligations.ReCsrResults
  intro re rd rs s e word
  refine ⟨?values, ?free, ?readOnly, ?scratch⟩
  case values =>
    simp only [List.forall_mem_cons]
    refine ⟨execCsrr_gives fun _ => rfl, execCsrr_gives fun _ => ?winEcc, execCsrr_gives fun _ => rfl, execCsrr_gives fun fetch => ?rg,
      execCsrr_gives fun _ => rfl, execCsrr_gives fun _ => rfl, List.forall_mem_nil _⟩
    case winEcc => rfl
    case rg =>
      show some (BitVec.ofNat 32 ((s.fetched re fetch).rd (RE.RG_SERVED re)), 0) = _
      rw [fetched_rg]
  case free =>
    simp only [List.forall_mem_cons]
    exact ⟨execCsrr_free fun fetch => ⟨_, 1, rfl, BitVec.isLt _⟩, execCsrr_free fun fetch => readCsr_proxLeft _ re e, List.forall_mem_nil _⟩
  case readOnly =>
    simp only [List.forall_mem_cons]
    exact ⟨execCsrw_gives (fun _ _ => rfl) (by decide), execCsrw_gives (fun _ _ => rfl) (by decide),
      execCsrw_gives (fun t e => isNone_readCsr_proxLeft t re e) (by decide), execCsrw_gives (fun _ _ => rfl) (by decide),
      execCsrw_gives (fun _ _ => rfl) (by decide), execCsrw_gives (fun _ _ => rfl) (by decide), execCsrw_gives (fun _ _ => rfl) (by decide),
      List.forall_mem_nil _⟩
  case scratch =>
    refine issued (go := fun s e => s.next re { e with scratch := e.reg rs }) (fun _ => rfl) fun fetch => ⟨onlyEngine _ _ _, ?_⟩
    exact State.engine_set _ _ _
/-! ### SYS (R192, R198, R527) -/

/-- A SYS function with no field that must be 0. -/
theorem sys_issued {c : Ecc → Instr} {s : State} {re : Fin 72} {func : BitVec 11} {rd ra rb : BitVec 5} {Q : State → State → Prop}
    {go : State → Engine → State} (hx : ∀ fetch, exec (c fetch) s = .next (s.sys re fetch func rd ra rb true go))
    (hq : ∀ fetch, Q (s.fetched re fetch) (go (s.fetched re fetch) (s.engine re).slotted)) :
    Issued c s re (encode (.fmtR 0x3F rd ra rb func)) Q :=
  issued (go := fun s e => if true then go s e else s.illegal re e) hx hq

@[simp] theorem fetched_queue (s : State) (k : Nat) (fetch : Ecc) (h : Nat) : (s.fetched k fetch).queue h = s.queue h := by
  obtain ⟨r, hr⟩ := fetched_state s k fetch
  rw [hr]; rfl

@[simp] theorem fetched_waitingAt (s : State) (k : Nat) (fetch : Ecc) (h : Nat) : (s.fetched k fetch).waitingAt h = s.waitingAt h := by
  obtain ⟨r, hr⟩ := fetched_state s k fetch
  rw [hr]; rfl

theorem queueFree_iff (s : State) (h : Nat) : s.queueFree h = true ↔ s.waitingAt h = [] ∧ (s.queue h).length < 128 := by
  unfold State.queueFree queueDepth
  rw [Bool.and_eq_true, decide_eq_true_eq, decide_eq_true_eq]

/-- The meaning of EMIT, issued in the state s. -/
def emitGo (re : Fin 72) (ra rb : BitVec 5) (s t : State) (e : Engine) : State :=
  if 64 ≤ e.emitted then (t.count (RE.EMIT_OVF re) 1).next re e
  else if !s.queueFree (re / 8) then s
  else (t.pushEntry (re / 8) ⟨false, e.reg rb ++ e.reg ra, re⟩).next re { e with emitted := e.emitted + 1 }

theorem execEmit_eq (re : Fin 72) (fetch : Ecc) (rd ra rb : BitVec 5) (s : State) :
    exec (.emit ⟨re, fetch⟩ rd ra rb) s = .next (s.sys re fetch 1 rd ra rb true (emitGo re ra rb s)) := rfl

/-- A record enters the shelf queue. -/
theorem execEmit_enqueues {re : Fin 72} {rd ra rb : BitVec 5} {s : State} (h64 : (s.engine re).emitted < 64) (hw : s.waitingAt (re / 8) = [])
    (hq : (s.queue (re / 8)).length < 128) :
    Issued (.emit ⟨re, ·⟩ rd ra rb) s re (encode (.fmtR 0x3F rd ra rb 1)) fun s' t => t =
      (s'.setQueue (re / 8) (s.queue (re / 8) ++ [⟨false, (s.engine re).reg rb ++ (s.engine re).reg ra, re⟩])).setEngine re
        { (s.engine re).slotted.advance with emitted := (s.engine re).emitted + 1 } := by
  refine sys_issued (execEmit_eq re · rd ra rb s) fun fetch => ?_
  have hfull : ¬ 64 ≤ (s.engine re).slotted.emitted := Nat.not_le.mpr h64
  have hfree : s.queueFree (re / 8) = true := (queueFree_iff _ _).mpr ⟨hw, hq⟩
  have hfree' : (s.fetched re fetch).queueFree (re / 8) = true := (queueFree_iff _ _).mpr (by simp [hw, hq])
  unfold emitGo State.pushEntry
  simp only [hfull, hfree, hfree', if_false, if_true, Bool.not_true, Bool.false_eq_true, fetched_queue]
  rfl

/-- The halt that BRK takes (R527). -/
theorem haltSelf_shows (t : State) (re : Fin 72) (e : Engine) :
    let u := (t.haltSelf re).setEngine re e
    u.on (C.HALT (pRe re)) = true ∧ u.on (C.HALTED (pRe re)) = true ∧ u.on (RE.ST_SPARE re) = false ∧ u.engine re = e
      ∧ KeepsRegs [(C.HALT (pRe re)).key, (C.HALTED (pRe re)).key, (RE.ST_SPARE re).key] t u
      ∧ u = { t.setEngine re (u.engine re) with regs := u.regs } := by
  have hspare : (RE.ST_SPARE re).key ≠ (C.HALT (pRe re)).key ∧ (RE.ST_SPARE re).key ≠ (C.HALTED (pRe re)).key
      ∧ (C.HALT (pRe re)).key ≠ (C.HALTED (pRe re)).key := by
    simp [RE.ST_SPARE, C.HALT, C.HALTED, pRe, fld_key]
  obtain ⟨h1, h2, h3⟩ := hspare
  have hkeeps := (((KeepsRegs.refl [(C.HALT (pRe re)).key, (C.HALTED (pRe re)).key, (RE.ST_SPARE re).key] t).put (C.HALT (pRe re)) true
    (by simp)).put (C.HALTED (pRe re)) true (by simp)).put (RE.ST_SPARE re) false (by simp)
  have hset (u : State) (f : Fld) : (u.setEngine re e).on f = u.on f := rfl
  have hhalted (u : State) : (u.put (C.HALTED (pRe re)) true).on (C.HALTED (pRe re)) = true := State.on_put_self _ _ _ Nat.one_pos
  unfold State.haltSelf State.showSpare
  simp only [hset, hhalted, Bool.not_true, Bool.and_false]
  refine ⟨?_, ?_, State.on_put_self _ _ _ Nat.one_pos, State.engine_set _ _ _, ?_, ?_⟩
  · rw [State.on_put_ne _ _ _ _ h1.symm, State.on_put_ne _ _ _ _ h3]
    exact State.on_put_self _ _ _ Nat.one_pos
  · rw [State.on_put_ne _ _ _ _ h2.symm]
    exact hhalted _
  · exact hkeeps.of_cur rfl
  · rw [State.engine_set]; rfl

/-- The meaning of BRK. -/
def brkGo (re : Fin 72) (s : State) (e : Engine) : State :=
  if s.on MON.UNLOCKED && bit (s.rd MON.SCOPE) 1 then State.next (s.haltSelf re) re { e with debugHalt := true } else s.next re e

theorem fetched_unlocked (s : State) (re : Fin 72) (fetch : Ecc) :
    (s.fetched re fetch).on MON.UNLOCKED = s.on MON.UNLOCKED ∧ (s.fetched re fetch).rd MON.SCOPE = s.rd MON.SCOPE := by
  have h1 : MON.UNLOCKED.key ≠ (RE.MEM_CE re).key := by simp [MON.UNLOCKED, RE.MEM_CE, fld_key, pageBits]; omega
  have h2 : MON.SCOPE.key ≠ (RE.MEM_CE re).key := by simp [MON.SCOPE, RE.MEM_CE, fld_key, pageBits]; omega
  unfold State.on
  rw [fetched_rd _ _ _ _ h1, fetched_rd _ _ _ _ h2]
  exact ⟨rfl, rfl⟩

theorem proxLate_mask (re : Fin 72) : bit (2 ^ 2 + faultCommons (pRe re) 2) 2 = true := by
  revert re; decide

/-- PROX past the deadline of its shot (R198). -/
theorem sendProx_late (t : State) (re : Fin 72) (w : Word) :
    let u := t.sendProx re true w
    u.prox.flight = t.prox.flight ∧ u.rd (RE.PROX_LATE re) = min (t.rd (RE.PROX_LATE re) + 1) 65535
      ∧ u.on (RE.FAULT_PROX_LATE re) = true ∧ t.rd (RE.RG_SERVED re) ∈ u.prox.lateRgs := by
  obtain ⟨r, posts, hst⟩ := State.fault_state (t.count (RE.PROX_LATE re) 1) (pRe re) 2
  have hon : ((t.count (RE.PROX_LATE re) 1).fault (pRe re) 2).on (RE.FAULT_PROX_LATE re) = true :=
    State.setFaults_on _ _ _ 2 (by decide) (proxLate_mask re)
  have hrd : ((t.count (RE.PROX_LATE re) 1).fault (pRe re) 2).rd (RE.PROX_LATE re) = min (t.rd (RE.PROX_LATE re) + 1) 65535 := by
    rw [State.fault_rd _ _ _ _ (fun i hi => by simp [RE.PROX_LATE, C.FAULT, pRe, fld_key]; omega), State.rd_count]
    rfl
  have hprox : ((t.count (RE.PROX_LATE re) 1).fault (pRe re) 2).prox = t.prox := by rw [hst]; rfl
  unfold State.sendProx
  simp only [if_true]
  refine ⟨congrArg _ hprox, hrd, hon, ?_⟩
  split
  · rename_i h; exact List.contains_iff_mem.mp h
  · exact List.mem_append_right _ List.mem_cons_self

theorem late_of_open {e : Engine} (h : ∀ x, e.current = some x → x.late = false) : e.late = false := by
  unfold Engine.late
  cases hc : e.current with
  | none => rfl
  | some x => exact h x hc

theorem late_of_passed {e : Engine} (h : ∃ x, e.current = some x ∧ x.late = true) : e.late = true := by
  obtain ⟨x, hx, hl⟩ := h
  simp only [Engine.late, hx, hl]

/-- Settles O10: EMIT by `emitGo`, PROX by `sendProx`, BRK by `brkGo`. -/
theorem reSysResults : Obligations.ReSysResults := by
  unfold Obligations.ReSysResults
  intro re rd ra rb s e word on q
  refine ⟨execSysNop_gives re rd ra rb s, ?fence, execEmit_enqueues, fun h64 hfull hi fetch hf => ?waits, fun h64 => ?overflows,
    fun hopen => ?prox, fun hpast => ?late, fun hlocked => ?brkLocked, fun hu hscope => ?brkHalts⟩
  case fence => exact givesNothing (go := fun s e => if true then s.next re e else s.illegal re e) (fun _ => rfl) fun _ => rfl
  case waits =>
    have hfull' : s.queueFree (re / 8) = false := by
      rw [← Bool.not_eq_true, queueFree_iff, not_and_or, Nat.not_lt]
      exact hfull
    have hnot : ¬ 64 ≤ (s.engine re).slotted.emitted := Nat.not_le.mpr h64
    have hgo : s.sys re fetch 1 rd ra rb true (emitGo re ra rb s) = emitGo re ra rb s (s.fetched re fetch) (s.engine re).slotted :=
      issue_of hi hf (fun s' e => if true then emitGo re ra rb s s' e else s'.illegal re e)
    rw [execEmit_eq, hgo, emitGo, if_neg hnot, if_pos (by simp [hfull'])]
  case overflows =>
    refine sys_issued (execEmit_eq re · rd ra rb s) fun fetch => ?_
    exact if_pos h64
  case prox =>
    refine sys_issued (go := fun s e => (s.sendProx re e.late (e.reg ra)).next re e) (fun _ => rfl) fun fetch => ?_
    have hl : (s.engine re).slotted.late = false := late_of_open hopen
    obtain ⟨r, hr⟩ := fetched_state s re fetch
    rw [hl, hr]
    rfl
  case late =>
    refine sys_issued (go := fun s e => (s.sendProx re e.late (e.reg ra)).next re e) (fun _ => rfl) fun fetch => ?_
    have hl : (s.engine re).slotted.late = true := late_of_passed hpast
    obtain ⟨hflight, hcount, hfault, hrg⟩ := sendProx_late (s.fetched re fetch) re ((s.engine re).reg ra)
    rw [hl]
    exact ⟨hflight, State.engine_set _ _ _, hcount, hfault, hrg⟩
  case brkLocked =>
    refine givesNothing (go := fun s e => if true then brkGo re s e else s.illegal re e) (fun _ => rfl) fun fetch => ?_
    obtain ⟨hu', hs'⟩ := fetched_unlocked s re fetch
    have hshut : (s.on MON.UNLOCKED && bit (s.rd MON.SCOPE) 1) = false := Bool.and_eq_false_iff.mpr hlocked
    unfold brkGo
    rw [hu', hs', hshut]
    rfl
  case brkHalts =>
    refine sys_issued (go := brkGo re) (fun _ => rfl) fun fetch => ?_
    obtain ⟨hu', hs'⟩ := fetched_unlocked s re fetch
    unfold brkGo
    simp only [hu', hs', hu, hscope, Bool.and_self, if_true]
    exact haltSelf_shows (s.fetched re fetch) re (Engine.advance { (s.engine re).slotted with debugHalt := true })

end Sys2Proof.Machine
end

section
/-! PROOFS. What raises the ERROR handler of a return engine: reserved forms, addresses outside the regions, errors of its memories, and
the lockup of an engine that meets a cause inside the handler (R179, R181, R182, R187 to R189, R194, R197). -/
namespace Sys2Proof.Machine
open Sys2Proof

/-! ### Reserved forms -/

/-- An instruction whose meaning is ILLEGAL on the engine that issues it. -/
theorem raisesIllegal {c : Ecc → Instr} {s : State} {re : Fin 72} {w : Word} {go : State → Engine → State}
    (hx : ∀ fetch, exec (c fetch) s = .next (s.issue re w fetch go))
    (hg : ∀ t : State, go t (s.engine re).slotted = t.illegal re (s.engine re).slotted) : RaisesError c s re w 1 0 :=
  raisesError (by decide) hx hg

/-- FUNC numbers past the map's last have no operation. -/
theorem aluOp_reserved {func : BitVec 11} {rb : BitVec 5} (h : 0x010 < func.toNat ∨ (0x00F ≤ func.toNat ∧ rb ≠ 0)) (a b : Word) :
    aluOp func rb a b = none := by
  unfold aluOp
  split
  case h_16 => exact if_neg (h.resolve_left (by omega)).2
  case h_17 => exact if_neg (h.resolve_left (by omega)).2
  case h_18 => rfl
  all_goals exact absurd h (by omega)

theorem shiftImm_reserved {imm : BitVec 16} (h : 0x60 ≤ imm.toNat) (a : Word) : shiftImm imm a = none := by
  unfold shiftImm
  split
  case h_4 => rfl
  all_goals exact absurd h (by omega)

theorem valu_reserved {mode : BitVec 3} {n : Nat} {vb : BitVec 5} (h : 1 < mode.toNat ∨ 0x12 < n ∨ (n = 0x0F ∧ vb ≠ 0)) :
    (1 < mode.toNat || 0x12 < n || (n = 0x0F && vb != 0)) = true := by
  simpa [or_assoc] using h

theorem vmac_reserved {vd : BitVec 5} {mode : BitVec 3} {n : Nat} (h : 5 < n ∨ (n ≤ 3 ∧ 1 < mode.toNat) ∨ ((n = 2 ∨ n = 3) ∧ 1 < vd.toNat)) :
    vmacReserved vd mode n = true := by
  unfold vmacReserved
  simp only [Bool.or_eq_true, Bool.and_eq_true, decide_eq_true_eq]
  tauto

/-- A number that names no CSR. -/
theorem readCsr_undefined {csr : BitVec 16} (h : 6 < csr.toNat ∧ csr ≠ 0x010) (s : State) (re : Nat) (e : Engine) :
    s.readCsr re e csr.toNat = none := by
  have h16 : csr.toNat ≠ 0x010 := fun x => h.2 (BitVec.eq_of_toNat_eq x)
  have hne (n : Nat) (hn : n ≤ 6) : ¬ csr.toNat = n := by omega
  unfold State.readCsr
  rw [if_neg (hne 0 (by decide)), if_neg (hne 1 (by decide)), if_neg (hne 2 (by decide)), if_neg (hne 3 (by decide)),
    if_neg (hne 4 (by decide)), if_neg (hne 5 (by decide)), if_neg (hne 6 (by decide)), if_neg h16]

theorem execCsrw_illegal {re : Fin 72} {a b : BitVec 5} {csr : BitVec 16} {s : State} (h : b ≠ 0 ∨ (6 < csr.toNat ∧ csr ≠ 0x010)) :
    RaisesError (.csrw ⟨re, ·⟩ a b csr) s re (encode (.fmtI 0x3D a b csr)) 1 0 := by
  refine raisesIllegal (go := fun s e => if b != 0 || (s.readCsr re e csr.toNat).isNone then s.illegal re e
    else if csr = 0x010 then s.next re { e with scratch := e.reg a } else s.next re e) (fun _ => rfl) fun t => ?_
  have hcond : (b != 0 || (t.readCsr re (s.engine re).slotted csr.toNat).isNone) = true := by
    rcases h with hb | hcsr
    · rw [bne_iff_ne.mpr hb]; rfl
    · simp [readCsr_undefined hcsr]
  exact if_pos hcond

theorem execCsrr_illegal {re : Fin 72} {a b : BitVec 5} {csr : BitVec 16} {s : State} (h : b ≠ 0 ∨ (6 < csr.toNat ∧ csr ≠ 0x010)) :
    RaisesError (.csrr ⟨re, ·⟩ a b csr) s re (encode (.fmtI 0x3E a b csr)) 1 0 := by
  refine raisesIllegal (go := fun s e => match s.readCsr re e csr.toNat with
    | some (v, d) => if b = 0 then (s.drew d).next re (e.setReg a v) else s.illegal re e
    | none => s.illegal re e) (fun _ => rfl) fun t => ?_
  rcases h with hb | hcsr
  · simp only [hb, if_false]
    split <;> rfl
  · simp only [readCsr_undefined hcsr]

/-- A fetched word that is no instruction. -/
theorem execIllegalOpcode_eq {word : Word}
    (h : formatOf (word.extractLsb' 26 6) = none ∨ (word.extractLsb' 26 6 = 0x3F ∧ 5 < (word.extractLsb' 0 11).toNat))
    (re : Fin 72) (fetch : Ecc) (s : State) :
    exec (.illegalOpcode ⟨re, fetch⟩ word) s = .next (s.issue re word fetch fun s e => s.illegal re e) := by
  show done _ = Host.Outcome.next _
  unfold done
  rcases h with h | ⟨hop, hfunc⟩
  · have hdec : decodeWord word = none := by
      unfold decodeWord
      simp only [h]
    rw [hdec]
  · have hformat : formatOf (0x3F : BitVec 6) = some .r := rfl
    have hdec : decodeWord word =
        some (.fmtR 0x3F (word.extractLsb' 21 5) (word.extractLsb' 16 5) (word.extractLsb' 11 5) (word.extractLsb' 0 11)) := by
      unfold decodeWord
      simp only [hop, hformat]
    rw [hdec]
    simp only [hfunc, decide_true, Bool.and_self, if_true]

/-- The reserved forms of the vector instructions are ILLEGAL. -/
theorem execVld_illegal {mode : BitVec 3} (h : 2 < mode.toNat) (re : Fin 72) (fetch found : Ecc) (v ra : BitVec 5) (off : BitVec 13) (s : State) :
    exec (.vld ⟨re, fetch⟩ v ra mode off found) s =
      .next (s.issue re (encode (.fmtM 0x20 v ra mode off)) fetch fun s e => s.illegal re e) := by
  have h0 : mode ≠ 0 := by rintro rfl; exact absurd h (by decide)
  have h1 : mode ≠ 1 := by rintro rfl; exact absurd h (by decide)
  have h2 : mode ≠ 2 := by rintro rfl; exact absurd h (by decide)
  show execVld _ _ _ _ _ _ _ = _
  simp only [execVld, h0, h1, h2, if_false]
  rfl

theorem execVst_illegal {mode : BitVec 3} (h0 : mode ≠ 0) (h3 : mode ≠ 3) (re : Fin 72) (fetch : Ecc) (v ra : BitVec 5) (off : BitVec 13)
    (s : State) : exec (.vst ⟨re, fetch⟩ v ra mode off) s =
      .next (s.issue re (encode (.fmtM 0x21 v ra mode off)) fetch fun s e => s.illegal re e) := by
  show execVst _ _ _ _ _ _ = _
  simp only [execVst, h0, h3, if_false]
  rfl

theorem execVmac_illegal {vd : BitVec 5} {mode : BitVec 3} {func : BitVec 8} (h : vmacReserved vd mode func.toNat = true) (re : Fin 72)
    (fetch : Ecc) (va vb : BitVec 5) (s : State) : exec (.vmac ⟨re, fetch⟩ vd va vb mode func) s =
      .next (s.issue re (encode (.fmtV 0x23 vd va vb mode func)) fetch fun s e => s.illegal re e) := by
  show execVmac _ _ _ _ _ _ _ = _
  simp only [execVmac, h, if_true]
  rfl

theorem execVperm_illegal {func : BitVec 8} (h : 3 < func.toNat) (hn : func.toNat < 0x10 ∨ 0x1F < func.toNat) (re : Fin 72) (fetch : Ecc)
    (vd va vb : BitVec 5) (mode : BitVec 3) (s : State) : exec (.vperm ⟨re, fetch⟩ vd va vb mode func) s =
      .next (s.issue re (encode (.fmtV 0x24 vd va vb mode func)) fetch fun s e => s.illegal re e) := by
  have h0 : func.toNat ≠ 0 := by omega
  have h1 : func.toNat ≠ 1 := by omega
  have h2 : func.toNat ≠ 2 := by omega
  have h3 : func.toNat ≠ 3 := by omega
  have hslide : (decide (0x10 ≤ func.toNat) && decide (func.toNat ≤ 0x1F)) = false := by
    rw [Bool.and_eq_false_iff, decide_eq_false_iff_not, decide_eq_false_iff_not]; omega
  show execVperm _ _ _ _ _ _ _ = _
  simp only [execVperm, h0, h1, h2, h3, hslide, Bool.false_eq_true, if_false, ite_self]
  rfl

theorem execVred_illegal {func : BitVec 8} (h : 4 < func.toNat) (re : Fin 72) (fetch : Ecc) (vd va vb : BitVec 5) (mode : BitVec 3) (s : State) :
    exec (.vred ⟨re, fetch⟩ vd va vb mode func) s =
      .next (s.issue re (encode (.fmtV 0x25 vd va vb mode func)) fetch fun s e => s.illegal re e) := by
  show execVred _ _ _ _ _ _ _ = _
  simp only [execVred, h, decide_true, Bool.or_true, if_true]
  rfl

/-- Settles O11: each form by the guard of its instruction that it fails. -/
theorem reIllegalForms : Obligations.ReIllegalForms := by
  unfold Obligations.ReIllegalForms
  intro re a b c imm func mode f off found word s n
  refine ⟨?trap, fun h => execAlu_illegal (aluOp_reserved h), fun h => ?shi, fun h => ?lui, fun h => ?loop, fun h => raisesIllegal (execVld_illegal h re · found a b off s) fun _ => rfl,
    fun h0 h3 => raisesIllegal (execVst_illegal h0 h3 re · a b off s) fun _ => rfl, fun h => ?valu,
    fun h => raisesIllegal (execVmac_illegal (vmac_reserved h) re · b c s) fun _ => rfl,
    fun h hn => raisesIllegal (execVperm_illegal h hn re · a b c mode s) fun _ => rfl,
    fun h => raisesIllegal (execVred_illegal h re · a b c mode s) fun _ => rfl, execCsrw_illegal, execCsrr_illegal,
    fun h => raisesIllegal (execIllegalOpcode_eq h re · s) fun _ => rfl⟩
  case trap => exact raisesError (go := fun s e => if true then s.reError re e ceSoft 0 else s.illegal re e) (by decide) (fun _ => rfl) fun _ => rfl
  case shi =>
    refine raisesIllegal (go := fun s e => match shiftImm imm (e.reg b) with
      | some v => s.next re (e.setReg a v)
      | none => s.illegal re e) (fun _ => rfl) fun t => ?_
    simp only [shiftImm_reserved h]
  case lui =>
    exact raisesIllegal (go := fun s e => if b = 0 then s.next re (e.setReg a (imm.zeroExtend 32 <<< 16)) else s.illegal re e)
      (fun _ => rfl) fun _ => if_neg h
  case loop =>
    have hcond : (a != 0 || imm = 0) = true := by simpa using h
    refine raisesIllegal (go := fun s e =>
      let last := e.pc + BitVec.ofNat 32 (4 * imm.toNat)
      if a != 0 || imm = 0 then s.illegal re e
      else if 2 ≤ e.loops.length then s.reError re e ceLoop 0
      else if e.reg b = 0 then s.setEngine re { e with pc := last + 4 }
      else s.setEngine re { e with pc := e.pc + 4, loops := { start := e.pc + 4, last := last, left := e.reg b } :: e.loops })
      (fun _ => rfl) fun _ => if_pos hcond
  case valu =>
    exact raisesIllegal (go := fun s e =>
      if 1 < mode.toNat || 0x12 < f.toNat || (f.toNat = 0x0F && c != 0) then s.illegal re e
      else s.next re (e.setVec a (ofLanes fun i =>
        (valuLane f.toNat (lane (e.vec a) i) (lane (e.vec b) i) (e.operand mode c i)).getD 0))) (fun _ => rfl) fun _ => if_pos (valu_reserved h)

end Sys2Proof.Machine
end

section
/-! PROOFS. Which registers the end of a commit can change (R50 steps 7 and 8), and what the dispatcher's markers change (R178, R196):
the facts that the handlers' entries, returns and lockup share. -/
namespace Sys2Proof.Machine
open Sys2Proof

/-! ### The fields of a folio -/

/-- Every element of a row begins inside its folio. -/
def Row.fits (r : Row) : Bool := r.n == 0 || Nat.blt (r.bit + r.stride * (r.n - 1)) pageBits

theorem unitRows_fit_below_engines : ((List.range 0x6F).all fun p => (unitRows p).all Row.fits) = true := by decide +kernel

theorem unitRows_engine {p : Nat} (h : 0x6F ≤ p) : unitRows p = RE.rows := by
  have h0 : p ≠ 0 := by omega
  unfold unitRows
  rw [if_neg h0, if_pos h]

theorem unitRows_fit (p : Nat) : (unitRows p).all Row.fits = true := by
  by_cases h : p < 0x6F
  · exact List.all_eq_true.mp unitRows_fit_below_engines p (List.mem_range.mpr h)
  · rw [unitRows_engine (Nat.not_lt.mp h)]
    decide

/-- A field of a folio lies on that folio's page. -/
theorem fieldsOf_page {p : Nat} {a : Acc} {f : Fld} (hf : f ∈ fieldsOf p a) : f.key / pageBits = p := by
  obtain ⟨r, hr, hfr⟩ := List.mem_flatMap.mp hf
  obtain ⟨j, hj, rfl⟩ := List.mem_map.mp hfr
  have hfit := List.all_eq_true.mp (unitRows_fit p) r (List.mem_of_mem_filter hr)
  have hn : j < r.n := List.mem_range.mp hj
  have hbit : r.bit + r.stride * (r.n - 1) < pageBits := by
    simp only [Row.fits, Bool.or_eq_true, beq_iff_eq] at hfit
    rcases hfit with h | h
    · omega
    · exact Nat.blt_eq.mp h
  have hj' : r.stride * j ≤ r.stride * (r.n - 1) := Nat.mul_le_mul_left _ (by omega)
  have hin : r.bit + r.stride * j < pageBits := by omega
  show (p * pageBits + (r.bit + r.stride * j)) / pageBits = p
  rw [Nat.mul_comm, Nat.mul_add_div (by decide), Nat.div_eq_of_lt hin, Nat.add_zero]

theorem fieldsOf_engine_rws (k : Nat) : fieldsOf (pRe k) .rws = [] := by
  have hrows : unitRows (pRe k) = RE.rows := unitRows_engine (Nat.le_add_right _ _)
  unfold fieldsOf
  rw [hrows]
  rfl

/-! ### The end of a commit -/

/-- A field that no commit changes: it is no RWS field of its folio, and none of the words in which a commit shows. -/
def Fld.lasting (f : Fld) : Prop :=
  (∀ g ∈ fieldsOf (f.key / pageBits) .rws, f.key ≠ g.key) ∧ f.key % pageBits ≠ 301 ∧ f.key % pageBits ≠ 302 ∧ f.key % pageBits ≠ 304
    ∧ f.key ≠ CAT.CAT_STAGED.key ∧ f.key ≠ CAT.INT_COMMIT_APPLIED.key

theorem lasting_engine {k b w r : Nat} (hb : b < pageBits) (h : b ≠ 301 ∧ b ≠ 302 ∧ b ≠ 304) : (fld (pRe k) b w r).lasting := by
  have hpage : (fld (pRe k) b w r).key / pageBits = pRe k := by
    rw [fld_key, Nat.mul_comm, Nat.mul_add_div (by decide), Nat.div_eq_of_lt hb, Nat.add_zero]
  have hmod : (fld (pRe k) b w r).key % pageBits = b := by
    rw [fld_key, Nat.add_comm, Nat.add_mul_mod_self_right, Nat.mod_eq_of_lt hb]
  refine ⟨?_, by rw [hmod]; exact h.1, by rw [hmod]; exact h.2.1, by rw [hmod]; exact h.2.2, ?_, ?_⟩
  · rw [hpage, fieldsOf_engine_rws]
    exact fun g hg => absurd hg List.not_mem_nil
  all_goals
    simp only [pageBits, pRe] at *
    simp only [CAT.CAT_STAGED, CAT.INT_COMMIT_APPLIED, fld_key, pageBits]
    omega

theorem applyStaged_rd {s : State} {p : Nat} {f : Fld} (h : ∀ g ∈ fieldsOf (f.key / pageBits) .rws, f.key ≠ g.key) :
    (s.applyStaged p).rd f = s.rd f := by
  refine State.applyStaged_rd_ne s p f fun g hg heq => ?_
  have hp := fieldsOf_page hg
  rw [← heq] at hp
  exact h g (hp ▸ hg) heq

theorem applied_rd {s : State} {p : Nat} {f : Fld} (h : f.lasting) : (s.applied p).rd f = s.rd f := by
  obtain ⟨-, h1, h2, h3, -, -⟩ := h
  have hne {g : Fld} {b : Nat} (hg : g.key = p * pageBits + b) (hb : b < pageBits) (h : f.key % pageBits ≠ b) : f.key ≠ g.key := by
    rintro heq
    rw [heq, hg, Nat.add_comm, Nat.add_mul_mod_self_right, Nat.mod_eq_of_lt hb] at h
    exact h rfl
  unfold State.applied
  rw [State.rd_wr_ne _ _ _ _ (hne rfl (by decide) h3), State.rd_put_ne _ _ _ _ (hne rfl (by decide) h1),
    State.rd_put_ne _ _ _ _ (hne rfl (by decide) h2)]

theorem finishCommit_rd {s : State} {f : Fld} (h : f.lasting) : s.finishCommit.rd f = s.rd f := by
  obtain ⟨-, -, -, -, h1, h2⟩ := h
  unfold State.finishCommit
  split
  · exact (State.rd_put_ne _ _ _ _ h2).trans (State.rd_put_ne _ _ _ _ h1)
  · rfl

theorem foldl_applied_rd {l : List Nat} {s : State} {f : Fld} (h : f.lasting) :
    (l.foldl (fun s p => (s.applyStaged p).applied p) s).rd f = s.rd f := by
  induction l generalizing s with
  | nil => rfl
  | cons p l ih => rw [List.foldl_cons, ih, applied_rd h, applyStaged_rd h.1]

theorem retireOld_rd {s : State} {f : Fld} (h : f.lasting) : s.retireOld.rd f = s.rd f := by
  unfold State.retireOld
  split
  · rfl
  · rw [finishCommit_rd h, foldl_applied_rd h]

theorem retireOld_on {s : State} {f : Fld} (h : f.lasting) : s.retireOld.on f = s.on f := by
  rw [State.on, State.on, retireOld_rd h]

theorem foldl_applied_state (l : List Nat) (s : State) :
    ∃ r, l.foldl (fun s p => (s.applyStaged p).applied p) s = { s with regs := r } := by
  induction l generalizing s with
  | nil => exact ⟨s.regs, rfl⟩
  | cons p l ih =>
    obtain ⟨r, hr⟩ := ih ((s.applyStaged p).applied p)
    exact ⟨r, by rw [List.foldl_cons, hr]; rfl⟩

/-- The end of a commit touches the registers and the commit engine only. -/
theorem retireOld_state (s : State) : ∃ r c, s.retireOld = { s with regs := r, cat := c } := by
  unfold State.retireOld State.finishCommit
  split
  · exact ⟨s.regs, s.cat, rfl⟩
  · obtain ⟨r, hr⟩ := foldl_applied_state ((List.range folioCount).filter fun p => s.on (C.APPLYING p) && !s.holdsOld p) s
    simp only [hr]
    split
    · exact ⟨_, _, rfl⟩
    · exact ⟨r, s.cat, rfl⟩

@[simp] theorem retireOld_engine (s : State) (k : Nat) : s.retireOld.engine k = s.engine k := by
  obtain ⟨r, c, h⟩ := retireOld_state s
  rw [h]; rfl

@[simp] theorem retireOld_pca (s : State) : s.retireOld.pca = s.pca := by
  obtain ⟨r, c, h⟩ := retireOld_state s
  rw [h]

theorem retireOld_idle {s : State} (h : s.cat.applying = false) : s.retireOld = s := by
  unfold State.retireOld
  rw [h]
  rfl

end Sys2Proof.Machine
end

section
/-! PROOFS. What the dispatcher's markers change (R178, R196), and the rest of the ERROR handler's rules: memory errors, the fetch of every
instruction, and lockup (R179, R181, R182, R197). -/
namespace Sys2Proof.Machine
open Sys2Proof

/-! ### Faults of an engine's folio -/

/-- The keys of an engine's FAULT bits. -/
def engineFaultKeys (k : Nat) : List Nat := (List.range 32).map fun i => (C.FAULT (pRe k) i).key

theorem fault_keeps (s : State) (k b : Nat) : KeepsRegs (engineFaultKeys k) s (s.fault (pRe k) b) :=
  setFaults_keeps (KeepsRegs.refl _ s) fun _ hi _ => List.mem_map_of_mem (List.mem_range.mpr hi)

/-- A fault clears no FAULT bit. -/
theorem fault_on_of_on {s : State} {p i : Nat} (b : Nat) (hi : i < 32) (h : s.on (C.FAULT p i) = true) : (s.fault p b).on (C.FAULT p i) = true := by
  by_cases hbit : bit (2 ^ b + faultCommons p b) i = true
  · exact State.setFaults_on _ _ _ _ hi hbit
  · have hne : ∀ j < 32, bit (2 ^ b + faultCommons p b) j = true → (C.FAULT p j).key ∈ (List.range 32).filterMap fun j =>
        if j = i then none else some (C.FAULT p j).key := by
      intro j hj hb
      have hji : j ≠ i := fun e => hbit (e ▸ hb)
      exact List.mem_filterMap.mpr ⟨j, List.mem_range.mpr hj, by rw [if_neg hji]⟩
    have hrd := setFaults_keeps (KeepsRegs.refl _ s) hne (C.FAULT p i) (by
      intro hm
      obtain ⟨j, -, hj⟩ := List.mem_filterMap.mp hm
      split at hj
      · exact absurd hj (by simp)
      · simp only [C.FAULT, fld_key, Option.some.injEq] at hj; omega)
    rw [State.on] at h ⊢
    rw [← h]
    exact congrArg (· != 0) hrd

/-! ### Markers (R178, R196) -/

/-- The keys of the register fields that a marker can change beside FAULT. -/
def markerKeys (k : Nat) : List Nat :=
  [(RE.INT_SKIPPED k).key, (RE.SHOTS_LAST k).key, (RE.SKIPPED_LAST k).key, (RE.SLOTS_MAX_LAST k).key, (RE.ERRORS_LAST k).key]

/-- An engine without its calls and its figures of the frame. -/
def Engine.duty (e : Engine) : Engine := { e with calls := [], shotsFrame := 0, skippedFrame := 0, errorsFrame := 0, slotsMax := 0 }

/-- A dispatcher has written markers of engine k: its calls, its figures of the frame, the shelf queues, FAULT and the fields of
`markerKeys` may have changed, and nothing else. -/
structure Marks (k : Nat) (s t : State) : Prop where
  keeps : KeepsRegs (markerKeys k ++ engineFaultKeys k) s t
  faults : ∀ i < 32, s.on (C.FAULT (pRe k) i) = true → t.on (C.FAULT (pRe k) i) = true
  skipped : s.on (RE.INT_SKIPPED k) = true → t.on (RE.INT_SKIPPED k) = true
  duty : (t.engine k).duty = (s.engine k).duty
  frame : t = { s with regs := t.regs, engines := t.engines, pca := t.pca, saf := t.saf }

theorem Marks.refl (k : Nat) (s : State) : Marks k s s := ⟨KeepsRegs.refl _ s, fun _ _ => id, id, rfl, rfl⟩

theorem Marks.trans {k : Nat} {s t u : State} (h : Marks k s t) (h' : Marks k t u) : Marks k s u where
  keeps := h.keeps.trans h'.keeps
  faults i hi := h'.faults i hi ∘ h.faults i hi
  skipped := h'.skipped ∘ h.skipped
  duty := h'.duty.trans h.duty
  frame := by
    have hu := h'.frame
    rw [h.frame] at hu
    exact hu

/-- A change of the engine's calls or figures. -/
theorem Marks.setEngine (k : Nat) (s : State) {e : Engine} (h : e.duty = (s.engine k).duty) : Marks k s (s.setEngine k e) where
  keeps := (KeepsRegs.refl _ s).of_cur rfl
  faults _ _ := id
  skipped := id
  duty := by rw [State.engine_set, h]
  frame := rfl

theorem engineFault_key_ne {k i b w r : Nat} (hb : b < 256 ∨ 288 ≤ b) (hi : i < 32) : (C.FAULT (pRe k) i).key ≠ (fld (pRe k) b w r).key := by
  simp only [C.FAULT, fld_key]
  omega

theorem Marks.wr {k : Nat} {s : State} {b w r : Nat} (v : Nat) (hk : (fld (pRe k) b w r).key ∈ markerKeys k) (hb : b < 256 ∨ 288 ≤ b)
    (hs : b ≠ 162) : Marks k s (s.wr (fld (pRe k) b w r) v) where
  keeps := (KeepsRegs.refl _ s).wr _ _ (List.mem_append_left _ hk)
  faults i hi h := by rw [State.on_wr_ne _ _ _ _ (engineFault_key_ne hb hi)]; exact h
  skipped h := by
    rw [State.on_wr_ne]
    · exact h
    · simp only [RE.INT_SKIPPED, pRe, fld_key]; omega
  duty := rfl
  frame := rfl

theorem Marks.raiseSkipped (k : Nat) (s : State) : Marks k s (s.raise (RE.INT_SKIPPED k)) where
  keeps := (KeepsRegs.refl _ s).put _ _ (by simp [markerKeys])
  faults i hi h := by
    have hne : (C.FAULT (pRe k) i).key ≠ (RE.INT_SKIPPED k).key := engineFault_key_ne (b := 162) (.inl (by decide)) hi
    rw [State.raise, State.on_put_ne _ _ _ _ hne]; exact h
  skipped _ := State.on_put_self _ _ _ Nat.one_pos
  duty := rfl
  frame := rfl

theorem Marks.fault (k b : Nat) (s : State) : Marks k s (s.fault (pRe k) b) where
  keeps := (fault_keeps s k b).mono fun _ => List.mem_append_right _
  faults _ hi := fault_on_of_on b hi
  skipped h := by
    have hrd : (s.fault (pRe k) b).rd (RE.INT_SKIPPED k) = s.rd (RE.INT_SKIPPED k) :=
      State.fault_rd _ _ _ _ fun i hi => (engineFault_key_ne (b := 162) (.inl (by decide)) hi).symm
    rw [State.on] at h ⊢
    rw [hrd]; exact h
  duty := by rw [State.fault_engine]
  frame := by
    obtain ⟨r, q, h⟩ := State.fault_state s (pRe k) b
    rw [h]

theorem pushEntry_pca (s : State) (h : Nat) (e : Entry) : s.pushEntry h e = { s with pca := (s.pushEntry h e).pca } := by
  unfold State.pushEntry
  split <;> rfl

theorem Marks.pushEntry (k : Nat) (s : State) (h : Nat) (e : Entry) : Marks k s (s.pushEntry h e) := by
  rw [pushEntry_pca]
  exact ⟨(KeepsRegs.refl _ s).of_cur rfl, fun _ _ => id, id, rfl, rfl⟩

theorem Marks.closeReFrame (k : Nat) (s : State) : Marks k s (s.closeReFrame k) := by
  unfold State.closeReFrame
  refine Marks.trans ((((Marks.wr _ ?_ ?_ ?_).trans (Marks.wr _ ?_ ?_ ?_)).trans (Marks.wr _ ?_ ?_ ?_)).trans (Marks.wr _ ?_ ?_ ?_))
    (Marks.setEngine _ _ ?_)
  case refine_13 => rfl
  all_goals simp [markerKeys, RE.SHOTS_LAST, RE.SKIPPED_LAST, RE.SLOTS_MAX_LAST, RE.ERRORS_LAST, pRe]

theorem Marks.callFrameEnd (k : Nat) (s : State) (x : ShotRef) : Marks k s (s.callFrameEnd k x) := by
  unfold State.callFrameEnd
  split
  · exact Marks.refl k s
  · refine Marks.trans (Marks.setEngine k s ?_) (Marks.closeReFrame k _)
    rfl

theorem Marks.writeMarker (k : Nat) (s : State) (x : ShotRef) (o n : Nat) : Marks k s (s.writeMarker k x o n) := by
  unfold State.writeMarker
  refine Marks.trans ?_ (Marks.callFrameEnd k _ x)
  have hpush := Marks.pushEntry k s (k / 8) { marker := true, word := markerWord x o n, re := k }
  split
  · refine hpush.trans (Marks.setEngine k _ ?_)
    exact hpush.duty.symm
  · exact hpush

theorem Marks.giveUpWith (k : Nat) (s : State) (x : ShotRef) (n : Nat) : Marks k s (s.giveUpWith k x n) := by
  unfold State.giveUpWith
  refine Marks.trans ?_ (Marks.writeMarker k _ x ocSkipped n)
  have hraise : Marks k s ((s.setEngine k { s.engine k with skippedFrame := (s.engine k).skippedFrame + 1 }).raise (RE.INT_SKIPPED k)) :=
    Marks.trans (Marks.setEngine k s (e := { s.engine k with skippedFrame := (s.engine k).skippedFrame + 1 }) rfl) (Marks.raiseSkipped k _)
  split
  · exact hraise.trans (Marks.fault k 0 _)
  · exact hraise

theorem Marks.giveUpOpt (k : Nat) (s : State) (x : Option ShotRef) : Marks k s (s.giveUpOpt k x) := by
  cases x with
  | none => exact Marks.refl k s
  | some x => exact Marks.giveUpWith k s x 0

end Sys2Proof.Machine
end

section
/-! PROOFS. Accesses outside the regions, memory errors of loads and fetches, and lockup (R179, R181, R182, R197). -/
namespace Sys2Proof.Machine
open Sys2Proof

/-! ### ERROR's entry from an engine with any count of issue slots -/

/-- What the statement of ERROR's entry says of the slots that the interrupted handler took (R210) is nothing. -/
theorem EntersError.of_shotSlots {k cause n : Nat} {addr : Word} {s t u : State} (h : EntersError k cause addr s t)
    (he : u.engine k = { t.engine k with shotSlots := n }) (hr : u.regs = t.regs)
    (hs : u = { s.setEngine k (u.engine k) with regs := u.regs }) : EntersError k cause addr s u := by
  have hrd : u.rd = t.rd := by unfold State.rd; rw [hr]
  unfold EntersError KeepsRegs State.on at *
  rw [he, hrd]
  obtain ⟨hrun, hint, hpc, h1, h2, h3, h4, h30, h31, hregs, hframe, hshow, hrest⟩ := h
  obtain ⟨h5, h6, h7, hrate, hkeep, -⟩ := hrest
  refine ⟨hrun, hint, hpc, h1, h2, h3, h4, h30, h31, hregs, ?_, hshow, h5, h6, h7, hrate, hkeep, ?_⟩
  · rw [hframe]
  · rw [he] at hs
    exact hs

/-- A fault neither reads nor writes the engines. -/
theorem foldl_put_setEngine (p m k : Nat) (e : Engine) (l : List Nat) (s : State) :
    l.foldl (fun s i => if bit m i then s.put (C.FAULT p i) true else s) (s.setEngine k e)
      = (l.foldl (fun s i => if bit m i then s.put (C.FAULT p i) true else s) s).setEngine k e := by
  induction l generalizing s with
  | nil => rfl
  | cons i l ih =>
    rw [List.foldl_cons, List.foldl_cons]
    split
    · exact ih (s.put (C.FAULT p i) true)
    · exact ih s

theorem setFaults_setEngine (s : State) (p m k : Nat) (e : Engine) : (s.setEngine k e).setFaults p m = (s.setFaults p m).setEngine k e := by
  unfold State.setFaults
  have hon (f : Fld) : (s.setEngine k e).on f = s.on f := rfl
  rw [foldl_put_setEngine, hon]
  generalize (List.range 32).foldl (fun s i => if bit m i then s.put (C.FAULT p i) true else s) s = t
  split
  · rfl
  · rfl

/-- The state with the cause shown, before the engine enters ERROR. -/
def State.causeShown (s : State) (k cause : Nat) (addr : Word) : State :=
  State.raise (((s.wr (RE.ERR_CAUSE k) cause).wr (RE.ERR_PC k) (s.engine k).pc.toNat).wr (RE.ERR_ADDR k) addr.toNat) (RE.INT_ERROR k)

/-- The engine that enters ERROR with n issue slots counted. -/
def Engine.raisedAt (e : Engine) (n cause : Nat) (addr : Word) : Engine := { e.raised cause addr with shotSlots := n }

theorem errorShown_eq (s : State) (k cause : Nat) (addr : Word) :
    s.errorShown k cause addr = (s.causeShown k cause addr).setEngine k ((s.engine k).raised cause addr) := rfl

theorem reError_at {s : State} {k n : Nat} (cause : Nat) (addr : Word) (hr : (s.engine k).running ≠ some .error) :
    s.reError k { s.engine k with slots := n } cause addr =
      if s.rdGen pREG (s.engine k).frameGen REG.ERR_LIMIT ≤ (s.engine k).errorsFrame + 1
      then ((s.causeShown k cause addr).setEngine k ((s.engine k).raisedAt n cause addr)).fault (pRe k) 1
      else (s.causeShown k cause addr).setEngine k ((s.engine k).raisedAt n cause addr) := by
  unfold State.reError
  exact if_neg hr

/-- A cause raised outside the ERROR handler enters it, whatever the count of issue slots that the engine shows. -/
theorem reError_entersError_slots {s : State} {re : Fin 72} {cause n : Nat} (addr : Word) (hc : cause < 256)
    (hr : (s.engine re).running ≠ some .error) :
    EntersError re cause addr s (s.reError re { s.engine re with slots := n } cause addr) := by
  have hslotted := reError_entersError addr hc hr
  rw [reError_of_not_error cause addr hr, errorShown_eq] at hslotted
  rw [reError_at cause addr hr]
  split at hslotted
  · rename_i hlimit
    rw [if_pos hlimit]
    refine hslotted.of_shotSlots (n := n) ?_ ?_ ?_
    · rw [State.fault_engine, State.fault_engine, State.engine_set, State.engine_set]; rfl
    · rw [State.fault, State.fault, setFaults_setEngine, setFaults_setEngine]; rfl
    · rw [State.fault_engine, State.engine_set]
      exact errRate_regs _ re
  · rename_i hlimit
    rw [if_neg hlimit]
    refine hslotted.of_shotSlots (n := n) ?_ rfl ?_
    · rw [State.engine_set, State.engine_set]; rfl
    · rw [State.engine_set]; rfl

/-! ### Uncorrectable errors of an engine's memories (R181) -/

/-- The state in which an uncorrectable error of an engine's memories has counted and shown its fault. -/
def State.ueShown (s : State) (k : Nat) : State := (s.count (RE.MEM_UE k) 1).fault (pRe k) 3

theorem ueShown_engine (s : State) (k i : Nat) : (s.ueShown k).engine i = s.engine i := State.fault_engine _ _ _ _

theorem memUe_mask (re : Fin 72) : bit (2 ^ 3 + faultCommons (pRe re) 3) 3 = true := by
  revert re; decide

/-- An uncorrectable error enters ERROR, counts, and sets FAULT.MEM_UE. -/
theorem memUe_entersError {s : State} {re : Fin 72} {cause n : Nat} (addr : Word) (hc : cause < 256)
    (hr : (s.engine re).running ≠ some .error) :
    EntersError re cause addr (s.ueShown re) (s.memUe re { s.engine re with slots := n } cause addr)
      ∧ (s.memUe re { s.engine re with slots := n } cause addr).rd (RE.MEM_UE re) = min (s.rd (RE.MEM_UE re) + 1) 65535
      ∧ (s.memUe re { s.engine re with slots := n } cause addr).on (RE.FAULT_MEM_UE re) = true := by
  have henter := reError_entersError_slots (s := s.ueShown re) (n := n) addr hc (by rwa [ueShown_engine])
  rw [ueShown_engine] at henter
  obtain ⟨-, -, -, -, -, -, -, -, -, -, -, -, -, -, -, -, hkeep, -⟩ := id henter
  refine ⟨henter, ?_, ?_⟩
  · have hcount : (s.ueShown re).rd (RE.MEM_UE re) = min (s.rd (RE.MEM_UE re) + 1) 65535 := by
      rw [State.ueShown, State.fault_rd _ _ _ (RE.MEM_UE re) fun i hi => (engineFault_key_ne (b := 832) (.inr (by decide)) hi).symm]
      exact State.rd_count _ _ _
    exact (hkeep _ (by simp [RE.MEM_UE, RE.ERR_CAUSE, RE.ERR_PC, RE.ERR_ADDR, RE.INT_ERROR, RE.FAULT_ERR_RATE, C.FAULT, pRe, fld_key])).trans hcount
  · have hon : (s.ueShown re).on (RE.FAULT_MEM_UE re) = true := State.setFaults_on _ _ _ 3 (by decide) (memUe_mask re)
    have := hkeep (RE.FAULT_MEM_UE re) (by simp [RE.FAULT_MEM_UE, RE.ERR_CAUSE, RE.ERR_PC, RE.ERR_ADDR, RE.INT_ERROR, RE.FAULT_ERR_RATE, C.FAULT, pRe, fld_key])
    rw [State.on] at hon ⊢
    rw [← hon]
    exact congrArg (· != 0) this

/-- A load of a word of the engine's memories that has an uncorrectable error. -/
theorem load_double {s : State} {k : Nat} {e : Engine} {a : Word} {n align : Nat} {go : State → Engine → List Byte → State}
    (hal : a.toNat % align = 0) (h : regionOf a.toNat n = .imem ∨ regionOf a.toNat n = .dmem) :
    s.load k e a n align .double go = s.memUe k e (if regionOf a.toNat n = .imem then 4 else 5) a := by
  unfold State.load
  rcases h with h | h
  · simp [hal, h, ceImem]
  · simp [hal, h, ceDmem]

/-- A load of a word of the engine's memories whose error the check corrects. -/
theorem load_single {s : State} {k : Nat} {e : Engine} {a : Word} {n align : Nat} {go : State → Engine → List Byte → State}
    (hal : a.toNat % align = 0) (h : regionOf a.toNat n = .imem ∨ regionOf a.toNat n = .dmem) (hbad : e.bad a.toNat n = false) :
    s.load k e a n align .single go
      = go (s.count (RE.MEM_CE k) 1) e (s.reBytes e (s.rd (RE.RG_SERVED k)) (regionOf a.toNat n) a.toNat n) := by
  unfold State.load
  rcases h with h | h
  · simp [hal, h, hbad]
  · simp [hal, h, hbad]

theorem load_outside {s : State} {k : Nat} {e : Engine} {a : Word} {n align : Nat} {found : Ecc} {go : State → Engine → List Byte → State}
    (hal : a.toNat % align = 0) (h : regionOf a.toNat n = .none_) : s.load k e a n align found go = s.reError k e 3 a := by
  unfold State.load
  simp [hal, h, ceAccess]

/-- A load of a word of the window or the descriptors that has an uncorrectable error goes on with bytes that the stacks give it. -/
theorem load_stacks_double {s : State} {k : Nat} {e : Engine} {a : Word} {n align : Nat} {go : State → Engine → List Byte → State}
    (hal : a.toNat % align = 0) (h : regionOf a.toNat n = .window ∨ regionOf a.toNat n = .descriptor) :
    ∃ word bs, s.load k e a n align .double go
      = go (((s.stackEcc word .double).count (RE.WIN_UE k) 1).drew 3) { e with winEcc := true } bs := by
  unfold State.load
  rcases h with h | h
  · simp only [hal, h]; exact ⟨_, _, rfl⟩
  · simp only [hal, h]; exact ⟨_, _, rfl⟩

theorem store_outside {s : State} {k : Nat} {e : Engine} {a : Word} {align : Nat} {bs : List Byte} (hal : a.toNat % align = 0)
    (h : regionOf a.toNat bs.length ≠ .dmem) : s.store k e a align bs = s.reError k e 3 a := by
  unfold State.store
  simp [hal, h, ceAccess]

/-- The check of a stacks bank touches no word of an engine's folio. -/
theorem stackEcc_rd_engine (s : State) (addr : Nat) (found : Ecc) (k b w r : Nat) (hb : b < pageBits) :
    (s.stackEcc addr found).rd (fld (pRe k) b w r) = s.rd (fld (pRe k) b w r) := by
  have hpage : addr / 0x1000 % 16 < 16 := Nat.mod_lt _ (by decide)
  generalize hj : addr / 0x1000 % 16 = j at hpage
  simp only [pageBits] at hb
  have hne {x w' r' : Nat} (hx : x < 32768) : (fld (pRe k) b w r).key ≠ (fld (0x53 + j) x w' r').key := by
    simp only [fld_key, pRe, pageBits]; omega
  unfold State.stackEcc
  rw [hj]
  cases found with
  | clean => rfl
  | single =>
    exact (State.rd_put_ne _ _ _ _ (hne (by decide))).trans (State.rd_wr_ne _ _ _ _ (hne (by decide)))
  | double =>
    refine (State.fault_rd _ _ _ _ fun i hi => hne (by omega)).trans ?_
    exact (State.rd_put_ne _ _ _ _ (hne (by decide))).trans ((State.rd_wr_ne _ _ _ _ (hne (by decide))).trans
      (State.rd_wr_ne _ _ _ _ (hne (by decide))))

/-! ### Fetches -/

/-- A fetch whose word cannot be corrected enters ERROR, whatever the instruction (R181). -/
theorem fetchDouble {s : State} {re : Fin 72} {w : Word} {i : Instr} {go : State → Engine → State} (hx : s.executing re = true)
    (hr : (s.engine re).running ≠ some .error) (hret : (s.engine re).pc ≠ 0xFFFFFFF0) (hpc : (s.engine re).pc.toNat < 0x10000)
    (hi : exec i s = .next (s.issue re w .double go)) :
    ∃ t, exec i s = .next t ∧ EntersError re 4 (s.engine re).pc (s.ueShown re) t
      ∧ t.rd (RE.MEM_UE re) = min (s.rd (RE.MEM_UE re) + 1) 65535 ∧ t.on (RE.FAULT_MEM_UE re) = true := by
  have hissue : s.issue re w .double go = s.memUe re (s.engine re) 4 (s.engine re).pc := by
    have hlow : ¬0x10000 ≤ (s.engine re).pc.toNat := Nat.not_le.mpr hpc
    have hret' : (s.engine re).pc ≠ retAddr := hret
    unfold State.issue
    simp [hx, hret', hlow, ceImem]
  exact ⟨_, hi.trans (congrArg _ hissue), memUe_entersError (n := (s.engine re).slots) _ (by decide) hr⟩

/-! ### Lockup (R197) -/

/-- What a locked engine shows. -/
structure LockedUp (k : Nat) (s : State) : Prop where
  state : s.rd (RE.STATE k) = 6
  status : s.on (RE.ST_LOCKED k) = true
  fault : s.on (C.FAULT (pRe k) 4) = true
  health : s.on (C.FAULT (pRe k) 26) = true
  cause : s.rd (RE.ERR_CAUSE k) = 6

/-- A field of an engine that the dispatcher's markers do not touch. -/
theorem Marks.rd {k b w r : Nat} {s t : State} (h : Marks k s t) (hb : b ≠ 162) (hf : b < 256 ∨ 288 ≤ b)
    (hl : (fld (pRe k) b w r).key ∉ [(RE.SHOTS_LAST k).key, (RE.SKIPPED_LAST k).key, (RE.SLOTS_MAX_LAST k).key, (RE.ERRORS_LAST k).key]) :
    t.rd (fld (pRe k) b w r) = s.rd (fld (pRe k) b w r) := by
  refine h.keeps _ fun hm => ?_
  rcases List.mem_append.mp hm with hm | hm
  · rcases List.mem_cons.mp hm with hm | hm
    · simp only [RE.INT_SKIPPED, pRe, fld_key] at hm; omega
    · exact hl hm
  · obtain ⟨i, hi, heq⟩ := List.mem_map.mp hm
    exact engineFault_key_ne hf (List.mem_range.mp hi) heq

theorem LockedUp.marks {k : Nat} {s t : State} (h : LockedUp k s) (hm : Marks k s t) : LockedUp k t where
  state := (hm.rd (by decide) (by decide) (by simp [RE.SHOTS_LAST, RE.SKIPPED_LAST, RE.SLOTS_MAX_LAST, RE.ERRORS_LAST, pRe, fld_key])).trans h.state
  status := by
    have hrd : t.rd (RE.ST_LOCKED k) = s.rd (RE.ST_LOCKED k) := hm.rd (by decide) (by decide)
      (by simp [RE.SHOTS_LAST, RE.SKIPPED_LAST, RE.SLOTS_MAX_LAST, RE.ERRORS_LAST, pRe, fld_key])
    rw [State.on, hrd]
    exact h.status
  fault := hm.faults 4 (by decide) h.fault
  health := hm.faults 26 (by decide) h.health
  cause := (hm.rd (by decide) (by decide) (by simp [RE.SHOTS_LAST, RE.SKIPPED_LAST, RE.SLOTS_MAX_LAST, RE.ERRORS_LAST, pRe, fld_key])).trans h.cause

theorem LockedUp.retireOld {k : Nat} {s : State} (h : LockedUp k s) : LockedUp k s.retireOld where
  state := (retireOld_rd (lasting_engine (by decide) (by decide))).trans h.state
  status := (retireOld_on (lasting_engine (by decide) (by decide))).trans h.status
  fault := (retireOld_on (lasting_engine (by decide) (by decide))).trans h.fault
  health := (retireOld_on (lasting_engine (by decide) (by decide))).trans h.health
  cause := (retireOld_rd (lasting_engine (by decide) (by decide))).trans h.cause

/-! The fields in which STATE shows, and what every other field keeps. -/

theorem setReState_state (s : State) (k st : Nat) : (s.setReState k st).rd (RE.STATE k) = st % 8 := by
  have h1 : (RE.STATE k).key ≠ (RE.ST_SPARE k).key := by simp [RE.STATE, RE.ST_SPARE, fld_key]
  have h2 : (RE.STATE k).key ≠ (RE.ST_SERVING k).key := by simp [RE.STATE, RE.ST_SERVING, fld_key]
  have h3 : (RE.STATE k).key ≠ (RE.ST_LOCKED k).key := by simp [RE.STATE, RE.ST_LOCKED, fld_key]
  exact (State.rd_put_ne _ _ _ _ h1).trans ((State.rd_put_ne _ _ _ _ h2).trans ((State.rd_put_ne _ _ _ _ h3).trans (State.rd_wr_self _ _ _)))

theorem setReState_locked (s : State) (k : Nat) : (s.setReState k stLocked).on (RE.ST_LOCKED k) = true := by
  have h1 : (RE.ST_LOCKED k).key ≠ (RE.ST_SPARE k).key := by simp [RE.ST_LOCKED, RE.ST_SPARE, fld_key]
  have h2 : (RE.ST_LOCKED k).key ≠ (RE.ST_SERVING k).key := by simp [RE.ST_LOCKED, RE.ST_SERVING, fld_key]
  exact (State.on_put_ne _ _ _ _ h1).trans ((State.on_put_ne _ _ _ _ h2).trans (State.on_put_self _ _ _ Nat.one_pos))

theorem setReState_keeps (s : State) (k st : Nat) :
    KeepsRegs [(RE.STATE k).key, (RE.ST_LOCKED k).key, (RE.ST_SERVING k).key, (RE.ST_SPARE k).key] s (s.setReState k st) :=
  ((((KeepsRegs.refl _ s).wr _ _ (by simp)).put _ _ (by simp)).put _ _ (by simp)).put _ _ (by simp)

theorem setReState_frame (s : State) (k st : Nat) : s.setReState k st = { s with regs := (s.setReState k st).regs } := rfl

theorem lockUp_mask (re : Fin 72) : bit (2 ^ 4 + faultCommons (pRe re) 4) 4 = true ∧ bit (2 ^ 4 + faultCommons (pRe re) 4) 26 = true := by
  revert re; decide

/-- STATE LOCKED with the fault of the lockup, the cause having been shown. -/
theorem setReState_lockedUp {s : State} (re : Fin 72) (h : s.rd (RE.ERR_CAUSE re) = 6) :
    LockedUp re ((s.setReState re stLocked).fault (pRe re) 4) := by
  have hfault (b w r : Nat) (hb : b < 256 ∨ 288 ≤ b) :
      ((s.setReState re stLocked).fault (pRe re) 4).rd (fld (pRe re) b w r) = (s.setReState re stLocked).rd (fld (pRe re) b w r) :=
    State.fault_rd _ _ _ _ fun i hi => (engineFault_key_ne hb hi).symm
  obtain ⟨h4, h26⟩ := lockUp_mask re
  refine ⟨?state, ?status, State.setFaults_on _ _ _ 4 (by decide) h4, State.setFaults_on _ _ _ 26 (by decide) h26, ?cause⟩
  case state => exact (hfault 528 3 1 (.inr (by decide))).trans (setReState_state s re stLocked)
  case status =>
    have hrd : ((s.setReState re stLocked).fault (pRe re) 4).rd (RE.ST_LOCKED re) = (s.setReState re stLocked).rd (RE.ST_LOCKED re) :=
      hfault 131 1 0 (.inl (by decide))
    rw [State.on, hrd]
    exact setReState_locked s re
  case cause =>
    refine (hfault 760 8 0 (.inr (by decide))).trans ((setReState_keeps s re stLocked (RE.ERR_CAUSE re) ?_).trans h)
    simp [RE.ERR_CAUSE, RE.STATE, RE.ST_LOCKED, RE.ST_SERVING, RE.ST_SPARE, fld_key]

/-- The engine that stops in lockup has nothing left to do. -/
def Engine.stopped (e : Engine) : Engine := { e with running := none, interrupted := none, current := none, pending := none, calls := [] }

/-- An engine that leaves no service does nothing more when it stops. -/
theorem leave_of_none {s : State} {k : Nat} (h : (s.engine k).leaving = none) : s.leave k = s := by
  unfold State.leave
  simp only [h]

/-- The engine has stopped and shows its lockup; its shots are still to be given up. -/
def State.lockShown (s : State) (k : Nat) (e : Engine) : State := ((s.setEngine k e.stopped).setReState k stLocked).fault (pRe k) 4

/-- The shot that the handler under ERROR was working on is given up with what it has emitted. -/
def State.giveUpInHand (s : State) (k : Nat) (e : Engine) : State :=
  match e.current with
  | some x => if e.interrupted = some Handler.shot then s.giveUpWith k x e.emitted else s
  | none => s

theorem lockUp_eq (s : State) (k : Nat) (e : Engine) :
    s.lockUp k e = ((((s.lockShown k e).giveUpInHand k e).giveUpOpt k e.pending).leave k).retireOld := rfl

theorem Marks.giveUpInHand (k : Nat) (s : State) (e : Engine) : Marks k s (s.giveUpInHand k e) := by
  unfold State.giveUpInHand
  split
  · split
    · exact Marks.giveUpWith k s _ _
    · exact Marks.refl k s
  · exact Marks.refl k s

/-- The lockup of an engine that no handover has relieved. -/
theorem lockUp_shows {s : State} {re : Fin 72} {e : Engine} (hc : s.rd (RE.ERR_CAUSE re) = 6) (hl : e.leaving = none) :
    LockedUp re (s.lockUp re e) ∧ ((s.lockUp re e).engine re).duty = e.stopped.duty := by
  have hmarks := (Marks.giveUpInHand re (s.lockShown re e) e).trans (Marks.giveUpOpt re _ e.pending)
  have hshown : LockedUp re (s.lockShown re e) := setReState_lockedUp re hc
  have hengine : (s.lockShown re e).engine re = e.stopped := by
    rw [State.lockShown, State.fault_engine, setReState_frame]
    exact State.engine_set s re e.stopped
  have hduty := hmarks.duty
  rw [hengine] at hduty
  have hleave : ((((s.lockShown re e).giveUpInHand re e).giveUpOpt re e.pending).engine re).leaving = none :=
    (congrArg Engine.leaving hduty).trans hl
  rw [lockUp_eq, leave_of_none hleave, retireOld_engine]
  exact ⟨(hshown.marks hmarks).retireOld, hduty⟩

/-! ### The statement -/

/-- TRAP inside the ERROR handler locks the engine up. -/
theorem trap_locksUp {re : Fin 72} {rd ra rb : BitVec 5} {s : State} (hr : (s.engine re).running = some .error)
    (hl : (s.engine re).leaving = none) :
    Issued (.trap ⟨re, ·⟩ rd ra rb) s re (encode (.fmtR 0x3F rd ra rb 4)) fun _ t =>
      LockedUp re t ∧ (t.engine re).duty = (s.engine re).slotted.stopped.duty := by
  refine sys_issued (go := fun s e => s.reError re e ceSoft 0) (fun _ => rfl) fun fetch => ?_
  have hreg : (((((s.fetched re fetch).wr (RE.ERR_CAUSE re) 6).wr (RE.ERR_PC re) (s.engine re).slotted.pc.toNat).wr (RE.ERR_ADDR re)
      (0 : Word).toNat)).rd (RE.ERR_CAUSE re) = 6 := by
    have h1 : (RE.ERR_CAUSE re).key ≠ (RE.ERR_PC re).key := by simp [RE.ERR_CAUSE, RE.ERR_PC, fld_key]
    have h2 : (RE.ERR_CAUSE re).key ≠ (RE.ERR_ADDR re).key := by simp [RE.ERR_CAUSE, RE.ERR_ADDR, fld_key]
    rw [State.rd_wr_ne _ _ _ _ h2, State.rd_wr_ne _ _ _ _ h1, State.rd_wr_self]
    rfl
  have hlock := lockUp_shows (e := (s.engine re).slotted) hreg hl
  have herr : (s.fetched re fetch).reError re (s.engine re).slotted ceSoft 0 = (((((s.fetched re fetch).wr (RE.ERR_CAUSE re) 6).wr (RE.ERR_PC re)
      (s.engine re).slotted.pc.toNat).wr (RE.ERR_ADDR re) (0 : Word).toNat)).lockUp re (s.engine re).slotted := by
    unfold State.reError
    exact if_pos hr
  rw [herr]
  exact hlock

/-- A load of the window or the descriptors with an uncorrectable error. -/
theorem lw_stacks_double {re : Fin 72} {rd ra : BitVec 5} {imm : BitVec 16} {s : State}
    (hal : ((s.engine re).reg ra + imm.signExtend 32).toNat % 4 = 0)
    (h : regionOf ((s.engine re).reg ra + imm.signExtend 32).toNat 4 = .window
      ∨ regionOf ((s.engine re).reg ra + imm.signExtend 32).toNat 4 = .descriptor) :
    Issued (.lw ⟨re, ·⟩ rd ra imm .double) s re (encode (.fmtI 0x08 rd ra imm)) fun u t =>
      (∃ v, { s.engine re with winEcc := true }.GotScalar (t.engine re) rd v)
        ∧ t.rd (RE.WIN_UE re) = min (u.rd (RE.WIN_UE re) + 1) 65535 := by
  refine issued (go := fun s e => s.load re e (e.reg ra + imm.signExtend 32) 4 4 .double
    fun s e bs => s.next re (e.setReg rd (BitVec.ofNat 32 (ofLeBytes bs)))) (fun _ => rfl) fun fetch => ?_
  simp only [reg_slotted]
  obtain ⟨word, bs, hload⟩ := load_stacks_double (s := s.fetched re fetch) (k := re) (e := (s.engine re).slotted)
    (go := fun s e bs => s.next re (e.setReg rd (BitVec.ofNat 32 (ofLeBytes bs)))) hal h
  rw [hload]
  refine ⟨⟨BitVec.ofNat 32 (ofLeBytes bs), ?_⟩, ?_⟩
  · rw [State.next, State.engine_set]
    exact gotScalar { s.engine re with winEcc := true } rd _
  · have hcount := State.rd_count ((s.fetched re fetch).stackEcc word .double) (RE.WIN_UE re) 1
    have hkeep : ((s.fetched re fetch).stackEcc word .double).rd (RE.WIN_UE re) = (s.fetched re fetch).rd (RE.WIN_UE re) :=
      stackEcc_rd_engine _ _ _ _ _ _ _ (by decide)
    rw [hkeep] at hcount
    exact hcount

/-- A load of the engine's memories with an error that the check corrects. -/
theorem lw_single {re : Fin 72} {rd ra : BitVec 5} {imm : BitVec 16} {s : State}
    (hal : ((s.engine re).reg ra + imm.signExtend 32).toNat % 4 = 0)
    (h : regionOf ((s.engine re).reg ra + imm.signExtend 32).toNat 4 = .imem
      ∨ regionOf ((s.engine re).reg ra + imm.signExtend 32).toNat 4 = .dmem)
    (hbad : (s.engine re).bad ((s.engine re).reg ra + imm.signExtend 32).toNat 4 = false) :
    Issued (.lw ⟨re, ·⟩ rd ra imm .single) s re (encode (.fmtI 0x08 rd ra imm)) fun u t =>
      (s.engine re).GotScalar (t.engine re) rd (BitVec.ofNat 32 (ofLeBytes ((List.range 4).map
          (s.loadedByte re ((s.engine re).reg ra + imm.signExtend 32) 4))))
        ∧ t.rd (RE.MEM_CE re) = min (u.rd (RE.MEM_CE re) + 1) 65535 ∧ KeepsRegs [(RE.MEM_CE re).key] u t := by
  refine issued (go := fun s e => s.load re e (e.reg ra + imm.signExtend 32) 4 4 .single
    fun s e bs => s.next re (e.setReg rd (BitVec.ofNat 32 (ofLeBytes bs)))) (fun _ => rfl) fun fetch => ?_
  have hregion : regionOf ((s.engine re).reg ra + imm.signExtend 32).toNat 4 ≠ .none_ := by
    rcases h with h | h <;> rw [h] <;> decide
  have hbad' : (s.engine re).slotted.bad ((s.engine re).reg ra + imm.signExtend 32).toNat 4 = false := hbad
  simp only [reg_slotted]
  rw [load_single hal h hbad', fetched_loadedList fetch hregion]
  refine ⟨?_, ?_, ?_⟩
  · rw [State.next, State.engine_set]
    exact gotScalar _ rd _
  · exact State.rd_count (s.fetched re fetch) (RE.MEM_CE re) 1
  · exact ((KeepsRegs.refl _ (s.fetched re fetch)).count (RE.MEM_CE re) 1 (by simp)).of_cur rfl

/-- A load of the engine's memories with an uncorrectable error enters ERROR. -/
theorem lw_double {re : Fin 72} {rd ra : BitVec 5} {imm : BitVec 16} {s : State}
    (hal : ((s.engine re).reg ra + imm.signExtend 32).toNat % 4 = 0)
    (h : regionOf ((s.engine re).reg ra + imm.signExtend 32).toNat 4 = .imem
      ∨ regionOf ((s.engine re).reg ra + imm.signExtend 32).toNat 4 = .dmem) (hr : (s.engine re).running ≠ some .error) :
    Issued (.lw ⟨re, ·⟩ rd ra imm .double) s re (encode (.fmtI 0x08 rd ra imm)) fun u t =>
      EntersError re (if regionOf ((s.engine re).reg ra + imm.signExtend 32).toNat 4 = .imem then 4 else 5)
          ((s.engine re).reg ra + imm.signExtend 32) (u.ueShown re) t
        ∧ t.rd (RE.MEM_UE re) = min (u.rd (RE.MEM_UE re) + 1) 65535 ∧ t.on (RE.FAULT_MEM_UE re) = true := by
  refine issued (go := fun s e => s.load re e (e.reg ra + imm.signExtend 32) 4 4 .double
    fun s e bs => s.next re (e.setReg rd (BitVec.ofNat 32 (ofLeBytes bs)))) (fun _ => rfl) fun fetch => ?_
  simp only [reg_slotted]
  rw [load_double hal h]
  have henter := memUe_entersError (s := s.fetched re fetch) (re := re) (n := (s.engine re).slots + 1)
    (cause := if regionOf ((s.engine re).reg ra + imm.signExtend 32).toNat 4 = .imem then 4 else 5)
    ((s.engine re).reg ra + imm.signExtend 32) (by split <;> decide) (by rwa [fetched_engine])
  rw [fetched_engine] at henter
  exact henter

/-- Settles O13: loads by their region, fetches by `memUe`, and lockup by the markers of the shots that are given up. -/
theorem reLoadErrorsAndLockup : Obligations.ReLoadErrorsAndLockup := by
  unfold Obligations.ReLoadErrorsAndLockup
  refine ⟨?loads, ?fetches, ?lockup⟩
  case loads =>
    intro re rd ra imm s e a r w b hal
    refine ⟨fun found h => ?outside, fun h => ?store, fun h hr => ?double, fun h hbad => ?single, fun h => lw_stacks_double hal h⟩
    case outside =>
      exact raisesError (go := fun s e => s.load re e (e.reg ra + imm.signExtend 32) 4 4 found
        fun s e bs => s.next re (e.setReg rd (BitVec.ofNat 32 (ofLeBytes bs)))) (by decide) (fun _ => rfl) fun _ => load_outside hal h
    case store =>
      refine raisesError (go := fun s e => s.store re e (e.reg ra + imm.signExtend 32) 4 (leBytes 4 (e.reg rd).toNat)) (by decide)
        (fun _ => rfl) fun _ => store_outside hal ?_
      rw [leBytes_length]
      exact h
    case double => exact lw_double hal h hr
    case single =>
      have hsingle := lw_single (rd := rd) hal h hbad
      rw [show (List.range 4).map (s.loadedByte re a 4) = [b 0, b 1, b 2, b 3] from rfl, ofLeBytes_word] at hsingle
      exact hsingle
  case fetches =>
    intro re a b c imm joff off mode f func found s e hx hr hret hpc
    simp only [List.forall_mem_cons]
    have double {i : Instr} {w : Word} {go : State → Engine → State} (hi : exec i s = .next (s.issue re w .double go)) :=
      fetchDouble hx hr hret hpc hi
    exact ⟨double rfl, double rfl, double rfl, double rfl, double rfl, double rfl, double rfl, double rfl, double rfl, double rfl,
      double rfl, double rfl, double rfl, double rfl, double rfl, double rfl, double rfl, double rfl, double rfl, double rfl,
      double rfl, double rfl, double rfl, double rfl, double rfl, double rfl, double rfl, double rfl, double rfl, double rfl,
      double rfl, double rfl, double rfl, double rfl, double rfl, double rfl, double rfl, double rfl, double rfl, List.forall_mem_nil _⟩
  case lockup =>
    intro re rd ra rb s hr hl hissues fetch hf
    obtain ⟨t, ht, hlock, hduty⟩ := trap_locksUp (rd := rd) (ra := ra) (rb := rb) hr hl hissues fetch hf
    exact ⟨t, ht, hlock.state, hlock.status, congrArg Engine.running hduty, hlock.fault, hlock.health, hlock.cause,
      congrArg Engine.pending hduty, congrArg Engine.current hduty⟩

end Sys2Proof.Machine
end

section
/-! PROOFS. Steps, the state after reset, and writes of a word of a folio that runs (R38 to R40, R64, R70, R526). -/
namespace Sys2Proof.Machine
open Sys2Proof

/-- Settles O56: the two branches of the step, by the queue. -/
theorem stepRunsTheFront : Obligations.StepRunsTheFront := by
  unfold Obligations.StepRunsTheFront
  refine ⟨fun c rest s => rfl, fun s h => ?_⟩
  unfold step
  rw [h]

/-! ### The state after reset -/

theorem reset_rd (f : Fld) : State.reset.rd f = f.reset := rfl

theorem reset_zeroRegs : State.reset.zeroRegs := fun _ => rfl

theorem reset_engineMemsWf : State.reset.engineMemsWf := by
  have hempty : Mem.wf ([] : Mem) := by decide
  exact fun _ => ⟨hempty, hempty⟩

theorem reset_version : ((List.range 183).all fun p => (State.reset.readWord p 4).2 == 0x01000101) = true := by decide +kernel

/-- Settles O60: reset's registers are an empty table, and its memories and engines the defaults. -/
theorem resetState : Obligations.ResetState := by
  unfold Obligations.ResetState
  refine ⟨reset_rd, rfl, fun p hp => ?version, rfl, ⟨reset_zeroRegs, State.reset_memsWf, reset_engineMemsWf, by unfold State.cellsObserve; decide⟩,
    fun h => ?locked⟩
  case version =>
    rw [State.busRead_folio _ _ _ hp (by decide) (by decide)]
    have hword := List.all_eq_true.mp reset_version p (List.mem_range.mpr hp)
    rw [beq_iff_eq.mp hword]
    rfl
  case locked => rfl

/-! ### Writes of a word -/

theorem bits_toNat {w : Nat} (x : BitVec w) (lo n : Nat) : bits x.toNat lo n = (x.extractLsb' lo n).toNat := by
  rw [BitVec.extractLsb'_toNat, Nat.shiftRight_eq_div_pow]
  rfl

theorem extract_bit (x : Word) (i : Nat) : ((x.extractLsb' i 1).toNat % 2 != 0) = x.getLsbD i := by
  rw [BitVec.extractLsb'_toNat, ← BitVec.testBit_toNat, Nat.testBit, Nat.one_and_eq_mod_two]
  simp

/-- A write that does not wait for the end of a switch-over's gap acts at once. -/
theorem wordCommand_written {s : State} {path : Path} {p off : Nat} (value : Word) (hp : p < 183) (ho : off < 0x1000) (ha : off % 4 = 0)
    (hw : ¬s.writesWait p) : s.wordCommand path p off value = (s.writeWord path p off value.toNat).written := by
  unfold State.wordCommand folioAddr
  rw [Nat.mul_comm, s.busWrite_folio path p off value.toNat hp ho ha]
  exact congrArg answered (if_neg hw)

/-- A write of PERTURB's word reaches `perturbWrite` in a folio that runs. -/
theorem writeWord_perturb {s : State} {path : Path} {p : Nat} (v : Nat) (hr : s.runs p = true) :
    s.writeWord path p 0x28 v = s.perturbWrite p v := by
  simp [State.writeWord, defined, hr]

/-- Where test access allows it, every field of PERTURB takes its bits. -/
theorem perturbWrite_open {s : State} (p : Nat) (value : Word)
    (h : s.on MON.UNLOCKED = true ∧ bit (s.rd MON.SCOPE) 0 = true ∧ s.rd SAF.STATE ≠ 2) : s.perturbWrite p value.toNat =
      (((((s.wr (C.EN p) (value.extractLsb' 31 1).toNat).wr (C.SYNC_STRETCH p) (value.extractLsb' 24 4).toNat).wr (C.HS_DELAY p)
        (value.extractLsb' 16 8).toNat).wr (C.BP_DUTY p) (value.extractLsb' 12 4).toNat).wr (C.FLAG_DELAY p)
        (value.extractLsb' 8 4).toNat).wr (C.BP_SEED p) (value.extractLsb' 0 8).toNat := by
  obtain ⟨h1, h2, h3⟩ := h
  have hstate : s.safety ≠ sfOperational := h3
  unfold State.perturbWrite
  simp only [h1, h2, bne_iff_ne, ne_eq, hstate, not_false_eq_true, Bool.and_self, Bool.true_and, if_true, bits_toNat]

theorem perturbWrite_closed {s : State} (p v : Nat)
    (h : ¬(s.on MON.UNLOCKED = true ∧ bit (s.rd MON.SCOPE) 0 = true ∧ s.rd SAF.STATE ≠ 2)) :
    s.perturbWrite p v = s.put (C.ERR_LOCK p) true := by
  unfold State.perturbWrite
  rw [if_neg]
  · rfl
  · simpa [State.safety, sfOperational, and_assoc] using h

/-- Settles O22: PERTURB's word is written field by field, or refused. -/
theorem perturbRule : Obligations.PerturbRule := by
  unfold Obligations.PerturbRule
  intro path page value s p open_ hr hw
  have hexec : exec (.perturbWrite path page value) s = .next (s.perturbWrite p value.toNat).written := by
    show Host.Outcome.next (s.wordCommand path p 0x28 value) = _
    rw [wordCommand_written value page.isLt (by decide) (by decide) hw, writeWord_perturb _ hr]
  refine ⟨fun h => ⟨_, hexec, ?_⟩, fun h => by rw [hexec, perturbWrite_closed p _ h]⟩
  rw [perturbWrite_open p value h]
  have hkeys : (C.EN p).key = p * 32768 + 351 ∧ (C.SYNC_STRETCH p).key = p * 32768 + 344 ∧ (C.HS_DELAY p).key = p * 32768 + 336
      ∧ (C.BP_DUTY p).key = p * 32768 + 332 ∧ (C.FLAG_DELAY p).key = p * 32768 + 328 ∧ (C.BP_SEED p).key = p * 32768 + 320 :=
    ⟨rfl, rfl, rfl, rfl, rfl, rfl⟩
  obtain ⟨h1, h2, h3, h4, h5, h6⟩ := hkeys
  refine ⟨?_, ?_, ?_, ?_, ?_, ?_, ?_, rfl⟩
  case refine_1 =>
    rw [State.on]
    simp (disch := simp [*]) only [State.rd_wr_ne, State.rd_wr_self]
    exact extract_bit value 31
  case refine_7 =>
    exact ((((((KeepsRegs.refl _ s).wr _ _ (by simp)).wr _ _ (by simp)).wr _ _ (by simp)).wr _ _ (by simp)).wr _ _ (by simp)).wr _ _ (by simp)
  all_goals
    simp (disch := simp [*]) only [State.rd_wr_ne, State.rd_wr_self]
    exact Nat.mod_eq_of_lt (BitVec.isLt _)

end Sys2Proof.Machine
end

section
/-! PROOFS. The lock of test access in OPERATIONAL and DEGRADED (R525) over states that no reset leads to. -/
namespace Sys2Proof.Machine
open Sys2Proof

/-- OPERATIONAL with test access locked, at the end of a COLD episode, over a life record that names engine 524,095 as fenced. The
record's type bounds no engine number, and by the flat keys of the register file FENCED 524095 of REG stands where UNLOCKED of MON
does. No step from reset writes such a record (it takes its engines below 72). -/
def strayRecord : State :=
  let s : State := { pending := [.episodeEnd] }
  { s.wr SAF.STATE sfOperational with rst.episodes := [{ reach := 0 }], nvs.life := [{ fenced := [524095] }] }

/-- The step has completed in OPERATIONAL or DEGRADED with test access unlocked. -/
def unlockedInOperation : Host.Outcome State Fault Refusal → Bool
  | .next t => t.operating && t.on MON.UNLOCKED
  | _ => false

theorem unlockedInOperation_next {r : Host.Outcome State Fault Refusal} (h : unlockedInOperation r = true) :
    ∃ t, r = .next t ∧ t.operating = true ∧ t.on MON.UNLOCKED = true := by
  cases r with
  | next t => exact ⟨t, rfl, by simpa [unlockedInOperation] using h⟩
  | fault => cases h
  | refused => cases h

theorem strayRecord_locked : strayRecord.on MON.UNLOCKED = false := by decide

theorem strayRecord_unlocks : unlockedInOperation (step strayRecord) = true := by decide +kernel

/-- Refutes O59: the statement ranges over every state, and from `strayRecord` the load of the engine map at the end of the COLD episode
marks a fenced engine whose number lies outside the map, in the place of UNLOCKED. -/
theorem not_lockedInOperation : ¬ Obligations.LockedInOperation := by
  unfold Obligations.LockedInOperation
  intro h
  obtain ⟨t, hstep, hoperating, hunlocked⟩ := unlockedInOperation_next strayRecord_unlocks
  have hlocked := h strayRecord t (fun _ => strayRecord_locked) hstep hoperating
  simp [hlocked] at hunlocked

end Sys2Proof.Machine
end

section
/-! PROOFS. What every operation of the model keeps: the queue of commands, and the invariant of R184, R531 and the memories' form.
`Tame` is preserved by one lemma per operation, and the statements about every step are read off the lemma for `exec`. -/
namespace Sys2Proof.Machine
open Sys2Proof

/-! ### Tame changes -/

/-- What the monitor port and the monitor behind it hold, but for the host memory and for which monitor runs. -/
def State.port (s : State) : MonState := { s.mon with mem := [], running := false, recovery := false }

/-- A change of state that keeps the queue of commands and the invariant, and with `port` the monitor port too. -/
structure Tame (port : Bool) (o s : State) : Prop where
  pending : s.pending = o.pending
  inv : o.Inv → s.Inv
  kept : port = true → s.port = o.port

theorem Tame.refl {port : Bool} (s : State) : Tame port s s := ⟨rfl, id, fun _ => rfl⟩

theorem Tame.trans {port : Bool} {o s t : State} (h : Tame port o s) (h' : Tame port s t) : Tame port o t :=
  ⟨h'.pending.trans h.pending, h'.inv ∘ h.inv, fun hp => (h'.kept hp).trans (h.kept hp)⟩

/-- All of the state that the invariant and the queue speak of. -/
def State.core (s : State) : Tab Engine × Mem × Mem × Mem × Mem × BitVec 79 × List Instr :=
  (s.engines, s.stackMem, s.mon.mem, s.nvs.mram, s.nvs.flash, s.jtag.cells, s.pending)

section
variable {port : Bool} {o s t : State}

theorem Tame.of_core (h : t.core = s.core) (hp : port = true → t.port = s.port) : Tame port s t := by
  simp only [State.core, Prod.mk.injEq] at h
  obtain ⟨hengines, hstack, hhost, hmram, hflash, hcells, hpending⟩ := h
  refine ⟨hpending, fun hi => ?_, hp⟩
  unfold State.Inv State.zeroRegs State.memsWf State.engineMemsWf State.cellsObserve State.engine at *
  rwa [hengines, hstack, hhost, hmram, hflash, hcells]

/-- A change outside the core and the port. -/
theorem Tame.frame (h : Tame port o s) (he : (t.core, t.port) = (s.core, s.port)) : Tame port o t :=
  h.trans (Tame.of_core (Prod.mk.inj he).1 fun _ => (Prod.mk.inj he).2)

/-- A change of the port. -/
theorem Tame.loose (h : Tame false o s) (he : t.core = s.core) : Tame false o t := h.trans (Tame.of_core he fun hp => absurd hp Bool.false_ne_true)

/-- A change of units that the invariants do not speak of: the base of the update is read off its registers. -/
theorem Tame.upd {snap bus cat lastAccession acq emt det prox pca lnk scn sense thm cal saf lmp pwr rst sec spi pins free} (h : Tame port o s) :
    Tame port o { s with
      snap := snap, bus := bus, cat := cat, lastAccession := lastAccession, acq := acq, emt := emt, det := det, prox := prox, pca := pca,
      lnk := lnk, scn := scn, sense := sense, thm := thm, cal := cal, saf := saf, lmp := lmp, pwr := pwr, rst := rst, sec := sec, spi := spi,
      pins := pins, free := free } := h.frame rfl

theorem Tame.ite {c : Prop} [Decidable c] {a b : State} (ha : c → Tame port o a) (hb : ¬c → Tame port o b) : Tame port o (if c then a else b) := by
  split
  · exact ha ‹c›
  · exact hb ‹¬c›

theorem Tame.foldl {α : Type} {l : List α} {f : State → α → State} (h : Tame port o s) (hf : ∀ t a, a ∈ l → Tame port o t → Tame port o (f t a)) :
    Tame port o (l.foldl f s) := by
  induction l generalizing s with
  | nil => exact h
  | cons a l ih => exact ih (hf s a List.mem_cons_self h) fun t b hb => hf t b (List.mem_cons_of_mem _ hb)

theorem Tame.foldlFst {α β : Type} {l : List α} {f : State × β → α → State × β} {x : State × β} (h : Tame port o x.1)
    (hf : ∀ y a, Tame port o y.1 → Tame port o (f y a).1) : Tame port o (l.foldl f x).1 := by
  induction l generalizing x with
  | nil => exact h
  | cons a l ih => exact ih (hf x a h)

/-! ### Registers: no invariant speaks of them, and a change of them alone keeps the core -/

theorem Tame.wr {f : Fld} {v : Nat} (h : Tame port o s) : Tame port o (s.wr f v) := h.frame rfl
theorem Tame.put {f : Fld} {b : Bool} (h : Tame port o s) : Tame port o (s.put f b) := h.wr
theorem Tame.raise {f : Fld} (h : Tame port o s) : Tame port o (s.raise f) := h.wr
theorem Tame.err {f : Fld} (h : Tame port o s) : Tame port o (s.err f) := h.wr
theorem Tame.wrI {f : Fld} {v : Int} (h : Tame port o s) : Tame port o (s.wrI f v) := h.wr
theorem Tame.count {f : Fld} {d : Nat} (h : Tame port o s) : Tame port o (s.count f d) := h.wr
theorem Tame.wrap {f : Fld} {d : Nat} (h : Tame port o s) : Tame port o (s.wrap f d) := h.wr
theorem Tame.wrS {f : Fld} {v : Nat} (h : Tame port o s) : Tame port o (s.wrS f v) := h.frame rfl
theorem Tame.wrBoth {f : Fld} {v : Nat} (h : Tame port o s) : Tame port o (s.wrBoth f v) := h.wr.wrS

theorem Tame.writeField {p v : Nat} {r : Row} {f : Fld} (h : Tame port o s) : Tame port o (s.writeField p r f v) := by
  unfold State.writeField
  split
  case h_1 => exact .ite (fun _ => h.wr) fun _ => h.err
  case h_2 => exact .ite (fun _ => h.wrS) fun _ => h.err
  case h_3 => exact .ite (fun _ => h.wrS) fun _ => h.err
  case h_4 =>
    have hbusy : Tame port o (if s.mayHold p then s else s.err (C.ERR_BUSY p)) := .ite (fun _ => h) fun _ => h.err
    exact .ite (fun _ => hbusy.err) fun _ => .ite (fun _ => hbusy.wrS) fun _ => hbusy
  case h_5 => exact h.wr
  case h_6 => exact h
  case h_7 => exact h

theorem Tame.writeFieldsOf {keep : Nat → Bool} {p off v : Nat} (h : Tame port o s) : Tame port o (s.writeFieldsOf keep p off v) := by
  unfold State.writeFieldsOf
  exact h.foldl fun _ _ _ ht => ht.foldl fun _ _ _ hu => .ite (fun _ => hu.writeField) fun _ => hu

theorem Tame.writeFields {p off v : Nat} (h : Tame port o s) : Tame port o (s.writeFields p off v) := h.writeFieldsOf

theorem Tame.setFaults {p m : Nat} (h : Tame port o s) : Tame port o (s.setFaults p m) := by
  have hput : Tame port o ((List.range 32).foldl (fun s i => if bit m i then s.put (C.FAULT p i) true else s) s) :=
    h.foldl fun _ _ _ ht => .ite (fun _ => ht.put) fun _ => ht
  unfold State.setFaults
  exact .ite (fun _ => hput.frame rfl) fun _ => hput

theorem Tame.fault {p b : Nat} (h : Tame port o s) : Tame port o (s.fault p b) := h.setFaults
theorem Tame.applyStaged {p : Nat} (h : Tame port o s) : Tame port o (s.applyStaged p) := h.frame rfl
theorem Tame.applyHeld {p : Nat} (h : Tame port o s) : Tame port o (s.applyHeld p) := h.frame rfl
theorem Tame.applyLiveOf {l : List Fld} (h : Tame port o s) : Tame port o (s.applyLiveOf l) := h.frame rfl
theorem Tame.applyLive {p : Nat} (h : Tame port o s) : Tame port o (s.applyLive p) := h.frame rfl
theorem Tame.eraseFolio {p : Nat} (h : Tame port o s) : Tame port o (s.eraseFolio p) := h.frame rfl
theorem Tame.clearFolio {cold link : Bool} {p : Nat} (h : Tame port o s) : Tame port o (s.clearFolio cold link p) := h.frame rfl

/-! ### Engines (R184) -/

/-- An engine whose s0 reads 0 and whose memories are in their canonical form, where the invariant holds of o. -/
def Engine.Fit (o : State) (e : Engine) : Prop := o.Inv → e.reg 0 = 0 ∧ Mem.wf e.imem ∧ Mem.wf e.dmem

theorem Tame.engine {k : Nat} (h : Tame port o s) : (s.engine k).Fit o := fun ho =>
  have ⟨hzero, _, hmems, _⟩ := h.inv ho
  ⟨hzero k, hmems k⟩

theorem Tame.setEngine {k : Nat} {e : Engine} (h : Tame port o s) (he : e.Fit o) : Tame port o (s.setEngine k e) := by
  refine ⟨h.pending, fun ho => ?_, h.kept⟩
  obtain ⟨hzero, hmem, hmems, hcells⟩ := h.inv ho
  obtain ⟨hreg, himem, hdmem⟩ := he ho
  have hset (P : Engine → Prop) (hs : ∀ j, P (s.engine j)) (hp : P e) (j : Nat) : P ((s.setEngine k e).engine j) := by
    by_cases hj : j = k
    · subst hj
      rw [State.engine_set]
      exact hp
    · have hne : (s.setEngine k e).engine j = s.engine j := Tab.get_set_ne _ _ _ _ hj
      rw [hne]
      exact hs j
  exact ⟨hset (fun e => e.reg 0 = 0) hzero hreg, hmem, hset (fun e => Mem.wf e.imem ∧ Mem.wf e.dmem) hmems ⟨himem, hdmem⟩, hcells⟩

variable {e : Engine}

theorem Engine.Fit.ite {c : Prop} [Decidable c] {a b : Engine} (ha : c → a.Fit o) (hb : ¬c → b.Fit o) : (if c then a else b).Fit o := by
  split
  · exact ha ‹c›
  · exact hb ‹¬c›

theorem Engine.Fit.setReg {r : BitVec 5} {v : Word} (h : e.Fit o) : (e.setReg r v).Fit o := by
  unfold Engine.setReg
  split
  · exact h
  · rename_i hr
    intro ho
    obtain ⟨hzero, hmems⟩ := h ho
    refine ⟨?_, hmems⟩
    have hne : (0 : BitVec 5).toNat ≠ r.toNat := fun heq => hr (BitVec.eq_of_toNat_eq heq).symm
    exact (Tab.get_set_ne _ _ _ _ hne).trans hzero

/-- An engine that differs outside its registers and memories. -/
theorem Engine.Fit.frame {e' : Engine} (h : e.Fit o) (hs : (e'.s, e'.imem, e'.dmem) = (e.s, e.imem, e.dmem)) : e'.Fit o := by
  simp only [Prod.mk.injEq] at hs
  obtain ⟨h1, h2, h3⟩ := hs
  unfold Engine.Fit Engine.reg at *
  rwa [h1, h2, h3]

theorem Engine.Fit.enterHandler {n : Nat} {hd : Handler} {a b c d : Word} (h : e.Fit o) : (e.enterHandler n hd a b c d).Fit o :=
  h.setReg.setReg.setReg.setReg.setReg.setReg.frame rfl

/-- An engine that differs outside its registers s0 to s31 and its memories; the base of the update is read off its registers. -/
theorem Engine.Fit.upd {v acc0 acc1 pc loops running interrupted current pending calls slots shotSlots frameGen winEcc emitted scratch debugHalt
    badWords stackTop minor1 inited fresh written leaving lastSeq skippedFrame errorsFrame shotsFrame slotsMax uncleared fw} (h : e.Fit o) :
    Engine.Fit o { e with
      v := v, acc0 := acc0, acc1 := acc1, pc := pc, loops := loops, running := running, interrupted := interrupted, current := current,
      pending := pending, calls := calls, slots := slots, shotSlots := shotSlots, frameGen := frameGen, winEcc := winEcc, emitted := emitted,
      scratch := scratch, debugHalt := debugHalt, badWords := badWords, stackTop := stackTop, minor1 := minor1, inited := inited,
      fresh := fresh, written := written, leaving := leaving, lastSeq := lastSeq, skippedFrame := skippedFrame, errorsFrame := errorsFrame,
      shotsFrame := shotsFrame, slotsMax := slotsMax, uncleared := uncleared, fw := fw } := h

/-- A cleared register file over memories in their form. -/
theorem Engine.Fit.cleared {e' : Engine} (h : e.Fit o) (hs : e'.s = []) (hi : e'.imem = e.imem) (hd : e'.dmem = e.dmem) : e'.Fit o := by
  intro ho
  obtain ⟨-, himem, hdmem⟩ := h ho
  unfold Engine.reg
  rw [hs, hi, hd]
  exact ⟨rfl, himem, hdmem⟩

/-! ### Memories -/

/-- A memory in its canonical form, where the invariant holds of o. -/
def Mem.Fit (o : State) (m : Mem) : Prop := o.Inv → Mem.wf m

theorem Mem.Fit.write {m : Mem} {a : Nat} {bs : List Byte} (h : Mem.Fit o m) : Mem.Fit o (m.write a bs) := fun ho => Mem.wf_write _ _ _ (h ho)
theorem Mem.Fit.setLe {m : Mem} {a n v : Nat} (h : Mem.Fit o m) : Mem.Fit o (m.setLe a n v) := fun ho => Mem.wf_setLe _ _ _ _ (h ho)
theorem Mem.Fit.wipe {m : Mem} {a n : Nat} (h : Mem.Fit o m) : Mem.Fit o (m.wipe a n) := fun ho => Mem.wf_wipe _ _ _ (h ho)
theorem Mem.Fit.filter {m : Mem} {p : Nat × Byte → Bool} (h : Mem.Fit o m) : Mem.Fit o (List.filter p m) := fun ho =>
  ⟨(h ho).1.sublist (List.filter_sublist.map _), fun e he => (h ho).2 e (List.mem_of_mem_filter he)⟩
theorem Mem.Fit.empty : Mem.Fit o [] := fun _ => ⟨List.Pairwise.nil, List.forall_mem_nil _⟩

theorem Tame.stackFit (h : Tame port o s) : Mem.Fit o s.stackMem := fun ho => (h.inv ho).2.1.1
theorem Tame.hostFit (h : Tame port o s) : Mem.Fit o s.mon.mem := fun ho => (h.inv ho).2.1.2.1
theorem Tame.mramFit (h : Tame port o s) : Mem.Fit o s.nvs.mram := fun ho => (h.inv ho).2.1.2.2.1
theorem Tame.flashFit (h : Tame port o s) : Mem.Fit o s.nvs.flash := fun ho => (h.inv ho).2.1.2.2.2

/-- A change of the four memories that keeps their form. -/
theorem Tame.mems {a b c d : Mem} (h : Tame port o s) (ha : Mem.Fit o a) (hb : Mem.Fit o b) (hc : Mem.Fit o c) (hd : Mem.Fit o d) :
    Tame port o { s with stackMem := a, mon.mem := b, nvs.mram := c, nvs.flash := d } := by
  refine ⟨h.pending, fun ho => ?_, h.kept⟩
  obtain ⟨hzero, -, hmems, hcells⟩ := h.inv ho
  exact ⟨hzero, ⟨ha ho, hb ho, hc ho, hd ho⟩, hmems, hcells⟩

theorem Tame.stackMem {m : Mem} (h : Tame port o s) (hm : Mem.Fit o m) : Tame port o { s with stackMem := m } := h.mems hm h.hostFit h.mramFit h.flashFit
theorem Tame.hostMem {m : Mem} (h : Tame port o s) (hm : Mem.Fit o m) : Tame port o { s with mon.mem := m } := h.mems h.stackFit hm h.mramFit h.flashFit
theorem Tame.mram {m : Mem} (h : Tame port o s) (hm : Mem.Fit o m) : Tame port o { s with nvs.mram := m } := h.mems h.stackFit h.hostFit hm h.flashFit
theorem Tame.flash {m : Mem} (h : Tame port o s) (hm : Mem.Fit o m) : Tame port o { s with nvs.flash := m } := h.mems h.stackFit h.hostFit h.mramFit hm

end
end Sys2Proof.Machine
end

section
/-! PROOFS. Operations are tame: shared operations, EMT, the safety state, CAL. -/
namespace Sys2Proof.Machine
open Sys2Proof

section
variable {port : Bool} {o s : State}

/-! ### Shared operations -/

theorem Tame.drew {n : Nat} (h : Tame port o s) : Tame port o (s.drew n) := by
  unfold State.drew
  exact h.upd

theorem Tame.setSection {j : Nat} {x : Section} (h : Tame port o s) : Tame port o (s.setSection j x) := by
  unfold State.setSection
  exact h.upd

theorem Tame.setChan {c : Nat} {x : Chan} (h : Tame port o s) : Tame port o (s.setChan c x) := by
  unfold State.setChan
  exact h.upd

theorem Tame.setEvents {c : Nat} {x : Events} (h : Tame port o s) : Tame port o (s.setEvents c x) := by
  unfold State.setEvents
  exact h.upd

theorem Tame.setBank {b : Nat} {x : Bank} (h : Tame port o s) : Tame port o (s.setBank b x) := by
  unfold State.setBank
  exact h.upd

theorem Tame.setTimIn {n : Nat} {x : TimInput} (h : Tame port o s) : Tame port o (s.setTimIn n x) := by
  unfold State.setTimIn
  exact h.upd

theorem Tame.setLane {l : Nat} {x : LaneState} (h : Tame port o s) : Tame port o (s.setLane l x) := by
  unfold State.setLane
  exact h.upd

theorem Tame.setPath {l : Nat} {x : PathState} (h : Tame port o s) : Tame port o (s.setPath l x) := by
  unfold State.setPath
  exact h.upd

theorem Tame.setSlot {k : Nat} {x : Slot} (h : Tame port o s) : Tame port o (s.setSlot k x) := by
  unfold State.setSlot
  exact h.upd

theorem Tame.setQueue {h_ : Nat} {q : List Entry} (h : Tame port o s) : Tame port o (s.setQueue h_ q) := by
  unfold State.setQueue
  exact h.upd

theorem Tame.setWaiting {h_ : Nat} {q : List Entry} (h : Tame port o s) : Tame port o (s.setWaiting h_ q) := by
  unfold State.setWaiting
  exact h.upd

theorem Tame.pushEntry {h_ : Nat} {e : Entry} (h : Tame port o s) : Tame port o (s.pushEntry h_ e) := by
  unfold State.pushEntry
  exact .ite (fun _ => h.setQueue) fun _ => h.setWaiting

theorem Tame.popEntry {h_ : Nat} (h : Tame port o s) : Tame port o (s.popEntry h_) := by
  unfold State.popEntry
  split
  · exact h.setQueue
  · exact h.setQueue.setWaiting

theorem Tame.writeTo {p : Nat} {f : State → State} (h : Tame port o s) (hf : ∀ (a : State), Tame port o a → Tame port o (f a)) :
    Tame port o (s.writeTo p f) := by
  unfold State.writeTo
  exact .ite (fun _ => hf _ h.upd) fun _ => h.upd.put

theorem Tame.keep {h_ : Held} (h : Tame port o s) : Tame port o (s.keep h_) := by
  unfold State.keep
  exact h.upd

theorem Tame.ungated {f : State → State} (h : Tame port o s) (hf : ∀ (a : State), Tame port o a → Tame port o (f a)) : Tame port o (s.ungated f) := by
  unfold State.ungated
  exact .ite (fun _ => h) fun _ => hf _ h

theorem Tame.sentinel {f : State → State} (h : Tame port o s) (hf : ∀ (a : State), Tame port o a → Tame port o (f a)) : Tame port o (s.sentinel f) := by
  unfold State.sentinel
  exact .ite (fun _ => hf _ h) fun _ => h

theorem Tame.writeSentinel {path : Path} {p : Nat} {off : Nat} {value : Nat} {f : State → State} (h : Tame port o s)
    (hf : ∀ (a : State), Tame port o a → Tame port o (f a)) :
    Tame port o (s.writeSentinel path p off value f) := by
  unfold State.writeSentinel
  exact .ite (fun _ => h.upd.keep) fun _ => h.writeTo (fun x0 x1 => hf _ x1)

theorem Tame.eventsQuiet (h : Tame port o s) : Tame port o (s.eventsQuiet) := by
  unfold State.eventsQuiet
  exact .ite (fun _ => h.upd) fun _ => h

theorem Tame.applied {p : Nat} (h : Tame port o s) : Tame port o (s.applied p) := by
  unfold State.applied
  exact h.put.put.wr

theorem Tame.finishCommit (h : Tame port o s) : Tame port o (s.finishCommit) := by
  unfold State.finishCommit
  exact .ite (fun _ => h.put.raise.upd) fun _ => h

theorem Tame.retireOld (h : Tame port o s) : Tame port o (s.retireOld) := by
  unfold State.retireOld
  exact .ite (fun _ => h) fun _ => (h.foldl fun _ _ _ ht => ht.applyStaged.applied).finishCommit

theorem Tame.resultReaches {r : HkResult} (h : Tame port o s) : Tame port o (s.resultReaches r) := by
  unfold State.resultReaches
  exact .ite (fun _ => h.upd) fun _ => h

theorem Tame.resultsArrive (h : Tame port o s) : Tame port o (s.resultsArrive) := by
  unfold State.resultsArrive
  exact h.upd.foldl fun _ _ _ ht => ht.resultReaches

theorem Tame.pushResult {r : HkResult} (h : Tame port o s) : Tame port o (s.pushResult r) := by
  unfold State.pushResult
  extract_lets s1
  have hs1 : Tame port o s1 := .ite (fun _ => h.resultsArrive) fun _ => h
  clear_value s1
  exact hs1.upd

theorem Tame.startPulse (h : Tame port o s) : Tame port o (s.startPulse) := by
  unfold State.startPulse
  exact .ite (fun _ => h.frame rfl) fun _ => h

theorem Tame.nvsBlocked (h : Tame port o s) : Tame port o (s.nvsBlocked) := by
  unfold State.nvsBlocked
  exact .ite (fun _ => h.count.raise) fun _ => h

/-! ### EMT -/

theorem Tame.emtApply (h : Tame port o s) : Tame port o (s.emtApply) := by
  unfold State.emtApply
  extract_lets _ _ s2
  have hs2 : Tame port o s2 := h.upd.foldl fun _ _ _ ht => ht.wr
  clear_value s2
  exact hs2.foldl fun _ _ _ ht => ht.wr

theorem Tame.applyEmt (h : Tame port o s) : Tame port o (s.applyEmt) := by
  unfold State.applyEmt
  exact .ite (fun _ => h.applyStaged.emtApply.upd) fun _ => h.applyStaged.emtApply

theorem Tame.emtLoad (h : Tame port o s) : Tame port o (s.emtLoad) := by
  unfold State.emtLoad
  dsimp only
  split
  · exact h.put.wr.raise.fault
  · exact h.put.put.put.raise.upd

theorem Tame.emtInhibit (h : Tame port o s) : Tame port o (s.emtInhibit) := by
  unfold State.emtInhibit
  split
  · exact .ite (fun _ => .ite (fun _ => h.upd.fault) fun _ => h.upd) fun _ => h
  · exact h

/-! ### The safety state -/

theorem Tame.putTrip {i : Nat} {b : Bool} (h : Tame port o s) : Tame port o (s.putTrip i b) := by
  unfold State.putTrip
  exact .ite (fun _ => h.wr) fun _ => h.wr

theorem Tame.inhibit (h : Tame port o s) : Tame port o (s.inhibit) := by
  unfold State.inhibit
  exact .ite (fun _ => h) fun _ => h.put.emtInhibit

theorem Tame.safOutputs (h : Tame port o s) : Tame port o (s.safOutputs) := by
  unfold State.safOutputs
  exact .ite (fun _ => h.put) fun _ => ((Tame.ite (fun _ => h.put.put.upd) fun _ => h.put.put).upd).put

theorem Tame.strskEnd (h : Tame port o s) : Tame port o (s.strskEnd) := by
  unfold State.strskEnd
  exact .ite (fun _ => h.put.upd) fun _ => h

theorem Tame.extestEnd {st : Nat} (h : Tame port o s) : Tame port o (s.extestEnd st) := by
  unfold State.extestEnd
  exact .ite (fun _ => h) fun _ => h.put.frame rfl

theorem Tame.requestFails (h : Tame port o s) : Tame port o (s.requestFails) := by
  unfold State.requestFails
  exact .ite (fun _ => h.err) fun _ => h

theorem Tame.enter {st : Nat} (h : Tame port o s) : Tame port o (s.enter st) := by
  unfold State.enter
  extract_lets s' s0 s1 _ s2 s3
  have hs' : Tame port o s' := .ite (fun _ => h) fun _ => h.requestFails
  clear_value s'
  have hs0 : Tame port o s0 := (Tame.ite (fun _ => hs') fun _ => hs'.strskEnd).extestEnd
  clear_value s0
  have hs1 : Tame port o s1 := hs0.wr.wr.raise
  clear_value s1
  have hs3 : Tame port o s3 := .ite (fun _ => hs1.upd.fault) fun _ => hs1.upd
  clear_value s3
  exact (Tame.ite (fun _ => hs3) fun _ => hs3.inhibit).safOutputs

theorem Tame.tripNow {sIn : State} {i : Nat} (h : Tame port o sIn) : Tame port o (sIn.tripNow i) := by
  unfold State.tripNow
  extract_lets _ _ _ _ s0
  have hs0 : Tame port o s0 := .ite (fun _ => h.strskEnd.upd.upd) fun _ => h.strskEnd.upd
  clear_value s0
  exact .ite (fun _ => hs0.putTrip.raise.inhibit.enter) fun _ => hs0.putTrip.raise.inhibit.safOutputs

theorem Tame.tripSet {i : Nat} (h : Tame port o s) : Tame port o (s.tripSet i) := by
  unfold State.tripSet
  exact .ite (fun _ => h.upd) fun _ => h.tripNow

theorem Tame.tripGone {i : Nat} (h : Tame port o s) : Tame port o (s.tripGone i) := by
  unfold State.tripGone
  exact .ite (fun _ => h.upd.putTrip.safOutputs) fun _ => h.upd

theorem Tame.judgeCauses (h : Tame port o s) : Tame port o (s.judgeCauses) := by
  unfold State.judgeCauses
  extract_lets _ _ _ _ s2 s3
  have hs2 : Tame port o s2 := .ite (fun _ => h.wr.raise) fun _ => h.wr
  clear_value s2
  have hs3 : Tame port o s3 := .ite (fun _ => hs2.enter) fun _ => hs2
  clear_value s3
  exact .ite (fun _ => hs3.upd) fun _ => hs3

theorem Tame.degrade (h : Tame port o s) : Tame port o (s.degrade) := by
  unfold State.degrade
  exact h.sentinel (fun _ h => h.judgeCauses)

theorem Tame.showEnergy (h : Tame port o s) : Tame port o (s.showEnergy) := by
  unfold State.showEnergy
  exact h.wr.wr

theorem Tame.addEnergy {pattern : Nat} {c : Nat} (h : Tame port o s) : Tame port o (s.addEnergy pattern c) := by
  unfold State.addEnergy
  exact h.upd.showEnergy

theorem Tame.colophon (h : Tame port o s) : Tame port o (s.colophon) := by
  unfold State.colophon
  exact .ite (fun _ => h.wr.tripSet) fun _ => h.wr

theorem Tame.clearPerturb (h : Tame port o s) : Tame port o (s.clearPerturb) := by
  unfold State.clearPerturb
  exact h.foldl fun _ _ _ ht => ht.put

theorem Tame.endDebugHalt {k : Nat} (h : Tame port o s) : Tame port o (s.endDebugHalt k) := by
  have hengine : Tame port o (s.setEngine k { s.engine k with debugHalt := false }) := h.setEngine h.engine
  unfold State.endDebugHalt
  exact .ite (fun _ => hengine.put.put.put) fun _ => h

/-- What a relock ends, the port and the reset source aside. -/
def State.unlockEnds (s : State) : State :=
  ((List.range 72).foldl State.endDebugHalt (((((s.put MON.UNLOCKED false).put MON.ST_UNLOCKED false).wr MON.SCOPE 0).wr
    MON.UNLOCK_LEFT 0).raise MON.INT_RELOCK)).clearPerturb.put MON.ST_EXTEST false

/-- The test access port and the held reset source after a relock. -/
def State.portReset (s : State) : State := { s with jtag.instr := 15, rst := s.rst.endDebug }

theorem relock_eq (s : State) : s.relock = if s.on MON.UNLOCKED then s.unlockEnds.portReset else s := rfl

theorem Tame.portReset (h : Tame port o s) : Tame port o s.portReset := h.frame rfl

theorem Tame.unlockEnds (h : Tame port o s) : Tame port o s.unlockEnds :=
  (h.put.put.wr.wr.raise.foldl fun _ _ _ ht => ht.endDebugHalt).clearPerturb.put

theorem Tame.relock (h : Tame port o s) : Tame port o s.relock := by
  rw [relock_eq]
  exact .ite (fun _ => h.unlockEnds.portReset) fun _ => h

theorem Tame.tryOperate {asked : Bool} (h : Tame port o s) : Tame port o (s.tryOperate asked) := by
  have hclear := h.clearPerturb
  unfold State.tryOperate
  generalize s.clearPerturb = t at *
  exact .ite (fun _ => hclear.upd) fun _ => h

/-! ### CAL -/

theorem Tame.setCalSet {ch : Nat} {p : Nat} {x : CalSet} (h : Tame port o s) : Tame port o (s.setCalSet ch p x) := by
  unfold State.setCalSet
  exact h.upd

theorem Tame.putValues {ch : Nat} {t : Int} (h : Tame port o s) : Tame port o (s.putValues ch t) := by
  unfold State.putValues
  refine .ite (fun _ => ?_) fun _ => ?_
  · exact ((h.foldl fun _ _ _ ht => ht.wr).foldl fun _ _ _ ht => ht.wr).wrI
  · exact .ite (fun _ => (h.foldl fun _ _ _ ht => ht.wr).wrI) fun _ => h.foldl fun _ _ _ ht => ht.wr

theorem Tame.showNominal (h : Tame port o s) : Tame port o (s.showNominal) := by
  unfold State.showNominal
  exact h.wr.put

theorem Tame.applyCal (h : Tame port o s) : Tame port o (s.applyCal) := by
  unfold State.applyCal
  extract_lets _ _ _ s1
  have hs1 : Tame port o s1 := by
    refine h.upd.foldl fun _ _ _ ht => ?_
    split
    · exact ht.foldl fun _ _ _ ht => ht.putValues
    · exact ht
  clear_value s1
  exact hs1.wr.showNominal

theorem Tame.takeTcal (h : Tame port o s) : Tame port o (s.takeTcal) := by
  unfold State.takeTcal
  refine h.foldl fun _ _ _ ht => ?_
  split
  · exact ht.upd
  · exact .ite (fun _ => ht.upd) fun _ => ht
  · exact ht

theorem Tame.loadCal {s0 : State} (h : Tame port o s0) : Tame port o (s0.loadCal) := by
  unfold State.loadCal
  dsimp only
  split
  · exact h.upd.upd.foldl fun _ _ _ ht => ht.wrI
  · exact h.upd.upd.fault

theorem Tame.startStale {x : Session} (h : Tame port o s) : Tame port o (s.startStale x) := by
  unfold State.startStale
  extract_lets _ _ s1
  have hs1 : Tame port o s1 := h.foldl fun _ _ _ ht => ht.wr
  clear_value s1
  exact .ite (fun _ => (hs1.wr.wr.put.foldl fun _ _ _ ht => ht.wr).wr) fun _ => hs1.wr.wr.put

theorem Tame.startSpan (h : Tame port o s) : Tame port o (s.startSpan) := by
  unfold State.startSpan
  extract_lets s1
  have hs1 : Tame port o s1 := h.foldl fun _ _ _ ht => ht.startStale
  clear_value s1
  exact hs1.upd

theorem Tame.endStale {x : Session} (h : Tame port o s) : Tame port o (s.endStale x) := by
  unfold State.endStale
  extract_lets _ _ s1
  have hs1 : Tame port o s1 := h.foldl fun _ _ _ ht => ht.wr
  clear_value s1
  exact hs1.wr.put

theorem Tame.collect {sh : Shot} {x : Session} {codes : List Nat} {invalid : Bool} (h : Tame port o s) :
    Tame port o (s.collect sh x codes invalid) := by
  unfold State.collect
  extract_lets _ _ s1
  have hs1 : Tame port o s1 := .ite (fun _ => h) fun _ => h.foldl fun _ _ _ ht => .ite (fun _ => ht.count.count) fun _ => ht
  clear_value s1
  exact hs1.upd

theorem Tame.learn {x : Session} {h_ : List Nat} {skew : Option Int} {t : Int} (h : Tame port o s) : Tame port o (s.learn x h_ skew t) := by
  unfold State.learn
  exact h.foldl fun _ _ _ ht => ht.setCalSet

theorem Tame.outcome {ch : Nat} {f : Quality → Quality} (h : Tame port o s) : Tame port o (s.outcome ch f) := by
  unfold State.outcome
  exact h.upd

theorem Tame.endShort {x : Session} {code : Nat} (h : Tame port o s) : Tame port o (s.endShort x code) := by
  unfold State.endShort
  exact h.outcome.count.raise

theorem Tame.endDone {x : Session} {h_ : List Nat} (h : Tame port o s) : Tame port o (s.endDone x h_) := by
  unfold State.endDone
  split
  · exact h.endShort
  · exact h.learn.upd.outcome.upd.count.raise.put

theorem Tame.endFrameSession {x : Session} (h : Tame port o s) : Tame port o (s.endFrameSession x).1 := by
  unfold State.endFrameSession
  dsimp only
  split
  · exact h.endShort
  split
  · exact h.endDone
  split
  · exact h.endShort
  · exact h

theorem Tame.endSessions (h : Tame port o s) : Tame port o (s.endSessions) := by
  have hgo (y : State × List Session) (x : Session) (hy : Tame port o y.1) : Tame port o (match y.1.endFrameSession x with
      | (s', some z) => (s', y.2 ++ [z])
      | (s', none) => (s', y.2)).1 := by
    have hx := hy.endFrameSession (x := x)
    split
    · rename_i heq; rw [heq] at hx; exact hx
    · rename_i heq; rw [heq] at hx; exact hx
  have hstale : Tame port o ((s.cal.sessions.filter (·.stale)).foldl State.endStale s) := h.foldl fun _ _ _ ht => ht.endStale
  unfold State.endSessions
  generalize (s.cal.sessions.filter (·.stale)).foldl State.endStale s = t at *
  exact (Tame.foldlFst (Tame.foldlFst (x := (_, [])) hstale.upd hgo) (x := (_, [])) hgo).upd

theorem Tame.startSession (h : Tame port o s) : Tame port o (s.startSession) := by
  unfold State.startSession
  split
  · exact h.upd
  · split
    · exact h
    · exact .ite (fun _ => h.upd.wr.wr.wr.wr.raise.upd) fun _ => h.upd.wr

theorem Tame.startSessions {n : Nat} (h : Tame port o s) : Tame port o (s.startSessions n) := by
  induction n generalizing s with
  | zero => exact h
  | succ n ih =>
    unfold State.startSessions
    exact .ite (fun _ => ih h.startSession) fun _ => h

theorem Tame.startTim (h : Tame port o s) : Tame port o (s.startTim) := by
  unfold State.startTim
  exact h.upd

theorem Tame.calFrame (h : Tame port o s) : Tame port o (s.calFrame) := by
  unfold State.calFrame
  refine .ite (fun _ => ?_) fun _ => ?_
  · exact h
  · refine Tame.wr ?_
    exact Tame.ite (fun _ => h.takeTcal.endSessions.applyCal.upd.startSessions.startTim) fun _ => h.takeTcal.endSessions.applyCal.upd

theorem Tame.endAborted (h : Tame port o s) : Tame port o (s.endAborted) := by
  unfold State.endAborted
  extract_lets ends s1
  have hs1 : Tame port o s1 := h.foldl fun _ _ _ ht => .ite (fun _ => ht.endShort) fun _ => ht
  clear_value s1
  exact hs1.upd.wr

theorem Tame.calIdle (h : Tame port o s) : Tame port o (s.calIdle) := by
  unfold State.calIdle
  exact .ite (fun _ => h.takeTcal.endAborted) fun _ => h

theorem Tame.loadRuhal (h : Tame port o s) : Tame port o (s.loadRuhal) := by
  unfold State.loadRuhal
  extract_lets t _ s1
  have hs1 : Tame port o s1 := h.foldl fun _ _ _ ht => ht.foldl fun _ _ _ ht => ht.setCalSet
  clear_value s1
  exact hs1.put.upd

theorem Tame.applyCalStaged (h : Tame port o s) : Tame port o (s.applyCalStaged) := by
  unfold State.applyCalStaged
  extract_lets _ _ _ s2 _ s3
  have hs2 : Tame port o s2 := .ite (fun _ => h.applyStaged.loadRuhal) fun _ => h.applyStaged
  clear_value s2
  have hs3 : Tame port o s3 := .ite (fun _ => hs2.upd) fun _ => hs2
  clear_value s3
  exact hs3.put.wr

theorem Tame.strskFinish (h : Tame port o s) : Tame port o (s.strskFinish) := by
  unfold State.strskFinish
  extract_lets s1
  have hs1 : Tame port o s1 := h.foldl fun _ _ _ ht => ht.wrI
  clear_value s1
  exact hs1.drew.put.raise

theorem Tame.strskShot {sh : Shot} (h : Tame port o s) : Tame port o (s.strskShot sh) := by
  unfold State.strskShot
  split
  · exact h
  · refine .ite (fun _ => ?_) fun _ => ?_
    · exact h
    · exact .ite (fun _ => ((Tame.ite (fun _ => h) fun _ => h.upd).upd).strskFinish) fun _ => (Tame.ite (fun _ => h) fun _ => h.upd).upd

/-! ### CAL’s commands -/

theorem Tame.strskWord {v : Nat} (h : Tame port o s) : Tame port o (s.strskWord v) := by
  unfold State.strskWord
  extract_lets _ s1
  have hs1 : Tame port o s1 := .ite (fun _ => h.wrS) fun _ => h.err
  clear_value s1
  exact .ite (fun _ => hs1) fun _ => .ite (fun _ => hs1.err) fun _ => hs1.put.upd

/-! ### Ports -/

theorem Tame.lineChar {c : Byte} (h : Tame false o s) : Tame false o (s.lineChar c) := by
  unfold State.lineChar
  refine .ite (fun _ => ?_) fun _ => ?_
  · exact .ite (fun _ => h.loose rfl) fun _ => .ite (fun _ => h) fun _ => h.loose rfl
  · exact .ite (fun _ => h) fun _ => .ite (fun _ => h.loose rfl) fun _ => h.loose rfl

theorem Tame.feed {l : List Byte} (h : Tame false o s) : Tame false o (State.feed l s) := by
  induction l generalizing s with
  | nil => exact h.loose rfl
  | cons c l ih =>
    unfold State.feed
    exact .ite (fun _ => h.loose rfl) fun _ => ih h.lineChar

theorem Tame.answer {lines : List String} {status : String} (h : Tame false o s) : Tame false o (s.answer lines status) := by
  have hout : Tame false o { s with mon.output := s.mon.output ++ lines ++ [status, prompt], mon.busy := false, mon.line := [], mon.lineLong := false } :=
    h.loose rfl
  exact hout.feed

theorem Tame.snapAnswer (h : Tame false o s) : Tame false o (s.snapAnswer) := by
  have hsnap : Tame false o { s with mon.snapWait := false, mon.output := [] } := h.loose rfl
  unfold State.snapAnswer
  exact .ite (fun _ => hsnap.answer) fun _ => h

end
end Sys2Proof.Machine
end

section
/-! PROOFS. Operations are tame: the detector, the readings, the return engines, LMP, PCA. -/
namespace Sys2Proof.Machine
open Sys2Proof

section
variable {port : Bool} {o s : State}

/-! ### The detector and the shots that it records -/

theorem Tame.showChan {ch : Nat} (h : Tame port o s) : Tame port o (s.showChan ch) := by
  unfold State.showChan
  exact h.wr.wr

theorem Tame.setTrim {j : Nat} {v : Nat} (h : Tame port o s) : Tame port o (s.setTrim j v) := by
  unfold State.setTrim
  exact .ite (fun _ => h) fun _ => h.wr.upd

theorem Tame.scanTo {j : Nat} {n : Nat} (h : Tame port o s) : Tame port o (s.scanTo j n) := by
  unfold State.scanTo
  exact h.wr.wr

theorem Tame.scanSkip {j : Nat} (h : Tame port o s) : Tame port o (s.scanSkip j) := by
  unfold State.scanSkip
  exact .ite (fun _ => h) fun _ => h.scanTo

theorem Tame.applySection {j : Nat} (h : Tame port o s) : Tame port o (s.applySection j) := by
  unfold State.applySection
  extract_lets _ _ s2 s3
  have hs2 : Tame port o s2 := .ite (fun _ => h.applyStaged.foldl fun _ _ _ ht => ht.setChan) fun _ => h.applyStaged
  clear_value s2
  have hs3 : Tame port o s3 := .ite (fun _ => hs2) fun _ => hs2.setTrim
  clear_value s3
  exact hs3.scanSkip.foldl fun _ _ _ ht => ht.showChan

theorem Tame.avalanche {sh : Shot} {ch : Nat} {spad : Nat} {code : Nat} (h : Tame port o s) : Tame port o (s.avalanche sh ch spad code) := by
  unfold State.avalanche
  refine .ite (fun _ => ?_) fun _ => ?_
  · exact h
  · refine .ite (fun _ => ?_) fun _ => ?_
    · exact (Tame.ite (fun _ => h.setChan.setSection) fun _ => h.setChan).upd
    · exact .ite (fun _ => h.setChan.setSection) fun _ => h.setChan

theorem Tame.stackEcc {addr : Nat} {found : Ecc} (h : Tame port o s) : Tame port o (s.stackEcc addr found) := by
  unfold State.stackEcc
  dsimp only
  split
  · exact h
  · exact h.count.raise
  · exact h.count.wr.raise.fault

theorem Tame.stackErrors {errors : List StackError} (h : Tame port o s) : Tame port o (s.stackErrors errors) := by
  unfold State.stackErrors
  exact h.foldl fun _ _ _ ht => ht.stackEcc

theorem Mem.Fit.spoiled {m : Mem} {addr k : Nat} (hm : Mem.Fit o m) : Mem.Fit o (s.spoiled m addr k) := hm.setLe

theorem Tame.spoiledBy {errors : List StackError} (h : Tame port o s) : Mem.Fit o (s.spoiledBy errors) :=
  List.foldlRecOn _ _ h.stackFit fun _ hm _ _ => hm.spoiled

theorem Tame.record {sh : Shot} {ch : Nat} {code : Nat} {n : Nat} {histogram : Ecc} (h : Tame port o s) :
    Tame port o (s.record sh ch code n histogram) := by
  unfold State.record
  split
  · exact h
  · refine .ite (fun _ => h) fun _ => ?_
    extract_lets base bin s' m _ s1 s2
    have hs' : Tame port o s' := h.stackEcc
    have hm : Mem.Fit o m := by
      unfold m
      split
      · exact hs'.stackFit.setLe
      · exact hs'.stackFit
    have hs1 : Tame port o s1 := .ite (fun _ => hs'.drew.stackMem hm.write) fun _ => h
    clear_value s1
    have hs2 : Tame port o s2 := .ite (fun _ => hs1.stackMem hs1.stackFit.setLe) fun _ => hs1
    clear_value s2
    exact .ite (fun _ => hs2.setEvents) fun _ => hs2

theorem Tame.deliver {sh : Shot} {ch : Nat} {code : Nat} {entry : Ecc} {histogram : Ecc} (h : Tame port o s) :
    Tame port o (s.deliver sh ch code entry histogram) := by
  unfold State.deliver
  refine .ite (fun _ => ?_) fun _ => ?_
  · exact h
  · refine .ite (fun _ => ?_) fun _ => ?_
    · exact h.setEvents
    · refine .ite (fun _ => ?_) fun _ => ?_
      · exact h.setEvents.setEvents.setBank.raise
      · exact .ite (fun _ => h.setEvents.setEvents.count.fault) fun _ => h.setEvents.setEvents.record

theorem Tame.autoK {j : Nat} (h : Tame port o s) : Tame port o (s.autoK j) := by
  unfold State.autoK
  exact .ite (fun _ => h) fun _ => h.foldl fun _ _ _ ht => ht.setChan

theorem Tame.hotJudge {j : Nat} (h : Tame port o s) : Tame port o (s.hotJudge j) := by
  unfold State.hotJudge
  extract_lets _ _ _ _ _ s1
  have hs1 : Tame port o s1 := .ite (fun _ => h.wr.raise) fun _ => h
  clear_value s1
  exact hs1.setSection

theorem Tame.applyMask {s0 : State} {j : Nat} (h : Tame port o s) : Tame port o (s.applyMask s0 j) := by
  unfold State.applyMask
  exact h.foldl fun _ _ _ ht => ht.setChan

theorem Tame.checkChannel {ch : Nat} {otherEv : Nat} {otherWin : Nat} {below : Nat} {n : Nat} (h : Tame port o s) :
    Tame port o (s.checkChannel ch otherEv otherWin below n) := by
  unfold State.checkChannel
  refine .ite (fun _ => ?_) fun _ => ?_
  · refine Tame.fault ?_
    refine Tame.raise ?_
    refine Tame.put ?_
    refine .ite (fun _ => ?_) fun _ => ?_
    · refine Tame.fault ?_
      refine Tame.raise ?_
      exact (Tame.ite (fun _ => h.setChan.put.raise.fault) fun _ => .ite (fun _ => h.setChan.put) fun _ => h.setChan).put
    · refine .ite (fun _ => ?_) fun _ => ?_
      · exact (Tame.ite (fun _ => h.setChan.put.raise.fault) fun _ => .ite (fun _ => h.setChan.put) fun _ => h.setChan).put
      · exact .ite (fun _ => h.setChan.put.raise.fault) fun _ => .ite (fun _ => h.setChan.put) fun _ => h.setChan
  · refine .ite (fun _ => ?_) fun _ => ?_
    · refine Tame.put ?_
      refine .ite (fun _ => ?_) fun _ => ?_
      · refine Tame.fault ?_
        refine Tame.raise ?_
        exact (Tame.ite (fun _ => h.setChan.put.raise.fault) fun _ => .ite (fun _ => h.setChan.put) fun _ => h.setChan).put
      · refine .ite (fun _ => ?_) fun _ => ?_
        · exact (Tame.ite (fun _ => h.setChan.put.raise.fault) fun _ => .ite (fun _ => h.setChan.put) fun _ => h.setChan).put
        · exact .ite (fun _ => h.setChan.put.raise.fault) fun _ => .ite (fun _ => h.setChan.put) fun _ => h.setChan
    · refine .ite (fun _ => ?_) fun _ => ?_
      · refine Tame.fault ?_
        refine Tame.raise ?_
        exact (Tame.ite (fun _ => h.setChan.put.raise.fault) fun _ => .ite (fun _ => h.setChan.put) fun _ => h.setChan).put
      · refine .ite (fun _ => ?_) fun _ => ?_
        · exact (Tame.ite (fun _ => h.setChan.put.raise.fault) fun _ => .ite (fun _ => h.setChan.put) fun _ => h.setChan).put
        · exact .ite (fun _ => h.setChan.put.raise.fault) fun _ => .ite (fun _ => h.setChan.put) fun _ => h.setChan

theorem Tame.checkSection {j : Nat} (h : Tame port o s) : Tame port o (s.checkSection j) := by
  unfold State.checkSection
  exact h.foldl fun _ _ _ ht => ht.checkChannel

theorem Tame.vspadSection {mv : Int} {j : Nat} (h : Tame port o s) : Tame port o (s.vspadSection mv j) := by
  unfold State.vspadSection
  exact .ite (fun _ => h.setSection.raise.put) fun _ => h.setSection.wrI.put

theorem Tame.vspadReading {mv : Int} (h : Tame port o s) : Tame port o (s.vspadReading mv) := by
  unfold State.vspadReading
  exact h.foldl fun _ _ _ ht => .ite (fun _ => ht.vspadSection) fun _ => ht

theorem Tame.vspadRound (h : Tame port o s) : Tame port o (s.vspadRound) := by
  unfold State.vspadRound
  exact h.foldl fun _ _ _ ht => ht.setSection

theorem Tame.moveTrim {j : Nat} {target : Int} (h : Tame port o s) : Tame port o (s.moveTrim j target) := by
  unfold State.moveTrim
  exact .ite (fun _ => h.setTrim.put.raise) fun _ => h.setTrim.put

theorem Tame.trimBoundary {j : Nat} (h : Tame port o s) : Tame port o (s.trimBoundary j) := by
  unfold State.trimBoundary
  refine .ite (fun _ => ?_) fun _ => ?_
  · exact h
  · refine .ite (fun _ => ?_) fun _ => ?_
    · exact h.put.put.put
    · refine .ite (fun _ => ?_) fun _ => ?_
      · exact h.put.put.put.setTrim
      · split
        · refine .ite (fun _ => ?_) fun _ => ?_
          · split
            · exact h.put.put.put.moveTrim
            · exact h.put.put.put
          · exact h.put.put.put
        · exact h.put.put.put

theorem Tame.rejectPair {j : Nat} (h : Tame port o s) : Tame port o (s.rejectPair j) := by
  unfold State.rejectPair
  exact .ite (fun _ => h.setSection.raise.fault) fun _ => h.setSection.raise

theorem Tame.driftChecks {j : Nat} {drift : Int} (h : Tame port o s) : Tame port o (s.driftChecks j drift) := by
  unfold State.driftChecks
  extract_lets s1
  have hs1 : Tame port o s1 := .ite (fun _ => h.raise) fun _ => h
  clear_value s1
  exact .ite (fun _ => hs1.fault) fun _ => hs1

theorem Tame.showFigure {f : Fld} {v : Int} (h : Tame port o s) : Tame port o (s.showFigure f v) := by
  unfold State.showFigure
  exact .ite (fun _ => h.wrI) fun _ => h.wr.drew

theorem Tame.trackPair {j : Nat} {ca : Nat} {cb : Nat} {model : Int} (h : Tame port o s) : Tame port o (s.trackPair j ca cb model) := by
  unfold State.trackPair
  refine .ite (fun _ => ?_) fun _ => ?_
  · exact h.wr.wr.wrI.drew.rejectPair
  · exact .ite (fun _ => h.wr.wr.wrI.drew.rejectPair) fun _ => h.wr.wr.wrI.drew.setSection.showFigure.showFigure.driftChecks

theorem Tame.sectionFrame {j : Nat} (h : Tame port o s) : Tame port o (s.sectionFrame j) := by
  unfold State.sectionFrame
  exact .ite (fun _ => h) fun _ => h.autoK.checkSection.hotJudge.applyMask.scanTo.foldl fun _ _ _ ht => ht.showChan

theorem Tame.clearHot {j : Nat} {i : Nat} {v : Nat} (h : Tame port o s) : Tame port o (s.clearHot j i v) := by
  unfold State.clearHot
  exact h.wr

theorem Tame.lockLoop {b : Nat} (h : Tame port o s) : Tame port o (s.lockLoop b) := by
  unfold State.lockLoop
  refine .ite (fun _ => ?_) fun _ => ?_
  · exact (Tame.ite (fun _ => h.put) fun _ => h).degrade
  · exact .ite (fun _ => h) fun _ => (Tame.ite (fun _ => h.put.put.setBank.raise) fun _ => h.put.put.setBank).degrade

theorem Tame.unlockLoop {b : Nat} (h : Tame port o s) : Tame port o (s.unlockLoop b) := by
  unfold State.unlockLoop
  refine .ite (fun _ => ?_) fun _ => ?_
  · exact .ite (fun _ => h.put.fault.degrade) fun _ => h
  · exact .ite (fun _ => h) fun _ => h.put.put.raise.setBank.fault.degrade

theorem Tame.tapCheck {b : Nat} (h : Tame port o s) : Tame port o (s.tapCheck b) := by
  unfold State.tapCheck
  exact .ite (fun _ => h) fun _ => .ite (fun _ => h.put.put.raise.fault) fun _ => h.put.put

theorem Tame.timTimeout {n : Nat} (h : Tame port o s) : Tame port o (s.timTimeout n) := by
  unfold State.timTimeout
  exact .ite (fun _ => h.raise.fault) fun _ => h.raise.fault

theorem Tame.timRange {n : Nat} (h : Tame port o s) : Tame port o (s.timRange n) := by
  unfold State.timRange
  exact .ite (fun _ => h.raise.fault) fun _ => h.raise.fault

theorem Tame.timSession {n : Nat} {code : Nat} (h : Tame port o s) : Tame port o (s.timSession n code) := by
  unfold State.timSession
  exact h.upd

theorem Tame.monitorEdge {sh : Shot} {code : Nat} (h : Tame port o s) : Tame port o (s.monitorEdge sh code) := by
  unfold State.monitorEdge
  exact .ite (fun _ => h.fault) fun _ => h

theorem Tame.timEdge {n : Nat} {code : Nat} (h : Tame port o s) : Tame port o (s.timEdge n code) := by
  unfold State.timEdge
  refine .ite (fun _ => ?_) fun _ => ?_
  · exact h
  · refine .ite (fun _ => ?_) fun _ => ?_
    · exact h.setTimIn.put.setTimIn
    · split
      · exact h.setTimIn.put.timSession
      · refine .ite (fun _ => ?_) fun _ => ?_
        · exact (Tame.ite (fun _ => h.setTimIn.put.setTimIn) fun _ => h.setTimIn.put.setTimIn).monitorEdge
        · exact .ite (fun _ => h.setTimIn.put.setTimIn) fun _ => h.setTimIn.put.setTimIn

theorem Tame.gateClose {n : Nat} (h : Tame port o s) : Tame port o (s.gateClose n) := by
  unfold State.gateClose
  refine .ite (fun _ => ?_) fun _ => ?_
  · exact h
  · dsimp only
    split
    · exact h.setTimIn.put
    · refine .ite (fun _ => ?_) fun _ => ?_
      · exact h.setTimIn.put
      · exact .ite (fun _ => h.setTimIn.wr.wr.wr.put.raise.put.timRange) fun _ => h.setTimIn.wr.wr.wr.put.raise.put

theorem Tame.applyTim (h : Tame port o s) : Tame port o (s.applyTim) := by
  unfold State.applyTim
  extract_lets _ _ s1
  have hs1 : Tame port o s1 := .ite (fun _ => h.applyStaged.upd) fun _ => h.applyStaged
  clear_value s1
  exact hs1.foldl fun _ _ _ ht => .ite (fun _ => ht.put.setTimIn) fun _ => ht

/-! ### THM and WATCH -/

theorem Tame.bankReading {x : Nat} {r : Int} {base : Int} {step : Int} {h_ : Int} (h : Tame port o s) :
    Tame port o (s.bankReading x r base step h_) := by
  unfold State.bankReading
  exact h.foldl fun _ _ _ ht => ht.upd

theorem Tame.freshBank {x : Nat} (h : Tame port o s) : Tame port o (s.freshBank x) := by
  unfold State.freshBank
  exact h.foldl fun _ _ _ ht => ht.upd

theorem Tame.inFrameDo {f : Frame → Frame} (h : Tame port o s) : Tame port o (s.inFrameDo f) := by
  unfold State.inFrameDo
  split
  · exact h.upd
  · exact h

theorem Tame.readSensor {i : Nat} {r : Int} (h : Tame port o s) : Tame port o (s.readSensor i r) := by
  unfold State.readSensor
  exact .ite (fun _ => h.raise) fun _ => .ite (fun _ => h.wrI.inFrameDo.upd.bankReading) fun _ => h.wrI.inFrameDo.upd

theorem Tame.showTj (h : Tame port o s) : Tame port o (s.showTj) := by
  unfold State.showTj
  split
  · exact h
  · exact h.wrI.wrI

theorem Tame.showStep {x : Nat} (h : Tame port o s) : Tame port o (s.showStep x) := by
  unfold State.showStep
  extract_lets _ _ s1
  have hs1 : Tame port o s1 := .ite (fun _ => h) fun _ => h.wr.raise
  clear_value s1
  exact .ite (fun _ => hs1.fault) fun _ => hs1

theorem Tame.readSensors {s0 : State} {sensors : List (BitVec 16)} (h : Tame port o s0) : Tame port o (s0.readSensors sensors) := by
  unfold State.readSensors
  extract_lets _ _ s1 s2
  have hs1 : Tame port o s1 := (h.upd.foldl fun _ _ _ ht => ht.readSensor).showTj
  clear_value s1
  have hs2 : Tame port o s2 := hs1.foldl fun _ _ _ ht => ht.showStep
  clear_value s2
  exact hs2.put

theorem Tame.emtLevel {n : Nat} (h : Tame port o s) : Tame port o (s.emtLevel n) := by
  unfold State.emtLevel
  exact .ite (fun _ => h) fun _ => .ite (fun _ => h.wr.raise.fault) fun _ => h.wr.raise

theorem Tame.setLevel {x : Nat} {n : Nat} (h : Tame port o s) : Tame port o (s.setLevel x n) := by
  unfold State.setLevel
  exact .ite (fun _ => h) fun _ => .ite (fun _ => h.wr.raise.emtLevel) fun _ => h.wr.raise.upd

theorem Tame.setSlotSeen {x : Nat} {b : Bool} (h : Tame port o s) : Tame port o (s.setSlotSeen x b) := by
  unfold State.setSlotSeen
  exact .ite (fun _ => h.upd) fun _ => h.upd

theorem Tame.forceLevel {x : Nat} (h : Tame port o s) : Tame port o (s.forceLevel x) := by
  unfold State.forceLevel
  exact h.setSlotSeen.setLevel

theorem Tame.keepUsable {x : Nat} {r : Int} (h : Tame port o s) : Tame port o (s.keepUsable x r) := by
  unfold State.keepUsable
  exact .ite (fun _ => h.upd) fun _ => h.upd

theorem Tame.usable {s0 : State} {x : Nat} {r : Int} (h : Tame port o s0) : Tame port o (s0.usable x r) := by
  unfold State.usable
  extract_lets _ s1
  have hs1 : Tame port o s1 := .ite (fun _ => h.keepUsable) fun _ => h.keepUsable.freshBank.setSlotSeen
  clear_value s1
  exact hs1.bankReading.setLevel

theorem Tame.delivered {x : Nat} {usable : Bool} (h : Tame port o s) : Tame port o (s.delivered x usable) := by
  unfold State.delivered
  exact .ite (fun _ => h.upd) fun _ => h.upd

theorem Tame.slotLost {x : Nat} (h : Tame port o s) : Tame port o (s.slotLost x) := by
  unfold State.slotLost
  extract_lets _ s1
  have hs1 : Tame port o s1 := .ite (fun _ => h.upd) fun _ => h.upd
  clear_value s1
  exact hs1.fault.forceLevel

theorem Tame.derateOutput {x : Nat} {bad : Bool} {held : Bool} {value : Int} (h : Tame port o s) : Tame port o (s.derateOutput x bad held value) := by
  unfold State.derateOutput
  exact .ite (fun _ => h.delivered.slotLost) fun _ => .ite (fun _ => h.delivered) fun _ => h.delivered.usable

theorem Tame.thmRound (h : Tame port o s) : Tame port o (s.thmRound) := by
  unfold State.thmRound
  exact h.upd

theorem Tame.thmStopped (h : Tame port o s) : Tame port o (s.thmStopped) := by
  unfold State.thmStopped
  exact .ite (fun _ => h.upd.forceLevel.forceLevel) fun _ => h

theorem Tame.requestFast (h : Tame port o s) : Tame port o (s.requestFast) := by
  unfold State.requestFast
  exact .ite (fun _ => h.raise.put) fun _ => h

theorem Tame.showFast (h : Tame port o s) : Tame port o (s.showFast) := by
  unfold State.showFast
  exact .ite (fun _ => h.requestFast) fun _ => h.put

theorem Tame.thmOutput {k : Nat} {bad : Bool} {held : Bool} {value : Int} (h : Tame port o s) : Tame port o (s.thmOutput k bad held value) := by
  unfold State.thmOutput
  refine .ite (fun _ => ?_) fun _ => ?_
  · exact h
  · refine Tame.requestFast ?_
    exact Tame.ite (fun _ => (Tame.ite (fun _ => h.derateOutput) fun _ => h).derateOutput) fun _ => .ite (fun _ => h.derateOutput) fun _ => h

theorem Tame.setWatch {k : Nat} {x : Thresh} (h : Tame port o s) : Tame port o (s.setWatch k x) := by
  unfold State.setWatch
  exact h.upd

theorem Tame.watchSensor {i : Nat} {r : Int} (h : Tame port o s) : Tame port o (s.watchSensor i r) := by
  unfold State.watchSensor
  exact .ite (fun _ => h) fun _ => h.wrI.setWatch.setWatch.setWatch

theorem Tame.showWatch (h : Tame port o s) : Tame port o (s.showWatch) := by
  unfold State.showWatch
  extract_lets _ _ s1 s2 s3
  have hs1 : Tame port o s1 := .ite (fun _ => h.put.raise.fault.tripSet) fun _ => h.put
  clear_value s1
  have hs2 : Tame port o s2 := .ite (fun _ => hs1.raise) fun _ => hs1
  clear_value s2
  have hs3 : Tame port o s3 := .ite (fun _ => hs2) fun _ => hs2.inFrameDo
  clear_value s3
  exact hs3.put.startPulse

/-! ### CONV-H, AFE and FLT -/

theorem Tame.roundStart {sensors : List (BitVec 16)} (h : Tame port o s) : Tame port o (s.roundStart sensors) := by
  unfold State.roundStart
  extract_lets s1 s3 _ _ _ s4
  have hs3 : Tame port o s3 := .ite (fun _ => h.applyLive.applyLiveOf.showFast) fun _ => h.applyLive.applyLiveOf
  clear_value s3
  have hs4 : Tame port o s4 := hs3.put.upd
  clear_value s4
  exact .ite (fun _ => hs4.readSensors.requestFast) fun _ => hs4

theorem Tame.slotStart {k : Nat} (h : Tame port o s) : Tame port o (s.slotStart k) := by
  unfold State.slotStart
  exact h.applyLiveOf.setSlot.put.put.upd

theorem Tame.convert {k : Nat} {code : Int} (h : Tame port o s) : Tame port o (s.convert k code) := by
  unfold State.convert
  exact .ite (fun _ => .ite (fun _ => h.setSlot.wr.fault) fun _ => h.setSlot.wr) fun _ => h.setSlot

theorem Tame.deliverOut {k : Nat} {value : Nat} {f : OutFlags} (h : Tame port o s) : Tame port o (s.deliverOut k value f) := by
  unfold State.deliverOut
  extract_lets _ s2
  have hs2 : Tame port o s2 := by
    refine Tame.pushResult ?_
    exact Tame.ite (fun _ => h.wr.put.put.put.put.put.wrap.wr.raise.fault) fun _ => h.wr.put.put.put.put.put.wrap.wr
  clear_value s2
  exact hs2.thmOutput

theorem Tame.staleOut {k : Nat} {blank : Bool} {open_ : Bool} {ovr : Bool} (h : Tame port o s) : Tame port o (s.staleOut k blank open_ ovr) := by
  unfold State.staleOut
  exact h.deliverOut

theorem Tame.validOut {k : Nat} (h : Tame port o s) : Tame port o (s.validOut k) := by
  unfold State.validOut
  refine .ite (fun _ => ?_) fun _ => ?_
  · exact h.setSlot.deliverOut
  · dsimp only
    split
    · exact h.setSlot.deliverOut.drew
    · exact (Tame.ite (fun _ => h.setSlot) fun _ => h.setSlot.raise).deliverOut

theorem Tame.slotOutput {k : Nat} (h : Tame port o s) : Tame port o (s.slotOutput k) := by
  unfold State.slotOutput
  refine .ite (fun _ => ?_) fun _ => ?_
  · exact h.staleOut
  · refine .ite (fun _ => ?_) fun _ => ?_
    · exact (Tame.ite (fun _ => h.wrI) fun _ => h).staleOut
    · refine .ite (fun _ => ?_) fun _ => ?_
      · exact ((Tame.ite (fun _ => h.wrI) fun _ => h).setSlot).deliverOut
      · exact .ite (fun _ => ((Tame.ite (fun _ => h.wrI) fun _ => h).setSlot).deliverOut) fun _ => (Tame.ite (fun _ => h.wrI) fun _ => h).validOut

theorem Tame.stopRounds (h : Tame port o s) : Tame port o (s.stopRounds) := by
  unfold State.stopRounds
  exact h.put.put.raise.upd.thmStopped

theorem Tame.offsetOut {k : Nat} (h : Tame port o s) : Tame port o (s.offsetOut k) := by
  unfold State.offsetOut
  split
  · exact h
  · exact h.upd

theorem Tame.takeOffsets (h : Tame port o s) : Tame port o (s.takeOffsets) := by
  unfold State.takeOffsets
  exact .ite (fun _ => h) fun _ => .ite (fun _ => ((h.upd.foldl fun _ _ _ ht => ht.wrI).put).upd) fun _ => h.upd

theorem Tame.roundEnd {s0 : State} (h : Tame port o s0) : Tame port o (s0.roundEnd) := by
  unfold State.roundEnd
  extract_lets _ _ s2
  have hs2 : Tame port o s2 := .ite (fun _ => h.takeOffsets.wrap.raise.vspadRound.thmRound) fun _ => h.takeOffsets.wrap.raise.vspadRound
  clear_value s2
  exact .ite (fun _ => hs2.stopRounds) fun _ => hs2.upd

theorem Tame.blankOver {k : Nat} (h : Tame port o s) : Tame port o (s.blankOver k) := by
  unfold State.blankOver
  exact .ite (fun _ => h) fun _ => h.setSlot

theorem Tame.periodEnd (h : Tame port o s) : Tame port o (s.periodEnd) := by
  unfold State.periodEnd
  extract_lets _ s1 s2 s3
  have hs1 : Tame port o s1 := .ite (fun _ => h.offsetOut) fun _ => h
  clear_value s1
  have hs2 : Tame port o s2 := (Tame.ite (fun _ => hs1.slotOutput) fun _ => hs1).blankOver
  clear_value s2
  have hs3 : Tame port o s3 := by
    refine .ite (fun _ => ?_) fun _ => hs2
    split
    · exact hs2.vspadReading
    · exact hs2
  clear_value s3
  exact .ite (fun _ => hs3.upd.roundEnd) fun _ => hs3.upd

theorem Tame.convhControl {v : Nat} (h : Tame port o s) : Tame port o (s.convhControl v) := by
  unfold State.convhControl
  extract_lets _ _ _ s1
  have hs1 : Tame port o s1 := .ite (fun _ => h.put.upd) fun _ => h
  clear_value s1
  exact .ite (fun _ => hs1) fun _ => .ite (fun _ => hs1.err) fun _ => hs1.upd

/-! ### Return engines -/

theorem Tame.showSpare {k : Nat} (h : Tame port o s) : Tame port o (s.showSpare k) := by
  unfold State.showSpare
  exact h.put

theorem Tame.setReState {k : Nat} {st : Nat} (h : Tame port o s) : Tame port o (s.setReState k st) := by
  unfold State.setReState
  exact h.wr.put.put.showSpare

theorem Tame.haltSelf {k : Nat} (h : Tame port o s) : Tame port o (s.haltSelf k) := by
  unfold State.haltSelf
  exact h.put.put.showSpare

theorem Tame.closeReFrame {k : Nat} (h : Tame port o s) : Tame port o (s.closeReFrame k) := by
  unfold State.closeReFrame
  exact h.wr.wr.wr.wr.setEngine h.engine

theorem Tame.callFrameEnd {k : Nat} {x : ShotRef} (h : Tame port o s) : Tame port o (s.callFrameEnd k x) := by
  unfold State.callFrameEnd
  exact .ite (fun _ => h) fun _ => (h.setEngine h.engine.upd).closeReFrame

theorem Tame.writeMarker {k : Nat} {x : ShotRef} {outcome : Nat} {records : Nat} (h : Tame port o s) :
    Tame port o (s.writeMarker k x outcome records) := by
  unfold State.writeMarker
  extract_lets _ _ s2
  have hs2 : Tame port o s2 := .ite (fun _ => h.pushEntry.setEngine h.engine.upd) fun _ => h.pushEntry
  clear_value s2
  exact hs2.callFrameEnd

theorem Tame.giveUpWith {k : Nat} {x : ShotRef} {records : Nat} (h : Tame port o s) : Tame port o (s.giveUpWith k x records) := by
  unfold State.giveUpWith
  extract_lets _ _ s1 s2
  have hs1 : Tame port o s1 := (h.setEngine h.engine.upd).raise
  clear_value s1
  have hs2 : Tame port o s2 := .ite (fun _ => hs1.fault) fun _ => hs1
  clear_value s2
  exact hs2.writeMarker

theorem Tame.giveUp {k : Nat} {x : ShotRef} (h : Tame port o s) : Tame port o (s.giveUp k x) := by
  unfold State.giveUp
  exact h.giveUpWith

theorem Tame.giveUpOpt {k : Nat} {x : Option ShotRef} (h : Tame port o s) : Tame port o (s.giveUpOpt k x) := by
  unfold State.giveUpOpt
  split
  · exact h.giveUp
  · exact h

theorem Tame.leave {k : Nat} (h : Tame port o s) : Tame port o (s.leave k) := by
  unfold State.leave
  extract_lets e
  have he : e.Fit o := h.engine
  clear_value e
  split
  · exact h
  · exact .ite (fun _ => (h.setEngine he.upd).setReState.raise.wr.haltSelf) fun _ => (h.setEngine he.upd).setReState.raise.wr

theorem Tame.lockUp {k : Nat} {e : Engine} (h : Tame port o s) (he : e.Fit o) : Tame port o (s.lockUp k e) := by
  unfold State.lockUp
  extract_lets _ s2 s3
  have hs2 : Tame port o s2 := (h.setEngine he.upd).setReState.fault
  clear_value s2
  have hs3 : Tame port o s3 := by
    unfold s3
    split
    · exact .ite (fun _ => hs2.giveUpWith) fun _ => hs2
    · exact hs2
  clear_value s3
  exact hs3.giveUpOpt.leave.retireOld

theorem Tame.reError {k : Nat} {e : Engine} {cause : Nat} {addr : Word} (h : Tame port o s) (he : e.Fit o) :
    Tame port o (s.reError k e cause addr) := by
  unfold State.reError
  extract_lets s1 _ e1 s2
  have hs1 : Tame port o s1 := h.wr.wr.wr
  clear_value s1
  have he1 : e1.Fit o := he.upd
  clear_value e1
  have hs2 : Tame port o s2 := (hs1.setEngine he1.enterHandler).raise
  clear_value s2
  exact .ite (fun _ => hs1.lockUp he) fun _ => .ite (fun _ => hs2.fault) fun _ => hs2

theorem Tame.memUe {k : Nat} {e : Engine} {cause : Nat} {addr : Word} (h : Tame port o s) (he : e.Fit o) : Tame port o (s.memUe k e cause addr) := by
  unfold State.memUe
  exact h.count.fault.reError he

theorem Tame.load {k : Nat} {e : Engine} {a : Word} {n : Nat} {align : Nat} {found : Ecc} {go : State → Engine → List Byte → State}
    (h : Tame port o s) (he : e.Fit o) (hgo : ∀ (a : State) (a_1 : Engine) (a_2 : List Byte),   Tame port o a → Engine.Fit o a_1 → Tame port o (go a a_1 a_2)) :
    Tame port o (s.load k e a n align found go) := by
  unfold State.load
  refine .ite (fun _ => ?_) fun _ => ?_
  · exact h.reError he
  · split
    · exact h.reError he
    · exact hgo _ _ _ h he
    · exact .ite (fun _ => h.memUe he) fun _ => hgo _ _ _ (Tame.ite (fun _ => h.count) fun _ => h) he
    · exact .ite (fun _ => h.memUe he) fun _ => hgo _ _ _ (Tame.ite (fun _ => h.count) fun _ => h) he
    · exact .ite (fun _ => hgo _ _ _ h.stackEcc.count.drew he) fun _ => hgo _ _ _ h.stackEcc he

theorem Tame.store {k : Nat} {e : Engine} {a : Word} {align : Nat} {bs : List Byte} (h : Tame port o s) (he : e.Fit o) :
    Tame port o (s.store k e a align bs) := by
  unfold State.store
  refine .ite (fun _ => h.reError he) fun _ => .ite (fun _ => h.reError he) fun _ => h.setEngine fun ho => ?_
  obtain ⟨hzero, himem, hdmem⟩ := he ho
  exact ⟨hzero, himem, Mem.wf_write _ _ _ hdmem⟩

theorem Tame.fetched {k : Nat} {fetch : Ecc} (h : Tame port o s) : Tame port o (s.fetched k fetch) := by
  unfold State.fetched
  exact .ite (fun _ => h.count) fun _ => h

theorem Tame.issue {k : Nat} {w : Word} {fetch : Ecc} {go : State → Engine → State} (h : Tame port o s) (hgo : ∀ (a : State)
    (a_1 : Engine),   Tame port o a → Engine.Fit o a_1 → Tame port o (go a a_1)) :
    Tame port o (s.issue k w fetch go) := by
  unfold State.issue
  refine .ite (fun _ => ?_) fun _ => ?_
  · exact h
  · refine .ite (fun _ => ?_) fun _ => ?_
    · exact h.reError h.engine
    · exact .ite (fun _ => h.memUe h.engine) fun _ => .ite (fun _ => h) fun _ => hgo _ _ h.fetched h.engine

theorem Tame.next {k : Nat} {e : Engine} (h : Tame port o s) (he : e.Fit o) : Tame port o (s.next k e) := by
  unfold State.next
  exact h.setEngine he

theorem Tame.illegal {k : Nat} {e : Engine} (h : Tame port o s) (he : e.Fit o) : Tame port o (s.illegal k e) := by
  unfold State.illegal
  exact h.reError he

/-! ### Scalar instructions -/

theorem Tame.immediate {re : Nat} {fetch : Ecc} {op : BitVec 6} {rd : BitVec 5} {ra : BitVec 5} {imm : BitVec 16} {f : Word → Word}
    (h : Tame port o s) :
    Tame port o (s.immediate re fetch op rd ra imm f) := by
  unfold State.immediate
  exact h.issue (fun x0 x1 x2 x3 => x2.next x3.setReg)

theorem Tame.loadReg {re : Nat} {fetch : Ecc} {op : BitVec 6} {rd : BitVec 5} {ra : BitVec 5} {imm : BitVec 16} {n : Nat} {found : Ecc}
    {f : Nat → Word} (h : Tame port o s) :
    Tame port o (s.loadReg re fetch op rd ra imm n found f) := by
  unfold State.loadReg
  exact h.issue (fun x0 x1 x2 x3 => x2.load x3 (fun x0 x1 x2 x3 x4 => x3.next x4.setReg))

theorem Tame.storeReg {re : Nat} {fetch : Ecc} {op : BitVec 6} {rs : BitVec 5} {ra : BitVec 5} {imm : BitVec 16} {n : Nat} (h : Tame port o s) :
    Tame port o (s.storeReg re fetch op rs ra imm n) := by
  unfold State.storeReg
  exact h.issue (fun x0 x1 x2 x3 => x2.store x3)

theorem Tame.branch {re : Nat} {fetch : Ecc} {op : BitVec 6} {ra : BitVec 5} {rb : BitVec 5} {off : BitVec 16} {c : Word → Word → Bool}
    (h : Tame port o s) :
    Tame port o (s.branch re fetch op ra rb off c) := by
  unfold State.branch
  exact h.issue (fun x0 x1 x2 x3 => .ite (fun _ => x2.setEngine x3) fun _ => x2.next x3)

theorem Tame.sys {re : Nat} {fetch : Ecc} {func : BitVec 11} {rd : BitVec 5} {ra : BitVec 5} {rb : BitVec 5} {ok : Bool}
    {go : State → Engine → State} (h : Tame port o s) (hgo : ∀ (a : State) (a_1 : Engine),   Tame port o a → Engine.Fit o a_1 → Tame port o (go a a_1)) :
    Tame port o (s.sys re fetch func rd ra rb ok go) := by
  unfold State.sys
  exact h.issue (fun x0 x1 x2 x3 => .ite (fun _ => hgo _ _ x2 x3) fun _ => x2.illegal x3)

theorem Tame.sendProx {re : Nat} {late : Bool} {w : Word} (h : Tame port o s) : Tame port o (s.sendProx re late w) := by
  unfold State.sendProx
  exact .ite (fun _ => h.count.fault.upd) fun _ => h.upd

/-! ### The standard firmware -/

theorem Tame.emitAll {k : Nat} {ws : List DWord} (h : Tame port o s) : Tame port o (s.emitAll k ws) := by
  unfold State.emitAll
  exact h.foldl fun _ _ _ ht => ht.pushEntry

theorem Tame.fwErrors {k : Nat} {errors : List StackError} (h : Tame port o s) : Tame port o (s.fwErrors k errors) := by
  unfold State.fwErrors
  exact .ite (fun _ => h.stackErrors.count) fun _ => h.stackErrors.count.setEngine h.stackErrors.count.engine

theorem Tame.fwShotRun {s0 : State} {k : Nat} {x : ShotRef} {found : List StackError} (h : Tame port o s0) :
    Tame port o (s0.fwShotRun k x found) := by
  unfold State.fwShotRun
  extract_lets _ errors early _ near rest far s e late _ _ s1 sh res processed fw _ s1'
  have hnear : Tame port o near := (h.drew.stackMem h.spoiledBy).fwErrors
  clear_value near
  have hfar : Tame port o far := (hnear.stackMem h.spoiledBy).fwErrors
  clear_value far
  have hs : Tame port o s := hfar.stackMem h.stackFit
  clear_value s
  have he : e.Fit o := hs.engine
  clear_value e
  have hs1 : Tame port o s1 := hs.setEngine he.setReg.upd
  clear_value s1
  have hs1' : Tame port o s1' := hs.setEngine he.setReg.upd
  clear_value s1'
  exact .ite (fun _ => hs1.drew.sendProx) fun _ => hs1'.drew.sendProx.emitAll

theorem Tame.fwShotEnd {k : Nat} {x : ShotRef} (h : Tame port o s) : Tame port o (s.fwShotEnd k x) := by
  unfold State.fwShotEnd
  exact .ite (fun _ => h) fun _ => .ite (fun _ => (h.setEngine h.engine.setReg.upd).emitAll) fun _ => h.setEngine h.engine.upd

theorem Tame.fwHandler {k : Nat} {h_ : Handler} {accession : Word} (h : Tame port o s) : Tame port o (s.fwHandler k h_ accession) := by
  unfold State.fwHandler
  exact h.setEngine h.engine.upd

/-! ### The dispatcher -/

theorem Tame.shotReady {k : Nat} {x : ShotRef} (h : Tame port o s) : Tame port o (s.shotReady k x) := by
  unfold State.shotReady
  extract_lets _ s1 s2
  have hs2 : Tame port o s2 := (h.setEngine h.engine.upd).giveUpOpt
  clear_value s2
  exact (Tame.ite (fun _ => hs2.setEngine hs2.engine.upd) fun _ => hs2.giveUp).retireOld

theorem Tame.takeStep {k : Nat} (h : Tame port o s) : Tame port o (s.takeStep k) := by
  unfold State.takeStep
  exact h.upd

theorem Tame.enterCall {k : Nat} {c : Call} (h : Tame port o s) : Tame port o (s.enterCall k c) := by
  unfold State.enterCall
  extract_lets _ _ _ _ s1
  have hs1 : Tame port o s1 := h.setEngine h.engine.enterHandler.upd
  clear_value s1
  exact .ite (fun _ => hs1.fwHandler) fun _ => hs1

theorem Tame.enterShot {k : Nat} {x : ShotRef} {errors : List StackError} (h : Tame port o s) : Tame port o (s.enterShot k x errors) := by
  unfold State.enterShot
  extract_lets _ _ e1 s1
  have he1 : e1.Fit o := h.engine.enterHandler
  clear_value e1
  have hs1 : Tame port o s1 := h.setEngine he1.upd
  clear_value s1
  exact .ite (fun _ => hs1.fwShotRun) fun _ => hs1

theorem Tame.initEnds {k : Nat} {returned : Bool} (h : Tame port o s) : Tame port o (s.initEnds k returned) := by
  unfold State.initEnds
  extract_lets _ s1
  have hs1 : Tame port o s1 := (h.setEngine h.engine.upd).setReState
  clear_value s1
  exact .ite (fun _ => hs1.raise) fun _ => hs1

theorem Tame.handlerEnds {k : Nat} {h_ : Handler} {error : Bool} (h : Tame port o s) : Tame port o (s.handlerEnds k h_ error) := by
  unfold State.handlerEnds
  dsimp only
  split
  · exact h.initEnds
  · split
    · exact h
    · rename_i x _
      have hs1 : Tame port o (if (!error && s.standard k) = true then s.fwShotEnd k x else s) := .ite (fun _ => h.fwShotEnd) fun _ => h
      exact (hs1.setEngine hs1.engine.upd).writeMarker.retireOld
  · exact h.leave
  · exact h

/-! ### Handover and loading -/

theorem Tame.clearSecRecord {k : Nat} (h : Tame port o s) : Tame port o (s.clearSecRecord k) := by
  unfold State.clearSecRecord
  exact h.upd

theorem Tame.loadAddr {k : Nat} {v : Nat} (h : Tame port o s) : Tame port o (s.loadAddr k v) := by
  unfold State.loadAddr
  extract_lets _ s1
  have hs1 : Tame port o s1 := .ite (fun _ => h) fun _ => h.err
  clear_value s1
  exact .ite (fun _ => hs1.err) fun _ => .ite (fun _ => hs1.wrBoth.clearSecRecord) fun _ => hs1

theorem Tame.loadData {path : Path} {k : Nat} {v : Nat} (h : Tame port o s) : Tame port o (s.loadData path k v) := by
  unfold State.loadData
  extract_lets _ e e1 s1 s2
  have he1 : e1.Fit o := by
    intro ho
    obtain ⟨hzero, himem, hdmem⟩ := h.engine (k := k) ho
    unfold e1
    split
    · exact ⟨hzero, Mem.wf_setLe _ _ _ _ himem, hdmem⟩
    · exact ⟨hzero, himem, Mem.wf_setLe _ _ _ _ hdmem⟩
  clear_value e1
  have hs2 : Tame port o s2 := (h.setEngine he1.upd).wrBoth
  clear_value s2
  exact .ite (fun _ => h.err) fun _ => .ite (fun _ => h.err) fun _ => .ite (fun _ => h.err) fun _ =>
    .ite (fun _ => hs2.clearSecRecord) fun _ => hs2

theorem Tame.checkAbi {k : Nat} (h : Tame port o s) : Tame port o (s.checkAbi k) := by
  unfold State.checkAbi
  extract_lets e _ _ e1 s1
  have he1 : e1.Fit o := (h.engine (k := k)).cleared rfl rfl rfl
  clear_value e1
  exact .ite (fun _ => h.raise.err.haltSelf.setReState) fun _ => (h.setEngine he1).wr.wr.wr.put.wr.setReState

theorem Tame.reHalted {k : Nat} (h : Tame port o s) : Tame port o (s.reHalted k) := by
  unfold State.reHalted
  exact (h.setEngine h.engine.upd).giveUpOpt.showSpare.retireOld

theorem Tame.reResumed {k : Nat} (h : Tame port o s) : Tame port o (s.reResumed k) := by
  unfold State.reResumed
  exact .ite (fun _ => h.checkAbi) fun _ => (h.setEngine h.engine.upd).showSpare

theorem Tame.request {f : ReqFlds} {other : ReqFlds} {v : Nat} (h : Tame port o s) : Tame port o (s.request f other v) := by
  unfold State.request
  refine .ite (fun _ => ?_) fun _ => ?_
  · exact h.err.raise
  · refine .ite (fun _ => ?_) fun _ => ?_
    · exact .ite (fun _ => h.err.raise) fun _ => h.err.wr
    · exact .ite (fun _ => h.wr.wr) fun _ => .ite (fun _ => h.err.raise) fun _ => .ite (fun _ => h.err.raise) fun _ => h.put.wr.wr

theorem Tame.unfence {k : Nat} {v : Nat} (h : Tame port o s) : Tame port o (s.unfence k v) := by
  have hfree : Tame port o ((s.setReState k stEmpty).put (REG.FENCED k) false) := h.setReState.put
  unfold State.unfence
  generalize (s.setReState k stEmpty).put (REG.FENCED k) false = t at hfree
  exact .ite (fun _ => h) fun _ => .ite (fun _ => hfree.frame rfl) fun _ => h.err

theorem Tame.beginService {k : Nat} {g : Nat} (h : Tame port o s) : Tame port o (s.beginService k g) := by
  unfold State.beginService
  exact (h.setEngine h.engine.upd).setReState.wr.raise

theorem Tame.relieve {k : Nat} {kind : Nat} (h : Tame port o s) : Tame port o (s.relieve k kind) := by
  unfold State.relieve
  extract_lets _ _ s1
  have hs1 : Tame port o s1 := h.setEngine h.engine.upd
  clear_value s1
  exact .ite (fun _ => .ite (fun _ => hs1) fun _ => hs1.leave) fun _ => .ite (fun _ => h.setReState.haltSelf) fun _ => h

theorem Tame.reqResult {f : ReqFlds} {outcome : Nat} {first : Word} (h : Tame port o s) : Tame port o (s.reqResult f outcome first) := by
  unfold State.reqResult
  exact h.wr.wr.wr.wr.wr

theorem Tame.carryOut {f : ReqFlds} {first : Word} (h : Tame port o s) : Tame port o (s.carryOut f first) := by
  unfold State.carryOut
  extract_lets _ _ s1 _ s2 s3 s4 _ s5
  have hs1 : Tame port o s1 := h.put.reqResult
  clear_value s1
  have hs3 : Tame port o s3 := .ite (fun _ => hs1.wr.raise.put) fun _ => hs1.wr.raise
  clear_value s3
  have hs4 : Tame port o s4 := hs3.relieve.beginService
  clear_value s4
  have hs5 : Tame port o s5 := .ite (fun _ => hs4.setEngine hs4.engine.upd) fun _ => hs4
  clear_value s5
  exact .ite (fun _ => hs1.raise) fun _ => hs5.frame rfl

theorem Tame.handover {first : Word} (h : Tame port o s) : Tame port o (s.handover first) := by
  unfold State.handover
  exact .ite (fun _ => .ite (fun _ => h.carryOut.carryOut) fun _ => h.carryOut) fun _ => .ite (fun _ => h.carryOut) fun _ => h

theorem Tame.takeUp (h : Tame port o s) : Tame port o (s.takeUp) := by
  unfold State.takeUp
  exact h.foldl fun _ _ _ ht => .ite (fun _ => ht.beginService) fun _ => ht

theorem Tame.reBeforeReset {k : Nat} (h : Tame port o s) : Tame port o (s.reBeforeReset k) := by
  unfold State.reBeforeReset
  extract_lets _ cut
  have hcut : Tame port o cut := by
    unfold cut
    split
    · exact .ite (fun _ => h.writeMarker) fun _ => h
    · exact h
  clear_value cut
  exact (hcut.setEngine hcut.engine.upd).giveUpOpt.leave.clearSecRecord

theorem Tame.reAfterReset {k : Nat} (h : Tame port o s) : Tame port o (s.reAfterReset k) := by
  unfold State.reAfterReset
  extract_lets _ _ s1
  have hs1 : Tame port o s1 := h.setEngine fun ho => ⟨rfl, Mem.Fit.empty ho, Mem.Fit.empty ho⟩
  clear_value s1
  exact .ite (fun _ => hs1.setReState) fun _ => hs1

/-! ### LMP -/

theorem Tame.lmpLoad (h : Tame port o s) : Tame port o (s.lmpLoad) := by
  unfold State.lmpLoad
  dsimp only
  split
  · exact h.put.wr.raise
  · exact h.put.put.put.raise.upd

theorem Tame.applyLmp (h : Tame port o s) : Tame port o (s.applyLmp) := by
  unfold State.applyLmp
  extract_lets _ _ _ _ s2
  have hs2 : Tame port o s2 := h.applyStaged.upd.foldl fun _ _ _ ht => ht.wr
  clear_value s2
  exact hs2.foldl fun _ _ _ ht => ht.wr

theorem Tame.fadeTick {st : Nat} (h : Tame port o s) : Tame port o (s.fadeTick st) := by
  unfold State.fadeTick
  exact .ite (fun _ => h) fun _ => .ite (fun _ => h.wr.upd) fun _ => h.wr.upd

theorem Tame.lampStep {l : Nat} (h : Tame port o s) : Tame port o (s.lampStep l) := by
  unfold State.lampStep
  exact .ite (fun _ => h.upd) fun _ => h.upd

theorem Tame.lampPins {dark : Bool} (h : Tame port o s) : Tame port o (s.lampPins dark) := by
  unfold State.lampPins
  exact h.upd

theorem Tame.lampLevel (h : Tame port o s) : Tame port o (s.lampLevel) := by
  unfold State.lampLevel
  exact .ite (fun _ => h) fun _ => .ite (fun _ => h.wr.raise.fault) fun _ => h.wr.raise

theorem Tame.lampTick (h : Tame port o s) : Tame port o (s.lampTick) := by
  unfold State.lampTick
  refine .ite (fun _ => ?_) fun _ => ?_
  · exact h.lampPins.lampLevel.upd
  · exact (((h.lampPins.applyLive.lampLevel.foldl fun _ _ _ ht => ht.fadeTick).foldl fun _ _ _ ht => ht.lampStep).put).upd

/-! ### PCA -/

theorem Tame.recBad (h : Tame port o s) : Tame port o (s.recBad) := by
  unfold State.recBad
  exact h.count.raise.fault

theorem Tame.takeRecord {m : MarkerId} {w : Nat} (h : Tame port o s) : Tame port o (s.takeRecord m w) := by
  unfold State.takeRecord
  split
  · exact h
  · split
    · exact h.recBad
    · exact h.count.raise
    · exact h.upd

theorem Tame.showOut (h : Tame port o s) : Tame port o (s.showOut) := by
  unfold State.showOut
  exact h.wr.wr.upd

theorem Tame.pushBlock {rawWords : Nat} {block : List Nat} (h : Tame port o s) : Tame port o (s.pushBlock rawWords block) := by
  unfold State.pushBlock
  exact h.upd.showOut

theorem Tame.pushFrame {ws : List Nat} (h : Tame port o s) : Tame port o (s.pushFrame ws) := by
  unfold State.pushFrame
  exact h.pushBlock

theorem Tame.verifyFailed (h : Tame port o s) : Tame port o (s.verifyFailed) := by
  unfold State.verifyFailed
  exact h.count.raise.fault.upd

theorem Tame.columnBlock {c : Column} {flips : List Nat} (h : Tame port o s) : Tame port o (s.columnBlock c flips).1 := by
  unfold State.columnBlock
  split
  · exact h
  · split
    · exact h.upd
    · split
      · exact h.verifyFailed
      · exact h

theorem Tame.pushColumn {c : Column} {flips : List Nat} (h : Tame port o s) : Tame port o (s.pushColumn c flips) := by
  unfold State.pushColumn
  exact h.columnBlock.upd.pushBlock

theorem Tame.pushHead (h : Tame port o s) : Tame port o (s.pushHead) := by
  unfold State.pushHead
  refine .ite (fun _ => ?_) fun _ => ?_
  · exact h
  · split
    · exact h.pushFrame.upd
    · exact h

theorem Tame.showFrame (h : Tame port o s) : Tame port o (s.showFrame) := by
  unfold State.showFrame
  exact h.wr.wr.wr.wr.wr

theorem Tame.ledgerOutput {s0 : State} (h : Tame port o s0) : Tame port o (s0.ledgerOutput) := by
  unfold State.ledgerOutput
  dsimp only
  split
  · exact h.pushHead
  · exact .ite (fun _ => h.pushHead) fun _ => h.pushHead.pushFrame.showFrame.upd.retireOld.pushHead

end
end Sys2Proof.Machine
end

section
/-! PROOFS. Operations are tame: the link, SAF’s commands, SCN, resets, power, commits. -/
namespace Sys2Proof.Machine
open Sys2Proof

section
variable {port : Bool} {o s : State}

/-! ### LNK -/

theorem Tame.send {l : List (Nat × DWord)} (h : Tame port o s) : Tame port o (s.send l) := by
  unfold State.send
  exact h.upd

theorem Tame.showPair (h : Tame port o s) : Tame port o (s.showPair) := by
  unfold State.showPair
  exact h.put

theorem Tame.laneUp {l : Nat} (h : Tame port o s) : Tame port o (s.laneUp l) := by
  unfold State.laneUp
  exact .ite (fun _ => h.raise.upd) fun _ => h.raise

theorem Tame.laneLeft {l : Nat} (h : Tame port o s) : Tame port o (s.laneLeft l) := by
  unfold State.laneLeft
  exact .ite (fun _ => h.raise.put.upd.showPair) fun _ => h.raise.put

theorem Tame.setLaneState {l : Nat} {st : Nat} (h : Tame port o s) : Tame port o (s.setLaneState l st) := by
  unfold State.setLaneState
  exact .ite (fun _ => h.wr.put.laneUp) fun _ => .ite (fun _ => h.wr.put.laneLeft) fun _ => h.wr.put

theorem Tame.laneDown {l : Nat} (h : Tame port o s) : Tame port o (s.laneDown l) := by
  unfold State.laneDown
  exact .ite (fun _ => h.setLaneState.setLane.wr) fun _ => h.setLaneState.setLane.wr.put.put.put.wr

theorem Tame.windowFields {l : Nat} (h : Tame port o s) : Tame port o (s.windowFields l) := by
  unfold State.windowFields
  exact .ite (fun _ => ((h.applyLiveOf).wr).wr) fun _ => h.applyLiveOf

theorem Tame.equaliseTap {l : Nat} {tap : Fld} {other : Fld} {req : Nat} {most : Nat} (h : Tame port o s) :
    Tame port o (s.equaliseTap l tap other req most) := by
  unfold State.equaliseTap
  split
  · exact .ite (fun _ => (h.wr).setLane) fun _ => h
  · exact h

theorem Tame.equalise {l : Nat} (h : Tame port o s) : Tame port o (s.equalise l) := by
  unfold State.equalise
  exact h.equaliseTap.equaliseTap

theorem Tame.startWindow {l : Nat} (h : Tame port o s) : Tame port o (s.startWindow l) := by
  unfold State.startWindow
  exact h.windowFields.setLane

theorem Tame.takeRate {l : Nat} {r : Nat} (h : Tame port o s) : Tame port o (s.takeRate l r) := by
  unfold State.takeRate
  exact .ite (fun _ => h.wr.setLane.startWindow) fun _ => h.wr.setLane.startWindow.put.put.put.wr.setLaneState

theorem Tame.retrainLane {l : Nat} {st : Nat} {rate : Nat} (h : Tame port o s) : Tame port o (s.retrainLane l st rate) := by
  unfold State.retrainLane
  exact h.wr.setLaneState.raise.count.setLane.startWindow

theorem Tame.setBundle {up : Bool} {active : List Nat} (h : Tame port o s) : Tame port o (s.setBundle up active) := by
  unfold State.setBundle
  exact h.put.put.wr.upd

theorem Tame.showCredit (h : Tame port o s) : Tame port o (s.showCredit) := by
  unfold State.showCredit
  exact h.wr.wr

theorem Tame.showSeq (h : Tame port o s) : Tame port o (s.showSeq) := by
  unfold State.showSeq
  exact h.wr.wr

theorem Tame.bundleDown (h : Tame port o s) : Tame port o (s.bundleDown) := by
  unfold State.bundleDown
  extract_lets s1
  have hs1 : Tame port o s1 := h.foldl fun t a ha ht => .ite (fun _ => ht) fun _ => ht.laneDown
  clear_value s1
  exact hs1.upd.setPath.setBundle.wr.showCredit.showSeq

theorem Tame.noneLeft (h : Tame port o s) : Tame port o (s.noneLeft) := by
  unfold State.noneLeft
  exact .ite (fun _ => (h.foldl fun t a ha ht => ht.laneDown).bundleDown) fun _ => h

theorem Tame.retrainBundle (h : Tame port o s) : Tame port o (s.retrainBundle) := by
  unfold State.retrainBundle
  extract_lets _ one s1
  have hone {t l} (ht : Tame port o t) : Tame port o (one t l) := .ite (fun _ => ht.retrainLane) fun _ => ht.laneDown
  have hs1 : Tame port o s1 := (h.foldl fun _ _ _ ht => hone ht).setBundle
  clear_value s1
  exact .ite (fun _ => hs1) fun _ => hs1.noneLeft

theorem Tame.leaveStripe {l : Nat} (h : Tame port o s) : Tame port o (s.leaveStripe l) := by
  unfold State.leaveStripe
  exact .ite (fun _ => h) fun _ => .ite (fun _ => h.setLane) fun _ => h.retrainBundle

theorem Tame.deskew {l : Nat} (h : Tame port o s) : Tame port o (s.deskew l) := by
  unfold State.deskew
  exact .ite (fun _ => h.setLaneState.setLane.setLaneState.upd.setBundle) fun _ => h.setLaneState.setLane

theorem Tame.stepTogether (h : Tame port o s) : Tame port o (s.stepTogether) := by
  unfold State.stepTogether
  exact .ite (fun _ => h) fun _ => .ite (fun _ => h.foldl fun t a ha ht => ht.takeRate) fun _ => h.wr.foldl fun t a ha ht => ht.deskew

theorem Tame.allFailed {r : Nat} (h : Tame port o s) : Tame port o (s.allFailed r) := by
  unfold State.allFailed
  exact .ite (fun _ => h) fun _ => h.wr.foldl fun t a ha ht => ht.wr.deskew

theorem Tame.dataPassed {l : Nat} (h : Tame port o s) : Tame port o (s.dataPassed l) := by
  unfold State.dataPassed
  refine .ite (fun _ => ?_) fun _ => ?_
  · exact h.deskew
  · refine .ite (fun _ => ?_) fun _ => ?_
    · exact .ite (fun _ => h.deskew) fun _ => .ite (fun _ => h.takeRate) fun _ => h.setLaneState
    · exact .ite (fun _ => h.takeRate) fun _ => h.setLane.stepTogether

theorem Tame.laneGone (h : Tame port o s) : Tame port o (s.laneGone) := by
  unfold State.laneGone
  exact (Tame.ite (fun _ => h) fun _ => h.noneLeft).stepTogether

theorem Tame.dataFailed {l : Nat} (h : Tame port o s) : Tame port o (s.dataFailed l) := by
  unfold State.dataFailed
  refine .ite (fun _ => ?_) fun _ => ?_
  · exact h.setLaneState.setLane.noneLeft
  · exact .ite (fun _ => h.laneDown.fault.laneGone) fun _ => h.setLaneState.setLane.allFailed.stepTogether

theorem Tame.controlPassed {l : Nat} (h : Tame port o s) : Tame port o (s.controlPassed l) := by
  unfold State.controlPassed
  exact .ite (fun _ => h.takeRate) fun _ => h.setLaneState.setLane

theorem Tame.controlFailed {l : Nat} (h : Tame port o s) : Tame port o (s.controlFailed l) := by
  unfold State.controlFailed
  exact .ite (fun _ => h.laneDown.fault) fun _ => h.takeRate.setLane

theorem Tame.windowPassed {l : Nat} (h : Tame port o s) : Tame port o (s.windowPassed l) := by
  unfold State.windowPassed
  exact .ite (fun _ => h.dataPassed) fun _ => h.controlPassed

theorem Tame.windowFailed {l : Nat} (h : Tame port o s) : Tame port o (s.windowFailed l) := by
  unfold State.windowFailed
  exact .ite (fun _ => h.setLane.startWindow) fun _ => .ite (fun _ => h.dataFailed) fun _ => h.controlFailed

theorem Tame.laneLocked {l : Nat} (h : Tame port o s) : Tame port o (s.laneLocked l) := by
  unfold State.laneLocked
  exact .ite (fun _ => h.setLane.setLaneState) fun _ => .ite (fun _ => h.setLane.setLane.setLaneState) fun _ => h.setLane

theorem Tame.lockLost {l : Nat} (h : Tame port o s) : Tame port o (s.lockLost l) := by
  unfold State.lockLost
  refine .ite (fun _ => ?_) fun _ => ?_
  · exact .ite (fun _ => h.setLane.put.put.wr) fun _ => h.setLane.put.put.wr.setLane.setLaneState
  · refine .ite (fun _ => ?_) fun _ => ?_
    · exact h.setLane.leaveStripe
    · exact .ite (fun _ => h.setLane.setLaneState) fun _ => .ite (fun _ => h.setLane.retrainLane) fun _ => h.setLane

theorem Tame.blockErrors {l : Nat} {n : Nat} (h : Tame port o s) : Tame port o (s.blockErrors l n) := by
  unfold State.blockErrors
  exact .ite (fun _ => h.count.setLane.leaveStripe) fun _ => h.count.setLane

theorem Tame.slip {l : Nat} {hdrErr : Nat} (h : Tame port o s) : Tame port o (s.slip l hdrErr) := by
  unfold State.slip
  exact .ite (fun _ => h) fun _ => .ite (fun _ => h.wr.wr.laneDown.fault) fun _ => h.wr.wr

theorem Tame.align {l : Nat} {on : Bool} (h : Tame port o s) : Tame port o (s.align l on) := by
  unfold State.align
  exact .ite (fun _ => h.put.put.wr.laneLocked) fun _ => h.put.put

theorem Tame.retrain {l : Nat} (h : Tame port o s) : Tame port o (s.retrain l) := by
  unfold State.retrain
  exact .ite (fun _ => h.leaveStripe) fun _ => .ite (fun _ => h.retrainLane) fun _ => h

theorem Tame.laneControl {l : Nat} {v : Nat} {hdrErr : Nat} (h : Tame port o s) : Tame port o (s.laneControl l v hdrErr) := by
  unfold State.laneControl
  extract_lets s1 s2
  have hs1 : Tame port o s1 := .ite (fun _ => h.retrain) fun _ => h
  clear_value s1
  have hs2 : Tame port o s2 := .ite (fun _ => hs1.slip) fun _ => hs1
  clear_value s2
  exact .ite (fun _ => hs1) fun _ => .ite (fun _ => hs2.align) fun _ => hs2

theorem Tame.applyEnable {l : Nat} (h : Tame port o s) : Tame port o (s.applyEnable l) := by
  unfold State.applyEnable
  refine .ite (fun _ => ?_) fun _ => ?_
  · refine .ite (fun _ => ?_) fun _ => ?_
    · exact (h.applyLiveOf).laneDown
    · refine .ite (fun _ => ?_) fun _ => ?_
      · exact (h.applyLiveOf).leaveStripe
      · exact ((h.applyLiveOf).laneDown).laneGone
  · exact h.applyLiveOf

theorem Tame.laneSetup {l : Nat} {v : Nat} (h : Tame port o s) : Tame port o (s.laneSetup l v) := by
  unfold State.laneSetup
  extract_lets _ _ _ _ _ _ _ _ s2 s3
  have hs2 : Tame port o s2 := .ite (fun _ => h.wrS.wrS.wrS) fun _ => h.wrS.wrS
  clear_value s2
  have hs3 : Tame port o s3 := .ite (fun _ => hs2.wrS.wrS) fun _ => hs2
  clear_value s3
  exact (Tame.ite (fun _ => hs3) fun _ => hs3.err).applyEnable

theorem Tame.outOfStripe {l : Nat} (h : Tame port o s) : Tame port o (s.outOfStripe l) := by
  unfold State.outOfStripe
  exact .ite (fun _ => h.retrainLane) fun _ => h.laneDown

theorem Tame.retrainPath {p : Nat} (h : Tame port o s) : Tame port o (s.retrainPath p) := by
  unfold State.retrainPath
  exact .ite (fun _ => h.retrainBundle) fun _ => .ite (fun _ => h.retrainLane) fun _ => h

theorem Tame.replayFrom {p : Nat} {i : Nat} (h : Tame port o s) : Tame port o (s.replayFrom p i) := by
  unfold State.replayFrom
  extract_lets _ _ _ _ s1 s2
  have hs1 : Tame port o s1 := h.setPath.raise
  clear_value s1
  have hs2 : Tame port o s2 := .ite (fun _ => hs1.count) fun _ => hs1
  clear_value s2
  exact .ite (fun _ => hs2.fault.retrainPath) fun _ => hs2

theorem Tame.enqueue {p : Nat} {pkt : TxPacket} (h : Tame port o s) : Tame port o (s.enqueue p pkt) := by
  unfold State.enqueue
  exact h.setPath

theorem Tame.transmit {p : Nat} {pkt : TxPacket} (h : Tame port o s) : Tame port o (s.transmit p pkt) := by
  unfold State.transmit
  exact h.setPath.upd.showSeq

theorem Tame.ringFree {len : Nat} (h : Tame port o s) : Tame port o (s.ringFree len) := by
  unfold State.ringFree
  exact h.upd.wr

theorem Tame.sendRaw {errors : List StackError} (h : Tame port o s) : Tame port o (s.sendRaw errors) := by
  unfold State.sendRaw
  split
  · exact h
  · refine .ite (fun _ => ?_) fun _ => ?_
    · exact h.ringFree.count.raise
    · refine .ite (fun _ => ?_) fun _ => ?_
      · exact h
      · exact .ite (fun _ => h.stackErrors.drew.transmit.upd.showCredit.ringFree) fun _ => h.stackErrors.drew.transmit.upd.showCredit.upd

theorem Tame.sendBundle {errors : List StackError} (h : Tame port o s) : Tame port o (s.sendBundle errors) := by
  unfold State.sendBundle
  split
  · exact h.sendRaw
  · exact .ite (fun _ => h) fun _ => h.transmit.upd.showCredit.showOut

theorem Tame.sendControl {p : Nat} (h : Tame port o s) : Tame port o (s.sendControl p) := by
  unfold State.sendControl
  dsimp only
  split
  · exact h
  · exact .ite (fun _ => h) fun _ => h.setPath.transmit

theorem Tame.pairTick (h : Tame port o s) : Tame port o (s.pairTick) := by
  unfold State.pairTick
  exact h.upd.showPair

/-! ### SAF’s commands -/

theorem Tame.refuseReq (h : Tame port o s) : Tame port o (s.refuseReq) := by
  unfold State.refuseReq
  exact h.err

theorem Tame.byRequest {st : Nat} (h : Tame port o s) : Tame port o (s.byRequest st) := by
  unfold State.byRequest
  exact h.enter.upd

theorem Tame.disarm (h : Tame port o s) : Tame port o (s.disarm) := by
  unfold State.disarm
  exact h.upd

theorem Tame.reqOperational (h : Tame port o s) : Tame port o (s.reqOperational) := by
  unfold State.reqOperational
  exact .ite (fun _ => h.tryOperate) fun _ => h.refuseReq

theorem Tame.reqInit (h : Tame port o s) : Tame port o (s.reqInit) := by
  unfold State.reqInit
  exact .ite (fun _ => h.byRequest) fun _ => h.refuseReq

theorem Tame.reqClear (h : Tame port o s) : Tame port o (s.reqClear) := by
  unfold State.reqClear
  exact .ite (fun _ => h.byRequest) fun _ => h.refuseReq

theorem Tame.reqSafeHold (h : Tame port o s) : Tame port o (s.reqSafeHold) := by
  unfold State.reqSafeHold
  exact .ite (fun _ => h.refuseReq) fun _ => h.tripSet.upd

theorem Tame.reqArm {p : Path} (h : Tame port o s) : Tame port o (s.reqArm p) := by
  unfold State.reqArm
  exact .ite (fun _ => h.upd) fun _ => h.refuseReq

theorem Tame.reqCommission {p : Path} (h : Tame port o s) : Tame port o (s.reqCommission p) := by
  unfold State.reqCommission
  refine .ite (fun _ => ?_) fun _ => ?_
  · exact h.refuseReq
  · exact .ite (fun _ => h.refuseReq) fun _ => .ite (fun _ => h.disarm.byRequest) fun _ => h.disarm.refuseReq

theorem Tame.writeReq {p : Path} {v : Nat} (h : Tame port o s) : Tame port o (s.writeReq p v) := by
  unfold State.writeReq
  refine .ite (fun _ => ?_) fun _ => ?_
  · exact h.reqArm
  · refine .ite (fun _ => ?_) fun _ => ?_
    · exact h.reqCommission
    · refine .ite (fun _ => ?_) fun _ => ?_
      · exact h.disarm.reqOperational
      · refine .ite (fun _ => ?_) fun _ => ?_
        · exact h.disarm.reqInit
        · exact .ite (fun _ => h.disarm.reqClear) fun _ => .ite (fun _ => h.disarm.reqSafeHold) fun _ => h.disarm.err

theorem Tame.completeEntry (h : Tame port o s) : Tame port o (s.completeEntry) := by
  have hs1 : Tame port o (s.relock.enter sfOperational) := h.relock.enter
  unfold State.completeEntry
  generalize s.relock.enter sfOperational = s1 at hs1
  exact .ite (fun _ => h) fun _ => .ite (fun _ => Tame.degrade (hs1.frame rfl)) fun _ => h.requestFails.upd

theorem Tame.autoOper (h : Tame port o s) : Tame port o (s.autoOper) := by
  unfold State.autoOper
  exact .ite (fun _ => h.upd.tryOperate) fun _ => h

theorem Tame.fireReport {fire : Nat} {pw : Nat} {pulses : Nat} {authPw : Nat} {authPulses : Nat} {noRef : Bool} {tokened : Bool}
    {nominal : Bool} (h : Tame port o s) :
    Tame port o (s.fireReport fire pw pulses authPw authPulses noRef tokened nominal) := by
  unfold State.fireReport
  extract_lets _ _ _ _ s2
  have hs2 : Tame port o s2 := .ite (fun _ => h.upd.tripSet) fun _ => h.upd
  clear_value s2
  exact .ite (fun _ => hs2.tripSet) fun _ => hs2

theorem Tame.safetyPost {p : Nat} (h : Tame port o s) : Tame port o (s.safetyPost p) := by
  unfold State.safetyPost
  extract_lets s1 s2
  have hs1 : Tame port o s1 := .ite (fun _ => h.tripSet) fun _ => h
  clear_value s1
  have hs2 : Tame port o s2 := .ite (fun _ => hs1.tripSet) fun _ => hs1
  clear_value s2
  exact hs2.degrade

theorem Tame.clearTrips {v : Nat} (h : Tame port o s) : Tame port o (s.clearTrips v) := by
  unfold State.clearTrips
  exact (h.foldl fun t a ha ht => .ite (fun _ => ht.putTrip) fun _ => ht).safOutputs

theorem Tame.permitSettled {before : Bool} (h : Tame port o s) : Tame port o (s.permitSettled before) := by
  unfold State.permitSettled
  extract_lets _ _ _ _ _ s1 _ _ _ s2
  have hs1 : Tame port o s1 := .ite (fun _ => h.upd) fun _ => .ite (fun _ => h.count.upd.raise) fun _ => h
  clear_value s1
  have hs2 : Tame port o s2 := .ite (fun _ => hs1.upd) fun _ => .ite (fun _ => hs1.putTrip.upd.safOutputs) fun _ => hs1
  clear_value s2
  exact .ite (fun _ => hs2.tripGone) fun _ => hs2

theorem Tame.contactorSettled (h : Tame port o s) : Tame port o (s.contactorSettled) := by
  unfold State.contactorSettled
  extract_lets _ s1
  have hs1 : Tame port o s1 := .ite (fun _ => h) fun _ => h.upd
  clear_value s1
  exact hs1.safOutputs

theorem Tame.confirmColophon {p : Path} {v : Word} (h : Tame port o s) : Tame port o (s.confirmColophon p v) := by
  unfold State.confirmColophon
  exact .ite (fun _ => h.refuseReq) fun _ => .ite (fun _ => h.nvsBlocked.refuseReq) fun _ => .ite (fun _ => h.err) fun _ => h.upd

/-! ### SCN -/

theorem Tame.setPhase {p : Nat} (h : Tame port o s) : Tame port o (s.setPhase p) := by
  unfold State.setPhase
  exact h.wr

theorem Tame.scnStop {causes : Nat} {phase : Nat} (h : Tame port o s) : Tame port o (s.scnStop causes phase) := by
  unfold State.scnStop
  extract_lets s0
  have hs0 : Tame port o s0 := h.foldl fun t a ha ht => .ite (fun _ => ht.fault) fun _ => ht
  clear_value s0
  exact .ite (fun _ => hs0.upd.put.setPhase.wr.raise.upd) fun _ => hs0.upd.wr

theorem Tame.restartAccepted (h : Tame port o s) : Tame port o (s.restartAccepted) := by
  unfold State.restartAccepted
  exact h.upd

theorem Tame.scnClose {y : Int} (h : Tame port o s) : Tame port o (s.scnClose y) := by
  unfold State.scnClose
  exact h.restartAccepted.put.setPhase.raise.upd

theorem Tame.sweepPhase {t : Int} (h : Tame port o s) : Tame port o (s.sweepPhase t) := by
  unfold State.sweepPhase
  exact .ite (fun _ => (Tame.ite (fun _ => h.count.raise) fun _ => h).setPhase) fun _ => .ite (fun _ => h.setPhase) fun _ => h

theorem Tame.rampDrive (h : Tame port o s) : Tame port o (s.rampDrive) := by
  unfold State.rampDrive
  exact h.put.put.upd

theorem Tame.moveSetPoint {rc : Int} {v' : Int} {limited : Bool} (h : Tame port o s) : Tame port o (s.moveSetPoint rc v' limited) := by
  unfold State.moveSetPoint
  extract_lets _ s2
  have hs2 : Tame port o s2 := .ite (fun _ => h.put.raise) fun _ => h.put
  clear_value s2
  exact .ite (fun _ => hs2.upd.setPhase) fun _ => hs2.upd

theorem Tame.blindSample {lost : Nat} {rc : Int} {v' : Int} {limited : Bool} (h : Tame port o s) :
    Tame port o (s.blindSample lost rc v' limited) := by
  unfold State.blindSample
  exact .ite (fun _ => h.scnStop.rampDrive) fun _ => h.moveSetPoint.upd

theorem Tame.judge {y : Int} {e : Int} {pred : Option (Int × Int)} (h : Tame port o s) : Tame port o (s.judge y e pred).2 := by
  unfold State.judge
  exact h.upd

theorem Tame.seenSample {y : Int} {lost : Nat} {rc : Int} {v' : Int} {limited : Bool} (h : Tame port o s) :
    Tame port o (s.seenSample y lost rc v' limited) := by
  unfold State.seenSample
  extract_lets _ pred s0 j _ _ s1 s2 s3
  have hs0 : Tame port o s0 := by
    unfold s0
    clear_value pred
    split
    · exact h.wrI
    · exact h
  clear_value s0
  have hj : Tame port o j.2 := hs0.judge
  clear_value j
  have hs2 : Tame port o s2 := hj.moveSetPoint.put
  clear_value s2
  have hs3 : Tame port o s3 := .ite (fun _ => hs2.count.raise) fun _ => hs2
  clear_value s3
  exact .ite (fun _ => hj.scnStop.rampDrive) fun _ => hs3.upd

theorem Tame.closedSample {y : Option Int} {lost : Nat} (h : Tame port o s) : Tame port o (s.closedSample y lost) := by
  unfold State.closedSample
  extract_lets s1
  have hs1 : Tame port o s1 := by
    unfold s1
    split
    · exact h.sweepPhase
    · exact h
  clear_value s1
  split
  · exact hs1.seenSample
  · exact hs1.blindSample

theorem Tame.scnShow (h : Tame port o s) : Tame port o (s.scnShow) := by
  unfold State.scnShow
  exact h.wrI.wrI.wrI.wr.wr.wr.wrI

theorem Tame.scnLive (h : Tame port o s) : Tame port o (s.scnLive) := by
  unfold State.scnLive
  exact .ite (fun _ => h.applyLive.raise) fun _ => h.applyLive

theorem Tame.maybeClose {y : Option Int} {lost : Nat} (h : Tame port o s) : Tame port o (s.maybeClose y lost) := by
  unfold State.maybeClose
  refine .ite (fun _ => ?_) fun _ => ?_
  · exact h.setPhase
  · refine .ite (fun _ => ?_) fun _ => ?_
    · exact h.upd
    · split
      · exact .ite (fun _ => h.scnClose) fun _ => h
      · exact h

theorem Tame.mirrorSample (h : Tame port o s) : Tame port o (s.mirrorSample) := by
  unfold State.mirrorSample
  extract_lets _ _ _ _ _ _ _ s2 _ s4
  have hs2 : Tame port o s2 := h.scnLive.upd
  clear_value s2
  have hs4 : Tame port o s4 := .ite (fun _ => hs2.maybeClose.closedSample) fun _ => (Tame.ite (fun _ => hs2.maybeClose.scnStop) fun _ => hs2.maybeClose).rampDrive
  clear_value s4
  exact hs4.scnShow

theorem Tame.scnBoundary (h : Tame port o s) : Tame port o (s.scnBoundary) := by
  unfold State.scnBoundary
  exact .ite (fun _ => h.setPhase.upd) fun _ => h

theorem Tame.scnApplied {s0 : State} {oldMode : Nat} (h : Tame port o s0) : Tame port o (s0.scnApplied oldMode) := by
  unfold State.scnApplied
  extract_lets _ s
  have hs : Tame port o s := .ite (fun _ => h) fun _ => h.upd
  clear_value s
  exact .ite (fun _ => hs) fun _ => .ite (fun _ => hs.scnStop) fun _ => .ite (fun _ => hs.setPhase.upd) fun _ => hs

theorem Tame.scnRestart (h : Tame port o s) : Tame port o (s.scnRestart) := by
  unfold State.scnRestart
  exact .ite (fun _ => h.restartAccepted) fun _ => h.err

theorem Tame.scnHalted (h : Tame port o s) : Tame port o (s.scnHalted) := by
  unfold State.scnHalted
  exact h.scnStop.upd

theorem Tame.scnResumed (h : Tame port o s) : Tame port o (s.scnResumed) := by
  unfold State.scnResumed
  exact .ite (fun _ => h.restartAccepted) fun _ => h

theorem Tame.safMirror (h : Tame port o s) : Tame port o (s.safMirror) := by
  unfold State.safMirror
  exact .ite (fun _ => h.tripGone) fun _ => .ite (fun _ => .ite (fun _ => h) fun _ => h.tripSet) fun _ => .ite (fun _ => h) fun _ =>
    h.tripSet

theorem Tame.takeMirror {state : Nat} {cause : Nat} (h : Tame port o s) : Tame port o (s.takeMirror state cause) := by
  unfold State.takeMirror
  exact .ite (fun _ => h.upd.safMirror) fun _ => h.upd

theorem Tame.heaterLost (h : Tame port o s) : Tame port o (s.heaterLost) := by
  unfold State.heaterLost
  exact h.upd.fault.raise

theorem Tame.heaterLaw {t : Int} (h : Tame port o s) : Tame port o (s.heaterLaw t) := by
  unfold State.heaterLaw
  exact .ite (fun _ => h.upd) fun _ => h.upd

theorem Tame.heaterTemp {t : Int} (h : Tame port o s) : Tame port o (s.heaterTemp t) := by
  unfold State.heaterTemp
  exact .ite (fun _ => h.wrI.upd.upd.fault.raise) fun _ => h.wrI.upd.heaterLaw

theorem Tame.heaterTakes {x1 : Option HkResult} (h : Tame port o s) : Tame port o (s.heaterTakes x1) := by
  unfold State.heaterTakes
  split
  · exact h
  · exact .ite (fun _ => h.heaterLost) fun _ => .ite (fun _ => h) fun _ => h.heaterTemp

theorem Tame.heaterSample (h : Tame port o s) : Tame port o (s.heaterSample) := by
  unfold State.heaterSample
  exact .ite (fun _ => h.upd.heaterLost) fun _ => h.upd.heaterTakes

/-! ### Resets -/

theorem Tame.sectionReset {j : Nat} (h : Tame port o s) : Tame port o (s.sectionReset j) := by
  unfold State.sectionReset
  exact h.upd

theorem Tame.bankReset {b : Nat} (h : Tame port o s) : Tame port o (s.bankReset b) := by
  unfold State.bankReset
  exact h.setBank.upd.showNominal

theorem Tame.timReset (h : Tame port o s) : Tame port o (s.timReset) := by
  unfold State.timReset
  exact h.put.upd.showNominal

theorem Tame.dropFrame (h : Tame port o s) : Tame port o (s.dropFrame) := by
  unfold State.dropFrame
  split
  · exact h
  · exact h.upd

theorem Tame.acqReset {s0 : State} (h : Tame port o s0) : Tame port o (s0.acqReset) := by
  unfold State.acqReset
  exact h.dropFrame.upd

theorem Tame.pcaReset {p : Nat} (h : Tame port o s) : Tame port o (s.pcaReset p) := by
  unfold State.pcaReset
  exact h.upd

theorem Tame.emtReset (h : Tame port o s) : Tame port o (s.emtReset) := by
  unfold State.emtReset
  exact h.put.upd

theorem Tame.laneReset {l : Nat} (h : Tame port o s) : Tame port o (s.laneReset l) := by
  unfold State.laneReset
  exact .ite (fun _ => h.laneDown.setPath) fun _ => .ite (fun _ => h.laneDown.setPath) fun _ => h.laneDown

theorem Tame.convhReset {running : Bool} (h : Tame port o s) : Tame port o (s.convhReset running) := by
  unfold State.convhReset
  exact .ite (fun _ => h.upd.thmStopped) fun _ => h.upd

theorem Tame.thmReset (h : Tame port o s) : Tame port o (s.thmReset) := by
  unfold State.thmReset
  exact h.upd.emtLevel

theorem Tame.calReset (h : Tame port o s) : Tame port o (s.calReset) := by
  unfold State.calReset
  extract_lets s1
  have hs1 : Tame port o s1 := h.foldl fun t a ha ht => ht.endStale
  clear_value s1
  exact hs1.upd

theorem Tame.hostReset (h : Tame false o s) : Tame false o (s.hostReset) := by
  unfold State.hostReset
  exact (h.wr.hostMem Mem.Fit.empty).loose rfl

theorem Tame.cutConfirm (h : Tame port o s) : Tame port o (s.cutConfirm) := by
  unfold State.cutConfirm
  split
  · exact h
  · exact h.drew.frame rfl

theorem Tame.safReset (h : Tame port o s) : Tame port o (s.safReset) := by
  unfold State.safReset
  exact h.cutConfirm.upd

theorem Tame.unitReset {p : Nat} {running : Bool} (h : Tame false o s) : Tame false o (s.unitReset p running) := by
  unfold State.unitReset
  refine .ite (fun _ => ?_) fun _ => ?_
  · exact h.reAfterReset
  · refine .ite (fun _ => ?_) fun _ => ?_
    · exact h.setQueue.setWaiting
    · refine .ite (fun _ => ?_) fun _ => ?_
      · exact h.sectionReset
      · refine .ite (fun _ => ?_) fun _ => ?_
        · exact h.bankReset
        · refine .ite (fun _ => ?_) fun _ => ?_
          · exact h.timReset
          · refine .ite (fun _ => ?_) fun _ => ?_
            · exact h.acqReset
            · refine .ite (fun _ => ?_) fun _ => ?_
              · exact h.pcaReset
              · refine .ite (fun _ => ?_) fun _ => ?_
                · exact h.emtReset
                · refine .ite (fun _ => ?_) fun _ => ?_
                  · exact h.upd
                  · refine .ite (fun _ => ?_) fun _ => ?_
                    · exact h.convhReset
                    · refine .ite (fun _ => ?_) fun _ => ?_
                      · exact h.upd
                      · refine .ite (fun _ => ?_) fun _ => ?_
                        · exact h.upd
                        · refine .ite (fun _ => ?_) fun _ => ?_
                          · exact h.upd.lampPins
                          · refine .ite (fun _ => ?_) fun _ => ?_
                            · exact h.thmReset
                            · refine .ite (fun _ => ?_) fun _ => ?_
                              · exact h.calReset
                              · refine .ite (fun _ => ?_) fun _ => ?_
                                · exact h.hostReset
                                · refine .ite (fun _ => ?_) fun _ => ?_
                                  · exact h.upd
                                  · refine .ite (fun _ => ?_) fun _ => ?_
                                    · exact h.frame rfl
                                    · refine .ite (fun _ => ?_) fun _ => ?_
                                      · exact h.upd
                                      · exact .ite (fun _ => h.upd) fun _ => .ite (fun _ => h.safReset) fun _ => .ite (fun _ => h.upd) fun _ => .ite (fun _ => h.upd) fun _ => h

theorem Tame.beforeReset {p : Nat} {link : Bool} (h : Tame port o s) : Tame port o (s.beforeReset p link) := by
  unfold State.beforeReset
  exact .ite (fun _ => h.reBeforeReset) fun _ => .ite (fun _ => h.lockLost) fun _ => .ite (fun _ => h.relock) fun _ => h

theorem Tame.resetFolio {cold : Bool} {link : Bool} {p : Nat} (h : Tame false o s) : Tame false o (s.resetFolio cold link p) := by
  unfold State.resetFolio
  exact .ite (fun _ => h.clearFolio.unitReset.laneReset) fun _ => h.clearFolio.unitReset

theorem Tame.showBundle {link : Bool} (h : Tame port o s) : Tame port o (s.showBundle link) := by
  unfold State.showBundle
  exact .ite (fun _ => h.bundleDown.wr) fun _ => h.showCredit.showSeq

theorem Tame.discardCommit {cause : Nat} (h : Tame port o s) : Tame port o (s.discardCommit cause) := by
  unfold State.discardCommit
  extract_lets _ s2
  have hs2 : Tame port o s2 := h.put.put.wr.wr.raise.foldl fun t a ha ht => ht.put.put
  clear_value s2
  exact hs2.upd

theorem Tame.resetPages {cold : Bool} {ps : List Nat} (h : Tame false o s) : Tame false o (s.resetPages cold ps) := by
  unfold State.resetPages
  extract_lets s0 _ _ _ before s1 s2
  have hs0 : Tame false o s0 := .ite (fun _ => h.discardCommit) fun _ => h
  clear_value s0
  have hbefore : Tame false o before := hs0.upd.foldl fun t a ha ht => ht.beforeReset
  clear_value before
  have hs1 : Tame false o s1 := hbefore.foldl fun t a ha ht => ht.resetFolio
  clear_value s1
  have hs2 : Tame false o s2 := .ite (fun _ => hs1.showBundle) fun _ => hs1
  clear_value s2
  exact (Tame.ite (fun _ => hs2.retireOld.degrade.safMirror) fun _ => hs2.retireOld).eventsQuiet

theorem Tame.showRst (h : Tame port o s) : Tame port o (s.showRst) := by
  unfold State.showRst
  exact h.wr.put.put.foldl fun t a ha ht => ht.put

theorem Tame.inLedger {episode : Option Nat} {f : LedgerEntry → LedgerEntry} (h : Tame port o s) : Tame port o (s.inLedger episode f) := by
  unfold State.inLedger
  exact h.upd

theorem Tame.clearHolds (h : Tame port o s) : Tame port o (s.clearHolds) := by
  unfold State.clearHolds
  extract_lets s1
  have hs1 : Tame port o s1 := h.foldl fun t a ha ht => ht.put
  clear_value s1
  exact hs1.upd

theorem Tame.assertReset {src : Source} {reach : Nat} {pages : List Nat} {target : Option Nat} (h : Tame port o s) :
    Tame port o (s.assertReset src reach pages target) := by
  unfold State.assertReset
  exact .ite (fun _ => h.keep) fun _ => .ite (fun _ => h) fun _ => (Tame.ite (fun _ => h.upd.clearHolds) fun _ => h.upd).showRst

theorem Tame.deassertReset {code : Nat} {detail : Nat} (h : Tame port o s) : Tame port o (s.deassertReset code detail) := by
  unfold State.deassertReset
  exact .ite (fun _ => h.keep) fun _ => h.upd

theorem Tame.pulseReset {code : Nat} {detail : Nat} {reach : Nat} {pages : List Nat} {target : Option Nat} (h : Tame port o s) :
    Tame port o (s.pulseReset code detail reach pages target) := by
  unfold State.pulseReset
  exact h.assertReset

theorem Tame.showClocks (h : Tame port o s) : Tame port o (s.showClocks) := by
  unfold State.showClocks
  exact h.put.put

theorem Tame.clockFalls {d : Nat} (h : Tame port o s) : Tame port o (s.clockFalls d) := by
  unfold State.clockFalls
  exact .ite (fun _ => h) fun _ => .ite (fun _ => h.wr.raise.fault.showClocks.tripSet) fun _ => h.wr.raise.fault.showClocks

theorem Tame.clockLost {d : Nat} (h : Tame port o s) : Tame port o (s.clockLost d) := by
  unfold State.clockLost
  exact .ite (fun _ => h) fun _ => .ite (fun _ => h.clockFalls.pulseReset) fun _ => h.clockFalls.assertReset

theorem Tame.refLost (h : Tame port o s) : Tame port o (s.refLost) := by
  unfold State.refLost
  exact .ite (fun _ => h) fun _ => h.put.raise.fault.assertReset.foldl fun t a ha ht => ht.clockLost

theorem Tame.pllsOff (h : Tame port o s) : Tame port o (s.pllsOff) := by
  unfold State.pllsOff
  extract_lets s1
  have hs1 : Tame port o s1 := h.foldl fun t a ha ht => ht.clockFalls
  clear_value s1
  exact hs1.wr.showClocks.upd

theorem Tame.openSwitches (h : Tame port o s) : Tame port o (s.openSwitches) := by
  unfold State.openSwitches
  extract_lets s1
  have hs1 : Tame port o s1 := h.pllsOff.foldl fun _ _ _ ht => ht.put
  clear_value s1
  exact (hs1.stackMem Mem.Fit.empty).frame rfl

theorem Tame.takeEffect {e : Episode} (h : Tame false o s) : Tame false o (s.takeEffect e) := by
  unfold State.takeEffect
  extract_lets _ _ s0 s1 _ s3
  have hs0 : Tame false o s0 := .ite (fun _ => h.upd) fun _ => h
  clear_value s0
  have hs1 : Tame false o s1 := .ite (fun _ => hs0.relock) fun _ => hs0
  clear_value s1
  have hs3 : Tame false o s3 := .ite (fun _ => hs1.resetPages.openSwitches) fun _ => hs1.resetPages
  clear_value s3
  exact (Tame.ite (fun _ => hs3.assertReset) fun _ => hs3).showRst

/-! ### Releases and clocks -/

theorem Tame.dueDomain {d : Nat} {episode : Option Nat} {slots : List Nat} {among : List Nat} (h : Tame port o s) :
    Tame port o (s.dueDomain d episode slots among) := by
  unfold State.dueDomain
  exact h.upd

theorem Tame.startSequence {episode : Nat} (h : Tame port o s) : Tame port o (s.startSequence episode) := by
  unfold State.startSequence
  exact h.upd

theorem Tame.sampleStraps (h : Tame port o s) : Tame port o (s.sampleStraps) := by
  unfold State.sampleStraps
  exact h.wr.wr.put.put

theorem Tame.loadMap (h : Tame port o s) : Tame port o (s.loadMap) := by
  unfold State.loadMap
  split
  · exact h
  · exact (h.foldl fun t a ha ht => ht.wr).foldl fun t a ha ht => ht.put.setReState

theorem Tame.xmssWarn (h : Tame port o s) : Tame port o (s.xmssWarn) := by
  unfold State.xmssWarn
  exact .ite (fun _ => h.put.raise) fun _ => h

theorem Tame.xmssExhausted (h : Tame port o s) : Tame port o (s.xmssExhausted) := by
  unfold State.xmssExhausted
  exact .ite (fun _ => h.put.fault) fun _ => h

theorem Tame.loadSec (h : Tame port o s) : Tame port o (s.loadSec) := by
  unfold State.loadSec
  exact h.wr.wr.wr.wr.wr.wr.xmssWarn.xmssExhausted

theorem Tame.bootCal (h : Tame port o s) : Tame port o (s.bootCal) := by
  unfold State.bootCal
  exact .ite (fun _ => h.loadCal) fun _ => h

theorem Tame.afterRelease {p : Nat} (h : Tame port o s) : Tame port o (s.afterRelease p) := by
  unfold State.afterRelease
  refine .ite (fun _ => ?_) fun _ => ?_
  · exact h.emtLevel
  · exact .ite (fun _ => h.upd) fun _ => .ite (fun _ => h.bootCal) fun _ => .ite (fun _ => h.loadSec) fun _ => h

theorem Tame.powerLost (h : Tame port o s) : Tame port o (s.powerLost) := by
  unfold State.powerLost
  exact h.wr.wr.put.put.upd.assertReset.assertReset

theorem Tame.wdogKick {path : Path} {v : Nat} (h : Tame port o s) : Tame port o (s.wdogKick path v) := by
  unfold State.wdogKick
  exact .ite (fun _ => h.err) fun _ => .ite (fun _ => h.err) fun _ => h

theorem Tame.swRequest {path : Path} {v : Nat} (h : Tame port o s) : Tame port o (s.swRequest path v) := by
  unfold State.swRequest
  refine .ite (fun _ => ?_) fun _ => ?_
  · exact h.err
  · refine .ite (fun _ => ?_) fun _ => ?_
    · exact h
    · refine .ite (fun _ => ?_) fun _ => ?_
      · split
        · exact h.err
        · exact .ite (fun _ => h.err) fun _ => .ite (fun _ => h.err) fun _ => h.pulseReset
      · exact .ite (fun _ => h.err) fun _ => .ite (fun _ => h.err) fun _ => h.pulseReset

theorem Tame.holdSlot {i : Nat} {v : Nat} (h : Tame port o s) : Tame port o (s.holdSlot i v) := by
  unfold State.holdSlot
  extract_lets _ _ s1
  have hs1 : Tame port o s1 := .ite (fun _ => h.wr) fun _ => .ite (fun _ => h.err) fun _ => h
  clear_value s1
  refine .ite (fun _ => ?_) fun _ => ?_
  · split
    · exact h.err
    · exact .ite (fun _ => h.err) fun _ => hs1.put.put.assertReset
  · exact .ite (fun _ => hs1.put.deassertReset) fun _ => hs1

/-! ### PWR -/

theorem Tame.rail {i : Nat} {good : Bool} (h : Tame port o s) : Tame port o (s.rail i good) := by
  unfold State.rail
  exact .ite (fun _ => h.wr.deassertReset) fun _ => h.wr.assertReset

theorem Tame.showFeed (h : Tame port o s) : Tame port o (s.showFeed) := by
  unfold State.showFeed
  exact .ite (fun _ => h.put.fault.degrade) fun _ => h.put

theorem Tame.switchFeed (h : Tame port o s) : Tame port o (s.switchFeed) := by
  unfold State.switchFeed
  exact h.upd.wr.inhibit.safOutputs

theorem Tame.applyPwr (h : Tame port o s) : Tame port o (s.applyPwr) := by
  unfold State.applyPwr
  exact .ite (fun _ => h.applyStaged) fun _ => .ite (fun _ => h.applyStaged.switchFeed) fun _ => h.applyStaged.showFeed

theorem Tame.switchOn {d : Nat} {command : Bool} (h : Tame port o s) : Tame port o (s.switchOn d command) := by
  unfold State.switchOn
  exact h.put.dueDomain

theorem Tame.switchOff {d : Nat} (h : Tame false o s) : Tame false o (s.switchOff d) := by
  unfold State.switchOff
  extract_lets s1 s2 s3
  have hs1 : Tame false o s1 := h.resetPages
  clear_value s1
  have hs2 : Tame false o s2 := .ite (fun _ => hs1.stackMem hs1.stackFit.filter) fun _ => hs1
  clear_value s2
  have hs3 : Tame false o s3 := .ite (fun _ => hs2.pllsOff) fun _ => hs2
  clear_value s3
  exact hs3.put.showRst

theorem Tame.commandEnds (h : Tame port o s) : Tame port o (s.commandEnds) := by
  unfold State.commandEnds
  refine .ite (fun _ => ?_) fun _ => ?_
  · exact h
  · refine Tame.upd ?_
    refine .ite (fun _ => ?_) fun _ => ?_
    · exact (Tame.ite (fun _ => h.put.put.wr) fun _ => h.put.put.wr.raise).put
    · exact .ite (fun _ => h.put.put.wr) fun _ => h.put.put.wr.raise

theorem Tame.commandStarts {turns : List Turn} (h : Tame port o s) : Tame port o (s.commandStarts turns) := by
  unfold State.commandStarts
  exact h.put.put.wr.wr.upd.commandEnds

theorem Tame.commandRefused {d : Nat} (h : Tame port o s) : Tame port o (s.commandRefused d) := by
  unfold State.commandRefused
  exact .ite (fun _ => h.err.raise.wr.wr.err) fun _ => h.err.raise.wr.wr

theorem Tame.pwrCommand {v : Nat} (h : Tame port o s) : Tame port o (s.pwrCommand v) := by
  unfold State.pwrCommand
  refine .ite (fun _ => ?_) fun _ => ?_
  · exact h.err
  · split
    · exact h.err
    · refine .ite (fun _ => ?_) fun _ => ?_
      · exact h.commandStarts
      · split
        · exact h.commandRefused
        · exact h.commandStarts

theorem Tame.turnFails {t : Turn} (h : Tame port o s) : Tame port o (s.turnFails t) := by
  unfold State.turnFails
  exact .ite (fun _ => (Tame.ite (fun _ => h.setFaults.raise) fun _ => h.setFaults.raise.wr).upd) fun _ => h.setFaults.raise

theorem Tame.park (h : Tame port o s) : Tame port o (s.park) := by
  unfold State.park
  exact .ite (fun _ => h.err) fun _ => .ite (fun _ => h.err) fun _ => h.upd.commandStarts

theorem Tame.parkWord {v : Nat} (h : Tame port o s) : Tame port o (s.parkWord v) := by
  unfold State.parkWord
  exact .ite (fun _ => h.wrS.wrS.wrS.park) fun _ => h.wrS.wrS.wrS

theorem Tame.wake (h : Tame port o s) : Tame port o (s.wake) := by
  unfold State.wake
  exact h.put.pulseReset

/-! ### Commits and snapshots -/

theorem Tame.unitHalts {p : Nat} (h : Tame port o s) : Tame port o (s.unitHalts p) := by
  unfold State.unitHalts
  refine .ite (fun _ => ?_) fun _ => ?_
  · exact h.scnHalted
  · refine .ite (fun _ => ?_) fun _ => ?_
    · exact h.reHalted
    · exact .ite (fun _ => h.upd) fun _ => .ite (fun _ => h.lampPins) fun _ => .ite (fun _ => h.thmStopped) fun _ => h

theorem Tame.unitResumes {p : Nat} (h : Tame port o s) : Tame port o (s.unitResumes p) := by
  unfold State.unitResumes
  exact .ite (fun _ => h.scnResumed) fun _ => .ite (fun _ => h.reResumed) fun _ => h

theorem Tame.takeHalt {p : Nat} (h : Tame port o s) : Tame port o (s.takeHalt p) := by
  unfold State.takeHalt
  exact .ite (fun _ => h) fun _ => .ite (fun _ => h.put.unitHalts) fun _ => h.put.applyHeld.unitResumes

theorem Tame.commit (h : Tame port o s) : Tame port o (s.commit) := by
  unfold State.commit
  extract_lets s1
  have hs1 : Tame port o s1 := h.foldl fun _ _ _ ht => ht.put
  clear_value s1
  exact .ite (fun _ => h.err) fun _ => (hs1.put (f := CAT.CHECKING) (b := true)).frame rfl

theorem Tame.abort (h : Tame port o s) : Tame port o (s.abort) := by
  unfold State.abort
  exact .ite (fun _ => h.upd) fun _ => .ite (fun _ => h.discardCommit) fun _ => h.err

theorem Tame.snapRequest (h : Tame port o s) : Tame port o (s.snapRequest) := by
  unfold State.snapRequest
  exact .ite (fun _ => h.count) fun _ => h.put.wr.upd

theorem Tame.refuseCommit {by_ : List Nat} (h : Tame port o s) : Tame port o (s.refuseCommit by_) := by
  unfold State.refuseCommit
  extract_lets _ s1
  have hs1 : Tame port o s1 := h.foldl fun t a ha ht => ht.put.err
  clear_value s1
  exact (Tame.ite (fun _ => hs1.fault) fun _ => hs1).discardCommit

theorem Tame.stageCommit (h : Tame port o s) : Tame port o (s.stageCommit) := by
  unfold State.stageCommit
  exact h.put.put.wr.foldl fun t a ha ht => .ite (fun _ => ht.put) fun _ => ht

theorem Tame.showFallback (h : Tame port o s) : Tame port o (s.showFallback) := by
  unfold State.showFallback
  exact h.put.upd

theorem Tame.syncFound (h : Tame port o s) : Tame port o (s.syncFound) := by
  unfold State.syncFound
  exact h.put.upd.showFallback.degrade

theorem Tame.applyAcq (h : Tame port o s) : Tame port o (s.applyAcq) := by
  unfold State.applyAcq
  extract_lets _ s3
  have hs3 : Tame port o s3 := .ite (fun _ => h.applyStaged.syncFound) fun _ => h.applyStaged.showFallback
  clear_value s3
  exact hs3.wr.upd

theorem Tame.applyEmtFolio (h : Tame port o s) : Tame port o (s.applyEmtFolio) := by
  unfold State.applyEmtFolio
  exact h.applyEmt.put

theorem Tame.applySaf (h : Tame port o s) : Tame port o (s.applySaf) := by
  unfold State.applySaf
  exact .ite (fun _ => h.applyStaged.upd.put.contactorSettled) fun _ => h.applyStaged.upd.put.contactorSettled.autoOper

theorem Tame.applyPage {p : Nat} (h : Tame port o s) : Tame port o (s.applyPage p) := by
  unfold State.applyPage
  refine .ite (fun _ => ?_) fun _ => ?_
  · exact h.applyEmtFolio
  · refine .ite (fun _ => ?_) fun _ => ?_
    · exact h.applySection
    · refine .ite (fun _ => ?_) fun _ => ?_
      · exact h.applyTim
      · refine .ite (fun _ => ?_) fun _ => ?_
        · exact h.applyAcq
        · refine .ite (fun _ => ?_) fun _ => ?_
          · exact h.applyStaged.scnApplied
          · refine .ite (fun _ => ?_) fun _ => ?_
            · exact h.applyPwr
            · exact .ite (fun _ => h.applyCalStaged) fun _ => .ite (fun _ => h.applyLmp) fun _ => .ite (fun _ => h.applySaf) fun _ => h.applyStaged

theorem Tame.applyNow {p : Nat} (h : Tame port o s) : Tame port o (s.applyNow p) := by
  unfold State.applyNow
  exact .ite (fun _ => h) fun _ => .ite (fun _ => h.keep) fun _ => h.applyPage.applied

theorem Tame.holdOrApply {p : Nat} (h : Tame port o s) : Tame port o (s.holdOrApply p) := by
  unfold State.holdOrApply
  exact .ite (fun _ => h) fun _ => .ite (fun _ => h.put.put) fun _ => h.applyPage.applied

theorem Tame.commitBoundary (h : Tame port o s) : Tame port o (s.commitBoundary) := by
  unfold State.commitBoundary
  refine .ite (fun _ => ?_) fun _ => ?_
  · exact h
  · refine Tame.finishCommit ?_
    exact ((h.wr.upd.foldl fun t a ha ht => .ite (fun _ => ht) fun _ => ht.wr).foldl fun t a ha ht => ht.applyNow).foldl fun t a ha ht => ht.holdOrApply

theorem Tame.snapBoundary {accession : Word} {shot : Nat} (h : Tame port o s) : Tame port o (s.snapBoundary accession shot) := by
  unfold State.snapBoundary
  exact .ite (fun _ => h.drew.upd) fun _ => h

theorem Tame.strobe {p : Nat} (h : Tame port o s) : Tame port o (s.strobe p) := by
  unfold State.strobe
  extract_lets s1
  have hs1 : Tame port o s1 := .ite (fun _ => h.scnBoundary) fun _ => h
  clear_value s1
  exact hs1.applyNow

theorem Tame.clampRate (h : Tame port o s) : Tame port o (s.clampRate) := by
  unfold State.clampRate
  extract_lets _ _ s1
  have hs1 : Tame port o s1 := .ite (fun _ => h) fun _ => h.upd.raise
  clear_value s1
  exact hs1.wr.wr

theorem Tame.strskBegin (h : Tame port o s) : Tame port o (s.strskBegin) := by
  unfold State.strskBegin
  exact .ite (fun _ => h.upd) fun _ => h

theorem Tame.boundaryReached (h : Tame port o s) : Tame port o (s.boundaryReached) := by
  unfold State.boundaryReached
  refine .ite (fun _ => ?_) fun _ => ?_
  · exact h
  · refine Tame.strskBegin ?_
    refine Tame.calFrame ?_
    exact ((h.upd.commitBoundary.foldl fun t a ha ht => ht.applyNow).foldl fun t a ha ht => ht.trimBoundary).clampRate

end
end Sys2Proof.Machine
end

section
/-! PROOFS. Operations are tame: the grid, the shots, storage, register accesses, the ports. -/
namespace Sys2Proof.Machine
open Sys2Proof

section
variable {port : Bool} {o s : State}

/-! ### Triggers and frames -/

theorem Tame.fillPage {f : Frame} (h : Tame port o s) : Tame port o (s.fillPage f) := by
  unfold State.fillPage
  exact h.upd

theorem Tame.callFrame {f : Frame} {g : Nat} (h : Tame port o s) : Tame port o (s.callFrame f g) := by
  unfold State.callFrame
  extract_lets _ _ _ _ _ _ s1
  have hs1 : Tame port o s1 := h.setEngine h.engine.upd
  clear_value s1
  exact .ite (fun _ => h) fun _ => .ite (fun _ => hs1.drew) fun _ => hs1

theorem Tame.capture {accession : Word} {cause : Nat} {stamp : DWord} (h : Tame port o s) : Tame port o (s.capture accession cause stamp) := by
  unfold State.capture
  exact h.wr.wr.raise.put.wr.upd

theorem Tame.acceptTrigger {s0 : State} {met : Nat} (h : Tame port o s0) : Tame port o (s0.acceptTrigger met) := by
  unfold State.acceptTrigger
  extract_lets _ _ _ _ _ _ _ _ s3 _ _ s5
  have hs3 : Tame port o s3 := h.boundaryReached.capture.fillPage.upd.foldl fun t a ha ht => ht.callFrame
  clear_value s3
  have hs5 : Tame port o s5 := .ite (fun _ => hs3.upd.pushHead.startSpan) fun _ => hs3.upd.pushHead
  clear_value s5
  exact .ite (fun _ => hs5.syncFound) fun _ => hs5

theorem Tame.ignoreTrigger {met : Nat} (h : Tame port o s) : Tame port o (s.ignoreTrigger met) := by
  unfold State.ignoreTrigger
  exact .ite (fun _ => h.count.raise.upd) fun _ => h.count.raise

theorem Tame.joinCapture {f : Frame} {met : Nat} (h : Tame port o s) : Tame port o (s.joinCapture f met) := by
  unfold State.joinCapture
  exact .ite (fun _ => h.wr.wr.upd.syncFound) fun _ => h.wr.wr.upd

theorem Tame.laterTrigger {met : Nat} (h : Tame port o s) : Tame port o (s.laterTrigger met) := by
  unfold State.laterTrigger
  split
  · exact .ite (fun _ => h.joinCapture) fun _ => h.ignoreTrigger
  · exact h.ignoreTrigger

theorem Tame.triggerIf {sources : Nat} {implied : Bool} (h : Tame port o s) : Tame port o (s.triggerIf sources implied) := by
  unfold State.triggerIf
  exact .ite (fun _ => h) fun _ => .ite (fun _ => h.acceptTrigger) fun _ => h.laterTrigger

theorem Tame.trigger {sources : Nat} (h : Tame port o s) : Tame port o (s.trigger sources) := by
  unfold State.trigger
  exact h.triggerIf

theorem Tame.writeRun {on : Bool} (h : Tame port o s) : Tame port o (s.writeRun on) := by
  unfold State.writeRun
  exact .ite (fun _ => h) fun _ => .ite (fun _ => h.put.upd) fun _ => .ite (fun _ => h.err) fun _ => h.put.upd.syncFound

theorem Tame.codeClash {code : List Nat} (h : Tame port o s) : Tame port o (s.codeClash code) := by
  unfold State.codeClash
  exact .ite (fun _ => h) fun _ => h.count.raise

theorem Tame.clashAtOpen (h : Tame port o s) : Tame port o (s.clashAtOpen) := by
  unfold State.clashAtOpen
  split
  · exact h.upd.codeClash
  · exact h

theorem Tame.clashAtPacket {code : List Nat} (h : Tame port o s) : Tame port o (s.clashAtPacket code) := by
  unfold State.clashAtPacket
  exact .ite (fun _ => h.codeClash.upd) fun _ => h.codeClash.upd

theorem Tame.followPair {stamp : DWord} {depart : DWord} {arrival : DWord} (h : Tame port o s) : Tame port o (s.followPair stamp depart arrival) := by
  unfold State.followPair
  exact .ite (fun _ => h.count.raise.trigger) fun _ => h.upd

/-! ### The proximity combiner -/

theorem Tame.proxOpen {seq : Word} {last : Bool} (h : Tame port o s) : Tame port o (s.proxOpen seq last) := by
  unfold State.proxOpen
  exact h.upd

theorem Tame.proxAccept {w : Word} (h : Tame port o s) : Tame port o (s.proxAccept w) := by
  unfold State.proxAccept
  exact h.upd.safOutputs

theorem Tame.proxFrame (h : Tame port o s) : Tame port o (s.proxFrame) := by
  unfold State.proxFrame
  exact h.wr.wr.upd.degrade

/-! ### Shots -/

theorem Tame.stackWrite {a : Nat} {bs : List Byte} (h : Tame port o s) : Tame port o (s.stackWrite a bs) := by
  unfold State.stackWrite
  exact h.stackMem h.stackFit.write

theorem Tame.stackWords {a : Nat} {ws : List Nat} (h : Tame port o s) : Tame port o (s.stackWords a ws) := by
  unfold State.stackWords
  exact h.stackWrite

theorem Tame.reclaim {sh : Shot} (h : Tame port o s) : Tame port o (s.reclaim sh) := by
  unfold State.reclaim
  exact (h.stackMem h.stackFit.filter).stackWords

theorem Tame.showCode {c : ReadyCode} (h : Tame port o s) : Tame port o (s.showCode c) := by
  unfold State.showCode
  extract_lets s1
  have hs1 : Tame port o s1 := h.foldl fun t a ha ht => ht.wr
  clear_value s1
  exact .ite (fun _ => hs1.put.put.raise) fun _ => hs1.put.put

theorem Tame.openFirst {f : Frame} (h : Tame port o s) : Tame port o (s.openFirst f) := by
  unfold State.openFirst
  extract_lets _ s1 _ _ s2
  have hs1 : Tame port o s1 := .ite (fun _ => h.raise) fun _ => h
  clear_value s1
  have hs2 : Tame port o s2 := .ite (fun _ => hs1.showCode.upd) fun _ => hs1
  clear_value s2
  exact hs2.upd

theorem Tame.rawDecide {f : Frame} {c : Nat} (h : Tame port o s) : Tame port o (s.rawDecide f c).1 := by
  unfold State.rawDecide
  extract_lets _ _ s1
  have hs1 : Tame port o s1 := .ite (fun _ => h.upd) fun _ => h
  clear_value s1
  split
  · exact h
  split
  · exact hs1
  split
  · exact hs1
  · exact hs1.count.raise

theorem Tame.clearChannels (h : Tame port o s) : Tame port o (s.clearChannels) := by
  unfold State.clearChannels
  exact h.setTimIn.setTimIn.upd

theorem Tame.openShot {f : Frame} (h : Tame port o s) : Tame port o (s.openShot f) := by
  have hraw : Tame port o (s.rawDecide f f.next).1 := h.rawDecide
  unfold State.openShot
  generalize s.rawDecide f f.next = r at hraw
  dsimp -zeta only
  extract_lets sh s2 s3
  have hs2 : Tame port o s2 := hraw.clearChannels.reclaim.wr
  clear_value s2
  have hs3 : Tame port o s3 := .ite (fun _ => hs2) fun _ => hs2.wr
  clear_value s3
  exact hs3.upd

theorem Tame.arm (h : Tame port o s) : Tame port o (s.arm) := by
  unfold State.arm
  split
  · exact h
  · exact .ite (fun _ => h) fun _ => (Tame.ite (fun _ => h.upd.fault) fun _ => h).upd

theorem Tame.openBank {b : Nat} (h : Tame port o s) : Tame port o (s.openBank b) := by
  unfold State.openBank
  exact h.setBank

theorem Tame.openSection {j : Nat} (h : Tame port o s) : Tame port o (s.openSection j) := by
  unfold State.openSection
  exact .ite (fun _ => h.setSection) fun _ => h.setSection.upd.foldl fun t a ha ht => ht.setEvents

theorem Tame.norefStep {sh : Shot} (h : Tame port o s) : Tame port o (s.norefStep sh) := by
  unfold State.norefStep
  exact .ite (fun _ => h) fun _ => .ite (fun _ => h.upd) fun _ => .ite (fun _ => h.upd.raise.inFrameDo.fault) fun _ => h.upd.raise.inFrameDo

theorem Tame.emtReport {sh : Shot} (h : Tame port o s) : Tame port o (s.emtReport sh) := by
  unfold State.emtReport
  extract_lets _ s1 _ s2
  have hs1 : Tame port o s1 := .ite (fun _ => h.wr.norefStep) fun _ => h.inFrameDo
  clear_value s1
  have hs2 : Tame port o s2 := .ite (fun _ => hs1) fun _ => hs1.upd.raise
  clear_value s2
  exact .ite (fun _ => hs1) fun _ => hs2.upd

theorem Tame.publishTim {n : Nat} (h : Tame port o s) : Tame port o (s.publishTim n) := by
  unfold State.publishTim
  exact .ite (fun _ => h) fun _ => h.wr.wr.foldl fun t a ha ht => ht.wr

theorem Tame.chanClose {ch : Nat} (h : Tame port o s) : Tame port o (s.chanClose ch) := by
  unfold State.chanClose
  extract_lets _ _ s1
  have hs1 : Tame port o s1 := .ite (fun _ => h) fun _ => h.setChan
  clear_value s1
  exact .ite (fun _ => hs1) fun _ => hs1.wr.wr

theorem Tame.bankClose {b : Nat} (h : Tame port o s) : Tame port o (s.bankClose b) := by
  unfold State.bankClose
  exact .ite (fun _ => h.setBank.wr) fun _ => h.setBank

theorem Tame.slotClose {sh : Shot} {slot : Nat} (h : Tame port o s) : Tame port o (s.slotClose sh slot) := by
  unfold State.slotClose
  extract_lets _ s1
  have hs1 : Tame port o s1 := h.stackWords
  clear_value s1
  split
  · exact .ite (fun _ => hs1.stackMem hs1.stackFit.wipe) fun _ => hs1
  · exact hs1

theorem Tame.rawWrite {sh : Shot} (h : Tame port o s) : Tame port o (s.rawWrite sh) := by
  unfold State.rawWrite
  exact .ite (fun _ => h) fun _ => h.stackWrite.stackWrite.upd.wr

theorem Tame.calShot {sh : Shot} (h : Tame port o s) : Tame port o (s.calShot sh) := by
  unfold State.calShot
  exact .ite (fun _ => h) fun _ => (h.foldl fun t a ha ht => ht.collect).strskShot

theorem Tame.truncate {sh : Shot} (h : Tame port o s) : Tame port o (s.truncate sh) := by
  unfold State.truncate
  exact .ite (fun _ => h) fun _ => h.inFrameDo.put.raise

theorem Tame.passShot {sh : Shot} (h : Tame port o s) : Tame port o (s.passShot sh) := by
  unfold State.passShot
  extract_lets _ _ s1 s2
  have hs1 : Tame port o s1 := .ite (fun _ => h.upd) fun _ => h
  clear_value s1
  have hs2 : Tame port o s2 := .ite (fun _ => hs1) fun _ => .ite (fun _ => hs1.keep) fun _ => hs1.proxOpen
  clear_value s2
  exact hs2.upd

theorem Tame.rateStep {f : Frame} (h : Tame port o s) : Tame port o (s.rateStep f) := by
  unfold State.rateStep
  extract_lets _ _ _ _ _ s2
  have hs2 : Tame port o s2 := .ite (fun _ => h.wr.wr) fun _ => h.wr.wr.raise
  clear_value s2
  exact hs2.upd

theorem Tame.frameFigures (h : Tame port o s) : Tame port o (s.frameFigures) := by
  unfold State.frameFigures
  extract_lets s1
  have hs1 : Tame port o s1 := .ite (fun _ => h.wr.wr) fun _ => h
  clear_value s1
  exact hs1.foldl fun t a ha ht => (Tame.ite (fun _ => ht.wr.wr) fun _ => ht).setBank

theorem Tame.giveFrame {f : Frame} (h : Tame port o s) : Tame port o (s.giveFrame f) := by
  unfold State.giveFrame
  exact .ite (fun _ => h) fun _ => h.upd

theorem Tame.recoverFrame (h : Tame port o s) : Tame port o (s.recoverFrame) := by
  unfold State.recoverFrame
  exact .ite (fun _ => h) fun _ => .ite (fun _ => h.keep) fun _ => .ite (fun _ => h.wr.upd.enter) fun _ => h.wr.upd

theorem Tame.frameBoundary {f : Frame} (h : Tame port o s) : Tame port o (s.frameBoundary f) := by
  unfold State.frameBoundary
  extract_lets _ _ _ _ s4 s5
  have hs4 : Tame port o s4 := h.upd.put.put.raise.rateStep.frameFigures.giveFrame.foldl fun t a ha ht => ht.sectionFrame
  clear_value s4
  have hs5 : Tame port o s5 := .ite (fun _ => hs4.handover) fun _ => hs4
  clear_value s5
  exact hs5.takeUp.upd.recoverFrame

theorem Tame.closeShot {sh0 : Shot} (h : Tame port o s) : Tame port o (s.closeShot sh0) := by
  unfold State.closeShot
  extract_lets _ _ s1
  have hs1 : Tame port o s1 := h.upd.foldl fun t a ha ht => ht.deliver
  clear_value s1
  split
  · refine Tame.passShot ?_
    refine Tame.truncate ?_
    refine Tame.calShot ?_
    refine Tame.rawWrite ?_
    refine Tame.stackWords ?_
    exact ((hs1.drew.emtReport.publishTim.publishTim.foldl fun t a ha ht => ht.chanClose).foldl fun t a ha ht => ht.bankClose).foldl fun t a ha ht => ht.slotClose

theorem Tame.afterShot {sh : Shot} (h : Tame port o s) : Tame port o (s.afterShot sh) := by
  unfold State.afterShot
  extract_lets _ s1 s1' s2
  have hs1 : Tame port o s1 := .ite (fun _ => h.startSpan) fun _ => h
  clear_value s1
  have hs1' : Tame port o s1' := .ite (fun _ => hs1.snapBoundary) fun _ => hs1
  clear_value s1'
  have hs2 : Tame port o s2 := hs1'.foldl fun t a ha ht => ht.takeHalt
  clear_value s2
  split
  · exact .ite (fun _ => hs2.frameBoundary) fun _ => hs2
  · exact hs2

/-! ### NVS and SEC -/

theorem Tame.secEnds {result : Nat} (h : Tame port o s) : Tame port o (s.secEnds result) := by
  unfold State.secEnds
  extract_lets _ s2
  have hs2 : Tame port o s2 := h.put.put.wr.raise
  clear_value s2
  exact hs2.upd

theorem Tame.putSecurity {r : SecurityRecord} (h : Tame port o s) : Tame port o (s.putSecurity r) := by
  have hr : Tame port o { s with nvs.security := r } := h.frame rfl
  unfold State.putSecurity
  exact hr.wr.wr.wr.wr.wr

theorem Tame.doVerify {dest : Nat} (h : Tame port o s) : Tame port o (s.doVerify dest) := by
  unfold State.doVerify
  exact .ite (fun _ => h.secEnds) fun _ => .ite (fun _ => h.secEnds) fun _ => (Tame.ite (fun _ => h.upd) fun _ => h).secEnds

theorem Tame.doEnroll (h : Tame port o s) : Tame port o (s.doEnroll) := by
  unfold State.doEnroll
  extract_lets rd slot r _ s1
  have hs1 : Tame port o s1 := h.mram h.mramFit.write
  clear_value s1
  exact .ite (fun _ => h.secEnds) fun _ => .ite (fun _ => h.secEnds) fun _ => .ite (fun _ => h.secEnds) fun _ => .ite (fun _ =>
    h.secEnds) fun _ =>
    .ite (fun _ => h.drew.secEnds) fun _ => .ite (fun _ => h.secEnds) fun _ => .ite (fun _ => h.secEnds) fun _ =>
    .ite (fun _ => h.nvsBlocked.secEnds) fun _ => hs1.putSecurity.secEnds

theorem Tame.doRevoke {slot : Nat} (h : Tame port o s) : Tame port o (s.doRevoke slot) := by
  unfold State.doRevoke
  extract_lets _ _ s1
  have hs1 : Tame port o s1 := h.mram h.mramFit.wipe
  clear_value s1
  exact .ite (fun _ => h.secEnds) fun _ => .ite (fun _ => h.nvsBlocked.secEnds) fun _ => hs1.putSecurity.secEnds

theorem Tame.doConfirm {dest : Nat} (h : Tame port o s) : Tame port o (s.doConfirm dest) := by
  unfold State.doConfirm
  refine .ite (fun _ => ?_) fun _ => ?_
  · exact h.secEnds
  · exact .ite (fun _ => h.secEnds) fun _ => .ite (fun _ => h.nvsBlocked.secEnds) fun _ => h.putSecurity.secEnds

theorem Tame.doCert (h : Tame port o s) : Tame port o (s.doCert) := by
  unfold State.doCert
  exact h.upd.secEnds

theorem Tame.doAttest (h : Tame port o s) : Tame port o (s.doAttest) := by
  unfold State.doAttest
  refine .ite (fun _ => ?_) fun _ => ?_
  · exact h.fault.secEnds
  · refine .ite (fun _ => ?_) fun _ => ?_
    · exact h.xmssExhausted.secEnds
    · refine .ite (fun _ => ?_) fun _ => ?_
      · exact h.nvsBlocked.secEnds
      · exact ((((Tame.ite (fun _ => h.putSecurity.xmssWarn) fun _ => h).wr).upd).xmssExhausted).secEnds

theorem Tame.secCommand {path : Path} {v : Nat} (h : Tame port o s) : Tame port o (s.secCommand path v) := by
  unfold State.secCommand
  exact .ite (fun _ => h.err) fun _ => .ite (fun _ => h.err) fun _ => .ite (fun _ => h.err) fun _ => h.put.put.upd

theorem Tame.putBoot {b : BootRecord} (h : Tame port o s) : Tame port o (s.putBoot b) := by
  unfold State.putBoot
  exact h.mram h.mramFit.write.write

theorem Tame.runHost {rd : Nat → Byte} (h : Tame port o s) : Tame port o (s.runHost rd) := by
  unfold State.runHost
  exact h.wr.wr.frame rfl

theorem Tame.trySlot {slot : Nat} (h : Tame port o s) : Tame port o (s.trySlot slot) := by
  unfold State.trySlot
  split
  · exact h.fault
  · extract_lets rd _ s1
    have hs1 : Tame port o s1 := h.hostMem h.hostFit.write
    clear_value s1
    exact .ite (fun _ => hs1.runHost) fun _ => hs1.fault

theorem Tame.trySlots {slots : List Nat} (h : Tame port o s) : Tame port o (s.trySlots slots) := by
  induction slots generalizing s with
  | nil => exact h.frame rfl
  | cons slot rest ih => exact .ite (fun _ => h.trySlot) fun _ => ih h.trySlot

theorem Tame.chooseSlot (h : Tame port o s) : Tame port o (s.chooseSlot).2 := by
  unfold State.chooseSlot
  split
  · exact h.put
  · extract_lets named
    split
    · split
      · exact h.putBoot
      · exact h.putBoot.put
    · exact h

theorem Tame.showWriting (h : Tame port o s) : Tame port o (s.showWriting) := by
  unfold State.showWriting
  exact h.put

theorem Tame.wgo {path : Path} {v : Nat} (h : Tame port o s) : Tame port o (s.wgo path v) := by
  unfold State.wgo
  extract_lets a waiting w _ _ s1
  have hs1 : Tame port o s1 := (h.wr (f := NVS.WADDR) (v := a + 1)).frame rfl
  clear_value s1
  exact .ite (fun _ => h) fun _ => .ite (fun _ => h.err) fun _ => .ite (fun _ => h.nvsBlocked.err) fun _ => .ite (fun _ => h.err) fun _ =>
    (Tame.ite (fun _ => hs1) fun _ => hs1.startPulse).showWriting

/-! ### Reads -/

theorem Tame.afterRead {p : Nat} {off : Nat} (h : Tame port o s) : Tame port o (s.afterRead p off) := by
  unfold State.afterRead
  refine .ite (fun _ => ?_) fun _ => ?_
  · exact h
  · refine .ite (fun _ => ?_) fun _ => ?_
    · exact .ite (fun _ => h.err) fun _ => h
    · exact .ite (fun _ => h.upd) fun _ => .ite (fun _ => h.upd) fun _ => .ite (fun _ => h.drew) fun _ => .ite (fun _ => h.err) fun _ => h

theorem Tame.readWord {p : Nat} {off : Nat} (h : Tame port o s) : Tame port o (s.readWord p off).1 := by
  unfold State.readWord
  split
  · exact h.afterRead
  · exact h.err

theorem Tame.badAccess {a : Nat} (h : Tame port o s) : Tame port o (s.badAccess a) := by
  unfold State.badAccess
  split
  · exact h
  · exact h.err

theorem Tame.busRead {a : Nat} (h : Tame port o s) : Tame port o (s.busRead a).1 := by
  unfold State.busRead
  split
  · exact h.badAccess
  · split
    · exact h
    · exact h.readWord

/-! ### Writes -/

theorem Tame.clearFaults {p : Nat} {v : Nat} (h : Tame port o s) : Tame port o (s.clearFaults p v) := by
  unfold State.clearFaults
  refine .ite (fun _ => ?_) fun _ => ?_
  · exact h
  · refine Tame.degrade ?_
    exact (h.foldl fun t a ha ht => .ite (fun _ => ht.put) fun _ => ht).foldl fun t a ha ht => .ite (fun _ => ht.put) fun _ => ht

theorem Tame.haltLeaf {p : Nat} (h : Tame port o s) : Tame port o (s.haltLeaf p) := by
  unfold State.haltLeaf
  exact .ite (fun _ => h.err) fun _ => .ite (fun _ => h) fun _ => .ite (fun _ => h.err) fun _ => .ite (fun _ => h.put.takeHalt) fun _ =>
    h.put

theorem Tame.resumeLeaf {p : Nat} (h : Tame port o s) : Tame port o (s.resumeLeaf p) := by
  unfold State.resumeLeaf
  exact .ite (fun _ => h) fun _ => .ite (fun _ => h.put.takeHalt) fun _ => h.put

theorem Tame.haltTree {on : Bool} {d : Nat} {p : Nat} (h : Tame port o s) : Tame port o (s.haltTree on d p) := by
  induction d generalizing s p with
  | zero => exact h
  | succ d ih =>
    exact .ite (fun _ => h.err) fun _ => .ite (fun _ => h.put.foldl fun _ _ _ ht => ih ht) fun _ => .ite (fun _ => h.haltLeaf) fun _ =>
      h.resumeLeaf

theorem Tame.ctrlWord {p : Nat} {v : Nat} (h : Tame port o s) : Tame port o (s.ctrlWord p v) := by
  unfold State.ctrlWord
  exact h.writeFields.haltTree

theorem Tame.perturbWrite {p : Nat} {v : Nat} (h : Tame port o s) : Tame port o (s.perturbWrite p v) := by
  unfold State.perturbWrite
  exact .ite (fun _ => h.wr.wr.wr.wr.wr.wr) fun _ => h.err

theorem Tame.catWord {v : Nat} (h : Tame port o s) : Tame port o (s.catWord v) := by
  unfold State.catWord
  extract_lets s1 s2
  have hs1 : Tame port o s1 := .ite (fun _ => h.commit) fun _ => h
  clear_value s1
  have hs2 : Tame port o s2 := .ite (fun _ => hs1.abort) fun _ => hs1
  clear_value s2
  exact .ite (fun _ => hs2.snapRequest) fun _ => hs2

theorem Tame.recovGo (h : Tame port o s) : Tame port o (s.recovGo) := by
  unfold State.recovGo
  exact .ite (fun _ => .ite (fun _ => h.wr.runHost) fun _ => h.wr) fun _ => h

theorem Tame.fltWord {off : Nat} {v : Nat} (h : Tame port o s) : Tame port o (s.fltWord off v) := by
  unfold State.fltWord
  exact .ite (fun _ => h.writeFieldsOf.err) fun _ => h.writeFields

theorem Tame.afeWord {off : Nat} {v : Nat} (h : Tame port o s) : Tame port o (s.afeWord off v) := by
  unfold State.afeWord
  exact .ite (fun _ => h.err) fun _ => .ite (fun _ => h.writeFieldsOf.err) fun _ => h.writeFields

theorem Tame.lampWord {off : Nat} {v : Nat} (h : Tame port o s) : Tame port o (s.lampWord off v) := by
  unfold State.lampWord
  exact .ite (fun _ => h.writeFields) fun _ => h.writeFields.upd

theorem Tame.loadWord {p : Nat} {off : Nat} {v : Nat} (h : Tame port o s) : Tame port o (s.loadWord p off v) := by
  unfold State.loadWord
  exact .ite (fun _ => h.writeFields) fun _ => .ite (fun _ => h.writeFields.emtLoad) fun _ => h.writeFields.lmpLoad

theorem Tame.coeffWord {off : Nat} {v : Nat} (h : Tame port o s) : Tame port o (s.coeffWord off v) := by
  unfold State.coeffWord
  exact .ite (fun _ => h.err) fun _ => h.writeFields

theorem Tame.laneWord {l : Nat} {v : Nat} (h : Tame port o s) : Tame port o (s.laneWord l v) := by
  unfold State.laneWord
  exact h.laneControl.drew

theorem Tame.secWord {path : Path} {off : Nat} {v : Nat} (h : Tame port o s) : Tame port o (s.secWord path off v) := by
  unfold State.secWord
  exact .ite (fun _ => h.secCommand) fun _ => .ite (fun _ => h.err) fun _ => h.writeFields

theorem Tame.rstWord {path : Path} {off : Nat} {v : Nat} (h : Tame port o s) : Tame port o (s.rstWord path off v) := by
  unfold State.rstWord
  exact .ite (fun _ => h.swRequest) fun _ => .ite (fun _ => h.wdogKick) fun _ => .ite (fun _ => h.holdSlot) fun _ => h.writeFields

theorem Tame.safWord {path : Path} {off : Nat} {v : Nat} (h : Tame port o s) : Tame port o (s.safWord path off v) := by
  unfold State.safWord
  exact .ite (fun _ => h.writeReq) fun _ => .ite (fun _ => h.clearTrips) fun _ => .ite (fun _ => h.confirmColophon) fun _ => h.writeFields

theorem Tame.reWord {path : Path} {k : Nat} {off : Nat} {v : Nat} (h : Tame port o s) : Tame port o (s.reWord path k off v) := by
  unfold State.reWord
  exact .ite (fun _ => h.unfence) fun _ => .ite (fun _ => h.loadAddr) fun _ => .ite (fun _ => h.loadData) fun _ => h.writeFields

theorem Tame.scnWord {off : Nat} {v : Nat} (h : Tame port o s) : Tame port o (s.scnWord off v) := by
  unfold State.scnWord
  refine .ite (fun _ => ?_) fun _ => ?_
  · exact .ite (fun _ => h.writeFields.scnRestart) fun _ => h.writeFields
  · exact .ite (fun _ => h.coeffWord) fun _ => h.writeFields

theorem Tame.acqWord {off : Nat} {v : Nat} (h : Tame port o s) : Tame port o (s.acqWord off v) := by
  unfold State.acqWord
  exact .ite (fun _ => h.writeFieldsOf.writeRun) fun _ => .ite (fun _ => .ite (fun _ => h.trigger) fun _ => h) fun _ => h.writeFields

theorem Tame.unitWrite {path : Path} {p : Nat} {off : Nat} {v : Nat} (h : Tame port o s) : Tame port o (s.unitWrite path p off v) := by
  unfold State.unitWrite
  refine .ite (fun _ => ?_) fun _ => ?_
  · exact h.reWord
  · refine .ite (fun _ => ?_) fun _ => ?_
    · exact h.catWord
    · refine .ite (fun _ => ?_) fun _ => ?_
      · exact h.acqWord
      · refine .ite (fun _ => ?_) fun _ => ?_
        · exact h.request
        · refine .ite (fun _ => ?_) fun _ => ?_
          · exact h.request
          · refine .ite (fun _ => ?_) fun _ => ?_
            · exact h.writeFieldsOf.clearHot
            · refine .ite (fun _ => ?_) fun _ => ?_
              · exact h.laneSetup
              · refine .ite (fun _ => ?_) fun _ => ?_
                · exact h.laneWord
                · refine .ite (fun _ => ?_) fun _ => ?_
                  · exact h.loadWord
                  · refine .ite (fun _ => ?_) fun _ => ?_
                    · exact h.loadWord
                    · refine .ite (fun _ => ?_) fun _ => ?_
                      · exact h.lampWord
                      · refine .ite (fun _ => ?_) fun _ => ?_
                        · exact h.scnWord
                        · refine .ite (fun _ => ?_) fun _ => ?_
                          · exact h.writeFields.convhControl
                          · refine .ite (fun _ => ?_) fun _ => ?_
                            · exact h.fltWord
                            · refine .ite (fun _ => ?_) fun _ => ?_
                              · exact h.afeWord
                              · refine .ite (fun _ => ?_) fun _ => ?_
                                · exact h.strskWord
                                · refine .ite (fun _ => ?_) fun _ => ?_
                                  · exact h.safWord
                                  · refine .ite (fun _ => ?_) fun _ => ?_
                                    · exact h.pwrCommand
                                    · refine .ite (fun _ => ?_) fun _ => ?_
                                      · exact h.parkWord
                                      · refine .ite (fun _ => ?_) fun _ => ?_
                                        · exact h.rstWord
                                        · refine .ite (fun _ => ?_) fun _ => ?_
                                          · exact h.secWord
                                          · exact .ite (fun _ => h.wgo) fun _ => .ite (fun _ => .ite (fun _ => h.recovGo) fun _ => h) fun _ => h.writeFields

theorem Tame.writeWord {path : Path} {p : Nat} {off : Nat} {v : Nat} (h : Tame port o s) : Tame port o (s.writeWord path p off v) := by
  unfold State.writeWord
  refine .ite (fun _ => ?_) fun _ => ?_
  · exact h.err
  · refine .ite (fun _ => ?_) fun _ => ?_
    · exact h.writeFields
    · refine .ite (fun _ => ?_) fun _ => ?_
      · exact h.err
      · refine .ite (fun _ => ?_) fun _ => ?_
        · exact h.ctrlWord
        · exact .ite (fun _ => h.clearFaults) fun _ => .ite (fun _ => h.perturbWrite) fun _ => .ite (fun _ => h.writeFields) fun _ => h.unitWrite

theorem Tame.busWrite {path : Path} {a : Nat} {v : Nat} (h : Tame port o s) : Tame port o (s.busWrite path a v).1 := by
  unfold State.busWrite
  split
  · exact h.badAccess
  · split
    · exact h
    · split
      · exact h.keep
      · exact h.writeWord.eventsQuiet

-- no state: answered

theorem Tame.wordCommand {path : Path} {p : Nat} {off : Nat} {value : Word} (h : Tame port o s) : Tame port o (s.wordCommand path p off value) := by
  unfold State.wordCommand
  exact h.busWrite.upd

theorem Tame.respond {words : List DWord} (h : Tame port o s) : Tame port o (s.respond words) := by
  unfold State.respond
  exact h.enqueue

theorem Tame.readMany {a : Nat} {n : Nat} (h : Tame port o s) : Tame port o (s.readMany a n).1 := by
  induction n generalizing s a with
  | zero => exact h
  | succ n ih => exact ih h.busRead

theorem Tame.writeMany {a : Nat} {vs : List Word} (h : Tame port o s) : Tame port o (s.writeMany a vs).1 := by
  induction vs generalizing s a with
  | nil => exact h
  | cons v vs ih => exact ih h.busWrite

/-! ### SPI -/

theorem Tame.spiSays {r : List Byte} (h : Tame port o s) : Tame port o (s.spiSays r) := by
  unfold State.spiSays
  exact h.upd

theorem Tame.spiReadAt {a : Nat} (h : Tame port o s) : Tame port o (s.spiReadAt a).1 := by
  unfold State.spiReadAt
  split
  · exact h
  · exact h.busRead

theorem Tame.spiWriteAt {a : Nat} {v : Nat} (h : Tame false o s) : Tame false o (s.spiWriteAt a v).1 := by
  unfold State.spiWriteAt
  split
  · exact h.loose rfl
  · exact h.busWrite

theorem Tame.bypass (h : Tame port o s) : Tame port o (s.bypass) := by
  unfold State.bypass
  exact h.put.frame rfl

/-! ### Carrel -/

theorem Tame.sent {r : Reply} (h : Tame false o r.state) : Tame false o r.sent := by
  unfold Reply.sent
  exact .ite (fun _ => h.loose rfl) fun _ => h.answer

theorem Tame.snapExpires (h : Tame false o s) : Tame false o (s.snapExpires) := by
  unfold State.snapExpires
  exact .ite (fun _ => h.loose rfl) fun _ => h.loose rfl

theorem Tame.carrel {inRecovery : Bool} {inCarrel : Bool} {unlock : Bool} {f : State → Reply} (h : Tame false o s)
    (hf : ∀ t, Tame false o t → Tame false o (f t).state) : Tame false o (s.carrel inRecovery inCarrel unlock f) := by
  unfold State.carrel
  exact .ite (fun _ => h) fun _ => .ite (fun _ => h.snapExpires.answer) fun _ => .ite (fun _ => h.snapExpires.answer) fun _ =>
    (hf _ h.snapExpires).sent

theorem Tame.carrelOnly {f : State → Reply} (h : Tame false o s) (hf : ∀ t, Tame false o t → Tame false o (f t).state) : Tame false o (s.carrelOnly f) := by
  unfold State.carrelOnly
  exact h.carrel hf

theorem Tame.putErrBits {p : Nat} {m : Nat} (h : Tame port o s) : Tame port o (s.putErrBits p m) := by
  unfold State.putErrBits
  exact h.foldl fun t a ha ht => ht.put

theorem Tame.readOffsets {p : Nat} {l : List Nat} (h : Tame port o s) : Tame port o (s.readOffsets p l).1 := by
  induction l generalizing s with
  | nil => exact h
  | cons a l ih => exact ih h.readWord

theorem Tame.traceAdd {line : String} (h : Tame false o s) : Tame false o (s.traceAdd line) := by
  unfold State.traceAdd
  exact .ite (fun _ => h.loose rfl) fun _ => h.loose rfl

theorem Tame.tracePoll {p : Nat} (h : Tame false o s) : Tame false o (s.tracePoll p) := by
  have hread : Tame false o (s.readWord p 0x14).1 := h.readWord
  unfold State.tracePoll
  generalize s.readWord p 0x14 = r at hread
  have hlines : Tame false o ((r.1.traceLines p r.2).foldl State.traceAdd r.1) := hread.foldl fun _ _ _ ht => ht.traceAdd
  generalize hs : (r.1.traceLines p r.2).foldl State.traceAdd r.1 = s2 at hlines
  dsimp only
  rw [hs]
  exact hlines.loose rfl

theorem Tame.traceSend (h : Tame false o s) : Tame false o (s.traceSend) := by
  unfold State.traceSend
  exact h.drew.loose rfl

theorem Tame.writeSlot {slot : Nat} {vs : List SlotVolume} (h : Tame port o s) : Tame port o (s.writeSlot slot vs) := by
  unfold State.writeSlot
  extract_lets _ _ _ m
  have hm : Mem.Fit o m := h.flashFit.wipe.write
  exact h.flash (List.foldlRecOn _ _ hm fun _ hm _ _ => hm.write)

theorem Tame.volVerify {vol : List Byte} {dest : Nat} (h : Tame port o s) : Tame port o (s.volVerify vol dest).1 := by
  unfold State.volVerify
  exact (Tame.ite (fun _ => h.wr.wr.drew.upd) fun _ => h.wr.wr.drew).secEnds

/-! ### Vector instructions -/

theorem Engine.Fit.setAcc {e : Engine} {one : Bool} {a : BitVec 640} (he : e.Fit o) : (e.setAcc one a).Fit o := by
  unfold Engine.setAcc
  exact .ite (fun _ => he.upd) fun _ => he.upd

theorem Tame.accumulate {re : Nat} {e : Engine} {one : Bool} {signed : Bool} {a : Nat → Lane} {b : Nat → Lane} (h : Tame port o s)
    (he : e.Fit o) :
    Tame port o (s.accumulate re e one signed a b) := by
  unfold State.accumulate
  exact h.drew.next he.setAcc

/-! ### The gap of a switch-over -/

theorem Tame.runHeld {x1 : Held} (h : Tame port o s) : Tame port o (s.runHeld x1) := by
  unfold State.runHeld
  split
  · exact h.writeWord.eventsQuiet
  · exact h.takeMirror
  · exact h.applyNow.finishCommit
  · exact h.recoverFrame
  · exact .ite (fun _ => h.proxOpen) fun _ => h
  · exact .ite (fun _ => h.clockLost.showClocks) fun _ => h
  · exact h.assertReset
  · exact h.deassertReset

/-! ### The idle step -/

theorem Tame.idleTick (h : Tame port o s) : Tame port o (Machine.idleTick s) := by
  unfold Machine.idleTick
  exact .ite (fun _ => h.resultsArrive.upd) fun _ => h.resultsArrive

end
end Sys2Proof.Machine
end

section
/-! PROOFS. Every command completes in a tame change, and what that says of every step (O57, O58). -/
namespace Sys2Proof.Machine
open Sys2Proof

/-- The command completes, in a tame change. -/
def Completes (o : State) (r : Host.Outcome State Fault Refusal) : Prop := ∃ t, r = .next t ∧ Tame false o t

section
variable {o s : State}

theorem Completes.done {t : State} (h : Tame false o t) : Completes o (Machine.done t) := ⟨t, rfl, h⟩

theorem Tame.execTimSessionTimeout {input : Fin 2} (h : Tame false o s) : Completes o (execTimSessionTimeout input s) := by
  refine .done ?_
  refine .ite (fun _ => ?_) fun _ => ?_
  · exact h
  · split
    · exact h
    · exact .ite (fun _ => h) fun _ => h.upd.endShort

theorem Tame.execStrskStart {path : Path} {value : Word} (h : Tame false o s) : Completes o (execStrskStart path value s) :=
  .done (h.writeTo fun _ ht => ht.strskWord)

theorem Tame.execCalSave (h : Tame false o s) : Completes o (execCalSave s) :=
  .done (.ite (fun _ => h) fun _ => .ite (fun _ => h.fault) fun _ => .ite (fun _ => h.nvsBlocked.raise) fun _ => h.put.raise.loose rfl)

theorem Tame.execEyeScan {lane : Fin 6} {width : BitVec 8} {height : BitVec 16} (h : Tame false o s) :
    Completes o (execEyeScan lane width height s) :=
  .done (.ite (fun _ => h) fun _ => .ite (fun _ => h.put.wr.wr) fun _ => h.put)

theorem Tame.execMonCharacter {char : Byte} {framing : Bool} (h : Tame false o s) : Completes o (execMonCharacter char framing s) := by
  refine .done ?_
  refine .ite (fun _ => ?_) fun _ => ?_
  · exact h
  · refine .ite (fun _ => ?_) fun _ => ?_
    · exact h.count
    · exact .ite (fun _ => h) fun _ => .ite (fun _ => h.lineChar) fun _ => .ite (fun _ => h.loose rfl) fun _ => h.count

theorem Tame.execLineTimeout (h : Tame false o s) : Completes o (execLineTimeout s) :=
  .done (.ite (fun _ => h) fun _ => h.loose rfl)

theorem Tame.execSpadAvalanche {ch : Fin 528} {spad : Fin 12} {code : BitVec 18} (h : Tame false o s) :
    Completes o (execSpadAvalanche ch spad code s) := by
  refine .done ?_
  split
  · exact h.avalanche
  · exact h

theorem Tame.execEventDelivery {entry : Ecc} {histogram : Ecc} (h : Tame false o s) : Completes o (execEventDelivery entry histogram s) := by
  refine .done ?_
  split
  · exact h.upd.deliver
  · exact h.upd
  · exact h

theorem Tame.execVspadLost (h : Tame false o s) : Completes o (execVspadLost s) :=
  .done (h.foldl fun _ _ _ ht => .ite (fun _ => ht.setSection.put.wr.fault) fun _ => ht)

theorem Tame.execTrackPairDone {section_ : Fin 11} {countA : Nat} {countB : Nat} (h : Tame false o s) :
    Completes o (execTrackPairDone section_ countA countB s) := by
  refine .done ?_
  split
  · split
    · exact .ite (fun _ => h.trackPair) fun _ => h
    · exact h
  · exact h

theorem Tame.execHotMaskClear {path : Path} {section_ : Fin 11} {chan : Fin 48} {value : Word} (h : Tame false o s) :
    Completes o (execHotMaskClear path section_ chan value s) :=
  .done (h.writeTo fun _ ht => ht.clearHot)

theorem Tame.execDllLock {bank : Fin 34} (h : Tame false o s) : Completes o (execDllLock bank s) :=
  .done (h.lockLoop)

theorem Tame.execDllUnlock {bank : Fin 34} (h : Tame false o s) : Completes o (execDllUnlock bank s) :=
  .done (h.unlockLoop)

theorem Tame.execTapHistCheck {bank : Fin 33} (h : Tame false o s) : Completes o (execTapHistCheck bank s) :=
  .done (h.tapCheck)

theorem Tame.execTimEdge {input : Fin 2} {code : BitVec 32} (h : Tame false o s) : Completes o (execTimEdge input code s) :=
  .done (h.timEdge)

theorem Tame.execTimGateClose {input : Fin 2} (h : Tame false o s) : Completes o (execTimGateClose input s) :=
  .done (h.gateClose)

theorem Tame.execTimTimeout {input : Fin 2} (h : Tame false o s) : Completes o (execTimTimeout input s) :=
  .done (.ite (fun _ => h) fun _ => h.put.timTimeout)

theorem Tame.execThmSlotSilent {lamp : Bool} (h : Tame false o s) : Completes o (execThmSlotSilent lamp s) :=
  .done (.ite (fun _ => h.slotLost) fun _ => h)

theorem Tame.execThmTimerRead {sensors : List (BitVec 16)} (h : Tame false o s) (hlen : sensors.length = 24) :
    Completes o (execThmTimerRead sensors s) := by
  unfold Machine.execThmTimerRead
  rw [if_neg (by simp [hlen])]
  exact .done (.ite (fun _ => h.readSensors.requestFast) fun _ => h)

theorem Tame.execWatchRead {ts5 : BitVec 16} {ts15 : BitVec 16} {ts21 : BitVec 16} {ts23 : BitVec 16} (h : Tame false o s) :
    Completes o (execWatchRead ts5 ts15 ts21 ts23 s) :=
  .done (.ite (fun _ => h) fun _ => ((h.foldl fun _ _ _ ht => ht.watchSensor).showWatch).upd)

theorem Tame.execWatchSensorLost (h : Tame false o s) : Completes o (execWatchSensorLost s) :=
  .done (.ite (fun _ => (h.fault.foldl fun _ _ _ ht => ht.foldl fun _ _ _ ht => ht.setWatch).showWatch) fun _ => h)

theorem Tame.execSlotPeriodStart {sensors : List (BitVec 16)} (h : Tame false o s) (hlen : sensors.length = 24) :
    Completes o (execSlotPeriodStart sensors s) := by
  unfold Machine.execSlotPeriodStart
  rw [if_neg (by simp [hlen])]
  exact .done (.ite (fun _ => h) fun _ => .ite (fun _ => h.roundStart.slotStart) fun _ => h.slotStart)

theorem Tame.execConvhConversion {code : Int} (h : Tame false o s) : Completes o (execConvhConversion code s) :=
  .done (.ite (fun _ => h) fun _ => .ite (fun _ => h.setSlot) fun _ => h.convert)

theorem Tame.execClampConduction {pin : Fin 12} (h : Tame false o s) : Completes o (execClampConduction pin s) :=
  .done (.ite (fun _ => h) fun _ => .ite (fun _ => h.wr.raise.fault.upd) fun _ => h.wr.raise.fault)

theorem Tame.execOpenDetect (h : Tame false o s) : Completes o (execOpenDetect s) :=
  .done (.ite (fun _ => h.setSlot.wr.raise.fault) fun _ => h)

theorem Tame.execSlotPeriodEnd (h : Tame false o s) : Completes o (execSlotPeriodEnd s) :=
  .done (.ite (fun _ => h.periodEnd) fun _ => h)

theorem Tame.execCvhOffsetRound (h : Tame false o s) : Completes o (execCvhOffsetRound s) :=
  .done (.ite (fun _ => h.upd) fun _ => h)

theorem Tame.execConvmConversion {code : Option Int} {pinOutside : Bool} (h : Tame false o s) :
    Completes o (execConvmConversion code pinOutside s) := by
  refine .done ?_
  refine .ite (fun _ => ?_) fun _ => ?_
  · exact h
  · split
    · exact h.count.fault
    · exact (Tame.ite (fun _ => h.wrI.put.count.raise.fault) fun _ => h.wrI.put).upd

theorem Tame.execAlu {fetch : Fetch} {rd : BitVec 5} {ra : BitVec 5} {rb : BitVec 5} {func : BitVec 11} (h : Tame false o s) :
    Completes o (execAlu fetch rd ra rb func s) := by
  refine .done (h.issue fun _ _ ht he => ?_)
  split
  · exact ht.next he.setReg
  · exact ht.illegal he

theorem Tame.execAddi {fetch : Fetch} {rd : BitVec 5} {ra : BitVec 5} {imm : BitVec 16} (h : Tame false o s) :
    Completes o (execAddi fetch rd ra imm s) :=
  .done (h.immediate)

theorem Tame.execAndi {fetch : Fetch} {rd : BitVec 5} {ra : BitVec 5} {imm : BitVec 16} (h : Tame false o s) :
    Completes o (execAndi fetch rd ra imm s) :=
  .done (h.immediate)

theorem Tame.execOri {fetch : Fetch} {rd : BitVec 5} {ra : BitVec 5} {imm : BitVec 16} (h : Tame false o s) :
    Completes o (execOri fetch rd ra imm s) :=
  .done (h.immediate)

theorem Tame.execXori {fetch : Fetch} {rd : BitVec 5} {ra : BitVec 5} {imm : BitVec 16} (h : Tame false o s) :
    Completes o (execXori fetch rd ra imm s) :=
  .done (h.immediate)

theorem Tame.execSlti {fetch : Fetch} {rd : BitVec 5} {ra : BitVec 5} {imm : BitVec 16} (h : Tame false o s) :
    Completes o (execSlti fetch rd ra imm s) :=
  .done (h.immediate)

theorem Tame.execShi {fetch : Fetch} {rd : BitVec 5} {ra : BitVec 5} {imm : BitVec 16} (h : Tame false o s) :
    Completes o (execShi fetch rd ra imm s) := by
  refine .done (h.issue fun _ _ ht he => ?_)
  split
  · exact ht.next he.setReg
  · exact ht.illegal he

theorem Tame.execLui {fetch : Fetch} {rd : BitVec 5} {ra : BitVec 5} {imm : BitVec 16} (h : Tame false o s) :
    Completes o (execLui fetch rd ra imm s) :=
  .done (h.issue (fun _ _ ht he => .ite (fun _ => ht.next he.setReg) fun _ => ht.illegal he))

theorem Tame.execLw {fetch : Fetch} {rd : BitVec 5} {ra : BitVec 5} {imm : BitVec 16} {found : Ecc} (h : Tame false o s) :
    Completes o (execLw fetch rd ra imm found s) :=
  .done (h.loadReg)

theorem Tame.execLh {fetch : Fetch} {rd : BitVec 5} {ra : BitVec 5} {imm : BitVec 16} {found : Ecc} (h : Tame false o s) :
    Completes o (execLh fetch rd ra imm found s) :=
  .done (h.loadReg)

theorem Tame.execLhu {fetch : Fetch} {rd : BitVec 5} {ra : BitVec 5} {imm : BitVec 16} {found : Ecc} (h : Tame false o s) :
    Completes o (execLhu fetch rd ra imm found s) :=
  .done (h.loadReg)

theorem Tame.execLb {fetch : Fetch} {rd : BitVec 5} {ra : BitVec 5} {imm : BitVec 16} {found : Ecc} (h : Tame false o s) :
    Completes o (execLb fetch rd ra imm found s) :=
  .done (h.loadReg)

theorem Tame.execLbu {fetch : Fetch} {rd : BitVec 5} {ra : BitVec 5} {imm : BitVec 16} {found : Ecc} (h : Tame false o s) :
    Completes o (execLbu fetch rd ra imm found s) :=
  .done (h.loadReg)

theorem Tame.execSw {fetch : Fetch} {rs : BitVec 5} {ra : BitVec 5} {imm : BitVec 16} (h : Tame false o s) :
    Completes o (execSw fetch rs ra imm s) :=
  .done (h.storeReg)

theorem Tame.execSh {fetch : Fetch} {rs : BitVec 5} {ra : BitVec 5} {imm : BitVec 16} (h : Tame false o s) :
    Completes o (execSh fetch rs ra imm s) :=
  .done (h.storeReg)

theorem Tame.execSb {fetch : Fetch} {rs : BitVec 5} {ra : BitVec 5} {imm : BitVec 16} (h : Tame false o s) :
    Completes o (execSb fetch rs ra imm s) :=
  .done (h.storeReg)

theorem Tame.execBeq {fetch : Fetch} {ra : BitVec 5} {rb : BitVec 5} {off : BitVec 16} (h : Tame false o s) :
    Completes o (execBeq fetch ra rb off s) :=
  .done (h.branch)

theorem Tame.execBne {fetch : Fetch} {ra : BitVec 5} {rb : BitVec 5} {off : BitVec 16} (h : Tame false o s) :
    Completes o (execBne fetch ra rb off s) :=
  .done (h.branch)

theorem Tame.execBlt {fetch : Fetch} {ra : BitVec 5} {rb : BitVec 5} {off : BitVec 16} (h : Tame false o s) :
    Completes o (execBlt fetch ra rb off s) :=
  .done (h.branch)

theorem Tame.execBge {fetch : Fetch} {ra : BitVec 5} {rb : BitVec 5} {off : BitVec 16} (h : Tame false o s) :
    Completes o (execBge fetch ra rb off s) :=
  .done (h.branch)

theorem Tame.execBltu {fetch : Fetch} {ra : BitVec 5} {rb : BitVec 5} {off : BitVec 16} (h : Tame false o s) :
    Completes o (execBltu fetch ra rb off s) :=
  .done (h.branch)

theorem Tame.execBgeu {fetch : Fetch} {ra : BitVec 5} {rb : BitVec 5} {off : BitVec 16} (h : Tame false o s) :
    Completes o (execBgeu fetch ra rb off s) :=
  .done (h.branch)

theorem Tame.execJal {fetch : Fetch} {off : BitVec 26} (h : Tame false o s) : Completes o (execJal fetch off s) :=
  .done (h.issue (fun _ _ ht he => ht.setEngine he.setReg.upd))

theorem Tame.execJalr {fetch : Fetch} {rd : BitVec 5} {ra : BitVec 5} {imm : BitVec 16} (h : Tame false o s) :
    Completes o (execJalr fetch rd ra imm s) :=
  .done (h.issue (fun _ _ ht he => ht.setEngine he.setReg.upd))

theorem Tame.execLoop {fetch : Fetch} {zero : BitVec 5} {ra : BitVec 5} {endWord : BitVec 16} (h : Tame false o s) :
    Completes o (execLoop fetch zero ra endWord s) := by
  refine .done (h.issue fun _ _ ht he => ?_)
  refine .ite (fun _ => ?_) fun _ => ?_
  · exact ht.illegal he
  · exact .ite (fun _ => ht.reError he) fun _ => .ite (fun _ => ht.setEngine he.upd) fun _ => ht.setEngine he.upd

theorem Tame.execCsrw {fetch : Fetch} {rs : BitVec 5} {zero : BitVec 5} {csr : BitVec 16} (h : Tame false o s) :
    Completes o (execCsrw fetch rs zero csr s) := by
  refine .done ?_
  refine Tame.issue ?_ (fun _ _ ht he => .ite (fun _ => ht.illegal he) fun _ => .ite (fun _ => ht.next he.upd) fun _ => ht.next he)
  exact h

theorem Tame.execCsrr {fetch : Fetch} {rd : BitVec 5} {zero : BitVec 5} {csr : BitVec 16} (h : Tame false o s) :
    Completes o (execCsrr fetch rd zero csr s) := by
  refine .done (h.issue fun _ _ ht he => ?_)
  split
  · exact .ite (fun _ => ht.drew.next he.setReg) fun _ => ht.illegal he
  · exact ht.illegal he

theorem Tame.execSysNop {fetch : Fetch} {rd : BitVec 5} {ra : BitVec 5} {rb : BitVec 5} (h : Tame false o s) :
    Completes o (execSysNop fetch rd ra rb s) :=
  .done (h.sys (fun _ _ ht he => ht.next he))

theorem Tame.execEmit {fetch : Fetch} {rd : BitVec 5} {ra : BitVec 5} {rb : BitVec 5} (h : Tame false o s) :
    Completes o (execEmit fetch rd ra rb s) := by
  refine .done ?_
  refine Tame.sys ?_ (fun _ _ ht he => .ite (fun _ => ht.count.next he) fun _ => .ite (fun _ => h) fun _ => ht.pushEntry.next he.upd)
  exact h

theorem Tame.execProx {fetch : Fetch} {rd : BitVec 5} {ra : BitVec 5} {rb : BitVec 5} (h : Tame false o s) :
    Completes o (execProx fetch rd ra rb s) :=
  .done (h.sys (fun _ _ ht he => ht.sendProx.next he))

theorem Tame.execFence {fetch : Fetch} {rd : BitVec 5} {ra : BitVec 5} {rb : BitVec 5} (h : Tame false o s) :
    Completes o (execFence fetch rd ra rb s) :=
  .done (h.sys (fun _ _ ht he => ht.next he))

theorem Tame.execTrap {fetch : Fetch} {rd : BitVec 5} {ra : BitVec 5} {rb : BitVec 5} (h : Tame false o s) :
    Completes o (execTrap fetch rd ra rb s) :=
  .done (h.sys (fun _ _ ht he => ht.reError he))

theorem Tame.execBrk {fetch : Fetch} {rd : BitVec 5} {ra : BitVec 5} {rb : BitVec 5} (h : Tame false o s) :
    Completes o (execBrk fetch rd ra rb s) :=
  .done (h.sys (fun _ _ ht he => .ite (fun _ => ht.haltSelf.next he.upd) fun _ => ht.next he))

theorem Tame.execIllegalOpcode {fetch : Fetch} {word : Word} (h : Tame false o s) : Completes o (execIllegalOpcode fetch word s) := by
  refine .done ?_
  split
  · exact h.issue (fun _ _ ht he => ht.illegal he)
  · exact .ite (fun _ => h.issue (fun _ _ ht he => ht.illegal he)) fun _ => h
  · exact h

theorem Tame.execBufferReady {re : Fin 72} (h : Tame false o s) : Completes o (execBufferReady re s) := by
  refine .done ?_
  split
  · exact h
  · split
    · exact h
    · exact .ite (fun _ => h) fun _ => h.shotReady

theorem Tame.execDispatchHandler {entry : HandlerEntry} (h : Tame false o s) : Completes o (execDispatchHandler entry s) := by
  refine .done ?_
  refine .ite (fun _ => ?_) fun _ => ?_
  · exact h
  · split
    · exact .ite (fun _ => h.takeStep.enterShot) fun _ => ((h.setEngine h.engine.upd).takeStep).enterCall
    · exact ((h.setEngine h.engine.upd).takeStep).enterCall
    · exact h.takeStep.enterShot
    · exact h

theorem Tame.execHandlerReturn {re : Fin 72} (h : Tame false o s) : Completes o (execHandlerReturn re s) := by
  refine .done ?_
  refine .ite (fun _ => ?_) fun _ => ?_
  · exact h
  · split
    · exact h
    · dsimp only
      split
      · exact (h.setEngine h.engine.upd).handlerEnds
      · exact h.setEngine h.engine.upd
    · exact (h.setEngine h.engine.upd).handlerEnds

theorem Tame.execProxDeadline {re : Fin 72} (h : Tame false o s) : Completes o (execProxDeadline re s) := by
  refine .done ?_
  split
  · exact .ite (fun _ => h.setEngine h.engine.upd) fun _ => h.setEngine h.engine.upd
  · exact h.setEngine h.engine.upd

theorem Tame.execMemoryScrub {re : Fin 72} {addr : Word} {found : Ecc} (h : Tame false o s) : Completes o (execMemoryScrub re addr found s) := by
  refine .done ?_
  refine .ite (fun _ => ?_) fun _ => ?_
  · exact h
  · split
    · exact h
    · exact h.count
    · exact ((h.setEngine h.engine.upd).count).fault

theorem Tame.execLoadAddrWrite {path : Path} {re : Fin 72} {value : Word} (h : Tame false o s) :
    Completes o (execLoadAddrWrite path re value s) :=
  .done (h.writeTo fun _ ht => ht.loadAddr)

theorem Tame.execLoadDataWrite {path : Path} {re : Fin 72} {value : Word} (h : Tame false o s) :
    Completes o (execLoadDataWrite path re value s) :=
  .done (h.writeTo fun _ ht => ht.loadData)

theorem Tame.execRepairReq {path : Path} {value : Word} (h : Tame false o s) : Completes o (execRepairReq path value s) :=
  .done (h.writeTo fun _ ht => ht.request)

theorem Tame.execUpdateReq {path : Path} {value : Word} (h : Tame false o s) : Completes o (execUpdateReq path value s) :=
  .done (h.writeTo fun _ ht => ht.request)

theorem Tame.execUnfence {path : Path} {re : Fin 72} {value : Word} (h : Tame false o s) : Completes o (execUnfence path re value s) :=
  .done (h.writeTo fun _ ht => ht.unfence)

theorem Tame.execLampTick (h : Tame false o s) : Completes o (execLampTick s) :=
  .done (.ite (fun _ => h.lampTick) fun _ => h)

theorem Tame.execLampSyncEdge (h : Tame false o s) : Completes o (execLampSyncEdge s) :=
  .done (.ite (fun _ => h.put.drew.upd) fun _ => h)

theorem Tame.execLampSyncLost (h : Tame false o s) : Completes o (execLampSyncLost s) :=
  .done (.ite (fun _ => h.put.raise) fun _ => h)

theorem Tame.execRecordEntry {shelf : Fin 9} (h : Tame false o s) : Completes o (execRecordEntry shelf s) := by
  refine .done ?_
  refine .ite (fun _ => ?_) fun _ => ?_
  · exact h
  · split
    · exact h
    · refine .ite (fun _ => ?_) fun _ => ?_
      · exact h
      · dsimp only
        split
        · exact h.popEntry.takeRecord
        · exact h.popEntry.recBad

theorem Tame.execShotMarker {shelf : Fin 9} (h : Tame false o s) : Completes o (execShotMarker shelf s) := by
  refine .done ?_
  refine .ite (fun _ => ?_) fun _ => ?_
  · exact h
  · split
    · exact h
    · exact .ite (fun _ => h) fun _ => h.popEntry.upd

theorem Tame.execMarkerTimeout (h : Tame false o s) : Completes o (execMarkerTimeout s) :=
  .done (.ite (fun _ => h) fun _ => h.upd.count.raise.fault)

theorem Tame.execBlockOutput {s0 : State} {flips : List Nat} (h : Tame false o s0) : Completes o (execBlockOutput flips s0) := by
  refine .done ?_
  split
  · exact h.pushHead
  · refine .ite (fun _ => ?_) fun _ => ?_
    · exact h.pushHead
    · exact .ite (fun _ => h.pushHead.upd) fun _ => .ite (fun _ => h.pushHead.upd.pushColumn) fun _ => h.pushHead

theorem Tame.execTrainWindowEnd {lane : Fin 6} (h : Tame false o s) : Completes o (execTrainWindowEnd lane s) := by
  refine .done ?_
  refine .ite (fun _ => ?_) fun _ => ?_
  · exact h
  · refine .ite (fun _ => ?_) fun _ => ?_
    · exact ((Tame.ite (fun _ => h.send.equalise) fun _ => h.send).setLane).startWindow
    · exact .ite (fun _ => h.send.windowPassed) fun _ => .ite (fun _ => h.send.setLane) fun _ => h.send.windowFailed

theorem Tame.execTrainReceived {lane : Fin 6} {rate : BitVec 3} {pass : Bool} {preReq : BitVec 2} {postReq : BitVec 2} (h : Tame false o s) :
    Completes o (execTrainReceived lane rate pass preReq postReq s) :=
  .done (.ite (fun _ => h) fun _ => .ite (fun _ => .ite (fun _ => h.windowPassed) fun _ => h.windowFailed) fun _ => h.setLane)

theorem Tame.execBlockLockGained {lane : Fin 6} (h : Tame false o s) : Completes o (execBlockLockGained lane s) :=
  .done (.ite (fun _ => h) fun _ => h.laneLocked)

theorem Tame.execBlockLockLost {lane : Fin 6} (h : Tame false o s) : Completes o (execBlockLockLost lane s) :=
  .done (.ite (fun _ => h) fun _ => h.lockLost)

theorem Tame.execNoPartnerTimeout {lane : Fin 6} (h : Tame false o s) : Completes o (execNoPartnerTimeout lane s) :=
  .done (.ite (fun _ => h.setLane.fault) fun _ => h)

theorem Tame.execCapsSend {lane : Fin 6} (h : Tame false o s) : Completes o (execCapsSend lane s) :=
  .done (.ite (fun _ => h.send) fun _ => h)

theorem Tame.execCapsReceived {lane : Fin 6} {content : BitVec 48} (h : Tame false o s) : Completes o (execCapsReceived lane content s) := by
  refine .done ?_
  refine .ite (fun _ => ?_) fun _ => ?_
  · exact h
  · refine .ite (fun _ => ?_) fun _ => ?_
    · exact h.blockErrors
    · refine .ite (fun _ => ?_) fun _ => ?_
      · exact .ite (fun _ => h.setLane.fault) fun _ => h.wr.raise.setLane.setLaneState.startWindow
      · exact .ite (fun _ => h.setLane.fault) fun _ => h.wr.raise.setLane.setLaneState.startWindow

theorem Tame.execCdrLock {ctl : Fin 2} {hdrErr : BitVec 16} (h : Tame false o s) : Completes o (execCdrLock ctl hdrErr s) :=
  .done (.ite (fun _ => h) fun _ => .ite (fun _ => h.put.wr.setLaneState) fun _ => h.put.wr)

theorem Tame.execCdrLockTimeout {ctl : Fin 2} (h : Tame false o s) : Completes o (execCdrLockTimeout ctl s) :=
  .done (.ite (fun _ => h.laneDown) fun _ => h)

theorem Tame.execBitslip {path : Path} {ctl : Fin 2} {value : Word} {hdrErr : BitVec 16} (h : Tame false o s) :
    Completes o (execBitslip path ctl value hdrErr s) :=
  .done (h.writeTo fun _ ht => ht.laneControl)

theorem Tame.execAligned {path : Path} {ctl : Fin 2} {value : Word} (h : Tame false o s) : Completes o (execAligned path ctl value s) :=
  .done (h.writeTo fun _ ht => ht.laneControl.drew)

theorem Tame.execRetrain {path : Path} {lane : Fin 6} {value : Word} (h : Tame false o s) : Completes o (execRetrain path lane value s) :=
  .done (h.writeTo fun _ ht => ht.laneControl.drew)

theorem Tame.execEnable {path : Path} {lane : Fin 6} {value : Word} (h : Tame false o s) : Completes o (execEnable path lane value s) :=
  .done (h.writeTo fun _ ht => ht.laneSetup)

theorem Tame.execErrLimitWindow {lane : Fin 6} (h : Tame false o s) : Completes o (execErrLimitWindow lane s) :=
  .done (.ite (fun _ => h.setLane.leaveStripe) fun _ => h.setLane)

theorem Tame.execRetrainReq {lanes : BitVec 4} (h : Tame false o s) : Completes o (execRetrainReq lanes s) :=
  .done (h.foldl fun _ _ _ ht => .ite (fun _ => ht.leaveStripe) fun _ => ht)

theorem Tame.execLaneRetry {lane : Fin 4} (h : Tame false o s) : Completes o (execLaneRetry lane s) :=
  .done (.ite (fun _ => h.retrainLane) fun _ => h)

theorem Tame.execMarkerSend (h : Tame false o s) : Completes o (execMarkerSend s) := by
  refine .done ?_
  refine .ite (fun _ => ?_) fun _ => ?_
  · exact h
  · refine .ite (fun _ => ?_) fun _ => ?_
    · exact (((h.foldl fun _ _ _ ht => ht.setLane).send).upd).retrainBundle
    · refine .ite (fun _ => ?_) fun _ => ?_
      · exact ((((h.foldl fun _ _ _ ht => ht.setLane).send).upd).foldl fun _ _ _ ht => ht.outOfStripe).foldl fun _ _ _ ht => ht.setLane.setLaneState
      · refine Tame.setBundle ?_
        exact (((((h.foldl fun _ _ _ ht => ht.setLane).send).upd).foldl fun _ _ _ ht => ht.outOfStripe).foldl fun _ _ _ ht => ht.setLane.setLaneState).upd

theorem Tame.execCreditReceived {raw : Bool} {limit : BitVec 24} (h : Tame false o s) : Completes o (execCreditReceived raw limit s) :=
  .done (.ite (fun _ => h) fun _ => .ite (fun _ => h.upd.showCredit) fun _ => h.upd.showCredit)

theorem Tame.execStall (h : Tame false o s) : Completes o (execStall s) := by
  refine .done ?_
  split
  · exact h
  · exact .ite (fun _ => h) fun _ => h.count.upd.raise

theorem Tame.execAckReceived {link : Fin 3} {seq : BitVec 12} (h : Tame false o s) : Completes o (execAckReceived link seq s) :=
  .done (.ite (fun _ => h) fun _ => h.setPath.showSeq)

theorem Tame.execNakReceived {link : Fin 3} {seq : BitVec 12} (h : Tame false o s) : Completes o (execNakReceived link seq s) := by
  refine .done ?_
  refine .ite (fun _ => ?_) fun _ => ?_
  · exact h
  · exact .ite (fun _ => (Tame.ite (fun _ => h.count) fun _ => h).replayFrom) fun _ => .ite (fun _ => h.count) fun _ => h

theorem Tame.execAckTimeout {link : Fin 3} (h : Tame false o s) : Completes o (execAckTimeout link s) :=
  .done (.ite (fun _ => h) fun _ => h.replayFrom)

theorem Tame.execPacketReceived {lane : Fin 6} {blocks : BlockCheck} {packet : Option Packet} (h : Tame false o s) :
    Completes o (execPacketReceived lane blocks packet s) := by
  refine .done ?_
  refine .ite (fun _ => ?_) fun _ => ?_
  · exact h
  · split
    · exact h.wr.blockErrors
    · refine .ite (fun _ => ?_) fun _ => ?_
      · exact h.wr.blockErrors
      · refine .ite (fun _ => ?_) fun _ => ?_
        · exact h.wr.blockErrors
        · refine .ite (fun _ => ?_) fun _ => ?_
          · exact h.wr.blockErrors.send
          · exact .ite (fun _ => h.wr.blockErrors.send.setPath) fun _ => .ite (fun _ => h.wr.blockErrors.send) fun _ => h.wr.blockErrors.send

theorem Tame.execPacketTransmit {sending : Sending} (h : Tame false o s) : Completes o (execPacketTransmit sending s) := by
  refine .done ?_
  refine .ite (fun _ => ?_) fun _ => ?_
  · exact h
  · refine .ite (fun _ => ?_) fun _ => ?_
    · split
      · exact h.setPath.upd
      · exact h
    · exact .ite (fun _ => h.sendBundle) fun _ => h.sendControl

theorem Tame.execTsReq {onC1 : Bool} {tag : BitVec 48} {arrival : DWord} (h : Tame false o s) : Completes o (execTsReq onC1 tag arrival s) :=
  .done (.ite (fun _ => h) fun _ => h.enqueue)

theorem Tame.execSafetyPacketSend (h : Tame false o s) : Completes o (execSafetyPacketSend s) :=
  .done (.ite (fun _ => h) fun _ => h.enqueue.upd)

theorem Tame.execPairPacketSend (h : Tame false o s) : Completes o (execPairPacketSend s) := by
  refine .done ?_
  split
  · exact h
  · exact .ite (fun _ => h) fun _ => h.upd.enqueue

theorem Tame.execPairTsReqSend {reply : Option TsReply} (h : Tame false o s) : Completes o (execPairTsReqSend reply s) := by
  refine .done ?_
  refine .ite (fun _ => ?_) fun _ => ?_
  · exact h
  · dsimp only
    split
    · exact h.send.drew.pairTick
    · exact h.send.drew.pairTick.wrI.upd.showPair

theorem Tame.execReqOperational {path : Path} (h : Tame false o s) : Completes o (execReqOperational path s) :=
  .done (h.writeSentinel fun _ ht => ht.writeReq)

theorem Tame.execReqInit {path : Path} (h : Tame false o s) : Completes o (execReqInit path s) :=
  .done (h.writeSentinel fun _ ht => ht.writeReq)

theorem Tame.execReqClear {path : Path} (h : Tame false o s) : Completes o (execReqClear path s) :=
  .done (h.writeSentinel fun _ ht => ht.writeReq)

theorem Tame.execReqSafeHold {path : Path} (h : Tame false o s) : Completes o (execReqSafeHold path s) :=
  .done (h.writeSentinel fun _ ht => ht.writeReq)

theorem Tame.execPairArm {path : Path} (h : Tame false o s) : Completes o (execPairArm path s) :=
  .done (h.writeSentinel fun _ ht => ht.writeReq)

theorem Tame.execPairCommission {path : Path} (h : Tame false o s) : Completes o (execPairCommission path s) :=
  .done (h.writeSentinel fun _ ht => ht.writeReq)

theorem Tame.execPairArmExpiry (h : Tame false o s) : Completes o (execPairArmExpiry s) :=
  .done (h.sentinel fun _ ht => ht.disarm)

theorem Tame.execOperationalEntryComplete (h : Tame false o s) : Completes o (execOperationalEntryComplete s) :=
  .done (h.sentinel fun _ ht => ht.completeEntry)

theorem Tame.execAutoOperRetry (h : Tame false o s) : Completes o (execAutoOperRetry s) :=
  .done (h.sentinel (fun _ ht => .ite (fun _ => ht.autoOper) fun _ => ht))

theorem Tame.execSafetyFaultPost (h : Tame false o s) : Completes o (execSafetyFaultPost s) := by
  refine .done (h.sentinel fun _ ht => ?_)
  split
  · exact ht
  · exact ht.upd.safetyPost
  · exact ht.upd.fireReport

theorem Tame.execTripsLatchClear {path : Path} {value : Word} (h : Tame false o s) : Completes o (execTripsLatchClear path value s) :=
  .done (h.writeSentinel fun _ ht => ht.clearTrips)

theorem Tame.execInhibitLatchClear (h : Tame false o s) : Completes o (execInhibitLatchClear s) :=
  .done (.ite (fun _ => h) fun _ => h.put)

theorem Tame.execEpermChange {channelB : Bool} {level : Bool} (h : Tame false o s) : Completes o (execEpermChange channelB level s) :=
  .done (.ite (fun _ => (Tame.ite (fun _ => h.upd) fun _ => h.upd).tripSet) fun _ => .ite (fun _ => h.upd) fun _ => h.upd)

theorem Tame.execPermitFilterSettled {input : PermitInput} {level : Bool} (h : Tame false o s) :
    Completes o (execPermitFilterSettled input level s) := by
  refine .done (h.sentinel fun _ ht => ?_)
  split
  · exact .ite (fun _ => ht.put.permitSettled) fun _ => ht
  · exact .ite (fun _ => ht.put.permitSettled) fun _ => ht
  · exact ht.upd.put.contactorSettled

theorem Tame.execDiscrepancyTick (h : Tame false o s) : Completes o (execDiscrepancyTick s) :=
  .done (h.sentinel (fun _ ht => .ite (fun _ => ht.upd.tripSet) fun _ => ht))

theorem Tame.execContactorTimeout (h : Tame false o s) : Completes o (execContactorTimeout s) := by
  refine .done ?_
  refine Tame.sentinel ?_ (fun _ ht => .ite (fun _ => .ite (fun _ => ht.upd.tripSet) fun _ => ht.upd) fun _ => .ite (fun _ => ht.upd.tripSet) fun _ => ht)
  exact h

theorem Tame.execLockstepMismatch (h : Tame false o s) : Completes o (execLockstepMismatch s) :=
  .done (h.sentinel fun _ ht => ht.fault.tripSet)

theorem Tame.execOscEdgeLoss (h : Tame false o s) : Completes o (execOscEdgeLoss s) :=
  .done (h.sentinel fun _ ht => ht.upd.tripSet)

theorem Tame.execSelfTest {readback : SelfTestReadback} (h : Tame false o s) : Completes o (execSelfTest readback s) :=
  .done (h.sentinel (fun _ ht => .ite (fun _ => ht) fun _ => .ite (fun _ => ht.upd) fun _ => ht.fault.tripSet))

theorem Tame.execColophonRecompute (h : Tame false o s) : Completes o (execColophonRecompute s) :=
  .done (h.sentinel fun _ ht => ht.colophon)

theorem Tame.execColophonConfirm {path : Path} {value : Word} (h : Tame false o s) : Completes o (execColophonConfirm path value s) :=
  .done (h.writeSentinel fun _ ht => ht.confirmColophon)

theorem Tame.execColophonStored (h : Tame false o s) : Completes o (execColophonStored s) := by
  refine .done (h.sentinel fun _ ht => ?_)
  split
  · exact ht
  · exact ht.wr.put.raise.loose rfl

theorem Tame.execSafetyRecordLoad (h : Tame false o s) : Completes o (execSafetyRecordLoad s) := by
  refine .done (h.sentinel fun _ ht => ?_)
  refine .ite (fun _ => ?_) fun _ => ?_
  · exact ht
  · dsimp only
    split
    · exact ht.upd
    · exact ((Tame.ite (fun _ => ht.upd.put.wr) fun _ => ht.upd.put.wr.wrBoth).upd).safOutputs

theorem Tame.execEnergyBucketAdvance {second : Bool} (h : Tame false o s) : Completes o (execEnergyBucketAdvance second s) :=
  .done (h.sentinel (fun _ ht => (Tame.ite (fun _ => ht.upd) fun _ => ht.upd).showEnergy))

theorem Tame.execDegMaxExpiry (h : Tame false o s) : Completes o (execDegMaxExpiry s) :=
  .done (h.sentinel (fun _ ht => .ite (fun _ => ht.tripSet) fun _ => ht))

theorem Tame.execArmTokenDecision (h : Tame false o s) : Completes o (execArmTokenDecision s) := by
  refine .done ?_
  split
  · exact .ite (fun _ => h.upd) fun _ => .ite (fun _ => h.addEnergy.upd) fun _ => h.upd.upd.raise
  · exact h

theorem Tame.execMirrorSample (h : Tame false o s) : Completes o (execMirrorSample s) :=
  .done (.ite (fun _ => h.mirrorSample) fun _ => h)

theorem Tame.execFrameStartStrobe (h : Tame false o s) : Completes o (execFrameStartStrobe s) :=
  .done (.ite (fun _ => h.drew.upd) fun _ => h)

theorem Tame.execMirrorStateUpdate (h : Tame false o s) : Completes o (execMirrorStateUpdate s) :=
  .done (.ite (fun _ => h) fun _ => .ite (fun _ => h.keep) fun _ => h.takeMirror)

theorem Tame.execHeartbeatTimeout (h : Tame false o s) : Completes o (execHeartbeatTimeout s) :=
  .done (h.sentinel fun _ ht => ht.upd.safMirror)

theorem Tame.execHeaterSample (h : Tame false o s) : Completes o (execHeaterSample s) :=
  .done (.ite (fun _ => h.resultsArrive.heaterSample) fun _ => h.resultsArrive)

theorem Tame.execHtrPwmPeriodStart (h : Tame false o s) : Completes o (execHtrPwmPeriodStart s) :=
  .done ((Tame.ite (fun _ => h.wr) fun _ => h).upd)

theorem Tame.execResetTakeEffect (h : Tame false o s) : Completes o (execResetTakeEffect s) := by
  refine .done ?_
  split
  · exact h
  · exact h.upd.takeEffect

theorem Tame.execEpisodeEnd (h : Tame false o s) : Completes o (execEpisodeEnd s) := by
  refine .done (h.ungated fun _ ht => ?_)
  split
  · exact ht.upd.showRst
  · refine Tame.showRst ?_
    refine .ite (fun _ => ?_) fun _ => ?_
    · exact ht.drew.upd.wr.raise.sampleStraps.loadMap.loose rfl
    · refine .ite (fun _ => ?_) fun _ => ?_
      · exact ht.drew.upd.wr.raise.startSequence
      · exact ht.drew.upd.wr.raise.foldl fun _ _ _ ht => .ite (fun _ => ht.dueDomain) fun _ => ht

theorem Tame.execSentinelRelease (h : Tame false o s) : Completes o (execSentinelRelease s) := by
  refine .done ?_
  split
  · exact h
  · refine Tame.showRst ?_
    refine Tame.safOutputs ?_
    refine Tame.degrade ?_
    refine Tame.colophon ?_
    refine Tame.safMirror ?_
    refine .ite (fun _ => ?_) fun _ => ?_
    · exact (Tame.ite (fun _ => h.upd.put.tripSet) fun _ => h.upd.put).tripSet
    · exact .ite (fun _ => h.upd.put.tripSet) fun _ => h.upd.put

theorem Tame.execUnitRelease {page : Fin 183} (h : Tame false o s) : Completes o (execUnitRelease page s) := by
  refine .done (h.ungated fun _ ht => ?_)
  split
  · exact ht
  · exact .ite (fun _ => ht) fun _ => .ite (fun _ => ht.upd.afterRelease.showRst) fun _ => ht.upd.inLedger.showRst

theorem Tame.execClkTmo {page : Fin 183} (h : Tame false o s) : Completes o (execClkTmo page s) := by
  refine .done (h.ungated fun _ ht => ?_)
  split
  · exact ht
  · exact (ht.upd.inLedger.fault.raise.foldl fun _ _ _ ht => ht.put).showRst

theorem Tame.execRefTimeout (h : Tame false o s) : Completes o (execRefTimeout s) :=
  .done (h.ungated (fun _ ht => .ite (fun _ => ht.fault) fun _ => ht))

theorem Tame.execRefCheckWindow {count : BitVec 9} (h : Tame false o s) : Completes o (execRefCheckWindow count s) := by
  refine .done ?_
  refine .ite (fun _ => ?_) fun _ => ?_
  · exact h
  · refine .ite (fun _ => ?_) fun _ => ?_
    · dsimp only
      split
      · exact ((Tame.ite (fun _ => h.wr) fun _ => h.wr.put.raise.showClocks.deassertReset.showRst).upd).startSequence
      · exact .ite (fun _ => h.wr) fun _ => h.wr.put.raise.showClocks.deassertReset.showRst
    · exact h.wr.refLost

theorem Tame.execClockCheckWindow {domain : Fin 6} {count : BitVec 16} (h : Tame false o s) : Completes o (execClockCheckWindow domain count s) :=
  .done (.ite (fun _ => h) fun _ => .ite (fun _ => .ite (fun _ => h.wr) fun _ => h.wr.wr.raise.showClocks.deassertReset) fun _ =>
    h.wr.clockLost)

theorem Tame.execClockEdgeTimeout {domain : Option (Fin 6)} (h : Tame false o s) : Completes o (execClockEdgeTimeout domain s) := by
  refine .done ?_
  refine .ite (fun _ => ?_) fun _ => ?_
  · exact h
  · split
    · exact h.refLost
    · exact h.clockLost

theorem Tame.execPllLock {domain : Fin 6} (h : Tame false o s) : Completes o (execPllLock domain s) :=
  .done (.ite (fun _ => h) fun _ => h.wr.showClocks)

theorem Tame.execPllUnlock {domain : Fin 6} (h : Tame false o s) : Completes o (execPllUnlock domain s) := by
  refine .done ?_
  refine .ite (fun _ => ?_) fun _ => ?_
  · exact h
  · refine Tame.showClocks ?_
    refine .ite (fun _ => ?_) fun _ => ?_
    · exact (Tame.ite (fun _ => h.wr.count.raise.fault) fun _ => h.wr).keep
    · refine .ite (fun _ => ?_) fun _ => ?_
      · exact (Tame.ite (fun _ => h.wr.count.raise.fault) fun _ => h.wr).clockLost
      · exact .ite (fun _ => h.wr.count.raise.fault) fun _ => h.wr

theorem Tame.execPowerOn {above : Bool} (h : Tame false o s) : Completes o (execPowerOn above s) :=
  .done (.ite (fun _ => h.deassertReset) fun _ => h.powerLost)

theorem Tame.execBrownoutSen (h : Tame false o s) : Completes o (execBrownoutSen s) :=
  .done (h.assertReset)

theorem Tame.execBrownoutSenDeassert (h : Tame false o s) : Completes o (execBrownoutSenDeassert s) :=
  .done (h.deassertReset)

theorem Tame.execResetPin {low : Bool} (h : Tame false o s) : Completes o (execResetPin low s) :=
  .done (.ite (fun _ => h.upd.assertReset) fun _ => h.upd.deassertReset)

theorem Tame.execWatchdogExpiry (h : Tame false o s) : Completes o (execWatchdogExpiry s) :=
  .done (.ite (fun _ => h) fun _ => .ite (fun _ => h.fault.pulseReset) fun _ => h.fault.pulseReset)

theorem Tame.execWdogKick {path : Path} {value : Word} (h : Tame false o s) : Completes o (execWdogKick path value s) :=
  .done (h.writeSentinel fun _ ht => ht.wdogKick)

theorem Tame.execSwReqGo {path : Path} {value : Word} (h : Tame false o s) : Completes o (execSwReqGo path value s) :=
  .done (h.writeSentinel fun _ ht => ht.swRequest)

theorem Tame.execHoldSlotWrite {path : Path} {slot : Fin 8} {value : Word} (h : Tame false o s) :
    Completes o (execHoldSlotWrite path slot value s) :=
  .done (h.writeSentinel fun _ ht => ht.holdSlot)

theorem Tame.execHostLockup (h : Tame false o s) : Completes o (execHostLockup s) :=
  .done (.ite (fun _ => h.pulseReset) fun _ => h)

theorem Tame.execRailGood {rail : Fin 6} (h : Tame false o s) : Completes o (execRailGood rail s) :=
  .done (h.ungated fun _ ht => ht.rail)

theorem Tame.execRailLost {rail : Fin 6} (h : Tame false o s) : Completes o (execRailLost rail s) :=
  .done (h.ungated fun _ ht => ht.rail)

theorem Tame.execFeedPresenceChange {feedB : Bool} {present : Bool} (h : Tame false o s) : Completes o (execFeedPresenceChange feedB present s) :=
  .done (h.ungated fun _ ht => ht.put)

theorem Tame.execStandbyAbsent (h : Tame false o s) : Completes o (execStandbyAbsent s) :=
  .done (.ite (fun _ => h.raise.fault.degrade) fun _ => h)

theorem Tame.execFeedSwitchover (h : Tame false o s) : Completes o (execFeedSwitchover s) :=
  .done (.ite (fun _ => h) fun _ => h.switchFeed)

theorem Tame.execFeedReturn (h : Tame false o s) : Completes o (execFeedReturn s) :=
  .done (.ite (fun _ => h) fun _ => .ite (fun _ => h.drew) fun _ => h.drew.upd.switchFeed)

theorem Tame.execDomainOn {path : Path} {value : Word} (h : Tame false o s) : Completes o (execDomainOn path value s) :=
  .done (h.writeSentinel fun _ ht => ht.pwrCommand)

theorem Tame.execDomainOff {path : Path} {value : Word} (h : Tame false o s) : Completes o (execDomainOff path value s) :=
  .done (h.writeSentinel fun _ ht => ht.pwrCommand)

theorem Tame.execDomainTurn {railOk : Bool} (h : Tame false o s) : Completes o (execDomainTurn railOk s) := by
  refine .done ?_
  refine .ite (fun _ => ?_) fun _ => ?_
  · exact h
  · split
    · exact h
    · refine .ite (fun _ => ?_) fun _ => ?_
      · exact h
      · refine .ite (fun _ => ?_) fun _ => ?_
        · refine Tame.commandEnds ?_
          refine .ite (fun _ => ?_) fun _ => ?_
          · exact h.wr.upd
          · exact .ite (fun _ => h.wr.upd.switchOff) fun _ => .ite (fun _ => h.wr.upd.switchOn) fun _ => h.wr.upd.turnFails
        · refine .ite (fun _ => ?_) fun _ => ?_
          · exact h.wr.upd
          · exact .ite (fun _ => h.wr.upd.switchOff) fun _ => .ite (fun _ => h.wr.upd.switchOn) fun _ => h.wr.upd.turnFails

theorem Tame.execPark {path : Path} {value : Word} (h : Tame false o s) : Completes o (execPark path value s) :=
  .done (h.writeSentinel fun _ ht => ht.parkWord)

theorem Tame.execWakePin {monRx : Bool} (h : Tame false o s) : Completes o (execWakePin monRx s) :=
  .done (h.ungated (fun _ ht => .ite (fun _ => ht.wake) fun _ => ht))

theorem Tame.execWakeTimer (h : Tame false o s) : Completes o (execWakeTimer s) :=
  .done (h.ungated (fun _ ht => .ite (fun _ => ht.wake) fun _ => ht))

theorem Tame.execHaltTakeEffect {page : Fin 183} (h : Tame false o s) : Completes o (execHaltTakeEffect page s) :=
  .done (.ite (fun _ => h.takeHalt) fun _ => h)

theorem Tame.execCommit {path : Path} (h : Tame false o s) : Completes o (execCommit path s) :=
  .done (h.writeTo fun _ ht => ht.commit)

theorem Tame.execAbort {path : Path} (h : Tame false o s) : Completes o (execAbort path s) :=
  .done (h.writeTo fun _ ht => ht.abort)

theorem Tame.execSnap {path : Path} (h : Tame false o s) : Completes o (execSnap path s) :=
  .done (h.writeTo fun _ ht => ht.snapRequest)

theorem Tame.execCommitCheckDone (h : Tame false o s) : Completes o (execCommitCheckDone s) :=
  .done (.ite (fun _ => h) fun _ => .ite (fun _ => h.refuseCommit) fun _ => .ite (fun _ => h.discardCommit) fun _ => h.stageCommit)

theorem Tame.execSnapshotCapture (h : Tame false o s) : Completes o (execSnapshotCapture s) :=
  .done (.ite (fun _ => h) fun _ => h.put.put.raise.wr.wr.upd.snapAnswer)

theorem Tame.execFrameBoundaryStrobe {page : Fin 183} (h : Tame false o s) : Completes o (execFrameBoundaryStrobe page s) := by
  refine .done ?_
  refine Tame.finishCommit ?_
  exact (Tame.ite (fun _ => h.boundaryReached) fun _ => .ite (fun _ => h.upd) fun _ => h).foldl fun _ _ _ ht => ht.strobe

theorem Tame.execLedgerOutput (h : Tame false o s) : Completes o (execLedgerOutput s) :=
  .done (h.ledgerOutput)

theorem Tame.execIdleBoundary (h : Tame false o s) : Completes o (execIdleBoundary s) := by
  refine .done ?_
  refine .ite (fun _ => ?_) fun _ => ?_
  · exact h
  · refine Tame.takeUp ?_
    refine Tame.clampRate ?_
    refine Tame.calIdle ?_
    exact ((h.boundaryReached.snapBoundary.commitBoundary.foldl fun _ _ _ ht => ht.applyNow).finishCommit).foldl fun _ _ _ ht => ht.trimBoundary

theorem Tame.execFrameSyncInEdge {also : BitVec 4} (h : Tame false o s) : Completes o (execFrameSyncInEdge also s) :=
  .done (h.trigger)

theorem Tame.execSyncBusEdge {also : BitVec 4} (h : Tame false o s) : Completes o (execSyncBusEdge also s) :=
  .done (h.trigger)

theorem Tame.execFrameTimer (h : Tame false o s) : Completes o (execFrameTimer s) :=
  .done (h.trigger)

theorem Tame.execSwTrig {path : Path} (h : Tame false o s) : Completes o (execSwTrig path s) :=
  .done (h.writeTo fun _ ht => ht.trigger)

theorem Tame.execPendingTriggerAccept (h : Tame false o s) : Completes o (execPendingTriggerAccept s) :=
  .done (.ite (fun _ => h.acceptTrigger) fun _ => h)

theorem Tame.execSyncLostTimeout (h : Tame false o s) : Completes o (execSyncLostTimeout s) :=
  .done (.ite (fun _ => h) fun _ => (Tame.ite (fun _ => h.put.raise.showFallback) fun _ =>
    h.put.raise.showFallback.upd.fault.degrade).triggerIf)

theorem Tame.execFsoPulseEnd {bus : Bool} (h : Tame false o s) : Completes o (execFsoPulseEnd bus s) :=
  .done (.ite (fun _ => h.upd) fun _ => h.upd)

theorem Tame.execBurstCodeDone (h : Tame false o s) : Completes o (execBurstCodeDone s) := by
  refine .done ?_
  split
  · exact .ite (fun _ => h.upd) fun _ => h
  · exact h

theorem Tame.execPairPacketReceived {accession : Word} {stamp depart arrival : DWord} {code : List (BitVec 9)} (h : Tame false o s)
    (hwf : (Instr.pairPacketReceived accession stamp depart arrival code).wf = true) :
    Completes o (execPairPacketReceived accession stamp depart arrival code s) := by
  unfold Machine.execPairPacketReceived
  dsimp -zeta only
  rw [if_neg (by simp [hwf])]
  extract_lets _ s1 s2
  have hs1 : Tame false o s1 := Tame.showPair h.upd
  clear_value s1
  have hs2 : Tame false o s2 := .ite (fun _ => hs1.followPair) fun _ => hs1
  clear_value s2
  exact .done (.ite (fun _ => h) fun _ => hs2.clashAtPacket)

theorem Tame.execPairTrigger (h : Tame false o s) : Completes o (execPairTrigger s) := by
  refine .done ?_
  split
  · exact h.upd.trigger
  · exact h

theorem Tame.execProxWordArrival (h : Tame false o s) : Completes o (execProxWordArrival s) := by
  refine .done ?_
  refine .ite (fun _ => ?_) fun _ => ?_
  · exact h
  · split
    · exact h
    · exact .ite (fun _ => h.upd.proxAccept) fun _ => h.upd

theorem Tame.execProxCollectionClose (h : Tame false o s) : Completes o (execProxCollectionClose s) :=
  .done (.ite (fun _ => h) fun _ => .ite (fun _ => h.upd.proxFrame) fun _ => h.upd)

theorem Tame.execProxHoldExpiry (h : Tame false o s) : Completes o (execProxHoldExpiry s) :=
  .done (.ite (fun _ => h) fun _ => h.upd.safOutputs)

theorem Tame.execShotOpen (h : Tame false o s) : Completes o (execShotOpen s) := by
  refine .done ?_
  split
  · exact h
  · refine .ite (fun _ => ?_) fun _ => ?_
    · exact h
    · dsimp only
      split
      · exact ((Tame.ite (fun _ => h.takeHalt.openFirst) fun _ => h.takeHalt).openShot).clashAtOpen
      · exact .ite (fun _ => h.takeHalt.openFirst) fun _ => h.takeHalt

theorem Tame.execArmPoint (h : Tame false o s) : Completes o (execArmPoint s) :=
  .done (h.arm)

theorem Tame.execWindowOpen (h : Tame false o s) : Completes o (execWindowOpen s) := by
  refine .done ?_
  split
  · exact h
  · exact .ite (fun _ => h) fun _ => ((h.arm.foldl fun _ _ _ ht => ht.openBank).foldl fun _ _ _ ht => ht.openSection).upd

theorem Tame.execWindowClose (h : Tame false o s) : Completes o (execWindowClose s) := by
  refine .done ?_
  split
  · exact h
  · exact .ite (fun _ => h) fun _ => h.closeShot.afterShot

theorem Tame.execSecCommandDone (h : Tame false o s) : Completes o (execSecCommandDone s) := by
  refine .done ?_
  refine .ite (fun _ => ?_) fun _ => ?_
  · exact h
  · split
    · exact h
    · refine .ite (fun _ => ?_) fun _ => ?_
      · exact h.doVerify
      · refine .ite (fun _ => ?_) fun _ => ?_
        · exact h.doAttest
        · exact .ite (fun _ => h.doCert) fun _ => .ite (fun _ => h.doEnroll) fun _ => .ite (fun _ => h.doRevoke) fun _ => h.doConfirm

theorem Tame.execVerify {path : Path} {value : Word} (h : Tame false o s) : Completes o (execVerify path value s) :=
  .done (h.writeTo fun _ ht => ht.secCommand)

theorem Tame.execAttest {path : Path} {value : Word} (h : Tame false o s) : Completes o (execAttest path value s) :=
  .done (h.writeTo fun _ ht => ht.secCommand)

theorem Tame.execCert {path : Path} {value : Word} (h : Tame false o s) : Completes o (execCert path value s) :=
  .done (h.writeTo fun _ ht => ht.secCommand)

theorem Tame.execEnroll {path : Path} {value : Word} (h : Tame false o s) : Completes o (execEnroll path value s) :=
  .done (h.writeTo fun _ ht => ht.secCommand)

theorem Tame.execRevoke {path : Path} {value : Word} (h : Tame false o s) : Completes o (execRevoke path value s) :=
  .done (h.writeTo fun _ ht => ht.secCommand)

theorem Tame.execConfirm {path : Path} {value : Word} (h : Tame false o s) : Completes o (execConfirm path value s) :=
  .done (h.writeTo fun _ ht => ht.secCommand)

theorem Tame.execBootSequence (h : Tame false o s) : Completes o (execBootSequence s) := by
  unfold Machine.execBootSequence
  extract_lets sel s1 _ s2
  have hs1 : Tame false o s1 := h.wr.put
  clear_value s1
  have hs2 : Tame false o s2 := .ite (fun _ => hs1.put) fun _ => hs1
  clear_value s2
  exact .done (.ite (fun _ => h) fun _ => .ite (fun _ => hs1.trySlots) fun _ => .ite (fun _ => hs1.trySlots) fun _ =>
    .ite (fun _ => hs1.loose rfl) fun _ => hs2.chooseSlot.trySlots)

theorem Tame.execWgo {path : Path} {value : Word} (h : Tame false o s) : Completes o (execWgo path value s) :=
  .done (h.writeTo fun _ ht => ht.wgo)

theorem Tame.execMramWriteDone (h : Tame false o s) : Completes o (execMramWriteDone s) := by
  refine .done (.ite (fun _ => h) fun _ => ?_)
  split
  · exact h.loose rfl
  · refine Tame.showWriting (Tame.startPulse ?_)
    exact (h.mram h.mramFit.setLe).loose rfl

theorem Tame.execLifeRecordWrite (h : Tame false o s) : Completes o (execLifeRecordWrite s) :=
  .done (.ite (fun _ => h) fun _ => .ite (fun _ => h.nvsBlocked.loose rfl) fun _ => h.loose rfl)

theorem Tame.execRegisterWrite {path : Path} {addr : Word} {value : Word} (h : Tame false o s) :
    Completes o (execRegisterWrite path addr value s) :=
  .done (h.busWrite.upd)

theorem Tame.execBadRegisterAccess {path : Path} {write : Bool} {addr : Word} {size : Nat} (h : Tame false o s) :
    Completes o (execBadRegisterAccess path write addr size s) :=
  .done (.ite (fun _ => h.badAccess.upd) fun _ => h)

theorem Tame.execUndefinedOffsetAccess {path : Path} {write : Bool} {addr : Word} {value : Word} (h : Tame false o s) :
    Completes o (execUndefinedOffsetAccess path write addr value s) := by
  refine .done ?_
  refine Tame.upd ?_
  split
  · exact h.busWrite
  · exact h.busRead

theorem Tame.execHaltWrite {path : Path} {page : Fin 183} {value : Word} (h : Tame false o s) : Completes o (execHaltWrite path page value s) :=
  .done (h.wordCommand)

theorem Tame.execPerturbWrite {path : Path} {page : Fin 183} {value : Word} (h : Tame false o s) :
    Completes o (execPerturbWrite path page value s) :=
  .done (h.wordCommand)

theorem Tame.execRunWrite {path : Path} {value : Word} (h : Tame false o s) : Completes o (execRunWrite path value s) :=
  .done (h.wordCommand)

theorem Tame.execEmtLoad {path : Path} {value : Word} (h : Tame false o s) : Completes o (execEmtLoad path value s) :=
  .done (h.wordCommand)

theorem Tame.execLmpLoad {path : Path} {value : Word} (h : Tame false o s) : Completes o (execLmpLoad path value s) :=
  .done (h.wordCommand)

theorem Tame.execRestart {path : Path} {value : Word} (h : Tame false o s) : Completes o (execRestart path value s) :=
  .done (h.wordCommand)

theorem Tame.execCoeffWrite {path : Path} {bank : Fin 2} {word : Fin 4} {value : Word} (h : Tame false o s) :
    Completes o (execCoeffWrite path bank word value s) :=
  .done (h.wordCommand)

theorem Tame.execStart {path : Path} {value : Word} (h : Tame false o s) : Completes o (execStart path value s) :=
  .done (h.wordCommand)

theorem Tame.execStop {path : Path} {value : Word} (h : Tame false o s) : Completes o (execStop path value s) :=
  .done (h.wordCommand)

theorem Tame.execRecovGo {path : Path} {value : Word} (h : Tame false o s) : Completes o (execRecovGo path value s) :=
  .done (h.wordCommand)

theorem Tame.execRegisterReadRequest {tag : BitVec 8} {countM1 : BitVec 4} {addr : Word} (h : Tame false o s) :
    Completes o (execRegisterReadRequest tag countM1 addr s) := by
  refine .done (.ite (fun _ => h) fun _ => .ite (fun _ => h.respond) fun _ => ?_)
  have hread : Tame false o (s.readMany addr.toNat (countM1.toNat + 1)).1 := h.readMany
  generalize s.readMany addr.toNat (countM1.toNat + 1) = r at *
  exact hread.respond

theorem Tame.execRegisterWriteRequest {tag : BitVec 8} {addr : Word} {values : List Word} (h : Tame false o s)
    (hlen : ¬(values.length = 0 || 16 < values.length)) : Completes o (execRegisterWriteRequest tag addr values s) := by
  unfold Machine.execRegisterWriteRequest
  dsimp -zeta only
  rw [if_neg hlen]
  exact .done (.ite (fun _ => h) fun _ => .ite (fun _ => h.respond) fun _ => h.writeMany.respond)

theorem Tame.execRegisterMalformedRequest {head : DWord} {len : Nat} (h : Tame false o s) :
    Completes o (execRegisterMalformedRequest head len s) :=
  .done (.ite (fun _ => h) fun _ => h.respond)

theorem Tame.execEventPacketSend (h : Tame false o s) : Completes o (execEventPacketSend s) :=
  .done (.ite (fun _ => h.upd) fun _ => .ite (fun _ => h) fun _ => h.enqueue.upd)

theorem Tame.execSpiRead {addr : Word} {crc : Byte} (h : Tame false o s) : Completes o (execSpiRead addr crc s) :=
  .done (.ite (fun _ => h.spiSays) fun _ => .ite (fun _ => h.spiSays) fun _ => h.spiReadAt.upd.spiSays)

theorem Tame.execSpiWrite {addr data : Word} {crc : Byte} (h : Tame false o s) : Completes o (execSpiWrite addr data crc s) :=
  .done (.ite (fun _ => h.spiSays) fun _ => .ite (fun _ => h.spiSays) fun _ => h.spiWriteAt.upd.spiSays)

theorem Tame.execSpiMalformedFrame {cmd : Byte} (h : Tame false o s) : Completes o (execSpiMalformedFrame cmd s) :=
  .done (.ite (fun _ => h) fun _ => .ite (fun _ => h.spiSays) fun _ => h.spiSays)

theorem Tame.execSpiFrameAbandon (h : Tame false o s) : Completes o (execSpiFrameAbandon s) :=
  .done (h.upd)

theorem Tame.execSpiCsNEarlyRise (h : Tame false o s) : Completes o (execSpiCsNEarlyRise s) :=
  .done (h.spiSays)

theorem Tame.execI2cStretchTimeout (h : Tame false o s) : Completes o (execI2cStretchTimeout s) :=
  .done (.ite (fun _ => h.loose rfl) fun _ => h)

/-- A change of the boundary-scan port whose observe-only cells do not drive. -/
theorem Tame.jtag {j : JtagState} (h : Tame false o s) (hj : j.cells &&& observeOnly = 0) : Tame false o { s with jtag := j } := by
  refine ⟨h.pending, fun ho => ?_, fun hp => absurd hp Bool.false_ne_true⟩
  obtain ⟨hzero, hmem, hmems, -⟩ := h.inv ho
  exact ⟨hzero, hmem, hmems, hj⟩

theorem cells_observe (cells : BitVec 79) : (cells &&& ~~~observeOnly) &&& observeOnly = 0 := by
  rw [BitVec.and_assoc, BitVec.and_comm (~~~observeOnly), BitVec.and_not_self]
  exact BitVec.and_zero

theorem Tame.execExtest {cells : BitVec 79} (h : Tame false o s) : Completes o (execExtest cells s) := by
  have hmark : Tame false o ((s.put MON.ST_EXTEST true).drew 1) := h.put.drew
  unfold Machine.execExtest
  generalize (s.put MON.ST_EXTEST true).drew 1 = t at hmark
  exact .done (.ite (fun _ => hmark.jtag (cells_observe cells)) fun _ => h.bypass)

theorem Tame.execSamplePreload {pins : BitVec 79} (h : Tame false o s) : Completes o (execSamplePreload pins s) :=
  .done ((h.put (f := MON.ST_EXTEST) (b := false)).loose rfl)

theorem Tame.execBypass (h : Tame false o s) : Completes o (execBypass s) :=
  .done (h.bypass)

theorem Tame.execCarrelUnknownCommand (h : Tame false o s) : Completes o (execCarrelUnknownCommand s) :=
  .done (h.carrel (fun _ ht => ht))

theorem Tame.execCarrelVer (h : Tame false o s) : Completes o (execCarrelVer s) :=
  .done (h.carrel (fun _ ht => ht))

theorem Tame.execCarrelPeek {addr : Word} {count : Nat} (h : Tame false o s) : Completes o (execCarrelPeek addr count s) := by
  refine .done (h.carrel fun _ ht => ?_)
  split
  · exact ht
  · exact ht.readMany

theorem Tame.execCarrelPoke {addr : Word} {value : Word} (h : Tame false o s) : Completes o (execCarrelPoke addr value s) := by
  refine .done (h.carrelOnly fun _ ht => ?_)
  split
  · exact ht
  · exact ht.putErrBits.busWrite.putErrBits

theorem Tame.execCarrelFolio {addr : Word} (h : Tame false o s) : Completes o (execCarrelFolio addr s) := by
  refine .done (h.carrelOnly fun t ht => ?_)
  split
  · exact ht
  · rename_i p _
    generalize ((List.range 1024).map (4 * ·)).filter (defined p) = l
    exact ht.readOffsets

theorem Tame.execCarrelTree (h : Tame false o s) : Completes o (execCarrelTree s) :=
  .done (h.carrelOnly (fun _ ht => ht))

theorem Tame.execCarrelSnap (h : Tame false o s) : Completes o (execCarrelSnap s) :=
  .done (h.carrelOnly (fun _ ht => ht.writeWord.loose rfl))

theorem Tame.execCarrelTrace {addr : Word} (h : Tame false o s) : Completes o (execCarrelTrace addr s) := by
  refine .done (h.carrelOnly fun _ ht => ?_)
  split
  · exact ht
  · exact ht.loose rfl

theorem Tame.execCarrelTraceOff (h : Tame false o s) : Completes o (execCarrelTraceOff s) :=
  .done (h.carrelOnly (fun _ ht => ht.loose rfl))

theorem Tame.execTracePoll (h : Tame false o s) : Completes o (execTracePoll s) := by
  refine .done ?_
  split
  · exact h
  · exact h.traceSend.foldl fun _ _ _ ht => ht.tracePoll

theorem Tame.execVolLoad {size : Nat} {bytes : List Byte} {check : List Byte} (h : Tame false o s) :
    Completes o (execVolLoad size bytes check s) := by
  refine .done (h.carrel fun _ ht => ?_)
  split
  · exact ht
  · split
    · exact (ht.loose rfl).loose rfl
    · split
      · exact (ht.loose rfl).loose rfl
      · exact ht.loose rfl

theorem Tame.execVolLoadTimeout (h : Tame false o s) : Completes o (execVolLoadTimeout s) :=
  .done (.ite (fun _ => Tame.answer (h.loose rfl)) fun _ => h)

theorem Tame.volInto {slot : Nat} {vol : List Byte} (h : Tame false o s) : Tame false o (s.volInto slot vol).state := by
  unfold State.volInto
  extract_lets rd new kept vs size
  split
  · exact h
  split
  · exact h
  · exact h.writeSlot

theorem Tame.execVolWrite {slotB : Bool} (h : Tame false o s) : Completes o (execVolWrite slotB s) := by
  unfold Machine.execVolWrite
  extract_lets slot
  clear_value slot
  refine .done (h.carrel fun t ht => ?_)
  split
  · exact ht
  split
  · exact ht
  · exact ht.volInto

theorem Tame.execVolVerify {dest : Byte} (h : Tame false o s) : Completes o (execVolVerify dest s) := by
  refine .done (h.carrelOnly fun _ ht => ?_)
  split
  · exact ht
  split
  · exact ht
  split
  · exact ht
  split
  · exact ht
  · exact ht.volVerify

theorem Tame.execCarrelBoot (h : Tame false o s) : Completes o (execCarrelBoot s) := by
  refine .done (h.carrel fun _ ht => ?_)
  split
  · exact ht
  · extract_lets rd
    split
    · exact ht.runHost
    · exact ht

theorem Tame.execBaud {rate : Nat} (h : Tame false o s) : Completes o (execBaud rate s) := by
  refine .done (h.carrelOnly fun _ ht => ?_)
  split
  · exact ht.wr
  · split
    · exact ht.wr
    · exact ht

theorem Engine.Fit.setVec {e : Engine} {r : BitVec 5} {v : BitVec 256} (he : e.Fit o) : (e.setVec r v).Fit o := he.upd

theorem Tame.execVld {fetch : Fetch} {v ra : BitVec 5} {mode : BitVec 3} {off : BitVec 13} {found : Ecc} (h : Tame false o s) :
    Completes o (execVld fetch v ra mode off found s) := by
  refine .done (h.issue fun _ _ ht he => ?_)
  have hlanes {a n align} {lanes : List Byte → BitVec 256} : Tame false o (State.load _ fetch.engine _ a n align found fun s e bs =>
      s.next fetch.engine (e.setVec v (lanes bs))) := ht.load he fun _ _ _ ht he => ht.next he.setVec
  exact .ite (fun _ => hlanes) fun _ => .ite (fun _ => hlanes) fun _ => .ite (fun _ => hlanes) fun _ => ht.illegal he

theorem Tame.execVst {fetch : Fetch} {v : BitVec 5} {ra : BitVec 5} {mode : BitVec 3} {off : BitVec 13} (h : Tame false o s) :
    Completes o (execVst fetch v ra mode off s) := by
  refine .done ?_
  refine Tame.issue ?_ (fun _ _ ht he => .ite (fun _ => ht.store he) fun _ => .ite (fun _ => ht.store he) fun _ => ht.illegal he)
  exact h

theorem Tame.execValu {fetch : Fetch} {vd va vb : BitVec 5} {mode : BitVec 3} {func : BitVec 8} (h : Tame false o s) :
    Completes o (execValu fetch vd va vb mode func s) :=
  .done (h.issue fun _ _ ht he => .ite (fun _ => ht.illegal he) fun _ => ht.next he.setVec)

theorem Tame.execVmac {fetch : Fetch} {vd va vb : BitVec 5} {mode : BitVec 3} {func : BitVec 8} (h : Tame false o s) :
    Completes o (execVmac fetch vd va vb mode func s) :=
  .done (h.issue fun _ _ ht he => .ite (fun _ => ht.illegal he) fun _ => .ite (fun _ => ht.next he.setVec) fun _ =>
    .ite (fun _ => ht.next he.setVec) fun _ => .ite (fun _ => ht.accumulate he) fun _ => .ite (fun _ => ht.next he.setVec) fun _ =>
    ht.next he.setAcc)

theorem Tame.execVperm {fetch : Fetch} {vd va vb : BitVec 5} {mode : BitVec 3} {func : BitVec 8} (h : Tame false o s) :
    Completes o (execVperm fetch vd va vb mode func s) :=
  .done (h.issue fun _ _ ht he => .ite (fun _ => ht.illegal he) fun _ => .ite (fun _ => ht.next he.setVec) fun _ =>
    .ite (fun _ => ht.next he.setReg) fun _ => .ite (fun _ => ht.next he.setVec) fun _ => .ite (fun _ => ht.next he.setVec) fun _ =>
    .ite (fun _ => ht.next he.setVec) fun _ => ht.illegal he)

theorem Tame.execVred {fetch : Fetch} {vd : BitVec 5} {va : BitVec 5} {vb : BitVec 5} {mode : BitVec 3} {func : BitVec 8} (h : Tame false o s) :
    Completes o (execVred fetch vd va vb mode func s) := by
  refine .done (h.issue fun _ _ ht he => ?_)
  refine .ite (fun _ => ?_) fun _ => ?_
  · exact ht.illegal he
  · refine .ite (fun _ => ?_) fun _ => ?_
    · exact ht.next he.setReg
    · refine .ite (fun _ => ?_) fun _ => ?_
      · exact ht.next he.setReg
      · exact .ite (fun _ => ht.next he.setReg) fun _ => .ite (fun _ => ht.next he.setReg) fun _ => ht.next he.setReg

theorem Tame.execHoldRelease (h : Tame false o s) : Completes o (execHoldRelease s) := by
  refine .done ?_
  refine .ite (fun _ => ?_) fun _ => ?_
  · exact h
  · refine Tame.safOutputs ?_
    refine Tame.foldl ?_ fun _ _ _ ht => ht.runHeld
    refine Tame.degrade ?_
    exact (((Tame.ite (fun _ => h.drew.upd.count.wr.raise) fun _ => h.drew.upd.count.wr).raise).showFeed).foldl fun _ _ _ ht => .ite (fun _ => ht.tripSet) fun _ => ht

theorem Tame.execUnlock (h : Tame false o s) : Completes o (execUnlock s) := by
  refine .done (h.carrelOnly fun _ ht => ?_)
  split
  · exact ht.count.loose rfl
  · exact (ht.count.loose rfl).loose rfl

theorem Tame.execToken {body signature : List Byte} (h : Tame false o s) : Completes o (execToken body signature s) := by
  refine .done (h.carrelOnly fun t ht => ?_)
  have hun : Tame false o ((t.put MON.UNLOCKED true).put MON.ST_UNLOCKED true) := ht.put.put
  extract_lets rd s1 s2
  have hs2 : Tame false o s2 := hun.wr.wr.raise
  clear_value s2
  split
  · exact ht
  split
  · exact hs2.loose rfl
  · show Tame false o ((t.count MON.UNLOCK_FAIL 1).fault pMON 0)
    exact ht.count.fault

theorem Tame.execLock (h : Tame false o s) : Completes o (execLock s) :=
  .done (h.carrelOnly fun _ ht => ht.relock)

theorem Tame.execUnlockExpiry (h : Tame false o s) : Completes o (execUnlockExpiry s) :=
  .done (h.relock)

theorem Tame.execChallengeExpiry (h : Tame false o s) : Completes o (execChallengeExpiry s) :=
  .done (h.loose rfl)

theorem Tame.execHaltRe {re : Fin 72} (h : Tame false o s) : Completes o (execHaltRe re s) := by
  refine .done (h.carrel fun _ ht => ?_)
  split
  · exact ht.err
  · split
    · exact ht
    · exact (ht.setEngine ht.engine.upd).haltLeaf

theorem Tame.execGoRe {re : Fin 72} (h : Tame false o s) : Completes o (execGoRe re s) := by
  refine .done (h.carrel fun _ ht => ?_)
  split
  · exact ht.err
  · split
    · exact ht.endDebugHalt
    · exact ht.resumeLeaf

theorem Tame.execRegsRe {re : Fin 72} (h : Tame false o s) : Completes o (execRegsRe re s) := by
  refine .done (h.carrel fun _ ht => ?_)
  split
  · exact ht
  · exact ht

theorem Tame.execDresetSubtree {addr : Word} (h : Tame false o s) : Completes o (execDresetSubtree addr s) := by
  refine .done (h.carrel fun _ ht => ?_)
  extract_lets a
  split
  · exact ht
  split
  · exact ht
  split
  · exact ht
  split
  · exact ht
  · exact ht.assertReset

theorem Tame.execDresetSys (h : Tame false o s) : Completes o (execDresetSys s) :=
  .done (h.carrel fun _ ht => ht.pulseReset)

theorem Tame.execRelease (h : Tame false o s) : Completes o (execRelease s) :=
  .done (h.carrel fun _ ht => ht.deassertReset)

/-- A REGISTER write of 1 to 16 values. -/
theorem valuesFit {tag : BitVec 8} {addr : Word} {values : List Word} (hwf : (Instr.registerWriteRequest tag addr values).wf = true) :
    ¬(values.length = 0 || 16 < values.length) := by
  simp only [Instr.wf, Bool.and_eq_true, decide_eq_true_eq] at hwf
  simp only [Bool.or_eq_true, decide_eq_true_eq]
  omega

/-- Every well-formed command completes in a tame change. -/
theorem exec_completes {c : Instr} (hwf : c.wf = true) : Completes s (exec c s) := by
  cases c with
  | registerWrite => exact (Tame.refl s).execRegisterWrite
  | badRegisterAccess path write => exact (Tame.refl s).execBadRegisterAccess (path := path) (write := write)
  | undefinedOffsetAccess => exact (Tame.refl s).execUndefinedOffsetAccess
  | haltWrite => exact (Tame.refl s).execHaltWrite
  | haltTakeEffect => exact (Tame.refl s).execHaltTakeEffect
  | perturbWrite => exact (Tame.refl s).execPerturbWrite
  | commit path => exact (Tame.refl s).execCommit (path := path)
  | commitCheckDone => exact (Tame.refl s).execCommitCheckDone
  | abort path => exact (Tame.refl s).execAbort (path := path)
  | snap path => exact (Tame.refl s).execSnap (path := path)
  | snapshotCapture => exact (Tame.refl s).execSnapshotCapture
  | idleBoundary => exact (Tame.refl s).execIdleBoundary
  | frameBoundaryStrobe => exact (Tame.refl s).execFrameBoundaryStrobe
  | frameSyncInEdge => exact (Tame.refl s).execFrameSyncInEdge
  | syncBusEdge => exact (Tame.refl s).execSyncBusEdge
  | frameTimer => exact (Tame.refl s).execFrameTimer
  | swTrig path => exact (Tame.refl s).execSwTrig (path := path)
  | runWrite => exact (Tame.refl s).execRunWrite
  | syncLostTimeout => exact (Tame.refl s).execSyncLostTimeout
  | fsoPulseEnd => exact (Tame.refl s).execFsoPulseEnd
  | burstCodeDone => exact (Tame.refl s).execBurstCodeDone
  | shotOpen => exact (Tame.refl s).execShotOpen
  | armTokenDecision => exact (Tame.refl s).execArmTokenDecision
  | armPoint => exact (Tame.refl s).execArmPoint
  | windowOpen => exact (Tame.refl s).execWindowOpen
  | windowClose => exact (Tame.refl s).execWindowClose
  | spadAvalanche => exact (Tame.refl s).execSpadAvalanche
  | eventDelivery => exact (Tame.refl s).execEventDelivery
  | hotMaskClear path section_ chan value => exact (Tame.refl s).execHotMaskClear (path := path)
  | vspadLost => exact (Tame.refl s).execVspadLost
  | trackPairDone => exact (Tame.refl s).execTrackPairDone
  | dllLock => exact (Tame.refl s).execDllLock
  | dllUnlock => exact (Tame.refl s).execDllUnlock
  | tapHistCheck => exact (Tame.refl s).execTapHistCheck
  | timEdge => exact (Tame.refl s).execTimEdge
  | timGateClose => exact (Tame.refl s).execTimGateClose
  | timTimeout => exact (Tame.refl s).execTimTimeout
  | emtLoad => exact (Tame.refl s).execEmtLoad
  | lmpLoad => exact (Tame.refl s).execLmpLoad
  | stall => exact (Tame.refl s).execStall
  | bufferReady => exact (Tame.refl s).execBufferReady
  | dispatchHandler => exact (Tame.refl s).execDispatchHandler
  | handlerReturn => exact (Tame.refl s).execHandlerReturn
  | proxDeadline => exact (Tame.refl s).execProxDeadline
  | memoryScrub => exact (Tame.refl s).execMemoryScrub
  | alu => exact (Tame.refl s).execAlu
  | addi => exact (Tame.refl s).execAddi
  | andi => exact (Tame.refl s).execAndi
  | ori => exact (Tame.refl s).execOri
  | xori => exact (Tame.refl s).execXori
  | slti => exact (Tame.refl s).execSlti
  | shi => exact (Tame.refl s).execShi
  | lui => exact (Tame.refl s).execLui
  | lw => exact (Tame.refl s).execLw
  | lh => exact (Tame.refl s).execLh
  | lhu => exact (Tame.refl s).execLhu
  | lb => exact (Tame.refl s).execLb
  | lbu => exact (Tame.refl s).execLbu
  | sw => exact (Tame.refl s).execSw
  | sh => exact (Tame.refl s).execSh
  | sb => exact (Tame.refl s).execSb
  | beq => exact (Tame.refl s).execBeq
  | bne => exact (Tame.refl s).execBne
  | blt => exact (Tame.refl s).execBlt
  | bge => exact (Tame.refl s).execBge
  | bltu => exact (Tame.refl s).execBltu
  | bgeu => exact (Tame.refl s).execBgeu
  | jal => exact (Tame.refl s).execJal
  | jalr => exact (Tame.refl s).execJalr
  | loop => exact (Tame.refl s).execLoop
  | vld => exact (Tame.refl s).execVld
  | vst => exact (Tame.refl s).execVst
  | valu => exact (Tame.refl s).execValu
  | vmac => exact (Tame.refl s).execVmac
  | vperm => exact (Tame.refl s).execVperm
  | vred => exact (Tame.refl s).execVred
  | csrw => exact (Tame.refl s).execCsrw
  | csrr => exact (Tame.refl s).execCsrr
  | sysNop => exact (Tame.refl s).execSysNop
  | emit => exact (Tame.refl s).execEmit
  | prox => exact (Tame.refl s).execProx
  | fence => exact (Tame.refl s).execFence
  | trap => exact (Tame.refl s).execTrap
  | brk => exact (Tame.refl s).execBrk
  | loadAddrWrite path re value => exact (Tame.refl s).execLoadAddrWrite (path := path)
  | loadDataWrite => exact (Tame.refl s).execLoadDataWrite
  | repairReq path value => exact (Tame.refl s).execRepairReq (path := path)
  | updateReq path value => exact (Tame.refl s).execUpdateReq (path := path)
  | unfence path re value => exact (Tame.refl s).execUnfence (path := path)
  | proxWordArrival => exact (Tame.refl s).execProxWordArrival
  | proxCollectionClose => exact (Tame.refl s).execProxCollectionClose
  | proxHoldExpiry => exact (Tame.refl s).execProxHoldExpiry
  | recordEntry => exact (Tame.refl s).execRecordEntry
  | shotMarker => exact (Tame.refl s).execShotMarker
  | markerTimeout => exact (Tame.refl s).execMarkerTimeout
  | blockOutput => exact (Tame.refl s).execBlockOutput
  | ledgerOutput => exact (Tame.refl s).execLedgerOutput
  | blockLockGained => exact (Tame.refl s).execBlockLockGained
  | blockLockLost => exact (Tame.refl s).execBlockLockLost
  | packetReceived => exact (Tame.refl s).execPacketReceived
  | registerReadRequest => exact (Tame.refl s).execRegisterReadRequest
  | registerWriteRequest => exact (Tame.refl s).execRegisterWriteRequest (valuesFit hwf)
  | pairPacketReceived => exact (Tame.refl s).execPairPacketReceived hwf
  | pairTrigger => exact (Tame.refl s).execPairTrigger
  | creditReceived => exact (Tame.refl s).execCreditReceived
  | ackReceived => exact (Tame.refl s).execAckReceived
  | nakReceived => exact (Tame.refl s).execNakReceived
  | ackTimeout => exact (Tame.refl s).execAckTimeout
  | capsReceived => exact (Tame.refl s).execCapsReceived
  | capsSend => exact (Tame.refl s).execCapsSend
  | trainReceived => exact (Tame.refl s).execTrainReceived
  | trainWindowEnd => exact (Tame.refl s).execTrainWindowEnd
  | retrainReq => exact (Tame.refl s).execRetrainReq
  | tsReq => exact (Tame.refl s).execTsReq
  | packetTransmit => exact (Tame.refl s).execPacketTransmit
  | markerSend => exact (Tame.refl s).execMarkerSend
  | eventPacketSend => exact (Tame.refl s).execEventPacketSend
  | safetyPacketSend => exact (Tame.refl s).execSafetyPacketSend
  | pairPacketSend => exact (Tame.refl s).execPairPacketSend
  | pairTsReqSend => exact (Tame.refl s).execPairTsReqSend
  | noPartnerTimeout => exact (Tame.refl s).execNoPartnerTimeout
  | cdrLock => exact (Tame.refl s).execCdrLock
  | cdrLockTimeout => exact (Tame.refl s).execCdrLockTimeout
  | bitslip path ctl value hdrErr => exact (Tame.refl s).execBitslip (path := path)
  | aligned path ctl value => exact (Tame.refl s).execAligned (path := path)
  | retrain path lane value => exact (Tame.refl s).execRetrain (path := path)
  | enable path lane value => exact (Tame.refl s).execEnable (path := path)
  | errLimitWindow => exact (Tame.refl s).execErrLimitWindow
  | laneRetry => exact (Tame.refl s).execLaneRetry
  | mirrorSample => exact (Tame.refl s).execMirrorSample
  | frameStartStrobe => exact (Tame.refl s).execFrameStartStrobe
  | restart => exact (Tame.refl s).execRestart
  | coeffWrite => exact (Tame.refl s).execCoeffWrite
  | mirrorStateUpdate => exact (Tame.refl s).execMirrorStateUpdate
  | heartbeatTimeout => exact (Tame.refl s).execHeartbeatTimeout
  | heaterSample => exact (Tame.refl s).execHeaterSample
  | convmConversion => exact (Tame.refl s).execConvmConversion
  | start => exact (Tame.refl s).execStart
  | stop => exact (Tame.refl s).execStop
  | slotPeriodStart => exact (Tame.refl s).execSlotPeriodStart (by simpa [Instr.wf] using hwf)
  | convhConversion => exact (Tame.refl s).execConvhConversion
  | slotPeriodEnd => exact (Tame.refl s).execSlotPeriodEnd
  | clampConduction => exact (Tame.refl s).execClampConduction
  | openDetect => exact (Tame.refl s).execOpenDetect
  | thmTimerRead => exact (Tame.refl s).execThmTimerRead (by simpa [Instr.wf] using hwf)
  | thmSlotSilent => exact (Tame.refl s).execThmSlotSilent
  | watchRead => exact (Tame.refl s).execWatchRead
  | watchSensorLost => exact (Tame.refl s).execWatchSensorLost
  | timSessionTimeout => exact (Tame.refl s).execTimSessionTimeout
  | strskStart path value => exact (Tame.refl s).execStrskStart (path := path)
  | cvhOffsetRound => exact (Tame.refl s).execCvhOffsetRound
  | calSave => exact (Tame.refl s).execCalSave
  | eyeScan => exact (Tame.refl s).execEyeScan
  | reqOperational => exact (Tame.refl s).execReqOperational
  | operationalEntryComplete => exact (Tame.refl s).execOperationalEntryComplete
  | reqInit => exact (Tame.refl s).execReqInit
  | reqClear => exact (Tame.refl s).execReqClear
  | reqSafeHold => exact (Tame.refl s).execReqSafeHold
  | pairArm => exact (Tame.refl s).execPairArm
  | pairCommission => exact (Tame.refl s).execPairCommission
  | pairArmExpiry => exact (Tame.refl s).execPairArmExpiry
  | autoOperRetry => exact (Tame.refl s).execAutoOperRetry
  | safetyFaultPost => exact (Tame.refl s).execSafetyFaultPost
  | tripsLatchClear => exact (Tame.refl s).execTripsLatchClear
  | inhibitLatchClear => exact (Tame.refl s).execInhibitLatchClear
  | epermChange => exact (Tame.refl s).execEpermChange
  | permitFilterSettled => exact (Tame.refl s).execPermitFilterSettled
  | discrepancyTick => exact (Tame.refl s).execDiscrepancyTick
  | contactorTimeout => exact (Tame.refl s).execContactorTimeout
  | lockstepMismatch => exact (Tame.refl s).execLockstepMismatch
  | oscEdgeLoss => exact (Tame.refl s).execOscEdgeLoss
  | selfTest => exact (Tame.refl s).execSelfTest
  | colophonRecompute => exact (Tame.refl s).execColophonRecompute
  | colophonConfirm => exact (Tame.refl s).execColophonConfirm
  | colophonStored => exact (Tame.refl s).execColophonStored
  | energyBucketAdvance => exact (Tame.refl s).execEnergyBucketAdvance
  | degMaxExpiry => exact (Tame.refl s).execDegMaxExpiry
  | lampTick => exact (Tame.refl s).execLampTick
  | lampSyncEdge => exact (Tame.refl s).execLampSyncEdge
  | lampSyncLost => exact (Tame.refl s).execLampSyncLost
  | railGood => exact (Tame.refl s).execRailGood
  | railLost => exact (Tame.refl s).execRailLost
  | feedPresenceChange => exact (Tame.refl s).execFeedPresenceChange
  | standbyAbsent => exact (Tame.refl s).execStandbyAbsent
  | feedSwitchover => exact (Tame.refl s).execFeedSwitchover
  | holdRelease => exact (Tame.refl s).execHoldRelease
  | feedReturn => exact (Tame.refl s).execFeedReturn
  | domainOn => exact (Tame.refl s).execDomainOn
  | domainOff => exact (Tame.refl s).execDomainOff
  | domainTurn => exact (Tame.refl s).execDomainTurn
  | park => exact (Tame.refl s).execPark
  | wakePin => exact (Tame.refl s).execWakePin
  | wakeTimer => exact (Tame.refl s).execWakeTimer
  | powerOn => exact (Tame.refl s).execPowerOn
  | brownoutSen => exact (Tame.refl s).execBrownoutSen
  | resetPin => exact (Tame.refl s).execResetPin
  | watchdogExpiry => exact (Tame.refl s).execWatchdogExpiry
  | wdogKick => exact (Tame.refl s).execWdogKick
  | swReqGo => exact (Tame.refl s).execSwReqGo
  | holdSlotWrite => exact (Tame.refl s).execHoldSlotWrite
  | hostLockup => exact (Tame.refl s).execHostLockup
  | resetTakeEffect => exact (Tame.refl s).execResetTakeEffect
  | episodeEnd => exact (Tame.refl s).execEpisodeEnd
  | sentinelRelease => exact (Tame.refl s).execSentinelRelease
  | unitRelease => exact (Tame.refl s).execUnitRelease
  | clkTmo => exact (Tame.refl s).execClkTmo
  | refTimeout => exact (Tame.refl s).execRefTimeout
  | refCheckWindow => exact (Tame.refl s).execRefCheckWindow
  | clockCheckWindow => exact (Tame.refl s).execClockCheckWindow
  | clockEdgeTimeout => exact (Tame.refl s).execClockEdgeTimeout
  | pllLock => exact (Tame.refl s).execPllLock
  | pllUnlock => exact (Tame.refl s).execPllUnlock
  | bootSequence => exact (Tame.refl s).execBootSequence
  | verify => exact (Tame.refl s).execVerify
  | attest => exact (Tame.refl s).execAttest
  | cert => exact (Tame.refl s).execCert
  | enroll => exact (Tame.refl s).execEnroll
  | revoke => exact (Tame.refl s).execRevoke
  | confirm => exact (Tame.refl s).execConfirm
  | secCommandDone => exact (Tame.refl s).execSecCommandDone
  | wgo => exact (Tame.refl s).execWgo
  | mramWriteDone => exact (Tame.refl s).execMramWriteDone
  | lifeRecordWrite => exact (Tame.refl s).execLifeRecordWrite
  | recovGo => exact (Tame.refl s).execRecovGo
  | spiRead => exact (Tame.refl s).execSpiRead
  | spiWrite => exact (Tame.refl s).execSpiWrite
  | spiFrameAbandon => exact (Tame.refl s).execSpiFrameAbandon
  | i2cStretchTimeout => exact (Tame.refl s).execI2cStretchTimeout
  | monCharacter => exact (Tame.refl s).execMonCharacter
  | lineTimeout => exact (Tame.refl s).execLineTimeout
  | carrelVer => exact (Tame.refl s).execCarrelVer
  | carrelPeek => exact (Tame.refl s).execCarrelPeek
  | carrelPoke => exact (Tame.refl s).execCarrelPoke
  | carrelFolio => exact (Tame.refl s).execCarrelFolio
  | carrelTree => exact (Tame.refl s).execCarrelTree
  | carrelSnap => exact (Tame.refl s).execCarrelSnap
  | carrelTrace => exact (Tame.refl s).execCarrelTrace
  | carrelTraceOff => exact (Tame.refl s).execCarrelTraceOff
  | tracePoll => exact (Tame.refl s).execTracePoll
  | volLoad => exact (Tame.refl s).execVolLoad
  | volLoadTimeout => exact (Tame.refl s).execVolLoadTimeout
  | volWrite => exact (Tame.refl s).execVolWrite
  | volVerify => exact (Tame.refl s).execVolVerify
  | carrelBoot => exact (Tame.refl s).execCarrelBoot
  | baud => exact (Tame.refl s).execBaud
  | unlock => exact (Tame.refl s).execUnlock
  | token => exact (Tame.refl s).execToken
  | lock => exact (Tame.refl s).execLock
  | unlockExpiry => exact (Tame.refl s).execUnlockExpiry
  | challengeExpiry => exact (Tame.refl s).execChallengeExpiry
  | haltRe => exact (Tame.refl s).execHaltRe
  | goRe => exact (Tame.refl s).execGoRe
  | regsRe => exact (Tame.refl s).execRegsRe
  | dresetSubtree addr => exact (Tame.refl s).execDresetSubtree (addr := addr)
  | dresetSys => exact (Tame.refl s).execDresetSys
  | release => exact (Tame.refl s).execRelease
  | extest => exact (Tame.refl s).execExtest
  | samplePreload => exact (Tame.refl s).execSamplePreload
  | bypass => exact (Tame.refl s).execBypass
  | pendingTriggerAccept => exact (Tame.refl s).execPendingTriggerAccept
  | brownoutSenDeassert => exact (Tame.refl s).execBrownoutSenDeassert
  | spiMalformedFrame => exact (Tame.refl s).execSpiMalformedFrame
  | spiCsNEarlyRise => exact (Tame.refl s).execSpiCsNEarlyRise
  | registerMalformedRequest => exact (Tame.refl s).execRegisterMalformedRequest
  | carrelUnknownCommand => exact (Tame.refl s).execCarrelUnknownCommand
  | illegalOpcode => exact (Tame.refl s).execIllegalOpcode
  | htrPwmPeriodStart => exact (Tame.refl s).execHtrPwmPeriodStart
  | safetyRecordLoad => exact (Tame.refl s).execSafetyRecordLoad

/-- A command whose operand lists have other lengths stops. -/
theorem exec_illFormed {c : Instr} (hwf : c.wf = false) : exec c s = .fault .illFormed := by
  unfold Instr.wf at hwf
  split at hwf
  case h_1 sensors =>
    exact if_pos (by simpa using hwf)
  case h_2 sensors =>
    exact if_pos (by simpa using hwf)
  case h_3 tag addr values =>
    refine if_pos ?_
    simp only [Bool.and_eq_false_iff, decide_eq_false_iff_not] at hwf
    simp only [Bool.or_eq_true, decide_eq_true_eq]
    omega
  case h_4 accession stamp depart arrival code =>
    exact if_pos (by simpa [Instr.wf] using hwf)
  case h_5 => cases hwf

end

/-- Settles O57: every command's lemma, and the four commands that have operand lists. -/
theorem everyCommandCompletes : Obligations.EveryCommandCompletes := by
  intro c s
  refine ⟨fun hwf => ?_, exec_illFormed⟩
  obtain ⟨t, ht, htame⟩ := exec_completes (s := s) hwf
  exact ⟨t, ht, htame.pending⟩

/-- A step that completes keeps the invariant. -/
theorem step_inv {s t : State} (hs : s.Inv) (h : step s = .next t) : t.Inv := by
  obtain ⟨hrun, hidle⟩ := stepRunsTheFront
  cases hpending : s.pending with
  | nil =>
    have hnext : Host.Outcome.next (idleTick s) = .next t := (hidle s hpending).symm.trans h
    cases hnext
    exact (Tame.refl (port := false) s).idleTick.inv hs
  | cons c rest =>
    have hstep : step s = exec c { s with pending := rest } := by rw [← hrun c rest, ← hpending]
    rw [hstep] at h
    cases hwf : c.wf with
    | false =>
      rw [exec_illFormed hwf] at h
      cases h
    | true =>
      obtain ⟨u, hu, htame⟩ := exec_completes (s := { s with pending := rest }) hwf
      rw [hu] at h
      cases h
      exact htame.inv hs

/-- Settles O58: each command is a tame change, and so is the idle step. -/
theorem stepKeepsTheInvariant : Obligations.StepKeepsTheInvariant := fun _ _ hs h => step_inv hs h

end Sys2Proof.Machine
end

section
/-! PROOFS. The dispatchers of the return engines: markers in the shelf queues, the buffer-ready toggle, and the entry of handlers
(R177, R178, R195, R196). -/
namespace Sys2Proof.Machine
open Sys2Proof

/-! ### Tables -/

section
variable {α : Type}

theorem Tab.drop_ins (k : Nat) (v : α) (t : Tab α) (h : ∀ e ∈ t, e.1 ≠ k) : Tab.drop (Tab.ins k v t) k = t := by
  induction t with
  | nil => simp [Tab.ins, Tab.drop]
  | cons x t ih =>
    have hx : x.1 ≠ k := h x List.mem_cons_self
    have ht : ∀ e ∈ t, e.1 ≠ k := fun e he => h e (List.mem_cons_of_mem _ he)
    have hkeep : Tab.drop t k = t := List.filter_eq_self.mpr fun e he => by simpa using ht e he
    obtain ⟨k', v'⟩ := x
    unfold Tab.ins
    split
    · simp only [Tab.drop, List.filter_cons, bne_self_eq_false, Bool.false_eq_true, if_false]
      rw [if_pos (by simpa using hx)]
      exact congrArg _ hkeep
    · have := ih ht
      simp only [Tab.drop, List.filter_cons] at this ⊢
      rw [if_pos (by simpa using hx), this]

/-- A second value at the same place takes the first one's. -/
theorem Tab.set_set [DecidableEq α] (d : α) (t : Tab α) (k : Nat) (v w : α) : Tab.set d (Tab.set d t k v) k w = Tab.set d t k w := by
  have hdrop : Tab.drop (Tab.set d t k v) k = Tab.drop t k := by
    unfold Tab.set
    split
    · exact List.filter_eq_self.mpr fun e he => by simpa using Tab.drop_ne t k e he
    · exact Tab.drop_ins k v _ (Tab.drop_ne t k)
  unfold Tab.set at hdrop ⊢
  rw [hdrop]

end

theorem setEngine_setEngine (s : State) (k : Nat) (e f : Engine) : (s.setEngine k e).setEngine k f = s.setEngine k f := by
  unfold State.setEngine
  rw [Tab.set_set]

/-! ### Markers in the shelf queues -/

theorem toNat_append_add {v w : Nat} (x : BitVec v) (y : BitVec w) : (x ++ y).toNat = x.toNat * 2 ^ w + y.toNat := by
  rw [BitVec.toNat_append, ← Nat.shiftLeft_add_eq_or_of_lt y.isLt, Nat.shiftLeft_eq]

/-- The marker word of R178. -/
theorem markerWord_eq (x : ShotRef) (o : BitVec 3) (n : Nat) : markerWord x o.toNat n = shotMarkerWord x o n := by
  apply BitVec.eq_of_toNat_eq
  have ho := o.isLt
  have ha := x.accession.isLt
  simp only [markerWord, shotMarkerWord, BitVec.toNat_ofNat, toNat_append_add]
  omega

theorem pushEntry_pca_congr {s t : State} (h : s.pca = t.pca) (i : Nat) (e : Entry) : (s.pushEntry i e).pca = (t.pushEntry i e).pca := by
  unfold State.pushEntry State.queueFree State.queue State.waitingAt State.setQueue State.setWaiting
  rw [h]
  split <;> rfl

theorem Enqueues.congr {i : Nat} {e : Entry} {s t s' t' : State} (h : Enqueues i e s t) (hs : s'.pca = s.pca) (ht : t'.pca = t.pca) :
    Enqueues i e s' t' := by
  unfold Enqueues State.queue State.waitingAt at *
  rwa [hs, ht]

theorem closeReFrame_pca (s : State) (k : Nat) : (s.closeReFrame k).pca = s.pca := rfl

theorem callFrameEnd_pca (s : State) (k : Nat) (x : ShotRef) : (s.callFrameEnd k x).pca = s.pca := by
  unfold State.callFrameEnd
  split <;> rfl

theorem writeMarker_enqueues (s : State) (k : Nat) (x : ShotRef) (o : BitVec 3) (n : Nat) :
    Enqueues (k / 8) ⟨true, shotMarkerWord x o n, k⟩ s (s.writeMarker k x o.toNat n) := by
  refine (State.pushEntry_enqueues s (k / 8) ⟨true, shotMarkerWord x o n, k⟩).congr rfl ?_
  rw [← markerWord_eq]
  unfold State.writeMarker
  rw [callFrameEnd_pca]
  split <;> rfl

@[simp] theorem fault_pca (s : State) (p b : Nat) : (s.fault p b).pca = s.pca := by
  obtain ⟨r, q, h⟩ := State.fault_state s p b
  rw [h]

theorem giveUpWith_enqueues (s : State) (k : Nat) (x : ShotRef) (n : Nat) :
    Enqueues (k / 8) ⟨true, shotMarkerWord x 2 n, k⟩ s (s.giveUpWith k x n) := by
  refine (writeMarker_enqueues _ k x 2 n).congr ?_ rfl
  split
  · rw [fault_pca]
    rfl
  · rfl

/-- A shot that is given up raises SKIPPED. -/
theorem giveUpWith_skipped (s : State) (k : Nat) (x : ShotRef) (n : Nat) : (s.giveUpWith k x n).on (RE.INT_SKIPPED k) = true := by
  unfold State.giveUpWith
  refine (Marks.writeMarker k _ x ocSkipped n).skipped ?_
  split
  · exact (Marks.fault k 0 _).skipped (State.on_put_self _ _ _ Nat.one_pos)
  · exact State.on_put_self _ _ _ Nat.one_pos

theorem lasting_skipped (k : Nat) : (RE.INT_SKIPPED k).lasting := lasting_engine (by decide) (by decide)

/-! ### What an engine that markers leave still serves -/

theorem Marks.lastSeq {k : Nat} {s t : State} (h : Marks k s t) : (t.engine k).lastSeq = (s.engine k).lastSeq :=
  congrArg Engine.lastSeq (a₁ := (t.engine k).duty) (a₂ := (s.engine k).duty) h.duty

theorem Marks.pending {k : Nat} {s t : State} (h : Marks k s t) : (t.engine k).pending = (s.engine k).pending :=
  congrArg Engine.pending (a₁ := (t.engine k).duty) (a₂ := (s.engine k).duty) h.duty

theorem Marks.running {k : Nat} {s t : State} (h : Marks k s t) : (t.engine k).running = (s.engine k).running :=
  congrArg Engine.running (a₁ := (t.engine k).duty) (a₂ := (s.engine k).duty) h.duty

theorem Marks.current {k : Nat} {s t : State} (h : Marks k s t) : (t.engine k).current = (s.engine k).current :=
  congrArg Engine.current (a₁ := (t.engine k).duty) (a₂ := (s.engine k).duty) h.duty

/-- Fields of an engine's folio below its counts keep what they hold. -/
theorem runs_of_regs {s t : State} {p : Nat} (hheld : t.rst.held = s.rst.held) (hon : t.rd (PWR.DOM_ON (domainOf p)) = s.rd (PWR.DOM_ON (domainOf p))) :
    t.runs p = s.runs p := by
  simp only [State.runs, State.isOff, State.domOn, State.inReset, State.on, hheld, hon]

theorem domainOf_pRe (k : Nat) : domainOf (pRe k) = k := by
  unfold domainOf pRe
  rw [if_pos (by omega)]
  omega

theorem Marks.canServe {k : Fin 72} {s t : State} (h : Marks k s t) : t.canServe k = s.canServe k := by
  have hk := k.isLt
  have hheld : t.rst.held = s.rst.held := congrArg (·.rst.held) h.frame
  have hon : t.rd (PWR.DOM_ON k) = s.rd (PWR.DOM_ON k) := by
    refine h.keeps _ fun hm => ?_
    rcases List.mem_append.mp hm with hm | hm
    · simp only [markerKeys, List.mem_cons, List.not_mem_nil, or_false, RE.INT_SKIPPED, RE.SHOTS_LAST, RE.SKIPPED_LAST, RE.SLOTS_MAX_LAST,
        RE.ERRORS_LAST, PWR.DOM_ON, fld_key, pageBits] at hm
      omega
    · obtain ⟨i, hi, hkey⟩ := List.mem_map.mp hm
      simp only [C.FAULT, PWR.DOM_ON, fld_key, pageBits, pRe] at hkey
      omega
  have hruns : t.runs (pRe k) = s.runs (pRe k) := runs_of_regs hheld (by rwa [domainOf_pRe])
  have hstate : t.rd (RE.STATE k) = s.rd (RE.STATE k) := h.rd (by decide) (by decide) (by
    simp [RE.SHOTS_LAST, RE.SKIPPED_LAST, RE.SLOTS_MAX_LAST, RE.ERRORS_LAST, fld_key, pRe])
  have hhalted : t.rd (C.HALTED (pRe k)) = s.rd (C.HALTED (pRe k)) := h.rd (by decide) (by decide) (by
    simp [RE.SHOTS_LAST, RE.SKIPPED_LAST, RE.SLOTS_MAX_LAST, RE.ERRORS_LAST, fld_key, pRe])
  unfold State.canServe State.reState State.on
  rw [hruns, hstate, hhalted]

/-! ### The buffer-ready toggle (R177, R196) -/

/-- The toggle noted, with no shot pending. -/
def State.noteToggle (s : State) (k : Nat) (x : ShotRef) : State :=
  s.setEngine k { s.engine k with lastSeq := some x.seq, pending := none }

/-- A shot becomes pending. -/
def State.setPending (s : State) (k : Nat) (x : ShotRef) : State := s.setEngine k { s.engine k with pending := some x }

theorem shotReady_eq (s : State) (k : Nat) (x : ShotRef) (s2 : State) (h : (s.noteToggle k x).giveUpOpt k (s.engine k).pending = s2) :
    s.shotReady k x = (if s2.canServe k then s2.setPending k x else s2.giveUp k x).retireOld := by
  subst h
  rfl

theorem noteToggle_canServe (s : State) (k : Nat) (x : ShotRef) : (s.noteToggle k x).canServe k = s.canServe k := rfl

theorem noteToggle_engine (s : State) (k : Nat) (x : ShotRef) :
    (s.noteToggle k x).engine k = { s.engine k with lastSeq := some x.seq, pending := none } := State.engine_set _ _ _

theorem setPending_engine (s : State) (k : Nat) (x : ShotRef) : (s.setPending k x).engine k = { s.engine k with pending := some x } :=
  State.engine_set _ _ _

/-- The toggle of a shot is noted, whatever becomes of it. -/
theorem shotReady_lastSeq (s : State) (k : Fin 72) (x : ShotRef) : ((s.shotReady k x).engine k).lastSeq = some x.seq := by
  have hseq := (Marks.giveUpOpt k (s.noteToggle k x) (s.engine k).pending).lastSeq
  rw [noteToggle_engine] at hseq
  rw [shotReady_eq s k x _ rfl]
  generalize State.giveUpOpt _ _ _ = s2 at *
  rw [retireOld_engine]
  split
  · rw [setPending_engine]
    exact hseq
  · exact (Marks.giveUpWith k s2 x 0).lastSeq.trans hseq

/-- An engine that serves takes the shot; with no shot pending before, nothing else changes. -/
theorem shotReady_takes {s : State} {k : Fin 72} (x : ShotRef) (h : s.canServe k = true) (hp : (s.engine k).pending = none) :
    s.shotReady k x = (((s.noteToggle k x).setPending k x).retireOld) := by
  have hgive : (s.noteToggle k x).giveUpOpt k (s.engine k).pending = s.noteToggle k x := by
    rw [hp]
    rfl
  rw [shotReady_eq s k x _ hgive, noteToggle_canServe, if_pos h]

theorem noteToggle_setPending_only (s : State) (k : Nat) (x : ShotRef) : OnlyEngine k s ((s.noteToggle k x).setPending k x) := by
  unfold OnlyEngine
  rw [setPending_engine]
  unfold State.setPending State.noteToggle
  rw [setEngine_setEngine]

theorem shotReady_pending {s : State} {k : Fin 72} (x : ShotRef) (h : s.canServe k = true) :
    ((s.shotReady k x).engine k).pending = some x := by
  have hmarks := Marks.giveUpOpt k (s.noteToggle k x) (s.engine k).pending
  rw [shotReady_eq s k x _ rfl, if_pos (hmarks.canServe.trans h), retireOld_engine, setPending_engine]

/-- The shot that was pending before is given up. -/
theorem shotReady_replaces {s : State} {k : Fin 72} {y : ShotRef} (x : ShotRef) (h : s.canServe k = true) (hp : (s.engine k).pending = some y) :
    Enqueues (k / 8) ⟨true, shotMarkerWord y 2 0, k⟩ s (s.shotReady k x) ∧ (s.shotReady k x).on (RE.INT_SKIPPED k) = true := by
  have hgive : (s.noteToggle k x).giveUpOpt k (s.engine k).pending = (s.noteToggle k x).giveUpWith k y 0 := by
    rw [hp]
    rfl
  have hserves := (Marks.giveUpWith k (s.noteToggle k x) y 0).canServe.trans h
  have hqueue := giveUpWith_enqueues (s.noteToggle k x) k y 0
  have hint := giveUpWith_skipped (s.noteToggle k x) k y 0
  rw [shotReady_eq s k x _ hgive, if_pos hserves]
  generalize State.giveUpWith _ _ _ _ = s2 at *
  refine ⟨hqueue.congr rfl ?_, ?_⟩
  · rw [retireOld_pca]
    rfl
  · rw [retireOld_on (lasting_skipped k)]
    exact hint

/-- An engine that does not serve gives up the shot itself. -/
theorem shotReady_gives_up {s : State} {k : Fin 72} (x : ShotRef) (h : s.canServe k = false) (hp : (s.engine k).pending = none) :
    ((s.shotReady k x).engine k).pending = none ∧ Enqueues (k / 8) ⟨true, shotMarkerWord x 2 0, k⟩ s (s.shotReady k x)
      ∧ (s.shotReady k x).on (RE.INT_SKIPPED k) = true := by
  have hgive : (s.noteToggle k x).giveUpOpt k (s.engine k).pending = s.noteToggle k x := by
    rw [hp]
    rfl
  have hserves : ¬(s.noteToggle k x).canServe k = true := by simp [noteToggle_canServe, h]
  rw [shotReady_eq s k x _ hgive, if_neg hserves]
  refine ⟨?_, (giveUpWith_enqueues (s.noteToggle k x) k x 0).congr rfl ?_, ?_⟩
  · rw [retireOld_engine]
    exact (Marks.giveUpWith k (s.noteToggle k x) x 0).pending.trans (by rw [noteToggle_engine])
  · exact retireOld_pca _
  · rw [retireOld_on (lasting_skipped k)]
    exact giveUpWith_skipped _ _ x 0

/-! ### The entry of handlers (R195) -/

/-- The registers that every handler finds. -/
theorem enterHandler_regs (e : Engine) (n : Nat) (h : Handler) (a b c d : Word) :
    (e.enterHandler n h a b c d).reg 1 = a ∧ (e.enterHandler n h a b c d).reg 2 = b ∧ (e.enterHandler n h a b c d).reg 3 = c
      ∧ (e.enterHandler n h a b c d).reg 4 = d ∧ (e.enterHandler n h a b c d).reg 30 = e.stackTop
      ∧ (e.enterHandler n h a b c d).reg 31 = retAddr := by
  have hreg (r : BitVec 5) : (e.enterHandler n h a b c d).reg r
      = (((((((e.setReg 1 a).setReg 2 b).setReg 3 c).setReg 4 d).setReg 30 e.stackTop)).setReg 31 retAddr).reg r := rfl
  simp only [hreg, reg_setReg]
  simp

@[simp] theorem setReg_calls (e : Engine) (r : BitVec 5) (v : Word) : (e.setReg r v).calls = e.calls := by
  unfold Engine.setReg
  split <;> rfl

@[simp] theorem setReg_pending (e : Engine) (r : BitVec 5) (v : Word) : (e.setReg r v).pending = e.pending := by
  unfold Engine.setReg
  split <;> rfl

theorem enterHandler_calls (e : Engine) (n : Nat) (h : Handler) (a b c d : Word) : (e.enterHandler n h a b c d).calls = e.calls := by
  show (((((((e.setReg 1 a).setReg 2 b).setReg 3 c).setReg 4 d).setReg 30 e.stackTop)).setReg 31 retAddr).calls = e.calls
  simp only [setReg_calls]

theorem enterHandler_running (e : Engine) (n : Nat) (h : Handler) (a b c d : Word) :
    (e.enterHandler n h a b c d).running = some h := rfl

theorem enterHandler_pending (e : Engine) (n : Nat) (h : Handler) (a b c d : Word) : (e.enterHandler n h a b c d).pending = e.pending := by
  show (((((((e.setReg 1 a).setReg 2 b).setReg 3 c).setReg 4 d).setReg 30 e.stackTop)).setReg 31 retAddr).pending = e.pending
  simp only [setReg_pending]

/-- What a handler in hand is, and the shots that its engine holds. -/
def Engine.task (e : Engine) : Option Handler × Option ShotRef × Option ShotRef × List Call := (e.running, e.current, e.pending, e.calls)

theorem setEngine_task {s : State} {k : Nat} {e : Engine} {x} (h : e.task = x) : ((s.setEngine k e).engine k).task = x := by
  rw [State.engine_set]
  exact h

/-! ### The standard firmware keeps its engine's task -/

@[simp] theorem stackErrors_engine (s : State) (l : List StackError) (k : Nat) : (s.stackErrors l).engine k = s.engine k := by
  unfold State.stackErrors
  refine List.foldlRecOn (motive := fun t : State => t.engine k = s.engine k) _ _ rfl fun t ht e _ => ?_
  rw [← ht]
  unfold State.stackEcc
  split
  · rfl
  · rfl
  · exact State.fault_engine _ _ _ _

theorem fwErrors_task (s : State) (k : Nat) (l : List StackError) : ((s.fwErrors k l).engine k).task = (s.engine k).task := by
  unfold State.fwErrors
  extract_lets n s1
  have hs1 : s1.engine k = s.engine k := stackErrors_engine s l k
  split
  · rw [hs1]
  · exact setEngine_task (congrArg (a₁ := s1.engine k) Engine.task hs1)

theorem setReg_task (e : Engine) (r : BitVec 5) (v : Word) : (e.setReg r v).task = e.task := by
  unfold Engine.setReg
  split <;> rfl

@[simp] theorem sendProx_engine (s : State) (re : Nat) (late : Bool) (w : Word) (k : Nat) : (s.sendProx re late w).engine k = s.engine k := by
  unfold State.sendProx
  split
  · show ((s.count (RE.PROX_LATE re) 1).fault (pRe re) 2).engine k = _
    rw [State.fault_engine]
    rfl
  · rfl

@[simp] theorem pushEntry_engine (s : State) (h : Nat) (e : Entry) (k : Nat) : (s.pushEntry h e).engine k = s.engine k := by
  rw [pushEntry_pca]
  rfl

@[simp] theorem emitAll_engine (s : State) (re : Nat) (ws : List DWord) (k : Nat) : (s.emitAll re ws).engine k = s.engine k := by
  unfold State.emitAll
  refine List.foldlRecOn (motive := fun t : State => t.engine k = s.engine k) _ _ rfl fun t ht e _ => ?_
  rw [pushEntry_engine, ht]

theorem fwShotRun_task (s : State) (k : Nat) (x : ShotRef) (found : List StackError) :
    ((s.fwShotRun k x found).engine k).task = (s.engine k).task := by
  unfold State.fwShotRun
  extract_lets _ errors early _ near rest far t e late _ _ s1 sh res processed fw _ s1'
  have hnear : (near.engine k).task = (s.engine k).task := fwErrors_task _ k early
  clear_value near
  have hfar : (far.engine k).task = (s.engine k).task := (fwErrors_task _ k rest).trans hnear
  clear_value far
  have he : e.task = (s.engine k).task := hfar
  clear_value e t
  have hs1 : (s1.engine k).task = (s.engine k).task :=
    setEngine_task ((setReg_task e 1 1).trans he)
  clear_value s1
  have hs1' : (s1'.engine k).task = (s.engine k).task :=
    setEngine_task ((setReg_task e 1 0).trans he)
  clear_value s1'
  split
  · rw [sendProx_engine]
    exact hs1
  · rw [emitAll_engine, sendProx_engine]
    exact hs1'

theorem fwHandler_task (s : State) (k : Nat) (h : Handler) (a : Word) : ((s.fwHandler k h a).engine k).task = (s.engine k).task :=
  setEngine_task rfl

theorem contextPage_eq (a : Word) : contextPage a = 0x120000 + 0x1000 * (a &&& 1) := by
  apply BitVec.eq_of_toNat_eq
  simp [contextPage, Nat.and_one_is_mod]

/-- The engine with SHOT's arguments (R195). -/
def State.shotArgs (s : State) (k : Nat) (x : ShotRef) : Engine :=
  (s.engine k).enterHandler 2 .shot (BitVec.ofNat 32 (0x100000 + 0x8000 * (x.seq.toNat % 2)))
    (BitVec.ofNat 32 (0x110000 + 0x80 * (x.seq.toNat % 2))) (contextPage x.accession)
    (BitVec.ofNat 32 (x.column % 4096 * 2 ^ 20 + x.seq.toNat % 65536))

/-- SHOT as it is entered. -/
def State.shotEntered (s : State) (k : Nat) (x : ShotRef) : Engine :=
  { s.shotArgs k x with current := some x, pending := none, emitted := 0, frameGen := x.gen }

theorem reg_inShot (e : Engine) (x : ShotRef) (r : BitVec 5) :
    ({ e with current := some x, pending := none, emitted := 0, frameGen := x.gen } : Engine).reg r = e.reg r := rfl

theorem shotEntered_reg (s : State) (k : Nat) (x : ShotRef) (r : BitVec 5) : (s.shotEntered k x).reg r = (s.shotArgs k x).reg r := by
  unfold State.shotEntered
  exact reg_inShot _ x r

theorem enterShot_eq (s : State) (k : Nat) (x : ShotRef) (l : List StackError) :
    s.enterShot k x l = if (s.setEngine k (s.shotEntered k x)).standard k then (s.setEngine k (s.shotEntered k x)).fwShotRun k x l
      else s.setEngine k (s.shotEntered k x) := rfl

theorem task_inShot (e : Engine) (x : ShotRef) (h : e.running = some .shot) :
    ({ e with current := some x, pending := none, emitted := 0, frameGen := x.gen } : Engine).task
      = (some .shot, some x, none, e.calls) := by
  unfold Engine.task
  rw [h]

theorem shotEntered_task (s : State) (k : Nat) (x : ShotRef) :
    (s.shotEntered k x).task = (some .shot, some x, none, (s.engine k).calls) := by
  unfold State.shotEntered
  rw [task_inShot _ _ (by unfold State.shotArgs; exact enterHandler_running ..)]
  unfold State.shotArgs
  rw [enterHandler_calls]

/-- The engine in SHOT, in the standard firmware's SHOT too. -/
theorem enterShot_task (s : State) (k : Nat) (x : ShotRef) (l : List StackError) :
    ((s.enterShot k x l).engine k).task = (some .shot, some x, none, (s.engine k).calls) := by
  rw [enterShot_eq]
  split
  · rw [fwShotRun_task, State.engine_set, shotEntered_task]
  · rw [State.engine_set, shotEntered_task]

theorem enterShot_engine {s : State} {k : Nat} (x : ShotRef) (l : List StackError) (h : s.standard k = false) :
    (s.enterShot k x l).engine k = s.shotEntered k x := by
  rw [enterShot_eq, if_neg, State.engine_set]
  have : (s.setEngine k (s.shotEntered k x)).standard k = s.standard k := rfl
  simp [this, h]

/-- The address of a buffer of two, by the low bit of the number that the model halves. -/
theorem buffer_addr (p q v : Word) (n m : Nat) (hp : p = BitVec.ofNat 32 n) (hq : q = BitVec.ofNat 32 m) :
    BitVec.ofNat 32 (n + m * (v.toNat % 2)) = p + q * (v &&& 1) := by
  subst hp hq
  apply BitVec.eq_of_toNat_eq
  simp [Nat.and_one_is_mod]

theorem shot_argument (column : Nat) (seq : Word) :
    BitVec.ofNat 32 (column % 4096 * 2 ^ 20 + seq.toNat % 65536)
      = BitVec.ofNat 12 column ++ (0 : BitVec 4) ++ seq.extractLsb' 0 16 := by
  apply BitVec.eq_of_toNat_eq
  simp only [BitVec.toNat_ofNat, toNat_append_add, BitVec.extractLsb'_toNat]
  simp
  omega

/-- The arguments of SHOT (R195). -/
theorem shotEntered_regs (s : State) (k : Nat) (x : ShotRef) :
    (s.shotEntered k x).reg 1 = 0x100000 + 0x8000 * (x.seq &&& 1) ∧ (s.shotEntered k x).reg 2 = 0x110000 + 0x80 * (x.seq &&& 1)
      ∧ (s.shotEntered k x).reg 3 = 0x120000 + 0x1000 * (x.accession &&& 1)
      ∧ (s.shotEntered k x).reg 4 = BitVec.ofNat 12 x.column ++ (0 : BitVec 4) ++ x.seq.extractLsb' 0 16
      ∧ (s.shotEntered k x).reg 30 = (s.engine k).stackTop ∧ (s.shotEntered k x).reg 31 = 0xFFFFFFF0 := by
  simp only [shotEntered_reg]
  unfold State.shotArgs
  rw [buffer_addr 0x100000 0x8000 x.seq _ _ rfl rfl, buffer_addr 0x110000 0x80 x.seq _ _ rfl rfl, contextPage_eq, shot_argument]
  exact enterHandler_regs ..

end Sys2Proof.Machine
end

section
/-! PROOFS. The dispatchers of the return engines, continued: calls, and the whole of the rule (R177, R195 to R197, R208). -/
namespace Sys2Proof.Machine
open Sys2Proof

/-! ### The entry of calls (R195) -/

/-- The number of a handler's vector. -/
def Handler.vector : Handler → Nat
  | .init => 0
  | .frameBegin => 1
  | .shot => 2
  | .frameEnd => 3
  | .error => 4
  | .config => 5

/-- The context page that a call's handler finds in s3. -/
def Call.page (c : Call) : Word := if c.handler = .init then 0 else contextPage c.accession

theorem Call.page_eq {c : Call} (h : c.handler ≠ .init) : c.page = 0x120000 + 0x1000 * (c.accession &&& 1) := by
  rw [Call.page, if_neg h, contextPage_eq]

/-- The engine as a call's handler finds it. -/
def State.callEntered (s : State) (k : Nat) (c : Call) : Engine :=
  { (s.engine k).enterHandler c.handler.vector c.handler c.arg1 c.arg2 c.page 0 with frameGen := c.gen }

theorem enterCall_eq (s : State) (k : Nat) (c : Call) :
    s.enterCall k c = if s.standard k then (s.setEngine k (s.callEntered k c)).fwHandler k c.handler c.accession
      else s.setEngine k (s.callEntered k c) := by
  obtain ⟨h, _, _, _, _⟩ := c
  cases h <;> rfl

theorem callEntered_task (s : State) (k : Nat) (c : Call) :
    (s.callEntered k c).task = (some c.handler, (s.engine k).current, (s.engine k).pending, (s.engine k).calls) := by
  have hcurrent (e : Engine) (r : BitVec 5) (v : Word) : (e.setReg r v).current = e.current := by
    unfold Engine.setReg
    split <;> rfl
  have h : (s.callEntered k c).task = ((s.engine k).enterHandler c.handler.vector c.handler c.arg1 c.arg2 c.page 0).task := rfl
  rw [h]
  unfold Engine.task
  rw [enterHandler_running, enterHandler_pending, enterHandler_calls]
  unfold Engine.enterHandler
  simp only [hcurrent]

/-- The engine in a call's handler, in the standard firmware's handlers too. -/
theorem enterCall_task (s : State) (k : Nat) (c : Call) :
    ((s.enterCall k c).engine k).task = (some c.handler, (s.engine k).current, (s.engine k).pending, (s.engine k).calls) := by
  rw [enterCall_eq]
  split
  · rw [fwHandler_task, State.engine_set, callEntered_task]
  · rw [State.engine_set, callEntered_task]

theorem enterCall_engine {s : State} {k : Nat} (c : Call) (h : s.standard k = false) : (s.enterCall k c).engine k = s.callEntered k c := by
  rw [enterCall_eq, if_neg (by simp [h]), State.engine_set]

theorem callEntered_regs (s : State) (k : Nat) (c : Call) :
    (s.callEntered k c).reg 1 = c.arg1 ∧ (s.callEntered k c).reg 2 = c.arg2 ∧ (s.callEntered k c).reg 3 = c.page
      ∧ (s.callEntered k c).reg 4 = 0 := by
  obtain ⟨h1, h2, h3, h4, -, -⟩ := enterHandler_regs (s.engine k) c.handler.vector c.handler c.arg1 c.arg2 c.page 0
  exact ⟨h1, h2, h3, h4⟩

/-! ### The dispatcher's choice -/

@[simp] theorem takeStep_engine (s : State) (k j : Nat) : (s.takeStep k).engine j = s.engine j := rfl

@[simp] theorem takeStep_standard (s : State) (k j : Nat) : (s.takeStep k).standard j = s.standard j := rfl

/-- A pending shot without a call before it. -/
theorem dispatch_shot {re : Fin 72} (errors : List StackError) {s : State} {x : ShotRef} (hd : s.dispatchable re = true)
    (hc : (s.engine re).calls = []) (hp : (s.engine re).pending = some x) :
    exec (.dispatchHandler ⟨re, errors⟩) s = .next ((s.takeStep re).enterShot re x errors) := by
  show execDispatchHandler ⟨re, errors⟩ s = _
  simp [execDispatchHandler, hd, hc, hp, done]

/-- A call that does not wait for the pending shot. -/
theorem dispatch_call {re : Fin 72} (errors : List StackError) {s : State} {c : Call} {r : List Call} (hd : s.dispatchable re = true)
    (hc : (s.engine re).calls = c :: r) (hw : ∀ x, (s.engine re).pending = some x → c.waits x = false) :
    exec (.dispatchHandler ⟨re, errors⟩) s
      = .next (((s.setEngine re { s.engine re with calls := r }).takeStep re).enterCall re c) := by
  show execDispatchHandler ⟨re, errors⟩ s = _
  cases hp : (s.engine re).pending with
  | none => simp [execDispatchHandler, hd, hc, hp, done]
  | some x => simp [execDispatchHandler, hd, hc, hp, hw x hp, done]

theorem waits_eq_false {c : Call} {x : ShotRef}
    (h : ¬((c.handler = .frameBegin ∨ c.handler = .config) ∧ 0 < (c.accession - x.accession).toInt)) : c.waits x = false := by
  simpa [Call.waits] using h

/-- The toggle of a shot that the engine has not seen. -/
theorem bufferReady_eq {re : Fin 72} {s : State} {sh : Shot} {g : Nat} (hsh : s.acq.closedShot = some sh) (hg : sh.rgOf re = some g)
    (hlast : (s.engine re).lastSeq ≠ some sh.seq) : exec (.bufferReady re) s = .next (s.shotReady re (sh.ref g)) := by
  show execBufferReady re s = _
  simp [execBufferReady, hsh, hg, hlast, done]

theorem mem_task {e : Engine} {h : Option Handler} {c p : Option ShotRef} {l : List Call} (ht : e.task = (h, c, p, l)) :
    e.running = h ∧ e.current = c ∧ e.pending = p ∧ e.calls = l := by
  simpa [Engine.task] using ht

theorem retireOld_of_applied {s : State} (h : s.cat.applying = false) : s.retireOld = s := by
  unfold State.retireOld
  simp [h]

/-- A shot taken with none pending before changes the engine alone, but for a generation that retires. -/
theorem shotReady_takes_alone {s : State} {k : Fin 72} (x : ShotRef) (h : s.canServe k = true) (hp : (s.engine k).pending = none) :
    (s.shotReady k x).pca = s.pca ∧ (s.cat.applying = false → OnlyEngine k s (s.shotReady k x)) := by
  rw [shotReady_takes x h hp]
  refine ⟨retireOld_pca _, fun ha => ?_⟩
  have happlied : ((s.noteToggle k x).setPending k x).cat.applying = false := ha
  rw [retireOld_of_applied happlied]
  exact noteToggle_setPending_only s k x

theorem dispatch_shot_outcome (re : Fin 72) (errors : List StackError) {s : State} {x : ShotRef} (hd : s.dispatchable re = true)
    (hc : (s.engine re).calls = []) (hp : (s.engine re).pending = some x) :
    ∃ t, exec (.dispatchHandler ⟨re, errors⟩) s = .next t ∧ (t.engine re).running = some .shot ∧ (t.engine re).current = some x
      ∧ (t.engine re).pending = none
      ∧ (s.standard re = false → (t.engine re).pc = 8 ∧ (t.engine re).winEcc = false
          ∧ (t.engine re).reg 1 = 0x100000 + 0x8000 * (x.seq &&& 1) ∧ (t.engine re).reg 2 = 0x110000 + 0x80 * (x.seq &&& 1)
          ∧ (t.engine re).reg 3 = 0x120000 + 0x1000 * (x.accession &&& 1)
          ∧ (t.engine re).reg 4 = BitVec.ofNat 12 x.column ++ (0 : BitVec 4) ++ x.seq.extractLsb' 0 16
          ∧ (t.engine re).reg 30 = (s.engine re).stackTop ∧ (t.engine re).reg 31 = 0xFFFFFFF0) := by
  obtain ⟨hrun, hcur, hpend, -⟩ := mem_task (enterShot_task (s.takeStep re) re x errors)
  refine ⟨_, dispatch_shot errors hd hc hp, hrun, hcur, hpend, fun hstd => ?_⟩
  rw [enterShot_engine x errors (by rw [takeStep_standard]; exact hstd)]
  have hregs := shotEntered_regs (s.takeStep re) re x
  rw [takeStep_engine] at hregs
  exact ⟨rfl, rfl, hregs⟩

theorem dispatch_call_outcome (re : Fin 72) (errors : List StackError) {s : State} {c : Call} {r : List Call}
    (hd : s.dispatchable re = true) (hc : (s.engine re).calls = c :: r)
    (hw : ∀ x, (s.engine re).pending = some x →
      ¬((c.handler = .frameBegin ∨ c.handler = .config) ∧ 0 < (c.accession - x.accession).toInt)) :
    ∃ t, exec (.dispatchHandler ⟨re, errors⟩) s = .next t ∧ (t.engine re).running = some c.handler ∧ (t.engine re).calls = r
      ∧ (t.engine re).pending = (s.engine re).pending
      ∧ (s.standard re = false → (t.engine re).reg 1 = c.arg1 ∧ (t.engine re).reg 2 = c.arg2 ∧ (t.engine re).reg 4 = 0
          ∧ (c.handler ≠ .init → (t.engine re).reg 3 = 0x120000 + 0x1000 * (c.accession &&& 1))) := by
  have htask := enterCall_task ((s.setEngine re { s.engine re with calls := r }).takeStep re) re c
  rw [takeStep_engine, State.engine_set] at htask
  obtain ⟨hrun, -, hpend, hcalls⟩ := mem_task htask
  refine ⟨_, dispatch_call errors hd hc fun x hx => waits_eq_false (hw x hx), hrun, hcalls, hpend, fun hstd => ?_⟩
  rw [enterCall_engine c (by rw [takeStep_standard]; exact hstd)]
  obtain ⟨h1, h2, h3, h4⟩ := callEntered_regs ((s.setEngine re { s.engine re with calls := r }).takeStep re) re c
  exact ⟨h1, h2, h4, fun hi => h3.trans (c.page_eq hi)⟩

/-- Settles O16: a toggle makes the shot pending and gives up the one before it, and the dispatcher enters the call in front or the
pending shot, the standard firmware's handlers keeping the engine's task. -/
theorem reDispatch : Obligations.ReDispatch := by
  unfold Obligations.ReDispatch
  intro re errors s
  refine ⟨fun sh g hsh hg hlast => ⟨_, bufferReady_eq hsh hg hlast, shotReady_lastSeq s re _, fun hs => ?_, fun hs hp => ?_⟩,
    fun x hd hc hp => dispatch_shot_outcome re errors hd hc hp, fun c r hd hc hw => dispatch_call_outcome re errors hd hc hw⟩
  · exact ⟨shotReady_pending _ hs, shotReady_takes_alone _ hs, fun x hx => shotReady_replaces _ hs hx⟩
  · exact shotReady_gives_up _ hs hp

end Sys2Proof.Machine
end

section
/-! PROOFS. The returns of handlers, the PROX deadline and the memory scrubber (R181, R196 to R198, R201). -/
namespace Sys2Proof.Machine
open Sys2Proof

/-! ### Returns (R196, R201) -/

/-- A handler other than ERROR returns. -/
theorem handlerReturn_eq {re : Fin 72} {s : State} {h : Handler} (hx : s.executing re = true) (hpc : (s.engine re).pc = 0xFFFFFFF0)
    (hr : (s.engine re).running = some h) (hne : h ≠ .error) :
    exec (.handlerReturn re) s
      = .next (State.handlerEnds (s.setEngine re { s.engine re with running := none, loops := [] }) re h false) := by
  have hret : (s.engine re).pc = retAddr := hpc
  show execHandlerReturn re s = _
  unfold execHandlerReturn
  cases h with
  | error => exact absurd rfl hne
  | _ => simp [hx, hret, hr, done]

/-- ERROR returns, having interrupted another handler. -/
theorem handlerReturn_error {re : Fin 72} {s : State} {h : Handler} (hx : s.executing re = true) (hpc : (s.engine re).pc = 0xFFFFFFF0)
    (hr : (s.engine re).running = some .error) (hi : (s.engine re).interrupted = some h) :
    exec (.handlerReturn re) s
      = .next (State.handlerEnds (s.setEngine re { s.engine re with running := none, interrupted := none, loops := [] }) re h true) := by
  have hret : (s.engine re).pc = retAddr := hpc
  show execHandlerReturn re s = _
  unfold execHandlerReturn
  simp [hx, hret, hr, hi, done]

/-- The engine without the shot that has ended. -/
def State.shotDone (s : State) (k : Nat) (slots : Nat) : State :=
  s.setEngine k { s.engine k with current := none, slotsMax := max (s.engine k).slotsMax slots }

theorem handlerEnds_shot_eq {s : State} {k : Nat} {error : Bool} {x : ShotRef} (hc : (s.engine k).current = some x)
    (hs : error = true ∨ s.standard k = false) :
    s.handlerEnds k .shot error =
      (((s.shotDone k (if error then (s.engine k).shotSlots else (s.engine k).slots)).writeMarker k x
        (if error then ocFault else outcomeOf ((s.engine k).reg 1)) (s.engine k).emitted)).retireOld := by
  have hfw : (!error && s.standard k) = false := by
    rcases hs with h | h <;> simp [h]
  unfold State.handlerEnds
  simp only [hc, hfw]
  rfl

/-- SHOT ends with a marker of its outcome, and its engine has no shot any more. -/
theorem handlerEnds_shot {s : State} {k : Fin 72} {error : Bool} {x : ShotRef} (hc : (s.engine k).current = some x)
    (hs : error = true ∨ s.standard k = false) (hr : (s.engine k).running = none) (o : BitVec 3)
    (ho : (if error then ocFault else outcomeOf ((s.engine k).reg 1)) = o.toNat) :
    ((s.handlerEnds k .shot error).engine k).running = none ∧ ((s.handlerEnds k .shot error).engine k).current = none
      ∧ Enqueues (k / 8) ⟨true, shotMarkerWord x o (s.engine k).emitted, k⟩ s (s.handlerEnds k .shot error) := by
  rw [handlerEnds_shot_eq hc hs, ho]
  generalize (if error then (s.engine k).shotSlots else (s.engine k).slots) = n
  have hdone : (s.shotDone k n).engine k = { s.engine k with current := none, slotsMax := max (s.engine k).slotsMax n } :=
    State.engine_set _ _ _
  have hmarks := Marks.writeMarker k (s.shotDone k n) x o.toNat (s.engine k).emitted
  refine ⟨?_, ?_, (writeMarker_enqueues (s.shotDone k n) k x o _).congr rfl (retireOld_pca _)⟩
  · rw [retireOld_engine, hmarks.running, hdone]
    exact hr
  · rw [retireOld_engine, hmarks.current, hdone]

theorem outcomeOf_eq (v : Word) : outcomeOf v = (if v = 0 then (0 : BitVec 3) else if v = 1 then 1 else 3).toNat := by
  unfold outcomeOf
  split
  · rfl
  · split <;> rfl

/-- A spare that is not halted shows as one. -/
theorem setReState_spare {s : State} {k : Nat} (hh : s.on (C.HALTED (pRe k)) = false) :
    (s.setReState k stSpare).on (RE.ST_SPARE k) = true := by
  have hstate := setReState_state s k stSpare
  have hhalted := setReState_keeps s k stSpare (C.HALTED (pRe k))
    (by simp [C.HALTED, RE.STATE, RE.ST_LOCKED, RE.ST_SERVING, RE.ST_SPARE, pRe, fld_key])
  unfold State.setReState State.showSpare at *
  generalize ((s.wr (RE.STATE k) stSpare).put (RE.ST_LOCKED k) _).put (RE.ST_SERVING k) _ = t at *
  have h1 : (RE.STATE k).key ≠ (RE.ST_SPARE k).key := by simp [RE.STATE, RE.ST_SPARE, fld_key]
  have h2 : (C.HALTED (pRe k)).key ≠ (RE.ST_SPARE k).key := by simp [C.HALTED, RE.ST_SPARE, pRe, fld_key]
  rw [State.rd_put_ne _ _ _ _ h1] at hstate
  rw [State.rd_put_ne _ _ _ _ h2] at hhalted
  have hon : t.on (C.HALTED (pRe k)) = false := (congrArg (· != 0) hhalted).trans hh
  rw [State.on_put_self _ _ _ Nat.one_pos, State.reState, hstate, hon]
  rfl

theorem initEnds_eq (s : State) (k : Nat) :
    s.initEnds k true = ((s.setEngine k { s.engine k with inited := true }).setReState k stSpare).raise (RE.INT_INIT_DONE k) := rfl

/-- INIT ends: the engine waits as a spare. -/
theorem initEnds_shows {s : State} {k : Nat} (hh : s.on (C.HALTED (pRe k)) = false) :
    ((s.initEnds k true).engine k).running = (s.engine k).running ∧ (s.initEnds k true).rd (RE.STATE k) = 3
      ∧ (s.initEnds k true).on (RE.ST_SPARE k) = true ∧ (s.initEnds k true).on (RE.INT_INIT_DONE k) = true := by
  have h1 : (RE.STATE k).key ≠ (RE.INT_INIT_DONE k).key := by simp [RE.STATE, RE.INT_INIT_DONE, fld_key]
  have h2 : (RE.ST_SPARE k).key ≠ (RE.INT_INIT_DONE k).key := by simp [RE.ST_SPARE, RE.INT_INIT_DONE, fld_key]
  have hs : (s.setEngine k { s.engine k with inited := true }).on (C.HALTED (pRe k)) = false := hh
  have he : ((s.setEngine k { s.engine k with inited := true }).engine k).running = (s.engine k).running := by rw [State.engine_set]
  rw [initEnds_eq]
  generalize s.setEngine k _ = t at *
  refine ⟨?_, ?_, ?_, State.on_put_self _ _ _ Nat.one_pos⟩
  · rw [← he, setReState_frame]
    rfl
  · rw [State.raise, State.rd_put_ne _ _ _ _ h1, setReState_state]
    rfl
  · rw [State.raise, State.on_put_ne _ _ _ _ h2]
    exact setReState_spare hs

theorem executing_running {s : State} {k : Nat} (h : s.executing k = true) : s.on (C.HALTED (pRe k)) = false := by
  simp only [State.executing, Bool.and_eq_true, Bool.not_eq_true'] at h
  exact h.1.2

/-! ### The PROX deadline and the scrubber (R181, R198) -/

theorem proxDeadline_current {re : Fin 72} {s : State} {x : ShotRef} (hc : (s.engine re).current = some x) (hl : x.late = false) :
    exec (.proxDeadline re) s = .next (s.setEngine re { s.engine re with current := some { x with late := true } }) := by
  show execProxDeadline re s = _
  simp [execProxDeadline, hc, hl, done]

/-- The engine with the bad word that the scrubber has found. -/
def State.noteBad (s : State) (k a : Nat) : State :=
  s.setEngine k { s.engine k with
    badWords := if (s.engine k).badWords.contains a then (s.engine k).badWords else (s.engine k).badWords ++ [a] }

/-- The scrubber checks a word of the engine's memories. -/
theorem memoryScrub_eq {re : Fin 72} {addr : Word} (found : Ecc) {s : State} (hr : s.runs (pRe re) = true) (h1 : addr.toNat < 0x30000)
    (h2 : addr.toNat % 4 = 0) :
    exec (.memoryScrub re addr found) s = .next (match found with
      | .clean => s
      | .single => s.count (RE.MEM_CE re) 1
      | .double => (s.noteBad re addr.toNat).ueShown re) := by
  have hguard : (!s.runs (pRe re) || decide (0x30000 ≤ addr.toNat) || addr.toNat % 4 != 0) = false := by
    simp [hr, h1, h2]
  show execMemoryScrub re addr found s = _
  unfold execMemoryScrub done
  simp only [hguard]
  cases found <;> rfl

theorem scrubUe_mask (re : Fin 72) : 2 ^ 3 + faultCommons (pRe re) 3 = 0x84000008 := by
  revert re
  decide

/-- What an uncorrectable error of the memories shows: its count, FAULT.MEM_UE with ECC and HEALTH, and nothing else. -/
theorem ueShown_shows (s : State) (re : Fin 72) :
    (s.ueShown re).rd (RE.MEM_UE re) = min (s.rd (RE.MEM_UE re) + 1) 65535
      ∧ (s.ueShown re).on (RE.FAULT_MEM_UE re) = true ∧ (s.ueShown re).on (C.FAULT (pRe re) 26) = true
      ∧ (s.ueShown re).on (C.FAULT (pRe re) 31) = true
      ∧ KeepsRegs [(RE.MEM_UE re).key, (RE.FAULT_MEM_UE re).key, (C.FAULT (pRe re) 26).key, (C.FAULT (pRe re) 31).key] s (s.ueShown re)
      ∧ s.ueShown re = { s with regs := (s.ueShown re).regs } := by
  have hbits : ∀ i < 32, bit 0x84000008 i = true → i = 3 ∨ i = 26 ∨ i = 31 := by decide
  unfold State.ueShown State.fault
  rw [scrubUe_mask]
  refine ⟨?_, State.setFaults_on _ _ _ 3 (by decide) (by decide), State.setFaults_on _ _ _ 26 (by decide) (by decide),
    State.setFaults_on _ _ _ 31 (by decide) (by decide), ?_, ?_⟩
  · rw [State.setFaults_rd _ _ _ (RE.MEM_UE re) fun i hi => (engineFault_key_ne (b := 832) (.inr (by decide)) hi).symm]
    exact State.rd_count _ _ _
  · refine setFaults_keeps ((KeepsRegs.refl _ s).count _ _ List.mem_cons_self) fun i hi hbit => ?_
    rcases hbits i hi hbit with rfl | rfl | rfl
    · exact List.mem_cons_of_mem _ List.mem_cons_self
    · exact List.mem_cons_of_mem _ (List.mem_cons_of_mem _ List.mem_cons_self)
    · exact List.mem_cons_of_mem _ (List.mem_cons_of_mem _ (List.mem_cons_of_mem _ List.mem_cons_self))
  · exact setFaults_regs_of_not_safety _ (by decide)

theorem noteBad_engine (s : State) (k a : Nat) :
    a ∈ ((s.noteBad k a).engine k).badWords
      ∧ (s.noteBad k a).engine k = { s.engine k with badWords := ((s.noteBad k a).engine k).badWords } := by
  unfold State.noteBad
  rw [State.engine_set]
  refine ⟨?_, rfl⟩
  show a ∈ if (s.engine k).badWords.contains a then (s.engine k).badWords else (s.engine k).badWords ++ [a]
  split
  · rename_i h
    exact List.contains_iff_mem.mp h
  · exact List.mem_append_right _ List.mem_cons_self

theorem noteBad_eq (s : State) (k a : Nat) : s.noteBad k a = s.setEngine k ((s.noteBad k a).engine k) := by
  have h : (s.noteBad k a).engine k = _ := State.engine_set _ _ _
  rw [h]
  rfl

/-- Settles O17: a return ends its handler by the end of that handler; the scrubber's errors count, with the faults of MEM_UE. -/
theorem reHandlerEndsDeadlineAndScrub : Obligations.ReHandlerEndsDeadlineAndScrub := by
  unfold Obligations.ReHandlerEndsDeadlineAndScrub
  refine ⟨?returns, fun re addr s => ⟨fun x hc hl => proxDeadline_current hc hl, fun hr h1 h2 => ?scrub⟩⟩
  case returns =>
    intro re s e marker hx hpc
    refine ⟨fun x hr hc hs => ?shot, fun x hr hi hc => ?error, fun hr => ?init, ?others⟩
    case shot =>
      have hends := handlerEnds_shot (s := s.setEngine re { s.engine re with running := none, loops := [] }) (error := false)
        (x := x) (by rw [State.engine_set]; exact hc) (.inr hs) (by rw [State.engine_set])
        (if e.reg 1 = 0 then 0 else if e.reg 1 = 1 then 1 else 3) (by rw [State.engine_set]; exact outcomeOf_eq _)
      rw [State.engine_set] at hends
      exact ⟨_, handlerReturn_eq hx hpc hr (by decide), hends⟩
    case error =>
      have hends := handlerEnds_shot (s := s.setEngine re { s.engine re with running := none, interrupted := none, loops := [] })
        (error := true) (x := x) (by rw [State.engine_set]; exact hc) (.inl rfl) (by rw [State.engine_set]) 3 rfl
      rw [State.engine_set] at hends
      exact ⟨_, handlerReturn_error hx hpc hr hi, hends⟩
    case init =>
      have hh : (s.setEngine re { s.engine re with running := none, loops := [] }).on (C.HALTED (pRe re)) = false := executing_running (s := s) hx
      have hends := initEnds_shows hh
      rw [State.engine_set] at hends
      exact ⟨_, handlerReturn_eq hx hpc hr (by decide), hends⟩
    case others =>
      rintro (hr | hr)
      · exact handlerReturn_eq hx hpc hr (by decide)
      · exact handlerReturn_eq hx hpc hr (by decide)
  case scrub =>
    have hscrub (found : Ecc) := memoryScrub_eq found hr h1 h2
    refine ⟨hscrub .clean, ⟨_, hscrub .single, State.rd_count _ _ _, (KeepsRegs.refl _ s).count _ _ List.mem_cons_self, rfl⟩,
      ⟨_, hscrub .double, ?_⟩⟩
    obtain ⟨hcount, hue, hecc, hhealth, hkeep, hframe⟩ := ueShown_shows (s.noteBad re addr.toNat) re
    obtain ⟨hmem, hengine⟩ := noteBad_engine s re addr.toNat
    rw [ueShown_engine]
    refine ⟨hcount, hue, hecc, hhealth, hkeep, hmem, hengine, ?_⟩
    rw [← noteBad_eq]
    exact hframe

end Sys2Proof.Machine
end

section
/-! PROOFS. Loading an engine, UNFENCE, and repair and update requests (R202, R204, R207, R495). -/
namespace Sys2Proof.Machine
open Sys2Proof

/-! ### A word's bits -/

theorem bit_toNat {w : Nat} (x : BitVec w) (i : Nat) : bit x.toNat i = x.getLsbD i := by
  rw [← BitVec.testBit_toNat, Nat.testBit_eq_decide_div_mod_eq]
  rfl

/-! ### LOAD_ADDR and LOAD_DATA (R202) -/

theorem legalLoad_iff (v : Nat) : (decide (v ≤ 0x2FFFC) && decide (v % 4 = 0)) = true ↔ v ≤ 0x2FFFC ∧ v % 4 = 0 := by
  simp

theorem loadAddr_legal {s : State} {k v : Nat} (hh : s.on (C.HALTED (pRe k)) = true) (hv : v ≤ 0x2FFFC ∧ v % 4 = 0) :
    s.loadAddr k v = (s.wrBoth (RE.LOAD_ADDR k) v).clearSecRecord k := by
  simp [State.loadAddr, hh, hv.1, hv.2]

theorem loadAddr_illegal {s : State} {k v : Nat} (hv : ¬(v ≤ 0x2FFFC ∧ v % 4 = 0)) :
    s.loadAddr k v = (if s.on (C.HALTED (pRe k)) then s else s.put (C.ERR_BUSY (pRe k)) true).put (C.ERR_VALUE (pRe k)) true := by
  have h : (decide (v ≤ 0x2FFFC) && decide (v % 4 = 0)) = false := by
    rw [← Bool.not_eq_true, legalLoad_iff]
    exact hv
  unfold State.loadAddr
  simp only [h]
  rfl

theorem loadAddr_busy {s : State} {k v : Nat} (hh : s.on (C.HALTED (pRe k)) = false) (hv : v ≤ 0x2FFFC ∧ v % 4 = 0) :
    s.loadAddr k v = s.put (C.ERR_BUSY (pRe k)) true := by
  simp [State.loadAddr, hh, hv.1, hv.2, State.err]

/-- The engine after a word has been loaded at an address of its memories. -/
def Engine.loadWord (e : Engine) (a v : Nat) : Engine :=
  { (if a < 0x10000 then { e with imem := e.imem.setLe a 4 v } else { e with dmem := e.dmem.setLe (a - 0x10000) 4 v } : Engine) with
    badWords := e.badWords.filter (· != a), written := true }

theorem loadData_takes {s : State} {k : Nat} (v : Nat) (hh : s.on (C.HALTED (pRe k)) = true) (ha : s.rd (RE.LOAD_ADDR k) < 0x30000) :
    s.loadData .host k v =
      if s.on (RE.ST_LOADED k) then
        ((s.setEngine k ((s.engine k).loadWord (s.rd (RE.LOAD_ADDR k)) v)).wrBoth (RE.LOAD_ADDR k)
          (s.rd (RE.LOAD_ADDR k) + 4)).clearSecRecord k
      else (s.setEngine k ((s.engine k).loadWord (s.rd (RE.LOAD_ADDR k)) v)).wrBoth (RE.LOAD_ADDR k) (s.rd (RE.LOAD_ADDR k) + 4) := by
  have hhost : (Path.host != .host) = false := rfl
  unfold State.loadData
  simp only [hhost, hh, Nat.not_le.mpr ha, Bool.not_true, Bool.false_eq_true, if_false]
  rfl

theorem loadData_path {s : State} {path : Path} (k v : Nat) (hp : path ≠ .host) : s.loadData path k v = s.put (C.ERR_STATE (pRe k)) true := by
  simp [State.loadData, hp, State.err]

theorem Mem.read_setWord (m : Mem) (a : Nat) (v : Word) (x : Nat) :
    (m.setLe a 4 v.toNat).read x = if a ≤ x ∧ x < a + 4 then v.extractLsb' (8 * (x - a)) 8 else m.read x := by
  rw [Mem.setLe, Mem.read_write, leBytes_length]
  split
  · rw [getD_leBytes_toNat v (by omega)]
  · rfl

theorem loadWord_imem (e : Engine) (a : Nat) (v : Word) (x : Nat) :
    (e.loadWord a v.toNat).imem.read x = if a ≤ x ∧ x < a + 4 ∧ a < 0x10000 then v.extractLsb' (8 * (x - a)) 8 else e.imem.read x := by
  by_cases h : a < 0x10000
  · have hi : (e.loadWord a v.toNat).imem = e.imem.setLe a 4 v.toNat := by simp [Engine.loadWord, h]
    simp [hi, Mem.read_setWord, h]
  · have hi : (e.loadWord a v.toNat).imem = e.imem := by simp [Engine.loadWord, h]
    simp [hi, h]

theorem loadWord_dmem (e : Engine) (a : Nat) (v : Word) (x : Nat) :
    (e.loadWord a v.toNat).dmem.read x =
      if a ≤ x + 0x10000 ∧ x + 0x10000 < a + 4 ∧ 0x10000 ≤ a then v.extractLsb' (8 * (x + 0x10000 - a)) 8 else e.dmem.read x := by
  by_cases h : a < 0x10000
  · have hd : (e.loadWord a v.toNat).dmem = e.dmem := by simp [Engine.loadWord, h]
    simp [hd, Nat.not_le.mpr h]
  · have hd : (e.loadWord a v.toNat).dmem = e.dmem.setLe (a - 0x10000) 4 v.toNat := by simp [Engine.loadWord, h]
    have hiff : (a - 0x10000 ≤ x ∧ x < a - 0x10000 + 4) ↔ (a ≤ x + 0x10000 ∧ x + 0x10000 < a + 4 ∧ 0x10000 ≤ a) := by omega
    have hidx : x - (a - 0x10000) = x + 0x10000 - a := by omega
    simp only [hd, Mem.read_setWord, hiff, hidx]

theorem wrBoth_loadAddr (s : State) (k v : Nat) (hv : v < 2 ^ 32) :
    (s.wrBoth (RE.LOAD_ADDR k) v).rd (RE.LOAD_ADDR k) = v ∧ KeepsRegs [(RE.LOAD_ADDR k).key] s (s.wrBoth (RE.LOAD_ADDR k) v) := by
  refine ⟨(State.rd_wr_self s _ v).trans (Nat.mod_eq_of_lt hv), ?_⟩
  exact ((KeepsRegs.refl _ s).wr _ v List.mem_cons_self).of_cur rfl

/-- What a legal write of LOAD_DATA from the host core leaves. -/
theorem loadData_shows {s : State} {k : Nat} (value : Word) (hh : s.on (C.HALTED (pRe k)) = true) (ha : s.rd (RE.LOAD_ADDR k) < 0x30000) :
    (s.loadData .host k value.toNat).rd (RE.LOAD_ADDR k) = s.rd (RE.LOAD_ADDR k) + 4
      ∧ KeepsRegs [(RE.LOAD_ADDR k).key] s (s.loadData .host k value.toNat)
      ∧ (s.loadData .host k value.toNat).engine k = (s.engine k).loadWord (s.rd (RE.LOAD_ADDR k)) value.toNat := by
  rw [loadData_takes value.toNat hh ha]
  obtain ⟨hrd, hkeep⟩ := wrBoth_loadAddr (s.setEngine k ((s.engine k).loadWord (s.rd (RE.LOAD_ADDR k)) value.toNat)) k
    (s.rd (RE.LOAD_ADDR k) + 4) (by omega)
  have hengine := State.engine_set s k ((s.engine k).loadWord (s.rd (RE.LOAD_ADDR k)) value.toNat)
  split
  · exact ⟨hrd, hkeep, hengine⟩
  · exact ⟨hrd, hkeep, hengine⟩

/-! ### UNFENCE (R207) -/

theorem unfence_takes {s : State} {k v : Nat} (hv : bit v 31 = true) (hs : s.reState k = stFenced) (hu : (s.engine k).uncleared = false) :
    s.unfence k v = { (s.setReState k stEmpty).put (REG.FENCED k) false with nvs.lifePending := true } := by
  simp [State.unfence, hv, hs, hu]

theorem unfence_refused {s : State} {k v : Nat} (hv : bit v 31 = true) (h : ¬(s.reState k = stFenced ∧ (s.engine k).uncleared = false)) :
    s.unfence k v = s.put (C.ERR_STATE (pRe k)) true := by
  have hcond : (decide (s.reState k = stFenced) && !(s.engine k).uncleared) = false := by
    rw [← Bool.not_eq_true]
    simpa using h
  simp [State.unfence, hv, hcond, State.err]

theorem unfence_shows {s : State} {k v : Nat} (hk : k < 72) (hv : bit v 31 = true) (hs : s.reState k = stFenced)
    (hu : (s.engine k).uncleared = false) :
    (s.unfence k v).rd (RE.STATE k) = 1 ∧ (s.unfence k v).on (REG.FENCED k) = false
      ∧ (s.unfence k v).nvs = { s.nvs with lifePending := true } ∧ (s.unfence k v).engines = s.engines := by
  rw [unfence_takes hv hs hu]
  have hne : (RE.STATE k).key ≠ (REG.FENCED k).key := by
    simp only [RE.STATE, REG.FENCED, fld_key, pageBits]
    omega
  have hstate := (State.rd_put_ne (s.setReState k stEmpty) (REG.FENCED k) (RE.STATE k) false hne).trans (setReState_state s k stEmpty)
  have hwidth : (REG.FENCED k).width = 1 := by simp only [REG.FENCED, fld]
  have hfenced := State.on_put_self (s.setReState k stEmpty) (REG.FENCED k) false (by rw [hwidth]; decide)
  have hnvs : ((s.setReState k stEmpty).put (REG.FENCED k) false).nvs = s.nvs := rfl
  have hengines : ((s.setReState k stEmpty).put (REG.FENCED k) false).engines = s.engines := rfl
  generalize (s.setReState k stEmpty).put (REG.FENCED k) false = t at *
  exact ⟨hstate, hfenced, congrArg (fun n => { n with lifePending := true }) hnvs, hengines⟩

/-! ### Requests (R204) -/

/-- A request that is refused. -/
def State.requestRefused (s : State) (e : Fld) : State := (s.put e true).put REG.INT_REQ_REFUSED true

section
variable {s : State} {f other : ReqFlds} {v : Nat} (hv : bit v 31 = true)
include hv

omit hv in
theorem request_pending (h : s.on f.req = true) : s.request f other v = s.requestRefused (C.ERR_BUSY pREG) := by
  unfold State.request
  simp only [h, if_true]
  rfl

theorem request_value (h : s.on f.req = false) (hk : 71 < bits v 16 7 ∨ s.recDiffers (bits v 16 7) = true) :
    s.request f other v = s.requestRefused (C.ERR_VALUE pREG) := by
  unfold State.request
  by_cases h71 : 71 < bits v 16 7
  · simp only [h, h71, hv, if_true, Bool.false_eq_true, if_false]
    rfl
  · have hd := hk.resolve_left h71
    simp only [h, h71, hv, hd, if_true, Bool.false_eq_true, if_false, Bool.not_true]
    rfl

theorem request_busy (h : s.on f.req = false) (hk : bits v 16 7 ≤ 71) (hd : s.recDiffers (bits v 16 7) = false)
    (hc : s.freeSpare (bits v 16 7) = false ∨ (s.on other.req = true ∧ (s.rd other.engine = bits v 16 7 ∨ s.rd other.rg = bits v 8 6))) :
    s.request f other v = s.requestRefused (C.ERR_BUSY pREG) := by
  have hcond : (s.on other.req && (decide (s.rd other.engine = bits v 16 7) || decide (s.rd other.rg = bits v 8 6))
      || !s.freeSpare (bits v 16 7)) = true := by
    simpa [or_comm] using hc
  unfold State.request
  simp only [h, Nat.not_lt.mpr hk, hv, hd, hcond, if_true, Bool.false_eq_true, if_false, Bool.not_true]
  rfl

theorem request_taken (h : s.on f.req = false) (hk : bits v 16 7 ≤ 71) (hd : s.recDiffers (bits v 16 7) = false)
    (hs : s.freeSpare (bits v 16 7) = true)
    (hc : ¬(s.on other.req = true ∧ (s.rd other.engine = bits v 16 7 ∨ s.rd other.rg = bits v 8 6))) :
    s.request f other v = ((s.put f.req true).wr f.engine (bits v 16 7)).wr f.rg (bits v 8 6) := by
  have hcond : (s.on other.req && (decide (s.rd other.engine = bits v 16 7) || decide (s.rd other.rg = bits v 8 6))
      || !s.freeSpare (bits v 16 7)) = false := by
    rw [← Bool.not_eq_true]
    simpa [hs] using hc
  unfold State.request
  simp only [h, Nat.not_lt.mpr hk, hv, hd, hcond, Bool.false_eq_true, if_false, Bool.not_true]

end

/-- The three fields of a request word lie apart, and hold the numbers that the word gives. -/
structure ReqFlds.Apart (f : ReqFlds) : Prop where
  reqEngine : f.req.key ≠ f.engine.key
  reqRg : f.req.key ≠ f.rg.key
  engineRg : f.engine.key ≠ f.rg.key
  widths : f.req.width = 1 ∧ f.engine.width = 7 ∧ f.rg.width = 6

theorem repairFlds_apart : repairFlds.Apart := ⟨by decide, by decide, by decide, by decide⟩

theorem updateFlds_apart : updateFlds.Apart := ⟨by decide, by decide, by decide, by decide⟩

theorem request_shows {f : ReqFlds} (hf : f.Apart) (s : State) (v : Nat) :
    let t := ((s.put f.req true).wr f.engine (bits v 16 7)).wr f.rg (bits v 8 6)
    t.on f.req = true ∧ t.rd f.engine = bits v 16 7 ∧ t.rd f.rg = bits v 8 6
      ∧ KeepsRegs [f.req.key, f.engine.key, f.rg.key] s t ∧ t = { s with regs := t.regs } := by
  intro t
  obtain ⟨h1, h2, h3, hw1, hw2, hw3⟩ := hf
  refine ⟨?_, ?_, ?_, (((KeepsRegs.refl _ s).put _ _ (by simp)).wr _ _ (by simp)).wr _ _ (by simp), rfl⟩
  · have hon : (s.put f.req true).on f.req = true := State.on_put_self _ _ _ (by rw [hw1]; decide)
    rw [State.on] at hon ⊢
    rw [State.rd_wr_ne _ _ _ _ h2, State.rd_wr_ne _ _ _ _ h1]
    exact hon
  · rw [State.rd_wr_ne _ _ _ _ h3, State.rd_wr_self, hw2]
    exact Nat.mod_mod _ _
  · rw [State.rd_wr_self, hw3]
    exact Nat.mod_mod _ _

/-- The rule of one of the two request words, the other being `other`. -/
theorem request_rule {i : Instr} {f other : ReqFlds} {value : Word} {s : State} (hf : f.Apart)
    (hi : exec i s = .next (s.writeTo pREG fun s => s.request f other value.toNat)) (hr : s.runs pREG = true)
    (hv : value.getLsbD 31 = true) :
    let k := (value.extractLsb' 16 7).toNat
    let g := (value.extractLsb' 8 6).toNat
    let clash := s.on other.req = true ∧ (s.rd other.engine = k ∨ s.rd other.rg = g)
    let refused := fun e : Fld => exec i s = .next (({ s with bus := {} }.put e true).put REG.INT_REQ_REFUSED true)
    (s.on f.req = false → k ≤ 71 → s.recDiffers k = false → s.freeSpare k = true → ¬clash →
        ∃ t, exec i s = .next t ∧ t.on f.req = true ∧ t.rd f.engine = k ∧ t.rd f.rg = g
          ∧ KeepsRegs [f.req.key, f.engine.key, f.rg.key] s t ∧ t = { s with bus := {}, regs := t.regs })
      ∧ (s.on f.req = true → refused (C.ERR_BUSY pREG))
      ∧ (s.on f.req = false → (71 < k ∨ s.recDiffers k = true) → refused (C.ERR_VALUE pREG))
      ∧ (s.on f.req = false → k ≤ 71 → s.recDiffers k = false → (s.freeSpare k = false ∨ clash) → refused (C.ERR_BUSY pREG)) := by
  have hbit : bit value.toNat 31 = true := (bit_toNat value 31).trans hv
  rw [State.writeTo_runs _ _ _ hr] at hi
  simp only [hi, ← bits_toNat]
  refine ⟨fun h hk hd hs hc => ⟨_, rfl, ?_⟩, fun h => ?_, fun h hk => ?_, fun h hk hd hc => ?_⟩
  · rw [request_taken (s := { s with bus := {} }) hbit h hk hd hs hc]
    exact request_shows hf { s with bus := {} } value.toNat
  · rw [request_pending (s := { s with bus := {} }) h]
    rfl
  · rw [request_value (s := { s with bus := {} }) hbit h hk]
    rfl
  · rw [request_busy (s := { s with bus := {} }) hbit h hk hd hc]
    rfl

/-! ### The statement -/

/-- Settles O18: each command by the write that it makes of a folio that runs. -/
theorem reLoadingAndRequests : Obligations.ReLoadingAndRequests := by
  unfold Obligations.ReLoadingAndRequests
  refine ⟨?_, ?_⟩
  · intro path re value s p a e taken legal hr
    have haddr : exec (.loadAddrWrite path re value) s = .next (taken.loadAddr re value.toNat) :=
      congrArg _ (State.writeTo_runs s (pRe re) (fun s => s.loadAddr re value.toNat) hr)
    have hdata (path : Path) : exec (.loadDataWrite path re value) s = .next (taken.loadData path re value.toNat) :=
      congrArg _ (State.writeTo_runs s (pRe re) (fun s => s.loadData path re value.toNat) hr)
    have hfence : exec (.unfence path re value) s = .next (taken.unfence re value.toNat) :=
      congrArg _ (State.writeTo_runs s (pRe re) (fun s => s.unfence re value.toNat) hr)
    have hbit (h : value.getLsbD 31 = true) : bit value.toNat 31 = true := (bit_toNat value 31).trans h
    refine ⟨fun hh hl => ⟨_, haddr, ?legal⟩, fun hh hl => ?illegal, fun hh hl => ?busy, fun hh hl => ?both,
      fun hh ha hal => ⟨_, hdata .host, ?data⟩, fun hp => ?path, fun hv hst hu => ⟨_, hfence, ?unfence⟩, fun hv hst => ?fenced⟩
    case legal =>
      rw [loadAddr_legal (s := taken) hh hl]
      obtain ⟨hrd, hkeep⟩ := wrBoth_loadAddr taken re value.toNat (by omega)
      exact ⟨hrd, hkeep, List.filter_congr fun r _ => by simp [bne, beq_eq_decide], rfl⟩
    case illegal =>
      have hh' : taken.on (C.HALTED (pRe re)) = true := hh
      rw [haddr, loadAddr_illegal hl, if_pos hh']
    case busy =>
      rw [haddr, loadAddr_busy (s := taken) hh hl]
    case both =>
      have hh' : ¬taken.on (C.HALTED (pRe re)) = true := Bool.not_eq_true _ ▸ hh
      rw [haddr, loadAddr_illegal hl, if_neg hh']
    case data =>
      obtain ⟨hrd, hkeep, hengine⟩ := loadData_shows (s := taken) value hh ha
      rw [hengine]
      exact ⟨hrd, hkeep, loadWord_imem _ _ value, loadWord_dmem _ _ value⟩
    case path =>
      rw [hdata path, loadData_path _ _ hp]
    case unfence => exact unfence_shows (s := taken) re.isLt (hbit hv) hst hu
    case fenced =>
      rw [hfence, unfence_refused (s := taken) (hbit hv) hst]
  · intro path value s k g hr hv p hp
    rcases List.mem_cons.mp hp with rfl | hp
    · exact request_rule repairFlds_apart rfl hr hv
    · obtain rfl := List.mem_singleton.mp hp
      exact request_rule updateFlds_apart rfl hr hv

end Sys2Proof.Machine
end

section
/-! PROOFS. Accesses on the buses that err, and what a write leaves in the fields of each access code (R10, R13, R38 to R47). -/
namespace Sys2Proof.Machine
open Sys2Proof

/-! ### Addresses (R38) -/

theorem folioOf_folio {p off : Nat} (hp : p < 183) (ho : off < 0x1000) : folioOf (0x40000000 + 0x1000 * p + off) = some p := by
  have h1 : 0x40000000 ≤ 0x40000000 + 0x1000 * p + off := by omega
  have h2 : 0x40000000 + 0x1000 * p + off < 0x40000000 + 0x1000 * folioCount := by simp only [folioCount]; omega
  have h3 : (0x40000000 + 0x1000 * p + off - 0x40000000) / 0x1000 = p := by omega
  simp [folioOf, h1, h2, h3]

theorem folioOf_none {a : Nat} (h : a < 0x40000000 ∨ 0x40000000 + 0x1000 * 183 ≤ a) : folioOf a = none := by
  have h2 : ¬(0x40000000 ≤ a ∧ a < 0x40000000 + 0x1000 * folioCount) := by simp only [folioCount]; omega
  unfold folioOf
  rw [if_neg]
  simpa using h2

theorem badAccess_folio (s : State) {p off : Nat} (hp : p < 183) (ho : off < 0x1000) :
    s.badAccess (0x40000000 + 0x1000 * p + off) = s.put (C.ERR_ADDR p) true := by
  unfold State.badAccess
  rw [folioOf_folio hp ho]
  rfl

theorem badAccess_nowhere {s : State} {a : Nat} (h : a < 0x40000000 ∨ 0x40000000 + 0x1000 * 183 ≤ a) : s.badAccess a = s := by
  unfold State.badAccess
  rw [folioOf_none h]

theorem busWrite_misaligned {s : State} (path : Path) {a : Nat} (v : Nat) (h : a % 4 ≠ 0) :
    s.busWrite path a v = (s.badAccess a, { error := true }) := by
  simp [State.busWrite, h]

theorem busWrite_nowhere {s : State} (path : Path) {a : Nat} (v : Nat) (h : a < 0x40000000 ∨ 0x40000000 + 0x1000 * 183 ≤ a) :
    s.busWrite path a v = (s, { error := true }) := by
  unfold State.busWrite
  rw [folioOf_none h, badAccess_nowhere h]
  split <;> rfl

/-! ### Errors of accesses (R38 to R40) -/

/-- A write to a folio that is not the sentinel's in a gap. -/
theorem registerWrite_folio {s : State} {path : Path} {addr value : Word} {p off : Nat} (hp : p < 183) (ho : off < 0x1000)
    (ha : addr.toNat = 0x40000000 + 0x1000 * p + off) (hal : off % 4 = 0) (hw : ¬s.writesWait p) :
    exec (.registerWrite path addr value) s = .next (s.writeWord path p off value.toNat).written := by
  show Host.Outcome.next (answered (s.busWrite path addr.toNat value.toNat)) = _
  unfold State.writesWait at hw
  rw [ha, s.busWrite_folio path p off value.toNat hp ho hal, if_neg hw]
  rfl

theorem writeWord_undefined {s : State} {path : Path} {p off : Nat} (v : Nat) (h : defined p off = false) :
    s.writeWord path p off v = s.put (C.ERR_ADDR p) true := by
  simp [State.writeWord, h, State.err]

theorem writeWord_stopped {s : State} {path : Path} {p off : Nat} (v : Nat) (hd : defined p off = true) (ho : off ≠ 0x10)
    (hr : s.runs p = false) : s.writeWord path p off v = s.put (C.ERR_STATE p) true := by
  simp [State.writeWord, hd, ho, hr, State.err]

/-- Settles O19: each access by the branch of the bus that its address and its size take. -/
theorem registerAccessErrors : Obligations.RegisterAccessErrors := by
  unfold Obligations.RegisterAccessErrors
  intro path write addr value size p off s
  refine ⟨fun hp ho ha => ?folio, fun h => ?nowhere⟩
  case folio =>
    have hmod : addr.toNat % 4 = off % 4 := by omega
    have hbad : s.badAccess addr.toNat = s.put (C.ERR_ADDR p) true := by rw [ha, badAccess_folio s hp ho]
    have hwrite (hal : off % 4 = 0) (hw : ¬s.writesWait p) := registerWrite_folio (value := value) (path := path) hp ho ha hal hw
    refine ⟨fun h => ?size, fun h => ?misaligned, fun hal hd => ⟨?read, fun hw => ?write⟩, fun hal hd h10 hr hw => ?stopped,
      fun hal hw => ?gap⟩
    case size =>
      have hcond : (size != 4 || addr.toNat % 4 != 0 || decide (folioOf addr.toNat = none)) = true := by
        rcases h with h | h
        · simp [h]
        · simp [hmod, h]
      show Host.Outcome.next _ = _
      rw [if_pos hcond, hbad]
      rfl
    case misaligned =>
      show Host.Outcome.next (answered (s.busWrite path addr.toNat value.toNat)) = _
      rw [busWrite_misaligned path _ (by omega), hbad]
      rfl
    case read =>
      show Host.Outcome.next (answered (s.busRead addr.toNat)) = _
      rw [ha, s.busRead_folio p off hp ho hal]
      simp [State.readWord, hd, answered, State.err]
    case write =>
      have hundef := hwrite hal hw
      rw [writeWord_undefined _ hd] at hundef
      exact ⟨hundef, hundef⟩
    case stopped => rw [hwrite hal hw, writeWord_stopped _ hd h10 hr]
    case gap =>
      show Host.Outcome.next (answered (s.busWrite path addr.toNat value.toNat)) = _
      unfold State.writesWait at hw
      rw [ha, s.busWrite_folio path p off value.toNat hp ho hal, if_pos hw]
      rfl
  case nowhere =>
    refine ⟨?_, ?_⟩
    · show Host.Outcome.next _ = _
      rw [if_pos (by simp [folioOf_none h]), badAccess_nowhere h]
      rfl
    · show Host.Outcome.next (answered (s.busWrite path addr.toNat value.toNat)) = _
      rw [busWrite_nowhere path _ h]
      rfl

end Sys2Proof.Machine
end

section
/-! PROOFS. What a write leaves in the fields of each access code (R10, R13, R41, R45, R47). -/
namespace Sys2Proof.Machine
open Sys2Proof

/-! ### The rows that a write of a word reaches -/

/-- A row that a write of the word at `off` can change. -/
def Row.live (off : Nat) (r : Row) : Bool := r.acc != .ro && r.acc != .wo && !(r.inWord (8 * off)).isEmpty

/-- The write of a row's elements that begin in a word. -/
def State.writeRow (s : State) (p off v : Nat) (r : Row) : State :=
  (r.inWord (8 * off)).foldl (fun s j => s.writeField p r (r.fld p j) (bits v (r.bit + r.stride * j - 8 * off) r.width)) s

theorem foldl_id {α β : Type} (f : β → α → β) (l : List α) (b : β) (h : ∀ b a, f b a = b) : l.foldl f b = b := by
  induction l with
  | nil => rfl
  | cons a l ih => rw [List.foldl_cons, h, ih]

theorem writeRow_dead {r : Row} {off : Nat} (h : r.live off = false) (s : State) (p v : Nat) : s.writeRow p off v r = s := by
  unfold State.writeRow
  by_cases hempty : (r.inWord (8 * off)).isEmpty
  · rw [List.isEmpty_iff.mp hempty]
    rfl
  · have hacc : r.acc = .ro ∨ r.acc = .wo := by
      simp only [Row.live, hempty, Bool.not_false, Bool.and_true, Bool.and_eq_false_iff, bne_eq_false_iff_eq] at h
      exact h
    refine foldl_id _ _ _ fun s j => ?_
    unfold State.writeField
    rcases hacc with h | h <;> rw [h]

/-- A write of a word is the write of its live rows. -/
theorem writeFields_live (s : State) (p off v : Nat) :
    s.writeFields p off v = ((rowsOf p).filter (Row.live off)).foldl (fun s r => s.writeRow p off v r) s := by
  have hrows : s.writeFields p off v = (rowsOf p).foldl (fun s r => s.writeRow p off v r) s := rfl
  rw [hrows]
  clear hrows
  generalize rowsOf p = l
  induction l generalizing s with
  | nil => rfl
  | cons r l ih =>
    rw [List.foldl_cons, ih, List.filter_cons]
    cases hlive : r.live off with
    | true => rfl
    | false => rw [writeRow_dead hlive]; rfl

/-- No unit row is written by a write of STATUS or INT_EN. -/
theorem unitRows_dead_below_engines :
    ((List.range 0x6F).all fun p => (unitRows p).all fun r => !r.live 0x10 && !r.live 0x18) = true := by decide +kernel

theorem unitRows_dead (p : Nat) : (unitRows p).filter (Row.live 0x10) = [] ∧ (unitRows p).filter (Row.live 0x18) = [] := by
  have h : ((unitRows p).all fun r => !r.live 0x10 && !r.live 0x18) = true := by
    by_cases hp : p < 0x6F
    · exact List.all_eq_true.mp unitRows_dead_below_engines p (List.mem_range.mpr hp)
    · rw [unitRows_engine (Nat.not_lt.mp hp)]
      decide
  simp only [List.all_eq_true, Bool.and_eq_true, Bool.not_eq_true'] at h
  exact ⟨List.filter_eq_nil_iff.mpr fun r hr => by simp [(h r hr).1], List.filter_eq_nil_iff.mpr fun r hr => by simp [(h r hr).2]⟩

/-- The row of the ERR_ bits. -/
def errRow : Row := ⟨147, 5, 1, 1, .w1c, fun _ => 0, fun _ => true⟩

/-- The rows of INT_EN. -/
def intEnHiRow : Row := ⟨221, 1, 0, 3, .rw, fun _ => 0, fun _ => true⟩

def intEnRow : Row := ⟨192, 1, 0, 16, .rw, fun _ => 0, fun _ => true⟩

theorem rowsOf_status (p : Nat) : (rowsOf p).filter (Row.live 0x10) = [errRow] := by
  rw [rowsOf, List.filter_append, (unitRows_dead p).1]
  rfl

theorem rowsOf_intEn (p : Nat) : (rowsOf p).filter (Row.live 0x18) = [intEnHiRow, intEnRow] := by
  rw [rowsOf, List.filter_append, (unitRows_dead p).2]
  rfl

/-! ### INT_EN and the ERR_ bits -/

theorem writeIntEn (s : State) (p v : Nat) :
    s.writeFields p 0x18 v = (s.wr (C.INT_EN_HI p) (bits v 29 3)).wr (C.INT_EN p) (bits v 0 16) := by
  rw [writeFields_live, rowsOf_intEn]
  rfl

/-- A write of 1s to a W1C bit. -/
def State.clear1 (s : State) (f : Fld) (b : Nat) : State := s.wr f (s.rd f &&& (1 ^^^ b))

theorem writeErr (s : State) (p v : Nat) :
    s.writeFields p 0x10 v = ((((s.clear1 (C.ERR_ADDR p) (bits v 19 1)).clear1 (C.ERR_LOCK p) (bits v 20 1)).clear1 (C.ERR_STATE p)
      (bits v 21 1)).clear1 (C.ERR_VALUE p) (bits v 22 1)).clear1 (C.ERR_BUSY p) (bits v 23 1) := by
  rw [writeFields_live, rowsOf_status]
  rfl

theorem clear1_rd_ne {s : State} {f g : Fld} {b : Nat} (h : g.key ≠ f.key) : (s.clear1 f b).rd g = s.rd g := State.rd_wr_ne s f g _ h

theorem clear1_rd_self (s : State) {f : Fld} (hf : f.width = 1) (value : Word) (i : Nat) :
    (s.clear1 f (bits value.toNat i 1)).rd f = if value.getLsbD i then 0 else s.rd f % 2 := by
  have hbits : bits value.toNat i 1 = if value.getLsbD i then 1 else 0 := by
    rw [← bit_toNat]
    simp only [bits, bit, decide_eq_true_eq]
    split <;> omega
  rw [State.clear1, State.rd_wr_self, hf, hbits]
  split
  · simp
  · rw [show (1 ^^^ 0) = 1 from rfl, Nat.and_one_is_mod, Nat.pow_one, Nat.mod_mod]

theorem KeepsRegs.clear1 {l : List Nat} {s t : State} (h : KeepsRegs l s t) (f : Fld) (b : Nat) (hf : f.key ∈ l) :
    KeepsRegs l s (t.clear1 f b) := h.wr f _ hf

/-- What a write of STATUS leaves. -/
theorem writeErr_shows (s : State) (p : Nat) (value : Word) :
    (∀ f ∈ ([C.ERR_ADDR p, C.ERR_LOCK p, C.ERR_STATE p, C.ERR_VALUE p, C.ERR_BUSY p] : List Fld),
        (s.writeFields p 0x10 value.toNat).rd f = if value.getLsbD (f.key % 32) then 0 else s.rd f % 2)
      ∧ KeepsRegs [(C.ERR_ADDR p).key, (C.ERR_LOCK p).key, (C.ERR_STATE p).key, (C.ERR_VALUE p).key, (C.ERR_BUSY p).key] s
        (s.writeFields p 0x10 value.toNat) := by
  have hkeys : (C.ERR_ADDR p).key = p * 32768 + 147 ∧ (C.ERR_LOCK p).key = p * 32768 + 148 ∧ (C.ERR_STATE p).key = p * 32768 + 149
      ∧ (C.ERR_VALUE p).key = p * 32768 + 150 ∧ (C.ERR_BUSY p).key = p * 32768 + 151 := ⟨rfl, rfl, rfl, rfl, rfl⟩
  obtain ⟨h1, h2, h3, h4, h5⟩ := hkeys
  have hmod (b : Nat) (hb : 128 ≤ b ∧ b < 160) : (p * 32768 + b) % 32 = b - 128 := by omega
  rw [writeErr]
  refine ⟨?_, ?_⟩
  · simp only [List.forall_mem_cons, h1, h2, h3, h4, h5]
    rw [hmod 147 (by decide), hmod 148 (by decide), hmod 149 (by decide), hmod 150 (by decide), hmod 151 (by decide)]
    have hw : (C.ERR_ADDR p).width = 1 ∧ (C.ERR_LOCK p).width = 1 ∧ (C.ERR_STATE p).width = 1 ∧ (C.ERR_VALUE p).width = 1
        ∧ (C.ERR_BUSY p).width = 1 := ⟨rfl, rfl, rfl, rfl, rfl⟩
    simp (disch := simp [*]) only [clear1_rd_ne, clear1_rd_self]
    exact ⟨trivial, trivial, trivial, trivial, trivial, fun _ h => absurd h (by simp)⟩
  · exact (((((KeepsRegs.refl _ s).clear1 _ _ (by simp)).clear1 _ _ (by simp)).clear1 _ _ (by simp)).clear1 _ _ (by simp)).clear1 _ _ (by simp)

/-! ### Words that reach their fields -/

theorem at_toNat {p off : Nat} (hp : p < 183) (ho : off < 0x1000) :
    (BitVec.ofNat 32 (0x40000000 + 0x1000 * p + off)).toNat = 0x40000000 + 0x1000 * p + off := by
  rw [BitVec.toNat_ofNat]
  exact Nat.mod_eq_of_lt (by omega)

/-- A write of a common word other than CTRL, FAULT and PERTURB. -/
theorem writeWord_common {s : State} {path : Path} {p off : Nat} (v : Nat) (hr : s.runs p = true ∨ off = 0x10) (ho : off < 0x40)
    (hn : off ≠ 0xC ∧ off ≠ 0x20 ∧ off ≠ 0x28) : s.writeWord path p off v = s.writeFields p off v := by
  obtain ⟨h1, h2, h3⟩ := hn
  have hd : defined p off = true := by simp [defined, ho]
  unfold State.writeWord
  simp only [hd, h1, h2, h3, ho, Bool.not_true, Bool.false_eq_true, if_false, if_true]
  split
  · rfl
  · rename_i h10
    simp [hr.resolve_right h10]

/-- A write of a word of a unit's region. -/
theorem writeWord_unit {s : State} {path : Path} {p off : Nat} (v : Nat) (hr : s.runs p = true) (hd : defined p off = true)
    (ho : 0x40 ≤ off) : s.writeWord path p off v = s.unitWrite path p off v := by
  have h : off ≠ 0x10 ∧ off ≠ 0xC ∧ off ≠ 0x20 ∧ off ≠ 0x28 ∧ ¬off < 0x40 := by omega
  obtain ⟨h1, h2, h3, h4, h5⟩ := h
  simp [State.writeWord, hd, hr, h1, h2, h3, h4, h5]

theorem unitWrite_reg {s : State} {path : Path} {off : Nat} (v : Nat) (h : 0x48 ≤ off) :
    s.unitWrite path pREG off v = s.writeFields pREG off v := by
  have h1 : off ≠ 0x40 ∧ off ≠ 0x44 := by omega
  unfold State.unitWrite
  simp [pREG, pACQ, pEMT, pLMP, pSCN, pCONVH, pFLT, pAFE, pCAL, pSAF, pPWR, pRST, pSEC, pNVS, pMON, h1]

theorem unitWrite_engine {s : State} {path : Path} {k off : Nat} (v : Nat) (h : 0x4C ≤ off) :
    s.unitWrite path (pRe k) off v = s.writeFields (pRe k) off v := by
  have h1 : off ≠ 0x40 ∧ off ≠ 0x44 ∧ off ≠ 0x48 := by omega
  have hk : pRe k - 0x6F = k := Nat.add_sub_cancel_left ..
  have hp : 0x6F ≤ pRe k := Nat.le_add_right _ _
  unfold State.unitWrite State.reWord
  rw [if_pos hp, hk]
  simp [h1]

/-! ### The RE group -/

/-- The row of PARAM. -/
def paramRow : Row := ⟨2048, 64, 32, 32, .rws, fun _ => 0, fun _ => true⟩

theorem rowsOf_param {n : Nat} (hn : n < 64) : (rowsOf pREG).filter (Row.live (0x100 + 4 * n)) = [paramRow] := by
  have hrows : rowsOf pREG = (commonRows ++ REG.rows.take 13) ++ paramRow :: REG.rows.drop 14 := rfl
  have hdead : ∀ n < 64, (commonRows ++ REG.rows.take 13).all (fun r => !r.live (0x100 + 4 * n)) = true
      ∧ (REG.rows.drop 14).all (fun r => !r.live (0x100 + 4 * n)) = true ∧ paramRow.live (0x100 + 4 * n) = true := by decide +kernel
  obtain ⟨h1, h2, h3⟩ := hdead n hn
  have hnil {l : List Row} (h : l.all (fun r => !r.live (0x100 + 4 * n)) = true) : l.filter (Row.live (0x100 + 4 * n)) = [] :=
    List.filter_eq_nil_iff.mpr fun r hr => by simpa using List.all_eq_true.mp h r hr
  rw [hrows, List.filter_append, List.filter_cons, hnil h1, hnil h2, if_pos h3]
  rfl

theorem writeParam (s : State) {n v : Nat} (hn : n < 64) (hv : v < 2 ^ 32) :
    s.writeFields pREG (0x100 + 4 * n) v = s.wrS (REG.PARAM n) v := by
  have hword : ∀ n < 64, paramRow.inWord (8 * (0x100 + 4 * n)) = [n] := by decide +kernel
  have hlow : 2048 + 32 * n - 8 * (0x100 + 4 * n) = 0 := by omega
  have hbits : bits v 0 32 = v := by
    rw [bits, Nat.pow_zero, Nat.div_one, Nat.mod_eq_of_lt hv]
  rw [writeFields_live, rowsOf_param hn, List.foldl_cons, List.foldl_nil, State.writeRow, hword n hn, List.foldl_cons, List.foldl_nil]
  show s.wrS (REG.PARAM n) (bits v (2048 + 32 * n - 8 * (0x100 + 4 * n)) 32) = _
  rw [hlow, hbits]

/-- The rows of ERR_LIMIT and SKIP_LIMIT. -/
def errLimitRow : Row := ⟨616, 1, 0, 8, .rws, fun _ => 4, fun v => 1 ≤ v⟩

def skipLimitRow : Row := ⟨608, 1, 0, 8, .rws, fun _ => 8, fun v => 1 ≤ v⟩

theorem rowsOf_limits : (rowsOf pREG).filter (Row.live 0x4C) = [errLimitRow, skipLimitRow] := rfl

/-- ERR_LIMIT of 0 is rejected, and SKIP_LIMIT is taken beside it. -/
theorem writeLimits {s : State} {v : Nat} (he : bits v 8 8 = 0) (hs : 0 < bits v 0 8) :
    s.writeFields pREG 0x4C v = (s.wrS REG.SKIP_LIMIT (bits v 0 8)).put (C.ERR_VALUE pREG) true := by
  rw [writeFields_live, rowsOf_limits]
  show (let s1 := if decide (1 ≤ bits v 8 8) then s.wrS REG.ERR_LIMIT (bits v 8 8) else s.err (C.ERR_VALUE pREG)
    if decide (1 ≤ bits v 0 8) then s1.wrS REG.SKIP_LIMIT (bits v 0 8) else s1.err (C.ERR_VALUE pREG)) = _
  rw [he, decide_eq_true (show 1 ≤ bits v 0 8 from hs)]
  rfl

theorem rowsOf_available : (rowsOf pREG).filter (Row.live 0x50) = [] := rfl

/-! ### VOL_ID and VOL_VER -/

theorem unitRows_pRe (k : Nat) : unitRows (pRe k) = RE.rows := unitRows_engine (Nat.le_add_right _ _)

def volIdRow : Row := ⟨656, 1, 0, 16, .rwh, fun _ => 0, fun _ => true⟩

def volVerRow : Row := ⟨640, 1, 0, 16, .rwh, fun _ => 0, fun _ => true⟩

theorem rowsOf_volume (k : Nat) : (rowsOf (pRe k)).filter (Row.live 0x50) = [volIdRow, volVerRow] := by
  rw [rowsOf, unitRows_pRe]
  rfl

theorem isGroup_engine (k : Nat) : isGroup (pRe k) = false := by
  have h : childrenOf (pRe k) = (0, 0) := by
    unfold childrenOf pRe
    simp [show ∀ n, n < 0x6F → 0x6F + k ≠ n by omega]
    omega
  rw [isGroup, h]
  rfl

theorem mayHold_engine {s : State} {k : Nat} (hr : s.runs (pRe k) = true) : s.mayHold (pRe k) = s.on (C.HALTED (pRe k)) := by
  have hh : haltable (pRe k) = true := by simp [haltable, pRe]
  simp [State.mayHold, hh, State.haltedIn, isGroup_engine, hr]

theorem put_put_same (s : State) (f : Fld) (b : Bool) : (s.put f b).put f b = s.put f b := by
  unfold State.put State.wr Store.wr
  rw [Tab.set_set]

/-- One RWH field of a write. -/
def State.writeHeld (s : State) (p : Nat) (f : Fld) (v : Nat) : State := if s.mayHold p then s.wrS f v else s.put (C.ERR_BUSY p) true

theorem writeVolume (s : State) (k v : Nat) : s.writeFields (pRe k) 0x50 v =
    (s.writeHeld (pRe k) (RE.VOL_ID k) (bits v 16 16)).writeHeld (pRe k) (RE.VOL_VER k) (bits v 0 16) := by
  have held (s : State) (f : Fld) (x : Nat) (r : Row) (hr : r.acc = .rwh) (ho : r.ok x = true) :
      s.writeField (pRe k) r f x = s.writeHeld (pRe k) f x := by
    unfold State.writeField State.writeHeld
    rw [hr]
    by_cases hm : s.mayHold (pRe k) = true
    · simp [ho, hm]
    · simp [ho, hm, State.err]
  have hid (s : State) : s.writeRow (pRe k) 0x50 v volIdRow = s.writeHeld (pRe k) (RE.VOL_ID k) (bits v 16 16) :=
    held s _ _ volIdRow rfl rfl
  have hver (s : State) : s.writeRow (pRe k) 0x50 v volVerRow = s.writeHeld (pRe k) (RE.VOL_VER k) (bits v 0 16) :=
    held s _ _ volVerRow rfl rfl
  rw [writeFields_live, rowsOf_volume, List.foldl_cons, List.foldl_cons, List.foldl_nil, hid, hver]

theorem writeVolume_halted {s : State} {k v : Nat} (hr : s.runs (pRe k) = true) (hh : s.on (C.HALTED (pRe k)) = true) :
    s.writeFields (pRe k) 0x50 v = (s.wrS (RE.VOL_ID k) (bits v 16 16)).wrS (RE.VOL_VER k) (bits v 0 16) := by
  have h1 : s.mayHold (pRe k) = true := (mayHold_engine hr).trans hh
  have h2 : (s.wrS (RE.VOL_ID k) (bits v 16 16)).mayHold (pRe k) = true := h1
  rw [writeVolume, State.writeHeld, State.writeHeld, if_pos h1, if_pos h2]

theorem writeVolume_running {s : State} {k v : Nat} (hr : s.runs (pRe k) = true) (hh : s.on (C.HALTED (pRe k)) = false) :
    s.writeFields (pRe k) 0x50 v = s.put (C.ERR_BUSY (pRe k)) true := by
  have hne : (C.HALTED (pRe k)).key ≠ (C.ERR_BUSY (pRe k)).key := by simp [C.HALTED, C.ERR_BUSY, fld_key]
  have h1 : ¬s.mayHold (pRe k) = true := by rw [mayHold_engine hr, hh]; decide
  have hr2 : (s.put (C.ERR_BUSY (pRe k)) true).runs (pRe k) = true := by
    have hdom : (PWR.DOM_ON (domainOf (pRe k))).key ≠ (C.ERR_BUSY (pRe k)).key := ?_
    · exact (runs_of_regs (s := s) (t := s.put (C.ERR_BUSY (pRe k)) true) rfl (State.rd_put_ne s _ _ _ hdom)).trans hr
    rw [domainOf_pRe]
    simp only [PWR.DOM_ON, C.ERR_BUSY, fld_key, pageBits, pRe]
    omega
  have h2 : ¬(s.put (C.ERR_BUSY (pRe k)) true).mayHold (pRe k) = true := by
    rw [mayHold_engine hr2, State.on_put_ne _ _ _ _ hne, hh]
    decide
  rw [writeVolume, State.writeHeld, State.writeHeld, if_neg h1, if_neg h2, put_put_same]

/-! ### The statement -/

theorem not_writesWait {s : State} {p : Nat} (h : domainOf p ≠ 151) : ¬s.writesWait p := fun hw => h hw.2

theorem defined_param : ∀ n < 64, defined pREG (0x100 + 4 * n) = true := by decide +kernel

theorem defined_volume (k : Nat) : defined (pRe k) 0x50 = true := by
  rw [defined, unitRows_pRe]
  rfl

/-- Settles O20: each word by its live rows. -/
theorem registerWriteByAccessCode : Obligations.RegisterWriteByAccessCode := by
  unfold Obligations.RegisterWriteByAccessCode
  intro path value s v at_
  have hv : v < 2 ^ 32 := value.isLt
  have hwrite {p off : Nat} (hp : p < 183) (ho : off < 0x1000) (hal : off % 4 = 0) (hw : ¬s.writesWait p) :
      exec (.registerWrite path (at_ p off) value) s = .next (s.writeWord path p off v).written :=
    registerWrite_folio hp ho (at_toNat hp ho) hal hw
  have hreg {off : Nat} (ho : off < 0x1000) (hal : off % 4 = 0) (hr : s.runs pREG = true) (hd : defined pREG off = true)
      (hlo : 0x48 ≤ off) : exec (.registerWrite path (at_ pREG off) value) s = .next (s.writeFields pREG off v).written := by
    rw [hwrite (by decide) ho hal (not_writesWait (by decide)), writeWord_unit v hr hd (by omega), unitWrite_reg v hlo]
  refine ⟨fun p hp hr hw => ⟨_, hwrite hp (by decide) (by decide) hw, ?intEn⟩,
    fun p hp hw => ⟨_, hwrite hp (by decide) (by decide) hw, ?status⟩, fun n hn hr => ?param, fun hr he hs => ?limits,
    fun k hk hr => ?volume, fun hr => ?available⟩
  case intEn =>
    have hne : (C.INT_EN_HI p).key ≠ (C.INT_EN p).key := by simp [C.INT_EN, C.INT_EN_HI, fld_key]
    rw [writeWord_common v (.inl hr) (by decide) (by decide), writeIntEn]
    refine ⟨?_, ?_, ((KeepsRegs.refl _ s).wr _ _ (by simp)).wr _ _ (by simp), rfl⟩
    · rw [State.rd_wr_self]
      simp [bits, C.INT_EN, fld]
    · rw [State.rd_wr_ne _ _ _ _ hne, State.rd_wr_self]
      simp only [bits, C.INT_EN_HI, fld, Nat.mod_mod]
      omega
  case status =>
    rw [writeWord_common v (.inr rfl) (by decide) (by decide)]
    obtain ⟨hbits, hkeep⟩ := writeErr_shows s p value
    refine ⟨hbits, hkeep, ?_⟩
    show s.writeFields p 0x10 v = { s with regs.cur := (s.writeFields p 0x10 v).regs.cur }
    rw [writeErr]
    rfl
  case param => rw [hreg (by omega) (by omega) hr (defined_param n hn) (by omega), writeParam s hn hv]
  case limits =>
    have h0 : bits v 0 8 = v % 2 ^ 8 := by simp [bits]
    rw [hreg (by decide) (by decide) hr (by decide) (by decide), writeLimits he (h0 ▸ hs), h0]
  case volume =>
    have hd : domainOf (pRe k) ≠ 151 := by rw [domainOf_pRe]; omega
    have hp : pRe k < 183 := by simp only [pRe]; omega
    have hvol : exec (.registerWrite path (at_ (pRe k) 0x50) value) s = .next (s.writeFields (pRe k) 0x50 v).written := by
      rw [hwrite hp (by decide) (by decide) (not_writesWait hd), writeWord_unit v hr (defined_volume k) (by decide),
        unitWrite_engine v (by decide)]
    have hid : bits v 16 16 = v / 2 ^ 16 := by simp only [bits]; omega
    have hver : bits v 0 16 = v % 2 ^ 16 := by simp [bits]
    refine ⟨fun hh => ?_, fun hh => ?_⟩
    · rw [hvol, writeVolume_halted hr hh, hid, hver]
    · rw [hvol, writeVolume_running hr hh]
  case available =>
    rw [hreg (by decide) (by decide) hr (by decide) (by decide), writeFields_live, rowsOf_available]
    rfl

end Sys2Proof.Machine
end

section
/-! PROOFS. HALT and HALTED: what the blocks do as they halt and resume leaves them alone (R47 to R49). -/
namespace Sys2Proof.Machine
open Sys2Proof

/-! ### Fields by their place in a folio -/

/-- The bit of its folio at which a field begins. -/
def Fld.offset (f : Fld) : Nat := f.key % pageBits

theorem fld_offset {p b w r : Nat} (hb : b < pageBits) : (fld p b w r).offset = b := by
  rw [Fld.offset, fld_key, Nat.add_comm, Nat.add_mul_mod_self_right, Nat.mod_eq_of_lt hb]

theorem fld_page {p b w r : Nat} (hb : b < pageBits) : (fld p b w r).key / pageBits = p := by
  rw [fld_key, Nat.mul_comm, Nat.mul_add_div (by decide), Nat.div_eq_of_lt hb, Nat.add_zero]

theorem key_ne_of_offset {f g : Fld} (h : f.offset ≠ g.offset) : f.key ≠ g.key := fun e => h (congrArg (· % pageBits) e)

theorem rd_wr_offset {s : State} {f g : Fld} {v : Nat} (h : g.offset ≠ f.offset) : (s.wr f v).rd g = s.rd g :=
  State.rd_wr_ne s f g v (key_ne_of_offset h)

/-- HALT and HALTED, of any folio. -/
def Fld.halts (f : Fld) : Prop := f.offset = 127 ∨ f.offset = 158

theorem halts_halt (p : Nat) : (C.HALT p).halts := .inl (fld_offset (by decide))

theorem halts_halted (p : Nat) : (C.HALTED p).halts := .inr (fld_offset (by decide))

theorem Fld.halts.ne {f : Fld} (h : f.halts) {p b w r : Nat} (hb : b < pageBits ∧ b ≠ 127 ∧ b ≠ 158) : f.key ≠ (fld p b w r).key := by
  obtain ⟨h1, h2, h3⟩ := hb
  refine key_ne_of_offset ?_
  rw [fld_offset h1]
  rcases h with h | h <;> rw [h]
  · exact fun e => h2 e.symm
  · exact fun e => h3 e.symm

/-! ### The unit rows hold neither HALT nor HALTED -/

/-- A row all of whose elements lie beyond the common words, or in the unit's bits of STATUS. -/
def Row.beyond (r : Row) : Bool := Nat.ble 160 r.bit || (Nat.ble 128 r.bit && Nat.ble (r.bit + r.stride * (r.n - 1)) 157) || r.n == 0

theorem unitRows_beyond (p : Nat) : (unitRows p).all Row.beyond = true := by
  by_cases h : p < 0x6F
  · have hall : ((List.range 0x6F).all fun p => (unitRows p).all Row.beyond) = true := by decide +kernel
    exact List.all_eq_true.mp hall p (List.mem_range.mpr h)
  · rw [unitRows_engine (Nat.not_lt.mp h)]
    decide

theorem fieldsOf_not_halts {p : Nat} {a : Acc} {g : Fld} (hg : g ∈ fieldsOf p a) : ¬g.halts := by
  have hpage := fieldsOf_page hg
  obtain ⟨r, hr, hgr⟩ := List.mem_flatMap.mp hg
  obtain ⟨j, hj, rfl⟩ := List.mem_map.mp hgr
  have hbeyond := List.all_eq_true.mp (unitRows_beyond p) r (List.mem_of_mem_filter hr)
  have hn : j < r.n := List.mem_range.mp hj
  have hj' : r.stride * j ≤ r.stride * (r.n - 1) := Nat.mul_le_mul_left _ (by omega)
  simp only [Row.beyond, Bool.or_eq_true, Bool.and_eq_true, Nat.ble_eq, beq_iff_eq] at hbeyond
  have hoff : (r.fld p j).offset = r.bit + r.stride * j := by
    have hkey : (r.fld p j).key = p * pageBits + (r.bit + r.stride * j) := rfl
    have hmod := Nat.div_add_mod (r.fld p j).key pageBits
    rw [hpage, Nat.mul_comm] at hmod
    unfold Fld.offset
    omega
  unfold Fld.halts
  rw [hoff]
  omega

theorem Fld.halts.lasting {f : Fld} (h : f.halts) : f.lasting := by
  refine ⟨fun g hg e => fieldsOf_not_halts hg ?_, ?_, ?_, ?_, ?_, ?_⟩
  · unfold Fld.halts Fld.offset at *
    rwa [← e]
  · rcases h with h | h <;> exact ne_of_eq_of_ne h (by decide)
  · rcases h with h | h <;> exact ne_of_eq_of_ne h (by decide)
  · rcases h with h | h <;> exact ne_of_eq_of_ne h (by decide)
  · exact h.ne (by decide)
  · exact h.ne (by decide)

/-! ### What the units do as they halt and resume -/

theorem rd_of_regs {s t : State} (h : t.regs = s.regs) (f : Fld) : t.rd f = s.rd f := by
  unfold State.rd
  rw [h]

theorem setEngine_rd (s : State) (k : Nat) (e : Engine) (f : Fld) : (s.setEngine k e).rd f = s.rd f := rfl

theorem lampPins_regs (s : State) (dark : Bool) : (s.lampPins dark).regs = s.regs := by
  unfold State.lampPins
  rfl

section
variable {f : Fld} (hf : f.halts)
include hf

theorem fault_halts (s : State) (p b : Nat) : (s.fault p b).rd f = s.rd f :=
  State.fault_rd _ _ _ _ fun i hi => hf.ne (by simp only [pageBits]; omega)

theorem wr_halts {s : State} {x p b w r v : Nat} (hb : b < pageBits ∧ b ≠ 127 ∧ b ≠ 158) (h : s.rd f = x) :
    (s.wr (fld p b w r) v).rd f = x := (State.rd_wr_ne _ _ _ _ (hf.ne hb)).trans h

theorem put_halts {s : State} {x p b w r : Nat} {v : Bool} (hb : b < pageBits ∧ b ≠ 127 ∧ b ≠ 158) (h : s.rd f = x) :
    (s.put (fld p b w r) v).rd f = x := wr_halts hf hb h

theorem applyHeld_halts (s : State) (p : Nat) : (s.applyHeld p).rd f = s.rd f := by
  refine copyFlds_ne _ _ _ _ fun g hg e => fieldsOf_not_halts hg ?_
  unfold Fld.halts Fld.offset at *
  rwa [← e]

theorem scnStop_halts (s : State) (c p : Nat) : (s.scnStop c p).rd f = s.rd f := by
  have hfold : ((List.range 5).foldl (fun s i => if bit c i then s.fault pSCN i else s) s).rd f = s.rd f := by
    refine List.foldlRecOn (motive := fun t : State => t.rd f = s.rd f) _ _ rfl fun t ht i _ => ?_
    rw [← ht]
    split
    · exact fault_halts hf t pSCN i
    · rfl
  unfold State.scnStop
  extract_lets s0 _ s1
  have h1 : s1.rd f = s.rd f := hfold
  clear_value s1
  split
  · show ((((s1.put SCN.ST_LOOP_CLOSED false).setPhase p).wr SCN.STOP_CAUSE c).raise SCN.INT_STOPPED).rd f = s.rd f
    exact put_halts hf (by decide) (wr_halts hf (by decide) (wr_halts hf (by decide) (put_halts hf (by decide) h1)))
  · exact wr_halts hf (by decide) h1

theorem emtLevel_halts (s : State) (n : Nat) : (s.emtLevel n).rd f = s.rd f := by
  have hwrite : ((s.wr EMT.ST_DERATE_LEVEL n).raise EMT.INT_DERATE_CHANGE).rd f = s.rd f :=
    put_halts hf (by decide) (wr_halts hf (by decide) rfl)
  unfold State.emtLevel
  split
  · rfl
  · split
    · exact (fault_halts hf _ _ _).trans hwrite
    · exact hwrite

theorem setLevel_halts (s : State) (x n : Nat) : (s.setLevel x n).rd f = s.rd f := by
  have hlevel : f.key ≠ (if x = 24 then THM.EMT_LEVEL else THM.LMP_LEVEL).key := by
    split
    · exact hf.ne (by decide)
    · exact hf.ne (by decide)
  have hwrite : ((s.wr (if x = 24 then THM.EMT_LEVEL else THM.LMP_LEVEL) n).raise THM.INT_LEVEL_CHANGE).rd f = s.rd f :=
    put_halts hf (by decide) (State.rd_wr_ne _ _ _ _ hlevel)
  unfold State.setLevel
  extract_lets g s1
  split
  · rfl
  · split
    · exact (emtLevel_halts hf _ _).trans hwrite
    · exact hwrite

theorem forceLevel_halts (s : State) (x : Nat) : (s.forceLevel x).rd f = s.rd f := by
  unfold State.forceLevel
  rw [setLevel_halts hf]
  unfold State.setSlotSeen
  split <;> rfl

theorem thmStopped_halts (s : State) : s.thmStopped.rd f = s.rd f := by
  unfold State.thmStopped
  split
  · rw [forceLevel_halts hf, forceLevel_halts hf]
    rfl
  · rfl

theorem showSpare_halts (s : State) (k : Nat) : (s.showSpare k).rd f = s.rd f := State.rd_put_ne _ _ _ _ (hf.ne (by decide))

theorem Marks.halts {k : Nat} {s t : State} (h : Marks k s t) : t.rd f = s.rd f := by
  refine h.keeps f fun hm => ?_
  rcases List.mem_append.mp hm with hm | hm
  · simp only [markerKeys, List.mem_cons, List.not_mem_nil, or_false] at hm
    rcases hm with e | e | e | e | e
    all_goals exact hf.ne (by decide) e
  · obtain ⟨i, hi, e⟩ := List.mem_map.mp hm
    have hi := List.mem_range.mp hi
    exact hf.ne (by simp only [pageBits]; omega) e.symm

theorem reHalted_halts (s : State) (k : Nat) : (s.reHalted k).rd f = s.rd f := by
  unfold State.reHalted
  rw [retireOld_rd hf.lasting, showSpare_halts hf]
  exact (Marks.giveUpOpt k _ _).halts hf

theorem setReState_halts (s : State) (k st : Nat) : (s.setReState k st).rd f = s.rd f := by
  unfold State.setReState
  rw [showSpare_halts hf]
  exact put_halts hf (by decide) (put_halts hf (by decide) (wr_halts hf (by decide) rfl))

/-- What a unit does as it halts leaves HALT and HALTED. -/
theorem unitHalts_halts (s : State) (p : Nat) : (s.unitHalts p).rd f = s.rd f := by
  unfold State.unitHalts
  split
  · exact scnStop_halts hf s 32 phOpen
  · split
    · exact reHalted_halts hf s _
    · split
      · rfl
      · split
        · exact rd_of_regs (lampPins_regs s true) f
        · split
          · exact thmStopped_halts hf s
          · rfl

/-- An engine whose volume is refused halts by itself; nothing else of HALT and HALTED changes when an engine resumes. -/
theorem reResumed_halts (s : State) (k : Nat) (hk : f.key ≠ (C.HALT (pRe k)).key ∧ f.key ≠ (C.HALTED (pRe k)).key) :
    (s.reResumed k).rd f = s.rd f := by
  unfold State.reResumed
  extract_lets e
  split
  · unfold State.checkAbi
    extract_lets w s1 e1 s2
    have hset := setEngine_rd s k e1 f
    have hs2 : s2.rd f = s.rd f := wr_halts hf (by decide) (wr_halts hf (by decide) (wr_halts hf (by decide) hset))
    clear_value e1 s2
    split
    · rw [setReState_halts hf, State.haltSelf, showSpare_halts hf, State.put, State.rd_wr_ne _ _ _ _ hk.2, State.put,
        State.rd_wr_ne _ _ _ _ hk.1]
      exact put_halts hf (by decide) (put_halts hf (by decide) rfl)
    · rw [setReState_halts hf]
      exact wr_halts hf (by decide) (put_halts hf (by decide) hs2)
  · rw [showSpare_halts hf]
    rfl

/-- What a unit does as it resumes leaves HALT and HALTED, an engine's own aside. -/
theorem unitResumes_halts (s : State) (p : Nat) (hp : p < 0x6F ∨ (f.key ≠ (C.HALT p).key ∧ f.key ≠ (C.HALTED p).key)) :
    (s.unitResumes p).rd f = s.rd f := by
  unfold State.unitResumes
  split
  · unfold State.scnResumed
    split <;> rfl
  · split
    · rename_i h
      have hpage : pRe (p - 0x6F) = p := by simp only [pRe]; omega
      refine reResumed_halts hf s _ ?_
      rw [hpage]
      exact hp.resolve_left (by omega)
    · rfl

end

end Sys2Proof.Machine
end

section
/-! PROOFS. HALT and HALTED: requests, refusals, and the sample boundary (R47 to R49). -/
namespace Sys2Proof.Machine
open Sys2Proof

/-! ### The tree of folios -/

theorem childrenOf_engine {p : Nat} (h : 0x6F ≤ p) : childrenOf p = (0, 0) := by
  unfold childrenOf
  simp [show ∀ n, n < 0x6F → p ≠ n by omega]
  omega

theorem isGroup_below {p : Nat} (h : isGroup p = true) : p < 0x6F := by
  by_contra hp
  rw [isGroup, childrenOf_engine (Nat.not_lt.mp hp)] at h
  exact absurd h (by decide)

/-- A folio comes before its children. -/
theorem lt_of_mem_childPages {p c : Nat} (h : c ∈ childPages p) : p < c := by
  have hbelow : ((List.range 0x6F).all fun p => (childPages p).all fun c => decide (p < c)) = true := by decide +kernel
  by_cases hp : p < 0x6F
  · exact of_decide_eq_true (List.all_eq_true.mp (List.all_eq_true.mp hbelow p (List.mem_range.mpr hp)) c h)
  · rw [childPages, childrenOf_engine (Nat.not_lt.mp hp)] at h
    exact absurd h List.not_mem_nil

/-! ### A block's boundary -/

/-- A boundary of folio q leaves HALT and HALTED of every other folio. -/
theorem takeHalt_other {f : Fld} (hf : f.halts) (s : State) {q : Nat} (hq : f.key ≠ (C.HALT q).key ∧ f.key ≠ (C.HALTED q).key) :
    (s.takeHalt q).rd f = s.rd f := by
  unfold State.takeHalt
  split
  · rfl
  · split
    · rw [unitHalts_halts hf, State.rd_put_ne _ _ _ _ hq.2]
    · rw [unitResumes_halts hf _ _ (.inr hq), applyHeld_halts hf, State.rd_put_ne _ _ _ _ hq.2]

/-- A boundary of a block that is to halt. -/
theorem takeHalt_halts {s : State} {p : Nat} (hh : s.on (C.HALT p) = true) (hr : s.runs p = true) (hg : isGroup p = false) :
    (s.takeHalt p).on (C.HALT p) = true ∧ (s.takeHalt p).on (C.HALTED p) = true := by
  unfold State.takeHalt State.haltPending
  simp only [hh, hr, hg]
  cases hd : s.on (C.HALTED p) with
  | true => exact ⟨hh, hd⟩
  | false =>
    have hne : (C.HALT p).key ≠ (C.HALTED p).key := by simp [C.HALT, C.HALTED, fld_key]
    have h1 := unitHalts_halts (halts_halt p) (s.put (C.HALTED p) true) p
    have h2 := unitHalts_halts (halts_halted p) (s.put (C.HALTED p) true) p
    refine ⟨?_, ?_⟩
    · exact (congrArg (· != 0) (h1.trans (State.rd_put_ne _ _ _ _ hne))).trans hh
    · exact (congrArg (· != 0) h2).trans (State.on_put_self _ _ _ Nat.one_pos)

theorem rwh_nodup_below_engines : ((List.range 0x6F).all fun p => decide ((fieldsOf p .rwh).map (·.key)).Nodup) = true := by
  decide +kernel

/-- A boundary of a block that is to resume: its RWH values come into force. -/
theorem takeHalt_resumes {s : State} {p : Nat} (hp : p < 0x6F) (hh : s.on (C.HALT p) = false) (hd : s.on (C.HALTED p) = true)
    (hr : s.runs p = true) (hg : isGroup p = false) :
    (s.takeHalt p).on (C.HALTED p) = false
      ∧ ∀ f ∈ fieldsOf p .rwh, p ≠ pSCN → (s.takeHalt p).rd f = s.rdS f % 2 ^ f.width := by
  have htake : s.takeHalt p = ((s.put (C.HALTED p) false).applyHeld p).unitResumes p := by
    simp [State.takeHalt, State.haltPending, hh, hd, hr, hg]
  rw [htake]
  refine ⟨?_, fun f hf hs => ?_⟩
  · have h1 := unitResumes_halts (halts_halted p) ((s.put (C.HALTED p) false).applyHeld p) p (.inl hp)
    have h2 := applyHeld_halts (halts_halted p) (s.put (C.HALTED p) false) p
    exact (congrArg (· != 0) (h1.trans h2)).trans (State.on_put_self _ _ _ Nat.one_pos)
  · have hid : ((s.put (C.HALTED p) false).applyHeld p).unitResumes p = (s.put (C.HALTED p) false).applyHeld p := by
      simp [State.unitResumes, hs, Nat.not_le.mpr hp]
    have hnodup := of_decide_eq_true (List.all_eq_true.mp rwh_nodup_below_engines p (List.mem_range.mpr hp))
    rw [hid]
    exact copyFlds_mem _ _ _ f hf hnodup

/-! ### HALT in the tree -/

theorem haltLeaf_other {f : Fld} (hf : f.halts) (s : State) {q : Nat} (hq : f.key ≠ (C.HALT q).key ∧ f.key ≠ (C.HALTED q).key) :
    (s.haltLeaf q).rd f = s.rd f := by
  unfold State.haltLeaf
  split
  · exact put_halts hf (by decide) rfl
  · split
    · rfl
    · split
      · exact put_halts hf (by decide) rfl
      · extract_lets s1
        have h1 : s1.rd f = s.rd f := State.rd_put_ne _ _ _ _ hq.1
        split
        · exact (takeHalt_other hf s1 hq).trans h1
        · exact h1

theorem resumeLeaf_other {f : Fld} (hf : f.halts) (s : State) {q : Nat} (hq : f.key ≠ (C.HALT q).key ∧ f.key ≠ (C.HALTED q).key) :
    (s.resumeLeaf q).rd f = s.rd f := by
  unfold State.resumeLeaf
  split
  · rfl
  · extract_lets s1
    have h1 : s1.rd f = s.rd f := State.rd_put_ne _ _ _ _ hq.1
    split
    · exact (takeHalt_other hf s1 hq).trans h1
    · exact h1

theorem halt_key_ne {p q : Nat} (h : p ≠ q) : (C.HALT p).key ≠ (C.HALT q).key ∧ (C.HALT p).key ≠ (C.HALTED q).key := by
  simp only [C.HALT, C.HALTED, fld_key, pageBits]
  omega

/-- A halt or a resume at a folio beneath leaves HALT of the folios before it. -/
theorem haltTree_before {p : Nat} (on : Bool) (d : Nat) : ∀ (s : State) (c : Nat), p < c → (s.haltTree on d c).rd (C.HALT p) = s.rd (C.HALT p) := by
  induction d with
  | zero => exact fun _ _ _ => rfl
  | succ d ih =>
    intro s c hc
    have hne := halt_key_ne (Nat.ne_of_lt hc)
    unfold State.haltTree
    split
    · exact put_halts (halts_halt p) (by decide) rfl
    · split
      · have hput : (s.put (C.HALT c) on).rd (C.HALT p) = s.rd (C.HALT p) := State.rd_put_ne _ _ _ _ hne.1
        refine List.foldlRecOn (motive := fun t : State => t.rd (C.HALT p) = s.rd (C.HALT p)) _ _ hput fun t ht x hx => ?_
        exact (ih t x (Nat.lt_trans hc (lt_of_mem_childPages hx))).trans ht
      · split
        · exact haltLeaf_other (halts_halt p) s hne
        · exact resumeLeaf_other (halts_halt p) s hne

/-- A group takes HALT, whatever becomes of its children. -/
theorem haltTree_group {s : State} {p : Nat} (on : Bool) (hr : s.runs p = true) (hg : isGroup p = true) :
    (s.haltTree on 5 p).on (C.HALT p) = on := by
  have htree : s.haltTree on 5 p = (childPages p).foldl (fun s c => s.haltTree on 4 c) (s.put (C.HALT p) on) := by
    simp [State.haltTree, hr, hg]
  have hfold : (s.haltTree on 5 p).rd (C.HALT p) = (s.put (C.HALT p) on).rd (C.HALT p) := by
    rw [htree]
    refine List.foldlRecOn (motive := fun t : State => t.rd (C.HALT p) = _) _ _ rfl fun t ht c hc => ?_
    exact (haltTree_before on 4 t c (lt_of_mem_childPages hc)).trans ht
  exact (congrArg (· != 0) hfold).trans (State.on_put_self _ _ _ Nat.one_pos)

theorem haltTree_leaf {s : State} {p : Nat} (on : Bool) (hr : s.runs p = true) (hg : isGroup p = false) :
    s.haltTree on 5 p = if on then s.haltLeaf p else s.resumeLeaf p := by
  simp [State.haltTree, hr, hg]

/-! ### A write of CTRL -/

/-- A state that differs from another in registers alone, and there in VIEW and ERR_VALUE of folios at most. -/
structure Viewed (s t : State) : Prop where
  rd : ∀ f : Fld, f.offset ≠ 125 → f.offset ≠ 150 → t.rd f = s.rd f
  frame : t = { s with regs := t.regs }

theorem any_congr_mem {α : Type} {p q : α → Bool} {l : List α} (h : ∀ a ∈ l, p a = q a) : l.any p = l.any q := by
  induction l with
  | nil => rfl
  | cons a l ih => rw [List.any_cons, List.any_cons, h a List.mem_cons_self, ih fun b hb => h b (List.mem_cons_of_mem _ hb)]

theorem domainOf_lt {p : Nat} (hp : p < 183) : domainOf p < 183 := by
  have h : ∀ p < 183, domainOf p < 183 := by decide +kernel
  exact h p hp

theorem subtree_lt {p q : Nat} (hp : p < 183) (hq : q ∈ subtree p) : q < 183 := by
  have h : ((List.range 183).all fun p => (subtree p).all fun q => decide (q < 183)) = true := by decide +kernel
  exact of_decide_eq_true (List.all_eq_true.mp (List.all_eq_true.mp h p (List.mem_range.mpr hp)) q hq)

namespace Viewed
variable {s t : State} (h : Viewed s t)
include h

theorem fld {p b w r : Nat} (hb : b < pageBits ∧ b ≠ 125 ∧ b ≠ 150) : t.rd (fld p b w r) = s.rd (Machine.fld p b w r) := by
  obtain ⟨h1, h2, h3⟩ := hb
  exact h.rd _ (by rwa [fld_offset h1]) (by rwa [fld_offset h1])

theorem on {p b w r : Nat} (hb : b < pageBits ∧ b ≠ 125 ∧ b ≠ 150) : t.on (Machine.fld p b w r) = s.on (Machine.fld p b w r) :=
  congrArg (· != 0) (h.fld hb)

theorem runs {p : Nat} (hp : p < 183) : t.runs p = s.runs p := by
  have hdom := domainOf_lt hp
  have hrst : t.rst = s.rst := (congrArg State.rst h.frame).trans rfl
  refine runs_of_regs (congrArg RstState.held hrst) (h.fld ?_)
  simp only [pageBits]
  omega

theorem rowOf {c : Nat} (hc : c < 1000) : t.rowOf c = s.rowOf c := by
  have hk : c / 33 < 100 := by omega
  have h1 : t.rd (ACQ.SLIDE_POS (c / 33)) = s.rd (ACQ.SLIDE_POS (c / 33)) := h.fld (by simp only [pageBits]; omega)
  have h2 : t.rd (ACQ.SLIDE_EN (c / 33)) = s.rd (ACQ.SLIDE_EN (c / 33)) := h.fld (by simp only [pageBits]; omega)
  have h3 : t.rd (ACQ.DROP_EN (c / 33)) = s.rd (ACQ.DROP_EN (c / 33)) := h.fld (by simp only [pageBits]; omega)
  have h4 : t.rd (ACQ.DROP_POS (c / 33)) = s.rd (ACQ.DROP_POS (c / 33)) := h.fld (by simp only [pageBits]; omega)
  unfold State.rowOf rowUnder
  dsimp only
  rw [h1, h2, h3, h4]

theorem unitInService {p : Nat} (hp : p < 183) : t.unitInService p = s.unitInService p := by
  have hacq : t.acq = s.acq := (congrArg State.acq h.frame).trans rfl
  have hgrid : t.gridInService = s.gridInService := by
    unfold State.gridInService State.inFrame
    rw [hacq]
  have hre (k : Nat) : t.reState k = s.reState k := h.fld (by decide)
  have hlane (l : Nat) : t.laneState l = s.laneState l := h.fld (by decide)
  have hmirror : t.rd SCN.MIRROR_STATE = s.rd SCN.MIRROR_STATE := h.fld (by decide)
  have hclosed : t.closed = s.closed := h.on (by decide)
  unfold State.unitInService
  rw [h.runs hp, hgrid, hre, hlane, hmirror, hclosed]
  by_cases hsec : 0x26 ≤ p ∧ p ≤ 0x30
  · have hany : ((secChannels (p - 0x26)).any fun c => (t.rowOf c).isSome) = (secChannels (p - 0x26)).any fun c => (s.rowOf c).isSome := by
      refine any_congr_mem fun c hc => ?_
      have hlt := (List.mem_range'_1.mp hc).2
      rw [h.rowOf (by omega)]
    rw [hany]
  · have hfalse : (decide (0x26 ≤ p) && decide (p ≤ 0x30)) = false := by
      rw [← Bool.not_eq_true]
      simpa using hsec
    simp only [hfalse, Bool.false_eq_true, if_false]

theorem serves {p : Nat} (hp : p < 183) :
    (t.operating && (t.inService p || (decide (p = pCONVH) && t.on CONVH.ST_RUNNING)))
      = (s.operating && (s.inService p || (decide (p = pCONVH) && s.on CONVH.ST_RUNNING))) := by
  have hsafety : t.safety = s.safety := h.fld (by decide)
  have hrunning : t.on CONVH.ST_RUNNING = s.on CONVH.ST_RUNNING := h.on (by decide)
  have hin : t.inService p = s.inService p := any_congr_mem fun q hq => h.unitInService (subtree_lt hp hq)
  unfold State.operating
  rw [hsafety, hrunning, hin]

theorem atBoundary (p : Nat) : t.atBoundary p = s.atBoundary p := by
  have hacq : t.acq = s.acq := (congrArg State.acq h.frame).trans rfl
  have heng (k : Nat) : t.engine k = s.engine k := by
    unfold State.engine
    rw [show t.engines = s.engines from (congrArg State.engines h.frame).trans rfl]
  unfold State.atBoundary State.inShot
  rw [hacq, heng]

end Viewed

theorem Viewed.wr {s : State} {g : Fld} (v : Nat) (hg : g.offset = 125 ∨ g.offset = 150) : Viewed s (s.wr g v) where
  rd f h1 h2 := rd_wr_offset (by rcases hg with hg | hg <;> rw [hg] <;> assumption)
  frame := rfl

/-- VIEW's row. -/
def viewRow : Row := ⟨125, 1, 0, 2, .rw, fun _ => 0, fun v => v ≤ 2⟩

theorem rowsOf_ctrl (p : Nat) : (rowsOf p).filter (Row.live 0xC) = [viewRow] := by
  have hunit : (unitRows p).filter (Row.live 0xC) = [] := by
    refine List.filter_eq_nil_iff.mpr fun r hr => ?_
    have hbeyond := List.all_eq_true.mp (unitRows_beyond p) r hr
    have hnone : r.inWord (8 * 0xC) = [] := by
      refine List.filter_eq_nil_iff.mpr fun j hj => ?_
      have hn : j < r.n := List.mem_range.mp hj
      simp only [Row.beyond, Bool.or_eq_true, Bool.and_eq_true, Nat.ble_eq, beq_iff_eq] at hbeyond
      simp only [Bool.and_eq_true, decide_eq_true_eq, not_and]
      omega
    simp [Row.live, hnone]
  rw [rowsOf, List.filter_append, hunit]
  rfl

theorem viewed_ctrl (s : State) (p v : Nat) : Viewed s (s.writeFields p 0xC v) := by
  rw [writeFields_live, rowsOf_ctrl]
  show Viewed s (if viewRow.ok (bits v 29 2) then s.wr (C.VIEW p) (bits v 29 2) else s.put (C.ERR_VALUE p) true)
  split
  · exact Viewed.wr _ (.inl (fld_offset (by decide)))
  · exact Viewed.wr _ (.inr (fld_offset (by decide)))

/-- HALT's write, on the state in which VIEW's has had its effect. -/
theorem haltWrite_eq {path : Path} {page : Fin 183} {value : Word} {s : State} (hr : s.runs page = true) (hw : ¬s.writesWait page) :
    exec (.haltWrite path page value) s
      = .next (((s.writeFields page 0xC value.toNat).haltTree (value.getLsbD 31) 5 page).written) := by
  have hd : defined page 0xC = true := rfl
  have hword : s.writeWord path page 0xC value.toNat = s.ctrlWord page value.toNat := by
    simp [State.writeWord, hd, hr]
  show Host.Outcome.next (s.wordCommand path page 0xC value) = _
  rw [wordCommand_written value page.isLt (by decide) (by decide) hw, hword, State.ctrlWord, bit_toNat]

theorem written_on (s : State) (f : Fld) : s.written.on f = s.on f := by
  unfold State.written State.eventsQuiet
  split <;> rfl

/-! ### The statement -/

section
variable {s : State} {p : Nat}

theorem haltLeaf_refused (hh : haltable p = true) (ho : s.on (C.HALT p) = false)
    (hs : (s.operating && (s.inService p || (decide (p = pCONVH) && s.on CONVH.ST_RUNNING))) = true) :
    s.haltLeaf p = s.put (C.ERR_STATE p) true := by
  unfold State.haltLeaf
  simp only [hh, ho, hs]
  rfl

theorem haltLeaf_unable (hh : haltable p = false) : s.haltLeaf p = s.put (C.ERR_VALUE p) true := by
  unfold State.haltLeaf
  simp only [hh]
  rfl

theorem haltLeaf_taken (hh : haltable p = true) (ho : s.on (C.HALT p) = false)
    (hs : (s.operating && (s.inService p || (decide (p = pCONVH) && s.on CONVH.ST_RUNNING))) = false) :
    s.haltLeaf p = if idlesAtBoundary p && (s.put (C.HALT p) true).atBoundary p then (s.put (C.HALT p) true).takeHalt p
      else s.put (C.HALT p) true := by
  unfold State.haltLeaf
  simp only [hh, ho, hs]
  rfl

theorem resumeLeaf_taken (hh : haltable p = true) (hi : idlesAtBoundary p = false) : s.resumeLeaf p = s.put (C.HALT p) false := by
  unfold State.resumeLeaf
  simp only [hh, hi]
  rfl

end

theorem idlesAtBoundary_below {p : Nat} (h : idlesAtBoundary p = false) : p < 0x6F := by
  simp only [idlesAtBoundary, Bool.or_eq_false_iff, decide_eq_false_iff_not] at h
  exact Nat.not_le.mp h.2

theorem atBoundary_of_not_idles {s : State} {p : Nat} (h : idlesAtBoundary p = false) : s.atBoundary p = true := by
  simp only [idlesAtBoundary, Bool.or_eq_false_iff, decide_eq_false_iff_not] at h
  obtain ⟨⟨h1, h2⟩, h3⟩ := h
  simp [State.atBoundary, h1, h2, h3]

/-- Settles O21: HALT's write by the leaf that it reaches, with the boundary of a block that idles at it, or by the command of the
boundary. -/
theorem haltRule : Obligations.HaltRule := by
  unfold Obligations.HaltRule
  intro path page value s p refused serves hr hw
  have hview : Viewed s (s.writeFields p 0xC value.toNat) := viewed_ctrl s p value.toNat
  have hexec := haltWrite_eq (path := path) (value := value) hr hw
  generalize hs0 : s.writeFields page 0xC value.toNat = s0 at *
  have hr0 : s0.runs p = true := (hview.runs page.isLt).trans hr
  have hserve := hview.serves page.isLt
  have hhalt : s0.on (C.HALT p) = s.on (C.HALT p) := hview.on (by decide)
  have hhalted : s0.on (C.HALTED p) = s.on (C.HALTED p) := hview.on (by decide)
  have hne : (C.HALTED p).key ≠ (C.HALT p).key := by simp [C.HALT, C.HALTED, fld_key]
  have hput (f : Fld) (hf : (C.HALT p).key ≠ f.key ∧ (C.HALTED p).key ≠ f.key) (hw : 0 < f.width) :
      (s0.put f true).on (C.HALT p) = s.on (C.HALT p) ∧ (s0.put f true).on (C.HALTED p) = s.on (C.HALTED p)
        ∧ (s0.put f true).on f = true :=
    ⟨(State.on_put_ne _ _ _ _ hf.1).trans hhalt, (State.on_put_ne _ _ _ _ hf.2).trans hhalted, State.on_put_self _ _ _ hw⟩
  refine ⟨fun hg => ⟨_, hexec, ?group⟩, fun hg hi hb hh hv ho hserv => ⟨_, hexec, ?idle⟩, fun hg hi => ?block⟩
  case group =>
    rw [written_on]
    exact haltTree_group _ hr0 hg
  case idle =>
    rw [written_on, written_on, haltTree_leaf _ hr0 hg, if_pos hv, haltLeaf_taken hh (hhalt.trans ho) (hserve.trans hserv)]
    have hb0 : (s0.put (C.HALT p) true).atBoundary p = true := (hview.atBoundary p).trans hb
    rw [if_pos (by rw [hi, hb0]; rfl)]
    have hrun : (s0.put (C.HALT p) true).runs p = true := by
      refine (runs_of_regs (s := s0) (t := s0.put (C.HALT p) true) rfl (State.rd_put_ne s0 _ _ _ ?_)).trans hr0
      have hdom : domainOf p < 183 := domainOf_lt page.isLt
      simp only [PWR.DOM_ON, C.HALT, fld_key, pageBits]
      omega
    exact takeHalt_halts (State.on_put_self _ _ _ Nat.one_pos) hrun hg
  case block =>
    have hleaf (hv : value.getLsbD 31 = true) : s0.haltTree (value.getLsbD 31) 5 p = s0.haltLeaf p := by
      rw [haltTree_leaf _ hr0 hg, if_pos hv]
    have hresume (hv : value.getLsbD 31 = false) : s0.haltTree (value.getLsbD 31) 5 p = s0.resumeLeaf p := by
      rw [haltTree_leaf _ hr0 hg, if_neg (by rw [hv]; decide)]
    have heffect : exec (.haltTakeEffect page) s = .next (s.takeHalt p) := by
      show Host.Outcome.next _ = _
      rw [if_pos (atBoundary_of_not_idles hi)]
    refine ⟨fun hh hv ho hserv => ⟨_, hexec, ?taken⟩, fun hh hv ho hserv => ⟨_, hexec, ?state⟩, fun hh hv => ⟨_, hexec, ?value⟩,
      fun hh hv => ⟨_, hexec, ?resume⟩, fun ho hd => ⟨_, heffect, ?halts⟩, fun ho hd => ⟨_, heffect, ?resumes⟩⟩
    case taken =>
      rw [written_on, written_on, hleaf hv, haltLeaf_taken hh (hhalt.trans ho) (hserve.trans hserv), if_neg (by rw [hi]; simp)]
      exact ⟨State.on_put_self _ _ _ Nat.one_pos, (State.on_put_ne _ _ _ _ hne).trans hhalted⟩
    case state =>
      rw [written_on, written_on, written_on, hleaf hv, haltLeaf_refused hh (hhalt.trans ho) (hserve.trans hserv)]
      exact hput (C.ERR_STATE p) ⟨by simp [C.HALT, C.ERR_STATE, fld_key], by simp [C.HALTED, C.ERR_STATE, fld_key]⟩ Nat.one_pos
    case value =>
      rw [written_on, written_on, written_on, hleaf hv, haltLeaf_unable hh]
      exact hput (C.ERR_VALUE p) ⟨by simp [C.HALT, C.ERR_VALUE, fld_key], by simp [C.HALTED, C.ERR_VALUE, fld_key]⟩ Nat.one_pos
    case resume =>
      rw [written_on, hresume hv, resumeLeaf_taken hh hi]
      exact State.on_put_self _ _ _ Nat.one_pos
    case halts =>
      exact (takeHalt_halts ho hr hg).symm
    case resumes => exact takeHalt_resumes (idlesAtBoundary_below hi) ho hd hr hg

end Sys2Proof.Machine
end

section
/-! PROOFS. COMMIT, its check, refusals and ABORT (R50, R51, R368). -/
namespace Sys2Proof.Machine
open Sys2Proof

/-! ### Writes to one field of many folios -/

/-- What every step of a fold keeps, the fold keeps. -/
theorem foldl_keeps {α β : Type} (g : State → β) {f : State → α → State} {l : List α} (h : ∀ s, ∀ a ∈ l, g (f s a) = g s) (s : State) :
    g (l.foldl f s) = g s := by
  induction l generalizing s with
  | nil => rfl
  | cons a l ih =>
    rw [List.foldl_cons, ih (fun s b hb => h s b (List.mem_cons_of_mem _ hb)), h s a List.mem_cons_self]

/-- What one step of a fold brings about and the others keep, the fold brings about. -/
theorem foldl_mem {α : Type} {P : State → Prop} {f : State → α → State} {l : List α} {a : α} (ha : a ∈ l) (hmake : ∀ s, P (f s a))
    (hkeep : ∀ s b, P s → P (f s b)) (s : State) : P (l.foldl f s) := by
  induction l generalizing s with
  | nil => exact absurd ha List.not_mem_nil
  | cons b l ih =>
    rw [List.foldl_cons]
    rcases List.mem_cons.mp ha with rfl | ha
    · exact List.foldlRecOn (motive := P) _ _ (hmake s) fun t ht c _ => hkeep t c ht
    · exact ih ha _

theorem on_wr_offset {s : State} {f g : Fld} {v : Nat} (h : g.offset ≠ f.offset) : (s.wr f v).on g = s.on g :=
  congrArg (· != 0) (rd_wr_offset h)

theorem on_put_offset {s : State} {f g : Fld} {b : Bool} (h : g.offset ≠ f.offset) : (s.put f b).on g = s.on g := on_wr_offset h

/-- A put of b leaves b in a field of the same place and width, if it was there. -/
theorem on_put_of_on {s : State} {p q c w r : Nat} {b : Bool} (_ : c < pageBits) (hw : 0 < w) (h : s.on (fld p c w r) = b) :
    (s.put (fld q c w r) b).on (fld p c w r) = b := by
  by_cases hpq : p = q
  · subst hpq
    exact State.on_put_self _ _ _ hw
  · rw [State.on_put_ne]
    · exact h
    · simp only [fld_key, pageBits] at *
      omega

/-! ### The parts of a commit -/

/-- The state in which no folio shows REFUSED. -/
def State.refusedCleared (s : State) : State := (List.range folioCount).foldl (fun s p => s.put (C.REFUSED p) false) s

theorem refusedCleared_off (s : State) {p : Nat} (hp : p < 183) : s.refusedCleared.on (C.REFUSED p) = false :=
  foldl_mem (P := fun s => s.on (C.REFUSED p) = false) (List.mem_range.mpr hp) (fun _ => State.on_put_self _ _ _ Nat.one_pos)
    (fun _ _ h => on_put_of_on (by decide) Nat.one_pos h) s

theorem refusedCleared_frame (s : State) : s.refusedCleared = { s with regs.cur := s.refusedCleared.regs.cur } := by
  unfold State.refusedCleared
  refine List.foldlRecOn (motive := fun t : State => t = { s with regs.cur := t.regs.cur }) _ _ rfl fun t ht p _ => ?_
  rw [ht]
  rfl

/-- The state in which no folio holds staged values any more. -/
def State.unstaged (s : State) : State :=
  (List.range folioCount).foldl (fun s p => (s.put (C.STAGED p) false).put (C.APPLYING p) false) s

theorem unstaged_rd {s : State} {f : Fld} (h : f.offset ≠ 302 ∧ f.offset ≠ 301) : s.unstaged.rd f = s.rd f := by
  refine foldl_keeps (fun s => s.rd f) (fun s p _ => ?_) s
  show ((s.put (C.STAGED p) false).put (C.APPLYING p) false).rd f = s.rd f
  have h1 : f.offset ≠ (C.STAGED p).offset := by rw [C.STAGED, fld_offset (by decide)]; exact h.1
  have h2 : f.offset ≠ (C.APPLYING p).offset := by rw [C.APPLYING, fld_offset (by decide)]; exact h.2
  exact (rd_wr_offset h2).trans (rd_wr_offset h1)

theorem unstaged_shadow (s : State) : s.unstaged.regs.shadow = s.regs.shadow := by
  refine foldl_keeps (fun s => s.regs.shadow) (fun s p _ => ?_) s
  rfl

/-- What a discarded commit shows in the catalogue. -/
def State.discardShown (s : State) (cause : Nat) : State :=
  ((((s.put CAT.CHECKING false).put CAT.CAT_STAGED false).wr CAT.REFUSE_CAUSE cause).wr CAT.GEN_STAGED 0).raise CAT.INT_COMMIT_REFUSED

theorem discardCommit_eq (s : State) (cause : Nat) :
    s.discardCommit cause = { (s.discardShown cause).unstaged with cat.abortPending := false, cat.applying := false } := by
  unfold State.discardCommit State.discardShown State.unstaged
  rfl

/-- A commit has ended without effect, and says why. -/
structure EndedCommit (cause : Nat) (s t : State) : Prop where
  checking : t.on CAT.CHECKING = false
  staged : t.on CAT.CAT_STAGED = false
  cause : t.rd CAT.REFUSE_CAUSE = cause
  shown : t.on CAT.INT_COMMIT_REFUSED = true
  active : t.rd CAT.GEN_ACTIVE = s.rd CAT.GEN_ACTIVE
  shadow : t.regs.shadow = s.regs.shadow

theorem discardCommit_rd {s : State} {cause : Nat} {f : Fld} (h : f.offset ≠ 302 ∧ f.offset ≠ 301) :
    (s.discardCommit cause).rd f = (s.discardShown cause).rd f := by
  have hrd := unstaged_rd (s := s.discardShown cause) h
  have hrest (t : State) : State.rd { t with cat.abortPending := false, cat.applying := false } f = t.rd f := rfl
  rw [discardCommit_eq, hrest]
  exact hrd

/-- A field that is none of those in which a discarded commit shows. -/
theorem discardCommit_rd_other {s : State} {cause : Nat} {f : Fld} (h : f.offset ≠ 302 ∧ f.offset ≠ 301)
    (hk : f.key ∉ [CAT.CHECKING.key, CAT.CAT_STAGED.key, CAT.REFUSE_CAUSE.key, CAT.GEN_STAGED.key, CAT.INT_COMMIT_REFUSED.key]) :
    (s.discardCommit cause).rd f = s.rd f := by
  rw [discardCommit_rd h]
  exact ((((((KeepsRegs.refl _ s).put CAT.CHECKING false (by simp)).put CAT.CAT_STAGED false (by simp)).wr CAT.REFUSE_CAUSE cause (by simp)).wr
    CAT.GEN_STAGED 0 (by simp)).put CAT.INT_COMMIT_REFUSED true (by simp)) f hk

theorem discardCommit_ends (s : State) {cause : Nat} (hc : cause < 16) : EndedCommit cause s (s.discardCommit cause) where
  checking := by
    refine (congrArg (· != 0) (discardCommit_rd (by decide))).trans ?_
    show (s.discardShown cause).on CAT.CHECKING = false
    unfold State.discardShown State.raise
    rw [State.on_put_ne _ _ _ _ (by decide), on_wr_offset (by decide), on_wr_offset (by decide), State.on_put_ne _ _ _ _ (by decide),
      State.on_put_self _ _ _ (by decide)]
  staged := by
    refine (congrArg (· != 0) (discardCommit_rd (by decide))).trans ?_
    show (s.discardShown cause).on CAT.CAT_STAGED = false
    unfold State.discardShown State.raise
    rw [State.on_put_ne _ _ _ _ (by decide), on_wr_offset (by decide), on_wr_offset (by decide), State.on_put_self _ _ _ (by decide)]
  cause := by
    rw [discardCommit_rd (by decide)]
    unfold State.discardShown State.raise
    rw [State.rd_put_ne _ _ _ _ (by decide), rd_wr_offset (by decide), State.rd_wr_self]
    exact Nat.mod_eq_of_lt hc
  shown := by
    refine (congrArg (· != 0) (discardCommit_rd (by decide))).trans ?_
    exact State.on_put_self _ _ _ (by decide)
  active := discardCommit_rd_other (by decide) (by decide)
  shadow := by
    have hshadow : (s.discardShown cause).unstaged.regs.shadow = s.regs.shadow := unstaged_shadow (s.discardShown cause)
    rw [discardCommit_eq]
    generalize (s.discardShown cause).unstaged = t at *
    exact hshadow

/-- Every folio that runs holds its staged copy. -/
def State.allStaged (s : State) : State :=
  (List.range folioCount).foldl (fun s p => if s.runs p then s.put (C.STAGED p) true else s) s

theorem runs_put_offset {s : State} {p : Nat} (hp : p < 183) {f : Fld} {b : Bool} (hf : f.offset < 768) :
    (s.put f b).runs p = s.runs p := by
  refine runs_of_regs (s := s) (t := s.put f b) rfl (rd_wr_offset ?_)
  have hdom := domainOf_lt hp
  have hoff : (PWR.DOM_ON (domainOf p)).offset = 768 + 1 * domainOf p := fld_offset (by simp only [pageBits]; omega)
  rw [hoff]
  omega

theorem staged_offset (p : Nat) : (C.STAGED p).offset = 302 := fld_offset (by decide)

theorem allStaged_step (s : State) (p : Nat) :
    (if s.runs p then s.put (C.STAGED p) true else s) = s ∨ (if s.runs p then s.put (C.STAGED p) true else s) = s.put (C.STAGED p) true := by
  split
  · exact .inr rfl
  · exact .inl rfl

theorem allStaged_rd {s : State} {f : Fld} (h : f.offset ≠ 302) : s.allStaged.rd f = s.rd f := by
  refine foldl_keeps (fun s => s.rd f) (fun s p _ => ?_) s
  rcases allStaged_step s p with e | e
  · exact congrArg (fun t => t.rd f) e
  · exact (congrArg (fun t => t.rd f) e).trans (rd_wr_offset (by rwa [staged_offset]))

theorem allStaged_frame (s : State) : s.allStaged = { s with regs.cur := s.allStaged.regs.cur } := by
  unfold State.allStaged
  refine List.foldlRecOn (motive := fun t : State => t = { s with regs.cur := t.regs.cur }) _ _ rfl fun t ht p _ => ?_
  rcases allStaged_step t p with e | e
  · rw [e]
    exact ht
  · rw [e, ht]
    rfl

theorem allStaged_on {s : State} {p : Nat} (hp : p < 183) (hr : s.runs p = true) : s.allStaged.on (C.STAGED p) = true := by
  have hruns (t : State) (q : Nat) : (if t.runs q then t.put (C.STAGED q) true else t).runs p = t.runs p := by
    rcases allStaged_step t q with e | e
    · rw [e]
    · rw [e]
      exact runs_put_offset hp (by rw [staged_offset]; decide)
  have hon (t : State) (q : Nat) (h : t.on (C.STAGED p) = true) : (if t.runs q then t.put (C.STAGED q) true else t).on (C.STAGED p) = true := by
    rcases allStaged_step t q with e | e
    · rwa [e]
    · rw [e]
      exact on_put_of_on (by decide) Nat.one_pos h
  have hfold : (s.allStaged.runs p = true → s.allStaged.on (C.STAGED p) = true) := by
    refine foldl_mem (P := fun t => t.runs p = true → t.on (C.STAGED p) = true) (List.mem_range.mpr hp) (fun t h => ?_)
      (fun t q ih h => hon t q (ih ((hruns t q).symm.trans h))) s
    rw [hruns] at h
    rw [if_pos h]
    exact State.on_put_self _ _ _ Nat.one_pos
  exact hfold ((foldl_keeps (fun t => t.runs p) (fun t q _ => hruns t q) s).trans hr)

/-! ### Refusal -/

/-- The folios that refuse show it. -/
def State.refusalsShown (s : State) (by_ : List Nat) : State := by_.foldl (fun s p => (s.put (C.REFUSED p) true).err (C.ERR_VALUE p)) s

theorem refusalsShown_on {s : State} {l : List Nat} {p : Nat} (hp : p ∈ l) :
    (s.refusalsShown l).on (C.REFUSED p) = true ∧ (s.refusalsShown l).on (C.ERR_VALUE p) = true := by
  have hoff : (C.REFUSED p).offset = 300 ∧ (C.ERR_VALUE p).offset = 150 := ⟨fld_offset (by decide), fld_offset (by decide)⟩
  have hoff' (q : Nat) : (C.REFUSED q).offset = 300 ∧ (C.ERR_VALUE q).offset = 150 := ⟨fld_offset (by decide), fld_offset (by decide)⟩
  refine foldl_mem (P := fun t => t.on (C.REFUSED p) = true ∧ t.on (C.ERR_VALUE p) = true) hp (fun t => ⟨?_, ?_⟩) (fun t q h => ⟨?_, ?_⟩) s
  · exact (on_put_offset (by rw [hoff.1, hoff.2]; decide)).trans (State.on_put_self _ _ _ Nat.one_pos)
  · exact State.on_put_self _ _ _ Nat.one_pos
  · exact (on_put_offset (by rw [hoff.1, (hoff' q).2]; decide)).trans (on_put_of_on (by decide) Nat.one_pos h.1)
  · have h2 : (t.put (C.REFUSED q) true).on (C.ERR_VALUE p) = true := (on_put_offset (by rw [hoff.2, (hoff' q).1]; decide)).trans h.2
    exact on_put_of_on (by decide) Nat.one_pos h2

theorem refusalsShown_rd {s : State} {l : List Nat} {f : Fld} (h : f.offset ≠ 300 ∧ f.offset ≠ 150) :
    (s.refusalsShown l).rd f = s.rd f := by
  refine foldl_keeps (fun t => t.rd f) (fun t p _ => ?_) s
  have h1 : f.offset ≠ (C.REFUSED p).offset := by rw [C.REFUSED, fld_offset (by decide)]; exact h.1
  have h2 : f.offset ≠ (C.ERR_VALUE p).offset := by rw [C.ERR_VALUE, fld_offset (by decide)]; exact h.2
  exact (rd_wr_offset h2).trans (rd_wr_offset h1)

theorem refusalsShown_shadow (s : State) (l : List Nat) : (s.refusalsShown l).regs.shadow = s.regs.shadow := by
  refine foldl_keeps (fun s => s.regs.shadow) (fun s p _ => ?_) s
  rfl

theorem refuseCommit_eq (s : State) (l : List Nat) :
    s.refuseCommit l = (if l.contains pCAL then (s.refusalsShown l).fault pCAL 1 else s.refusalsShown l).discardCommit
      (if l.any s.refusesState then 4 else 1) := rfl

theorem calFault_rd {s : State} {b : Bool} {f : Fld} (h : f.offset < 256 ∨ 288 ≤ f.offset) :
    (if b then s.fault pCAL 1 else s).rd f = s.rd f := by
  split
  · refine State.fault_rd _ _ _ _ fun i hi => key_ne_of_offset ?_
    rw [C.FAULT, fld_offset (by simp only [pageBits]; omega)]
    omega
  · rfl

theorem calFault_shadow (s : State) (b : Bool) : (if b then s.fault pCAL 1 else s).regs.shadow = s.regs.shadow := by
  split
  · obtain ⟨r, q, h⟩ := State.fault_state s pCAL 1
    rw [h]
  · rfl

/-- The offset of a common field, for `rw`. -/
theorem common_offsets (p : Nat) : (C.REFUSED p).offset = 300 ∧ (C.ERR_VALUE p).offset = 150 ∧ (C.FAULT p 1).offset = 257 :=
  ⟨fld_offset (by decide), fld_offset (by decide), fld_offset (by decide)⟩

theorem not_mem_discardKeys {f : Fld} (h : f.offset ∉ [575, 574, 568, 608, 161]) :
    f.key ∉ [CAT.CHECKING.key, CAT.CAT_STAGED.key, CAT.REFUSE_CAUSE.key, CAT.GEN_STAGED.key, CAT.INT_COMMIT_REFUSED.key] := by
  intro hm
  apply h
  simp only [List.mem_cons, List.not_mem_nil, or_false] at hm ⊢
  unfold Fld.offset
  rcases hm with e | e | e | e | e
  · exact .inl (by rw [e]; rfl)
  · exact .inr (.inl (by rw [e]; rfl))
  · exact .inr (.inr (.inl (by rw [e]; rfl)))
  · exact .inr (.inr (.inr (.inl (by rw [e]; rfl))))
  · exact .inr (.inr (.inr (.inr (by rw [e]; rfl))))

/-- A commit that folios refuse ends, and each of them says so. -/
theorem refuseCommit_shows (s : State) (l : List Nat) :
    EndedCommit (if l.any s.refusesState then 4 else 1) s (s.refuseCommit l)
      ∧ (∀ p ∈ l, (s.refuseCommit l).on (C.REFUSED p) = true ∧ (s.refuseCommit l).on (C.ERR_VALUE p) = true)
      ∧ (pCAL ∈ l → (s.refuseCommit l).on (C.FAULT pCAL 1) = true) := by
  rw [refuseCommit_eq]
  have hlow : (if l.any s.refusesState then 4 else 1) < 16 := by split <;> decide
  have hends := discardCommit_ends (if l.contains pCAL then (s.refusalsShown l).fault pCAL 1 else s.refusalsShown l) hlow
  refine ⟨{ hends with active := ?_, shadow := ?_ }, fun p hp => ?_, fun hcal => ?_⟩
  · exact hends.active.trans ((calFault_rd (by decide)).trans (refusalsShown_rd (by decide)))
  · exact hends.shadow.trans ((calFault_shadow _ _).trans (refusalsShown_shadow s l))
  · obtain ⟨h1, h2, -⟩ := common_offsets p
    obtain ⟨hr, hv⟩ := refusalsShown_on (s := s) hp
    refine ⟨?_, ?_⟩
    · refine (congrArg (· != 0) ((discardCommit_rd_other (by rw [h1]; decide) (not_mem_discardKeys (by rw [h1]; decide))).trans
        (calFault_rd (by rw [h1]; decide)))).trans hr
    · refine (congrArg (· != 0) ((discardCommit_rd_other (by rw [h2]; decide) (not_mem_discardKeys (by rw [h2]; decide))).trans
        (calFault_rd (by rw [h2]; decide)))).trans hv
  · obtain ⟨-, -, h3⟩ := common_offsets pCAL
    have hfault : ((s.refusalsShown l).fault pCAL 1).on (C.FAULT pCAL 1) = true := State.setFaults_on _ _ _ 1 (by decide) (by decide)
    rw [if_pos (List.contains_iff_mem.mpr hcal)]
    exact (congrArg (· != 0) (discardCommit_rd_other (by rw [h3]; decide) (not_mem_discardKeys (by rw [h3]; decide)))).trans hfault

/-! ### The statement -/

theorem EndedCommit.unbox {cause : Nat} {s t : State} (h : EndedCommit cause s t) :
    t.on CAT.CHECKING = false ∧ t.on CAT.CAT_STAGED = false ∧ t.rd CAT.REFUSE_CAUSE = cause ∧ t.on CAT.INT_COMMIT_REFUSED = true
      ∧ t.rd CAT.GEN_ACTIVE = s.rd CAT.GEN_ACTIVE ∧ t.regs.shadow = s.regs.shadow :=
  ⟨h.checking, h.staged, h.cause, h.shown, h.active, h.shadow⟩

theorem commit_idle {s : State} (hc : s.on CAT.CHECKING = false) (hs : s.on CAT.CAT_STAGED = false) :
    s.commit = { s.refusedCleared.put CAT.CHECKING true with regs.staged := s.refusedCleared.regs.shadow } := by
  have hidle : (s.on CAT.CHECKING || s.on CAT.CAT_STAGED) = false := by rw [hc, hs]; rfl
  unfold State.commit State.refusedCleared
  simp only [hidle, Bool.false_eq_true, if_false]

theorem commit_busy {s : State} (h : s.on CAT.CHECKING = true ∨ s.on CAT.CAT_STAGED = true) : s.commit = s.put (C.ERR_BUSY 0) true := by
  simp only [State.commit, h, Bool.or_eq_true, if_true]
  rfl

theorem commit_shows {s : State} (hc : s.on CAT.CHECKING = false) (hs : s.on CAT.CAT_STAGED = false) :
    s.commit.on CAT.CHECKING = true ∧ s.commit.regs.staged = s.regs.shadow ∧ s.commit.regs.shadow = s.regs.shadow
      ∧ (∀ p < 183, s.commit.on (C.REFUSED p) = false) ∧ s.commit = { s with regs := s.commit.regs } := by
  rw [commit_idle hc hs]
  have hshadow : s.refusedCleared.regs.shadow = s.regs.shadow := by
    rw [refusedCleared_frame s]
  have hrefused := fun p (hp : p < 183) => refusedCleared_off s hp
  have hframe := refusedCleared_frame s
  generalize s.refusedCleared = t at *
  refine ⟨State.on_put_self t CAT.CHECKING true Nat.one_pos, hshadow, hshadow, fun p hp => ?_, ?_⟩
  · have hne : (C.REFUSED p).offset ≠ CAT.CHECKING.offset := by rw [C.REFUSED, fld_offset (by decide)]; decide
    exact (on_put_offset (s := t) (b := true) hne).trans (hrefused p hp)
  · rw [hframe]
    rfl

/-- Settles O23: the check by what it finds, COMMIT and ABORT by what the catalogue shows. -/
theorem commitRequestAndCheck : Obligations.CommitRequestAndCheck := by
  unfold Obligations.CommitRequestAndCheck
  intro path s hr checking staged ends busy
  have hcommit : exec (.commit path) s = .next (State.commit { s with bus := {} }) := congrArg _ (State.writeTo_runs s 0 State.commit hr)
  have habort : exec (.abort path) s = .next (State.abort { s with bus := {} }) := congrArg _ (State.writeTo_runs s 0 State.abort hr)
  have hdone (hc : checking = true) : exec .commitCheckDone s = .next (if s.refusers != [] then s.refuseCommit s.refusers
      else if s.cat.abortPending then s.discardCommit 3 else s.stageCommit) := by
    show Host.Outcome.next _ = _
    rw [if_neg (by rw [show s.on CAT.CHECKING = true from hc]; decide)]
  refine ⟨fun hc hs => ⟨_, hcommit, commit_shows hc hs⟩, fun h => ?busy, fun hc hn ha => ⟨_, hdone hc, ?stage⟩,
    fun hc hn => ⟨_, hdone hc, ?refuse⟩, fun hc hn ha => ⟨_, hdone hc, ?aborted⟩, fun hc => ?pending, fun hc hs ha => ⟨_, habort, ?abort⟩,
    fun hc h => ?late⟩
  case busy => rw [hcommit, commit_busy (s := { s with bus := {} }) h]
  case stage =>
    simp only [hn, ha, bne_self_eq_false, Bool.false_eq_true, if_false]
    have hstage : s.stageCommit = (((s.put CAT.CHECKING false).put CAT.CAT_STAGED true).wr CAT.GEN_STAGED (s.rd CAT.GEN_ACTIVE + 1)).allStaged := rfl
    have hrun (p : Nat) (hp : p < 183) (h : s.runs p = true) :
        (((s.put CAT.CHECKING false).put CAT.CAT_STAGED true).wr CAT.GEN_STAGED (s.rd CAT.GEN_ACTIVE + 1)).runs p = true := by
      have hdom := domainOf_lt hp
      have hoff : (PWR.DOM_ON (domainOf p)).offset = 768 + 1 * domainOf p := fld_offset (by simp only [pageBits]; omega)
      refine (runs_of_regs (s := (s.put CAT.CHECKING false).put CAT.CAT_STAGED true)
        (t := ((s.put CAT.CHECKING false).put CAT.CAT_STAGED true).wr CAT.GEN_STAGED (s.rd CAT.GEN_ACTIVE + 1)) rfl (rd_wr_offset ?_)).trans ?_
      · rw [hoff, show CAT.GEN_STAGED.offset = 608 from rfl]
        omega
      · rw [runs_put_offset hp (by decide), runs_put_offset hp (by decide)]
        exact h
    rw [hstage]
    refine ⟨?_, ?_, ?_, fun p hp h => allStaged_on hp (hrun p hp h), allStaged_frame _⟩
    · refine (congrArg (· != 0) (allStaged_rd (by decide))).trans ?_
      exact (on_wr_offset (by decide)).trans ((on_put_offset (by decide)).trans (State.on_put_self _ _ _ Nat.one_pos))
    · refine (congrArg (· != 0) (allStaged_rd (by decide))).trans ?_
      exact (on_wr_offset (by decide)).trans (State.on_put_self _ _ _ Nat.one_pos)
    · rw [allStaged_rd (by decide)]
      exact State.rd_wr_self _ _ _
  case refuse =>
    rw [if_pos (by simpa using hn)]
    obtain ⟨hends, hrefused, hcal⟩ := refuseCommit_shows s s.refusers
    exact ⟨hends.unbox, hrefused, hcal⟩
  case aborted =>
    simp only [hn, ha, bne_self_eq_false, Bool.false_eq_true, if_false, if_true]
    exact (discardCommit_ends s (by decide)).unbox
  case pending =>
    have hon : State.on { s with bus := {} } CAT.CHECKING = true := hc
    rw [habort, State.abort, if_pos hon]
  case abort =>
    have h1 : ¬State.on { s with bus := {} } CAT.CHECKING = true := by
      rw [show State.on { s with bus := {} } CAT.CHECKING = false from hc]
      decide
    have h2 : (State.on { s with bus := {} } CAT.CAT_STAGED && !s.cat.applying) = true := by
      rw [show State.on { s with bus := {} } CAT.CAT_STAGED = true from hs, ha]
      rfl
    rw [State.abort, if_neg h1, if_pos h2]
    exact (discardCommit_ends { s with bus := {} } (by decide)).unbox
  case late =>
    have h1 : ¬State.on { s with bus := {} } CAT.CHECKING = true := by
      rw [show State.on { s with bus := {} } CAT.CHECKING = false from hc]
      decide
    have h2 : ¬(State.on { s with bus := {} } CAT.CAT_STAGED && !s.cat.applying) = true := by
      rcases h with h | h
      · rw [show State.on { s with bus := {} } CAT.CAT_STAGED = false from h]
        simp
      · rw [h]
        simp
    rw [habort, State.abort, if_neg h1, if_neg h2]
    rfl

end Sys2Proof.Machine
end

section
/-! PROOFS. What SAF's shared operations do, said once: the trip bits, the outputs (R418 to R420), the entry of a safety state (R400)
and a trip (R409). -/
namespace Sys2Proof.Machine
open Sys2Proof

/-! ### What SAF's operations leave -/

/-- What SAF's operations leave: they write registers, SAF's own state, the shot that the latch ends, the pins, and what ends with a
state: the skew measurement and EXTEST. -/
structure SafFrame (s t : State) : Prop where
  rest : t = { s with
    regs.cur := t.regs.cur, acq.shot := t.acq.shot, pins := t.pins, cal := t.cal, jtag := t.jtag
    saf := { s.saf with
      posts := t.saf.posts, contactorWait := t.saf.contactorWait, contactorDiff := t.saf.contactorDiff, entering := t.saf.entering
      asked := t.saf.asked, recoverFrames := t.saf.recoverFrames, degradedInFrame := t.saf.degradedInFrame
      lifeTrips := t.saf.lifeTrips, scnRestarted := t.saf.scnRestarted, gapTrips := t.saf.gapTrips } }

theorem SafFrame.refl (s : State) : SafFrame s s := ⟨rfl⟩

theorem SafFrame.trans {s t u : State} (h : SafFrame s t) (h' : SafFrame t u) : SafFrame s u := by
  refine ⟨h'.rest.trans ?_⟩
  conv_lhs => rw [h.rest]

theorem SafFrame.wr {s t : State} (h : SafFrame s t) (f : Fld) (v : Nat) : SafFrame s (t.wr f v) := h.trans ⟨rfl⟩

theorem SafFrame.put {s t : State} (h : SafFrame s t) (f : Fld) (b : Bool) : SafFrame s (t.put f b) := h.trans ⟨rfl⟩

theorem SafFrame.fault {s t : State} (h : SafFrame s t) (p b : Nat) : SafFrame s (t.fault p b) := by
  obtain ⟨r, posts, hf⟩ := State.fault_state t p b
  rw [hf]
  exact h.trans ⟨rfl⟩

theorem SafFrame.pwr {s t : State} (h : SafFrame s t) : t.pwr = s.pwr := (congrArg State.pwr h.rest).trans rfl

theorem SafFrame.prox {s t : State} (h : SafFrame s t) : t.prox = s.prox := (congrArg State.prox h.rest).trans rfl

theorem SafFrame.rst {s t : State} (h : SafFrame s t) : t.rst = s.rst := (congrArg State.rst h.rest).trans rfl

/-! ### Bits of a trip word -/

theorem bit_eq_testBit (v i : Nat) : bit v i = v.testBit i := Nat.testBit_eq_decide_div_mod_eq.symm

/-- Adding a power of two that a number lacks sets that bit alone. -/
theorem testBit_add_two_pow {v i : Nat} (j : Nat) (h : v.testBit i = false) : (v + 2 ^ i).testBit j = (decide (j = i) || v.testBit j) := by
  rw [Nat.add_comm]
  rcases Nat.lt_trichotomy j i with hj | rfl | hj
  · rw [Nat.testBit_two_pow_add_gt hj, decide_eq_false (by omega), Bool.false_or]
  · rw [Nat.testBit_two_pow_add_eq, h, decide_eq_true rfl, Bool.true_or, Bool.not_false]
  · have hlow : v % 2 ^ (i + 1) < 2 ^ i := by
      rw [Nat.testBit_eq_decide_div_mod_eq, decide_eq_false_iff_not] at h
      rw [Nat.pow_succ, Nat.mod_mul]
      have := Nat.mod_lt v (Nat.two_pow_pos i)
      rw [show v / 2 ^ i % 2 = 0 by omega]
      omega
    have hpow : 2 ^ (i + 1) = 2 ^ i + 2 ^ i := by rw [Nat.pow_succ]; omega
    have hv := Nat.div_add_mod v (2 ^ (i + 1))
    have hsum : 2 ^ i + v = 2 ^ (i + 1) * (v / 2 ^ (i + 1)) + (2 ^ i + v % 2 ^ (i + 1)) := by omega
    rw [hsum, Nat.testBit_two_pow_mul_add _ (by omega), if_neg (by omega), decide_eq_false (by omega), Bool.false_or]
    conv_rhs => rw [← hv]
    rw [Nat.testBit_two_pow_mul_add _ (by omega), if_neg (by omega)]

theorem bit_withBit (v i j : Nat) (b : Bool) : bit (withBit v i b) j = if j = i then b else bit v j := by
  simp only [bit_eq_testBit, withBit]
  split
  · next h =>
    split
    · next hj => rw [hj, h]
    · rfl
  · next h =>
    cases b
    · have hset : v.testBit i = true := by simpa using h
      have hge := Nat.ge_two_pow_of_testBit hset
      have hv : 2 ^ i + (v - 2 ^ i) = v := by omega
      have hclear : (v - 2 ^ i).testBit i = false := by
        have := Nat.testBit_two_pow_add_eq (v - 2 ^ i) i
        rw [hv, hset] at this
        simpa using this.symm
      have hj := testBit_add_two_pow j hclear
      rw [Nat.add_comm, hv] at hj
      simp only [Bool.false_eq_true, if_false, hj]
      split
      · next e => rw [e, hclear]
      · next e => rw [decide_eq_false e, Bool.false_or]
    · rw [if_pos rfl, testBit_add_two_pow j (by simpa using h)]
      split
      · next e => rw [decide_eq_true e, Bool.true_or]
      · next e => rw [decide_eq_false e, Bool.false_or]

theorem bit_mod_two_pow {v w i : Nat} (h : i < w) : bit (v % 2 ^ w) i = bit v i := by
  simp [bit_eq_testBit, Nat.testBit_mod_two_pow, h]

/-- A trip word that reads 0 holds no trip. -/
theorem bit_zero_left (i : Nat) : bit 0 i = false := by simp [bit_eq_testBit]

/-! ### Trip bits (R409) -/

/-- The two words of trip bits. -/
def tripWordKeys : List Nat := [SAF.TRIPS_HOLD.key, SAF.TRIPS_LATCH.key]

theorem putTrip_keeps (s : State) (i : Nat) (b : Bool) : KeepsRegs tripWordKeys s (s.putTrip i b) := by
  unfold State.putTrip
  split
  · exact (KeepsRegs.refl _ s).wr _ _ (by decide)
  · exact (KeepsRegs.refl _ s).wr _ _ (by decide)

theorem putTrip_frame (s : State) (i : Nat) (b : Bool) : s.putTrip i b = { s with regs.cur := (s.putTrip i b).regs.cur } := by
  unfold State.putTrip
  split <;> rfl

/-- A trip reads its two words alone. -/
theorem trip_of_rd {s t : State} (hh : t.rd SAF.TRIPS_HOLD = s.rd SAF.TRIPS_HOLD) (hl : t.rd SAF.TRIPS_LATCH = s.rd SAF.TRIPS_LATCH) (i : Nat) :
    t.trip i = s.trip i := by
  simp only [State.trip, hh, hl]

theorem putTrip_trip (s : State) {i j : Nat} (b : Bool) (hj : j < 32) : (s.putTrip i b).trip j = if j = i then b else s.trip j := by
  have hne : SAF.TRIPS_LATCH.key ≠ SAF.TRIPS_HOLD.key := by decide
  unfold State.putTrip
  split
  · next hi =>
    unfold State.trip
    rw [State.rd_wr_self, State.rd_wr_ne _ _ _ _ hne]
    split
    · next h8 => rw [bit_mod_two_pow (w := SAF.TRIPS_HOLD.width) h8, bit_withBit]
    · rw [if_neg (by omega)]
  · next hi =>
    unfold State.trip
    rw [State.rd_wr_self, State.rd_wr_ne _ _ _ _ hne.symm]
    split
    · rw [if_neg (by omega)]
    · have hw : j - 8 < SAF.TRIPS_LATCH.width := by
        show j - 8 < 24
        omega
      rw [bit_mod_two_pow hw, bit_withBit]
      simp only [show (j - 8 = i - 8) = (j = i) from by apply propext; omega]

/-- While a trip below 32 is set, some trip is. -/
theorem noTrip_of_trip {s : State} {i : Nat} (h : s.trip i = true) : s.noTrip = false := by
  by_contra hno
  simp only [Bool.not_eq_false, State.noTrip, Bool.and_eq_true, decide_eq_true_eq] at hno
  simp [State.trip, hno.1, hno.2, bit_zero_left] at h

/-! ### The outputs (R403, R418 to R420) -/

/-- The registers of SAF's outputs. -/
def outputKeys : List Nat := [SAF.CTR_EN.key, SAF.SAFE_OK.key, SAF.TOKENS.key]

/-- The contactor output and SAFE_OK shown. -/
def State.contactorShown (s : State) : State := (s.put SAF.CTR_EN s.ctrEnable).put SAF.SAFE_OK (s.safety = sfOperational)

/-- SAF's outputs but for TOKENS. -/
def State.outputsDriven (s : State) : State :=
  let s2 := if s.ctrEnable != s.on SAF.CTR_EN then { s.contactorShown with saf.contactorWait := true, saf.contactorDiff := false }
    else s.contactorShown
  { s2 with pins.proxN := s2.proxPin }

theorem safOutputs_gap {s : State} (h : s.pwr.hold = true) : s.safOutputs = s.put SAF.TOKENS false := by
  rw [State.safOutputs, if_pos h]

theorem safOutputs_clocked {s : State} (h : s.pwr.hold = false) : s.safOutputs = s.outputsDriven.put SAF.TOKENS s.outputsDriven.tokensMet := by
  rw [State.safOutputs, if_neg (by simp [h])]
  rfl

theorem outputsDriven_regs (s : State) : s.outputsDriven.regs = s.contactorShown.regs := by
  unfold State.outputsDriven
  split <;> rfl

theorem outputsDriven_rd (s : State) (f : Fld) : s.outputsDriven.rd f = s.contactorShown.rd f := by
  simp only [State.rd, outputsDriven_regs]

theorem contactorShown_keeps (s : State) : KeepsRegs outputKeys s s.contactorShown :=
  ((KeepsRegs.refl _ s).put SAF.CTR_EN _ (by decide)).put SAF.SAFE_OK _ (by decide)

theorem outputsDriven_keeps (s : State) : KeepsRegs outputKeys s s.outputsDriven :=
  fun f hf => (outputsDriven_rd s f).trans (contactorShown_keeps s f hf)

theorem safOutputs_keeps (s : State) : KeepsRegs outputKeys s s.safOutputs := by
  cases hg : s.pwr.hold
  · rw [safOutputs_clocked hg]
    exact (outputsDriven_keeps s).put _ _ (by decide)
  · rw [safOutputs_gap hg]
    exact (KeepsRegs.refl _ s).put _ _ (by decide)

theorem SafFrame.safOutputs (s : State) : SafFrame s s.safOutputs := by
  refine ⟨?_⟩
  unfold State.safOutputs
  split
  · rfl
  · dsimp only
    split <;> rfl

theorem safOutputs_posts (s : State) : s.safOutputs.saf.posts = s.saf.posts := by
  unfold State.safOutputs
  split
  · rfl
  · dsimp only
    split <;> rfl

/-- No token is issued while a trip is set or the state does not emit. -/
theorem safOutputs_tokens {s : State} (h : (emitting s.safety && s.noTrip) = false) : s.safOutputs.on SAF.TOKENS = false := by
  cases hg : s.pwr.hold
  · rw [safOutputs_clocked hg, State.on_put_self _ _ _ (by decide)]
    have hk := outputsDriven_keeps s
    have hst : s.outputsDriven.safety = s.safety := hk _ (by decide)
    have hno : s.outputsDriven.noTrip = s.noTrip := by
      simp only [State.noTrip, hk SAF.TRIPS_HOLD (by decide), hk SAF.TRIPS_LATCH (by decide)]
    simp only [State.tokensMet, hst, hno, h, Bool.false_and]
  · rw [safOutputs_gap hg, State.on_put_self _ _ _ (by decide)]

theorem safOutputs_on {s : State} (h : s.pwr.hold = false) {f : Fld} (hf : f.key ≠ SAF.TOKENS.key) :
    s.safOutputs.on f = s.contactorShown.on f := by
  rw [safOutputs_clocked h, State.on_put_ne _ _ _ _ hf, State.on, outputsDriven_rd, State.on]

theorem safOutputs_ctrEn {s : State} (h : s.pwr.hold = false) : s.safOutputs.on SAF.CTR_EN = s.ctrEnable :=
  (safOutputs_on h (by decide)).trans ((State.on_put_ne _ _ _ _ (by decide)).trans (State.on_put_self _ _ _ (by decide)))

theorem safOutputs_safeOk {s : State} (h : s.pwr.hold = false) : s.safOutputs.on SAF.SAFE_OK = decide (s.safety = sfOperational) :=
  (safOutputs_on h (by decide)).trans (State.on_put_self _ _ _ (by decide))

/-- PROX_N reads the safety state, the record and the combiner. -/
theorem proxPin_of {s t : State} (hst : t.safety = s.safety) (hfs : t.rd SAF.PROX_FAILSAFE = s.rd SAF.PROX_FAILSAFE)
    (hknown : t.saf.failsafeKnown = s.saf.failsafeKnown) (hcom : t.saf.committed = s.saf.committed) (hprox : t.prox = s.prox) :
    t.proxPin = s.proxPin := by
  unfold State.proxPin State.operating State.on
  rw [hknown, hcom, hprox, hst, hfs]

theorem safOutputs_proxN {s : State} (h : s.pwr.hold = false) : s.safOutputs.pins.proxN = s.proxPin := by
  rw [safOutputs_clocked h]
  have hk := contactorShown_keeps s
  have hst : s.contactorShown.safety = s.safety := hk _ (by decide)
  have hfs : s.contactorShown.rd SAF.PROX_FAILSAFE = s.rd SAF.PROX_FAILSAFE := hk _ (by decide)
  show s.outputsDriven.pins.proxN = _
  unfold State.outputsDriven
  split
  · exact proxPin_of hst hfs rfl rfl rfl
  · exact proxPin_of hst hfs rfl rfl rfl

/-- In OPERATIONAL and DEGRADED, PROX_N follows the combiner. -/
theorem proxPin_operating {s : State} (hst : s.operating = true) (hk : s.saf.failsafeKnown = true) : s.proxPin = some s.prox.asserted := by
  simp [State.proxPin, hst, hk]

/-! ### The inhibit latch (R404) -/

/-- The keys of a folio's FAULT bits. -/
def faultKeys (p : Nat) : List Nat := (List.range 32).map fun i => (C.FAULT p i).key

theorem fault_keepsRegs (s : State) (p b : Nat) : KeepsRegs (faultKeys p) s (s.fault p b) :=
  setFaults_keeps (KeepsRegs.refl _ s) fun _ hi _ => List.mem_map_of_mem (List.mem_range.mpr hi)

theorem not_mem_faultKeys {p : Nat} {f : Fld} (h : f.key ∉ faultKeys p) : ∀ i < 32, f.key ≠ (C.FAULT p i).key := fun _ hi e =>
  h (List.mem_map.mpr ⟨_, List.mem_range.mpr hi, e.symm⟩)

def inhibitKeys : List Nat := SAF.ST_INHIBIT.key :: faultKeys pEMT

theorem inhibit_keeps (s : State) : KeepsRegs inhibitKeys s s.inhibit := fun f hf => by
  rw [inhibitKeys, List.mem_cons, not_or] at hf
  exact State.inhibit_rd s f hf.1 (not_mem_faultKeys hf.2)

theorem SafFrame.inhibit (s : State) : SafFrame s s.inhibit := by
  unfold State.inhibit State.emtInhibit
  split
  · exact SafFrame.refl s
  · split
    · split
      · dsimp only
        split
        · exact SafFrame.fault ⟨rfl⟩ _ _
        · exact ⟨rfl⟩
      · exact ⟨rfl⟩
    · exact ⟨rfl⟩

/-- The inhibit latch clears no FAULT bit of EMT. -/
theorem inhibit_fault_on {s : State} {i : Nat} (hi : i < 32) (h : s.on (C.FAULT pEMT i) = true) : s.inhibit.on (C.FAULT pEMT i) = true := by
  have hput : (s.put SAF.ST_INHIBIT true).on (C.FAULT pEMT i) = true := by
    refine (State.on_put_ne _ _ _ _ ?_).trans h
    simp only [SAF.ST_INHIBIT, C.FAULT, fld_key, pageBits, pEMT]
    omega
  unfold State.inhibit State.emtInhibit
  split
  · exact h
  · split
    · split
      · dsimp only
        split
        · exact fault_on_of_on 1 hi hput
        · exact hput
      · exact hput
    · exact hput

/-! ### Entering a safety state (R400) -/

/-- The registers that show a state, and what ends with one. -/
def stateKeys : List Nat :=
  [SAF.STATE.key, SAF.ST_STATE.key, SAF.INT_STATE_CHANGE.key, (C.ERR_STATE pSAF).key, CAL.ST_STRSK_BUSY.key, MON.ST_EXTEST.key]

/-- The registers that an entry may change. -/
def enterKeys : List Nat := stateKeys ++ faultKeys pSAF ++ inhibitKeys ++ outputKeys

theorem requestFails_keeps (s : State) : KeepsRegs stateKeys s s.requestFails := by
  unfold State.requestFails
  split
  · exact (KeepsRegs.refl _ s).put _ _ (by decide)
  · exact KeepsRegs.refl _ s

theorem strskEnd_keeps (s : State) : KeepsRegs [CAL.ST_STRSK_BUSY.key] s s.strskEnd := by
  unfold State.strskEnd
  split
  · exact ((KeepsRegs.refl _ s).put CAL.ST_STRSK_BUSY false (by decide)).of_cur rfl
  · exact KeepsRegs.refl _ s

theorem extestEnd_keeps (s : State) (st : Nat) : KeepsRegs [MON.ST_EXTEST.key] s (s.extestEnd st) := by
  unfold State.extestEnd
  split
  · exact KeepsRegs.refl _ s
  · exact ((KeepsRegs.refl _ s).put MON.ST_EXTEST false (by decide)).of_cur rfl

/-- What a state is left as, and the new state shown, before the latch and the outputs follow. -/
def State.stateShown (sIn : State) (st : Nat) : State :=
  let s := if st = sfOperational then sIn else sIn.requestFails
  let s0 := (if st = sfCommission then s else s.strskEnd).extestEnd st
  let s1 := ((s0.wr SAF.STATE st).wr SAF.ST_STATE st).raise SAF.INT_STATE_CHANGE
  { s1 with saf.entering := false, saf.asked := false, saf.recoverFrames := 0, saf.degradedInFrame := false }

/-- The state after an entry but for the outputs. -/
def State.stateEntered (s : State) (st : Nat) : State :=
  let s3 := if st = sfSafeHold then (s.stateShown st).fault pSAF 0 else s.stateShown st
  if emitting st then s3 else s3.inhibit

theorem enter_eq (s : State) (st : Nat) : s.enter st = (s.stateEntered st).safOutputs := rfl

theorem stateShown_keeps (s : State) (st : Nat) : KeepsRegs stateKeys s (s.stateShown st) := by
  unfold State.stateShown
  extract_lets s0 s1 s2
  have h0 : KeepsRegs stateKeys s s0 := by
    show KeepsRegs stateKeys s (if st = sfOperational then s else s.requestFails)
    split
    · exact KeepsRegs.refl _ s
    · exact requestFails_keeps s
  have h1 : KeepsRegs stateKeys s s1 := by
    refine KeepsRegs.trans ?_ ((extestEnd_keeps _ st).mono (by decide))
    split
    · exact h0
    · exact h0.trans ((strskEnd_keeps _).mono (by decide))
  exact KeepsRegs.of_cur (((h1.wr _ _ (by decide)).wr _ _ (by decide)).put _ _ (by decide) : KeepsRegs stateKeys s s2) rfl

theorem stateEntered_keeps (s : State) (st : Nat) : KeepsRegs enterKeys s (s.stateEntered st) := by
  unfold State.stateEntered
  extract_lets s3
  have h3 : KeepsRegs enterKeys s s3 := by
    show KeepsRegs enterKeys s (if st = sfSafeHold then _ else _)
    split
    · exact ((stateShown_keeps s st).mono (by decide)).trans ((fault_keepsRegs _ _ _).mono (by decide))
    · exact (stateShown_keeps s st).mono (by decide)
  split
  · exact h3
  · exact h3.trans ((inhibit_keeps _).mono (by decide))

theorem enter_keeps (s : State) (st : Nat) : KeepsRegs enterKeys s (s.enter st) :=
  (stateEntered_keeps s st).trans ((safOutputs_keeps _).mono (by decide))

theorem SafFrame.requestFails (s : State) : SafFrame s s.requestFails := by
  unfold State.requestFails
  split <;> exact ⟨rfl⟩

theorem SafFrame.strskEnd (s : State) : SafFrame s s.strskEnd := by
  unfold State.strskEnd
  split <;> exact ⟨rfl⟩

theorem SafFrame.extestEnd (s : State) (st : Nat) : SafFrame s (s.extestEnd st) := by
  unfold State.extestEnd
  split <;> exact ⟨rfl⟩

theorem SafFrame.stateShown (s : State) (st : Nat) : SafFrame s (s.stateShown st) := by
  unfold State.stateShown
  extract_lets s0 s1 s2
  have h0 : SafFrame s s0 := by
    show SafFrame s (if st = sfOperational then s else s.requestFails)
    split
    · exact SafFrame.refl s
    · exact SafFrame.requestFails s
  have h1 : SafFrame s s1 := by
    refine SafFrame.trans ?_ (SafFrame.extestEnd _ st)
    split
    · exact h0
    · exact h0.trans (SafFrame.strskEnd s0)
  exact h1.trans ⟨rfl⟩

theorem SafFrame.stateEntered (s : State) (st : Nat) : SafFrame s (s.stateEntered st) := by
  unfold State.stateEntered
  extract_lets s3
  have h3 : SafFrame s s3 := by
    show SafFrame s (if st = sfSafeHold then _ else _)
    split
    · exact (SafFrame.stateShown s st).fault _ _
    · exact SafFrame.stateShown s st
  split
  · exact h3
  · exact h3.trans (SafFrame.inhibit s3)

theorem SafFrame.enter (s : State) (st : Nat) : SafFrame s (s.enter st) := (SafFrame.stateEntered s st).trans (SafFrame.safOutputs _)

theorem stateShown_posts (s : State) (st : Nat) : (s.stateShown st).saf.posts = s.saf.posts := by
  unfold State.stateShown State.requestFails State.strskEnd State.extestEnd
  dsimp only
  split_ifs <;> rfl

/-- An entry of an emitting state posts nothing. -/
theorem enter_posts (s : State) {st : Nat} (he : emitting st = true) : (s.enter st).saf.posts = s.saf.posts := by
  have hst : st ≠ sfSafeHold := fun e => by rw [e] at he; exact absurd he (by decide)
  rw [enter_eq, safOutputs_posts, State.stateEntered, if_pos he, if_neg hst, stateShown_posts]

/-- An entry ends the wait for confirmation. -/
theorem enter_entering (s : State) (st : Nat) : (s.enter st).saf.entering = false := by
  have hshown : (s.stateShown st).saf.entering = false := rfl
  have hfault (t : State) (p b : Nat) : (t.fault p b).saf.entering = t.saf.entering := by
    obtain ⟨r, posts, hf⟩ := State.fault_state t p b
    rw [hf]
  have hinhibit (t : State) : t.inhibit.saf.entering = t.saf.entering := by
    unfold State.inhibit State.emtInhibit
    split
    · rfl
    · split
      · split
        · dsimp only
          split
          · exact (hfault _ _ _).trans rfl
          · rfl
        · rfl
      · rfl
  have hout (t : State) : t.safOutputs.saf.entering = t.saf.entering := by
    unfold State.safOutputs
    split
    · rfl
    · dsimp only
      split <;> rfl
  rw [enter_eq, hout, State.stateEntered]
  split_ifs
  · rw [hfault, hshown]
  · exact hshown
  · rw [hinhibit, hfault, hshown]
  · rw [hinhibit, hshown]

theorem stateShown_shows (s : State) {st : Nat} (h : st < 8) :
    (s.stateShown st).rd SAF.STATE = st ∧ (s.stateShown st).on SAF.INT_STATE_CHANGE = true := by
  refine ⟨?_, State.on_put_self _ _ _ (by decide)⟩
  refine (State.rd_put_ne _ _ _ _ (by decide)).trans ((State.rd_wr_ne _ _ _ _ (by decide)).trans ((State.rd_wr_self _ _ _).trans ?_))
  exact Nat.mod_eq_of_lt h

theorem stateEntered_shows (s : State) {st : Nat} (h : st < 8) :
    (s.stateEntered st).rd SAF.STATE = st ∧ (s.stateEntered st).on SAF.INT_STATE_CHANGE = true
      ∧ (emitting st = false → (s.stateEntered st).on SAF.ST_INHIBIT = true) := by
  obtain ⟨hst, hint⟩ := stateShown_shows s h
  unfold State.stateEntered
  extract_lets s3
  have h3 : s3.rd SAF.STATE = st ∧ s3.on SAF.INT_STATE_CHANGE = true := by
    show (if st = sfSafeHold then _ else _ : State).rd SAF.STATE = st ∧ (if st = sfSafeHold then _ else _ : State).on _ = _
    split
    · exact ⟨(fault_keepsRegs _ _ _ _ (by decide)).trans hst, by
        rw [State.on, fault_keepsRegs _ _ _ _ (by decide)]; exact hint⟩
    · exact ⟨hst, hint⟩
  split
  · next he => exact ⟨h3.1, h3.2, fun hn => absurd (he.symm.trans hn) (by decide)⟩
  · refine ⟨(inhibit_keeps _ _ (by decide)).trans h3.1, ?_, fun _ => State.inhibit_on _⟩
    rw [State.on, inhibit_keeps _ _ (by decide)]
    exact h3.2

theorem enter_state (s : State) {st : Nat} (h : st < 8) : (s.enter st).rd SAF.STATE = st :=
  (safOutputs_keeps _ _ (by decide)).trans (stateEntered_shows s h).1

theorem enter_stateChange (s : State) {st : Nat} (h : st < 8) : (s.enter st).on SAF.INT_STATE_CHANGE = true := by
  rw [enter_eq, State.on, safOutputs_keeps _ _ (by decide)]
  exact (stateEntered_shows s h).2.1

theorem enter_inhibit (s : State) {st : Nat} (h : st < 8) (he : emitting st = false) : (s.enter st).on SAF.ST_INHIBIT = true := by
  rw [enter_eq, State.on, safOutputs_keeps _ _ (by decide)]
  exact (stateEntered_shows s h).2.2 he

theorem enter_tokens (s : State) {st : Nat} (h : st < 8) (he : emitting st = false) : (s.enter st).on SAF.TOKENS = false := by
  rw [enter_eq]
  exact safOutputs_tokens (by rw [State.safety, (stateEntered_shows s h).1, he, Bool.false_and])

theorem enter_contactor {s : State} {st : Nat} (h : st < 8) (he : emitting st = false) (hg : s.pwr.hold = false) :
    (s.enter st).on SAF.CTR_EN = false ∧ (s.enter st).on SAF.SAFE_OK = false := by
  have hpwr := (SafFrame.stateEntered s st).pwr
  rw [← hpwr] at hg
  have hst := (stateEntered_shows s h).1
  rw [enter_eq, safOutputs_ctrEn hg, safOutputs_safeOk hg, State.ctrEnable, State.safety, hst, he]
  refine ⟨by simp, ?_⟩
  have : st ≠ sfOperational := fun e => by rw [e] at he; exact absurd he (by decide)
  simp [this]

/-! ### Trips (R409, R412) -/

/-- The registers that a trip may change. -/
def tripKeys : List Nat := tripWordKeys ++ [SAF.INT_TRIP.key] ++ enterKeys

/-- What a trip ends and counts: the skew measurement, SCN's restart, and a latching trip in the life record. -/
def State.tripNoted (sIn : State) (i : Nat) : State :=
  let s : State := { sIn.strskEnd with saf.scnRestarted := sIn.saf.scnRestarted && i != 10 }
  if 8 ≤ i && !s.trip i then { s with saf.lifeTrips := s.saf.lifeTrips + 1 } else s

/-- A trip bit set and shown, before the outputs and the state follow. -/
def State.tripShown (s : State) (i : Nat) : State := (((s.tripNoted i).putTrip i true).raise SAF.INT_TRIP).inhibit

/-- A trip enters SAFE_HOLD where it latches and SAF is elsewhere. -/
theorem tripNow_eq (s : State) (i : Nat) :
    s.tripNow i = if 8 ≤ i && s.safety != sfSafeHold then (s.tripShown i).enter sfSafeHold else (s.tripShown i).safOutputs := by
  rw [← show s.strskEnd.safety = s.safety from strskEnd_keeps s SAF.STATE (by decide)]
  rfl

theorem tripNoted_keeps (s : State) (i : Nat) : KeepsRegs [CAL.ST_STRSK_BUSY.key] s (s.tripNoted i) := by
  refine (strskEnd_keeps s).of_cur ?_
  unfold State.tripNoted
  dsimp only
  split <;> rfl

theorem SafFrame.tripNoted (s : State) (i : Nat) : SafFrame s (s.tripNoted i) := by
  refine (SafFrame.strskEnd s).trans ?_
  unfold State.tripNoted
  dsimp only
  split <;> exact ⟨rfl⟩

theorem tripShown_keeps (s : State) (i : Nat) : KeepsRegs tripKeys s (s.tripShown i) := by
  have hput := ((tripNoted_keeps s i).mono (by decide)).trans ((putTrip_keeps (s.tripNoted i) i true).mono (m := tripKeys) (by decide))
  exact (hput.put SAF.INT_TRIP true (by decide)).trans ((inhibit_keeps _).mono (by decide))

theorem tripNow_keeps (s : State) (i : Nat) : KeepsRegs tripKeys s (s.tripNow i) := by
  rw [tripNow_eq]
  split
  · exact (tripShown_keeps s i).trans ((enter_keeps _ _).mono (by decide))
  · exact (tripShown_keeps s i).trans ((safOutputs_keeps _).mono (by decide))

theorem SafFrame.putTrip (s : State) (i : Nat) (b : Bool) : SafFrame s (s.putTrip i b) := by
  rw [putTrip_frame]
  exact ⟨rfl⟩

theorem SafFrame.tripShown (s : State) (i : Nat) : SafFrame s (s.tripShown i) :=
  (((SafFrame.tripNoted s i).trans (SafFrame.putTrip _ i true)).put SAF.INT_TRIP true).trans (SafFrame.inhibit _)

theorem SafFrame.tripNow (s : State) (i : Nat) : SafFrame s (s.tripNow i) := by
  rw [tripNow_eq]
  split
  · exact (SafFrame.tripShown s i).trans (SafFrame.enter _ _)
  · exact (SafFrame.tripShown s i).trans (SafFrame.safOutputs _)

/-- A trip sets its own bit and keeps the others. -/
theorem tripShown_trip (s : State) (i : Nat) {j : Nat} (hj : j < 32) : (s.tripShown i).trip j = (decide (j = i) || s.trip j) := by
  have hlast : (s.tripShown i).trip j = ((s.tripNoted i).putTrip i true).trip j :=
    trip_of_rd ((inhibit_keeps _ _ (by decide)).trans (State.rd_put_ne _ _ _ _ (by decide)))
      ((inhibit_keeps _ _ (by decide)).trans (State.rd_put_ne _ _ _ _ (by decide))) j
  have hnoted := tripNoted_keeps s i
  rw [hlast, putTrip_trip _ true hj, trip_of_rd (hnoted _ (by decide)) (hnoted _ (by decide)) j]
  split
  · next h => rw [decide_eq_true h, Bool.true_or]
  · next h => rw [decide_eq_false h, Bool.false_or]

theorem tripNow_trip (s : State) (i : Nat) {j : Nat} (hj : j < 32) : (s.tripNow i).trip j = (decide (j = i) || s.trip j) := by
  rw [tripNow_eq, ← tripShown_trip s i hj]
  split
  · exact trip_of_rd (enter_keeps _ _ _ (by decide)) (enter_keeps _ _ _ (by decide)) j
  · exact trip_of_rd (safOutputs_keeps _ _ (by decide)) (safOutputs_keeps _ _ (by decide)) j

theorem tripShown_shows (s : State) (i : Nat) :
    (s.tripShown i).on SAF.INT_TRIP = true ∧ (s.tripShown i).on SAF.ST_INHIBIT = true ∧ (s.tripShown i).safety = s.safety := by
  refine ⟨?_, State.inhibit_on _, ?_⟩
  · unfold State.tripShown State.on
    rw [inhibit_keeps _ _ (by decide)]
    exact State.on_put_self _ _ _ (by decide)
  · refine (inhibit_keeps _ _ (by decide)).trans ((State.rd_put_ne _ _ _ _ (by decide)).trans ?_)
    exact (putTrip_keeps _ _ _ _ (by decide)).trans (tripNoted_keeps s i _ (by decide))

/-- R404, R409: a trip outside the gap of a feed switch-over. -/
theorem tripNow_trips {s : State} {i : Nat} (hi : i < 32) (hg : s.pwr.hold = false) : Trips i (s.tripNow i) := by
  have htrip : (s.tripNow i).trip i = true := by rw [tripNow_trip s i hi, decide_eq_true rfl, Bool.true_or]
  obtain ⟨hint, hinh, hst⟩ := tripShown_shows s i
  have hset : (s.tripShown i).trip i = true := by rw [tripShown_trip s i hi, decide_eq_true rfl, Bool.true_or]
  have hgate : (s.tripShown i).pwr.hold = false := by rw [(SafFrame.tripShown s i).pwr]; exact hg
  rw [Trips, and_iff_right htrip, tripNow_eq]
  split
  · have hkeep := enter_keeps (s.tripShown i) sfSafeHold
    refine ⟨?_, enter_inhibit _ (by decide) rfl, enter_tokens _ (by decide) rfl, fun _ => ⟨enter_state _ (by decide), ?_⟩⟩
    · rw [State.on, hkeep _ (by decide)]
      exact hint
    · exact enter_contactor (by decide) rfl hgate
  · next hcase =>
    have hkeep := safOutputs_keeps (s.tripShown i)
    refine ⟨?_, ?_, safOutputs_tokens ?_, fun h8 => ?_⟩
    · rw [State.on, hkeep _ (by decide)]
      exact hint
    · rw [State.on, hkeep _ (by decide)]
      exact hinh
    · rw [noTrip_of_trip hset, Bool.and_false]
    · have hsafe : (s.tripShown i).safety = sfSafeHold := by
        rw [hst]
        simpa [h8] using hcase
      refine ⟨(hkeep _ (by decide)).trans hsafe, ?_, ?_⟩
      · rw [safOutputs_ctrEn hgate, State.ctrEnable, hsafe]
        rfl
      · rw [safOutputs_safeOk hgate, hsafe]
        rfl

theorem tripSet_trips {s : State} {i : Nat} (hi : i < 32) (hg : s.pwr.hold = false) : Trips i (s.tripSet i) := by
  rw [State.tripSet, if_neg (by simp [hg])]
  exact tripNow_trips hi hg

theorem tripSet_clocked {s : State} (h : s.pwr.hold = false) (i : Nat) : s.tripSet i = s.tripNow i := by
  rw [State.tripSet, if_neg (by simp [h])]

theorem tripSet_gap {s : State} (h : s.pwr.hold = true) (i : Nat) :
    s.tripSet i = { s with saf.gapTrips := withBit s.saf.gapTrips i true } := by
  rw [State.tripSet, if_pos h]

end Sys2Proof.Machine
end

section
/-! PROOFS. The requests of SAF (R400, R401, R427, R570). -/
namespace Sys2Proof.Machine
open Sys2Proof

/-- A write of REQ as SAF finds it: the pair disarmed or as it is. -/
def State.reqFrom (s : State) (armed : Bool) : State := { s with bus := {}, saf.pairArmed := armed }

/-- A request that sets ERR_STATE and, the pair aside, changes nothing. -/
def Refused (s t : State) : Prop :=
  t.on (C.ERR_STATE pSAF) = true ∧ KeepsRegs [(C.ERR_STATE pSAF).key] s t
    ∧ t = { s with bus := {}, regs.cur := t.regs.cur, saf.pairArmed := t.saf.pairArmed }

/-- A request that has entered state n. -/
def Entered (n : Nat) (t : State) : Prop :=
  t.rd SAF.STATE = n ∧ t.on SAF.INT_STATE_CHANGE = true ∧ t.saf.pairArmed = false ∧ t.saf.autoLeft = false
    ∧ (n = 0 → t.on SAF.ST_INHIBIT = true)

theorem refuseReq_refused (s : State) (armed : Bool) : Refused s (s.reqFrom armed).refuseReq :=
  ⟨State.on_put_self _ _ _ (by decide), ((KeepsRegs.refl _ s).of_cur (u := s.reqFrom armed) rfl).put _ _ (by decide), rfl⟩

theorem SafFrame.pairArmed {s t : State} (h : SafFrame s t) : t.saf.pairArmed = s.saf.pairArmed :=
  (congrArg (·.saf.pairArmed) h.rest).trans rfl

theorem byRequest_rd (s : State) (n : Nat) (f : Fld) : (s.byRequest n).rd f = (s.enter n).rd f := rfl

theorem byRequest_entered (s : State) {n : Nat} (hn : n < 2) : Entered n ((s.reqFrom false).byRequest n) := by
  have harm : ((s.reqFrom false).byRequest n).saf.pairArmed = ((s.reqFrom false).enter n).saf.pairArmed := rfl
  refine ⟨?_, ?_, ?_, rfl, fun h => ?_⟩
  · rw [byRequest_rd, enter_state _ (by omega)]
  · rw [State.on, byRequest_rd]
    exact enter_stateChange _ (by omega)
  · rw [harm, (SafFrame.enter _ n).pairArmed]
    rfl
  · subst h
    rw [State.on, byRequest_rd]
    exact enter_inhibit (s.reqFrom false) (by decide) rfl

section
variable {path : Path} {s : State} (hrun : s.runs pSAF = true) (hgap : s.pwr.hold = false)
include hrun hgap

theorem exec_reqInit : exec (.reqInit path) s = .next (s.reqFrom false).reqInit :=
  congrArg Host.Outcome.next (State.writeSentinel_runs s path pSAF _ _ _ hrun hgap)

theorem exec_reqClear : exec (.reqClear path) s = .next (s.reqFrom false).reqClear :=
  congrArg Host.Outcome.next (State.writeSentinel_runs s path pSAF _ _ _ hrun hgap)

theorem exec_reqSafeHold : exec (.reqSafeHold path) s = .next (s.reqFrom false).reqSafeHold :=
  congrArg Host.Outcome.next (State.writeSentinel_runs s path pSAF _ _ _ hrun hgap)

theorem exec_reqOperational : exec (.reqOperational path) s = .next (s.reqFrom false).reqOperational :=
  congrArg Host.Outcome.next (State.writeSentinel_runs s path pSAF _ _ _ hrun hgap)

theorem exec_pairArm : exec (.pairArm path) s = .next ((s.reqFrom s.saf.pairArmed).reqArm path) :=
  congrArg Host.Outcome.next (State.writeSentinel_runs s path pSAF _ _ _ hrun hgap)

theorem exec_pairCommission : exec (.pairCommission path) s = .next ((s.reqFrom s.saf.pairArmed).reqCommission path) :=
  congrArg Host.Outcome.next (State.writeSentinel_runs s path pSAF _ _ _ hrun hgap)

end

theorem reqFrom_safety (s : State) (armed : Bool) : (s.reqFrom armed).safety = s.rd SAF.STATE := rfl

theorem localPath_iff (p : Path) : localPath p = true ↔ p = .host ∨ p = .spi := by
  simp [localPath]

/-- Settles O30: each request is a write of REQ that SAF takes or refuses. -/
theorem safetyRequests : Obligations.SafetyRequests := by
  intro path s hrun hgap st refused enters local_
  refine ⟨fun h => ⟨_, exec_reqInit hrun hgap, ?_⟩, fun h => ⟨_, exec_reqInit hrun hgap, ?_⟩, fun h hl => ⟨_, exec_reqClear hrun hgap, ?_⟩,
    fun h => ⟨_, exec_reqClear hrun hgap, ?_⟩, fun h => ⟨_, exec_reqSafeHold hrun hgap, ?_⟩, fun h => ⟨_, exec_reqSafeHold hrun hgap, ?_⟩,
    fun h => (exec_pairArm hrun hgap).trans ?_, fun h => ⟨_, exec_pairArm hrun hgap, ?_⟩,
    fun h ha hst => ⟨_, exec_pairCommission hrun hgap, ?_⟩, fun h => ⟨_, exec_pairCommission hrun hgap, ?_⟩,
    congrArg Host.Outcome.next (State.sentinel_runs s _ hrun hgap)⟩
  · have hemit : emitting (s.reqFrom false).safety = true := by
      rw [reqFrom_safety]
      rcases h with h | h | h <;> rw [show s.rd SAF.STATE = _ from h] <;> rfl
    rw [State.reqInit, if_pos hemit]
    exact byRequest_entered s (by decide)
  · have hemit : emitting (s.reqFrom false).safety = false := by
      rw [reqFrom_safety]
      rcases h with h | h <;> rw [show s.rd SAF.STATE = _ from h] <;> rfl
    rw [State.reqInit, if_neg (by rw [hemit]; decide)]
    exact refuseReq_refused s false
  · have hok : (decide ((s.reqFrom false).safety = sfSafeHold) && decide ((s.reqFrom false).rd SAF.TRIPS_LATCH = 0)) = true := by
      rw [reqFrom_safety, show s.rd SAF.STATE = 4 from h, show (s.reqFrom false).rd SAF.TRIPS_LATCH = 0 from hl]
      rfl
    rw [State.reqClear, if_pos hok]
    exact byRequest_entered s (by decide)
  · have hno : ¬(decide ((s.reqFrom false).safety = sfSafeHold) && decide ((s.reqFrom false).rd SAF.TRIPS_LATCH = 0)) = true := by
      rw [Bool.and_eq_true, decide_eq_true_eq, decide_eq_true_eq, not_and_or]
      exact h
    rw [State.reqClear, if_neg hno]
    exact refuseReq_refused s false
  · rw [State.reqSafeHold, if_neg (show (s.reqFrom false).safety ≠ sfSafeHold from h)]
    exact ⟨tripSet_trips (s := s.reqFrom false) (i := 20) (by decide) hgap, rfl⟩
  · rw [State.reqSafeHold, if_pos (show (s.reqFrom false).safety = sfSafeHold from h)]
    exact refuseReq_refused s false
  · rw [State.reqArm, if_pos ((localPath_iff path).mpr h)]
    rfl
  · rw [State.reqArm, if_neg (fun e => h ((localPath_iff path).mp e))]
    exact refuseReq_refused s _
  · rw [State.reqCommission, if_neg (by simp [(localPath_iff path).mpr h]), if_neg (by
      show ¬(!s.saf.pairArmed) = true
      simp [ha]), if_pos (show (s.reqFrom s.saf.pairArmed).safety = sfInit from hst)]
    exact byRequest_entered s (by decide)
  · unfold State.reqCommission
    split
    · exact refuseReq_refused s _
    · next hpath =>
      split
      · exact refuseReq_refused s _
      · next harm =>
        split
        · next hinit =>
          rcases h with h | h | h
          · exact absurd ((localPath_iff path).mp (by simpa using hpath)) h
          · exact absurd (show (!s.saf.pairArmed) = true by rw [h]; rfl) harm
          · exact absurd hinit h
        · exact refuseReq_refused s false

end Sys2Proof.Machine
end

section
/-! PROOFS. The causes of DEGRADED (R413), relocking (R525) and the entry to OPERATIONAL (R65, R400, R401). -/
namespace Sys2Proof.Machine
open Sys2Proof

/-! ### The causes of DEGRADED -/

/-- The registers that the judging of the causes may change. -/
def judgeKeys : List Nat := [SAF.DEG_CAUSE.key, SAF.INT_DEGRADE.key] ++ enterKeys

/-- DEG_CAUSE brought up to date, before the state follows. -/
def State.causesShown (s : State) : State :=
  let s1 := s.wr SAF.DEG_CAUSE s.degCauses
  if (List.range 6).any fun i => bit s.degCauses i && !bit (s.rd SAF.DEG_CAUSE) i then s1.raise SAF.INT_DEGRADE else s1

/-- A state in which a cause of DEGRADED has been present in the frame. -/
def State.degradedNoted (s : State) : State := { s with saf.degradedInFrame := true }

theorem causesShown_keeps (s : State) : KeepsRegs [SAF.DEG_CAUSE.key, SAF.INT_DEGRADE.key] s s.causesShown := by
  have h := (KeepsRegs.refl [SAF.DEG_CAUSE.key, SAF.INT_DEGRADE.key] s).wr SAF.DEG_CAUSE s.degCauses (by decide)
  unfold State.causesShown
  dsimp only
  split
  · exact h.put _ _ (by decide)
  · exact h

theorem judgeCauses_eq (s : State) : s.judgeCauses =
    if s.degCauses = 0 then s.causesShown
    else if s.safety = sfOperational then (s.causesShown.enter sfDegraded).degradedNoted else s.causesShown.degradedNoted := by
  have hst : s.causesShown.safety = s.safety := causesShown_keeps s _ (by decide)
  have hform : s.judgeCauses = if s.degCauses != 0
      then (if s.degCauses != 0 && s.causesShown.safety = sfOperational then s.causesShown.enter sfDegraded else s.causesShown).degradedNoted
      else (if s.degCauses != 0 && s.causesShown.safety = sfOperational then s.causesShown.enter sfDegraded else s.causesShown) := rfl
  rw [hform, hst]
  by_cases h0 : s.degCauses = 0
  · simp [h0]
  · simp only [bne_iff_ne.mpr h0, Bool.true_and, decide_eq_true_eq, if_true, if_neg h0]
    split <;> rfl

theorem SafFrame.causesShown (s : State) : SafFrame s s.causesShown := by
  unfold State.causesShown
  dsimp only
  split <;> exact ⟨rfl⟩

theorem SafFrame.degradedNoted (s : State) : SafFrame s s.degradedNoted := ⟨rfl⟩

theorem degradedNoted_rd (s : State) (f : Fld) : s.degradedNoted.rd f = s.rd f := rfl

theorem KeepsRegs.degradedNoted {l : List Nat} {s t : State} (h : KeepsRegs l s t) : KeepsRegs l s t.degradedNoted := h

theorem SafFrame.judgeCauses (s : State) : SafFrame s s.judgeCauses := by
  rw [judgeCauses_eq]
  split
  · exact SafFrame.causesShown s
  · split
    · exact ((SafFrame.causesShown s).trans (SafFrame.enter _ _)).trans (SafFrame.degradedNoted _)
    · exact (SafFrame.causesShown s).trans (SafFrame.degradedNoted _)

theorem judgeCauses_keeps (s : State) : KeepsRegs judgeKeys s s.judgeCauses := by
  have h := (causesShown_keeps s).mono (m := judgeKeys) (by decide)
  rw [judgeCauses_eq]
  split
  · exact h
  · split
    · exact (h.trans ((enter_keeps _ _).mono (by decide))).degradedNoted
    · exact h.degradedNoted

/-- R400, R413: with a cause present OPERATIONAL becomes DEGRADED, and every other state stays. -/
theorem judgeCauses_state (s : State) :
    s.judgeCauses.rd SAF.STATE = if s.degCauses ≠ 0 ∧ s.safety = sfOperational then sfDegraded else s.safety := by
  have hshown : s.causesShown.rd SAF.STATE = s.safety := causesShown_keeps s _ (by decide)
  rw [judgeCauses_eq]
  by_cases h0 : s.degCauses = 0
  · rw [if_pos h0, if_neg (fun h => h.1 h0), hshown]
  · rw [if_neg h0]
    by_cases hst : s.safety = sfOperational
    · rw [if_pos hst, if_pos ⟨h0, hst⟩, degradedNoted_rd]
      exact enter_state s.causesShown (st := sfDegraded) (by decide)
    · rw [if_neg hst, if_neg (fun h => hst h.2), degradedNoted_rd]
      exact hshown

theorem degradedNoted_posts (s : State) : s.degradedNoted.saf.posts = s.saf.posts := rfl

theorem judgeCauses_posts (s : State) : s.judgeCauses.saf.posts = s.saf.posts := by
  have hshown : s.causesShown.saf.posts = s.saf.posts := by
    unfold State.causesShown
    dsimp only
    split <;> rfl
  rw [judgeCauses_eq]
  split
  · exact hshown
  · split
    · rw [degradedNoted_posts]
      exact (enter_posts s.causesShown (st := sfDegraded) rfl).trans hshown
    · rw [degradedNoted_posts]
      exact hshown

/-- The causes read the faults and locks of other units, which an operation of SAF keeps. -/
theorem degCauses_of {keys : List Nat} {s t : State} (hk : KeepsRegs keys s t) (hf : SafFrame s t)
    (hvspad : ∀ j < 11, (DET.FAULT_VSPAD j).key ∉ keys) (hlocked : ∀ b < 33, (BANK.DLL_LOCKED b).key ∉ keys)
    (hrest : ∀ f ∈ [TIM.ST_DLL_LOCKED, ACQ.FAULT_NO_FRAMES, ACQ.ST_SYNC_LOST, C.FAULT pCONVM safetyBit, C.FAULT pPWR safetyBit], f.key ∉ keys) :
    t.degCauses = s.degCauses := by
  have hdet : t.det = s.det := (congrArg State.det hf.rest).trans rfl
  have hframes : t.acq.noFrames = s.acq.noFrames := (congrArg (·.acq.noFrames) hf.rest).trans rfl
  have hcauses : t.saf.frameCauses = s.saf.frameCauses := (congrArg (·.saf.frameCauses) hf.rest).trans rfl
  have hv : ((List.range 11).any fun j => t.on (DET.FAULT_VSPAD j) && (t.section_ j).lost)
      = (List.range 11).any fun j => s.on (DET.FAULT_VSPAD j) && (s.section_ j).lost :=
    any_congr_mem fun j hj => by
      have hj := List.mem_range.mp hj
      simp only [State.on, hk _ (hvspad j hj), State.section_, hdet]
  have hb : ((List.range 33).any fun b => !t.bankLocked b) = (List.range 33).any fun b => !s.bankLocked b :=
    any_congr_mem fun b hb => by
      have hb := List.mem_range.mp hb
      simp only [State.bankLocked, State.on, hk _ (hlocked b hb)]
  have hon : ∀ f ∈ [TIM.ST_DLL_LOCKED, ACQ.FAULT_NO_FRAMES, ACQ.ST_SYNC_LOST, C.FAULT pCONVM safetyBit, C.FAULT pPWR safetyBit], t.on f = s.on f :=
    fun f hm => by rw [State.on, hk f (hrest f hm), State.on]
  unfold State.degCauses
  rw [hv, hb, hframes, hcauses, hon TIM.ST_DLL_LOCKED (by simp), hon ACQ.FAULT_NO_FRAMES (by simp), hon ACQ.ST_SYNC_LOST (by simp),
    hon (C.FAULT pCONVM safetyBit) (by simp), hon (C.FAULT pPWR safetyBit) (by simp)]

theorem judgeCauses_degCauses (s : State) : s.judgeCauses.degCauses = s.degCauses :=
  degCauses_of (judgeCauses_keeps s) (SafFrame.judgeCauses s) (by decide +kernel) (by decide +kernel) (by decide +kernel)

/-- SAF out of reset and clocked. -/
theorem degrade_clocked {s : State} (hrun : s.runs pSAF = true) (hgap : s.pwr.hold = false) : s.degrade = s.judgeCauses :=
  State.sentinel_runs s _ hrun hgap

/-! ### Relocking and the clearing of perturbation (R65, R525) -/

theorem KeepsRegs.foldl {α : Type} {keys : List Nat} {f : State → α → State} {l : List α} (h : ∀ s, ∀ a ∈ l, KeepsRegs keys s (f s a)) (s : State) :
    KeepsRegs keys s (l.foldl f s) := fun g hg => foldl_keeps (fun t => t.rd g) (fun t a ha => h t a ha g hg) s

/-- Every folio's PERTURB.EN. -/
def perturbKeys : List Nat := (List.range folioCount).map fun p => (C.EN p).key

theorem clearPerturb_keeps (s : State) : KeepsRegs perturbKeys s s.clearPerturb := by
  unfold State.clearPerturb perturbKeys
  generalize List.range folioCount = l
  exact KeepsRegs.foldl (fun t p hp => (KeepsRegs.refl _ t).put (C.EN p) false (List.mem_map_of_mem (f := fun p => (C.EN p).key) hp)) s

theorem clearPerturb_clears (s : State) {p : Nat} (hp : p < 183) : s.clearPerturb.on (C.EN p) = false := by
  refine foldl_mem (P := fun t => t.on (C.EN p) = false) (List.mem_range.mpr hp) (fun t => State.on_put_self t (C.EN p) false Nat.one_pos) ?_ s
  intro t q ht
  by_cases hpq : p = q
  · subst hpq
    exact State.on_put_self t (C.EN p) false Nat.one_pos
  · refine (State.on_put_ne _ _ _ _ ?_).trans ht
    simp only [C.EN, fld_key, pageBits]
    omega

theorem clearPerturb_frame (s : State) : s.clearPerturb = { s with regs.cur := s.clearPerturb.regs.cur } := by
  unfold State.clearPerturb
  generalize List.range folioCount = l
  refine List.foldlRecOn (motive := fun t : State => t = { s with regs.cur := t.regs.cur }) l _ rfl fun t ht p _ => ?_
  conv_lhs => rw [ht]
  rfl

/-- An engine's shown halt. -/
def debugHaltKeys : List Nat :=
  (List.range 72).flatMap fun k => [(C.HALT (pRe k)).key, (C.HALTED (pRe k)).key, (RE.ST_SPARE k).key]

theorem endDebugHalt_keeps (s : State) {k : Nat} (hk : k < 72) : KeepsRegs debugHaltKeys s (s.endDebugHalt k) := by
  have hmem (x : Nat) (hx : x ∈ [(C.HALT (pRe k)).key, (C.HALTED (pRe k)).key, (RE.ST_SPARE k).key]) : x ∈ debugHaltKeys :=
    List.mem_flatMap.mpr ⟨k, List.mem_range.mpr hk, hx⟩
  unfold State.endDebugHalt
  split
  · exact ((((KeepsRegs.refl _ s).of_cur rfl).put _ _ (hmem _ (by simp))).put _ _ (hmem _ (by simp))).put _ _ (hmem _ (by simp))
  · exact KeepsRegs.refl _ s

theorem endDebugHalt_frame (s : State) (k : Nat) : (s.endDebugHalt k).pwr = s.pwr ∧ (s.endDebugHalt k).rst = s.rst := by
  unfold State.endDebugHalt
  split <;> exact ⟨rfl, rfl⟩

/-- Fields of the folios before the engines are none of theirs. -/
theorem not_mem_debugHaltKeys {f : Fld} (h : f.key < 0x6F * 32768) : f.key ∉ debugHaltKeys := by
  intro hm
  obtain ⟨k, -, hk⟩ := List.mem_flatMap.mp hm
  simp only [List.mem_cons, List.not_mem_nil, or_false, C.HALT, C.HALTED, RE.ST_SPARE, fld_key, pageBits, pRe] at hk
  omega

theorem not_mem_perturbKeys {f : Fld} (h : f.key % 32768 ≠ 351) : f.key ∉ perturbKeys := by
  intro hm
  obtain ⟨p, -, hp⟩ := List.mem_map.mp hm
  simp only [C.EN, fld_key, pageBits] at hp
  omega

theorem debugHalts_keep (s : State) : KeepsRegs debugHaltKeys s ((List.range 72).foldl State.endDebugHalt s) :=
  KeepsRegs.foldl (fun t _ hk => endDebugHalt_keeps t (List.mem_range.mp hk)) s

def relockKeys : List Nat :=
  [MON.UNLOCKED.key, MON.ST_UNLOCKED.key, MON.SCOPE.key, MON.UNLOCK_LEFT.key, MON.INT_RELOCK.key, MON.ST_EXTEST.key]
    ++ debugHaltKeys ++ perturbKeys

/-- UNLOCKED and what it shows cleared. -/
def State.unlockCleared (s : State) : State :=
  ((((s.put MON.UNLOCKED false).put MON.ST_UNLOCKED false).wr MON.SCOPE 0).wr MON.UNLOCK_LEFT 0).raise MON.INT_RELOCK

theorem unlockEnds_eq (s : State) :
    s.unlockEnds = ((List.range 72).foldl State.endDebugHalt s.unlockCleared).clearPerturb.put MON.ST_EXTEST false := rfl

theorem unlockCleared_keeps (s : State) :
    KeepsRegs [MON.UNLOCKED.key, MON.ST_UNLOCKED.key, MON.SCOPE.key, MON.UNLOCK_LEFT.key, MON.INT_RELOCK.key, MON.ST_EXTEST.key] s
      s.unlockCleared :=
  (((((KeepsRegs.refl _ s).put _ _ (by decide)).put _ _ (by decide)).wr _ _ (by decide)).wr _ _ (by decide)).put _ _ (by decide)

theorem unlockEnds_keeps (s : State) : KeepsRegs relockKeys s s.unlockEnds := by
  have h1 := (unlockCleared_keeps s).mono (m := relockKeys) fun x hx => List.mem_append_left _ (List.mem_append_left _ hx)
  have h2 := debugHalts_keep s.unlockCleared
  have h3 := h1.trans (h2.mono (m := relockKeys) fun x hx => List.mem_append_left _ (List.mem_append_right _ hx))
  have h4 := h3.trans ((clearPerturb_keeps _).mono (m := relockKeys) fun x hx => List.mem_append_right _ hx)
  rw [unlockEnds_eq]
  exact h4.put _ _ (List.mem_append_left _ (List.mem_append_left _ (by simp)))

theorem unlockEnds_frame (s : State) : s.unlockEnds.pwr = s.pwr ∧ s.unlockEnds.rst = s.rst := by
  have hfold := foldl_keeps (fun t => (t.pwr, t.rst)) (f := State.endDebugHalt) (l := List.range 72)
    (fun t k _ => by rw [(endDebugHalt_frame t k).1, (endDebugHalt_frame t k).2]) s.unlockCleared
  obtain ⟨hp, hr⟩ := Prod.mk.inj hfold
  rw [unlockEnds_eq]
  generalize (List.range 72).foldl State.endDebugHalt s.unlockCleared = t at *
  have hc := clearPerturb_frame t
  generalize t.clearPerturb = u at *
  rw [hc]
  exact ⟨hp, hr⟩

theorem portReset_frame (s : State) : s.portReset.pwr = s.pwr ∧ s.portReset.rst.held = s.rst.held := ⟨rfl, rfl⟩

theorem portReset_on (s : State) (f : Fld) : s.portReset.on f = s.on f := rfl

theorem KeepsRegs.portReset {l : List Nat} {s t : State} (h : KeepsRegs l s t) : KeepsRegs l s t.portReset := h

theorem relock_keeps (s : State) : KeepsRegs relockKeys s s.relock := by
  rw [relock_eq]
  split
  · exact (unlockEnds_keeps s).portReset
  · exact KeepsRegs.refl _ s

theorem relock_frame (s : State) : s.relock.pwr = s.pwr ∧ s.relock.rst.held = s.rst.held := by
  rw [relock_eq]
  split
  · obtain ⟨hp, hr⟩ := unlockEnds_frame s
    rw [(portReset_frame _).1, (portReset_frame _).2, hp, hr]
    exact ⟨rfl, rfl⟩
  · exact ⟨rfl, rfl⟩

theorem relock_locks (s : State) : s.relock.on MON.UNLOCKED = false := by
  rw [relock_eq]
  split
  · have h1 : s.unlockCleared.on MON.UNLOCKED = false := by
      unfold State.unlockCleared
      rw [show State.raise _ _ = State.put _ MON.INT_RELOCK true from rfl, State.on_put_ne _ _ _ _ (by decide),
        State.on_wr_ne _ _ _ _ (by decide), State.on_wr_ne _ _ _ _ (by decide), State.on_put_ne _ _ _ _ (by decide)]
      exact State.on_put_self _ _ _ (by decide)
    have h2 : ((List.range 72).foldl State.endDebugHalt s.unlockCleared).rd MON.UNLOCKED = s.unlockCleared.rd MON.UNLOCKED :=
      debugHalts_keep _ _ (not_mem_debugHaltKeys (by decide))
    have h3 := clearPerturb_keeps ((List.range 72).foldl State.endDebugHalt s.unlockCleared) MON.UNLOCKED (not_mem_perturbKeys (by decide))
    have h4 : s.unlockEnds.on MON.UNLOCKED = s.unlockCleared.on MON.UNLOCKED := by
      rw [unlockEnds_eq, State.on_put_ne _ _ _ _ (by decide), State.on, h3, h2, State.on]
    rw [portReset_on, h4, h1]
  · next h => simpa using h

end Sys2Proof.Machine
end

section
/-! PROOFS. The entry to OPERATIONAL (R65, R400, R401). -/
namespace Sys2Proof.Machine
open Sys2Proof

theorem mayOperate_iff (s : State) : s.mayOperate = true ↔ s.on SAF.STORED_VALID = true
    ∧ s.rd SAF.COLOPHON_CALC = s.rd SAF.COLOPHON_STORED ∧ s.rd SAF.TRIPS_LATCH = 0 ∧ s.saf.testsPassed = true ∧ s.on SAF.SAFEMODE = false := by
  simp only [State.mayOperate, Bool.and_eq_true, decide_eq_true_eq, Bool.not_eq_true']
  tauto

theorem noPerturb_iff (s : State) : s.noPerturb = true ↔ ∀ p < 183, s.on (C.EN p) = false := by
  simp only [State.noPerturb, List.all_eq_true, List.mem_range, Bool.not_eq_true']
  rfl

/-- The states from which OPERATIONAL is entered (R400). -/
def State.idleState (s : State) : Bool := s.safety = sfInit || s.safety = sfCommission

theorem idleState_iff (s : State) : s.idleState = true ↔ s.rd SAF.STATE = 0 ∨ s.rd SAF.STATE = 1 := by
  simp only [State.idleState, Bool.or_eq_true, decide_eq_true_eq]
  rfl

theorem reqOperational_eq (s : State) : s.reqOperational = if s.idleState && s.mayOperate then s.tryOperate true else s.refuseReq := rfl

theorem autoOper_eq (s : State) : s.autoOper =
    if s.saf.autoLeft && s.on SAF.AUTO_OPER && s.idleState && !s.saf.entering then
      State.tryOperate { s with saf.autoTried := true } false else s := rfl

/-- An entry that waits for the units' confirmation. -/
def State.awaiting (s : State) (asked : Bool) : State := { s with saf.entering := true, saf.asked := asked }

theorem awaiting_saf (s : State) (asked : Bool) : (s.awaiting asked).saf.entering = true ∧ (s.awaiting asked).saf.asked = asked := ⟨rfl, rfl⟩

theorem awaiting_rd (s : State) (asked : Bool) (f : Fld) : (s.awaiting asked).rd f = s.rd f := rfl

theorem tryOperate_waits {s : State} (asked : Bool) (h : s.mayOperate = true) :
    (s.tryOperate asked).saf.entering = true ∧ (s.tryOperate asked).saf.asked = asked
      ∧ (∀ p < 183, (s.tryOperate asked).on (C.EN p) = false) ∧ (s.tryOperate asked).rd SAF.STATE = s.rd SAF.STATE := by
  have hform : s.tryOperate asked = s.clearPerturb.awaiting asked := by
    rw [State.tryOperate, if_pos h]
    rfl
  have hen (p : Nat) (hp : p < 183) := clearPerturb_clears s hp
  have hst := clearPerturb_keeps s SAF.STATE (not_mem_perturbKeys (by decide))
  rw [hform]
  refine ⟨(awaiting_saf _ _).1, (awaiting_saf _ _).2, fun p hp => ?_, (awaiting_rd _ _ _).trans hst⟩
  rw [State.on, awaiting_rd]
  exact hen p hp

/-- The state of SAF on entering OPERATIONAL, before a cause of DEGRADED that is present takes effect. -/
def State.operationalShown (s : State) : State := { s with saf.autoLeft := false, regs.cur := s.regs.cur.wr SAF.DEG_CAUSE 0 }

theorem operationalShown_rd (s : State) {f : Fld} (h : f.key ≠ SAF.DEG_CAUSE.key) : s.operationalShown.rd f = s.rd f :=
  State.rd_wr_ne s SAF.DEG_CAUSE f 0 h

theorem operationalShown_saf (s : State) : s.operationalShown.saf.entering = s.saf.entering ∧ s.operationalShown.pwr = s.pwr
    ∧ s.operationalShown.rst = s.rst := ⟨rfl, rfl, rfl⟩

theorem completeEntry_eq {s : State} (h : s.saf.entering = true) : s.completeEntry =
    if s.idleState && s.mayOperate && s.noPerturb then (s.relock.enter sfOperational).operationalShown.degrade
    else { s.requestFails with saf.entering := false, saf.asked := false } := by
  rw [State.completeEntry, if_neg (by simp [h])]
  rfl

/-- DOM_ON of SAF's domain is not what an entry writes. -/
theorem relock_enter_runs (s : State) : (s.relock.enter sfOperational).operationalShown.runs pSAF = s.runs pSAF := by
  have hframe := SafFrame.enter s.relock sfOperational
  refine runs_of_regs ?_ ?_
  · rw [(operationalShown_saf _).2.2, hframe.rst]
    exact (relock_frame s).2
  · have hdom : domainOf pSAF = 151 := by decide
    rw [hdom, operationalShown_rd _ (by decide), enter_keeps _ _ _ (by decide)]
    refine relock_keeps s _ fun hm => ?_
    rcases List.mem_append.mp hm with hm | hm
    · rcases List.mem_append.mp hm with hm | hm
      · exact absurd hm (by decide)
      · exact not_mem_debugHaltKeys (by decide) hm
    · exact not_mem_perturbKeys (by decide) hm

theorem judgeCauses_entering {s : State} (h : s.saf.entering = false) : s.judgeCauses.saf.entering = false := by
  have hshown : s.causesShown.saf.entering = false := by
    unfold State.causesShown
    dsimp only
    split <;> exact h
  have hnoted (t : State) : t.degradedNoted.saf.entering = t.saf.entering := rfl
  rw [judgeCauses_eq]
  split
  · exact hshown
  · split
    · rw [hnoted, enter_entering]
    · rw [hnoted, hshown]

/-- A judgement that enters no state keeps STATE_CHANGE, and one that enters a state raises it. -/
theorem judgeCauses_stateChange {s : State} (h : s.on SAF.INT_STATE_CHANGE = true) : s.judgeCauses.on SAF.INT_STATE_CHANGE = true := by
  have hshown : s.causesShown.on SAF.INT_STATE_CHANGE = true := by
    rw [State.on, causesShown_keeps s _ (by decide)]
    exact h
  rw [judgeCauses_eq]
  split
  · exact hshown
  · split
    · rw [State.on, degradedNoted_rd]
      exact enter_stateChange _ (by decide)
    · rw [State.on, degradedNoted_rd]
      exact hshown

/-- R65, R400, R401: a completed entry. -/
theorem entry_completes {s : State} (hrun : s.runs pSAF = true) (hgap : s.pwr.hold = false) (he : s.saf.entering = true)
    (hst : s.idleState = true) (hready : s.mayOperate = true) (hno : s.noPerturb = true) :
    s.completeEntry.rd SAF.STATE = (if s.completeEntry.degCauses = 0 then 2 else 3) ∧ s.completeEntry.saf.entering = false
      ∧ s.completeEntry.on MON.UNLOCKED = false ∧ s.completeEntry.on SAF.INT_STATE_CHANGE = true := by
  have hlock : (s.relock.enter sfOperational).on MON.UNLOCKED = false := by
    rw [State.on, enter_keeps _ _ _ (by decide)]
    exact relock_locks s
  have hstate : (s.relock.enter sfOperational).rd SAF.STATE = 2 := enter_state s.relock (st := 2) (by decide)
  have hchange : (s.relock.enter sfOperational).on SAF.INT_STATE_CHANGE = true := enter_stateChange _ (by decide)
  have hent := enter_entering s.relock sfOperational
  have hruns := (relock_enter_runs s).trans hrun
  have hclock : (s.relock.enter sfOperational).operationalShown.pwr.hold = false := by
    rw [(operationalShown_saf _).2.1, (SafFrame.enter s.relock sfOperational).pwr, (relock_frame s).1]
    exact hgap
  rw [completeEntry_eq he, if_pos (by rw [hst, hready, hno]; rfl), degrade_clocked hruns hclock, judgeCauses_degCauses, judgeCauses_state]
  generalize s.relock.enter sfOperational = t at *
  have hsafety : t.operationalShown.safety = sfOperational := (operationalShown_rd t (by decide)).trans hstate
  refine ⟨?_, judgeCauses_entering hent, ?_, judgeCauses_stateChange ?_⟩
  · by_cases h0 : t.operationalShown.degCauses = 0
    · rw [if_pos h0, if_neg (fun h => h.1 h0), hsafety]
      rfl
    · rw [if_neg h0, if_pos ⟨h0, hsafety⟩]
      rfl
  · rw [State.on, judgeCauses_keeps _ _ (by decide), operationalShown_rd t (by decide)]
    exact hlock
  · rw [State.on, operationalShown_rd t (by decide)]
    exact hchange

/-- Settles O31: an entry waits for the units' confirmation, completes or fails. -/
theorem operationalEntry : Obligations.OperationalEntry := by
  intro path s hrun hgap st ready confirmed waits
  have hmay : s.mayOperate = true ↔ ready := mayOperate_iff s
  have hidle : s.idleState = true ↔ st = 0 ∨ st = 1 := idleState_iff s
  refine ⟨fun hst hr => ⟨_, exec_reqOperational hrun hgap, ?_⟩, fun h => ⟨_, exec_reqOperational hrun hgap, ?_⟩,
    fun htried hleft hauto hst he hr => ⟨_, congrArg Host.Outcome.next (State.sentinel_runs s _ hrun hgap), ?_⟩,
    fun he hst hr hc => ⟨_, congrArg Host.Outcome.next (State.sentinel_runs s _ hrun hgap), ?_⟩,
    fun he h => (congrArg Host.Outcome.next (State.sentinel_runs s _ hrun hgap)).trans ?_⟩
  · have hcond : ((s.reqFrom false).idleState && (s.reqFrom false).mayOperate) = true := by
      rw [Bool.and_eq_true]
      exact ⟨hidle.mpr hst, hmay.mpr hr⟩
    obtain ⟨he, hasked, hen, hkeep⟩ := tryOperate_waits (s := s.reqFrom false) true (hmay.mpr hr)
    rw [reqOperational_eq, if_pos hcond]
    exact ⟨⟨he, hen, hkeep⟩, hasked⟩
  · have hcond : ¬((s.reqFrom false).idleState && (s.reqFrom false).mayOperate) = true := by
      rw [Bool.and_eq_true]
      exact fun e => h ⟨hidle.mp e.1, hmay.mp e.2⟩
    rw [reqOperational_eq, if_neg hcond]
    obtain ⟨herr, hkeep, -⟩ := refuseReq_refused s false
    exact ⟨herr, hkeep⟩
  · have hcond : (s.saf.autoLeft && s.on SAF.AUTO_OPER && s.idleState && !s.saf.entering) = true := by
      rw [hleft, hauto, hidle.mpr hst, he]
      rfl
    obtain ⟨he', hasked, hen, hkeep⟩ := tryOperate_waits (s := { s with saf.autoTried := true }) false (hmay.mpr hr)
    rw [if_pos htried, autoOper_eq, if_pos hcond]
    exact ⟨⟨he', hen, hkeep⟩, hasked⟩
  · exact entry_completes hrun hgap he (hidle.mpr hst) (hmay.mpr hr) ((noPerturb_iff s).mpr hc)
  · have hcond : ¬(s.idleState && s.mayOperate && s.noPerturb) = true := by
      rw [Bool.and_eq_true, Bool.and_eq_true, hidle, hmay, noPerturb_iff]
      exact fun e => h ⟨e.1.1, e.1.2, e.2⟩
    rw [completeEntry_eq he, if_neg hcond, State.requestFails, he, Bool.true_and]
    rfl

end Sys2Proof.Machine
end

section
/-! PROOFS. What trips SAF (R404, R409, R411, R413, R414, R416 to R421). -/
namespace Sys2Proof.Machine
open Sys2Proof

/-- A command of the sentinel clock, outside the gap. -/
theorem sentinel_done {s : State} (f : State → State) (hrun : s.runs pSAF = true) (hgap : s.pwr.hold = false) :
    done (s.sentinel f) = .next (f s) := congrArg Host.Outcome.next (State.sentinel_runs s f hrun hgap)

theorem fault_pwr (s : State) (p b : Nat) : (s.fault p b).pwr = s.pwr := ((SafFrame.refl s).fault p b).pwr

/-- A trip stays through a later one, and through the judging of the causes of DEGRADED. -/
theorem Trips.tripNow {s : State} {i j : Nat} (h : Trips i s) (hi : i < 32) (hj : j < 32) (hg : s.pwr.hold = false) : Trips i (s.tripNow j) := by
  obtain ⟨htrip, hint, hinh, htok, hlatch⟩ := h
  obtain ⟨-, hint', hinh', htok', hlatch'⟩ := tripNow_trips (s := s) hj hg
  refine ⟨by rw [tripNow_trip s j hi, htrip, Bool.or_true], hint', hinh', htok', fun h8 => ?_⟩
  by_cases h8j : 8 ≤ j
  · exact hlatch' h8j
  · obtain ⟨hst, hctr, hok⟩ := hlatch h8
    have hshown : (s.tripShown j).safety = sfSafeHold := (tripShown_shows s j).2.2.trans hst
    have hgate : (s.tripShown j).pwr.hold = false := by rw [(SafFrame.tripShown s j).pwr]; exact hg
    rw [tripNow_eq, if_neg (by simp [h8j])]
    refine ⟨(safOutputs_keeps _ _ (by decide)).trans hshown, ?_, ?_⟩
    · rw [safOutputs_ctrEn hgate, State.ctrEnable, hshown]
      rfl
    · rw [safOutputs_safeOk hgate, hshown]
      rfl

theorem Trips.judgeCauses {s : State} {i : Nat} (h : Trips i s) (h8 : 8 ≤ i) : Trips i s.judgeCauses := by
  obtain ⟨htrip, hint, hinh, htok, hlatch⟩ := h
  obtain ⟨hst, hctr, hok⟩ := hlatch h8
  have hkeep : KeepsRegs [SAF.DEG_CAUSE.key, SAF.INT_DEGRADE.key] s s.judgeCauses := by
    have hne : s.safety ≠ sfOperational := fun e => absurd (e.symm.trans hst) (by decide)
    rw [judgeCauses_eq]
    by_cases h0 : s.degCauses = 0
    · rw [if_pos h0]
      exact causesShown_keeps s
    · rw [if_neg h0, if_neg hne]
      exact (causesShown_keeps s).degradedNoted
  have hon (f : Fld) (hf : f.key ∉ [SAF.DEG_CAUSE.key, SAF.INT_DEGRADE.key]) : s.judgeCauses.on f = s.on f := by
    rw [State.on, hkeep f hf, State.on]
  refine ⟨?_, ?_, ?_, ?_, fun _ => ⟨(hkeep _ (by decide)).trans hst, ?_, ?_⟩⟩
  · rw [trip_of_rd (hkeep _ (by decide)) (hkeep _ (by decide))]
    exact htrip
  · rw [hon _ (by decide)]
    exact hint
  · rw [hon _ (by decide)]
    exact hinh
  · rw [hon _ (by decide)]
    exact htok
  · rw [hon _ (by decide)]
    exact hctr
  · rw [hon _ (by decide)]
    exact hok

/-- Whether SAF runs is not what its operations write. -/
theorem runs_of_frame {keys : List Nat} {s t : State} {p : Nat} (hf : SafFrame s t) (hk : KeepsRegs keys s t)
    (hdom : (PWR.DOM_ON (domainOf p)).key ∉ keys) : t.runs p = s.runs p :=
  runs_of_regs (by rw [hf.rst]) (hk _ hdom)

theorem tripNow_runs (s : State) (i : Nat) : (s.tripNow i).runs pSAF = s.runs pSAF :=
  runs_of_frame (SafFrame.tripNow s i) (tripNow_keeps s i) (by decide +kernel)

/-- EMT's FAULT bits stay set through an entry. -/
theorem enter_fault_on {s : State} {i : Nat} (st : Nat) (hi : i < 32) (h : s.on (C.FAULT pEMT i) = true) :
    (s.enter st).on (C.FAULT pEMT i) = true := by
  have hkey : ∀ i < 32, (C.FAULT pEMT i).key ∉ stateKeys ++ faultKeys pSAF ++ outputKeys := by decide +kernel
  have hi' := hkey i hi
  rw [List.mem_append, List.mem_append, not_or, not_or] at hi'
  have hshown : (s.stateShown st).on (C.FAULT pEMT i) = true := by
    rw [State.on, stateShown_keeps s st _ hi'.1.1]
    exact h
  have hheld : ((s.stateShown st).fault pSAF 0).on (C.FAULT pEMT i) = true := by
    rw [State.on, fault_keepsRegs _ _ _ _ hi'.1.2]
    exact hshown
  rw [enter_eq, State.on, safOutputs_keeps _ _ hi'.2, State.stateEntered]
  split_ifs
  · exact hheld
  · exact hshown
  · exact inhibit_fault_on hi hheld
  · exact inhibit_fault_on hi hshown

theorem tripNow_fault_on {s : State} {i : Nat} (j : Nat) (hi : i < 32) (h : s.on (C.FAULT pEMT i) = true) :
    (s.tripNow j).on (C.FAULT pEMT i) = true := by
  have hkey : ∀ i < 32, (C.FAULT pEMT i).key ∉ tripWordKeys ++ [SAF.INT_TRIP.key, CAL.ST_STRSK_BUSY.key] ++ outputKeys := by decide +kernel
  have hi' := hkey i hi
  rw [List.mem_append, not_or] at hi'
  have hput : KeepsRegs (tripWordKeys ++ [SAF.INT_TRIP.key, CAL.ST_STRSK_BUSY.key]) s (((s.tripNoted j).putTrip j true).raise SAF.INT_TRIP) :=
    (((tripNoted_keeps s j).mono (by decide)).trans ((putTrip_keeps _ j true).mono (by decide))).put SAF.INT_TRIP true (by decide)
  have hshown : (s.tripShown j).on (C.FAULT pEMT i) = true := by
    refine inhibit_fault_on hi ?_
    rw [State.on, hput _ hi'.1]
    exact h
  rw [tripNow_eq]
  split
  · exact enter_fault_on _ hi hshown
  · rw [State.on, safOutputs_keeps _ _ hi'.2]
    exact hshown

/-! ### Posts (R409, R411, R413) -/

/-- A state in which the oldest post has been taken. -/
def State.postTaken (s : State) (rest : List Post) : State := { s with saf.posts := rest }

theorem exec_faultPost {s : State} {p : Nat} {rest : List Post} (hrun : s.runs pSAF = true) (hgap : s.pwr.hold = false)
    (h : s.saf.posts = .faultSafety p :: rest) : exec .safetyFaultPost s = .next ((s.postTaken rest).safetyPost p) := by
  refine (sentinel_done _ hrun hgap).trans ?_
  rw [h]
  rfl

theorem exec_firePost {s : State} {fire pw n authPw authN : Nat} {noRef tokened nominal : Bool} {rest : List Post}
    (hrun : s.runs pSAF = true) (hgap : s.pwr.hold = false)
    (h : s.saf.posts = .fireReport fire pw n authPw authN noRef tokened nominal :: rest) : exec .safetyFaultPost s =
      .next ((s.postTaken rest).fireReport fire pw n authPw authN noRef tokened nominal) := by
  refine (sentinel_done _ hrun hgap).trans ?_
  rw [h]
  rfl

/-- The run of shots without a reference, counted. -/
def State.runCounted (s : State) (run : Nat) : State := { s with saf.norefRun := run }

theorem fireReport_eq (s : State) (fire pw n authPw authN : Nat) (noRef tokened nominal : Bool) :
    ∃ run, (fire = 0 → noRef = true → nominal = false → run = s.saf.norefRun + 1) ∧
    s.fireReport fire pw n authPw authN noRef tokened nominal =
      let lit := if (fire = 0 || fire = 2) && (!tokened || authPw < pw || authN < n) then (s.runCounted run).tripSet 11 else s.runCounted run
      if fire = 0 && noRef && s.rd SAF.NOREF_TRIP ≤ run then lit.tripSet 15 else lit := by
  refine ⟨if fire = 0 && !nominal then (if noRef then s.saf.norefRun + 1 else 0) else s.saf.norefRun, ?_, rfl⟩
  intro hf hr hn
  simp [hf, hr, hn]

theorem fireReport_light {s : State} {fire pw n authPw authN : Nat} {noRef tokened nominal : Bool} (hgap : s.pwr.hold = false)
    (hfire : fire = 0 ∨ fire = 2) (h : tokened = false ∨ authPw < pw ∨ authN < n) :
    Trips 11 (s.fireReport fire pw n authPw authN noRef tokened nominal) := by
  obtain ⟨run, -, heq⟩ := fireReport_eq s fire pw n authPw authN noRef tokened nominal
  have hlit : ((fire = 0 || fire = 2) && (!tokened || authPw < pw || authN < n) : Bool) = true := by
    simpa [or_assoc] using And.intro hfire h
  have htrip : Trips 11 ((s.runCounted run).tripSet 11) := tripSet_trips (by decide) hgap
  rw [heq, if_pos hlit]
  dsimp only
  split
  · have hg : ((s.runCounted run).tripSet 11).pwr.hold = false := by
      rw [tripSet_clocked (s := s.runCounted run) hgap, (SafFrame.tripNow _ _).pwr]
      exact hgap
    rw [tripSet_clocked hg]
    exact htrip.tripNow (by decide) (by decide) hg
  · exact htrip

theorem fireReport_noRef {s : State} {pw n authPw authN : Nat} {tokened : Bool} (hgap : s.pwr.hold = false)
    (h : s.rd SAF.NOREF_TRIP ≤ s.saf.norefRun + 1) : Trips 15 (s.fireReport 0 pw n authPw authN true tokened false) := by
  obtain ⟨run, hrun, heq⟩ := fireReport_eq s 0 pw n authPw authN true tokened false
  have hle : (decide (0 = 0) && true && decide (s.rd SAF.NOREF_TRIP ≤ run)) = true := by
    rw [hrun rfl rfl rfl, decide_eq_true h]
    rfl
  rw [heq]
  dsimp only
  rw [if_pos hle]
  refine tripSet_trips (by decide) ?_
  split
  · rw [tripSet_clocked (s := s.runCounted run) hgap, (SafFrame.tripNow _ _).pwr]
    exact hgap
  · exact hgap

section
variable {s : State} (hrun : s.runs pSAF = true) (hgap : s.pwr.hold = false)
include hrun hgap

/-- EMT's post of light that SAF commanded no more, then of a token's tag, then the causes of DEGRADED. -/
theorem safetyPost_emt : s.safetyPost pEMT =
    (let s1 := if s.on EMT.FAULT_MPD_EXTRA && !s.trip 12 then s.tripNow 12 else s
     if s1.on EMT.FAULT_TOKEN_TAG && !s1.trip 13 then s1.tripNow 13 else s1).judgeCauses := by
  have h1 : (if s.on EMT.FAULT_MPD_EXTRA && !s.trip 12 then s.tripSet 12 else s)
      = if s.on EMT.FAULT_MPD_EXTRA && !s.trip 12 then s.tripNow 12 else s := by rw [tripSet_clocked hgap]
  have hform : s.safetyPost pEMT =
    (let s1 := if s.on EMT.FAULT_MPD_EXTRA && !s.trip 12 then s.tripSet 12 else s
     if s1.on EMT.FAULT_TOKEN_TAG && !s1.trip 13 then s1.tripSet 13 else s1).degrade := rfl
  rw [hform, h1]
  dsimp only
  have hg1 : (if s.on EMT.FAULT_MPD_EXTRA && !s.trip 12 then s.tripNow 12 else s).pwr.hold = false := by
    split
    · rw [(SafFrame.tripNow _ _).pwr]
      exact hgap
    · exact hgap
  have hr1 : (if s.on EMT.FAULT_MPD_EXTRA && !s.trip 12 then s.tripNow 12 else s).runs pSAF = true := by
    split
    · rw [tripNow_runs]
      exact hrun
    · exact hrun
  generalize (if s.on EMT.FAULT_MPD_EXTRA && !s.trip 12 then s.tripNow 12 else s) = s1 at *
  rw [tripSet_clocked hg1]
  refine degrade_clocked ?_ ?_
  · split
    · rw [tripNow_runs]
      exact hr1
    · exact hr1
  · split
    · rw [(SafFrame.tripNow _ _).pwr]
      exact hg1
    · exact hg1

theorem safetyPost_mpd (hon : s.on EMT.FAULT_MPD_EXTRA = true) (h12 : s.trip 12 = false) : Trips 12 (s.safetyPost pEMT) := by
  have htrip := tripNow_trips (s := s) (i := 12) (by decide) hgap
  have hg : (s.tripNow 12).pwr.hold = false := by
    rw [(SafFrame.tripNow _ _).pwr]
    exact hgap
  have hcond : (s.on EMT.FAULT_MPD_EXTRA && !s.trip 12) = true := by
    rw [hon, h12]
    rfl
  rw [safetyPost_emt hrun hgap, if_pos hcond]
  refine Trips.judgeCauses ?_ (by decide)
  dsimp only
  split
  · exact htrip.tripNow (by decide) (by decide) hg
  · exact htrip

theorem safetyPost_tag (hon : s.on EMT.FAULT_TOKEN_TAG = true) (h13 : s.trip 13 = false) : Trips 13 (s.safetyPost pEMT) := by
  rw [safetyPost_emt hrun hgap]
  refine Trips.judgeCauses ?_ (by decide)
  dsimp only
  have hon' : (if s.on EMT.FAULT_MPD_EXTRA && !s.trip 12 then s.tripNow 12 else s).on EMT.FAULT_TOKEN_TAG = true := by
    split
    · exact tripNow_fault_on (i := 2) 12 (by decide) hon
    · exact hon
  have h13' : (if s.on EMT.FAULT_MPD_EXTRA && !s.trip 12 then s.tripNow 12 else s).trip 13 = false := by
    split
    · rw [tripNow_trip s 12 (by decide), h13]
      rfl
    · exact h13
  rw [if_pos (by rw [hon', h13']; rfl)]
  refine tripNow_trips (by decide) ?_
  split
  · rw [(SafFrame.tripNow _ _).pwr]
    exact hgap
  · exact hgap

/-- The post of another folio counts for DEGRADED alone. -/
theorem safetyPost_other {p : Nat} (hp : p ≠ pEMT) : s.safetyPost p = s.judgeCauses := by
  unfold State.safetyPost
  rw [decide_eq_false hp]
  exact degrade_clocked hrun hgap

end

/-! ### The trips -/

/-- Settles O32: every condition of R409 leads to tripSet of its own bit. -/
theorem safetyTrips : Obligations.SafetyTrips := by
  intro a fire pw n authPw authN noRef tokened nominal p rest r s hrun hgap trips
  have hselfTest : exec (.selfTest r) s = .next (if emitting s.safety && s.inShot then s
      else if r.gateOk && r.permitOk && r.ctrEnOk && r.oscillatorOk && s.watchAgree then { s with saf.testsPassed := true }
      else (s.fault pSAF 2).tripSet 18) := sentinel_done _ hrun hgap
  refine ⟨⟨_, sentinel_done _ hrun hgap, tripSet_trips (by decide) (by rw [fault_pwr]; exact hgap)⟩,
    ⟨_, sentinel_done _ hrun hgap, tripSet_trips (by decide) hgap⟩, ?_, fun hd => ⟨_, sentinel_done _ hrun hgap, ?_⟩,
    fun hw hne => ⟨_, sentinel_done _ hrun hgap, ?_⟩, fun hst hmax => ⟨_, sentinel_done _ hrun hgap, ?_⟩,
    fun hquiet hbad => ⟨_, hselfTest, ?_⟩, fun hquiet hok => hselfTest.trans ?_,
    fun hp hf h => ⟨_, exec_firePost hrun hgap hp, fireReport_light (s := s.postTaken rest) hgap hf h⟩,
    fun hp h => ⟨_, exec_firePost hrun hgap hp, fireReport_noRef (s := s.postTaken rest) hgap h⟩,
    fun hp hon h => ⟨_, exec_faultPost hrun hgap hp, safetyPost_mpd (s := s.postTaken rest) hrun hgap hon h⟩,
    fun hp hon h => ⟨_, exec_faultPost hrun hgap hp, safetyPost_tag (s := s.postTaken rest) hrun hgap hon h⟩,
    fun hp hne hst hc => ⟨_, exec_faultPost hrun hgap hp, ?_⟩⟩
  · intro level hlevel htrip
    have hcond : ∀ t : State, t.runs pSAF = true → t.rawInhibits = true → t.trip 0 = false →
        (t.runs pSAF && t.rawInhibits && !t.trip 0) = true := fun t h1 h2 h3 => by rw [h1, h2, h3]; rfl
    cases a
    · have hl : level = false := by simpa using hlevel
      subst hl
      refine ⟨_, congrArg Host.Outcome.next (if_pos (hcond { s with saf.rawA := false } hrun rfl htrip)), tripSet_trips (by decide) hgap⟩
    · have hl : level = true := by simpa using hlevel
      subst hl
      refine ⟨_, congrArg Host.Outcome.next (if_pos (hcond { s with saf.rawB := true } hrun (Bool.or_true _) htrip)),
        tripSet_trips (by decide) hgap⟩
  · rw [if_pos hd]
    exact tripSet_trips (by decide) hgap
  · have hdiff : (s.on SAF.CTR_FB_CLOSED != s.on SAF.CTR_EN) = true := by simpa using hne
    by_cases hwait : s.saf.contactorWait = true
    · rw [if_pos hwait, if_pos hdiff]
      exact tripSet_trips (by decide) hgap
    · rw [if_neg hwait, if_pos (by rw [hw.resolve_left hwait, hdiff]; rfl)]
      exact tripSet_trips (by decide) hgap
  · rw [if_pos (by rw [decide_eq_true (show s.safety = sfDegraded from hst), bne_iff_ne.mpr hmax]; rfl)]
    exact tripSet_trips (by decide) hgap
  · rw [if_neg (by rw [show (emitting s.safety && s.inShot) = false from hquiet]; decide), if_neg (by rw [hbad]; decide)]
    exact tripSet_trips (by decide) (by rw [fault_pwr]; exact hgap)
  · rw [if_neg (by rw [show (emitting s.safety && s.inShot) = false from hquiet]; decide), if_pos hok]
  · rw [safetyPost_other (s := s.postTaken rest) hrun hgap hne]
    refine ⟨?_, judgeCauses_posts _⟩
    rw [judgeCauses_state, if_pos ⟨hc, hst⟩]
    rfl

end Sys2Proof.Machine
end

section
/-! PROOFS. What clears in SAF, and the gap of a feed switch-over (R404, R405, R409, R416, R418, R420, R446, R447). -/
namespace Sys2Proof.Machine
open Sys2Proof

/-! ### Clearing trips (R409) -/

/-- The rule that clears a trip reads no trip word. -/
theorem putTrip_clears (s : State) (i j : Nat) (b : Bool) : (s.putTrip i b).tripClears j = s.tripClears j := by
  have hk := putTrip_keeps s i b
  have hsaf : (s.putTrip i b).saf = s.saf := (congrArg State.saf (putTrip_frame s i b)).trans rfl
  have hrd : ∀ f ∈ [SAF.CTR_FB_CLOSED, SAF.CTR_EN, EMT.FAULT_MPD_EXTRA, EMT.FAULT_TOKEN_TAG, WATCH.ST_OVERTEMP, CHK.CLK_GOOD, SAF.COLOPHON_CALC,
      SAF.COLOPHON_STORED], (s.putTrip i b).rd f = s.rd f := by
    intro f hf
    have hall : ∀ f ∈ [SAF.CTR_FB_CLOSED, SAF.CTR_EN, EMT.FAULT_MPD_EXTRA, EMT.FAULT_TOKEN_TAG, WATCH.ST_OVERTEMP, CHK.CLK_GOOD,
      SAF.COLOPHON_CALC, SAF.COLOPHON_STORED], f.key ∉ tripWordKeys := by decide
    exact hk f (hall f hf)
  simp only [List.forall_mem_cons] at hrd
  obtain ⟨h1, h2, h3, h4, h5, h6, h7, h8, -⟩ := hrd
  unfold State.tripClears State.clockGood State.on
  rw [hsaf, h1, h2, h3, h4, h5, h6, h7, h8]

/-- The trips that a write names and that may clear, cleared. -/
theorem foldl_clears (v : Nat) {l : List Nat} {j : Nat} (hj : j < 32) (s : State) :
    (l.foldl (fun s i => if bit v i && s.tripClears i then s.putTrip i false else s) s).trip j =
      (s.trip j && !(decide (j ∈ l) && (bit v j && s.tripClears j))) := by
  induction l generalizing s with
  | nil => simp
  | cons i l ih =>
    have hstep : (if bit v i && s.tripClears i then s.putTrip i false else s).tripClears j = s.tripClears j := by
      split
      · exact putTrip_clears s i j false
      · rfl
    have htrip : (if bit v i && s.tripClears i then s.putTrip i false else s).trip j =
        (s.trip j && !(decide (j = i) && (bit v i && s.tripClears i))) := by
      cases hc : bit v i && s.tripClears i
      · rw [if_neg Bool.false_ne_true, Bool.and_false, Bool.not_false, Bool.and_true]
      · rw [if_pos rfl, putTrip_trip s false hj]
        by_cases hji : j = i <;> simp [hji]
    rw [List.foldl_cons, ih, hstep, htrip]
    by_cases hji : j = i
    · subst hji
      cases s.trip j <;> cases bit v j && s.tripClears j <;> simp
    · simp [hji]

/-! ### The permit channels and the contactor (R416 to R418) -/

/-- The registers of a settled permit channel, beside the channel's own. -/
def permitKeys : List Nat := [SAF.DISC_CNT.key, SAF.INT_DISC_BELOW.key] ++ tripWordKeys ++ outputKeys

/-- The disagreement timer's part of a settled channel. -/
def State.disagreementSettled (s : State) (before : Bool) : State :=
  if s.on SAF.EPERM_A_OK != s.on SAF.EPERM_B_OK then { s with saf.disagree := s.saf.disagree || before }
  else if s.saf.disagree then State.raise { s.count SAF.DISC_CNT 1 with saf.disagree := false } SAF.INT_DISC_BELOW
  else s

/-- DISCREPANCY's part of a settled channel, whose levels are a and b. -/
def State.discrepancySettled (s : State) (a b : Bool) : State :=
  if s.saf.discLatched = 1 && !a && !b then { s with saf.discLatched := 2 }
  else if s.saf.discLatched = 2 && a && b then State.safOutputs { s.putTrip 8 false with saf.discLatched := 0 }
  else s

theorem permitSettled_eq (s : State) (before : Bool) : s.permitSettled before =
    let a := s.on SAF.EPERM_A_OK
    let b := s.on SAF.EPERM_B_OK
    let s2 := (s.disagreementSettled before).discrepancySettled a b
    if a && b && !s2.rawInhibits then s2.tripGone 0 else s2 := rfl

theorem disagreementSettled_keeps (s : State) (before : Bool) : KeepsRegs permitKeys s (s.disagreementSettled before) := by
  unfold State.disagreementSettled
  split
  · exact (KeepsRegs.refl _ s).of_cur rfl
  · split
    · exact (((KeepsRegs.refl _ s).count SAF.DISC_CNT 1 (by decide)).of_cur rfl).put SAF.INT_DISC_BELOW true (by decide)
    · exact KeepsRegs.refl _ s

/-- A trip bit of the discrepancy cleared. -/
def State.discrepancyCleared (s : State) : State := { s.putTrip 8 false with saf.discLatched := 0 }

theorem discrepancySettled_keeps (s : State) (a b : Bool) : KeepsRegs permitKeys s (s.discrepancySettled a b) := by
  unfold State.discrepancySettled
  split
  · exact (KeepsRegs.refl _ s).of_cur rfl
  · split
    · have h : KeepsRegs permitKeys s s.discrepancyCleared := ((putTrip_keeps s 8 false).mono (by decide)).of_cur rfl
      exact h.trans ((safOutputs_keeps _).mono (by decide))
    · exact KeepsRegs.refl _ s

theorem tripGone_keeps (s : State) (i : Nat) : KeepsRegs permitKeys s (s.tripGone i) := by
  unfold State.tripGone
  extract_lets _ s1
  have h : KeepsRegs permitKeys s s1 := (KeepsRegs.refl _ s).of_cur rfl
  split
  · exact (h.trans ((putTrip_keeps s1 i false).mono (by decide))).trans ((safOutputs_keeps _).mono (by decide))
  · exact h

theorem tripGone_trip (s : State) {i : Nat} (hi : i < 32) : (s.tripGone i).trip i = false := by
  unfold State.tripGone
  extract_lets _ s1
  split
  · have hk := safOutputs_keeps (s1.putTrip i false)
    rw [trip_of_rd (hk _ (by decide)) (hk _ (by decide)), putTrip_trip s1 false hi, if_pos rfl]
  · next h => simpa using h

theorem permitSettled_keeps (s : State) (before : Bool) : KeepsRegs permitKeys s (s.permitSettled before) := by
  rw [permitSettled_eq]
  extract_lets a b s2
  have h2 : KeepsRegs permitKeys s s2 := (disagreementSettled_keeps s before).trans (discrepancySettled_keeps _ a b)
  split
  · exact h2.trans (tripGone_keeps s2 0)
  · exact h2

/-- The raw levels of the permit pins. -/
theorem permitParts_raw (s : State) (before a b : Bool) :
    ((s.disagreementSettled before).discrepancySettled a b).rawInhibits = s.rawInhibits := by
  have hout (t : State) : t.safOutputs.rawInhibits = t.rawInhibits := by
    have h := (SafFrame.safOutputs t).rest
    have ha : t.safOutputs.saf.rawA = t.saf.rawA := (congrArg (·.saf.rawA) h).trans rfl
    have hb : t.safOutputs.saf.rawB = t.saf.rawB := (congrArg (·.saf.rawB) h).trans rfl
    simp only [State.rawInhibits, ha, hb]
  have hclear (t : State) : t.discrepancyCleared.rawInhibits = t.rawInhibits := by
    have h := putTrip_frame t 8 false
    have ha : t.discrepancyCleared.saf.rawA = t.saf.rawA := (congrArg (·.saf.rawA) h).trans rfl
    have hb : t.discrepancyCleared.saf.rawB = t.saf.rawB := (congrArg (·.saf.rawB) h).trans rfl
    simp only [State.rawInhibits, ha, hb]
  have hdisc (t : State) : (t.discrepancySettled a b).rawInhibits = t.rawInhibits := by
    unfold State.discrepancySettled
    split
    · rfl
    · split
      · exact (hout _).trans (hclear t)
      · rfl
  rw [hdisc]
  unfold State.disagreementSettled
  split
  · rfl
  · split <;> rfl

/-- R416: PERMIT goes once both channels permit and no raw level inhibits. -/
theorem permitSettled_permits {s : State} (before : Bool) (ha : s.on SAF.EPERM_A_OK = true) (hb : s.on SAF.EPERM_B_OK = true)
    (hraw : s.rawInhibits = false) : (s.permitSettled before).trip 0 = false := by
  rw [permitSettled_eq]
  dsimp only
  rw [if_pos (by rw [permitParts_raw, ha, hb, hraw]; rfl)]
  exact tripGone_trip _ (by decide)

/-! ### The energy windows (R405, R571) -/

theorem buckets_set (t : Tab (List Nat)) (st : Nat) (l : List Nat) (x : Nat) :
    buckets (Tab.set (List.replicate 16 0) t st l) x = if x = st then l else buckets t x := by
  unfold buckets
  split
  · next h => rw [h, Tab.get_set_self]
  · next h => exact Tab.get_set_ne _ _ _ _ h

/-- Every string's bucket ends. -/
theorem nextBucket_buckets (t : Tab (List Nat)) {st : Nat} (h : st < 8) : buckets (nextBucket t) st = 0 :: (buckets t st).take 15 := by
  have hfold : ∀ (l : List Nat) (t : Tab (List Nat)), l.Nodup →
      buckets (l.foldl (fun t st => Tab.set (List.replicate 16 0) t st (0 :: (buckets t st).take 15)) t) st =
        if st ∈ l then 0 :: (buckets t st).take 15 else buckets t st := by
    intro l
    induction l with
    | nil => intro t _; rfl
    | cons x l ih =>
      intro t hl
      obtain ⟨hx, hl⟩ := List.nodup_cons.mp hl
      rw [List.foldl_cons, ih _ hl, buckets_set]
      by_cases hst : st = x
      · subst hst
        simp [hx]
      · simp [hst]
  rw [nextBucket, hfold _ _ List.nodup_range, if_pos (List.mem_range.mpr h)]

theorem showEnergy_keeps (s : State) : KeepsRegs [SAF.Q_W1_NOW.key, SAF.Q_W2_NOW.key] s s.showEnergy :=
  ((KeepsRegs.refl _ s).wr _ _ (by decide)).wr _ _ (by decide)

theorem showEnergy_saf (s : State) : s.showEnergy.saf = s.saf := by
  unfold State.showEnergy
  simp only [State.wr_saf]

/-- A bucket of one window ended (R571). -/
def State.bucketEnded (s : State) (second : Bool) : State :=
  if second then { s with saf.w2 := nextBucket s.saf.w2, saf.since2 := min 16 (s.saf.since2 + 1) }
  else { s with saf.w1 := nextBucket s.saf.w1, saf.since1 := min 16 (s.saf.since1 + 1) }

theorem exec_energyBucketAdvance {s : State} (second : Bool) (hrun : s.runs pSAF = true) (hgap : s.pwr.hold = false) :
    exec (.energyBucketAdvance second) s = .next (s.bucketEnded second).showEnergy := sentinel_done _ hrun hgap

theorem bucketEnded_windows (s : State) (second : Bool) :
    (if second then (s.bucketEnded second).saf.w2 else (s.bucketEnded second).saf.w1)
        = nextBucket (if second then s.saf.w2 else s.saf.w1)
      ∧ (if second then (s.bucketEnded second).saf.w1 = s.saf.w1 else (s.bucketEnded second).saf.w2 = s.saf.w2)
      ∧ KeepsRegs [SAF.Q_W1_NOW.key, SAF.Q_W2_NOW.key] s (s.bucketEnded second) := by
  have hrd (f : Fld) : (s.bucketEnded second).rd f = s.rd f := by
    unfold State.bucketEnded
    generalize nextBucket s.saf.w1 = w1
    generalize nextBucket s.saf.w2 = w2
    split <;> rfl
  refine ⟨?_, ?_, fun f _ => hrd f⟩
  · unfold State.bucketEnded
    cases second
    · rw [if_neg Bool.false_ne_true, if_neg Bool.false_ne_true, if_neg Bool.false_ne_true]
    · rw [if_pos rfl, if_pos rfl, if_pos rfl]
  · unfold State.bucketEnded
    cases second
    · rw [if_neg Bool.false_ne_true, if_neg Bool.false_ne_true]
    · rw [if_pos rfl, if_pos rfl]

/-! ### The end of the gap (R420, R445 to R449) -/

theorem SafFrame.degrade (s : State) : SafFrame s s.degrade := by
  unfold State.degrade State.sentinel
  split
  · exact SafFrame.judgeCauses s
  · exact SafFrame.refl s

theorem degrade_keeps (s : State) : KeepsRegs judgeKeys s s.degrade := by
  unfold State.degrade State.sentinel
  split
  · exact judgeCauses_keeps s
  · exact KeepsRegs.refl _ s

def feedKeys : List Nat := PWR.ST_ON_STANDBY.key :: faultKeys pPWR ++ judgeKeys

theorem showFeed_keeps (s : State) : KeepsRegs feedKeys s s.showFeed := by
  unfold State.showFeed
  extract_lets standby s1
  have h1 : KeepsRegs feedKeys s s1 := (KeepsRegs.refl _ s).put _ _ (by decide)
  split
  · exact (h1.trans ((fault_keepsRegs s1 pPWR 0).mono (by decide))).trans ((degrade_keeps _).mono (by decide))
  · exact h1

theorem SafFrame.showFeed (s : State) : SafFrame s s.showFeed := by
  unfold State.showFeed
  extract_lets standby s1
  have h1 : SafFrame s s1 := (SafFrame.refl s).put _ _
  split
  · exact (h1.fault _ _).trans (SafFrame.degrade _)
  · exact h1

/-- The trips met in a gap, set in order at its end. -/
def State.gapTripsSet (s : State) (gap : Nat) : State :=
  (List.range 24).foldl (fun s i => if bit gap i && !s.trip i then s.tripSet i else s) s

theorem gapTrip_frame (s : State) (gap i : Nat) (hg : s.pwr.hold = false) :
    SafFrame s (if bit gap i && !s.trip i then s.tripSet i else s) := by
  split
  · rw [tripSet_clocked hg]
    exact SafFrame.tripNow s i
  · exact SafFrame.refl s

theorem gapTripsSet_frame (s : State) (gap : Nat) (hg : s.pwr.hold = false) : SafFrame s (s.gapTripsSet gap) := by
  refine List.foldlRecOn (motive := fun t => SafFrame s t) (List.range 24) _ (SafFrame.refl s) fun t ht i _ => ?_
  exact ht.trans (gapTrip_frame t gap i (by rw [ht.pwr]; exact hg))

theorem gapTripsSet_keeps (s : State) (gap : Nat) (hg : s.pwr.hold = false) : KeepsRegs tripKeys s (s.gapTripsSet gap) := by
  refine (List.foldlRecOn (motive := fun t => SafFrame s t ∧ KeepsRegs tripKeys s t) (List.range 24) _ ⟨SafFrame.refl s, KeepsRegs.refl _ s⟩ ?_).2
  intro t ht i _
  have hgt : t.pwr.hold = false := by rw [ht.1.pwr]; exact hg
  refine ⟨ht.1.trans (gapTrip_frame t gap i hgt), ht.2.trans ?_⟩
  split
  · rw [tripSet_clocked hgt]
    exact tripNow_keeps t i
  · exact KeepsRegs.refl _ t

theorem foldl_gapTrip {gap i : Nat} (hi : i < 32) (hbit : bit gap i = true) (l : List Nat) (s : State) (hg : s.pwr.hold = false)
    (h : i ∈ l ∨ s.trip i = true) : (l.foldl (fun s i => if bit gap i && !s.trip i then s.tripSet i else s) s).trip i = true := by
  induction l generalizing s with
  | nil => exact h.resolve_left List.not_mem_nil
  | cons j l ih =>
    rw [List.foldl_cons]
    refine ih _ (by rw [(gapTrip_frame s gap j hg).pwr]; exact hg) ?_
    have hstep : (if bit gap j && !s.trip j then s.tripSet j else s).trip i = ((decide (i = j) && bit gap j) || s.trip i) := by
      cases hc : bit gap j && !s.trip j
      · rw [if_neg Bool.false_ne_true]
        by_cases hij : i = j
        · subst hij
          rw [hbit] at hc ⊢
          simpa using hc
        · simp [hij]
      · rw [if_pos rfl, tripSet_clocked hg, tripNow_trip s j hi]
        rw [Bool.and_eq_true] at hc
        rw [hc.1, Bool.and_true]
    rw [hstep]
    rcases h with h | h
    · rcases List.mem_cons.mp h with rfl | h
      · right
        rw [hbit, decide_eq_true rfl]
        rfl
      · exact .inl h
    · right
      rw [h, Bool.or_true]

theorem gapTripsSet_trip {s : State} {gap i : Nat} (hg : s.pwr.hold = false) (hi : i < 24) (hbit : bit gap i = true) :
    (s.gapTripsSet gap).trip i = true :=
  foldl_gapTrip (by omega) hbit _ s hg (.inl (List.mem_range.mpr hi))

/-- The switch-over counted and shown at the end of its gap (R448, R449), before what waited acts. -/
def State.switchShown (s : State) : State :=
  let n := min 4 (s.pwr.recent + 1)
  let flap := n = 4 && s.freeVal 0 % 2 = 1
  let acc := match s.acq.frame with
    | some f => f.accession
    | none => s.lastAccession.getD 0
  let s1 : State := { s.drew 1 with
    pwr.hold := false, pwr.recent := n, pwr.flapped := s.pwr.flapped || flap
    pwr.lifeSwitches := s.pwr.lifeSwitches + 1, saf.gapTrips := 0, pwr.held := [] }
  let s2 := (s1.count (if s.pwr.back then PWR.RETURN_CNT else PWR.SWITCH_CNT) 1).wr PWR.SWITCH_ACC acc.toNat
  (if flap then s2.raise PWR.INT_FLAP else s2).raise PWR.INT_SWITCHOVER

/-- The trips of the gap set. -/
def State.gapEnded (s : State) : State := s.switchShown.showFeed.gapTripsSet s.saf.gapTrips

theorem exec_holdRelease {s : State} (hg : s.pwr.hold = true) :
    exec .holdRelease s = .next ((s.pwr.held.foldl State.runHeld s.gapEnded.degrade).safOutputs) := by
  refine (congrArg Host.Outcome.next (if_neg (by rw [hg]; decide))).trans ?_
  rfl

theorem switchShown_frame (s : State) :
    s.switchShown.pwr.hold = false ∧ s.switchShown.pwr.held = [] ∧ s.switchShown.saf.gapTrips = 0 := by
  unfold State.switchShown
  dsimp only
  split <;> exact ⟨rfl, rfl, rfl⟩

theorem SafFrame.hold {s t : State} (h : SafFrame s t) (hs : s.pwr.hold = false) : t.pwr.hold = false := by
  rw [h.pwr]
  exact hs

theorem gapEnded_frame (s : State) : SafFrame s.switchShown s.gapEnded :=
  (SafFrame.showFeed _).trans (gapTripsSet_frame _ _ ((SafFrame.showFeed _).hold (switchShown_frame s).1))

theorem gapEnded_trip (s : State) {i : Nat} (hi : i < 24) (hbit : bit s.saf.gapTrips i = true) : s.gapEnded.trip i = true :=
  gapTripsSet_trip ((SafFrame.showFeed _).hold (switchShown_frame s).1) hi hbit

theorem degrade_trip (s : State) (i : Nat) : s.degrade.trip i = s.trip i :=
  trip_of_rd (degrade_keeps s _ (by decide)) (degrade_keeps s _ (by decide)) i

/-! ### The statement -/

/-- What clears in SAF outside the gap. -/
theorem safetyClears (path : Path) (value : Word) (level second : Bool) (s : State) (hrun : s.runs pSAF = true) (hgap : s.pwr.hold = false) :
    (∃ t, exec (.tripsLatchClear path value) s = .next t
      ∧ ∀ i, 8 ≤ i → i < 32 → t.trip i = (s.trip i && !(value.getLsbD i && s.tripClears i)))
    ∧ (s.acq.shot = none → s.rd SAF.TRIPS_HOLD = 0 → s.rd SAF.TRIPS_LATCH = 0 → (s.rd SAF.STATE = 1 ∨ s.rd SAF.STATE = 2 ∨ s.rd SAF.STATE = 3) →
        exec .inhibitLatchClear s = .next (s.put SAF.ST_INHIBIT false))
    ∧ (s.acq.shot ≠ none ∨ s.rd SAF.TRIPS_HOLD ≠ 0 ∨ s.rd SAF.TRIPS_LATCH ≠ 0 ∨ s.rd SAF.STATE = 0 ∨ s.rd SAF.STATE = 4 →
        exec .inhibitLatchClear s = .next s)
    ∧ (s.saf.rawA = level → ∃ t, exec (.permitFilterSettled .epermA level) s = .next t ∧ t.on SAF.EPERM_A_OK = level
        ∧ (level = true → s.on SAF.EPERM_B_OK = true → s.saf.rawB = false → t.trip 0 = false))
    ∧ (s.saf.rawB = level → ∃ t, exec (.permitFilterSettled .epermB level) s = .next t ∧ t.on SAF.EPERM_B_OK = !level
        ∧ (level = false → s.on SAF.EPERM_A_OK = true → s.saf.rawA = true → t.trip 0 = false))
    ∧ (∃ t, exec (.permitFilterSettled .ctrFb level) s = .next t ∧ t.on SAF.CTR_FB_CLOSED = (level != s.on SAF.CTR_FB_POL))
    ∧ (∃ t, exec (.energyBucketAdvance second) s = .next t
        ∧ (∀ st < 8, buckets (if second then t.saf.w2 else t.saf.w1) st =
            0 :: (buckets (if second then s.saf.w2 else s.saf.w1) st).take 15)
        ∧ (if second then t.saf.w1 = s.saf.w1 else t.saf.w2 = s.saf.w2)
        ∧ KeepsRegs [SAF.Q_W1_NOW.key, SAF.Q_W2_NOW.key] s t) := by
  refine ⟨⟨_, congrArg Host.Outcome.next (State.writeSentinel_runs s path pSAF _ _ _ hrun hgap), fun i h8 hi => ?_⟩, ?_, ?_, fun hraw =>
    ⟨_, sentinel_done _ hrun hgap, ?_⟩, fun hraw => ⟨_, sentinel_done _ hrun hgap, ?_⟩, ⟨_, sentinel_done _ hrun hgap, ?_⟩,
    ⟨_, exec_energyBucketAdvance second hrun hgap, ?_⟩⟩
  · unfold State.clearTrips
    have hk := safOutputs_keeps ((List.range' 8 24).foldl (fun s i => if bit value.toNat i && s.tripClears i then s.putTrip i false else s)
      { s with bus := {} })
    rw [trip_of_rd (hk _ (by decide)) (hk _ (by decide)), foldl_clears _ hi, bit_toNat,
      decide_eq_true (List.mem_range'_1.mpr ⟨h8, by omega⟩), Bool.true_and]
    rfl
  · intro hshot hh hl hst
    have hemit : emitting s.safety = true := by
      unfold State.safety
      rcases hst with h | h | h <;> rw [h] <;> rfl
    have hcond : (s.inShot || s.inhibitCause) = false := by
      rw [State.inShot, State.inhibitCause, State.noTrip, hshot, hh, hl, hemit, hgap]
      rfl
    exact congrArg Host.Outcome.next (if_neg (by rw [hcond]; decide))
  · intro h
    have hcond : (s.inShot || s.inhibitCause) = true := by
      rw [Bool.or_eq_true, State.inShot, State.inhibitCause, State.noTrip]
      rcases h with h | h | h | h | h
      · exact .inl (Option.isSome_iff_ne_none.mpr h)
      · right; simp [h]
      · right; simp [h]
      · right
        rw [show emitting s.safety = false by rw [State.safety, h]; rfl]
        simp
      · right
        rw [show emitting s.safety = false by rw [State.safety, h]; rfl]
        simp
    exact congrArg Host.Outcome.next (if_pos hcond)
  · dsimp only
    rw [if_pos hraw.symm]
    refine ⟨?_, fun hl hb hr => ?_⟩
    · rw [State.on, permitSettled_keeps _ _ _ (by decide)]
      exact State.on_put_self _ _ _ (by decide)
    · refine permitSettled_permits _ ((State.on_put_self _ _ _ (by decide)).trans hl) ?_ ?_
      · rw [State.on_put_ne _ _ _ _ (by decide)]
        exact hb
      · show (!s.saf.rawA || s.saf.rawB) = false
        rw [hraw, hl, hr]
        rfl
  · dsimp only
    rw [if_pos hraw.symm]
    refine ⟨?_, fun hl ha hr => ?_⟩
    · rw [State.on, permitSettled_keeps _ _ _ (by decide)]
      exact State.on_put_self _ _ _ (by decide)
    · refine permitSettled_permits _ ?_ ((State.on_put_self _ _ _ (by decide)).trans (by rw [hl]; rfl)) ?_
      · rw [State.on_put_ne _ _ _ _ (by decide)]
        exact ha
      · show (!s.saf.rawA || s.saf.rawB) = false
        rw [hraw, hl, hr]
        rfl
  · dsimp only
    unfold State.contactorSettled
    dsimp only
    rw [State.on, safOutputs_keeps _ _ (by decide)]
    have hself (t : State) (b : Bool) : (t.put SAF.CTR_FB_CLOSED b).on SAF.CTR_FB_CLOSED = b := State.on_put_self _ _ _ (by decide)
    split <;> exact hself _ _
  · obtain ⟨hended, hother, hkeep⟩ := bucketEnded_windows s second
    refine ⟨fun st hst => ?_, ?_, hkeep.trans (showEnergy_keeps _)⟩
    · rw [showEnergy_saf]
      exact (congrArg (buckets · st) hended).trans (nextBucket_buckets _ hst)
    · rw [showEnergy_saf]
      exact hother

/-- Settles O33. -/
theorem safetyClearsAndTheGap : Obligations.SafetyClearsAndTheGap := by
  refine ⟨safetyClears, fun path r second s hg => ⟨?_, fun hrun hraw htrip => ?_, ?_, ?_⟩⟩
  · have hgap (f : State → State) : done (s.sentinel f) = .next s := congrArg Host.Outcome.next (State.sentinel_gap s f hg)
    simp only [List.forall_mem_cons]
    exact ⟨hgap _, hgap _, hgap _, hgap _, hgap _, hgap _, hgap _, hgap _, hgap _, hgap _, hgap _, hgap _, hgap _, by simp⟩
  · have hcond : (State.runs { s with saf.rawA := false } pSAF && State.rawInhibits { s with saf.rawA := false }
        && !State.trip { s with saf.rawA := false } 0) = true := by
      rw [show State.runs { s with saf.rawA := false } pSAF = true from hrun,
        show State.trip { s with saf.rawA := false } 0 = false from htrip]
      rfl
    exact congrArg Host.Outcome.next ((if_pos hcond).trans (tripSet_gap (s := { s with saf.rawA := false }) hg 0))
  · exact congrArg Host.Outcome.next (State.writeSentinel_gap s path pSAF _ _ _ hg)
  · have hframe := (gapEnded_frame s).trans (SafFrame.degrade _)
    obtain ⟨hhold, hheld, -⟩ := switchShown_frame s
    refine ⟨_, exec_holdRelease hg, hframe.hold hhold, ?_, fun i hi hbit => ?_⟩
    · rw [hframe.pwr]
      exact hheld
    · rw [degrade_trip]
      exact gapEnded_trip s hi hbit

end Sys2Proof.Machine
end

section
/-! PROOFS. The colophon (R419, R422 to R424, R509). -/
namespace Sys2Proof.Machine
open Sys2Proof

theorem ofLeBytes_lt (l : List Byte) : ofLeBytes l < 256 ^ l.length := by
  induction l with
  | nil => simp [ofLeBytes]
  | cons b l ih =>
    have hb := b.isLt
    simp only [ofLeBytes, List.length_cons, Nat.pow_succ]
    omega

/-- A check value has 32 bits. -/
theorem colophonOf_lt (rd : Fld → Nat) : colophonOf rd < 2 ^ 32 := by
  have := ofLeBytes_lt (shake256 (colophonImage rd) 4)
  rwa [shake256_length] at this

theorem colophonOf_eq (rd : Fld → Nat) : colophonOf rd = ofLeBytes (shake256 (colophonImage rd) 4) := rfl

theorem nvsBlocked_arrived (s : State) : (State.nvsBlocked { s with bus := {} }).refuseReq = State.put (State.nvsBlocked { s with bus := {} }) (C.ERR_STATE pSAF) true :=
  rfl

/-- A check value shown, and its mismatch tripped (R409 bit 19). -/
def State.checkShown (s : State) (v : Nat) : State :=
  if s.operating && v != s.rd SAF.COLOPHON_STORED then (s.wr SAF.COLOPHON_CALC v).tripSet 19 else s.wr SAF.COLOPHON_CALC v

theorem calc_shown (s : State) {v : Nat} (hv : v < 2 ^ 32) : (s.wr SAF.COLOPHON_CALC v).rd SAF.COLOPHON_CALC = v := by
  rw [State.rd_wr_self]
  exact Nat.mod_eq_of_lt hv

theorem colophon_eq (s : State) : s.colophon = s.checkShown (colophonOf s.rd) := by
  have hv := colophonOf_lt s.rd
  unfold State.colophon State.checkShown
  generalize colophonOf s.rd = v at *
  dsimp only
  have hop : (s.wr SAF.COLOPHON_CALC v).operating = s.operating := by
    unfold State.operating State.safety
    rw [State.rd_wr_ne _ _ _ _ (by decide)]
  rw [calc_shown s hv, hop, State.rd_wr_ne _ _ _ _ (by decide)]

/-- R422: the check value is shown, and a mismatch trips while SAF operates. -/
theorem checkShown_shows {s : State} {v : Nat} (hv : v < 2 ^ 32) (hgap : s.pwr.hold = false) :
    (s.checkShown v).rd SAF.COLOPHON_CALC = v
      ∧ (s.operating = true → v ≠ s.rd SAF.COLOPHON_STORED → Trips 19 (s.checkShown v)) := by
  have hg : (s.wr SAF.COLOPHON_CALC v).pwr.hold = false := hgap
  unfold State.checkShown
  refine ⟨?_, fun hop hne => ?_⟩
  · split
    · rw [tripSet_clocked hg, tripNow_keeps _ _ _ (by decide), calc_shown s hv]
    · exact calc_shown s hv
  · rw [if_pos (by rw [hop, bne_iff_ne.mpr hne]; rfl)]
    exact tripSet_trips (by decide) hg

theorem operating_iff (s : State) : s.operating = true ↔ s.rd SAF.STATE = 2 ∨ s.rd SAF.STATE = 3 := by
  simp only [State.operating, Bool.or_eq_true, decide_eq_true_eq]
  rfl

/-- A record read at release (R419, R424): the value shown as the stored one. -/
def State.recordRead (s : State) (v : Word) : State :=
  (State.put { s with saf.recordLoaded := true } SAF.STORED_VALID true).wr SAF.COLOPHON_STORED v.toNat

/-- PROX_FAILSAFE takes the record's value unless a commit has applied, and is known. -/
def State.failsafeTaken (s : State) (failsafe : Bool) : State :=
  { (if s.saf.committed then s else s.wrBoth SAF.PROX_FAILSAFE (b2n failsafe)) with saf.failsafeKnown := true }

theorem recordRead_shows (s : State) (v : Word) : (s.recordRead v).rd SAF.COLOPHON_STORED = v.toNat ∧ (s.recordRead v).on SAF.STORED_VALID = true
    ∧ (s.recordRead v).rd SAF.PROX_FAILSAFE = s.rd SAF.PROX_FAILSAFE ∧ (s.recordRead v).saf.recordLoaded = true
    ∧ (s.recordRead v).saf.committed = s.saf.committed := by
  refine ⟨(State.rd_wr_self _ _ _).trans (Nat.mod_eq_of_lt v.isLt), ?_, ?_, rfl, rfl⟩
  · exact (State.on_wr_ne _ _ _ _ (by decide)).trans (State.on_put_self _ _ _ (by decide))
  · exact (State.rd_wr_ne _ _ _ _ (by decide)).trans (State.rd_put_ne _ _ _ _ (by decide))

theorem failsafeTaken_rd (s : State) (failsafe : Bool) {f : Fld} (h : f.key ≠ SAF.PROX_FAILSAFE.key) : (s.failsafeTaken failsafe).rd f = s.rd f := by
  have hboth : (s.wrBoth SAF.PROX_FAILSAFE (b2n failsafe)).rd f = s.rd f := State.rd_wr_ne _ _ _ _ h
  unfold State.failsafeTaken
  split
  · rfl
  · exact hboth

theorem failsafeTaken_known (s : State) (failsafe : Bool) :
    (s.failsafeTaken failsafe).saf.failsafeKnown = true ∧ (s.failsafeTaken failsafe).saf.recordLoaded = s.saf.recordLoaded := by
  unfold State.failsafeTaken
  split <;> exact ⟨rfl, rfl⟩

theorem failsafeTaken_value (s : State) (failsafe : Bool) :
    (s.saf.committed = false → (s.failsafeTaken failsafe).on SAF.PROX_FAILSAFE = failsafe)
      ∧ (s.saf.committed = true → (s.failsafeTaken failsafe).rd SAF.PROX_FAILSAFE = s.rd SAF.PROX_FAILSAFE) := by
  unfold State.failsafeTaken
  refine ⟨fun h => ?_, fun h => ?_⟩
  · rw [if_neg (by rw [h]; decide)]
    exact State.on_put_self s SAF.PROX_FAILSAFE failsafe (by decide)
  · rw [if_pos h]
    rfl

/-- Settles O34. -/
theorem colophonRule : Obligations.ColophonRule := by
  intro path value v failsafe s hrun hgap
  have hconfirm : exec (.colophonConfirm path value) s = .next (State.confirmColophon { s with bus := {} } path value) :=
    congrArg Host.Outcome.next (State.writeSentinel_runs s path pSAF _ _ _ hrun hgap)
  refine ⟨⟨s.checkShown (colophonOf s.rd), (sentinel_done _ hrun hgap).trans (congrArg Host.Outcome.next (colophon_eq s)),
      (checkShown_shows (colophonOf_lt s.rd) hgap).1, fun hst => (checkShown_shows (colophonOf_lt s.rd) hgap).2 ((operating_iff s).mpr hst)⟩,
    fun hst hpath hok => ⟨fun hv => hconfirm.trans ?_, fun hv => hconfirm.trans ?_⟩, fun hst hpath hok => hconfirm.trans ?_,
    fun h => hconfirm.trans ?_, fun h => ⟨_, sentinel_done _ hrun hgap, ?_⟩, fun hload hnvs hrec => ⟨fun hcopy => ?_, fun hcopy => ?_⟩⟩
  · have hallowed : (State.safety { s with bus := {} } != sfCommission || !localPath path) = false := by
      rw [(localPath_iff path).mpr hpath, show State.safety { s with bus := {} } = 1 from hst]
      rfl
    rw [State.confirmColophon, if_neg (by rw [hallowed]; decide), if_neg (by
      show ¬(!s.on WATCH.ST_NVS_OK) = true
      rw [hok]
      decide), if_neg (by
      show ¬(value.toNat != s.rd SAF.COLOPHON_CALC) = true
      simp [hv])]
    rfl
  · have hallowed : (State.safety { s with bus := {} } != sfCommission || !localPath path) = false := by
      rw [(localPath_iff path).mpr hpath, show State.safety { s with bus := {} } = 1 from hst]
      rfl
    rw [State.confirmColophon, if_neg (by rw [hallowed]; decide), if_neg (by
      show ¬(!s.on WATCH.ST_NVS_OK) = true
      rw [hok]
      decide), if_pos (by
      show (value.toNat != s.rd SAF.COLOPHON_CALC) = true
      simp [hv])]
    rfl
  · have hallowed : (State.safety { s with bus := {} } != sfCommission || !localPath path) = false := by
      rw [(localPath_iff path).mpr hpath, show State.safety { s with bus := {} } = 1 from hst]
      rfl
    rw [State.confirmColophon, if_neg (by rw [hallowed]; decide), if_pos (by
      show (!s.on WATCH.ST_NVS_OK) = true
      rw [hok]
      rfl), nvsBlocked_arrived]
  · have hrefused : (State.safety { s with bus := {} } != sfCommission || !localPath path) = true := by
      rw [Bool.or_eq_true]
      rcases h with h | rfl | rfl
      · exact .inl (bne_iff_ne.mpr h)
      · exact .inr rfl
      · exact .inr rfl
    rw [State.confirmColophon, if_pos hrefused]
    rfl
  · rw [h]
    have hkeep : KeepsRegs [SAF.COLOPHON_STORED.key, SAF.STORED_VALID.key, SAF.INT_STORED.key] s
        (((s.wr SAF.COLOPHON_STORED v.toNat).put SAF.STORED_VALID true).put SAF.INT_STORED true) :=
      (((KeepsRegs.refl _ s).wr _ _ (by decide)).put _ _ (by decide)).put _ _ (by decide)
    refine ⟨?_, ?_, ?_, hkeep.of_cur rfl, rfl⟩
    · refine (State.rd_put_ne _ _ _ _ (by decide)).trans ((State.rd_put_ne _ _ _ _ (by decide)).trans ((State.rd_wr_self _ _ _).trans ?_))
      exact Nat.mod_eq_of_lt v.isLt
    · exact (State.on_put_ne _ _ _ _ (by decide)).trans (State.on_put_self (s.wr SAF.COLOPHON_STORED v.toNat) SAF.STORED_VALID true (by decide))
    · exact State.on_put_self ((s.wr SAF.COLOPHON_STORED v.toNat).put SAF.STORED_VALID true) SAF.INT_STORED true (by decide)
  · refine ⟨_, sentinel_done _ hrun hgap, ?_⟩
    obtain ⟨hstored, hvalid, hfs, hloaded, hcommit⟩ := recordRead_shows s v
    have hkeep := safOutputs_keeps ((s.recordRead v).failsafeTaken failsafe)
    have hframe := SafFrame.safOutputs ((s.recordRead v).failsafeTaken failsafe)
    obtain ⟨hknown, hl⟩ := failsafeTaken_known (s.recordRead v) failsafe
    obtain ⟨hset, hkept⟩ := failsafeTaken_value (s.recordRead v) failsafe
    have hrd {f : Fld} (h : f.key ≠ SAF.PROX_FAILSAFE.key) (hout : f.key ∉ outputKeys) :
        ((s.recordRead v).failsafeTaken failsafe).safOutputs.rd f = (s.recordRead v).rd f :=
      (hkeep f hout).trans (failsafeTaken_rd _ _ h)
    rw [if_neg (by rw [hload, hnvs]; decide), hcopy, hrec, if_pos rfl]
    refine ⟨?_, ?_, (hrd (by decide) (by decide)).trans hstored, ?_, fun h => ?_, fun h => ?_⟩
    · exact (congrArg (·.saf.recordLoaded) hframe.rest).trans (hl.trans hloaded)
    · exact (congrArg (·.saf.failsafeKnown) hframe.rest).trans hknown
    · exact (congrArg (· != 0) (hrd (by decide) (by decide))).trans hvalid
    · exact (congrArg (· != 0) (hkeep SAF.PROX_FAILSAFE (by decide))).trans (hset (hcommit.trans h))
    · exact ((hkeep SAF.PROX_FAILSAFE (by decide)).trans (hkept (hcommit.trans h))).trans hfs
  · refine (sentinel_done _ hrun hgap).trans ?_
    rw [if_neg (by rw [hload, hnvs]; decide), if_neg (by rw [hrec]; exact fun e => hcopy e.symm)]

end Sys2Proof.Machine
end

section
/-! PROOFS. The arm token and the arm point (R74, R75, R94, R403, R405). -/
namespace Sys2Proof.Machine
open Sys2Proof

theorem emitting_iff (st : Nat) : emitting st = true ↔ st = 1 ∨ st = 2 ∨ st = 3 := by
  simp only [emitting, Bool.or_eq_true, decide_eq_true_eq, or_assoc]
  rfl

/-- R403, energy aside. -/
theorem tokensMet_iff (s : State) : s.tokensMet = true ↔ (s.rd SAF.STATE = 1 ∨ s.rd SAF.STATE = 2 ∨ s.rd SAF.STATE = 3)
    ∧ s.rd SAF.TRIPS_HOLD = 0 ∧ s.rd SAF.TRIPS_LATCH = 0 ∧ s.mirror = 0 ∧ s.on SAF.CTR_EN = true ∧ s.on SAF.CTR_FB_CLOSED = true
    ∧ s.pwr.hold = false := by
  simp only [State.tokensMet, State.noTrip, Bool.and_eq_true, decide_eq_true_eq, emitting_iff, Bool.not_eq_true', and_assoc]
  rfl

theorem energyOk_iff (s : State) (pattern c : Nat) : s.energyOk pattern c = true ↔ ∀ st < 8, s.shotDrive pattern c st ≤ s.rd SAF.Q_SHOT_MAX
    ∧ windowSum s.saf.w1 st + s.shotDrive pattern c st ≤ s.rd SAF.Q_W1_MAX
    ∧ windowSum s.saf.w2 st + s.shotDrive pattern c st ≤ s.rd SAF.Q_W2_MAX := by
  simp only [State.energyOk, List.all_eq_true, List.mem_range, Bool.and_eq_true, decide_eq_true_eq, and_assoc]

/-- The drive of every string added to one window, in the bucket `back` steps from the current one. -/
def addedDrives (q : Nat → Nat) (t : Tab (List Nat)) (back : Nat) : Tab (List Nat) :=
  (List.range 8).foldl (fun t st => addDrive t st back (q st)) t

theorem addedDrives_buckets (q : Nat → Nat) (t : Tab (List Nat)) (back : Nat) {st : Nat} (h : st < 8) :
    buckets (addedDrives q t back) st = (buckets t st).zipIdx.map fun e => if e.2 = back then e.1 + q st else e.1 := by
  have hfold : ∀ (l : List Nat) (t : Tab (List Nat)), l.Nodup → buckets (l.foldl (fun t st => addDrive t st back (q st)) t) st =
      if st ∈ l then (buckets t st).zipIdx.map fun e => if e.2 = back then e.1 + q st else e.1 else buckets t st := by
    intro l
    induction l with
    | nil => intro t _; rfl
    | cons x l ih =>
      intro t hl
      obtain ⟨hx, hl⟩ := List.nodup_cons.mp hl
      rw [List.foldl_cons, ih _ hl, addDrive, buckets_set]
      by_cases hst : st = x
      · subst hst
        simp [hx]
      · simp [hst]
  rw [addedDrives, hfold _ _ List.nodup_range, if_pos (List.mem_range.mpr h)]

/-- The energy windows with a shot's drive, before they show. -/
def State.driveAdded (s : State) (w1 w2 : Tab (List Nat)) : State := { s with saf := { s.saf with w1 := w1, w2 := w2 } }

theorem addEnergy_eq (s : State) (pattern c : Nat) : s.addEnergy pattern c =
    (s.driveAdded (addedDrives (s.shotDrive pattern c) s.saf.w1 s.saf.since1)
      (addedDrives (s.shotDrive pattern c) s.saf.w2 s.saf.since2)).showEnergy := rfl

/-- A token issued for a shot. -/
def State.tokenIssued (s : State) (sh : Shot) (tag : Nat) (pw n : Nat) : State :=
  { s with emt.token := some { token := true, tag := tag }, acq.shot := some { sh with tokened := true, authPw := pw, authPulses := n } }

/-- The shot at its arm point. -/
def State.armedAt (s : State) (sh : Shot) (fire : Nat) : State :=
  { s with
    acq.shot := some { sh with fire := some fire, driven := if fire = 0 then sh.code.length else 0 }
    pins.eg := if fire = 0 then sh.strings else 0 }

theorem tokenHeld_iff (s : State) (sh : Shot) :
    s.tokenHeld sh = true ↔ ∃ k, s.emt.token = some k ∧ k.token = true ∧ k.tag = sh.seq.toNat % 16 := by
  unfold State.tokenHeld
  cases s.emt.token with
  | none => simp
  | some k => simp

/-- R94: the first cause that holds. -/
theorem fireState_order (s : State) (sh : Shot) :
    (s.on SAF.ST_INHIBIT = true → s.fireState sh = 1)
      ∧ (s.on SAF.ST_INHIBIT = false → s.tokenHeld sh = false → s.fireState sh = 3)
      ∧ (s.on SAF.ST_INHIBIT = false → s.tokenHeld sh = true → s.on (C.HALTED pEMT) = true → s.fireState sh = 6)
      ∧ (s.on SAF.ST_INHIBIT = false → s.tokenHeld sh = true → s.on (C.HALTED pEMT) = false → sh.derate = 4 → s.fireState sh = 5)
      ∧ (s.on SAF.ST_INHIBIT = false → s.tokenHeld sh = true → s.on (C.HALTED pEMT) = false → sh.derate ≠ 4 → sh.strings = 0 →
          s.fireState sh = 4)
      ∧ (s.on SAF.ST_INHIBIT = false → s.tokenHeld sh = true → s.on (C.HALTED pEMT) = false → sh.derate ≠ 4 → sh.strings ≠ 0 →
          s.fireState sh = 0) := by
  unfold State.fireState
  refine ⟨fun h => ?_, fun h h3 => ?_, fun h h3 h6 => ?_, fun h h3 h6 h5 => ?_, fun h h3 h6 h5 h4 => ?_, fun h h3 h6 h5 h4 => ?_⟩
  · simp [h]
  · simp [h, h3]
  · simp [h, h3, h6]
  · simp [h, h3, h6, h5]
  · simp [h, h3, h6, h5, h4]
  · simp [h, h3, h6, h5, h4]

theorem exec_armTokenDecision {s : State} {sh : Shot} (hsh : s.acq.shot = some sh) (htok : s.emt.token = none) :
    exec .armTokenDecision s = .next (
      if !s.tokensMet then { s with emt.token := some { token := false, tag := sh.seq.toNat % 16 } }
      else if s.energyOk sh.pattern sh.column then
        (s.addEnergy sh.pattern sh.column).tokenIssued sh (sh.seq.toNat % 16) (s.rd EMT.PW) s.npulse
      else State.raise { s with emt.token := some { token := false, tag := sh.seq.toNat % 16 }, saf.withheld := s.saf.withheld + 1 }
        SAF.INT_WITHHELD) := by
  show done (match s.acq.shot, s.emt.token with | some sh, none => _ | _, _ => s) = _
  rw [hsh, htok]
  rfl

theorem tokenIssued_shows (s : State) (sh : Shot) (tag pw n : Nat) :
    (s.tokenIssued sh tag pw n).emt.token = some ⟨true, tag⟩
      ∧ (s.tokenIssued sh tag pw n).acq.shot = some { sh with tokened := true, authPw := pw, authPulses := n }
      ∧ (s.tokenIssued sh tag pw n).saf = s.saf := ⟨rfl, rfl, rfl⟩

theorem KeepsRegs.tokenIssued {l : List Nat} {s t : State} (h : KeepsRegs l s t) (sh : Shot) (tag pw n : Nat) :
    KeepsRegs l s (t.tokenIssued sh tag pw n) := h

theorem arm_eq {s : State} {sh : Shot} (hsh : s.acq.shot = some sh) (hfire : sh.fire = none) (hreset : sh.emtReset = false) :
    ∃ u : State, s.arm = u.armedAt sh (s.fireState sh) := by
  unfold State.arm
  rw [hsh]
  dsimp only
  rw [if_neg (by rw [hfire, hreset]; decide)]
  exact ⟨_, rfl⟩

/-- Settles O29. -/
theorem armTokenAndArmPoint : Obligations.ArmTokenAndArmPoint := by
  intro sh s hsh tag permitted q within added
  have hmet : s.tokensMet = true ↔ permitted := tokensMet_iff s
  have hfit : s.energyOk sh.pattern sh.column = true ↔ within := energyOk_iff s sh.pattern sh.column
  refine ⟨fun htok => ⟨fun hno => ?_, fun hyes hin => ⟨_, exec_armTokenDecision hsh htok, ?_⟩, fun hyes hout =>
    ⟨_, exec_armTokenDecision hsh htok, ?_⟩⟩, fun hfire hreset => ?_⟩
  · have hmet' : s.tokensMet = false := by simpa using fun e => hno (hmet.mp e)
    rw [exec_armTokenDecision hsh htok, hmet']
    rfl
  · rw [hmet.mpr hyes, if_neg (by decide), if_pos (hfit.mpr hin), addEnergy_eq]
    have hsaf := showEnergy_saf (s.driveAdded (addedDrives q s.saf.w1 s.saf.since1) (addedDrives q s.saf.w2 s.saf.since2))
    have hkeep := showEnergy_keeps (s.driveAdded (addedDrives q s.saf.w1 s.saf.since1) (addedDrives q s.saf.w2 s.saf.since2))
    have hbuckets (st : Nat) (hst : st < 8) := And.intro (addedDrives_buckets q s.saf.w1 s.saf.since1 hst)
      (addedDrives_buckets q s.saf.w2 s.saf.since2 hst)
    have hadded : s.shotDrive sh.pattern sh.column = q := rfl
    rw [hadded]
    generalize addedDrives q s.saf.w1 s.saf.since1 = w1 at *
    generalize addedDrives q s.saf.w2 s.saf.since2 = w2 at *
    have hsaf' : (s.driveAdded w1 w2).showEnergy.saf = { s.saf with w1 := w1, w2 := w2 } := hsaf
    have hkeep' : KeepsRegs [SAF.Q_W1_NOW.key, SAF.Q_W2_NOW.key] s (s.driveAdded w1 w2).showEnergy := fun f hf => hkeep f hf
    generalize (s.driveAdded w1 w2).showEnergy = u at *
    obtain ⟨h1, h2, h3⟩ := tokenIssued_shows u sh tag (s.rd EMT.PW) s.npulse
    refine ⟨h1, h2, fun st hst => ?_, hkeep'.tokenIssued _ _ _ _⟩
    rw [h3, hsaf']
    exact hbuckets st hst
  · have hfit' : s.energyOk sh.pattern sh.column = false := by simpa using fun e => hout (hfit.mp e)
    rw [hmet.mpr hyes, hfit']
    exact ⟨rfl, rfl, State.on_put_self _ _ _ (by decide), rfl, ((KeepsRegs.refl _ s).of_cur rfl).put SAF.INT_WITHHELD true (by decide)⟩
  · intro held
    obtain ⟨u, hu⟩ := arm_eq hsh hfire hreset
    have hheld : s.tokenHeld sh = true ↔ held := tokenHeld_iff s sh
    have hnot : ¬held → s.tokenHeld sh = false := fun h => by simpa using fun e => h (hheld.mp e)
    obtain ⟨h1, h3, h6, h5, h4, h0⟩ := fireState_order s sh
    refine ⟨_, s.fireState sh, congrArg Host.Outcome.next hu, rfl, rfl, h1, fun hi hh => h3 hi (hnot hh), fun hi hh => h6 hi (hheld.mpr hh),
      fun hi hh => h5 hi (hheld.mpr hh), fun hi hh => h4 hi (hheld.mpr hh), fun hi hh => h0 hi (hheld.mpr hh)⟩

end Sys2Proof.Machine
end

section
/-! PROOFS. The proximity combiner (R234, R235, R415, R419). -/
namespace Sys2Proof.Machine
open Sys2Proof

/-- The combiner with another state of its own. -/
def State.withProx (s : State) (p : ProxState) : State := { s with prox := p }

theorem withProx_rd (s : State) (p : ProxState) (f : Fld) : (s.withProx p).rd f = s.rd f := rfl

/-- SAF's outputs follow the combiner in OPERATIONAL and DEGRADED. -/
theorem withProx_outputs {s : State} (p : ProxState) (hgap : s.pwr.hold = false) :
    (s.withProx p).safOutputs.prox = p
      ∧ (s.rd SAF.STATE = 2 ∨ s.rd SAF.STATE = 3 → s.saf.failsafeKnown = true → (s.withProx p).safOutputs.pins.proxN = some p.asserted) := by
  refine ⟨(SafFrame.safOutputs (s.withProx p)).prox, fun hst hk => ?_⟩
  rw [safOutputs_proxN (s := s.withProx p) hgap]
  exact proxPin_operating (s := s.withProx p) ((operating_iff (s.withProx p)).mpr hst) hk

theorem takes_iff (p : ProxState) (w : Word) : p.takes w = true ↔ p.collecting = true ∧ w.getLsbD 31 = true ∧ w.toNat % 2 ^ 8 = p.tag
    ∧ bits w.toNat 25 6 ∉ p.accepted := by
  have htag : bits w.toNat 0 8 = w.toNat % 2 ^ 8 := by simp [bits]
  simp only [ProxState.takes, Bool.and_eq_true, decide_eq_true_eq, Bool.not_eq_true', htag, bit_toNat, and_assoc, List.contains_eq_mem,
    decide_eq_false_iff_not]

/-- The figures of a frame that has ended, cleared. -/
def ProxState.frameEnded (p : ProxState) : ProxState := { p with blindFrame := 0, missFrame := 0, shotsFrame := 0, lateRgs := [], last := false }

/-- The frame's figures shown, and SAF's causes of the closed frame. -/
def State.frameShown (s : State) (causes : Nat) : State :=
  { (s.wr SAF.BLIND_LAST (min s.prox.blindFrame 65535)).wr SAF.MISS_LAST (min s.prox.missFrame 65535) with
    prox := s.prox.frameEnded, saf.frameCauses := causes }

theorem proxFrame_eq (s : State) : ∃ causes, s.proxFrame = (s.frameShown causes).degrade := ⟨_, rfl⟩

theorem frameShown_shows (s : State) (causes : Nat) : (s.frameShown causes).prox = s.prox.frameEnded
    ∧ (s.frameShown causes).rd SAF.MISS_LAST = min s.prox.missFrame 65535
    ∧ (s.frameShown causes).rd SAF.BLIND_LAST = min s.prox.blindFrame 65535 := by
  have hmod (x : Nat) : min x 65535 % 2 ^ 16 = min x 65535 := Nat.mod_eq_of_lt (by omega)
  refine ⟨rfl, (State.rd_wr_self _ _ _).trans (hmod _), ?_⟩
  exact (State.rd_wr_ne _ _ _ _ (by decide)).trans ((State.rd_wr_self _ _ _).trans (hmod _))

/-- R235: the figures of a frame after the close of its last shot. -/
theorem proxFrame_shows (s : State) : s.proxFrame.prox = s.prox.frameEnded ∧ s.proxFrame.rd SAF.MISS_LAST = min s.prox.missFrame 65535
    ∧ s.proxFrame.rd SAF.BLIND_LAST = min s.prox.blindFrame 65535 := by
  obtain ⟨causes, heq⟩ := proxFrame_eq s
  obtain ⟨hp, hm, hb⟩ := frameShown_shows s causes
  have hkeep := degrade_keeps (s.frameShown causes)
  rw [heq]
  exact ⟨(SafFrame.degrade _).prox.trans hp, (hkeep _ (by decide)).trans hm, (hkeep _ (by decide)).trans hb⟩

/-- The combiner after the close of a collection with so many row groups missing. -/
def ProxState.closed (p : ProxState) (missing : Nat) : ProxState :=
  { p with collecting := false, missFrame := p.missFrame + missing, blindFrame := p.blindFrame + 8 * missing, shotsFrame := p.shotsFrame + 1 }

theorem exec_proxCollectionClose {s : State} (hgap : s.pwr.hold = false) (hc : s.prox.collecting = true) :
    exec .proxCollectionClose s = .next (
      let missing := ((List.range 64).filter fun g => bit (s.rd (SAF.PROX_EN (g / 32))) (g % 32) && !s.prox.accepted.contains g).length
      if s.prox.last then (s.withProx (s.prox.closed missing)).proxFrame else s.withProx (s.prox.closed missing)) :=
  congrArg Host.Outcome.next (if_neg (by rw [hgap, hc]; decide))

theorem exec_proxWordArrival {s : State} {w : Word} {rest : List Word} (hgap : s.pwr.hold = false) (hw : s.prox.flight = w :: rest) :
    exec .proxWordArrival s = .next (if s.prox.takes w then (s.withProx { s.prox with flight := rest }).proxAccept w
      else s.withProx { s.prox with flight := rest, discarded := s.prox.discarded + 1 }) := by
  refine (congrArg Host.Outcome.next (if_neg (by rw [hgap]; decide))).trans ?_
  rw [hw]
  rfl

/-- Settles O44. -/
theorem proximityCombiner : Obligations.ProximityCombiner := by
  intro w rest s hgap p g enabled ones rows blind taken missing
  have htaken : p.takes w = true ↔ taken := takes_iff p w
  refine ⟨fun hw => ⟨fun h => ?_, fun h => ?_⟩, fun hc hl => ?_, fun hc hl => ⟨_, exec_proxCollectionClose hgap hc, ?_⟩, fun h => ?_, fun hc hr => ?_⟩
  · refine ⟨_, exec_proxWordArrival hgap hw, ?_⟩
    obtain ⟨hp, hn⟩ := withProx_outputs (s := s) { p with
      flight := rest, accepted := p.accepted ++ [g], rows := rows, blindFrame := blind
      asserted := p.asserted || decide (s.rd SAF.PROX_MIN_ROWS ≤ rows) } hgap
    rw [if_pos (htaken.mpr h)]
    exact ⟨hp, fun hst hk => (hn hst hk).trans (congrArg (fun q : ProxState => some q.asserted) hp.symm)⟩
  · have hno : p.takes w = false := by simpa using fun e => h (htaken.mp e)
    rw [exec_proxWordArrival hgap hw, if_neg (by rw [hno]; decide)]
    rfl
  · rw [exec_proxCollectionClose hgap hc, if_neg (by rw [hl]; decide)]
    rfl
  · dsimp only
    rw [if_pos hl]
    obtain ⟨hp, hm, hb⟩ := proxFrame_shows (s.withProx (s.prox.closed missing))
    exact ⟨congrArg ProxState.collecting hp, hm, hb, congrArg ProxState.missFrame hp, congrArg ProxState.blindFrame hp,
      congrArg ProxState.shotsFrame hp⟩
  · have hcond : (s.pwr.hold || (s.prox.collecting && decide (s.rd SAF.PROX_MIN_ROWS ≤ s.prox.rows))) = false := by
      rw [hgap, Bool.false_or, Bool.and_eq_false_iff, decide_eq_false_iff_not, Nat.not_le]
      exact h
    obtain ⟨hp, hn⟩ := withProx_outputs (s := s) { p with asserted := false } hgap
    exact ⟨_, congrArg Host.Outcome.next (if_neg (by rw [hcond]; decide)), hp, hn⟩
  · refine congrArg Host.Outcome.next (if_pos ?_)
    rw [hgap, hc, decide_eq_true hr]
    rfl

end Sys2Proof.Machine
end

section
/-! PROOFS. PCA takes records and markers (R247 to R249, R25). -/
namespace Sys2Proof.Machine
open Sys2Proof

/-! ### Counting, raising and faulting -/

/-- A count and its interrupt. -/
theorem counted_raised (s : State) {f g : Fld} (hne : f.key ≠ g.key) (hg : 0 < g.width) :
    ((s.count f 1).raise g).rd f = min (s.rd f + 1) (2 ^ f.width - 1) ∧ ((s.count f 1).raise g).on g = true :=
  ⟨(State.rd_put_ne _ _ _ _ hne).trans (State.rd_count s f 1), State.on_put_self _ _ _ hg⟩

theorem fault_on_self (s : State) {p b : Nat} (hb : b < 32) (hbit : bit (2 ^ b + faultCommons p b) b = true) :
    (s.fault p b).on (C.FAULT p b) = true := State.setFaults_on s p _ b hb hbit

theorem fault_on_other (s : State) {p b : Nat} {f : Fld} (h : f.key ∉ faultKeys p) : (s.fault p b).on f = s.on f := by
  rw [State.on, fault_keepsRegs s p b f h, State.on]

/-! ### The front entry of a shelf queue -/

theorem popEntry_frame (s : State) (h : Nat) :
    s.popEntry h = { s with pca := { s.pca with queues := (s.popEntry h).pca.queues, waiting := (s.popEntry h).pca.waiting } } := by
  unfold State.popEntry
  split <;> rfl

theorem popEntry_columns (s : State) (h : Nat) : (s.popEntry h).pca.columns = s.pca.columns :=
  (congrArg (·.pca.columns) (popEntry_frame s h)).trans rfl

theorem popEntry_rd (s : State) (h : Nat) (f : Fld) : (s.popEntry h).rd f = s.rd f :=
  (congrArg (State.rd · f) (popEntry_frame s h)).trans rfl

theorem popEntry_rdGen (s : State) (h p : Nat) (gen : Word) (f : Fld) : (s.popEntry h).rdGen p gen f = s.rdGen p gen f := by
  have hT : (s.popEntry h).rdT f = s.rdT f := (congrArg (State.rdT · f) (popEntry_frame s h)).trans rfl
  unfold State.rdGen State.on
  rw [popEntry_rd, popEntry_rd, popEntry_rd, hT]

/-! ### The checks of a record (R248) -/

/-- A point of ROW and INDEX stands in the column. -/
def Column.hasPoint (c : Column) (w : Nat) : Prop := ∃ r ∈ c.records, bits r.2.toNat 62 2 = 0 ∧ recordKey r.2.toNat = recordKey w

theorem points_isEmpty (c : Column) (w : Nat) :
    (c.records.filter fun r => bits r.2.toNat 62 2 = 0 && recordKey r.2.toNat = recordKey w).isEmpty = true ↔ ¬c.hasPoint w := by
  simp only [List.isEmpty_iff, List.filter_eq_nil_iff, Column.hasPoint, Bool.and_eq_true, decide_eq_true_eq, not_exists, not_and]

section
variable {c : Column} {m : MarkerId} {w : Nat}

theorem check_recBad (h : 2 ≤ bits w 62 2 ∨ bits w 53 9 / 8 ≠ m.rg ∨ (bits w 62 2 = 0 ∧ (5 ≤ bits w 48 3 ∨ c.hasPoint w))) :
    c.check m w = .recBad := by
  unfold Column.check
  extract_lets type points
  have hpoints : points.isEmpty = true ↔ ¬c.hasPoint w := points_isEmpty c w
  by_cases hfirst : 2 ≤ type ∨ bits w 53 9 / 8 ≠ m.rg
  · rw [if_pos (by simpa using hfirst)]
  · obtain ⟨htype, hbad⟩ := (or_assoc.mpr h).resolve_left hfirst
    have hcond : (decide (5 ≤ bits w 48 3) || !points.isEmpty) = true := by
      rw [Bool.or_eq_true, decide_eq_true_eq, Bool.not_eq_true', ← Bool.not_eq_true, hpoints, not_not]
      exact hbad
    rw [if_neg (by simpa using hfirst), if_pos htype, if_pos hcond]

theorem check_retractBad (h : ¬(2 ≤ bits w 62 2 ∨ bits w 53 9 / 8 ≠ m.rg ∨ (bits w 62 2 = 0 ∧ (5 ≤ bits w 48 3 ∨ c.hasPoint w))))
    (hbad : bits w 62 2 = 1 ∧ (bits w 0 32 ≠ m.accession ∨ bits w 32 12 ≠ m.column ∨ ¬c.hasPoint w ∨ recordKey w ∈ c.retracted)) :
    c.check m w = .retractBad := by
  unfold Column.check
  extract_lets type points
  have hpoints : points.isEmpty = true ↔ ¬c.hasPoint w := points_isEmpty c w
  have hfirst : ¬(2 ≤ type ∨ bits w 53 9 / 8 ≠ m.rg) := fun e => h ((or_assoc.mp (.inl e)))
  have htype : type = 1 := hbad.1
  have hcond : (bits w 0 32 != m.accession || bits w 32 12 != m.column || points.isEmpty || c.retracted.contains (recordKey w)) = true := by
    simp only [Bool.or_eq_true, bne_iff_ne, hpoints, List.contains_iff_mem, or_assoc]
    exact hbad.2
  rw [if_neg (by simpa using hfirst), if_neg (by rw [htype]; decide), if_pos hcond]

theorem check_good (h : ¬(2 ≤ bits w 62 2 ∨ bits w 53 9 / 8 ≠ m.rg ∨ (bits w 62 2 = 0 ∧ (5 ≤ bits w 48 3 ∨ c.hasPoint w))))
    (hok : ¬(bits w 62 2 = 1 ∧ (bits w 0 32 ≠ m.accession ∨ bits w 32 12 ≠ m.column ∨ ¬c.hasPoint w ∨ recordKey w ∈ c.retracted))) :
    c.check m w = .good := by
  unfold Column.check
  extract_lets type points
  have hpoints : points.isEmpty = true ↔ ¬c.hasPoint w := points_isEmpty c w
  have hfirst : ¬(2 ≤ type ∨ bits w 53 9 / 8 ≠ m.rg) := fun e => h ((or_assoc.mp (.inl e)))
  rw [if_neg (by simpa using hfirst)]
  by_cases htype : type = 0
  · have hcond : ¬(decide (5 ≤ bits w 48 3) || !points.isEmpty) = true := by
      rw [Bool.or_eq_true, decide_eq_true_eq, Bool.not_eq_true', ← Bool.not_eq_true, hpoints, not_not]
      exact fun e => h (.inr (.inr ⟨htype, e⟩))
    rw [if_pos htype, if_neg hcond]
  · have hone : type = 1 := by
      have := not_or.mp hfirst
      omega
    have hcond : ¬(bits w 0 32 != m.accession || bits w 32 12 != m.column || points.isEmpty || c.retracted.contains (recordKey w)) = true := by
      simp only [Bool.or_eq_true, bne_iff_ne, hpoints, List.contains_iff_mem, or_assoc]
      exact fun e => hok ⟨hone, e⟩
    rw [if_neg htype, if_neg hcond]

end

/-! ### COL_TAG (R249) -/

theorem tagged_retraction (minor column : Nat) {w : Nat} (h : bits w 62 2 = 1) : tagged minor column w = w := by
  rw [tagged, if_neg (by rw [h]; decide)]

theorem tagged_point (minor column : Nat) {w : Nat} (h : bits w 62 2 = 0) :
    tagged minor column w = w - w % 256 + if minor = 1 then column % 256 else 0 := if_pos h

/-- The word as it is kept: its bytes but the lowest stay. -/
theorem tagged_toNat (minor column : Nat) (e : DWord) :
    (BitVec.ofNat 64 (tagged minor column e.toNat)).toNat / 2 ^ 8 = e.toNat / 2 ^ 8
      ∧ (bits e.toNat 62 2 = 0 → (BitVec.ofNat 64 (tagged minor column e.toNat)).toNat % 2 ^ 8 = if minor = 1 then column % 2 ^ 8 else 0) := by
  have he := e.isLt
  have htag : (if minor = 1 then column % 256 else 0) < 256 := by split <;> omega
  rw [BitVec.toNat_ofNat]
  by_cases h : bits e.toNat 62 2 = 0
  · rw [tagged_point minor column h]
    generalize (if minor = 1 then column % 256 else 0) = tag at *
    omega
  · rw [tagged, if_neg h]
    refine ⟨by omega, fun h0 => absurd h0 h⟩

/-! ### Records and markers -/

theorem recBad_shows (s : State) : s.recBad.pca = s.pca ∧ s.recBad.rd PASM.REC_BAD = min (s.rd PASM.REC_BAD + 1) 65535
    ∧ s.recBad.on PASM.INT_REC_BAD = true ∧ s.recBad.on (C.FAULT pPASM 0) = true := by
  obtain ⟨hcount, hraise⟩ := counted_raised s (f := PASM.REC_BAD) (g := PASM.INT_REC_BAD) (by decide) (by decide)
  refine ⟨fault_pca _ _ _, (fault_keepsRegs _ _ _ _ (by decide)).trans hcount, ?_, fault_on_self _ (by decide) (by decide)⟩
  exact (fault_on_other _ (by decide)).trans hraise

theorem exec_recordEntry {s : State} {shelf : Fin 9} {e : Entry} {rest : List Entry} (hrun : s.runs pPASM = true)
    (hq : s.queue shelf = e :: rest) (he : e.marker = false) {m : MarkerId} (hm : s.recordShot e.re (rest ++ s.waitingAt shelf) = some m) :
    exec (.recordEntry shelf) s = .next ((s.popEntry shelf).takeRecord m e.word.toNat) := by
  refine (congrArg Host.Outcome.next (if_neg (by rw [hrun]; decide))).trans ?_
  rw [hq]
  dsimp only
  rw [if_neg (by rw [he]; decide), hm]

theorem exec_shotMarker {s : State} {shelf : Fin 9} {e : Entry} {rest : List Entry} (hrun : s.runs pPASM = true)
    (hq : s.queue shelf = e :: rest) (he : e.marker = true) : exec (.shotMarker shelf) s = .next { s.popEntry shelf with
      pca.columns := (s.popEntry shelf).pca.columns.map fun c =>
        if c.of (markerId e.word) then c.mark (markerId e.word).rg (bits e.word.toNat 11 3) else c } := by
  refine (congrArg Host.Outcome.next (if_neg (by rw [hrun]; decide))).trans ?_
  rw [hq]
  dsimp only
  rw [if_neg (by rw [he]; decide)]

/-- The first open column is the one after those that are closed. -/
theorem mapFirst_append {α : Type} {p : α → Bool} (f : α → α) {pre post : List α} {c : α} (hpre : ∀ d ∈ pre, p d = false) (hc : p c = true) :
    mapFirst p f (pre ++ c :: post) = pre ++ f c :: post := by
  induction pre with
  | nil => simp [mapFirst, hc]
  | cons d pre ih =>
    rw [List.cons_append, mapFirst, if_neg (by simp [hpre d List.mem_cons_self]), ih fun x hx => hpre x (List.mem_cons_of_mem _ hx)]
    rfl

/-- A marker timeout counted and shown. -/
theorem markerTimeout_shows (s : State) :
    let t := ((s.count PASM.MARKER_TMO 1).raise PASM.INT_MARKER_TMO).fault pPASM 1
    t.pca = s.pca ∧ t.rd PASM.MARKER_TMO = min (s.rd PASM.MARKER_TMO + 1) 65535 ∧ t.on PASM.INT_MARKER_TMO = true
      ∧ t.on (C.FAULT pPASM 1) = true := by
  obtain ⟨hcount, hraise⟩ := counted_raised s (f := PASM.MARKER_TMO) (g := PASM.INT_MARKER_TMO) (by decide) (by decide)
  refine ⟨fault_pca _ _ _, (fault_keepsRegs _ _ _ _ (by decide)).trans hcount, ?_, fault_on_self _ (by decide) (by decide)⟩
  exact (fault_on_other _ (by decide)).trans hraise

/-- Settles O45. -/
theorem recordsAndMarkers : Obligations.RecordsAndMarkers := by
  intro shelf e rest m c pre post s hrun q waiting popped w type key point recBad retractBad id
  refine ⟨fun hq => ?_, fun hq he hm hc => ?_, fun hq he hm hnone => ?_, fun hq he => ?_, fun hcols hpre hc => ?_⟩
  · refine ⟨?_, State.popEntry_waiting s shelf⟩
    rw [show popped.queue shelf = _ from State.popEntry_queue s shelf, show s.queue shelf = e :: rest from hq]
    rfl
  · have hfind : (s.popEntry shelf).pca.columns.find? (fun c => c.of m) = some c := by
      rw [popEntry_columns]
      exact hc
    have htake : exec (.recordEntry shelf) s = .next ((s.popEntry shelf).takeRecord m e.word.toNat) := exec_recordEntry hrun hq he hm
    unfold State.takeRecord at htake
    rw [hfind] at htake
    dsimp only at htake
    refine ⟨fun h => ?_, fun h hr => ?_, fun h hr => ?_⟩
    · have hcheck : c.check m e.word.toNat = .recBad := check_recBad h
      rw [hcheck] at htake
      obtain ⟨hp, hcount, hint, hfault⟩ := recBad_shows (s.popEntry shelf)
      rw [popEntry_rd] at hcount
      exact ⟨_, htake, hp, hcount, hint, hfault⟩
    · have hcheck : c.check m e.word.toNat = .retractBad := check_retractBad h hr
      rw [hcheck] at htake
      obtain ⟨hcount, hint⟩ := counted_raised (s.popEntry shelf) (f := PASM.RETRACT_BAD) (g := PASM.INT_RETRACT_BAD) (by decide) (by decide)
      rw [popEntry_rd] at hcount
      exact ⟨_, htake, rfl, hcount, hint⟩
    · have hcheck : c.check m e.word.toNat = .good := check_good h hr
      rw [hcheck, popEntry_columns] at htake
      obtain ⟨hhigh, hlow⟩ := tagged_toNat ((s.popEntry shelf).recMinor c.shot.gen) m.column e.word
      refine ⟨_, htake, hhigh, fun h1 => ?_, fun h0 => ?_⟩
      · rw [tagged_retraction _ _ h1]
        exact BitVec.eq_of_toNat_eq (by rw [BitVec.toNat_ofNat]; exact Nat.mod_eq_of_lt e.word.isLt)
      · rw [hlow h0, State.recMinor, popEntry_rdGen]
  · have hfind : (s.popEntry shelf).pca.columns.find? (fun c => c.of m) = none := by
      rw [popEntry_columns, List.find?_eq_none]
      intro d hd
      rw [hnone d hd]
      decide
    have htake := exec_recordEntry hrun hq he hm
    unfold State.takeRecord at htake
    rw [hfind] at htake
    exact htake
  · rw [exec_shotMarker hrun hq he, popEntry_columns]
    refine congrArg (fun l => Host.Outcome.next { popped with pca := { popped.pca with columns := l } }) (List.map_congr_left fun d _ => ?_)
    cases hof : d.of id
    · rw [Bool.false_and]
      rfl
    · rw [Bool.true_and, if_pos rfl, Column.mark]
      cases hany : d.markers.any fun x => x.1 = id.rg
      · rfl
      · rfl
  · have hopen : (!s.runs pPASM || s.pca.columns.all (·.closed)) = false := by
      rw [hrun, hcols]
      simp [hc]
    have hmap : mapFirst (fun c => !c.closed) Column.timeout s.pca.columns = pre ++ c.timeout :: post := by
      rw [hcols]
      exact mapFirst_append _ (fun d hd => by simp [hpre d hd]) (by simp [hc])
    obtain ⟨hp, hcount, hint, hfault⟩ := markerTimeout_shows { s with pca.columns := mapFirst (fun c => !c.closed) Column.timeout s.pca.columns }
    refine ⟨_, congrArg Host.Outcome.next (if_neg (by rw [hopen]; decide)), ?_, hcount, hint, hfault⟩
    exact (congrArg PcaState.columns hp).trans hmap

end Sys2Proof.Machine
end

section
/-! PROOFS. The coincidence gate and the recording of events (R99 to R101, R130 to R133, R155 to R161). -/
namespace Sys2Proof.Machine
open Sys2Proof

/-! ### Instances of the detector tier -/

theorem chan_set_ne (s : State) {c o : Nat} (x : Chan) (h : o ≠ c) : (s.setChan c x).chan o = s.chan o := Tab.get_set_ne _ _ _ _ h

theorem chan_of_chans {s t : State} (h : t.det.chans = s.det.chans) (o : Nat) : t.chan o = s.chan o := by
  unfold State.chan
  rw [h]

theorem events_of_det {s t : State} (h : t.det = s.det) (c : Nat) : t.events c = s.events c := by
  unfold State.events
  rw [h]

theorem det_of_fault (s : State) (p b : Nat) : (s.fault p b).det = s.det := (congrArg State.det ((SafFrame.refl s).fault p b).rest).trans rfl

theorem stackMem_of_fault (s : State) (p b : Nat) : (s.fault p b).stackMem = s.stackMem :=
  (congrArg State.stackMem ((SafFrame.refl s).fault p b).rest).trans rfl

/-! ### The gate (R99 to R101) -/

/-- The entries that wait at a gate with a new one: those of other SPADs within COINC_WIN. -/
def State.gateWaiting (s : State) (ch spad code : Nat) : List (Nat × Nat) :=
  ((s.chan ch).gate.filter fun e => 5 * (code - e.2) ≤ 32 * (2 + s.rd (DET.WIN (secOf ch))) && e.1 != spad) ++ [(spad, code)]

/-- An avalanche noted at its gate. -/
def State.gated (s : State) (ch spad code : Nat) : State :=
  s.setChan ch { s.chan ch with
    gate := if s.kInForce ch ≤ (s.gateWaiting ch spad code).length then [] else s.gateWaiting ch spad code
    fired := (spad, code) :: (s.chan ch).fired.filter fun e => e.1 != spad }

/-- The scan of the hot SPADs counts an avalanche of its channel. -/
def State.scanned (s : State) (ch spad : Nat) : State :=
  if s.rd (DET.SCAN_CH (secOf ch)) = idxOf ch then s.setSection (secOf ch) { s.section_ (secOf ch) with
      scanMacro := (s.section_ (secOf ch)).scanMacro + 1
      scanSpad := (s.section_ (secOf ch)).scanSpad + b2n (s.rd (DET.SCAN_SPAD (secOf ch)) = spad) }
  else s

theorem scanned_frame (s : State) (ch spad : Nat) : (s.scanned ch spad) = { s with det := (s.scanned ch spad).det }
    ∧ (s.scanned ch spad).det.chans = s.det.chans ∧ (s.scanned ch spad).det.flight = s.det.flight := by
  unfold State.scanned
  split <;> exact ⟨rfl, rfl, rfl⟩

theorem avalanche_eq {s : State} {sh : Shot} {ch spad code : Nat} (hopen : sh.openCode ≤ code + 2560) (hclose : code < sh.closeCode)
    (hrun : s.runs (pDet (secOf ch)) = true) (hon : bit (s.spadsOn ch) spad = true) (hready : ∀ e ∈ (s.chan ch).fired, e.1 ≠ spad) :
    s.avalanche sh ch spad code =
      let s2 := (s.gated ch spad code).scanned ch spad
      if s.kInForce ch ≤ (s.gateWaiting ch spad code).length && !(s.section_ (secOf ch)).lost
          && !(sh.windowOpen && (s.section_ (secOf ch)).haltedAtOpen) then
        { s2 with det.flight := s2.det.flight ++ [(ch, code)] } else s2 := by
  have harmed : armed sh code = true := by simp [armed, hopen, hclose]
  have hfind : (s.chan ch).fired.find? (fun e => e.1 = spad) = none := by
    rw [List.find?_eq_none]
    intro e he
    simpa using hready e he
  unfold State.avalanche
  dsimp only
  rw [hfind]
  dsimp only
  rw [if_neg (by rw [harmed, hrun, hon]; decide)]
  by_cases hk : s.kInForce ch ≤ (s.gateWaiting ch spad code).length
  · simp only [State.gateWaiting, State.gated, State.scanned] at hk ⊢
    simp only [hk, decide_true]
    rfl
  · simp only [State.gateWaiting, State.gated, State.scanned] at hk ⊢
    simp only [hk, decide_false]
    rfl

/-! ### Delivery (R130 to R133) -/

/-- The oldest event on its way has arrived. -/
def State.flightTaken (s : State) (rest : List (Nat × Nat)) : State := { s with det.flight := rest }

theorem flightTaken_events (s : State) (rest : List (Nat × Nat)) (c : Nat) : (s.flightTaken rest).events c = s.events c := rfl

section
variable {s : State} {sh : Shot} {c r : Nat} {rest : List (Nat × Nat)} {entry histogram : Ecc}

theorem exec_eventDelivery (hsh : s.acq.shot = some sh) (hf : s.det.flight = (c, r) :: rest) :
    exec (.eventDelivery entry histogram) s = .next (State.deliver (s.flightTaken rest) sh c r entry histogram) := by
  show done (match s.det.flight, s.acq.shot with | (ch, code) :: r, some sh => _ | _ :: r, none => _ | [], _ => s) = _
  rw [hf, hsh]
  rfl

/-- An event in the window of a bank that takes part, on a channel without an event before it. -/
theorem deliver_eq (hopen : sh.openCode ≤ r) (hclose : r < sh.closeCode) (hb : (s.bank (c / 16)).open_ = true)
    (hi : (s.bank (c / 16)).invalid = false) (hl : (s.events c).lastCode = none) :
    s.deliver sh c r entry histogram =
      let e := s.events c
      let s0 := s.setEvents c { e with lastCode := some r }
      if 64 ≤ e.codes.length then
        let s1 := s0.setEvents c { e with lastCode := some r, ovf := min 4095 (e.ovf + 1), pileupT := if e.ovf = 0 then r else e.pileupT }
        (s1.setBank (c / 16) { s1.bank (c / 16) with pileup := withBit (s1.bank (c / 16)).pileup (c % 16) true }).raise (BANK.INT_PILEUP (c / 16))
      else if entry = .double then
        ((s0.setEvents c { e with lastCode := some r, lost := true }).count (BANK.ECC_EVENTS (c / 16)) 1).fault (pBank (c / 16)) 0
      else (s0.setEvents c { e with lastCode := some r, codes := e.codes ++ [r] }).record sh c r e.codes.length histogram := by
  have hin : (decide (r < sh.openCode) || decide (sh.closeCode ≤ r) || !(s.bank (c / 16)).open_ || (s.bank (c / 16)).invalid) = false := by
    rw [decide_eq_false (by omega), decide_eq_false (by omega), hb, hi]
    rfl
  unfold State.deliver
  dsimp only
  rw [hl]
  dsimp only
  rw [if_neg (by decide), if_neg (by rw [hin]; decide)]

end

/-! ### Recording (R155 to R161) -/

theorem stackEcc_frame (s : State) (addr : Nat) (found : Ecc) :
    (s.stackEcc addr found).det = s.det ∧ (s.stackEcc addr found).stackMem = s.stackMem := by
  unfold State.stackEcc
  cases found
  · exact ⟨rfl, rfl⟩
  · exact ⟨rfl, rfl⟩
  · exact ⟨(det_of_fault _ _ _).trans rfl, (stackMem_of_fault _ _ _).trans rfl⟩

/-- The histogram's part of a recording. -/
def State.histogramCounted (s : State) (sh : Shot) (bin : Nat) (histogram : Ecc) : State :=
  if bit sh.reduce 2 then
    let s' := s.stackEcc bin histogram
    let m := if histogram = .double then s'.spoiled s'.stackMem bin 0 else s'.stackMem
    { s'.drew (if histogram = .double then 2 else 0) with stackMem := m.write bin [m.read bin + 1] }
  else s

/-- The list's part of a recording, and the mark of an error in the histogram. -/
def State.codeListed (s : State) (sh : Shot) (ch code n base : Nat) (histogram : Ecc) : State :=
  let s2 := if bit sh.reduce 1 then { s with stackMem := s.stackMem.setLe (base + 0x100 + 4 * n) 4 code } else s
  if bit sh.reduce 2 && histogram = .double then s2.setEvents ch { s2.events ch with stackErr := true } else s2

theorem record_eq (s : State) (sh : Shot) (ch code n : Nat) (histogram : Ecc) : s.record sh ch code n histogram =
    match s.slotOf ch with
    | none => s
    | some slot => if !s.runs (pSbank (slot % 16)) then s else
      (s.histogramCounted sh (slotAddr sh slot + 0x200 + (code - sh.openCode) / 2 ^ (5 + sh.binsel)) histogram).codeListed sh ch code n
        (slotAddr sh slot) histogram := by
  unfold State.record
  cases s.slotOf ch <;> rfl

theorem histogramCounted_det (s : State) (sh : Shot) (bin : Nat) (histogram : Ecc) : (s.histogramCounted sh bin histogram).det = s.det := by
  unfold State.histogramCounted
  split
  · exact (stackEcc_frame s bin histogram).1
  · rfl

theorem codeListed_events (s : State) (sh : Shot) (ch code n base : Nat) (histogram : Ecc) :
    (s.codeListed sh ch code n base histogram).det.flight = s.det.flight
      ∧ ((s.codeListed sh ch code n base histogram).events ch).codes = (s.events ch).codes
      ∧ ((s.codeListed sh ch code n base histogram).events ch).lastCode = (s.events ch).lastCode := by
  have hset (t : State) (x : Events) : (t.setEvents ch x).det.flight = t.det.flight ∧ ((t.setEvents ch x).events ch) = x :=
    ⟨rfl, State.events_set t ch x⟩
  unfold State.codeListed
  dsimp only
  split
  · rw [(hset _ _).1, (hset _ _).2]
    split <;> exact ⟨rfl, rfl, rfl⟩
  · split <;> exact ⟨rfl, rfl, rfl⟩

theorem record_events (s : State) (sh : Shot) (ch code n : Nat) (histogram : Ecc) :
    (s.record sh ch code n histogram).det.flight = s.det.flight ∧ ((s.record sh ch code n histogram).events ch).codes = (s.events ch).codes
      ∧ ((s.record sh ch code n histogram).events ch).lastCode = (s.events ch).lastCode := by
  rw [record_eq]
  split
  · exact ⟨rfl, rfl, rfl⟩
  · next slot _ =>
    split
    · exact ⟨rfl, rfl, rfl⟩
    · have hdet := histogramCounted_det s sh (slotAddr sh slot + 0x200 + (code - sh.openCode) / 2 ^ (5 + sh.binsel)) histogram
      obtain ⟨hflight, hcodes, hlast⟩ := codeListed_events
        (s.histogramCounted sh (slotAddr sh slot + 0x200 + (code - sh.openCode) / 2 ^ (5 + sh.binsel)) histogram) sh ch code n
        (slotAddr sh slot) histogram
      have hevents := events_of_det hdet ch
      rw [hdet] at hflight
      rw [hevents] at hcodes hlast
      exact ⟨hflight, hcodes, hlast⟩

/-- R156, R159: with the histogram alone enabled and clean, its byte counts and nothing else of the stacks changes. -/
theorem record_histogram {s : State} {sh : Shot} {ch code n slot : Nat} (hslot : s.slotOf ch = some slot)
    (hrun : s.runs (pSbank (slot % 16)) = true) (h2 : bit sh.reduce 2 = true) (h1 : bit sh.reduce 1 = false) (a : Nat) :
    (s.record sh ch code n .clean).stackMem.read a =
      let bin := 0x210000 * (sh.seq.toNat % 2) + 0x1000 * slot + 0x200 + (code - sh.openCode) / 2 ^ (5 + sh.binsel)
      if a = bin then s.stackMem.read bin + 1 else s.stackMem.read a := by
  have hcounted (bin : Nat) : (s.histogramCounted sh bin .clean).stackMem = s.stackMem.write bin [s.stackMem.read bin + 1] := by
    rw [State.histogramCounted, if_pos h2]
    rfl
  have hlisted (t : State) (base : Nat) : t.codeListed sh ch code n base .clean = t := by
    unfold State.codeListed
    dsimp only
    rw [if_neg (by simp : ¬(bit sh.reduce 2 && decide (Ecc.clean = Ecc.double)) = true), if_neg (by rw [h1]; decide)]
  rw [record_eq, hslot]
  dsimp only
  rw [if_neg (by rw [hrun]; decide), hlisted, hcounted, Mem.read_write]
  unfold slotAddr
  generalize 0x210000 * (sh.seq.toNat % 2) + 0x1000 * slot + 0x200 + (code - sh.openCode) / 2 ^ (5 + sh.binsel) = bin
  by_cases ha : a = bin
  · subst ha
    simp
  · rw [if_neg ha, if_neg (by simp; omega)]

/-- An event's code noted in its channel's list. -/
def State.eventListed (s : State) (c r : Nat) : State :=
  (s.setEvents c { s.events c with lastCode := some r }).setEvents c { s.events c with lastCode := some r, codes := (s.events c).codes ++ [r] }

theorem eventListed_events (s : State) (c r : Nat) :
    (s.eventListed c r).events c = { s.events c with lastCode := some r, codes := (s.events c).codes ++ [r] } := State.events_set _ _ _

theorem eventListed_frame (s : State) (c r : Nat) : (s.eventListed c r).rd = s.rd ∧ (s.eventListed c r).rst = s.rst
    ∧ (s.eventListed c r).stackMem = s.stackMem ∧ (s.eventListed c r).det.flight = s.det.flight := ⟨rfl, rfl, rfl, rfl⟩

theorem slotOf_of_rd {s t : State} (h : t.rd = s.rd) (c : Nat) : t.slotOf c = s.slotOf c := by
  unfold State.slotOf State.rowOf
  rw [h]

theorem flightTaken_frame (s : State) (rest : List (Nat × Nat)) : (s.flightTaken rest).rd = s.rd ∧ (s.flightTaken rest).rst = s.rst
    ∧ (s.flightTaken rest).stackMem = s.stackMem := ⟨rfl, rfl, rfl⟩

/-- Settles O35. -/
theorem eventsAreGatedAndRecorded : Obligations.EventsAreGatedAndRecorded := by
  intro ch spad code entry histogram sh c r rest s hsh j g waiting
  refine ⟨fun hopen hclose hrun hon hready => ?_, fun hf hopen hclose hb hi hl hlen hent => ?_, fun hf hopen hclose hb hi hl hlen => ?_,
    fun hf hopen hclose hb hi hl hlen => ?_⟩
  · have hexec : exec (.spadAvalanche ch spad code) s = .next (s.avalanche sh ch spad code.toNat) := by
      show done (match s.acq.shot with | some sh => _ | none => s) = _
      rw [hsh]
      rfl
    rw [avalanche_eq hopen hclose hrun hon hready] at hexec
    obtain ⟨hframe, hchans, hflight⟩ := scanned_frame (s.gated ch spad code.toNat) ch spad
    have hchan (o : Nat) : ((s.gated ch spad code.toNat).scanned ch spad).chan o = (s.gated ch spad code.toNat).chan o :=
      chan_of_chans hchans o
    have hdet : (s.gated ch spad code.toNat).scanned ch spad = { s with det := ((s.gated ch spad code.toNat).scanned ch spad).det } :=
      hframe
    have hself : (s.gated ch spad code.toNat).chan ch = _ := State.chan_set s ch _
    have hother (o : Nat) (ho : o ≠ ch.val) : (s.gated ch spad code.toNat).chan o = s.chan o := chan_set_ne s _ ho
    have hflight' : ((s.gated ch spad code.toNat).scanned ch spad).det.flight = s.det.flight := hflight
    have hgate : ((s.gated ch spad code.toNat).chan ch).gate = if s.kInForce ch ≤ waiting.length then [] else waiting := by
      rw [hself]
      rfl
    dsimp only at hexec
    generalize (s.gated ch spad code.toNat).scanned ch spad = u at *
    refine ⟨_, hexec, ?_⟩
    have hcond : (decide (s.kInForce ch ≤ (s.gateWaiting ch spad code.toNat).length) && !(s.section_ (secOf ch)).lost
        && !(sh.windowOpen && (s.section_ (secOf ch)).haltedAtOpen)) = true ↔ s.kInForce ch ≤ waiting.length ∧ (s.section_ j).lost = false
          ∧ ¬(sh.windowOpen = true ∧ (s.section_ j).haltedAtOpen = true) := by
      rw [Bool.and_eq_true, Bool.and_eq_true, decide_eq_true_eq, Bool.not_eq_true', Bool.not_eq_true', ← Bool.not_eq_true, ← Bool.not_eq_true,
        Bool.and_eq_true, and_assoc, Bool.not_eq_true]
      rfl
    split
    · next h =>
      refine ⟨(congrArg Chan.gate (hchan ch)).trans hgate, fun o ho => (hchan o).trans (hother o ho), ?_, ?_⟩
      · rw [if_pos (hcond.mp h), ← hflight']
      · conv_lhs => rw [hdet]
    · next h =>
      refine ⟨(congrArg Chan.gate (hchan ch)).trans hgate, fun o ho => (hchan o).trans (hother o ho), ?_, hdet⟩
      rw [if_neg (fun e => h (hcond.mpr e)), hflight']
  · have hexec := exec_eventDelivery (entry := entry) (histogram := histogram) hsh hf
    rw [deliver_eq (s := s.flightTaken rest) hopen hclose hb hi hl] at hexec
    dsimp only at hexec
    rw [flightTaken_events] at hexec
    rw [if_neg (show ¬64 ≤ (s.events c).codes.length by omega), if_neg hent] at hexec
    refine ⟨((s.flightTaken rest).eventListed c r).record sh c r (s.events c).codes.length histogram, hexec, ?_⟩
    obtain ⟨hrd, hrst, hmem, htaken⟩ := eventListed_frame (s.flightTaken rest) c r
    obtain ⟨hrd', hrst', hmem'⟩ := flightTaken_frame s rest
    obtain ⟨hflight, hcodes, hlast⟩ := record_events ((s.flightTaken rest).eventListed c r) sh c r (s.events c).codes.length histogram
    rw [eventListed_events] at hcodes hlast
    refine ⟨hflight.trans htaken, hcodes, hlast, ?_⟩
    intro slot hclean hslot hsb h2 h1 bin a
    have hsb' : ((s.flightTaken rest).eventListed c r).runs (pSbank (slot % 16)) = true := by
      refine (runs_of_regs (hrst.trans hrst' ▸ rfl) ?_).trans hsb
      rw [hrd, hrd']
    subst hclean
    rw [record_histogram ((slotOf_of_rd (hrd.trans hrd') c).trans hslot) hsb' h2 h1, hmem, hmem']
  · have hexec := exec_eventDelivery (entry := .double) (histogram := histogram) hsh hf
    rw [deliver_eq (s := s.flightTaken rest) hopen hclose hb hi hl] at hexec
    dsimp only at hexec
    rw [flightTaken_events] at hexec
    rw [if_neg (show ¬64 ≤ (s.events c).codes.length by omega), if_pos rfl] at hexec
    refine ⟨_, hexec, ?_⟩
    have hkey : (BANK.ECC_EVENTS (c / 16)).key ∉ faultKeys (pBank (c / 16)) := by
      intro hm
      obtain ⟨i, hi, hkey⟩ := List.mem_map.mp hm
      have := List.mem_range.mp hi
      simp only [C.FAULT, BANK.ECC_EVENTS, fld_key, pageBits, pBank] at hkey
      omega
    have hdet (t : State) : ((t.count (BANK.ECC_EVENTS (c / 16)) 1).fault (pBank (c / 16)) 0).det = t.det := (det_of_fault _ _ _).trans rfl
    have hevents (t : State) (x : Events) : State.events (((t.setEvents c x).count (BANK.ECC_EVENTS (c / 16)) 1).fault (pBank (c / 16)) 0) c = x :=
      (events_of_det (hdet _) c).trans (State.events_set t c x)
    refine ⟨congrArg DetState.flight (hdet _), (congrArg Events.codes (hevents _ _)).trans rfl, (congrArg Events.lost (hevents _ _)).trans rfl, ?_,
      (stackMem_of_fault _ _ _).trans rfl⟩
    exact (fault_keepsRegs _ _ _ _ hkey).trans (State.rd_count _ _ 1)
  · have hexec := exec_eventDelivery (entry := entry) (histogram := histogram) hsh hf
    rw [deliver_eq (s := s.flightTaken rest) hopen hclose hb hi hl] at hexec
    dsimp only at hexec
    rw [flightTaken_events] at hexec
    rw [if_pos (show 64 ≤ (s.events c).codes.length from hlen)] at hexec
    refine ⟨_, hexec, ?_⟩
    have hevents (t : State) (x : Events) (y : Bank) : State.events (((t.setEvents c x).setBank (c / 16) y).raise (BANK.INT_PILEUP (c / 16))) c = x :=
      State.events_set t c x
    exact ⟨rfl, (congrArg Events.codes (hevents _ _ _)).trans rfl, (congrArg Events.ovf (hevents _ _ _)).trans rfl, rfl, State.on_put_self _ _ _ Nat.one_pos⟩

end Sys2Proof.Machine
end

section
/-! PROOFS. HOT_MASK, the loss of VSPAD and the dwell pairs (R107, R110, R111, R114). -/
namespace Sys2Proof.Machine
open Sys2Proof

/-! ### Folds that reach a state once -/

/-- What a step brings about from a state that the other steps keep, and no step undoes, a fold brings about. -/
theorem foldl_reach {α : Type} {P Q : State → Prop} {f : State → α → State} {l : List α} {a : α} (ha : a ∈ l)
    (hkeepQ : ∀ s b, b ∈ l → b ≠ a → Q s → Q (f s b)) (hmake : ∀ s, Q s → P (f s a)) (hkeep : ∀ s b, b ∈ l → P s → P (f s b))
    (s : State) (hQ : Q s) : P (l.foldl f s) := by
  induction l generalizing s with
  | nil => exact absurd ha List.not_mem_nil
  | cons b l ih =>
    rw [List.foldl_cons]
    by_cases hba : b = a
    · subst hba
      exact List.foldlRecOn (motive := P) _ _ (hmake s hQ) fun t ht c hc => hkeep t c (List.mem_cons_of_mem _ hc) ht
    · have hmem : a ∈ l := (List.mem_cons.mp ha).resolve_left fun e => hba e.symm
      exact ih hmem (fun s c hc => hkeepQ s c (List.mem_cons_of_mem _ hc)) (fun s c hc => hkeep s c (List.mem_cons_of_mem _ hc)) _
        (hkeepQ s b List.mem_cons_self hba hQ)

/-! ### Signed figures -/

theorem toSigned_ofSigned {v : Int} (h : -32768 ≤ v) (h' : v ≤ 32767) : toSigned 16 (ofSigned 16 v % 2 ^ 16) = v := by
  unfold toSigned ofSigned
  have h2 : ((2 ^ 16 : Nat) : Int) = 65536 := rfl
  simp only [h2]
  split <;> omega

/-! ### HOT_MASK (R107) -/

theorem bit_bits {v lsb w b : Nat} (h : b < w) : bit (bits v lsb w) b = bit v (lsb + b) := by
  simp [bit_eq_testBit, bits, Nat.testBit_mod_two_pow, h, Nat.testBit_div_two_pow, Nat.add_comm]

/-- A mask of twelve bits without some of them. -/
theorem bit_cleared {m v b : Nat} (h : b < 12) : bit ((m &&& (0xFFF ^^^ v)) % 2 ^ 12) b = (bit m b && !bit v b) := by
  have hones : Nat.testBit 0xFFF b = true := by
    rw [show (0xFFF : Nat) = 2 ^ 12 - 1 from rfl, Nat.testBit_two_pow_sub_one, decide_eq_true h]
  rw [bit_mod_two_pow h]
  simp [bit_eq_testBit, Nat.testBit_and, Nat.testBit_xor, hones]

/-! ### The loss of VSPAD (R110) -/

/-- A section after three rounds without a reading. -/
def State.vspadLostIn (s : State) (j : Nat) : State :=
  if s.runs (pDet j) && 3 ≤ (s.section_ j).vspadMiss then
    (((s.setSection j { s.section_ j with lost := true, recovered := 0 }).put (DET.ST_VSPAD_OK j) false).wr (DET.TRIM j) 511).fault (pDet j) 3
  else s

theorem exec_vspadLost (s : State) : exec .vspadLost s = .next ((List.range 11).foldl State.vspadLostIn s) := rfl

theorem section_of_det {s t : State} (h : t.det = s.det) (j : Nat) : t.section_ j = s.section_ j := by
  unfold State.section_
  rw [h]

theorem section_set_ne (s : State) {j k : Nat} (x : Section) (h : k ≠ j) : (s.setSection j x).section_ k = s.section_ k :=
  Tab.get_set_ne _ _ _ _ h

/-- The registers of a section's loss of VSPAD. -/
def vspadKeys (j : Nat) : List Nat := (DET.ST_VSPAD_OK j).key :: (DET.TRIM j).key :: faultKeys (pDet j)

theorem vspadLostIn_keeps (s : State) (j : Nat) : KeepsRegs (vspadKeys j) s (s.vspadLostIn j) := by
  unfold State.vspadLostIn
  split
  · have h : KeepsRegs (vspadKeys j) s (s.setSection j { s.section_ j with lost := true, recovered := 0 }) := (KeepsRegs.refl _ s).of_cur rfl
    refine ((h.put _ _ List.mem_cons_self).wr _ _ (List.mem_cons_of_mem _ List.mem_cons_self)).trans ((fault_keepsRegs _ _ _).mono ?_)
    exact fun k hk => List.mem_cons_of_mem _ (List.mem_cons_of_mem _ hk)
  · exact KeepsRegs.refl _ s

theorem not_mem_vspadKeys {f : Fld} {j k b : Nat} (hf : f.key = k * 32768 + b) (hb : b < 32768) (h : k ≠ 0x26 + j) : f.key ∉ vspadKeys j := by
  intro hm
  rw [vspadKeys, List.mem_cons, List.mem_cons] at hm
  rcases hm with hm | hm | hm
  · simp only [DET.ST_VSPAD_OK, fld_key, pageBits, hf] at hm
    omega
  · simp only [DET.TRIM, fld_key, pageBits, hf] at hm
    omega
  · obtain ⟨i, hi, hkey⟩ := List.mem_map.mp hm
    have := List.mem_range.mp hi
    simp only [C.FAULT, fld_key, pageBits, pDet, hf] at hkey
    omega

theorem vspadLostIn_rst (s : State) (j : Nat) : (s.vspadLostIn j).rst = s.rst := by
  unfold State.vspadLostIn
  split
  · rw [((SafFrame.refl _).fault _ _).rst]
    rfl
  · rfl

theorem vspadLostIn_section (s : State) {j k : Nat} (h : k ≠ j) : (s.vspadLostIn j).section_ k = s.section_ k := by
  unfold State.vspadLostIn
  split
  · rw [section_of_det (det_of_fault _ _ _) k]
    exact section_set_ne s _ h
  · rfl

theorem vspadLostIn_runs (s : State) (j k : Nat) (hk : k < 11) : (s.vspadLostIn j).runs (pDet k) = s.runs (pDet k) := by
  refine runs_of_regs (by rw [vspadLostIn_rst]) (vspadLostIn_keeps s j _ ?_)
  exact not_mem_vspadKeys (k := 0x23) (b := 768 + domainOf (pDet k)) (by simp [PWR.DOM_ON, fld_key, pageBits]) (by
    have : ∀ k < 11, domainOf (pDet k) < 200 := by decide
    have := this k hk
    omega) (by omega)

/-- What the loss leaves in a section: its trim at 511, its fault, and the mark of the loss. -/
def State.VspadGone (s : State) (k : Nat) : Prop :=
  s.rd (DET.TRIM k) = 511 ∧ s.on (DET.FAULT_VSPAD k) = true ∧ (s.section_ k).lost = true

theorem vspadLostIn_gone {s : State} {k : Nat} (hk : k < 11) (hrun : s.runs (pDet k) = true) (hmiss : 3 ≤ (s.section_ k).vspadMiss) : (s.vspadLostIn k).VspadGone k := by
  have htrim : (DET.TRIM k).key ∉ faultKeys (pDet k) := by
    intro hm
    obtain ⟨i, hi, hkey⟩ := List.mem_map.mp hm
    have := List.mem_range.mp hi
    simp only [C.FAULT, DET.TRIM, fld_key, pageBits, pDet] at hkey
    omega
  rw [State.vspadLostIn, if_pos (by rw [hrun, decide_eq_true hmiss]; rfl)]
  refine ⟨(fault_keepsRegs _ _ _ _ htrim).trans (State.rd_wr_self _ _ _), ?_, ?_⟩
  · refine State.setFaults_on _ (pDet k) _ 3 (by decide) ?_
    have hbit : ∀ k < 11, bit (2 ^ 3 + faultCommons (pDet k) 3) 3 = true := by decide
    exact hbit k hk
  · rw [section_of_det (det_of_fault _ _ _) k]
    exact congrArg Section.lost (State.section_set s k _)

/-- A later section's loss keeps what an earlier one's has left, and so does a second one of its own. -/
theorem vspadLostIn_keeps_gone {s : State} {j k : Nat} (hk : k < 11) (h : s.VspadGone k) : (s.vspadLostIn j).VspadGone k := by
  by_cases hjk : k = j
  · subst hjk
    by_cases hcond : s.runs (pDet k) = true ∧ 3 ≤ (s.section_ k).vspadMiss
    · exact vspadLostIn_gone hk hcond.1 hcond.2
    · rw [State.vspadLostIn, if_neg (by simpa using hcond)]
      exact h
  · obtain ⟨htrim, hfault, hlost⟩ := h
    have hkeep := vspadLostIn_keeps s j
    refine ⟨(hkeep _ (not_mem_vspadKeys (k := 0x26 + k) (b := 688) rfl (by decide) (by omega))).trans htrim, ?_, ?_⟩
    · rw [State.on, hkeep _ (not_mem_vspadKeys (k := 0x26 + k) (b := 259) rfl (by decide) (by omega))]
      exact hfault
    · rw [vspadLostIn_section s hjk]
      exact hlost

theorem vspadLost_gone {s : State} {k : Nat} (hk : k < 11) (hrun : s.runs (pDet k) = true) (hmiss : 3 ≤ (s.section_ k).vspadMiss) :
    ((List.range 11).foldl State.vspadLostIn s).VspadGone k := by
  refine foldl_reach (P := fun t => t.VspadGone k) (f := State.vspadLostIn) (Q := fun t => t.runs (pDet k) = true ∧ 3 ≤ (t.section_ k).vspadMiss) (List.mem_range.mpr hk) ?_
    (fun t ht => vspadLostIn_gone hk ht.1 ht.2) (fun t j _ ht => vspadLostIn_keeps_gone hk ht) s ⟨hrun, hmiss⟩
  intro t j _ hjk ht
  refine ⟨(vspadLostIn_runs t j k hk).trans ht.1, ?_⟩
  rw [vspadLostIn_section t (Ne.symm hjk)]
  exact ht.2

/-! ### Dwell pairs (R111, R114) -/

/-- The counts of a pair and the model's figure shown. -/
def State.pairShown (s : State) (j ca cb : Nat) (model : Int) : State :=
  (((s.wr (DET.REF_CNT_A j) (min ca 65535)).wr (DET.REF_CNT_B j) (min cb 65535)).wrI (DET.VBD_MODEL j) model).drew 1

/-- The breakdown voltage of a pair in half millivolts, and its distance from the model. -/
def State.pairVbd2 (s : State) (j ca cb : Nat) : Int :=
  2 * s.vspadNow j - 25 * (s.rd (DET.TRIM j) : Int) - 50 * (s.rd (DET.REF_DROP j) : Int)
    - openDiv (50 * (s.rd (DET.REF_DROP j) : Int) * cb) ((ca : Int) - cb)

def State.pairD (s : State) (j ca cb : Nat) (model : Int) : Int := openDiv (s.pairVbd2 j ca cb - 2 * model) 2

/-- A pair accepted: the drift moved, and its checks. -/
def State.pairTaken (s : State) (j : Nat) (vbd drift : Int) : State :=
  ((((s.setSection j { s.section_ j with pairs := (s.section_ j).pairs + 1, rejects := 0, drift := drift }).showFigure (DET.VBD_MEAS j) vbd).showFigure
    (DET.DRIFT j) drift).driftChecks j drift)

theorem trackPair_eq (s : State) (j ca cb : Nat) (model : Int) : s.trackPair j ca cb model =
    if ca < 64 || ca ≤ cb then (s.pairShown j ca cb model).rejectPair j
    else if 500 < (s.pairD j ca cb model - (s.section_ j).drift).natAbs && 16 ≤ (s.section_ j).pairs then
      (s.pairShown j ca cb model).rejectPair j
    else (s.pairShown j ca cb model).pairTaken j (openDiv (s.pairVbd2 j ca cb) 2) ((s.section_ j).drift
      + openDiv (s.pairD j ca cb model - (s.section_ j).drift) (2 ^ s.rd (DET.AVG_SHIFT j) : Nat)) := by
  have hsec : ((s.wr (DET.REF_CNT_A j) (min ca 65535)).wr (DET.REF_CNT_B j) (min cb 65535)).section_ j = s.section_ j := rfl
  have hshown : (s.pairShown j ca cb model).section_ j = s.section_ j := rfl
  unfold State.trackPair State.pairTaken State.pairD
  rw [hshown]
  dsimp only
  rw [hsec]
  rfl

/-- The registers of a section's pair figures. -/
def pairKeys (j : Nat) : List Nat := [(DET.REF_CNT_A j).key, (DET.REF_CNT_B j).key, (DET.VBD_MODEL j).key]

theorem pairShown_keeps (s : State) (j ca cb : Nat) (model : Int) : KeepsRegs (pairKeys j) s (s.pairShown j ca cb model) := by
  have h := (((KeepsRegs.refl (pairKeys j) s).wr (DET.REF_CNT_A j) (min ca 65535) (by simp [pairKeys])).wr (DET.REF_CNT_B j) (min cb 65535)
    (by simp [pairKeys])).wr (DET.VBD_MODEL j) (ofSigned (DET.VBD_MODEL j).width model) (by simp [pairKeys])
  exact h.of_cur rfl

theorem pairShown_shows (s : State) (j ca cb : Nat) (model : Int) :
    (s.pairShown j ca cb model).rd (DET.REF_CNT_A j) = min ca 65535 ∧ (s.pairShown j ca cb model).rd (DET.REF_CNT_B j) = min cb 65535
      ∧ (s.pairShown j ca cb model).section_ j = s.section_ j := by
  have hmod (x : Nat) : min x 65535 % 2 ^ 16 = min x 65535 := Nat.mod_eq_of_lt (by omega)
  have hab : (DET.REF_CNT_A j).key ≠ (DET.REF_CNT_B j).key := by simp [DET.REF_CNT_A, DET.REF_CNT_B, fld_key]
  have ham : (DET.REF_CNT_A j).key ≠ (DET.VBD_MODEL j).key := by simp [DET.REF_CNT_A, DET.VBD_MODEL, fld_key]
  have hbm : (DET.REF_CNT_B j).key ≠ (DET.VBD_MODEL j).key := by simp [DET.REF_CNT_B, DET.VBD_MODEL, fld_key]
  refine ⟨?_, ?_, rfl⟩
  · exact (State.rd_wr_ne _ _ _ _ ham).trans ((State.rd_wr_ne _ _ _ _ hab).trans ((State.rd_wr_self _ _ _).trans (hmod ca)))
  · exact (State.rd_wr_ne _ _ _ _ hbm).trans ((State.rd_wr_self _ _ _).trans (hmod cb))

theorem not_mem_pageFaults {f : Fld} {p b : Nat} (hf : f.key = p * 32768 + b) (h : b < 256 ∨ 288 ≤ b) : f.key ∉ faultKeys p := by
  intro hm
  obtain ⟨i, hi, hkey⟩ := List.mem_map.mp hm
  have := List.mem_range.mp hi
  simp only [C.FAULT, fld_key, pageBits, hf] at hkey
  omega

/-- A rejected pair: counted, raised, and a fault from the eighth on. -/
theorem rejectPair_shows (s : State) {j : Nat} (hj : j < 11) :
    (s.rejectPair j).section_ j = { s.section_ j with rejects := (s.section_ j).rejects + 1 }
      ∧ (s.rejectPair j).on (DET.INT_TRACK_REJECT j) = true
      ∧ (8 ≤ (s.section_ j).rejects + 1 → (s.rejectPair j).on (C.FAULT (pDet j) 2) = true)
      ∧ KeepsRegs ((DET.INT_TRACK_REJECT j).key :: faultKeys (pDet j)) s (s.rejectPair j) := by
  have hint : (DET.INT_TRACK_REJECT j).key ∉ faultKeys (pDet j) := not_mem_pageFaults (b := 160) rfl (by decide)
  have hbit : ∀ j < 11, bit (2 ^ 2 + faultCommons (pDet j) 2) 2 = true := by decide
  unfold State.rejectPair
  extract_lets x s1
  have hsec : s1.section_ j = { s.section_ j with rejects := (s.section_ j).rejects + 1 } := State.section_set s j _
  have hon : s1.on (DET.INT_TRACK_REJECT j) = true := State.on_put_self _ _ _ Nat.one_pos
  have hkeep : KeepsRegs ((DET.INT_TRACK_REJECT j).key :: faultKeys (pDet j)) s s1 :=
    ((KeepsRegs.refl _ s).of_cur (u := s.setSection j { x with rejects := x.rejects + 1 }) rfl).put _ _ List.mem_cons_self
  split
  · refine ⟨(section_of_det (det_of_fault _ _ _) j).trans hsec, (fault_on_other _ hint).trans hon, fun _ => ?_, ?_⟩
    · exact fault_on_self _ (by decide) (hbit j hj)
    · exact hkeep.trans ((fault_keepsRegs _ _ _).mono fun k hk => List.mem_cons_of_mem _ hk)
  · next h => exact ⟨hsec, hon, fun e => absurd e h, hkeep⟩

theorem showFigure_keeps (s : State) (f : Fld) (v : Int) : KeepsRegs [f.key] s (s.showFigure f v) := by
  unfold State.showFigure
  split
  · exact (KeepsRegs.refl _ s).wr _ _ List.mem_cons_self
  · exact ((KeepsRegs.refl _ s).wr f (s.freeVal 0 % 65536) List.mem_cons_self).of_cur rfl

theorem showFigure_det (s : State) (f : Fld) (v : Int) : (s.showFigure f v).det = s.det := by
  unfold State.showFigure
  split <;> rfl

theorem showFigure_shows (s : State) {f : Fld} {v : Int} (hw : f.width = 16) (h : -32768 ≤ v) (h' : v ≤ 32767) : (s.showFigure f v).rdI f = v := by
  rw [State.showFigure, if_pos (by simp [h, h']), State.rdI, State.wrI, State.rd_wr_self, hw]
  exact toSigned_ofSigned h h'

/-- The registers of the drift's checks. -/
def driftKeys (j : Nat) : List Nat := (DET.INT_DRIFT_WARN j).key :: faultKeys (pDet j)

theorem driftChecks_shows (s : State) {j : Nat} (hj : j < 11) (drift : Int) : (s.driftChecks j drift).det = s.det
    ∧ KeepsRegs (driftKeys j) s (s.driftChecks j drift)
    ∧ (400 ≤ drift.natAbs → (s.driftChecks j drift).on (DET.INT_DRIFT_WARN j) = true)
    ∧ (800 ≤ drift.natAbs → (s.driftChecks j drift).on (C.FAULT (pDet j) 1) = true) := by
  have hint : (DET.INT_DRIFT_WARN j).key ∉ faultKeys (pDet j) := not_mem_pageFaults (b := 164) rfl (by decide)
  have hbit : ∀ j < 11, bit (2 ^ 1 + faultCommons (pDet j) 1) 1 = true := by decide
  unfold State.driftChecks
  extract_lets s1
  have hdet : s1.det = s.det := by
    show (if 400 ≤ drift.natAbs then _ else _ : State).det = _
    split <;> rfl
  have hkeep : KeepsRegs (driftKeys j) s s1 := by
    show KeepsRegs (driftKeys j) s (if 400 ≤ drift.natAbs then _ else _)
    split
    · exact (KeepsRegs.refl _ s).put _ _ List.mem_cons_self
    · exact KeepsRegs.refl _ s
  have hon : 400 ≤ drift.natAbs → s1.on (DET.INT_DRIFT_WARN j) = true := by
    intro h
    show (if 400 ≤ drift.natAbs then _ else _ : State).on _ = true
    rw [if_pos h]
    exact State.on_put_self _ _ _ Nat.one_pos
  split
  · refine ⟨(det_of_fault _ _ _).trans hdet, ?_, fun h => (fault_on_other _ hint).trans (hon h), fun _ => ?_⟩
    · exact hkeep.trans ((fault_keepsRegs _ _ _).mono fun k hk => List.mem_cons_of_mem _ hk)
    · exact fault_on_self _ (by decide) (hbit j hj)
  · next h => exact ⟨hdet, hkeep, hon, fun e => absurd e h⟩

theorem pairTaken_shows (s : State) {j : Nat} (hj : j < 11) (vbd drift : Int) :
    (s.pairTaken j vbd drift).section_ j = { s.section_ j with pairs := (s.section_ j).pairs + 1, rejects := 0, drift := drift }
      ∧ (-32768 ≤ drift → drift ≤ 32767 → (s.pairTaken j vbd drift).rdI (DET.DRIFT j) = drift)
      ∧ (400 ≤ drift.natAbs → (s.pairTaken j vbd drift).on (DET.INT_DRIFT_WARN j) = true)
      ∧ (800 ≤ drift.natAbs → (s.pairTaken j vbd drift).on (C.FAULT (pDet j) 1) = true)
      ∧ KeepsRegs ([(DET.VBD_MEAS j).key, (DET.DRIFT j).key] ++ driftKeys j) s (s.pairTaken j vbd drift) := by
  have hdrift : (DET.DRIFT j).key ∉ driftKeys j := by
    rw [driftKeys, List.mem_cons, not_or]
    exact ⟨by simp [DET.DRIFT, DET.INT_DRIFT_WARN, fld_key], not_mem_pageFaults (b := 752) rfl (by decide)⟩
  unfold State.pairTaken
  generalize hs1 : s.setSection j { s.section_ j with pairs := (s.section_ j).pairs + 1, rejects := 0, drift := drift } = s1
  have hsec : s1.section_ j = { s.section_ j with pairs := (s.section_ j).pairs + 1, rejects := 0, drift := drift } := by
    rw [← hs1]
    exact State.section_set s j _
  have hk1 : KeepsRegs ([(DET.VBD_MEAS j).key, (DET.DRIFT j).key] ++ driftKeys j) s s1 := by
    rw [← hs1]
    exact (KeepsRegs.refl _ s).of_cur rfl
  have hk2 := hk1.trans ((showFigure_keeps s1 (DET.VBD_MEAS j) vbd).mono fun k hk => by simp_all)
  have hk3 := hk2.trans ((showFigure_keeps (s1.showFigure (DET.VBD_MEAS j) vbd) (DET.DRIFT j) drift).mono fun k hk => by simp_all)
  have hd := showFigure_det (s1.showFigure (DET.VBD_MEAS j) vbd) (DET.DRIFT j) drift
  have hd' := showFigure_det s1 (DET.VBD_MEAS j) vbd
  have hshow := fun h h' => showFigure_shows (s1.showFigure (DET.VBD_MEAS j) vbd) (f := DET.DRIFT j) (v := drift) rfl h h'
  generalize (s1.showFigure (DET.VBD_MEAS j) vbd).showFigure (DET.DRIFT j) drift = s3 at *
  obtain ⟨hdet, hkeep, hwarn, hfault⟩ := driftChecks_shows s3 hj drift
  refine ⟨?_, fun h h' => ?_, hwarn, hfault, hk3.trans (hkeep.mono fun k hk => List.mem_append_right _ hk)⟩
  · rw [section_of_det (hdet.trans (hd.trans hd')) j, hsec]
  · rw [State.rdI, hkeep _ hdrift]
    exact hshow h h'

theorem exec_trackPairDone {s : State} {j : Fin 11} {ca cb : Nat} {temp model : Int} (hread : s.reading j = some temp)
    (hmodel : s.vbdModel j temp = some model) (hrun : s.runs (pDet j) = true) (htrack : s.on (DET.TRACK j) = true) :
    exec (.trackPairDone j ca cb) s = .next (s.trackPair j ca cb model) := by
  show done (match s.reading j with | some t => _ | none => s) = _
  rw [hread]
  dsimp only
  rw [hmodel]
  dsimp only
  rw [if_pos (by rw [hrun, htrack]; rfl)]
  rfl

theorem vspadNow_seen {s : State} {j : Nat} (h : (s.section_ j).vspad ≠ []) (hl : (s.section_ j).lost = false) :
    s.vspadNow j = vspadMean (s.section_ j).vspad := by
  unfold State.vspadNow
  dsimp only
  rw [if_neg (by simp [h, hl])]

/-- Settles O36. -/
theorem biasTracking : Obligations.BiasTracking := by
  intro path j i value ca cb temp model s
  refine ⟨fun hrun => ?_, ⟨_, exec_vspadLost s, fun k hk hrun hmiss => vspadLost_gone hk hrun hmiss⟩, fun hread hmodel hrun htrack => ?_⟩
  · refine ⟨_, congrArg Host.Outcome.next (State.writeTo_runs s (pDet j) _ hrun), fun b hb => ?_,
      ((KeepsRegs.refl _ s).of_cur rfl).wr (DET.HOT_MASK j i) _ List.mem_cons_self, rfl⟩
    have hwr : (State.clearHot { s with bus := {} } j i (bits value.toNat 20 12)).rd (DET.HOT_MASK j i) =
        (s.rd (DET.HOT_MASK j i) &&& (0xFFF ^^^ bits value.toNat 20 12)) % 2 ^ 12 := State.rd_wr_self _ _ _
    rw [hwr, bit_cleared hb, bit_bits hb, bit_toNat]
  · intro x va2 dv2 vbd2 d drift shown
    have hexec := exec_trackPairDone (ca := ca) (cb := cb) hread hmodel hrun htrack
    have hkeep := pairShown_keeps s j ca cb model
    obtain ⟨hA, hB, hsec⟩ := pairShown_shows s j ca cb model
    have hd (hv : x.vspad ≠ []) (hl : x.lost = false) : s.pairD j ca cb model = d := by
      unfold State.pairD State.pairVbd2
      rw [vspadNow_seen hv hl]
    have hfar (f : Fld) (b : Nat) (hf : f.key = (0x26 + j) * 32768 + b) (h288 : 288 ≤ b) :
        f.key ∉ (DET.INT_TRACK_REJECT j).key :: faultKeys (pDet j) := by
      rw [List.mem_cons, not_or]
      refine ⟨?_, not_mem_pageFaults hf (.inr h288)⟩
      rw [hf, DET.INT_TRACK_REJECT, fld_key, pageBits]
      omega
    refine ⟨fun hbad => ?_, fun h64 hlt hv hl hnear => ?_⟩
    · have hreject : s.trackPair j ca cb model = (s.pairShown j ca cb model).rejectPair j := by
        rw [trackPair_eq]
        by_cases hfew : ca < 64 ∨ ca ≤ cb
        · rw [if_pos (by simpa using hfew)]
        · obtain ⟨hv, hl, hfar, hpairs⟩ := hbad.resolve_left hfew
          rw [if_neg (by simpa using hfew), if_pos (by rw [hd hv hl]; simpa using ⟨hfar, hpairs⟩)]
      obtain ⟨hs, hint, hfault, hk⟩ := rejectPair_shows (s.pairShown j ca cb model) j.isLt
      rw [hsec] at hs hfault
      rw [hreject] at hexec
      refine ⟨_, hexec, ?_, hint, ⟨(hk _ (hfar _ 784 rfl (by decide))).trans hA, (hk _ (hfar _ 768 rfl (by decide))).trans hB⟩, hs, hfault⟩
      refine (hk _ (hfar _ 752 rfl (by decide))).trans (hkeep _ ?_)
      simp [pairKeys, DET.DRIFT, DET.REF_CNT_A, DET.REF_CNT_B, DET.VBD_MODEL, fld_key]
    · have htaken : s.trackPair j ca cb model = (s.pairShown j ca cb model).pairTaken j (openDiv (s.pairVbd2 j ca cb) 2) drift := by
        have hclose : ¬(decide (500 < (d - (s.section_ j).drift).natAbs) && decide (16 ≤ (s.section_ j).pairs)) = true := by
          rw [Bool.and_eq_true, decide_eq_true_eq, decide_eq_true_eq]
          rintro ⟨h500, h16⟩
          rcases hnear with h | h
          · exact absurd h500 (Nat.not_lt.mpr h)
          · exact absurd h16 (Nat.not_le.mpr h)
        rw [trackPair_eq, if_neg (by simp; omega), hd hv hl, if_neg hclose]
      obtain ⟨hs, hshow, hwarn, hfault, hk⟩ := pairTaken_shows (s.pairShown j ca cb model) j.isLt (openDiv (s.pairVbd2 j ca cb) 2) drift
      have hcount (f : Fld) (b : Nat) (hf : f.key = (0x26 + j) * 32768 + b) (hb : 753 ≤ b) :
          f.key ∉ [(DET.VBD_MEAS j).key, (DET.DRIFT j).key] ++ driftKeys j := by
        intro hm
        rcases List.mem_append.mp hm with hm | hm
        · rw [hf] at hm
          simp only [DET.VBD_MEAS, DET.DRIFT, fld_key, pageBits, List.mem_cons, List.not_mem_nil, or_false] at hm
          omega
        · rcases List.mem_cons.mp hm with hm | hm
          · rw [hf, DET.INT_DRIFT_WARN, fld_key, pageBits] at hm
            omega
          · exact not_mem_pageFaults hf (.inr (by omega)) hm
      rw [hsec] at hs
      rw [htaken] at hexec
      exact ⟨_, hexec, ⟨(hk _ (hcount _ 784 rfl (by decide))).trans hA, (hk _ (hcount _ 768 rfl (by decide))).trans hB⟩, hs, hshow, hwarn, hfault⟩

end Sys2Proof.Machine
end

section
/-! PROOFS. The delay loops, the tap histograms and the TIM inputs (R125, R131, R134, R136 to R138). -/
namespace Sys2Proof.Machine
open Sys2Proof

theorem bank_of_det {s t : State} (h : t.det = s.det) (b : Nat) : t.bank b = s.bank b := by
  unfold State.bank
  rw [h]

theorem timIn_of_det {s t : State} (h : t.det = s.det) (n : Nat) : t.timIn n = s.timIn n := by
  unfold State.timIn
  rw [h]

theorem SafFrame.det {s t : State} (h : SafFrame s t) : t.det = s.det := (congrArg State.det h.rest).trans rfl

/-- The judging of the causes of DEGRADED leaves the locks, the interrupts and the faults of the banks and of TIM. -/
theorem degrade_on (s : State) {f : Fld} (h : f.key ∉ judgeKeys) : s.degrade.on f = s.on f := by
  rw [State.on, degrade_keeps s f h, State.on]

/-! ### The delay loops (R125, R134) -/

/-- A bank's loop shown as locked or not. -/
def State.loopShown (s : State) (b : Nat) (locked : Bool) : State := (s.put (BANK.DLL_LOCKED b) locked).put (BANK.ST_DLL_LOCKED b) locked

theorem loopShown_shows (s : State) (b : Nat) (locked : Bool) :
    (s.loopShown b locked).on (BANK.DLL_LOCKED b) = locked ∧ (s.loopShown b locked).on (BANK.ST_DLL_LOCKED b) = locked
      ∧ (s.loopShown b locked).det = s.det := by
  have hne : (BANK.DLL_LOCKED b).key ≠ (BANK.ST_DLL_LOCKED b).key := by simp [BANK.DLL_LOCKED, BANK.ST_DLL_LOCKED, fld_key]
  exact ⟨(State.on_put_ne _ _ _ _ hne).trans (State.on_put_self _ _ _ Nat.one_pos), State.on_put_self _ _ _ Nat.one_pos, rfl⟩

theorem lockLoop_bank {s : State} {b : Nat} (hb : b ≠ 33) (hrun : s.runs (pBank b) = true) (hl : s.on (BANK.DLL_LOCKED b) = false) :
    s.lockLoop b = (let s1 := (s.loopShown b true).setBank b { s.bank b with wasLocked := true }
      if (s.bank b).wasLocked then s1.raise (BANK.INT_DLL_RELOCK b) else s1).degrade := by
  rw [State.lockLoop, if_neg hb, if_neg (by rw [hrun, State.bankLocked, hl]; decide)]
  rfl

theorem lockLoop_shows {s : State} {b : Nat} (hb : b < 33) (hrun : s.runs (pBank b) = true) (hl : s.on (BANK.DLL_LOCKED b) = false) :
    (s.lockLoop b).on (BANK.DLL_LOCKED b) = true ∧ (s.lockLoop b).on (BANK.ST_DLL_LOCKED b) = true
      ∧ (s.lockLoop b).bank b = { s.bank b with wasLocked := true }
      ∧ ((s.bank b).wasLocked = true → (s.lockLoop b).on (BANK.INT_DLL_RELOCK b) = true) := by
  have hkeys : ∀ b < 33, (BANK.DLL_LOCKED b).key ∉ judgeKeys ∧ (BANK.ST_DLL_LOCKED b).key ∉ judgeKeys
      ∧ (BANK.INT_DLL_RELOCK b).key ∉ judgeKeys := by decide +kernel
  obtain ⟨hk1, hk2, hk3⟩ := hkeys b hb
  obtain ⟨hlock, hst, hdet⟩ := loopShown_shows s b true
  have hne1 : (BANK.DLL_LOCKED b).key ≠ (BANK.INT_DLL_RELOCK b).key := by simp [BANK.DLL_LOCKED, BANK.INT_DLL_RELOCK, fld_key]
  have hne2 : (BANK.ST_DLL_LOCKED b).key ≠ (BANK.INT_DLL_RELOCK b).key := by simp [BANK.ST_DLL_LOCKED, BANK.INT_DLL_RELOCK, fld_key]
  rw [lockLoop_bank (by omega) hrun hl, degrade_on _ hk1, degrade_on _ hk2, degrade_on _ hk3, bank_of_det (SafFrame.degrade _).det b]
  dsimp only
  generalize s.loopShown b true = u at *
  split
  · exact ⟨(State.on_put_ne _ _ _ _ hne1).trans hlock, (State.on_put_ne _ _ _ _ hne2).trans hst, State.bank_set u b _,
      fun _ => State.on_put_self _ _ _ Nat.one_pos⟩
  · next h => exact ⟨hlock, hst, State.bank_set u b _, fun e => absurd e h⟩

theorem unlockLoop_shows {s : State} {b : Nat} (hb : b < 33) (hl : s.on (BANK.DLL_LOCKED b) = true) :
    (s.unlockLoop b).on (BANK.DLL_LOCKED b) = false ∧ (s.unlockLoop b).on (BANK.ST_DLL_LOCKED b) = false
      ∧ (s.unlockLoop b).on (BANK.INT_DLL_UNLOCK b) = true ∧ (s.unlockLoop b).on (C.FAULT (pBank b) 1) = true
      ∧ ((s.bank b).open_ = true → ((s.unlockLoop b).bank b).invalid = true) := by
  have hkeys : ∀ b < 33, ((BANK.DLL_LOCKED b).key ∉ judgeKeys ∧ (BANK.ST_DLL_LOCKED b).key ∉ judgeKeys
      ∧ (BANK.INT_DLL_UNLOCK b).key ∉ judgeKeys ∧ (C.FAULT (pBank b) 1).key ∉ judgeKeys)
      ∧ bit (2 ^ 1 + faultCommons (pBank b) 1) 1 = true := by decide +kernel
  obtain ⟨⟨hk1, hk2, hk3, hk4⟩, hbit⟩ := hkeys b hb
  obtain ⟨hlock, hst, hdet⟩ := loopShown_shows s b false
  have hne1 : (BANK.DLL_LOCKED b).key ≠ (BANK.INT_DLL_UNLOCK b).key := by simp [BANK.DLL_LOCKED, BANK.INT_DLL_UNLOCK, fld_key]
  have hne2 : (BANK.ST_DLL_LOCKED b).key ≠ (BANK.INT_DLL_UNLOCK b).key := by simp [BANK.ST_DLL_LOCKED, BANK.INT_DLL_UNLOCK, fld_key]
  have hf1 : (BANK.DLL_LOCKED b).key ∉ faultKeys (pBank b) := not_mem_pageFaults (b := 575) rfl (by decide)
  have hf2 : (BANK.ST_DLL_LOCKED b).key ∉ faultKeys (pBank b) := not_mem_pageFaults (b := 129) rfl (by decide)
  have hf3 : (BANK.INT_DLL_UNLOCK b).key ∉ faultKeys (pBank b) := not_mem_pageFaults (b := 160) rfl (by decide)
  have hform : s.unlockLoop b = (((((s.loopShown b false).raise (BANK.INT_DLL_UNLOCK b)).setBank b
      { s.bank b with invalid := (s.bank b).invalid || (s.bank b).open_ }).fault (pBank b) 1)).degrade := by
    rw [State.unlockLoop, if_neg (by omega), if_neg (by rw [State.bankLocked, hl]; decide)]
    rfl
  rw [hform, degrade_on _ hk1, degrade_on _ hk2, degrade_on _ hk3, degrade_on _ hk4, bank_of_det (SafFrame.degrade _).det b,
    bank_of_det (det_of_fault _ _ _) b, fault_on_other _ hf1, fault_on_other _ hf2, fault_on_other _ hf3, State.bank_set]
  generalize s.loopShown b false = u at *
  exact ⟨(State.on_put_ne _ _ _ _ hne1).trans hlock, (State.on_put_ne _ _ _ _ hne2).trans hst, State.on_put_self _ _ _ Nat.one_pos,
    fault_on_self _ (by decide) hbit, fun h => by rw [h, Bool.or_true]⟩

/-! ### The tap histograms (R134) -/

/-- Whether a full histogram has an empty bin, and whether one is too wide. -/
def State.tapDead (s : State) (b : Nat) : Bool := ((List.range 32).map fun f => s.rd (BANK.TAP_HIST b f)).any fun n => n = 0
def State.tapWide (s : State) (b : Nat) : Bool := ((List.range 32).map fun f => s.rd (BANK.TAP_HIST b f)).any fun n => 1536 < n

theorem tapDead_iff (s : State) (b : Nat) : s.tapDead b = true ↔ ∃ f < 32, s.rd (BANK.TAP_HIST b f) = 0 := by
  simp [State.tapDead]

theorem tapWide_iff (s : State) (b : Nat) : s.tapWide b = true ↔ ∃ f < 32, 1536 < s.rd (BANK.TAP_HIST b f) := by
  simp [State.tapWide]

/-- The two flags of a channel set by its check. -/
def State.tapFlagged (s : State) (b : Nat) : State :=
  (s.put (BANK.TAP_DEAD b (s.rd (BANK.HIST_CH b))) (s.tapDead b)).put (BANK.TAP_WIDE b (s.rd (BANK.HIST_CH b))) (s.tapWide b)

theorem tapCheck_eq {s : State} {b : Nat} (h : 16384 ≤ s.rd (BANK.HIST_N b)) : s.tapCheck b =
    if s.tapDead b || s.tapWide b then ((s.tapFlagged b).raise (BANK.INT_TAP_FAULT b)).fault (pBank b) 2 else s.tapFlagged b := by
  rw [State.tapCheck, if_neg (by omega)]
  rfl

theorem tapCheck_shows {s : State} {b : Nat} (hb : b < 33) (h : 16384 ≤ s.rd (BANK.HIST_N b)) :
    (s.tapCheck b).on (BANK.TAP_DEAD b (s.rd (BANK.HIST_CH b))) = s.tapDead b
      ∧ (s.tapCheck b).on (BANK.TAP_WIDE b (s.rd (BANK.HIST_CH b))) = s.tapWide b
      ∧ ((s.tapDead b || s.tapWide b) = true → (s.tapCheck b).on (BANK.INT_TAP_FAULT b) = true ∧ (s.tapCheck b).on (C.FAULT (pBank b) 2) = true)
      ∧ ((s.tapDead b || s.tapWide b) = false →
          KeepsRegs [(BANK.TAP_DEAD b (s.rd (BANK.HIST_CH b))).key, (BANK.TAP_WIDE b (s.rd (BANK.HIST_CH b))).key] s (s.tapCheck b)) := by
  have hbits : ∀ b < 33, bit (2 ^ 2 + faultCommons (pBank b) 2) 2 = true := by decide +kernel
  rw [tapCheck_eq h]
  unfold State.tapFlagged
  generalize s.rd (BANK.HIST_CH b) = i
  have hdw : (BANK.TAP_DEAD b i).key ≠ (BANK.TAP_WIDE b i).key := by
    simp only [BANK.TAP_DEAD, BANK.TAP_WIDE, fld_key]
    omega
  have hdi : (BANK.TAP_DEAD b i).key ≠ (BANK.INT_TAP_FAULT b).key := by
    simp only [BANK.TAP_DEAD, BANK.INT_TAP_FAULT, fld_key]
    omega
  have hwi : (BANK.TAP_WIDE b i).key ≠ (BANK.INT_TAP_FAULT b).key := by
    simp only [BANK.TAP_WIDE, BANK.INT_TAP_FAULT, fld_key]
    omega
  have hdf : (BANK.TAP_DEAD b i).key ∉ faultKeys (pBank b) :=
    not_mem_pageFaults (b := 1537 + 32 * i) rfl (.inr (by omega))
  have hwf : (BANK.TAP_WIDE b i).key ∉ faultKeys (pBank b) :=
    not_mem_pageFaults (b := 1536 + 32 * i) rfl (.inr (by omega))
  have hif : (BANK.INT_TAP_FAULT b).key ∉ faultKeys (pBank b) := not_mem_pageFaults (b := 163) rfl (by decide)
  generalize s.tapDead b = dead
  generalize s.tapWide b = wide
  have hdead : ((s.put (BANK.TAP_DEAD b i) dead).put (BANK.TAP_WIDE b i) wide).on (BANK.TAP_DEAD b i) = dead :=
    (State.on_put_ne _ _ _ _ hdw).trans (State.on_put_self _ _ _ Nat.one_pos)
  have hwide : ((s.put (BANK.TAP_DEAD b i) dead).put (BANK.TAP_WIDE b i) wide).on (BANK.TAP_WIDE b i) = wide :=
    State.on_put_self _ _ _ Nat.one_pos
  have hkeep : KeepsRegs [(BANK.TAP_DEAD b i).key, (BANK.TAP_WIDE b i).key] s ((s.put (BANK.TAP_DEAD b i) dead).put (BANK.TAP_WIDE b i) wide) :=
    ((KeepsRegs.refl _ s).put _ _ (by simp)).put _ _ (by simp)
  split
  · next hc =>
    refine ⟨?_, ?_, fun _ => ⟨?_, fault_on_self _ (by decide) (hbits b hb)⟩, fun e => absurd (e.symm.trans hc) (by decide)⟩
    · exact (fault_on_other _ hdf).trans ((State.on_put_ne _ _ _ _ hdi).trans hdead)
    · exact (fault_on_other _ hwf).trans ((State.on_put_ne _ _ _ _ hwi).trans hwide)
    · exact (fault_on_other _ hif).trans (State.on_put_self _ _ _ Nat.one_pos)
  · next hc => exact ⟨hdead, hwide, fun e => absurd e hc, fun _ => hkeep⟩

/-! ### The TIM inputs (R136 to R138) -/

/-- An edge noted on an input. -/
def State.edgeNoted (s : State) (n code : Nat) : State :=
  (s.setTimIn n { s.timIn n with lastCode := some code }).put (TIM.NO_SIGNAL n) false

theorem edgeNoted_shows (s : State) (n code : Nat) : (s.edgeNoted n code).timIn n = { s.timIn n with lastCode := some code }
    ∧ (s.edgeNoted n code).on (TIM.NO_SIGNAL n) = false ∧ KeepsRegs [(TIM.NO_SIGNAL n).key] s (s.edgeNoted n code) :=
  ⟨State.timIn_set s n _, State.on_put_self _ _ _ Nat.one_pos, ((KeepsRegs.refl _ s).of_cur rfl).put _ _ List.mem_cons_self⟩

/-- An edge within 1.5 ns of the last. -/
def TimInput.dead (x : TimInput) (code : Nat) : Bool :=
  match x.lastCode with
  | some l => 10 * ((code + 2 ^ 32 - l) % 2 ^ 32) ≤ 384
  | none => false

/-- The mode in which an input takes its edges: EMT's input is in interval mode (R139). -/
def State.timMode (s : State) (n : Nat) : Nat := if s.emtOwns n then 0 else s.rd (TIM.MODE n)

theorem timEdge_eq (s : State) (n code : Nat) : s.timEdge n code =
    if !s.runs pTIM || (s.timMode n = 2 && (s.inShot || !s.timInSession n)) || (s.timIn n).dead code
      || (s.emtOwns n && s.inShot && !s.on TIM.ST_DLL_LOCKED) then s
    else if s.timMode n = 1 then (s.edgeNoted n code).setTimIn n { (s.edgeNoted n code).timIn n with
        gateFirst := some (((s.edgeNoted n code).timIn n).gateFirst.getD code), gateLast := code
        gateCount := ((s.edgeNoted n code).timIn n).gateCount + 1 }
    else match s.acq.shot with
      | none => (s.edgeNoted n code).timSession n code
      | some sh =>
        let s1 := s.edgeNoted n code
        let s2 := if (s1.timIn n).edges.length < 16 then s1.setTimIn n { s1.timIn n with edges := (s1.timIn n).edges ++ [code % 2 ^ 18] }
          else s1.setTimIn n { s1.timIn n with ovf := min 65535 ((s1.timIn n).ovf + 1) }
        if s.emtOwns n then s2.monitorEdge sh (code % 2 ^ 18) else s2 := rfl

theorem monitorEdge_keeps (s : State) (sh : Shot) (code : Nat) :
    (s.monitorEdge sh code).det = s.det ∧ KeepsRegs (faultKeys pEMT) s (s.monitorEdge sh code) := by
  unfold State.monitorEdge
  split
  · exact ⟨det_of_fault _ _ _, fault_keepsRegs _ _ _⟩
  · exact ⟨rfl, KeepsRegs.refl _ s⟩

theorem dead_false {x : TimInput} {code : Nat} (h : ∀ l, x.lastCode = some l → ¬10 * ((code + 2 ^ 32 - l) % 2 ^ 32) ≤ 384) :
    x.dead code = false := by
  unfold TimInput.dead
  split
  · next l hl => exact decide_eq_false (h l hl)
  · rfl

/-- The stamp of an edge in interval mode, or its count from the 17th on. -/
def State.stamped (s : State) (n code : Nat) : State :=
  if (s.timIn n).edges.length < 16 then s.setTimIn n { s.timIn n with edges := (s.timIn n).edges ++ [code % 2 ^ 18] }
  else s.setTimIn n { s.timIn n with ovf := min 65535 ((s.timIn n).ovf + 1) }

theorem stamped_shows (s : State) (n code : Nat) : (s.stamped n code).regs = s.regs
    ∧ ((s.timIn n).edges.length < 16 → (s.stamped n code).timIn n = { s.timIn n with edges := (s.timIn n).edges ++ [code % 2 ^ 18] })
    ∧ (16 ≤ (s.timIn n).edges.length → (s.stamped n code).timIn n = { s.timIn n with ovf := min 65535 ((s.timIn n).ovf + 1) }) := by
  unfold State.stamped
  split
  · next h => exact ⟨rfl, fun _ => State.timIn_set s n _, fun e => absurd h (by omega)⟩
  · next h => exact ⟨rfl, fun e => absurd e h, fun _ => State.timIn_set s n _⟩

theorem timEdge_stamps {s : State} {n code : Nat} {sh : Shot} (hn : n < 2) (hrun : s.runs pTIM = true)
    (hmode : if s.emtOwns n then s.on TIM.ST_DLL_LOCKED = true else s.rd (TIM.MODE n) = 0) (hsh : s.acq.shot = some sh)
    (hdead : (s.timIn n).dead code = false) :
    ((s.timIn n).edges.length < 16 → (s.timEdge n code).timIn n =
        { s.timIn n with lastCode := some code, edges := (s.timIn n).edges ++ [code % 2 ^ 18] })
      ∧ (16 ≤ (s.timIn n).edges.length → (s.timEdge n code).timIn n =
        { s.timIn n with lastCode := some code, ovf := min 65535 ((s.timIn n).ovf + 1) })
      ∧ (s.timEdge n code).on (TIM.NO_SIGNAL n) = false := by
  have hkeys : ∀ n < 2, (TIM.NO_SIGNAL n).key ∉ faultKeys pEMT := by decide
  have hzero : s.timMode n = 0 := by
    unfold State.timMode
    split at hmode
    · next h => rw [if_pos h]
    · next h => rw [if_neg h, hmode]
  have hdeaf : (s.emtOwns n && s.inShot && !s.on TIM.ST_DLL_LOCKED) = false := by
    split at hmode
    · rw [hmode, Bool.not_true, Bool.and_false]
    · next h => rw [Bool.eq_false_iff.mpr h, Bool.false_and, Bool.false_and]
  have hform : s.timEdge n code = if s.emtOwns n then ((s.edgeNoted n code).stamped n code).monitorEdge sh (code % 2 ^ 18)
      else (s.edgeNoted n code).stamped n code := by
    rw [timEdge_eq, if_neg (by rw [hrun, hdead, hdeaf, hzero]; simp), if_neg (by rw [hzero]; decide), hsh]
    rfl
  obtain ⟨hin, hno, -⟩ := edgeNoted_shows s n code
  obtain ⟨hregs, hfew, hmany⟩ := stamped_shows (s.edgeNoted n code) n code
  rw [hin] at hfew hmany
  have hno' : ((s.edgeNoted n code).stamped n code).on (TIM.NO_SIGNAL n) = false := by
    rw [State.on, State.rd, hregs]
    exact hno
  rw [hform]
  generalize (s.edgeNoted n code).stamped n code = u at *
  obtain ⟨hdet, hkeep⟩ := monitorEdge_keeps u sh (code % 2 ^ 18)
  split
  · rw [timIn_of_det hdet n, State.on, hkeep _ (hkeys n hn)]
    exact ⟨hfew, hmany, hno'⟩
  · exact ⟨hfew, hmany, hno'⟩

/-- An input with its gate opened anew. -/
def State.gateOpened (s : State) (n : Nat) : State := s.setTimIn n { s.timIn n with gateFirst := none, gateLast := 0, gateCount := 0 }

/-- A measurement shown (R137). -/
def State.gateShown (s : State) (n count elapsed freq : Nat) : State :=
  ((((s.wr (TIM.COUNT n) count).wr (TIM.ELAPSED n) elapsed).wr (TIM.FREQ n) freq).put (TIM.VALID n) true).raise
    (if n = 0 then TIM.INT_TIM0_RESULT else TIM.INT_TIM1_RESULT)

/-- The range of a measurement (R138). -/
def State.gateRanged (s : State) (n : Nat) (out : Bool) : State :=
  if out then (s.put (TIM.OUT_RANGE n) true).timRange n else s.put (TIM.OUT_RANGE n) false

theorem gateClose_open {s : State} {n first : Nat} (hrun : s.runs pTIM = true) (howns : s.emtOwns n = false) (hmode : s.rd (TIM.MODE n) = 1)
    (hfirst : (s.timIn n).gateFirst = some first) (hcount : 2 ≤ (s.timIn n).gateCount) : s.gateClose n =
      let elapsed := ((s.timIn n).gateLast + 2 ^ 32 - first) % 2 ^ 32
      let freq := freqOf ((s.timIn n).gateCount - 1) (s.rd (TIM.PRESC n)) elapsed
      ((s.gateOpened n).gateShown n ((s.timIn n).gateCount - 1) elapsed freq).gateRanged n (freq < s.rd (TIM.FMIN n) || s.rd (TIM.FMAX n) < freq) := by
  unfold State.gateClose
  dsimp only
  rw [if_neg (by rw [hrun, howns, hmode]; decide), hfirst]
  dsimp only
  rw [if_neg (by omega)]
  rfl

theorem gateClose_empty {s : State} {n : Nat} (hrun : s.runs pTIM = true) (howns : s.emtOwns n = false) (hmode : s.rd (TIM.MODE n) = 1)
    (h : (s.timIn n).gateFirst = none ∨ (s.timIn n).gateCount < 2) : s.gateClose n = (s.gateOpened n).put (TIM.NO_SIGNAL n) true := by
  unfold State.gateClose
  dsimp only
  rw [if_neg (by rw [hrun, howns, hmode]; decide)]
  cases hf : (s.timIn n).gateFirst with
  | none => rfl
  | some first =>
    dsimp only
    rw [if_pos (h.resolve_left (by rw [hf]; simp))]
    rfl

theorem timTimeout_eq (s : State) {n : Nat} (hn : n < 2) :
    s.timTimeout n = (s.raise (if n = 0 then TIM.INT_TIM0_TIMEOUT else TIM.INT_TIM1_TIMEOUT)).fault pTIM (2 * n) := by
  obtain rfl | rfl : n = 0 ∨ n = 1 := by omega
  · rfl
  · rfl

theorem timRange_eq (s : State) {n : Nat} (hn : n < 2) :
    s.timRange n = (s.raise (if n = 0 then TIM.INT_TIM0_RANGE else TIM.INT_TIM1_RANGE)).fault pTIM (2 * n + 1) := by
  obtain rfl | rfl : n = 0 ∨ n = 1 := by omega
  · rfl
  · rfl

theorem timTimeout_shows (s : State) {n : Nat} (hn : n < 2) :
    (s.timTimeout n).on (if n = 0 then TIM.INT_TIM0_TIMEOUT else TIM.INT_TIM1_TIMEOUT) = true
      ∧ (s.timTimeout n).on (C.FAULT pTIM (2 * n)) = true
      ∧ ((s.timTimeout n).on (TIM.NO_SIGNAL n) = s.on (TIM.NO_SIGNAL n)) := by
  have hkeys : ∀ n < 2, (TIM.NO_SIGNAL n).key ≠ (if n = 0 then TIM.INT_TIM0_TIMEOUT else TIM.INT_TIM1_TIMEOUT).key
      ∧ (TIM.NO_SIGNAL n).key ∉ faultKeys pTIM
      ∧ (if n = 0 then TIM.INT_TIM0_TIMEOUT else TIM.INT_TIM1_TIMEOUT).key ∉ faultKeys pTIM
      ∧ (if n = 0 then TIM.INT_TIM0_TIMEOUT else TIM.INT_TIM1_TIMEOUT).width = 1
      ∧ bit (2 ^ (2 * n) + faultCommons pTIM (2 * n)) (2 * n) = true := by decide
  obtain ⟨hne, hno, hint, hwidth, hbit⟩ := hkeys n hn
  rw [timTimeout_eq s hn]
  generalize (if n = 0 then TIM.INT_TIM0_TIMEOUT else TIM.INT_TIM1_TIMEOUT) = f at *
  exact ⟨(fault_on_other _ hint).trans (State.on_put_self _ _ _ (hwidth ▸ Nat.one_pos)), fault_on_self _ (by omega) hbit,
    (fault_on_other _ hno).trans (State.on_put_ne _ _ _ _ hne)⟩

theorem timRange_shows (s : State) {n : Nat} (hn : n < 2) :
    (s.timRange n).on (if n = 0 then TIM.INT_TIM0_RANGE else TIM.INT_TIM1_RANGE) = true
      ∧ (s.timRange n).on (C.FAULT pTIM (2 * n + 1)) = true ∧ (s.timRange n).det = s.det
      ∧ KeepsRegs ((if n = 0 then TIM.INT_TIM0_RANGE else TIM.INT_TIM1_RANGE).key :: faultKeys pTIM) s (s.timRange n) := by
  have hkeys : ∀ n < 2, (if n = 0 then TIM.INT_TIM0_RANGE else TIM.INT_TIM1_RANGE).key ∉ faultKeys pTIM
      ∧ (if n = 0 then TIM.INT_TIM0_RANGE else TIM.INT_TIM1_RANGE).width = 1
      ∧ bit (2 ^ (2 * n + 1) + faultCommons pTIM (2 * n + 1)) (2 * n + 1) = true := by decide
  obtain ⟨hint, hwidth, hbit⟩ := hkeys n hn
  rw [timRange_eq s hn]
  generalize (if n = 0 then TIM.INT_TIM0_RANGE else TIM.INT_TIM1_RANGE) = f at *
  refine ⟨(fault_on_other _ hint).trans (State.on_put_self _ _ _ (hwidth ▸ Nat.one_pos)), fault_on_self _ (by omega) hbit,
    (det_of_fault _ _ _).trans rfl, ?_⟩
  exact ((KeepsRegs.refl _ s).put _ _ List.mem_cons_self).trans ((fault_keepsRegs _ _ _).mono fun _ hk => List.mem_cons_of_mem _ hk)

theorem gateRanged_shows (s : State) {n : Nat} (hn : n < 2) (out : Bool) :
    (s.gateRanged n out).on (TIM.OUT_RANGE n) = out ∧ (s.gateRanged n out).det = s.det
      ∧ (out = true → (s.gateRanged n out).on (C.FAULT pTIM (2 * n + 1)) = true
          ∧ (s.gateRanged n out).on (if n = 0 then TIM.INT_TIM0_RANGE else TIM.INT_TIM1_RANGE) = true)
      ∧ KeepsRegs ((TIM.OUT_RANGE n).key :: (if n = 0 then TIM.INT_TIM0_RANGE else TIM.INT_TIM1_RANGE).key :: faultKeys pTIM) s
          (s.gateRanged n out) := by
  have hout : ∀ n < 2, (TIM.OUT_RANGE n).key ∉ (if n = 0 then TIM.INT_TIM0_RANGE else TIM.INT_TIM1_RANGE).key :: faultKeys pTIM := by
    decide
  have hput : KeepsRegs ((TIM.OUT_RANGE n).key :: (if n = 0 then TIM.INT_TIM0_RANGE else TIM.INT_TIM1_RANGE).key :: faultKeys pTIM) s
      (s.put (TIM.OUT_RANGE n) out) := (KeepsRegs.refl _ s).put _ _ List.mem_cons_self
  cases out with
  | false => exact ⟨State.on_put_self _ _ _ Nat.one_pos, rfl, fun e => absurd e (by decide), hput⟩
  | true =>
    obtain ⟨hint, hfault, hdet, hkeep⟩ := timRange_shows (s.put (TIM.OUT_RANGE n) true) hn
    refine ⟨?_, hdet.trans rfl, fun _ => ⟨hfault, hint⟩, hput.trans (hkeep.mono fun _ hk => List.mem_cons_of_mem _ hk)⟩
    exact (congrArg (· != 0) (hkeep _ (hout n hn))).trans (State.on_put_self _ _ _ Nat.one_pos)

theorem gateShown_shows (s : State) {n : Nat} (hn : n < 2) (count elapsed freq : Nat) :
    (s.gateShown n count elapsed freq).rd (TIM.COUNT n) = count % 2 ^ 32
      ∧ (s.gateShown n count elapsed freq).rd (TIM.ELAPSED n) = elapsed % 2 ^ 32
      ∧ (s.gateShown n count elapsed freq).rd (TIM.FREQ n) = freq % 2 ^ 32
      ∧ (s.gateShown n count elapsed freq).on (TIM.VALID n) = true
      ∧ (s.gateShown n count elapsed freq).on (if n = 0 then TIM.INT_TIM0_RESULT else TIM.INT_TIM1_RESULT) = true
      ∧ (s.gateShown n count elapsed freq).det = s.det := by
  obtain rfl | rfl : n = 0 ∨ n = 1 := by omega
  all_goals
    refine ⟨?_, ?_, ?_, ?_, State.on_put_self _ _ _ (by decide), rfl⟩
    · exact (State.rd_put_ne _ _ _ _ (by decide)).trans ((State.rd_put_ne _ _ _ _ (by decide)).trans
        ((State.rd_wr_ne _ _ _ _ (by decide)).trans ((State.rd_wr_ne _ _ _ _ (by decide)).trans (State.rd_wr_self _ _ _))))
    · exact (State.rd_put_ne _ _ _ _ (by decide)).trans ((State.rd_put_ne _ _ _ _ (by decide)).trans
        ((State.rd_wr_ne _ _ _ _ (by decide)).trans (State.rd_wr_self _ _ _)))
    · exact (State.rd_put_ne _ _ _ _ (by decide)).trans ((State.rd_put_ne _ _ _ _ (by decide)).trans (State.rd_wr_self _ _ _))
    · exact (State.on_put_ne _ _ _ _ (by decide)).trans (State.on_put_self _ _ _ (by decide))

/-- What a gate that has seen two edges or more leaves. -/
theorem gateDone_shows (s : State) {n : Nat} (hn : n < 2) (count elapsed freq : Nat) (out : Bool) :
    let t := (s.gateShown n count elapsed freq).gateRanged n out
    t.rd (TIM.COUNT n) = count % 2 ^ 32 ∧ t.rd (TIM.ELAPSED n) = elapsed % 2 ^ 32 ∧ t.rd (TIM.FREQ n) = freq % 2 ^ 32
      ∧ t.on (TIM.VALID n) = true ∧ t.on (if n = 0 then TIM.INT_TIM0_RESULT else TIM.INT_TIM1_RESULT) = true
      ∧ t.on (TIM.OUT_RANGE n) = out
      ∧ (out = true → t.on (C.FAULT pTIM (2 * n + 1)) = true ∧ t.on (if n = 0 then TIM.INT_TIM0_RANGE else TIM.INT_TIM1_RANGE) = true)
      ∧ t.timIn n = s.timIn n := by
  have hapart : ∀ n < 2, ∀ f ∈ [TIM.COUNT n, TIM.ELAPSED n, TIM.FREQ n, TIM.VALID n,
      if n = 0 then TIM.INT_TIM0_RESULT else TIM.INT_TIM1_RESULT],
      f.key ∉ (TIM.OUT_RANGE n).key :: (if n = 0 then TIM.INT_TIM0_RANGE else TIM.INT_TIM1_RANGE).key :: faultKeys pTIM := by decide
  intro t
  obtain ⟨hcount, helapsed, hfreq, hvalid, hint, hdet⟩ := gateShown_shows s hn count elapsed freq
  obtain ⟨hout, hdet', hrange, hkeep⟩ := gateRanged_shows (s.gateShown n count elapsed freq) hn out
  refine ⟨(hkeep _ (hapart n hn _ (by simp))).trans hcount, (hkeep _ (hapart n hn _ (by simp))).trans helapsed, (hkeep _ (hapart n hn _ (by simp))).trans hfreq,
    (congrArg (· != 0) (hkeep _ (hapart n hn _ (by simp)))).trans hvalid, (congrArg (· != 0) (hkeep _ (hapart n hn _ (by simp)))).trans hint, hout, hrange,
    timIn_of_det (hdet'.trans hdet) n⟩

/-- Settles O37. -/
theorem banksAndTim : Obligations.BanksAndTim := by
  intro b n code sh first s x k stamps near
  have hn := n.isLt
  have hmode_of (howns : s.emtOwns n = false) : s.timMode n = s.rd (TIM.MODE n) := if_neg (by rw [howns]; decide)
  refine ⟨fun hk hrun hl => ⟨_, rfl, lockLoop_shows (by omega) hrun hl⟩, fun hk hrun => ⟨_, rfl, ?_⟩,
    fun hk hl => ⟨_, rfl, unlockLoop_shows (by omega) hl⟩, fun hk hl => ⟨_, rfl, ?_⟩, fun c hfull => ?_,
    fun ⟨hrun, hmode, hsh⟩ hfar => ⟨_, rfl, timEdge_stamps hn hrun hmode hsh (dead_false hfar)⟩, fun l hl hnear => ?_,
    fun hrun howns hmode hfar => ?_, fun hrun howns hmode hfirst hcount => ?_, fun hrun howns hmode hempty => ?_,
    fun hrun howns hmode htimeout => ?_⟩
  · rw [State.lockLoop, if_pos hk, if_pos hrun, degrade_on _ (by decide)]
    exact State.on_put_self _ _ _ (by decide)
  · rw [State.unlockLoop, if_pos hk, if_pos hl, degrade_on _ (by decide), degrade_on _ (by decide), fault_on_other _ (by decide)]
    exact ⟨State.on_put_self _ _ _ (by decide), fault_on_self _ (by decide) (by decide)⟩
  · intro dead wide
    obtain ⟨hdead, hwide, hbad, hgood⟩ := tapCheck_shows c.isLt hfull
    have hd : s.tapDead c = true ↔ dead := tapDead_iff s c
    have hw : s.tapWide c = true ↔ wide := tapWide_iff s c
    refine ⟨_, rfl, by rw [hdead]; exact hd, by rw [hwide]; exact hw, fun h => hbad ?_, fun h1 h2 => hgood ?_⟩
    · rw [Bool.or_eq_true, hd, hw]
      exact h
    · rw [Bool.or_eq_false_iff, ← Bool.not_eq_true, ← Bool.not_eq_true, hd, hw]
      exact ⟨h1, h2⟩
  · have hdead : (s.timIn n).dead code.toNat = true := by
      rw [TimInput.dead, hl]
      exact decide_eq_true hnear
    refine congrArg Host.Outcome.next ?_
    rw [timEdge_eq, if_pos (by rw [hdead]; simp)]
  · have hform : s.timEdge n code.toNat = (s.edgeNoted n code.toNat).setTimIn n { (s.edgeNoted n code.toNat).timIn n with
        gateFirst := some (((s.edgeNoted n code.toNat).timIn n).gateFirst.getD code.toNat), gateLast := code.toNat
        gateCount := ((s.edgeNoted n code.toNat).timIn n).gateCount + 1 } := by
      rw [timEdge_eq, if_neg (by rw [hrun, howns, dead_false hfar, hmode_of howns, hmode]; simp),
        if_pos (by rw [hmode_of howns, hmode])]
    obtain ⟨hin, hno, hkeep⟩ := edgeNoted_shows s n code.toNat
    rw [hin] at hform
    refine ⟨_, congrArg Host.Outcome.next hform, hno, hkeep.of_cur rfl, State.timIn_set _ _ _⟩
  · intro elapsed freq
    have hform := gateClose_open hrun howns hmode hfirst hcount
    obtain ⟨hc, he, hf, hv, hint, hout, hrange, hin⟩ := gateDone_shows (s.gateOpened n) hn ((s.timIn n).gateCount - 1) elapsed freq
      (freq < s.rd (TIM.FMIN n) || s.rd (TIM.FMAX n) < freq)
    have hiff : (decide (freq < s.rd (TIM.FMIN n)) || decide (s.rd (TIM.FMAX n) < freq)) = true ↔
        freq < s.rd (TIM.FMIN n) ∨ s.rd (TIM.FMAX n) < freq := by simp
    refine ⟨_, congrArg Host.Outcome.next hform, hc, he.trans (Nat.mod_eq_of_lt (Nat.mod_lt _ (by decide))), hf, hv, hint, ?_,
      fun h => hrange (hiff.mpr h), hin.trans (State.timIn_set s n _)⟩
    rw [← hiff]
    exact Bool.eq_iff_iff.mp hout
  · refine ⟨_, congrArg Host.Outcome.next (gateClose_empty hrun howns hmode hempty), State.on_put_self _ _ _ Nat.one_pos, ?_⟩
    exact ((KeepsRegs.refl _ s).of_cur rfl).put _ _ List.mem_cons_self
  · have hform : exec (.timTimeout n) s = .next ((s.put (TIM.NO_SIGNAL n) true).timTimeout n) := by
      refine congrArg Host.Outcome.next (if_neg ?_)
      rw [hrun, howns, Bool.not_true, Bool.false_or, Bool.false_or, Bool.or_eq_true, decide_eq_true_eq, decide_eq_true_eq]
      exact not_or.mpr ⟨hmode, htimeout⟩
    obtain ⟨hint, hfault, hno⟩ := timTimeout_shows (s.put (TIM.NO_SIGNAL n) true) hn
    exact ⟨_, hform, hno.trans (State.on_put_self _ _ _ Nat.one_pos), hint, hfault⟩

end Sys2Proof.Machine
end

section
/-! PROOFS. The bin images of EMT and LMP (R81, R82, R434, R435). -/
namespace Sys2Proof.Machine
open Sys2Proof

theorem take_eq_map_getD (l : List Nat) (n : Nat) (h : n ≤ l.length) : l.take n = (List.range n).map fun i => l.getD i 0 := by
  refine List.ext_getElem (by simp [h]) fun i h1 h2 => ?_
  rw [List.length_map, List.length_range] at h2
  rw [List.getElem_take, List.getElem_map, List.getElem_range, List.getD_eq_getElem _ _ (by omega)]

/-! ### What an image that passes holds -/

theorem exact_none {img : List Nat} {o v : Nat} (h : (if img.getD o 0 = v then none else some o) = (none : Option Nat)) : img.getD o 0 = v := by
  by_contra hne
  rw [if_neg hne] at h
  cases h

theorem binsFail_none {img : List Nat} (hlen : img.length = 212) (h : binsFail img = none) :
    img.take 7 = [0x48, 0x4A, 0x45, 0x42, 1, 8, 16]
      ∧ (img.drop 0xD0).take 4 = (shake256 ((img.take 0xD0).map (BitVec.ofNat 8)) 4).map BitVec.toNat := by
  unfold binsFail at h
  extract_lets exact range checks sum at h
  cases hc : checks.findSome? id with
  | some o =>
    rw [hc] at h
    cases h
  | none =>
    rw [hc] at h
    refine ⟨?_, ?_⟩
    · have hall : ∀ x ∈ checks, x = none := List.findSome?_eq_none_iff.mp hc
      have hmem (x : Option Nat) (hx : x ∈ [exact 0 0x48, exact 1 0x4A, exact 2 0x45, exact 3 0x42, exact 4 1, exact 5 8, exact 6 16]) :
          x = none :=
        hall x (List.mem_append_left _ (List.mem_append_left _ (List.mem_append_left [range 8 1 65535, range 0xA 0 1023] hx)))
      have hbytes := And.intro (exact_none (hmem (exact 0 0x48) (by simp))) (And.intro (exact_none (hmem (exact 1 0x4A) (by simp)))
        (And.intro (exact_none (hmem (exact 2 0x45) (by simp))) (And.intro (exact_none (hmem (exact 3 0x42) (by simp)))
        (And.intro (exact_none (hmem (exact 4 1) (by simp))) (And.intro (exact_none (hmem (exact 5 8) (by simp)))
        (exact_none (hmem (exact 6 16) (by simp))))))))
      obtain ⟨h0, h1, h2, h3, h4, h5, h6⟩ := hbytes
      rw [take_eq_map_getD img 7 (by omega)]
      simp only [List.range_succ, List.range_zero, List.nil_append, List.cons_append, List.map_cons, List.map_nil, h0, h1, h2, h3, h4, h5, h6]
    · dsimp only at h
      by_contra hne
      rw [if_neg hne] at h
      cases h

theorem lampBinsFail_none {img : List Nat} (hlen : img.length = 100) (h : lampBinsFail img = none) :
    img.take 7 = [0x48, 0x4A, 0x4C, 0x42, 1, 4, 16]
      ∧ (img.drop 0x60).take 4 = (shake256 ((img.take 0x60).map (BitVec.ofNat 8)) 4).map BitVec.toNat := by
  unfold lampBinsFail at h
  extract_lets exact checks sum at h
  cases hc : checks.findSome? id with
  | some o =>
    rw [hc] at h
    cases h
  | none =>
    rw [hc] at h
    refine ⟨?_, ?_⟩
    · have hall : ∀ x ∈ checks, x = none := List.findSome?_eq_none_iff.mp hc
      have hmem (x : Option Nat) (hx : x ∈ [exact 0 0x48, exact 1 0x4A, exact 2 0x4C, exact 3 0x42, exact 4 1, exact 5 4, exact 6 16]) :
          x = none := hall x (List.mem_append_left _ (List.mem_append_left _ hx))
      have hbytes := And.intro (exact_none (hmem (exact 0 0x48) (by simp))) (And.intro (exact_none (hmem (exact 1 0x4A) (by simp)))
        (And.intro (exact_none (hmem (exact 2 0x4C) (by simp))) (And.intro (exact_none (hmem (exact 3 0x42) (by simp)))
        (And.intro (exact_none (hmem (exact 4 1) (by simp))) (And.intro (exact_none (hmem (exact 5 4) (by simp)))
        (exact_none (hmem (exact 6 16) (by simp))))))))
      obtain ⟨h0, h1, h2, h3, h4, h5, h6⟩ := hbytes
      rw [take_eq_map_getD img 7 (by omega)]
      simp only [List.range_succ, List.range_zero, List.nil_append, List.cons_append, List.map_cons, List.map_nil, h0, h1, h2, h3, h4, h5, h6]
    · dsimp only at h
      by_contra hne
      rw [if_neg hne] at h
      cases h

/-! ### LOAD's word -/

/-- The row of BIN_ADDR, which shares LOAD's word in EMT. -/
def emtBinAddrRow : Row := ⟨1408, 1, 0, 7, .rw, fun _ => 80, fun _ => true⟩

theorem rowsOf_emtLoad : (rowsOf pEMT).filter (Row.live 0xB0) = [emtBinAddrRow] := rfl

/-- The other fields of LOAD's word in EMT, which are written first. -/
def State.emtLoadFields (s : State) (v : Nat) : State := s.wr EMT.BIN_ADDR (bits v 0 7)

theorem emtLoadFields_eq (s : State) (v : Nat) : s.writeFields pEMT 0xB0 v = s.emtLoadFields v := by
  rw [writeFields_live, rowsOf_emtLoad]
  rfl

/-- The rows of KNEE and BIN_ADDR, which share LOAD's word in LMP. -/
def kneeRow : Row := ⟨872, 1, 0, 8, .rws, fun _ => 70, fun v => 40 ≤ v && v ≤ 110⟩

def binAddrRow : Row := ⟨864, 1, 0, 7, .rw, fun _ => 81, fun _ => true⟩

theorem rowsOf_lmpLoad : (rowsOf pLMP).filter (Row.live 0x6C) = [kneeRow, binAddrRow] := rfl

/-- The other fields of LOAD's word in LMP, which are written first. -/
def State.lmpLoadFields (s : State) (v : Nat) : State := s.writeFields pLMP 0x6C v

theorem lmpLoadFields_keeps (s : State) (v : Nat) : (s.lmpLoadFields v).lmp = s.lmp
    ∧ ∀ b, (s.lmpLoadFields v).rdS (LMP.BIN_IMAGE b) = s.rdS (LMP.BIN_IMAGE b) := by
  have hform : s.lmpLoadFields v =
      (if decide (40 ≤ bits v 8 8) && decide (bits v 8 8 ≤ 110) then s.wrS LMP.KNEE (bits v 8 8) else s.err (C.ERR_VALUE pLMP)).wr
        LMP.BIN_ADDR (bits v 0 7) := by
    unfold State.lmpLoadFields
    rw [writeFields_live, rowsOf_lmpLoad]
    rfl
  have hne (b : Nat) : (LMP.BIN_IMAGE b).key ≠ LMP.KNEE.key := by
    simp only [LMP.BIN_IMAGE, LMP.KNEE, fld_key]
    omega
  rw [hform]
  split
  · exact ⟨rfl, fun b => State.rdS_wrS_ne _ _ _ _ (hne b)⟩
  · exact ⟨rfl, fun b => rfl⟩

theorem exec_emtLoad {s : State} {value : Word} (path : Path) (hrun : s.runs pEMT = true) (hload : value.getLsbD 31 = true) :
    exec (.emtLoad path value) s = .next (s.emtLoadFields value.toNat).emtLoad.written := by
  have hword : s.writeWord path pEMT 0xB0 value.toNat = s.loadWord pEMT 0xB0 value.toNat := by simp [State.writeWord, defined, hrun]; rfl
  show Host.Outcome.next (s.wordCommand path pEMT 0xB0 value) = _
  rw [wordCommand_written value (by decide) (by decide) (by decide) (fun h => absurd h.2 (by decide)), hword, State.loadWord, bit_toNat, hload,
    emtLoadFields_eq]
  rfl

theorem exec_lmpLoad {s : State} {value : Word} (path : Path) (hrun : s.runs pLMP = true) (hload : value.getLsbD 31 = true) :
    exec (.lmpLoad path value) s = .next (s.lmpLoadFields value.toNat).lmpLoad.written := by
  have hword : s.writeWord path pLMP 0x6C value.toNat = s.loadWord pLMP 0x6C value.toNat := by simp [State.writeWord, defined, hrun]; rfl
  show Host.Outcome.next (s.wordCommand path pLMP 0x6C value) = _
  rw [wordCommand_written value (by decide) (by decide) (by decide) (fun h => absurd h.2 (by decide)), hword, State.loadWord, bit_toNat, hload]
  rfl

theorem written_shows (s : State) : s.written.regs = s.regs ∧ s.written.emt = s.emt ∧ s.written.lmp = s.lmp ∧ s.written.scn = s.scn := by
  unfold State.written State.eventsQuiet
  split <;> exact ⟨rfl, rfl, rfl, rfl⟩

/-! ### What LOAD shows -/

theorem emtLoad_passes {s : State} {img : List Nat} (himg : ((List.range 212).map fun b => s.rdS (EMT.BIN_IMAGE b)) = img)
    (h : binsFail img = none) : s.emtLoad.emt = { s.emt with stagedImage := some img }
      ∧ s.emtLoad.on EMT.BINS_VALID = true ∧ s.emtLoad.on EMT.ST_BINS_VALID = true ∧ s.emtLoad.on EMT.BINS_BAD = false
      ∧ s.emtLoad.on EMT.INT_BINS_LOADED = true := by
  unfold State.emtLoad
  rw [himg]
  dsimp only
  rw [h]
  refine ⟨rfl, ?_, ?_, ?_, State.on_put_self _ _ _ (by decide)⟩
  · exact (State.on_put_ne _ _ _ _ (by decide)).trans ((State.on_put_ne _ _ _ _ (by decide)).trans
      ((State.on_put_ne _ _ _ _ (by decide)).trans (State.on_put_self _ _ _ (by decide))))
  · exact (State.on_put_ne _ _ _ _ (by decide)).trans ((State.on_put_ne _ _ _ _ (by decide)).trans (State.on_put_self _ _ _ (by decide)))
  · exact (State.on_put_ne _ _ _ _ (by decide)).trans (State.on_put_self _ _ _ (by decide))

theorem emtLoad_fails {s : State} {img : List Nat} {o : Nat} (himg : ((List.range 212).map fun b => s.rdS (EMT.BIN_IMAGE b)) = img)
    (h : binsFail img = some o) : s.emtLoad.emt = s.emt ∧ s.emtLoad.on EMT.BINS_BAD = true ∧ s.emtLoad.rd EMT.BAD_OFFSET = o % 2 ^ 8
      ∧ s.emtLoad.on EMT.INT_BINS_BAD = true ∧ s.emtLoad.on (C.FAULT pEMT 3) = true := by
  have hform : s.emtLoad = (((s.put EMT.BINS_BAD true).wr EMT.BAD_OFFSET o).raise EMT.INT_BINS_BAD).fault pEMT 3 := by
    unfold State.emtLoad
    rw [himg]
    dsimp only
    rw [h]
  rw [hform]
  refine ⟨(congrArg State.emt ((SafFrame.refl _).fault pEMT 3).rest).trans rfl, ?_, ?_, ?_, fault_on_self _ (by decide) (by decide)⟩
  · exact (fault_on_other _ (by decide)).trans ((State.on_put_ne _ _ _ _ (by decide)).trans
      ((congrArg (· != 0) (State.rd_wr_ne _ _ _ _ (by decide))).trans (State.on_put_self _ _ _ (by decide))))
  · exact (fault_keepsRegs _ _ _ _ (by decide)).trans ((State.rd_put_ne _ _ _ _ (by decide)).trans (State.rd_wr_self _ _ _))
  · exact (fault_on_other _ (by decide)).trans (State.on_put_self _ _ _ (by decide))

theorem lmpLoad_passes {s : State} {img : List Nat} (himg : ((List.range 100).map fun b => s.rdS (LMP.BIN_IMAGE b)) = img)
    (h : lampBinsFail img = none) : s.lmpLoad.lmp = { s.lmp with stagedImage := some img }
      ∧ s.lmpLoad.on LMP.BINS_VALID = true ∧ s.lmpLoad.on LMP.ST_BINS_VALID = true ∧ s.lmpLoad.on LMP.BINS_BAD = false
      ∧ s.lmpLoad.on LMP.INT_BINS_LOADED = true := by
  unfold State.lmpLoad
  rw [himg]
  dsimp only
  rw [h]
  refine ⟨rfl, ?_, ?_, ?_, State.on_put_self _ _ _ (by decide)⟩
  · exact (State.on_put_ne _ _ _ _ (by decide)).trans ((State.on_put_ne _ _ _ _ (by decide)).trans
      ((State.on_put_ne _ _ _ _ (by decide)).trans (State.on_put_self _ _ _ (by decide))))
  · exact (State.on_put_ne _ _ _ _ (by decide)).trans ((State.on_put_ne _ _ _ _ (by decide)).trans (State.on_put_self _ _ _ (by decide)))
  · exact (State.on_put_ne _ _ _ _ (by decide)).trans (State.on_put_self _ _ _ (by decide))

theorem lmpLoad_fails {s : State} {img : List Nat} {o : Nat} (himg : ((List.range 100).map fun b => s.rdS (LMP.BIN_IMAGE b)) = img)
    (h : lampBinsFail img = some o) : s.lmpLoad.lmp = s.lmp ∧ s.lmpLoad.on LMP.BINS_BAD = true ∧ s.lmpLoad.rd LMP.BAD_OFFSET = o % 2 ^ 8
      ∧ s.lmpLoad.on LMP.INT_BINS_BAD = true := by
  have hform : s.lmpLoad = ((s.put LMP.BINS_BAD true).wr LMP.BAD_OFFSET o).raise LMP.INT_BINS_BAD := by
    unfold State.lmpLoad
    rw [himg]
    dsimp only
    rw [h]
  rw [hform]
  refine ⟨rfl, ?_, ?_, State.on_put_self _ _ _ (by decide)⟩
  · exact (State.on_put_ne _ _ _ _ (by decide)).trans
      ((congrArg (· != 0) (State.rd_wr_ne _ _ _ _ (by decide))).trans (State.on_put_self _ _ _ (by decide)))
  · exact (State.rd_put_ne _ _ _ _ (by decide)).trans (State.rd_wr_self _ _ _)

/-- Settles O38. -/
theorem binImagesLoad : Obligations.BinImagesLoad := by
  intro path value s hload emt lmp sum
  have hemt : ((List.range 212).map fun b => s.rdS (EMT.BIN_IMAGE b)) = emt := rfl
  have hlmp : ((List.range 100).map fun b => s.rdS (LMP.BIN_IMAGE b)) = lmp := rfl
  have hemtLen : emt.length = 212 := (List.length_map _).trans List.length_range
  have hlmpLen : lmp.length = 100 := (List.length_map _).trans List.length_range
  have hsum (l : List Nat) : sum l = (shake256 (l.map (BitVec.ofNat 8)) 4).map BitVec.toNat := rfl
  clear_value emt lmp sum
  obtain ⟨hkept, himage⟩ := lmpLoadFields_keeps s value.toNat
  have hfields : ((List.range 100).map fun b => (s.lmpLoadFields value.toNat).rdS (LMP.BIN_IMAGE b))
      = (List.range 100).map fun b => s.rdS (LMP.BIN_IMAGE b) := List.map_congr_left fun b _ => himage b
  refine ⟨fun h => ?_, fun h => ?_, fun hrun => ⟨fun h => ?_, fun o h => ?_⟩, fun hrun => ⟨fun h => ?_, fun o h => ?_⟩⟩
  · rw [hsum]
    exact binsFail_none hemtLen h
  · rw [hsum]
    exact lampBinsFail_none hlmpLen h
  · obtain ⟨h1, h2, h3, h4, h5⟩ := emtLoad_passes (s := s.emtLoadFields value.toNat) hemt h
    refine ⟨_, exec_emtLoad path hrun hload, ?_⟩
    generalize (s.emtLoadFields value.toNat).emtLoad = u at *
    rw [(written_shows u).2.1, written_on, written_on, written_on, written_on]
    exact ⟨h1, h2, h3, h4, h5⟩
  · obtain ⟨h1, h2, h3, h4, h5⟩ := emtLoad_fails (s := s.emtLoadFields value.toNat) hemt h
    refine ⟨_, exec_emtLoad path hrun hload, ?_⟩
    generalize (s.emtLoadFields value.toNat).emtLoad = u at *
    rw [(written_shows u).2.1, written_on, written_on, written_on, State.rd, (written_shows u).1]
    exact ⟨h1, h2, h3, h4, h5⟩
  · obtain ⟨h1, h2, h3, h4, h5⟩ := lmpLoad_passes (hfields.trans hlmp) h
    rw [hkept] at h1
    refine ⟨_, exec_lmpLoad path hrun hload, ?_⟩
    generalize (s.lmpLoadFields value.toNat).lmpLoad = u at *
    rw [(written_shows u).2.2.1, written_on, written_on, written_on, written_on]
    exact ⟨h1, h2, h3, h4, h5⟩
  · obtain ⟨h1, h2, h3, h4⟩ := lmpLoad_fails (hfields.trans hlmp) h
    rw [hkept] at h1
    refine ⟨_, exec_lmpLoad path hrun hload, ?_⟩
    generalize (s.lmpLoadFields value.toNat).lmpLoad = u at *
    rw [(written_shows u).2.2.1, written_on, written_on, State.rd, (written_shows u).1]
    exact ⟨h1, h2, h3, h4⟩

end Sys2Proof.Machine
end

section
/-! PROOFS. The burst codes (R78 to R80). -/
namespace Sys2Proof.Machine
open Sys2Proof

theorem dist_comm (a b : Nat) : dist a b = dist b a := by
  unfold dist
  split <;> split <;> omega

/-- The distances of a code do not depend on the order of its positions. -/
theorem distances_perm {l m : List Nat} (h : l.Perm m) : (distances l).Perm (distances m) := by
  induction h with
  | nil => exact .refl _
  | cons a hp ih => exact (hp.map _).append ih
  | swap a b l =>
    refine List.Perm.trans (l₂ := dist a b :: (l.map (dist a) ++ (l.map (dist b) ++ distances l))) ?_ ?_
    · show (dist b a :: (l.map (dist b) ++ (l.map (dist a) ++ distances l))).Perm _
      rw [dist_comm b a, ← List.append_assoc, ← List.append_assoc]
      exact (List.perm_append_comm.append_right _).cons _
    · exact .refl _
  | trans _ _ ih1 ih2 => exact ih1.trans ih2

/-! ### Sorting -/

theorem insertAsc_eq (v : Nat) (l : List Nat) : insertAsc v l = l.orderedInsert (· ≤ ·) v := by
  induction l with
  | nil => rfl
  | cons h t ih => rw [insertAsc, List.orderedInsert_cons, ih]

theorem sortAsc_eq (l : List Nat) : sortAsc l = l.insertionSort (· ≤ ·) := by
  induction l with
  | nil => rfl
  | cons h t ih =>
    rw [List.insertionSort_cons, ← ih, ← insertAsc_eq]
    rfl

theorem sortAsc_perm (l : List Nat) : (sortAsc l).Perm l := sortAsc_eq l ▸ List.perm_insertionSort _ l

theorem sortAsc_sorted (l : List Nat) : (sortAsc l).Pairwise (· ≤ ·) := sortAsc_eq l ▸ List.pairwise_insertionSort _ l

/-! ### The property of a code -/

/-- What the draws keep of the positions in hand (R78): at most N, 0 among them, none beyond SPAN, no two nearer than GAP_MIN, and
no two pairs the same distance apart. -/
structure CodeDrawn (n span gap : Nat) (pos : List Nat) : Prop where
  length_le : pos.length ≤ n
  zero_mem : 0 ∈ pos
  le_span : ∀ x ∈ pos, x ≤ span
  apart : pos.Pairwise (fun a b => gap ≤ dist a b)
  distinct : (distances pos).Nodup

theorem CodeDrawn.perm {n span gap : Nat} {l m : List Nat} (h : CodeDrawn n span gap l) (hp : l.Perm m) : CodeDrawn n span gap m where
  length_le := hp.length_eq ▸ h.length_le
  zero_mem := hp.mem_iff.mp h.zero_mem
  le_span x hx := h.le_span x (hp.mem_iff.mpr hx)
  apart := (hp.pairwise_iff fun {a b} hab => dist_comm a b ▸ hab).mp h.apart
  distinct := (distances_perm hp).nodup_iff.mp h.distinct

theorem CodeDrawn.drawStep {n span gap : Nat} {pos : List Nat} (h : CodeDrawn n span gap pos) (hlen : pos.length < n) (v : Nat) :
    CodeDrawn n span gap (drawStep span gap pos v) := by
  unfold Sys2Proof.Machine.drawStep
  extract_lets new
  split
  · exact h
  next hrange =>
  split
  · exact h
  next hnear =>
  split
  · exact h
  next hnew =>
  split
  · exact h
  next hold =>
  simp only [Bool.or_eq_true, decide_eq_true_eq, not_or, Nat.not_lt] at hrange
  simp only [List.any_eq_true, decide_eq_true_eq, not_exists, not_and, Nat.not_lt] at hnear
  simp only [Bool.not_eq_true', decide_eq_false_iff_not, not_not] at hnew
  simp only [List.any_eq_true, List.contains_iff_mem, not_exists, not_and] at hold
  have hcons : CodeDrawn n span gap (v :: pos) :=
    { length_le := hlen
      zero_mem := List.mem_cons_of_mem _ h.zero_mem
      le_span := List.forall_mem_cons.mpr ⟨hrange.2, h.le_span⟩
      apart := List.pairwise_cons.mpr ⟨hnear, h.apart⟩
      distinct := List.nodup_append'.mpr ⟨hnew, h.distinct, hold⟩ }
  exact hcons.perm (List.perm_append_singleton v pos).symm

theorem CodeDrawn.drawAll {n span gap : Nat} (k : Nat) : ∀ (lanes : List Nat) (bs : List Byte) (pos : List Nat), CodeDrawn n span gap pos →
    CodeDrawn n span gap (drawAll span gap n k lanes bs pos) := by
  induction k with
  | zero => exact fun _ _ _ h => h
  | succ k ih =>
    intro lanes bs pos h
    unfold Sys2Proof.Machine.drawAll
    split
    · exact h
    · next hlen => exact ih _ _ _ (h.drawStep (Nat.not_le.mp hlen) _)

/-- A full code of R78, in ascending order. -/
theorem CodeDrawn.sorted {n span gap : Nat} {pos : List Nat} (h : CodeDrawn n span gap pos) (hlen : n ≤ pos.length) :
    (sortAsc pos).length = n ∧ (sortAsc pos).head? = some 0 ∧ (sortAsc pos).Pairwise (fun a b => a + gap ≤ b)
      ∧ (distances (sortAsc pos)).Nodup ∧ ∀ x ∈ sortAsc pos, x ≤ span := by
  have hs := h.perm (sortAsc_perm pos).symm
  have hasc := sortAsc_sorted pos
  have hlen' := (sortAsc_perm pos).length_eq
  have hpos := h.length_le
  generalize sortAsc pos = l at *
  refine ⟨by omega, ?_, (hasc.and hs.apart).imp ?_, hs.distinct, hs.le_span⟩
  · cases l with
    | nil => exact absurd hs.zero_mem (by simp)
    | cons a t =>
      have hle : a ≤ 0 := by
        rcases List.mem_cons.mp hs.zero_mem with ha | ha
        · exact Nat.le_of_eq ha.symm
        · exact (List.pairwise_cons.mp hasc).1 0 ha
      rw [List.head?_cons, Nat.le_zero.mp hle]
  · intro a b ⟨hab, hgap⟩
    rw [dist, if_pos hab] at hgap
    omega

/-! ### The fallback codes (R79) -/

theorem dist_scaled (gap a b : Nat) : dist (gap * a) (gap * b) = gap * dist a b := by
  unfold dist
  by_cases hab : a ≤ b
  · rw [if_pos hab, if_pos (Nat.mul_le_mul_left gap hab), Nat.mul_sub]
  · by_cases hg : gap * a ≤ gap * b
    · have : gap * a = gap * b := Nat.le_antisymm hg (Nat.mul_le_mul_left gap (Nat.le_of_not_le hab))
      rw [if_neg hab, if_pos hg, Nat.mul_sub, this]
    · rw [if_neg hab, if_neg hg, Nat.mul_sub]

theorem distances_scaled (gap : Nat) (l : List Nat) : distances (l.map (gap * ·)) = (distances l).map (gap * ·) := by
  induction l with
  | nil => rfl
  | cons a l ih =>
    rw [List.map_cons, distances, distances, List.map_append, ih, List.map_map, List.map_map]
    exact congrArg (· ++ _) (List.map_congr_left fun b _ => dist_scaled gap a b)

/-- Each ruler of R79. -/
theorem ruler_golomb : ∀ n < 9, 1 ≤ n → (ruler n).length = n ∧ (ruler n).head? = some 0 ∧ (ruler n).Pairwise (· < ·)
    ∧ (distances (ruler n)).Nodup ∧ ∀ x ∈ ruler n, x ≤ rulerLength n := by decide

theorem fallbackCode_golomb {n gap : Nat} (h1 : 1 ≤ n) (h8 : n ≤ 8) (hgap : 1 ≤ gap) :
    (fallbackCode n gap).length = n ∧ (fallbackCode n gap).head? = some 0 ∧ (fallbackCode n gap).Pairwise (fun a b => a + gap ≤ b)
      ∧ (distances (fallbackCode n gap)).Nodup ∧ ∀ x ∈ fallbackCode n gap, x ≤ gap * rulerLength n := by
  obtain ⟨hlen, hhead, hasc, hdist, hmax⟩ := ruler_golomb n (by omega) h1
  unfold fallbackCode
  refine ⟨(List.length_map _).trans hlen, by rw [List.head?_map, hhead]; rfl, List.pairwise_map.mpr (hasc.imp fun {a b} hab => ?_), ?_, ?_⟩
  · calc gap * a + gap = gap * (a + 1) := (Nat.mul_succ gap a).symm
      _ ≤ gap * b := Nat.mul_le_mul_left gap hab
  · rw [distances_scaled]
    exact hdist.map fun a b hab => Nat.eq_of_mul_eq_mul_left hgap hab
  · intro x hx
    obtain ⟨y, hy, rfl⟩ := List.mem_map.mp hx
    exact Nat.mul_le_mul_left gap (hmax y hy)

/-- Settles O27. -/
theorem burstCodes : Obligations.BurstCodes := by
  refine ⟨fun a s hrun hwant => congrArg Host.Outcome.next ?_, ?_⟩
  · rw [hwant]
    exact if_pos hrun
  · intro device epoch salt n span gap h1 h8 hgap c
    have hdrawn (lanes : List Nat) (bs : List Byte) : CodeDrawn n span gap (drawAll span gap n 4096 lanes bs [0]) :=
      CodeDrawn.drawAll 4096 lanes bs [0] ⟨h1, List.mem_singleton_self 0, by simp, List.pairwise_singleton _ _, List.nodup_nil⟩
    have hc : c = burstCode device epoch salt n span gap := rfl
    clear_value c
    unfold burstCode at hc
    extract_lets msg lanes pos at hc
    have hpos : CodeDrawn n span gap pos := hdrawn _ _
    clear_value pos
    split at hc
    · obtain ⟨hlen, hhead, hapart, hdist, hmax⟩ := fallbackCode_golomb h1 h8 hgap
      rw [hc]
      exact ⟨hlen, hhead, hapart, hdist, fun e => absurd e.symm Bool.false_ne_true, fun _ => hmax⟩
    · next hlen =>
      obtain ⟨hlen, hhead, hapart, hdist, hmax⟩ := hpos.sorted (Nat.not_lt.mp hlen)
      rw [hc]
      exact ⟨hlen, hhead, hapart, hdist, fun _ => hmax, fun e => absurd e Bool.false_ne_true⟩

end Sys2Proof.Machine
end

section
/-! PROOFS. The mirror sample (R311 to R315, R323 to R325). -/
namespace Sys2Proof.Machine
open Sys2Proof

theorem SafFrame.scn {s t : State} (h : SafFrame s t) : t.scn = s.scn := (congrArg State.scn h.rest).trans rfl

/-- A saturation as a maximum and a minimum. -/
theorem clampI_eq {x lo hi : Int} (h : lo ≤ hi) : clampI x lo hi = max lo (min hi x) := by
  unfold clampI
  omega

theorem sat16_eq (x : Int) : sat16 x = max (-32768) (min 32767 x) := clampI_eq (by decide)

/-! ### The parts of a sample -/

/-- The registers that the sample instant itself may change: the live fields and the interrupt of a bank swap. -/
def liveKeys : List Nat := SCN.INT_BANK_SWAPPED.key :: (fieldsOf pSCN .rwl).map (·.key)

theorem applyLive_keeps (s : State) (p : Nat) : KeepsRegs ((fieldsOf p .rwl).map (·.key)) s (s.applyLive p) := fun _ hf =>
  copyFlds_ne _ _ _ _ fun g hg e => hf (List.mem_map.mpr ⟨g, List.mem_of_mem_filter hg, e.symm⟩)

theorem scnLive_keeps (s : State) : KeepsRegs liveKeys s s.scnLive := by
  have hlive : KeepsRegs liveKeys s (s.applyLive pSCN) := (applyLive_keeps s pSCN).mono fun _ hk => List.mem_cons_of_mem _ hk
  unfold State.scnLive
  dsimp only
  split
  · exact hlive.put _ _ List.mem_cons_self
  · exact hlive

theorem scnLive_scn (s : State) : s.scnLive.scn = s.scn := by
  unfold State.scnLive
  dsimp only
  split <;> rfl

/-- A sample at which no live field waits for its value. -/
theorem scnLive_idle {s : State} (h : ∀ f ∈ fieldsOf pSCN .rwl, s.rdS f = s.rd f) : s.scnLive = s := by
  have hnone : ((fieldsOf pSCN .rwl).filter fun f => s.rdS f != s.rd f) = [] :=
    List.filter_eq_nil_iff.mpr fun f hf => by rw [h f hf, bne_self_eq_false]; exact Bool.false_ne_true
  have hswap : s.awaits SCN.BANK_SEL = false := by
    rw [State.awaits, h _ (by decide), bne_self_eq_false]
  unfold State.scnLive
  rw [hswap, State.applyLive, State.applyLiveOf, hnone]
  rfl

/-- The sample's input taken. -/
def State.scnTaken (s : State) (y : Option Int) (missed lost : Nat) : State := { s with
  scn.conv := [], scn.missed := missed, scn.lost := lost, scn.lastY := y.getD s.scn.lastY
  scn.lostFor := if lost != 0 then 64 else s.scn.lostFor - 1
  scn.tau := s.scn.tau.map (· + (s.rd SCN.LOOP_DIV : Nat)) }

/-- What the loop makes of the sample. -/
def State.scnActs (s : State) (y : Option Int) (lost : Nat) : State :=
  if s.closed then s.closedSample y lost else (if lost != 0 then s.scnStop lost phOpen else s).rampDrive

/-- The codes of the sample that it uses. -/
def State.usedCodes (s : State) : List (Int × Bool) := s.scnLive.scn.conv.reverse.take (2 ^ s.scnLive.rd SCN.FB_AVG)

/-- The value of the sample, the samples missed in a row, and the loss. -/
def State.sampleY (s : State) : Option Int := meanCode (s.usedCodes.map (·.1))

def State.sampleMissed (s : State) : Nat := if s.sampleY.isSome then 0 else min 2 (s.scnLive.scn.missed + 1)

def State.sampleRange (s : State) : Bool :=
  match s.sampleY with
  | some v => s.usedCodes.any (·.2) || decide (v < s.scnLive.rdI SCN.FB_MIN) || decide (s.scnLive.rdI SCN.FB_MAX < v)
  | none => false

def State.sampleLost (s : State) : Nat := b2n s.sampleRange + 2 * b2n (s.sampleMissed = 2)

theorem mirrorSample_eq (s : State) : s.mirrorSample =
    (((s.scnLive.scnTaken s.sampleY s.sampleMissed s.sampleLost).maybeClose s.sampleY s.sampleLost).scnActs s.sampleY s.sampleLost).scnShow := rfl

/-! ### The drive and the registers shown -/

theorem rampDrive_scn (s : State) : s.rampDrive.scn = { s.scn with
    drive := s.scn.drive + max (-(s.rd SCN.PARK_SLEW : Int)) (min (s.rd SCN.PARK_SLEW : Int) (s.rdI SCN.PARK_OUT - s.scn.drive)) } := by
  have hclamp := clampI_eq (x := s.rdI SCN.PARK_OUT - s.scn.drive) (lo := -(s.rd SCN.PARK_SLEW : Int)) (hi := (s.rd SCN.PARK_SLEW : Int)) (by omega)
  rw [← hclamp]
  rfl

theorem rampDrive_keeps (s : State) : KeepsRegs [SCN.ST_SAT.key, SCN.ST_SP_LIMITED.key] s s.rampDrive :=
  (((KeepsRegs.refl _ s).put _ _ (by decide)).put _ _ (by decide)).of_cur rfl

/-- The registers of the update instant. -/
def showKeys : List Nat := [SCN.SP_EFF.key, SCN.V_EFF.key, SCN.OUT.key, SCN.INTEG.key, SCN.MIRROR_STATE.key, SCN.ST_MIRROR_STATE.key, SCN.FB.key]

theorem scnShow_keeps (s : State) : KeepsRegs showKeys s s.scnShow :=
  (((((((KeepsRegs.refl _ s).wr _ _ (by decide)).wr _ _ (by decide)).wr _ _ (by decide)).wr _ _ (by decide)).wr _ _ (by decide)).wr _ _
    (by decide)).wr _ _ (by decide)

theorem scnShow_scn (s : State) : s.scnShow.scn = s.scn := rfl

theorem scnShow_out (s : State) : s.scnShow.rd SCN.OUT = ofSigned 16 s.scn.drive := by
  have hlt : ofSigned 16 s.scn.drive < 2 ^ 16 := by
    unfold ofSigned
    omega
  refine Eq.trans ?_ (Nat.mod_eq_of_lt hlt)
  exact (State.rd_wr_ne _ _ _ _ (by decide)).trans ((State.rd_wr_ne _ _ _ _ (by decide)).trans ((State.rd_wr_ne _ _ _ _ (by decide)).trans
    ((State.rd_wr_ne _ _ _ _ (by decide)).trans (State.rd_wr_self _ _ _))))

/-! ### The loop opens (R325, R326) -/

/-- The faults of a stop. -/
def State.scnFaults (s : State) (causes : Nat) : State := (List.range 5).foldl (fun s i => if bit causes i then s.fault pSCN i else s) s

theorem scnFaults_keeps (s : State) (causes : Nat) : KeepsRegs (faultKeys pSCN) s (s.scnFaults causes) := by
  refine KeepsRegs.foldl (fun t i _ => ?_) s
  split
  · exact fault_keepsRegs t _ _
  · exact KeepsRegs.refl _ t

theorem scnFaults_frame (s : State) (causes : Nat) : SafFrame s (s.scnFaults causes) := by
  unfold State.scnFaults
  generalize List.range 5 = l
  induction l generalizing s with
  | nil => exact SafFrame.refl s
  | cons i l ih =>
    rw [List.foldl_cons]
    split
    · exact ((SafFrame.refl s).fault _ _).trans (ih _)
    · exact ih s

theorem scnStop_eq (s : State) (causes phase : Nat) : s.scnStop causes phase =
    if State.closed { s.scnFaults causes with scn.restart := false } then
      { (((({ s.scnFaults causes with scn.restart := false } : State).put SCN.ST_LOOP_CLOSED false).setPhase phase).wr SCN.STOP_CAUSE causes).raise
          SCN.INT_STOPPED with scn.tau := none, scn.implausible := bit causes 3 }
    else ({ s.scnFaults causes with scn.restart := false } : State).wr SCN.STOP_CAUSE
      ((({ s.scnFaults causes with scn.restart := false } : State)).rd SCN.STOP_CAUSE ||| causes) := rfl

/-- The registers of a stop. -/
def stopKeys : List Nat := [SCN.ST_LOOP_CLOSED.key, SCN.PHASE.key, SCN.STOP_CAUSE.key, SCN.INT_STOPPED.key] ++ faultKeys pSCN

theorem closed_of_keeps {keys : List Nat} {s t : State} (h : KeepsRegs keys s t) (hk : SCN.ST_LOOP_CLOSED.key ∉ keys) : t.closed = s.closed :=
  congrArg (· != 0) (h _ hk)

theorem scnFaults_closed (s : State) (causes : Nat) : (s.scnFaults causes).closed = s.closed :=
  closed_of_keeps (scnFaults_keeps s causes) (by decide)

theorem scnStop_keeps (s : State) (causes phase : Nat) : KeepsRegs stopKeys s (s.scnStop causes phase) := by
  have hfaults : KeepsRegs stopKeys s { s.scnFaults causes with scn.restart := false } :=
    ((scnFaults_keeps s causes).mono fun _ hk => List.mem_append_right _ hk).of_cur rfl
  have hmem (f : Fld) (hf : f.key ∈ [SCN.ST_LOOP_CLOSED.key, SCN.PHASE.key, SCN.STOP_CAUSE.key, SCN.INT_STOPPED.key]) : f.key ∈ stopKeys :=
    List.mem_append_left _ hf
  rw [scnStop_eq]
  split
  · exact ((((hfaults.put _ _ (hmem _ (by decide))).wr _ _ (hmem _ (by decide))).wr _ _ (hmem _ (by decide))).put _ _
      (hmem _ (by decide))).of_cur rfl
  · exact hfaults.wr _ _ (hmem _ (by decide))

/-- An open loop stays open. -/
theorem scnStop_open {s : State} (h : s.closed = false) (causes phase : Nat) : (s.scnStop causes phase).closed = false
    ∧ (s.scnStop causes phase).scn = { s.scn with restart := false } := by
  have hscn := (scnFaults_frame s causes).scn
  have hclosed := (scnFaults_closed s causes).trans h
  rw [scnStop_eq]
  generalize s.scnFaults causes = u at *
  have hu : State.closed { u with scn.restart := false } = false := hclosed
  rw [if_neg (by rw [hu]; decide)]
  refine ⟨(congrArg (· != 0) (State.rd_wr_ne _ _ _ _ (by decide))).trans hu, ?_⟩
  rw [← hscn]
  rfl

/-- A closed loop opens, with its cause. -/
theorem scnStop_closed {s : State} (h : s.closed = true) (causes phase : Nat) (hc : causes < 256) (hp : phase < 8) :
    (s.scnStop causes phase).closed = false ∧ (s.scnStop causes phase).rd SCN.PHASE = phase
      ∧ (s.scnStop causes phase).rd SCN.STOP_CAUSE = causes ∧ (s.scnStop causes phase).on SCN.INT_STOPPED = true
      ∧ (s.scnStop causes phase).scn = { s.scn with restart := false, tau := none, implausible := bit causes 3 }
      ∧ ∀ i < 32, (s.scnStop causes phase).on (C.FAULT pSCN i) = (s.scnFaults causes).on (C.FAULT pSCN i) := by
  have hscn := (scnFaults_frame s causes).scn
  have hclosed := (scnFaults_closed s causes).trans h
  rw [scnStop_eq]
  generalize s.scnFaults causes = u at *
  have hu : State.closed { u with scn.restart := false } = true := hclosed
  have hfar (i : Nat) (hi : i < 32) : (C.FAULT pSCN i).key ≠ SCN.INT_STOPPED.key ∧ (C.FAULT pSCN i).key ≠ SCN.STOP_CAUSE.key
      ∧ (C.FAULT pSCN i).key ≠ SCN.PHASE.key ∧ (C.FAULT pSCN i).key ≠ SCN.ST_LOOP_CLOSED.key := by
    simp only [C.FAULT, SCN.INT_STOPPED, SCN.STOP_CAUSE, SCN.PHASE, SCN.ST_LOOP_CLOSED, fld_key, pSCN, pageBits]
    omega
  rw [if_pos hu]
  refine ⟨?_, ?_, ?_, State.on_put_self _ _ _ (by decide), ?_, fun i hi => ?_⟩
  · exact (State.on_put_ne _ _ _ _ (by decide)).trans ((congrArg (· != 0) ((State.rd_wr_ne _ _ _ _ (by decide)).trans
      (State.rd_wr_ne _ _ _ _ (by decide)))).trans (State.on_put_self _ _ _ (by decide)))
  · exact (State.rd_put_ne _ _ _ _ (by decide)).trans ((State.rd_wr_ne _ _ _ _ (by decide)).trans
      ((State.rd_wr_self _ _ _).trans (Nat.mod_eq_of_lt hp)))
  · exact (State.rd_put_ne _ _ _ _ (by decide)).trans ((State.rd_wr_self _ _ _).trans (Nat.mod_eq_of_lt hc))
  · rw [← hscn]
    rfl
  · obtain ⟨h1, h2, h3, h4⟩ := hfar i hi
    exact (State.on_put_ne _ _ _ _ h1).trans ((congrArg (· != 0) ((State.rd_wr_ne _ _ _ _ h2).trans (State.rd_wr_ne _ _ _ _ h3))).trans
      (State.on_put_ne _ _ _ _ h4))

/-! ### A sample with the loop open -/

theorem maybeClose_open {s : State} (h : s.closed = false) (hphase : s.rd SCN.PHASE = 7) (hrestart : s.scn.restart = false) (y : Option Int)
    (lost : Nat) : s.maybeClose y lost = s := by
  have hoff : (s.phase = phOff && s.rd SCN.MODE != 0 && s.scn.drive = s.rdI SCN.PARK_OUT) = false := by
    rw [State.phase, hphase]
    rfl
  unfold State.maybeClose
  dsimp only
  rw [hoff, Bool.false_and, if_neg Bool.false_ne_true, h, hrestart]
  split
  · calc ({ s with scn.restart := false } : State) = { s with scn.restart := s.scn.restart } := by rw [hrestart]
      _ = s := rfl
  · cases y with
    | none => rfl
    | some v => rfl

theorem scnActs_open {s : State} (h : s.closed = false) (y : Option Int) (lost : Nat) : (s.scnActs y lost).closed = false
    ∧ (s.scnActs y lost).scn.drive = s.scn.drive
      + max (-(s.rd SCN.PARK_SLEW : Int)) (min (s.rd SCN.PARK_SLEW : Int) (s.rdI SCN.PARK_OUT - s.scn.drive))
    ∧ (s.scnActs y lost).scn.conv = s.scn.conv
    ∧ KeepsRegs ([SCN.ST_SAT.key, SCN.ST_SP_LIMITED.key] ++ stopKeys) s (s.scnActs y lost) := by
  have hform : s.scnActs y lost = (if lost != 0 then s.scnStop lost phOpen else s).rampDrive := if_neg (by rw [h]; decide)
  have hmid : KeepsRegs stopKeys s (if lost != 0 then s.scnStop lost phOpen else s)
      ∧ (if lost != 0 then s.scnStop lost phOpen else s).closed = false
      ∧ (if lost != 0 then s.scnStop lost phOpen else s).scn.drive = s.scn.drive
      ∧ (if lost != 0 then s.scnStop lost phOpen else s).scn.conv = s.scn.conv := by
    split
    · obtain ⟨hc, hscn⟩ := scnStop_open h lost phOpen
      exact ⟨scnStop_keeps s lost phOpen, hc, by rw [hscn], by rw [hscn]⟩
    · exact ⟨KeepsRegs.refl _ s, h, rfl, rfl⟩
  rw [hform]
  generalize (if lost != 0 then s.scnStop lost phOpen else s) = u at *
  obtain ⟨hkeep, hc, hdrive, hconv⟩ := hmid
  rw [rampDrive_scn, hdrive, hkeep SCN.PARK_SLEW (by decide), State.rdI, hkeep SCN.PARK_OUT (by decide)]
  refine ⟨(closed_of_keeps (rampDrive_keeps u) (by decide)).trans hc, rfl, hconv, ?_⟩
  exact (hkeep.mono fun _ hk => List.mem_append_right _ hk).trans ((rampDrive_keeps u).mono fun _ hk => List.mem_append_left _ hk)

/-- The sample instant leaves the loop, its phase and its state as they are. -/
theorem scnTaken_shows (s : State) (y : Option Int) (missed lost : Nat) : (s.scnLive.scnTaken y missed lost).closed = s.closed
    ∧ (s.scnLive.scnTaken y missed lost).rd SCN.PHASE = s.rd SCN.PHASE ∧ (s.scnLive.scnTaken y missed lost).scn.drive = s.scn.drive
    ∧ (s.scnLive.scnTaken y missed lost).scn.restart = s.scn.restart ∧ (s.scnLive.scnTaken y missed lost).scn.conv = []
    ∧ (s.scnLive.scnTaken y missed lost).scn.integ = s.scn.integ ∧ (s.scnLive.scnTaken y missed lost).scn.d = s.scn.d := by
  have hkeep := scnLive_keeps s
  have hscn := scnLive_scn s
  generalize s.scnLive = u at *
  refine ⟨closed_of_keeps (hkeep.of_cur rfl) (by decide), (hkeep.of_cur (u := u.scnTaken y missed lost) rfl) _ (by decide), ?_, ?_, rfl, ?_, ?_⟩
  · exact congrArg (·.drive) hscn
  · exact congrArg (·.restart) hscn
  · exact congrArg (·.integ) hscn
  · exact congrArg (·.d) hscn

theorem mirrorSample_open {s : State} (h : s.closed = false) (hphase : s.rd SCN.PHASE = 7) (hrestart : s.scn.restart = false) :
    s.mirrorSample.closed = false ∧ s.mirrorSample.scn.drive = s.scn.drive + max (-(s.mirrorSample.rd SCN.PARK_SLEW : Int))
        (min (s.mirrorSample.rd SCN.PARK_SLEW : Int) (s.mirrorSample.rdI SCN.PARK_OUT - s.scn.drive))
      ∧ s.mirrorSample.rd SCN.OUT = ofSigned 16 s.mirrorSample.scn.drive ∧ s.mirrorSample.scn.conv = [] := by
  rw [mirrorSample_eq]
  generalize s.sampleY = y, s.sampleMissed = missed, s.sampleLost = lost
  obtain ⟨hclosed, hph, hdrive, hres, hconv, -, -⟩ := scnTaken_shows s y missed lost
  generalize s.scnLive.scnTaken y missed lost = u at *
  rw [maybeClose_open (hclosed.trans h) (hph.trans hphase) (hres.trans hrestart)]
  obtain ⟨hc, hd, hco, hkeep⟩ := scnActs_open (hclosed.trans h) y lost
  generalize u.scnActs y lost = v at *
  rw [State.rdI, scnShow_keeps v SCN.PARK_SLEW (by decide), scnShow_keeps v SCN.PARK_OUT (by decide), hkeep SCN.PARK_SLEW (by decide),
    hkeep SCN.PARK_OUT (by decide), ← State.rdI, scnShow_scn, scnShow_out, hd, hdrive]
  exact ⟨(closed_of_keeps (scnShow_keeps v) (by decide)).trans hc, rfl, rfl, hco.trans hconv⟩

/-! ### A second sample without feedback -/

/-- The first part of a closed-loop sample may change the phase, and count a late sweep. -/
def sweepKeys : List Nat := [SCN.PHASE.key, SCN.SWEEP_LATE_CNT.key, SCN.INT_SWEEP_LATE.key]

theorem sweepPhase_keeps (s : State) (t : Int) : KeepsRegs sweepKeys s (s.sweepPhase t) ∧ (s.sweepPhase t).scn = s.scn := by
  have hlate : KeepsRegs sweepKeys s ((s.count SCN.SWEEP_LATE_CNT 1).raise SCN.INT_SWEEP_LATE) :=
    ((KeepsRegs.refl _ s).count _ _ (by decide)).put _ _ (by decide)
  unfold State.sweepPhase
  dsimp only
  split
  · split
    · exact ⟨hlate.wr _ _ (by decide), rfl⟩
    · exact ⟨(KeepsRegs.refl _ s).wr _ _ (by decide), rfl⟩
  · split
    · exact ⟨(KeepsRegs.refl _ s).wr _ _ (by decide), rfl⟩
    · exact ⟨KeepsRegs.refl _ s, rfl⟩

/-- A closed-loop sample without feedback that is a loss opens the loop. -/
theorem closedSample_lost (s : State) {lost : Nat} (hl : lost ≠ 0) : ∃ u, s.closedSample none lost = (u.scnStop lost phOpen).rampDrive
    ∧ KeepsRegs sweepKeys s u ∧ u.scn = s.scn := by
  have hblind (u : State) (rc v' : Int) (limited : Bool) : u.blindSample lost rc v' limited = (u.scnStop lost phOpen).rampDrive :=
    if_pos (bne_iff_ne.mpr hl)
  unfold State.closedSample
  dsimp only
  rw [hblind]
  cases ht : s.scn.tau with
  | none => exact ⟨s, rfl, KeepsRegs.refl _ s, rfl⟩
  | some t => exact ⟨s.sweepPhase t, rfl, sweepPhase_keeps s t⟩

theorem maybeClose_lost (s : State) (y : Option Int) {lost : Nat} (hl : lost ≠ 0) : KeepsRegs [SCN.PHASE.key] s (s.maybeClose y lost)
    ∧ (s.maybeClose y lost).scn.drive = s.scn.drive ∧ (s.maybeClose y lost).scn.integ = s.scn.integ ∧ (s.maybeClose y lost).scn.d = s.scn.d := by
  unfold State.maybeClose
  dsimp only
  split
  · exact ⟨(KeepsRegs.refl _ s).wr _ _ (by decide), rfl, rfl, rfl⟩
  · rw [if_pos (bne_iff_ne.mpr hl)]
    exact ⟨(KeepsRegs.refl _ s).of_cur rfl, rfl, rfl, rfl⟩

theorem scnFaults_lost (s : State) : (s.scnFaults 2).on (C.FAULT pSCN 1) = true := by
  have hform : s.scnFaults 2 = s.fault pSCN 1 := rfl
  rw [hform]
  exact fault_on_self _ (by decide) (by decide)

theorem mirrorSample_lost {s : State} (h : s.closed = true) (hconv : s.scn.conv = []) (hmissed : 1 ≤ s.scn.missed) :
    s.mirrorSample.closed = false ∧ s.mirrorSample.rd SCN.PHASE = 7 ∧ s.mirrorSample.rd SCN.STOP_CAUSE = 2
      ∧ s.mirrorSample.on SCN.INT_STOPPED = true ∧ s.mirrorSample.on (C.FAULT pSCN 1) = true
      ∧ s.mirrorSample.scn.drive = s.scn.drive + max (-(s.mirrorSample.rd SCN.PARK_SLEW : Int))
        (min (s.mirrorSample.rd SCN.PARK_SLEW : Int) (s.mirrorSample.rdI SCN.PARK_OUT - s.scn.drive))
      ∧ s.mirrorSample.scn.integ = s.scn.integ ∧ s.mirrorSample.scn.d = s.scn.d := by
  have hy : s.sampleY = none := by
    rw [State.sampleY, State.usedCodes, scnLive_scn, hconv, List.reverse_nil, List.take_nil]
    rfl
  have hmiss : s.sampleMissed = 2 := by
    rw [State.sampleMissed, hy, scnLive_scn]
    exact Nat.min_eq_left (by omega)
  have hlost : s.sampleLost = 2 := by
    rw [State.sampleLost, State.sampleRange, hy, hmiss]
    rfl
  rw [mirrorSample_eq, hy, hmiss, hlost]
  obtain ⟨hclosed, -, hdrive, -, -, hinteg, hd⟩ := scnTaken_shows s none 2 2
  generalize s.scnLive.scnTaken none 2 2 = u at *
  obtain ⟨hk1, hd1, hi1, hdd1⟩ := maybeClose_lost u none (lost := 2) (by decide)
  generalize u.maybeClose none 2 = v at *
  have hv : v.closed = true := (closed_of_keeps hk1 (by decide)).trans (hclosed.trans h)
  obtain ⟨w, hform, hk2, hscn⟩ := closedSample_lost v (lost := 2) (by decide)
  have hacts : v.scnActs none 2 = (w.scnStop 2 phOpen).rampDrive := (if_pos hv).trans hform
  obtain ⟨hc, hp, hcause, hint, hstop, hfault⟩ := scnStop_closed ((closed_of_keeps hk2 (by decide)).trans hv) 2 phOpen (by decide) (by decide)
  have hf := (hfault 1 (by decide)).trans (scnFaults_lost w)
  rw [hacts]
  generalize w.scnStop 2 phOpen = x at *
  have hshow := scnShow_keeps x.rampDrive
  have hramp := rampDrive_keeps x
  have hread (f : Fld) (h1 : f.key ∉ showKeys) (h2 : f.key ∉ [SCN.ST_SAT.key, SCN.ST_SP_LIMITED.key]) : x.rampDrive.scnShow.rd f = x.rd f :=
    (hshow f h1).trans (hramp f h2)
  have hpark : x.rampDrive.scnShow.rdI SCN.PARK_OUT = x.rdI SCN.PARK_OUT := congrArg (toSigned 16) (hread _ (by decide) (by decide))
  rw [scnShow_scn, rampDrive_scn, State.closed, State.on, State.on, State.on, hpark, hread SCN.ST_LOOP_CLOSED (by decide) (by decide),
    hread SCN.PHASE (by decide) (by decide), hread SCN.STOP_CAUSE (by decide) (by decide), hread SCN.INT_STOPPED (by decide) (by decide),
    hread (C.FAULT pSCN 1) (by decide) (by decide), hread SCN.PARK_SLEW (by decide) (by decide), hstop, hscn]
  refine ⟨hc, hp, hcause, hint, hf, ?_, hi1.trans hinteg, hdd1.trans hd⟩
  show v.scn.drive + _ = _
  rw [hd1, hdrive]

/-! ### A closed-loop sample at rest in PARK (R313, R314) -/

theorem asr_eq (x : Int) (n : Nat) : asr x n = x / 2 ^ n := by
  unfold asr
  rw [Nat.cast_pow]
  rfl

/-- Products of 0 add nothing. -/
theorem acc40_zeros (a b : Int) : acc40 [a, b, 0, 0] = acc40 [a, b] := by
  unfold acc40
  simp only [List.foldl_cons, List.foldl_nil, clampI]
  omega

theorem openDiv_one (x : Int) : openDiv x 1 = x := by
  unfold openDiv
  rw [Int.emod_one, if_pos rfl, Int.ediv_one]

theorem nearestAway_lsb (x : Int) : nearestAway (x * 65536) 65536 = x := by
  unfold nearestAway
  split <;> omega

/-- A sample without a prediction, off the sweep, finds no cause, and notes its feedback. -/
def State.unjudged (s : State) (y : Int) : State := { s with scn.frozenBase := some y, scn.frozenSums := [0], scn.implRun := 0, scn.trkRun := 0 }

theorem judge_first {s : State} (hbase : s.scn.frozenBase = none) (hphase : s.rd SCN.PHASE = 1) (y e : Int) :
    s.judge y e none = (0, s.unjudged y) := by
  have hrun : (decide (s.phase = phRunIn) || decide (s.phase = phSweep)) = false := by
    rw [State.phase, hphase]
    rfl
  unfold State.judge State.unjudged
  dsimp only
  rw [hbase, hrun, Bool.and_false, Bool.false_and]
  rfl

theorem predict_first {s : State} (h : s.scn.y1 = none) : s.predict = none := by
  unfold State.predict
  rw [h]

/-- The results of a sample at rest, `c` the control law's. -/
def State.parkShown (s : State) (y e rc : Int) (c : Int × Int × Int × Bool) : State :=
  let s1 : State := { s.put SCN.ST_SP_LIMITED false with scn.pEff := s.scn.pEff + 0, scn.vEff := 0, scn.cmd := rc }
  let s2 := s1.put SCN.ST_SAT c.2.2.2
  let s3 := if c.2.2.2 then (s2.count SCN.SAT_CNT 1).raise SCN.INT_SAT else s2
  { s3 with
    scn.d := c.1, scn.integ := c.2.1, scn.drive := c.2.2.1, scn.ePrev := e
    scn.y1 := some y, scn.y2 := s.scn.y1, scn.u1 := c.2.2.1, scn.u2 := s.scn.u1
    scn.closedFor := min 2 (s.scn.closedFor + 1) }

theorem moveSetPoint_rest {s : State} (hphase : s.rd SCN.PHASE = 1) (rc : Int) : s.moveSetPoint rc 0 false =
    { s.put SCN.ST_SP_LIMITED false with scn.pEff := s.scn.pEff + 0, scn.vEff := 0, scn.cmd := rc } := by
  have hoff : decide (s.phase = phFlyback) = false := by
    rw [State.phase, hphase]
    rfl
  unfold State.moveSetPoint
  dsimp only
  rw [Bool.false_and, if_neg Bool.false_ne_true, hoff, Bool.false_and, Bool.false_and, if_neg Bool.false_ne_true]

theorem seenSample_rest {s : State} (hbase : s.scn.frozenBase = none) (hphase : s.rd SCN.PHASE = 1) (hy1 : s.scn.y1 = none)
    (hv : s.scn.vEff = 0) (y rc : Int) : s.seenSample y 0 rc 0 false =
      (s.unjudged y).parkShown y (sat16 (nearestAway (s.scn.pEff + 0) 65536 - y)) rc
        ((s.unjudged y).control (sat16 (nearestAway (s.scn.pEff + 0) 65536 - y)) 0 0) := by
  unfold State.seenSample
  dsimp only
  rw [predict_first hy1]
  dsimp only
  rw [judge_first hbase hphase]
  dsimp only
  rw [hv, if_neg (by decide), moveSetPoint_rest (s := s.unjudged y) hphase]
  rfl

/-- The control law at rest: what it makes of the difference, and where it limits. -/
theorem control_rest (s : State) (e : Int) :
    let clamp16 := fun x : Int => max (-32768) (min 32767 x)
    let k := s.coeff
    let d := clamp16 (acc40 [k SCN.DF * s.scn.d, k SCN.KD * clamp16 (e - s.scn.ePrev)] / 2 ^ 15)
    let base := acc40 [k SCN.KP * e, d * 2 ^ 15]
    let tried := acc40 [s.scn.integ, k SCN.KI * e]
    let shift := 15 - s.rd (SCN.OUT_SHIFT (s.rd SCN.BANK_SEL))
    let u := acc40 [base, tried] / 2 ^ shift
    s.control e 0 0 = if decide (s.rdI SCN.OUT_MIN ≤ u) && decide (u ≤ s.rdI SCN.OUT_MAX) then (d, tried, u, false)
      else (d, s.scn.integ, clampI (acc40 [base, s.scn.integ] / 2 ^ shift) (s.rdI SCN.OUT_MIN) (s.rdI SCN.OUT_MAX), true) := by
  intro clamp16 k d base tried shift u
  have hzero (x : Int) (n : Nat) : x * sat16 (asr 0 n) = 0 := by
    rw [asr_eq, Int.zero_ediv]
    exact Int.mul_zero x
  unfold State.control
  dsimp only
  rw [hzero, hzero, acc40_zeros, asr_eq, asr_eq, asr_eq, sat16_eq, sat16_eq]
  rfl

/-- The law does not look at what the sample has noted. -/
theorem control_taken (s : State) (y : Option Int) (missed lost : Nat) (y' e v' a : Int) :
    ((s.scnTaken y missed lost).unjudged y').control e v' a = s.control e v' a := rfl

theorem parkShown_shows (s : State) (y e rc : Int) (c : Int × Int × Int × Bool) :
    (s.parkShown y e rc c).closed = s.closed ∧ (s.parkShown y e rc c).scn.d = c.1 ∧ (s.parkShown y e rc c).scn.ePrev = e
      ∧ (s.parkShown y e rc c).scn.pEff = s.scn.pEff ∧ (s.parkShown y e rc c).scn.drive = c.2.2.1 ∧ (s.parkShown y e rc c).scn.integ = c.2.1
      ∧ (s.parkShown y e rc c).on SCN.ST_SAT = c.2.2.2
      ∧ (c.2.2.2 = false → (s.parkShown y e rc c).rd SCN.SAT_CNT = s.rd SCN.SAT_CNT)
      ∧ (c.2.2.2 = true → (s.parkShown y e rc c).on SCN.INT_SAT = true
          ∧ (s.parkShown y e rc c).rd SCN.SAT_CNT = min (s.rd SCN.SAT_CNT + 1) 65535) := by
  obtain ⟨d, i, u, sat⟩ := c
  cases sat with
  | false =>
    refine ⟨?_, rfl, rfl, Int.add_zero _, rfl, rfl, State.on_put_self _ _ _ (by decide), fun _ => ?_, fun e => absurd e Bool.false_ne_true⟩
    · exact (State.on_put_ne _ _ _ _ (by decide)).trans (State.on_put_ne _ _ _ _ (by decide))
    · exact (State.rd_put_ne _ _ _ _ (by decide)).trans (State.rd_put_ne _ _ _ _ (by decide))
  | true =>
    refine ⟨?_, rfl, rfl, Int.add_zero _, rfl, rfl, ?_, fun e => absurd e.symm Bool.false_ne_true, fun _ => ⟨State.on_put_self _ _ _ (by decide), ?_⟩⟩
    · exact (State.on_put_ne _ _ _ _ (by decide)).trans ((congrArg (· != 0) (State.rd_wr_ne _ _ _ _ (by decide))).trans
        ((State.on_put_ne _ _ _ _ (by decide)).trans (State.on_put_ne _ _ _ _ (by decide))))
    · exact (State.on_put_ne _ _ _ _ (by decide)).trans ((congrArg (· != 0) (State.rd_wr_ne _ _ _ _ (by decide))).trans
        (State.on_put_self _ _ _ (by decide)))
    · refine (State.rd_put_ne _ _ _ _ (by decide)).trans ((State.rd_count _ _ _).trans ?_)
      exact congrArg (fun n => min (n + 1) 65535) ((State.rd_put_ne _ _ _ _ (by decide)).trans (State.rd_put_ne _ _ _ _ (by decide)))

theorem limiter_rest (vmax amax : Nat) (p : Int) : limiter vmax amax p 0 p 0 = (0, false) := by
  unfold limiter
  dsimp only
  rw [if_pos]
  · rw [Int.sub_self]
  · simp
    omega

theorem closedSample_rest {s : State} {y : Int} (hmode : s.rd SCN.MODE = 1) (htau : s.scn.tau = none) (hv : s.scn.vEff = 0)
    (hp : s.scn.pEff = s.rdI SCN.PARK_POS * 65536) :
    s.closedSample (some y) 0 = s.seenSample y 0 (s.rdI SCN.PARK_POS * 65536) 0 false := by
  have hcommand : s.command = (s.rdI SCN.PARK_POS * 65536, 0) := if_pos hmode
  unfold State.closedSample
  dsimp only
  rw [htau]
  dsimp only
  rw [hcommand, hv, hp, limiter_rest]

theorem maybeClose_closed {s : State} (h : s.closed = true) (hphase : s.rd SCN.PHASE = 1) (y : Int) : s.maybeClose (some y) 0 = s := by
  have hoff : (s.phase = phOff && s.rd SCN.MODE != 0 && s.scn.drive = s.rdI SCN.PARK_OUT) = false := by
    rw [State.phase, hphase]
    rfl
  unfold State.maybeClose
  dsimp only
  rw [hoff, Bool.false_and, if_neg Bool.false_ne_true, h]
  rfl

/-- A sample of one code in range is that code, and is no loss. -/
theorem sample_one {s : State} {y : Int} (hlive : ∀ f ∈ fieldsOf pSCN .rwl, s.rdS f = s.rd f) (hconv : s.scn.conv = [(y, false)])
    (hlo : s.rdI SCN.FB_MIN ≤ y) (hhi : y ≤ s.rdI SCN.FB_MAX) : s.sampleY = some y ∧ s.sampleMissed = 0 ∧ s.sampleLost = 0 := by
  have hused : s.usedCodes = [(y, false)] := by
    rw [State.usedCodes, scnLive_idle hlive, hconv]
    exact List.take_of_length_le (Nat.one_le_two_pow)
  have hy : s.sampleY = some y := by
    rw [State.sampleY, hused]
    show some (openDiv (y + 0) 1) = some y
    rw [openDiv_one, Int.add_zero]
  have hmiss : s.sampleMissed = 0 := by
    rw [State.sampleMissed, hy]
    rfl
  have hrange : s.sampleRange = false := by
    rw [State.sampleRange, hy]
    dsimp only
    rw [hused, scnLive_idle hlive, decide_eq_false (Int.not_lt.mpr hlo), decide_eq_false (Int.not_lt.mpr hhi)]
    rfl
  refine ⟨hy, hmiss, ?_⟩
  rw [State.sampleLost, hrange, hmiss]
  rfl

theorem mirrorSample_rest {s : State} {y : Int} (h : s.closed = true) (hmode : s.rd SCN.MODE = 1) (hphase : s.rd SCN.PHASE = 1)
    (hlive : ∀ f ∈ fieldsOf pSCN .rwl, s.rdS f = s.rd f) (hconv : s.scn.conv = [(y, false)]) (hlo : s.rdI SCN.FB_MIN ≤ y)
    (hhi : y ≤ s.rdI SCN.FB_MAX) (htau : s.scn.tau = none) (hy1 : s.scn.y1 = none) (hbase : s.scn.frozenBase = none)
    (hp : s.scn.pEff = s.rdI SCN.PARK_POS * 65536) (hv : s.scn.vEff = 0) :
    s.mirrorSample = (((s.scnTaken (some y) 0 0).unjudged y).parkShown y (sat16 (s.rdI SCN.PARK_POS - y)) (s.rdI SCN.PARK_POS * 65536)
      (((s.scnTaken (some y) 0 0).unjudged y).control (sat16 (s.rdI SCN.PARK_POS - y)) 0 0)).scnShow := by
  obtain ⟨hy, hmiss, hlost⟩ := sample_one hlive hconv hlo hhi
  have htaken : (s.scnTaken (some y) 0 0).scn.tau = none := congrArg (Option.map _) htau
  have hnear : nearestAway ((s.scnTaken (some y) 0 0).scn.pEff + 0) 65536 = s.rdI SCN.PARK_POS := by
    rw [Int.add_zero]
    exact (congrArg (nearestAway · 65536) hp).trans (nearestAway_lsb _)
  rw [mirrorSample_eq, hy, hmiss, hlost, scnLive_idle hlive, maybeClose_closed (s := s.scnTaken (some y) 0 0) h hphase]
  have hacts : (s.scnTaken (some y) 0 0).scnActs (some y) 0 = (s.scnTaken (some y) 0 0).closedSample (some y) 0 := if_pos h
  rw [hacts, closedSample_rest (s := s.scnTaken (some y) 0 0) hmode htaken hv hp,
    seenSample_rest (s := s.scnTaken (some y) 0 0) hbase hphase hy1 hv, hnear]
  rfl

theorem exec_frameStartStrobe {s : State} (hrun : s.runs pSCN = true) (h : s.closed = true) (hmode : s.rd SCN.MODE = 3)
    (hframe : s.acq.frame ≠ none) : exec .frameStartStrobe s = .next { s with
      free := s.free + 1, scn.vs := s.velocity
      scn.tau := some (((s.freeVal 0 % s.rd SCN.LOOP_DIV : Nat) : Int) - 200 * s.rd ACQ.FRAME_DELAY - s.rd SCN.LOOP_DIV) } := by
  refine congrArg Host.Outcome.next ((if_pos ?_).trans ?_)
  · rw [hrun, h, hmode]
    exact Option.isSome_iff_ne_none.mpr hframe
  · rfl

/-- Settles O39. -/
theorem mirrorSample : Obligations.MirrorSample := by
  intro y s hrun clamp16 k step
  have hexec : exec .mirrorSample s = .next s.mirrorSample := congrArg Host.Outcome.next (if_pos hrun)
  refine ⟨fun h hphase hrestart => ⟨_, hexec, mirrorSample_open h hphase hrestart⟩, fun h hconv hmissed => ⟨_, hexec, mirrorSample_lost h hconv hmissed⟩,
    fun h hmode hphase hlive hconv hlo hhi htau hy1 hbase hp hv => ?_, fun h hmode hframe hdiv => ?_⟩
  · intro e d base tried shift u lo hi
    have hform := mirrorSample_rest h hmode hphase hlive hconv hlo hhi htau hy1 hbase hp hv
    have hctl : s.control e 0 0 = if decide (lo ≤ u) && decide (u ≤ hi) then (d, tried, u, false)
        else (d, s.scn.integ, clampI (acc40 [base, s.scn.integ] / 2 ^ shift) lo hi, true) := control_rest s e
    rw [control_taken, sat16_eq] at hform
    change s.mirrorSample = (State.parkShown _ y e _ (s.control e 0 0)).scnShow at hform
    clear_value e d base tried shift u lo hi
    generalize s.control e 0 0 = c at *
    obtain ⟨h1, h2, h3, h4, h5, h6, h7, h8, h9⟩ := parkShown_shows ((s.scnTaken (some y) 0 0).unjudged y) y e (s.rdI SCN.PARK_POS * 65536) c
    generalize hw : State.parkShown ((s.scnTaken (some y) 0 0).unjudged y) y e (s.rdI SCN.PARK_POS * 65536) c = w at *
    have hshow := scnShow_keeps w
    refine ⟨_, hexec, ?_⟩
    rw [hform, scnShow_scn, State.on, State.on, hshow SCN.ST_SAT (by decide), hshow SCN.INT_SAT (by decide), hshow SCN.SAT_CNT (by decide)]
    refine ⟨(closed_of_keeps hshow (by decide)).trans (h1.trans h), ?_, h3, h4, fun hl hh => ?_, fun hout hle => ?_⟩
    · rw [h2, hctl]
      split <;> rfl
    · rw [if_pos (by rw [decide_eq_true hl, decide_eq_true hh]; rfl)] at hctl
      rw [hctl] at h5 h6 h7 h8
      exact ⟨h5, h6, h7, h8 rfl⟩
    · rw [if_neg (by simp; omega), clampI_eq hle] at hctl
      rw [hctl] at h5 h6 h7 h9
      exact ⟨h5, h6, h7, (h9 rfl).1, (h9 rfl).2⟩
  · exact ⟨_, Nat.mod_lt _ hdiv, exec_frameStartStrobe hrun h hmode hframe⟩

end Sys2Proof.Machine
end

section
/-! PROOFS. SCN's commands, its state at SAF, and the window heater (R317, R328 to R335, R447). -/
namespace Sys2Proof.Machine
open Sys2Proof

/-! ### Writes of staged fields -/

/-- A write of fields that take force later changes no acting value but the error bits. -/
theorem writeRow_staged {r : Row} (h : r.acc = .rws ∨ r.acc = .rwl ∨ r.acc = .rwh) (s : State) (p off v : Nat) :
    KeepsRegs [(C.ERR_VALUE p).key, (C.ERR_BUSY p).key] s (s.writeRow p off v r) ∧ (s.writeRow p off v r).scn = s.scn := by
  have hone (t : State) (f : Fld) (x : Nat) : KeepsRegs [(C.ERR_VALUE p).key, (C.ERR_BUSY p).key] t (t.writeField p r f x)
      ∧ (t.writeField p r f x).scn = t.scn := by
    have herr : KeepsRegs [(C.ERR_VALUE p).key, (C.ERR_BUSY p).key] t (t.err (C.ERR_VALUE p)) :=
      (KeepsRegs.refl _ t).put _ _ List.mem_cons_self
    have hbusy : KeepsRegs [(C.ERR_VALUE p).key, (C.ERR_BUSY p).key] t (t.err (C.ERR_BUSY p)) :=
      (KeepsRegs.refl _ t).put _ _ (List.mem_cons_of_mem _ List.mem_cons_self)
    unfold State.writeField
    rcases h with h | h | h <;> rw [h] <;> dsimp only
    case inr.inr =>
      cases t.mayHold p with
      | true =>
        split
        · exact ⟨herr, rfl⟩
        · exact ⟨(KeepsRegs.refl _ t).of_cur rfl, rfl⟩
      | false =>
        split
        · exact ⟨hbusy.put _ _ List.mem_cons_self, rfl⟩
        · exact ⟨hbusy, rfl⟩
    all_goals
      split
      · exact ⟨(KeepsRegs.refl _ t).of_cur rfl, rfl⟩
      · exact ⟨herr, rfl⟩
  exact ⟨KeepsRegs.foldl (fun t j _ => (hone t _ _).1) s, foldl_keeps State.scn (fun t j _ => (hone t _ _).2) s⟩

/-! ### RESTART (R328) -/

def scnModeRow : Row := ⟨542, 1, 0, 2, .rws, fun _ => 0, fun _ => true⟩
def bankSelRow : Row := ⟨541, 1, 0, 1, .rwl, fun _ => 0, fun _ => true⟩
def fbAvgRow : Row := ⟨538, 1, 0, 2, .rws, fun _ => 2, fun _ => true⟩
def loopDivRow : Row := ⟨512, 1, 0, 16, .rwh, fun _ => 1000, fun v => 1000 ≤ v && v ≤ 20000⟩

theorem rowsOf_restart : (rowsOf pSCN).filter (Row.live 0x40) = [scnModeRow, bankSelRow, fbAvgRow, loopDivRow] := rfl

theorem restartFields_keeps (s : State) (v : Nat) :
    KeepsRegs [(C.ERR_VALUE pSCN).key, (C.ERR_BUSY pSCN).key] s (s.writeFields pSCN 0x40 v) ∧ (s.writeFields pSCN 0x40 v).scn = s.scn := by
  have hrow (r : Row) (hr : r ∈ [scnModeRow, bankSelRow, fbAvgRow, loopDivRow]) : r.acc = .rws ∨ r.acc = .rwl ∨ r.acc = .rwh := by
    simp only [List.mem_cons, List.not_mem_nil, or_false] at hr
    rcases hr with rfl | rfl | rfl | rfl
    · exact .inl rfl
    · exact .inr (.inl rfl)
    · exact .inl rfl
    · exact .inr (.inr rfl)
  rw [writeFields_live, rowsOf_restart]
  exact ⟨KeepsRegs.foldl (fun t r hr => (writeRow_staged (hrow r hr) t _ _ _).1) s,
    foldl_keeps State.scn (fun t r hr => (writeRow_staged (hrow r hr) t _ _ _).2) s⟩

theorem exec_restart {s : State} {value : Word} (path : Path) (hrun : s.runs pSCN = true) (hbit : value.getLsbD 28 = true) :
    exec (.restart path value) s = .next (s.writeFields pSCN 0x40 value.toNat).scnRestart.written := by
  have hword : s.writeWord path pSCN 0x40 value.toNat = s.scnWord 0x40 value.toNat := by simp [State.writeWord, defined, hrun]; rfl
  have hscn : s.scnWord 0x40 value.toNat = (s.writeFields pSCN 0x40 value.toNat).scnRestart := by
    rw [State.scnWord, if_pos rfl, bit_toNat, hbit]
    rfl
  show Host.Outcome.next (s.wordCommand path pSCN 0x40 value) = _
  rw [wordCommand_written value (by decide) (by decide) (by decide) (fun h => absurd h.2 (by decide)), hword, hscn]

theorem mayRestart_iff (s : State) : s.mayRestart = true ↔
    s.rd SCN.PHASE = 7 ∧ s.scn.drive = s.rdI SCN.PARK_OUT ∧ s.on (C.HALTED pSCN) = false ∧ s.rd SCN.MODE ≠ 0 ∧ s.scn.lostFor = 0 := by
  unfold State.mayRestart
  simp only [Bool.and_eq_true, decide_eq_true_eq, Bool.not_eq_true', bne_iff_ne, and_assoc]
  exact Iff.rfl

theorem mayRestart_keeps {s t : State} (h : KeepsRegs [(C.ERR_VALUE pSCN).key, (C.ERR_BUSY pSCN).key] s t) (hscn : t.scn = s.scn) :
    t.mayRestart = s.mayRestart := by
  unfold State.mayRestart State.phase State.on State.rdI
  rw [h SCN.PHASE (by decide), h SCN.PARK_OUT (by decide), h (C.HALTED pSCN) (by decide), h SCN.MODE (by decide), hscn]

/-! ### The coefficients (R317) -/

/-- The two halves of a coefficient word. -/
def State.halvesWritten (s : State) (hi lo : Fld) (v : Nat) : State := (s.wr hi (bits v 16 16)).wr lo (bits v 0 16)

theorem coeffFields {b : Nat} (hb : b < 2) (s : State) (v : Nat) :
    s.writeFields pSCN (0x80 + 16 * b + 4 * 0) v = s.halvesWritten (SCN.KP b) (SCN.KI b) v
      ∧ s.writeFields pSCN (0x80 + 16 * b + 4 * 1) v = s.halvesWritten (SCN.KD b) (SCN.DF b) v
      ∧ s.writeFields pSCN (0x80 + 16 * b + 4 * 2) v = s.halvesWritten (SCN.KFV b) (SCN.KFA b) v
      ∧ s.writeFields pSCN (0x80 + 16 * b + 4 * 3) v = s.wr (SCN.OUT_SHIFT b) (bits v 0 3) := by
  simp only [writeFields_live]
  obtain rfl | rfl : b = 0 ∨ b = 1 := by omega
  · exact ⟨rfl, rfl, rfl, rfl⟩
  · exact ⟨rfl, rfl, rfl, rfl⟩

theorem halvesWritten_shows (s : State) {hi lo : Fld} (value : Word) (hne : hi.key ≠ lo.key) (hw : hi.width = 16) (hw' : lo.width = 16) :
    (s.halvesWritten hi lo value.toNat).rd hi = value.toNat / 2 ^ 16 ∧ (s.halvesWritten hi lo value.toNat).rd lo = value.toNat % 2 ^ 16
      ∧ KeepsRegs [hi.key, lo.key] s (s.halvesWritten hi lo value.toNat) := by
  have hlt := value.isLt
  refine ⟨(State.rd_wr_ne _ _ _ _ hne).trans ((State.rd_wr_self _ _ _).trans ?_), (State.rd_wr_self _ _ _).trans ?_,
    ((KeepsRegs.refl _ s).wr _ _ (by simp)).wr _ _ (by simp)⟩
  · rw [hw, bits]
    omega
  · rw [hw', bits]
    omega

theorem unitWrite_scn (s : State) (path : Path) (off v : Nat) : s.unitWrite path pSCN off v = s.scnWord off v := rfl

theorem exec_coeffWrite {s : State} {value : Word} (path : Path) (bank : Fin 2) (w : Fin 4) (hrun : s.runs pSCN = true) :
    exec (.coeffWrite path bank w value) s = .next (if s.coeffBusy bank then s.err (C.ERR_BUSY pSCN)
      else s.writeFields pSCN (0x80 + 16 * bank + 4 * w) value.toNat).written := by
  have hdefined : ∀ (bank : Fin 2) (w : Fin 4), defined pSCN (0x80 + 16 * bank + 4 * w) = true := by decide
  have hword : s.writeWord path pSCN (0x80 + 16 * bank + 4 * w) value.toNat = s.coeffWord (0x80 + 16 * bank + 4 * w) value.toNat := by
    rw [State.writeWord, hdefined, if_neg (by decide), if_neg (by omega), hrun, if_neg (by decide), if_neg (by omega), if_neg (by omega),
      if_neg (by omega), if_neg (by omega), unitWrite_scn, State.scnWord, if_neg (by omega), if_pos (by simp; omega)]
  have hbank : (0x80 + 16 * (bank : Nat) + 4 * (w : Nat) - 0x80) / 16 = bank := by omega
  show Host.Outcome.next (s.wordCommand path pSCN (0x80 + 16 * bank + 4 * w) value) = _
  rw [wordCommand_written value (by decide) (by omega) (by omega) (fun h => absurd h.2 (by decide)), hword, State.coeffWord, hbank]

/-! ### The mirror state at SAF (R329, R330, R447) -/

theorem SafFrame.tripSet {s : State} (h : s.pwr.hold = false) (i : Nat) : SafFrame s (s.tripSet i) := by
  rw [tripSet_clocked h]
  exact SafFrame.tripNow s i

theorem SafFrame.tripGone (s : State) (i : Nat) : SafFrame s (s.tripGone i) := by
  unfold State.tripGone
  extract_lets _ s1
  have h : SafFrame s s1 := ⟨rfl⟩
  split
  · exact h.trans ((SafFrame.putTrip s1 i false).trans (SafFrame.safOutputs _))
  · exact h

theorem safMirror_frame {s : State} (h : s.pwr.hold = false) : SafFrame s s.safMirror := by
  unfold State.safMirror
  dsimp only
  split
  · exact SafFrame.tripGone s 1
  · split
    · split
      · exact SafFrame.refl s
      · exact SafFrame.tripSet h 10
    · split
      · exact SafFrame.refl s
      · exact SafFrame.tripSet h 1

theorem tripSet_trip {s : State} {i : Nat} (hi : i < 32) (h : s.pwr.hold = false) : (s.tripSet i).trip i = true := (tripSet_trips hi h).1

theorem safMirror_trip {s : State} (h : s.pwr.hold = false) :
    (s.mirror = 0 → s.safMirror.trip 1 = false)
      ∧ (s.mirror = 1 → s.safMirror.trip 1 = true ∧ (s.trip 1 = false → Trips 1 s.safMirror))
      ∧ (s.mirror = 2 → s.safMirror.trip 10 = true ∧ (s.trip 10 = false → Trips 10 s.safMirror)) := by
  refine ⟨fun hm => ?_, fun hm => ?_, fun hm => ?_⟩
  · rw [State.safMirror, hm, if_pos rfl]
    exact tripGone_trip s (by decide)
  · rw [State.safMirror, hm, if_neg (by decide), if_neg (by decide)]
    split
    · next ht => exact ⟨ht, fun e => absurd (e.symm.trans ht) Bool.false_ne_true⟩
    · exact ⟨tripSet_trip (by decide) h, fun _ => tripSet_trips (by decide) h⟩
  · rw [State.safMirror, hm, if_neg (by decide), if_pos rfl]
    split
    · next ht => exact ⟨ht, fun e => absurd (e.symm.trans ht) Bool.false_ne_true⟩
    · exact ⟨tripSet_trip (by decide) h, fun _ => tripSet_trips (by decide) h⟩

/-- A mirror state that has crossed to SAF. -/
def State.mirrorTaken (s : State) : State :=
  { s with scn.safState := s.rd SCN.MIRROR_STATE, scn.safCause := s.rd SCN.STOP_CAUSE, scn.heartbeatLost := false }

/-- The mirror's heartbeat is lost. -/
def State.heartbeatMissed (s : State) : State := { s with scn.heartbeatLost := true }

theorem mirrorTaken_mirror {s : State} (hrun : s.runs pSCN = true) : s.mirrorTaken.mirror = s.rd SCN.MIRROR_STATE := by
  refine if_neg ?_
  show ¬(false || !s.runs pSCN) = true
  rw [hrun]
  decide

theorem exec_mirrorStateUpdate {s : State} (hrun : s.runs pSCN = true) (hsaf : s.runs pSAF = true) (hgap : s.pwr.hold = false) :
    exec .mirrorStateUpdate s = .next s.mirrorTaken.safMirror := by
  refine congrArg Host.Outcome.next ?_
  rw [if_neg (by rw [hrun]; decide), if_neg (by rw [hgap]; decide)]
  exact if_pos hsaf

theorem exec_mirrorStateUpdate_gap {s : State} (hrun : s.runs pSCN = true) (hgap : s.pwr.hold = true) : exec .mirrorStateUpdate s =
    .next { s with pwr.held := s.pwr.held ++ [.mirror (s.rd SCN.MIRROR_STATE) (s.rd SCN.STOP_CAUSE)] } := by
  refine congrArg Host.Outcome.next ?_
  dsimp only
  rw [if_neg (by rw [hrun]; decide), if_pos hgap]
  rfl

/-! ### The window heater (R332 to R335) -/

theorem exec_heaterSample {s : State} (hrun : s.runs pSCN = true) (hen : s.on SCN.HTR_EN = true) (hhalt : s.on (C.HALTED pSCN) = false)
    (hidle : s.sense.results = []) : exec .heaterSample s = .next s.heaterSample := by
  have harrive : s.resultsArrive = s := by
    calc s.resultsArrive = { s with sense.results := [] } := by rw [State.resultsArrive, hidle]; rfl
      _ = { s with sense.results := s.sense.results } := by rw [hidle]
      _ = s := rfl
  refine congrArg Host.Outcome.next ?_
  rw [harrive, hrun, hen, hhalt]
  rfl

/-- The samples in a row without a new result. -/
def State.heaterSilent (s : State) : Nat := if s.scn.fresh.contains (s.rd SCN.HTR_SLOT) then 0 else min 3 (s.scn.hSilent + 1)

/-- A heater sample begins. -/
def State.heaterBegun (s : State) : State := { s with scn.fresh := [], scn.hSilent := s.heaterSilent }

theorem heaterSample_eq (s : State) : s.heaterSample = if s.heaterSilent = 3 then s.heaterBegun.heaterLost
    else s.heaterBegun.heaterTakes (Tab.get none s.scn.results (s.rd SCN.HTR_SLOT)) := rfl

theorem heaterSilent_heard {s : State} (h : s.scn.fresh.contains (s.rd SCN.HTR_SLOT) = true ∨ s.scn.hSilent < 2) : s.heaterSilent ≠ 3 := by
  unfold State.heaterSilent
  split
  · decide
  · next hn =>
    have := h.resolve_left hn
    omega

theorem heaterSilent_unheard {s : State} (h : ¬(s.scn.fresh.contains (s.rd SCN.HTR_SLOT) = true ∨ s.scn.hSilent < 2)) : s.heaterSilent = 3 := by
  obtain ⟨h1, h2⟩ := not_or.mp h
  rw [State.heaterSilent, if_neg h1]
  omega

theorem heaterLost_shows (s : State) : s.heaterLost.scn.duty = 0 ∧ s.heaterLost.scn.hinteg = 0 ∧ s.heaterLost.scn.hFault = true
    ∧ s.heaterLost.on (C.FAULT pSCN 6) = true ∧ s.heaterLost.on SCN.INT_HTR_OFF = true := by
  have hform : s.heaterLost = (State.fault { s with
    scn.duty := 0, scn.hinteg := 0, scn.hFault := true, scn.hot := 0, scn.cool := 0 } pSCN 6).raise SCN.INT_HTR_OFF := rfl
  generalize hu : ({ s with scn.duty := 0, scn.hinteg := 0, scn.hFault := true, scn.hot := 0, scn.cool := 0 } : State) = u at hform
  have hscn : s.heaterLost.scn = u.scn := by
    rw [hform]
    exact (show _ = (u.fault pSCN 6).scn from rfl).trans ((SafFrame.refl u).fault pSCN 6).scn
  rw [hscn, ← hu]
  refine ⟨rfl, rfl, rfl, ?_, ?_⟩
  · rw [hform]
    exact (State.on_put_ne _ _ _ _ (by decide)).trans (fault_on_self _ (by decide) (by decide))
  · rw [hform]
    exact State.on_put_self _ _ _ (by decide)

theorem heaterLaw_shows (s : State) (t : Int) :
    let e := max (-32768) (min 32767 (s.rdI SCN.HTR_SP - t))
    let tried := acc40 [s.scn.hinteg, s.rdI SCN.HKI * e]
    let shift := 15 - s.rd SCN.HTR_SHIFT
    let u := acc40 [s.rdI SCN.HKP * e, tried] / 2 ^ shift
    let hi : Int := s.rd SCN.HTR_DMAX
    (s.heaterLaw t).regs = s.regs ∧ (0 ≤ u → u ≤ hi → (s.heaterLaw t).scn.duty = u ∧ (s.heaterLaw t).scn.hinteg = tried)
      ∧ (u < 0 ∨ hi < u → (s.heaterLaw t).scn.duty = max 0 (min hi (acc40 [s.rdI SCN.HKP * e, s.scn.hinteg] / 2 ^ shift))
          ∧ (s.heaterLaw t).scn.hinteg = s.scn.hinteg) := by
  intro e tried shift u hi
  have hhi : 0 ≤ hi := Int.natCast_nonneg _
  have hform : s.heaterLaw t = if decide (0 ≤ u) && decide (u ≤ hi) then { s with scn.hinteg := tried, scn.duty := u.toNat }
      else { s with scn.duty := (clampI (acc40 [s.rdI SCN.HKP * e, s.scn.hinteg] / 2 ^ shift) 0 hi).toNat } := by
    unfold State.heaterLaw
    dsimp only
    rw [sat16_eq, asr_eq, asr_eq]
  rw [clampI_eq hhi] at hform
  clear_value e tried shift u hi
  rw [hform]
  split
  · next h =>
    rw [Bool.and_eq_true, decide_eq_true_eq, decide_eq_true_eq] at h
    exact ⟨rfl, fun _ _ => ⟨Int.toNat_of_nonneg h.1, rfl⟩, fun h' => by omega⟩
  · next h =>
    rw [Bool.and_eq_true, decide_eq_true_eq, decide_eq_true_eq] at h
    exact ⟨rfl, fun h1 h2 => absurd ⟨h1, h2⟩ h, fun _ => ⟨Int.toNat_of_nonneg (by omega), rfl⟩⟩

/-- The samples in a row that are too hot, and those that are cool again. -/
def State.heaterHot (s : State) (t : Int) : Nat := if s.rdI SCN.HTR_TMAX < t then min 4 (s.scn.hot + 1) else 0

def State.heaterCool (s : State) (t : Int) : Nat := if t ≤ s.rdI SCN.HTR_TMAX - 48 then min 4 (s.scn.cool + 1) else 0

/-- A temperature read, with over-temperature or without. -/
def State.heaterRead (s : State) (t : Int) (over_ : Bool) : State := { s.wrI SCN.HTR_TEMP t with
  scn.hot := s.heaterHot t, scn.cool := s.heaterCool t, scn.hOver := over_, scn.hFault := false }

/-- The heater off for over-temperature. -/
def State.heaterOff (s : State) : State := (State.fault { s with scn.duty := 0 } pSCN 5).raise SCN.INT_HTR_OFF

theorem heaterTemp_eq (s : State) (t : Int) : s.heaterTemp t =
    let over_ := decide (s.heaterHot t = 4) || (s.scn.hOver && s.heaterCool t != 4)
    if over_ then (s.heaterRead t over_).heaterOff else (s.heaterRead t over_).heaterLaw t := rfl

theorem heaterTemp_cool {s : State} {t : Int} (ht : t ≤ s.rdI SCN.HTR_TMAX) (hover : s.scn.hOver = false) :
    s.heaterTemp t = (s.heaterRead t false).heaterLaw t := by
  have hhot : s.heaterHot t = 0 := if_neg (Int.not_lt.mpr ht)
  rw [heaterTemp_eq, hhot, hover]
  rfl

theorem heaterTemp_hot {s : State} {t : Int} (ht : s.rdI SCN.HTR_TMAX < t) (hhot : 3 ≤ s.scn.hot) :
    s.heaterTemp t = (s.heaterRead t true).heaterOff := by
  have hfour : s.heaterHot t = 4 := (if_pos ht).trans (Nat.min_eq_left (by omega))
  rw [heaterTemp_eq, hfour]
  rfl

theorem heaterOff_shows (s : State) : s.heaterOff.scn.duty = 0 ∧ s.heaterOff.scn.hOver = s.scn.hOver
    ∧ s.heaterOff.on (C.FAULT pSCN 5) = true ∧ s.heaterOff.on SCN.INT_HTR_OFF = true := by
  have hscn : s.heaterOff.scn = { s.scn with duty := 0 } := ((SafFrame.refl { s with scn.duty := 0 }).fault pSCN 5).scn
  rw [hscn]
  exact ⟨rfl, rfl, (State.on_put_ne _ _ _ _ (by decide)).trans (fault_on_self _ (by decide) (by decide)), State.on_put_self _ _ _ (by decide)⟩

theorem heaterRead_shows (s : State) {t : Int} (over_ : Bool) (hlo : -960 ≤ t) (hhi : t ≤ 2400) :
    (s.heaterRead t over_).rdI SCN.HTR_TEMP = t ∧ KeepsRegs [SCN.HTR_TEMP.key] s (s.heaterRead t over_) := by
  refine ⟨?_, ((KeepsRegs.refl _ s).wr _ _ List.mem_cons_self).of_cur rfl⟩
  exact (congrArg (toSigned 16) (State.rd_wr_self _ _ _)).trans (toSigned_ofSigned (by omega) (by omega))

/-- The heater takes a good result. -/
theorem heaterTakes_good {s : State} {r : HkResult} (hopen : r.open_ = false) (hu : r.unsettled = false) (hb : r.blank = false)
    (hst : r.stale = false) (hlo : -960 ≤ r.value) (hhi : r.value ≤ 2400) : s.heaterTakes (some r) = s.heaterTemp r.value := by
  unfold State.heaterTakes
  dsimp only
  rw [hopen, hu, hb, hst, decide_eq_false (Int.not_lt.mpr hlo), decide_eq_false (Int.not_lt.mpr hhi)]
  rfl

theorem heaterTakes_bad {s : State} {r : HkResult} (h : r.open_ = true ∨ r.value < -960 ∨ 2400 < r.value) :
    s.heaterTakes (some r) = s.heaterLost := by
  refine if_pos ?_
  rw [Bool.or_eq_true, Bool.or_eq_true, decide_eq_true_eq, decide_eq_true_eq, or_assoc]
  exact h

/-- Settles O40. -/
theorem mirrorCommandsAndHeater : Obligations.MirrorCommandsAndHeater := by
  intro path value bank r s b slot temp hi16 lo16 may heats
  have hb : b < 2 := bank.isLt
  have hbusy : s.coeffBusy b = true ↔ s.closed = true ∧ (s.rd SCN.BANK_SEL = b ∨ s.rdS SCN.BANK_SEL = b) := by
    simp only [State.coeffBusy, Bool.and_eq_true, Bool.or_eq_true, decide_eq_true_eq]
  refine ⟨fun hrun hbit => ?_, fun hrun hfree => ?_, fun hrun hclosed hbank w => ?_, fun hrun hsaf hgap => ?_,
    fun hrun hgap => exec_mirrorStateUpdate_gap hrun hgap, fun hsaf hgap => ?_, fun hrun hheats hidle hres => ?_, fun hrun hheats => ?_, fun h => ?_⟩
  · have hexec := exec_restart path hrun hbit
    obtain ⟨hkeep, hscn⟩ := restartFields_keeps s value.toNat
    have hmay := mayRestart_keeps hkeep hscn
    generalize s.writeFields pSCN 0x40 value.toNat = u at *
    refine ⟨fun h => ?_, fun h => ?_⟩
    · rw [State.scnRestart, if_pos (hmay.trans ((mayRestart_iff s).mpr h))] at hexec
      refine ⟨_, hexec, (written_shows _).2.2.2.trans ?_, hkeep.of_cur (congrArg Regs.cur ((written_shows _).1.trans rfl))⟩
      rw [← hscn]
      rfl
    · rw [State.scnRestart, if_neg (by rw [hmay, mayRestart_iff]; exact h)] at hexec
      exact ⟨_, hexec, (written_shows _).2.2.2.trans hscn, (written_on _ _).trans (State.on_put_self _ _ _ (by decide))⟩
  · have hfree' : s.coeffBusy b = false := by
      rw [← Bool.not_eq_true, hbusy]
      rintro ⟨hc, hsel⟩
      rcases hfree with h | ⟨h1, h2⟩
      · exact absurd (h.symm.trans hc) Bool.false_ne_true
      · exact hsel.elim h1 h2
    have hexec (w : Fin 4) : exec (.coeffWrite path bank w value) s = .next (s.writeFields pSCN (0x80 + 16 * b + 4 * w) value.toNat).written := by
      rw [exec_coeffWrite path bank w hrun, if_neg (by rw [hfree']; exact Bool.false_ne_true)]
    obtain ⟨h0, h1, h2, h3⟩ := coeffFields hb s value.toNat
    have hpair (w : Fin 4) (f g : Fld) (hform : s.writeFields pSCN (0x80 + 16 * b + 4 * w) value.toNat = s.halvesWritten f g value.toNat)
        (hne : f.key ≠ g.key) (hf : f.width = 16) (hg : g.width = 16) : ∃ t, exec (.coeffWrite path bank w value) s = .next t
          ∧ t.rd f = hi16 ∧ t.rd g = lo16 ∧ KeepsRegs [f.key, g.key] s t := by
      obtain ⟨hh, hl, hk⟩ := halvesWritten_shows s value hne hf hg
      have he := hexec w
      rw [hform] at he
      generalize s.halvesWritten f g value.toNat = u at *
      have hregs : u.written.regs = u.regs := (written_shows u).1
      exact ⟨_, he, (congrArg (fun x => x.cur.rd f) hregs).trans hh, (congrArg (fun x => x.cur.rd g) hregs).trans hl,
        hk.of_cur (congrArg Regs.cur hregs)⟩
    have hne : ∀ b < 2, (SCN.KP b).key ≠ (SCN.KI b).key ∧ (SCN.KD b).key ≠ (SCN.DF b).key ∧ (SCN.KFV b).key ≠ (SCN.KFA b).key := by decide
    obtain ⟨hn0, hn1, hn2⟩ := hne b hb
    refine ⟨fun w hw => ?_, _, hexec 3, ?_, ?_⟩
    · simp only [List.mem_cons, List.not_mem_nil, or_false] at hw
      rcases hw with rfl | rfl | rfl
      · exact hpair 0 _ _ h0 hn0 rfl rfl
      · exact hpair 1 _ _ h1 hn1 rfl rfl
      · exact hpair 2 _ _ h2 hn2 rfl rfl
    · have hregs := (written_shows (s.writeFields pSCN (0x80 + 16 * b + 4 * ((3 : Fin 4) : Nat)) value.toNat)).1
      rw [State.rd, hregs]
      refine (congrArg (fun t => State.rd t (SCN.OUT_SHIFT b)) h3).trans ((State.rd_wr_self _ _ _).trans ?_)
      rw [bits, Nat.pow_zero, Nat.div_one]
      exact Nat.mod_mod _ _
    · have hregs := (written_shows (s.writeFields pSCN (0x80 + 16 * b + 4 * ((3 : Fin 4) : Nat)) value.toNat)).1
      refine KeepsRegs.of_cur ?_ (congrArg Regs.cur hregs)
      exact h3.symm ▸ (KeepsRegs.refl _ s).wr _ _ List.mem_cons_self
  · rw [exec_coeffWrite path bank w hrun, if_pos (hbusy.mpr ⟨hclosed, hbank⟩)]
    rfl
  · have hgap' : s.mirrorTaken.pwr.hold = false := hgap
    obtain ⟨h0, h1, h2⟩ := safMirror_trip hgap'
    rw [mirrorTaken_mirror hrun] at h0 h1 h2
    exact ⟨_, exec_mirrorStateUpdate hrun hsaf hgap, (safMirror_frame hgap').scn.trans rfl, h0, h1, h2⟩
  · have hgap' : s.heartbeatMissed.pwr.hold = false := hgap
    have hm : s.heartbeatMissed.mirror = 1 := rfl
    exact ⟨_, sentinel_done _ hsaf hgap, (safMirror_frame hgap').scn.trans rfl, ((safMirror_trip hgap').2.1 hm).1⟩
  · intro e tried shift u hi heard good
    have hexec := exec_heaterSample hrun hheats.1 hheats.2 hidle
    have hsample := heaterSample_eq s
    rw [hres] at hsample
    refine ⟨fun hheard hgood hcool hover => ?_, fun hbad => ?_, fun hheard hgood hhot hcount => ?_⟩
    · obtain ⟨ho, hu, hbl, hst, hlo, hhi⟩ := hgood
      obtain ⟨htemp, hkeep⟩ := heaterRead_shows s.heaterBegun false hlo hhi
      rw [if_neg (heaterSilent_heard hheard), heaterTakes_good ho hu hbl hst hlo hhi, heaterTemp_cool (s := s.heaterBegun) hcool hover] at hsample
      rw [hsample] at hexec
      have hlaw := heaterLaw_shows (s.heaterBegun.heaterRead r.value false) r.value
      dsimp only at hlaw
      obtain ⟨hregs, hin, hout⟩ := hlaw
      have hrd (f : Fld) : ((s.heaterBegun.heaterRead r.value false).heaterLaw r.value).rd f = (s.heaterBegun.heaterRead r.value false).rd f :=
        congrArg (fun x => x.cur.rd f) hregs
      have hread (f : Fld) (hf : f.key ∉ [SCN.HTR_TEMP.key]) : (s.heaterBegun.heaterRead r.value false).rd f = s.rd f := hkeep f hf
      have hreadI (f : Fld) (hf : f.key ∉ [SCN.HTR_TEMP.key]) : (s.heaterBegun.heaterRead r.value false).rdI f = s.rdI f :=
        congrArg (toSigned f.width) (hread f hf)
      rw [hreadI SCN.HTR_SP (by decide), hreadI SCN.HKI (by decide), hreadI SCN.HKP (by decide), hread SCN.HTR_SHIFT (by decide),
        hread SCN.HTR_DMAX (by decide)] at hin hout
      exact ⟨_, hexec, (congrArg (toSigned 16) (hrd SCN.HTR_TEMP)).trans htemp, fun f hf => (hrd f).trans (hread f hf), hin, hout⟩
    · have hlost : s.heaterSample = s.heaterBegun.heaterLost := by
        rw [hsample]
        split
        · rfl
        · next hs => exact heaterTakes_bad (hbad.resolve_left fun h => hs (heaterSilent_unheard h))
      rw [hlost] at hexec
      exact ⟨_, hexec, heaterLost_shows _⟩
    · obtain ⟨ho, hu, hbl, hst, hlo, hhi⟩ := hgood
      rw [if_neg (heaterSilent_heard hheard), heaterTakes_good ho hu hbl hst hlo hhi, heaterTemp_hot (s := s.heaterBegun) hhot hcount] at hsample
      rw [hsample] at hexec
      exact ⟨_, hexec, heaterOff_shows _⟩
  · have hdrives : (s.runs pSCN && s.on SCN.HTR_EN && !s.on (C.HALTED pSCN)) = true := by
      rw [hrun, hheats.1, hheats.2]
      rfl
    refine congrArg Host.Outcome.next ?_
    dsimp only
    rw [hdrives, if_pos hrun]
    rfl
  · have hdrives : (s.runs pSCN && s.on SCN.HTR_EN && !s.on (C.HALTED pSCN)) = false := by
      rw [← Bool.not_eq_true, Bool.and_eq_true, Bool.and_eq_true, Bool.not_eq_true']
      rintro ⟨⟨h1, h2⟩, h3⟩
      rcases h with h | h
      · exact absurd (h.symm.trans h1) Bool.false_ne_true
      · exact h ⟨h2, h3⟩
    exact ⟨_, rfl, if_neg (by rw [hdrives]; exact Bool.false_ne_true)⟩

end Sys2Proof.Machine
end

section
/-! PROOFS. CAL's own commands and the lamp tick (R372, R378, R380, R381, R431 to R439). -/
namespace Sys2Proof.Machine
open Sys2Proof

/-! ### CAL's own commands -/

theorem exec_timSessionTimeout {s : State} {input : Fin 2} {x : Session} (hrun : s.runs pCAL = true)
    (hx : s.cal.timSessions.find? (fun y => y.chan = 528 + (input : Nat)) = some x) (hshort : x.hist.sum < 16384) :
    exec (.timSessionTimeout input) s = .next (State.endShort
      { s with cal.timSessions := s.cal.timSessions.filter fun y => y.chan != 528 + (input : Nat) } x 2) := by
  refine congrArg Host.Outcome.next ?_
  dsimp only
  rw [if_neg (by rw [hrun]; decide), hx]
  exact if_neg (Nat.not_le.mpr hshort)

theorem endShort_shows (s : State) (x : Session) (code : Nat) : (s.endShort x code).cal.timSessions = s.cal.timSessions
    ∧ (s.endShort x code).cal.sets = s.cal.sets ∧ (s.endShort x code).rd CAL.SESS_SHORT = min (s.rd CAL.SESS_SHORT + 1) 65535
    ∧ (s.endShort x code).on CAL.INT_SESS_SHORT = true :=
  ⟨rfl, rfl, (State.rd_put_ne _ _ _ _ (by decide)).trans (State.rd_count _ _ _), State.on_put_self _ _ _ (by decide)⟩

theorem strskWord_valid {s : State} {v : Nat} (h8 : 8 ≤ bits v 0 13) (hmax : bits v 0 13 ≤ 4096) (hbit : bit v 31 = true) :
    s.strskWord v = if s.safety != sfCommission || !s.on EMT.MPD_EN then (s.wrS CAL.STRSK_SHOTS (bits v 0 13)).err (C.ERR_STATE pCAL)
      else { (s.wrS CAL.STRSK_SHOTS (bits v 0 13)).put CAL.ST_STRSK_BUSY true with
        cal.strskArmed := true, cal.strskLeft := 0, cal.strskNext := 0, cal.strskSum := [], cal.strskN := [] } := by
  unfold State.strskWord
  dsimp only
  rw [decide_eq_true h8, decide_eq_true hmax, hbit]
  rfl

theorem exec_strskStart {s : State} {path : Path} {value : Word} (hrun : s.runs pCAL = true) (h8 : 8 ≤ bits value.toNat 0 13)
    (hmax : bits value.toNat 0 13 ≤ 4096) (hbit : value.getLsbD 31 = true) : exec (.strskStart path value) s = .next (
      let u : State := { s with bus := {} }
      if s.safety != sfCommission || !s.on EMT.MPD_EN then (u.wrS CAL.STRSK_SHOTS (bits value.toNat 0 13)).err (C.ERR_STATE pCAL)
      else { (u.wrS CAL.STRSK_SHOTS (bits value.toNat 0 13)).put CAL.ST_STRSK_BUSY true with
        cal.strskArmed := true, cal.strskLeft := 0, cal.strskNext := 0, cal.strskSum := [], cal.strskN := [] }) :=
  congrArg Host.Outcome.next ((State.writeTo_runs s pCAL _ hrun).trans (strskWord_valid h8 hmax ((bit_toNat value 31).trans hbit)))

theorem fault_cal (s : State) (p b : Nat) : (s.fault p b).cal = s.cal := by
  have hfold := foldl_keeps State.cal (l := List.range 32)
    (f := fun s i => if bit (2 ^ b + faultCommons p b) i then s.put (C.FAULT p i) true else s) (fun t i _ => by split <;> rfl) s
  unfold State.fault State.setFaults
  dsimp only
  generalize List.foldl _ s _ = u at *
  split
  · exact hfold
  · exact hfold

/-- What CAL_SAVE stores. -/
def State.calCopyNow (s : State) : CalCopy :=
  { sets := s.cal.sets, props := s.cal.props, ofs := (List.range 5).map fun g => s.rdI (CAL.CVH_OFS g) }

theorem calCopyNow_ofs (s : State) {g : Nat} (hg : g < 5) : s.calCopyNow.ofs.getD g 0 = s.rdI (CAL.CVH_OFS g) := by
  have hlen : g < s.calCopyNow.ofs.length := by simpa [State.calCopyNow] using hg
  rw [List.getD_eq_getElem _ _ hlen]
  simp [State.calCopyNow]

/-! ### The derating level (R436) -/

theorem fault_lmp (s : State) : s.fault pLMP 0 = (s.put (C.FAULT pLMP 0) true).put (C.FAULT pLMP 25) true := rfl

/-- The registers of a new level. -/
def lampKeys : List Nat := [LMP.DERATE_LEVEL.key, LMP.INT_LEVEL_CHANGE.key, (C.FAULT pLMP 0).key, (C.FAULT pLMP 25).key]

theorem lampLevel_shows (s : State) : s.lampLevel.lmp = s.lmp ∧ s.lampLevel.pins = s.pins
    ∧ s.lampLevel.rd LMP.DERATE_LEVEL % 2 ^ 3 = s.lmp.level % 2 ^ 3 ∧ KeepsRegs lampKeys s s.lampLevel := by
  have hkeep : KeepsRegs lampKeys s ((s.wr LMP.DERATE_LEVEL s.lmp.level).raise LMP.INT_LEVEL_CHANGE) :=
    ((KeepsRegs.refl _ s).wr _ _ (by decide)).put _ _ (by decide)
  have hlevel : ((s.wr LMP.DERATE_LEVEL s.lmp.level).raise LMP.INT_LEVEL_CHANGE).rd LMP.DERATE_LEVEL = s.lmp.level % 2 ^ 3 :=
    (State.rd_put_ne _ _ _ _ (by decide)).trans (State.rd_wr_self _ _ _)
  unfold State.lampLevel
  split
  · next h => exact ⟨rfl, rfl, by rw [h], KeepsRegs.refl _ s⟩
  · dsimp only
    split
    · rw [fault_lmp]
      refine ⟨rfl, rfl, ?_, (hkeep.put _ _ (by decide)).put _ _ (by decide)⟩
      rw [State.rd_put_ne _ _ _ _ (by decide), State.rd_put_ne _ _ _ _ (by decide), hlevel, Nat.mod_mod]
    · exact ⟨rfl, rfl, by rw [hlevel, Nat.mod_mod], hkeep⟩

/-! ### The gates of a tick (R431, R438) -/

theorem gates_bit {g : Nat → Bool} {st : Nat} (h : st < 4) : bit ((List.range 4).map fun i => if g i then 2 ^ i else 0).sum st = g st := by
  have hsum : ∀ a b c d : Bool, ∀ i < 4, bit ((if a then 2 ^ 0 else 0) + ((if b then 2 ^ 1 else 0) + ((if c then 2 ^ 2 else 0)
      + ((if d then 2 ^ 3 else 0) + 0)))) i = [a, b, c, d].getD i false := by decide
  refine (hsum (g 0) (g 1) (g 2) (g 3) st h).trans ?_
  obtain rfl | rfl | rfl | rfl : st = 0 ∨ st = 1 ∨ st = 2 ∨ st = 3 := by omega
  all_goals rfl

theorem lampPins_dark (s : State) : (s.lampPins true).pins.lg = 0 := rfl

theorem lampPins_lit (s : State) {st : Nat} (h : st < 4) :
    bit (s.lampPins false).pins.lg st = (s.stringOpen st && (List.range 16).any fun i => Tab.get false s.lmp.lit (16 * st + i)) := by
  have hshow : (List.range 16).any (fun i => s.lampShows (16 * st + i))
      = (s.stringOpen st && (List.range 16).any fun i => Tab.get false s.lmp.lit (16 * st + i)) := by
    have heach : (List.range 16).any (fun i => s.lampShows (16 * st + i))
        = (List.range 16).any fun i => s.stringOpen st && Tab.get false s.lmp.lit (16 * st + i) := by
      refine any_congr_mem fun i hi => ?_
      have := List.mem_range.mp hi
      rw [State.lampShows, show (16 * st + i) / 16 = st by omega]
    rw [heach]
    cases s.stringOpen st with
    | true => rfl
    | false => simp
  refine (gates_bit (g := fun st => (List.range 16).any fun i => s.lampShows (16 * st + i)) h).trans hshow

/-! ### The parts of a tick -/

/-- Where a string's fade began, and the ticks since. -/
def State.fadeFrom (s : State) (st : Nat) : Nat := if s.lmp.asked.contains st then s.rd (LMP.LEVEL_NOW st) else Tab.get 0 s.lmp.fadeFrom st

def State.fadeTicks (s : State) (st : Nat) : Nat := if s.lmp.asked.contains st then 0 else Tab.get 0 s.lmp.fadeTicks st + 1

/-- The level of a string's fade. -/
def State.fadeShown (s : State) (st : Nat) : State :=
  s.wr (LMP.LEVEL_NOW st) (fadeLevel (s.fadeFrom st) (s.rd (LMP.TARGET st)) (s.fadeTicks st / 500) (s.rd (LMP.FADE_MS st)))

theorem fadeTick_eq (s : State) (st : Nat) : s.fadeTick st =
    if !s.lmp.asked.contains st && !s.lmp.fading.contains st then s
    else if s.rd (LMP.FADE_MS st) ≤ s.fadeTicks st / 500 then
      { s.fadeShown st with
        lmp.fading := s.lmp.fading.filter (· != st), lmp.fadeFrom := Tab.set 0 s.lmp.fadeFrom st 0
        lmp.fadeTicks := Tab.set 0 s.lmp.fadeTicks st 0 }
    else
      { s.fadeShown st with
        lmp.fading := st :: s.lmp.fading.filter (· != st), lmp.fadeFrom := Tab.set 0 s.lmp.fadeFrom st (s.fadeFrom st)
        lmp.fadeTicks := Tab.set 0 s.lmp.fadeTicks st (s.fadeTicks st) } := rfl

theorem fadeTick_keeps (s : State) (st : Nat) : KeepsRegs [(LMP.LEVEL_NOW st).key] s (s.fadeTick st)
    ∧ (s.fadeTick st).pins = s.pins ∧ (s.fadeTick st).lmp.asked = s.lmp.asked ∧ (s.fadeTick st).lmp.acc = s.lmp.acc
    ∧ (s.fadeTick st).lmp.sinceEdge = s.lmp.sinceEdge := by
  have hkeep : KeepsRegs [(LMP.LEVEL_NOW st).key] s (s.fadeShown st) := (KeepsRegs.refl _ s).wr _ _ List.mem_cons_self
  rw [fadeTick_eq]
  split
  · exact ⟨KeepsRegs.refl _ s, rfl, rfl, rfl, rfl⟩
  · split
    · exact ⟨hkeep.of_cur rfl, rfl, rfl, rfl, rfl⟩
    · exact ⟨hkeep.of_cur rfl, rfl, rfl, rfl, rfl⟩

/-- A written TARGET without a fade is the level at once (R433). -/
theorem fadeTick_asked {s : State} {st : Nat} (hask : st ∈ s.lmp.asked) (hms : s.rd (LMP.FADE_MS st) = 0) :
    (s.fadeTick st).rd (LMP.LEVEL_NOW st) = s.rd (LMP.TARGET st) % 2 ^ 10 := by
  have hcontains : s.lmp.asked.contains st = true := List.contains_iff_mem.mpr hask
  have hshown : (s.fadeShown st).rd (LMP.LEVEL_NOW st) = s.rd (LMP.TARGET st) % 2 ^ 10 := by
    rw [State.fadeShown, hms, fadeLevel, if_pos (Nat.zero_le _)]
    exact State.rd_wr_self _ _ _
  rw [fadeTick_eq, hcontains, hms, Bool.not_true, Bool.false_and, if_neg Bool.false_ne_true, if_pos (Nat.zero_le _)]
  exact hshown

/-- What a lamp's step adds to its accumulator. -/
def State.lampAdds (s : State) (l : Nat) : Nat :=
  if bit (s.rd (LMP.LAMP_EN (l / 16))) (l % 16) then s.rd (LMP.LEVEL_NOW (l / 16)) * s.lampM (l / 16) * s.rd (LMP.CORR l) / 1020 else 0

theorem lampStep_open {s : State} {l : Nat} (h : s.stringOpen (l / 16) = true) :
    Tab.get false (s.lampStep l).lmp.lit l = decide (1024 ≤ Tab.get 0 s.lmp.acc l + s.lampAdds l)
      ∧ Tab.get 0 (s.lampStep l).lmp.acc l =
        if 1024 ≤ Tab.get 0 s.lmp.acc l + s.lampAdds l then Tab.get 0 s.lmp.acc l + s.lampAdds l - 1024
        else Tab.get 0 s.lmp.acc l + s.lampAdds l := by
  have hform : s.lampStep l = { s with
      lmp.acc := Tab.set 0 s.lmp.acc l (if 1024 ≤ Tab.get 0 s.lmp.acc l + s.lampAdds l then Tab.get 0 s.lmp.acc l + s.lampAdds l - 1024
        else Tab.get 0 s.lmp.acc l + s.lampAdds l)
      lmp.lit := Tab.set false s.lmp.lit l (decide (1024 ≤ Tab.get 0 s.lmp.acc l + s.lampAdds l)) } := by
    rw [State.lampStep, if_neg (by rw [h]; decide)]
    rfl
  rw [hform]
  exact ⟨Tab.get_set_self _ _ _ _, Tab.get_set_self _ _ _ _⟩

/-- A lamp's step changes its own lamp alone. -/
theorem lampStep_keeps (s : State) (l : Nat) : (s.lampStep l).regs = s.regs ∧ (s.lampStep l).pins = s.pins
    ∧ (s.lampStep l).lmp.sinceEdge = s.lmp.sinceEdge := by
  unfold State.lampStep
  split
  · exact ⟨rfl, rfl, rfl⟩
  · exact ⟨rfl, rfl, rfl⟩

theorem lampStep_other (s : State) {l k : Nat} (hk : k ≠ l) : Tab.get 0 (s.lampStep l).lmp.acc k = Tab.get 0 s.lmp.acc k
    ∧ Tab.get false (s.lampStep l).lmp.lit k = Tab.get false s.lmp.lit k := by
  have hlit (b : Bool) : Tab.get false (Tab.set false s.lmp.lit l b) k = Tab.get false s.lmp.lit k := Tab.get_set_ne _ _ _ _ hk
  unfold State.lampStep
  split
  · exact ⟨rfl, hlit false⟩
  · exact ⟨Tab.get_set_ne _ _ _ _ hk, hlit (decide _)⟩

/-! ### All lamps -/

/-- What one step brings about from a state that the other steps keep, and the others do not undo, a fold without repeats brings about. -/
theorem foldl_reach_once {α : Type} {P Q : State → Prop} {f : State → α → State} {l : List α} {a : α} (ha : a ∈ l) (hl : l.Nodup)
    (hkeepQ : ∀ s b, b ∈ l → b ≠ a → Q s → Q (f s b)) (hmake : ∀ s, Q s → P (f s a)) (hkeep : ∀ s b, b ∈ l → b ≠ a → P s → P (f s b))
    (s : State) (hQ : Q s) : P (l.foldl f s) := by
  induction l generalizing s with
  | nil => exact absurd ha List.not_mem_nil
  | cons b l ih =>
    obtain ⟨hb, hl⟩ := List.nodup_cons.mp hl
    rw [List.foldl_cons]
    by_cases hba : b = a
    · subst hba
      exact List.foldlRecOn (motive := P) _ _ (hmake s hQ) fun t ht c hc => hkeep t c (List.mem_cons_of_mem _ hc) (fun e => hb (e ▸ hc)) ht
    · exact ih ((List.mem_cons.mp ha).resolve_left fun e => hba e.symm) hl (fun s c hc => hkeepQ s c (List.mem_cons_of_mem _ hc))
        (fun s c hc => hkeep s c (List.mem_cons_of_mem _ hc)) _ (hkeepQ s b List.mem_cons_self hba hQ)

/-- The steps of all lamps. -/
def State.lampSteps (s : State) : State := (List.range 64).foldl State.lampStep s

theorem lampSteps_keeps (s : State) : s.lampSteps.regs = s.regs ∧ s.lampSteps.pins = s.pins ∧ s.lampSteps.lmp.sinceEdge = s.lmp.sinceEdge := by
  unfold State.lampSteps
  generalize List.range 64 = l
  exact ⟨foldl_keeps State.regs (fun t l _ => (lampStep_keeps t l).1) s, foldl_keeps State.pins (fun t l _ => (lampStep_keeps t l).2.1) s,
    foldl_keeps (fun t => t.lmp.sinceEdge) (fun t l _ => (lampStep_keeps t l).2.2) s⟩

theorem lampAdds_of_regs {s t : State} (h : t.regs = s.regs) (l : Nat) : t.lampAdds l = s.lampAdds l := by
  unfold State.lampAdds State.lampM State.on State.rd
  rw [h]

theorem stringOpen_unsynced {s : State} {st : Nat} (h : s.on (LMP.SYNC_EN st) = false) : s.stringOpen st = true := by
  rw [State.stringOpen, h]
  rfl

/-- A lamp of a string that is not synchronised has taken its step. -/
def LampStepped (s : State) (l : Nat) (t : State) : Prop :=
  (Tab.get false t.lmp.lit l = true ↔ 1024 ≤ Tab.get 0 s.lmp.acc l + s.lampAdds l)
    ∧ Tab.get 0 t.lmp.acc l =
      if 1024 ≤ Tab.get 0 s.lmp.acc l + s.lampAdds l then Tab.get 0 s.lmp.acc l + s.lampAdds l - 1024 else Tab.get 0 s.lmp.acc l + s.lampAdds l

theorem lampStep_stepped {s t : State} {l : Nat} (hregs : t.regs = s.regs) (hacc : Tab.get 0 t.lmp.acc l = Tab.get 0 s.lmp.acc l)
    (h : s.on (LMP.SYNC_EN (l / 16)) = false) : LampStepped s l (t.lampStep l) := by
  have hopen : t.stringOpen (l / 16) = true := stringOpen_unsynced (by rw [State.on, State.rd, hregs]; exact h)
  obtain ⟨hlit, hsum⟩ := lampStep_open hopen
  rw [lampAdds_of_regs hregs, hacc] at hlit hsum
  exact ⟨by rw [hlit, decide_eq_true_eq], hsum⟩

theorem lampSteps_stepped {s : State} {l : Nat} (hl : l < 64) (h : s.on (LMP.SYNC_EN (l / 16)) = false) : LampStepped s l s.lampSteps := by
  unfold State.lampSteps
  have hmem : l ∈ List.range 64 := List.mem_range.mpr hl
  have hnodup : (List.range 64).Nodup := List.nodup_range
  generalize List.range 64 = r at *
  refine foldl_reach_once (P := fun t => t.regs = s.regs ∧ LampStepped s l t)
    (Q := fun t => t.regs = s.regs ∧ Tab.get 0 t.lmp.acc l = Tab.get 0 s.lmp.acc l) hmem hnodup ?_ ?_ ?_ s ⟨rfl, rfl⟩ |>.2
  · intro t k _ hk ⟨hregs, hacc⟩
    exact ⟨(lampStep_keeps t k).1.trans hregs, (lampStep_other t (Ne.symm hk)).1.trans hacc⟩
  · intro t ⟨hregs, hacc⟩
    exact ⟨(lampStep_keeps t l).1.trans hregs, lampStep_stepped hregs hacc h⟩
  · intro t k _ hk ⟨hregs, hlit, hacc⟩
    obtain ⟨ha, hb⟩ := lampStep_other t (Ne.symm hk)
    exact ⟨(lampStep_keeps t k).1.trans hregs, by rw [hb]; exact hlit, ha.trans hacc⟩

/-! ### The whole tick -/

/-- The fades of a tick. -/
def State.fadeAll (s : State) : State := (List.range 4).foldl State.fadeTick s

def levelKeys : List Nat := (List.range 4).map fun st => (LMP.LEVEL_NOW st).key

theorem fadeAll_keeps (s : State) : KeepsRegs levelKeys s s.fadeAll ∧ s.fadeAll.pins = s.pins ∧ s.fadeAll.lmp.acc = s.lmp.acc
    ∧ s.fadeAll.lmp.sinceEdge = s.lmp.sinceEdge := by
  have hone (t : State) (st : Nat) (h : st ∈ List.range 4) : KeepsRegs levelKeys t (t.fadeTick st) :=
    (fadeTick_keeps t st).1.mono fun k hk => List.mem_singleton.mp hk ▸ List.mem_map.mpr ⟨st, h, rfl⟩
  unfold State.fadeAll
  generalize List.range 4 = l at *
  exact ⟨KeepsRegs.foldl hone s, foldl_keeps State.pins (fun t st _ => (fadeTick_keeps t st).2.1) s,
    foldl_keeps (fun t => t.lmp.acc) (fun t st _ => (fadeTick_keeps t st).2.2.2.1) s,
    foldl_keeps (fun t => t.lmp.sinceEdge) (fun t st _ => (fadeTick_keeps t st).2.2.2.2) s⟩

theorem fadeAll_asked {s : State} {st : Nat} (hst : st < 4) (hask : st ∈ s.lmp.asked) (hms : s.rd (LMP.FADE_MS st) = 0) :
    s.fadeAll.rd (LMP.LEVEL_NOW st) = s.rd (LMP.TARGET st) % 2 ^ 10 := by
  have hne (k : Nat) (hk : k ≠ st) : (LMP.LEVEL_NOW st).key ∉ [(LMP.LEVEL_NOW k).key] := by
    simp only [LMP.LEVEL_NOW, fld_key, List.mem_singleton]
    omega
  have htarget (k : Nat) : (LMP.TARGET st).key ∉ [(LMP.LEVEL_NOW k).key] ∧ (LMP.FADE_MS st).key ∉ [(LMP.LEVEL_NOW k).key] := by
    simp only [LMP.LEVEL_NOW, LMP.TARGET, LMP.FADE_MS, fld_key, List.mem_singleton]
    omega
  unfold State.fadeAll
  refine foldl_reach_once (P := fun t => t.rd (LMP.LEVEL_NOW st) = s.rd (LMP.TARGET st) % 2 ^ 10)
    (Q := fun t => st ∈ t.lmp.asked ∧ t.rd (LMP.FADE_MS st) = 0 ∧ t.rd (LMP.TARGET st) = s.rd (LMP.TARGET st))
    (List.mem_range.mpr hst) List.nodup_range ?_ ?_ ?_ s ⟨hask, hms, rfl⟩
  · intro t k _ _ ⟨ha, hm, ht⟩
    obtain ⟨hkeep, -, hasked, -, -⟩ := fadeTick_keeps t k
    exact ⟨hasked ▸ ha, (hkeep _ (htarget k).2).trans hm, (hkeep _ (htarget k).1).trans ht⟩
  · intro t ⟨ha, hm, ht⟩
    exact (fadeTick_asked ha hm).trans (congrArg (· % 2 ^ 10) ht)
  · intro t k _ hk h
    exact ((fadeTick_keeps t k).1 _ (hne k hk)).trans h

/-- The tick's pins, live fields and level, before its fades. -/
def State.tickBegun (s : State) : State := ((s.lampPins false).applyLive pLMP).lampLevel

theorem tickBegun_shows (s : State) : s.tickBegun.lmp = s.lmp ∧ s.tickBegun.pins = (s.lampPins false).pins
    ∧ s.tickBegun.rd LMP.DERATE_LEVEL % 2 ^ 3 = s.lmp.level % 2 ^ 3 := by
  have hbegun (u : State) : (u.applyLive pLMP).lmp = u.lmp ∧ (u.applyLive pLMP).pins = u.pins := ⟨rfl, rfl⟩
  have hlit : (s.lampPins false).lmp = s.lmp := by rw [State.lampPins]
  obtain ⟨hlmp, hpins, hlevel, -⟩ := lampLevel_shows ((s.lampPins false).applyLive pLMP)
  rw [(hbegun _).1, hlit] at hlmp hlevel
  rw [(hbegun _).2] at hpins
  exact ⟨hlmp, hpins, hlevel⟩

theorem lampTick_running {s : State} (h : s.on (C.HALTED pLMP) = false) : s.lampTick =
    { s.tickBegun.fadeAll.lampSteps.put LMP.ST_FADING (s.tickBegun.fadeAll.lampSteps.lmp.fading != []) with
      lmp.asked := [], lmp.sinceEdge := s.tickBegun.fadeAll.lampSteps.lmp.sinceEdge.map (· + 100) } := by
  rw [State.lampTick, if_neg (by rw [h]; exact Bool.false_ne_true), State.tickBegun, State.fadeAll, State.lampSteps]

theorem lampTick_halted {s : State} (h : s.on (C.HALTED pLMP) = true) : s.lampTick =
    { (s.lampPins true).lampLevel with lmp.sinceEdge := (s.lampPins true).lampLevel.lmp.sinceEdge.map (· + 100) } := if_pos h

/-- The lamp tick of a running block. -/
theorem lampTick_running_shows {s : State} (h : s.on (C.HALTED pLMP) = false) :
    s.lampTick.pins = (s.lampPins false).pins ∧ s.lampTick.lmp.asked = [] ∧ s.lampTick.lmp.sinceEdge = s.lmp.sinceEdge.map (· + 100)
      ∧ s.lampTick.rd LMP.DERATE_LEVEL % 2 ^ 3 = s.lmp.level % 2 ^ 3
      ∧ KeepsRegs [LMP.ST_FADING.key] s.tickBegun.fadeAll s.lampTick
      ∧ (∀ l < 64, s.tickBegun.fadeAll.on (LMP.SYNC_EN (l / 16)) = false → LampStepped s.tickBegun.fadeAll l s.lampTick)
      ∧ s.tickBegun.fadeAll.lmp.acc = s.lmp.acc := by
  obtain ⟨hlmp, hpins, hlevel⟩ := tickBegun_shows s
  obtain ⟨hfade, hfpins, hacc, hedge⟩ := fadeAll_keeps s.tickBegun
  obtain ⟨hregs, hspins, hsedge⟩ := lampSteps_keeps s.tickBegun.fadeAll
  have hstep := fun l hl => lampSteps_stepped (s := s.tickBegun.fadeAll) (l := l) hl
  rw [lampTick_running h]
  generalize s.tickBegun = u at *
  generalize u.fadeAll = v at *
  generalize v.lampSteps = w at *
  have hkeep : KeepsRegs [LMP.ST_FADING.key] v (w.put LMP.ST_FADING (w.lmp.fading != [])) :=
    ((KeepsRegs.refl _ v).of_cur (congrArg Regs.cur hregs)).put _ _ List.mem_cons_self
  refine ⟨?_, rfl, ?_, ?_, hkeep.of_cur rfl, hstep, ?_⟩
  · exact hspins.trans (hfpins.trans hpins)
  · exact congrArg (Option.map _) (hsedge.trans (hedge.trans (congrArg (·.sinceEdge) hlmp)))
  · refine Eq.trans (congrArg (· % 2 ^ 3) ?_) hlevel
    exact (hkeep LMP.DERATE_LEVEL (by decide)).trans (hfade LMP.DERATE_LEVEL (by decide))
  · rw [hacc, hlmp]

/-! ### The statement -/

/-- Settles O43. -/
theorem calibrationAndLamps : Obligations.CalibrationAndLamps := by
  refine ⟨?_, ?_⟩
  · intro path value input lane w h x s hrun n l
    refine ⟨fun hx hshort => ?_, fun h8 hmax hbit => ⟨fun hst hmpd => ?_, fun hbad => ?_⟩, fun hch => ⟨fun hnvs hok => ?_, fun hnvs hok => ?_, fun hnvs => ?_⟩,
      fun hper => ?_, fun hper => ⟨fun hlane => ?_, fun hlane => ?_⟩⟩
    · obtain ⟨h1, h2, h3, h4⟩ := endShort_shows { s with cal.timSessions := s.cal.timSessions.filter fun y => y.chan != 528 + (input : Nat) } x 2
      refine ⟨_, exec_timSessionTimeout hrun hx hshort, h1.trans ?_, h3, h4, h2⟩
      exact List.filter_congr fun y _ => Bool.eq_iff_iff.mpr (by simp)
    · have hn : bits value.toNat 0 13 = n := by rw [bits, Nat.pow_zero, Nat.div_one]
      have hexec := exec_strskStart (path := path) (value := value) hrun (hn ▸ h8) (hn ▸ hmax) hbit
      have hcomm : (s.safety != sfCommission || !s.on EMT.MPD_EN) = false := by
        rw [State.safety, hst, hmpd]
        rfl
      rw [hcomm, hn] at hexec
      refine ⟨_, hexec, ?_, ?_, rfl⟩
      · exact (State.rdS_wrS_self _ _ _).trans (Nat.mod_eq_of_lt (by show n < 2 ^ 13; omega))
      · exact State.on_put_self _ _ _ (by decide)
    · have hn : bits value.toNat 0 13 = n := by rw [bits, Nat.pow_zero, Nat.div_one]
      have hexec := exec_strskStart (path := path) (value := value) hrun (hn ▸ h8) (hn ▸ hmax) hbit
      have hcomm : (s.safety != sfCommission || !s.on EMT.MPD_EN) = true := by
        rw [Bool.or_eq_true, bne_iff_ne, Bool.not_eq_true']
        exact hbad
      rw [hcomm] at hexec
      refine ⟨_, hexec, State.on_put_self _ _ _ (by decide), ?_, rfl⟩
      exact ((KeepsRegs.refl _ s).of_cur rfl).put _ _ List.mem_cons_self
    · have hexec : exec .calSave s = .next { (s.put CAL.ST_SAVE_PENDING false).raise CAL.INT_SAVED with
          nvs.calCopy := some s.calCopyNow, cal.changed := false } := by
        refine congrArg Host.Outcome.next ?_
        rw [if_neg (by rw [hrun, hch]; decide), if_neg (by rw [hnvs]; decide), if_neg (by rw [hok]; decide)]
        rfl
      exact ⟨_, s.calCopyNow, hexec, rfl, rfl, rfl, fun g hg => calCopyNow_ofs s hg, rfl, State.on_put_self _ _ _ (by decide),
        (State.on_put_ne _ _ _ _ (by decide)).trans (State.on_put_self _ _ _ (by decide))⟩
    · have hexec : exec .calSave s = .next (((s.count NVS.BLOCKED_CNT 1).raise NVS.INT_BLOCKED).raise CAL.INT_SAVE_DEFER) := by
        refine congrArg Host.Outcome.next ?_
        rw [if_neg (by rw [hrun, hch]; decide), if_neg (by rw [hnvs]; decide), if_pos (by rw [hok]; decide), State.nvsBlocked, if_pos hnvs]
      exact ⟨_, hexec, rfl, rfl, State.on_put_self _ _ _ (by decide),
        (State.rd_put_ne _ _ _ _ (by decide)).trans ((State.rd_put_ne _ _ _ _ (by decide)).trans (State.rd_count _ _ _))⟩
    · have hexec : exec .calSave s = .next (s.fault pCAL 2) := by
        refine congrArg Host.Outcome.next ?_
        rw [if_neg (by rw [hrun, hch]; decide), if_pos (by rw [hnvs]; decide)]
      have hrest := (SafFrame.refl s).fault pCAL 2
      exact ⟨_, hexec, (congrArg State.nvs hrest.rest).trans rfl, fault_cal s pCAL 2, fault_on_self _ (by decide) (by decide)⟩
    · refine congrArg Host.Outcome.next (if_pos ?_)
      rw [hper]
      simp
    · have hexec : exec (.eyeScan lane w h) s =
          .next (((s.put (CAL.EYE_VALID l) true).wr (CAL.EYE_W l) w.toNat).wr (CAL.EYE_H l) h.toNat) := by
        refine congrArg Host.Outcome.next ?_
        rw [if_neg (by rw [hrun]; simpa using hper), if_pos hlane]
      have hw := w.isLt
      have hh := h.isLt
      have hkeys : ∀ l < 6, (CAL.EYE_VALID l).key ≠ (CAL.EYE_W l).key ∧ (CAL.EYE_VALID l).key ≠ (CAL.EYE_H l).key
          ∧ (CAL.EYE_W l).key ≠ (CAL.EYE_H l).key := by decide
      obtain ⟨k1, k2, k3⟩ := hkeys l lane.isLt
      refine ⟨_, hexec, ?_, ?_, ?_, ?_⟩
      · exact (congrArg (· != 0) ((State.rd_wr_ne _ _ _ _ k2).trans (State.rd_wr_ne _ _ _ _ k1))).trans (State.on_put_self _ _ _ Nat.one_pos)
      · exact (State.rd_wr_ne _ _ _ _ k3).trans ((State.rd_wr_self _ _ _).trans (Nat.mod_eq_of_lt hw))
      · exact (State.rd_wr_self _ _ _).trans (Nat.mod_eq_of_lt hh)
      · exact (((KeepsRegs.refl _ s).put _ _ (by simp)).wr _ _ (by simp)).wr _ _ (by simp)
    · refine congrArg Host.Outcome.next ?_
      rw [if_neg (by rw [hrun]; simpa using hper), if_neg hlane]
  · intro s hrun lit after
    have htick : exec .lampTick s = .next s.lampTick := congrArg Host.Outcome.next (if_pos hrun)
    refine ⟨fun h => ⟨_, htick, ?_⟩, fun h => ⟨_, htick, ?_⟩, ⟨_, Nat.mod_lt _ (by decide), congrArg Host.Outcome.next (if_pos hrun)⟩, fun hsync => ?_⟩
    · obtain ⟨hlmp, hpins, hlevel, hkeep⟩ := lampLevel_shows (s.lampPins true)
      have hdark := lampPins_dark s
      have hlit : (s.lampPins true).lmp = s.lmp := by rw [State.lampPins]
      have hregs : (s.lampPins true).regs = s.regs := by rw [State.lampPins]
      rw [lampTick_halted h]
      rw [hlit] at hlmp hlevel
      generalize s.lampPins true = u at *
      generalize u.lampLevel = v at *
      refine ⟨(congrArg Pins.lg hpins).trans hdark, ?_, hlevel, ?_⟩
      · exact congrArg (fun x => { x with sinceEdge := x.sinceEdge.map (· + 100) }) hlmp
      · exact (((KeepsRegs.refl _ s).of_cur (congrArg Regs.cur hregs)).trans hkeep).of_cur rfl
    · obtain ⟨hpins, hasked, hedge, hlevel, hkeep, hstep, hacc⟩ := lampTick_running_shows h
      have hask := tickBegun_shows s
      have hfade := fun st hst => fadeAll_asked (s := s.tickBegun) (st := st) hst
      have hlit := fun st hst => lampPins_lit s (st := st) hst
      obtain ⟨hfk, -⟩ := fadeAll_keeps s.tickBegun
      have hbegunAsked : s.tickBegun.lmp.asked = s.lmp.asked := congrArg LmpState.asked hask.1
      generalize s.lampTick = t at *
      generalize s.tickBegun = u at *
      generalize u.fadeAll = v at *
      refine ⟨fun st hst => ?_, fun l hl hsync => ?_, fun st hst hin hms => ?_, hasked, hedge, hlevel⟩
      · rw [hpins]
        exact hlit st hst
      · have hread (f : Fld) (hf : f.key ∉ [LMP.ST_FADING.key]) : v.rd f = t.rd f := (hkeep f hf).symm
        have hfar : ∀ k < 64, (LMP.SYNC_EN (k / 16)).key ≠ LMP.ST_FADING.key ∧ (LMP.LEVEL_NOW (k / 16)).key ≠ LMP.ST_FADING.key
            ∧ (LMP.DERATE_EXEMPT (k / 16)).key ≠ LMP.ST_FADING.key ∧ (LMP.LAMP_EN (k / 16)).key ≠ LMP.ST_FADING.key
            ∧ (LMP.CORR k).key ≠ LMP.ST_FADING.key := by decide
        obtain ⟨k1, k2, k3, k4, k5⟩ := hfar l hl
        have hstepped := hstep l hl (by rw [State.on, hread _ (by simpa using k1)]; exact hsync)
        unfold LampStepped State.lampAdds State.lampM State.on at hstepped
        rw [hacc, hread (LMP.LEVEL_NOW (l / 16)) (by simpa using k2), hread LMP.DERATE_LEVEL (by decide),
          hread (LMP.DERATE_EXEMPT (l / 16)) (by simpa using k3), hread (LMP.LAMP_EN (l / 16)) (by simpa using k4),
          hread (LMP.CORR l) (by simpa using k5)] at hstepped
        exact hstepped
      · have hfar : ∀ k < 4, (LMP.FADE_MS k).key ∉ [LMP.ST_FADING.key] ∧ (LMP.FADE_MS k).key ∉ levelKeys
            ∧ (LMP.TARGET k).key ∉ [LMP.ST_FADING.key] ∧ (LMP.TARGET k).key ∉ levelKeys ∧ (LMP.LEVEL_NOW k).key ∉ [LMP.ST_FADING.key] := by decide
        obtain ⟨k1, k2, k3, k4, k5⟩ := hfar st hst
        rw [hkeep _ k5, hkeep _ k3, hfk _ k4]
        exact hfade st hst (hbegunAsked ▸ hin) ((hfk _ k2).symm.trans ((hkeep _ k1).symm.trans hms))
    · refine congrArg Host.Outcome.next (if_pos ?_)
      obtain ⟨st, hst, hon⟩ := hsync
      rw [hrun, Bool.true_and, List.any_eq_true]
      exact ⟨st, List.mem_range.mpr hst, hon⟩

end Sys2Proof.Machine
end

section
/-! PROOFS. THM and the THM watch (R385, R387, R390 to R395). -/
namespace Sys2Proof.Machine
open Sys2Proof

theorem SafFrame.thm {s t : State} (h : SafFrame s t) : t.thm = s.thm := (congrArg State.thm h.rest).trans rfl

/-! ### Thresholds (R387) -/

theorem upper_above {x : Thresh} {r θ h : Int} (hh : 0 ≤ h) (hr : θ < r) : x.upper r θ h =
    if x.crossed then { x with down := 0 } else if 3 ≤ x.up then { crossed := true } else { x with up := x.up + 1 } := by
  unfold Thresh.upper
  rw [if_neg (show ¬r ≤ θ - h by omega), if_pos hr]

theorem upper_below {x : Thresh} {r θ h : Int} (hh : 0 ≤ h) (hr : r ≤ θ - h) : x.upper r θ h =
    if x.crossed then (if 3 ≤ x.down then {} else { x with down := x.down + 1 }) else { x with up := 0 } := by
  unfold Thresh.upper
  rw [if_pos hr, if_neg (show ¬θ < r by omega)]

/-- Readings above a threshold keep it crossed, and cross it with the fourth. -/
theorem crossed_above {θ h : Int} (hh : 0 ≤ h) (rs : List Int) : ∀ x : Thresh, x.up ≤ 3 → (∀ r ∈ rs, θ < r) →
    (rs.foldl (fun x r => x.upper r θ h) x).crossed = (x.crossed || decide (4 ≤ x.up + rs.length)) := by
  induction rs with
  | nil => exact fun x hx _ => by simp [show ¬4 ≤ x.up by omega]
  | cons r rs ih =>
    intro x hx hall
    obtain ⟨hr, hrs⟩ := List.forall_mem_cons.mp hall
    rw [List.foldl_cons, upper_above hh hr, List.length_cons]
    cases hc : x.crossed with
    | true =>
      rw [if_pos rfl, ih { x with crossed := true, down := 0 } hx hrs]
      rfl
    | false =>
      rw [if_neg Bool.false_ne_true]
      split
      · rw [ih _ (by decide) hrs]
        simp
        omega
      · rw [ih _ (by show x.up + 1 ≤ 3; omega) hrs]
        simp
        omega

/-- Readings below a threshold less HYST leave it uncrossed, and uncross it with the fourth. -/
theorem crossed_below {θ h : Int} (hh : 0 ≤ h) (rs : List Int) : ∀ x : Thresh, x.down ≤ 3 → (∀ r ∈ rs, r ≤ θ - h) →
    (rs.foldl (fun x r => x.upper r θ h) x).crossed = (x.crossed && decide (x.down + rs.length < 4)) := by
  induction rs with
  | nil => exact fun x hx _ => by simp [show x.down < 4 by omega]
  | cons r rs ih =>
    intro x hx hall
    obtain ⟨hr, hrs⟩ := List.forall_mem_cons.mp hall
    rw [List.foldl_cons, upper_below hh hr, List.length_cons]
    cases hc : x.crossed with
    | false =>
      rw [if_neg Bool.false_ne_true, ih { x with crossed := false, up := 0 } hx hrs]
      rfl
    | true =>
      rw [if_pos rfl]
      split
      · rw [ih _ (by decide) hrs]
        simp
        omega
      · rw [ih _ (by show x.down + 1 ≤ 3; omega) hrs]
        simp
        omega

/-! ### The sensors (R385, R391) -/

theorem bankReading_keeps (s : State) (x : Nat) (r base step h : Int) : (s.bankReading x r base step h).regs = s.regs := by
  unfold State.bankReading
  refine foldl_keeps State.regs ?_ s
  exact fun _ _ _ => rfl

theorem inFrameDo_regs (s : State) (f : Frame → Frame) : (s.inFrameDo f).regs = s.regs := by
  unfold State.inFrameDo
  split <;> rfl

theorem readSensor_regs (s : State) (i : Nat) (r : Int) :
    (s.readSensor i r).regs = if sensorOk r then (s.wrI (THM.READING i) r).regs else (s.raise THM.INT_SENSOR).regs := by
  unfold State.readSensor
  cases sensorOk r with
  | false => rfl
  | true =>
    rw [if_neg (by decide), if_pos rfl]
    dsimp only
    split
    · exact (bankReading_keeps _ _ _ _ _ _).trans (inFrameDo_regs _ _)
    · exact inFrameDo_regs _ _

theorem readSensor_other (s : State) {i k : Nat} (hik : i ≠ k) (r : Int) : (s.readSensor k r).rd (THM.READING i) = s.rd (THM.READING i) := by
  have hne : (THM.READING i).key ≠ (THM.READING k).key := by
    simp only [THM.READING, fld_key]
    omega
  have hint : (THM.READING i).key ≠ THM.INT_SENSOR.key := by
    simp only [THM.READING, THM.INT_SENSOR, fld_key]
    omega
  rw [State.rd, readSensor_regs]
  split
  · exact State.rd_wr_ne _ _ _ _ hne
  · exact State.rd_put_ne _ _ _ _ hint

theorem readSensor_int {s : State} (h : s.on THM.INT_SENSOR = true) (k : Nat) (r : Int) : (s.readSensor k r).on THM.INT_SENSOR = true := by
  have hne : THM.INT_SENSOR.key ≠ (THM.READING k).key := by
    simp only [THM.READING, THM.INT_SENSOR, fld_key]
    omega
  rw [State.on, State.rd, readSensor_regs]
  split
  · exact (congrArg (· != 0) (State.rd_wr_ne _ _ _ _ hne)).trans h
  · exact State.on_put_self _ _ _ (by decide)

theorem rdI_of_word (b : BitVec 16) : toSigned 16 (ofSigned 16 b.toInt % 2 ^ 16) = b.toInt := by
  have hlo := b.le_toInt
  have hhi := b.toInt_lt
  exact toSigned_ofSigned (by simpa using hlo) (by simp at hhi; omega)

theorem readSensor_self (s : State) (i : Nat) (b : BitVec 16) :
    (sensorOk b.toInt = true → (s.readSensor i b.toInt).rdI (THM.READING i) = b.toInt)
      ∧ (sensorOk b.toInt = false → (s.readSensor i b.toInt).rd (THM.READING i) = s.rd (THM.READING i)
          ∧ (s.readSensor i b.toInt).on THM.INT_SENSOR = true) := by
  have hint : (THM.READING i).key ≠ THM.INT_SENSOR.key := by
    simp only [THM.READING, THM.INT_SENSOR, fld_key]
    omega
  refine ⟨fun h => ?_, fun h => ?_⟩
  · rw [State.rdI, State.rd, readSensor_regs, h, if_pos rfl]
    exact (congrArg (toSigned 16) (State.rd_wr_self _ _ _)).trans (rdI_of_word b)
  · have hregs : (s.readSensor i b.toInt).regs = (s.raise THM.INT_SENSOR).regs := by
      rw [readSensor_regs, h, if_neg Bool.false_ne_true]
    exact ⟨(congrArg (fun x : Regs => x.cur.rd (THM.READING i)) hregs).trans (State.rd_put_ne _ _ _ _ hint),
      (congrArg (fun x : Regs => x.cur.rd THM.INT_SENSOR != 0) hregs).trans (State.on_put_self s THM.INT_SENSOR true (by decide))⟩

/-- All sensors' readings. -/
def State.sensorsRead (s : State) (sensors : List (BitVec 16)) : State :=
  sensors.zipIdx.foldl (fun s e => s.readSensor e.2 e.1.toInt) s

/-- A sensor's reading has been taken, or discarded. -/
def SensorTaken (s : State) (i : Nat) (r : Int) (t : State) : Prop :=
  (sensorOk r = true → t.rdI (THM.READING i) = r)
    ∧ (sensorOk r = false → t.rd (THM.READING i) = s.rd (THM.READING i) ∧ t.on THM.INT_SENSOR = true)

theorem sensorsRead_taken (s : State) {sensors : List (BitVec 16)} {i : Nat} (hi : i < sensors.length) :
    SensorTaken s i (sensors[i]).toInt (s.sensorsRead sensors) := by
  have hmem : (sensors[i], i) ∈ sensors.zipIdx := List.mk_mem_zipIdx_iff_getElem?.mpr (List.getElem?_eq_getElem hi)
  have hother (b : BitVec 16 × Nat) (hb : b ∈ sensors.zipIdx) (hne : b ≠ (sensors[i], i)) : i ≠ b.2 := by
    rintro rfl
    have hget := List.mk_mem_zipIdx_iff_getElem?.mp hb
    rw [List.getElem?_eq_getElem hi] at hget
    exact hne (Prod.ext (Option.some.inj hget).symm rfl)
  unfold State.sensorsRead
  refine foldl_reach_once (P := SensorTaken s i (sensors[i]).toInt) (Q := fun t => t.rd (THM.READING i) = s.rd (THM.READING i)) hmem
    ?_ ?_ ?_ ?_ s rfl
  · exact List.Nodup.of_map Prod.snd (List.nodup_zipIdx_map_snd sensors)
  · exact fun t b hb hne h => (readSensor_other t (hother b hb hne) _).trans h
  · intro t h
    obtain ⟨hok, hbad⟩ := readSensor_self t i sensors[i]
    exact ⟨hok, fun e => ⟨(hbad e).1.trans h, (hbad e).2⟩⟩
  · intro t b hb hne ⟨hok, hbad⟩
    have hkeep := readSensor_other t (hother b hb hne) b.1.toInt
    exact ⟨fun e => (congrArg (toSigned 16) hkeep).trans (hok e), fun e => ⟨hkeep.trans (hbad e).1, readSensor_int (hbad e).2 _ _⟩⟩

/-! ### The steps (R391, R392) -/

/-- The registers of the steps, TJ_MAX and TJ_MIN, and the request for fast measurement. -/
def stepKeys : List Nat := [THM.TJ_MAX.key, THM.TJ_MIN.key, THM.HOST_STEP.key, THM.INT_STEP_CHANGE.key, THM.ST_THROTTLING.key, THM.INT_FAST.key,
  THM.ST_FAST.key] ++ (List.range 9).map (fun h => (THM.SHELF_STEP h).key) ++ faultKeys pTHM

theorem showTj_keeps (s : State) : KeepsRegs stepKeys s s.showTj ∧ s.showTj.thm = s.thm := by
  unfold State.showTj
  split
  · exact ⟨KeepsRegs.refl _ s, rfl⟩
  · exact ⟨((KeepsRegs.refl _ s).wr _ _ (by decide)).wr _ _ (by decide), rfl⟩

/-- The field of a domain's step. -/
def stepField (x : Nat) : Fld := if x = 20 then THM.HOST_STEP else THM.SHELF_STEP (x - 11)

theorem showStep_eq (s : State) (x : Nat) : s.showStep x =
    let s1 := if s.bankLevel x = s.rd (stepField x) then s else (s.wr (stepField x) (s.bankLevel x)).raise THM.INT_STEP_CHANGE
    if s.bankLevel x = 4 && x != 20 && s.rd (stepField x) != 4 then s1.fault pTHM 0 else s1 := rfl

theorem bankLevel_le (s : State) (x : Nat) : s.bankLevel x ≤ 4 := by
  unfold State.bankLevel
  split
  · decide
  · split
    · decide
    · split
      · decide
      · split <;> decide

theorem bankLevel_of_thm {s t : State} (h : t.thm = s.thm) (x : Nat) : t.bankLevel x = s.bankLevel x := by
  unfold State.bankLevel State.thresh
  rw [h]

/-- The fields that a step of a domain leaves. -/
theorem showStep_shows (s : State) {x : Nat} (h11 : 11 ≤ x) (h20 : x ≤ 20) : (s.showStep x).rd (stepField x) = s.bankLevel x
    ∧ (s.showStep x).thm = s.thm
    ∧ KeepsRegs ((stepField x).key :: THM.INT_STEP_CHANGE.key :: faultKeys pTHM) s (s.showStep x) := by
  have hkeys : ∀ k < 10, (stepField (11 + k)).key ≠ THM.INT_STEP_CHANGE.key ∧ (stepField (11 + k)).key ∉ faultKeys pTHM
      ∧ (stepField (11 + k)).width = 3 := by decide
  obtain ⟨hint, hfault, hwidth⟩ := hkeys (x - 11) (by omega)
  rw [show 11 + (x - 11) = x by omega] at hint hfault hwidth
  have hle := bankLevel_le s x
  have hmid : ∀ u : State, u = (if s.bankLevel x = s.rd (stepField x) then s
        else (s.wr (stepField x) (s.bankLevel x)).raise THM.INT_STEP_CHANGE) → u.rd (stepField x) = s.bankLevel x ∧ u.thm = s.thm
      ∧ KeepsRegs ((stepField x).key :: THM.INT_STEP_CHANGE.key :: faultKeys pTHM) s u := by
    rintro u rfl
    split
    · next h => exact ⟨h.symm, rfl, KeepsRegs.refl _ s⟩
    · refine ⟨?_, rfl, ((KeepsRegs.refl _ s).wr _ _ (by simp)).put _ _ (by simp)⟩
      refine (State.rd_put_ne _ _ _ _ hint).trans ((State.rd_wr_self _ _ _).trans (Nat.mod_eq_of_lt ?_))
      rw [hwidth]
      omega
  rw [showStep_eq]
  dsimp only
  generalize hu : (if s.bankLevel x = s.rd (stepField x) then s else (s.wr (stepField x) (s.bankLevel x)).raise THM.INT_STEP_CHANGE) = u
  obtain ⟨hrd, hthm, hkeep⟩ := hmid u hu.symm
  split
  · exact ⟨(fault_keepsRegs _ _ _ _ hfault).trans hrd, (((SafFrame.refl u).fault _ _).thm).trans hthm,
      hkeep.trans ((fault_keepsRegs _ _ _).mono fun k hk => List.mem_cons_of_mem _ (List.mem_cons_of_mem _ hk))⟩
  · exact ⟨hrd, hthm, hkeep⟩

theorem stepField_mem {x : Nat} (h11 : 11 ≤ x) (h20 : x ≤ 20) :
    ∀ k ∈ (stepField x).key :: THM.INT_STEP_CHANGE.key :: faultKeys pTHM, k ∈ stepKeys := by
  have hkeys : ∀ k < 10, ∀ y ∈ (stepField (11 + k)).key :: THM.INT_STEP_CHANGE.key :: faultKeys pTHM, y ∈ stepKeys := by decide
  have h := hkeys (x - 11) (by omega)
  rwa [show 11 + (x - 11) = x by omega] at h

/-- All steps shown. -/
def State.stepsShown (s : State) : State := (List.range' 11 10).foldl State.showStep s

theorem mem_domains {x : Nat} : x ∈ List.range' 11 10 ↔ 11 ≤ x ∧ x ≤ 20 := by
  rw [List.mem_range'_1]
  omega

theorem stepsShown_keeps (s : State) : KeepsRegs stepKeys s s.stepsShown ∧ s.stepsShown.thm = s.thm := by
  have hone (t : State) (x : Nat) (hx : x ∈ List.range' 11 10) : KeepsRegs stepKeys t (t.showStep x) ∧ (t.showStep x).thm = t.thm := by
    obtain ⟨h11, h20⟩ := mem_domains.mp hx
    obtain ⟨-, hthm, hkeep⟩ := showStep_shows t h11 h20
    exact ⟨hkeep.mono (stepField_mem h11 h20), hthm⟩
  exact ⟨KeepsRegs.foldl (fun t x hx => (hone t x hx).1) s, foldl_keeps State.thm (fun t x hx => (hone t x hx).2) s⟩

theorem stepsShown_shelf (s : State) {h : Nat} (hh : h < 9) : s.stepsShown.rd (THM.SHELF_STEP h) = s.bankLevel (11 + h) := by
  have hfield : stepField (11 + h) = THM.SHELF_STEP h := by
    rw [stepField, if_neg (by omega), Nat.add_sub_cancel_left]
  have hother : ∀ k < 10, ∀ h < 9, k ≠ h →
      (THM.SHELF_STEP h).key ∉ (stepField (11 + k)).key :: THM.INT_STEP_CHANGE.key :: faultKeys pTHM := by decide +kernel
  unfold State.stepsShown
  refine foldl_reach_once (P := fun t => t.rd (THM.SHELF_STEP h) = s.bankLevel (11 + h)) (Q := fun t => t.thm = s.thm) (a := 11 + h)
    (mem_domains.mpr (by omega)) List.nodup_range' ?_ ?_ ?_ s rfl
  · intro t x hx _ hthm
    obtain ⟨h11, h20⟩ := mem_domains.mp hx
    exact (showStep_shows t h11 h20).2.1.trans hthm
  · intro t hthm
    rw [← hfield, (showStep_shows t (by omega) (by omega)).1, bankLevel_of_thm hthm]
  · intro t x hx hne hP
    obtain ⟨h11, h20⟩ := mem_domains.mp hx
    have hkey := hother (x - 11) (by omega) h hh (by omega)
    rw [show 11 + (x - 11) = x by omega] at hkey
    exact ((showStep_shows t h11 h20).2.2 _ hkey).trans hP

theorem requestFast_keeps (s : State) : KeepsRegs stepKeys s s.requestFast ∧ s.requestFast.thm = s.thm
    ∧ KeepsRegs [THM.INT_FAST.key, THM.ST_FAST.key] s s.requestFast := by
  unfold State.requestFast
  split
  · exact ⟨((KeepsRegs.refl _ s).put _ _ (by decide)).put _ _ (by decide), rfl, ((KeepsRegs.refl _ s).put _ _ (by decide)).put _ _ (by decide)⟩
  · exact ⟨KeepsRegs.refl _ s, rfl, KeepsRegs.refl _ s⟩

/-- The top reading of the round noted. -/
def State.topNoted (s : State) (sensors : List (BitVec 16)) : State := { s with thm.tjLast := (topReading sensors).or s.thm.tjLast }

theorem readSensors_eq (s : State) (sensors : List (BitVec 16)) : s.readSensors sensors =
    (((s.topNoted sensors).sensorsRead sensors).showTj.stepsShown).put THM.ST_THROTTLING
      ((List.range' 11 10).any fun x => 0 < (((s.topNoted sensors).sensorsRead sensors).showTj.stepsShown).bankLevel x) := rfl

theorem sensorOk_iff (r : Int) : sensorOk r = true ↔ -960 ≤ r ∧ r ≤ 2560 := by
  rw [sensorOk, Bool.and_eq_true, decide_eq_true_eq, decide_eq_true_eq]

/-- What a read on THM's own timer leaves. -/
theorem timerRead_shows (s : State) {sensors : List (BitVec 16)} (hlen : sensors.length = 24) :
    (∀ i < 24, SensorTaken s i (sensors.getD i 0).toInt (s.readSensors sensors).requestFast)
      ∧ ∀ h < 9, (s.readSensors sensors).requestFast.rd (THM.SHELF_STEP h) = (s.readSensors sensors).requestFast.bankLevel (11 + h) := by
  have hfar : ∀ i < 24, (THM.READING i).key ∉ stepKeys := by decide
  have hshelf : ∀ h < 9, (THM.SHELF_STEP h).key ≠ THM.ST_THROTTLING.key ∧ (THM.SHELF_STEP h).key ∉ [THM.INT_FAST.key, THM.ST_FAST.key] := by decide
  have htaken := fun i hi => sensorsRead_taken (s.topNoted sensors) (sensors := sensors) (i := i) hi
  rw [readSensors_eq]
  generalize (s.topNoted sensors).sensorsRead sensors = u at *
  obtain ⟨hk1, -⟩ := showTj_keeps u
  obtain ⟨hk2, -⟩ := stepsShown_keeps u.showTj
  have hsteps := fun h hh => stepsShown_shelf u.showTj (h := h) hh
  have hthm := (stepsShown_keeps u.showTj).2
  generalize u.showTj = v at *
  generalize v.stepsShown = w at *
  generalize (List.range' 11 10).any (fun x => 0 < w.bankLevel x) = b
  obtain ⟨hk3, hthm3, hk4⟩ := requestFast_keeps (w.put THM.ST_THROTTLING b)
  generalize (w.put THM.ST_THROTTLING b).requestFast = z at *
  have hkeep : KeepsRegs stepKeys u z := ((hk1.trans hk2).trans ((KeepsRegs.refl _ w).put _ _ (by decide))).trans hk3
  refine ⟨fun i hi => ?_, fun h hh => ?_⟩
  · obtain ⟨hok, hbad⟩ := htaken i (hlen ▸ hi)
    have hget : sensors.getD i 0 = sensors[i] := List.getD_eq_getElem _ _ _
    rw [hget]
    refine ⟨fun e => (congrArg (toSigned 16) (hkeep _ (hfar i hi))).trans (hok e), fun e => ⟨(hkeep _ (hfar i hi)).trans (hbad e).1, ?_⟩⟩
    exact (congrArg (· != 0) (hkeep THM.INT_SENSOR (by decide))).trans (hbad e).2
  · obtain ⟨h1, h2⟩ := hshelf h hh
    rw [hk4 _ h2, State.rd_put_ne _ _ _ _ h1, hsteps h hh]
    exact (bankLevel_of_thm (hthm3.trans hthm) _).symm

theorem roundsStopped_iff (s : State) : s.roundsStopped = true ↔
    s.on CONVH.ST_RUNNING = false ∨ (s.on (C.HALTED pCONVH) = true ∧ s.sense.slot = 0 ∧ s.sense.inPeriod = false) := by
  simp only [State.roundsStopped, Bool.or_eq_true, Bool.and_eq_true, Bool.not_eq_true', decide_eq_true_eq, and_assoc]

/-! ### A silent derating slot (R390) -/

/-- A derating slot marked as lost, before its level follows. -/
def State.slotMarked (s : State) (x : Nat) : State :=
  ((if x = 24 then { s with thm.emtLost := true } else { s with thm.lmpLost := true } : State).fault pTHM 1).setSlotSeen x false

theorem slotMarked_shows (s : State) (x : Nat) : KeepsRegs (faultKeys pTHM) s (s.slotMarked x) ∧ (s.slotMarked x).on (C.FAULT pTHM 1) = true
    ∧ (s.slotMarked x).rst = s.rst := by
  have hlost (u : State) (b : Bool) : (u.setSlotSeen x b).regs = u.regs ∧ (u.setSlotSeen x b).rst = u.rst := by
    unfold State.setSlotSeen
    split <;> exact ⟨rfl, rfl⟩
  have hmark : ∀ u : State, u = (if x = 24 then { s with thm.emtLost := true } else { s with thm.lmpLost := true }) →
      u.regs = s.regs ∧ u.rst = s.rst := by
    rintro u rfl
    split <;> exact ⟨rfl, rfl⟩
  unfold State.slotMarked
  obtain ⟨hregs, hrst⟩ := hmark _ rfl
  generalize (if x = 24 then { s with thm.emtLost := true } else { s with thm.lmpLost := true } : State) = u at *
  obtain ⟨hregs', hrst'⟩ := hlost (u.fault pTHM 1) false
  refine ⟨?_, (congrArg (fun y : Regs => y.cur.rd (C.FAULT pTHM 1) != 0) hregs').trans (fault_on_self _ (by decide) (by decide)), ?_⟩
  · exact (((KeepsRegs.refl _ s).of_cur (congrArg Regs.cur hregs)).trans (fault_keepsRegs u _ _)).of_cur (congrArg Regs.cur hregs')
  · exact hrst'.trans (((SafFrame.refl u).fault _ _).rst.trans hrst)

/-- The level's field of a derating bank. -/
def levelField (x : Nat) : Fld := if x = 24 then THM.EMT_LEVEL else THM.LMP_LEVEL

theorem slotLost_eq (s : State) (x : Nat) : s.slotLost x =
    (s.slotMarked x).setLevel x (max 2 (((if x = 24 then { s with thm.emtLost := true } else { s with thm.lmpLost := true } : State).fault pTHM 1).rd
      (levelField x))) := rfl

theorem setLevel_eq (s : State) (x n : Nat) : s.setLevel x n = if n = s.rd (levelField x) then s
    else if x = 24 then ((s.wr (levelField x) n).raise THM.INT_LEVEL_CHANGE).emtLevel n
    else { (s.wr (levelField x) n).raise THM.INT_LEVEL_CHANGE with lmp.level := n } := rfl

theorem emtLevel_two (s : State) : KeepsRegs [EMT.ST_DERATE_LEVEL.key, EMT.INT_DERATE_CHANGE.key] s (s.emtLevel 2)
    ∧ (s.runs pEMT = true → (s.emtLevel 2).rd EMT.ST_DERATE_LEVEL = 2) := by
  unfold State.emtLevel
  split
  · next h =>
    refine ⟨KeepsRegs.refl _ s, fun hr => ?_⟩
    rw [hr, Bool.not_true, Bool.false_or, decide_eq_true_eq] at h
    exact h.symm
  · rw [if_neg (by decide)]
    exact ⟨((KeepsRegs.refl _ s).wr _ _ (by decide)).put _ _ (by decide), fun _ =>
      (State.rd_put_ne _ _ _ _ (by decide)).trans (State.rd_wr_self _ _ _)⟩

theorem setLevel_high {s : State} {x n : Nat} (h : 2 ≤ s.rd (levelField x)) (hn : n = max 2 (s.rd (levelField x))) : s.setLevel x n = s := by
  rw [setLevel_eq, if_pos (by omega)]

/-- A level below 2 becomes 2, and reaches its unit. -/
theorem setLevel_low {s : State} (lamp : Bool) (h : s.rd (levelField (if lamp then 25 else 24)) < 2) :
    let t := s.setLevel (if lamp then 25 else 24) 2
    t.rd (levelField (if lamp then 25 else 24)) = 2 ∧ t.on THM.INT_LEVEL_CHANGE = true ∧ t.on (C.FAULT pTHM 1) = s.on (C.FAULT pTHM 1)
      ∧ (lamp = false → s.runs pEMT = true → t.rd EMT.ST_DERATE_LEVEL = 2) ∧ (lamp = true → t.lmp.level = 2) := by
  cases lamp with
  | true =>
    rw [setLevel_eq, if_neg (by omega)]
    refine ⟨(State.rd_put_ne _ _ _ _ (by decide)).trans (State.rd_wr_self _ _ _), State.on_put_self _ _ _ (by decide),
      (State.on_put_ne _ _ _ _ (by decide)).trans (congrArg (· != 0) (State.rd_wr_ne _ _ _ _ (by decide))), fun e => absurd e.symm Bool.false_ne_true,
      fun _ => rfl⟩
  | false =>
    have hform : s.setLevel (if false = true then 25 else 24) 2 = ((s.wr THM.EMT_LEVEL 2).raise THM.INT_LEVEL_CHANGE).emtLevel 2 := by
      rw [setLevel_eq, if_neg (by omega)]
      rfl
    rw [hform]
    generalize hu : (s.wr THM.EMT_LEVEL 2).raise THM.INT_LEVEL_CHANGE = u
    have hruns : u.runs pEMT = s.runs pEMT := hu ▸ runs_of_regs rfl ((State.rd_put_ne _ _ _ _ (by decide)).trans (State.rd_wr_ne _ _ _ _ (by decide)))
    obtain ⟨hkeep, hemt⟩ := emtLevel_two u
    refine ⟨(hkeep _ (by decide)).trans ?_, (congrArg (· != 0) (hkeep _ (by decide))).trans ?_, (congrArg (· != 0) (hkeep _ (by decide))).trans ?_,
      fun _ hr => hemt (hruns.trans hr), fun e => absurd e Bool.false_ne_true⟩
    · exact hu ▸ (State.rd_put_ne _ _ _ _ (by decide)).trans (State.rd_wr_self _ _ _)
    · exact hu ▸ State.on_put_self (s.wr THM.EMT_LEVEL 2) THM.INT_LEVEL_CHANGE true (by decide)
    · exact hu ▸ (State.on_put_ne _ _ _ _ (by decide)).trans (congrArg (· != 0) (State.rd_wr_ne _ _ _ _ (by decide)))

theorem slotLost_shows {s : State} (lamp : Bool) :
    let t := s.slotLost (if lamp then 25 else 24)
    let level := if lamp then THM.LMP_LEVEL else THM.EMT_LEVEL
    t.rd level = max 2 (s.rd level) ∧ t.on (C.FAULT pTHM 1) = true
      ∧ (s.rd level < 2 → t.on THM.INT_LEVEL_CHANGE = true ∧ (lamp = false → s.runs pEMT = true → t.rd EMT.ST_DERATE_LEVEL = 2)
        ∧ (lamp = true → t.lmp.level = 2)) := by
  intro t level
  have hfield : levelField (if lamp then 25 else 24) = level := by cases lamp <;> rfl
  have hfar : level.key ∉ faultKeys pTHM := by cases lamp <;> decide
  obtain ⟨hkeep, hfault, hrst⟩ := slotMarked_shows s (if lamp then 25 else 24)
  have hmark : (s.slotMarked (if lamp then 25 else 24)).rd level = s.rd level := hkeep _ hfar
  have hform : t = (s.slotMarked (if lamp then 25 else 24)).setLevel (if lamp then 25 else 24) (max 2 (s.rd level)) := by
    have hinner : (State.fault (if (if lamp then 25 else 24) = 24 then { s with thm.emtLost := true } else { s with thm.lmpLost := true })
        pTHM 1).rd level = s.rd level := by
      refine (fault_keepsRegs _ _ _ _ hfar).trans ?_
      split <;> rfl
    rw [← hinner, ← hfield]
    exact slotLost_eq s _
  have hruns : (s.slotMarked (if lamp then 25 else 24)).runs pEMT = s.runs pEMT := runs_of_regs (by rw [hrst]) (hkeep _ (by decide))
  rw [hform]
  generalize s.slotMarked (if lamp then 25 else 24) = u at *
  by_cases hlow : s.rd level < 2
  · have hset := setLevel_low (s := u) lamp (by rw [hfield, hmark]; exact hlow)
    rw [hfield] at hset
    rw [show max 2 (s.rd level) = 2 by omega]
    obtain ⟨h1, h2, h3, h4, h5⟩ := hset
    exact ⟨h1, h3.trans hfault, fun _ => ⟨h2, fun e hr => h4 e (hruns.trans hr), h5⟩⟩
  · rw [setLevel_high (by rw [hfield, hmark]; omega) (by rw [hfield, hmark])]
    exact ⟨by rw [hmark]; omega, hfault, fun e => absurd e hlow⟩

/-! ### The watch (R393 to R395) -/

theorem setWatch_watchAt (s : State) (k : Nat) (x : Thresh) : (s.setWatch k x).watchAt k = x := Tab.get_set_self _ _ _ _

theorem setWatch_watchAt_ne (s : State) {k j : Nat} (x : Thresh) (h : j ≠ k) : (s.setWatch k x).watchAt j = s.watchAt j :=
  Tab.get_set_ne _ _ _ _ h

theorem watchSensor_regs (s : State) (i : Nat) (r : Int) :
    (s.watchSensor i r).regs = if sensorOk r then (s.wrI (watchField i) r).regs else s.regs := by
  unfold State.watchSensor
  cases sensorOk r with
  | false => rfl
  | true => rfl

theorem watchSensor_miss (s : State) (i : Nat) (r : Int) : (s.watchSensor i r).thm.watchMiss = s.thm.watchMiss := by
  unfold State.watchSensor
  split <;> rfl

theorem watchField_apart : ∀ i < 4, ∀ j < 4, i ≠ j → (watchField i).key ≠ (watchField j).key := by decide

/-- The watch's four readings. -/
def State.watchFour (s : State) (a b c d : BitVec 16) : State :=
  [a.toInt, b.toInt, c.toInt, d.toInt].zipIdx.foldl (fun s e => s.watchSensor e.2 e.1) s

/-- A watch sensor's reading has been taken, or discarded. -/
def WatchTaken (s : State) (i : Nat) (r : Int) (t : State) : Prop :=
  (sensorOk r = true → t.rdI (watchField i) = r) ∧ (sensorOk r = false → t.rd (watchField i) = s.rd (watchField i))

theorem watchSensor_other (s : State) {i j : Nat} (hi : i < 4) (hj : j < 4) (hij : i ≠ j) (r : Int) :
    (s.watchSensor j r).rd (watchField i) = s.rd (watchField i) := by
  rw [State.rd, watchSensor_regs]
  split
  · exact State.rd_wr_ne _ _ _ _ (watchField_apart i hi j hj hij)
  · rfl

theorem watchSensor_self (s : State) {i : Nat} (hi : i < 4) (b : BitVec 16) : WatchTaken s i b.toInt (s.watchSensor i b.toInt) := by
  have hwidth : ∀ i < 4, (watchField i).width = 16 := by decide
  refine ⟨fun h => ?_, fun h => ?_⟩
  · rw [State.rdI, State.rd, watchSensor_regs, h, if_pos rfl]
    refine (congrArg (toSigned _) (State.rd_wr_self _ _ _)).trans ?_
    rw [hwidth i hi]
    exact rdI_of_word b
  · rw [State.rd, watchSensor_regs, h, if_neg Bool.false_ne_true]
    rfl

theorem watchFour_taken (s : State) (a b c d : BitVec 16) : WatchTaken s 0 a.toInt (s.watchFour a b c d)
    ∧ WatchTaken s 1 b.toInt (s.watchFour a b c d) ∧ WatchTaken s 2 c.toInt (s.watchFour a b c d)
    ∧ WatchTaken s 3 d.toInt (s.watchFour a b c d) := by
  have hlater (u t : State) (i : Nat) (r : Int) (h : WatchTaken s i r u) (hrd : t.rd (watchField i) = u.rd (watchField i)) : WatchTaken s i r t :=
    ⟨fun e => (congrArg (toSigned _) hrd).trans (h.1 e), fun e => hrd.trans (h.2 e)⟩
  have hfirst (u : State) (i : Nat) (hi : i < 4) (x : BitVec 16) (hrd : u.rd (watchField i) = s.rd (watchField i)) :
      WatchTaken s i x.toInt (u.watchSensor i x.toInt) :=
    ⟨(watchSensor_self u hi x).1, fun e => ((watchSensor_self u hi x).2 e).trans hrd⟩
  have hform : s.watchFour a b c d =
      (((s.watchSensor 0 a.toInt).watchSensor 1 b.toInt).watchSensor 2 c.toInt).watchSensor 3 d.toInt := rfl
  rw [hform]
  have ho := fun (u : State) (i j : Nat) (hi : i < 4) (hj : j < 4) (hij : i ≠ j) (r : Int) => watchSensor_other u hi hj hij r
  refine ⟨?_, ?_, ?_, ?_⟩
  · refine hlater _ _ 0 _ (hfirst s 0 (by decide) a rfl) ?_
    rw [ho _ 0 3 (by decide) (by decide) (by decide), ho _ 0 2 (by decide) (by decide) (by decide), ho _ 0 1 (by decide) (by decide) (by decide)]
  · refine hlater _ _ 1 _ (hfirst (s.watchSensor 0 a.toInt) 1 (by decide) b (ho s 1 0 (by decide) (by decide) (by decide) _)) ?_
    rw [ho _ 1 3 (by decide) (by decide) (by decide), ho _ 1 2 (by decide) (by decide) (by decide)]
  · refine hlater _ _ 2 _ (hfirst _ 2 (by decide) c ?_) (ho _ 2 3 (by decide) (by decide) (by decide) _)
    rw [ho _ 2 1 (by decide) (by decide) (by decide), ho _ 2 0 (by decide) (by decide) (by decide)]
  · refine hfirst _ 3 (by decide) d ?_
    rw [ho _ 3 2 (by decide) (by decide) (by decide), ho _ 3 1 (by decide) (by decide) (by decide), ho _ 3 0 (by decide) (by decide) (by decide)]

theorem watchFour_keeps (s : State) (a b c d : BitVec 16) : KeepsRegs ((List.range 4).map fun i => (watchField i).key) s (s.watchFour a b c d)
    ∧ (s.watchFour a b c d).thm.watchMiss = s.thm.watchMiss ∧ (s.watchFour a b c d).pwr = s.pwr := by
  have hone (t : State) (i : Nat) (hi : i < 4) (r : Int) : KeepsRegs ((List.range 4).map fun i => (watchField i).key) t (t.watchSensor i r) := by
    have hmem : (watchField i).key ∈ (List.range 4).map fun i => (watchField i).key := List.mem_map.mpr ⟨i, List.mem_range.mpr hi, rfl⟩
    have hregs := watchSensor_regs t i r
    cases hr : sensorOk r with
    | true =>
      rw [hr, if_pos rfl] at hregs
      exact ((KeepsRegs.refl _ t).wr _ _ hmem).of_cur (congrArg Regs.cur hregs)
    | false =>
      rw [hr, if_neg Bool.false_ne_true] at hregs
      exact (KeepsRegs.refl _ t).of_cur (congrArg Regs.cur hregs)
  have hpwr (t : State) (i : Nat) (r : Int) : (t.watchSensor i r).pwr = t.pwr := by
    unfold State.watchSensor
    split <;> rfl
  have hform : s.watchFour a b c d =
      (((s.watchSensor 0 a.toInt).watchSensor 1 b.toInt).watchSensor 2 c.toInt).watchSensor 3 d.toInt := rfl
  rw [hform]
  refine ⟨(((hone _ 0 (by decide) _).trans (hone _ 1 (by decide) _)).trans (hone _ 2 (by decide) _)).trans (hone _ 3 (by decide) _), ?_, ?_⟩
  · rw [watchSensor_miss, watchSensor_miss, watchSensor_miss, watchSensor_miss]
  · rw [hpwr, hpwr, hpwr, hpwr]

/-! ### OVERTEMP and the write window (R394, R395) -/

/-- Whether a watch sensor counts as above CRIT, and whether all are within the write window. -/
def State.watchHot (s : State) : Bool := (List.range 4).any fun i => (s.watchAt (4 * i)).crossed

def State.watchOk (s : State) : Bool := (List.range 4).all fun i => !(s.watchAt (4 * i + 1)).crossed && !(s.watchAt (4 * i + 2)).crossed

theorem watchHot_iff (s : State) : s.watchHot = true ↔ ∃ i < 4, (s.watchAt (4 * i)).crossed = true := by
  simp [State.watchHot]

theorem watchOk_iff (s : State) : s.watchOk = true ↔ ∀ i < 4, (s.watchAt (4 * i + 1)).crossed = false ∧ (s.watchAt (4 * i + 2)).crossed = false := by
  simp [State.watchOk]

def State.overtempShown (s : State) (hot : Bool) : State :=
  if hot && !s.on WATCH.ST_OVERTEMP then (((s.put WATCH.ST_OVERTEMP true).raise WATCH.INT_OVERTEMP).fault pWATCH 0).tripSet 14
  else s.put WATCH.ST_OVERTEMP hot

def State.windowShown (s : State) (ok : Bool) : State :=
  let s2 := if s.on WATCH.ST_NVS_OK && !ok then s.raise WATCH.INT_NVS_BLOCK else s
  let s3 := if ok then s2 else s2.inFrameDo fun fr => { fr with nvsBlocked := true }
  (s3.put WATCH.ST_NVS_OK ok).startPulse

theorem showWatch_eq (s : State) : s.showWatch = (s.overtempShown s.watchHot).windowShown s.watchOk := rfl

/-- The registers of OVERTEMP. -/
def overtempKeys : List Nat := [WATCH.ST_OVERTEMP.key, WATCH.INT_OVERTEMP.key] ++ faultKeys pWATCH ++ tripKeys

theorem overtempShown_shows {s : State} (hgap : s.pwr.hold = false) (hot : Bool) : (s.overtempShown hot).on WATCH.ST_OVERTEMP = hot
    ∧ (s.overtempShown hot).thm = s.thm ∧ KeepsRegs overtempKeys s (s.overtempShown hot)
    ∧ (s.on WATCH.ST_OVERTEMP = false → hot = true → Trips 14 (s.overtempShown hot)) := by
  have hput (b : Bool) : KeepsRegs overtempKeys s (s.put WATCH.ST_OVERTEMP b) := (KeepsRegs.refl _ s).put _ _ (by decide)
  unfold State.overtempShown
  split
  · next h =>
    rw [Bool.and_eq_true, Bool.not_eq_true'] at h
    have hfault := ((SafFrame.refl s).put WATCH.ST_OVERTEMP true).put WATCH.INT_OVERTEMP true |>.fault pWATCH 0
    have hon : ((((s.put WATCH.ST_OVERTEMP true).raise WATCH.INT_OVERTEMP)).fault pWATCH 0).on WATCH.ST_OVERTEMP = true :=
      (fault_on_other _ (by decide)).trans ((State.on_put_ne _ _ _ _ (by decide)).trans (State.on_put_self _ _ _ (by decide)))
    have hkeep : KeepsRegs overtempKeys s (((s.put WATCH.ST_OVERTEMP true).raise WATCH.INT_OVERTEMP).fault pWATCH 0) :=
      ((hput true).put _ _ (by decide)).trans ((fault_keepsRegs _ _ _).mono fun k hk =>
        List.mem_append_left _ (List.mem_append_right _ hk))
    have hgap' : (((s.put WATCH.ST_OVERTEMP true).raise WATCH.INT_OVERTEMP).fault pWATCH 0).pwr.hold = false :=
      (congrArg (·.hold) hfault.pwr).trans hgap
    have hthm := hfault.thm
    change State.thm (((s.put WATCH.ST_OVERTEMP true).raise WATCH.INT_OVERTEMP).fault pWATCH 0) = _ at hthm
    generalize ((s.put WATCH.ST_OVERTEMP true).raise WATCH.INT_OVERTEMP).fault pWATCH 0 = u at *
    have htrips := tripSet_trips (i := 14) (by decide) hgap'
    rw [tripSet_clocked hgap'] at *
    have hk := tripNow_keeps u 14
    refine ⟨?_, (SafFrame.tripNow u 14).thm.trans hthm, hkeep.trans (hk.mono fun k hk => List.mem_append_right _ hk), fun _ _ => htrips⟩
    rw [h.1]
    exact (congrArg (· != 0) (hk _ (by decide))).trans hon
  · next h =>
    refine ⟨State.on_put_self _ _ _ (by decide), rfl, hput hot, fun ho hhot => ?_⟩
    rw [ho, hhot] at h
    exact absurd rfl h

theorem startPulse_keeps (s : State) : s.startPulse.regs = s.regs ∧ s.startPulse.thm = s.thm := by
  unfold State.startPulse
  dsimp only
  split <;> exact ⟨rfl, rfl⟩

theorem windowShown_shows (s : State) (ok : Bool) : (s.windowShown ok).on WATCH.ST_NVS_OK = ok ∧ (s.windowShown ok).thm = s.thm
    ∧ KeepsRegs [WATCH.INT_NVS_BLOCK.key, WATCH.ST_NVS_OK.key] s (s.windowShown ok) := by
  have hinframe (u : State) (f : Frame → Frame) : (u.inFrameDo f).thm = u.thm := by
    unfold State.inFrameDo
    split <;> rfl
  have hmid : ∀ u : State, u = (if s.on WATCH.ST_NVS_OK && !ok then s.raise WATCH.INT_NVS_BLOCK else s) →
      KeepsRegs [WATCH.INT_NVS_BLOCK.key, WATCH.ST_NVS_OK.key] s u ∧ u.thm = s.thm := by
    rintro u rfl
    split
    · exact ⟨(KeepsRegs.refl _ s).put _ _ (by decide), rfl⟩
    · exact ⟨KeepsRegs.refl _ s, rfl⟩
  unfold State.windowShown
  dsimp only
  obtain ⟨hk, hthm⟩ := hmid _ rfl
  generalize (if s.on WATCH.ST_NVS_OK && !ok then s.raise WATCH.INT_NVS_BLOCK else s) = u at *
  have hmid' : ∀ v : State, v = (if ok then u else u.inFrameDo fun fr => { fr with nvsBlocked := true }) → v.regs = u.regs ∧ v.thm = u.thm := by
    rintro v rfl
    split
    · exact ⟨rfl, rfl⟩
    · exact ⟨inFrameDo_regs _ _, hinframe _ _⟩
  obtain ⟨hregs, hthm'⟩ := hmid' _ rfl
  generalize (if ok then u else u.inFrameDo fun fr => { fr with nvsBlocked := true }) = v at *
  obtain ⟨hregs', hthm''⟩ := startPulse_keeps (v.put WATCH.ST_NVS_OK ok)
  refine ⟨(congrArg (fun y : Regs => y.cur.rd WATCH.ST_NVS_OK != 0) hregs').trans (State.on_put_self _ _ _ (by decide)),
    hthm''.trans (hthm'.trans hthm), ?_⟩
  exact ((hk.of_cur (congrArg Regs.cur hregs)).put WATCH.ST_NVS_OK ok (by decide)).of_cur (congrArg Regs.cur hregs')

/-- A trip stays shown while its registers do. -/
theorem trips_of_keeps {keys : List Nat} {s t : State} {i : Nat} (h : KeepsRegs keys s t)
    (hk : ∀ f ∈ [SAF.TRIPS_LATCH, SAF.TRIPS_HOLD, SAF.INT_TRIP, SAF.ST_INHIBIT, SAF.TOKENS, SAF.STATE, SAF.CTR_EN, SAF.SAFE_OK], f.key ∉ keys)
    (ht : Trips i s) : Trips i t := by
  have hrd := fun f hf => h f (hk f hf)
  have hon := fun f hf => congrArg (· != 0) (hrd f hf)
  obtain ⟨h1, h2, h3, h4, h5⟩ := ht
  refine ⟨(trip_of_rd (hrd _ (by simp)) (hrd _ (by simp)) i).trans h1, (hon SAF.INT_TRIP (by simp)).trans h2, (hon SAF.ST_INHIBIT (by simp)).trans h3,
    (hon SAF.TOKENS (by simp)).trans h4, fun h8 => ?_⟩
  obtain ⟨h6, h7, h9⟩ := h5 h8
  exact ⟨(hrd SAF.STATE (by simp)).trans h6, (hon SAF.CTR_EN (by simp)).trans h7, (hon SAF.SAFE_OK (by simp)).trans h9⟩

theorem showWatch_shows {s : State} (hgap : s.pwr.hold = false) : s.showWatch.thm = s.thm
    ∧ s.showWatch.on WATCH.ST_OVERTEMP = s.watchHot ∧ s.showWatch.on WATCH.ST_NVS_OK = s.watchOk
    ∧ KeepsRegs ([WATCH.INT_NVS_BLOCK.key, WATCH.ST_NVS_OK.key] ++ overtempKeys) s s.showWatch
    ∧ (s.on WATCH.ST_OVERTEMP = false → s.watchHot = true → Trips 14 s.showWatch) := by
  rw [showWatch_eq]
  generalize s.watchHot = hot, s.watchOk = ok
  obtain ⟨h1, h2, h3, h4⟩ := overtempShown_shows hgap hot
  generalize s.overtempShown hot = u at *
  obtain ⟨k1, k2, k3⟩ := windowShown_shows u ok
  refine ⟨k2.trans h2, (congrArg (· != 0) (k3 _ (by decide))).trans h1, k1, ?_, fun ho hh => trips_of_keeps k3 (by decide) (h4 ho hh)⟩
  exact (h3.mono fun k hk => List.mem_append_right _ hk).trans (k3.mono fun k hk => List.mem_append_left _ hk)

/-- Every threshold of the watch counted as crossed (R393). -/
def State.watchCrossed (s : State) : State :=
  (List.range 4).foldl (fun s i => (List.range 3).foldl (fun s m => s.setWatch (4 * i + m) { crossed := true }) s) s

theorem setWatch_keeps_crossed {s : State} {k : Nat} (h : (s.watchAt k).crossed = true) (j : Nat) :
    ((s.setWatch j { crossed := true }).watchAt k).crossed = true := by
  by_cases hjk : k = j
  · rw [hjk, setWatch_watchAt]
  · rw [setWatch_watchAt_ne _ _ hjk]
    exact h

theorem watchCrossed_crossed (s : State) {i m : Nat} (hi : i < 4) (hm : m < 3) : (s.watchCrossed.watchAt (4 * i + m)).crossed = true := by
  unfold State.watchCrossed
  have hinner (u : State) (j : Nat) (h : (u.watchAt (4 * i + m)).crossed = true) :
      (((List.range 3).foldl (fun s m => s.setWatch (4 * j + m) { crossed := true }) u).watchAt (4 * i + m)).crossed = true :=
    List.foldlRecOn (motive := fun t : State => (t.watchAt (4 * i + m)).crossed = true) _ _ h fun t ht _ _ => setWatch_keeps_crossed ht _
  refine foldl_reach (P := fun t => (t.watchAt (4 * i + m)).crossed = true) (Q := fun _ => True) (List.mem_range.mpr hi) (fun _ _ _ _ _ => trivial) ?_
    (fun t j _ h => hinner t j h) s trivial
  intro t _
  refine foldl_reach (P := fun t => (t.watchAt (4 * i + m)).crossed = true) (Q := fun _ => True) (List.mem_range.mpr hm) (fun _ _ _ _ _ => trivial) ?_
    (fun t _ _ h => setWatch_keeps_crossed h _) t trivial
  intro u _
  rw [setWatch_watchAt]

theorem watchCrossed_keeps (s : State) : s.watchCrossed.regs = s.regs ∧ s.watchCrossed.pwr = s.pwr := by
  unfold State.watchCrossed
  refine ⟨foldl_keeps State.regs (fun t i _ => ?_) s, foldl_keeps State.pwr (fun t i _ => ?_) s⟩
  · refine foldl_keeps State.regs ?_ t
    exact fun _ _ _ => rfl
  · refine foldl_keeps State.pwr ?_ t
    exact fun _ _ _ => rfl

theorem watchAt_of_thm {s t : State} (h : t.thm.watch = s.thm.watch) (k : Nat) : t.watchAt k = s.watchAt k := by
  unfold State.watchAt
  rw [h]

/-- The reads in a row that the watch has had to discard, noted. -/
def State.missNoted (s : State) (n : Nat) : State := { s with thm.watchMiss := n }

theorem watchNoted_shows {s : State} (hgap : s.pwr.hold = false) (n : Nat) :
    ((s.showWatch.missNoted n).on WATCH.ST_OVERTEMP = true ↔ ∃ i < 4, ((s.showWatch.missNoted n).watchAt (4 * i)).crossed = true)
      ∧ ((s.showWatch.missNoted n).on WATCH.ST_NVS_OK = true ↔ ∀ i < 4, ((s.showWatch.missNoted n).watchAt (4 * i + 1)).crossed = false
          ∧ ((s.showWatch.missNoted n).watchAt (4 * i + 2)).crossed = false)
      ∧ (s.on WATCH.ST_OVERTEMP = false → (s.showWatch.missNoted n).on WATCH.ST_OVERTEMP = true → Trips 14 (s.showWatch.missNoted n)) := by
  obtain ⟨hthm, hover, hwin, -, htrip⟩ := showWatch_shows hgap
  generalize s.showWatch = v at *
  have hat (k : Nat) : (v.missNoted n).watchAt k = s.watchAt k := watchAt_of_thm (congrArg (·.watch) hthm) k
  have hon (f : Fld) : (v.missNoted n).on f = v.on f := rfl
  simp only [hat, hon, hover, hwin, watchHot_iff, watchOk_iff, true_and]
  exact fun h0 h1 => trips_of_keeps (keys := []) (fun _ _ => rfl) (by simp) (htrip h0 ((watchHot_iff s).mpr h1))

theorem exec_watchRead {s : State} (hrun : s.runs pWATCH = true) (hgap : s.pwr.hold = false) (a b c d : BitVec 16) :
    exec (.watchRead a b c d) s = .next ((s.watchFour a b c d).showWatch.missNoted
      (if [a.toInt, b.toInt, c.toInt, d.toInt].any sensorOk then 0 else (s.watchFour a b c d).showWatch.thm.watchMiss + 1)) := by
  refine congrArg Host.Outcome.next (if_neg ?_)
  rw [hrun, hgap]
  decide

theorem exec_watchSensorLost {s : State} (hrun : s.runs pWATCH = true) (hgap : s.pwr.hold = false) (hmiss : 3 ≤ s.thm.watchMiss) :
    exec .watchSensorLost s = .next (s.fault pWATCH 1).watchCrossed.showWatch := by
  refine congrArg Host.Outcome.next (if_pos ?_)
  rw [hrun, hgap, decide_eq_true hmiss]
  rfl

/-- OVERTEMP's showing leaves the watch's sensor fault set. -/
theorem overtempShown_fault {s : State} (hgap : s.pwr.hold = false) (hot : Bool) (h : s.on (C.FAULT pWATCH 1) = true) :
    (s.overtempShown hot).on (C.FAULT pWATCH 1) = true := by
  have hput (b : Bool) : (s.put WATCH.ST_OVERTEMP b).on (C.FAULT pWATCH 1) = true := (State.on_put_ne _ _ _ _ (by decide)).trans h
  unfold State.overtempShown
  split
  · have hframe := (((SafFrame.refl s).put WATCH.ST_OVERTEMP true).put WATCH.INT_OVERTEMP true).fault pWATCH 0
    have hon : (((s.put WATCH.ST_OVERTEMP true).raise WATCH.INT_OVERTEMP).fault pWATCH 0).on (C.FAULT pWATCH 1) = true :=
      fault_on_of_on 0 (by decide) ((State.on_put_ne _ _ _ _ (by decide)).trans (hput true))
    have hgap' : (((s.put WATCH.ST_OVERTEMP true).raise WATCH.INT_OVERTEMP).fault pWATCH 0).pwr.hold = false :=
      (congrArg (·.hold) hframe.pwr).trans hgap
    generalize ((s.put WATCH.ST_OVERTEMP true).raise WATCH.INT_OVERTEMP).fault pWATCH 0 = u at *
    rw [tripSet_clocked hgap']
    exact (congrArg (· != 0) (tripNow_keeps u 14 _ (by decide))).trans hon
  · exact hput hot

theorem watchLost_shows {s : State} (hgap : s.pwr.hold = false) : (s.fault pWATCH 1).watchCrossed.showWatch.on (C.FAULT pWATCH 1) = true
    ∧ (s.fault pWATCH 1).watchCrossed.showWatch.on WATCH.ST_OVERTEMP = true
    ∧ (s.fault pWATCH 1).watchCrossed.showWatch.on WATCH.ST_NVS_OK = false
    ∧ (s.on WATCH.ST_OVERTEMP = false → Trips 14 (s.fault pWATCH 1).watchCrossed.showWatch) := by
  have hfault : (s.fault pWATCH 1).on (C.FAULT pWATCH 1) = true := fault_on_self s (by decide) (by decide)
  have hover : (s.fault pWATCH 1).on WATCH.ST_OVERTEMP = s.on WATCH.ST_OVERTEMP := fault_on_other s (by decide)
  have hgap' : (s.fault pWATCH 1).pwr.hold = false := by rw [fault_pwr]; exact hgap
  generalize s.fault pWATCH 1 = u at *
  obtain ⟨hregs, hpwr⟩ := watchCrossed_keeps u
  have hcrossed := fun i m hi hm => watchCrossed_crossed u (i := i) (m := m) hi hm
  generalize u.watchCrossed = v at *
  have hon (f : Fld) : v.on f = u.on f := congrArg (fun y : Regs => y.cur.rd f != 0) hregs
  have hgv : v.pwr.hold = false := (congrArg (·.hold) hpwr).trans hgap'
  have hhot : v.watchHot = true := (watchHot_iff v).mpr ⟨0, by decide, hcrossed 0 0 (by decide) (by decide)⟩
  have hbad : v.watchOk = false := by
    rw [← Bool.not_eq_true, watchOk_iff]
    intro h
    exact absurd ((h 0 (by decide)).1.symm.trans (hcrossed 0 1 (by decide) (by decide))) Bool.false_ne_true
  obtain ⟨-, hov, hwin, -, htrip⟩ := showWatch_shows hgv
  refine ⟨?_, hov.trans hhot, hwin.trans hbad, fun h => htrip ((hon _).trans (hover.trans h)) hhot⟩
  have hf := overtempShown_fault hgv v.watchHot ((hon _).trans hfault)
  rw [showWatch_eq]
  generalize v.overtempShown v.watchHot = w at *
  exact (congrArg (· != 0) ((windowShown_shows w v.watchOk).2.2 _ (by decide))).trans hf

/-! ### The statement -/

/-- Settles O42. -/
theorem thermalReadings : Obligations.ThermalReadings := by
  refine ⟨fun θ h rs hh => ⟨fun hall => ?_, fun hall => ?_, fun x r hx hr => ?_⟩, ?_⟩
  · refine (crossed_above hh rs {} (by decide) hall).trans ?_
    rw [Bool.false_or, Nat.zero_add]
  · refine (crossed_below hh rs { crossed := true } (by decide) hall).trans ?_
    rw [Bool.true_and, Nat.zero_add]
  · unfold Thresh.upper
    rw [hx, if_neg Bool.false_ne_true, if_neg (by omega)]
  · intro sensors lamp a b c d s ok level watched stopped
    have hok (r : Int) : sensorOk r = true ↔ ok r := sensorOk_iff r
    have hnok {r : Int} (h : ¬ok r) : sensorOk r = false := by rw [← Bool.not_eq_true, hok]; exact h
    refine ⟨fun hlen hrun hstop => ?_, fun hrun hgo hn => ?_, fun hrun hgap => ?_, fun hrun hgap hmiss => ?_⟩
    · have hexec : exec (.thmTimerRead sensors) s = .next (s.readSensors sensors).requestFast := by
        refine (if_neg (by rw [hlen]; decide)).trans (congrArg Host.Outcome.next (if_pos ?_))
        rw [hrun, (roundsStopped_iff s).mpr hstop]
        rfl
      obtain ⟨hread, hstep⟩ := timerRead_shows s hlen
      exact ⟨_, hexec, fun i hi => ⟨fun h => (hread i hi).1 ((hok _).mpr h), fun h => (hread i hi).2 (hnok h)⟩, hstep⟩
    · have hexec : exec (.thmSlotSilent lamp) s = .next (s.slotLost (if lamp then 25 else 24)) := by
        refine congrArg Host.Outcome.next (if_pos ?_)
        have hstop : s.roundsStopped = false := by rw [← Bool.not_eq_true, roundsStopped_iff]; exact hgo
        rw [hrun, hstop, decide_eq_true hn]
        rfl
      exact ⟨_, hexec, slotLost_shows lamp⟩
    · obtain ⟨ha, hb, hc, hd⟩ := watchFour_taken s a b c d
      obtain ⟨hkeep, hmiss, hpwr⟩ := watchFour_keeps s a b c d
      obtain ⟨hthm, -, -, hshow, -⟩ := showWatch_shows (s := s.watchFour a b c d) ((congrArg (·.hold) hpwr).trans hgap)
      have hold : (s.watchFour a b c d).on WATCH.ST_OVERTEMP = s.on WATCH.ST_OVERTEMP := congrArg (· != 0) (hkeep _ (by decide))
      have hfar : ∀ i < 4, (watchField i).key ∉ [WATCH.INT_NVS_BLOCK.key, WATCH.ST_NVS_OK.key] ++ overtempKeys := by decide
      obtain ⟨hhot, hwok, htrips⟩ := watchNoted_shows (s := s.watchFour a b c d) ((congrArg (·.hold) hpwr).trans hgap)
        (if [a.toInt, b.toInt, c.toInt, d.toInt].any sensorOk then 0 else (s.watchFour a b c d).showWatch.thm.watchMiss + 1)
      refine ⟨_, exec_watchRead hrun hgap a b c d, ?_, ?_, hhot, hwok, fun h => htrips (hold.trans h)⟩
      · generalize s.watchFour a b c d = u at *
        have hstay (i : Nat) (hi : i < 4) (r : Int) (h : WatchTaken s i r u) :
            (ok r → u.showWatch.rdI (watchField i) = r) ∧ (¬ok r → u.showWatch.rd (watchField i) = s.rd (watchField i)) :=
          ⟨fun e => (congrArg (toSigned _) (hshow _ (hfar i hi))).trans (h.1 ((hok r).mpr e)), fun e => (hshow _ (hfar i hi)).trans (h.2 (hnok e))⟩
        intro p hp
        simp only [watched, List.mem_cons, List.not_mem_nil, or_false] at hp
        rcases hp with rfl | rfl | rfl | rfl
        · exact hstay 0 (by decide) _ ha
        · exact hstay 1 (by decide) _ hb
        · exact hstay 2 (by decide) _ hc
        · exact hstay 3 (by decide) _ hd
      · show (if _ then 0 else (s.watchFour a b c d).showWatch.thm.watchMiss + 1) = _
        rw [hthm, hmiss]
        have hany : [a.toInt, b.toInt, c.toInt, d.toInt].any sensorOk = true ↔ ∃ p ∈ watched, ok p.2.toInt := by
          simp only [watched, List.any_cons, List.any_nil, Bool.or_false, Bool.or_eq_true, hok, List.mem_cons, List.not_mem_nil, or_false,
            exists_eq_or_imp, exists_eq_left]
        by_cases h : ∃ p ∈ watched, ok p.2.toInt
        · rw [if_pos (hany.mpr h), if_pos h]
        · rw [if_neg (fun e => h (hany.mp e)), if_neg h]
    · exact ⟨_, exec_watchSensorLost hrun hgap hmiss, watchLost_shows hgap⟩

end Sys2Proof.Machine
end

section
/-! PROOFS. Releases and clocks (R466 to R469, R480 to R483): what RST and the clock checker show. -/
namespace Sys2Proof.Machine
open Sys2Proof

/-! ### Frames of RST's and SAF's steps -/

theorem SafFrame.foldl {α : Type} {f : State → α → State} {l : List α} (h : ∀ s, ∀ a ∈ l, SafFrame s (f s a)) (s : State) :
    SafFrame s (l.foldl f s) := by
  induction l generalizing s with
  | nil => exact SafFrame.refl s
  | cons a l ih => exact (h s a List.mem_cons_self).trans (ih (fun t b hb => h t b (List.mem_cons_of_mem _ hb)) _)

/-- The registers of the open episodes and of the waiting releases, and the HOLD bits. -/
def episodeKeys : List Nat := [RST.OPEN.key, RST.ST_EPISODE_OPEN.key, RST.ST_PENDING_CLK.key]
  ++ (List.range 8).map (fun i => (RST.SLOT_PENDING_CLK i).key) ++ (List.range 8).map (fun i => (RST.HOLD i).key)

theorem showRst_keeps (s : State) : KeepsRegs episodeKeys s s.showRst := by
  unfold State.showRst
  dsimp only
  refine KeepsRegs.trans ((((KeepsRegs.refl _ s).wr _ _ (by decide)).put _ _ (by decide)).put RST.ST_PENDING_CLK _ (by decide))
    (KeepsRegs.foldl (fun t i hi => (KeepsRegs.refl _ t).put _ _ ?_) _)
  exact List.mem_append_left _ (List.mem_append_right _ (List.mem_map.mpr ⟨i, hi, rfl⟩))

theorem SafFrame.showRst (s : State) : SafFrame s s.showRst := by
  unfold State.showRst
  dsimp only
  exact ((((SafFrame.refl s).wr _ _).put _ _).put _ _).trans (SafFrame.foldl (fun t i _ => (SafFrame.refl t).put _ _) _)

/-- Whether a release waits for a clock shows. -/
theorem showRst_pending (s : State) : s.showRst.on RST.ST_PENDING_CLK = (s.rst.due.filter (·.waits) != []) := by
  unfold State.showRst
  dsimp only
  have hslots (b : Nat → Bool) (t : State) : KeepsRegs ((List.range 8).map fun i => (RST.SLOT_PENDING_CLK i).key) t
      ((List.range 8).foldl (fun s i => s.put (RST.SLOT_PENDING_CLK i) (b i)) t) :=
    KeepsRegs.foldl (fun u i hi => (KeepsRegs.refl _ u).put (RST.SLOT_PENDING_CLK i) _ (List.mem_map.mpr ⟨i, hi, rfl⟩)) t
  exact (congrArg (· != 0) (hslots _ _ _ (by decide))).trans (State.on_put_self _ _ _ (by decide))

/-- The HOLD bits cleared. -/
def State.holdsOff (s : State) : State := (List.range 8).foldl (fun s i => s.put (RST.HOLD i) false) s

/-- The episodes without the sources that the HOLD bits keep. -/
def unheld (eps : List Episode) : List Episode :=
  eps.map fun (e : Episode) => { e with sources := e.sources.filter fun x => !(x.code = 5 && x.detail < 8) && !(x.code = 6 && !x.pulse) }

theorem clearHolds_eq (s : State) : s.clearHolds = { s.holdsOff with rst.episodes := unheld s.holdsOff.rst.episodes } := rfl

theorem holdsOff_keeps (s : State) : KeepsRegs episodeKeys s s.holdsOff ∧ SafFrame s s.holdsOff := by
  have hmem (i : Nat) (hi : i ∈ List.range 8) : (RST.HOLD i).key ∈ episodeKeys := List.mem_append_right _ (List.mem_map.mpr ⟨i, hi, rfl⟩)
  exact ⟨KeepsRegs.foldl (fun t i hi => (KeepsRegs.refl _ t).put (RST.HOLD i) _ (hmem i hi)) s,
    SafFrame.foldl (fun t i _ => (SafFrame.refl t).put _ _) s⟩

/-- The open episodes and the number of assertions set. -/
def State.episodesSet (s : State) (eps : List Episode) (n : Nat) : State := { s with rst.episodes := eps, rst.asserts := n }

/-- What the assertion of a source can do: wait for the end of a switch-over's gap, find its source open already, or open or join
episodes, which may clear the HOLD bits. -/
theorem assertReset_cases (s : State) (src : Source) (reach : Nat) (pages : List Nat) (target : Option Nat) :
    (s.sourceWaits src.code = true ∧ s.assertReset src reach pages target = s.keep (.source src.code src.detail src.pulse reach pages target))
      ∨ s.assertReset src reach pages target = s
      ∨ ∃ eps n, s.assertReset src reach pages target = (s.episodesSet eps n).showRst
        ∨ s.assertReset src reach pages target = (s.episodesSet eps n).clearHolds.showRst := by
  unfold State.assertReset
  split
  · next h => exact .inl ⟨h, rfl⟩
  · split
    · exact .inr (.inl rfl)
    · extract_lets cover hits old before one whole widens known ep s1
      refine .inr (.inr ⟨s.rst.episodes.filter (fun e => !hits e) ++ [ep], s.rst.asserts + 1, ?_⟩)
      split
      · exact .inr rfl
      · exact .inl rfl

/-- What an assertion leaves alone. -/
theorem assertReset_keeps (s : State) (src : Source) (reach : Nat) (pages : List Nat) (target : Option Nat) :
    KeepsRegs episodeKeys s (s.assertReset src reach pages target)
      ∧ (s.assertReset src reach pages target).rst.held = s.rst.held ∧ (s.assertReset src reach pages target).rst.refWait = s.rst.refWait
      ∧ (s.pwr.hold = false → (s.assertReset src reach pages target).pwr = s.pwr) := by
  have hset (eps : List Episode) (n : Nat) : KeepsRegs episodeKeys s (s.episodesSet eps n) := (KeepsRegs.refl _ s).of_cur rfl
  rcases assertReset_cases s src reach pages target with ⟨hw, h⟩ | h | ⟨eps, n, h | h⟩ <;> rw [h]
  · refine ⟨(KeepsRegs.refl _ s).of_cur rfl, rfl, rfl, fun hgap => ?_⟩
    rw [State.sourceWaits, hgap] at hw
    exact absurd hw Bool.false_ne_true
  · exact ⟨KeepsRegs.refl _ s, rfl, rfl, fun _ => rfl⟩
  · have hframe := SafFrame.showRst (s.episodesSet eps n)
    exact ⟨(hset eps n).trans (showRst_keeps _), (congrArg RstState.held hframe.rst).trans rfl, (congrArg RstState.refWait hframe.rst).trans rfl,
      fun _ => hframe.pwr.trans rfl⟩
  · obtain ⟨hk, hf⟩ := holdsOff_keeps (s.episodesSet eps n)
    have hframe := SafFrame.showRst (s.episodesSet eps n).clearHolds
    have hkeep := showRst_keeps (s.episodesSet eps n).clearHolds
    rw [clearHolds_eq] at *
    generalize (s.episodesSet eps n).holdsOff = u at *
    refine ⟨((hset eps n).trans (hk.of_cur rfl)).trans hkeep, ?_, ?_, fun _ => ?_⟩
    · exact (congrArg RstState.held hframe.rst).trans ((congrArg RstState.held hf.rst).trans rfl)
    · exact (congrArg RstState.refWait hframe.rst).trans ((congrArg RstState.refWait hf.rst).trans rfl)
    · exact hframe.pwr.trans (hf.pwr.trans rfl)

/-! ### Trips in and out of a gap -/

theorem tripSet_keeps (s : State) (i : Nat) : KeepsRegs tripKeys s (s.tripSet i) := by
  cases hgap : s.pwr.hold with
  | true =>
    rw [tripSet_gap hgap]
    exact (KeepsRegs.refl _ s).of_cur rfl
  | false =>
    rw [tripSet_clocked hgap]
    exact tripNow_keeps s i

theorem tripSet_frame (s : State) (i : Nat) : SafFrame s (s.tripSet i) := by
  cases hgap : s.pwr.hold with
  | true =>
    rw [tripSet_gap hgap]
    exact ⟨rfl⟩
  | false => exact SafFrame.tripSet hgap i

/-! ### A clock that falls (R467 to R469) -/

theorem showClocks_keeps (s : State) : KeepsRegs [CHK.ST_ALL_GOOD.key, CLK.ST_ALL_LOCKED.key] s s.showClocks :=
  ((KeepsRegs.refl _ s).put _ _ (by decide)).put _ _ (by decide)

theorem showClocks_frame (s : State) : SafFrame s s.showClocks := ⟨rfl⟩

/-- The registers of a clock's fall. -/
def fallKeys : List Nat := [CHK.CLK_GOOD.key, CHK.INT_CLK_LOST.key, CHK.ST_ALL_GOOD.key, CLK.ST_ALL_LOCKED.key] ++ faultKeys pCHK ++ tripKeys

/-- The fall itself, before its trip. -/
def State.clockOff (s : State) (d : Nat) : State :=
  State.showClocks (((s.wr CHK.CLK_GOOD (withBit (s.rd CHK.CLK_GOOD) d false)).raise CHK.INT_CLK_LOST).fault pCHK d)

theorem clockFalls_eq {s : State} {d : Nat} (h : s.clockGood d = true) : s.clockFalls d =
    if (d = 0 || d = 1 || d = 4) && (s.clockOff d).operating then (s.clockOff d).tripSet 17 else s.clockOff d := by
  rw [State.clockFalls, if_neg (by rw [h]; decide)]
  rfl

theorem clockOff_keeps (s : State) (d : Nat) : KeepsRegs fallKeys s (s.clockOff d) := by
  have hmem (k : Nat) (hk : k ∈ [CHK.CLK_GOOD.key, CHK.INT_CLK_LOST.key, CHK.ST_ALL_GOOD.key, CLK.ST_ALL_LOCKED.key]) : k ∈ fallKeys :=
    List.mem_append_left _ (List.mem_append_left _ hk)
  have hfall : KeepsRegs fallKeys s ((s.wr CHK.CLK_GOOD (withBit (s.rd CHK.CLK_GOOD) d false)).raise CHK.INT_CLK_LOST) :=
    ((KeepsRegs.refl _ s).wr CHK.CLK_GOOD _ (hmem _ (by decide))).put CHK.INT_CLK_LOST true (hmem _ (by decide))
  have hfault := hfall.trans ((fault_keepsRegs _ pCHK d).mono fun k hk => List.mem_append_left _ (List.mem_append_right _ hk))
  exact hfault.trans ((showClocks_keeps _).mono fun k hk => hmem k (List.mem_cons_of_mem _ (List.mem_cons_of_mem _ hk)))

theorem clockOff_frame (s : State) (d : Nat) : SafFrame s (s.clockOff d) :=
  (((((SafFrame.refl s).wr _ _).put _ _).fault pCHK d)).trans (showClocks_frame _)

theorem clockFalls_keeps (s : State) (d : Nat) : KeepsRegs fallKeys s (s.clockFalls d) ∧ SafFrame s (s.clockFalls d) := by
  cases h : s.clockGood d with
  | false =>
    rw [State.clockFalls, if_pos (by rw [h]; rfl)]
    exact ⟨KeepsRegs.refl _ s, SafFrame.refl s⟩
  | true =>
    have hk := clockOff_keeps s d
    have hf := clockOff_frame s d
    rw [clockFalls_eq h]
    generalize s.clockOff d = u at *
    split
    · exact ⟨hk.trans ((tripSet_keeps u 17).mono fun k hk => List.mem_append_right _ hk), hf.trans (tripSet_frame u 17)⟩
    · exact ⟨hk, hf⟩

/-- A clock that was good is not good after its fall, with its interrupt and its fault. -/
theorem clockFalls_shows {s : State} {d : Nat} (hd : d < 6) (h : s.clockGood d = true) : (s.clockFalls d).clockGood d = false
    ∧ (s.clockFalls d).on CHK.INT_CLK_LOST = true ∧ (s.clockFalls d).on (C.FAULT pCHK d) = true := by
  have hbits : ∀ d < 6, bit (2 ^ d + faultCommons pCHK d) d = true ∧ (C.FAULT pCHK d).key ∉ [CHK.ST_ALL_GOOD.key, CLK.ST_ALL_LOCKED.key]
      ∧ (C.FAULT pCHK d).key ∉ tripKeys := by decide
  obtain ⟨hbit, hfault, hfar⟩ := hbits d hd
  have hoff : (s.clockOff d).clockGood d = false ∧ (s.clockOff d).on CHK.INT_CLK_LOST = true ∧ (s.clockOff d).on (C.FAULT pCHK d) = true := by
    unfold State.clockOff
    refine ⟨?_, ?_, ?_⟩
    · rw [State.clockGood, showClocks_keeps _ CHK.CLK_GOOD (by decide), fault_keepsRegs _ _ _ CHK.CLK_GOOD (by decide)]
      refine (congrArg (bit · d) ((State.rd_put_ne _ CHK.INT_CLK_LOST CHK.CLK_GOOD true (by decide)).trans (State.rd_wr_self _ _ _))).trans ?_
      rw [bit_mod_two_pow (show d < CHK.CLK_GOOD.width from hd), bit_withBit, if_pos rfl]
    · rw [State.on, showClocks_keeps _ CHK.INT_CLK_LOST (by decide), ← State.on, fault_on_other _ (by decide)]
      exact State.on_put_self _ _ _ (by decide)
    · rw [State.on, showClocks_keeps _ _ hfault, ← State.on]
      exact fault_on_self _ (by omega) hbit
  rw [clockFalls_eq h]
  generalize s.clockOff d = u at *
  split
  · have hk := tripSet_keeps u 17
    rw [State.clockGood, hk CHK.CLK_GOOD (by decide), State.on, hk CHK.INT_CLK_LOST (by decide), State.on, hk _ hfar]
    exact hoff
  · exact hoff

theorem clockLost_cases (s : State) (d : Nat) : (s.clockGood d = false ∧ s.clockLost d = s)
    ∨ (s.clockGood d = true ∧ ∃ src reach pages target, s.clockLost d = (s.clockFalls d).assertReset src reach pages target) := by
  unfold State.clockLost
  cases h : s.clockGood d with
  | false => exact .inl ⟨rfl, rfl⟩
  | true =>
    refine .inr ⟨rfl, ?_⟩
    rw [if_neg (by decide)]
    by_cases h3 : d = 3
    · subst h3
      rw [if_pos rfl]
      exact ⟨_, _, _, _, rfl⟩
    · rw [if_neg h3]
      exact ⟨_, _, _, _, rfl⟩

/-- The registers of a lost clock: its fall and the episode of its source. -/
def lostKeys : List Nat := fallKeys ++ episodeKeys

theorem clockLost_keeps (s : State) (d : Nat) : KeepsRegs lostKeys s (s.clockLost d) ∧ (s.clockLost d).rst.held = s.rst.held
    ∧ (s.clockLost d).rst.refWait = s.rst.refWait ∧ (s.pwr.hold = false → (s.clockLost d).pwr = s.pwr) := by
  rcases clockLost_cases s d with ⟨-, h⟩ | ⟨-, src, reach, pages, target, h⟩ <;> rw [h]
  · exact ⟨KeepsRegs.refl _ s, rfl, rfl, fun _ => rfl⟩
  · obtain ⟨hk, hf⟩ := clockFalls_keeps s d
    obtain ⟨hk', hheld, hwait, hpwr⟩ := assertReset_keeps (s.clockFalls d) src reach pages target
    refine ⟨(hk.mono fun k hm => List.mem_append_left _ hm).trans (hk'.mono fun k hm => List.mem_append_right _ hm), ?_, ?_, fun hgap => ?_⟩
    · exact hheld.trans (congrArg RstState.held hf.rst)
    · exact hwait.trans (congrArg RstState.refWait hf.rst)
    · exact (hpwr (by rw [hf.pwr, hgap])).trans hf.pwr

/-- A clock that is lost is not good; one that was good shows its interrupt and its fault. -/
theorem clockLost_shows (s : State) {d : Nat} (hd : d < 6) : (s.clockLost d).clockGood d = false
    ∧ (s.clockGood d = true → (s.clockLost d).on CHK.INT_CLK_LOST = true ∧ (s.clockLost d).on (C.FAULT pCHK d) = true) := by
  have hfar : ∀ d < 6, (C.FAULT pCHK d).key ∉ episodeKeys := by decide
  rcases clockLost_cases s d with ⟨hbad, h⟩ | ⟨hgood, src, reach, pages, target, h⟩ <;> rw [h]
  · exact ⟨hbad, fun hg => absurd (hbad.symm.trans hg) Bool.false_ne_true⟩
  · obtain ⟨hoff, hint, hflt⟩ := clockFalls_shows hd hgood
    have hk := (assertReset_keeps (s.clockFalls d) src reach pages target).1
    refine ⟨(congrArg (bit · d) (hk CHK.CLK_GOOD (by decide))).trans hoff, fun _ => ⟨?_, ?_⟩⟩
    · exact (congrArg (· != 0) (hk CHK.INT_CLK_LOST (by decide))).trans hint
    · exact (congrArg (· != 0) (hk _ (hfar d hd))).trans hflt

/-- A loss clears neither CLK_LOST nor the clock checker's faults. -/
theorem clockLost_on (s : State) {d i : Nat} (hi : i < 7) (h : s.on CHK.INT_CLK_LOST = true ∧ s.on (C.FAULT pCHK i) = true) :
    (s.clockLost d).on CHK.INT_CLK_LOST = true ∧ (s.clockLost d).on (C.FAULT pCHK i) = true := by
  have hfar : ∀ i < 7, (C.FAULT pCHK i).key ∉ episodeKeys ∧ (C.FAULT pCHK i).key ∉ tripKeys
      ∧ (C.FAULT pCHK i).key ∉ [CHK.ST_ALL_GOOD.key, CLK.ST_ALL_LOCKED.key]
      ∧ (C.FAULT pCHK i).key ≠ CHK.INT_CLK_LOST.key ∧ (C.FAULT pCHK i).key ≠ CHK.CLK_GOOD.key := by decide
  obtain ⟨hep, htrip, hclk, hint, hgood⟩ := hfar i hi
  have hoff : (s.clockOff d).on CHK.INT_CLK_LOST = true ∧ (s.clockOff d).on (C.FAULT pCHK i) = true := by
    unfold State.clockOff
    refine ⟨?_, ?_⟩
    · rw [State.on, showClocks_keeps _ CHK.INT_CLK_LOST (by decide), ← State.on, fault_on_other _ (by decide)]
      exact State.on_put_self _ _ _ (by decide)
    · rw [State.on, showClocks_keeps _ _ hclk, ← State.on]
      refine fault_on_of_on _ (by omega) ?_
      exact (congrArg (· != 0) ((State.rd_put_ne _ _ _ _ hint).trans (State.rd_wr_ne _ _ _ _ hgood))).trans h.2
  have hfall : (s.clockFalls d).on CHK.INT_CLK_LOST = true ∧ (s.clockFalls d).on (C.FAULT pCHK i) = true := by
    cases hg : s.clockGood d with
    | false =>
      rw [State.clockFalls, if_pos (by rw [hg]; rfl)]
      exact h
    | true =>
      rw [clockFalls_eq hg]
      generalize s.clockOff d = u at *
      split
      · have hk := tripSet_keeps u 17
        exact ⟨(congrArg (· != 0) (hk CHK.INT_CLK_LOST (by decide))).trans hoff.1, (congrArg (· != 0) (hk _ htrip)).trans hoff.2⟩
      · exact hoff
  rcases clockLost_cases s d with ⟨-, he⟩ | ⟨-, src, reach, pages, target, he⟩ <;> rw [he]
  · exact h
  · have hk := (assertReset_keeps (s.clockFalls d) src reach pages target).1
    exact ⟨(congrArg (· != 0) (hk CHK.INT_CLK_LOST (by decide))).trans hfall.1, (congrArg (· != 0) (hk _ hep)).trans hfall.2⟩

/-! ### The loss of XTAL (R467) -/

/-- The loss of the reference, before the PLL domains follow. -/
def State.refFallen (s : State) : State :=
  State.assertReset (((s.put CHK.REF_GOOD false).raise CHK.INT_CLK_LOST).fault pCHK 6) ⟨7, 6, false⟩ 1 [] none

theorem refLost_good {s : State} (h : s.on CHK.REF_GOOD = true) : s.refLost = (List.range 6).foldl State.clockLost s.refFallen := by
  rw [State.refLost, if_neg (by rw [h]; decide)]
  rfl

theorem refFallen_shows (s : State) : s.refFallen.on CHK.REF_GOOD = false ∧ s.refFallen.rd CHK.REF_COUNT = s.rd CHK.REF_COUNT
    ∧ s.refFallen.on CHK.INT_CLK_LOST = true ∧ s.refFallen.on (C.FAULT pCHK 6) = true := by
  unfold State.refFallen
  have hon (f : Fld) (h : f.key ∉ episodeKeys) (h' : f.key ∉ faultKeys pCHK) :
      (State.assertReset (((s.put CHK.REF_GOOD false).raise CHK.INT_CLK_LOST).fault pCHK 6) ⟨7, 6, false⟩ 1 [] none).rd f
        = ((s.put CHK.REF_GOOD false).raise CHK.INT_CLK_LOST).rd f :=
    ((assertReset_keeps _ _ _ _ _).1 f h).trans (fault_keepsRegs _ _ _ f h')
  refine ⟨?_, ?_, ?_, ?_⟩
  · refine (congrArg (· != 0) (hon CHK.REF_GOOD (by decide) (by decide))).trans ?_
    exact (congrArg (· != 0) (State.rd_put_ne _ CHK.INT_CLK_LOST CHK.REF_GOOD true (by decide))).trans (State.on_put_self _ _ _ (by decide))
  · refine (hon CHK.REF_COUNT (by decide) (by decide)).trans ?_
    exact (State.rd_put_ne _ CHK.INT_CLK_LOST CHK.REF_COUNT true (by decide)).trans (State.rd_put_ne _ _ _ _ (by decide))
  · exact (congrArg (· != 0) (hon CHK.INT_CLK_LOST (by decide) (by decide))).trans (State.on_put_self _ _ _ (by decide))
  · refine (congrArg (· != 0) ((assertReset_keeps _ _ _ _ _).1 (C.FAULT pCHK 6) (by decide))).trans ?_
    exact fault_on_self _ (by decide) (by decide)

theorem refLost_shows (s : State) : s.refLost.on CHK.REF_GOOD = false ∧ s.refLost.rd CHK.REF_COUNT = s.rd CHK.REF_COUNT
    ∧ (s.on CHK.REF_GOOD = true → s.refLost.on CHK.INT_CLK_LOST = true ∧ s.refLost.on (C.FAULT pCHK 6) = true) := by
  cases h : s.on CHK.REF_GOOD with
  | false =>
    rw [State.refLost, if_pos (by rw [h]; rfl)]
    exact ⟨h, rfl, fun e => absurd e Bool.false_ne_true⟩
  | true =>
    rw [refLost_good h]
    obtain ⟨hgood, hcount, hint, hflt⟩ := refFallen_shows s
    generalize s.refFallen = u at *
    have hk : KeepsRegs lostKeys u ((List.range 6).foldl State.clockLost u) := KeepsRegs.foldl (fun t d _ => (clockLost_keeps t d).1) u
    refine ⟨(congrArg (· != 0) (hk CHK.REF_GOOD (by decide))).trans hgood, (hk CHK.REF_COUNT (by decide)).trans hcount, fun _ => ?_⟩
    exact List.foldlRecOn (motive := fun t : State => t.on CHK.INT_CLK_LOST = true ∧ t.on (C.FAULT pCHK 6) = true) _ _ ⟨hint, hflt⟩
      fun t ht d _ => clockLost_on t (by decide) ht

/-! ### The windows of the clock checker (R467, R468) -/

theorem deassertReset_keeps (s : State) (code detail : Nat) : (s.deassertReset code detail).regs = s.regs
    ∧ (s.deassertReset code detail).rst.held = s.rst.held ∧ (s.deassertReset code detail).rst.refWait = s.rst.refWait
    ∧ (s.pwr.hold = false → (s.deassertReset code detail).pwr = s.pwr) := by
  unfold State.deassertReset
  split
  · next h =>
    refine ⟨rfl, rfl, rfl, fun hgap => ?_⟩
    rw [State.sourceWaits, hgap] at h
    exact absurd h Bool.false_ne_true
  · exact ⟨rfl, rfl, rfl, fun _ => rfl⟩

/-- XTAL comes back: REF_GOOD, its interrupt, and the end of its source. -/
def State.refRaised (s : State) : State :=
  ((State.showClocks ((s.put CHK.REF_GOOD true).raise CHK.INT_CLK_GOOD)).deassertReset 7 6).showRst

/-- The wait of a COLD release for XTAL ends with the SYSTEM sequence. -/
def State.refWaitEnds (s : State) : State :=
  match s.rst.refWait with
  | some e => State.startSequence { s with rst.refWait := none } e
  | none => s

/-- REF_GOOD holds at the end of a good window. -/
def State.refHolds (s : State) : State := if s.on CHK.REF_GOOD then s else s.refRaised

theorem exec_refCheckWindow {s : State} {ref : BitVec 9} (hrun : s.runs pCHK = true) (hgap : s.pwr.hold = false) :
    exec (.refCheckWindow ref) s = .next (if 254 ≤ ref.toNat && ref.toNat ≤ 280 then (s.wr CHK.REF_COUNT ref.toNat).refHolds.refWaitEnds
      else (s.wr CHK.REF_COUNT ref.toNat).refLost) := by
  show done (if !s.runs pCHK || s.pwr.hold then s else _) = _
  rw [if_neg (by rw [hrun, hgap]; decide)]
  rfl

theorem refRaised_shows (s : State) : s.refRaised.on CHK.REF_GOOD = true ∧ s.refRaised.rd CHK.REF_COUNT = s.rd CHK.REF_COUNT
    ∧ s.refRaised.rst.refWait = s.rst.refWait ∧ (s.pwr.hold = false → s.refRaised.pwr = s.pwr) := by
  obtain ⟨u, hu⟩ : ∃ u, State.showClocks ((s.put CHK.REF_GOOD true).raise CHK.INT_CLK_GOOD) = u := ⟨_, rfl⟩
  have hclk := showClocks_keeps ((s.put CHK.REF_GOOD true).raise CHK.INT_CLK_GOOD)
  have hgood : u.on CHK.REF_GOOD = true := by
    rw [← hu, State.on, hclk CHK.REF_GOOD (by decide)]
    exact (congrArg (· != 0) (State.rd_put_ne _ CHK.INT_CLK_GOOD CHK.REF_GOOD true (by decide))).trans (State.on_put_self _ _ _ (by decide))
  have hcount : u.rd CHK.REF_COUNT = s.rd CHK.REF_COUNT := by
    rw [← hu, hclk CHK.REF_COUNT (by decide)]
    exact (State.rd_put_ne _ CHK.INT_CLK_GOOD CHK.REF_COUNT true (by decide)).trans (State.rd_put_ne _ _ _ _ (by decide))
  have hpwr : u.pwr = s.pwr := by rw [← hu]; rfl
  have hrst : u.rst = s.rst := by rw [← hu]; rfl
  rw [State.refRaised, hu]
  obtain ⟨hregs, -, hwait, hkept⟩ := deassertReset_keeps u 7 6
  have hshow := showRst_keeps (u.deassertReset 7 6)
  have hframe := SafFrame.showRst (u.deassertReset 7 6)
  refine ⟨?_, ?_, ?_, fun hgap => ?_⟩
  · exact ((congrArg (· != 0) (hshow CHK.REF_GOOD (by decide))).trans (congrArg (fun y : Regs => y.cur.rd CHK.REF_GOOD != 0) hregs)).trans hgood
  · exact ((hshow CHK.REF_COUNT (by decide)).trans (congrArg (fun y : Regs => y.cur.rd CHK.REF_COUNT) hregs)).trans hcount
  · exact (congrArg RstState.refWait hframe.rst).trans (hwait.trans (congrArg RstState.refWait hrst))
  · exact hframe.pwr.trans ((hkept (by rw [hpwr, hgap])).trans hpwr)

theorem refHolds_shows (s : State) : s.refHolds.on CHK.REF_GOOD = true ∧ s.refHolds.rd CHK.REF_COUNT = s.rd CHK.REF_COUNT
    ∧ s.refHolds.rst.refWait = s.rst.refWait ∧ (s.pwr.hold = false → s.refHolds.pwr = s.pwr) := by
  unfold State.refHolds
  split
  · next h => exact ⟨h, rfl, rfl, fun _ => rfl⟩
  · exact refRaised_shows s

theorem refWaitEnds_shows (s : State) : s.refWaitEnds.regs = s.regs ∧ (∀ m, s.rst.refWait = some m → s.refWaitEnds.rst.refWait = none
    ∧ s.refWaitEnds.pwr.turns = s.pwr.turns ++ powerOrder.map fun d => ⟨d, true, false⟩) := by
  unfold State.refWaitEnds
  split
  · exact ⟨rfl, fun m _ => ⟨rfl, rfl⟩⟩
  · next h => exact ⟨rfl, fun m hm => absurd (h.symm.trans hm) (by simp)⟩

/-- A domain's clock is good again: its bit, its interrupt, and the end of its source. -/
def State.clockRaised (s : State) (d : Nat) : State :=
  (State.showClocks ((s.wr CHK.CLK_GOOD (withBit (s.rd CHK.CLK_GOOD) d true)).raise CHK.INT_CLK_GOOD)).deassertReset 7 d

/-- A window's count within 1 % of what is expected (R468). -/
def CountGood (d n : Nat) : Prop := expectedCount d - expectedCount d / 100 ≤ n ∧ n ≤ expectedCount d + expectedCount d / 100

theorem exec_clockCheckWindow_good {s : State} (domain : Fin 6) {count : BitVec 16} (hrun : s.runs pCHK = true) (hgap : s.pwr.hold = false)
    (h : CountGood domain count.toNat) : exec (.clockCheckWindow domain count) s = .next (
      if (s.wr (CHK.COUNT domain) count.toNat).clockGood domain || !(s.wr (CHK.COUNT domain) count.toNat).on CHK.REF_GOOD then
        s.wr (CHK.COUNT domain) count.toNat
      else (s.wr (CHK.COUNT domain) count.toNat).clockRaised domain) := by
  show done (if !s.runs pCHK || s.pwr.hold then s else _) = _
  rw [if_neg (by rw [hrun, hgap]; decide), if_pos (by simpa [CountGood] using h)]
  rfl

theorem exec_clockCheckWindow_bad {s : State} (domain : Fin 6) {count : BitVec 16} (hrun : s.runs pCHK = true) (hgap : s.pwr.hold = false)
    (h : ¬CountGood domain count.toNat) :
    exec (.clockCheckWindow domain count) s = .next ((s.wr (CHK.COUNT domain) count.toNat).clockLost domain) := by
  show done (if !s.runs pCHK || s.pwr.hold then s else _) = _
  rw [if_neg (by rw [hrun, hgap]; decide), if_neg (by simpa [CountGood] using h)]
  rfl

theorem clockRaised_shows (s : State) {d : Nat} (hd : d < 6) : (s.clockRaised d).clockGood d = true
    ∧ (s.clockRaised d).rd (CHK.COUNT d) = s.rd (CHK.COUNT d) := by
  have hfar : ∀ d < 6, (CHK.COUNT d).key ∉ [CHK.ST_ALL_GOOD.key, CLK.ST_ALL_LOCKED.key] ∧ (CHK.COUNT d).key ≠ CHK.INT_CLK_GOOD.key
      ∧ (CHK.COUNT d).key ≠ CHK.CLK_GOOD.key := by decide
  obtain ⟨hshow, hint, hgood⟩ := hfar d hd
  obtain ⟨u, hu⟩ : ∃ u, State.showClocks ((s.wr CHK.CLK_GOOD (withBit (s.rd CHK.CLK_GOOD) d true)).raise CHK.INT_CLK_GOOD) = u := ⟨_, rfl⟩
  have hclk := showClocks_keeps ((s.wr CHK.CLK_GOOD (withBit (s.rd CHK.CLK_GOOD) d true)).raise CHK.INT_CLK_GOOD)
  rw [hu] at hclk
  rw [State.clockRaised, hu]
  obtain ⟨hregs, -⟩ := deassertReset_keeps u 7 d
  have hrd (f : Fld) : (u.deassertReset 7 d).rd f = u.rd f := congrArg (fun y : Regs => y.cur.rd f) hregs
  refine ⟨?_, ?_⟩
  · rw [State.clockGood, hrd, hclk CHK.CLK_GOOD (by decide)]
    refine (congrArg (bit · d) ((State.rd_put_ne _ CHK.INT_CLK_GOOD CHK.CLK_GOOD true (by decide)).trans (State.rd_wr_self _ _ _))).trans ?_
    rw [bit_mod_two_pow (show d < CHK.CLK_GOOD.width from hd), bit_withBit, if_pos rfl]
  · rw [hrd, hclk _ hshow]
    exact (State.rd_put_ne _ _ _ _ hint).trans (State.rd_wr_ne _ _ _ _ hgood)

/-- The count shows, and it is all that its write changes. -/
theorem countShown {d : Nat} (hd : d < 6) (s : State) (count : BitVec 16) : (s.wr (CHK.COUNT d) count.toNat).rd (CHK.COUNT d) = count.toNat
    ∧ (s.wr (CHK.COUNT d) count.toNat).clockGood d = s.clockGood d
    ∧ (s.wr (CHK.COUNT d) count.toNat).on CHK.REF_GOOD = s.on CHK.REF_GOOD ∧ (CHK.COUNT d).key ∉ lostKeys := by
  have hfar : ∀ d < 6, CHK.CLK_GOOD.key ≠ (CHK.COUNT d).key ∧ CHK.REF_GOOD.key ≠ (CHK.COUNT d).key ∧ (CHK.COUNT d).key ∉ lostKeys
      ∧ (CHK.COUNT d).width = 16 := by decide
  obtain ⟨hgood, href, hlost, hwidth⟩ := hfar d hd
  refine ⟨?_, congrArg (bit · d) (State.rd_wr_ne _ _ _ _ hgood), congrArg (· != 0) (State.rd_wr_ne _ _ _ _ href), hlost⟩
  rw [State.rd_wr_self, hwidth, Nat.mod_eq_of_lt count.isLt]

theorem exec_clockEdgeTimeout {s : State} (domain : Option (Fin 6)) (hrun : s.runs pCHK = true) (hgap : s.pwr.hold = false) :
    exec (.clockEdgeTimeout domain) s = .next (match domain with
      | none => s.refLost
      | some d => s.clockLost d) := by
  show done (if !s.runs pCHK || s.pwr.hold then s else _) = _
  rw [if_neg (by rw [hrun, hgap]; decide)]
  rfl

/-! ### The PLLs (R466) -/

/-- A PLL's lock lost: UNLOCK is counted and raises its fault while CLK runs. -/
def State.pllFallen (s : State) (d : Nat) : State :=
  let s1 := s.wr CLK.PLL_LOCK (withBit (s.rd CLK.PLL_LOCK) d false)
  if s1.runs pCLK then ((s1.count (CLK.UNLOCKS d) 1).raise CLK.INT_UNLOCK).fault pCLK 0 else s1

theorem exec_pllUnlock {s : State} (domain : Fin 6) (hoff : s.isOff pCLK = false) (hlock : bit (s.rd CLK.PLL_LOCK) domain = true) :
    exec (.pllUnlock domain) s = .next ((if (s.pllFallen domain).pwr.hold then (s.pllFallen domain).keep (.unlock domain)
      else if (s.pllFallen domain).runs pCHK then (s.pllFallen domain).clockLost domain else s.pllFallen domain).showClocks) := by
  show done (if s.isOff pCLK || !bit (s.rd CLK.PLL_LOCK) domain then s else _) = _
  rw [if_neg (by rw [hoff, hlock]; decide)]
  rfl

/-- The registers of a PLL's fall. -/
def pllKeys : List Nat :=
  [CLK.PLL_LOCK.key, CLK.INT_UNLOCK.key] ++ ((List.range 6).map fun d => (CLK.UNLOCKS d).key) ++ faultKeys pCLK

theorem pllFallen_frame (s : State) (d : Nat) : SafFrame s (s.pllFallen d) := by
  unfold State.pllFallen
  dsimp only
  split
  · exact ((((SafFrame.refl s).wr _ _).wr _ _).put _ _).fault _ _
  · exact (SafFrame.refl s).wr _ _

theorem pllFallen_lock (s : State) {d : Nat} (hd : d < 6) : bit ((s.pllFallen d).rd CLK.PLL_LOCK) d = false := by
  have hfar : ∀ d < 6, CLK.PLL_LOCK.key ≠ (CLK.UNLOCKS d).key := by decide
  have hoff : bit ((s.wr CLK.PLL_LOCK (withBit (s.rd CLK.PLL_LOCK) d false)).rd CLK.PLL_LOCK) d = false := by
    rw [State.rd_wr_self, bit_mod_two_pow (show d < CLK.PLL_LOCK.width from hd), bit_withBit, if_pos rfl]
  unfold State.pllFallen
  dsimp only
  split
  · refine (congrArg (bit · d) (fault_keepsRegs _ pCLK 0 CLK.PLL_LOCK (by decide))).trans ?_
    refine (congrArg (bit · d) ((State.rd_put_ne _ CLK.INT_UNLOCK CLK.PLL_LOCK true (by decide)).trans ?_)).trans hoff
    exact State.rd_wr_ne _ _ _ _ (hfar d hd)
  · exact hoff

theorem pllFallen_shows {s : State} {d : Nat} (hd : d < 6) (hrun : s.runs pCLK = true) : (s.pllFallen d).on CLK.INT_UNLOCK = true
    ∧ (s.pllFallen d).rd (CLK.UNLOCKS d) = min (s.rd (CLK.UNLOCKS d) + 1) 65535 ∧ (s.pllFallen d).on (C.FAULT pCLK 0) = true := by
  have hfar : ∀ d < 6, (CLK.UNLOCKS d).key ≠ CLK.PLL_LOCK.key ∧ (CLK.UNLOCKS d).key ≠ CLK.INT_UNLOCK.key ∧ (CLK.UNLOCKS d).key ∉ faultKeys pCLK
      ∧ (CLK.UNLOCKS d).width = 16 := by decide
  obtain ⟨hlock, hint, hflt, hwidth⟩ := hfar d hd
  have hruns : (s.wr CLK.PLL_LOCK (withBit (s.rd CLK.PLL_LOCK) d false)).runs pCLK = true :=
    (runs_of_frame ((SafFrame.refl s).wr CLK.PLL_LOCK _) ((KeepsRegs.refl [CLK.PLL_LOCK.key] s).wr CLK.PLL_LOCK _ (by decide)) (by decide)).trans hrun
  unfold State.pllFallen
  dsimp only
  rw [if_pos hruns]
  refine ⟨?_, ?_, fault_on_self _ (by decide) (by decide)⟩
  · exact (congrArg (· != 0) (fault_keepsRegs _ pCLK 0 CLK.INT_UNLOCK (by decide))).trans (State.on_put_self _ _ _ (by decide))
  · refine (fault_keepsRegs _ pCLK 0 _ hflt).trans ?_
    refine (State.rd_put_ne _ _ _ _ hint).trans ?_
    rw [State.count, State.rd_wr_self, State.rd_wr_ne _ _ _ _ hlock, hwidth, satAdd]
    exact Nat.mod_eq_of_lt (by omega)

/-- A PLL's fall, seen by the clock checker: lost at once, or kept while the sentinel clock stands still. -/
theorem pllUnlock_shows {s : State} {d : Nat} (hd : d < 6) {t : State}
    (ht : t = (if (s.pllFallen d).pwr.hold then (s.pllFallen d).keep (.unlock d)
      else if (s.pllFallen d).runs pCHK then (s.pllFallen d).clockLost d else s.pllFallen d).showClocks) :
    bit (t.rd CLK.PLL_LOCK) d = false ∧ (s.pwr.hold = false → s.runs pCHK = true → t.clockGood d = false)
      ∧ (s.pwr.hold = true → t.pwr.held = s.pwr.held ++ [.unlock d])
      ∧ (s.runs pCLK = true → t.on CLK.INT_UNLOCK = true ∧ t.rd (CLK.UNLOCKS d) = min (s.rd (CLK.UNLOCKS d) + 1) 65535
          ∧ t.on (C.FAULT pCLK 0) = true) := by
  have hfar : ∀ d < 6, (CLK.UNLOCKS d).key ∉ lostKeys ∧ (CLK.UNLOCKS d).key ∉ [CHK.ST_ALL_GOOD.key, CLK.ST_ALL_LOCKED.key]
    := by decide
  obtain ⟨hcnt, hcnt'⟩ := hfar d hd
  have hframe := pllFallen_frame s d
  have hlock := pllFallen_lock s hd
  have hclk := fun h => pllFallen_shows (s := s) hd h
  have hrun : (s.pllFallen d).runs pCHK = s.runs pCHK := by
    have hkeep : KeepsRegs pllKeys s (s.pllFallen d) := by
      have hmem : ∀ d < 6, (CLK.UNLOCKS d).key ∈ pllKeys := by decide
      have hfall : KeepsRegs pllKeys s (s.wr CLK.PLL_LOCK (withBit (s.rd CLK.PLL_LOCK) d false)) :=
        (KeepsRegs.refl _ s).wr CLK.PLL_LOCK _ (by decide)
      unfold State.pllFallen
      dsimp only
      split
      · exact ((hfall.wr _ _ (hmem d hd)).put CLK.INT_UNLOCK true (by decide)).trans
          ((fault_keepsRegs _ pCLK 0).mono fun k hk => List.mem_append_right _ hk)
      · exact hfall
    exact runs_of_frame hframe hkeep (by decide)
  generalize s.pllFallen d = u at *
  obtain ⟨v, hv⟩ : ∃ v, (if u.pwr.hold then u.keep (.unlock d) else if u.runs pCHK then u.clockLost d else u) = v := ⟨_, rfl⟩
  have hkeep : KeepsRegs lostKeys u v := by
    rw [← hv]
    split
    · exact (KeepsRegs.refl _ u).of_cur rfl
    · split
      · exact (clockLost_keeps u d).1
      · exact KeepsRegs.refl _ u
  have hshow := showClocks_keeps v
  rw [hv] at ht
  subst ht
  have hrd {f : Fld} (h : f.key ∉ [CHK.ST_ALL_GOOD.key, CLK.ST_ALL_LOCKED.key]) (h' : f.key ∉ lostKeys) : v.showClocks.rd f = u.rd f :=
    (hshow f h).trans (hkeep f h')
  refine ⟨?_, fun hgap hchk => ?_, fun hgap => ?_, fun h => ?_⟩
  · rw [hrd (by decide) (by decide), hlock]
  · rw [if_neg (by rw [hframe.pwr, hgap]; decide), if_pos (hrun.trans hchk)] at hv
    refine (congrArg (bit · d) (hshow CHK.CLK_GOOD (by decide))).trans ?_
    rw [← hv]
    exact (clockLost_shows u hd).1
  · rw [if_pos (hframe.pwr ▸ hgap)] at hv
    rw [← hv]
    exact congrArg (fun p : PwrState => p.held ++ [Held.unlock d]) hframe.pwr
  · obtain ⟨hint, hcount, hflt⟩ := hclk h
    rw [State.on, hrd (by decide) (by decide), hrd hcnt' hcnt, State.on, hrd (by decide) (by decide)]
    exact ⟨hint, hcount, hflt⟩

/-! ### Releases (R402, R480, R483) -/

/-- The registers that SAF's steps at its release change. -/
def safKeys : List Nat := permitKeys ++ tripKeys

theorem SafFrame.safMirror (s : State) : SafFrame s s.safMirror := by
  unfold State.safMirror
  dsimp only
  split
  · exact SafFrame.tripGone s 1
  · split
    · split
      · exact SafFrame.refl s
      · exact tripSet_frame s 10
    · split
      · exact SafFrame.refl s
      · exact tripSet_frame s 1

theorem safMirror_keeps (s : State) : KeepsRegs safKeys s s.safMirror := by
  have hset (i : Nat) : KeepsRegs safKeys s (s.tripSet i) := (tripSet_keeps s i).mono fun k hk => List.mem_append_right _ hk
  unfold State.safMirror
  dsimp only
  split
  · exact (tripGone_keeps s 1).mono fun k hk => List.mem_append_left _ hk
  · split
    · split
      · exact KeepsRegs.refl _ s
      · exact hset 10
    · split
      · exact KeepsRegs.refl _ s
      · exact hset 1

theorem colophon_keeps (s : State) : KeepsRegs (SAF.COLOPHON_CALC.key :: tripKeys) s s.colophon ∧ SafFrame s s.colophon := by
  rw [colophon_eq]
  generalize colophonOf s.rd = v
  have h1 : KeepsRegs (SAF.COLOPHON_CALC.key :: tripKeys) s (s.wr SAF.COLOPHON_CALC v) := (KeepsRegs.refl _ s).wr _ _ List.mem_cons_self
  unfold State.checkShown
  split
  · exact ⟨h1.trans ((tripSet_keeps _ 19).mono fun k hk => List.mem_cons_of_mem _ hk), ((SafFrame.refl s).wr _ _).trans (tripSet_frame _ 19)⟩
  · exact ⟨h1, (SafFrame.refl s).wr _ _⟩

/-- The sentinel logic out of reset, with SAFEMODE as the strap has it. -/
def State.sentinelFreed (s : State) (n : Nat) : State :=
  let s1 : State := { s with
    rst.held := s.rst.held.filter fun p => !(subtree 6).contains p, rst.coldWait := none, rst.refWait := some n }
  s1.put SAF.SAFEMODE (s1.on RST.SAFEMODE)

/-- The hold trips of SAFEMODE and of the permits, as their inputs read (R409). -/
def State.holdTrips (s : State) : State :=
  let s1 := if s.on SAF.SAFEMODE then s.tripSet 2 else s
  if s1.rawInhibits then s1.tripSet 0 else s1

theorem holdTrips_keeps (s : State) : KeepsRegs tripKeys s s.holdTrips ∧ SafFrame s s.holdTrips := by
  have hif (b : Bool) (i : Nat) (t : State) : KeepsRegs tripKeys t (if b then t.tripSet i else t) ∧ SafFrame t (if b then t.tripSet i else t) := by
    split
    · exact ⟨tripSet_keeps t i, tripSet_frame t i⟩
    · exact ⟨KeepsRegs.refl _ t, SafFrame.refl t⟩
  have h1 := hif (s.on SAF.SAFEMODE) 2 s
  have h2 := hif (if s.on SAF.SAFEMODE then s.tripSet 2 else s).rawInhibits 0 (if s.on SAF.SAFEMODE then s.tripSet 2 else s)
  exact ⟨h1.1.trans h2.1, h1.2.trans h2.2⟩

theorem exec_sentinelRelease {s : State} {n : Nat} (h : s.rst.coldWait = some n) :
    exec .sentinelRelease s = .next (s.sentinelFreed n).holdTrips.safMirror.colophon.degrade.safOutputs.showRst := by
  show done (match s.rst.coldWait with | none => s | some n => _) = _
  rw [h]
  rfl

theorem sentinelRelease_shows (s : State) {t : State} (ht : t = s.holdTrips.safMirror.colophon.degrade.safOutputs.showRst) :
    t.rst = s.rst ∧ t.on SAF.SAFEMODE = s.on SAF.SAFEMODE := by
  obtain ⟨htrips, ftrips⟩ := holdTrips_keeps s
  generalize s.holdTrips = a at *
  have hmirror := safMirror_keeps a
  have fmirror := SafFrame.safMirror a
  generalize a.safMirror = b at *
  obtain ⟨hcol, fcol⟩ := colophon_keeps b
  generalize b.colophon = c at *
  have hdeg := degrade_keeps c
  have fdeg := SafFrame.degrade c
  generalize c.degrade = d at *
  have hout := safOutputs_keeps d
  have fout := SafFrame.safOutputs d
  generalize d.safOutputs = e at *
  have hshow := showRst_keeps e
  have fshow := SafFrame.showRst e
  subst ht
  refine ⟨(ftrips.trans (fmirror.trans (fcol.trans (fdeg.trans (fout.trans fshow))))).rst, ?_⟩
  have hrd : e.showRst.rd SAF.SAFEMODE = s.rd SAF.SAFEMODE := by
    rw [hshow _ (by decide), hout _ (by decide), hdeg _ (by decide), hcol _ (by decide), hmirror _ (by decide), htrips _ (by decide)]
  exact congrArg (· != 0) hrd

/-- What a unit does at its release leaves RST's own state alone. -/
theorem afterRelease_rst (s : State) (p : Nat) : (s.afterRelease p).rst = s.rst := by
  have hfault (t : State) (p b : Nat) : (t.fault p b).rst = t.rst := ((SafFrame.refl t).fault p b).rst
  have hcal (t : State) : t.loadCal.rst = t.rst := by
    unfold State.loadCal
    dsimp only
    split
    · refine (foldl_keeps State.rst ?_ _).trans rfl
      exact fun _ _ _ => rfl
    · exact (hfault _ _ _).trans rfl
  have hemt (t : State) (n : Nat) : (t.emtLevel n).rst = t.rst := by
    unfold State.emtLevel
    split
    · rfl
    · dsimp only
      split
      · exact (hfault _ _ _).trans rfl
      · rfl
  have hwarn (t : State) : t.xmssWarn.rst = t.rst := by
    unfold State.xmssWarn
    split <;> rfl
  have hex (t : State) : t.xmssExhausted.rst = t.rst := by
    unfold State.xmssExhausted
    split
    · exact (hfault _ _ _).trans rfl
    · rfl
  unfold State.afterRelease
  split
  · exact hemt s _
  · split
    · rfl
    · split
      · unfold State.bootCal
        split
        · exact hcal s
        · rfl
      · split
        · exact (hex _).trans ((hwarn _).trans rfl)
        · rfl

/-- The releases of a page wait for its clocks, and the ledger says so. -/
def State.releaseWaits (s : State) (p : Nat) (episode : Option Nat) : State :=
  State.inLedger { s with rst.due := s.rst.due.map fun x => if x.page = p then { x with waits := true } else x } episode
    fun e => { e with pendingClk := true }

/-- A page out of reset, and no longer due. -/
def State.pageFreed (s : State) (p : Nat) : State :=
  { s with rst.held := s.rst.held.filter (· != p), rst.due := s.rst.due.filter fun x => x.page != p }

/-- A release given up: no longer due, with its fault and its interrupt. -/
def State.releaseLost (s : State) (p : Nat) (d : Due) : State :=
  let s1 : State := { s with rst.due := s.rst.due.filter fun x => x.page != p }
  let s2 := (s1.inLedger d.episode fun e => { e with clkTmo := true }).fault pRST 1
  d.slots.foldl (fun s i => s.put (RST.SLOT_CLK_TMO i) true) (s2.raise RST.INT_CLK_TMO)

theorem exec_unitRelease_first {s : State} {page : Fin 183} {d : Due} {rest : List Due} (hgap : s.pwr.hold = false) (hdue : s.rst.due = d :: rest)
    (hpage : d.page = page) : exec (.unitRelease page) s =
      .next (if s.clocksGood page then ((s.pageFreed page).afterRelease page).showRst else (s.releaseWaits page d.episode).showRst) := by
  show done (s.ungated fun s => _) = _
  rw [State.ungated, if_neg (by rw [hgap]; decide), hdue, List.find?_cons_of_pos (by simpa using hpage),
    List.takeWhile_cons_of_neg (by simpa using hpage), ← hdue]
  rfl

theorem exec_clkTmo_first {s : State} {page : Fin 183} {d : Due} {rest : List Due} (hgap : s.pwr.hold = false) (hdue : s.rst.due = d :: rest)
    (hpage : d.page = page) (hwait : d.waits = true) : exec (.clkTmo page) s = .next (s.releaseLost page d).showRst := by
  show done (s.ungated fun s => _) = _
  rw [State.ungated, if_neg (by rw [hgap]; decide), hdue, List.find?_cons_of_pos (by simpa using ⟨hpage, hwait⟩), ← hdue]
  rfl

theorem releaseLost_shows {s : State} {p : Nat} {d : Due} : (s.releaseLost p d).rst.held = s.rst.held
    ∧ (s.releaseLost p d).rst.due = s.rst.due.filter (fun x => x.page != p)
    ∧ (s.releaseLost p d).on RST.INT_CLK_TMO = true ∧ (s.releaseLost p d).on (C.FAULT pRST 1) = true := by
  obtain ⟨u, hu⟩ : ∃ u, (State.inLedger { s with rst.due := s.rst.due.filter fun x => x.page != p } d.episode
    fun e => { e with clkTmo := true }).fault pRST 1 = u := ⟨_, rfl⟩
  have hrst := ((SafFrame.refl (State.inLedger { s with rst.due := s.rst.due.filter fun x => x.page != p } d.episode
    fun e => { e with clkTmo := true })).fault pRST 1).rst
  have hflt : u.on (C.FAULT pRST 1) = true := by
    rw [← hu]
    exact fault_on_self _ (by decide) (by decide)
  rw [hu] at hrst
  rw [State.releaseLost, hu]
  have hslots (l : List Nat) (t : State) {f : Fld} (hf : f.key < (RST.SLOT_CLK_TMO 0).key) :
      (l.foldl (fun s i => s.put (RST.SLOT_CLK_TMO i) true) t).on f = t.on f := by
    have hone (t : State) (i : Nat) : (t.put (RST.SLOT_CLK_TMO i) true).on f = t.on f := by
      refine State.on_put_ne _ _ _ _ fun e => ?_
      simp only [RST.SLOT_CLK_TMO, fld_key, pageBits] at hf e
      omega
    exact foldl_keeps (State.on · f) (fun t i _ => hone t i) t
  have hkeep (l : List Nat) (t : State) : (l.foldl (fun s i => s.put (RST.SLOT_CLK_TMO i) true) t).rst = t.rst :=
    (SafFrame.foldl (fun t i _ => (SafFrame.refl t).put (RST.SLOT_CLK_TMO i) true) t).rst
  refine ⟨?_, ?_, (hslots _ _ (by decide)).trans (State.on_put_self _ _ _ (by decide)), (hslots _ _ (by decide)).trans ?_⟩
  · exact (congrArg RstState.held (hkeep d.slots (u.raise RST.INT_CLK_TMO))).trans ((congrArg RstState.held hrst).trans rfl)
  · exact (congrArg RstState.due (hkeep d.slots (u.raise RST.INT_CLK_TMO))).trans ((congrArg RstState.due hrst).trans rfl)
  · exact (congrArg (· != 0) (State.rd_put_ne _ _ _ _ (by decide))).trans hflt

/-- Settles O52, a command at a time: each shows through what the steps of RST, SAF and the clock checker keep. -/
theorem releasesAndClocks : Obligations.ReleasesAndClocks := by
  unfold Obligations.ReleasesAndClocks
  intro page domain ref count d rest n s
  dsimp only
  have hd : (domain : Nat) < 6 := domain.isLt
  refine ⟨fun hcold => ?_, fun hgap hdue => ⟨fun hpage => ⟨fun hgood => ?_, fun hbad => ?_, fun hwait => ?_⟩, fun hne hwait hdom => ?_⟩,
    fun hgap hwait href => ?_, fun hgap => ?_, fun hrun hgap => ⟨fun hlo hhi => ?_, fun hout => ?_, fun hin href => ?_, fun hin href => ?_,
      fun hout => ?_, ?_, ?_⟩, fun hoff => ⟨?_, fun hlock => ?_⟩⟩
  · obtain ⟨hrst, hmode⟩ := sentinelRelease_shows (s.sentinelFreed n) rfl
    refine ⟨_, exec_sentinelRelease hcold, fun q => ?_, ?_, ?_, hmode.trans ?_⟩
    · rw [hrst]
      simp [State.sentinelFreed, State.put, State.wr]
    · rw [hrst]; rfl
    · rw [hrst]; rfl
    · exact State.on_put_self _ _ _ (by decide)
  · refine ⟨_, exec_unitRelease_first hgap hdue hpage, ?_⟩
    rw [if_pos hgood, (SafFrame.showRst _).rst, afterRelease_rst]
    simp only [State.pageFreed, List.mem_filter]
    exact ⟨by simp, fun x hx => by simpa using hx.2, fun q hq => by simp [hq]⟩
  · refine ⟨_, exec_unitRelease_first hgap hdue hpage, ?_⟩
    rw [hbad, if_neg Bool.false_ne_true, (SafFrame.showRst _).rst, showRst_pending]
    refine ⟨rfl, fun x hx hp => ?_, ?_⟩
    · obtain ⟨y, -, rfl⟩ := List.mem_map.mp hx
      by_cases hy : y.page = page
      · rw [if_pos hy]
      · rw [if_neg hy] at hp
        exact absurd hp hy
    · simp [State.releaseWaits, State.inLedger, hdue, hpage]
  · obtain ⟨hheld, hkept, hint, hflt⟩ := releaseLost_shows (s := s) (p := page) (d := d)
    have hshow := showRst_keeps (s.releaseLost page d)
    refine ⟨_, exec_clkTmo_first hgap hdue hpage hwait, ?_, fun x hx => ?_, ?_, ?_⟩
    · rw [(SafFrame.showRst _).rst, hheld]
    · rw [(SafFrame.showRst _).rst, hkept, List.mem_filter] at hx
      simpa using hx.2
    · exact (congrArg (· != 0) (hshow RST.INT_CLK_TMO (by decide))).trans hint
    · exact (congrArg (· != 0) (hshow (C.FAULT pRST 1) (by decide))).trans hflt
  · show done (s.ungated fun s => _) = _
    rw [State.ungated, if_neg (by rw [hgap]; decide)]
    split
    · rfl
    · rw [if_pos]
      · rfl
      · simp [hdue, hne, hwait, hdom]
  · refine ⟨s.fault pCHK 6, ?_, fault_on_self s (by decide) (by decide), ((SafFrame.refl s).fault _ _).rst⟩
    show done (s.ungated fun s => _) = _
    rw [State.ungated, if_neg (by rw [hgap]; decide), if_pos]
    · rfl
    · rw [href, Option.isSome_iff_ne_none.mpr hwait]; rfl
  · have hungated (f : State → State) : s.ungated f = s := if_pos hgap
    refine ⟨congrArg done (hungated _), congrArg done (hungated _), congrArg done (hungated _), congrArg done (if_pos ?_), congrArg done (if_pos ?_)⟩
    · rw [hgap, Bool.or_true]
    · rw [hgap, Bool.or_true]
  · obtain ⟨hgood, hcount, hwait, hpwr⟩ := refHolds_shows (s.wr CHK.REF_COUNT ref.toNat)
    obtain ⟨hregs, hseq⟩ := refWaitEnds_shows (s.wr CHK.REF_COUNT ref.toNat).refHolds
    refine ⟨_, exec_refCheckWindow hrun hgap, ?_⟩
    rw [if_pos (by simp [hlo, hhi])]
    refine ⟨?_, ?_, fun m hm => ?_⟩
    · refine ((congrArg (fun y : Regs => y.cur.rd CHK.REF_COUNT) hregs).trans hcount).trans ?_
      rw [State.rd_wr_self]
      exact Nat.mod_eq_of_lt ref.isLt
    · exact (congrArg (fun y : Regs => y.cur.rd CHK.REF_GOOD != 0) hregs).trans hgood
    · obtain ⟨hnone, hturns⟩ := hseq m (hwait.trans hm)
      exact ⟨hnone, by rw [hturns, hpwr hgap]; rfl⟩
  · obtain ⟨hgood, hcount, hint⟩ := refLost_shows (s.wr CHK.REF_COUNT ref.toNat)
    refine ⟨_, exec_refCheckWindow hrun hgap, ?_⟩
    rw [if_neg (by simp; omega)]
    refine ⟨?_, hgood, fun h => hint ((congrArg (· != 0) (State.rd_wr_ne _ _ _ _ (by decide))).trans h)⟩
    rw [hcount, State.rd_wr_self]
    exact Nat.mod_eq_of_lt ref.isLt
  · obtain ⟨hcount, hsame, hregood, -⟩ := countShown hd s count
    refine ⟨_, exec_clockCheckWindow_good domain hrun hgap hin, ?_⟩
    split
    · next h =>
      rw [hregood, href, Bool.not_true, Bool.or_false] at h
      exact ⟨hcount, h⟩
    · obtain ⟨hgood, hkept⟩ := clockRaised_shows (s.wr (CHK.COUNT domain) count.toNat) hd
      exact ⟨hkept.trans hcount, hgood⟩
  · obtain ⟨-, -, hregood, -⟩ := countShown hd s count
    rw [exec_clockCheckWindow_good domain hrun hgap hin, if_pos (by rw [hregood, href, Bool.not_false, Bool.or_true])]
  · obtain ⟨hcount, hsame, -, hfar⟩ := countShown hd s count
    obtain ⟨hgood, hint⟩ := clockLost_shows (s.wr (CHK.COUNT domain) count.toNat) hd
    refine ⟨_, exec_clockCheckWindow_bad domain hrun hgap hout, ?_⟩
    exact ⟨((clockLost_keeps _ _).1 _ hfar).trans hcount, hgood, fun h => hint (hsame.trans h)⟩
  · exact ⟨_, exec_clockEdgeTimeout none hrun hgap, (refLost_shows s).1⟩
  · exact ⟨_, exec_clockEdgeTimeout (some domain) hrun hgap, (clockLost_shows s hd).1, (clockLost_shows s hd).2⟩
  · refine ⟨State.showClocks (s.wr CLK.PLL_LOCK (withBit (s.rd CLK.PLL_LOCK) domain true)), ?_, ?_, ?_⟩
    · exact congrArg done (if_neg (by rw [hoff]; decide))
    · rw [showClocks_keeps _ CLK.PLL_LOCK (by decide), State.rd_wr_self, bit_mod_two_pow (show (domain : Nat) < CLK.PLL_LOCK.width from hd), bit_withBit, if_pos rfl]
    · exact ((KeepsRegs.refl _ s).wr _ _ (by decide)).trans ((showClocks_keeps _).mono fun k hk => List.mem_cons_of_mem _ hk)
  · exact ⟨_, exec_pllUnlock domain hoff hlock, pllUnlock_shows hd rfl⟩

end Sys2Proof.Machine
end

section
/-! PROOFS. The sources of reset (R470 to R476): a life-record entry that fences an engine beyond the 72 spoils the episode count. -/
namespace Sys2Proof.Machine
open Sys2Proof

/-- The number of an engine whose FENCED bit, were there one, would lie on RST's EPISODES. -/
def strayEngine : Nat := 753584

/-- A COLD episode whose sources have gone, with a life-record entry that fences the stray engine. -/
def strayFence : State :=
  State.wr { rst := { episodes := [{ reach := 0 }] }, nvs := { life := [{ fenced := [strayEngine] }] } } RST.EPISODES 1

theorem fenced_stray_key : (REG.FENCED strayEngine).key = RST.EPISODES.key := by decide

/-- The new STATE of the stray engine does not reach EPISODES. -/
theorem setReState_episodes (s : State) (st : Nat) : (s.setReState strayEngine st).rd RST.EPISODES = s.rd RST.EPISODES := by
  have hst : RST.EPISODES.key ≠ (RE.STATE strayEngine).key ∧ RST.EPISODES.key ≠ (RE.ST_LOCKED strayEngine).key
      ∧ RST.EPISODES.key ≠ (RE.ST_SERVING strayEngine).key ∧ RST.EPISODES.key ≠ (RE.ST_SPARE strayEngine).key := by decide
  obtain ⟨hstate, hlocked, hserving, hspare⟩ := hst
  unfold State.setReState State.showSpare
  rw [State.rd_put_ne _ _ _ _ hspare, State.rd_put_ne _ _ _ _ hserving, State.rd_put_ne _ _ _ _ hlocked, State.rd_wr_ne _ _ _ _ hstate]

/-- Loading an engine map that fences the stray engine leaves EPISODES at 1. -/
theorem loadMap_stray {s : State} {e : LifeEntry} {l : List LifeEntry} (hlife : s.nvs.life = e :: l) (hfence : e.fenced = [strayEngine]) :
    s.loadMap.rd RST.EPISODES = 1 := by
  unfold State.loadMap
  rw [hlife]
  dsimp only
  rw [hfence, List.foldl_cons, List.foldl_nil, setReState_episodes]
  generalize (List.range 64).foldl _ s = u
  have hsame : (u.put (REG.FENCED strayEngine) true).rd RST.EPISODES = (u.put (REG.FENCED strayEngine) true).rd (REG.FENCED strayEngine) :=
    congrArg (Tab.get 0 _) fenced_stray_key.symm
  rw [hsame]
  exact State.rd_wr_self _ _ _

/-- The episode gone and logged, before the straps are sampled. -/
def strayEnded : State :=
  (State.wr { strayFence.drew 1 with
    rst.episodes := [], rst.ledger := [{
      episode := (strayFence.rd RST.EPISODES + 1) % 65536, reach := 0, accession := 0, duration := strayFence.freeVal 0 % 65536, target := 0xFFFF }] }
    RST.EPISODES ((strayFence.rd RST.EPISODES + 1) % 65536)).raise RST.INT_EPISODE_END

/-- The engine map and the fences loaded, and the COLD release awaited. -/
def strayLoaded : State :=
  { strayEnded.sampleStraps.loadMap with rst.coldWait := some ((strayFence.rd RST.EPISODES + 1) % 65536), nvs.coldPending := true }

theorem exec_episodeEnd_stray : exec .episodeEnd strayFence = .next strayLoaded.showRst := rfl

theorem strayLoaded_episodes : strayLoaded.rd RST.EPISODES = 1 := by
  have hlife : strayEnded.sampleStraps.nvs.life = [{ fenced := [strayEngine] }] := rfl
  have hmap := loadMap_stray hlife rfl
  unfold strayLoaded
  generalize strayEnded.sampleStraps.loadMap = u at *
  exact hmap

/-- Refutes O51: the state may hold a life-record entry that fences an engine outside 0 to 71, and loading its map at the end of a COLD
episode then writes over EPISODES, which reads 1 where 2 episodes have ended. -/
theorem not_resetSources : ¬ Obligations.ResetSources := by
  unfold Obligations.ResetSources
  intro h
  obtain ⟨-, -, -, -, hclocked, -⟩ := h .host 0 0 { reach := 0 } strayFence
  obtain ⟨-, -, -, -, hend⟩ := hclocked rfl
  obtain ⟨t, entry, hexec, -, hcount, -⟩ := hend rfl rfl fun x hx => absurd hx List.not_mem_nil
  have ht : t = strayLoaded.showRst := Host.Outcome.next.inj (hexec.symm.trans exec_episodeEnd_stray)
  rw [ht, showRst_keeps _ RST.EPISODES (by decide), strayLoaded_episodes] at hcount
  exact absurd hcount (by decide)

end Sys2Proof.Machine
end

section
/-! PROOFS. The boundary of a commit (R50, R447, R450): a commit that changes PRIMARY opens the gap of a switch-over within its own strobe. -/
namespace Sys2Proof.Machine
open Sys2Proof

/-- A commit past its boundary that PWR and the watch still have to apply: PRIMARY moves to feed B, which is present. -/
def switchingCommit : State :=
  let s := ((State.put { cat := { applying := true } } (C.STAGED pPWR) true).put (C.STAGED pWATCH) true).put PWR.B_PRESENT true
  { s with regs.staged := s.regs.staged.wr PWR.PRIMARY 1 }

/-- A command that completes leaves the watch's copy staged. -/
def leavesWatchStaged (o : Host.Outcome State Fault Refusal) : Bool :=
  match o with
  | .next t => t.on (C.STAGED pWATCH)
  | _ => false

/-- PWR applies before the watch and switches over at once (R450), and the watch's copy then waits for the end of the gap (R447). -/
theorem strobe_leavesWatchStaged : leavesWatchStaged (exec (.frameBoundaryStrobe 0x24) switchingCommit) = true := by decide +kernel

/-- Refutes O24: no gap is open when the strobe reaches the sentinel domain, but PWR opens one as it applies a changed PRIMARY, and the
watch, after it in the domain, does not apply its staged copy. -/
theorem not_commitBoundary : ¬ Obligations.CommitBoundary := by
  unfold Obligations.CommitBoundary
  intro h
  obtain ⟨-, -, hstrobe⟩ := h switchingCommit
  obtain ⟨t, hexec, hoff, -⟩ := hstrobe 0x24 (by decide) (by decide) (fun hw => absurd hw.1 (by decide)) rfl (by decide +kernel)
  have hon := strobe_leavesWatchStaged
  rw [hexec] at hon
  exact absurd (hon.symm.trans hoff) (by decide)

end Sys2Proof.Machine
end

section
/-! PROOFS. Snapshots (R30, R58, R59): what a boundary does after its capture leaves the capture alone. -/
namespace Sys2Proof.Machine
open Sys2Proof

/-- The capture and what the catalogue keeps of it. -/
def State.snapPart (s : State) : Snapshot × Bool × Bool × Word × Nat :=
  (s.snap, s.cat.snapWaiting, s.cat.snapCapturing, s.cat.snapAccession, s.cat.snapShot)

theorem SafFrame.snapPart {s t : State} (h : SafFrame s t) : t.snapPart = s.snapPart := (congrArg State.snapPart h.rest).trans rfl

theorem fault_snap (s : State) (p b : Nat) : (s.fault p b).snapPart = s.snapPart := ((SafFrame.refl s).fault p b).snapPart

/-! ### What a folio does as it applies -/

theorem applyStaged_snap (s : State) (p : Nat) : (s.applyStaged p).snapPart = s.snapPart := rfl

theorem emtApply_snap (s : State) : s.emtApply.snapPart = s.snapPart := by
  unfold State.emtApply
  generalize List.range 128 = gains
  generalize List.range 8 = strings
  extract_lets _ s1 s2
  have h1 : s1.snapPart = s.snapPart := rfl
  clear_value s1
  refine (foldl_keeps State.snapPart ?_ _).trans ((foldl_keeps State.snapPart ?_ s1).trans h1)
  · exact fun _ _ _ => rfl
  · exact fun _ _ _ => rfl

/-- A code computed for other settings is given up. -/
theorem codeDropped_snap (s : State) (changed : Bool) : State.snapPart (if changed then { s with emt.ready := none } else s) = s.snapPart := by
  cases changed <;> rfl

theorem applyEmt_snap (s : State) : s.applyEmt.snapPart = s.snapPart :=
  (codeDropped_snap (s.applyStaged pEMT).emtApply _).trans ((emtApply_snap _).trans (applyStaged_snap s pEMT))

theorem applyEmtFolio_snap (s : State) : s.applyEmtFolio.snapPart = s.snapPart := by
  have h1 := applyEmt_snap s
  unfold State.applyEmtFolio
  generalize s.applyEmt = u at *
  exact h1

theorem setTrim_snap (s : State) (j v : Nat) : (s.setTrim j v).snapPart = s.snapPart := by
  unfold State.setTrim
  split <;> rfl

theorem applySection_snap (s : State) (j : Nat) : (s.applySection j).snapPart = s.snapPart := by
  have hskip (t : State) : (t.scanSkip j).snapPart = t.snapPart := by
    unfold State.scanSkip
    split <;> rfl
  unfold State.applySection
  extract_lets starts s1 s2 s3
  have h2 : s2.snapPart = s.snapPart := by
    unfold s2
    split
    · refine (foldl_keeps State.snapPart ?_ s1).trans (applyStaged_snap s _)
      exact fun _ _ _ => rfl
    · exact applyStaged_snap s _
  have h3 : s3.snapPart = s.snapPart := by
    unfold s3
    split
    · exact h2
    · exact (setTrim_snap _ _ _).trans h2
  clear_value s3
  refine (foldl_keeps State.snapPart ?_ _).trans ((hskip s3).trans h3)
  exact fun _ _ _ => rfl

theorem applyTim_snap (s : State) : s.applyTim.snapPart = s.snapPart := by
  unfold State.applyTim
  extract_lets s0 _ s1
  have h0 : s0.snapPart = s.snapPart := applyStaged_snap s pTIM
  have h1 : s1.snapPart = s.snapPart := by
    unfold s1
    clear_value s0
    split
    · exact h0
    · exact h0
  clear_value s1
  refine (foldl_keeps State.snapPart ?_ s1).trans h1
  intro t n _
  dsimp only
  split <;> rfl

theorem degrade_snap (s : State) : s.degrade.snapPart = s.snapPart := (SafFrame.degrade s).snapPart

theorem applyAcq_snap (s : State) : s.applyAcq.snapPart = s.snapPart := by
  unfold State.applyAcq
  extract_lets s1 s3 s4 out in_
  have h1 : s1.snapPart = s.snapPart := applyStaged_snap s pACQ
  have h3 : s3.snapPart = s.snapPart := by
    unfold s3 State.syncFound
    clear_value s1
    split
    · exact (degrade_snap _).trans h1
    · exact h1
  have h4 : s4.snapPart = s.snapPart := h3
  clear_value s4
  exact h4

theorem scnStop_snap (s : State) (causes phase : Nat) : (s.scnStop causes phase).snapPart = s.snapPart := by
  have hfaults : ((List.range 5).foldl (fun s i => if bit causes i then s.fault pSCN i else s) s).snapPart = s.snapPart := by
    refine foldl_keeps State.snapPart ?_ s
    intro t i _
    split
    · exact fault_snap t _ _
    · rfl
  unfold State.scnStop
  dsimp only
  split
  · exact hfaults
  · exact hfaults

theorem scnApplied_snap (s : State) (m : Nat) : (s.scnApplied m).snapPart = s.snapPart := by
  unfold State.scnApplied
  extract_lets _ s1 m1
  have h1 : s1.snapPart = s.snapPart := by
    unfold s1
    split <;> rfl
  clear_value s1
  split
  · exact h1
  · split
    · exact (scnStop_snap s1 64 phOff).trans h1
    · split
      · exact h1
      · exact h1

theorem switchFeed_snap (s : State) : s.switchFeed.snapPart = s.snapPart :=
  (SafFrame.safOutputs _).snapPart.trans ((SafFrame.inhibit _).snapPart.trans rfl)

theorem applyPwr_snap (s : State) : s.applyPwr.snapPart = s.snapPart := by
  have h1 := applyStaged_snap s pPWR
  unfold State.applyPwr
  dsimp only
  generalize s.applyStaged pPWR = u at *
  split
  · exact h1
  · split
    · exact (switchFeed_snap u).trans h1
    · exact (SafFrame.showFeed u).snapPart.trans h1

theorem applyCalStaged_snap (s : State) : s.applyCalStaged.snapPart = s.snapPart := by
  have hruhal (t : State) : t.loadRuhal.snapPart = t.snapPart := by
    have hsets (nch : Nat) (x : Nat → Nat → CalSet → CalSet) : ((List.range 5).foldl (fun s p => (List.range nch).foldl (fun s c =>
        State.setCalSet s c p (x p c (s.calSet c p))) s) t).snapPart = t.snapPart := by
      refine foldl_keeps State.snapPart ?_ t
      intro u p _
      refine foldl_keeps State.snapPart ?_ u
      exact fun _ _ _ => rfl
    unfold State.loadRuhal
    extract_lets tbl nch s1
    have h1 : s1.snapPart = t.snapPart := hsets nch fun p c x => { x with
      sel := BitVec.ofNat 32 (ofLeBytes ((tbl.drop (0x10 + 8 * (p * nch + c))).take 4))
      skew := toSigned 16 (ofLeBytes ((tbl.drop (0x10 + 8 * (p * nch + c) + 4)).take 2)) }
    clear_value s1
    exact h1
  unfold State.applyCalStaged
  extract_lets breaks ruhal s1 s2 _ s3
  have h1 : s1.snapPart = s.snapPart := applyStaged_snap s pCAL
  have h2 : s2.snapPart = s.snapPart := by
    unfold s2
    split
    · exact (hruhal s1).trans h1
    · exact h1
  have h3 : s3.snapPart = s.snapPart := by
    unfold s3
    split
    · exact h2
    · exact h2
  exact h3

theorem applyLmp_snap (s : State) : s.applyLmp.snapPart = s.snapPart := by
  unfold State.applyLmp
  extract_lets s0 img _ s1 s2
  have h0 : s0.snapPart = s.snapPart := applyStaged_snap s pLMP
  have h1 : s1.snapPart = s.snapPart := h0
  clear_value s1
  unfold s2
  generalize List.range 64 = lamps
  generalize List.range 4 = strings
  refine (foldl_keeps State.snapPart ?_ _).trans ((foldl_keeps State.snapPart ?_ s1).trans h1)
  · exact fun _ _ _ => rfl
  · exact fun _ _ _ => rfl

theorem contactorSettled_snap (s : State) : s.contactorSettled.snapPart = s.snapPart := by
  unfold State.contactorSettled
  dsimp only
  split
  · exact (SafFrame.safOutputs _).snapPart
  · exact (SafFrame.safOutputs _).snapPart.trans rfl

theorem clearPerturb_snap (s : State) : s.clearPerturb.snapPart = s.snapPart := by
  have h := clearPerturb_frame s
  generalize s.clearPerturb = u at *
  rw [h]
  rfl

/-- An attempt that waits for the units' confirmation. -/
def State.awaitsUnits (s : State) (asked : Bool) : State := { s with saf.entering := true, saf.asked := asked }

theorem tryOperate_eq (s : State) (asked : Bool) :
    s.tryOperate asked = if s.mayOperate then s.clearPerturb.awaitsUnits asked else s := rfl

theorem awaitsUnits_snap (s : State) (asked : Bool) : (s.awaitsUnits asked).snapPart = s.snapPart := rfl

theorem tryOperate_snap (s : State) (asked : Bool) : (s.tryOperate asked).snapPart = s.snapPart := by
  rw [tryOperate_eq]
  split
  · exact (awaitsUnits_snap _ asked).trans (clearPerturb_snap s)
  · rfl

theorem autoOper_snap (s : State) : s.autoOper.snapPart = s.snapPart := by
  unfold State.autoOper
  split
  · exact tryOperate_snap { s with saf.autoTried := true } false
  · rfl

/-- SAF's staged values in force. -/
def State.safStaged (s : State) : State := { s.applyStaged pSAF with saf.committed := true }

theorem safStaged_snap (s : State) : s.safStaged.snapPart = s.snapPart := by
  have h := applyStaged_snap s pSAF
  unfold State.safStaged
  generalize s.applyStaged pSAF = u at *
  exact h

/-- The feedback with the polarity in force, and the contactor judged by it. -/
def State.feedbackShown (s : State) : State := (s.put SAF.CTR_FB_CLOSED (s.saf.rawFb != s.on SAF.CTR_FB_POL)).contactorSettled

theorem feedbackShown_snap (s : State) : s.feedbackShown.snapPart = s.snapPart := (contactorSettled_snap _).trans rfl

theorem applySaf_eq (s : State) : s.applySaf =
    if s.safStaged.feedbackShown.saf.autoTried then s.safStaged.feedbackShown else s.safStaged.feedbackShown.autoOper := rfl

theorem applySaf_snap (s : State) : s.applySaf.snapPart = s.snapPart := by
  have h := (feedbackShown_snap s.safStaged).trans (safStaged_snap s)
  rw [applySaf_eq]
  generalize s.safStaged.feedbackShown = u at *
  split
  · exact h
  · exact (autoOper_snap u).trans h

theorem applyPage_snap (s : State) (p : Nat) : (s.applyPage p).snapPart = s.snapPart := by
  unfold State.applyPage
  split
  · exact applyEmtFolio_snap s
  split
  · exact applySection_snap s _
  split
  · exact applyTim_snap s
  split
  · exact applyAcq_snap s
  split
  · exact (scnApplied_snap (s.applyStaged pSCN) _).trans (applyStaged_snap s pSCN)
  split
  · exact applyPwr_snap s
  split
  · exact applyCalStaged_snap s
  split
  · exact applyLmp_snap s
  split
  · exact applySaf_snap s
  · exact applyStaged_snap s p

/-! ### The boundary -/

theorem applyNow_snap (s : State) (p : Nat) : (s.applyNow p).snapPart = s.snapPart := by
  unfold State.applyNow
  split
  · rfl
  · split
    · rfl
    · exact applyPage_snap s p

theorem finishCommit_snap (s : State) : s.finishCommit.snapPart = s.snapPart := by
  unfold State.finishCommit
  split <;> rfl

theorem commitBoundary_snap (s : State) : s.commitBoundary.snapPart = s.snapPart := by
  unfold State.commitBoundary
  split
  · rfl
  · extract_lets _ _ s1 all s2 s3
    have h2 : s2.snapPart = s.snapPart := by
      refine (foldl_keeps State.snapPart ?_ s1).trans rfl
      intro t p _
      split <;> rfl
    have h3 : s3.snapPart = s.snapPart := (foldl_keeps State.snapPart (fun t p _ => applyNow_snap t p) s2).trans h2
    clear_value s3
    refine (finishCommit_snap _).trans ((foldl_keeps State.snapPart ?_ s3).trans h3)
    intro t p _
    unfold State.holdOrApply
    split
    · rfl
    · split
      · rfl
      · exact applyPage_snap t p

theorem trimBoundary_snap (s : State) (j : Nat) : (s.trimBoundary j).snapPart = s.snapPart := by
  have hmove (t : State) (x : Int) : (t.moveTrim j x).snapPart = t.snapPart := by
    unfold State.moveTrim
    dsimp only
    split
    · exact setTrim_snap t _ _
    · exact setTrim_snap t _ _
  unfold State.trimBoundary
  split
  · rfl
  · extract_lets noModel s1
    have h1 : s1.snapPart = s.snapPart := rfl
    clear_value s1
    split
    · exact h1
    · split
      · exact (setTrim_snap s1 _ _).trans h1
      · split
        · split
          · split
            · exact (hmove s1 _).trans h1
            · exact h1
          · exact h1
        · exact h1

theorem takeTcal_snap (s : State) : s.takeTcal.snapPart = s.snapPart := by
  refine foldl_keeps State.snapPart ?_ s
  intro t b _
  dsimp only
  split
  · rfl
  · split <;> rfl
  · rfl

theorem calIdle_snap (s : State) : s.calIdle.snapPart = s.snapPart := by
  have hend (t : State) : t.endAborted.snapPart = t.snapPart := by
    unfold State.endAborted
    dsimp only
    refine (foldl_keeps State.snapPart ?_ t :)
    intro u x _
    split <;> rfl
  unfold State.calIdle
  split
  · exact (hend _).trans (takeTcal_snap s)
  · rfl

theorem clampRate_snap (s : State) : s.clampRate.snapPart = s.snapPart := by
  unfold State.clampRate
  extract_lets n _ s1
  have h1 : s1.snapPart = s.snapPart := by
    unfold s1
    split <;> rfl
  exact h1

theorem takeUp_snap (s : State) : s.takeUp.snapPart = s.snapPart := by
  refine foldl_keeps State.snapPart ?_ s
  intro t g _
  dsimp only
  split <;> rfl

/-- What follows the capture at an idle boundary. -/
def State.idleEffects (s : State) : State :=
  let s1 := ((List.range folioCount).foldl State.applyNow s.commitBoundary).finishCommit
  ((List.range 11).foldl State.trimBoundary s1).calIdle.clampRate.takeUp

theorem idleEffects_snap (s : State) : s.idleEffects.snapPart = s.snapPart := by
  have happly : ((List.range folioCount).foldl State.applyNow s.commitBoundary).finishCommit.snapPart = s.snapPart :=
    (finishCommit_snap _).trans ((foldl_keeps State.snapPart (fun t p _ => applyNow_snap t p) _).trans (commitBoundary_snap s))
  unfold State.idleEffects
  dsimp only
  generalize ((List.range folioCount).foldl State.applyNow s.commitBoundary).finishCommit = u at *
  refine (takeUp_snap _).trans ((clampRate_snap _).trans ((calIdle_snap _).trans ?_))
  exact (foldl_keeps State.snapPart (fun t j _ => trimBoundary_snap t j) u).trans happly

theorem exec_idleBoundary {s : State} (hrun : s.runs pACQ = true) (hframe : s.acq.frame = none) (hdue : s.cat.boundaryDue = false) :
    exec .idleBoundary s = .next (s.snapBoundary (s.lastAccession.getD 0) 0xFFF).idleEffects := by
  have hreached : s.boundaryReached = s := if_pos (by rw [hdue]; rfl)
  show done (if s.inFrame || !s.runs pACQ then s else _) = _
  rw [if_neg (by rw [State.inFrame, hframe, hrun]; decide), hreached]
  rfl

/-! ### The answer to a waiting `snap` -/

theorem feed_mon (l : List Byte) (s : State) : State.feed l s = { s with mon := (State.feed l s).mon } := by
  induction l generalizing s with
  | nil => rfl
  | cons c r ih =>
    have hline : s.lineChar c = { s with mon := (s.lineChar c).mon } := by
      unfold State.lineChar
      split_ifs <;> rfl
    rw [State.feed]
    split
    · rfl
    · rw [ih (s.lineChar c), hline]

theorem snapAnswer_mon (s : State) : s.snapAnswer = { s with mon := s.snapAnswer.mon } ∧ (s.mon.snapWait = false → s.snapAnswer.mon = s.mon) := by
  unfold State.snapAnswer
  split
  · next h =>
    refine ⟨?_, fun hw => absurd (hw.symm.trans h) Bool.false_ne_true⟩
    unfold State.answer
    dsimp only
    rw [feed_mon]
  · exact ⟨rfl, fun _ => rfl⟩

theorem snapBoundary_waiting {s : State} (h : s.cat.snapWaiting = true) (accession : Word) (shot : Nat) :
    (s.snapBoundary accession shot).snapPart = (s.image, false, true, accession, shot) := by
  rw [State.snapBoundary, if_pos h]
  rfl

/-- The capture shown, before a waiting `snap` is answered. -/
def State.captureShown (s : State) : State :=
  let s1 := ((s.put CAT.SNAP_BUSY false).put CAT.SNAP_VALID true).raise CAT.INT_SNAP_DONE
  { (s1.wr CAT.SNAP_ACCESSION s.cat.snapAccession.toNat).wr CAT.SNAP_SHOT s.cat.snapShot with cat.snapCapturing := false }

theorem exec_snapshotCapture {s : State} (h : s.cat.snapCapturing = true) : exec .snapshotCapture s = .next s.captureShown.snapAnswer :=
  congrArg done (if_neg (by rw [h]; decide))

def captureKeys : List Nat :=
  [CAT.SNAP_BUSY.key, CAT.SNAP_VALID.key, CAT.INT_SNAP_DONE.key, CAT.SNAP_ACCESSION.key, CAT.SNAP_SHOT.key]

theorem captureShown_shows (s : State) : s.captureShown.on CAT.SNAP_BUSY = false ∧ s.captureShown.on CAT.SNAP_VALID = true
    ∧ s.captureShown.on CAT.INT_SNAP_DONE = true ∧ s.captureShown.rd CAT.SNAP_ACCESSION = s.cat.snapAccession.toNat
    ∧ s.captureShown.rd CAT.SNAP_SHOT = s.cat.snapShot % 2 ^ 12 ∧ KeepsRegs captureKeys s s.captureShown := by
  refine ⟨?_, ?_, ?_, ?_, State.rd_wr_self _ _ _, ?_⟩
  · refine (congrArg (· != 0) ((State.rd_wr_ne _ CAT.SNAP_SHOT CAT.SNAP_BUSY _ (by decide)).trans
      ((State.rd_wr_ne _ CAT.SNAP_ACCESSION CAT.SNAP_BUSY _ (by decide)).trans
      ((State.rd_put_ne _ CAT.INT_SNAP_DONE CAT.SNAP_BUSY true (by decide)).trans
      (State.rd_put_ne _ CAT.SNAP_VALID CAT.SNAP_BUSY true (by decide)))))).trans (State.on_put_self _ _ _ (by decide))
  · refine (congrArg (· != 0) ((State.rd_wr_ne _ CAT.SNAP_SHOT CAT.SNAP_VALID _ (by decide)).trans
      ((State.rd_wr_ne _ CAT.SNAP_ACCESSION CAT.SNAP_VALID _ (by decide)).trans
      (State.rd_put_ne _ CAT.INT_SNAP_DONE CAT.SNAP_VALID true (by decide))))).trans (State.on_put_self _ _ _ (by decide))
  · refine (congrArg (· != 0) ((State.rd_wr_ne _ CAT.SNAP_SHOT CAT.INT_SNAP_DONE _ (by decide)).trans
      (State.rd_wr_ne _ CAT.SNAP_ACCESSION CAT.INT_SNAP_DONE _ (by decide)))).trans (State.on_put_self _ _ _ (by decide))
  · refine (State.rd_wr_ne _ CAT.SNAP_SHOT CAT.SNAP_ACCESSION _ (by decide)).trans ((State.rd_wr_self _ _ _).trans ?_)
    exact Nat.mod_eq_of_lt s.cat.snapAccession.isLt
  · exact (((((KeepsRegs.refl captureKeys s).put CAT.SNAP_BUSY false (by decide)).put CAT.SNAP_VALID true (by decide)).put CAT.INT_SNAP_DONE true
      (by decide)).wr CAT.SNAP_ACCESSION _ (by decide)).wr CAT.SNAP_SHOT _ (by decide)

/-- Settles O25: SNAP and the copy's end by their writes, the capture at an idle boundary by what the boundary's effects keep. -/
theorem snapshotCapture : Obligations.SnapshotCapture := by
  unfold Obligations.SnapshotCapture
  intro path s
  have hsnap (hr : s.runs 0 = true) : exec (.snap path) s = .next (State.snapRequest { s with bus := {} }) :=
    congrArg _ (State.writeTo_runs s 0 State.snapRequest hr)
  refine ⟨fun hr hbusy => ?_, fun hr hbusy => ?_, fun hr hframe hdue hwait => ?_, fun hcap => ?_⟩
  · rw [hsnap hr, State.snapRequest, if_neg (by rw [show State.on { s with bus := {} } CAT.SNAP_BUSY = s.on CAT.SNAP_BUSY from rfl, hbusy]; decide)]
    refine ⟨_, rfl, ?_, State.rd_wr_self _ _ _, ?_, rfl⟩
    · exact (congrArg (· != 0) (State.rd_wr_ne _ CAT.SNAP_MERGED CAT.SNAP_BUSY 0 (by decide))).trans (State.on_put_self _ _ _ (by decide))
    · exact ((KeepsRegs.refl _ s).put CAT.SNAP_BUSY true (by decide)).wr CAT.SNAP_MERGED 0 (by decide)
  · rw [hsnap hr, State.snapRequest, if_pos (show State.on { s with bus := {} } CAT.SNAP_BUSY = true from hbusy)]
    refine ⟨_, rfl, ?_, (KeepsRegs.refl _ s).wr CAT.SNAP_MERGED _ (by decide), rfl⟩
    refine (State.rd_wr_self _ _ _).trans ?_
    have hmin : satAdd (State.rd { s with bus := {} } CAT.SNAP_MERGED) 1 CAT.SNAP_MERGED.width = min (s.rd CAT.SNAP_MERGED + 1) 65535 := rfl
    rw [hmin]
    exact Nat.mod_eq_of_lt (lt_of_le_of_lt (min_le_right _ _) (by decide))
  · refine ⟨_, exec_idleBoundary hr hframe hdue, ?_⟩
    have h := (idleEffects_snap (s.snapBoundary (s.lastAccession.getD 0) 0xFFF)).trans (snapBoundary_waiting hwait _ _)
    generalize (s.snapBoundary (s.lastAccession.getD 0) 0xFFF).idleEffects = t at *
    simp only [State.snapPart, Prod.mk.injEq] at h
    obtain ⟨himage, hdone, hcapturing, haccession, hshot⟩ := h
    exact ⟨himage, hdone, hcapturing, hshot, haccession⟩
  · obtain ⟨hmon, hsame⟩ := snapAnswer_mon s.captureShown
    obtain ⟨hbusy, hvalid, hint, hacc, hshot, hkeep⟩ := captureShown_shows s
    have hshown : s.captureShown = { s with regs.cur := s.captureShown.regs.cur, cat.snapCapturing := false } := rfl
    have hregs : s.captureShown.snapAnswer.regs = s.captureShown.regs := (congrArg State.regs hmon).trans rfl
    have hrd (f : Fld) : s.captureShown.snapAnswer.rd f = s.captureShown.rd f := congrArg (fun y : Regs => y.cur.rd f) hregs
    refine ⟨_, exec_snapshotCapture hcap, ?_, ?_, ?_, ?_, ?_, ?_, ?_, fun h => ?_⟩
    · rw [State.on, hrd]; exact hbusy
    · rw [State.on, hrd]; exact hvalid
    · rw [State.on, hrd]; exact hint
    · rw [hrd]; exact hacc
    · rw [hrd]; exact hshot
    · exact hkeep.of_cur (congrArg Regs.cur hregs)
    · rw [hregs]
      generalize s.captureShown.snapAnswer.mon = m at *
      rw [hmon, hshown]
    · rw [hsame (by rw [hshown]; exact h), hshown]

end Sys2Proof.Machine
end

section
/-! PROOFS. Triggers and RUN (R55, R145, R147 to R153, R304): what an accepted, an ignored and a joining trigger show. -/
namespace Sys2Proof.Machine
open Sys2Proof

/-! ### What an accepted trigger keeps after its capture -/

/-- Nothing below the pages of the banks has changed. -/
def KeepsLow (s t : State) : Prop := ∀ f : Fld, f.key < 0x31 * pageBits → t.rd f = s.rd f

theorem KeepsLow.refl (s : State) : KeepsLow s s := fun _ _ => rfl

theorem KeepsLow.trans {s t u : State} (h : KeepsLow s t) (h' : KeepsLow t u) : KeepsLow s u := fun f hf => (h' f hf).trans (h f hf)

theorem KeepsLow.wr {s t : State} (h : KeepsLow s t) {f : Fld} (hf : 0x31 * pageBits ≤ f.key) (v : Nat) : KeepsLow s (t.wr f v) :=
  h.trans fun g hg => State.rd_wr_ne t f g v (by omega)

theorem KeepsLow.put {s t : State} (h : KeepsLow s t) {f : Fld} (hf : 0x31 * pageBits ≤ f.key) (b : Bool) : KeepsLow s (t.put f b) := h.wr hf _

theorem KeepsLow.foldl {α : Type} {f : State → α → State} {l : List α} (h : ∀ s, ∀ a ∈ l, KeepsLow s (f s a)) (s : State) :
    KeepsLow s (l.foldl f s) := by
  induction l generalizing s with
  | nil => exact KeepsLow.refl s
  | cons a l ih => exact (h s a List.mem_cons_self).trans (ih (fun t b hb => h t b (List.mem_cons_of_mem _ hb)) _)

/-- What a capture has set that is no register: the frame, the timer's trigger, the accession number, the pair trigger. -/
def State.trigPart (s : State) : Option Frame × Bool × Bool × Option Word × Option DWord :=
  (s.acq.frame, s.acq.timerPending, s.acq.triggered, s.lastAccession, s.lnk.pairAt)

theorem wr_trigPart (s : State) (f : Fld) (v : Nat) : (s.wr f v).trigPart = s.trigPart := rfl

theorem callFrame_keeps (s : State) (f : Frame) (g : Nat) : (s.callFrame f g).trigPart = s.trigPart ∧ (s.callFrame f g).regs = s.regs := by
  unfold State.callFrame
  dsimp only
  split_ifs <;> exact ⟨rfl, rfl⟩

theorem pushBlock_keeps (s : State) (n : Nat) (block : List Nat) :
    (s.pushBlock n block).trigPart = s.trigPart ∧ KeepsLow s (s.pushBlock n block) := by
  unfold State.pushBlock
  generalize block.map (BitVec.ofNat 64) = words
  have h : KeepsLow s ({ s with
    pca.out := s.pca.out ++ [words], pca.bytesRaw := s.pca.bytesRaw + 8 * (1 + n), pca.bytesSent := s.pca.bytesSent + 8 * block.length } : State) :=
    fun _ _ => rfl
  exact ⟨rfl, (h.wr (by decide : 0x31 * pageBits ≤ PCOD.OUT_FILL.key) _).wr (by decide : 0x31 * pageBits ≤ PCOD.OUT_USED.key) _⟩

theorem pushHead_keeps (s : State) : s.pushHead.trigPart = s.trigPart ∧ KeepsLow s s.pushHead := by
  unfold State.pushHead
  split
  · exact ⟨rfl, KeepsLow.refl s⟩
  · split
    · next f _ =>
      unfold State.pushFrame
      generalize [s.headRecord f] = ws
      obtain ⟨hpart, hkeep⟩ := pushBlock_keeps s ws.length (blockHeader 2 0xFFF ws.length ws.length ws :: ws)
      generalize s.pushBlock ws.length (blockHeader 2 0xFFF ws.length ws.length ws :: ws) = u at *
      exact ⟨hpart, hkeep⟩
    · exact ⟨rfl, KeepsLow.refl s⟩

/-- The fields of a session's bank lie above. -/
theorem bank_high (b j : Nat) : 0x31 * pageBits ≤ (BANK.TAP_CFG b j).key ∧ 0x31 * pageBits ≤ (BANK.TAP_HIST b j).key
    ∧ 0x31 * pageBits ≤ (BANK.CH_CAL b).key ∧ 0x31 * pageBits ≤ (BANK.HIST_CH b).key ∧ 0x31 * pageBits ≤ (BANK.ST_HIST_BUSY b).key
    ∧ 0x31 * pageBits ≤ (BANK.HIST_N b).key := by
  simp only [BANK.TAP_CFG, BANK.TAP_HIST, BANK.CH_CAL, BANK.HIST_CH, BANK.ST_HIST_BUSY, BANK.HIST_N, fld_key, pageBits]
  omega

theorem foldl_wr_keeps {f : Nat → Fld} (hf : ∀ i, 0x31 * pageBits ≤ (f i).key) (v : State → Nat → Nat) (l : List Nat) (s : State) :
    (l.foldl (fun s i => s.wr (f i) (v s i)) s).trigPart = s.trigPart ∧ KeepsLow s (l.foldl (fun s i => s.wr (f i) (v s i)) s) := by
  refine ⟨foldl_keeps State.trigPart ?_ s, KeepsLow.foldl (fun t i _ => (KeepsLow.refl t).wr (hf i) _) s⟩
  exact fun _ _ _ => rfl

theorem startStale_keeps (s : State) (x : Session) : (s.startStale x).trigPart = s.trigPart ∧ KeepsLow s (s.startStale x) := by
  unfold State.startStale
  generalize List.range 32 = taps
  extract_lets b i s1 s2
  obtain ⟨-, -, hcal, hch, hbusy, hn⟩ := bank_high b 0
  obtain ⟨p1, k1⟩ : s1.trigPart = s.trigPart ∧ KeepsLow s s1 := foldl_wr_keeps (fun f => (bank_high b (32 * i + f)).1) _ taps s
  clear_value s1
  have p2 : s2.trigPart = s.trigPart := p1
  have k2 : KeepsLow s s2 := ((k1.wr hcal _).wr hch _).put hbusy _
  clear_value s2
  split
  · obtain ⟨p3, k3⟩ := foldl_wr_keeps (fun f => (bank_high b f).2.1) (fun _ _ => 0) taps s2
    exact ⟨(wr_trigPart _ _ _).trans (p3.trans p2), (k2.trans k3).wr hn _⟩
  · exact ⟨p2, k2⟩

theorem startSpan_keeps (s : State) : s.startSpan.trigPart = s.trigPart ∧ KeepsLow s s.startSpan := by
  unfold State.startSpan
  generalize s.cal.sessions.filter (fun x => !x.stale) = l
  have hpart : (l.foldl State.startStale s).trigPart = s.trigPart := foldl_keeps State.trigPart (fun t x _ => (startStale_keeps t x).1) s
  have hkeep : KeepsLow s (l.foldl State.startStale s) := KeepsLow.foldl (fun t x _ => (startStale_keeps t x).2) s
  generalize l.foldl State.startStale s = u at *
  exact ⟨hpart, hkeep⟩

/-- The registers that the end of SYNC_LOST changes. -/
def syncKeys : List Nat := [ACQ.ST_SYNC_LOST.key, ACQ.ST_FALLBACK.key] ++ judgeKeys

/-- SYNC_LOST gone, with FALLBACK and the timer's trigger after it, before SAF judges. -/
def State.syncCleared (s : State) : State := State.showFallback { s.put ACQ.ST_SYNC_LOST false with acq.noFrames := false }

theorem syncFound_eq (s : State) : s.syncFound = s.syncCleared.degrade := rfl

theorem syncCleared_keeps (s : State) : KeepsRegs syncKeys s s.syncCleared :=
  ((KeepsRegs.refl _ s).put ACQ.ST_SYNC_LOST false (by decide)).put ACQ.ST_FALLBACK _ (by decide)

theorem syncFound_keeps (s : State) : KeepsRegs syncKeys s s.syncFound := by
  have h1 := syncCleared_keeps s
  rw [syncFound_eq]
  generalize s.syncCleared = u at *
  exact h1.trans ((degrade_keeps u).mono fun k hk => List.mem_append_right _ hk)

theorem SafFrame.trigPart {s t : State} (h : SafFrame s t) : t.trigPart = s.trigPart := (congrArg State.trigPart h.rest).trans rfl

theorem syncFound_frame {s : State} (h : s.acq.timerPending = false) : s.syncFound.trigPart = s.trigPart := by
  have h1 : s.syncCleared.trigPart = s.trigPart := by
    have hp : s.syncCleared.acq.timerPending = s.acq.timerPending := by
      show (s.acq.timerPending && _) = _
      rw [h, Bool.false_and]
    have hrest : s.syncCleared.trigPart = (s.acq.frame, s.syncCleared.acq.timerPending, s.acq.triggered, s.lastAccession, s.lnk.pairAt) := rfl
    rw [hrest, hp]
    rfl
  rw [syncFound_eq]
  generalize s.syncCleared = u at *
  exact (SafFrame.degrade u).trigPart.trans h1

theorem syncFound_clears (s : State) : s.syncFound.on ACQ.ST_SYNC_LOST = false := by
  have h1 : s.syncCleared.on ACQ.ST_SYNC_LOST = false :=
    (congrArg (· != 0) (State.rd_put_ne _ ACQ.ST_FALLBACK ACQ.ST_SYNC_LOST _ (by decide))).trans (State.on_put_self _ _ _ (by decide))
  rw [syncFound_eq]
  generalize s.syncCleared = u at *
  exact (congrArg (· != 0) (degrade_keeps u ACQ.ST_SYNC_LOST (by decide))).trans h1

/-! ### What a trigger opens -/

/-- The cause of a frame: a timer's trigger that waits joins it. -/
def State.triggerCause (s : State) (met : Nat) : Nat := if s.acq.timerPending && s.timerActs then withBit met 2 true else met

/-- The accession number that follows the last one. -/
def State.nextAccession (s : State) : Word :=
  match s.lastAccession with
  | some a => a + 1
  | none => 0

/-- The frame that a trigger opens, by the sources it met. -/
def State.openedFrame (s : State) (met : Nat) : Frame :=
  s.newFrame s.nextAccession (s.triggerCause met) (s.stampOf (s.triggerCause met))

/-- The capture, and the frame with its context page. -/
def State.frameOpened (s : State) (met : Nat) : State :=
  let s1 := (s.capture s.nextAccession (s.triggerCause met) (s.stampOf (s.triggerCause met))).fillPage (s.openedFrame met)
  { s1 with acq.frame := some (s.openedFrame met) }

/-- The engines called for a frame, and the generation noted. -/
def State.frameCalled (s : State) (f : Frame) : State :=
  let s1 := (List.range 64).foldl (fun (a : State) g => a.callFrame f g) s
  { s1 with acq.lastGen := some f.gen }

/-- The stale span of CAL's sessions begins with the frame where it fills it. -/
def State.spanBegun (s : State) : State := if s.runs pCAL && s.staleFrom = 0 then s.startSpan else s

theorem acceptTrigger_eq {s : State} (h : s.cat.boundaryDue = false) (met : Nat) : s.acceptTrigger met =
    let u := ((s.frameOpened met).frameCalled (s.openedFrame met)).pushHead.spanBegun
    if s.triggerCause met % 4 != 0 then u.syncFound else u := by
  have hreached : s.boundaryReached = s := if_pos (by rw [h]; rfl)
  unfold State.acceptTrigger State.frameCalled
  rw [hreached]
  generalize List.range 64 = groups
  rfl

theorem frameOpened_shows (s : State) (met : Nat) : (s.frameOpened met).trigPart =
      (some (s.openedFrame met), false, true, some (s.openedFrame met).accession, s.lnk.pairAt)
    ∧ (s.frameOpened met).rd CAT.ACCESSION = (s.openedFrame met).accession.toNat ∧ (s.frameOpened met).on ACQ.INT_FRAME_START = true
    ∧ (s.frameOpened met).on ACQ.ST_ACQUIRING = true
    ∧ KeepsRegs [ACQ.LAST_CAUSE.key, ACQ.LAST_SRC.key, ACQ.INT_FRAME_START.key, ACQ.ST_ACQUIRING.key, CAT.ACCESSION.key] s (s.frameOpened met) := by
  have hframe : (s.openedFrame met).accession = s.nextAccession := rfl
  refine ⟨rfl, ?_, ?_, ?_, ?_⟩
  · refine (State.rd_wr_self _ CAT.ACCESSION _).trans ?_
    rw [hframe]
    exact Nat.mod_eq_of_lt s.nextAccession.isLt
  · refine (congrArg (· != 0) ((State.rd_wr_ne _ CAT.ACCESSION ACQ.INT_FRAME_START _ (by decide)).trans
      (State.rd_put_ne _ ACQ.ST_ACQUIRING ACQ.INT_FRAME_START true (by decide)))).trans (State.on_put_self _ _ _ (by decide))
  · exact (congrArg (· != 0) (State.rd_wr_ne _ CAT.ACCESSION ACQ.ST_ACQUIRING _ (by decide))).trans (State.on_put_self _ _ _ (by decide))
  · exact (((((KeepsRegs.refl _ s).wr ACQ.LAST_CAUSE _ (by decide)).wr ACQ.LAST_SRC _ (by decide)).put ACQ.INT_FRAME_START true (by decide)).put
      ACQ.ST_ACQUIRING true (by decide)).wr CAT.ACCESSION _ (by decide)

theorem frameCalled_keeps (s : State) (f : Frame) : (s.frameCalled f).trigPart = s.trigPart ∧ KeepsLow s (s.frameCalled f) := by
  unfold State.frameCalled
  generalize List.range 64 = groups
  have hpart : (groups.foldl (fun (a : State) g => a.callFrame f g) s).trigPart = s.trigPart :=
    foldl_keeps State.trigPart (fun t g _ => (callFrame_keeps t f g).1) s
  have hregs : (groups.foldl (fun (a : State) g => a.callFrame f g) s).regs = s.regs :=
    foldl_keeps State.regs (fun t g _ => (callFrame_keeps t f g).2) s
  generalize groups.foldl (fun (a : State) g => a.callFrame f g) s = u at *
  exact ⟨hpart, fun g _ => congrArg (fun y : Regs => y.cur.rd g) hregs⟩

theorem spanBegun_keeps (s : State) : s.spanBegun.trigPart = s.trigPart ∧ KeepsLow s s.spanBegun := by
  unfold State.spanBegun
  split
  · exact startSpan_keeps s
  · exact ⟨rfl, KeepsLow.refl s⟩

/-- An accepted trigger: what has opened, and which registers of the low pages it leaves as the capture has set them. -/
theorem acceptTrigger_shows {s : State} (h : s.cat.boundaryDue = false) (met : Nat) :
    (s.acceptTrigger met).trigPart = (s.frameOpened met).trigPart
      ∧ (∀ g : Fld, g.key < 0x31 * pageBits → g.key ∉ syncKeys → (s.acceptTrigger met).rd g = (s.frameOpened met).rd g)
      ∧ (s.triggerCause met % 4 = 0 → KeepsLow (s.frameOpened met) (s.acceptTrigger met)) := by
  rw [acceptTrigger_eq h]
  have hpending : (s.frameOpened met).acq.timerPending = false := rfl
  generalize s.frameOpened met = a at *
  obtain ⟨p1, k1⟩ := frameCalled_keeps a (s.openedFrame met)
  generalize a.frameCalled (s.openedFrame met) = b at *
  obtain ⟨p2, k2⟩ := pushHead_keeps b
  generalize b.pushHead = c at *
  obtain ⟨p3, k3⟩ := spanBegun_keeps c
  generalize c.spanBegun = d at *
  have hpart : d.trigPart = a.trigPart := p3.trans (p2.trans p1)
  have hkeep : KeepsLow a d := (k1.trans k2).trans k3
  dsimp only
  split
  · next hne =>
    have hd : d.acq.timerPending = false := (congrArg (·.2.1) hpart).trans hpending
    exact ⟨(syncFound_frame hd).trans hpart, fun g hg hs => (syncFound_keeps d g hs).trans (hkeep g hg), fun h0 => by rw [h0] at hne; exact absurd hne (by decide)⟩
  · exact ⟨hpart, fun g hg _ => hkeep g hg, fun _ => hkeep⟩

theorem acceptTrigger_opens {s : State} (h : s.cat.boundaryDue = false) {met b : Nat} (hb : bit (s.triggerCause met) b = true) :
    OpensFrame b s (s.acceptTrigger met) ∧ (s.acceptTrigger met).lnk.pairAt = s.lnk.pairAt := by
  obtain ⟨hpart, hkeep, -⟩ := acceptTrigger_shows h met
  obtain ⟨hopened, hacc, hint, hst, -⟩ := frameOpened_shows s met
  have hall := hpart.trans hopened
  simp only [State.trigPart, Prod.mk.injEq] at hall
  obtain ⟨hframe, hpending, htriggered, hlast, hpair⟩ := hall
  refine ⟨⟨s.openedFrame met, hframe, rfl, rfl, rfl, rfl, hb, hlast, ?_, ?_, ?_, hpending, htriggered⟩, hpair⟩
  · exact (hkeep CAT.ACCESSION (by decide) (by decide)).trans hacc
  · exact (congrArg (· != 0) (hkeep ACQ.INT_FRAME_START (by decide) (by decide))).trans hint
  · exact (congrArg (· != 0) (hkeep ACQ.ST_ACQUIRING (by decide) (by decide))).trans hst

/-! ### The sources of a sample -/

theorem enabledMet_bit (s : State) (sources : Nat) {b : Nat} (hb : b ≠ 2) :
    bit (s.enabledMet sources) b = (bit sources b && bit (s.rd ACQ.TRIG_EN) b) := by
  have hand : bit (sources &&& s.rd ACQ.TRIG_EN) b = (bit sources b && bit (s.rd ACQ.TRIG_EN) b) := by
    simp only [bit_eq_testBit, Nat.testBit_and]
  unfold State.enabledMet
  dsimp only
  split
  · exact hand
  · rw [bit_withBit, if_neg hb, hand]

theorem enabledMet_timer (s : State) (sources : Nat) : bit (s.enabledMet sources) 2 =
    (s.timerActs && !s.acq.timerPending && (bit sources 2 && bit (s.rd ACQ.TRIG_EN) 2)) := by
  unfold State.enabledMet
  dsimp only
  split
  · next h => rw [h, Bool.true_and, bit_eq_testBit, Nat.testBit_and, bit_eq_testBit, bit_eq_testBit]
  · next h => rw [Bool.eq_false_of_not_eq_true h, Bool.false_and, bit_withBit, if_pos rfl]

theorem ne_zero_of_bit {n b : Nat} (h : bit n b = true) : n ≠ 0 := fun h0 => by rw [h0, bit_zero_left] at h; exact absurd h Bool.false_ne_true

/-- A single enabled source is the whole mask of its sample. -/
theorem enabledMet_single (s : State) {b : Nat} (hen : bit (s.rd ACQ.TRIG_EN) b = true)
    (htimer : b = 2 → s.timerActs = true ∧ s.acq.timerPending = false) : s.enabledMet (2 ^ b) = 2 ^ b := by
  refine Nat.eq_of_testBit_eq fun i => ?_
  rw [← bit_eq_testBit, ← bit_eq_testBit]
  have hpow : bit (2 ^ b) i = decide (b = i) := by rw [bit_eq_testBit, Nat.testBit_two_pow]
  by_cases hi : i = 2
  · subst hi
    rw [enabledMet_timer, hpow]
    by_cases hb : b = 2
    · obtain ⟨hacts, hpend⟩ := htimer hb
      subst hb
      rw [hacts, hpend, hen]
      rfl
    · simp [hb]
  · rw [enabledMet_bit s _ hi, hpow]
    by_cases hb : b = i
    · subst hb
      rw [hen]
      simp
    · simp [hb]

/-! ### A sample's trigger -/

theorem triggerIf_accepts {s : State} {sources : Nat} {implied : Bool} (hrun : s.runs pACQ = true) (hmet : s.enabledMet sources ≠ 0)
    (hopen : s.mayOpen = true) (htime : s.timeMet (s.enabledMet sources) implied = true) :
    s.triggerIf sources implied = s.acceptTrigger (s.enabledMet sources) := by
  unfold State.triggerIf
  dsimp only
  rw [if_neg (by simp [hrun, hmet]), if_pos (by rw [hopen, htime]; rfl)]

theorem triggerIf_later {s : State} {sources : Nat} {implied : Bool} (hrun : s.runs pACQ = true) (hmet : s.enabledMet sources ≠ 0)
    (hlate : s.mayOpen = false ∨ s.timeMet (s.enabledMet sources) implied = false) :
    s.triggerIf sources implied = s.laterTrigger (s.enabledMet sources) := by
  unfold State.triggerIf
  dsimp only
  rw [if_neg (by simp [hrun, hmet]), if_neg]
  rcases hlate with h | h <;> rw [h] <;> simp

theorem mayOpen_iff {s : State} (hrun : s.on ACQ.RUN = true) : s.mayOpen = true ↔ s.acq.frame = none := by
  rw [State.mayOpen, hrun, Bool.true_and, State.inFrame]
  cases s.acq.frame <;> simp

theorem laterTrigger_ignored {s : State} (h : s.sameSample = false) (met : Nat) : s.laterTrigger met = s.ignoreTrigger met := by
  unfold State.laterTrigger
  split
  · rw [h, Bool.false_and, if_neg Bool.false_ne_true]
  · rfl

theorem ignoreTrigger_shows (s : State) (met : Nat) : (s.ignoreTrigger met).rd ACQ.TRIG_IGNORED = min (s.rd ACQ.TRIG_IGNORED + 1) 65535
    ∧ (s.ignoreTrigger met).on ACQ.INT_TRIG_IGNORED = true
    ∧ KeepsRegs [ACQ.TRIG_IGNORED.key, ACQ.INT_TRIG_IGNORED.key] s (s.ignoreTrigger met)
    ∧ (s.ignoreTrigger met).acq.frame = s.acq.frame ∧ (s.ignoreTrigger met).lastAccession = s.lastAccession
    ∧ (bit met 2 = true → (s.ignoreTrigger met).acq.timerPending = true) := by
  obtain ⟨hcount, hraised⟩ : ((s.count ACQ.TRIG_IGNORED 1).raise ACQ.INT_TRIG_IGNORED).rd ACQ.TRIG_IGNORED = min (s.rd ACQ.TRIG_IGNORED + 1) 65535
      ∧ ((s.count ACQ.TRIG_IGNORED 1).raise ACQ.INT_TRIG_IGNORED).on ACQ.INT_TRIG_IGNORED = true := by
    refine ⟨?_, State.on_put_self _ _ _ (by decide)⟩
    refine (State.rd_put_ne _ ACQ.INT_TRIG_IGNORED ACQ.TRIG_IGNORED true (by decide)).trans ((State.rd_wr_self _ _ _).trans ?_)
    exact Nat.mod_eq_of_lt (lt_of_le_of_lt (min_le_right _ _) (by decide))
  have hkeep : KeepsRegs [ACQ.TRIG_IGNORED.key, ACQ.INT_TRIG_IGNORED.key] s ((s.count ACQ.TRIG_IGNORED 1).raise ACQ.INT_TRIG_IGNORED) :=
    ((KeepsRegs.refl _ s).wr ACQ.TRIG_IGNORED _ (by decide)).put ACQ.INT_TRIG_IGNORED true (by decide)
  unfold State.ignoreTrigger
  dsimp only
  split
  · exact ⟨hcount, hraised, hkeep, rfl, rfl, fun _ => rfl⟩
  · next h => exact ⟨hcount, hraised, hkeep, rfl, rfl, fun h' => absurd h' h⟩

theorem triggerCause_bit (s : State) {met b : Nat} (h : bit met b = true) : bit (s.triggerCause met) b = true := by
  unfold State.triggerCause
  split
  · rw [bit_withBit]
    split
    · rfl
    · exact h
  · exact h

/-- A source whose conditions hold opens a frame. -/
theorem trigger_opens {s : State} {sources b : Nat} (hrun : s.runs pACQ = true) (hgo : s.on ACQ.RUN = true) (hframe : s.acq.frame = none)
    (hdue : s.cat.boundaryDue = false) (hbit : bit (s.enabledMet sources) b = true)
    (htime : s.timeMet (s.enabledMet sources) (bit (s.enabledMet sources) 2) = true) :
    OpensFrame b s (s.trigger sources) ∧ (s.trigger sources).lnk.pairAt = s.lnk.pairAt := by
  rw [State.trigger, triggerIf_accepts hrun (ne_zero_of_bit hbit) ((mayOpen_iff hgo).mpr hframe) htime]
  exact acceptTrigger_opens hdue (triggerCause_bit s hbit)

/-! ### A source that joins the capture of its sample -/

theorem syncFound_acq (s : State) : s.syncFound.acq.frame = s.acq.frame ∧ s.syncFound.acq.lastStamp = s.acq.lastStamp
    ∧ s.syncFound.acq.inService = s.acq.inService ∧ s.syncFound.lastAccession = s.lastAccession ∧ s.syncFound.lnk = s.lnk := by
  have h : s.syncCleared.acq.frame = s.acq.frame ∧ s.syncCleared.acq.lastStamp = s.acq.lastStamp
    ∧ s.syncCleared.acq.inService = s.acq.inService ∧ s.syncCleared.lastAccession = s.lastAccession ∧ s.syncCleared.lnk = s.lnk :=
    ⟨rfl, rfl, rfl, rfl, rfl⟩
  rw [syncFound_eq]
  generalize s.syncCleared = u at *
  have hrest := (SafFrame.degrade u).rest
  obtain ⟨hf, hl, hi, ha, hk⟩ := h
  exact ⟨((congrArg (·.acq.frame) hrest).trans rfl).trans hf, ((congrArg (·.acq.lastStamp) hrest).trans rfl).trans hl,
    ((congrArg (·.acq.inService) hrest).trans rfl).trans hi, ((congrArg State.lastAccession hrest).trans rfl).trans ha,
    ((congrArg State.lnk hrest).trans rfl).trans hk⟩

theorem causeSrc_lt (cause : Nat) : causeSrc cause < 4 := by
  unfold causeSrc
  cases h : (List.range 4).find? (bit cause) with
  | none => decide
  | some i =>
    have hi := List.mem_range.mp (List.mem_of_find?_eq_some h)
    exact hi

/-- A capture with the sources that have joined it, before SYNC_LOST follows. -/
def State.joined (s : State) (f : Frame) (met : Nat) : State :=
  let cause := f.cause ||| met
  let stamp := s.stampOf cause
  { (s.wr ACQ.LAST_CAUSE cause).wr ACQ.LAST_SRC (causeSrc cause) with
    acq.frame := some { f with cause := cause, src := causeSrc cause, stamp := stamp.toNat }, acq.lastStamp := stamp
    lnk.pairSend := s.lnk.pairSend.map fun x => (x.1, stamp) }

theorem joinCapture_eq (s : State) (f : Frame) (met : Nat) :
    s.joinCapture f met = if met % 4 != 0 then (s.joined f met).syncFound else s.joined f met := rfl

theorem joined_joins (s : State) (f : Frame) (b : Nat) : JoinsCapture f b s (s.joined f (2 ^ b)) := by
  refine ⟨rfl, rfl, ?_, ?_, ?_, rfl⟩
  · exact (State.rd_wr_ne _ ACQ.LAST_SRC ACQ.LAST_CAUSE _ (by decide)).trans (State.rd_wr_self _ _ _)
  · exact (State.rd_wr_self _ ACQ.LAST_SRC _).trans (Nat.mod_eq_of_lt (causeSrc_lt _))
  · exact (State.rd_wr_ne _ ACQ.LAST_SRC ACQ.TRIG_IGNORED _ (by decide)).trans (State.rd_wr_ne _ _ _ _ (by decide))

theorem joinCapture_joins (s : State) (f : Frame) (b : Nat) :
    JoinsCapture f b s (s.joinCapture f (2 ^ b)) ∧ (s.joinCapture f (2 ^ b)).lnk.pairAt = s.lnk.pairAt := by
  have hjoin := joined_joins s f b
  have hpair : (s.joined f (2 ^ b)).lnk.pairAt = s.lnk.pairAt := rfl
  rw [joinCapture_eq]
  generalize s.joined f (2 ^ b) = u at *
  split
  · obtain ⟨hframe, hstamp, -, hacc, hlnk⟩ := syncFound_acq u
    have hkeep := syncFound_keeps u
    obtain ⟨h1, h2, h3, h4, h5, h6⟩ := hjoin
    refine ⟨⟨?_, hstamp.trans h2, (hkeep ACQ.LAST_CAUSE (by decide)).trans h3, (hkeep ACQ.LAST_SRC (by decide)).trans h4,
      (hkeep ACQ.TRIG_IGNORED (by decide)).trans h5, hacc.trans h6⟩, ?_⟩
    · rw [hframe, hstamp]
      exact h1
    · rw [hlnk]
      exact hpair
  · exact ⟨hjoin, hpair⟩

/-- A source that the capture of its sample has not told yet joins it. -/
theorem trigger_joins {s : State} {f : Frame} {b : Nat} (hrun : s.runs pACQ = true) (hgo : s.on ACQ.RUN = true) (hframe : s.acq.frame = some f)
    (hsame : s.sameSample = true) (hen : bit (s.rd ACQ.TRIG_EN) b = true) (htimer : b = 2 → s.timerActs = true ∧ s.acq.timerPending = false)
    (hnew : bit f.cause b = false) :
    JoinsCapture f b s (s.trigger (2 ^ b)) ∧ (s.trigger (2 ^ b)).lnk.pairAt = s.lnk.pairAt := by
  have hmet := enabledMet_single s hen htimer
  have hopen : s.mayOpen = false := by
    rw [State.mayOpen, State.inFrame, hframe, hgo]
    rfl
  rw [State.trigger, triggerIf_later hrun (by rw [hmet]; positivity) (.inl hopen), hmet]
  have hnone : 2 ^ b &&& f.cause ≠ 2 ^ b := fun h => by
    have hb : (2 ^ b &&& f.cause).testBit b = (2 ^ b).testBit b := by rw [h]
    rw [Nat.testBit_and, Nat.testBit_two_pow_self, Bool.true_and, ← bit_eq_testBit, hnew] at hb
    exact absurd hb Bool.false_ne_true
  have hlater : s.laterTrigger (2 ^ b) = s.joinCapture f (2 ^ b) := by
    unfold State.laterTrigger
    rw [hframe]
    dsimp only
    rw [hsame, Bool.true_and, if_pos (bne_iff_ne.mpr hnone)]
  rw [hlater]
  exact joinCapture_joins s f b

/-! ### A write of RUN (R147, R152) -/

/-- Every field of RUN's word but RUN itself is staged. -/
theorem runWord_rows : ∀ r ∈ rowsOf pACQ, ∀ j ∈ r.inWord (8 * 0x40), r.acc = .rws ∨ r.bit + r.stride * j = 543 := by decide +kernel

theorem runFields_keeps (s : State) (v : Nat) :
    KeepsRegs [(C.ERR_VALUE pACQ).key, (C.ERR_BUSY pACQ).key] s (s.writeFieldsOf (fun b => b != 543) pACQ 0x40 v)
      ∧ (s.writeFieldsOf (fun b => b != 543) pACQ 0x40 v).acq = s.acq := by
  have hone (t : State) (r : Row) (h : r.acc = .rws) (f : Fld) (x : Nat) :
      KeepsRegs [(C.ERR_VALUE pACQ).key, (C.ERR_BUSY pACQ).key] t (t.writeField pACQ r f x) ∧ (t.writeField pACQ r f x).acq = t.acq := by
    unfold State.writeField
    rw [h]
    dsimp only
    split
    · exact ⟨(KeepsRegs.refl _ t).of_cur rfl, rfl⟩
    · exact ⟨(KeepsRegs.refl _ t).put _ _ List.mem_cons_self, rfl⟩
  have hfld (t : State) (r : Row) (hr : r ∈ rowsOf pACQ) (j : Nat) (hj : j ∈ r.inWord (8 * 0x40)) (x : Nat) :
      KeepsRegs [(C.ERR_VALUE pACQ).key, (C.ERR_BUSY pACQ).key] t
          (if r.bit + r.stride * j != 543 then t.writeField pACQ r (r.fld pACQ j) x else t)
        ∧ (if r.bit + r.stride * j != 543 then t.writeField pACQ r (r.fld pACQ j) x else t).acq = t.acq := by
    split
    · next h => exact hone t r ((runWord_rows r hr j hj).resolve_right (by simpa using h)) _ x
    · exact ⟨KeepsRegs.refl _ t, rfl⟩
  unfold State.writeFieldsOf
  exact ⟨KeepsRegs.foldl (fun t r hr => KeepsRegs.foldl (fun u j hj => (hfld u r hr j hj _).1) t) s,
    foldl_keeps State.acq (fun t r hr => foldl_keeps State.acq (fun u j hj => (hfld u r hr j hj _).2) t) s⟩

theorem exec_runWrite {s : State} (path : Path) (value : Word) (hrun : s.runs pACQ = true) :
    exec (.runWrite path value) s =
      .next ((s.writeFieldsOf (fun b => b != 543) pACQ 0x40 value.toNat).writeRun (value.getLsbD 31)).written := by
  have hword : s.writeWord path pACQ 0x40 value.toNat = s.acqWord 0x40 value.toNat := by simp [State.writeWord, defined, hrun]; rfl
  have hacq : s.acqWord 0x40 value.toNat = (s.writeFieldsOf (fun b => b != 543) pACQ 0x40 value.toNat).writeRun (value.getLsbD 31) := by
    rw [State.acqWord, if_pos rfl, bit_toNat]
  show Host.Outcome.next (s.wordCommand path pACQ 0x40 value) = _
  rw [wordCommand_written value (by decide) (by decide) (by decide) (fun h => absurd h.2 (by decide)), hword, hacq]

/-- An answered write has the registers and the grid that it left. -/
theorem written_acq (s : State) : s.written.regs = s.regs ∧ s.written.acq = s.acq := by
  unfold State.written State.eventsQuiet
  split <;> exact ⟨rfl, rfl⟩

/-- RUN cleared, and the grid out of service with the frame in acquisition. -/
def State.runCleared (s : State) : State := { s.put ACQ.RUN false with acq.inService := s.inFrame }

theorem writeRun_set {s : State} (h : s.on ACQ.RUN = false) : (s.writeRun true).on ACQ.RUN = true
    ∧ (s.writeRun true).acq.triggered = false ∧ (s.writeRun true).acq.timerPending = false := by
  rw [State.writeRun, if_neg (by rw [h]; decide), if_pos rfl]
  exact ⟨State.on_put_self _ _ _ (by decide), rfl, rfl⟩

theorem writeRun_refused {s : State} (h : s.on ACQ.RUN = true) (hop : s.operating = true) :
    (s.writeRun false).on ACQ.RUN = true ∧ (s.writeRun false).on (C.ERR_STATE pACQ) = true := by
  rw [State.writeRun, if_neg (by rw [h]; decide), if_neg Bool.false_ne_true, if_pos hop]
  exact ⟨(congrArg (· != 0) (State.rd_put_ne _ (C.ERR_STATE pACQ) ACQ.RUN true (by decide))).trans h, State.on_put_self _ _ _ (by decide)⟩

theorem writeRun_cleared {s : State} (h : s.on ACQ.RUN = true) (hop : s.operating = false) : (s.writeRun false).on ACQ.RUN = false
    ∧ (s.writeRun false).on ACQ.ST_SYNC_LOST = false ∧ (s.writeRun false).gridInService = s.acq.frame.isSome := by
  have heq : s.writeRun false = s.runCleared.syncFound := by
    rw [State.writeRun, if_neg (by rw [h]; decide), if_neg Bool.false_ne_true, if_neg (by rw [hop]; decide)]
    rfl
  have hoff : s.runCleared.on ACQ.RUN = false := State.on_put_self _ _ _ (by decide)
  have hframe : s.runCleared.acq.frame = s.acq.frame := rfl
  have hservice : s.runCleared.acq.inService = s.acq.frame.isSome := rfl
  rw [heq]
  generalize s.runCleared = u at *
  obtain ⟨hf, -, hi, -, -⟩ := syncFound_acq u
  refine ⟨(congrArg (· != 0) (syncFound_keeps u ACQ.RUN (by decide))).trans hoff, syncFound_clears u, ?_⟩
  rw [State.gridInService, State.inFrame, hf, hi, hframe, hservice, Bool.or_self]

/-! ### The loss of the pin triggers (R152) -/

/-- SYNC_LOST set, with the frame timer as fallback. -/
def State.syncLost (s : State) : State := ((s.put ACQ.ST_SYNC_LOST true).raise ACQ.INT_SYNC_LOST).showFallback

/-- No frames will come: the timer is disabled. -/
def State.framesLost (s : State) : State := State.degrade (State.fault { s with acq.noFrames := true } pACQ 0)

theorem exec_syncLostTimeout {s : State} (hrun : s.runs pACQ = true) (hgo : s.on ACQ.RUN = true) (hpin : s.pinEnabled = true)
    (hlost : s.on ACQ.ST_SYNC_LOST = false) : exec .syncLostTimeout s =
      let u := if bit (s.rd ACQ.TRIG_EN) 2 then s.syncLost else s.syncLost.framesLost
      .next (u.triggerIf 4 (u.rd ACQ.LAST_CAUSE % 4 != 0)) := by
  show done (if !s.runs pACQ || !s.on ACQ.RUN || !s.pinEnabled || s.on ACQ.ST_SYNC_LOST then s else _) = _
  rw [if_neg (by rw [hrun, hgo, hpin, hlost]; decide)]
  rfl

theorem syncLost_shows (s : State) : s.syncLost.on ACQ.ST_SYNC_LOST = true ∧ s.syncLost.on ACQ.INT_SYNC_LOST = true
    ∧ KeepsRegs [ACQ.ST_SYNC_LOST.key, ACQ.INT_SYNC_LOST.key, ACQ.ST_FALLBACK.key] s s.syncLost := by
  refine ⟨?_, ?_, ?_⟩
  · exact (congrArg (· != 0) ((State.rd_put_ne _ ACQ.ST_FALLBACK ACQ.ST_SYNC_LOST _ (by decide)).trans
      (State.rd_put_ne _ ACQ.INT_SYNC_LOST ACQ.ST_SYNC_LOST true (by decide)))).trans (State.on_put_self _ _ _ (by decide))
  · exact (congrArg (· != 0) (State.rd_put_ne _ ACQ.ST_FALLBACK ACQ.INT_SYNC_LOST _ (by decide))).trans (State.on_put_self _ _ _ (by decide))
  · exact (((KeepsRegs.refl _ s).put ACQ.ST_SYNC_LOST true (by decide)).put ACQ.INT_SYNC_LOST true (by decide)).put ACQ.ST_FALLBACK _ (by decide)

theorem framesLost_shows (s : State) : s.framesLost.on ACQ.FAULT_NO_FRAMES = true ∧ s.framesLost.acq.noFrames = true
    ∧ KeepsRegs (faultKeys pACQ ++ judgeKeys) s s.framesLost := by
  have hflt : (State.fault { s with acq.noFrames := true } pACQ 0).on ACQ.FAULT_NO_FRAMES = true := fault_on_self (b := 0) _ (by decide) (by decide)
  have hno : (State.fault { s with acq.noFrames := true } pACQ 0).acq.noFrames = true :=
    congrArg (·.acq.noFrames) ((SafFrame.refl ({ s with acq.noFrames := true } : State)).fault pACQ 0).rest
  have hk : KeepsRegs (faultKeys pACQ ++ judgeKeys) s (State.fault { s with acq.noFrames := true } pACQ 0) :=
    (fault_keepsRegs { s with acq.noFrames := true } pACQ 0).mono fun k hk => List.mem_append_left _ hk
  unfold State.framesLost
  generalize State.fault { s with acq.noFrames := true } pACQ 0 = u at *
  refine ⟨(congrArg (· != 0) (degrade_keeps u ACQ.FAULT_NO_FRAMES (by decide))).trans hflt, ?_,
    hk.trans ((degrade_keeps u).mono fun k hk => List.mem_append_right _ hk)⟩
  exact ((congrArg (·.acq.noFrames) (SafFrame.degrade u).rest).trans rfl).trans hno

theorem mod_four_of_bits {n : Nat} (h0 : bit n 0 = false) (h1 : bit n 1 = false) : n % 4 = 0 := by
  simp only [bit, decide_eq_false_iff_not] at h0 h1
  omega

/-- The timer alone meets no pin source. -/
theorem timerMet_mod (s : State) : s.enabledMet 4 % 4 = 0 ∧ s.triggerCause (s.enabledMet 4) % 4 = 0 := by
  have h0 : bit (s.enabledMet 4) 0 = false := by rw [enabledMet_bit s 4 (by decide)]; rfl
  have h1 : bit (s.enabledMet 4) 1 = false := by rw [enabledMet_bit s 4 (by decide)]; rfl
  refine ⟨mod_four_of_bits h0 h1, ?_⟩
  unfold State.triggerCause
  split
  · exact mod_four_of_bits (by rw [bit_withBit, if_neg (by decide), h0]) (by rw [bit_withBit, if_neg (by decide), h1])
  · exact mod_four_of_bits h0 h1

/-- The timer's sample leaves SYNC_LOST and its interrupt as they are. -/
theorem timerSample_keeps {s : State} (hdue : s.cat.boundaryDue = false) (implied : Bool) :
    (s.triggerIf 4 implied).rd ACQ.ST_SYNC_LOST = s.rd ACQ.ST_SYNC_LOST ∧ (s.triggerIf 4 implied).rd ACQ.INT_SYNC_LOST = s.rd ACQ.INT_SYNC_LOST := by
  obtain ⟨hmet, hcause⟩ := timerMet_mod s
  have haccept : (s.acceptTrigger (s.enabledMet 4)).rd ACQ.ST_SYNC_LOST = s.rd ACQ.ST_SYNC_LOST
      ∧ (s.acceptTrigger (s.enabledMet 4)).rd ACQ.INT_SYNC_LOST = s.rd ACQ.INT_SYNC_LOST := by
    obtain ⟨-, -, hlow⟩ := acceptTrigger_shows hdue (s.enabledMet 4)
    obtain ⟨-, -, -, -, hopened⟩ := frameOpened_shows s (s.enabledMet 4)
    exact ⟨(hlow hcause _ (by decide)).trans (hopened _ (by decide)), (hlow hcause _ (by decide)).trans (hopened _ (by decide))⟩
  have hlater : (s.laterTrigger (s.enabledMet 4)).rd ACQ.ST_SYNC_LOST = s.rd ACQ.ST_SYNC_LOST
      ∧ (s.laterTrigger (s.enabledMet 4)).rd ACQ.INT_SYNC_LOST = s.rd ACQ.INT_SYNC_LOST := by
    have hignored := (ignoreTrigger_shows s (s.enabledMet 4)).2.2.1
    have hjoined (f : Frame) : KeepsRegs [ACQ.LAST_CAUSE.key, ACQ.LAST_SRC.key] s (s.joined f (s.enabledMet 4)) :=
      ((KeepsRegs.refl _ s).wr ACQ.LAST_CAUSE _ (by decide)).wr ACQ.LAST_SRC _ (by decide)
    unfold State.laterTrigger
    split
    · next f _ =>
      split
      · rw [joinCapture_eq, if_neg (by rw [hmet]; decide)]
        exact ⟨hjoined f _ (by decide), hjoined f _ (by decide)⟩
      · exact ⟨hignored _ (by decide), hignored _ (by decide)⟩
    · exact ⟨hignored _ (by decide), hignored _ (by decide)⟩
  unfold State.triggerIf
  dsimp only
  split
  · exact ⟨rfl, rfl⟩
  · split
    · exact haccept
    · exact hlater

/-- With the timer disabled its sample does nothing. -/
theorem timerSample_disabled {s : State} (h : bit (s.rd ACQ.TRIG_EN) 2 = false) (implied : Bool) : s.triggerIf 4 implied = s := by
  have hmet : s.enabledMet 4 = 0 := by
    refine Nat.eq_of_testBit_eq fun i => ?_
    rw [← bit_eq_testBit, Nat.zero_testBit]
    by_cases hi : i = 2
    · rw [hi, enabledMet_timer, h, Bool.and_false, Bool.and_false]
    · rw [enabledMet_bit s _ hi, bit_eq_testBit, show 4 = 2 ^ 2 from rfl, Nat.testBit_two_pow_of_ne (Ne.symm hi), Bool.false_and]
  rw [State.triggerIf, if_pos (by rw [hmet]; simp)]

/-- The time between SYNC_LOST and the frame that its fallback opens changes nothing that the frame takes. -/
theorem syncLost_opens {s : State} (hgo : s.on ACQ.RUN = true) (hrun : s.runs pACQ = true) (hdue : s.cat.boundaryDue = false)
    (hen : bit (s.rd ACQ.TRIG_EN) 2 = true) (hpend : s.acq.timerPending = false) (hframe : s.acq.frame = none)
    (hfly : s.passed s.acq.lastBoundary (s.rd ACQ.FLYBACK_MIN) = true) (hcause : s.rd ACQ.LAST_CAUSE % 4 ≠ 0) :
    OpensFrame 2 s (s.syncLost.triggerIf 4 (s.syncLost.rd ACQ.LAST_CAUSE % 4 != 0)) := by
  obtain ⟨hlost, -, hkeep⟩ := syncLost_shows s
  have hruns : s.syncLost.runs pACQ = true := (runs_of_regs (s := s) (t := s.syncLost) rfl (hkeep (PWR.DOM_ON (domainOf pACQ)) (by decide))).trans hrun
  have hgo' : s.syncLost.on ACQ.RUN = true := (congrArg (· != 0) (hkeep ACQ.RUN (by decide))).trans hgo
  have hen' : bit (s.syncLost.rd ACQ.TRIG_EN) 2 = true := (congrArg (bit · 2) (hkeep ACQ.TRIG_EN (by decide))).trans hen
  have hacts : s.syncLost.timerActs = true := by rw [State.timerActs, hgo', hen', hlost]; simp
  have hpend' : s.syncLost.acq.timerPending = false := by
    show (s.acq.timerPending && _) = false
    rw [hpend, Bool.false_and]
  have hmet : s.syncLost.enabledMet (2 ^ 2) = 2 ^ 2 := enabledMet_single s.syncLost hen' fun _ => ⟨hacts, hpend'⟩
  have hfly' : s.syncLost.passed s.syncLost.acq.lastBoundary (s.syncLost.rd ACQ.FLYBACK_MIN) = true := by
    rw [hkeep ACQ.FLYBACK_MIN (by decide)]
    exact hfly
  have himplied : (s.syncLost.rd ACQ.LAST_CAUSE % 4 != 0) = true := by
    rw [hkeep ACQ.LAST_CAUSE (by decide)]
    exact bne_iff_ne.mpr hcause
  rw [himplied, show 4 = 2 ^ 2 from rfl, triggerIf_accepts hruns (by rw [hmet]; decide) ((mayOpen_iff hgo').mpr hframe)
    (by rw [State.timeMet, hfly', Bool.true_or, Bool.and_true, Bool.or_true]), hmet]
  obtain ⟨f, h1, h2, h3, h4, hrest⟩ := (acceptTrigger_opens (s := s.syncLost) hdue (triggerCause_bit s.syncLost (met := 2 ^ 2) (b := 2) rfl)).1
  exact ⟨f, h1, h2, h3.trans (congrArg (BitVec.ofNat 32) (hkeep CAT.GEN_ACTIVE (by decide))), h4.trans (hkeep ACQ.NCOL (by decide)), hrest⟩

theorem operating_of_rd {s t : State} (h : t.rd SAF.STATE = s.rd SAF.STATE) : t.operating = s.operating := by
  rw [State.operating, State.safety, h]
  rfl

/-- A sample that meets an enabled source while a frame is in acquisition, or before its time has come, is ignored. -/
theorem trigger_ignored {s : State} {sources b : Nat} (hrun : s.runs pACQ = true) (hgo : s.on ACQ.RUN = true) (hsame : s.sameSample = false)
    (hbit : bit (s.enabledMet sources) b = true) (hearly : s.acq.frame ≠ none ∨ s.acq.triggered = true
      ∧ (s.passed s.acq.lastBoundary (s.rd ACQ.FLYBACK_MIN) = false
        ∨ (s.passed s.acq.lastTrigger 39800 = false ∧ bit (s.enabledMet sources) 2 = false))) :
    s.trigger sources = s.ignoreTrigger (s.enabledMet sources) := by
  have hlate : s.mayOpen = false ∨ s.timeMet (s.enabledMet sources) (bit (s.enabledMet sources) 2) = false := by
    rcases hearly with hframe | ⟨htriggered, htime⟩
    · exact .inl (Bool.eq_false_of_not_eq_true fun h => hframe ((mayOpen_iff hgo).mp h))
    · refine .inr ?_
      rcases htime with h | ⟨h, h2⟩
      · rw [State.timeMet, h, htriggered]
        simp
      · rw [State.timeMet, h, h2]
        simp
  rw [State.trigger, triggerIf_later hrun (ne_zero_of_bit hbit) hlate, laterTrigger_ignored hsame]

/-- Settles O26: a sample's trigger by the conditions it meets, RUN by what its clearing ends, SYNC_LOST by the sample that follows it. -/
theorem triggersAndRun : Obligations.TriggersAndRun := by
  unfold Obligations.TriggersAndRun
  refine ⟨fun path also at_ s hrun hgo => ?_, fun path value s => ⟨fun hrun => ⟨fun hbit hoff => ?_, fun hbit hon hop => ?_, fun hbit hon hop => ?_,
    fun hgo hpin hlost hdue => ?_⟩, rfl, rfl⟩⟩
  · intro flyback spaced free early enabled ignored
    have hswTrig : exec (.swTrig path) s = .next (State.trigger { s with bus := {} } 8) :=
      congrArg Host.Outcome.next (State.writeTo_runs s pACQ (fun s => s.trigger 8) hrun)
    have hpair (h : s.lnk.pairAt = some at_) : exec .pairTrigger s = .next (State.trigger { s with lnk.pairAt := none } 8) := by
      show done (match s.lnk.pairAt with | some _ => _ | none => s) = _
      rw [h]
      rfl
    have htime (sources : Nat) (h : free) : s.timeMet (s.enabledMet sources) (bit (s.enabledMet sources) 2) = true := by
      obtain ⟨-, -, hfly, hspaced⟩ := h
      rw [State.timeMet, show s.passed s.acq.lastBoundary (s.rd ACQ.FLYBACK_MIN) = true from hfly,
        show s.passed s.acq.lastTrigger 39800 = true from hspaced, Bool.or_true, Bool.true_and, Bool.or_true]
    have hbitOf {sources b : Nat} (h2 : b ≠ 2) (hsrc : bit sources b = true) (hen : bit (s.rd ACQ.TRIG_EN) b = true) :
        bit (s.enabledMet sources) b = true := by rw [enabledMet_bit s _ h2, hsrc, hen]; rfl
    have hearly {sources b : Nat} (hsrc : bit (s.enabledMet sources) b = true) (h2 : bit also.toNat 2 = false → bit sources 2 = false)
        (h : early) : s.trigger sources = s.ignoreTrigger (s.enabledMet sources) := by
      obtain ⟨hsame, hlate⟩ := h
      refine trigger_ignored hrun hgo hsame hsrc (hlate.imp_right fun ⟨htr, ht⟩ => ⟨htr, ht.imp Bool.eq_false_of_not_eq_true fun ⟨hsp, ha⟩ => ?_⟩)
      exact ⟨Bool.eq_false_of_not_eq_true hsp, by rw [enabledMet_timer, h2 ha, Bool.false_and, Bool.and_false]⟩
    have hlate8 (h : early) : s.acq.frame ≠ none ∨ s.acq.triggered = true
        ∧ (s.passed s.acq.lastBoundary (s.rd ACQ.FLYBACK_MIN) = false
          ∨ (s.passed s.acq.lastTrigger 39800 = false ∧ bit (s.enabledMet 8) 2 = false)) := by
      refine h.2.imp_right fun ⟨htr, ht⟩ => ⟨htr, ht.imp Bool.eq_false_of_not_eq_true fun ⟨hsp, _⟩ => ⟨Bool.eq_false_of_not_eq_true hsp, ?_⟩⟩
      rw [enabledMet_timer, show bit 8 2 = false from rfl, Bool.false_and, Bool.and_false]
    have hignored (u : State) (met : Nat) : (u.ignoreTrigger met).rd ACQ.TRIG_IGNORED = min (u.rd ACQ.TRIG_IGNORED + 1) 65535
        ∧ (u.ignoreTrigger met).on ACQ.INT_TRIG_IGNORED = true
        ∧ KeepsRegs [ACQ.TRIG_IGNORED.key, ACQ.INT_TRIG_IGNORED.key] u (u.ignoreTrigger met)
        ∧ (u.ignoreTrigger met).acq.frame = u.acq.frame ∧ (u.ignoreTrigger met).lastAccession = u.lastAccession := by
      obtain ⟨h1, h2, h3, h4, h5, -⟩ := ignoreTrigger_shows u met
      exact ⟨h1, h2, h3, h4, h5⟩
    have hor (x b : Nat) : bit (x ||| also.toNat) b = (bit x b || bit also.toNat b) := by simp only [bit_eq_testBit, Nat.testBit_or]
    refine ⟨fun p hp hen => ?_, fun f hframe hsame => ⟨fun p hp hen hnew => ?_, fun hen hnew => ?_, fun hacts hpend hen hnew => ?_,
      fun hat hen hnew => ?_⟩, fun hat hen => ⟨fun hfree => ?_, fun h => ?_⟩, fun hacts hpend => ⟨fun hframe hdue hfly => ?_, fun hsame h => ?_⟩,
      fun hacts hpend hframe hdue => ?_⟩
    · simp only [List.mem_cons, List.not_mem_nil, or_false] at hp
      rcases hp with rfl | rfl | rfl
      · have hsrc := hbitOf (sources := 1 ||| also.toNat) (b := 0) (by decide) (by rw [hor]; rfl) hen
        refine ⟨fun hfree => ⟨_, rfl, (trigger_opens hrun hgo hfree.1 hfree.2.1 hsrc (htime _ hfree)).1⟩, fun h => ⟨_, rfl, ?_⟩⟩
        rw [hearly hsrc (fun ha => by rw [hor, ha]; rfl) h]
        exact hignored s _
      · have hsrc := hbitOf (sources := 2 ||| also.toNat) (b := 1) (by decide) (by rw [hor]; rfl) hen
        refine ⟨fun hfree => ⟨_, rfl, (trigger_opens hrun hgo hfree.1 hfree.2.1 hsrc (htime _ hfree)).1⟩, fun h => ⟨_, rfl, ?_⟩⟩
        rw [hearly hsrc (fun ha => by rw [hor, ha]; rfl) h]
        exact hignored s _
      · have hsrc := hbitOf (sources := 8) (b := 3) (by decide) rfl hen
        refine ⟨fun hfree => ⟨_, hswTrig, (trigger_opens (s := { s with bus := {} }) hrun hgo hfree.1 hfree.2.1 hsrc (htime _ hfree)).1⟩,
          fun h => ⟨_, hswTrig, ?_⟩⟩
        rw [trigger_ignored (s := { s with bus := {} }) hrun hgo h.1 hsrc (hlate8 h)]
        exact hignored { s with bus := {} } _
    · simp only [List.mem_cons, List.not_mem_nil, or_false] at hp
      rcases hp with rfl | rfl
      · exact ⟨_, rfl, (trigger_joins (b := 0) hrun hgo hframe hsame hen (fun h => absurd h (by decide)) hnew).1⟩
      · exact ⟨_, rfl, (trigger_joins (b := 1) hrun hgo hframe hsame hen (fun h => absurd h (by decide)) hnew).1⟩
    · exact ⟨_, hswTrig, (trigger_joins (s := { s with bus := {} }) (b := 3) hrun hgo hframe hsame hen (fun h => absurd h (by decide)) hnew).1⟩
    · exact ⟨_, rfl, (trigger_joins (b := 2) hrun hgo hframe hsame hen (fun _ => ⟨hacts, hpend⟩) hnew).1⟩
    · exact ⟨_, hpair hat, trigger_joins (s := { s with lnk.pairAt := none }) (b := 3) hrun hgo hframe hsame hen
        (fun h => absurd h (by decide)) hnew⟩
    · have hsrc := hbitOf (sources := 8) (b := 3) (by decide) rfl hen
      exact ⟨_, hpair hat, trigger_opens (s := { s with lnk.pairAt := none }) hrun hgo hfree.1 hfree.2.1 hsrc (htime _ hfree)⟩
    · have hsrc := hbitOf (sources := 8) (b := 3) (by decide) rfl hen
      refine ⟨_, hpair hat, ?_⟩
      rw [trigger_ignored (s := { s with lnk.pairAt := none }) hrun hgo h.1 hsrc (hlate8 h)]
      exact hignored { s with lnk.pairAt := none } _
    · have hen : bit (s.rd ACQ.TRIG_EN) 2 = true := by
        simp only [State.timerActs, Bool.and_eq_true] at hacts
        exact hacts.1.2
      have hmet : s.enabledMet 4 = 4 := enabledMet_single s (b := 2) hen fun _ => ⟨hacts, hpend⟩
      refine ⟨_, rfl, (trigger_opens (sources := 4) (b := 2) hrun hgo hframe hdue (by rw [hmet]; rfl) ?_).1⟩
      rw [hmet, State.timeMet, show bit 4 2 = true from rfl]
      rcases hfly with h | h
      · rw [show s.passed s.acq.lastBoundary (s.rd ACQ.FLYBACK_MIN) = true from h, Bool.true_or, Bool.and_true, Bool.or_true]
      · rw [h]; rfl
    · have hen : bit (s.rd ACQ.TRIG_EN) 2 = true := by
        simp only [State.timerActs, Bool.and_eq_true] at hacts
        exact hacts.1.2
      have hmet : s.enabledMet 4 = 4 := enabledMet_single s (b := 2) hen fun _ => ⟨hacts, hpend⟩
      have hig : exec .frameTimer s = .next (s.ignoreTrigger (s.enabledMet 4)) :=
        congrArg Host.Outcome.next (trigger_ignored (sources := 4) (b := 2) hrun hgo hsame (by rw [hmet]; rfl)
          (h.imp_right fun ⟨htr, hf⟩ => ⟨htr, .inl (Bool.eq_false_of_not_eq_true hf)⟩))
      exact ⟨⟨_, hig, hignored s _⟩, _, hig, (ignoreTrigger_shows s _).2.2.2.2.2 (by rw [hmet]; rfl)⟩
    · have hexec : exec .pendingTriggerAccept s = .next (s.acceptTrigger 4) := by
        show done (if s.runs pACQ && s.acq.timerPending && s.timerActs && s.mayOpen then _ else s) = _
        rw [if_pos (by rw [hrun, hpend, hacts, (mayOpen_iff hgo).mpr hframe]; rfl)]
        rfl
      exact ⟨_, hexec, (acceptTrigger_opens hdue (triggerCause_bit s rfl)).1⟩
  · obtain ⟨hkeep, hacq⟩ := runFields_keeps s value.toNat
    obtain ⟨hregs, hgrid⟩ := written_acq ((s.writeFieldsOf (fun b => b != 543) pACQ 0x40 value.toNat).writeRun true)
    obtain ⟨hon, htr, hpend⟩ := writeRun_set ((congrArg (· != 0) (hkeep ACQ.RUN (by decide))).trans hoff)
    refine ⟨_, exec_runWrite path value hrun, ?_⟩
    rw [hbit, hgrid]
    exact ⟨(congrArg (fun y : Regs => y.cur.rd ACQ.RUN != 0) hregs).trans hon, htr, hpend⟩
  · obtain ⟨hkeep, -⟩ := runFields_keeps s value.toNat
    obtain ⟨hregs, -⟩ := written_acq ((s.writeFieldsOf (fun b => b != 543) pACQ 0x40 value.toNat).writeRun false)
    obtain ⟨hrun', herr⟩ := writeRun_refused ((congrArg (· != 0) (hkeep ACQ.RUN (by decide))).trans hon)
      ((operating_of_rd (hkeep SAF.STATE (by decide))).trans hop)
    refine ⟨_, exec_runWrite path value hrun, ?_⟩
    rw [hbit]
    exact ⟨(congrArg (fun y : Regs => y.cur.rd ACQ.RUN != 0) hregs).trans hrun',
      (congrArg (fun y : Regs => y.cur.rd (C.ERR_STATE pACQ) != 0) hregs).trans herr⟩
  · obtain ⟨hkeep, hacq⟩ := runFields_keeps s value.toNat
    obtain ⟨hregs, hgrid⟩ := written_acq ((s.writeFieldsOf (fun b => b != 543) pACQ 0x40 value.toNat).writeRun false)
    obtain ⟨hoff, hsync, hservice⟩ := writeRun_cleared ((congrArg (· != 0) (hkeep ACQ.RUN (by decide))).trans hon)
      ((operating_of_rd (hkeep SAF.STATE (by decide))).trans hop)
    refine ⟨_, exec_runWrite path value hrun, ?_⟩
    rw [hbit]
    refine ⟨(congrArg (fun y : Regs => y.cur.rd ACQ.RUN != 0) hregs).trans hoff,
      (congrArg (fun y : Regs => y.cur.rd ACQ.ST_SYNC_LOST != 0) hregs).trans hsync, ?_⟩
    rw [State.gridInService, State.inFrame, hgrid, ← hacq]
    exact hservice
  · obtain ⟨hsync, hint, hkeep⟩ := syncLost_shows s
    refine ⟨_, exec_syncLostTimeout hrun hgo hpin hlost, ?_⟩
    cases hen : bit (s.rd ACQ.TRIG_EN) 2 with
    | true =>
      obtain ⟨h1, h2⟩ := timerSample_keeps (s := s.syncLost) hdue (s.syncLost.rd ACQ.LAST_CAUSE % 4 != 0)
      exact ⟨(congrArg (· != 0) h1).trans hsync, (congrArg (· != 0) h2).trans hint, fun h => absurd h (by decide),
        fun _ hpend hframe hfly hcause => syncLost_opens hgo hrun hdue hen hpend hframe hfly hcause⟩
    | false =>
      obtain ⟨hflt, hno, hk⟩ := framesLost_shows s.syncLost
      have hidle : bit (s.syncLost.framesLost.rd ACQ.TRIG_EN) 2 = false := by
        rw [hk ACQ.TRIG_EN (by decide), hkeep ACQ.TRIG_EN (by decide), hen]
      rw [if_neg Bool.false_ne_true, timerSample_disabled hidle]
      exact ⟨(congrArg (· != 0) (hk ACQ.ST_SYNC_LOST (by decide))).trans hsync, (congrArg (· != 0) (hk ACQ.INT_SYNC_LOST (by decide))).trans hint,
        fun _ => ⟨hflt, hno⟩, fun h => absurd h (by decide)⟩

end Sys2Proof.Machine
end

section
/-! PROOFS. Housekeeping rounds, first part: what the units that take a slot's output leave unchanged (R110, R340, R386 to R390). -/
namespace Sys2Proof.Machine
open Sys2Proof

/-! ### A change that the rounds do not see -/

/-- Registers of a list have changed and nothing else that the housekeeping rounds read: their own state, the written values, the
folios held in reset and CAL's data. -/
structure HkKeeps (keys : List Nat) (s t : State) : Prop where
  regs : KeepsRegs keys s t
  shadow : t.regs.shadow = s.regs.shadow
  sense : t.sense = s.sense
  held : t.rst.held = s.rst.held
  cal : t.cal = s.cal

theorem HkKeeps.refl (keys : List Nat) (s : State) : HkKeeps keys s s := ⟨KeepsRegs.refl _ s, rfl, rfl, rfl, rfl⟩

theorem HkKeeps.trans {keys : List Nat} {s t u : State} (h : HkKeeps keys s t) (h' : HkKeeps keys t u) : HkKeeps keys s u :=
  ⟨h.regs.trans h'.regs, h'.shadow.trans h.shadow, h'.sense.trans h.sense, h'.held.trans h.held, h'.cal.trans h.cal⟩

theorem HkKeeps.mono {keys keys' : List Nat} {s t : State} (h : HkKeeps keys s t) (hk : ∀ k ∈ keys, k ∈ keys') : HkKeeps keys' s t :=
  { h with regs := h.regs.mono hk }

theorem HkKeeps.wr {keys : List Nat} {s t : State} (h : HkKeeps keys s t) {f : Fld} (hf : f.key ∈ keys) (v : Nat) : HkKeeps keys s (t.wr f v) :=
  ⟨h.regs.wr f v hf, h.shadow, h.sense, h.held, h.cal⟩

theorem HkKeeps.put {keys : List Nat} {s t : State} (h : HkKeeps keys s t) {f : Fld} (hf : f.key ∈ keys) (b : Bool) : HkKeeps keys s (t.put f b) :=
  h.wr hf _

theorem fault_hk (s : State) (p b : Nat) : HkKeeps (faultKeys p) s (s.fault p b) := by
  have hf := (SafFrame.refl s).fault p b
  exact ⟨fault_keepsRegs s p b, (congrArg (fun x : State => x.regs.shadow) hf.rest).trans rfl,
    (congrArg State.sense hf.rest).trans rfl, (congrArg (fun x : State => x.rst.held) hf.rest).trans rfl, fault_cal s p b⟩

theorem HkKeeps.fault {keys : List Nat} {s t : State} (h : HkKeeps keys s t) (p b : Nat) (hk : ∀ k ∈ faultKeys p, k ∈ keys) :
    HkKeeps keys s (t.fault p b) := h.trans ((fault_hk t p b).mono hk)

/-- What the rounds read beside the registers that act. -/
def State.hkRest (s : State) : Regs × SenseState × List Nat × CalState := (s.regs, s.sense, s.rst.held, s.cal)

theorem HkKeeps.of_rest {keys : List Nat} {s t : State} (h : t.hkRest = s.hkRest) : HkKeeps keys s t := by
  obtain ⟨hregs, hsense, hheld, hcal⟩ : t.regs = s.regs ∧ t.sense = s.sense ∧ t.rst.held = s.rst.held ∧ t.cal = s.cal := by
    simpa only [State.hkRest, Prod.mk.injEq] using h
  exact ⟨(KeepsRegs.refl _ s).of_cur (congrArg Regs.cur hregs), congrArg Regs.shadow hregs, hsense, hheld, hcal⟩

theorem HkKeeps.foldl {α : Type} {keys : List Nat} {f : State → α → State} {l : List α} (h : ∀ s, ∀ a ∈ l, HkKeeps keys s (f s a)) (s : State) :
    HkKeeps keys s (l.foldl f s) := by
  induction l generalizing s with
  | nil => exact HkKeeps.refl _ s
  | cons a l ih => exact (h s a List.mem_cons_self).trans (ih (fun t b hb => h t b (List.mem_cons_of_mem _ hb)) _)

theorem HkKeeps.runs {keys : List Nat} {s t : State} (h : HkKeeps keys s t) {p : Nat} (hp : (PWR.DOM_ON (domainOf p)).key ∉ keys) :
    t.runs p = s.runs p := runs_of_regs h.held (h.regs _ hp)

/-! ### THM (R386 to R390) -/

def thmLevelKeys : List Nat := [THM.EMT_LEVEL.key, THM.LMP_LEVEL.key, THM.INT_LEVEL_CHANGE.key, EMT.ST_DERATE_LEVEL.key,
  EMT.INT_DERATE_CHANGE.key, THM.INT_FAST.key, THM.ST_FAST.key] ++ faultKeys pEMT ++ faultKeys pTHM

theorem emtLevel_hk (s : State) (n : Nat) : HkKeeps thmLevelKeys s (s.emtLevel n) := by
  have hkeys : EMT.ST_DERATE_LEVEL.key ∈ thmLevelKeys ∧ EMT.INT_DERATE_CHANGE.key ∈ thmLevelKeys ∧ ∀ k ∈ faultKeys pEMT, k ∈ thmLevelKeys := by decide
  obtain ⟨hlevel, hint, hfault⟩ := hkeys
  unfold State.emtLevel
  split
  · exact HkKeeps.refl _ s
  · have h : HkKeeps thmLevelKeys s ((s.wr EMT.ST_DERATE_LEVEL n).raise EMT.INT_DERATE_CHANGE) := ((HkKeeps.refl _ s).wr hlevel _).put hint _
    dsimp only
    split
    · exact h.fault _ _ hfault
    · exact h

theorem setLevel_hk (s : State) (x n : Nat) : HkKeeps thmLevelKeys s (s.setLevel x n) := by
  have hint : THM.INT_LEVEL_CHANGE.key ∈ thmLevelKeys := by decide
  have hfield : (levelField x).key ∈ thmLevelKeys := by
    unfold levelField
    split <;> decide
  rw [setLevel_eq]
  have h : HkKeeps thmLevelKeys s ((s.wr (levelField x) n).raise THM.INT_LEVEL_CHANGE) := ((HkKeeps.refl _ s).wr hfield _).put hint _
  generalize (s.wr (levelField x) n).raise THM.INT_LEVEL_CHANGE = u at *
  split
  · exact HkKeeps.refl _ s
  · split
    · exact h.trans (emtLevel_hk u n)
    · exact h.trans (.of_rest rfl)

theorem bankReading_hk (keys : List Nat) (s : State) (x : Nat) (r base step h : Int) : HkKeeps keys s (s.bankReading x r base step h) := by
  unfold State.bankReading
  refine .of_rest (foldl_keeps State.hkRest ?_ s)
  exact fun _ _ _ => rfl

theorem freshBank_hk (keys : List Nat) (s : State) (x : Nat) : HkKeeps keys s (s.freshBank x) := by
  unfold State.freshBank
  refine .of_rest (foldl_keeps State.hkRest ?_ s)
  exact fun _ _ _ => rfl

theorem setSlotSeen_hk (keys : List Nat) (s : State) (x : Nat) (b : Bool) : HkKeeps keys s (s.setSlotSeen x b) := by
  unfold State.setSlotSeen
  split <;> exact .of_rest rfl

theorem forceLevel_hk (s : State) (x : Nat) : HkKeeps thmLevelKeys s (s.forceLevel x) := by
  unfold State.forceLevel
  generalize s.levelOf x = n
  exact (setSlotSeen_hk _ s x false).trans (setLevel_hk _ x _)

theorem usable_hk (s : State) (x : Nat) (r : Int) : HkKeeps thmLevelKeys s (s.usable x r) := by
  have hkeep : HkKeeps thmLevelKeys s (s.keepUsable x r) := by
    unfold State.keepUsable
    split <;> exact .of_rest rfl
  unfold State.usable
  generalize s.keepUsable x r = u at *
  have hseen : HkKeeps thmLevelKeys s (if u.slotSeen x then u else (u.freshBank x).setSlotSeen x true) := by
    split
    · exact hkeep
    · exact (hkeep.trans (freshBank_hk _ u x)).trans (setSlotSeen_hk _ _ x true)
  dsimp only
  generalize (if u.slotSeen x then u else (u.freshBank x).setSlotSeen x true) = v at *
  exact (hseen.trans (bankReading_hk _ v x r _ 80 _)).trans (setLevel_hk _ x _)

theorem delivered_hk (keys : List Nat) (s : State) (x : Nat) (b : Bool) : HkKeeps keys s (s.delivered x b) := by
  unfold State.delivered
  split <;> exact .of_rest rfl

theorem slotLost_hk (s : State) (x : Nat) : HkKeeps thmLevelKeys s (s.slotLost x) := by
  have hfault : ∀ k ∈ faultKeys pTHM, k ∈ thmLevelKeys := by decide
  have hlost : HkKeeps thmLevelKeys s (if x = 24 then { s with thm.emtLost := true } else { s with thm.lmpLost := true }) := by
    split <;> exact .of_rest rfl
  unfold State.slotLost
  dsimp only
  generalize (if x = 24 then { s with thm.emtLost := true } else { s with thm.lmpLost := true } : State) = u at *
  exact (hlost.fault _ _ hfault).trans (forceLevel_hk _ x)

theorem derateOutput_hk (s : State) (x : Nat) (bad held : Bool) (value : Int) : HkKeeps thmLevelKeys s (s.derateOutput x bad held value) := by
  unfold State.derateOutput
  split
  · exact (delivered_hk _ s x false).trans (slotLost_hk _ x)
  · split
    · exact delivered_hk _ s x false
    · exact (delivered_hk _ s x true).trans (usable_hk _ x value)

theorem requestFast_hk (s : State) : HkKeeps [THM.INT_FAST.key, THM.ST_FAST.key] s s.requestFast := by
  unfold State.requestFast
  split
  · exact ((HkKeeps.refl _ s).put (by decide) _).put (by decide) _
  · exact HkKeeps.refl _ s

theorem thmOutput_hk (s : State) (k : Nat) (bad held : Bool) (value : Int) : HkKeeps thmLevelKeys s (s.thmOutput k bad held value) := by
  have hfast : ∀ k ∈ [THM.INT_FAST.key, THM.ST_FAST.key], k ∈ thmLevelKeys := by decide
  have hone (u : State) (f : Fld) (x : Nat) : HkKeeps thmLevelKeys u (if u.rd f = k then u.derateOutput x bad held value else u) := by
    split
    · exact derateOutput_hk u x bad held value
    · exact HkKeeps.refl _ u
  unfold State.thmOutput
  split
  · exact HkKeeps.refl _ s
  · have h1 := hone s THM.EMT_SLOT 24
    dsimp only
    generalize (if s.rd THM.EMT_SLOT = k then s.derateOutput 24 bad held value else s) = u at *
    exact (h1.trans (hone u THM.LMP_SLOT 25)).trans ((requestFast_hk _).mono hfast)

theorem thmStopped_hk (s : State) : HkKeeps thmLevelKeys s s.thmStopped := by
  unfold State.thmStopped
  split
  · generalize hu : ({ s with thm.emtSilent := 0, thm.lmpSilent := 0, thm.emtDelivered := false, thm.lmpDelivered := false } : State) = u
    have h : HkKeeps thmLevelKeys s u := hu ▸ .of_rest rfl
    exact (h.trans (forceLevel_hk u 24)).trans (forceLevel_hk _ 25)
  · exact HkKeeps.refl _ s

/-! ### The sensors' round (R385, R388, R391) -/

def sensorKeys : List Nat := stepKeys ++ THM.INT_SENSOR.key :: (List.range 24).map fun i => (THM.READING i).key

theorem inFrameDo_hk (keys : List Nat) (s : State) (f : Frame → Frame) : HkKeeps keys s (s.inFrameDo f) := by
  unfold State.inFrameDo
  split <;> exact .of_rest rfl

theorem readSensor_hk (s : State) {i : Nat} (hi : i < 24) (r : Int) : HkKeeps sensorKeys s (s.readSensor i r) := by
  have hint : THM.INT_SENSOR.key ∈ sensorKeys := by decide
  have hreading : ∀ i < 24, (THM.READING i).key ∈ sensorKeys := by decide
  unfold State.readSensor
  split
  · exact (HkKeeps.refl _ s).put hint _
  · have h := ((HkKeeps.refl _ s).wr (hreading i hi) (ofSigned (THM.READING i).width r)).trans
      (inFrameDo_hk sensorKeys (s.wrI (THM.READING i) r) fun fr => { fr with tjMax := maxOf fr.tjMax r })
    dsimp only
    generalize (s.wrI (THM.READING i) r).inFrameDo (fun fr => { fr with tjMax := maxOf fr.tjMax r }) = u at *
    generalize hv : ({ u with thm.read := if u.thm.read.contains i then u.thm.read else u.thm.read ++ [i] } : State) = v
    have hread : HkKeeps sensorKeys s v := hv ▸ h.trans (.of_rest rfl)
    split
    · exact hread.trans (bankReading_hk _ v i r _ _ _)
    · exact hread

theorem showTj_hk (s : State) : HkKeeps stepKeys s s.showTj := by
  unfold State.showTj
  split
  · exact HkKeeps.refl _ s
  · exact ((HkKeeps.refl _ s).wr (by decide) _).wr (by decide) _

theorem showStep_hk (s : State) {x : Nat} (h11 : 11 ≤ x) (h20 : x ≤ 20) : HkKeeps stepKeys s (s.showStep x) := by
  have hmem := stepField_mem h11 h20
  rw [showStep_eq]
  have hmid : HkKeeps stepKeys s (if s.bankLevel x = s.rd (stepField x) then s else (s.wr (stepField x) (s.bankLevel x)).raise THM.INT_STEP_CHANGE) := by
    split
    · exact HkKeeps.refl _ s
    · exact ((HkKeeps.refl _ s).wr (hmem _ List.mem_cons_self) _).put (hmem _ (List.mem_cons_of_mem _ List.mem_cons_self)) _
  dsimp only
  generalize (if s.bankLevel x = s.rd (stepField x) then s else (s.wr (stepField x) (s.bankLevel x)).raise THM.INT_STEP_CHANGE) = u at *
  split
  · exact hmid.fault _ _ fun k hk => hmem k (List.mem_cons_of_mem _ (List.mem_cons_of_mem _ hk))
  · exact hmid

theorem readSensors_hk (s : State) {sensors : List (BitVec 16)} (hlen : sensors.length = 24) : HkKeeps sensorKeys s (s.readSensors sensors) := by
  have hstep : ∀ k ∈ stepKeys, k ∈ sensorKeys := fun k hk => List.mem_append_left _ hk
  have hread : HkKeeps sensorKeys s ((s.topNoted sensors).sensorsRead sensors) := by
    have hnoted : HkKeeps sensorKeys s (s.topNoted sensors) := .of_rest rfl
    refine hnoted.trans ?_
    unfold State.sensorsRead
    refine HkKeeps.foldl (fun t e he => readSensor_hk t ?_ _) _
    have := List.snd_lt_of_mem_zipIdx he
    omega
  rw [readSensors_eq]
  generalize (s.topNoted sensors).sensorsRead sensors = u at *
  have hshown : HkKeeps stepKeys u u.showTj.stepsShown := (showTj_hk u).trans
    (HkKeeps.foldl (fun t x hx => showStep_hk t (mem_domains.mp hx).1 (mem_domains.mp hx).2) _)
  generalize u.showTj.stepsShown = v at *
  exact (hread.trans (hshown.mono hstep)).put (by decide) _

theorem showFast_hk (s : State) : HkKeeps [THM.INT_FAST.key, THM.ST_FAST.key] s s.showFast := by
  unfold State.showFast
  split
  · exact requestFast_hk s
  · exact (HkKeeps.refl _ s).put (by decide) _

/-! ### VSPAD (R110) -/

def vspadTakenKeys : List Nat := (List.range 11).flatMap fun j => [(DET.INT_VSPAD_RANGE j).key, (DET.ST_VSPAD_OK j).key, (DET.VSPAD_MV j).key]

theorem vspadReading_hk (s : State) (mv : Int) : HkKeeps vspadTakenKeys s (s.vspadReading mv) := by
  have hkeys : ∀ j < 11, (DET.INT_VSPAD_RANGE j).key ∈ vspadTakenKeys ∧ (DET.ST_VSPAD_OK j).key ∈ vspadTakenKeys ∧ (DET.VSPAD_MV j).key ∈ vspadTakenKeys := by decide
  have hset (u : State) (j : Nat) (x : Section) : HkKeeps vspadTakenKeys u (u.setSection j x) := .of_rest rfl
  refine HkKeeps.foldl (fun t j hj => ?_) s
  obtain ⟨hint, hok, hmv⟩ := hkeys j (List.mem_range.mp hj)
  split
  · unfold State.vspadSection
    dsimp only
    split
    · exact ((hset t j _).put hint _).put hok _
    · exact ((hset t j _).wr hmv _).put hok _
  · exact HkKeeps.refl _ t

theorem vspadRound_hk (keys : List Nat) (s : State) : HkKeeps keys s s.vspadRound := by
  unfold State.vspadRound
  refine .of_rest (foldl_keeps State.hkRest ?_ s)
  exact fun _ _ _ => rfl

end Sys2Proof.Machine
end

section
/-! PROOFS. Housekeeping rounds, second part: a slot's output and the end of its period (R350 to R354, R379). -/
namespace Sys2Proof.Machine
open Sys2Proof

/-! ### A change of a slot and of the results -/

/-- Registers of a list, the slots and the housekeeping-results queue have changed, and nothing else that the rounds read. -/
structure OutKeeps (keys : List Nat) (s t : State) : Prop where
  regs : KeepsRegs keys s t
  sense : t.sense = { s.sense with slots := t.sense.slots, results := t.sense.results }
  held : t.rst.held = s.rst.held
  cal : t.cal = s.cal

theorem HkKeeps.out {keys : List Nat} {s t : State} (h : HkKeeps keys s t) : OutKeeps keys s t :=
  ⟨h.regs, by rw [h.sense], h.held, h.cal⟩

theorem OutKeeps.trans {keys : List Nat} {s t u : State} (h : OutKeeps keys s t) (h' : OutKeeps keys t u) : OutKeeps keys s u :=
  ⟨h.regs.trans h'.regs, by rw [h'.sense, h.sense], h'.held.trans h.held, h'.cal.trans h.cal⟩

theorem OutKeeps.mono {keys keys' : List Nat} {s t : State} (h : OutKeeps keys s t) (hk : ∀ k ∈ keys, k ∈ keys') : OutKeeps keys' s t :=
  { h with regs := h.regs.mono hk }

theorem OutKeeps.runs {keys : List Nat} {s t : State} (h : OutKeeps keys s t) {p : Nat} (hp : (PWR.DOM_ON (domainOf p)).key ∉ keys) :
    t.runs p = s.runs p := runs_of_regs h.held (h.regs _ hp)

theorem setSlot_out (keys : List Nat) (s : State) (k : Nat) (x : Slot) : OutKeeps keys s (s.setSlot k x) := ⟨fun _ _ => rfl, rfl, rfl, rfl⟩

theorem slot_setSlot (s : State) (k : Nat) (x : Slot) : (s.setSlot k x).slot k = x := Tab.get_set_self _ _ _ _

theorem slot_of_sense {s t : State} (h : t.sense.slots = s.sense.slots) (k : Nat) : t.slot k = s.slot k := by
  unfold State.slot
  rw [h]

/-! ### The delivery of an output (R352) -/

/-- The RESULT word and the status bit of an output. -/
def State.outWritten (s : State) (k : Nat) (value : Nat) (f : OutFlags) : State :=
  (((((((s.wr (FLT.VALUE k) value).put (FLT.UNSETTLED k) f.unsettled).put (FLT.BLANK k) f.blank).put (FLT.OPEN k) f.open_).put
    (FLT.OVR k) f.ovr).put (FLT.STALE k) f.stale).wrap (FLT.SEQ k) 1).wr FLT.ST_UNSETTLED (withBit (s.rd FLT.ST_UNSETTLED) k f.unsettled)

/-- An output's interrupt and fault. -/
def State.outFaulted (s : State) (exceeded : Bool) : State := if exceeded then (s.raise FLT.INT_OVR).fault pFLT 0 else s

theorem deliverOut_eq (s : State) (k value : Nat) (f : OutFlags) : s.deliverOut k value f =
    (((s.outWritten k value f).outFaulted f.ovr).pushResult
        ⟨k, toSigned 16 value, f.open_, f.ovr, f.unsettled, f.blank, f.stale, (s.outWritten k value f).rd (FLT.SEQ k)⟩).thmOutput k
      (f.open_ || f.ovr) (f.unsettled || f.blank || f.stale) (toSigned 16 value) := rfl

/-- The registers of a slot's output, and those of the units that use it. -/
def outKeys (k : Nat) : List Nat := [(FLT.VALUE k).key, (FLT.UNSETTLED k).key, (FLT.BLANK k).key, (FLT.OPEN k).key, (FLT.OVR k).key,
  (FLT.STALE k).key, (FLT.SEQ k).key, (AFE.LEAD_MEAS k).key, FLT.ST_UNSETTLED.key, FLT.INT_OVR.key, FLT.INT_FMT_BAD.key]
  ++ (faultKeys pFLT ++ thmLevelKeys)

theorem mem_outKeys_fault {k x : Nat} (h : x ∈ faultKeys pFLT) : x ∈ outKeys k := List.mem_append_right _ (List.mem_append_left _ h)

theorem mem_outKeys_thm {k x : Nat} (h : x ∈ thmLevelKeys) : x ∈ outKeys k := List.mem_append_right _ (List.mem_append_right _ h)

theorem outWritten_hk (s : State) (k value : Nat) (f : OutFlags) : HkKeeps (outKeys k) s (s.outWritten k value f) := by
  have hmem : ∀ x ∈ [(FLT.VALUE k).key, (FLT.UNSETTLED k).key, (FLT.BLANK k).key, (FLT.OPEN k).key, (FLT.OVR k).key, (FLT.STALE k).key,
      (FLT.SEQ k).key, (AFE.LEAD_MEAS k).key, FLT.ST_UNSETTLED.key, FLT.INT_OVR.key, FLT.INT_FMT_BAD.key], x ∈ outKeys k :=
    fun x hx => List.mem_append_left _ hx
  simp only [List.forall_mem_cons] at hmem
  obtain ⟨h1, h2, h3, h4, h5, h6, h7, h8, h9, -⟩ := hmem
  exact ((((((((HkKeeps.refl _ s).wr h1 _).put h2 _).put h3 _).put h4 _).put h5 _).put h6 _).wr h7 _).wr h9 _

theorem outWritten_shows (s : State) (k value : Nat) (f : OutFlags) : (s.outWritten k value f).rd (FLT.VALUE k) = value % 2 ^ 16
    ∧ (s.outWritten k value f).on (FLT.UNSETTLED k) = f.unsettled ∧ (s.outWritten k value f).on (FLT.OVR k) = f.ovr
    ∧ (s.outWritten k value f).rd (FLT.SEQ k) = (s.rd (FLT.SEQ k) + 1) % 2 ^ 8 := by
  have hne {p b c w v r x : Nat} (h : b ≠ c) : (fld p b w r).key ≠ (fld p c v x).key := by
    simp only [fld_key]
    omega
  unfold State.outWritten
  generalize withBit (s.rd FLT.ST_UNSETTLED) k f.unsettled = st
  refine ⟨?_, ?_, ?_, ?_⟩
  · refine (State.rd_wr_ne _ _ _ _ (hne (by omega))).trans ((State.rd_wr_ne _ _ _ _ (hne (by omega))).trans ((State.rd_put_ne _ _ _ _ (hne (by omega))).trans
      ((State.rd_put_ne _ _ _ _ (hne (by omega))).trans ((State.rd_put_ne _ _ _ _ (hne (by omega))).trans ((State.rd_put_ne _ _ _ _ (hne (by omega))).trans
      ((State.rd_put_ne _ _ _ _ (hne (by omega))).trans (State.rd_wr_self _ _ _)))))))
  · refine (congrArg (· != 0) ((State.rd_wr_ne _ _ _ _ (hne (by omega))).trans ((State.rd_wr_ne _ _ _ _ (hne (by omega))).trans
      ((State.rd_put_ne _ _ _ _ (hne (by omega))).trans ((State.rd_put_ne _ _ _ _ (hne (by omega))).trans ((State.rd_put_ne _ _ _ _ (hne (by omega))).trans
      (State.rd_put_ne _ _ _ _ (hne (by omega))))))))).trans (State.on_put_self _ _ _ (by show 0 < 1; decide))
  · refine (congrArg (· != 0) ((State.rd_wr_ne _ _ _ _ (hne (by omega))).trans ((State.rd_wr_ne _ _ _ _ (hne (by omega))).trans
      (State.rd_put_ne _ _ _ _ (hne (by omega)))))).trans (State.on_put_self _ _ _ (by show 0 < 1; decide))
  · refine (State.rd_wr_ne _ _ _ _ (hne (by omega))).trans ((State.rd_wr_self _ _ _).trans (congrArg (fun x => (x + 1) % 2 ^ 8) ?_))
    exact ((State.rd_put_ne _ _ _ _ (hne (by omega))).trans
      ((State.rd_put_ne _ _ _ _ (hne (by omega))).trans ((State.rd_put_ne _ _ _ _ (hne (by omega))).trans ((State.rd_put_ne _ _ _ _ (hne (by omega))).trans
      ((State.rd_put_ne _ _ _ _ (hne (by omega))).trans (State.rd_wr_ne _ _ _ _ (hne (by omega))))))))

theorem outFaulted_hk (k : Nat) (s : State) (exceeded : Bool) : HkKeeps (outKeys k) s (s.outFaulted exceeded) := by
  unfold State.outFaulted
  split
  · exact ((HkKeeps.refl _ s).put (by simp [outKeys]) true).fault _ _ fun _ => mem_outKeys_fault
  · exact HkKeeps.refl _ s

theorem pushResult_out (keys : List Nat) (s : State) (r : HkResult) : OutKeeps keys s (s.pushResult r)
    ∧ (s.pushResult r).sense.slots = s.sense.slots ∧ (s.pushResult r).sense.results.getLast? = some r := by
  have harrive : s.resultsArrive.hkRest = ({ s with sense.results := [] } : State).hkRest :=
    foldl_keeps State.hkRest (fun t r _ => by unfold State.resultReaches; split <;> rfl) _
  have hmid : ∀ u : State, u = (if resultDepth ≤ s.sense.results.length then s.resultsArrive else s) → OutKeeps keys s u
      ∧ u.sense.slots = s.sense.slots := by
    rintro u rfl
    split
    · obtain ⟨hregs, hsense, hheld, hcal⟩ : s.resultsArrive.regs = s.regs ∧ s.resultsArrive.sense = { s.sense with results := [] }
          ∧ s.resultsArrive.rst.held = s.rst.held ∧ s.resultsArrive.cal = s.cal := by
        simpa only [State.hkRest, Prod.mk.injEq] using harrive
      exact ⟨⟨(KeepsRegs.refl _ s).of_cur (congrArg Regs.cur hregs), by rw [hsense], hheld, hcal⟩, by rw [hsense]⟩
    · exact ⟨(HkKeeps.refl _ s).out, rfl⟩
  unfold State.pushResult
  obtain ⟨hkeep, hslots⟩ := hmid _ rfl
  generalize (if resultDepth ≤ s.sense.results.length then s.resultsArrive else s) = u at *
  have hpush : OutKeeps keys u { u with sense.results := u.sense.results ++ [r] } := ⟨fun _ _ => rfl, rfl, rfl, rfl⟩
  exact ⟨hkeep.trans hpush, hslots, List.getLast?_concat⟩

theorem deliverOut_out (s : State) (k value : Nat) (f : OutFlags) : OutKeeps (outKeys k) s (s.deliverOut k value f)
    ∧ (s.deliverOut k value f).sense.slots = s.sense.slots
    ∧ (s.deliverOut k value f).sense.results.getLast? =
      some ⟨k, toSigned 16 value, f.open_, f.ovr, f.unsettled, f.blank, f.stale, (s.rd (FLT.SEQ k) + 1) % 2 ^ 8⟩ := by
  rw [deliverOut_eq]
  have h1 := outWritten_hk s k value f
  rw [(outWritten_shows s k value f).2.2.2]
  generalize s.outWritten k value f = u at *
  have h2 := outFaulted_hk k u f.ovr
  generalize u.outFaulted f.ovr = v at *
  obtain ⟨h3, hslots, hlast⟩ := pushResult_out (outKeys k) v
    ⟨k, toSigned 16 value, f.open_, f.ovr, f.unsettled, f.blank, f.stale, (s.rd (FLT.SEQ k) + 1) % 2 ^ 8⟩
  generalize v.pushResult _ = w at *
  have h4 := (thmOutput_hk w k (f.open_ || f.ovr) (f.unsettled || f.blank || f.stale) (toSigned 16 value)).mono fun _ => mem_outKeys_thm (k := k)
  refine ⟨(((h1.trans h2).out).trans h3).trans h4.out, ?_, ?_⟩
  · rw [h4.sense, hslots, h2.sense, h1.sense]
  · rw [h4.sense, hlast]

/-- What a delivered output shows. -/
theorem deliverOut_shows (s : State) {k : Nat} (hk : k < 16) (value : Nat) (f : OutFlags) :
    (s.deliverOut k value f).rd (FLT.VALUE k) = value % 2 ^ 16 ∧ (s.deliverOut k value f).on (FLT.UNSETTLED k) = f.unsettled
      ∧ (s.deliverOut k value f).on (FLT.OVR k) = f.ovr ∧ (s.deliverOut k value f).rd (FLT.SEQ k) = (s.rd (FLT.SEQ k) + 1) % 2 ^ 8
      ∧ (f.ovr = true → (s.deliverOut k value f).on FLT.INT_OVR = true) := by
  have hfar : ∀ k < 16, ∀ g ∈ [FLT.VALUE k, FLT.UNSETTLED k, FLT.OVR k, FLT.SEQ k], g.key ≠ FLT.INT_OVR.key ∧ g.key ∉ faultKeys pFLT
      ∧ g.key ∉ thmLevelKeys := by decide
  have hint : FLT.INT_OVR.key ∉ faultKeys pFLT ∧ FLT.INT_OVR.key ∉ thmLevelKeys := by decide
  obtain ⟨h1, h2, h3, h4⟩ := outWritten_shows s k value f
  rw [deliverOut_eq]
  generalize s.outWritten k value f = u at *
  have hone (g : Fld) (hg : g ∈ [FLT.VALUE k, FLT.UNSETTLED k, FLT.OVR k, FLT.SEQ k]) : (u.outFaulted f.ovr).rd g = u.rd g := by
    obtain ⟨hne, hflt, -⟩ := hfar k hk g hg
    unfold State.outFaulted
    split
    · exact (fault_keepsRegs _ _ _ _ hflt).trans (State.rd_put_ne _ _ _ _ hne)
    · rfl
  have hraised : f.ovr = true → (u.outFaulted f.ovr).on FLT.INT_OVR = true := fun e => by
    rw [e, State.outFaulted, if_pos rfl]
    exact (congrArg (· != 0) (fault_keepsRegs _ _ _ _ hint.1)).trans (State.on_put_self u FLT.INT_OVR true (by decide))
  generalize u.outFaulted f.ovr = v at *
  have hpush := (pushResult_out [] v ⟨k, toSigned 16 value, f.open_, f.ovr, f.unsettled, f.blank, f.stale, u.rd (FLT.SEQ k)⟩).1.regs
  generalize v.pushResult _ = w at *
  have hthm := (thmOutput_hk w k (f.open_ || f.ovr) (f.unsettled || f.blank || f.stale) (toSigned 16 value)).regs
  have hall (g : Fld) (hg : g ∈ [FLT.VALUE k, FLT.UNSETTLED k, FLT.OVR k, FLT.SEQ k]) :=
    (hthm g (hfar k hk g hg).2.2).trans ((hpush g List.not_mem_nil).trans (hone g hg))
  exact ⟨(hall _ (by simp)).trans h1, (congrArg (· != 0) (hall _ (by simp))).trans h2, (congrArg (· != 0) (hall _ (by simp))).trans h3,
    (hall _ (by simp)).trans h4, fun e => (congrArg (· != 0) ((hthm _ hint.2).trans (hpush _ List.not_mem_nil))).trans (hraised e)⟩

/-! ### A slot's output (R350, R351, R352, R354) -/

/-- The number of an output in the count of R354; a settled slot's lies past it. -/
def State.outNumber (s : State) (k : Nat) : Nat :=
  match (s.slot k).count with
  | some n => n + 1
  | none => s.rd (FLT.LEN k) + 3

/-- The window with the period's working value. -/
def State.outWindow (s : State) (k : Nat) : List Int := (s.working k (s.slot k).codes :: (s.slot k).window).take (s.rd (FLT.LEN k))

/-- The lead resistances with the period's. -/
def State.outLead (s : State) (k : Nat) : List Int := if s.isThermo k && s.rd (AFE.WIRES k) = 2
  then (s.leadMeas k (s.slot k).codes :: (s.slot k).lead).take (s.rd (FLT.LEN k)) else (s.slot k).lead

/-- The outputs counted after an output. -/
def State.outCount (s : State) (k : Nat) : Option Nat := if s.outNumber k < s.rd (FLT.LEN k) + 2 then some (s.outNumber k) else none

/-- An output whose mean has the format's value, or has none (R351). -/
def State.meanOut (s : State) (k : Nat) (value : Option Nat × Nat) : State :=
  match value with
  | (some v, d) => ((s.setSlot k { s.slot k with window := s.outWindow k, lead := s.outLead k, count := s.outCount k }).deliverOut k v
      ⟨decide (s.outNumber k ≤ s.rd (FLT.LEN k) + 2), false, false, false, false⟩).drew d
  | (none, _) =>
    let s1 := s.setSlot k { s.slot k with window := [], lead := [], count := some 1 }
    let s2 := if s.isThermo k then s1 else s1.raise FLT.INT_FMT_BAD
    s2.deliverOut k (s.rd (FLT.VALUE k)) ⟨true, false, false, true, false⟩

theorem validOut_eq (s : State) (k : Nat) : s.validOut k =
    if s.outNumber k ≤ 2 then (s.setSlot k { s.slot k with count := s.outCount k }).deliverOut k (s.rd (FLT.VALUE k))
      ⟨decide (s.outNumber k ≤ s.rd (FLT.LEN k) + 2), false, false, false, false⟩
    else s.meanOut k (s.format k (nearestAway (s.outWindow k).sum ((s.outWindow k).length : Nat))) := rfl

theorem validOut_out (s : State) (k : Nat) : OutKeeps (outKeys k) s (s.validOut k) := by
  have hset (t : State) (x : Slot) (v : Nat) (f : OutFlags) : OutKeeps (outKeys k) t ((t.setSlot k x).deliverOut k v f) :=
    (setSlot_out _ t k x).trans (deliverOut_out _ k v f).1
  have hdrew (t : State) (d : Nat) : OutKeeps (outKeys k) t (t.drew d) := ⟨fun _ _ => rfl, rfl, rfl, rfl⟩
  have hbad (t : State) : OutKeeps (outKeys k) t (t.raise FLT.INT_FMT_BAD) := ((HkKeeps.refl _ t).put (by simp [outKeys]) true).out
  rw [validOut_eq]
  split
  · exact hset s _ _ _
  · unfold State.meanOut
    split
    · exact (hset s _ _ _).trans (hdrew _ _)
    · dsimp only
      split
      · exact hset s _ _ _
      · exact ((setSlot_out _ s k _).trans (hbad _)).trans (deliverOut_out _ k _ _).1

theorem slotOutput_out (s : State) (k : Nat) : OutKeeps (outKeys k) s (s.slotOutput k) := by
  have hlead : OutKeeps (outKeys k) s (if s.isThermo k && s.rd (AFE.WIRES k) = 2 && 2 ≤ (s.slot k).codes.length
      then s.wrI (AFE.LEAD_MEAS k) (s.leadMeas k (s.slot k).codes) else s) := by
    split
    · exact ((HkKeeps.refl _ s).wr (by simp [outKeys]) _).out
    · exact (HkKeeps.refl _ s).out
  unfold State.slotOutput State.staleOut
  dsimp only
  generalize (if s.isThermo k && s.rd (AFE.WIRES k) = 2 && 2 ≤ (s.slot k).codes.length
      then s.wrI (AFE.LEAD_MEAS k) (s.leadMeas k (s.slot k).codes) else s) = u at *
  split
  · exact (deliverOut_out s k _ _).1
  · split
    · exact hlead.trans (deliverOut_out u k _ _).1
    · split
      · exact (hlead.trans (setSlot_out _ u k _)).trans (deliverOut_out _ k _ _).1
      · split
        · exact (hlead.trans (setSlot_out _ u k _)).trans (deliverOut_out _ k _ _).1
        · exact hlead.trans (validOut_out u k)

end Sys2Proof.Machine
end

section
/-! PROOFS. Housekeeping rounds, third part: the boundaries of slots and rounds, and the commands (R339 to R349, R353 to R356, R379). -/
namespace Sys2Proof.Machine
open Sys2Proof

/-! ### The end of a round (R340, R379) -/

/-- A complete round counted. -/
def State.roundCounted (s : State) : State := ((s.wrap CONVH.ROUNDS 1).raise CONVH.INT_ROUND).vspadRound

/-- THM's count of a complete round. -/
def State.roundHeard (s : State) : State := if s.runs pTHM then s.thmRound else s

/-- The rounds stop, or go on without calibration. -/
def State.roundOver (s : State) : State := if s.sense.stopAsked || s.on CONVH.SINGLE then s.stopRounds else { s with sense.calRound := false }

/-- A round is complete and its offsets are in force. -/
def State.roundClosed (s : State) : State := s.roundCounted.roundHeard.roundOver

theorem roundEnd_eq (s : State) : s.roundEnd = s.takeOffsets.roundClosed := rfl

def closedKeys : List Nat := [CONVH.ROUNDS.key, CONVH.INT_ROUND.key, CONVH.ST_RUNNING.key, CONVH.ST_FAST.key, CONVH.INT_STOPPED.key] ++ thmLevelKeys

/-- The rounds' stop before THM takes it. -/
def State.roundsHalted (s : State) : State := { ((s.put CONVH.ST_RUNNING false).put CONVH.ST_FAST false).raise CONVH.INT_STOPPED with
  sense.stopAsked := false, sense.calAsked := false, sense.calRound := false }

theorem stopRounds_eq (s : State) : s.stopRounds = s.roundsHalted.thmStopped := rfl

theorem roundsHalted_keeps (s : State) : KeepsRegs closedKeys s s.roundsHalted
    ∧ s.roundsHalted.sense = { s.sense with stopAsked := false, calAsked := false, calRound := false } ∧ s.roundsHalted.cal = s.cal :=
  ⟨(((KeepsRegs.refl _ s).put _ _ (by decide)).put _ _ (by decide)).put _ _ (by decide), rfl, rfl⟩

theorem roundCounted_hk (s : State) : HkKeeps closedKeys s s.roundCounted :=
  (((HkKeeps.refl _ s).wr (by decide) _).put (by decide) _).trans (vspadRound_hk _ _)

theorem roundHeard_hk (keys : List Nat) (s : State) : HkKeeps keys s s.roundHeard := by
  unfold State.roundHeard
  split
  · exact .of_rest rfl
  · exact HkKeeps.refl _ s

theorem roundOver_keeps (s : State) : KeepsRegs closedKeys s s.roundOver
    ∧ (∃ stop asked round, s.roundOver.sense = { s.sense with stopAsked := stop, calAsked := asked, calRound := round })
    ∧ s.roundOver.cal = s.cal := by
  have hthm : ∀ k ∈ thmLevelKeys, k ∈ closedKeys := fun k hk => List.mem_append_right _ hk
  unfold State.roundOver
  split
  · rw [stopRounds_eq]
    obtain ⟨hregs, hsense, hcal⟩ := roundsHalted_keeps s
    generalize s.roundsHalted = w at *
    have h3 := thmStopped_hk w
    exact ⟨hregs.trans (h3.mono hthm).regs, ⟨false, false, false, h3.sense.trans hsense⟩, h3.cal.trans hcal⟩
  · exact ⟨fun _ _ => rfl, ⟨s.sense.stopAsked, s.sense.calAsked, false, rfl⟩, rfl⟩

theorem roundClosed_keeps (s : State) : KeepsRegs closedKeys s s.roundClosed
    ∧ (∃ stop asked round, s.roundClosed.sense = { s.sense with stopAsked := stop, calAsked := asked, calRound := round })
    ∧ s.roundClosed.cal = s.cal := by
  unfold State.roundClosed
  have h1 := roundCounted_hk s
  generalize s.roundCounted = u at *
  have h2 := h1.trans (roundHeard_hk closedKeys u)
  generalize u.roundHeard = v at *
  obtain ⟨hregs, ⟨stop, asked, round, hsense⟩, hcal⟩ := roundOver_keeps v
  exact ⟨h2.regs.trans hregs, ⟨stop, asked, round, by rw [hsense, h2.sense]⟩, hcal.trans h2.cal⟩

/-- The offsets' registers written. -/
def State.offsetsWritten (s : State) (l : List (Nat × Int)) : State := l.foldl (fun (s : State) e => s.wrI (CAL.CVH_OFS e.1) e.2) s

theorem offsetsWritten_keeps (s : State) (l : List (Nat × Int)) : (∀ f : Fld, f.key < 0x1C * pageBits → (s.offsetsWritten l).rd f = s.rd f)
    ∧ (s.offsetsWritten l).sense = s.sense := by
  constructor
  · intro f hf
    refine foldl_keeps (fun t : State => t.rd f) (fun t e _ => State.rd_wr_ne _ _ _ _ ?_) s
    simp only [CAL.CVH_OFS, fld_key]
    omega
  · refine foldl_keeps State.sense ?_ s
    exact fun _ _ _ => rfl

/-- No offset waits any more. -/
def State.offsetsNone (s : State) : State := { s with sense.offsets := [] }

/-- What CAL saves has changed. -/
def State.offsetsShown (s : State) : State := { s.put CAL.ST_SAVE_PENDING true with cal.changed := true }

theorem takeOffsets_eq (s : State) : s.takeOffsets = if s.sense.offsets = [] then s
    else if s.offsetsNone.runs pCAL then (s.offsetsNone.offsetsWritten s.sense.offsets).offsetsShown else s.offsetsNone := rfl

theorem takeOffsets_keeps (s : State) : (∀ f : Fld, f.key < 0x1C * pageBits → s.takeOffsets.rd f = s.rd f)
    ∧ s.takeOffsets.sense = { s.sense with offsets := [] } := by
  rw [takeOffsets_eq]
  split
  · next h => exact ⟨fun _ _ => rfl, by rw [← h]⟩
  · split
    · obtain ⟨hregs, hsense⟩ := offsetsWritten_keeps s.offsetsNone s.sense.offsets
      generalize s.offsetsNone.offsetsWritten s.sense.offsets = u at *
      refine ⟨fun f hf => (State.rd_put_ne u CAL.ST_SAVE_PENDING f true ?_).trans (hregs f hf), hsense⟩
      simp only [CAL.ST_SAVE_PENDING, fld_key]
      omega
    · exact ⟨fun _ _ => rfl, rfl⟩

theorem takeOffsets_one {s : State} {g : Nat} {o : Int} (hg : g < 5) (hrun : s.runs pCAL = true) (h : s.sense.offsets = [(g, o)]) :
    s.takeOffsets.rd (CAL.CVH_OFS g) = ofSigned 16 o ∧ s.takeOffsets.cal.changed = true ∧ s.takeOffsets.on CAL.ST_SAVE_PENDING = true := by
  have hne : ∀ g < 5, (CAL.CVH_OFS g).key ≠ CAL.ST_SAVE_PENDING.key := by decide
  have hform : s.takeOffsets = (s.offsetsNone.wrI (CAL.CVH_OFS g) o).offsetsShown := by
    have hrun' : s.offsetsNone.runs pCAL = true := hrun
    rw [takeOffsets_eq, if_neg (by rw [h]; exact List.cons_ne_nil _ _), hrun', if_pos rfl, h]
    rfl
  rw [hform]
  generalize hu : s.offsetsNone.wrI (CAL.CVH_OFS g) o = u
  have hofs : u.rd (CAL.CVH_OFS g) = ofSigned 16 o := by
    rw [← hu]
    refine (State.rd_wr_self _ _ _).trans (Nat.mod_eq_of_lt ?_)
    show ofSigned 16 o < 2 ^ 16
    unfold ofSigned
    omega
  exact ⟨(State.rd_put_ne u CAL.ST_SAVE_PENDING _ true (hne g hg)).trans hofs, rfl, State.on_put_self u CAL.ST_SAVE_PENDING true (by decide)⟩

/-! ### The end of a period (R341, R350 to R354) -/

/-- The offset of a calibration round's period noted. -/
def State.offsetTaken (s : State) (k : Nat) : State := if s.shorted k then s.offsetOut k else s

/-- A slot's output delivered, and its blanking over. -/
def State.slotDone (s : State) (k : Nat) : State := State.blankOver (if s.on (FLT.EN k) && s.runs pFLT then s.slotOutput k else s) k

/-- The slot of VSPAD reaches the sections. -/
def State.periodRead (s u : State) (k : Nat) : State :=
  if s.vspadSlot = some k && !s.sense.calRound then
    match (s.slot k).codes with
    | c :: _ => u.vspadReading (openDiv (25 * c) 2)
    | [] => u
  else u

/-- The next slot's period may begin. -/
def State.nextSlot (s : State) (k : Nat) : State := { s with sense.inPeriod := false, sense.slot := (k + 1) % 16 }

theorem periodEnd_eq (s : State) : s.periodEnd =
    let k := s.sense.slot
    let u := (s.periodRead ((s.offsetTaken k).slotDone k) k).nextSlot k
    if k = 15 then u.roundEnd else u := rfl

theorem offsetTaken_eq (s : State) (k : Nat) : s.offsetTaken k = { s with sense.offsets := (s.offsetTaken k).sense.offsets } := by
  unfold State.offsetTaken State.offsetOut
  split
  · split <;> rfl
  · rfl

theorem offsetTaken_short {s : State} {k : Nat} {c : Int} (hcal : s.sense.calRound = true) (hk : k < 5) (hcodes : (s.slot k).codes = [c]) :
    (s.offsetTaken k).sense.offsets = s.sense.offsets ++ [(k, 16 * c)] := by
  have hshort : s.shorted k = true := by rw [State.shorted, hcal, decide_eq_true hk]; rfl
  rw [State.offsetTaken, if_pos hshort, State.offsetOut, hcodes]
  show s.sense.offsets ++ [(k, openDiv (16 * (c + 0)) 1)] = _
  rw [openDiv_one, add_zero]

theorem offsetTaken_not {s : State} {k : Nat} (h : s.sense.calRound = false ∨ ¬k < 5) : s.offsetTaken k = s := by
  have hshort : s.shorted k = false := by
    rcases h with h | h
    · rw [State.shorted, h]; rfl
    · rw [State.shorted, decide_eq_false h, Bool.and_false]
  rw [State.offsetTaken, hshort, if_neg Bool.false_ne_true]

theorem blankOver_out (keys : List Nat) (s : State) (k : Nat) : OutKeeps keys s (s.blankOver k) ∧ (s.blankOver k).sense.results = s.sense.results
    ∧ ((s.blankOver k).slot k).window = (s.slot k).window ∧ ((s.blankOver k).slot k).count = (s.slot k).count := by
  unfold State.blankOver
  split
  · exact ⟨(HkKeeps.refl _ s).out, rfl, rfl, rfl⟩
  · refine ⟨setSlot_out _ s k _, rfl, ?_, ?_⟩ <;> rw [slot_setSlot]

theorem slotDone_out (s : State) (k : Nat) : OutKeeps (outKeys k) s (s.slotDone k) := by
  have h : OutKeeps (outKeys k) s (if s.on (FLT.EN k) && s.runs pFLT then s.slotOutput k else s) := by
    split
    · exact slotOutput_out s k
    · exact (HkKeeps.refl _ s).out
  exact h.trans (blankOver_out _ _ k).1

theorem periodRead_hk (s u : State) (k : Nat) : HkKeeps vspadTakenKeys u (s.periodRead u k) := by
  unfold State.periodRead
  split
  · split
    · exact vspadReading_hk u _
    · exact HkKeeps.refl _ u
  · exact HkKeeps.refl _ u

/-- A period ends: the next slot's may begin. -/
theorem periodEnd_slot (s : State) : s.periodEnd.sense.inPeriod = false ∧ s.periodEnd.sense.slot = (s.sense.slot + 1) % 16 := by
  rw [periodEnd_eq]
  dsimp only
  generalize s.sense.slot = k
  generalize s.periodRead ((s.offsetTaken k).slotDone k) k = u
  split
  · rw [roundEnd_eq]
    have hsense := (takeOffsets_keeps (u.nextSlot k)).2
    generalize (u.nextSlot k).takeOffsets = v at *
    obtain ⟨-, ⟨_, _, _, hclosed⟩, -⟩ := roundClosed_keeps v
    rw [hclosed, hsense]
    exact ⟨rfl, rfl⟩
  · exact ⟨rfl, rfl⟩

/-- The end of a period after the slot's output leaves FLT's registers, the slots and the results. -/
theorem periodEnd_flt (s : State) :
    let u := (s.offsetTaken s.sense.slot).slotDone s.sense.slot
    (∀ f : Fld, 0x11 * pageBits ≤ f.key → f.key < 0x12 * pageBits → s.periodEnd.rd f = u.rd f)
      ∧ s.periodEnd.sense.slots = u.sense.slots ∧ s.periodEnd.sense.results = u.sense.results := by
  have hvspad : ∀ x ∈ vspadTakenKeys, x < 0x11 * pageBits ∨ 0x12 * pageBits ≤ x := by decide
  have hclosed : ∀ x ∈ closedKeys, x < 0x11 * pageBits ∨ 0x12 * pageBits ≤ x := by decide
  have hout {keys : List Nat} (hkeys : ∀ x ∈ keys, x < 0x11 * pageBits ∨ 0x12 * pageBits ≤ x) {f : Fld} (hlo : 0x11 * pageBits ≤ f.key)
      (hhi : f.key < 0x12 * pageBits) : f.key ∉ keys := fun hf => by
    rcases hkeys _ hf with h | h <;> omega
  rw [periodEnd_eq]
  dsimp only
  generalize s.sense.slot = k
  generalize (s.offsetTaken k).slotDone k = u
  have hread := periodRead_hk s u k
  generalize s.periodRead u k = v at *
  split
  · rw [roundEnd_eq]
    obtain ⟨htake, hsense⟩ := takeOffsets_keeps (v.nextSlot k)
    generalize (v.nextSlot k).takeOffsets = w at *
    obtain ⟨hregs, ⟨_, _, _, hend⟩, -⟩ := roundClosed_keeps w
    refine ⟨fun f hlo hhi => ?_, ?_, ?_⟩
    · exact (hregs f (hout hclosed hlo hhi)).trans ((htake f (hhi.trans (by decide))).trans (hread.regs f (hout hvspad hlo hhi)))
    · rw [hend, hsense]
      exact (congrArg SenseState.slots hread.sense :)
    · rw [hend, hsense]
      exact (congrArg SenseState.results hread.sense :)
  · exact ⟨fun f hlo hhi => hread.regs f (hout hvspad hlo hhi), (congrArg SenseState.slots hread.sense :), (congrArg SenseState.results hread.sense :)⟩

/-- A period of a calibration round notes its offset. -/
theorem periodEnd_offsets {s : State} {c : Int} (hcal : s.sense.calRound = true) (hk : s.sense.slot < 5) (hcodes : (s.slot s.sense.slot).codes = [c]) :
    s.periodEnd.sense.offsets = s.sense.offsets ++ [(s.sense.slot, 16 * c)] := by
  rw [periodEnd_eq]
  dsimp only
  have hoff := offsetTaken_short hcal hk hcodes
  generalize s.sense.slot = k at *
  rw [if_neg (by omega)]
  generalize s.offsetTaken k = v at *
  have hout := slotDone_out v k
  generalize v.slotDone k = u at *
  have hread := periodRead_hk s u k
  generalize s.periodRead u k = w at *
  show w.sense.offsets = _
  rw [hread.sense, hout.sense, ← hoff]

/-- The offsets of a calibration round come into force with its end. -/
theorem periodEnd_takes {s : State} {g : Nat} {o : Int} (hg : g < 5) (hk : s.sense.slot = 15) (hrun : s.runs pCAL = true)
    (h : s.sense.offsets = [(g, o)]) : s.periodEnd.rd (CAL.CVH_OFS g) = ofSigned 16 o ∧ s.periodEnd.sense.offsets = []
      ∧ s.periodEnd.cal.changed = true ∧ s.periodEnd.on CAL.ST_SAVE_PENDING = true := by
  have hfar : (∀ g < 5, (CAL.CVH_OFS g).key ∉ closedKeys) ∧ CAL.ST_SAVE_PENDING.key ∉ closedKeys := by decide
  have hdom : (PWR.DOM_ON (domainOf pCAL)).key ∉ outKeys 15 ∧ (PWR.DOM_ON (domainOf pCAL)).key ∉ vspadTakenKeys := by decide +kernel
  rw [periodEnd_eq]
  dsimp only
  rw [hk, if_pos rfl, offsetTaken_not (.inr (by decide)), roundEnd_eq]
  have hout := slotDone_out s 15
  generalize s.slotDone 15 = u at *
  have hread := periodRead_hk s u 15
  generalize s.periodRead u 15 = v at *
  have hruns : (v.nextSlot 15).runs pCAL = true := (hread.runs hdom.2).trans ((hout.runs hdom.1).trans hrun)
  have hoffs : (v.nextSlot 15).sense.offsets = [(g, o)] := by
    show v.sense.offsets = _
    rw [hread.sense, hout.sense]
    exact h
  obtain ⟨hofs, hchanged, hpending⟩ := takeOffsets_one hg hruns hoffs
  have hsense := (takeOffsets_keeps (v.nextSlot 15)).2
  generalize (v.nextSlot 15).takeOffsets = w at *
  obtain ⟨hregs, ⟨_, _, _, hend⟩, hcal⟩ := roundClosed_keeps w
  refine ⟨(hregs _ (hfar.1 g hg)).trans hofs, ?_, ?_, (congrArg (· != 0) (hregs _ hfar.2)).trans hpending⟩
  · rw [hend, hsense]
  · rw [hcal, hchanged]

/-! ### The output of a slot without a reference (R350 to R352, R354) -/

theorem drew_zero (s : State) : s.drew 0 = s := rfl

/-- The output of a slot on an input that no reference resistor serves, outside a calibration round. -/
structure PlainOut (s : State) (k v : Nat) (f : OutFlags) (x : Slot) : Prop where
  over_ : (s.slot k).ovr = true → v = s.rd (FLT.VALUE k) ∧ f.ovr = true ∧ f.unsettled = true ∧ x.window = [] ∧ x.count = some 1
  clean : ∀ c, (s.slot k).ovr = false → (s.slot k).open_ = false → (s.slot k).blank = false → s.sense.clamped = [] → (s.slot k).count = none →
    (s.slot k).codes = [c] → s.rd (FLT.OUTFMT k) = 0 → 1 ≤ s.rd (FLT.LEN k) →
      v = ofSigned 16 (nearestAway ((c :: (s.slot k).window).take (s.rd (FLT.LEN k))).sum ((c :: (s.slot k).window).take (s.rd (FLT.LEN k))).length)
        ∧ f.unsettled = false ∧ f.ovr = false ∧ x.window = (c :: (s.slot k).window).take (s.rd (FLT.LEN k))

theorem format_plain {s : State} {k : Nat} (hthermo : s.isThermo k = false) (mean : Int) : (s.format k mean).2 = 0
    ∧ (s.rd (FLT.OUTFMT k) = 0 → (s.format k mean).1 = some (ofSigned 16 mean)) := by
  unfold State.format
  rw [hthermo, Bool.not_false, if_pos rfl]
  split
  · exact ⟨rfl, fun _ => rfl⟩
  · next h =>
    refine ⟨?_, fun e => absurd e h⟩
    split <;> rfl

theorem meanOut_plain {s : State} {k : Nat} (hthermo : s.isThermo k = false) {value : Option Nat × Nat} (hd : value.2 = 0) :
    ∃ (u : State) (v : Nat) (f : OutFlags) (x : Slot), s.meanOut k value = u.deliverOut k v f ∧ u.sense = (s.setSlot k x).sense ∧ u.rd (FLT.SEQ k) = s.rd (FLT.SEQ k)
      ∧ ∀ w, value.1 = some w → v = w ∧ f = ⟨decide (s.outNumber k ≤ s.rd (FLT.LEN k) + 2), false, false, false, false⟩
        ∧ x.window = s.outWindow k := by
  obtain ⟨value, d⟩ := value
  subst hd
  cases value with
  | some v => exact ⟨_, v, _, _, drew_zero _, rfl, rfl, fun w e => ⟨Option.some.inj e, rfl, rfl⟩⟩
  | none =>
    have hne : (FLT.SEQ k).key ≠ FLT.INT_FMT_BAD.key := by
      simp only [FLT.SEQ, FLT.INT_FMT_BAD, fld_key]
      omega
    unfold State.meanOut
    dsimp only
    rw [hthermo, if_neg Bool.false_ne_true]
    exact ⟨_, _, _, _, rfl, rfl, State.rd_put_ne _ _ _ _ hne, fun w e => absurd e (by simp)⟩

theorem slotOutput_plain {s : State} {k : Nat} (hcal : s.sense.calRound = false) (hin : s.rd (FLT.INPUT k) < 12) :
    ∃ (u : State) (v : Nat) (f : OutFlags) (x : Slot), s.slotOutput k = u.deliverOut k v f ∧ u.sense = (s.setSlot k x).sense ∧ u.rd (FLT.SEQ k) = s.rd (FLT.SEQ k) ∧ PlainOut s k v f x := by
  have hthermo : s.isThermo k = false := decide_eq_false (by omega)
  have hshort : s.shorted k = false := by rw [State.shorted, hcal]; rfl
  have hclamp : s.sense.clamped = [] → (s.pinsOf k).any s.sense.clamped.contains = false := fun e => by simp [e]
  unfold State.slotOutput
  dsimp only
  rw [hshort, hthermo, hcal]
  simp only [Bool.false_and, Bool.or_false, Bool.false_eq_true, if_false]
  generalize hany : (s.pinsOf k).any s.sense.clamped.contains = pinned at *
  by_cases hbad : ((s.slot k).open_ || ((s.slot k).ovr || pinned)) = true
  · rw [if_pos hbad]
    refine ⟨_, _, _, _, rfl, rfl, rfl, ⟨fun e => ⟨rfl, by simp [e], rfl, rfl, rfl⟩, fun c e1 e2 e3 e4 e5 e6 e7 e8 => ?_⟩⟩
    rw [e1, e2, hclamp e4] at hbad
    exact absurd hbad (by decide)
  · rw [if_neg hbad]
    have hgood : (s.slot k).ovr = true → False := fun e => hbad (by simp [e])
    by_cases hblank : (s.slot k).blank = true
    · rw [if_pos hblank]
      exact ⟨_, _, _, _, rfl, rfl, rfl, ⟨fun e => (hgood e).elim, fun c _ _ e3 => absurd (hblank.symm.trans e3) (by decide)⟩⟩
    · rw [if_neg hblank, validOut_eq]
      by_cases hfirst : s.outNumber k ≤ 2
      · rw [if_pos hfirst]
        refine ⟨_, _, _, _, rfl, rfl, rfl, ⟨fun e => (hgood e).elim, fun c _ _ _ _ e5 _ _ e8 => ?_⟩⟩
        rw [State.outNumber, e5] at hfirst
        dsimp only at hfirst
        omega
      · rw [if_neg hfirst]
        obtain ⟨hdrawn, hvalue⟩ := format_plain hthermo (nearestAway (s.outWindow k).sum ((s.outWindow k).length : Nat))
        obtain ⟨u, v, f, x, hform, hsense, hseq, hshows⟩ := meanOut_plain hthermo hdrawn
        refine ⟨u, v, f, x, hform, hsense, hseq, ⟨fun e => (hgood e).elim, fun c _ _ _ _ e5 e6 e7 e8 => ?_⟩⟩
        obtain ⟨hv, hf, hx⟩ := hshows _ (hvalue e7)
        have hwindow : s.outWindow k = (c :: (s.slot k).window).take (s.rd (FLT.LEN k)) := by
          rw [State.outWindow, e6, State.working, hthermo]
          rfl
        have hnumber : s.outNumber k = s.rd (FLT.LEN k) + 3 := by rw [State.outNumber, e5]
        rw [hv, hf, hx, hwindow, hnumber]
        exact ⟨rfl, decide_eq_false (by omega), rfl, rfl⟩

theorem rdI_wr16 (v : Nat) : toSigned 16 (v % 2 ^ 16) = toSigned 16 v := by
  unfold toSigned
  rw [Nat.mod_mod]

/-- What the end of such a slot's period leaves. -/
theorem periodEnd_plain {s : State} (hk : s.sense.slot < 16) (hen : s.on (FLT.EN s.sense.slot) = true) (hflt : s.runs pFLT = true)
    (hcal : s.sense.calRound = false) (hin : s.rd (FLT.INPUT s.sense.slot) < 12) :
    ∃ v f x, PlainOut s s.sense.slot v f x ∧ s.periodEnd.rd (FLT.SEQ s.sense.slot) = (s.rd (FLT.SEQ s.sense.slot) + 1) % 2 ^ 8
      ∧ s.periodEnd.rd (FLT.VALUE s.sense.slot) = v % 2 ^ 16 ∧ s.periodEnd.on (FLT.UNSETTLED s.sense.slot) = f.unsettled
      ∧ s.periodEnd.on (FLT.OVR s.sense.slot) = f.ovr ∧ (f.ovr = true → s.periodEnd.on FLT.INT_OVR = true)
      ∧ (s.periodEnd.slot s.sense.slot).window = x.window ∧ (s.periodEnd.slot s.sense.slot).count = x.count
      ∧ s.periodEnd.sense.results.getLast? = some ⟨s.sense.slot, toSigned 16 v, f.open_, f.ovr, f.unsettled, f.blank, f.stale,
        (s.rd (FLT.SEQ s.sense.slot) + 1) % 2 ^ 8⟩ := by
  have hpage : ∀ k < 16, ∀ g ∈ [FLT.SEQ k, FLT.VALUE k, FLT.UNSETTLED k, FLT.OVR k, FLT.INT_OVR], 0x11 * pageBits ≤ g.key ∧ g.key < 0x12 * pageBits := by
    decide
  have hend := periodEnd_flt s
  rw [offsetTaken_not (.inl hcal)] at hend
  obtain ⟨hregs, hslots, hresults⟩ := hend
  generalize s.periodEnd = t at *
  generalize s.sense.slot = k at *
  have hdone : s.slotDone k = (s.slotOutput k).blankOver k := by rw [State.slotDone, hen, hflt]; rfl
  obtain ⟨u, v, f, x, hform, hsense, hseq, hplain⟩ := slotOutput_plain hcal hin
  rw [hdone, hform] at hregs hslots hresults
  obtain ⟨hvalue, hunsettled, hovr, hnext, hint⟩ := deliverOut_shows u hk v f
  obtain ⟨-, houtSlots, hlast⟩ := deliverOut_out u k v f
  rw [hseq] at hnext hlast
  generalize u.deliverOut k v f = w at *
  obtain ⟨hblank, hres, hwin, hcount⟩ := blankOver_out [] w k
  have hrd (g : Fld) (hg : g ∈ [FLT.SEQ k, FLT.VALUE k, FLT.UNSETTLED k, FLT.OVR k, FLT.INT_OVR]) : t.rd g = w.rd g :=
    (hregs g (hpage k hk g hg).1 (hpage k hk g hg).2).trans (hblank.regs g List.not_mem_nil)
  have hslot : w.slot k = x := (slot_of_sense (houtSlots.trans (congrArg SenseState.slots hsense)) k).trans (slot_setSlot s k x)
  refine ⟨v, f, x, hplain, (hrd _ (by simp)).trans hnext, (hrd _ (by simp)).trans hvalue, (congrArg (· != 0) (hrd _ (by simp))).trans hunsettled,
    (congrArg (· != 0) (hrd _ (by simp))).trans hovr, fun e => (congrArg (· != 0) (hrd _ (by simp))).trans (hint e), ?_, ?_, ?_⟩
  · rw [slot_of_sense hslots, hwin, hslot]
  · rw [slot_of_sense hslots, hcount, hslot]
  · rw [hresults, hres, hlast]

end Sys2Proof.Machine
end

section
/-! PROOFS. Housekeeping rounds, fourth part: the beginning of rounds and periods, conversions, and the statement (R339 to R349, R353 to R357). -/
namespace Sys2Proof.Machine
open Sys2Proof

/-! ### Written values that come into force (R46) -/

theorem applyLiveOf_hk {keys : List Nat} (s : State) {l : List Fld} (h : ∀ f ∈ l, f.key ∈ keys) : HkKeeps keys s (s.applyLiveOf l) :=
  ⟨fun _ hf => copyFlds_ne _ _ _ _ fun _ hg e => hf (e ▸ h _ (List.mem_of_mem_filter hg)), rfl, rfl, rfl, rfl⟩

/-- A listed field then holds its written value. -/
theorem applyLiveOf_shows (s : State) {l : List Fld} (hl : (l.map (·.key)).Nodup) {f : Fld} (hf : f ∈ l) :
    (s.applyLiveOf l).rd f % 2 ^ f.width = s.rdS f % 2 ^ f.width := by
  have hmem (g : Fld) (hg : g ∈ l) (hkey : f.key = g.key) : f = g := List.inj_on_of_nodup_map hl hf hg hkey
  have hrd : (s.applyLiveOf l).rd f = (copyFlds s.regs.shadow s.regs.cur (l.filter fun f => s.rdS f != s.rd f)).rd f := rfl
  rw [hrd]
  by_cases hsame : s.rdS f = s.rd f
  · rw [copyFlds_ne _ _ _ _ fun g hg e => ?_]
    · exact congrArg (· % 2 ^ f.width) hsame.symm
    · obtain ⟨hgl, hgne⟩ := List.mem_filter.mp hg
      rw [← hmem g hgl e] at hgne
      exact absurd hsame (by simpa using hgne)
  · rw [copyFlds_mem _ _ _ f (List.mem_filter.mpr ⟨hf, by simpa using hsame⟩) (hl.sublist (List.Sublist.map _ List.filter_sublist)), Nat.mod_mod]
    rfl

/-! ### A period begins (R341, R345, R353) -/

/-- The slot with its period's change of the filter. -/
def State.slotFiltered (s : State) (k : Nat) : Slot :=
  let s1 := s.applyLiveOf (AFE.XREF_RES :: slotFields k)
  if (s1.isThermo k && (s.slot k).xref != s1.rd AFE.XREF_RES) || s.restarts k then { count := some 0 } else s.slot k

/-- The slot as its period begins. -/
def State.slotBegun (s : State) (k : Nat) : Slot :=
  let s1 := s.applyLiveOf (AFE.XREF_RES :: slotFields k)
  { s.slotFiltered k with
    blank := (s.slot k).blank || s.blanks k, xref := if s1.isThermo k then s1.rd AFE.XREF_RES else (s.slot k).xref,
    codes := [], open_ := false, ovr := false }

/-- The sources steered, the period begun. -/
def State.slotSteered (s : State) (a b : Bool) : State :=
  { (s.put AFE.ST_SRC_A_ON a).put AFE.ST_SRC_B_ON b with sense.inPeriod := true, sense.clamped := [] }

theorem slotStart_eq (s : State) (k : Nat) : s.slotStart k =
    let s1 := s.applyLiveOf (AFE.XREF_RES :: slotFields k)
    let thermo := s1.on (FLT.EN k) && s1.isThermo k && s1.runs pAFE
    (s1.setSlot k (s.slotBegun k)).slotSteered (thermo && s1.rd (AFE.WIRES k) != 0) (thermo && s1.rd (AFE.WIRES k) = 2) := rfl

theorem slotSteered_keeps (s : State) (a b : Bool) : KeepsRegs [AFE.ST_SRC_A_ON.key, AFE.ST_SRC_B_ON.key] s (s.slotSteered a b) :=
  ((KeepsRegs.refl _ s).put AFE.ST_SRC_A_ON a (by decide)).put AFE.ST_SRC_B_ON b (by decide)

/-- The registers that a slot's beginning may change. -/
def slotKeys (k : Nat) : List Nat := (AFE.XREF_RES :: slotFields k).map (·.key) ++ [AFE.ST_SRC_A_ON.key, AFE.ST_SRC_B_ON.key]

theorem slotStart_keeps (s : State) (k : Nat) : KeepsRegs (slotKeys k) s (s.slotStart k)
    ∧ (∃ slots, (s.slotStart k).sense = { s.sense with slots := slots, inPeriod := true, clamped := [] })
    ∧ (s.slotStart k).slot k = s.slotBegun k
    ∧ (∀ f : Fld, f.key ≠ AFE.ST_SRC_A_ON.key → f.key ≠ AFE.ST_SRC_B_ON.key →
      (s.slotStart k).rd f = (s.applyLiveOf (AFE.XREF_RES :: slotFields k)).rd f) := by
  rw [slotStart_eq]
  have hlive : HkKeeps ((AFE.XREF_RES :: slotFields k).map (·.key)) s (s.applyLiveOf (AFE.XREF_RES :: slotFields k)) :=
    applyLiveOf_hk s fun f hf => List.mem_map_of_mem hf
  generalize s.slotBegun k = x
  generalize s.applyLiveOf (AFE.XREF_RES :: slotFields k) = u at *
  dsimp only
  generalize (u.on (FLT.EN k) && u.isThermo k && u.runs pAFE) = thermo
  generalize (thermo && u.rd (AFE.WIRES k) != 0) = a
  generalize (thermo && decide (u.rd (AFE.WIRES k) = 2)) = b
  have hsteer := slotSteered_keeps (u.setSlot k x) a b
  refine ⟨?_, ⟨Tab.set {} u.sense.slots k x, ?_⟩, slot_setSlot u k x, fun f hA hB => hsteer f (by simp [hA, hB])⟩
  · exact (hlive.regs.mono fun _ => List.mem_append_left _).trans
      (KeepsRegs.mono (l := [AFE.ST_SRC_A_ON.key, AFE.ST_SRC_B_ON.key]) hsteer fun _ => List.mem_append_right _)
  · rw [← hlive.sense]
    rfl

theorem slotFields_apart : ∀ k < 16, ((AFE.XREF_RES :: slotFields k).map (·.key)).Nodup ∧ ∀ f ∈ AFE.XREF_RES :: slotFields k,
    f.key ≠ AFE.ST_SRC_A_ON.key ∧ f.key ≠ AFE.ST_SRC_B_ON.key := by decide +kernel

theorem awaits_iff (s : State) (f : Fld) : s.awaits f = true ↔ s.rdS f ≠ s.rd f := by
  rw [State.awaits, bne_iff_ne]

theorem blanks_iff (s : State) (k : Nat) : s.blanks k = true ↔
    ∃ f ∈ [AFE.WIRES k, AFE.PIN_P k, AFE.PIN_Q k, AFE.PIN_S k, AFE.IEXC k], s.rdS f ≠ s.rd f := by
  rw [State.blanks, List.any_eq_true]
  exact exists_congr fun f => and_congr_right fun _ => awaits_iff s f

theorem restarts_iff (s : State) (k : Nat) : s.restarts k = true ↔ (s.rdS (FLT.EN k) = 1 ∧ s.rd (FLT.EN k) = 0)
    ∨ ∃ f ∈ [FLT.INPUT k, FLT.DIFF k, FLT.LEN k, AFE.GAIN k] ++ [AFE.WIRES k, AFE.PIN_P k, AFE.PIN_Q k, AFE.PIN_S k, AFE.IEXC k], s.rdS f ≠ s.rd f := by
  rw [State.restarts, Bool.or_eq_true, Bool.and_eq_true, decide_eq_true_eq, decide_eq_true_eq, List.any_eq_true]
  exact or_congr_right (exists_congr fun f => and_congr_right fun _ => awaits_iff s f)

/-- What a slot's beginning shows of the slot. -/
theorem slotStart_shows (s : State) {k : Nat} (hk : k < 16) :
    let t := s.slotStart k
    let restart := s.restarts k = true ∨ (t.rd (FLT.INPUT k) = 12 ∧ (s.slot k).xref ≠ t.rd AFE.XREF_RES)
    (∀ f ∈ AFE.XREF_RES :: slotFields k, t.rd f % 2 ^ f.width = s.rdS f % 2 ^ f.width)
      ∧ (restart → (t.slot k).count = some 0 ∧ (t.slot k).window = [])
      ∧ (¬restart → (t.slot k).count = (s.slot k).count ∧ (t.slot k).window = (s.slot k).window)
      ∧ (t.slot k).blank = ((s.slot k).blank || s.blanks k) := by
  intro t restart
  obtain ⟨hnodup, hapart⟩ := slotFields_apart k hk
  obtain ⟨-, -, hslot, hrd⟩ := slotStart_keeps s k
  have hfield (f : Fld) (hf : f ∈ AFE.XREF_RES :: slotFields k) : t.rd f = (s.applyLiveOf (AFE.XREF_RES :: slotFields k)).rd f :=
    hrd f (hapart f hf).1 (hapart f hf).2
  have hcond : ((s.applyLiveOf (AFE.XREF_RES :: slotFields k)).isThermo k
      && (s.slot k).xref != (s.applyLiveOf (AFE.XREF_RES :: slotFields k)).rd AFE.XREF_RES || s.restarts k) = true ↔ restart := by
    rw [Bool.or_eq_true, Bool.and_eq_true, State.isThermo, decide_eq_true_eq, bne_iff_ne, ← hfield (FLT.INPUT k) (by simp [slotFields]),
      ← hfield AFE.XREF_RES List.mem_cons_self, or_comm]
  refine ⟨fun f hf => (congrArg (· % 2 ^ f.width) (hfield f hf)).trans (applyLiveOf_shows s hnodup hf), fun h => ?_, fun h => ?_, ?_⟩
  · have hfilter : s.slotFiltered k = { count := some 0 } := if_pos (hcond.mpr h)
    rw [hslot, State.slotBegun, hfilter]
    exact ⟨rfl, rfl⟩
  · have hfilter : s.slotFiltered k = s.slot k := if_neg (fun e => h (hcond.mp e))
    rw [hslot, State.slotBegun, hfilter]
    exact ⟨rfl, rfl⟩
  · rw [hslot]
    rfl

/-! ### A round begins (R339, R379, R388) -/

/-- The round's words in force. -/
def State.roundApplied (s : State) : State := (s.applyLive pCONVH).applyLiveOf [FLT.PT_A, FLT.PT_B]

/-- THM's request as it stands at the boundary. -/
def State.fastShown (s : State) : State := if s.runs pTHM then s.showFast else s

/-- The kind and the slot period of a round. -/
def State.roundSet (s : State) (fast : Bool) : State :=
  { s.put CONVH.ST_FAST fast with
    sense.fast := fast
    sense.period := if fast then min (s.rd CONVH.FAST_PER) (s.rd CONVH.SLOT_PER) else s.rd CONVH.SLOT_PER
    sense.calRound := s.sense.calAsked && !fast, sense.calAsked := s.sense.calAsked && fast }

/-- THM's sensors at a round's beginning. -/
def State.sensorsTaken (s : State) (sensors : List (BitVec 16)) : State :=
  if s.runs pTHM then (s.readSensors sensors).requestFast else s

theorem roundStart_eq (s : State) (sensors : List (BitVec 16)) : s.roundStart sensors =
    (s.roundApplied.fastShown.roundSet (s.roundApplied.fastShown.runs pTHM && s.roundApplied.fastShown.on THM.ST_FAST)).sensorsTaken sensors := rfl

/-- The registers of a round's beginning. -/
def roundKeys : List Nat := (fieldsOf pCONVH .rwl ++ [FLT.PT_A, FLT.PT_B]).map (·.key) ++ CONVH.ST_FAST.key :: sensorKeys

theorem roundStart_shows (s : State) {sensors : List (BitVec 16)} (hlen : sensors.length = 24) : KeepsRegs roundKeys s (s.roundStart sensors)
    ∧ (s.roundStart sensors).regs.shadow = s.regs.shadow
    ∧ ∃ fast, (s.roundStart sensors).on CONVH.ST_FAST = fast
      ∧ (s.roundStart sensors).sense = { s.sense with
        fast := fast, calRound := s.sense.calAsked && !fast, calAsked := s.sense.calAsked && fast
        period := if fast then min ((s.roundStart sensors).rd CONVH.FAST_PER) ((s.roundStart sensors).rd CONVH.SLOT_PER)
          else (s.roundStart sensors).rd CONVH.SLOT_PER } := by
  have hlive : ∀ f ∈ fieldsOf pCONVH .rwl ++ [FLT.PT_A, FLT.PT_B], f.key ∈ roundKeys := fun f hf =>
    List.mem_append_left _ (List.mem_map_of_mem hf)
  have hsensor : ∀ k ∈ sensorKeys, k ∈ roundKeys := fun k hk => List.mem_append_right _ (List.mem_cons_of_mem _ hk)
  have hfastKeys : ∀ k ∈ [THM.INT_FAST.key, THM.ST_FAST.key], k ∈ sensorKeys := by decide
  have hfar : CONVH.ST_FAST.key ∉ sensorKeys ∧ CONVH.FAST_PER.key ∉ sensorKeys ∧ CONVH.SLOT_PER.key ∉ sensorKeys
      ∧ CONVH.FAST_PER.key ≠ CONVH.ST_FAST.key ∧ CONVH.SLOT_PER.key ≠ CONVH.ST_FAST.key := by decide
  obtain ⟨hfarF, hfarP, hfarS, hneP, hneS⟩ := hfar
  rw [roundStart_eq]
  have h1 : HkKeeps roundKeys s s.roundApplied := (applyLiveOf_hk s fun f hf => hlive f (List.mem_append_left _ hf)).trans
    (applyLiveOf_hk _ fun f hf => hlive f (List.mem_append_right _ hf))
  generalize s.roundApplied = u at *
  have h2 : HkKeeps roundKeys u u.fastShown := by
    unfold State.fastShown
    split
    · exact (showFast_hk u).mono fun k hk => hsensor k (hfastKeys k hk)
    · exact HkKeeps.refl _ u
  generalize u.fastShown = v at *
  generalize (v.runs pTHM && v.on THM.ST_FAST) = fast
  have hset : KeepsRegs roundKeys v (v.roundSet fast) := (KeepsRegs.refl _ v).put CONVH.ST_FAST fast (List.mem_append_right _ List.mem_cons_self)
  have hsetSense : (v.roundSet fast).sense = { v.sense with
        fast := fast, calRound := v.sense.calAsked && !fast, calAsked := v.sense.calAsked && fast
        period := if fast then min (v.rd CONVH.FAST_PER) (v.rd CONVH.SLOT_PER) else v.rd CONVH.SLOT_PER } := rfl
  have hfast : (v.roundSet fast).on CONVH.ST_FAST = fast := State.on_put_self v CONVH.ST_FAST fast (by decide)
  have hper : (v.roundSet fast).rd CONVH.FAST_PER = v.rd CONVH.FAST_PER := State.rd_put_ne v CONVH.ST_FAST CONVH.FAST_PER fast hneP
  have hslot : (v.roundSet fast).rd CONVH.SLOT_PER = v.rd CONVH.SLOT_PER := State.rd_put_ne v CONVH.ST_FAST CONVH.SLOT_PER fast hneS
  have hshadow : (v.roundSet fast).regs.shadow = v.regs.shadow := rfl
  generalize v.roundSet fast = w at *
  have h3 : HkKeeps sensorKeys w (w.sensorsTaken sensors) := by
    unfold State.sensorsTaken
    split
    · exact (readSensors_hk w hlen).trans ((requestFast_hk _).mono hfastKeys)
    · exact HkKeeps.refl _ w
  refine ⟨((h1.trans h2).regs.trans hset).trans (h3.mono hsensor).regs, h3.shadow.trans (hshadow.trans (h2.shadow.trans h1.shadow)), fast,
    (congrArg (· != 0) (h3.regs _ hfarF)).trans hfast, ?_⟩
  rw [h3.sense, hsetSense, h3.regs _ hfarP, h3.regs _ hfarS, hper, hslot, h2.sense, h1.sense]

/-! ### START and STOP (R340) -/

theorem writeRow_sense {r : Row} (h : r.acc = .rwl) (s : State) (p off v : Nat) : (s.writeRow p off v r).sense = s.sense := by
  refine foldl_keeps State.sense (fun t j _ => ?_) s
  unfold State.writeField
  rw [h]
  dsimp only
  split <;> rfl

def convhSingleRow : Row := ⟨541, 1, 0, 1, .rwl, fun _ => 0, fun _ => true⟩
def slotPerRow : Row := ⟨512, 1, 0, 11, .rwl, fun _ => 1250, fun v => 25 ≤ v && v ≤ 1250⟩

theorem rowsOf_start : (rowsOf pCONVH).filter (Row.live 0x40) = [convhSingleRow, slotPerRow] := rfl

/-- The fields of the word of START and STOP written. -/
def State.startWritten (s : State) (v : Nat) : State := s.writeFields pCONVH 0x40 v

theorem startWritten_keeps (s : State) (v : Nat) : KeepsRegs [(C.ERR_VALUE pCONVH).key, (C.ERR_BUSY pCONVH).key] s (s.startWritten v)
    ∧ (s.startWritten v).sense = s.sense := by
  have hrow (r : Row) (hr : r ∈ [convhSingleRow, slotPerRow]) : r.acc = .rwl := by
    simp only [List.mem_cons, List.not_mem_nil, or_false] at hr
    rcases hr with rfl | rfl <;> rfl
  rw [State.startWritten, writeFields_live, rowsOf_start]
  exact ⟨KeepsRegs.foldl (fun t r hr => (writeRow_staged (.inr (.inl (hrow r hr))) t _ _ _).1) s,
    foldl_keeps State.sense (fun t r hr => writeRow_sense (hrow r hr) t _ _ _) s⟩

theorem exec_convhControl {s : State} (path : Path) (value : Word) (hrun : s.runs pCONVH = true) :
    Host.Outcome.next (s.wordCommand path pCONVH 0x40 value) = (.next ((s.startWritten value.toNat).convhControl value.toNat).written :
      Host.Outcome State Fault Refusal) := by
  have hword : s.writeWord path pCONVH 0x40 value.toNat = (s.startWritten value.toNat).convhControl value.toNat := by
    simp [State.writeWord, defined, hrun]
    rfl
  rw [wordCommand_written value (by decide) (by decide) (by decide) (fun h => absurd h.2 (by decide)), hword]

/-- The rounds begun. -/
def State.roundsBegun (s : State) : State := { s.put CONVH.ST_RUNNING true with
  sense.slot := 0, sense.inPeriod := false, sense.stopAsked := false }

theorem written_sense (s : State) : s.written.sense = s.sense := by
  unfold State.written State.eventsQuiet
  split <;> rfl

theorem start_shows {s : State} (path : Path) {value : Word} (hrun : s.runs pCONVH = true) (hoff : s.on CONVH.ST_RUNNING = false)
    (hbit : value.getLsbD 31 = true) : ∃ t, exec (.start path value) s = .next t ∧ t.on CONVH.ST_RUNNING = true
      ∧ t.sense = { s.sense with slot := 0, inPeriod := false, stopAsked := false } := by
  refine ⟨_, exec_convhControl path value hrun, ?_⟩
  obtain ⟨hregs, hsense⟩ := startWritten_keeps s value.toNat
  generalize s.startWritten value.toNat = u at *
  have hstopped : u.on CONVH.ST_RUNNING = false := (congrArg (· != 0) (hregs _ (by decide))).trans hoff
  have hform : u.convhControl value.toNat = u.roundsBegun := by
    unfold State.convhControl
    rw [hstopped, bit_toNat, hbit]
    dsimp only
    rw [if_pos (by simp)]
    rfl
  rw [hform, written_sense, written_on]
  exact ⟨State.on_put_self u CONVH.ST_RUNNING true (by decide), by rw [← hsense]; rfl⟩

theorem operating_of_keeps {keys : List Nat} {s t : State} (h : KeepsRegs keys s t) (hk : SAF.STATE.key ∉ keys) : t.operating = s.operating :=
  operating_of_rd (h _ hk)

theorem stop_shows {s : State} (path : Path) {value : Word} (hrun : s.runs pCONVH = true) (hon : s.on CONVH.ST_RUNNING = true)
    (hbit : value.getLsbD 30 = true) :
    (s.operating = true → ∃ t, exec (.stop path value) s = .next t ∧ t.on (C.ERR_STATE pCONVH) = true ∧ t.sense = s.sense)
      ∧ (s.operating = false → ∃ t, exec (.stop path value) s = .next t ∧ t.sense = { s.sense with stopAsked := true }
        ∧ t.on CONVH.ST_RUNNING = true) := by
  obtain ⟨hregs, hsense⟩ := startWritten_keeps s value.toNat
  have hexec : exec (.stop path value) s = .next ((s.startWritten value.toNat).convhControl value.toNat).written := exec_convhControl path value hrun
  generalize s.startWritten value.toNat = u at *
  have hrunning : u.on CONVH.ST_RUNNING = true := (congrArg (· != 0) (hregs _ (by decide))).trans hon
  have hoper : u.operating = s.operating := operating_of_keeps hregs (by decide)
  have hform : u.convhControl value.toNat = if u.operating then u.err (C.ERR_STATE pCONVH) else { u with sense.stopAsked := true } := by
    unfold State.convhControl
    rw [hrunning, bit_toNat, bit_toNat, hbit]
    dsimp only
    rw [Bool.not_true, Bool.and_false, if_neg Bool.false_ne_true]
    rfl
  rw [hform, hoper] at hexec
  refine ⟨fun e => ?_, fun e => ?_⟩
  · rw [e, if_pos rfl] at hexec
    exact ⟨_, hexec, (written_on _ _).trans (State.on_put_self u (C.ERR_STATE pCONVH) true (by decide)), (written_sense _).trans hsense⟩
  · rw [e, if_neg Bool.false_ne_true] at hexec
    exact ⟨_, hexec, (written_sense _).trans (by rw [← hsense]), (written_on _ _).trans hrunning⟩

end Sys2Proof.Machine
end

section
/-! PROOFS. Housekeeping rounds, fifth part: conversions, clamps and open circuits, the mirror converter, and the statement
(R342 to R344, R348, R349, R355, R356). -/
namespace Sys2Proof.Machine
open Sys2Proof

/-! ### Conversions (R342 to R344) -/

theorem convert_slot (s : State) (k : Nat) (code : Int) :
    let c := openDiv (16 * code - s.slotOffset k) 16
    let signed := s.isThermo k || s.on (FLT.DIFF k)
    let lo : Int := if signed then -2048 else 0
    let hi : Int := if signed then 2047 else 4095
    (s.convert k code).slot k = { s.slot k with
      codes := (s.slot k).codes ++ [clampI c lo hi], ovr := (s.slot k).ovr || decide (c < lo) || decide (hi < c) } := by
  intro c signed lo hi
  have hslots (u : State) (v : Nat) : (if refBad (clampI c lo hi) then (u.wr CONVH.BG_CODE v).fault pCONVH 0 else u.wr CONVH.BG_CODE v).sense = u.sense := by
    have h : (u.wr CONVH.BG_CODE v).sense = u.sense := rfl
    generalize u.wr CONVH.BG_CODE v = w at *
    split
    · exact (fault_hk w _ _).sense.trans h
    · exact h
  unfold State.convert
  dsimp only
  split
  · exact (slot_of_sense (congrArg SenseState.slots (hslots _ _)) k).trans (slot_setSlot s k _)
  · exact slot_setSlot s k _

/-- A conversion of a slot's input: a code outside the input's range is clamped and marked. -/
theorem convhConversion_shows {s : State} {code : Int} (hrun : s.runs pCONVH = true) (hin : s.sense.inPeriod = true)
    (hlen : (s.slot s.sense.slot).codes.length < s.conversions s.sense.slot) : exec (.convhConversion code) s = .next (
      if s.shorted s.sense.slot then s.setSlot s.sense.slot { s.slot s.sense.slot with codes := (s.slot s.sense.slot).codes ++ [code] }
      else s.convert s.sense.slot code) := by
  refine congrArg Host.Outcome.next (if_neg ?_)
  rw [hrun, hin, decide_eq_false (by omega)]
  decide

theorem slotOffset_eq (s : State) (k : Nat) : s.slotOffset k = s.rdI (CAL.CVH_OFS (if s.rd (FLT.INPUT k) = 12 then s.rd (AFE.GAIN k) else 0)) := by
  rw [State.slotOffset, State.isThermo]
  simp only [decide_eq_true_eq]

/-! ### Clamps and open circuits (R348, R349) -/

/-- A pin's clamp noted. -/
def State.clampShown (s : State) (pin : Nat) : State :=
  ((s.wr AFE.CLAMP (withBit (s.rd AFE.CLAMP) pin true)).raise AFE.INT_CLAMP).fault pAFE 0

/-- An open circuit noted. -/
def State.openShown (s : State) (k : Nat) : State :=
  ((s.wr AFE.OPEN_SLOTS (withBit (s.rd AFE.OPEN_SLOTS) k true)).raise AFE.INT_OPEN).fault pAFE 1

/-- A bit of a word set, its interrupt raised, and a fault. -/
theorem bitShown_shows (s : State) {f g : Fld} {j b : Nat} (hj : j < f.width) (hfg : f.key ≠ g.key) (hf : f.key ∉ faultKeys pAFE)
    (hg : g.key ∉ faultKeys pAFE) (hw : 0 < g.width) (hb : b < 32) (hbit : bit (2 ^ b + faultCommons pAFE b) b = true) :
    let t := ((s.wr f (withBit (s.rd f) j true)).raise g).fault pAFE b
    bit (t.rd f) j = true ∧ (∀ i < f.width, i ≠ j → bit (t.rd f) i = bit (s.rd f) i) ∧ t.on g = true ∧ t.on (C.FAULT pAFE b) = true
      ∧ t.sense = s.sense := by
  intro t
  have hrd : t.rd f = withBit (s.rd f) j true % 2 ^ f.width :=
    (fault_keepsRegs _ _ _ _ hf).trans ((State.rd_put_ne _ g f true hfg).trans (State.rd_wr_self _ _ _))
  have hbits (i : Nat) (hi : i < f.width) : bit (t.rd f) i = if i = j then true else bit (s.rd f) i := by
    rw [hrd, bit_mod_two_pow hi, bit_withBit]
  refine ⟨by rw [hbits j hj, if_pos rfl], fun i hi hne => by rw [hbits i hi, if_neg hne], ?_, fault_on_self _ hb hbit,
    (fault_hk _ _ _).sense⟩
  exact (congrArg (· != 0) (fault_keepsRegs _ _ _ _ hg)).trans (State.on_put_self (s.wr f (withBit (s.rd f) j true)) g true hw)

theorem exec_clampConduction {s : State} (pin : Fin 12) (hrun : s.runs pAFE = true) : exec (.clampConduction pin) s = .next (
    if s.sense.inPeriod then { s.clampShown pin with sense.clamped := (s.clampShown pin).sense.clamped ++ [(pin : Nat)] } else s.clampShown pin) := by
  refine congrArg Host.Outcome.next (if_neg ?_)
  rw [hrun]
  decide

theorem exec_openDetect {s : State} (hrun : s.runs pAFE = true) (hin : s.sense.inPeriod = true) (hsrc : s.on AFE.ST_SRC_A_ON = true) :
    exec .openDetect s = .next ((s.setSlot s.sense.slot { s.slot s.sense.slot with open_ := true }).openShown s.sense.slot) := by
  refine congrArg Host.Outcome.next (if_pos ?_)
  rw [hrun, hin, hsrc]
  rfl

/-! ### The mirror converter (R355, R356) -/

/-- A code of MFB shown. -/
def State.mirrorCode (s : State) (v : Int) (beyond : Bool) : State := (s.wrI CONVM.LAST_CODE v).put CONVM.ST_OVR_LAST beyond

/-- A code beyond the range counted. -/
def State.mirrorOver (s : State) : State := ((s.count CONVM.OVR_CNT 1).raise CONVM.INT_OVR).fault pCONVM 0

/-- A code of MFB waits for the mirror sample. -/
def State.mirrorQueued (s : State) (v : Int) (beyond : Bool) : State := { s with scn.conv := s.scn.conv ++ [(v, beyond)] }

theorem exec_convmConversion {s : State} (code : Int) (outside : Bool) (hrun : s.runs pCONVM = true) (hhalt : s.on (C.HALTED pCONVM) = false) :
    let beyond := decide (code < -32768) || decide (32767 < code) || outside
    let v := clampI code (-32768) 32767
    exec (.convmConversion (some code) outside) s = .next (State.mirrorQueued
      (if beyond then (s.mirrorCode v beyond).mirrorOver else s.mirrorCode v beyond) v beyond) := by
  intro beyond v
  refine congrArg Host.Outcome.next (if_neg ?_)
  rw [hrun, hhalt]
  decide

theorem exec_convmMissing {s : State} (outside : Bool) (hrun : s.runs pCONVM = true) (hhalt : s.on (C.HALTED pCONVM) = false) :
    exec (.convmConversion none outside) s = .next ((s.count CONVM.NO_CONV_CNT 1).fault pCONVM 1) := by
  refine congrArg Host.Outcome.next (if_neg ?_)
  rw [hrun, hhalt]
  decide

theorem mirrorCode_shows (s : State) (v : Int) (beyond : Bool) :
    (s.mirrorCode v beyond).rd CONVM.LAST_CODE = ofSigned 16 v ∧ (s.mirrorCode v beyond).on CONVM.ST_OVR_LAST = beyond
      ∧ (s.mirrorCode v beyond).rd CONVM.OVR_CNT = s.rd CONVM.OVR_CNT ∧ (s.mirrorCode v beyond).scn = s.scn := by
  refine ⟨(State.rd_put_ne _ _ _ _ (by decide)).trans ((State.rd_wr_self _ _ _).trans (Nat.mod_eq_of_lt ?_)), State.on_put_self _ _ _ (by decide),
    (State.rd_put_ne _ _ _ _ (by decide)).trans (State.rd_wr_ne _ _ _ _ (by decide)), rfl⟩
  show ofSigned 16 v < 2 ^ 16
  unfold ofSigned
  omega

theorem mirrorOver_shows (s : State) : s.mirrorOver.rd CONVM.LAST_CODE = s.rd CONVM.LAST_CODE
    ∧ s.mirrorOver.on CONVM.ST_OVR_LAST = s.on CONVM.ST_OVR_LAST ∧ s.mirrorOver.rd CONVM.OVR_CNT = min (s.rd CONVM.OVR_CNT + 1) 65535
    ∧ s.mirrorOver.on (C.FAULT pCONVM 0) = true ∧ s.mirrorOver.scn = s.scn := by
  have hfault := fault_keepsRegs ((s.count CONVM.OVR_CNT 1).raise CONVM.INT_OVR) pCONVM 0
  have hkeep (f : Fld) (hf : f.key ∉ faultKeys pCONVM) (h1 : f.key ≠ CONVM.INT_OVR.key) (h2 : f.key ≠ CONVM.OVR_CNT.key) : s.mirrorOver.rd f = s.rd f :=
    (hfault f hf).trans ((State.rd_put_ne _ _ f _ h1).trans (State.rd_wr_ne _ _ _ _ h2))
  refine ⟨hkeep _ (by decide) (by decide) (by decide), congrArg (· != 0) (hkeep _ (by decide) (by decide) (by decide)), ?_,
    fault_on_self _ (by decide) (by decide), ((SafFrame.refl _).fault pCONVM 0).scn⟩
  exact (hfault _ (by decide)).trans ((State.rd_put_ne _ _ _ _ (by decide)).trans (State.rd_count _ _ _))

/-- A code of MFB, shown and kept for the mirror sample. -/
theorem convmConversion_shows {s : State} (code : Int) (outside : Bool) (hrun : s.runs pCONVM = true) (hhalt : s.on (C.HALTED pCONVM) = false) :
    let beyond := code < -32768 ∨ 32767 < code ∨ outside = true
    let v := max (-32768) (min 32767 code)
    ∃ t, exec (.convmConversion (some code) outside) s = .next t ∧ t.rd CONVM.LAST_CODE = ofSigned 16 v
      ∧ (t.on CONVM.ST_OVR_LAST = true ↔ beyond) ∧ t.scn.conv = s.scn.conv ++ [(v, decide beyond)]
      ∧ (beyond → t.rd CONVM.OVR_CNT = min (s.rd CONVM.OVR_CNT + 1) 65535 ∧ t.on (C.FAULT pCONVM 0) = true) := by
  intro beyond v
  have hv : clampI code (-32768) 32767 = v := clampI_eq (by decide)
  have hbeyond : (decide (code < -32768) || decide (32767 < code) || outside) = decide beyond := by
    rw [Bool.eq_iff_iff]
    simp [beyond, or_assoc]
  have hexec := exec_convmConversion (s := s) code outside hrun hhalt
  dsimp only at hexec
  rw [hv, hbeyond] at hexec
  refine ⟨_, hexec, ?_⟩
  obtain ⟨h1, h2, h3, h4⟩ := mirrorCode_shows s v (decide beyond)
  generalize s.mirrorCode v (decide beyond) = u at *
  obtain ⟨k1, k2, k3, k4, k5⟩ := mirrorOver_shows u
  generalize u.mirrorOver = w at *
  by_cases hb : beyond
  · rw [decide_eq_true hb] at h2 ⊢
    rw [if_pos rfl]
    exact ⟨k1.trans h1, ⟨fun _ => hb, fun _ => k2.trans h2⟩, congrArg (· ++ [(v, true)]) (congrArg ScnState.conv (k5.trans h4)),
      fun _ => ⟨by rw [← h3]; exact k3, k4⟩⟩
  · rw [decide_eq_false hb] at h2 ⊢
    rw [if_neg Bool.false_ne_true]
    exact ⟨h1, ⟨fun e => absurd (h2.symm.trans e) (by decide), fun e => absurd e hb⟩, congrArg (· ++ [(v, false)]) (congrArg ScnState.conv h4), fun e => absurd e hb⟩

/-! ### The statement -/

/-- The beginning of a slot's period; the round's own at slot 0. -/
def State.periodBegun (s : State) (sensors : List (BitVec 16)) : State := if s.sense.slot = 0 then s.roundStart sensors else s

theorem exec_slotPeriodStart {s : State} {sensors : List (BitVec 16)} (hlen : sensors.length = 24) (hdue : s.periodDue = true) :
    exec (.slotPeriodStart sensors) s = .next ((s.periodBegun sensors).slotStart s.sense.slot) := by
  show execSlotPeriodStart sensors s = _
  rw [execSlotPeriodStart, if_neg (by simp [hlen]), hdue, State.periodBegun]
  by_cases hk : s.sense.slot = 0
  · rw [if_pos hk, if_neg (by decide), if_pos hk, hk]
    rfl
  · rw [if_neg hk, if_neg (by decide), if_neg hk]
    rfl

/-- What precedes a slot's beginning leaves the slot and its words as they are. -/
theorem periodBegun_keeps (s : State) {sensors : List (BitVec 16)} (hlen : sensors.length = 24) :
    (s.periodBegun sensors).sense.slot = s.sense.slot ∧ (s.periodBegun sensors).sense.slots = s.sense.slots
      ∧ (∀ f, (s.periodBegun sensors).rdS f = s.rdS f)
      ∧ (s.sense.slot < 16 → ∀ f ∈ AFE.XREF_RES :: slotFields s.sense.slot, (s.periodBegun sensors).rd f = s.rd f) := by
  have hfar : ∀ f ∈ AFE.XREF_RES :: slotFields 0, f.key ∉ roundKeys := by decide +kernel
  obtain ⟨hregs, hshadow, fast, -, hsense⟩ := roundStart_shows s hlen
  unfold State.periodBegun
  generalize s.roundStart sensors = u at *
  split
  · next hk =>
    refine ⟨by rw [hsense], by rw [hsense], fun f => ?_, fun _ f hf => hregs f (hfar f (hk ▸ hf))⟩
    unfold State.rdS
    rw [hshadow]
  · exact ⟨rfl, rfl, fun _ => rfl, fun _ _ _ => rfl⟩

/-- What a round's beginning shows after slot 0's own. -/
theorem roundStart_slot {s : State} {sensors : List (BitVec 16)} (hlen : sensors.length = 24) (hk : s.sense.slot = 0) :
    let t := (s.periodBegun sensors).slotStart 0
    t.sense.fast = t.on CONVH.ST_FAST ∧ t.sense.calRound = (s.sense.calAsked && !t.sense.fast)
      ∧ t.sense.period = if t.sense.fast then min (t.rd CONVH.FAST_PER) (t.rd CONVH.SLOT_PER) else t.rd CONVH.SLOT_PER := by
  have hfar : CONVH.ST_FAST.key ∉ slotKeys 0 ∧ CONVH.FAST_PER.key ∉ slotKeys 0 ∧ CONVH.SLOT_PER.key ∉ slotKeys 0 := by decide
  intro t
  obtain ⟨-, -, fast, hfast, hsense⟩ := roundStart_shows s hlen
  have ht : t = (s.roundStart sensors).slotStart 0 := by rw [show t = (s.periodBegun sensors).slotStart 0 from rfl, State.periodBegun, if_pos hk]
  clear_value t
  subst ht
  generalize s.roundStart sensors = u at *
  obtain ⟨hregs, ⟨slots, hslot⟩, -, -⟩ := slotStart_keeps u 0
  rw [hslot, hsense, hregs _ hfar.2.1, hregs _ hfar.2.2, State.on, hregs _ hfar.1]
  exact ⟨hfast.symm, rfl, rfl⟩

theorem slotSwitches_mem (k : Nat) : ∀ f ∈ [AFE.WIRES k, AFE.PIN_P k, AFE.PIN_Q k, AFE.PIN_S k, AFE.IEXC k], f ∈ AFE.XREF_RES :: slotFields k := by
  intro f hf
  simp only [List.mem_cons, List.not_mem_nil, or_false] at hf
  simp only [slotFields, List.mem_cons, List.not_mem_nil, or_false]
  tauto

theorem slotCuts_mem (k : Nat) : ∀ f ∈ [FLT.INPUT k, FLT.DIFF k, FLT.LEN k, AFE.GAIN k] ++ [AFE.WIRES k, AFE.PIN_P k, AFE.PIN_Q k, AFE.PIN_S k, AFE.IEXC k],
    f ∈ AFE.XREF_RES :: slotFields k := by
  intro f hf
  rcases List.mem_append.mp hf with hf | hf
  · simp only [List.mem_cons, List.not_mem_nil, or_false] at hf
    simp only [slotFields, List.mem_cons, List.not_mem_nil, or_false]
    tauto
  · exact slotSwitches_mem k f hf

/-- Settles O41. -/
theorem housekeepingRounds : Obligations.HousekeepingRounds := by
  intro path value sensors code outside pin s k x start stop switches cuts
  refine ⟨fun hrun hoff hbit => start_shows path hrun hoff hbit, fun hrun hon hbit => stop_shows path hrun hon hbit, fun hlen hdue => ?_,
    fun hrun hin hlen => ?_, fun hrun hin => ?_, fun hrun => ?_, fun hrun hin hsrc hk => ?_, fun hrun hhalt => ?_, fun hcal hrun hon => ?_⟩
  · obtain ⟨hslot, hslots, hshadow, hwords⟩ := periodBegun_keeps s hlen
    refine ⟨_, exec_slotPeriodStart hlen hdue, ?_⟩
    have hround := roundStart_slot (s := s) hlen
    have hshows := fun hk => slotStart_shows (s.periodBegun sensors) (k := s.sense.slot) hk
    obtain ⟨-, ⟨slots, hsense⟩, hbegun, -⟩ := slotStart_keeps (s.periodBegun sensors) s.sense.slot
    have hx : (s.periodBegun sensors).slot k = x := slot_of_sense hslots k
    have hcodes : (((s.periodBegun sensors).slotStart k).slot k).codes = [] := congrArg Slot.codes hbegun
    have hovr : (((s.periodBegun sensors).slotStart k).slot k).ovr = false := congrArg Slot.ovr hbegun
    have hopen : (((s.periodBegun sensors).slotStart k).slot k).open_ = false := congrArg Slot.open_ hbegun
    refine ⟨by rw [hsense], by rw [hsense]; exact hslot, by rw [hsense], hcodes, hovr, hopen, fun hk => ?_, fun hk => ?_⟩
    · obtain ⟨hrd, hrestart, hgoes, hblank⟩ := hshows hk
      have hsame (f : Fld) (hf : f ∈ AFE.XREF_RES :: slotFields k) : ((s.periodBegun sensors).rdS f ≠ (s.periodBegun sensors).rd f) = (s.rdS f ≠ s.rd f) := by
        rw [hshadow, hwords hk f hf]
      have hrestarts : (s.periodBegun sensors).restarts k = true ↔ (s.rdS (FLT.EN k) = 1 ∧ s.rd (FLT.EN k) = 0) ∨ ∃ f ∈ cuts, s.rdS f ≠ s.rd f := by
        rw [restarts_iff, hshadow, hwords hk _ (List.mem_cons_of_mem _ List.mem_cons_self)]
        exact or_congr_right (exists_congr fun f => and_congr_right fun hf => iff_of_eq (hsame f (slotCuts_mem k f hf)))
      rw [hx, hrestarts] at hrestart hgoes
      refine ⟨fun f hf => by rw [← hshadow f]; exact hrd f hf, fun h => hrestart (or_assoc.mpr h), fun h => hgoes (fun e => h (or_assoc.mp e)), ?_⟩
      rw [hblank, Bool.or_eq_true, blanks_iff, hx]
      exact or_congr_right (exists_congr fun f => and_congr_right fun hf => iff_of_eq (hsame f (slotSwitches_mem k f hf)))
    · have hzero : s.sense.slot = 0 := hk
      have hbegun := hround hzero
      rw [hzero]
      exact hbegun
  · intro signed gain c lo hi
    refine ⟨_, convhConversion_shows hrun hin hlen, fun hcal hk => ?_, fun h => ?_⟩
    · have hshort : s.shorted s.sense.slot = true := by rw [State.shorted, hcal, decide_eq_true hk]; rfl
      rw [hshort, if_pos rfl]
    · have hshort : s.shorted s.sense.slot = false := by
        rcases h with h | h
        · rw [State.shorted, h]; rfl
        · rw [State.shorted, decide_eq_false (show ¬s.sense.slot < 5 by omega), Bool.and_false]
      rw [hshort, if_neg Bool.false_ne_true]
      have hform := convert_slot s k code
      have hsigned : (s.isThermo k || s.on (FLT.DIFF k)) = true ↔ signed := by
        rw [Bool.or_eq_true, State.isThermo, decide_eq_true_eq]
      have hlo : (if (s.isThermo k || s.on (FLT.DIFF k)) = true then -2048 else 0 : Int) = lo := if_congr hsigned rfl rfl
      have hhi : (if (s.isThermo k || s.on (FLT.DIFF k)) = true then 2047 else 4095 : Int) = hi := if_congr hsigned rfl rfl
      have hle : lo ≤ hi := by
        show (if signed then _ else _ : Int) ≤ if signed then _ else _
        split <;> decide
      dsimp only at hform
      rw [slotOffset_eq, hlo, hhi, clampI_eq hle] at hform
      rw [hform]
      exact ⟨rfl, by simp only [Bool.or_eq_true, decide_eq_true_eq, or_assoc]; rfl⟩
  · have hexec : exec .slotPeriodEnd s = .next s.periodEnd := by
      refine congrArg Host.Outcome.next (if_pos ?_)
      rw [hrun, hin]
      rfl
    obtain ⟨hperiod, hslot⟩ := periodEnd_slot s
    refine ⟨_, hexec, hperiod, hslot, fun hk hen hflt hcal hinp => ?_, fun c hcal hk hcodes => periodEnd_offsets hcal hk hcodes,
      fun o g hg hk hcal h => periodEnd_takes hg hk hcal h⟩
    obtain ⟨v, f, y, hplain, hseq, hvalue, hunsettled, hovr, hint, hwin, hcount, hlast⟩ := periodEnd_plain hk hen hflt hcal hinp
    refine ⟨hseq, ⟨_, hlast, rfl, ?_, hseq.symm, hovr.symm, hunsettled.symm⟩, fun e => ?_, fun c e1 e2 e3 e4 e5 e6 e7 e8 => ?_⟩
    · exact ((congrArg (toSigned 16) hvalue).trans (rdI_wr16 v)).symm
    · obtain ⟨hv, hf, hu, hw, hc⟩ := hplain.over_ e
      exact ⟨by rw [hvalue, hv], hovr.trans hf, hunsettled.trans hu, hint hf, hwin.trans hw, hcount.trans hc⟩
    · obtain ⟨hv, hu, hf, hw⟩ := hplain.clean c e1 e2 e3 e4 e5 e6 e7 e8
      refine ⟨hvalue.trans ((congrArg (· % 2 ^ 16) hv).trans (Nat.mod_eq_of_lt ?_)), hunsettled.trans hu, hovr.trans hf, hwin.trans hw⟩
      unfold ofSigned
      omega
  · refine ⟨_, exec_clampConduction pin hrun, ?_⟩
    obtain ⟨h1, h2, h3, h4, h5⟩ := bitShown_shows s (f := AFE.CLAMP) (g := AFE.INT_CLAMP) (j := pin) (b := 0) pin.isLt (by decide) (by decide)
      (by decide) (by decide) (by decide) (by decide)
    change bit ((s.clampShown pin).rd _) _ = _ at h1
    change ∀ i < 12, i ≠ (pin : Nat) → bit ((s.clampShown pin).rd _) i = _ at h2
    change (s.clampShown pin).on _ = _ at h3 h4
    change (s.clampShown pin).sense = _ at h5
    generalize s.clampShown pin = u at *
    have hother (b : Fin 12) (_ : b < 12) (hb : b ≠ pin) := h2 b b.isLt fun e => hb (Fin.ext e)
    split
    · exact ⟨h1, hother, h3, h4, fun _ => List.mem_append_right _ List.mem_cons_self⟩
    · next h => exact ⟨h1, hother, h3, h4, fun e => absurd e h⟩
  · refine ⟨_, exec_openDetect hrun hin hsrc, ?_⟩
    generalize hu : s.setSlot s.sense.slot { s.slot s.sense.slot with open_ := true } = u
    obtain ⟨h1, -, h3, h4, h5⟩ := bitShown_shows u (f := AFE.OPEN_SLOTS) (g := AFE.INT_OPEN) (j := s.sense.slot) (b := 1) hk (by decide) (by decide)
      (by decide) (by decide) (by decide) (by decide)
    refine ⟨?_, h1, h3, h4⟩
    have hslot : (u.openShown s.sense.slot).slot k = u.slot k := slot_of_sense (congrArg SenseState.slots h5) k
    rw [hslot, ← hu, slot_setSlot]
  · intro beyond v
    refine ⟨convmConversion_shows code outside hrun hhalt, _, exec_convmMissing outside hrun hhalt, ?_, fault_on_self _ (by decide) (by decide), ?_⟩
    · exact ((SafFrame.refl _).fault pCONVM 1).scn
    · exact (fault_keepsRegs _ _ _ _ (by decide)).trans (State.rd_count s CONVM.NO_CONV_CNT 1)
  · refine ⟨fun hper hfast => congrArg Host.Outcome.next (if_pos ?_), fun h => congrArg Host.Outcome.next (if_neg ?_)⟩
    · rw [hcal, hrun, hon, hfast, bne_iff_ne.mpr hper]
      rfl
    · rcases h with h | h
      · simp [h]
      · simp [h]

end Sys2Proof.Machine
end

section
/-! PROOFS. What the reset of folios leaves of PWR's turns and of the folios held in reset (R455, R477). -/
namespace Sys2Proof.Machine
open Sys2Proof

/-! ### Changes outside the power sequence -/

/-- The turns of PWR that wait and the folios held in reset. -/
def State.turnPart (s : State) : List Turn × List Nat := (s.pwr.turns, s.rst.held)

/-- A change that keeps the turns and the folios held in reset. -/
def TurnsKept (o s : State) : Prop := s.turnPart = o.turnPart

section
variable {o s t : State}

theorem TurnsKept.refl (s : State) : TurnsKept s s := rfl

theorem TurnsKept.trans (h : TurnsKept o s) (h' : TurnsKept s t) : TurnsKept o t := Eq.trans h' h

theorem TurnsKept.frame (h : TurnsKept o s) (he : t.turnPart = s.turnPart) : TurnsKept o t := he.trans h

theorem TurnsKept.upd {snap bus cat lastAccession acq emt det engines prox pca lnk scn sense thm cal saf lmp sec nvs mon spi jtag pins free}
    (h : TurnsKept o s) : TurnsKept o { s with
      snap := snap, bus := bus, cat := cat, lastAccession := lastAccession, acq := acq, emt := emt, det := det, engines := engines, prox := prox
      pca := pca, lnk := lnk, scn := scn, sense := sense, thm := thm, cal := cal, saf := saf, lmp := lmp, sec := sec, nvs := nvs, mon := mon
      spi := spi, jtag := jtag, pins := pins, free := free } := h

theorem TurnsKept.ite {c : Prop} [Decidable c] {a b : State} (ha : TurnsKept o a) (hb : TurnsKept o b) : TurnsKept o (if c then a else b) := by
  split
  · exact ha
  · exact hb

theorem TurnsKept.foldl {α : Type} {l : List α} {f : State → α → State} (h : TurnsKept o s) (hf : ∀ t, ∀ a ∈ l, TurnsKept t (f t a)) :
    TurnsKept o (l.foldl f s) := (foldl_keeps State.turnPart (fun t a ha => hf t a ha) s).trans h

theorem TurnsKept.wr (h : TurnsKept o s) (f : Fld) (v : Nat) : TurnsKept o (s.wr f v) := h
theorem TurnsKept.put (h : TurnsKept o s) (f : Fld) (b : Bool) : TurnsKept o (s.put f b) := h

theorem TurnsKept.of_saf (h : TurnsKept o s) (hf : SafFrame s t) : TurnsKept o t := by
  refine h.frame ?_
  rw [State.turnPart, hf.pwr, hf.rst]
  rfl

theorem TurnsKept.fault (h : TurnsKept o s) (p b : Nat) : TurnsKept o (s.fault p b) := h.of_saf ((SafFrame.refl s).fault p b)

/-! ### Engines -/

theorem TurnsKept.setReState (h : TurnsKept o s) (k st : Nat) : TurnsKept o (s.setReState k st) := h

theorem TurnsKept.haltSelf (h : TurnsKept o s) {k : Nat} : TurnsKept o (s.haltSelf k) := h

theorem TurnsKept.closeReFrame (h : TurnsKept o s) (k : Nat) : TurnsKept o (s.closeReFrame k) := h

theorem TurnsKept.pushEntry (h : TurnsKept o s) (i : Nat) (e : Entry) : TurnsKept o (s.pushEntry i e) := .ite h h

theorem TurnsKept.callFrameEnd (h : TurnsKept o s) (k : Nat) (x : ShotRef) : TurnsKept o (s.callFrameEnd k x) := .ite h h

theorem TurnsKept.writeMarker (h : TurnsKept o s) (k : Nat) (x : ShotRef) (outcome records : Nat) : TurnsKept o (s.writeMarker k x outcome records) := by
  unfold State.writeMarker
  extract_lets _ _ s2
  have hs2 : TurnsKept o s2 := .ite (h.pushEntry _ _).upd (h.pushEntry _ _)
  clear_value s2
  exact hs2.callFrameEnd k x

theorem TurnsKept.giveUpWith (h : TurnsKept o s) (k : Nat) (x : ShotRef) (records : Nat) : TurnsKept o (s.giveUpWith k x records) := by
  unfold State.giveUpWith
  extract_lets _ _ s1 s2
  have hs1 : TurnsKept o s1 := h
  clear_value s1
  have hs2 : TurnsKept o s2 := .ite (hs1.fault _ _) hs1
  clear_value s2
  exact hs2.writeMarker _ _ _ _

theorem TurnsKept.giveUpOpt (h : TurnsKept o s) (k : Nat) (x : Option ShotRef) : TurnsKept o (s.giveUpOpt k x) := by
  unfold State.giveUpOpt
  split
  · exact h.giveUpWith _ _ _
  · exact h

theorem TurnsKept.leave (h : TurnsKept o s) (k : Nat) : TurnsKept o (s.leave k) := by
  unfold State.leave
  extract_lets e
  clear_value e
  split
  · exact h
  · next st _ =>
    extract_lets st1 s1 s2
    have hs2 : TurnsKept o s2 := ((h.upd.setReState k st1).put _ _).wr _ _
    clear_value s2
    exact .ite hs2.haltSelf hs2

theorem TurnsKept.reBeforeReset (h : TurnsKept o s) (k : Nat) : TurnsKept o (s.reBeforeReset k) := by
  unfold State.reBeforeReset
  extract_lets _ cut
  have hcut : TurnsKept o cut := by
    unfold cut
    split
    · exact .ite (h.writeMarker _ _ _ _) h
    · exact h
  clear_value cut
  exact ((hcut.upd.giveUpOpt k _).leave k).upd

theorem TurnsKept.reAfterReset (h : TurnsKept o s) (k : Nat) : TurnsKept o (s.reAfterReset k) := by
  unfold State.reAfterReset
  extract_lets _ _ s1
  have hs1 : TurnsKept o s1 := h.upd
  clear_value s1
  exact .ite (hs1.setReState k _) hs1

/-! ### Lanes -/

theorem TurnsKept.laneUp (h : TurnsKept o s) (l : Nat) : TurnsKept o (s.laneUp l) := .ite h h

theorem TurnsKept.laneLeft (h : TurnsKept o s) (l : Nat) : TurnsKept o (s.laneLeft l) := .ite h h

theorem TurnsKept.setLaneState (h : TurnsKept o s) (l st : Nat) : TurnsKept o (s.setLaneState l st) :=
  .ite (((h.wr _ _).put _ _).laneUp l) (.ite (((h.wr _ _).put _ _).laneLeft l) h)

theorem TurnsKept.laneDown (h : TurnsKept o s) (l : Nat) : TurnsKept o (s.laneDown l) := by
  unfold State.laneDown
  have hdown := h.setLaneState l lsDown
  generalize s.setLaneState l lsDown = u at *
  exact .ite hdown hdown

theorem TurnsKept.windowFields (h : TurnsKept o s) (l : Nat) : TurnsKept o (s.windowFields l) := .ite h h

theorem TurnsKept.startWindow (h : TurnsKept o s) (l : Nat) : TurnsKept o (s.startWindow l) := (h.windowFields l).upd

theorem TurnsKept.retrainLane (h : TurnsKept o s) (l st rate : Nat) : TurnsKept o (s.retrainLane l st rate) := by
  unfold State.retrainLane
  have hstate := (h.wr (LANE.RATE l) rate).setLaneState l st
  generalize (s.wr (LANE.RATE l) rate).setLaneState l st = u at *
  exact ((hstate.put _ _).wr _ _).upd.startWindow l

theorem TurnsKept.bundleDown (h : TurnsKept o s) : TurnsKept o s.bundleDown := by
  unfold State.bundleDown
  extract_lets s1
  have hs1 : TurnsKept o s1 := h.foldl fun t l _ => .ite (.refl t) ((TurnsKept.refl t).laneDown l)
  clear_value s1
  exact hs1

theorem TurnsKept.noneLeft (h : TurnsKept o s) : TurnsKept o s.noneLeft :=
  .ite (h.foldl fun t l _ => (TurnsKept.refl t).laneDown l).bundleDown h

theorem TurnsKept.setBundle (h : TurnsKept o s) {up : Bool} {active : List Nat} : TurnsKept o (s.setBundle up active) := h

theorem TurnsKept.retrainBundle (h : TurnsKept o s) : TurnsKept o s.retrainBundle := by
  unfold State.retrainBundle
  extract_lets _ one s1
  have hone (t : State) (l : Nat) : TurnsKept t (one t l) := .ite ((TurnsKept.refl t).retrainLane l _ _) ((TurnsKept.refl t).laneDown l)
  have hs1 : TurnsKept o s1 := (h.foldl fun t l _ => hone t l).setBundle
  clear_value s1
  exact .ite hs1 hs1.noneLeft

theorem TurnsKept.leaveStripe (h : TurnsKept o s) (l : Nat) : TurnsKept o (s.leaveStripe l) := .ite h (.ite h h.retrainBundle)

theorem TurnsKept.lockLost (h : TurnsKept o s) (l : Nat) : TurnsKept o (s.lockLost l) := by
  unfold State.lockLost
  extract_lets x st s1 s2
  have hs1 : TurnsKept o s1 := h.upd
  have hs2 : TurnsKept o s2 := ((hs1.put _ _).put _ _).wr _ _
  clear_value s2 s1
  exact .ite (.ite hs2 (hs2.upd.setLaneState l _)) (.ite (hs1.leaveStripe l) (.ite (hs1.setLaneState l _) (.ite (hs1.retrainLane l _ _) hs1)))

theorem TurnsKept.laneReset (h : TurnsKept o s) (l : Nat) : TurnsKept o (s.laneReset l) :=
  .ite (h.laneDown l).upd (.ite (h.laneDown l).upd (h.laneDown l))

theorem TurnsKept.showBundle (h : TurnsKept o s) (link : Bool) : TurnsKept o (s.showBundle link) := .ite (h.bundleDown.wr _ _) h

/-! ### Units -/

theorem HkKeeps.turns {keys : List Nat} {s t : State} (h : HkKeeps keys s t) (hp : t.pwr.turns = s.pwr.turns) : TurnsKept s t := by
  rw [TurnsKept, State.turnPart, hp, h.held]
  rfl

theorem TurnsKept.emtLevel (h : TurnsKept o s) (n : Nat) : TurnsKept o (s.emtLevel n) := .ite h (.ite (TurnsKept.fault (o := o) (s := (s.wr EMT.ST_DERATE_LEVEL n).raise EMT.INT_DERATE_CHANGE) h _ _) h)

theorem TurnsKept.setLevel (h : TurnsKept o s) (x n : Nat) : TurnsKept o (s.setLevel x n) := by
  rw [setLevel_eq]
  have hset : TurnsKept o ((s.wr (levelField x) n).raise THM.INT_LEVEL_CHANGE) := h
  generalize (s.wr (levelField x) n).raise THM.INT_LEVEL_CHANGE = u at *
  exact .ite h (.ite (hset.emtLevel n) hset)

theorem TurnsKept.forceLevel (h : TurnsKept o s) (x : Nat) : TurnsKept o (s.forceLevel x) := by
  unfold State.forceLevel
  have hseen : TurnsKept o (s.setSlotSeen x false) := .ite h h
  generalize s.setSlotSeen x false = u at *
  exact hseen.setLevel x _

theorem TurnsKept.thmStopped (h : TurnsKept o s) : TurnsKept o s.thmStopped :=
  .ite (TurnsKept.forceLevel (TurnsKept.forceLevel h.upd 24) 25) h

theorem TurnsKept.endStale (h : TurnsKept o s) (x : Session) : TurnsKept o (s.endStale x) := by
  unfold State.endStale
  extract_lets _ _ s1
  have hs1 : TurnsKept o s1 := h.foldl fun t f _ => (TurnsKept.refl t).wr _ _
  clear_value s1
  exact (hs1.wr _ _).put _ _

theorem TurnsKept.calReset (h : TurnsKept o s) : TurnsKept o s.calReset := by
  unfold State.calReset
  extract_lets s1
  have hs1 : TurnsKept o s1 := h.foldl fun t x _ => (TurnsKept.refl t).endStale x
  clear_value s1
  exact hs1.upd

theorem TurnsKept.dropFrame (h : TurnsKept o s) : TurnsKept o s.dropFrame := by
  unfold State.dropFrame
  split
  · exact h
  · exact h.upd

theorem TurnsKept.safReset (h : TurnsKept o s) : TurnsKept o s.safReset := by
  unfold State.safReset
  have hcut : TurnsKept o s.cutConfirm := by
    unfold State.cutConfirm
    split
    · exact h
    · exact h.upd
  generalize s.cutConfirm = u at *
  exact hcut.upd

/-- The reset of a unit other than PWR. -/
theorem TurnsKept.unitReset (h : TurnsKept o s) {p : Nat} (hp : p ≠ pPWR) (running : Bool) : TurnsKept o (s.unitReset p running) := by
  unfold State.unitReset
  refine .ite (h.reAfterReset _) (.ite h (.ite h (.ite h (.ite h (.ite h.dropFrame.upd (.ite h (.ite h (.ite h (.ite (.ite h.upd.thmStopped h)
    (.ite h (.ite h (.ite h (.ite ?_ (.ite h.calReset (.ite h (.ite h (.ite h (.ite h (.ite h (.ite h.safReset ?_))))))))))))))))))))
  · exact TurnsKept.emtLevel (o := o) h.upd 2
  · rw [if_neg hp]
    exact .ite h h

theorem TurnsKept.beforeReset (h : TurnsKept o s) (p : Nat) (link : Bool) : TurnsKept o (s.beforeReset p link) := by
  have hrelock : TurnsKept o s.relock := by
    refine h.frame ?_
    rw [State.turnPart, (relock_frame s).1, (relock_frame s).2]
    rfl
  exact .ite (h.reBeforeReset _) (.ite (h.lockLost _) (.ite hrelock h))

theorem TurnsKept.resetFolio (h : TurnsKept o s) {p : Nat} (hp : p ≠ pPWR) (cold link : Bool) : TurnsKept o (s.resetFolio cold link p) := by
  unfold State.resetFolio
  have hunit := TurnsKept.unitReset (o := o) (s := s.clearFolio cold link p) h hp (s.on CONVH.ST_RUNNING)
  dsimp only
  generalize (s.clearFolio cold link p).unitReset p (s.on CONVH.ST_RUNNING) = u at *
  exact .ite (hunit.laneReset _) hunit

theorem TurnsKept.retireOld (h : TurnsKept o s) : TurnsKept o s.retireOld := by
  obtain ⟨r, c, hform⟩ := retireOld_state s
  rw [hform]
  exact h

theorem TurnsKept.discardCommit (h : TurnsKept o s) (cause : Nat) : TurnsKept o (s.discardCommit cause) := by
  unfold State.discardCommit
  extract_lets _ s2
  have hs2 : TurnsKept o s2 := TurnsKept.foldl (o := o) h fun t p _ => rfl
  clear_value s2
  exact hs2.upd

end

/-- A reset's beginning: its folios are held, and none of them is due any more. -/
def State.resetHeld (s : State) (ps : List Nat) : State :=
  let s0 := if s.commitCut ps then s.discardCommit 2 else s
  { s0 with rst := { s0.rst with
      held := s0.rst.held ++ ps.filter fun p => !s0.rst.held.contains p
      due := s0.rst.due.filter fun d => !ps.contains d.page } }

/-- A reset's effect on the folios and their units. -/
def State.resetActs (s : State) (cold : Bool) (ps : List Nat) : State :=
  let link := ps.contains 4
  let before := ps.foldl (fun (s : State) p => s.beforeReset p link) s
  let s1 := ps.foldl (fun s p => s.resetFolio cold link p) before
  let s2 := if ps.any fun p => 0x14 ≤ p && p ≤ 0x19 then s1.showBundle link else s1
  let s3 := s2.retireOld
  State.eventsQuiet (if s3.runs pSAF then s3.degrade.safMirror else s3)

theorem resetPages_eq (s : State) (cold : Bool) (ps : List Nat) : s.resetPages cold ps = (s.resetHeld ps).resetActs cold ps := rfl

theorem resetActs_turns (s : State) (cold : Bool) {ps : List Nat} (hps : pPWR ∉ ps) : TurnsKept s (s.resetActs cold ps) := by
  unfold State.resetActs
  extract_lets link before s1 s2 s3
  have hbefore : TurnsKept s before := (TurnsKept.refl s).foldl fun t p _ => (TurnsKept.refl t).beforeReset p link
  clear_value before
  have hs1 : TurnsKept s s1 := hbefore.foldl fun t p hp => (TurnsKept.refl t).resetFolio (fun e => hps (e ▸ hp)) cold link
  clear_value s1
  have hs2 : TurnsKept s s2 := .ite (hs1.showBundle link) hs1
  clear_value s2
  have hs3 : TurnsKept s s3 := hs2.retireOld
  clear_value s3
  have hend : TurnsKept s (if s3.runs pSAF then s3.degrade.safMirror else s3) :=
    .ite (hs3.of_saf ((SafFrame.degrade s3).trans (SafFrame.safMirror _))) hs3
  generalize (if s3.runs pSAF then s3.degrade.safMirror else s3) = u at *
  exact .ite hend.upd hend

/-- A reset holds its folios, and leaves PWR's turns. -/
theorem resetPages_holds (s : State) (cold : Bool) {ps : List Nat} (hps : pPWR ∉ ps) :
    (s.resetPages cold ps).pwr.turns = s.pwr.turns ∧ ∀ p ∈ ps, p ∈ (s.resetPages cold ps).rst.held := by
  have hbegun : (s.resetHeld ps).pwr.turns = s.pwr.turns ∧ ∀ p ∈ ps, p ∈ (s.resetHeld ps).rst.held := by
    have hcut : TurnsKept s (if s.commitCut ps then s.discardCommit 2 else s) := .ite ((TurnsKept.refl s).discardCommit 2) (.refl s)
    unfold State.resetHeld
    generalize (if s.commitCut ps then s.discardCommit 2 else s) = u at *
    refine ⟨congrArg Prod.fst hcut, fun p hp => ?_⟩
    by_cases hheld : p ∈ u.rst.held
    · exact List.mem_append_left _ hheld
    · exact List.mem_append_right _ (List.mem_filter.mpr ⟨hp, by simpa using hheld⟩)
  rw [resetPages_eq]
  generalize s.resetHeld ps = v at *
  have hacts := resetActs_turns v cold hps
  have hheld : v.rst.held = (v.resetActs cold ps).rst.held := (congrArg Prod.snd hacts).symm
  exact ⟨(congrArg Prod.fst hacts).trans hbegun.1, fun p hp => hheld ▸ hbegun.2 p hp⟩

end Sys2Proof.Machine
end

section
/-! PROOFS. Power: the rails, the feeds, the gap of a switch-over, domain commands and turns, parking and waking (R442 to R463). -/
namespace Sys2Proof.Machine
open Sys2Proof

/-! ### Rails and wakes (R442, R443, R459, R471) -/

theorem showRst_open (s : State) : s.showRst.on RST.ST_EPISODE_OPEN = (s.rst.episodes != []) ∧ s.showRst.rd RST.OPEN = s.rst.episodes.length % 2 ^ 5 := by
  unfold State.showRst
  dsimp only
  have hslots (b : Nat → Bool) (t : State) : KeepsRegs ((List.range 8).map fun i => (RST.SLOT_PENDING_CLK i).key) t
      ((List.range 8).foldl (fun s i => s.put (RST.SLOT_PENDING_CLK i) (b i)) t) :=
    KeepsRegs.foldl (fun u i hi => (KeepsRegs.refl _ u).put (RST.SLOT_PENDING_CLK i) _ (List.mem_map.mpr ⟨i, hi, rfl⟩)) t
  refine ⟨?_, ?_⟩
  · refine (congrArg (· != 0) ((hslots _ _ RST.ST_EPISODE_OPEN (by decide)).trans (State.rd_put_ne _ _ _ _ (by decide)))).trans ?_
    exact State.on_put_self _ _ _ (by decide)
  · refine (hslots _ _ RST.OPEN (by decide)).trans ((State.rd_put_ne _ _ _ _ (by decide)).trans ((State.rd_put_ne _ _ _ _ (by decide)).trans ?_))
    exact State.rd_wr_self _ _ _

/-- A source of reach SYSTEM opens an episode where none is open. -/
theorem assertReset_system {s : State} {src : Source} (hsrc : src.code = 6 ∧ src.pulse = true ∨ src.code ≠ 5 ∧ src.code ≠ 6) (hgap : s.pwr.hold = false)
    (hnone : s.rst.episodes = []) (target : Option Nat) : OpensEpisode src 1 systemPages (s.assertReset src 1 [] target) := by
  unfold State.assertReset
  rw [State.sourceWaits_false s src.code hgap, if_neg Bool.false_ne_true, hnone]
  extract_lets cover hits old before one whole widens known ep _ s1
  have heps : s1.rst.episodes = [ep] := rfl
  have hwiden : (widens && decide ((1 : Nat) ≤ 1)) = true := rfl
  have hwhole : ep.sources = [src] ∧ ep.reach = 1 ∧ ep.pages = systemPages ∧ ep.toApply = systemPages ∧ ep.ncause = 1
      ∧ ep.causes.map (·.2) = [src.code] := ⟨rfl, rfl, rfl, rfl, rfl, rfl⟩
  rw [List.any_nil, if_neg Bool.false_ne_true, hwiden, if_pos rfl, clearHolds_eq]
  clear_value ep s1
  obtain ⟨-, hframe⟩ := holdsOff_keeps s1
  have hunheld : unheld s1.holdsOff.rst.episodes = [{ ep with sources := [src] }] := by
    rw [hframe.rst, heps]
    have hstays : ep.sources.filter (fun x => !(x.code = 5 && x.detail < 8) && !(x.code = 6 && !x.pulse)) = [src] := by
      rw [hwhole.1, List.filter_cons_of_pos (by rcases hsrc with ⟨h6, hp⟩ | ⟨h5, h6⟩ <;> simp [*]), List.filter_nil]
    exact congrArg (fun l => [{ ep with sources := l }]) hstays
  rw [hunheld]
  generalize hu : ({ s1.holdsOff with rst.episodes := [{ ep with sources := [src] }] } : State) = u
  have hueps : u.rst.episodes = [{ ep with sources := [src] }] := by rw [← hu]
  obtain ⟨hopen, hcount⟩ := showRst_open u
  rw [hueps] at hopen hcount
  obtain ⟨-, hreach, hpages, happly, hn, hcauses⟩ := hwhole
  exact ⟨_, (congrArg RstState.episodes (SafFrame.showRst u).rst).trans hueps, rfl, hreach, hpages, happly, hn, hcauses, hopen, hcount⟩

/-- A rail-good bit set or cleared. -/
def State.railShown (s : State) (i : Nat) (good : Bool) : State := s.wr PWR.RAIL_GOOD (withBit (s.rd PWR.RAIL_GOOD) i good)

theorem rail_eq (s : State) (i : Nat) (good : Bool) : s.rail i good = if (s.railShown i good).rd PWR.RAIL_GOOD = 63
    then (s.railShown i good).deassertReset 2 0 else (s.railShown i good).assertReset ⟨2, 0, false⟩ 1 [] none := rfl

theorem railShown_bit (s : State) {i : Nat} (hi : i < 6) (good : Bool) : bit ((s.railShown i good).rd PWR.RAIL_GOOD) i = good := by
  rw [State.railShown, State.rd_wr_self, bit_mod_two_pow (show i < PWR.RAIL_GOOD.width from hi), bit_withBit, if_pos rfl]

theorem rail_regs (s : State) (i : Nat) (good : Bool) : (s.rail i good).rd PWR.RAIL_GOOD = (s.railShown i good).rd PWR.RAIL_GOOD := by
  rw [rail_eq]
  generalize s.railShown i good = u
  split
  · exact congrArg (fun x : Regs => x.cur.rd PWR.RAIL_GOOD) (deassertReset_keeps u 2 0).1
  · exact (assertReset_keeps u _ _ _ _).1 _ (by decide)

theorem rail_lost {s : State} {i : Nat} (hi : i < 6) (hgap : s.pwr.hold = false) : bit ((s.rail i false).rd PWR.RAIL_GOOD) i = false
    ∧ (s.rst.episodes = [] → OpensEpisode ⟨2, 0, false⟩ 1 systemPages (s.rail i false)) := by
  have hbit := railShown_bit s hi false
  refine ⟨by rw [rail_regs]; exact hbit, fun hnone => ?_⟩
  have hfull : ∀ i < 6, bit 63 i = true := by decide
  rw [rail_eq, if_neg (fun e => by rw [e, hfull i hi] at hbit; exact absurd hbit (by decide))]
  exact assertReset_system (s := s.railShown i false) (by decide) hgap hnone none

theorem rail_good {s : State} {i : Nat} (hi : i < 6) (hgap : s.pwr.hold = false) : bit ((s.rail i true).rd PWR.RAIL_GOOD) i = true
    ∧ ((s.rail i true).rd PWR.RAIL_GOOD = 63 → SourceGone 2 0 (s.rail i true)) := by
  refine ⟨by rw [rail_regs]; exact railShown_bit s hi true, fun hfull => ?_⟩
  rw [rail_regs] at hfull
  rw [rail_eq, if_pos hfull]
  have hwaits : (s.railShown i true).sourceWaits 2 = false := State.sourceWaits_false s 2 hgap
  unfold State.deassertReset
  rw [hwaits, if_neg Bool.false_ne_true]
  intro e he x hx hgone
  obtain ⟨e', -, rfl⟩ := List.mem_map.mp he
  have hkept := (List.mem_filter.mp hx).2
  rw [decide_eq_true hgone.1, decide_eq_true hgone.2] at hkept
  exact absurd hkept (by decide)

theorem wake_opens {s : State} (hgap : s.pwr.hold = false) (hnone : s.rst.episodes = []) : s.wake.on PWR.ST_PARKED = false
    ∧ OpensEpisode ⟨9, 0, true⟩ 1 systemPages s.wake := by
  refine ⟨?_, assertReset_system (s := s.put PWR.ST_PARKED false) (by decide) hgap hnone none⟩
  exact (congrArg (· != 0) ((assertReset_keeps (s.put PWR.ST_PARKED false) ⟨9, 0, true⟩ 1 [] none).1 _ (by decide))).trans
    (State.on_put_self s PWR.ST_PARKED false (by decide))

/-! ### The feeds (R444 to R450) -/

/-- A switch-over has begun. -/
def Switched (s t : State) : Prop :=
  let other := 1 - s.rd PWR.FEED_ACTIVE
  t.pwr.hold = true ∧ t.rd PWR.FEED_ACTIVE = other ∧ t.on SAF.ST_INHIBIT = true ∧ t.on SAF.TOKENS = false ∧ t.pwr.back = decide (other = s.rd PWR.PRIMARY)

/-- The decision to switch over, before SAF follows. -/
def State.feedTurned (s : State) : State :=
  let other := 1 - s.rd PWR.FEED_ACTIVE
  { s.wr PWR.FEED_ACTIVE other with pwr.hold := true, pwr.back := decide (other = s.rd PWR.PRIMARY) }

theorem switchFeed_eq (s : State) : s.switchFeed = s.feedTurned.inhibit.safOutputs := rfl

theorem switchFeed_switched (s : State) : Switched s s.switchFeed := by
  have hfeed : s.feedTurned.rd PWR.FEED_ACTIVE = 1 - s.rd PWR.FEED_ACTIVE := (State.rd_wr_self _ _ _).trans (Nat.mod_eq_of_lt (by
    show 1 - s.rd PWR.FEED_ACTIVE < 2 ^ 1
    omega))
  have hpwr : s.feedTurned.pwr.hold = true ∧ s.feedTurned.pwr.back = decide (1 - s.rd PWR.FEED_ACTIVE = s.rd PWR.PRIMARY) := ⟨rfl, rfl⟩
  rw [switchFeed_eq]
  generalize s.feedTurned = u at *
  have hlatch := State.inhibit_on u
  have hkeep := inhibit_keeps u PWR.FEED_ACTIVE (by decide)
  have hinhibit := (SafFrame.inhibit u).pwr
  generalize u.inhibit = w at *
  have hheld : w.pwr.hold = true := by rw [hinhibit]; exact hpwr.1
  rw [safOutputs_gap hheld]
  refine ⟨hheld, (State.rd_put_ne _ _ _ _ (by decide)).trans (hkeep.trans hfeed), ?_, State.on_put_self _ _ _ (by decide), ?_⟩
  · exact (State.on_put_ne _ _ _ _ (by decide)).trans hlatch
  · show w.pwr.back = _
    rw [hinhibit]
    exact hpwr.2

theorem exec_standbyAbsent {s : State} (hrun : s.runs pPWR = true) (hgap : s.pwr.hold = false)
    (habsent : s.on (if 1 - s.rd PWR.FEED_ACTIVE = 0 then PWR.A_PRESENT else PWR.B_PRESENT) = false) :
    exec .standbyAbsent s = .next ((s.raise PWR.INT_STANDBY_ABSENT).fault pPWR 1).degrade := by
  refine congrArg Host.Outcome.next (if_pos ?_)
  rw [hrun, hgap, State.present, habsent]
  rfl

theorem standbyAbsent_shows (s : State) : ((s.raise PWR.INT_STANDBY_ABSENT).fault pPWR 1).degrade.on PWR.INT_STANDBY_ABSENT = true
    ∧ ((s.raise PWR.INT_STANDBY_ABSENT).fault pPWR 1).degrade.on (C.FAULT pPWR 1) = true := by
  refine ⟨(degrade_on _ (by decide)).trans ?_, (degrade_on _ (by decide)).trans (fault_on_self _ (by decide) (by decide))⟩
  exact (fault_on_other _ (by decide)).trans (State.on_put_self s PWR.INT_STANDBY_ABSENT true (by decide))

theorem exec_feedSwitchover {s : State} (hrun : s.runs pPWR = true) (hgap : s.pwr.hold = false) : exec .feedSwitchover s = .next s.switchFeed := by
  refine congrArg Host.Outcome.next (if_neg ?_)
  rw [hrun, hgap]
  decide

/-- A return to the primary feed, FLAP ended. -/
def State.flapEnded (s : State) : State := { s.drew 1 with pwr.flapped := false }

/-- A return to the primary feed with what the wait after FLAP decides. -/
theorem exec_feedReturn {s : State} (hrun : s.runs pPWR = true) (hgap : s.pwr.hold = false) (hprimary : s.rd PWR.FEED_ACTIVE ≠ s.rd PWR.PRIMARY) :
    exec .feedReturn s = .next (if s.pwr.flapped && s.freeVal 0 % 2 = 0 then s.drew 1 else s.flapEnded.switchFeed) := by
  refine congrArg Host.Outcome.next (if_neg ?_)
  rw [hrun, hgap, decide_eq_false hprimary]
  decide

theorem switchFeed_flapped (s : State) : s.switchFeed.pwr.flapped = s.pwr.flapped := by
  have hpwr : s.feedTurned.pwr.flapped = s.pwr.flapped := rfl
  rw [switchFeed_eq, (SafFrame.safOutputs _).pwr, (SafFrame.inhibit _).pwr, hpwr]

/-! ### The end of a gap (R420, R446 to R449) -/

theorem fault_gapTrips (s : State) (p b : Nat) : (s.fault p b).saf.gapTrips = s.saf.gapTrips := by
  obtain ⟨r, posts, h⟩ := State.fault_state s p b
  rw [h]

theorem inhibit_gapTrips (s : State) : s.inhibit.saf.gapTrips = s.saf.gapTrips := by
  unfold State.inhibit State.emtInhibit
  split
  · rfl
  · split
    · split
      · dsimp only
        split
        · exact (fault_gapTrips _ _ _).trans rfl
        · rfl
      · rfl
    · rfl

theorem safOutputs_gapTrips (s : State) : s.safOutputs.saf.gapTrips = s.saf.gapTrips := by
  unfold State.safOutputs
  split
  · rfl
  · dsimp only
    split <;> rfl

theorem enter_gapTrips (s : State) (st : Nat) : (s.enter st).saf.gapTrips = s.saf.gapTrips := by
  have hshown : (s.stateShown st).saf.gapTrips = s.saf.gapTrips := by
    unfold State.stateShown State.requestFails State.strskEnd State.extestEnd
    dsimp only
    split_ifs <;> rfl
  rw [enter_eq, safOutputs_gapTrips, State.stateEntered]
  generalize s.stateShown st = u at *
  split_ifs
  · rw [fault_gapTrips, hshown]
  · exact hshown
  · rw [inhibit_gapTrips, fault_gapTrips, hshown]
  · rw [inhibit_gapTrips, hshown]

theorem tripNow_gapTrips (s : State) (i : Nat) : (s.tripNow i).saf.gapTrips = s.saf.gapTrips := by
  have hnoted : (s.tripNoted i).saf.gapTrips = s.saf.gapTrips := by
    unfold State.tripNoted State.strskEnd
    dsimp only
    split_ifs <;> rfl
  have hshown : (s.tripShown i).saf.gapTrips = s.saf.gapTrips := by
    rw [State.tripShown, inhibit_gapTrips, putTrip_frame]
    exact hnoted
  rw [tripNow_eq]
  split
  · rw [enter_gapTrips, hshown]
  · rw [safOutputs_gapTrips, hshown]

theorem showFeed_gapTrips (s : State) : s.showFeed.saf.gapTrips = s.saf.gapTrips := by
  have hdegrade (t : State) : t.degrade.saf.gapTrips = t.saf.gapTrips := by
    have hcauses : t.causesShown.saf.gapTrips = t.saf.gapTrips := by
      unfold State.causesShown
      dsimp only
      split <;> rfl
    unfold State.degrade State.sentinel
    split
    · rw [judgeCauses_eq]
      split
      · exact hcauses
      · split
        · exact (enter_gapTrips t.causesShown sfDegraded).trans hcauses
        · exact hcauses
    · rfl
  unfold State.showFeed
  dsimp only
  split
  · exact (hdegrade _).trans (fault_gapTrips _ _ _)
  · rfl

/-- What the end of a gap leaves before what waited acts. -/
theorem gapEnded_shows (s : State) : s.gapEnded.pwr.hold = false ∧ s.gapEnded.pwr.held = [] ∧ s.gapEnded.saf.gapTrips = 0
    ∧ s.gapEnded.on PWR.INT_SWITCHOVER = true
    ∧ s.gapEnded.rd (if s.pwr.back then PWR.RETURN_CNT else PWR.SWITCH_CNT)
      = min (s.rd (if s.pwr.back then PWR.RETURN_CNT else PWR.SWITCH_CNT) + 1) 65535 := by
  obtain ⟨hhold, hheld, htrips⟩ := switchShown_frame s
  have hshown : s.switchShown.on PWR.INT_SWITCHOVER = true ∧ s.switchShown.rd (if s.pwr.back then PWR.RETURN_CNT else PWR.SWITCH_CNT)
      = min (s.rd (if s.pwr.back then PWR.RETURN_CNT else PWR.SWITCH_CNT) + 1) 65535 := by
    unfold State.switchShown
    extract_lets n flap acc _ _ _ s1 s2
    refine ⟨State.on_put_self _ _ _ (by decide), ?_⟩
    have hcount : s2.rd (if s.pwr.back then PWR.RETURN_CNT else PWR.SWITCH_CNT)
        = min (s.rd (if s.pwr.back then PWR.RETURN_CNT else PWR.SWITCH_CNT) + 1) 65535 := by
      have hself : s1.rd (if s.pwr.back then PWR.RETURN_CNT else PWR.SWITCH_CNT) = s.rd (if s.pwr.back then PWR.RETURN_CNT else PWR.SWITCH_CNT) := rfl
      rw [← hself]
      clear_value s1
      have hfield : (if s.pwr.back then PWR.RETURN_CNT else PWR.SWITCH_CNT).width = 16
          ∧ (if s.pwr.back then PWR.RETURN_CNT else PWR.SWITCH_CNT).key ≠ PWR.SWITCH_ACC.key := by cases s.pwr.back <;> decide
      have hcounted := State.rd_count s1 (if s.pwr.back then PWR.RETURN_CNT else PWR.SWITCH_CNT) 1
      rw [hfield.1] at hcounted
      exact (State.rd_wr_ne _ _ _ _ hfield.2).trans hcounted
    clear_value s2
    have hne : (if s.pwr.back then PWR.RETURN_CNT else PWR.SWITCH_CNT).key ≠ PWR.INT_FLAP.key
        ∧ (if s.pwr.back then PWR.RETURN_CNT else PWR.SWITCH_CNT).key ≠ PWR.INT_SWITCHOVER.key := by cases s.pwr.back <;> decide
    refine (State.rd_put_ne _ _ _ _ hne.2).trans ?_
    split
    · exact (State.rd_put_ne _ _ _ _ hne.1).trans hcount
    · exact hcount
  have hframe := gapEnded_frame s
  unfold State.gapEnded at *
  generalize s.switchShown = u at *
  have hpwr : (u.showFeed.gapTripsSet s.saf.gapTrips).pwr = u.pwr := hframe.pwr
  have hfeed : u.showFeed.pwr.hold = false := (SafFrame.showFeed u).hold hhold
  have hkeep : KeepsRegs (feedKeys ++ tripKeys) u (u.showFeed.gapTripsSet s.saf.gapTrips) :=
    ((showFeed_keeps u).mono fun _ => List.mem_append_left _).trans ((gapTripsSet_keeps _ _ hfeed).mono fun _ => List.mem_append_right _)
  refine ⟨by rw [hpwr]; exact hhold, by rw [hpwr]; exact hheld, ?_, (congrArg (· != 0) (hkeep _ (by decide))).trans hshown.1, ?_⟩
  · have hset : (u.showFeed.gapTripsSet s.saf.gapTrips).saf.gapTrips = u.showFeed.saf.gapTrips := by
      refine (List.foldlRecOn (motive := fun t : State => t.saf.gapTrips = u.showFeed.saf.gapTrips ∧ t.pwr.hold = false) _ _ ⟨rfl, hfeed⟩
        fun t ht i _ => ⟨?_, ?_⟩).1
      · split
        · rw [tripSet_clocked ht.2]
          exact (tripNow_gapTrips t i).trans ht.1
        · exact ht.1
      · exact (gapTrip_frame t _ i ht.2).hold ht.2
    rw [hset, showFeed_gapTrips, htrips]
  · refine (hkeep _ ?_).trans hshown.2
    cases s.pwr.back <;> decide

end Sys2Proof.Machine
end

section
/-! PROOFS. Domain turns and domain commands, and the statement about power (R453 to R463). -/
namespace Sys2Proof.Machine
open Sys2Proof

/-! ### The end of a command (R462, R463) -/

def commandKeys : List Nat := [PWR.CMD_BUSY.key, PWR.ST_CMD_BUSY.key, PWR.CMD_RESULT.key, PWR.INT_DOM_DONE.key, PWR.ST_PARKED.key]

/-- A command's result shown. -/
def State.commandShown (s : State) : State :=
  let s1 := (s.put PWR.CMD_BUSY false).put PWR.ST_CMD_BUSY false
  let s2 := if s.pwr.failed then s1.wr PWR.CMD_RESULT 3 else (s1.wr PWR.CMD_RESULT 1).raise PWR.INT_DOM_DONE
  if s.pwr.parking then s2.put PWR.ST_PARKED true else s2

/-- A command closed. -/
def State.commandClosed (s : State) : State := { s with pwr.parking := false, pwr.failed := false }

theorem commandEnds_eq (s : State) : s.commandEnds = if s.pwr.turns.any (·.command) then s else s.commandShown.commandClosed := rfl

theorem commandShown_frame (s : State) : s.commandShown.pwr = s.pwr ∧ s.commandShown.rst = s.rst ∧ KeepsRegs commandKeys s s.commandShown := by
  unfold State.commandShown
  have h1 : ((s.put PWR.CMD_BUSY false).put PWR.ST_CMD_BUSY false).pwr = s.pwr ∧ ((s.put PWR.CMD_BUSY false).put PWR.ST_CMD_BUSY false).rst = s.rst
      ∧ KeepsRegs commandKeys s ((s.put PWR.CMD_BUSY false).put PWR.ST_CMD_BUSY false) :=
    ⟨rfl, rfl, ((KeepsRegs.refl _ s).put _ _ (by decide)).put _ _ (by decide)⟩
  dsimp only
  generalize (s.put PWR.CMD_BUSY false).put PWR.ST_CMD_BUSY false = u at *
  have h2 : ∀ v : State, v = (if s.pwr.failed then u.wr PWR.CMD_RESULT 3 else (u.wr PWR.CMD_RESULT 1).raise PWR.INT_DOM_DONE) →
      v.pwr = s.pwr ∧ v.rst = s.rst ∧ KeepsRegs commandKeys s v := by
    rintro v rfl
    split
    · exact ⟨h1.1, h1.2.1, h1.2.2.wr _ _ (by decide)⟩
    · exact ⟨h1.1, h1.2.1, (h1.2.2.wr _ _ (by decide)).put _ _ (by decide)⟩
  obtain ⟨hp, hr, hk⟩ := h2 _ rfl
  generalize (if s.pwr.failed then u.wr PWR.CMD_RESULT 3 else (u.wr PWR.CMD_RESULT 1).raise PWR.INT_DOM_DONE) = v at *
  split
  · exact ⟨hp, hr, hk.put _ _ (by decide)⟩
  · exact ⟨hp, hr, hk⟩

theorem commandEnds_keeps (s : State) : s.commandEnds.pwr.turns = s.pwr.turns ∧ s.commandEnds.rst = s.rst ∧ KeepsRegs commandKeys s s.commandEnds := by
  rw [commandEnds_eq]
  obtain ⟨hp, hr, hk⟩ := commandShown_frame s
  generalize s.commandShown = u at *
  split
  · exact ⟨rfl, rfl, KeepsRegs.refl _ s⟩
  · exact ⟨(congrArg PwrState.turns hp :), hr, hk⟩

/-- A command without a turn ends at once. -/
theorem commandEnds_done {s : State} (hturns : s.pwr.turns.any (·.command) = false) (hfailed : s.pwr.failed = false) :
    s.commandEnds.on PWR.CMD_BUSY = false ∧ s.commandEnds.rd PWR.CMD_RESULT = 1 ∧ s.commandEnds.on PWR.INT_DOM_DONE = true := by
  rw [commandEnds_eq, hturns, if_neg Bool.false_ne_true]
  show s.commandShown.on _ = _ ∧ s.commandShown.rd _ = _ ∧ s.commandShown.on _ = _
  unfold State.commandShown
  rw [hfailed]
  have h1 : ((s.put PWR.CMD_BUSY false).put PWR.ST_CMD_BUSY false).on PWR.CMD_BUSY = false :=
    (State.on_put_ne _ _ _ _ (by decide)).trans (State.on_put_self _ _ _ (by decide))
  dsimp only
  rw [if_neg Bool.false_ne_true]
  generalize (s.put PWR.CMD_BUSY false).put PWR.ST_CMD_BUSY false = u at *
  have h2 : ((u.wr PWR.CMD_RESULT 1).raise PWR.INT_DOM_DONE).on PWR.CMD_BUSY = false
      ∧ ((u.wr PWR.CMD_RESULT 1).raise PWR.INT_DOM_DONE).rd PWR.CMD_RESULT = 1 ∧ ((u.wr PWR.CMD_RESULT 1).raise PWR.INT_DOM_DONE).on PWR.INT_DOM_DONE = true :=
    ⟨(State.on_put_ne _ _ _ _ (by decide)).trans ((congrArg (· != 0) (State.rd_wr_ne _ _ _ _ (by decide))).trans h1),
      (State.rd_put_ne _ _ _ _ (by decide)).trans (State.rd_wr_self _ _ _), State.on_put_self _ _ _ (by decide)⟩
  generalize (u.wr PWR.CMD_RESULT 1).raise PWR.INT_DOM_DONE = v at *
  obtain ⟨hbusy, hresult, hdone⟩ := h2
  split
  · exact ⟨(State.on_put_ne _ _ _ _ (by decide)).trans hbusy, (State.rd_put_ne _ _ _ _ (by decide)).trans hresult,
      (State.on_put_ne _ _ _ _ (by decide)).trans hdone⟩
  · exact ⟨hbusy, hresult, hdone⟩

/-! ### Turns (R454, R455, R458) -/

/-- A turn taken from the queue. -/
def State.turnTaken (s : State) (d : Nat) (rest : List Turn) : State := { s.wr PWR.CMD_DOMAIN d with pwr.turns := rest }

/-- What a turn does to its domain. -/
def State.turnActed (s : State) (t : Turn) (railOk : Bool) : State :=
  if t.on = s.domOn t.domain then s else if !t.on then s.switchOff t.domain
  else if railOk then s.switchOn t.domain t.command else s.turnFails t

/-- A command's turn may be its last. -/
def State.turnEnded (s : State) (t : Turn) : State := if t.command then s.commandEnds else s

theorem exec_domainTurn {s : State} {turn : Turn} {rest : List Turn} (railOk : Bool) (hrun : s.runs pPWR = true) (hgap : s.pwr.hold = false)
    (hturns : s.pwr.turns = turn :: rest) (hpulse : turn.on = false → turn.domain = 148 → s.nvs.pulse = false) :
    exec (.domainTurn railOk) s = .next (((s.turnTaken turn.domain rest).turnActed turn railOk).turnEnded turn) := by
  have hgo : (!turn.on && decide (turn.domain = 148) && s.nvs.pulse) = false := by
    cases hon : turn.on
    · by_cases hd : turn.domain = 148
      · rw [hpulse hon hd, Bool.and_false]
      · rw [decide_eq_false hd]; rfl
    · rfl
  refine congrArg Host.Outcome.next ?_
  rw [if_neg (by rw [hrun, hgap]; decide), hturns]
  dsimp only
  rw [hgo, if_neg Bool.false_ne_true]
  rfl

theorem turnTaken_shows (s : State) {d : Nat} (hd : d ≤ 150) (rest : List Turn) : (s.turnTaken d rest).on (PWR.DOM_ON d) = s.on (PWR.DOM_ON d)
    ∧ (s.turnTaken d rest).domOn d = s.on (PWR.DOM_ON d) ∧ (s.turnTaken d rest).pwr.turns = rest ∧ (s.turnTaken d rest).rst = s.rst := by
  have hne : (PWR.DOM_ON d).key ≠ PWR.CMD_DOMAIN.key := by
    simp only [PWR.DOM_ON, PWR.CMD_DOMAIN, fld_key]
    omega
  have hon : (s.turnTaken d rest).on (PWR.DOM_ON d) = s.on (PWR.DOM_ON d) := congrArg (· != 0) (State.rd_wr_ne s _ _ _ hne)
  refine ⟨hon, ?_, rfl, rfl⟩
  rw [State.domOn, decide_eq_false (by omega), Bool.false_or, hon]

theorem turnEnded_keeps (s : State) (t : Turn) : (s.turnEnded t).pwr.turns = s.pwr.turns ∧ (s.turnEnded t).rst = s.rst
    ∧ KeepsRegs commandKeys s (s.turnEnded t) := by
  unfold State.turnEnded
  split
  · exact commandEnds_keeps s
  · exact ⟨rfl, rfl, KeepsRegs.refl _ s⟩

theorem domOn_apart (d : Nat) : (PWR.DOM_ON d).key ∉ commandKeys := by
  simp only [commandKeys, List.mem_cons, List.not_mem_nil, or_false, PWR.DOM_ON, PWR.CMD_BUSY, PWR.ST_CMD_BUSY, PWR.CMD_RESULT, PWR.INT_DOM_DONE,
    PWR.ST_PARKED, fld_key]
  omega

theorem turnEnded_domOn (s : State) (t : Turn) (d : Nat) : (s.turnEnded t).on (PWR.DOM_ON d) = s.on (PWR.DOM_ON d) :=
  congrArg (· != 0) ((turnEnded_keeps s t).2.2 _ (domOn_apart d))

/-- A domain switched on: the folios that are held and in no open episode are due. -/
theorem switchOn_shows (s : State) (d : Nat) (command : Bool) : (s.switchOn d command).on (PWR.DOM_ON d) = true
    ∧ (s.switchOn d command).pwr.turns = s.pwr.turns
    ∧ ∀ p ∈ pagesOfDomain d, p ∈ s.rst.held → (∀ e ∈ s.rst.episodes, p ∉ e.pages) → ∃ x ∈ (s.switchOn d command).rst.due, x.page = p := by
  unfold State.switchOn State.dueDomain
  have hput : (s.put (PWR.DOM_ON d) true).on (PWR.DOM_ON d) = true := State.on_put_self s _ true (by show 0 < 1; decide)
  have hrest : (s.put (PWR.DOM_ON d) true).rst = s.rst ∧ (s.put (PWR.DOM_ON d) true).pwr = s.pwr := ⟨rfl, rfl⟩
  generalize s.put (PWR.DOM_ON d) true = u at *
  dsimp only
  rw [hrest.1]
  refine ⟨hput, congrArg PwrState.turns hrest.2, fun p hp hheld hfree => ?_⟩
  by_cases hdue : ∃ x ∈ s.rst.due, x.page = p
  · obtain ⟨x, hx, hpage⟩ := hdue
    exact ⟨x, List.mem_append_left _ hx, hpage⟩
  · refine ⟨{ page := p, episode := if command = true then none else s.rst.sequence, slots := [] }, List.mem_append_right _ (List.mem_map.mpr
      ⟨p, List.mem_filter.mpr ⟨hp, ?_⟩, rfl⟩), rfl⟩
    have hrange : (List.range folioCount).contains p = true := by simpa using (List.mem_filter.mp hp).1
    have hnot : (s.rst.episodes.any fun e => e.pages.contains p) = false := by simpa using hfree
    have hnone : (s.rst.due.any fun x => decide (x.page = p)) = false := by simpa using hdue
    rw [hrange, hnot, hnone, show s.rst.held.contains p = true by simpa using hheld]
    rfl

theorem domainFault_apart : ∀ d < 151, (PWR.DOM_ON d).key ∉ faultKeys (pageOfDomain d)
    ∧ (C.FAULT (pageOfDomain d) 29).key ∉ PWR.INT_DOM_FAIL.key :: PWR.REFUSED_DOMAIN.key :: commandKeys := by decide +kernel

/-- A domain whose rail fails: its fault is set, and it stays off. -/
theorem turnFails_shows (s : State) {t : Turn} (hd : t.domain ≤ 150) : (s.turnFails t).on (PWR.DOM_ON t.domain) = s.on (PWR.DOM_ON t.domain)
    ∧ (s.turnFails t).pwr.turns = s.pwr.turns ∧ (s.turnFails t).on PWR.INT_DOM_FAIL = true
    ∧ (s.turnFails t).on (C.FAULT (pageOfDomain t.domain) 29) = true := by
  obtain ⟨hfar, hfault⟩ := domainFault_apart t.domain (by omega)
  have hint : (PWR.DOM_ON t.domain).key ≠ PWR.INT_DOM_FAIL.key ∧ (PWR.DOM_ON t.domain).key ≠ PWR.REFUSED_DOMAIN.key := by
    simp only [PWR.DOM_ON, PWR.INT_DOM_FAIL, PWR.REFUSED_DOMAIN, fld_key]
    omega
  rw [List.mem_cons, List.mem_cons, not_or, not_or] at hfault
  obtain ⟨hfail, hrefused, -⟩ := hfault
  have hflt : (s.setFaults (pageOfDomain t.domain) (2 ^ 29)).on (C.FAULT (pageOfDomain t.domain) 29) = true :=
    State.setFaults_on s _ _ 29 (by decide) (by decide)
  have hkeep : KeepsRegs (faultKeys (pageOfDomain t.domain)) s (s.setFaults (pageOfDomain t.domain) (2 ^ 29)) :=
    setFaults_keeps (KeepsRegs.refl _ s) fun i hi _ => List.mem_map_of_mem (List.mem_range.mpr hi)
  have hturns : (s.setFaults (pageOfDomain t.domain) (2 ^ 29)).pwr = s.pwr := by
    unfold State.setFaults
    have hfold := foldl_keeps State.pwr (l := List.range 32)
      (f := fun s i => if bit (2 ^ 29) i then s.put (C.FAULT (pageOfDomain t.domain) i) true else s) (fun u i _ => by split <;> rfl) s
    dsimp only
    generalize List.foldl _ s _ = u at *
    split <;> exact hfold
  unfold State.turnFails
  generalize s.setFaults (pageOfDomain t.domain) (2 ^ 29) = u at *
  have h1 : (u.raise PWR.INT_DOM_FAIL).on (PWR.DOM_ON t.domain) = s.on (PWR.DOM_ON t.domain) :=
    (State.on_put_ne _ _ _ _ hint.1).trans (congrArg (· != 0) (hkeep _ hfar))
  have h2 : (u.raise PWR.INT_DOM_FAIL).on (C.FAULT (pageOfDomain t.domain) 29) = true := (State.on_put_ne _ _ _ _ hfail).trans hflt
  have h3 : (u.raise PWR.INT_DOM_FAIL).on PWR.INT_DOM_FAIL = true := State.on_put_self _ _ _ (by decide)
  have h4 : (u.raise PWR.INT_DOM_FAIL).pwr = s.pwr := hturns
  dsimp only
  generalize u.raise PWR.INT_DOM_FAIL = w at *
  split
  · split
    · exact ⟨h1, (congrArg PwrState.turns h4 :), h3, h2⟩
    · exact ⟨(congrArg (· != 0) (State.rd_wr_ne w _ _ _ hint.2)).trans h1, (congrArg PwrState.turns h4 :),
        (congrArg (· != 0) (State.rd_wr_ne w _ _ _ (by decide))).trans h3, (congrArg (· != 0) (State.rd_wr_ne w _ _ _ hrefused)).trans h2⟩
  · exact ⟨h1, (congrArg PwrState.turns h4 :), h3, h2⟩

theorem TurnsKept.pllsOff {o s : State} (h : TurnsKept o s) : TurnsKept o s.pllsOff := by
  unfold State.pllsOff
  extract_lets s1 s2
  have hs1 : TurnsKept o s1 := h.foldl fun t d _ => (TurnsKept.refl t).of_saf (clockFalls_keeps t d).2
  clear_value s1
  exact hs1

/-- A domain switched off: its folios are held in reset. -/
theorem switchOff_shows (s : State) {d : Nat} (hd : d ≤ 150) : (s.switchOff d).on (PWR.DOM_ON d) = false
    ∧ (s.switchOff d).pwr.turns = s.pwr.turns ∧ ∀ p ∈ pagesOfDomain d, p ∈ (s.switchOff d).rst.held := by
  have hpwr : pPWR ∉ pagesOfDomain d := fun h => by
    have hdom := (List.mem_filter.mp h).2
    rw [decide_eq_true_eq] at hdom
    have : domainOf pPWR = 151 := by decide
    omega
  have hkey : (PWR.DOM_ON d).key ∉ episodeKeys := by
    have hall : ∀ x ∈ episodeKeys, x < 0x23 * pageBits := by decide
    intro h
    have := hall _ h
    simp only [PWR.DOM_ON, fld_key] at this
    omega
  obtain ⟨hturns, hheld⟩ := resetPages_holds s false hpwr
  unfold State.switchOff
  extract_lets s1 s2 s3
  have hs2 : TurnsKept s1 s2 := .ite rfl rfl
  have hs3 : TurnsKept s1 s3 := .ite hs2.pllsOff hs2
  change s1.pwr.turns = _ at hturns
  change ∀ p ∈ _, p ∈ s1.rst.held at hheld
  clear_value s3 s2 s1
  have hshow := SafFrame.showRst (s3.put (PWR.DOM_ON d) false)
  refine ⟨(congrArg (· != 0) (showRst_keeps _ _ hkey)).trans (State.on_put_self _ _ _ (by show 0 < 1; decide)), ?_, fun p hp => ?_⟩
  · exact (congrArg PwrState.turns hshow.pwr).trans ((congrArg Prod.fst hs3).trans hturns)
  · have hrst : (s3.put (PWR.DOM_ON d) false).showRst.rst.held = s1.rst.held := (congrArg RstState.held hshow.rst).trans (congrArg Prod.snd hs3)
    rw [hrst]
    exact hheld p hp

/-! ### Commands (R456, R457) -/

/-- A command's turns in the queue. -/
def State.turnsQueued (s : State) (turns : List Turn) : State :=
  { (((s.put PWR.CMD_BUSY true).put PWR.ST_CMD_BUSY true).wr PWR.CMD_RESULT 0).wr PWR.REFUSED_DOMAIN 0xFF with
    pwr.turns := s.pwr.turns ++ turns, pwr.failed := false }

theorem commandStarts_eq (s : State) (turns : List Turn) : s.commandStarts turns = (s.turnsQueued turns).commandEnds := rfl

theorem turnsQueued_shows (s : State) (turns : List Turn) : (s.turnsQueued turns).pwr.turns = s.pwr.turns ++ turns
    ∧ (s.turnsQueued turns).on PWR.CMD_BUSY = true ∧ (s.turnsQueued turns).rd PWR.CMD_RESULT = 0 ∧ (s.turnsQueued turns).pwr.failed = false
    ∧ (s.turnsQueued turns).pwr.parking = s.pwr.parking := by
  refine ⟨rfl, ?_, (State.rd_wr_ne _ _ _ _ (by decide)).trans (State.rd_wr_self _ _ _), rfl, rfl⟩
  exact (congrArg (· != 0) ((State.rd_wr_ne _ _ _ _ (by decide)).trans (State.rd_wr_ne _ _ _ _ (by decide)))).trans
    ((State.on_put_ne _ _ _ _ (by decide)).trans (State.on_put_self _ _ _ (by decide)))

/-- A command with a turn to run waits for it. -/
theorem commandStarts_waits (s : State) {turns : List Turn} (hne : turns ≠ []) (hcmd : ∀ t ∈ turns, t.command = true) :
    (s.commandStarts turns).pwr.turns = s.pwr.turns ++ turns ∧ (s.commandStarts turns).on PWR.CMD_BUSY = true
      ∧ (s.commandStarts turns).rd PWR.CMD_RESULT = 0 ∧ (s.commandStarts turns).pwr.parking = s.pwr.parking := by
  obtain ⟨hturns, hbusy, hresult, -, hpark⟩ := turnsQueued_shows s turns
  rw [commandStarts_eq]
  generalize s.turnsQueued turns = u at *
  have hany : u.pwr.turns.any (·.command) = true := by
    obtain ⟨t, ht⟩ := List.exists_mem_of_ne_nil turns hne
    exact List.any_eq_true.mpr ⟨t, hturns ▸ List.mem_append_right _ ht, hcmd t ht⟩
  rw [commandEnds_eq, hany, if_pos rfl]
  exact ⟨hturns, hbusy, hresult, hpark⟩

theorem commandStarts_none (s : State) (hcmd : ∀ t ∈ s.pwr.turns, t.command = false) : (s.commandStarts []).pwr.turns = s.pwr.turns
    ∧ (s.commandStarts []).on PWR.CMD_BUSY = false ∧ (s.commandStarts []).rd PWR.CMD_RESULT = 1 ∧ (s.commandStarts []).on PWR.INT_DOM_DONE = true := by
  obtain ⟨hturns, -, -, hfailed, -⟩ := turnsQueued_shows s []
  rw [List.append_nil] at hturns
  rw [commandStarts_eq]
  generalize s.turnsQueued [] = u at *
  have hany : u.pwr.turns.any (·.command) = false := by
    rw [hturns, List.any_eq_false]
    exact fun t ht => by rw [hcmd t ht]; decide
  exact ⟨(commandEnds_keeps u).1.trans hturns, commandEnds_done hany hfailed⟩

/-- A refused command. -/
theorem commandRefused_shows (s : State) {d : Nat} (hd : d ≤ 151) : (s.commandRefused d).pwr = s.pwr
    ∧ (s.commandRefused d).on (C.ERR_STATE pPWR) = true ∧ (s.commandRefused d).on PWR.INT_DOM_REFUSED = true
    ∧ (s.commandRefused d).rd PWR.CMD_RESULT = 2 ∧ (s.commandRefused d).rd PWR.REFUSED_DOMAIN = d := by
  unfold State.commandRefused
  extract_lets s1 s2
  have hs2 : s2.pwr = s.pwr ∧ s2.on (C.ERR_STATE pPWR) = true ∧ s2.on PWR.INT_DOM_REFUSED = true ∧ s2.rd PWR.CMD_RESULT = 2 ∧ s2.rd PWR.REFUSED_DOMAIN = d := by
    refine ⟨rfl, ?_, ?_, ?_, (State.rd_wr_self _ _ _).trans (Nat.mod_eq_of_lt (show d < 2 ^ 8 by omega))⟩
    · exact (congrArg (· != 0) ((State.rd_wr_ne _ _ _ _ (by decide)).trans (State.rd_wr_ne _ _ _ _ (by decide)))).trans
        ((State.on_put_ne _ _ _ _ (by decide)).trans (State.on_put_self _ _ _ (by decide)))
    · exact (congrArg (· != 0) ((State.rd_wr_ne _ _ _ _ (by decide)).trans (State.rd_wr_ne _ _ _ _ (by decide)))).trans
        (State.on_put_self _ _ _ (by decide))
    · exact (State.rd_wr_ne _ _ _ _ (by decide)).trans (State.rd_wr_self _ _ _)
  clear_value s2
  obtain ⟨h1, h2, h3, h4, h5⟩ := hs2
  split
  · exact ⟨h1, (State.on_put_ne _ _ _ _ (by decide)).trans h2, (State.on_put_ne _ _ _ _ (by decide)).trans h3,
      (State.rd_put_ne _ _ _ _ (by decide)).trans h4, (State.rd_put_ne _ _ _ _ (by decide)).trans h5⟩
  · exact ⟨h1, h2, h3, h4, h5⟩

/-- A command that PWR may take. -/
theorem pwrCommand_taken {s : State} {v : Nat} {ds : List Nat} (hbusy : s.on PWR.CMD_BUSY = false) (hds : commandDomains v = some ds) :
    s.pwrCommand v = if bit v 31 then s.commandStarts ((ds.filter fun d => !s.domOn d).map fun d => ⟨d, true, true⟩)
      else match ds.reverse.find? s.offRefused with
        | some d => s.commandRefused d
        | none => s.commandStarts ((ds.reverse.filter s.domOn).map fun d => ⟨d, false, true⟩) := by
  unfold State.pwrCommand
  rw [hbusy, if_neg Bool.false_ne_true, hds] <;> rfl

theorem turns_command (l : List Nat) (b : Bool) : ∀ t ∈ l.map fun d => (⟨d, b, true⟩ : Turn), t.command = true := by
  intro t ht
  obtain ⟨d, -, rfl⟩ := List.mem_map.mp ht
  rfl

/-- The wake settings of PARK's word written. -/
def State.wakeWritten (s : State) (v : Nat) : State :=
  ((s.wrS PWR.WAKE_SPI (bits v 30 1)).wrS PWR.WAKE_MON (bits v 29 1)).wrS PWR.WAKE_S (bits v 0 16)

theorem parkWord_asked {s : State} {v : Nat} (h : bit v 31 = true) : s.parkWord v = (s.wakeWritten v).park := if_pos h

theorem commandDomains_one {v : Nat} (h : bit v 30 = false) : commandDomains v = if v % 2 ^ 24 ≤ 151 then some [v % 2 ^ 24] else none := by
  unfold commandDomains
  rw [h, Bool.not_false, if_pos rfl, show bits v 0 24 = v % 2 ^ 24 by rw [bits, pow_zero, Nat.div_one]]

theorem commandDomains_folio {v p : Nat} (h : bit v 30 = true) (hp : p < 183) (hv : v % 2 ^ 24 = 0x1000 * p) :
    commandDomains v = some ((powerOrder ++ [151]).filter fun d => ((leaves p).map domainOf).contains d) := by
  unfold commandDomains
  have hbits : bits v 0 24 = 0x1000 * p := by rw [bits, pow_zero, Nat.div_one, hv]
  rw [h, hbits, Bool.not_true, if_neg Bool.false_ne_true, Nat.mul_mod_right, Nat.mul_div_cancel_left p (by decide), if_pos]
  rw [decide_eq_true (show p < folioCount from hp)]
  rfl

end Sys2Proof.Machine
end

section
/-! PROOFS. The statement about power (R442 to R463). -/
namespace Sys2Proof.Machine
open Sys2Proof

/-- What the turn in front of the queue does. -/
theorem domainTurn_shows {s : State} {turn : Turn} {rest : List Turn} (yes : Bool) (hrun : s.runs pPWR = true) (hgap : s.pwr.hold = false)
    (hturns : s.pwr.turns = turn :: rest) (hd : turn.domain ≤ 150) (hpulse : turn.on = false → turn.domain = 148 → s.nvs.pulse = false) :
    (turn.on = true → s.on (PWR.DOM_ON turn.domain) = false → ∃ t, exec (.domainTurn true) s = .next t
        ∧ t.on (PWR.DOM_ON turn.domain) = true ∧ t.pwr.turns = rest
        ∧ (∀ p ∈ pagesOfDomain turn.domain, p ∈ s.rst.held → (∀ e ∈ s.rst.episodes, p ∉ e.pages) → ∃ x ∈ t.rst.due, x.page = p))
      ∧ (turn.on = true → s.on (PWR.DOM_ON turn.domain) = false → ∃ t, exec (.domainTurn false) s = .next t
        ∧ t.on (PWR.DOM_ON turn.domain) = false ∧ t.pwr.turns = rest ∧ t.on PWR.INT_DOM_FAIL = true
        ∧ t.on (C.FAULT (pageOfDomain turn.domain) 29) = true)
      ∧ (turn.on = false → s.on (PWR.DOM_ON turn.domain) = true → ∃ t, exec (.domainTurn yes) s = .next t
        ∧ t.on (PWR.DOM_ON turn.domain) = false ∧ t.pwr.turns = rest ∧ ∀ p ∈ pagesOfDomain turn.domain, p ∈ t.rst.held)
      ∧ (turn.on = s.on (PWR.DOM_ON turn.domain) → ∃ t, exec (.domainTurn yes) s = .next t ∧ t.pwr.turns = rest
        ∧ t.on (PWR.DOM_ON turn.domain) = turn.on ∧ t.rst = s.rst) := by
  have hexec := fun ok => exec_domainTurn (turn := turn) ok hrun hgap hturns hpulse
  obtain ⟨hon, hdom, hqueue, hrst⟩ := turnTaken_shows s hd rest
  generalize s.turnTaken turn.domain rest = u at *
  have hact (ok : Bool) : u.turnActed turn ok = if turn.on = s.on (PWR.DOM_ON turn.domain) then u else if !turn.on then u.switchOff turn.domain
      else if ok then u.switchOn turn.domain turn.command else u.turnFails turn := by rw [State.turnActed, hdom]
  refine ⟨fun hup hoff => ⟨_, hexec true, ?_⟩, fun hup hoff => ⟨_, hexec false, ?_⟩, fun hdown hoff => ⟨_, hexec yes, ?_⟩, fun hsame =>
    ⟨_, hexec yes, ?_⟩⟩
  · rw [hact, hup, hoff, if_neg (by decide), if_neg (by decide), if_pos rfl, turnEnded_domOn]
    obtain ⟨h1, h2, h3⟩ := switchOn_shows u turn.domain turn.command
    obtain ⟨k1, k2, -⟩ := turnEnded_keeps (u.switchOn turn.domain turn.command) turn
    rw [hrst] at h3
    exact ⟨h1, k1.trans (h2.trans hqueue), fun p hp hheld hfree => by rw [k2]; exact h3 p hp hheld hfree⟩
  · rw [hact, hup, hoff, if_neg (by decide), if_neg (by decide), if_neg (by decide), turnEnded_domOn]
    obtain ⟨h1, h2, h3, h4⟩ := turnFails_shows u (t := turn) hd
    obtain ⟨k1, -, k3⟩ := turnEnded_keeps (u.turnFails turn) turn
    obtain ⟨-, hfar⟩ := domainFault_apart turn.domain (by omega)
    rw [List.mem_cons, List.mem_cons, not_or, not_or] at hfar
    exact ⟨h1.trans (hon.trans hoff), k1.trans (h2.trans hqueue), (congrArg (· != 0) (k3 _ (by decide))).trans h3,
      (congrArg (· != 0) (k3 _ hfar.2.2)).trans h4⟩
  · rw [hact, hdown, hoff, if_neg (by decide), if_pos (by decide), turnEnded_domOn]
    obtain ⟨h1, h2, h3⟩ := switchOff_shows u hd
    obtain ⟨k1, k2, -⟩ := turnEnded_keeps (u.switchOff turn.domain) turn
    exact ⟨h1, k1.trans (h2.trans hqueue), fun p hp => by rw [k2]; exact h3 p hp⟩
  · rw [hact, if_pos hsame, turnEnded_domOn]
    obtain ⟨k1, k2, -⟩ := turnEnded_keeps u turn
    exact ⟨k1.trans hqueue, hon.trans hsame.symm, k2.trans hrst⟩

/-- Settles O50: the rails and feeds, the gap, the turns and the commands by their own lemmas. -/
theorem powerRules : Obligations.PowerRules := by
  intro path value rail isB yes monRx turn rest ds s i other v arrived err switched queued onDomains
  have hdomain (hrun : s.runs pPWR = true) (hgap : s.pwr.hold = false) : exec (.domainOn path value) s = .next (arrived.pwrCommand v)
      ∧ exec (.domainOff path value) s = .next (arrived.pwrCommand v) := by
    have hwrite := State.writeSentinel_runs s path pPWR 0x40 value.toNat (fun s => s.pwrCommand value.toNat) hrun hgap
    exact ⟨congrArg Host.Outcome.next hwrite, congrArg Host.Outcome.next hwrite⟩
  have hpark (hrun : s.runs pPWR = true) (hgap : s.pwr.hold = false) (hbit : value.getLsbD 31 = true) :
      exec (.park path value) s = .next (arrived.wakeWritten v).park :=
    (congrArg Host.Outcome.next (State.writeSentinel_runs s path pPWR 0x48 value.toNat (fun s => s.parkWord value.toNat) hrun hgap)).trans
      (congrArg Host.Outcome.next (parkWord_asked ((bit_toNat value 31).trans hbit)))
  refine ⟨fun hgap => ⟨?_, ?_, ?_, fun hparked hnone => ⟨fun hwake => ?_, fun hwake => ?_⟩⟩, fun hrun hgap => ⟨fun habsent => ?_, ?_,
      fun hprimary => ⟨fun hflap => ?_, fun hflap => ?_⟩, fun hturns hd hpulse => domainTurn_shows yes hrun hgap hturns hd hpulse⟩, fun hgap => ?_,
    fun hgap => ?_, fun hrun hgap => ⟨fun hbusy => ?_, fun hbusy => ⟨fun hbad => ?_, fun hds hbit => ?_, fun hds hbit => ?_, fun hbit => ?_⟩⟩,
    fun hbit => commandDomains_one ((bit_toNat value 30).trans hbit), fun p hbit hv hp => commandDomains_folio ((bit_toNat value 30).trans hbit) hp hv, ?_, ?_⟩
  · exact ⟨_, congrArg Host.Outcome.next (State.ungated_runs s _ hgap), rail_lost rail.isLt hgap⟩
  · exact ⟨_, congrArg Host.Outcome.next (State.ungated_runs s _ hgap), rail_good rail.isLt hgap⟩
  · exact congrArg Host.Outcome.next (State.ungated_runs s _ hgap)
  · refine ⟨_, (congrArg Host.Outcome.next (State.ungated_runs s _ hgap)).trans (congrArg Host.Outcome.next (if_pos ?_)), wake_opens hgap hnone⟩
    rw [hparked, hwake]
    rfl
  · refine ⟨_, (congrArg Host.Outcome.next (State.ungated_runs s _ hgap)).trans (congrArg Host.Outcome.next (if_pos ?_)), wake_opens hgap hnone⟩
    rw [hparked, bne_iff_ne.mpr hwake]
    rfl
  · exact ⟨_, exec_standbyAbsent hrun hgap habsent, standbyAbsent_shows s⟩
  · exact ⟨_, exec_feedSwitchover hrun hgap, switchFeed_switched s⟩
  · refine ⟨_, exec_feedReturn hrun hgap hprimary, ?_⟩
    rw [hflap, Bool.false_and, if_neg Bool.false_ne_true]
    exact switchFeed_switched s.flapEnded
  · refine ⟨_, exec_feedReturn hrun hgap hprimary, ?_⟩
    split
    · exact .inr rfl
    · exact .inl ⟨switchFeed_switched s.flapEnded, switchFeed_flapped s.flapEnded⟩
  · obtain ⟨h1, h2, h3, h4, h5⟩ := gapEnded_shows s
    refine ⟨s.gapEnded, exec_holdRelease hgap, h1, h2, h3, h4, fun i hi hbit => gapEnded_trip s hi hbit, ?_⟩
    cases hback : s.pwr.back with
    | true =>
      rw [hback] at h5
      exact h5
    | false =>
      rw [hback] at h5
      exact h5
  · have hwrite := fun off f => State.writeSentinel_gap s path pPWR off value.toNat f hgap
    exact ⟨congrArg Host.Outcome.next (hwrite 0x40 _), congrArg Host.Outcome.next (hwrite 0x40 _), congrArg Host.Outcome.next (hwrite 0x48 _)⟩
  · obtain ⟨hon, hoff⟩ := hdomain hrun hgap
    have hform : arrived.pwrCommand v = err (C.ERR_BUSY pPWR) := if_pos hbusy
    rw [hform] at hon hoff
    refine ⟨hon, hoff, fun hbit => ⟨_, hpark hrun hgap hbit, ?_⟩⟩
    have hpart : (arrived.wakeWritten v).on PWR.CMD_BUSY = true := hbusy
    rw [State.park, hpart, if_pos rfl]
    exact ⟨State.on_put_self _ _ _ (by decide), (KeepsRegs.of_cur (KeepsRegs.refl _ s) rfl : KeepsRegs _ s (arrived.wakeWritten v)).put _ _ (by decide), rfl⟩
  · obtain ⟨hon, hoff⟩ := hdomain hrun hgap
    have hform : arrived.pwrCommand v = err (C.ERR_VALUE pPWR) := by
      unfold State.pwrCommand
      rw [show arrived.on PWR.CMD_BUSY = false from hbusy, if_neg Bool.false_ne_true, hbad]
      rfl
    rw [hform] at hon hoff
    exact ⟨hon, hoff⟩
  · obtain ⟨hon, -⟩ := hdomain hrun hgap
    rw [pwrCommand_taken (s := arrived) hbusy hds, (bit_toNat value 31).trans hbit, if_pos rfl] at hon
    intro turns
    refine ⟨fun hne => ⟨_, hon, ?_⟩, fun hnone hcmd => ⟨_, hon, ?_⟩⟩
    · obtain ⟨h1, h2, h3, -⟩ := commandStarts_waits arrived (turns := turns) hne (turns_command _ true)
      exact ⟨h1, h2, h3⟩
    · have h := commandStarts_none arrived hcmd
      rw [← hnone] at h
      exact h
  · obtain ⟨-, hoff⟩ := hdomain hrun hgap
    rw [pwrCommand_taken (s := arrived) hbusy hds, (bit_toNat value 31).trans hbit, if_neg Bool.false_ne_true] at hoff
    intro turns
    refine ⟨fun hok hne => ?_, fun d hfind hd => ?_⟩
    · have hnone : ds.reverse.find? arrived.offRefused = none := List.find?_eq_none.mpr fun d hdm => by
        have hfalse : arrived.offRefused d = false := hok d (List.mem_reverse.mp hdm)
        rw [hfalse]
        decide
      rw [hnone] at hoff
      obtain ⟨h1, h2, h3, -⟩ := commandStarts_waits arrived (turns := turns) hne (turns_command _ false)
      exact ⟨_, hoff, h1, h2, h3⟩
    · have hsome : ds.reverse.find? arrived.offRefused = some d := hfind
      rw [hsome] at hoff
      exact ⟨_, hoff, commandRefused_shows arrived hd⟩
  · have hpart : (arrived.wakeWritten v).on PWR.CMD_BUSY = false := hbusy
    have hstate : (arrived.wakeWritten v).safety = s.rd SAF.STATE := rfl
    refine ⟨fun hst hne => ⟨_, hpark hrun hgap hbit, ?_⟩, fun h0 h4 => ⟨_, hpark hrun hgap hbit, ?_⟩⟩
    · have hdoms : powerOrder.reverse.filter (arrived.wakeWritten v).domOn = onDomains := by
        refine List.filter_congr fun d hdm => ?_
        have hlt : ∀ d ∈ powerOrder.reverse, d ≠ 151 := by decide +kernel
        rw [State.domOn, decide_eq_false (hlt d hdm), Bool.false_or]
        rfl
      rw [State.park, hpart, if_neg Bool.false_ne_true, if_neg (by rw [hstate]; rcases hst with h | h <;> rw [h] <;> decide), hdoms]
      obtain ⟨h1, h2, h3, h4⟩ := commandStarts_waits { arrived.wakeWritten v with pwr.parking := true }
        (turns := onDomains.map fun n => ⟨n, false, true⟩) (by simpa using hne) (turns_command _ false)
      exact ⟨⟨h1, h2, h3⟩, h4⟩
    · rw [State.park, hpart, if_neg Bool.false_ne_true, if_pos]
      · exact ⟨State.on_put_self _ _ _ (by decide), rfl⟩
      · have hinit : (s.rd SAF.STATE != sfInit) = true := bne_iff_ne.mpr h0
        have hhold : (s.rd SAF.STATE != sfSafeHold) = true := bne_iff_ne.mpr h4
        rw [hstate, hinit, hhold]
        rfl
  · rfl
  · rfl

end Sys2Proof.Machine
end

section
/-! PROOFS. Carrel's answers (R517, R518) and what its test commands do: relocking, debug halts and debug resets (R525, R527, R528). -/
namespace Sys2Proof.Machine
open Sys2Proof

/-! ### A command and its answer -/

/-- Carrel reads commands, and no character waits behind the line. -/
def State.reads (s : State) : Prop := s.runs pHCP = true ∧ s.mon.running = true ∧ s.mon.rx = []

/-- Test access is open for the commands marked "unlock" (R526). -/
def State.opened (s : State) : Prop := s.on MON.UNLOCKED = true ∧ bit (s.rd MON.SCOPE) 1 = true

/-- The port once a `snap` that still waited has run into its limit. -/
def State.heardMon (s : State) : MonState :=
  { s.mon with snapWait := false, output := if s.mon.snapWait then [ansTimeout, prompt] else [] }

/-- The state in which a command runs. -/
def State.heard (s : State) : State := { s with mon := s.heardMon }

theorem snapExpires_eq (s : State) : s.snapExpires = s.heard := by
  unfold State.snapExpires State.heard State.heardMon
  split
  · rfl
  · next h =>
    have hw : s.mon.snapWait = false := (Bool.not_eq_true _).mp h
    exact congrArg (fun b => ({ s with mon := { s.mon with snapWait := b, output := [] } } : State)) hw

/-- The answer has gone out, and the port waits for the next line. -/
def State.answered (s : State) (lines : List String) (status : String) : State :=
  { s with mon := { s.mon with output := s.mon.output ++ lines ++ [status, prompt], busy := false, line := [], lineLong := false, rx := [] } }

theorem answer_eq {s : State} (h : s.mon.rx = []) (lines : List String) (status : String) : s.answer lines status = s.answered lines status :=
  State.answer_idle s lines status h

/-- A command answers with its lines and its status line, and leaves a state with q. -/
def AnswersWith (s : State) (c : Instr) (lines : List String) (status : String) (q : State → Prop) : Prop :=
  ∃ t, exec c s = .next t
    ∧ t.mon.output = (if s.mon.snapWait then ["E 09 TIMEOUT", "carrel> "] else []) ++ lines ++ [status, "carrel> "]
    ∧ t.mon.busy = false ∧ t.mon.snapWait = false ∧ q t

/-- A state whose port holds what the command has found there, the challenge aside, is left with that answer. -/
theorem answersWith_of {s u : State} {c : Instr} {lines : List String} {status : String} {q : State → Prop} (hrx : s.mon.rx = [])
    (hmon : u.mon = { s.heardMon with challenge := u.mon.challenge }) (hexec : exec c s = .next (u.answer lines status))
    (hq : q (u.answered lines status)) : AnswersWith s c lines status q := by
  have hidle : u.mon.rx = [] := by rw [hmon]; exact hrx
  rw [answer_eq hidle] at hexec
  have hout : u.mon.output = if s.mon.snapWait then [ansTimeout, prompt] else [] := by rw [hmon]; rfl
  refine ⟨_, hexec, ?_, rfl, ?_, hq⟩
  · exact congrArg (· ++ lines ++ [status, prompt]) hout
  · show u.mon.snapWait = false
    rw [hmon]
    rfl

variable {s : State} {c : Instr} {inRecovery unlock : Bool} {f : State → Reply}

theorem reads_monitor (h : s.reads) : s.monitorReads = true := by
  obtain ⟨hrun, hmon, -⟩ := h
  unfold State.monitorReads
  rw [hrun, hmon]
  rfl

/-- A command that Carrel knows and that may run answers with its reply. -/
theorem carrel_answers {u : State} {lines : List String} {status : String} {q : State → Prop} (h : s.reads)
    (hexec : exec c s = .next (s.carrel inRecovery true unlock f)) (hopen : unlock = true → s.opened)
    (hf : f s.heard = { state := u, lines := lines, status := status })
    (hmon : u.mon = { s.heardMon with challenge := u.mon.challenge }) (hq : q (u.answered lines status)) :
    AnswersWith s c lines status q := by
  refine answersWith_of h.2.2 hmon (hexec.trans (congrArg Host.Outcome.next ?_)) hq
  have hmay : (unlock && !(s.on MON.UNLOCKED && bit (s.rd MON.SCOPE) 1)) = false := by
    cases unlock with
    | false => rfl
    | true =>
      obtain ⟨h1, h2⟩ := hopen rfl
      rw [h1, h2]
      rfl
  unfold State.carrel
  rw [reads_monitor h, snapExpires_eq, h.2.1, hmay]
  exact congrArg Reply.sent hf

/-- A command marked "unlock" is refused while test access is not open for it. -/
theorem carrel_locked {q : State → Prop} (h : s.reads) (hexec : exec c s = .next (s.carrel inRecovery true true f)) (hlocked : ¬s.opened)
    (hq : q (s.heard.answered [] ansLocked)) : AnswersWith s c [] "E 02 LOCKED" q := by
  refine answersWith_of (u := s.heard) h.2.2 rfl (hexec.trans (congrArg Host.Outcome.next ?_)) hq
  have hmay : (true && !(s.on MON.UNLOCKED && bit (s.rd MON.SCOPE) 1)) = true := by
    rw [Bool.true_and, Bool.not_eq_true', Bool.and_eq_false_iff]
    by_contra hboth
    rw [not_or, Bool.not_eq_false, Bool.not_eq_false] at hboth
    exact hlocked hboth
  unfold State.carrel
  rw [reads_monitor h, snapExpires_eq, h.2.1, hmay]
  rfl

/-! ### Relocking (R525) -/

theorem endDebugHalt_other (s : State) {k j : Nat} (h : j ≠ k) : (s.endDebugHalt k).engine j = s.engine j := by
  unfold State.endDebugHalt
  split
  · exact State.engine_set_ne s _ h
  · rfl

theorem endDebugHalt_engine (s : State) (k : Nat) : (s.endDebugHalt k).engine k = { s.engine k with debugHalt := false } := by
  unfold State.endDebugHalt
  split
  · exact State.engine_set s k _
  · next h => rw [← (Bool.not_eq_true _).mp h]

theorem endDebugHalt_runs (s : State) (k : Nat) : ((s.endDebugHalt k).engine k).debugHalt = false := by rw [endDebugHalt_engine]

theorem debugHalts_end (s : State) {k : Nat} (hk : k < 72) : (((List.range 72).foldl State.endDebugHalt s).engine k).debugHalt = false := by
  refine foldl_mem (P := fun t => (t.engine k).debugHalt = false) (List.mem_range.mpr hk) (fun t => endDebugHalt_runs t k) (fun t j ht => ?_) s
  by_cases hjk : k = j
  · subst hjk
    exact endDebugHalt_runs t k
  · rw [endDebugHalt_other t hjk]
    exact ht

theorem endDebugHalt_mon (s : State) (k : Nat) : (s.endDebugHalt k).mon = s.mon := by
  unfold State.endDebugHalt
  split <;> rfl

/-- What every relock leaves behind of an access that was open. -/
def Relocked (s t : State) : Prop :=
  t.on MON.UNLOCKED = false ∧ (s.on MON.UNLOCKED = true → t.rd MON.SCOPE = 0 ∧ t.rd MON.UNLOCK_LEFT = 0
    ∧ t.on MON.INT_RELOCK = true ∧ t.on MON.ST_EXTEST = false ∧ t.jtag.instr = 15 ∧ (∀ q < 183, t.on (C.EN q) = false)
    ∧ (∀ n < 72, (t.engine n).debugHalt = false) ∧ (∀ x ∈ t.rst.episodes, ∀ y ∈ x.sources, ¬(y.code = 6 ∧ y.pulse = false)))

theorem endDebug_gone (r : RstState) : ∀ x ∈ r.endDebug.episodes, ∀ y ∈ x.sources, ¬(y.code = 6 ∧ y.pulse = false) := by
  intro x hx y hy hheld
  obtain ⟨e, -, rfl⟩ := List.mem_map.mp hx
  have hkept := (List.mem_filter.mp hy).2
  rw [decide_eq_true hheld.1, hheld.2] at hkept
  exact absurd hkept (by decide)

theorem portReset_rest (s : State) : s.portReset.mon = s.mon ∧ s.portReset.engines = s.engines ∧ s.portReset.regs = s.regs
    ∧ s.portReset.jtag.instr = 15 ∧ s.portReset.rst = s.rst.endDebug := ⟨rfl, rfl, rfl, rfl, rfl⟩

theorem clearPerturb_mon (s : State) : s.clearPerturb.mon = s.mon := (congrArg State.mon (clearPerturb_frame s)).trans rfl

theorem debugHalts_mon (s : State) : ((List.range 72).foldl State.endDebugHalt s).mon = s.mon :=
  foldl_keeps State.mon (fun t k _ => endDebugHalt_mon t k) s

theorem put_mon (s : State) (f : Fld) (b : Bool) : (s.put f b).mon = s.mon := rfl

theorem unlockCleared_mon (s : State) : s.unlockCleared.mon = s.mon := rfl

theorem relock_mon (s : State) : s.relock.mon = s.mon := by
  rw [relock_eq]
  split
  · rw [(portReset_rest _).1, unlockEnds_eq, put_mon, clearPerturb_mon, debugHalts_mon, unlockCleared_mon]
  · rfl

theorem unlockCleared_shows (s : State) : s.unlockCleared.rd MON.SCOPE = 0 ∧ s.unlockCleared.rd MON.UNLOCK_LEFT = 0
    ∧ s.unlockCleared.on MON.INT_RELOCK = true := by
  refine ⟨?_, ?_, State.on_put_self _ _ _ (by decide)⟩
  · exact ((((KeepsRegs.refl [MON.UNLOCK_LEFT.key, MON.INT_RELOCK.key] _).wr _ _ (by decide)).put _ _ (by decide)) _ (by decide)).trans
      (State.rd_wr_self _ MON.SCOPE 0)
  · exact (((KeepsRegs.refl [MON.INT_RELOCK.key] _).put _ _ (by decide)) _ (by decide)).trans (State.rd_wr_self _ MON.UNLOCK_LEFT 0)

theorem unlockEnds_shows (s : State) : s.unlockEnds.rd MON.SCOPE = 0 ∧ s.unlockEnds.rd MON.UNLOCK_LEFT = 0
    ∧ s.unlockEnds.on MON.INT_RELOCK = true ∧ s.unlockEnds.on MON.ST_EXTEST = false ∧ (∀ q < 183, s.unlockEnds.on (C.EN q) = false)
    ∧ ∀ n < 72, (s.unlockEnds.engine n).debugHalt = false := by
  obtain ⟨h1, h2, h3⟩ := unlockCleared_shows s
  have hfold := debugHalts_keep s.unlockCleared
  have hhalts := fun n hn => debugHalts_end s.unlockCleared (k := n) hn
  rw [unlockEnds_eq]
  generalize (List.range 72).foldl State.endDebugHalt s.unlockCleared = t at *
  have hclear := clearPerturb_keeps t
  have hen := fun q hq => clearPerturb_clears t (p := q) hq
  have hframe := clearPerturb_frame t
  have hback (f : Fld) (hkey : f.key < 0x6F * 32768) (hperturb : f.key % 32768 ≠ 351) (hne : f.key ≠ MON.ST_EXTEST.key) :
      (t.clearPerturb.put MON.ST_EXTEST false).rd f = s.unlockCleared.rd f :=
    (State.rd_put_ne _ _ _ _ hne).trans ((hclear f (not_mem_perturbKeys hperturb)).trans (hfold f (not_mem_debugHaltKeys hkey)))
  refine ⟨(hback _ (by decide) (by decide) (by decide)).trans h1, (hback _ (by decide) (by decide) (by decide)).trans h2,
    (congrArg (· != 0) (hback _ (by decide) (by decide) (by decide))).trans h3, State.on_put_self _ _ _ (by decide), fun q hq => ?_, fun n hn => ?_⟩
  · rw [State.on_put_ne _ _ _ _ (by simp only [C.EN, MON.ST_EXTEST, fld_key, pageBits]; omega)]
    exact hen q hq
  · have hengines := congrArg (fun u : State => (u.engine n).debugHalt) hframe
    clear hback hclear hen hframe hfold
    generalize t.clearPerturb = u at *
    exact hengines.trans (hhalts n hn)

theorem relock_relocked (s : State) : Relocked s s.relock := by
  refine ⟨relock_locks s, fun hon => ?_⟩
  rw [relock_eq, if_pos hon]
  obtain ⟨h1, h2, h3, h4, h5, h6⟩ := unlockEnds_shows s
  obtain ⟨-, hengines, hregs, hinstr, hrst⟩ := portReset_rest s.unlockEnds
  generalize s.unlockEnds.portReset = t at *
  generalize s.unlockEnds = u at *
  have hrd (f : Fld) : t.rd f = u.rd f := congrArg (fun r : Regs => r.cur.rd f) hregs
  have hon (f : Fld) : t.on f = u.on f := congrArg (· != 0) (hrd f)
  refine ⟨(hrd _).trans h1, (hrd _).trans h2, (hon _).trans h3, (hon _).trans h4, hinstr, fun q hq => (hon _).trans (h5 q hq), fun n hn => ?_, ?_⟩
  · rw [State.engine, hengines]
    exact h6 n hn
  · rw [hrst]
    exact endDebug_gone _

/-! ### Debug halts (R527) -/

/-- What an engine's halting and resuming leave alone: the port, and whether the engine is held by the debugger. -/
def State.debugPart (s : State) (k : Nat) : MonState × Bool := (s.mon, (s.engine k).debugHalt)

section
variable (k : Nat)

theorem fault_debugPart (s : State) (p b : Nat) : (s.fault p b).debugPart k = s.debugPart k := by
  obtain ⟨r, posts, h⟩ := State.fault_state s p b
  rw [h]
  rfl

theorem setEngine_debugPart (s : State) {e : Engine} (h : e.debugHalt = (s.engine k).debugHalt) :
    (s.setEngine k e).debugPart k = s.debugPart k := by
  unfold State.debugPart
  rw [State.engine_set, h]
  rfl

theorem pushEntry_debugPart (s : State) (h : Nat) (e : Entry) : (s.pushEntry h e).debugPart k = s.debugPart k := by
  unfold State.pushEntry
  split <;> rfl

theorem callFrameEnd_debugPart (s : State) (x : ShotRef) : (s.callFrameEnd k x).debugPart k = s.debugPart k := by
  unfold State.callFrameEnd
  split
  · rfl
  · refine (setEngine_debugPart k _ ?_).trans (setEngine_debugPart k s ?_)
    · rfl
    · rfl

theorem writeMarker_debugPart (s : State) (x : ShotRef) (outcome records : Nat) :
    (s.writeMarker k x outcome records).debugPart k = s.debugPart k := by
  have hpush := pushEntry_debugPart k s (k / 8) { marker := true, word := markerWord x outcome records, re := k }
  refine (callFrameEnd_debugPart k _ x).trans ?_
  split
  · refine (setEngine_debugPart k _ ?_).trans hpush
    exact (congrArg Prod.snd hpush).symm
  · exact hpush

theorem giveUpOpt_debugPart (s : State) (x : Option ShotRef) : (s.giveUpOpt k x).debugPart k = s.debugPart k := by
  cases x with
  | none => rfl
  | some x =>
    refine (writeMarker_debugPart k _ x ocSkipped 0).trans ?_
    have hcount : ((s.setEngine k { s.engine k with skippedFrame := (s.engine k).skippedFrame + 1 }).raise (RE.INT_SKIPPED k)).debugPart k
        = s.debugPart k := setEngine_debugPart k s rfl
    split
    · exact (fault_debugPart k _ _ _).trans hcount
    · exact hcount

theorem retireOld_debugPart (s : State) : s.retireOld.debugPart k = s.debugPart k := by
  obtain ⟨r, c, h⟩ := retireOld_state s
  rw [h]
  rfl

theorem reHalted_debugPart (s : State) : (s.reHalted k).debugPart k = s.debugPart k := by
  refine (retireOld_debugPart k _).trans ?_
  refine (giveUpOpt_debugPart k _ _).trans ?_
  exact setEngine_debugPart k s rfl

theorem pRe_unit : (0x6F ≤ pRe k) ∧ pRe k ≠ pSCN ∧ pRe k - 0x6F = k := by
  have hp : pRe k = 0x6F + k := rfl
  simp only [hp, pSCN]
  omega

theorem pRe_haltable : haltable (pRe k) = true ∧ isGroup (pRe k) = false := by
  obtain ⟨hge, -, -⟩ := pRe_unit k
  refine ⟨?_, (Bool.not_eq_true _).mp fun h => absurd (isGroup_below h) (Nat.not_lt.mpr hge)⟩
  unfold haltable
  rw [decide_eq_true hge]
  rfl

theorem unitHalts_debugPart (s : State) : (s.unitHalts (pRe k)).debugPart k = s.debugPart k := by
  obtain ⟨hge, hscn, hsub⟩ := pRe_unit k
  unfold State.unitHalts
  rw [if_neg hscn, if_pos hge, hsub]
  exact reHalted_debugPart k s

theorem setReState_mon (s : State) (st : Nat) : (s.setReState k st).mon = s.mon := rfl

theorem haltSelf_mon (s : State) : (s.haltSelf k).mon = s.mon := rfl

theorem checkAbi_mon (s : State) : (s.checkAbi k).mon = s.mon := by
  unfold State.checkAbi
  extract_lets e w s1 e1 s2
  clear_value e1
  split
  · have h1 : s1.mon = s.mon := rfl
    clear_value s1
    rw [setReState_mon, haltSelf_mon]
    exact h1
  · have h2 : s2.mon = s.mon := rfl
    clear_value s2
    rw [setReState_mon]
    exact h2

theorem reResumed_mon (s : State) : (s.reResumed k).mon = s.mon := by
  unfold State.reResumed
  extract_lets e
  split
  · exact checkAbi_mon k s
  · rfl

theorem takeHalt_mon (s : State) : (s.takeHalt (pRe k)).mon = s.mon := by
  obtain ⟨hge, hscn, hsub⟩ := pRe_unit k
  unfold State.takeHalt
  split
  · rfl
  · split
    · exact congrArg Prod.fst (unitHalts_debugPart k _)
    · unfold State.unitResumes
      rw [if_neg hscn, if_pos hge, hsub]
      exact reResumed_mon k _

theorem takeHalt_debugPart {s : State} (h : s.on (C.HALT (pRe k)) = true) : (s.takeHalt (pRe k)).debugPart k = s.debugPart k := by
  unfold State.takeHalt
  rw [h]
  split
  · rfl
  · exact unitHalts_debugPart k _

theorem resumeLeaf_mon (s : State) : (s.resumeLeaf (pRe k)).mon = s.mon := by
  unfold State.resumeLeaf
  split
  · rfl
  · dsimp only
    split
    · exact takeHalt_mon k _
    · rfl

/-- HALT of an engine that runs, outside OPERATIONAL and DEGRADED. -/
theorem haltLeaf_engine {s : State} (hk : k < 72) (hrun : s.runs (pRe k) = true) (hhalt : s.on (C.HALT (pRe k)) = false) (hop : s.operating = false) :
    (s.haltLeaf (pRe k)).on (C.HALT (pRe k)) = true ∧ (s.haltLeaf (pRe k)).debugPart k = s.debugPart k := by
  obtain ⟨hhaltable, hgroup⟩ := pRe_haltable k
  have hself : (s.put (C.HALT (pRe k)) true).on (C.HALT (pRe k)) = true := State.on_put_self _ _ _ Nat.one_pos
  have hruns : (s.put (C.HALT (pRe k)) true).runs (pRe k) = true := by
    refine (runs_of_regs (s := s) (t := s.put (C.HALT (pRe k)) true) rfl (State.rd_put_ne s _ _ _ ?_)).trans hrun
    have hdom : domainOf (pRe k) < 183 := domainOf_lt (by simp only [pRe]; omega)
    simp only [PWR.DOM_ON, C.HALT, fld_key, pageBits]
    omega
  rw [haltLeaf_taken hhaltable hhalt (by rw [hop]; rfl)]
  split
  · exact ⟨(takeHalt_halts hself hruns hgroup).1, takeHalt_debugPart k hself⟩
  · exact ⟨hself, rfl⟩
end

/-! ### Debug resets (R528) -/

/-- A source of reach SUBTREE opens the only episode. -/
theorem assertReset_subtree {s : State} {src : Source} (hgap : s.pwr.hold = false) (hnone : s.rst.episodes = []) (pages : List Nat)
    (target : Option Nat) : OpensEpisode src 2 pages (s.assertReset src 2 pages target) := by
  unfold State.assertReset
  rw [State.sourceWaits_false s src.code hgap, if_neg Bool.false_ne_true, hnone]
  extract_lets cover hits old before one whole widens known ep _ s1
  have heps : s1.rst.episodes = [ep] := rfl
  have hnarrow : (widens && decide ((2 : Nat) ≤ 1)) = false := Bool.and_false _
  have hwhole : ep.sources = [src] ∧ ep.reach = 2 ∧ ep.pages = pages ∧ ep.toApply = pages ∧ ep.ncause = 1
      ∧ ep.causes.map (·.2) = [src.code] := ⟨rfl, rfl, rfl, rfl, rfl, rfl⟩
  rw [List.any_nil, if_neg Bool.false_ne_true, hnarrow, if_neg Bool.false_ne_true]
  clear_value ep s1
  obtain ⟨hopen, hcount⟩ := showRst_open s1
  rw [heps] at hopen hcount
  obtain ⟨hsources, hreach, hpages, happly, hn, hcauses⟩ := hwhole
  exact ⟨_, (congrArg RstState.episodes (SafFrame.showRst s1).rst).trans heps, hsources, hreach, hpages, happly, hn, hcauses, hopen, hcount⟩

theorem showRst_mon (s : State) : s.showRst.mon = s.mon := (congrArg State.mon (SafFrame.showRst s).rest).trans rfl

theorem holdsOff_mon (s : State) : s.holdsOff.mon = s.mon := (congrArg State.mon (holdsOff_keeps s).2.rest).trans rfl

theorem assertReset_mon (s : State) (src : Source) (reach : Nat) (pages : List Nat) (target : Option Nat) :
    (s.assertReset src reach pages target).mon = s.mon := by
  rcases assertReset_cases s src reach pages target with ⟨-, h⟩ | h | ⟨eps, n, h | h⟩ <;> rw [h]
  · rfl
  · exact (showRst_mon _).trans rfl
  · rw [showRst_mon, clearHolds_eq]
    exact (holdsOff_mon (s.episodesSet eps n)).trans rfl

theorem deassertReset_mon (s : State) (code detail : Nat) : (s.deassertReset code detail).mon = s.mon := by
  unfold State.deassertReset
  split <;> rfl

end Sys2Proof.Machine
end

section
/-! PROOFS. The statement about test access (R523 to R531). -/
namespace Sys2Proof.Machine
open Sys2Proof

section
variable {s : State}

/-! ### Unlock and its tokens (R523, R524) -/

theorem operating_counted (s : State) (f : Fld) (d : Nat) (h : SAF.STATE.key ≠ f.key) : (s.count f d).operating = s.operating :=
  operating_of_rd (State.rd_wr_ne s _ _ _ h)

/-- The unlock count after one more. -/
theorem unlockCount_next (s : State) (f : Fld) (hw : f.width = 16) : (s.count f 1).rd f = min (s.rd f + 1) 65535 := by
  rw [State.count, State.rd_wr_self, satAdd, hw]
  exact Nat.mod_eq_of_lt (by omega)

theorem unlock_answers (h : s.reads) : (s.operating = false → ∃ challenge, challenge = shake256 (deviceId ++ leBytes 8 s.acq.time.toNat
      ++ leBytes 4 (min (s.rd MON.UNLOCK_COUNT + 1) 65535)) 16
      ∧ AnswersWith s .unlock [hexBytes challenge] "OK" fun t => t.mon.challenge = some challenge
        ∧ t.rd MON.UNLOCK_COUNT = min (s.rd MON.UNLOCK_COUNT + 1) 65535 ∧ KeepsRegs [MON.UNLOCK_COUNT.key] s t)
    ∧ (s.operating = true → AnswersWith s .unlock [] "E 03 STATE" fun t => t.mon.challenge = none
        ∧ t.rd MON.UNLOCK_COUNT = min (s.rd MON.UNLOCK_COUNT + 1) 65535) := by
  have hcount : (s.heard.count MON.UNLOCK_COUNT 1).rd MON.UNLOCK_COUNT = min (s.rd MON.UNLOCK_COUNT + 1) 65535 := unlockCount_next s.heard _ rfl
  have hkeeps : KeepsRegs [MON.UNLOCK_COUNT.key] s (s.heard.count MON.UNLOCK_COUNT 1) :=
    ((KeepsRegs.refl _ s).of_cur rfl : KeepsRegs _ s s.heard).wr _ _ (by decide)
  refine ⟨fun hop => ⟨_, rfl, ?_⟩, fun hop => ?_⟩
  · rw [← hcount]
    exact carrel_answers h rfl (fun e => absurd e Bool.false_ne_true) (if_neg (by rw [show s.heard.operating = s.operating from rfl, hop]; decide)) rfl
      ⟨rfl, rfl, hkeeps⟩
  · exact carrel_answers h rfl (fun e => absurd e Bool.false_ne_true) (if_pos hop) rfl ⟨rfl, hcount⟩

theorem token_refused (h : s.reads) (body signature : List Byte) (hop : s.operating = true) :
    AnswersWith s (.token body signature) [] "E 03 STATE" fun t => t.regs = s.regs :=
  carrel_answers h rfl (fun e => absurd e Bool.false_ne_true) (if_pos hop) rfl rfl

theorem slice_getD (l : List Byte) (a n : Nat) (h : a + n ≤ l.length) : slice (fun i => l.getD i 0) a n = (l.drop a).take n := by
  refine List.ext_getElem (by simp [slice]; omega) fun i h1 h2 => ?_
  rw [List.length_take, List.length_drop] at h2
  rw [List.getElem_take, List.getElem_drop]
  simp only [slice, List.getElem_map, List.getElem_range]
  exact List.getD_eq_getElem l 0 (by omega)

theorem tokenOk_passes {body signature : List Byte} (hlen : body.length = 64) (hsig : signature.length = 2820)
    (hmagic : (body.drop 0).take 5 = [0x48, 0x4A, 0x54, 0x55, 1]) (hzero : (body.drop 6).take 2 = [0, 0]) (hlow : 1 ≤ (body.getD 5 0).toNat)
    (hhigh : (body.getD 5 0).toNat ≤ 7) (hid : (body.drop 8).take 32 = deviceId) (hchal : s.mon.challenge = some ((body.drop 0x28).take 16))
    (hone : 1 ≤ ofLeBytes ((body.drop 0x38).take 4)) (hday : ofLeBytes ((body.drop 0x38).take 4) ≤ 86400)
    (hend : (body.drop 0x3C).take 4 = [0, 0, 0, 0]) (hver : Config.xmssVerify rootKey body signature = true) :
    s.tokenOk body signature = true := by
  have hslice (a n : Nat) (h : a + n ≤ 64) : slice (fun i => body.getD i 0) a n = (body.drop a).take n := slice_getD body a n (hlen ▸ h)
  have hfirst := (hslice 0 5 (by decide)).trans hmagic
  have hfour : slice (fun i => body.getD i 0) 0 4 = magicToken := congrArg (List.take 4) hfirst
  have hversion : body.getD 4 0 = 1 := congrArg (fun l => List.getD l 4 0) hfirst
  unfold State.tokenOk sliceLe
  dsimp only
  rw [show decide (body.getD 4 0 = 1) = true from decide_eq_true hversion, hslice 6 2 (by decide), hslice 8 32 (by decide), hslice 0x28 16 (by decide), hslice 0x38 4 (by decide), hslice 0x3C 4 (by decide)]
  rw [decide_eq_true hlow, decide_eq_true hhigh, decide_eq_true hone, decide_eq_true hday, hlen, hsig, hfour, hzero, hid, hchal, hend, hver]
  simp [ofLeBytes]

theorem tokenOk_fails {body signature : List Byte}
    (hbad : s.mon.challenge = none ∨ Config.xmssVerify rootKey body signature = false ∨ body.length ≠ 64) : s.tokenOk body signature = false := by
  unfold State.tokenOk
  extract_lets rd scope duration
  rcases hbad with h | h | h
  · rw [h]
    simp
  · rw [h, Bool.and_false]
  · rw [decide_eq_false h]
    simp only [Bool.false_and]

/-- Test access unlocked for a token's scope and duration. -/
def State.tokenTaken (s : State) (scope duration : Nat) : State :=
  { ((((s.put MON.UNLOCKED true).put MON.ST_UNLOCKED true).wr MON.SCOPE scope).wr MON.UNLOCK_LEFT duration).raise MON.INT_UNLOCK with
    mon.challenge := none }

/-- A token that has failed. -/
def State.tokenFailed (s : State) : State := (s.count MON.UNLOCK_FAIL 1).fault pMON 0

/-- What TOKEN answers. -/
def tokenReply (body signature : List Byte) (s : State) : Reply :=
  if s.operating then { state := s, status := ansState }
  else if s.tokenOk body signature then { state := s.tokenTaken (body.getD 5 0).toNat (sliceLe (fun i => body.getD i 0) 0x38 4) }
  else { state := s.tokenFailed, status := ansCheck }

theorem exec_token (s : State) (body signature : List Byte) :
    exec (.token body signature) s = .next (s.carrel false true false (tokenReply body signature)) := rfl

theorem tokenReply_passes {body signature : List Byte} (hop : s.operating = false) (hok : s.tokenOk body signature = true) :
    tokenReply body signature s = { state := s.tokenTaken (body.getD 5 0).toNat (sliceLe (fun i => body.getD i 0) 0x38 4) } := by
  rw [tokenReply, hop, if_neg Bool.false_ne_true, if_pos hok]

theorem tokenReply_fails {body signature : List Byte} (hop : s.operating = false) (hbad : s.tokenOk body signature = false) :
    tokenReply body signature s = { state := s.tokenFailed, status := ansCheck } := by
  rw [tokenReply, hop, if_neg Bool.false_ne_true, hbad, if_neg Bool.false_ne_true]

theorem tokenTaken_shows (s : State) {scope duration : Nat} (hscope : scope ≤ 7) (hday : duration ≤ 86400) :
    (s.tokenTaken scope duration).on MON.UNLOCKED = true ∧ (s.tokenTaken scope duration).rd MON.SCOPE = scope
      ∧ (s.tokenTaken scope duration).rd MON.UNLOCK_LEFT = duration ∧ (s.tokenTaken scope duration).on MON.INT_UNLOCK = true := by
  refine ⟨?_, ?_, ?_, State.on_put_self _ MON.INT_UNLOCK true (by decide)⟩
  · have hk := ((((KeepsRegs.refl [MON.ST_UNLOCKED.key, MON.SCOPE.key, MON.UNLOCK_LEFT.key, MON.INT_UNLOCK.key] (s.put MON.UNLOCKED true)).put
      MON.ST_UNLOCKED true (by decide)).wr MON.SCOPE scope (by decide)).wr MON.UNLOCK_LEFT duration (by decide)).put MON.INT_UNLOCK true (by decide)
    exact (congrArg (· != 0) (hk MON.UNLOCKED (by decide))).trans (State.on_put_self _ _ _ (by decide))
  · have hk := ((KeepsRegs.refl [MON.UNLOCK_LEFT.key, MON.INT_UNLOCK.key] (((s.put MON.UNLOCKED true).put MON.ST_UNLOCKED true).wr MON.SCOPE scope)).wr
      MON.UNLOCK_LEFT duration (by decide)).put MON.INT_UNLOCK true (by decide)
    refine (hk MON.SCOPE (by decide)).trans ((State.rd_wr_self _ _ _).trans (Nat.mod_eq_of_lt ?_))
    show scope < 2 ^ 3
    omega
  · refine (State.rd_put_ne _ MON.INT_UNLOCK MON.UNLOCK_LEFT true (by decide)).trans ((State.rd_wr_self _ _ _).trans (Nat.mod_eq_of_lt ?_))
    show duration < 2 ^ 17
    omega

theorem tokenTaken_mon (s : State) (scope duration : Nat) : (s.tokenTaken scope duration).mon = { s.mon with challenge := none } := rfl

theorem tokenFailed_shows (s : State) : s.tokenFailed.rd MON.UNLOCK_FAIL = min (s.rd MON.UNLOCK_FAIL + 1) 65535
    ∧ s.tokenFailed.on (C.FAULT pMON 0) = true ∧ s.tokenFailed.on MON.UNLOCKED = s.on MON.UNLOCKED ∧ s.tokenFailed.mon = s.mon := by
  have hkeeps := fault_keepsRegs (s.count MON.UNLOCK_FAIL 1) pMON 0
  have hmon : (s.count MON.UNLOCK_FAIL 1).mon = s.mon := rfl
  refine ⟨(hkeeps _ (by decide)).trans (unlockCount_next s _ rfl), fault_on_self _ (by decide) (by decide), ?_, ?_⟩
  · exact congrArg (· != 0) ((hkeeps MON.UNLOCKED (by decide)).trans (State.rd_wr_ne s _ _ _ (by decide)))
  · unfold State.tokenFailed
    generalize s.count MON.UNLOCK_FAIL 1 = u at *
    exact ((congrArg State.mon (SafFrame.fault (SafFrame.refl u) pMON 0).rest).trans rfl).trans hmon

theorem heard_tokenOk (s : State) (body signature : List Byte) : s.heard.tokenOk body signature = s.tokenOk body signature := rfl

theorem token_answers (h : s.reads) {body signature : List Byte} (hop : s.operating = false) :
    (s.tokenOk body signature = true → (body.getD 5 0).toNat ≤ 7 → ofLeBytes ((body.drop 0x38).take 4) ≤ 86400 → body.length = 64 →
      AnswersWith s (.token body signature) [] "OK" fun t => t.on MON.UNLOCKED = true
        ∧ t.rd MON.SCOPE = (body.getD 5 0).toNat ∧ t.rd MON.UNLOCK_LEFT = ofLeBytes ((body.drop 0x38).take 4) ∧ t.mon.challenge = none
        ∧ t.on MON.INT_UNLOCK = true)
    ∧ (s.tokenOk body signature = false → AnswersWith s (.token body signature) [] "E 07 CHECK" fun t =>
        t.rd MON.UNLOCK_FAIL = min (s.rd MON.UNLOCK_FAIL + 1) 65535
          ∧ t.on (C.FAULT pMON 0) = true ∧ t.on MON.UNLOCKED = s.on MON.UNLOCKED ∧ t.mon.challenge = s.mon.challenge) := by
  have hop' : s.heard.operating = false := hop
  refine ⟨fun hok hscope hday hlen => ?_, fun hbad => ?_⟩
  · have hleft : sliceLe (fun i => body.getD i 0) 0x38 4 = ofLeBytes ((body.drop 0x38).take 4) :=
      congrArg ofLeBytes (slice_getD body 0x38 4 (by omega))
    obtain ⟨h1, h2, h3, h4⟩ := tokenTaken_shows s.heard hscope (hleft ▸ hday)
    have hok' : s.heard.tokenOk body signature = true := (heard_tokenOk s body signature).trans hok
    have hreply := tokenReply_passes hop' hok'
    have hmon := tokenTaken_mon s.heard (body.getD 5 0).toNat (sliceLe (fun i => body.getD i 0) 0x38 4)
    generalize s.heard.tokenTaken (body.getD 5 0).toNat (sliceLe (fun i => body.getD i 0) 0x38 4) = u at *
    refine carrel_answers (u := u) h (exec_token s body signature) (fun e => absurd e Bool.false_ne_true) hreply ?_
      ⟨h1, h2, h3.trans hleft, (congrArg MonState.challenge hmon :), h4⟩
    rw [hmon]
    rfl
  · obtain ⟨h1, h2, h3, h4⟩ := tokenFailed_shows s.heard
    have hbad' : s.heard.tokenOk body signature = false := (heard_tokenOk s body signature).trans hbad
    have hreply := tokenReply_fails hop' hbad'
    generalize s.heard.tokenFailed = u at *
    refine carrel_answers (u := u) h (exec_token s body signature) (fun e => absurd e Bool.false_ne_true) hreply ?_
      ⟨h1, h2, h3, (congrArg MonState.challenge h4 :)⟩
    rw [h4]
    rfl

theorem lock_answers (h : s.reads) : AnswersWith s .lock [] "OK" (Relocked s) := by
  have hrelocked := relock_relocked s.heard
  refine carrel_answers (u := s.heard.relock) h rfl (fun e => absurd e Bool.false_ne_true) rfl ?_ ?_
  · rw [relock_mon]
    rfl
  · generalize s.heard.relock = u at *
    exact hrelocked

/-! ### Debug halts (R527) -/

section
variable {re : Fin 72}

/-- An engine that the debugger holds. -/
def State.heldRe (s : State) (k : Nat) : State := s.setEngine k { s.engine k with debugHalt := true }

theorem heldRe_rest (s : State) (k : Nat) : (s.heldRe k).mon = s.mon ∧ (s.heldRe k).regs = s.regs ∧ ((s.heldRe k).engine k).debugHalt = true :=
  ⟨rfl, rfl, congrArg Engine.debugHalt (State.engine_set s k _)⟩

theorem exec_haltRe (s : State) (re : Fin 72) : exec (.haltRe re) s = .next (s.carrel false true true fun s =>
    if !s.runs (pRe re) then { state := s.err (C.ERR_STATE (pRe re)), status := ansState }
    else if s.on (C.HALT (pRe re)) then { state := s }
    else { state := (s.heldRe re).haltLeaf (pRe re) }) := rfl

theorem haltRe_answers (h : s.reads) (hopen : s.opened) :
    (s.runs (pRe re) = true →
        (s.on (C.HALT (pRe re)) = false → s.operating = false →
          AnswersWith s (.haltRe re) [] "OK" fun t => t.on (C.HALT (pRe re)) = true ∧ (t.engine re).debugHalt = true)
        ∧ (s.on (C.HALT (pRe re)) = true → AnswersWith s (.haltRe re) [] "OK" fun t => t.regs = s.regs ∧ t.engines = s.engines))
      ∧ (s.runs (pRe re) = false →
        AnswersWith s (.haltRe re) [] "E 03 STATE" fun t => t.on (C.ERR_STATE (pRe re)) = true ∧ t.engines = s.engines) := by
  have hself (hrun : s.runs (pRe re) = true) : ¬(!s.heard.runs (pRe re)) = true := by
    rw [show s.heard.runs (pRe re) = s.runs (pRe re) from rfl, hrun]
    decide
  refine ⟨fun hrun => ⟨fun hhalt hop => ?_, fun hhalt => ?_⟩, fun hrun => ?_⟩
  · have hne : ¬s.heard.on (C.HALT (pRe re)) = true := by rw [show s.heard.on (C.HALT (pRe re)) = s.on (C.HALT (pRe re)) from rfl, hhalt]; decide
    obtain ⟨hon, hpart⟩ := haltLeaf_engine (re : Nat) (s := s.heard.heldRe re) re.isLt hrun hhalt hop
    obtain ⟨hmon, -, hheld⟩ := heldRe_rest s.heard re
    have hform : (if !s.heard.runs (pRe re) then ({ state := s.heard.err (C.ERR_STATE (pRe re)), status := ansState } : Reply)
        else if s.heard.on (C.HALT (pRe re)) then { state := s.heard } else { state := (s.heard.heldRe re).haltLeaf (pRe re) })
        = { state := (s.heard.heldRe re).haltLeaf (pRe re) } := (if_neg (hself hrun)).trans (if_neg hne)
    have hmon' := (congrArg Prod.fst hpart).trans hmon
    have hheld' := (congrArg Prod.snd hpart).trans hheld
    refine carrel_answers h (exec_haltRe s re) (fun _ => hopen) hform ?_ ?_
    · exact hmon'.trans (congrArg (fun m : MonState => { s.heardMon with challenge := m.challenge }) hmon').symm
    · generalize (s.heard.heldRe re).haltLeaf (pRe re) = u at *
      exact ⟨hon, hheld'⟩
  · exact carrel_answers (u := s.heard) h rfl (fun _ => hopen) ((if_neg (hself hrun)).trans (if_pos hhalt)) rfl ⟨rfl, rfl⟩
  · refine carrel_answers (u := s.heard.err (C.ERR_STATE (pRe re))) h rfl (fun _ => hopen) (if_pos ?_) rfl ⟨?_, rfl⟩
    · rw [show s.heard.runs (pRe re) = s.runs (pRe re) from rfl, hrun]
      rfl
    · exact State.on_put_self s.heard _ _ Nat.one_pos

theorem endDebugHalt_shows {s : State} {k : Nat} (h : (s.engine k).debugHalt = true) :
    (s.endDebugHalt k).on (C.HALT (pRe k)) = false ∧ (s.endDebugHalt k).on (C.HALTED (pRe k)) = false := by
  unfold State.endDebugHalt
  rw [if_pos h]
  generalize s.setEngine k { s.engine k with debugHalt := false } = u
  have hhalted : ((u.put (C.HALT (pRe k)) false).put (C.HALTED (pRe k)) false).on (C.HALT (pRe k)) = false :=
    (State.on_put_ne _ _ _ _ (by simp only [C.HALT, C.HALTED, fld_key]; omega)).trans (State.on_put_self _ _ _ Nat.one_pos)
  refine ⟨(State.on_put_ne _ _ _ _ ?_).trans hhalted, (State.on_put_ne _ _ _ _ ?_).trans (State.on_put_self _ _ _ Nat.one_pos)⟩
  · simp only [C.HALT, RE.ST_SPARE, fld_key, pageBits, pRe]
    omega
  · simp only [C.HALTED, RE.ST_SPARE, fld_key, pageBits, pRe]
    omega

theorem goRe_answers (h : s.reads) (hopen : s.opened) :
    (s.runs (pRe re) = true →
        ((s.engine re).running.isSome = true → (s.engine re).debugHalt = true → AnswersWith s (.goRe re) [] "OK" fun t =>
          t.on (C.HALT (pRe re)) = false ∧ t.on (C.HALTED (pRe re)) = false ∧ t.engine re = { s.engine re with debugHalt := false })
        ∧ ((s.engine re).running.isSome = false ∨ (s.engine re).debugHalt = false → AnswersWith s (.goRe re) [] "OK" fun t =>
          t.regs = (s.heard.resumeLeaf (pRe re)).regs ∧ t.engines = (s.heard.resumeLeaf (pRe re)).engines))
      ∧ (s.runs (pRe re) = false →
        AnswersWith s (.goRe re) [] "E 03 STATE" fun t => t.on (C.ERR_STATE (pRe re)) = true ∧ t.engines = s.engines) := by
  have hself (hrun : s.runs (pRe re) = true) : ¬(!s.heard.runs (pRe re)) = true := by
    rw [show s.heard.runs (pRe re) = s.runs (pRe re) from rfl, hrun]
    decide
  refine ⟨fun hrun => ⟨fun hin hdebug => ?_, fun hidle => ?_⟩, fun hrun => ?_⟩
  · have hboth : ((s.heard.engine re).running.isSome && (s.heard.engine re).debugHalt) = true := by
      rw [show s.heard.engine re = s.engine re from rfl, hin, hdebug]
      rfl
    obtain ⟨h1, h2⟩ := endDebugHalt_shows (s := s.heard) hdebug
    have h3 := endDebugHalt_engine s.heard re
    refine carrel_answers (u := s.heard.endDebugHalt re) h rfl (fun _ => hopen) ((if_neg (hself hrun)).trans (if_pos hboth)) ?_ ⟨?_, ?_, ?_⟩
    · rw [endDebugHalt_mon]
      rfl
    · exact h1
    · exact h2
    · exact h3
  · have hone : ¬((s.heard.engine re).running.isSome && (s.heard.engine re).debugHalt) = true := by
      rw [show s.heard.engine re = s.engine re from rfl]
      rcases hidle with hi | hi <;> rw [hi] <;> simp
    refine carrel_answers (u := s.heard.resumeLeaf (pRe re)) h rfl (fun _ => hopen) ((if_neg (hself hrun)).trans (if_neg hone)) ?_ ⟨rfl, rfl⟩
    rw [resumeLeaf_mon]
    rfl
  · refine carrel_answers (u := s.heard.err (C.ERR_STATE (pRe re))) h rfl (fun _ => hopen) (if_pos ?_) rfl ⟨?_, rfl⟩
    · rw [show s.heard.runs (pRe re) = s.runs (pRe re) from rfl, hrun]
      rfl
    · exact State.on_put_self s.heard _ _ Nat.one_pos

theorem regsRe_answers (h : s.reads) (hopen : s.opened) :
    (s.runs (pRe re) = true → s.on (C.HALTED (pRe re)) = true →
      AnswersWith s (.regsRe re) (s.engine re).regLines "OK" fun t => t.engines = s.engines)
    ∧ (s.runs (pRe re) = false ∨ s.on (C.HALTED (pRe re)) = false → AnswersWith s (.regsRe re) [] "E 03 STATE" fun t => t.engines = s.engines) := by
  have hcond : (s.heard.runs (pRe re) && s.heard.on (C.HALTED (pRe re))) = (s.runs (pRe re) && s.on (C.HALTED (pRe re))) := rfl
  refine ⟨fun hrun hhalted => ?_, fun hnot => ?_⟩
  · exact carrel_answers (u := s.heard) h rfl (fun _ => hopen) (if_pos (by rw [hcond, hrun, hhalted]; rfl)) rfl rfl
  · refine carrel_answers (u := s.heard) h rfl (fun _ => hopen) (if_neg ?_) rfl rfl
    rw [hcond]
    rcases hnot with hi | hi <;> rw [hi] <;> simp
end

/-! ### Debug resets (R528) -/

theorem dresetSys_answers (h : s.reads) (hopen : s.opened) (hgap : s.pwr.hold = false) (hnone : s.rst.episodes = []) :
    AnswersWith s .dresetSys [] "OK" (OpensEpisode ⟨6, 1, true⟩ 1 systemPages) := by
  have hopens := assertReset_system (s := s.heard) (src := ⟨6, 1, true⟩) (.inl ⟨rfl, rfl⟩) hgap hnone none
  have hmon := assertReset_mon s.heard ⟨6, 1, true⟩ 1 [] none
  refine carrel_answers (u := s.heard.assertReset ⟨6, 1, true⟩ 1 [] none) h rfl (fun _ => hopen) rfl ?_ ?_
  · rw [hmon]
    rfl
  · generalize s.heard.assertReset ⟨6, 1, true⟩ 1 [] none = u at *
    exact hopens

theorem inHousing_iff (addr : Word) : (addr.toNat < 0x40000000 || decide (0x40FFFFFF < addr.toNat)) = true ↔ addr.toNat / 2 ^ 24 ≠ 0x40 := by
  simp only [Bool.or_eq_true, decide_eq_true_eq]
  omega

theorem dresetSubtree_value (h : s.reads) (hopen : s.opened) {addr : Word}
    (hbad : addr.toNat / 2 ^ 24 ≠ 0x40 ∨ resetTarget (addr.toNat - 0x40000000) = none) :
    AnswersWith s (.dresetSubtree addr) [] "E 05 VALUE" fun t => t.regs = s.regs ∧ t.rst = s.rst := by
  refine carrel_answers (u := s.heard) h rfl (fun _ => hopen) ?_ rfl ⟨rfl, rfl⟩
  dsimp only
  split
  · rfl
  · next hin =>
    rcases hbad with hb | hb
    · exact absurd ((inHousing_iff addr).mpr hb) hin
    · rw [hb] <;> rfl

theorem dresetSubtree_target (h : s.reads) (hopen : s.opened) {addr : Word} {p : Nat} (hin : addr.toNat / 2 ^ 24 = 0x40)
    (hp : resetTarget (addr.toNat - 0x40000000) = some p) (hhost : pHCP ∉ subtree p) :
    (s.debugHeld = true → AnswersWith s (.dresetSubtree addr) [] "E 04 BUSY" fun t => t.regs = s.regs ∧ t.rst = s.rst)
    ∧ (s.pwr.hold = false → s.rst.episodes = [] → AnswersWith s (.dresetSubtree addr) [] "OK" (OpensEpisode ⟨6, 0, false⟩ 2 (subtree p))) := by
  have hout : ¬(decide (addr.toNat < 0x40000000) || decide (0x40FFFFFF < addr.toNat)) = true := fun e => (inHousing_iff addr).mp e hin
  have hfree : ¬(subtree p).contains pHCP = true := fun e => hhost (List.contains_iff_mem.mp e)
  refine ⟨fun hheld => ?_, fun hgap hnone => ?_⟩
  · have hheld' : s.heard.debugHeld = true := hheld
    refine carrel_answers (u := s.heard) h rfl (fun _ => hopen) ?_ rfl ⟨rfl, rfl⟩
    dsimp only
    rw [if_neg hout, hp]
    exact (if_neg hfree).trans (if_pos hheld')
  · have hheld : ¬s.heard.debugHeld = true := by
      unfold State.debugHeld
      rw [show s.heard.rst = s.rst from rfl, hnone]
      decide
    have hopens := assertReset_subtree (s := s.heard) (src := ⟨6, 0, false⟩) hgap hnone (subtree p) (some p)
    have hmon : (s.heard.assertReset ⟨6, 0, false⟩ 2 (subtree p) (some p)).mon = s.heardMon := (assertReset_mon s.heard _ _ _ _).trans rfl
    refine carrel_answers (u := s.heard.assertReset ⟨6, 0, false⟩ 2 (subtree p) (some p)) h rfl (fun _ => hopen) ?_ ?_ ?_
    · dsimp only
      rw [if_neg hout, hp]
      exact (if_neg hfree).trans (if_neg hheld)
    · rw [hmon] <;> rfl
    · generalize s.heard.assertReset ⟨6, 0, false⟩ 2 (subtree p) (some p) = u at *
      exact hopens

theorem release_answers (h : s.reads) (hopen : s.opened) :
    (s.pwr.hold = false → AnswersWith s .release [] "OK" (SourceGone 6 0))
    ∧ (s.pwr.hold = true → AnswersWith s .release [] "OK" fun t => t.pwr.held = s.pwr.held ++ [.sourceEnds 6 0]) := by
  have hmon : (s.heard.deassertReset 6 0).mon = { s.heardMon with challenge := (s.heard.deassertReset 6 0).mon.challenge } := by
    rw [deassertReset_mon]
    rfl
  refine ⟨fun hgap => ?_, fun hgap => ?_⟩
  · have hgone := State.deassertReset_gone s.heard 6 0 (State.sourceWaits_false s.heard 6 hgap)
    refine carrel_answers (u := s.heard.deassertReset 6 0) h rfl (fun _ => hopen) rfl hmon ?_
    generalize s.heard.deassertReset 6 0 = u at *
    exact hgone
  · refine carrel_answers (u := s.heard.deassertReset 6 0) h rfl (fun _ => hopen) rfl hmon ?_
    have hwaits : s.heard.sourceWaits 6 = true := by rw [State.sourceWaits, show s.heard.pwr = s.pwr from rfl, hgap]; rfl
    have hkept : (s.heard.deassertReset 6 0).pwr.held = s.pwr.held ++ [.sourceEnds 6 0] := by rw [State.deassertReset, if_pos hwaits]; rfl
    exact hkept

/-! ### The test access port (R530) -/

theorem extestAllowed_iff (s : State) : s.extestAllowed = true
    ↔ s.on MON.UNLOCKED = true ∧ bit (s.rd MON.SCOPE) 2 = true ∧ (s.rd SAF.STATE = 0 ∨ s.rd SAF.STATE = 4) := by
  unfold State.extestAllowed
  rw [Bool.and_eq_true, Bool.and_eq_true, Bool.or_eq_true, decide_eq_true_eq, decide_eq_true_eq, and_assoc]
  rfl

theorem observed_levels (free prox : BitVec 79) (safe ctr : Bool) (h : prox.getLsbD 35 = false ∧ prox.getLsbD 39 = false) :
    ((free &&& ~~~observeOnly) ||| prox ||| cellOf 35 safe ||| cellOf 39 ctr).getLsbD 35 = safe
      ∧ ((free &&& ~~~observeOnly) ||| prox ||| cellOf 35 safe ||| cellOf 39 ctr).getLsbD 39 = ctr := by
  have hcells : ∀ b : Bool, (cellOf 35 b).getLsbD 35 = b ∧ (cellOf 35 b).getLsbD 39 = false ∧ (cellOf 39 b).getLsbD 39 = b
      ∧ (cellOf 39 b).getLsbD 35 = false := by decide
  have hobserve : (~~~observeOnly).getLsbD 35 = false ∧ (~~~observeOnly).getLsbD 39 = false := by decide
  simp only [BitVec.getLsbD_or, BitVec.getLsbD_and, hobserve, h, hcells, Bool.and_false, Bool.or_false, Bool.false_or, and_self]

theorem padsSeen_levels (s : State) : s.padsSeen.getLsbD 35 = s.on SAF.SAFE_OK ∧ s.padsSeen.getLsbD 39 = s.on SAF.CTR_EN := by
  unfold State.padsSeen
  extract_lets free prox
  refine observed_levels free prox _ _ ?_
  have hcell : ∀ b : Bool, (cellOf 34 b).getLsbD 35 = false ∧ (cellOf 34 b).getLsbD 39 = false := by decide
  cases hn : s.pins.proxN with
  | none =>
    have hprox : prox = free &&& cellOf 34 true := by simp only [prox, hn]
    rw [hprox, BitVec.getLsbD_and, BitVec.getLsbD_and, (hcell true).1, (hcell true).2, Bool.and_false, Bool.and_false]
    exact ⟨rfl, rfl⟩
  | some asserted =>
    have hprox : prox = cellOf 34 (!asserted) := by simp only [prox, hn]
    rw [hprox]
    exact hcell _

theorem locked_refuses (h : s.reads) (hlocked : ¬s.opened) (re : Fin 72) (addr : Word) :
    ∀ c ∈ ([.haltRe re, .goRe re, .regsRe re, .dresetSubtree addr, .dresetSys, .release] : List Instr),
      AnswersWith s c [] "E 02 LOCKED" fun t => t.regs = s.regs ∧ t.engines = s.engines ∧ t.rst = s.rst := by
  intro c hc
  simp only [List.mem_cons, List.not_mem_nil, or_false] at hc
  rcases hc with rfl | rfl | rfl | rfl | rfl | rfl <;> exact carrel_locked h rfl hlocked ⟨rfl, rfl, rfl⟩
end

/-- Settles O55: each command by its own lemma. -/
theorem testAccess : Obligations.TestAccess := by
  intro re addr body signature cells pins p s k e reads open_ expired heard replies relocked field may
  have hheard : heard = s.heard := snapExpires_eq s
  refine ⟨fun hreads => ⟨(unlock_answers hreads).1, fun hop => ⟨(unlock_answers hreads).2 hop, token_refused hreads body signature hop⟩, ?_, ?_,
    lock_answers hreads, fun hlocked => locked_refuses hreads hlocked re addr, fun hopen => ⟨fun hrun => ?_, fun hrun => ?_, ?_,
    dresetSys_answers hreads hopen, dresetSubtree_value hreads hopen, fun hin hp hhost => dresetSubtree_target hreads hopen hin hp hhost,
    (release_answers hreads hopen).1, (release_answers hreads hopen).2⟩⟩, ⟨_, rfl, relock_relocked s⟩, rfl, fun hmay => ?_, fun hmay => ?_, rfl, rfl⟩
  · intro hop hlen hsig hmagic hzero hlow hhigh hid hchal hone hday hend hver
    exact (token_answers hreads hop).1 (tokenOk_passes hlen hsig hmagic hzero hlow hhigh hid hchal hone hday hend hver) hhigh hday hlen
  · intro hop hbad
    exact (token_answers hreads hop).2 (tokenOk_fails hbad)
  · obtain ⟨hhalt, -⟩ := haltRe_answers (re := re) hreads hopen
    obtain ⟨hgo, -⟩ := goRe_answers (re := re) hreads hopen
    obtain ⟨hfree, hheld⟩ := hhalt hrun
    obtain ⟨hdebug, hidle⟩ := hgo hrun
    refine ⟨hfree, hheld, hdebug, ?_, (regsRe_answers hreads hopen).1 hrun⟩
    rw [hheard]
    exact hidle
  · exact ⟨(haltRe_answers hreads hopen).2 hrun, (goRe_answers hreads hopen).2 hrun⟩
  · exact (regsRe_answers hreads hopen).2
  · obtain ⟨hsafe, hctr⟩ := padsSeen_levels s
    exact ⟨_, congrArg Host.Outcome.next (if_pos ((extestAllowed_iff s).mpr hmay)), State.on_put_self s _ _ (by decide), rfl, rfl, hsafe, hctr⟩
  · exact ⟨_, congrArg Host.Outcome.next (if_neg fun h => hmay ((extestAllowed_iff s).mp h)), State.on_put_self s _ _ (by decide), rfl⟩

end Sys2Proof.Machine
end

section
/-! PROOFS. The blocks of PCA and their decoder (R251 to R258). -/
namespace Sys2Proof.Machine
open Sys2Proof

/-! ### What a decoder's output has passed -/

theorem readRecords_length (b : BlockOf) : ∀ (n : Nat) (c : Coder) (bs : List Bool) (ws : List Nat), readRecords b n c bs = some ws → ws.length = n
  | 0, _, bs, ws, h => by
    unfold readRecords at h
    split at h
    · exact (Option.some.inj h) ▸ rfl
    · exact absurd h (by simp)
  | n + 1, c, bs, ws, h => by
    rw [readRecords, Option.bind_eq_bind, Option.bind_eq_some_iff] at h
    obtain ⟨⟨w, c', rest⟩, -, h⟩ := h
    dsimp only at h
    rw [Option.bind_eq_bind, Option.bind_eq_some_iff] at h
    obtain ⟨tail, htail, h⟩ := h
    rw [← Option.some.inj h, List.length_cons, readRecords_length b n c' rest tail htail]

/-- The check that every output passes. -/
theorem checked_some {raw out : List Nat} {h : Nat} (e : (if blockCheck raw = bits h 0 16 then some raw else none) = some out) :
    raw = out ∧ blockCheck out = bits h 0 16 := by
  split at e
  · next hc => exact ⟨Option.some.inj e, (Option.some.inj e) ▸ hc⟩
  · exact absurd e (by simp)

/-- A decoder's output and the header of its block. -/
def Decoded (h : Nat) (payload raw : List Nat) : Prop :=
  payload.length = bits h 16 16 ∧ bits h 62 2 ≠ 3 ∧ blockCheck raw = bits h 0 16
    ∧ (bits h 62 2 = 2 → raw = payload ∧ payload.length = bits h 37 13)
    ∧ (bits h 62 2 = 0 → raw = payload ∧ payload.length = 1 + bits (payload.headD 0) 32 7 + bits h 37 13)
    ∧ (bits h 62 2 = 1 → raw.length = 1 + bits (payload.headD 0) 32 7 + bits h 37 13 ∧ payload.length < raw.length)

theorem decodeBlock_decoded {accession minor h : Nat} {payload raw : List Nat} (e : decodeBlock accession minor (h :: payload) = some raw) :
    Decoded h payload raw := by
  unfold decodeBlock at e
  dsimp only at e
  split at e
  · exact absurd e (by simp)
  · next hlen =>
    have hlen : payload.length = bits h 16 16 := by simpa using hlen
    unfold Decoded
    split at e
    · next hmode =>
      split at e
      · next hw =>
        obtain ⟨rfl, hc⟩ := checked_some e
        rw [hmode]
        exact ⟨hlen, by decide, hc, fun _ => ⟨rfl, hlen.trans hw⟩, fun e => absurd e (by decide), fun e => absurd e (by decide)⟩
      · exact absurd e (by simp)
    · next hmode =>
      split at e
      · next hw =>
        obtain ⟨rfl, hc⟩ := checked_some e
        rw [hmode]
        have hwords := of_decide_eq_true (Bool.and_eq_true_iff.mp hw).2
        exact ⟨hlen, by decide, hc, fun e => absurd e (by decide), fun _ => ⟨rfl, hlen.trans hwords⟩, fun e => absurd e (by decide)⟩
      · exact absurd e (by simp)
    · next hmode =>
      split at e
      · exact absurd e (by simp)
      · next hw =>
        split at e
        · next recs hrecs =>
          obtain ⟨rfl, hc⟩ := checked_some e
          have hn := readRecords_length _ _ _ _ _ hrecs
          rw [hmode]
          have hsize : (payload.take (1 + bits (payload.headD 0) 32 7) ++ recs).length = 1 + bits (payload.headD 0) 32 7 + bits h 37 13 := by
            simp only [Bool.or_eq_true, decide_eq_true_eq, not_or, not_le, not_lt] at hw
            rw [List.length_append, List.length_take, hn]
            omega
          refine ⟨hlen, by decide, hc, fun e => absurd e (by decide), fun e => absurd e (by decide), fun _ => ⟨hsize, ?_⟩⟩
          rw [hsize]
          simp only [Bool.or_eq_true, decide_eq_true_eq, not_or, not_le, not_lt] at hw
          omega
        · exact absurd e (by simp)
    · exact absurd e (by simp)

end Sys2Proof.Machine
end

section
/-! PROOFS. The column blocks and the ledger block leave (R243 to R246, R251 to R259). -/
namespace Sys2Proof.Machine
open Sys2Proof

/-! ### A block enters the buffer -/

/-- The buffer's two figures. -/
def bufferKeys : List Nat := [PCOD.OUT_FILL.key, PCOD.OUT_USED.key]

/-- PCA with a block in the buffer. -/
def PcaState.pushed (p : PcaState) (rawWords : Nat) (block : List Nat) : PcaState :=
  { p with
    out := p.out ++ [block.map (BitVec.ofNat 64)], bytesRaw := p.bytesRaw + 8 * (1 + rawWords), bytesSent := p.bytesSent + 8 * block.length }

theorem showOut_pca (s : State) : s.showOut.pca = s.pca ∧ KeepsRegs bufferKeys s s.showOut := by
  unfold State.showOut
  extract_lets b s1
  refine ⟨rfl, ?_⟩
  exact (((KeepsRegs.refl bufferKeys s).wr PCOD.OUT_FILL (outFill b) (by decide)).wr PCOD.OUT_USED (b / 1024) (by decide)).of_cur rfl

theorem pushBlock_shows (s : State) (n : Nat) (block : List Nat) :
    (s.pushBlock n block).pca = s.pca.pushed n block ∧ KeepsRegs bufferKeys s (s.pushBlock n block) := by
  obtain ⟨hpca, hkeep⟩ := showOut_pca { s with pca := s.pca.pushed n block }
  exact ⟨hpca, hkeep⟩

theorem pushHead_sent {s : State} (h : s.pca.headSent = true) : s.pushHead = s := by
  unfold State.pushHead
  rw [h]
  rfl

/-! ### The block of a column -/

section
variable (s : State) (c : Column) (flips : List Nat)

/-- The payload that the encoder has made. -/
def State.codedPayload : List Nat :=
  s.columnRecord c c.exceptions.length c.words.length :: c.exceptions ++ packBits ((codeStream c.words).length / 64 + 1) (codeStream c.words)

/-- The coded block. -/
def State.codedOf : List Nat := blockHeader 1 c.shot.column c.words.length (s.codedPayload c).length (s.rawPayload c) :: s.codedPayload c

theorem codedBlock_below (h : (codeStream c.words).length < 64 * c.words.length) : s.codedBlock c = some (s.codedOf c) := by
  unfold State.codedBlock
  exact if_neg (Nat.not_le.mpr h)

theorem codedBlock_oversize (h : ¬(codeStream c.words).length < 64 * c.words.length) : s.codedBlock c = none := by
  unfold State.codedBlock
  exact if_pos (Nat.not_lt.mp h)

/-- The block of a column, raw where the codec is off. -/
theorem columnBlock_off (h : s.rdGen pPCOD c.shot.gen PCOD.CODEC_EN = 0) : s.columnBlock c flips = (s, s.rawBlock c) := if_pos h

/-- The block of a column that the encoder gives up. -/
theorem columnBlock_oversize (h : s.rdGen pPCOD c.shot.gen PCOD.CODEC_EN ≠ 0) (hbig : ¬(codeStream c.words).length < 64 * c.words.length) :
    s.columnBlock c flips = ({ s with pca.oversize := s.pca.oversize + 1 }, s.rawBlock c) := by
  unfold State.columnBlock
  rw [if_neg h, codedBlock_oversize s c hbig]

/-- The verifier's verdict on a column's coded block. -/
def State.blockVerified : Prop :=
  decodeBlock c.shot.accession.toNat (s.rdGen pPASM c.shot.gen PASM.REC_MINOR_SEL) (flipBits flips (s.codedOf c)) = some (s.rawPayload c)

theorem columnBlock_failed (h : s.rdGen pPCOD c.shot.gen PCOD.CODEC_EN ≠ 0) (hbelow : (codeStream c.words).length < 64 * c.words.length)
    (hbad : ¬s.blockVerified c flips) : s.columnBlock c flips = (s.verifyFailed, s.rawBlock c) := by
  have hver : (!verifies c.shot.accession.toNat (s.recMinor c.shot.gen) (flipBits flips (s.codedOf c)) (s.rawPayload c)) = true := by
    rw [verifies, Bool.not_eq_true', decide_eq_false_iff_not]
    exact hbad
  unfold State.columnBlock
  rw [if_neg h, codedBlock_below s c hbelow]
  exact if_pos hver

theorem columnBlock_verified (h : s.rdGen pPCOD c.shot.gen PCOD.CODEC_EN ≠ 0) (hbelow : (codeStream c.words).length < 64 * c.words.length)
    (hok : s.blockVerified c flips) :
    s.columnBlock c flips = (s, if (s.codedOf c).length < (s.rawBlock c).length then s.codedOf c else s.rawBlock c) := by
  have hver : ¬(!verifies c.shot.accession.toNat (s.recMinor c.shot.gen) (flipBits flips (s.codedOf c)) (s.rawPayload c)) = true := by
    rw [verifies, Bool.not_eq_true', decide_eq_false_iff_not, not_not]
    exact hok
  unfold State.columnBlock
  rw [if_neg h, codedBlock_below s c hbelow]
  exact if_neg hver

theorem verifyFailed_shows : s.verifyFailed.pca = s.pca ∧ s.verifyFailed.rd PCOD.VFAIL_TOTAL = min (s.rd PCOD.VFAIL_TOTAL + 1) 65535
    ∧ s.verifyFailed.on PCOD.INT_VFAIL = true ∧ s.verifyFailed.on (C.FAULT pPCOD 0) = true := by
  have hcount : (s.count PCOD.VFAIL_TOTAL 1).rd PCOD.VFAIL_TOTAL = min (s.rd PCOD.VFAIL_TOTAL + 1) 65535 := unlockCount_next s _ rfl
  have hraised : ((s.count PCOD.VFAIL_TOTAL 1).raise PCOD.INT_VFAIL).rd PCOD.VFAIL_TOTAL = min (s.rd PCOD.VFAIL_TOTAL + 1) 65535 :=
    (State.rd_put_ne _ _ _ _ (by decide)).trans hcount
  have hint : ((s.count PCOD.VFAIL_TOTAL 1).raise PCOD.INT_VFAIL).on PCOD.INT_VFAIL = true := State.on_put_self _ _ _ (by decide)
  have hpca : ((s.count PCOD.VFAIL_TOTAL 1).raise PCOD.INT_VFAIL).pca = s.pca := rfl
  unfold State.verifyFailed
  generalize (s.count PCOD.VFAIL_TOTAL 1).raise PCOD.INT_VFAIL = u at *
  have hkeep := fault_keepsRegs u pPCOD 0
  exact ⟨(fault_pca u pPCOD 0).trans hpca, (hkeep _ (by decide)).trans hraised, (congrArg (· != 0) (hkeep PCOD.INT_VFAIL (by decide))).trans hint,
    fault_on_self u (by decide) (by decide)⟩

/-- What the codec's returns leave alone. -/
theorem columnBlock_keeps : (s.columnBlock c flips).1.pca = { s.pca with oversize := (s.columnBlock c flips).1.pca.oversize } := by
  unfold State.columnBlock
  split
  · rfl
  · split
    · rfl
    · split
      · rw [(verifyFailed_shows s).1]
      · rfl

theorem pushColumn_shows : (s.pushColumn c flips).pca.columns = s.pca.columns
    ∧ (s.pushColumn c flips).pca.out = s.pca.out ++ [(s.columnBlock c flips).2.map (BitVec.ofNat 64)]
    ∧ (s.pushColumn c flips).pca.npoints + (s.pushColumn c flips).pca.nretract = s.pca.npoints + s.pca.nretract + c.words.length
    ∧ KeepsRegs bufferKeys (s.columnBlock c flips).1 (s.pushColumn c flips) := by
  have hkeep := columnBlock_keeps s c flips
  have hpts : (c.words.filter fun w => bits w 62 2 = 0).length ≤ c.words.length := List.length_filter_le _ _
  unfold State.pushColumn
  extract_lets r pts _ _ s1
  obtain ⟨hpca, hregs⟩ := pushBlock_shows s1 (s.rawPayload c).length r.2
  have h1 : s1.pca = { r.1.pca with npoints := r.1.pca.npoints + pts, nretract := r.1.pca.nretract + (c.words.length - pts) } := rfl
  have hbase : KeepsRegs bufferKeys r.1 s1 := (KeepsRegs.refl _ r.1).of_cur rfl
  clear_value s1
  generalize s1.pushBlock (s.rawPayload c).length r.2 = u at *
  have hkeep' : r.1.pca = { s.pca with oversize := r.1.pca.oversize } := hkeep
  rw [hpca, h1, hkeep']
  refine ⟨rfl, rfl, ?_, hbase.trans hregs⟩
  show s.pca.npoints + pts + (s.pca.nretract + (c.words.length - pts)) = _
  have hpts' : pts ≤ c.words.length := hpts
  omega

end

/-- The state in which a column leaves. -/
def State.columnsLeft (s : State) (cols : List Column) : State := { s with pca.columns := cols }

/-- A column leaves as a block that the buffer holds. -/
theorem blockOutput_pushes {s : State} {c : Column} {cols : List Column} {flips : List Nat} (hasm : s.runs pPASM = true) (hcod : s.runs pPCOD = true)
    (hhead : s.pca.headSent = true) (hcols : s.pca.columns = c :: cols) (hclosed : c.closed = true)
    (hframe : s.outFrame.map (·.accession) = some c.shot.accession) :
    (c.shot.trunc = true ∨ (c.shot.rrLevel = 5 ∧ c.shot.accession.toNat % 2 = 1) → exec (.blockOutput flips) s = .next (s.columnsLeft cols))
    ∧ (¬(c.shot.trunc = true ∨ (c.shot.rrLevel = 5 ∧ c.shot.accession.toNat % 2 = 1)) → exec (.blockOutput flips) s
        = .next (if s.fits (s.columnBlock c flips).2.length then (s.columnsLeft cols).pushColumn c flips else s)) := by
  have hgo : ¬(!s.runs pPASM || !s.runs pPCOD || !c.closed || !s.pca.headSent || s.outFrame.map (·.accession) != some c.shot.accession) = true := by
    rw [hasm, hcod, hclosed, hhead, hframe]
    simp
  have hdrop : (c.shot.trunc || withheld c.shot.rrLevel c.shot.accession.toNat) = true
      ↔ c.shot.trunc = true ∨ (c.shot.rrLevel = 5 ∧ c.shot.accession.toNat % 2 = 1) := by
    rw [Bool.or_eq_true, withheld, Bool.and_eq_true, decide_eq_true_eq, decide_eq_true_eq]
  refine ⟨fun h => congrArg Host.Outcome.next ?_, fun h => congrArg Host.Outcome.next ?_⟩
  · dsimp only
    rw [pushHead_sent hhead, hcols]
    exact (if_neg hgo).trans (if_pos (hdrop.mpr h))
  · dsimp only
    rw [pushHead_sent hhead, hcols]
    exact (if_neg hgo).trans (if_neg fun e => h (hdrop.mp e))

end Sys2Proof.Machine
end

section
/-! PROOFS. The statement about blocks and the ledger (R243 to R258). -/
namespace Sys2Proof.Machine
open Sys2Proof

/-! ### Column blocks -/

/-- What a column's leaving as block b shows. -/
def Leaves (s : State) (c : Column) (cols : List Column) (flips : List Nat) (b : List Nat) : Prop :=
  ∃ t, exec (.blockOutput flips) s = .next t ∧ t.pca.columns = cols ∧ t.pca.out = s.pca.out ++ [b.map (BitVec.ofNat 64)]
    ∧ t.pca.npoints + t.pca.nretract = s.pca.npoints + s.pca.nretract + c.words.length

section
variable {s : State} {c : Column} {cols : List Column} {flips : List Nat}

/-- A column whose block fits leaves as what the codec has made of it. -/
theorem leaves_of {b : List Nat} {t : State} (hexec : exec (.blockOutput flips) s
      = .next (if s.fits (s.columnBlock c flips).2.length then (s.columnsLeft cols).pushColumn c flips else s))
    (hblock : (s.columnBlock c flips).2 = b) (hleft : ((s.columnsLeft cols).columnBlock c flips) = (t, b))
    (hfits : s.pca.held + 8 * b.length ≤ 2097152) :
    exec (.blockOutput flips) s = .next ((s.columnsLeft cols).pushColumn c flips) ∧ Leaves s c cols flips b := by
  have hfit : s.fits (s.columnBlock c flips).2.length = true := by rw [hblock]; exact decide_eq_true hfits
  have hgo := hexec.trans (congrArg Host.Outcome.next (if_pos hfit))
  obtain ⟨h1, h2, h3, -⟩ := pushColumn_shows (s.columnsLeft cols) c flips
  rw [hleft] at h2
  generalize (s.columnsLeft cols).pushColumn c flips = u at *
  exact ⟨hgo, u, hgo, h1, h2, h3⟩

end

/-! ### The ledger block (R242 to R244) -/

theorem ledger_length (f : Frame) (npoints nretract : Nat) : (f.ledger npoints nretract).length = 17 + min 32 f.rwl.length := by
  unfold Frame.ledger
  extract_lets rwl nwords w0 w1 w2 engines channels
  simp only [List.length_append, List.length_cons, List.length_nil, rwl, engines, channels, List.length_map, List.length_take, List.length_range]
  omega

/-- The words of a FRAME block. -/
def frameBlock (ws : List Nat) : List Nat := blockHeader 2 0xFFF ws.length ws.length ws :: ws

theorem pushFrame_shows (s : State) (ws : List Nat) :
    (s.pushFrame ws).pca = s.pca.pushed ws.length (frameBlock ws) ∧ KeepsRegs bufferKeys s (s.pushFrame ws) :=
  pushBlock_shows s ws.length (frameBlock ws)

/-- The figures of the frame. -/
def figureKeys : List Nat :=
  [PASM.NPOINTS_LAST.key, PASM.NRETRACT_LAST.key, PCOD.OVERSIZE_LAST.key, PCOD.BYTES_RAW_LAST.key, PCOD.BYTES_SENT_LAST.key]

theorem showFrame_shows (s : State) : s.showFrame.pca = s.pca ∧ KeepsRegs figureKeys s s.showFrame
    ∧ s.showFrame.rd PASM.NPOINTS_LAST = s.pca.npoints % 2 ^ 32 ∧ s.showFrame.rd PASM.NRETRACT_LAST = s.pca.nretract % 2 ^ 32 := by
  have hlater (u : State) (a b c : Nat) : KeepsRegs [PCOD.OVERSIZE_LAST.key, PCOD.BYTES_RAW_LAST.key, PCOD.BYTES_SENT_LAST.key] u
      (((u.wr PCOD.OVERSIZE_LAST a).wr PCOD.BYTES_RAW_LAST b).wr PCOD.BYTES_SENT_LAST c) :=
    (((KeepsRegs.refl _ u).wr _ _ (by decide)).wr _ _ (by decide)).wr _ _ (by decide)
  refine ⟨rfl, ?_, ?_, ?_⟩
  · exact (((((KeepsRegs.refl figureKeys s).wr PASM.NPOINTS_LAST s.pca.npoints (by decide)).wr PASM.NRETRACT_LAST s.pca.nretract (by decide)).wr
      PCOD.OVERSIZE_LAST _ (by decide)).wr PCOD.BYTES_RAW_LAST _ (by decide)).wr PCOD.BYTES_SENT_LAST _ (by decide)
  · exact (hlater _ _ _ _ _ (by decide)).trans ((State.rd_wr_ne _ _ _ _ (by decide)).trans (State.rd_wr_self _ _ _))
  · exact (hlater _ _ _ _ _ (by decide)).trans (State.rd_wr_self _ _ _)

/-- The ledger record is in the buffer, and the next frame comes into output. -/
def State.ledgerPushed (s : State) (record : List Nat) (rest : List Frame) : State :=
  { (s.pushFrame record).showFrame with pca := { (s.pushFrame record).showFrame.pca.nextFrame with frames := rest } }

/-- PCA once the ledger record has entered the buffer. -/
def PcaState.ledgerDone (p : PcaState) (record : List Nat) (rest : List Frame) : PcaState :=
  { (p.pushed record.length (frameBlock record)).nextFrame with frames := rest }

theorem ledgerPushed_shows (s : State) (record : List Nat) (rest : List Frame) :
    (s.ledgerPushed record rest).pca = s.pca.ledgerDone record rest
      ∧ KeepsRegs (bufferKeys ++ figureKeys) s (s.ledgerPushed record rest)
      ∧ (s.ledgerPushed record rest).rd PASM.NPOINTS_LAST = s.pca.npoints % 2 ^ 32
      ∧ (s.ledgerPushed record rest).rd PASM.NRETRACT_LAST = s.pca.nretract % 2 ^ 32
      ∧ (s.ledgerPushed record rest).rst = s.rst ∧ (s.ledgerPushed record rest).acq.frame = s.acq.frame := by
  obtain ⟨hpca, hkeep⟩ := pushFrame_shows s record
  have hrest : (s.pushFrame record).rst = s.rst ∧ (s.pushFrame record).acq.frame = s.acq.frame := ⟨rfl, rfl⟩
  unfold State.ledgerPushed
  generalize s.pushFrame record = u at *
  obtain ⟨hpca', hkeep', hpoints, hretract⟩ := showFrame_shows u
  have hrest' : u.showFrame.rst = u.rst ∧ u.showFrame.acq = u.acq := ⟨rfl, rfl⟩
  generalize u.showFrame = v at *
  rw [hpca] at hpca' hpoints hretract
  refine ⟨?_, ((hkeep.mono fun x hx => List.mem_append_left _ hx).trans (hkeep'.mono fun x hx => List.mem_append_right _ hx)), hpoints, hretract,
    hrest'.1.trans hrest.1, (congrArg AcqState.frame hrest'.2).trans hrest.2⟩
  show { v.pca.nextFrame with frames := rest } = _
  rw [hpca']
  rfl

/-- The fields of a commit are none of these. -/
theorem figures_lasting : PASM.NPOINTS_LAST.lasting ∧ PASM.NRETRACT_LAST.lasting ∧ (PWR.DOM_ON (domainOf pPASM)).lasting
    ∧ (PWR.DOM_ON (domainOf pPCOD)).lasting := by
  unfold Fld.lasting
  decide +kernel

theorem ledgerOutput_next {s : State} {f : Frame} {frames : List Frame} (hasm : s.runs pPASM = true) (hcod : s.runs pPCOD = true)
    (hhead : s.pca.headSent = true) (hframes : s.pca.frames = f :: frames) (hdone : ∀ d ∈ s.pca.columns, d.shot.accession ≠ f.accession)
    (hfits : s.pca.held + 8 * (frameBlock (f.ledger s.pca.npoints s.pca.nretract)).length ≤ 2097152) :
    exec .ledgerOutput s = .next (s.ledgerPushed (f.ledger s.pca.npoints s.pca.nretract) frames).retireOld.pushHead := by
  have hgo : ¬(!s.runs pPASM || !s.runs pPCOD || !s.pca.headSent || (s.pca.columns.any fun c => c.shot.accession = f.accession)
      || !s.fits ((f.ledger s.pca.npoints s.pca.nretract).length + 1)) = true := by
    have hany : (s.pca.columns.any fun c => c.shot.accession = f.accession) = false :=
      List.any_eq_false.mpr fun d hd => by rw [decide_eq_true_eq]; exact hdone d hd
    have hfit : s.fits ((f.ledger s.pca.npoints s.pca.nretract).length + 1) = true := decide_eq_true hfits
    rw [hasm, hcod, hhead, hany, hfit]
    decide
  refine congrArg Host.Outcome.next ?_
  unfold State.ledgerOutput
  dsimp only
  rw [pushHead_sent hhead, hframes]
  exact if_neg hgo

/-- A frame's head is in the buffer. -/
def State.headPushed (s : State) (g : Frame) : State := { s.pushFrame [s.headRecord g] with pca.headSent := true }

theorem headPushed_shows (s : State) (g : Frame) : (s.headPushed g).pca = { s.pca.pushed 1 (frameBlock [s.headRecord g]) with headSent := true }
    ∧ KeepsRegs bufferKeys s (s.headPushed g) ∧ (s.headPushed g).rdT = s.rdT := by
  obtain ⟨hpca, hkeep⟩ := pushFrame_shows s [s.headRecord g]
  have hrdT : (s.pushFrame [s.headRecord g]).rdT = s.rdT := rfl
  unfold State.headPushed
  generalize s.pushFrame [s.headRecord g] = u at *
  exact ⟨congrArg (fun p : PcaState => { p with headSent := true }) hpca, hkeep, hrdT⟩

/-- The head follows, or nothing does. -/
theorem pushHead_cases (s : State) : s.pushHead = s ∨ ∃ g, s.pushHead = s.headPushed g := by
  unfold State.pushHead
  split
  · exact .inl rfl
  · split
    · next g _ => exact .inr ⟨g, rfl⟩
    · exact .inl rfl

/-- The head of the next closed frame follows. -/
theorem pushHead_next {s : State} {g : Frame} {rest : List Frame} (hasm : s.runs pPASM = true) (hcod : s.runs pPCOD = true)
    (hhead : s.pca.headSent = false) (hframes : s.pca.frames = g :: rest) (hfits : s.pca.held + 16 ≤ 2097152) :
    s.pushHead = s.headPushed g := by
  have hout : s.outFrame = some g := by unfold State.outFrame; rw [hframes]
  have hfit : s.fits 2 = true := decide_eq_true hfits
  unfold State.pushHead
  rw [hhead, hasm, hcod, hfit, hout]
  rfl

theorem pushHead_none {s : State} (hframes : s.pca.frames = []) (hframe : s.acq.frame = none) : s.pushHead = s := by
  have hout : s.outFrame = none := by unfold State.outFrame; rw [hframes, hframe]; rfl
  unfold State.pushHead
  rw [hout]
  exact ite_self _

theorem headRecord_bits (s : State) (g : Frame) : bits (s.headRecord g) 62 2 = 3 ∧ bits (s.headRecord g) 0 32 = g.accession.toNat
    ∧ bits (s.headRecord g) 32 12 = g.ncol % 2 ^ 12 := by
  have hacc : g.accession.toNat < 2 ^ 32 := g.accession.isLt
  unfold State.headRecord bits
  omega

theorem rdGen_keeps {keys : List Nat} {s t : State} (h : KeepsRegs keys s t) (hshadow : t.rdT = s.rdT) {p : Nat} (gen : Word) (f : Fld)
    (hf : f.key ∉ keys) (happly : (C.APPLYING p).key ∉ keys) (hactive : CAT.GEN_ACTIVE.key ∉ keys) : t.rdGen p gen f = s.rdGen p gen f := by
  unfold State.rdGen
  rw [State.on, State.on, h _ happly, h _ hactive, h _ hf, hshadow]

theorem headRecord_pushed (s : State) (g : Frame) : (s.headPushed g).headRecord g = s.headRecord g := by
  obtain ⟨-, hkeep, hrdT⟩ := headPushed_shows s g
  generalize s.headPushed g = t at *
  unfold State.headRecord State.recMinor
  rw [hkeep PASM.REC_MAJOR (by decide), rdGen_keeps hkeep hrdT g.gen PASM.REC_MINOR_SEL (by decide) (by decide) (by decide)]

theorem pushHead_shows (s : State) : s.pushHead.pca.frames = s.pca.frames ∧ s.pushHead.pca.npoints = s.pca.npoints
    ∧ s.pushHead.pca.nretract = s.pca.nretract ∧ KeepsRegs bufferKeys s s.pushHead ∧ ∃ more, s.pushHead.pca.out = s.pca.out ++ more := by
  rcases pushHead_cases s with h | ⟨g, h⟩
  · rw [h]
    exact ⟨rfl, rfl, rfl, KeepsRegs.refl _ s, [], (List.append_nil _).symm⟩
  · rw [h]
    obtain ⟨hpca, hkeep, -⟩ := headPushed_shows s g
    generalize s.headPushed g = t at *
    rw [hpca]
    exact ⟨rfl, rfl, rfl, hkeep, _, rfl⟩

/-- What the ledger's leaving shows. -/
theorem ledgerOutput_shows {s : State} {f : Frame} {frames : List Frame} (hasm : s.runs pPASM = true) (hcod : s.runs pPCOD = true)
    (hhead : s.pca.headSent = true) (hframes : s.pca.frames = f :: frames) (hdone : ∀ d ∈ s.pca.columns, d.shot.accession ≠ f.accession)
    (hfits : s.pca.held + 8 * (frameBlock (f.ledger s.pca.npoints s.pca.nretract)).length ≤ 2097152) :
    ∃ t more, exec .ledgerOutput s = .next t ∧ t.pca.frames = frames
      ∧ t.pca.out = s.pca.out ++ (frameBlock (f.ledger s.pca.npoints s.pca.nretract)).map (BitVec.ofNat 64) :: more
      ∧ t.rd PASM.NPOINTS_LAST = s.pca.npoints % 2 ^ 32 ∧ t.rd PASM.NRETRACT_LAST = s.pca.nretract % 2 ^ 32
      ∧ t.pca.npoints = 0 ∧ t.pca.nretract = 0 ∧ (frames = [] → s.acq.frame = none → more = [])
      ∧ (∀ g rest, frames = g :: rest → s.pca.held + 8 * ((f.ledger s.pca.npoints s.pca.nretract).length + 3) ≤ 2097152 →
          more = [(frameBlock [t.headRecord g]).map (BitVec.ofNat 64)]) := by
  have hexec := ledgerOutput_next hasm hcod hhead hframes hdone hfits
  generalize hrec : f.ledger s.pca.npoints s.pca.nretract = record at *
  obtain ⟨hpca, hkeep, hpoints, hretract, hrst, hframe⟩ := ledgerPushed_shows s record frames
  generalize s.ledgerPushed record frames = u at *
  obtain ⟨hl1, hl2, hl3, hl4⟩ := figures_lasting
  obtain ⟨r, c, hretire⟩ := retireOld_state u
  have hvpca : u.retireOld.pca = u.pca := retireOld_pca u
  have hvrst : u.retireOld.rst = u.rst := by rw [hretire]
  have hvframe : u.retireOld.acq.frame = u.acq.frame := by rw [hretire]
  have hvpoints := (retireOld_rd (s := u) hl1).trans hpoints
  have hvretract := (retireOld_rd (s := u) hl2).trans hretract
  have hvasm : u.retireOld.runs pPASM = true := (runs_of_regs (congrArg RstState.held (hvrst.trans hrst))
    ((retireOld_rd (s := u) hl3).trans (hkeep _ (by decide)))).trans hasm
  have hvcod : u.retireOld.runs pPCOD = true := (runs_of_regs (congrArg RstState.held (hvrst.trans hrst))
    ((retireOld_rd (s := u) hl4).trans (hkeep _ (by decide)))).trans hcod
  clear hretire
  generalize u.retireOld = v at *
  have hvdone : v.pca = s.pca.ledgerDone record frames := hvpca.trans hpca
  have hvframes : v.pca.frames = frames := congrArg PcaState.frames hvdone
  have hvhead : v.pca.headSent = false := congrArg PcaState.headSent hvdone
  have hvheld : v.pca.held = s.pca.held + 8 * (record.length + 1) := by
    rw [hvdone]
    show 8 * ((s.pca.out ++ [(frameBlock record).map (BitVec.ofNat 64)]).map (·.length)).sum = _
    simp only [List.map_append, List.sum_append, List.map_cons, List.map_nil, List.sum_cons, List.sum_nil, List.length_map, frameBlock,
      List.length_cons, PcaState.held]
    omega
  have hvout : v.pca.out = s.pca.out ++ [(frameBlock record).map (BitVec.ofNat 64)] := congrArg PcaState.out hvdone
  have hvzero : v.pca.npoints = 0 ∧ v.pca.nretract = 0 := ⟨congrArg PcaState.npoints hvdone, congrArg PcaState.nretract hvdone⟩
  obtain ⟨h1, h2, h3, h4, more, h5⟩ := pushHead_shows v
  refine ⟨_, more, hexec, h1.trans hvframes, ?_, (h4 _ (by decide)).trans hvpoints, (h4 _ (by decide)).trans hvretract, h2.trans hvzero.1,
    h3.trans hvzero.2, fun hnone hacq => ?_, fun g rest hg hroom => ?_⟩
  · rw [h5, hvout, List.append_assoc]
    rfl
  · rw [pushHead_none (hvframes.trans hnone) (hvframe.trans (hframe.trans hacq))] at h5
    exact List.self_eq_append_right.mp h5
  · have hnext := pushHead_next hvasm hvcod hvhead (hvframes.trans hg) (by omega)
    have hsame := headRecord_pushed v g
    have hout := congrArg PcaState.out (headPushed_shows v g).1
    rw [hnext] at h5 ⊢
    generalize v.headPushed g = t at *
    rw [hsame]
    exact (List.append_cancel_left (hout.symm.trans h5)).symm

/-- Settles O46: a column's block by the codec's four returns, the ledger and the head that follows it by `ledgerOutput_shows`, and what a
decoder has checked by `decodeBlock_decoded`. -/
theorem blocksAndLedger : Obligations.BlocksAndLedger := by
  refine ⟨?_, fun accession minor h payload raw e => decodeBlock_decoded e⟩
  intro c cols flips f frames s hasm hcod hhead exc recs head raw stream packed block out rawBlock coded fits verified leaves codec below dropped
    ledger
  refine ⟨fun hcols hclosed hframe => ?_, fun hframes hdone hfits => ?_⟩
  · obtain ⟨hdrop, hgo⟩ := blockOutput_pushes (flips := flips) hasm hcod hhead hcols hclosed hframe
    refine ⟨hdrop, fun hnd hcase hfit => ?_, fun hnd hcodec hbelow hver hless hfit => ?_, fun hnd hcodec hbelow hver hfit => ?_,
      fun hnd hcodec hfit => ?_⟩
    · by_cases hc : codec
      · by_cases hb : below
        · obtain ⟨hver, hlen⟩ := (hcase.resolve_left (not_not_intro hc)).resolve_left (not_not_intro hb)
          have hshape : ¬(s.codedOf c).length < (s.rawBlock c).length := fun h => by
            have h' : packed.length + 1 < raw.length + 1 := h
            omega
          have h1 := columnBlock_verified s c flips hc hb hver
          have h2 := columnBlock_verified (s.columnsLeft cols) c flips hc hb hver
          rw [if_neg hshape] at h1
          exact (leaves_of (hgo hnd) (congrArg Prod.snd h1) (h2.trans (congrArg _ (if_neg hshape))) hfit).2
        · exact (leaves_of (hgo hnd) (congrArg Prod.snd (columnBlock_oversize s c flips hc hb))
            (columnBlock_oversize (s.columnsLeft cols) c flips hc hb) hfit).2
      · have hoff : s.rdGen pPCOD c.shot.gen PCOD.CODEC_EN = 0 := not_not.mp hc
        exact (leaves_of (hgo hnd) (congrArg Prod.snd (columnBlock_off s c flips hoff)) (columnBlock_off (s.columnsLeft cols) c flips hoff) hfit).2
    · have hshape : (s.codedOf c).length < (s.rawBlock c).length := Nat.succ_lt_succ hless
      have h1 := columnBlock_verified s c flips hcodec hbelow hver
      have h2 := columnBlock_verified (s.columnsLeft cols) c flips hcodec hbelow hver
      rw [if_pos hshape] at h1
      exact (leaves_of (hgo hnd) (congrArg Prod.snd h1) (h2.trans (congrArg _ (if_pos hshape))) hfit).2
    · have h1 := columnBlock_failed s c flips hcodec hbelow hver
      have h2 := columnBlock_failed (s.columnsLeft cols) c flips hcodec hbelow hver
      obtain ⟨hexec, hleaves⟩ := leaves_of (hgo hnd) (congrArg Prod.snd h1) h2 hfit
      obtain ⟨-, -, -, hkeep⟩ := pushColumn_shows (s.columnsLeft cols) c flips
      rw [h2] at hkeep
      obtain ⟨-, htotal, hint, hfault⟩ := verifyFailed_shows (s.columnsLeft cols)
      refine ⟨hleaves, _, hexec, ?_⟩
      generalize (s.columnsLeft cols).pushColumn c flips = t at *
      exact ⟨(hkeep _ (by decide)).trans htotal, (congrArg (· != 0) (hkeep PCOD.INT_VFAIL (by decide))).trans hint,
        (congrArg (· != 0) (hkeep (C.FAULT pPCOD 0) (by decide))).trans hfault⟩
    · have hoff : s.rdGen pPCOD c.shot.gen PCOD.CODEC_EN = 0 := not_not.mp hcodec
      rw [hgo hnd, columnBlock_off s c flips hoff]
      exact congrArg Host.Outcome.next (if_neg fun h => hfit (of_decide_eq_true h))
  · obtain ⟨t, more, hexec, h1, h2, h3, h4, h5, h6, h7, h8⟩ := ledgerOutput_shows hasm hcod hhead hframes hdone hfits
    exact ⟨t, more, hexec, h1, h2, h3, h4, ledger_length f _ _, h5, h6, h7, fun g rest hg hroom => ⟨h8 g rest hg hroom, headRecord_bits t g⟩⟩

end Sys2Proof.Machine
end

section
/-! PROOFS. The lanes of Yomos Link: what an operation on one lane changes, and what a retrain of the bundle leaves (R264, R288 to R297). -/
namespace Sys2Proof.Machine
open Sys2Proof

/-! ### What an operation on one lane leaves alone -/

/-- The RWL fields that a training window takes in. -/
def windowFlds (l : Nat) : List Fld := (fieldsOf (pLane l) .rwl).filter fun f => f.key != (LANE.ENABLE l).key

/-- What a lane shows of its working. -/
def laneShown (l : Nat) : List Nat :=
  [(LANE.STATE l).key, (LANE.ST_LANE_ACTIVE l).key, (LANE.INT_UP l).key, (LANE.INT_DOWN l).key, (LANE.RATE l).key, (LANE.ALIGNED l).key,
    (LANE.ST_ALIGNED l).key, (LANE.CDR_LOCK l).key, (LANE.SLIPS l).key, (LANE.INT_RETRAIN l).key, (LANE.RETRAINS l).key,
    (LANE.PRE_IN_FORCE l).key, (LANE.POST_IN_FORCE l).key, (CAL.EYE_VALID l).key, (LANE.ST_PAIR_OK 5).key]

/-- The fields that an operation on lane l may change. -/
def laneKeys (l : Nat) : List Nat := laneShown l ++ (windowFlds l).map (·.key)

/-- The link but for its lanes, the message number and the PAIR packets. -/
def LinkState.rest (k : LinkState) : LinkState := { k with lanes := [], msgSeq := 0, pairSeen := false }

/-- An operation on lane l changes that lane alone. -/
structure LaneOnly (l : Nat) (s t : State) : Prop where
  regs : KeepsRegs (laneKeys l) s t
  shadow : t.regs.shadow = s.regs.shadow
  others : ∀ n, n ≠ l → t.lane n = s.lane n
  link : t.lnk.rest = s.lnk.rest

section
variable {l : Nat} {s t u : State}

theorem LaneOnly.refl (l : Nat) (s : State) : LaneOnly l s s := ⟨KeepsRegs.refl _ s, rfl, fun _ _ => rfl, rfl⟩

theorem LaneOnly.trans (h : LaneOnly l s t) (h' : LaneOnly l t u) : LaneOnly l s u :=
  ⟨h.regs.trans h'.regs, h'.shadow.trans h.shadow, fun n hn => (h'.others n hn).trans (h.others n hn), h'.link.trans h.link⟩

theorem LaneOnly.wr (h : LaneOnly l s t) (f : Fld) (v : Nat) (hf : f.key ∈ laneKeys l) : LaneOnly l s (t.wr f v) :=
  ⟨h.regs.wr f v hf, h.shadow, h.others, h.link⟩

theorem LaneOnly.put (h : LaneOnly l s t) (f : Fld) (b : Bool) (hf : f.key ∈ laneKeys l) : LaneOnly l s (t.put f b) := h.wr f _ hf

theorem LaneOnly.count (h : LaneOnly l s t) (f : Fld) (d : Nat) (hf : f.key ∈ laneKeys l) : LaneOnly l s (t.count f d) := h.wr f _ hf

theorem LaneOnly.setLane (h : LaneOnly l s t) (x : LaneState) : LaneOnly l s (t.setLane l x) :=
  ⟨h.regs.of_cur rfl, h.shadow, fun n hn => (State.lane_set_ne t x hn).trans (h.others n hn), h.link⟩

theorem LaneOnly.of_rest (h : LaneOnly l s t) (hregs : u.regs = t.regs) (hlane : u.lnk.lanes = t.lnk.lanes) (hrest : u.lnk.rest = t.lnk.rest) :
    LaneOnly l s u := by
  refine ⟨h.regs.of_cur (congrArg Regs.cur hregs), (congrArg Regs.shadow hregs).trans h.shadow, fun n hn => ?_, hrest.trans h.link⟩
  rw [State.lane, hlane]
  exact h.others n hn

theorem LaneOnly.ite {c : Prop} [Decidable c] {a b : State} (ha : LaneOnly l s a) (hb : LaneOnly l s b) : LaneOnly l s (if c then a else b) := by
  split
  · exact ha
  · exact hb

theorem laneKeys_shown {k : Nat} (h : k ∈ laneShown l) : k ∈ laneKeys l := List.mem_append_left _ h

/-! ### The operations on one lane -/

theorem LaneOnly.showPair (h : LaneOnly l s t) : LaneOnly l s t.showPair :=
  h.put (LANE.ST_PAIR_OK 5) _ (laneKeys_shown (by simp [laneShown]))

theorem laneLeft_only (l : Nat) (s : State) : LaneOnly l s (s.laneLeft l) := by
  have h := ((LaneOnly.refl l s).put (LANE.INT_DOWN l) true (laneKeys_shown (by simp [laneShown]))).put (CAL.EYE_VALID l) false (laneKeys_shown (by simp [laneShown]))
  unfold State.laneLeft
  extract_lets s1
  have hs1 : LaneOnly l s s1 := h
  clear_value s1
  refine .ite ?_ hs1
  exact (hs1.of_rest (u := { s1 with lnk.pairSeen := false }) rfl rfl rfl).showPair

theorem laneUp_only (l : Nat) (s : State) : LaneOnly l s (s.laneUp l) := by
  have h := (LaneOnly.refl l s).put (LANE.INT_UP l) true (laneKeys_shown (by simp [laneShown]))
  unfold State.laneUp
  extract_lets s1
  have hs1 : LaneOnly l s s1 := h
  clear_value s1
  exact .ite (hs1.of_rest rfl rfl rfl) hs1

theorem setLaneState_only (l st : Nat) (s : State) : LaneOnly l s (s.setLaneState l st) := by
  have h := ((LaneOnly.refl l s).wr (LANE.STATE l) st (laneKeys_shown (by simp [laneShown]))).put (LANE.ST_LANE_ACTIVE l) (st = lsActive) (laneKeys_shown (by simp [laneShown]))
  unfold State.setLaneState
  extract_lets old s1
  have hs1 : LaneOnly l s s1 := h
  clear_value s1
  exact .ite (hs1.trans (laneUp_only l s1)) (.ite (hs1.trans (laneLeft_only l s1)) hs1)

theorem laneLeft_lanes (l : Nat) (s : State) : (s.laneLeft l).lnk.lanes = s.lnk.lanes := by
  unfold State.laneLeft
  extract_lets s1
  split <;> rfl

theorem laneUp_lanes (l : Nat) (s : State) : (s.laneUp l).lnk.lanes = s.lnk.lanes := by
  unfold State.laneUp
  extract_lets s1
  split <;> rfl

/-- A lane's entry to a state shows it, and changes no lane's working state. -/
theorem setLaneState_lane (s : State) (l st n : Nat) : (s.setLaneState l st).lane n = s.lane n := by
  have h : (s.setLaneState l st).lnk.lanes = s.lnk.lanes := by
    unfold State.setLaneState
    extract_lets old s1
    have hs1 : s1.lnk.lanes = s.lnk.lanes := rfl
    clear_value s1
    split
    · exact (laneUp_lanes l s1).trans hs1
    · split
      · exact (laneLeft_lanes l s1).trans hs1
      · exact hs1
  rw [State.lane, h]
  rfl

theorem laneLeft_keeps (l : Nat) (s : State) :
    KeepsRegs [(LANE.INT_DOWN l).key, (CAL.EYE_VALID l).key, (LANE.ST_PAIR_OK 5).key] s (s.laneLeft l) := by
  have h : KeepsRegs [(LANE.INT_DOWN l).key, (CAL.EYE_VALID l).key, (LANE.ST_PAIR_OK 5).key] s ((s.raise (LANE.INT_DOWN l)).put (CAL.EYE_VALID l) false) :=
    ((KeepsRegs.refl _ s).put (LANE.INT_DOWN l) true (by simp)).put (CAL.EYE_VALID l) false (by simp)
  unfold State.laneLeft
  extract_lets s1
  split
  · exact (h.of_cur (u := { s1 with lnk.pairSeen := false }) rfl).put (LANE.ST_PAIR_OK 5) _ (by simp)
  · exact h

theorem laneUp_keeps (l : Nat) (s : State) : KeepsRegs [(LANE.INT_UP l).key] s (s.laneUp l) := by
  have h : KeepsRegs [(LANE.INT_UP l).key] s (s.raise (LANE.INT_UP l)) := (KeepsRegs.refl _ s).put (LANE.INT_UP l) true (by simp)
  unfold State.laneUp
  extract_lets s1
  split
  · exact h.of_cur rfl
  · exact h

/-- What a lane's new state shows. -/
def stateKeysOf (l : Nat) : List Nat :=
  [(LANE.ST_LANE_ACTIVE l).key, (LANE.INT_UP l).key, (LANE.INT_DOWN l).key, (CAL.EYE_VALID l).key, (LANE.ST_PAIR_OK 5).key]

theorem setLaneState_keeps (s : State) (l st : Nat) : KeepsRegs (stateKeysOf l) (s.wr (LANE.STATE l) st) (s.setLaneState l st) := by
  have h : KeepsRegs (stateKeysOf l) (s.wr (LANE.STATE l) st) ((s.wr (LANE.STATE l) st).put (LANE.ST_LANE_ACTIVE l) (st = lsActive)) :=
    (KeepsRegs.refl _ _).put _ _ (by simp [stateKeysOf])
  unfold State.setLaneState
  extract_lets old s1
  split
  · exact h.trans ((laneUp_keeps l s1).mono (by simp [stateKeysOf]))
  · split
    · exact h.trans ((laneLeft_keeps l s1).mono (by simp [stateKeysOf]))
    · exact h

theorem setLaneState_state (s : State) (l st : Nat) : (s.setLaneState l st).rd (LANE.STATE l) = st % 8 := by
  refine (setLaneState_keeps s l st (LANE.STATE l) ?_).trans (State.rd_wr_self _ _ _)
  simp only [stateKeysOf, List.mem_cons, List.not_mem_nil, or_false, LANE.STATE, LANE.ST_LANE_ACTIVE, LANE.INT_UP, LANE.INT_DOWN, CAL.EYE_VALID,
    LANE.ST_PAIR_OK, fld_key, pageBits]
  omega

/-- A field beside a lane's state keeps its value. -/
theorem setLaneState_rd {s : State} {l st : Nat} {f : Fld} (h : f.key ∉ (LANE.STATE l).key :: stateKeysOf l) : (s.setLaneState l st).rd f = s.rd f := by
  rw [List.mem_cons, not_or] at h
  exact (setLaneState_keeps s l st f h.2).trans (State.rd_wr_ne _ _ _ _ h.1)

theorem windowFields_only (l : Nat) (s : State) : LaneOnly l s (s.windowFields l) := by
  have hlive : LaneOnly l s (s.applyLiveOf (windowFlds l)) := by
    refine ⟨fun f hf => copyFlds_ne _ _ _ _ fun g hg e => hf ?_, rfl, fun _ _ => rfl, rfl⟩
    exact List.mem_append_right _ (List.mem_map.mpr ⟨g, List.mem_of_mem_filter hg, e.symm⟩)
  unfold State.windowFields
  extract_lets taps s1
  have hs1 : LaneOnly l s s1 := hlive
  clear_value s1
  exact .ite ((hs1.wr (LANE.PRE_IN_FORCE l) _ (laneKeys_shown (by simp [laneShown]))).wr (LANE.POST_IN_FORCE l) _
    (laneKeys_shown (by simp [laneShown]))) hs1

theorem windowFields_lane (s : State) (l n : Nat) : (s.windowFields l).lane n = s.lane n := by
  unfold State.windowFields
  extract_lets taps s1
  split <;> rfl

theorem startWindow_only (l : Nat) (s : State) : LaneOnly l s (s.startWindow l) := (windowFields_only l s).setLane _

/-- A lane at the start of a training window. -/
def LaneState.windowed (x : LaneState) : LaneState := { x with windowErrs := 0, partnerPass := none, ended := false, preReq := 0, postReq := 0 }

theorem startWindow_lane (s : State) (l : Nat) : (s.startWindow l).lane l = (s.lane l).windowed := by
  unfold State.startWindow
  extract_lets s1
  have h : s1.lane l = s.lane l := windowFields_lane s l l
  clear_value s1
  exact (State.lane_set s1 l _).trans (congrArg LaneState.windowed h)

/-- The fields that a training window's start may change. -/
def windowKeys (l : Nat) : List Nat := (LANE.PRE_IN_FORCE l).key :: (LANE.POST_IN_FORCE l).key :: (windowFlds l).map (·.key)

theorem startWindow_keeps (s : State) (l : Nat) : KeepsRegs (windowKeys l) s (s.startWindow l) := by
  have hlive : KeepsRegs (windowKeys l) s (s.applyLiveOf (windowFlds l)) := fun f hf => copyFlds_ne _ _ _ _ fun g hg e => hf
    (List.mem_cons_of_mem _ (List.mem_cons_of_mem _ (List.mem_map.mpr ⟨g, List.mem_of_mem_filter hg, e.symm⟩)))
  have hwin : KeepsRegs (windowKeys l) s (s.windowFields l) := by
    unfold State.windowFields
    extract_lets taps s1
    have hs1 : KeepsRegs (windowKeys l) s s1 := hlive
    clear_value s1
    split
    · exact (hs1.wr _ _ (by simp [windowKeys])).wr _ _ (by simp [windowKeys])
    · exact hs1
  exact hwin.of_cur rfl

/-- The first twenty bits of a lane's own fields that no training window takes in. -/
theorem windowKeys_apart : ∀ l < 6, ∀ f ∈ [LANE.STATE l, LANE.RATE l, LANE.ALIGNED l, LANE.SLIPS l, LANE.RETRAINS l, LANE.INT_RETRAIN l,
    LANE.ENABLE l, LANE.CDR_LOCK l], f.key ∉ windowKeys l := by decide +kernel

/-- The fields that show a lane's state stand apart from those that a window takes in and those that it shows beside them. -/
theorem startWindow_rd {s : State} {l : Nat} (hl : l < 6) {f : Fld} (hf : f ∈ [LANE.STATE l, LANE.RATE l, LANE.ALIGNED l, LANE.SLIPS l,
    LANE.RETRAINS l, LANE.INT_RETRAIN l, LANE.ENABLE l, LANE.CDR_LOCK l]) : (s.startWindow l).rd f = s.rd f :=
  startWindow_keeps s l f (windowKeys_apart l hl f hf)

theorem state_apart : ∀ l < 6, ∀ f ∈ [LANE.RATE l, LANE.ALIGNED l, LANE.SLIPS l, LANE.RETRAINS l, LANE.INT_RETRAIN l, LANE.ENABLE l, LANE.CDR_LOCK l],
    f.key ∉ (LANE.STATE l).key :: stateKeysOf l := by decide +kernel

/-- A lane beside its rate: what a retrain starts from. -/
def LaneState.retrained (x : LaneState) : LaneState :=
  { x with leaving := false, retraining := true, passed := false, fails := 0, eqReqs := 0, errs125 := 0, markers := 0 }

/-- A lane's rate and state at the start of its retrain. -/
def State.retrainShown (s : State) (l st rate : Nat) : State :=
  (((s.wr (LANE.RATE l) rate).setLaneState l st).raise (LANE.INT_RETRAIN l)).count (LANE.RETRAINS l) 1

theorem retrainLane_eq (s : State) (l st rate : Nat) :
    s.retrainLane l st rate = ((s.retrainShown l st rate).setLane l (s.lane l).retrained).startWindow l := rfl

theorem retrainShown_only (s : State) (l st rate : Nat) : LaneOnly l s (s.retrainShown l st rate) := by
  have h := ((LaneOnly.refl l s).wr (LANE.RATE l) rate (laneKeys_shown (by simp [laneShown]))).trans (setLaneState_only l st _)
  exact (h.put (LANE.INT_RETRAIN l) true (laneKeys_shown (by simp [laneShown]))).count (LANE.RETRAINS l) 1 (laneKeys_shown (by simp [laneShown]))

theorem retrainLane_only (s : State) (l st rate : Nat) : LaneOnly l s (s.retrainLane l st rate) := by
  rw [retrainLane_eq]
  exact ((retrainShown_only s l st rate).setLane _).trans (startWindow_only l _)

theorem retrainShown_shows (s : State) {l : Nat} (hl : l < 6) (st rate : Nat) : (s.retrainShown l st rate).rd (LANE.STATE l) = st % 8
    ∧ (s.retrainShown l st rate).rd (LANE.RATE l) = rate % 2 ^ 3 ∧ (s.retrainShown l st rate).on (LANE.INT_RETRAIN l) = true
    ∧ (s.retrainShown l st rate).rd (LANE.RETRAINS l) = min (s.rd (LANE.RETRAINS l) + 1) 65535 := by
  have hapart := state_apart l hl
  have hstate := setLaneState_state (s.wr (LANE.RATE l) rate) l st
  have hrate := (setLaneState_rd (s := s.wr (LANE.RATE l) rate) (st := st) (hapart (LANE.RATE l) (by simp))).trans (State.rd_wr_self s _ _)
  have hcount := (setLaneState_rd (s := s.wr (LANE.RATE l) rate) (st := st) (hapart (LANE.RETRAINS l) (by simp))).trans
    (State.rd_wr_ne s (LANE.RATE l) (LANE.RETRAINS l) rate (by simp only [LANE.RATE, LANE.RETRAINS, fld_key]; omega))
  unfold State.retrainShown
  generalize (s.wr (LANE.RATE l) rate).setLaneState l st = u at *
  have hk : KeepsRegs [(LANE.INT_RETRAIN l).key, (LANE.RETRAINS l).key] u ((u.raise (LANE.INT_RETRAIN l)).count (LANE.RETRAINS l) 1) :=
    ((KeepsRegs.refl _ u).put _ _ (by simp)).count _ _ (by simp)
  refine ⟨(hk _ ?_).trans hstate, (hk _ ?_).trans hrate, ?_, ?_⟩
  · simp only [List.mem_cons, List.not_mem_nil, or_false, LANE.STATE, LANE.INT_RETRAIN, LANE.RETRAINS, fld_key]
    omega
  · simp only [List.mem_cons, List.not_mem_nil, or_false, LANE.RATE, LANE.INT_RETRAIN, LANE.RETRAINS, fld_key]
    omega
  · exact (State.on_wr_ne _ _ _ _ (by simp only [LANE.INT_RETRAIN, LANE.RETRAINS, fld_key]; omega)).trans (State.on_put_self _ _ _ Nat.one_pos)
  · refine (unlockCount_next (u.raise (LANE.INT_RETRAIN l)) _ rfl).trans ?_
    rw [← hcount]
    exact congrArg (fun n => min (n + 1) 65535) (State.rd_put_ne u _ _ _ (by simp only [LANE.INT_RETRAIN, LANE.RETRAINS, fld_key]; omega))

theorem retrainLane_shows (s : State) {l : Nat} (hl : l < 6) (st rate : Nat) : (s.retrainLane l st rate).rd (LANE.STATE l) = st % 8
    ∧ (s.retrainLane l st rate).rd (LANE.RATE l) = rate % 2 ^ 3 ∧ (s.retrainLane l st rate).on (LANE.INT_RETRAIN l) = true
    ∧ (s.retrainLane l st rate).rd (LANE.RETRAINS l) = min (s.rd (LANE.RETRAINS l) + 1) 65535
    ∧ (s.retrainLane l st rate).lane l = (s.lane l).retrained.windowed := by
  obtain ⟨h1, h2, h3, h4⟩ := retrainShown_shows s hl st rate
  have hset (f : Fld) : ((s.retrainShown l st rate).setLane l (s.lane l).retrained).rd f = (s.retrainShown l st rate).rd f := rfl
  rw [retrainLane_eq]
  refine ⟨(startWindow_rd hl (by simp)).trans ((hset _).trans h1), (startWindow_rd hl (by simp)).trans ((hset _).trans h2),
    (congrArg (· != 0) (startWindow_rd hl (f := LANE.INT_RETRAIN l) (by simp))).trans h3, (startWindow_rd hl (by simp)).trans ((hset _).trans h4), ?_⟩
  rw [startWindow_lane, State.lane_set]

theorem laneDown_only (s : State) (l : Nat) : LaneOnly l s (s.laneDown l) := by
  have h := (setLaneState_only l lsDown s)
  unfold State.laneDown
  generalize s.setLaneState l lsDown = u at *
  have hd : LaneOnly l s ((u.setLane l {}).wr (LANE.RATE l) 0) := (h.setLane {}).wr (LANE.RATE l) 0 (laneKeys_shown (by simp [laneShown]))
  extract_lets s1
  have hs1 : LaneOnly l s s1 := hd
  clear_value s1
  refine .ite hs1 ?_
  exact (((hs1.put (LANE.ALIGNED l) false (laneKeys_shown (by simp [laneShown]))).put (LANE.ST_ALIGNED l) false
    (laneKeys_shown (by simp [laneShown]))).put (LANE.CDR_LOCK l) false (laneKeys_shown (by simp [laneShown]))).wr (LANE.SLIPS l) 0
    (laneKeys_shown (by simp [laneShown]))

theorem laneDown_shows (s : State) (l : Nat) : (s.laneDown l).rd (LANE.STATE l) = 0 ∧ (s.laneDown l).lane l = {} := by
  have hstate := setLaneState_state s l lsDown
  unfold State.laneDown
  generalize s.setLaneState l lsDown = u at *
  extract_lets s1
  have hs1 : s1.rd (LANE.STATE l) = 0 := (State.rd_wr_ne _ _ _ _ (by simp only [LANE.STATE, LANE.RATE, fld_key]; omega)).trans hstate
  have hlane : s1.lane l = {} := State.lane_set u l {}
  clear_value s1
  split
  · exact ⟨hs1, hlane⟩
  · have hk : KeepsRegs [(LANE.ALIGNED l).key, (LANE.ST_ALIGNED l).key, (LANE.CDR_LOCK l).key, (LANE.SLIPS l).key] s1
        ((((s1.put (LANE.ALIGNED l) false).put (LANE.ST_ALIGNED l) false).put (LANE.CDR_LOCK l) false).wr (LANE.SLIPS l) 0) :=
      ((((KeepsRegs.refl _ s1).put _ _ (by simp)).put _ _ (by simp)).put _ _ (by simp)).wr _ _ (by simp)
    refine ⟨(hk _ ?_).trans hs1, hlane⟩
    simp only [List.mem_cons, List.not_mem_nil, or_false, LANE.STATE, LANE.ALIGNED, LANE.ST_ALIGNED, LANE.CDR_LOCK, LANE.SLIPS, fld_key]
    omega

end

end Sys2Proof.Machine
end

section
/-! PROOFS. The bundle of Yomos Link: its going down and its retrain (R278, R282, R293, R296). -/
namespace Sys2Proof.Machine
open Sys2Proof

/-! ### What the bundle's operations leave alone -/

/-- What the bundle shows. -/
def bundleShown : List Nat :=
  [L0.B_UP.key, (LANE.ST_BUNDLE_UP 0).key, L0.B_ACTIVE.key, L0.B_VERSION.key, L0.CREDIT_PTS.key, L0.CREDIT_RAW.key, L0.SEQ_NEXT.key, L0.SEQ_ACKED.key]

/-- The fields that an operation on the bundle may change. -/
def bundleKeys : List Nat := bundleShown ++ dataLanes.flatMap laneKeys

theorem bundleKeys_lane {l k : Nat} (hl : l ∈ dataLanes) (hk : k ∈ laneKeys l) : k ∈ bundleKeys :=
  List.mem_append_right _ (List.mem_flatMap.mpr ⟨l, hl, hk⟩)

/-- The blocks sent and the markers' count stay. -/
structure BundleOnly (s t : State) : Prop where
  regs : KeepsRegs bundleKeys s t
  shadow : t.regs.shadow = s.regs.shadow
  sent : t.lnk.sent = s.lnk.sent
  mcount : t.lnk.mcount = s.lnk.mcount

section
variable {s t u : State}

theorem BundleOnly.refl (s : State) : BundleOnly s s := ⟨KeepsRegs.refl _ s, rfl, rfl, rfl⟩

theorem BundleOnly.trans (h : BundleOnly s t) (h' : BundleOnly t u) : BundleOnly s u :=
  ⟨h.regs.trans h'.regs, h'.shadow.trans h.shadow, h'.sent.trans h.sent, h'.mcount.trans h.mcount⟩

theorem BundleOnly.wr (h : BundleOnly s t) (f : Fld) (v : Nat) (hf : f.key ∈ bundleKeys) : BundleOnly s (t.wr f v) :=
  ⟨h.regs.wr f v hf, h.shadow, h.sent, h.mcount⟩

theorem BundleOnly.put (h : BundleOnly s t) (f : Fld) (b : Bool) (hf : f.key ∈ bundleKeys) : BundleOnly s (t.put f b) := h.wr f _ hf

theorem BundleOnly.of_same (h : BundleOnly s t) (hregs : u.regs = t.regs) (hsent : u.lnk.sent = t.lnk.sent) (hcount : u.lnk.mcount = t.lnk.mcount) :
    BundleOnly s u :=
  ⟨h.regs.of_cur (congrArg Regs.cur hregs), (congrArg Regs.shadow hregs).trans h.shadow, hsent.trans h.sent, hcount.trans h.mcount⟩

theorem BundleOnly.lane {l : Nat} (h : BundleOnly s t) (hl : l ∈ dataLanes) (h' : LaneOnly l t u) : BundleOnly s u :=
  ⟨h.regs.trans (h'.regs.mono fun _ hk => bundleKeys_lane hl hk), h'.shadow.trans h.shadow, (congrArg LinkState.sent h'.link).trans h.sent,
    (congrArg LinkState.mcount h'.link).trans h.mcount⟩

theorem BundleOnly.ite {c : Prop} [Decidable c] {a b : State} (ha : BundleOnly s a) (hb : BundleOnly s b) : BundleOnly s (if c then a else b) := by
  split
  · exact ha
  · exact hb

theorem BundleOnly.foldl {α : Type} {f : State → α → State} {l : List α} (h : BundleOnly s t) (hf : ∀ v, ∀ a ∈ l, BundleOnly v (f v a)) :
    BundleOnly s (l.foldl f t) := by
  refine List.foldlRecOn (motive := fun v => BundleOnly s v) l f h fun v hv a ha => hv.trans (hf v a ha)

theorem shown_mem {k : Nat} (h : k ∈ bundleShown) : k ∈ bundleKeys := List.mem_append_left _ h

theorem setBundle_only (h : BundleOnly s t) (up : Bool) (active : List Nat) : BundleOnly s (t.setBundle up active) := by
  have hw := ((h.put L0.B_UP up (shown_mem (by decide))).put (LANE.ST_BUNDLE_UP 0) up (shown_mem (by decide))).wr L0.B_ACTIVE (laneMask active)
    (shown_mem (by decide))
  exact hw.of_same rfl rfl rfl

theorem showCredit_only (h : BundleOnly s t) : BundleOnly s t.showCredit :=
  (h.wr L0.CREDIT_PTS _ (shown_mem (by decide))).wr L0.CREDIT_RAW _ (shown_mem (by decide))

theorem showSeq_only (h : BundleOnly s t) : BundleOnly s t.showSeq :=
  (h.wr L0.SEQ_NEXT _ (shown_mem (by decide))).wr L0.SEQ_ACKED _ (shown_mem (by decide))

/-- The link once the bundle has gone DOWN. -/
def State.linkDown (s : State) : State :=
  State.setPath { s with lnk := { s.lnk with bundleDown := true, limitPts := 0, limitRaw := 0, usedPts := 0, usedRaw := 0 } } 0 {}

/-- The data lanes that are not out of the stripe go DOWN. -/
def State.lanesDown (s : State) : State := dataLanes.foldl (fun s l => if s.laneState l = lsRemoved then s else s.laneDown l) s

theorem bundleDown_eq (s : State) :
    s.bundleDown = State.showSeq (State.showCredit ((s.lanesDown.linkDown.setBundle false []).wr L0.B_VERSION 0)) := by
  unfold State.bundleDown State.lanesDown
  generalize dataLanes.foldl (fun s l => if s.laneState l = lsRemoved then s else s.laneDown l) s = u
  rfl

theorem lanesDown_only (h : BundleOnly s t) : BundleOnly s t.lanesDown :=
  h.foldl fun v l hl => .ite (.refl v) ((BundleOnly.refl v).lane hl (laneDown_only v l))

theorem bundleDown_only (h : BundleOnly s t) : BundleOnly s t.bundleDown := by
  rw [bundleDown_eq]
  have hd := lanesDown_only h
  generalize t.lanesDown = u at *
  exact showSeq_only (showCredit_only ((setBundle_only (hd.of_same (u := u.linkDown) rfl rfl rfl) false []).wr L0.B_VERSION 0 (shown_mem (by decide))))

theorem noneLeft_only (h : BundleOnly s t) : BundleOnly s t.noneLeft := by
  unfold State.noneLeft
  refine .ite ?_ h
  exact bundleDown_only (h.foldl fun v l hl => (BundleOnly.refl v).lane hl (laneDown_only v l))

/-- A lane of the bundle trains again, or goes DOWN. -/
def State.trainAgain (s : State) (l : Nat) : State := if s.on (LANE.ENABLE l) then s.retrainLane l lsTrain (s.rd L0.B_RATE) else s.laneDown l

/-- The lanes that a retrain of the bundle takes. -/
def State.bundleLanes (s : State) : List Nat := dataLanes.filter fun l => lsTrain ≤ s.laneState l && s.laneState l ≤ lsActive

/-- The bundle with its lanes in training. -/
def State.bundleTrained (s : State) : State := (s.bundleLanes.foldl State.trainAgain s).setBundle false []

theorem retrainBundle_eq (s : State) : s.retrainBundle = if s.lnk.bundleDown then s.bundleTrained else s.bundleTrained.noneLeft := rfl

theorem trainAgain_only (s : State) (l : Nat) : LaneOnly l s (s.trainAgain l) := .ite (retrainLane_only s l _ _) (laneDown_only s l)

theorem bundleTrained_only (s : State) : BundleOnly s s.bundleTrained :=
  setBundle_only ((BundleOnly.refl s).foldl fun v l hl => (BundleOnly.refl v).lane (List.mem_of_mem_filter hl) (trainAgain_only v l)) false []

theorem retrainBundle_only (s : State) : BundleOnly s s.retrainBundle := by
  rw [retrainBundle_eq]
  exact .ite (bundleTrained_only s) (noneLeft_only (bundleTrained_only s))

/-! ### What a retrain of the bundle shows -/

theorem setBundle_shows (s : State) (up : Bool) (active : List Nat) :
    (s.setBundle up active).on L0.B_UP = up ∧ (s.setBundle up active).lnk.stripe = active
      ∧ (s.setBundle up active).rd L0.B_ACTIVE = laneMask active % 2 ^ 4
      ∧ KeepsRegs [L0.B_UP.key, (LANE.ST_BUNDLE_UP 0).key, L0.B_ACTIVE.key] s (s.setBundle up active) := by
  refine ⟨?_, rfl, State.rd_wr_self _ _ _, ?_⟩
  · refine (State.on_wr_ne _ _ _ _ (by decide)).trans ((State.on_put_ne _ _ _ _ (by decide)).trans (State.on_put_self _ _ _ (by decide)))
  · exact ((((KeepsRegs.refl _ s).put L0.B_UP up (by decide)).put (LANE.ST_BUNDLE_UP 0) up (by decide)).wr L0.B_ACTIVE _ (by decide)).of_cur rfl

theorem bundleDown_shows (s : State) : s.bundleDown.on L0.B_UP = false ∧ s.bundleDown.lnk.stripe = [] := by
  obtain ⟨h1, h2, -, -⟩ := setBundle_shows s.lanesDown.linkDown false []
  rw [bundleDown_eq]
  generalize s.lanesDown.linkDown.setBundle false [] = u at *
  have hk : KeepsRegs [L0.B_VERSION.key, L0.CREDIT_PTS.key, L0.CREDIT_RAW.key, L0.SEQ_NEXT.key, L0.SEQ_ACKED.key] u (u.wr L0.B_VERSION 0).showCredit.showSeq :=
    (((((KeepsRegs.refl _ u).wr L0.B_VERSION 0 (by decide)).wr L0.CREDIT_PTS _ (by decide)).wr L0.CREDIT_RAW _ (by decide)).wr L0.SEQ_NEXT _
      (by decide)).wr L0.SEQ_ACKED _ (by decide)
  exact ⟨(congrArg (· != 0) (hk L0.B_UP (by decide))).trans h1, h2⟩

/-- A lane that trains in the bundle's stead. -/
def Trains (s t : State) (n : Nat) : Prop := t.rd (LANE.STATE n) = 3 ∧ t.rd (LANE.RATE n) = s.rd L0.B_RATE % 2 ^ 3

/-- A retrain of the bundle. -/
def Retrains (s t : State) : Prop := t.on L0.B_UP = false ∧ t.lnk.stripe = []
  ∧ ∀ n < 4, s.on (LANE.ENABLE n) = true → 3 ≤ s.rd (LANE.STATE n) → s.rd (LANE.STATE n) ≤ 5 →
    t.rd (LANE.STATE n) = 3 ∧ t.rd (LANE.RATE n) = s.rd L0.B_RATE % 2 ^ 3

/-- Where the fields of a lane's operations lie: in its folio, or with CAL and C1. -/
theorem laneKeys_page {l k : Nat} (h : k ∈ laneKeys l) : k / pageBits = pLane l ∨ k = (LANE.ST_PAIR_OK 5).key ∨ 0x1C * pageBits ≤ k := by
  rcases List.mem_append.mp h with h | h
  · simp only [laneShown, List.mem_cons, List.not_mem_nil, or_false, LANE.STATE, LANE.ST_LANE_ACTIVE, LANE.INT_UP, LANE.INT_DOWN, LANE.RATE,
      LANE.ALIGNED, LANE.ST_ALIGNED, LANE.CDR_LOCK, LANE.SLIPS, LANE.INT_RETRAIN, LANE.RETRAINS, LANE.PRE_IN_FORCE, LANE.POST_IN_FORCE,
      CAL.EYE_VALID, LANE.ST_PAIR_OK, fld_key, pageBits, pLane] at h ⊢
    omega
  · obtain ⟨f, hf, rfl⟩ := List.mem_map.mp h
    exact .inl (fieldsOf_page (List.mem_of_mem_filter hf))

/-- The lanes' fields stand apart. -/
theorem lanes_apart {l n : Nat} (hn : n < 6) (hne : n ≠ l) : ∀ f ∈ [LANE.STATE n, LANE.RATE n, LANE.ENABLE n], f.key ∉ laneKeys l := by
  intro f hf hk
  have hpage := laneKeys_page hk
  simp only [List.mem_cons, List.not_mem_nil, or_false] at hf
  rcases hf with rfl | rfl | rfl <;>
    simp only [LANE.STATE, LANE.RATE, LANE.ENABLE, LANE.ST_PAIR_OK, fld_key, pageBits, pLane] at hpage <;> omega

theorem bundle_apart : ∀ l < 6, (LANE.ENABLE l).key ∉ laneKeys l ∧ L0.B_RATE.key ∉ laneKeys l ∧ L0.B_UP.key ∉ laneKeys l
    ∧ L0.B_VERSION.key ∉ laneKeys l ∧ (CTL.C_VERSION 0).key ∉ laneKeys l := by decide +kernel

theorem bundleLanes_train (s : State) {n : Nat} (hn : n < 4) (hen : s.on (LANE.ENABLE n) = true) (hlow : 3 ≤ s.rd (LANE.STATE n))
    (hhigh : s.rd (LANE.STATE n) ≤ 5) : Trains s (s.bundleLanes.foldl State.trainAgain s) n := by
  have hdata : n ∈ dataLanes := (by decide : ∀ n < 4, n ∈ dataLanes) n hn
  have hmem : n ∈ s.bundleLanes := List.mem_filter.mpr ⟨hdata, by
    rw [State.laneState, Bool.and_eq_true, decide_eq_true_eq, decide_eq_true_eq]
    exact ⟨hlow, hhigh⟩⟩
  have hnodup : s.bundleLanes.Nodup := List.Nodup.filter _ (by decide)
  have hsix : ∀ m ∈ s.bundleLanes, m < 6 := fun m hm => (by decide : ∀ m ∈ dataLanes, m < 6) m (List.mem_of_mem_filter hm)
  refine foldl_reach_once (P := fun t => Trains s t n) (Q := fun t => t.on (LANE.ENABLE n) = true ∧ t.rd L0.B_RATE = s.rd L0.B_RATE) hmem hnodup
    (fun t m hm hmn hq => ?_) (fun t hq => ?_) (fun t m hm hmn hp => ?_) s ⟨hen, rfl⟩
  · have honly := (trainAgain_only t m).regs
    exact ⟨(congrArg (· != 0) (honly _ (lanes_apart (show n < 6 by omega) (Ne.symm hmn) _ (by simp)))).trans hq.1,
      (honly _ (bundle_apart m (hsix m hm)).2.1).trans hq.2⟩
  · unfold State.trainAgain
    rw [if_pos hq.1, hq.2]
    obtain ⟨h1, h2, -⟩ := retrainLane_shows t (show n < 6 by omega) lsTrain (s.rd L0.B_RATE)
    exact ⟨h1, h2⟩
  · have honly := (trainAgain_only t m).regs
    have hapart := lanes_apart (show n < 6 by omega) (Ne.symm hmn)
    exact ⟨(honly _ (hapart _ (by simp))).trans hp.1, (honly _ (hapart _ (by simp))).trans hp.2⟩

theorem setBundle_apart : ∀ n < 6, ∀ f ∈ [LANE.STATE n, LANE.RATE n, LANE.ENABLE n],
    f.key ∉ [L0.B_UP.key, (LANE.ST_BUNDLE_UP 0).key, L0.B_ACTIVE.key] := by decide

theorem bundleTrained_retrains (s : State) : Retrains s s.bundleTrained := by
  obtain ⟨h1, h2, -, h4⟩ := setBundle_shows (s.bundleLanes.foldl State.trainAgain s) false []
  refine ⟨h1, h2, fun n hn hen hlow hhigh => ?_⟩
  obtain ⟨k1, k2⟩ := bundleLanes_train s hn hen hlow hhigh
  have hapart := setBundle_apart n (by omega)
  exact ⟨(h4 _ (hapart _ (by simp))).trans k1, (h4 _ (hapart _ (by simp))).trans k2⟩

theorem noneLeft_lane {s : State} {n : Nat} (hn : n < 4) (hst : 3 ≤ s.rd (LANE.STATE n)) (hne : s.rd (LANE.STATE n) ≠ 6) : s.noneLeft = s := by
  refine if_neg fun h => ?_
  have hone := List.all_eq_true.mp h n ((by decide : ∀ n < 4, n ∈ dataLanes) n hn)
  rw [Bool.or_eq_true, decide_eq_true_eq, decide_eq_true_eq] at hone
  exact hone.elim (fun h => absurd hst (Nat.not_le.mpr h)) hne

theorem noneLeft_down {s : State} (h : s.on L0.B_UP = false) (hs : s.lnk.stripe = []) :
    s.noneLeft.on L0.B_UP = false ∧ s.noneLeft.lnk.stripe = [] := by
  unfold State.noneLeft
  split
  · exact bundleDown_shows _
  · exact ⟨h, hs⟩

theorem retrainBundle_retrains (s : State) : Retrains s s.retrainBundle := by
  obtain ⟨h1, h2, h3⟩ := bundleTrained_retrains s
  rw [retrainBundle_eq]
  split
  · exact ⟨h1, h2, h3⟩
  · refine ⟨(noneLeft_down h1 h2).1, (noneLeft_down h1 h2).2, fun n hn hen hlow hhigh => ?_⟩
    obtain ⟨k1, k2⟩ := h3 n hn hen hlow hhigh
    rw [noneLeft_lane hn (by omega) (by omega)]
    exact ⟨k1, k2⟩

end

end Sys2Proof.Machine
end

section
/-! PROOFS. Credits, transmission, acknowledgement, replay and acceptance on Yomos Link (R272 to R287). -/
namespace Sys2Proof.Machine
open Sys2Proof

section
variable {s : State}

/-! ### Credits (R281, R283) -/

theorem showCredit_shows (s : State) : s.showCredit.rd L0.CREDIT_PTS = (s.lnk.limitPts - s.lnk.usedPts).toNat
    ∧ s.showCredit.rd L0.CREDIT_RAW = (s.lnk.limitRaw - s.lnk.usedRaw).toNat ∧ KeepsRegs [L0.CREDIT_PTS.key, L0.CREDIT_RAW.key] s s.showCredit := by
  have hlow (x : BitVec 24) : x.toNat % 2 ^ 24 = x.toNat := Nat.mod_eq_of_lt x.isLt
  refine ⟨?_, ?_, ((KeepsRegs.refl _ s).wr _ _ (by decide)).wr _ _ (by decide)⟩
  · exact (State.rd_wr_ne _ _ _ _ (by decide)).trans ((State.rd_wr_self _ _ _).trans (hlow _))
  · exact (State.rd_wr_self _ _ _).trans (hlow _)

theorem newer_iff (new old : BitVec 24) : newer new old = true ↔ 1 ≤ (new - old).toNat ∧ (new - old).toNat < 2 ^ 23 := by
  unfold newer
  dsimp only
  rw [Bool.and_eq_true, decide_eq_true_eq, decide_eq_true_eq]

theorem credit_taken {raw : Bool} {limit : BitVec 24} (h : newer limit (if raw then s.lnk.limitRaw else s.lnk.limitPts) = true) :
    ∃ t, exec (.creditReceived raw limit) s = .next t ∧ t.lnk.stalled = false
      ∧ t.lnk.limitRaw = (if raw then limit else s.lnk.limitRaw) ∧ t.lnk.limitPts = (if raw then s.lnk.limitPts else limit)
      ∧ t.rd L0.CREDIT_PTS = (t.lnk.limitPts - t.lnk.usedPts).toNat ∧ t.rd L0.CREDIT_RAW = (t.lnk.limitRaw - t.lnk.usedRaw).toNat
      ∧ KeepsRegs [L0.CREDIT_PTS.key, L0.CREDIT_RAW.key] s t := by
  have hgo : ¬(!newer limit (if raw then s.lnk.limitRaw else s.lnk.limitPts)) = true := by rw [h]; decide
  cases raw with
  | true =>
    obtain ⟨h1, h2, h3⟩ := showCredit_shows { s with lnk.limitRaw := limit, lnk.stalled := false }
    exact ⟨_, congrArg Host.Outcome.next ((if_neg hgo).trans (if_pos rfl)), rfl, rfl, rfl, h1, h2, h3⟩
  | false =>
    obtain ⟨h1, h2, h3⟩ := showCredit_shows { s with lnk.limitPts := limit, lnk.stalled := false }
    exact ⟨_, congrArg Host.Outcome.next ((if_neg hgo).trans (if_neg Bool.false_ne_true)), rfl, rfl, rfl, h1, h2, h3⟩

theorem hasCredit_iff (limit used : BitVec 24) (len : Nat) :
    hasCredit limit used len = true ↔ (len + 63) / 64 ≤ (limit - used).toNat ∧ (limit - used).toNat < 2 ^ 23 := by
  unfold hasCredit creditsOf
  dsimp only
  rw [Bool.and_eq_true, decide_eq_true_eq, decide_eq_true_eq]

/-- STALL is reported. -/
def State.stallShown (s : State) : State := State.raise { s.count L0.STALLS 1 with lnk.stalled := true, acq.stall := true } (LANE.INT_STALL 0)

theorem exec_stall {b : List DWord} {rest : List (List DWord)} (hout : s.pca.out = b :: rest) :
    exec .stall s = .next (if s.lnk.stalled || hasCredit s.lnk.limitPts s.lnk.usedPts b.length then s else s.stallShown) := by
  refine congrArg Host.Outcome.next ?_
  dsimp only
  rw [hout] <;> rfl

theorem stallShown_shows (s : State) : s.stallShown.lnk.stalled = true ∧ s.stallShown.acq.stall = true
    ∧ s.stallShown.rd L0.STALLS = min (s.rd L0.STALLS + 1) 65535 ∧ s.stallShown.on (LANE.INT_STALL 0) = true := by
  refine ⟨rfl, rfl, ?_, State.on_put_self _ _ _ (by decide)⟩
  exact (State.rd_put_ne _ (LANE.INT_STALL 0) L0.STALLS true (by decide)).trans (unlockCount_next s L0.STALLS rfl)

/-! ### A new packet leaves (R274 to R276, R284) -/

/-- The words of a packet as they leave: T3 and DEPART are the TIME of its START. -/
def sentWords (s : State) (pkt : TxPacket) : List DWord :=
  if pkt.channel = 5 || pkt.channel = 6 then pkt.words.set 2 s.acq.time else pkt.words

/-- Packet m has left on path p. -/
def Sends (s t : State) (p : Nat) (m : TxPacket) : Prop :=
  t.lnk.tx = some (p, { m with seq := (s.path p).seqNext }) ∧ (t.path p).seqNext = ((s.path p).seqNext + 1) % 4096
    ∧ (t.path p).replay = if 2 ≤ s.pathVersion p then (s.path p).replay ++ [{ m with seq := (s.path p).seqNext }] else []

theorem Sends.of_lnk {t u : State} {p : Nat} {m : TxPacket} (h : Sends s t p m) (htx : u.lnk.tx = t.lnk.tx) (hpaths : u.lnk.paths = t.lnk.paths) :
    Sends s u p m := by
  have hpath : u.path p = t.path p := by rw [State.path, hpaths]; rfl
  unfold Sends
  rw [htx, hpath]
  exact h

theorem transmit_sends (s : State) (p : Nat) (pkt : TxPacket) : Sends s (s.transmit p pkt) p { pkt with words := sentWords s pkt } := by
  have hpath : (s.transmit p pkt).path p = { s.path p with
      seqNext := ((s.path p).seqNext + 1) % 4096
      replay := if s.pathVersion p < 2 then [] else (s.path p).replay ++ [{ pkt with seq := (s.path p).seqNext, words := sentWords s pkt }] } :=
    State.path_set s p _
  refine ⟨rfl, by rw [hpath], ?_⟩
  rw [hpath]
  dsimp only
  by_cases h : 2 ≤ s.pathVersion p
  · rw [if_neg (Nat.not_lt.mpr h), if_pos h]
  · rw [if_pos (Nat.not_le.mp h), if_neg h]

/-- What a packet's leaving takes beside its path: the credits and the block. -/
def State.blockSent (s : State) (b : List DWord) (rest : List (List DWord)) : State :=
  { s.transmit 0 { channel := 0, first := true, last := true, words := b } with
    lnk.usedPts := s.lnk.usedPts + BitVec.ofNat 24 (creditsOf b.length), pca.out := rest }

theorem showOut_lnk (s : State) : s.showOut.lnk = s.lnk := rfl

theorem sendBundle_block {b : List DWord} {rest : List (List DWord)} {errors : List StackError} (hout : s.pca.out = b :: rest)
    (hcredit : hasCredit s.lnk.limitPts s.lnk.usedPts b.length = true) (hroom : 2 ≤ s.pathVersion 0 → (s.path 0).room 0 (8 * b.length) = true) :
    s.sendBundle errors = (s.blockSent b rest).showCredit.showOut := by
  have hgo : ¬(!hasCredit s.lnk.limitPts s.lnk.usedPts b.length || (decide (2 ≤ s.version) && !(s.path 0).room 0 (8 * b.length))) = true := by
    rw [hcredit]
    by_cases h : 2 ≤ s.version
    · rw [hroom h]
      simp
    · rw [decide_eq_false h]
      simp
  unfold State.sendBundle
  rw [hout]
  exact (if_neg hgo).trans rfl

theorem blockSent_shows (s : State) (b : List DWord) (rest : List (List DWord)) :
    Sends s (s.blockSent b rest).showCredit.showOut 0 { channel := 0, first := true, last := true, words := b }
      ∧ (s.blockSent b rest).showCredit.showOut.pca.out = rest
      ∧ (s.blockSent b rest).showCredit.showOut.lnk.usedPts = s.lnk.usedPts + BitVec.ofNat 24 (creditsOf b.length) := by
  have hsends := transmit_sends s 0 { channel := 0, first := true, last := true, words := b }
  have hpca := (showOut_pca (s.blockSent b rest).showCredit).1
  have hlnk := showOut_lnk (s.blockSent b rest).showCredit
  generalize (s.blockSent b rest).showCredit.showOut = t at *
  refine ⟨hsends.of_lnk ((congrArg LinkState.tx hlnk).trans rfl) ((congrArg LinkState.paths hlnk).trans rfl), (congrArg PcaState.out hpca).trans rfl,
    (congrArg LinkState.usedPts hlnk).trans rfl⟩

/-- The command on a path that is up, with nothing to send again. -/
theorem exec_transmit_new {link : Fin 3} {errors : List StackError} (hresend : (s.path link).resend = 0)
    (hup : if (link : Nat) = 0 then s.on L0.B_UP = true else s.rd (LANE.STATE (pathLane link)) = 5) :
    exec (.packetTransmit ⟨link, errors⟩) s = .next (if (link : Nat) = 0 then s.sendBundle errors else s.sendControl link) := by
  have hgo : ¬(!(if (link : Nat) = 0 then s.on L0.B_UP else decide (s.laneState (pathLane link) = lsActive))) = true := by
    split at hup
    · next h => rw [if_pos h, hup]; decide
    · next h => rw [if_neg h, State.laneState, hup]; decide
  refine congrArg Host.Outcome.next ((if_neg hgo).trans ?_)
  rw [hresend]
  exact if_neg (by decide)

theorem exec_transmit_again {link : Fin 3} {errors : List StackError} {pkt : TxPacket} (hresend : 0 < (s.path link).resend)
    (hpkt : (s.path link).replay[(s.path link).replay.length - (s.path link).resend]? = some pkt)
    (hup : if (link : Nat) = 0 then s.on L0.B_UP = true else s.rd (LANE.STATE (pathLane link)) = 5) :
    exec (.packetTransmit ⟨link, errors⟩) s
      = .next { s.setPath link { s.path link with resend := (s.path link).resend - 1 } with lnk.tx := some ((link : Nat), pkt) } := by
  have hgo : ¬(!(if (link : Nat) = 0 then s.on L0.B_UP else decide (s.laneState (pathLane link) = lsActive))) = true := by
    split at hup
    · next h => rw [if_pos h, hup]; decide
    · next h => rw [if_neg h, State.laneState, hup]; decide
  refine congrArg Host.Outcome.next ((if_neg hgo).trans ((if_pos hresend).trans ?_))
  rw [hpkt]

theorem sendControl_sends {p : Nat} {pkt : TxPacket} (hnext : nextPacket p (s.path p).queue = some pkt)
    (hroom : 2 ≤ s.pathVersion p → (s.path p).room p pkt.bytes = true) :
    Sends s (s.sendControl p) p { pkt with words := sentWords s pkt } ∧ ((s.sendControl p).path p).queue = (s.path p).queue.erase pkt := by
  have hgo : ¬(decide (2 ≤ s.pathVersion p) && !(s.path p).room p pkt.bytes) = true := by
    by_cases h : 2 ≤ s.pathVersion p
    · rw [hroom h]
      simp
    · rw [decide_eq_false h]
      simp
  have hform : s.sendControl p = (s.setPath p { s.path p with queue := (s.path p).queue.erase pkt }).transmit p pkt := by
    unfold State.sendControl
    dsimp only
    rw [hnext]
    exact if_neg hgo
  have hset := State.path_set s p { s.path p with queue := (s.path p).queue.erase pkt }
  have hversion : (s.setPath p { s.path p with queue := (s.path p).queue.erase pkt }).pathVersion p = s.pathVersion p := rfl
  have hwords : sentWords (s.setPath p { s.path p with queue := (s.path p).queue.erase pkt }) pkt = sentWords s pkt := rfl
  rw [hform]
  generalize s.setPath p { s.path p with queue := (s.path p).queue.erase pkt } = u at *
  have hsends := transmit_sends u p pkt
  have hpath : (u.transmit p pkt).path p = { u.path p with
      seqNext := ((u.path p).seqNext + 1) % 4096
      replay := if u.pathVersion p < 2 then [] else (u.path p).replay ++ [{ pkt with seq := (u.path p).seqNext, words := sentWords u pkt }] } :=
    State.path_set u p _
  refine ⟨?_, by rw [hpath, hset]⟩
  unfold Sends at *
  rw [hset, hversion, hwords] at hsends
  exact hsends

/-! ### A ring entry leaves, or is dropped (R172, R276) -/

theorem wordsOfBytes_length : ∀ (n : Nat) (bs : List Byte), (wordsOfBytes n bs).length = n
  | 0, _ => rfl
  | n + 1, bs => congrArg (· + 1) (wordsOfBytes_length n (bs.drop 8))

theorem stackEcc_keeps (s : State) (addr : Nat) (found : Ecc) : KeepsLow s (s.stackEcc addr found) ∧ (s.stackEcc addr found).lnk = s.lnk
    ∧ (s.stackEcc addr found).acq = s.acq := by
  have hkey (f : Nat → Fld) (hf : ∀ b, (f b).key = (0x53 + b) * pageBits + (f 0).key % pageBits) (b : Nat) : 0x31 * pageBits ≤ (f b).key := by
    rw [hf]
    simp only [pageBits]
    omega
  unfold State.stackEcc
  extract_lets b
  cases found with
  | clean => exact ⟨KeepsLow.refl s, rfl, rfl⟩
  | single =>
    refine ⟨((KeepsLow.refl s).wr (f := SBANK.CE_COUNT b) ?_ _).put (f := SBANK.INT_CE b) ?_ true, rfl, rfl⟩ <;>
      simp only [SBANK.CE_COUNT, SBANK.INT_CE, fld_key, pageBits] <;> omega
  | double =>
    have h : KeepsLow s (((s.count (SBANK.UE_COUNT b) 1).wr (SBANK.LAST_UE_ADDR b) (addr / 8 * 8)).raise (SBANK.INT_UE b)) := by
      refine (((KeepsLow.refl s).wr (f := SBANK.UE_COUNT b) ?_ _).wr (f := SBANK.LAST_UE_ADDR b) ?_ _).put (f := SBANK.INT_UE b) ?_ true <;>
        simp only [SBANK.UE_COUNT, SBANK.LAST_UE_ADDR, SBANK.INT_UE, fld_key, pageBits] <;> omega
    have hrest : (((s.count (SBANK.UE_COUNT b) 1).wr (SBANK.LAST_UE_ADDR b) (addr / 8 * 8)).raise (SBANK.INT_UE b)).lnk = s.lnk
        ∧ (((s.count (SBANK.UE_COUNT b) 1).wr (SBANK.LAST_UE_ADDR b) (addr / 8 * 8)).raise (SBANK.INT_UE b)).acq = s.acq := ⟨rfl, rfl⟩
    dsimp only
    generalize ((s.count (SBANK.UE_COUNT b) 1).wr (SBANK.LAST_UE_ADDR b) (addr / 8 * 8)).raise (SBANK.INT_UE b) = u at *
    obtain ⟨r, posts, hfault⟩ := State.fault_state u (pSbank b) 0
    refine ⟨h.trans fun f hf => fault_keepsRegs u (pSbank b) 0 f fun hm => ?_, ?_, ?_⟩
    · obtain ⟨i, hi, e⟩ := List.mem_map.mp hm
      simp only [C.FAULT, fld_key, pageBits, pSbank] at e hf
      omega
    · rw [hfault]
      exact hrest.1
    · rw [hfault]
      exact hrest.2

theorem stackErrors_keeps (s : State) (errors : List StackError) : KeepsLow s (s.stackErrors errors) ∧ (s.stackErrors errors).lnk = s.lnk
    ∧ (s.stackErrors errors).acq = s.acq := by
  unfold State.stackErrors
  refine ⟨KeepsLow.foldl (fun t e _ => (stackEcc_keeps t _ _).1) s, foldl_keeps State.lnk (fun t e _ => (stackEcc_keeps t _ _).2.1) s,
    foldl_keeps State.acq (fun t e _ => (stackEcc_keeps t _ _).2.2) s⟩

/-- The words of the packet that the oldest ring entry sends next. -/
def State.ringWords (s : State) (errors : List StackError) (len : Nat) : List DWord :=
  ((wordsOfBytes ((len + 7) / 8) (s.ringBytes (s.spoiledBy errors) len)).drop s.acq.ringSent).take 4096

theorem sendRaw_dropped {errors : List StackError} {len : Nat} {entries : List Nat} (hring : s.acq.ringEntries = len :: entries)
    (hv : s.version = 1) : s.sendRaw errors = ((s.ringFree len).count ACQ.RAW_DROPPED 1).raise ACQ.INT_RAW_DROP := by
  unfold State.sendRaw
  rw [hring]
  exact if_pos hv

theorem ringFree_shows (s : State) (len : Nat) : (s.ringFree len).acq = { s.acq with
      ringUsed := s.acq.ringUsed - len, ringEntries := s.acq.ringEntries.drop 1, ringSent := 0 }
    ∧ (s.ringFree len).rd ACQ.RAW_DROPPED = s.rd ACQ.RAW_DROPPED ∧ (s.ringFree len).lnk = s.lnk :=
  ⟨rfl, State.rd_wr_ne _ _ _ _ (by decide), rfl⟩

/-- A RAW packet has left the link. -/
def State.rawSent (s : State) (errors : List StackError) (first final : Bool) (words : List DWord) : State :=
  let s1 := ((s.stackErrors errors).drew (2 * errors.length)).transmit 0 { channel := 1, first := first, last := final, words := words }
  State.showCredit { s1 with lnk.usedRaw := s1.lnk.usedRaw + BitVec.ofNat 24 (creditsOf words.length) }

/-- How far the oldest ring entry has come. -/
def State.ringNext (s : State) (len n : Nat) (final : Bool) : State :=
  if final then s.ringFree len else { s with acq.ringSent := s.acq.ringSent + n }

theorem sendRaw_sent {errors : List StackError} {len : Nat} {entries : List Nat} (hring : s.acq.ringEntries = len :: entries)
    (hv : s.version ≠ 1) (hcredit : hasCredit s.lnk.limitRaw s.lnk.usedRaw (s.ringWords errors len).length = true)
    (hroom : (s.path 0).room 0 (8 * (s.ringWords errors len).length) = true) :
    ∃ final : Bool, (final = true ↔ (len + 7) / 8 ≤ s.acq.ringSent + (s.ringWords errors len).length)
      ∧ s.sendRaw errors = (s.rawSent errors (decide (s.acq.ringSent = 0)) final (s.ringWords errors len)).ringNext len
        (s.ringWords errors len).length final := by
  have hlen := wordsOfBytes_length ((len + 7) / 8) (s.ringBytes (s.spoiledBy errors) len)
  have hgo : ¬(!hasCredit s.lnk.limitRaw s.lnk.usedRaw (s.ringWords errors len).length || !(s.path 0).room 0 (8 * (s.ringWords errors len).length))
      = true := by
    rw [hcredit, hroom]
    decide
  refine ⟨decide ((wordsOfBytes ((len + 7) / 8) (s.ringBytes (s.spoiledBy errors) len)).length ≤ s.acq.ringSent + (s.ringWords errors len).length),
    by rw [decide_eq_true_eq, hlen], ?_⟩
  unfold State.sendRaw
  rw [hring]
  dsimp only
  rw [if_neg hv]
  exact (if_neg hgo).trans (if_congr decide_eq_true_iff.symm rfl rfl)

theorem rawSent_shows (s : State) (errors : List StackError) (first final : Bool) (words : List DWord) :
    Sends s (s.rawSent errors first final words) 0 { channel := 1, first := first, last := final, words := words }
      ∧ (s.rawSent errors first final words).lnk.usedRaw = s.lnk.usedRaw + BitVec.ofNat 24 (creditsOf words.length)
      ∧ (s.rawSent errors first final words).acq = s.acq := by
  obtain ⟨hkeep, hlnk, hacq⟩ := stackErrors_keeps s errors
  have hversion : ((s.stackErrors errors).drew (2 * errors.length)).pathVersion 0 = s.pathVersion 0 := by
    show (s.stackErrors errors).version = s.version
    unfold State.version
    rw [hlnk, hkeep _ (by decide), hkeep _ (by decide)]
  have hpath : ((s.stackErrors errors).drew (2 * errors.length)).path 0 = s.path 0 :=
    (congrArg (fun k : LinkState => Tab.get ({} : PathState) k.paths 0) hlnk :)
  have hused : ((s.stackErrors errors).drew (2 * errors.length)).lnk.usedRaw = s.lnk.usedRaw := congrArg LinkState.usedRaw hlnk
  have hacq' : ((s.stackErrors errors).drew (2 * errors.length)).acq = s.acq := hacq
  unfold State.rawSent
  generalize (s.stackErrors errors).drew (2 * errors.length) = u at *
  have hsends := transmit_sends u 0 { channel := 1, first := first, last := final, words := words }
  have htx : (u.transmit 0 { channel := 1, first := first, last := final, words := words }).lnk.usedRaw = u.lnk.usedRaw
      ∧ (u.transmit 0 { channel := 1, first := first, last := final, words := words }).acq = u.acq := ⟨rfl, rfl⟩
  generalize u.transmit 0 { channel := 1, first := first, last := final, words := words } = v at *
  refine ⟨?_, ?_, htx.2.trans hacq'⟩
  · have h : Sends u (State.showCredit { v with lnk.usedRaw := v.lnk.usedRaw + BitVec.ofNat 24 (creditsOf words.length) }) 0
        { channel := 1, first := first, last := final, words := words } := hsends.of_lnk rfl rfl
    unfold Sends at h ⊢
    rw [hpath, hversion] at h
    exact h
  · show v.lnk.usedRaw + _ = _
    rw [htx.1, hused]

theorem ringNext_shows (s : State) (len n : Nat) (final : Bool) (entries : List Nat) (hring : s.acq.ringEntries = len :: entries) :
    (s.ringNext len n final).lnk = s.lnk ∧ (s.ringNext len n final).acq.ringEntries = (if final then entries else len :: entries)
      ∧ (s.ringNext len n final).acq.ringSent = if final then 0 else s.acq.ringSent + n := by
  unfold State.ringNext
  cases final with
  | true => exact ⟨rfl, congrArg (List.drop 1) hring, rfl⟩
  | false => exact ⟨rfl, hring, rfl⟩

/-! ### Acknowledgement and replay (R284 to R287) -/

theorem showSeq_shows (s : State) : s.showSeq.lnk = s.lnk ∧ s.showSeq.rd L0.SEQ_ACKED = (s.path 0).seqAcked % 2 ^ 12
    ∧ KeepsRegs [L0.SEQ_ACKED.key, L0.SEQ_NEXT.key] s s.showSeq :=
  ⟨rfl, State.rd_wr_self _ _ _, ((KeepsRegs.refl _ s).wr L0.SEQ_NEXT _ (by decide)).wr L0.SEQ_ACKED _ (by decide)⟩

/-- A path that has dropped what an ACK acknowledges. -/
def PathState.acked (x : PathState) (seq : Nat) : PathState :=
  { x with
    replay := x.replay.drop (x.before seq + 1), resend := min x.resend (x.replay.length - (x.before seq + 1)), seqAcked := seq
    tries := if x.before x.triesAt < x.before seq + 1 then 0 else x.tries }

theorem exec_ack {link : Fin 3} {seq : BitVec 12} : exec (.ackReceived link seq) s
    = .next (if s.pathVersion link < 2 || (s.path link).replay.length < (s.path link).before seq.toNat + 1 then s
      else State.showSeq (s.setPath link ((s.path link).acked seq.toNat))) := rfl

/-- The SEQ that a replay starts from. -/
def PathState.seqAt (x : PathState) (i : Nat) : Nat := (x.replay[i]?.map (·.seq)).getD x.seqNext

/-- The replays from that SEQ so far, this one with them. -/
def PathState.triesAfter (x : PathState) (i : Nat) : Nat := if 0 < x.tries ∧ x.triesAt = x.seqAt i then x.tries + 1 else 1

/-- What a replay from the i-th unacknowledged packet shows. -/
def Again (s t : State) (p i : Nat) : Prop :=
  t.on (LANE.INT_REPLAY (pathLane p)) = true
    ∧ ((s.path p).triesAfter i < s.rd L0.REPLAY_MAX → t.path p = { s.path p with
        resend := (s.path p).replay.length - i, tries := (s.path p).triesAfter i, triesAt := (s.path p).seqAt i }
      ∧ (p = 0 → t.rd L0.REPLAYS = min (s.rd L0.REPLAYS + 1) 65535))
    ∧ (s.rd L0.REPLAY_MAX ≤ (s.path p).triesAfter i → t.on (C.FAULT (pLane (pathLane p)) 2) = true ∧ (p = 0 → t.on L0.B_UP = false)
      ∧ (p ≠ 0 → s.rd (LANE.STATE (pathLane p)) = 5 → t.rd (LANE.STATE (pathLane p)) = 3))

/-- A replay begins. -/
def State.replayed (s : State) (p i : Nat) : State :=
  let x := s.path p
  let s1 := (s.setPath p { x with
    resend := x.replay.length - i, tries := if s.rd L0.REPLAY_MAX ≤ x.triesAfter i then 0 else x.triesAfter i, triesAt := x.seqAt i }).raise
    (LANE.INT_REPLAY (pathLane p))
  if p = 0 then s1.count L0.REPLAYS 1 else s1

theorem replayFrom_eq (s : State) (p i : Nat) : s.replayFrom p i = if s.rd L0.REPLAY_MAX ≤ (s.path p).triesAfter i
    then ((s.replayed p i).fault (pLane (pathLane p)) 2).retrainPath p else s.replayed p i := by
  have hseq : (match (s.path p).replay[i]? with
      | some pkt => pkt.seq
      | none => (s.path p).seqNext) = (s.path p).seqAt i := by
    unfold PathState.seqAt
    cases (s.path p).replay[i]? <;> rfl
  have htries : (if (decide (0 < (s.path p).tries) && decide ((s.path p).triesAt = (s.path p).seqAt i)) = true then (s.path p).tries + 1 else 1)
      = (s.path p).triesAfter i := by
    unfold PathState.triesAfter
    simp only [Bool.and_eq_true, decide_eq_true_eq]
  unfold State.replayFrom State.replayed
  dsimp only
  rw [← htries, ← hseq] <;> rfl

end

end Sys2Proof.Machine
end

section
/-! PROOFS. Replays of Yomos Link, the packets that arrive, and the flow of the link (R272 to R287). -/
namespace Sys2Proof.Machine
open Sys2Proof

section
variable {s : State}

/-! ### A replay, and a path that retrains (R285 to R287) -/

theorem pathLane_lt (link : Fin 3) : pathLane link < 6 := (by decide : ∀ link : Fin 3, pathLane link < 6) link

/-- The fields that a replay shows. -/
def replayKeys (p : Nat) : List Nat := [(LANE.INT_REPLAY (pathLane p)).key, L0.REPLAYS.key]

theorem replayed_keeps (s : State) (p i : Nat) : KeepsRegs (replayKeys p) s (s.replayed p i) := by
  unfold State.replayed
  extract_lets x s1
  have h : KeepsRegs (replayKeys p) s s1 := ((KeepsRegs.refl _ _).of_cur rfl).put (LANE.INT_REPLAY (pathLane p)) true (by simp [replayKeys])
  split
  · exact h.count L0.REPLAYS 1 (by simp [replayKeys])
  · exact h

theorem replay_apart : ∀ link : Fin 3, (LANE.INT_REPLAY (pathLane link)).key ≠ L0.REPLAYS.key
    ∧ (LANE.STATE (pathLane link)).key ∉ replayKeys link ∧ (LANE.STATE (pathLane link)).key ∉ faultKeys (pLane (pathLane link))
    ∧ L0.NAKS.key ∉ replayKeys link ∧ L0.NAKS.key ∉ faultKeys (pLane (pathLane link))
    ∧ (LANE.INT_REPLAY (pathLane link)).key ∉ faultKeys (pLane (pathLane link)) := by decide +kernel

theorem replayed_shows (s : State) (link : Fin 3) (i : Nat) : (s.replayed link i).on (LANE.INT_REPLAY (pathLane link)) = true
    ∧ ((link : Nat) = 0 → (s.replayed link i).rd L0.REPLAYS = min (s.rd L0.REPLAYS + 1) 65535)
    ∧ (s.replayed link i).path link = { s.path link with
        resend := (s.path link).replay.length - i
        tries := if s.rd L0.REPLAY_MAX ≤ (s.path link).triesAfter i then 0 else (s.path link).triesAfter i, triesAt := (s.path link).seqAt i } := by
  unfold State.replayed
  extract_lets x s1
  have hon : s1.on (LANE.INT_REPLAY (pathLane link)) = true := State.on_put_self _ _ _ Nat.one_pos
  have hpath : s1.path link = _ := State.path_set s link _
  have hcount : s1.rd L0.REPLAYS = s.rd L0.REPLAYS := State.rd_put_ne _ _ _ _ (replay_apart link).1.symm
  clear_value s1
  split
  · exact ⟨(State.on_wr_ne _ _ _ _ (replay_apart link).1).trans hon, fun _ => (unlockCount_next s1 L0.REPLAYS rfl).trans (by rw [hcount]), hpath⟩
  · next h => exact ⟨hon, fun h0 => absurd h0 h, hpath⟩

/-- The fields that a path's retrain may change. -/
def retrainKeys (p : Nat) : List Nat := if p = 0 then bundleKeys else laneKeys (pathLane p)

theorem retrainPath_keeps (s : State) (p : Nat) : KeepsRegs (retrainKeys p) s (s.retrainPath p) := by
  unfold State.retrainPath retrainKeys
  dsimp only
  split
  · exact (retrainBundle_only s).regs
  · split
    · exact (retrainLane_only s (pathLane p) lsTrain _).regs
    · exact KeepsRegs.refl _ s

theorem retrain_apart : ∀ link : Fin 3, (LANE.INT_REPLAY (pathLane link)).key ∉ retrainKeys link
    ∧ (C.FAULT (pLane (pathLane link)) 2).key ∉ retrainKeys link ∧ ((link : Nat) = 0 → L0.NAKS.key ∉ retrainKeys link) := by decide +kernel

theorem lane_fault_bit : ∀ link : Fin 3, bit (2 ^ 2 + faultCommons (pLane (pathLane link)) 2) 2 = true := by decide

theorem replayFrom_again (s : State) (link : Fin 3) (i : Nat) : Again s (s.replayFrom link i) link i := by
  obtain ⟨hon, hcount, hpath⟩ := replayed_shows s link i
  obtain ⟨-, hst, hstf, -, -, hfault⟩ := replay_apart link
  obtain ⟨hret, hretf, -⟩ := retrain_apart link
  have hstate := replayed_keeps s link i _ hst
  have heq := replayFrom_eq s link i
  generalize s.replayed link i = u at *
  by_cases h : s.rd L0.REPLAY_MAX ≤ (s.path link).triesAfter i
  · rw [if_pos h] at heq
    have hf := fault_on_self u (p := pLane (pathLane link)) (b := 2) (by decide) (lane_fault_bit link)
    have hon' := (fault_on_other u (b := 2) hfault).trans hon
    have hstate' := (fault_keepsRegs u _ 2 _ hstf).trans hstate
    generalize u.fault (pLane (pathLane link)) 2 = v at *
    rw [heq]
    have hkeep := retrainPath_keeps v link
    refine ⟨(congrArg (· != 0) (hkeep _ hret)).trans hon', fun h' => absurd h (Nat.not_le.mpr h'), fun _ =>
      ⟨(congrArg (· != 0) (hkeep _ hretf)).trans hf, fun h0 => ?_, fun h0 hact => ?_⟩⟩
    · rw [State.retrainPath]
      rw [if_pos h0]
      exact (retrainBundle_retrains v).1
    · rw [State.retrainPath]
      rw [if_neg h0, State.laneState]
      refine (congrArg (fun w : State => w.rd (LANE.STATE (pathLane link))) (if_pos (hstate'.trans hact))).trans ?_
      exact (retrainLane_shows v (pathLane_lt link) lsTrain _).1
  · rw [if_neg h] at heq hpath
    rw [heq]
    exact ⟨hon, fun _ => ⟨hpath, hcount⟩, fun h' => absurd h' h⟩

theorem replayFrom_naks (s : State) (i : Nat) : (s.replayFrom (0 : Fin 3) i).rd L0.NAKS = s.rd L0.NAKS := by
  obtain ⟨-, -, -, h1, h2, -⟩ := replay_apart 0
  have hkeep := replayed_keeps s (0 : Fin 3) i _ h1
  rw [replayFrom_eq]
  generalize s.replayed (0 : Fin 3) i = u at *
  split
  · exact (retrainPath_keeps _ _ _ ((retrain_apart 0).2.2 rfl)).trans ((fault_keepsRegs u _ 2 _ h2).trans hkeep)
  · exact hkeep

/-- A replay shows the same against a state with the same path and registers. -/
theorem Again.of_eq {u t : State} {p i : Nat} (h : Again u t p i) (hpath : u.path p = s.path p) (hregs : KeepsRegs [L0.NAKS.key] s u)
    (hst : (LANE.STATE (pathLane p)).key ∉ [L0.NAKS.key]) : Again s t p i := by
  unfold Again at *
  rw [hpath, hregs L0.REPLAY_MAX (by decide), hregs L0.REPLAYS (by decide), hregs _ hst] at h
  exact h

theorem exec_nak {link : Fin 3} {seq : BitVec 12} (hv : 2 ≤ s.pathVersion link) (hlt : (s.path link).before seq.toNat < (s.path link).replay.length)
    (hfree : (s.path link).resend = 0 ∨ (s.path link).before seq.toNat ≤ (s.path link).replay.length - (s.path link).resend) :
    exec (.nakReceived link seq) s
      = .next ((if (link : Nat) = 0 then s.count L0.NAKS 1 else s).replayFrom link ((s.path link).before seq.toNat)) := by
  refine congrArg Host.Outcome.next ((if_neg (Nat.not_lt.mpr hv)).trans (if_pos ?_))
  rw [Bool.and_eq_true, Bool.or_eq_true, decide_eq_true_eq, decide_eq_true_eq, decide_eq_true_eq]
  exact ⟨hlt, hfree⟩

theorem nak_again {link : Fin 3} {seq : BitVec 12} (hv : 2 ≤ s.pathVersion link) (hlt : (s.path link).before seq.toNat < (s.path link).replay.length)
    (hfree : (s.path link).resend = 0 ∨ (s.path link).before seq.toNat ≤ (s.path link).replay.length - (s.path link).resend) :
    ∃ t, exec (.nakReceived link seq) s = .next t ∧ Again s t link ((s.path link).before seq.toNat)
      ∧ ((link : Nat) = 0 → t.rd L0.NAKS = min (s.rd L0.NAKS + 1) 65535) := by
  refine ⟨_, exec_nak hv hlt hfree, ?_, fun h0 => ?_⟩
  · have hkeep : KeepsRegs [L0.NAKS.key] s (if (link : Nat) = 0 then s.count L0.NAKS 1 else s) := by
      split
      · exact (KeepsRegs.refl _ s).count L0.NAKS 1 (by decide)
      · exact KeepsRegs.refl _ s
    have hpath : (if (link : Nat) = 0 then s.count L0.NAKS 1 else s).path link = s.path link := by split <;> rfl
    generalize (if (link : Nat) = 0 then s.count L0.NAKS 1 else s) = u at *
    exact (replayFrom_again u link _).of_eq hpath hkeep ((by decide : ∀ link : Fin 3, (LANE.STATE (pathLane link)).key ∉ [L0.NAKS.key]) link)
  · have hlink : link = 0 := Fin.ext h0
    subst hlink
    exact (replayFrom_naks _ _).trans (unlockCount_next s L0.NAKS rfl)

theorem exec_ackTimeout {link : Fin 3} (hv : 2 ≤ s.pathVersion link) (hne : (s.path link).replay ≠ []) :
    exec (.ackTimeout link) s = .next (s.replayFrom link 0) := by
  refine congrArg Host.Outcome.next (if_neg fun h => ?_)
  rw [Bool.or_eq_true, decide_eq_true_eq, List.isEmpty_iff] at h
  exact h.elim (fun h => absurd hv (Nat.not_le.mpr h)) hne

/-! ### An acknowledgement (R284, R286) -/

theorem acked_shows (s : State) (link : Fin 3) (seq : BitVec 12) :
    (State.showSeq (s.setPath link ((s.path link).acked seq.toNat))).path link = (s.path link).acked seq.toNat
      ∧ ((link : Nat) = 0 → (State.showSeq (s.setPath link ((s.path link).acked seq.toNat))).rd L0.SEQ_ACKED = seq.toNat)
      ∧ KeepsRegs [L0.SEQ_ACKED.key, L0.SEQ_NEXT.key] s (State.showSeq (s.setPath link ((s.path link).acked seq.toNat))) := by
  have hpath : (s.setPath link ((s.path link).acked seq.toNat)).path link = (s.path link).acked seq.toNat := State.path_set s link _
  have hkeep : KeepsRegs [L0.SEQ_ACKED.key, L0.SEQ_NEXT.key] s (s.setPath link ((s.path link).acked seq.toNat)) := (KeepsRegs.refl _ s).of_cur rfl
  generalize s.setPath link ((s.path link).acked seq.toNat) = u at *
  obtain ⟨hlnk, hseq, hk⟩ := showSeq_shows u
  refine ⟨(congrArg (fun k : LinkState => Tab.get ({} : PathState) k.paths link) hlnk :).trans hpath, fun h0 => ?_, hkeep.trans hk⟩
  rw [h0] at hpath
  rw [hseq, hpath]
  exact Nat.mod_eq_of_lt seq.isLt

theorem exec_ack_taken {link : Fin 3} {seq : BitVec 12} (hv : 2 ≤ s.pathVersion link) (hlt : (s.path link).before seq.toNat < (s.path link).replay.length) :
    exec (.ackReceived link seq) s = .next (State.showSeq (s.setPath link ((s.path link).acked seq.toNat))) := by
  refine exec_ack.trans (congrArg Host.Outcome.next (if_neg fun h => ?_))
  rw [Bool.or_eq_true, decide_eq_true_eq, decide_eq_true_eq] at h
  omega

theorem exec_ack_ignored {link : Fin 3} {seq : BitVec 12} (h : ¬2 ≤ s.pathVersion link ∨ (s.path link).replay.length ≤ (s.path link).before seq.toNat) :
    exec (.ackReceived link seq) s = .next s := by
  refine exec_ack.trans (congrArg Host.Outcome.next (if_pos ?_))
  rw [Bool.or_eq_true, decide_eq_true_eq, decide_eq_true_eq]
  omega

/-! ### Blocks and packets that arrive (R272, R275, R277, R285) -/

/-- A lane counts its block errors, while none makes it leave the stripe. -/
def State.errorsSeen (s : State) (l n : Nat) : State :=
  (s.count (LANE.BLOCK_ERR l) n).setLane l { s.lane l with windowErrs := (s.lane l).windowErrs + n, errs125 := (s.lane l).errs125 + n }

/-- The blocks of a lane with their errors. -/
def State.blocksSeen (s : State) (l n headers : Nat) : State := (s.wr (LANE.HDR_ERR l) headers).errorsSeen l n

theorem blockErrors_calm {l n : Nat} (h : 4 ≤ l ∨ n = 0 ∨ s.rd (LANE.STATE l) ≠ 5) : s.blockErrors l n = s.errorsSeen l n := by
  unfold State.blockErrors
  extract_lets x s1
  have hs1 : s1 = s.errorsSeen l n := rfl
  have hst : s1.laneState l = s.rd (LANE.STATE l) :=
    State.rd_wr_ne s (LANE.BLOCK_ERR l) (LANE.STATE l) _ (by simp only [LANE.STATE, LANE.BLOCK_ERR, fld_key]; omega)
  clear_value s1
  split
  · next hcond =>
    rw [Bool.and_eq_true, Bool.and_eq_true, isData, decide_eq_true_eq, bne_iff_ne] at hcond
    have hne : s.rd (LANE.STATE l) ≠ 5 := by
      rcases h with h | h | h
      · exact absurd hcond.1.1 (Nat.not_lt.mpr h)
      · exact absurd h hcond.1.2
      · exact h
    refine Eq.trans (if_pos ?_) hs1
    rw [hst]
    exact bne_iff_ne.mpr hne
  · exact hs1

theorem blocksSeen_eq {l n headers : Nat} (h : 4 ≤ l ∨ n = 0 ∨ s.rd (LANE.STATE l) ≠ 5) :
    (s.wr (LANE.HDR_ERR l) headers).blockErrors l n = s.blocksSeen l n headers := by
  have hst : (s.wr (LANE.HDR_ERR l) headers).rd (LANE.STATE l) = s.rd (LANE.STATE l) :=
    State.rd_wr_ne s _ _ _ (by simp only [LANE.STATE, LANE.HDR_ERR, fld_key]; omega)
  exact blockErrors_calm (by rw [hst]; exact h)

theorem blocksSeen_shows (s : State) (l n : Nat) (headers : BitVec 16) : (s.blocksSeen l n headers.toNat).rd (LANE.HDR_ERR l) = headers.toNat
    ∧ (s.blocksSeen l n headers.toNat).rd (LANE.BLOCK_ERR l) = min (s.rd (LANE.BLOCK_ERR l) + n) 65535
    ∧ (s.blocksSeen l n headers.toNat).lane l
      = { s.lane l with windowErrs := (s.lane l).windowErrs + n, errs125 := (s.lane l).errs125 + n }
    ∧ KeepsRegs [(LANE.HDR_ERR l).key, (LANE.BLOCK_ERR l).key] s (s.blocksSeen l n headers.toNat) := by
  have hne : (LANE.HDR_ERR l).key ≠ (LANE.BLOCK_ERR l).key := by simp only [LANE.HDR_ERR, LANE.BLOCK_ERR, fld_key]; omega
  refine ⟨?_, ?_, State.lane_set _ l _,
    ((((KeepsRegs.refl _ s).wr (LANE.HDR_ERR l) headers.toNat (by simp)).count (LANE.BLOCK_ERR l) n (by simp))).of_cur rfl⟩
  · refine (State.rd_wr_ne _ _ _ _ hne).trans ((State.rd_wr_self s _ _).trans (Nat.mod_eq_of_lt headers.isLt))
  · refine (State.rd_wr_self _ (LANE.BLOCK_ERR l) _).trans ?_
    rw [State.rd_wr_ne s _ _ _ hne.symm, satAdd]
    exact Nat.mod_eq_of_lt (by rw [show (LANE.BLOCK_ERR l).width = 16 from rfl]; omega)

theorem exec_blocks {lane : Fin 6} {n : Nat} {hdr : BitVec 16} (hruns : s.runs (pLane lane) = true) (hst : 1 ≤ s.rd (LANE.STATE lane))
    (hcalm : 4 ≤ (lane : Nat) ∨ n = 0 ∨ s.rd (LANE.STATE lane) ≠ 5) :
    exec (.packetReceived lane ⟨n, hdr⟩ none) s = .next (s.blocksSeen lane n hdr.toNat) := by
  refine congrArg Host.Outcome.next ((if_neg fun h => ?_).trans (blocksSeen_eq hcalm))
  rw [Bool.or_eq_true, hruns, decide_eq_true_eq] at h
  exact h.elim (absurd · Bool.false_ne_true) (Nat.not_lt.mpr hst)

/-- The answer of a control lane to a packet that has come without an error. -/
def State.packetAnswer (s : State) (k : Nat) (packet : Packet) (version n : Nat) (headers : Nat) : State :=
  let s1 := s.blocksSeen k n headers
  let y := s.path (k - 3)
  if !packetWhole packet k version n then s1.send [(k, controlBlock btNak y.rxNext)]
  else if packet.seq.toNat = y.rxNext then
    (s1.send [(k, controlBlock btAck (packet.seq.toNat % 4096))]).setPath (k - 3) { y with rxNext := (y.rxNext + 1) % 4096 }
  else if (y.rxNext + 4096 - packet.seq.toNat) % 4096 < 2048 then s1.send [(k, controlBlock btAck ((y.rxNext + 4095) % 4096))]
  else s1.send [(k, controlBlock btNak y.rxNext)]

theorem exec_packet {k n : Nat} {hdr : BitVec 16} {packet : Packet} (hk : k < 6) (hctl : 4 ≤ k) (hruns : s.runs (pLane k) = true)
    (hst : s.rd (LANE.STATE k) = 5) (hv : 2 ≤ s.laneVersion k) :
    exec (.packetReceived ⟨k, hk⟩ ⟨n, hdr⟩ (some packet)) s = .next (s.packetAnswer k packet (s.laneVersion k) n hdr.toNat) := by
  refine congrArg Host.Outcome.next ((if_neg fun h => ?_).trans ?_)
  · rw [Bool.or_eq_true, hruns, decide_eq_true_eq, State.laneState, hst] at h
    exact h.elim (absurd · Bool.false_ne_true) (absurd · (by decide))
  · dsimp only
    rw [blocksSeen_eq (.inl hctl)]
    refine (if_neg fun h => ?_).trans ((if_neg (Nat.not_lt.mpr hv)).trans rfl)
    rw [Bool.or_eq_true, State.laneState, hst, isData, decide_eq_true_eq] at h
    exact h.elim (fun h => absurd h (Nat.not_lt.mpr hctl)) (absurd · (by decide))

/-! ### The bundle's next packet (R276, R284) -/

section
variable {link : Fin 3} {b : List DWord} {rest : List (List DWord)} {errors : List StackError} {len : Nat} {entries : List Nat}

theorem sendBundle_raw (hout : s.pca.out = []) : s.sendBundle errors = s.sendRaw errors := by
  unfold State.sendBundle
  rw [hout] <;> rfl

variable (h0 : link = 0) (hup : s.on L0.B_UP = true) (hre : (s.path link).resend = 0)
include h0 hup hre

theorem exec_sendBundle : exec (.packetTransmit ⟨link, errors⟩) s = .next (s.sendBundle errors) :=
  (exec_transmit_new hre (by rw [if_pos (show (link : Nat) = 0 from congrArg Fin.val h0)]; exact hup)).trans (congrArg Host.Outcome.next (if_pos (congrArg Fin.val h0)))

theorem block_leaves (hout : s.pca.out = b :: rest) (hcredit : hasCredit s.lnk.limitPts s.lnk.usedPts b.length = true)
    (hroom : 2 ≤ s.pathVersion link → (s.path link).room 0 (8 * b.length) = true) :
    ∃ t, exec (.packetTransmit ⟨link, errors⟩) s = .next t ∧ t.pca.out = rest
      ∧ t.lnk.usedPts = s.lnk.usedPts + BitVec.ofNat 24 (creditsOf b.length)
      ∧ Sends s t link { channel := 0, first := true, last := true, words := b } := by
  have hexec := exec_sendBundle (errors := errors) h0 hup hre
  subst h0
  obtain ⟨hs, ho, hu⟩ := blockSent_shows s b rest
  exact ⟨_, hexec.trans (congrArg Host.Outcome.next (sendBundle_block hout hcredit hroom)), ho, hu, hs⟩

variable (hout : s.pca.out = []) (hring : s.acq.ringEntries = len :: entries)
include hout hring

theorem entry_dropped (hv : s.version = 1) : ∃ t, exec (.packetTransmit ⟨link, errors⟩) s = .next t ∧ t.acq.ringEntries = entries
    ∧ t.acq.ringUsed = s.acq.ringUsed - len ∧ t.rd ACQ.RAW_DROPPED = min (s.rd ACQ.RAW_DROPPED + 1) 65535 ∧ t.on ACQ.INT_RAW_DROP = true := by
  obtain ⟨ha, hd, -⟩ := ringFree_shows s len
  refine ⟨_, (exec_sendBundle h0 hup hre).trans (congrArg Host.Outcome.next ((sendBundle_raw hout).trans (sendRaw_dropped hring hv))), ?_⟩
  generalize s.ringFree len = u at *
  refine ⟨(congrArg AcqState.ringEntries ha).trans (congrArg (List.drop 1) hring), congrArg AcqState.ringUsed ha, ?_, State.on_put_self _ _ _ (by decide)⟩
  refine (State.rd_put_ne _ ACQ.INT_RAW_DROP ACQ.RAW_DROPPED true (by decide)).trans ((unlockCount_next u ACQ.RAW_DROPPED rfl).trans ?_)
  rw [hd]

theorem entry_leaves (hv : 2 ≤ s.pathVersion link) (hcredit : hasCredit s.lnk.limitRaw s.lnk.usedRaw (s.ringWords errors len).length = true)
    (hroom : (s.path link).room 0 (8 * (s.ringWords errors len).length) = true) :
    ∃ t final, exec (.packetTransmit ⟨link, errors⟩) s = .next t
      ∧ t.lnk.usedRaw = s.lnk.usedRaw + BitVec.ofNat 24 (creditsOf (s.ringWords errors len).length)
      ∧ Sends s t link { channel := 1, first := decide (s.acq.ringSent = 0), last := final, words := s.ringWords errors len }
      ∧ (final = true ↔ (len + 7) / 8 ≤ s.acq.ringSent + (s.ringWords errors len).length)
      ∧ t.acq.ringEntries = (if final then entries else len :: entries)
      ∧ t.acq.ringSent = if final then 0 else s.acq.ringSent + (s.ringWords errors len).length := by
  have hexec := exec_sendBundle (errors := errors) h0 hup hre
  have hraw := sendBundle_raw (errors := errors) hout
  subst h0
  have hver : s.version ≠ 1 := fun e => by
    have hv' : 2 ≤ s.version := hv
    omega
  obtain ⟨final, hfin, heq⟩ := sendRaw_sent hring hver hcredit hroom
  obtain ⟨hs, hu, ha⟩ := rawSent_shows s errors (decide (s.acq.ringSent = 0)) final (s.ringWords errors len)
  refine ⟨_, final, hexec.trans (congrArg Host.Outcome.next (hraw.trans heq)), ?_⟩
  generalize s.ringWords errors len = ws at *
  generalize s.rawSent errors (decide (s.acq.ringSent = 0)) final ws = u at *
  obtain ⟨hlnk, hent, hsent⟩ := ringNext_shows u len ws.length final entries ((congrArg AcqState.ringEntries ha).trans hring)
  exact ⟨(congrArg LinkState.usedRaw hlnk).trans hu, hs.of_lnk (congrArg LinkState.tx hlnk) (congrArg LinkState.paths hlnk), hfin, hent,
    hsent.trans (by rw [ha])⟩

end

section
variable {k n headers version : Nat} {packet : Packet}

/-- A control lane's answer leaves. -/
theorem send_blocksSeen (s : State) (k n headers : Nat) (l : List (Nat × DWord)) : ((s.blocksSeen k n headers).send l).path (k - 3) = s.path (k - 3)
    ∧ ((s.blocksSeen k n headers).send l).lnk.sent = l := ⟨rfl, rfl⟩

theorem packetAnswer_broken (hwhole : packetWhole packet k version n = false) : s.packetAnswer k packet version n headers
    = (s.blocksSeen k n headers).send [(k, controlBlock btNak (s.path (k - 3)).rxNext)] := if_pos (by rw [hwhole]; rfl)

variable (hwhole : packetWhole packet k version n = true)
include hwhole

theorem packetAnswer_next (hseq : packet.seq.toNat = (s.path (k - 3)).rxNext) :
    (s.packetAnswer k packet version n headers).path (k - 3) = { s.path (k - 3) with rxNext := ((s.path (k - 3)).rxNext + 1) % 4096 }
      ∧ (s.packetAnswer k packet version n headers).lnk.sent = [(k, controlBlock 0x55 packet.seq.toNat)] := by
  have heq : s.packetAnswer k packet version n headers = ((s.blocksSeen k n headers).send [(k, controlBlock btAck (packet.seq.toNat % 4096))]).setPath
      (k - 3) { s.path (k - 3) with rxNext := ((s.path (k - 3)).rxNext + 1) % 4096 } :=
    (if_neg (by rw [hwhole]; decide)).trans (if_pos hseq)
  rw [heq]
  refine ⟨State.path_set _ _ _, ?_⟩
  rw [Nat.mod_eq_of_lt packet.seq.isLt]
  rfl

theorem packetAnswer_again (hseq : packet.seq.toNat ≠ (s.path (k - 3)).rxNext) (hb : ((s.path (k - 3)).rxNext + 4096 - packet.seq.toNat) % 4096 < 2048) :
    s.packetAnswer k packet version n headers
      = (s.blocksSeen k n headers).send [(k, controlBlock btAck (((s.path (k - 3)).rxNext + 4095) % 4096))] :=
  (if_neg (by rw [hwhole]; decide)).trans ((if_neg hseq).trans (if_pos hb))

theorem packetAnswer_ahead (hb : 2048 ≤ ((s.path (k - 3)).rxNext + 4096 - packet.seq.toNat) % 4096) :
    s.packetAnswer k packet version n headers = (s.blocksSeen k n headers).send [(k, controlBlock btNak (s.path (k - 3)).rxNext)] := by
  refine (if_neg (by rw [hwhole]; decide)).trans ((if_neg fun h => ?_).trans (if_neg (Nat.not_lt.mpr hb)))
  rw [h, Nat.add_sub_cancel_left] at hb
  exact absurd hb (by decide)

end

end

/-! ### The flow of the link -/

/-- Settles O48: credits move as R281 to R283 say, a packet leaves under its path's SEQ and is acknowledged or sent again as R284 to R287
say, and a packet that arrives is answered by its place in the order. -/
theorem linkFlow : Obligations.LinkFlow := by
  unfold Obligations.LinkFlow
  intro raw limit link seq lane ctl n len hdr packet b rest errors entries pkt s
  intro p x l limitOf ahead versioned distance at_ again k y credits enough sends ringWords behind answer
  have hk : 4 ≤ k ∧ k < 6 := ⟨Nat.le_add_right 4 ctl, by omega⟩
  refine ⟨fun h1 h2 => credit_taken ((newer_iff _ _).mpr ⟨h1, h2⟩), fun h => ?_, fun hout => ⟨fun hst hno => ?_, fun h => ?_, fun h0 hup hre hcr hroom => ?_⟩,
    fun h0 hup hre hout hring => ⟨fun hv => ?_, fun hv hcr hroom => ?_⟩, fun h0 hst hre hnext hroom => ?_,
    fun hup hre hpkt => exec_transmit_again hre hpkt hup, fun hv hlt => ?_, fun h => exec_ack_ignored h, fun hv hlt hfree => nak_again hv hlt hfree,
    fun hv hne => ⟨_, exec_ackTimeout hv hne, replayFrom_again s link 0⟩, fun hruns hst hcalm => ?_, fun hruns hst hv => ⟨fun hwhole => ⟨fun hseq => ?_,
      fun hseq hb => ?_, fun hb => ?_⟩, fun hwhole => ?_⟩⟩
  · have hno : ¬newer limit limitOf = true := fun hn => by
      obtain ⟨h1, h2⟩ := (newer_iff _ _).mp hn
      omega
    exact congrArg Host.Outcome.next (if_pos (by rw [Bool.not_eq_true', ← Bool.not_eq_true]; exact hno))
  · refine ⟨_, (exec_stall hout).trans (congrArg Host.Outcome.next (if_neg fun h => ?_)), stallShown_shows s⟩
    rw [Bool.or_eq_true, hst, hasCredit_iff] at h
    exact h.elim (absurd · Bool.false_ne_true) hno
  · refine (exec_stall hout).trans (congrArg Host.Outcome.next (if_pos ?_))
    rw [Bool.or_eq_true, hasCredit_iff]
    exact h
  · exact block_leaves (Fin.ext h0) hup hre hout ((hasCredit_iff _ _ _).mpr hcr) hroom
  · exact entry_dropped (Fin.ext h0) hup hre hout hring hv
  · exact entry_leaves (Fin.ext h0) hup hre hout hring hv ((hasCredit_iff _ _ _).mpr hcr) hroom
  · obtain ⟨hs, hq⟩ := sendControl_sends hnext hroom
    have hwords : sentWords s pkt = if pkt.channel = 5 ∨ pkt.channel = 6 then pkt.words.set 2 s.acq.time else pkt.words := by
      unfold sentWords
      simp only [Bool.or_eq_true, decide_eq_true_eq]
    refine ⟨_, (exec_transmit_new hre ?_).trans (congrArg Host.Outcome.next (if_neg h0)), hq, ?_⟩
    · rw [if_neg h0]
      have hl : l = pathLane link := rfl
      rw [← hl]
      exact hst
    · rw [← hwords]
      exact hs
  · obtain ⟨h1, h2, h3⟩ := acked_shows s link seq
    refine ⟨_, exec_ack_taken hv hlt, h1.trans ?_, h2, h3⟩
    have htries : (if x.before x.triesAt < at_ + 1 then 0 else x.tries) = if distance x.triesAt ≤ at_ then 0 else x.tries :=
      if_congr Nat.lt_succ_iff rfl rfl
    rw [← htries]
    rfl
  · exact ⟨_, exec_blocks hruns hst hcalm, blocksSeen_shows s lane n hdr⟩
  · exact ⟨_, exec_packet hk.2 hk.1 hruns hst hv, packetAnswer_next hwhole hseq⟩
  · refine ⟨_, exec_packet hk.2 hk.1 hruns hst hv, ?_⟩
    rw [packetAnswer_again hwhole hseq hb]
    exact send_blocksSeen s k n hdr.toNat _
  · refine ⟨_, exec_packet hk.2 hk.1 hruns hst hv, ?_⟩
    rw [packetAnswer_ahead hwhole hb]
    exact send_blocksSeen s k n hdr.toNat _
  · refine ⟨_, exec_packet hk.2 hk.1 hruns hst hv, ?_⟩
    rw [packetAnswer_broken hwhole]
    exact ⟨send_blocksSeen s k n hdr.toNat _, (blocksSeen_shows s k n hdr).2.1⟩

end Sys2Proof.Machine
end

section
/-! PROOFS. Training on Yomos Link: rates, windows, and the lanes that pass or fail (R291 to R293, R295 to R297). -/
namespace Sys2Proof.Machine
open Sys2Proof

section
variable {s : State} {l : Nat}

/-! ### A lane takes a rate -/

/-- A control lane has no boundary any more. -/
def State.unaligned (s : State) (l : Nat) : State :=
  (((s.put (LANE.ALIGNED l) false).put (LANE.ST_ALIGNED l) false).put (LANE.CDR_LOCK l) false).wr (LANE.SLIPS l) 0

/-- The fields that show a control lane's boundary. -/
def boundaryKeys (l : Nat) : List Nat := [(LANE.ALIGNED l).key, (LANE.ST_ALIGNED l).key, (LANE.CDR_LOCK l).key, (LANE.SLIPS l).key]

theorem unaligned_keeps (s : State) (l : Nat) : KeepsRegs (boundaryKeys l) s (s.unaligned l) :=
  ((((KeepsRegs.refl _ s).put _ _ (by simp [boundaryKeys])).put _ _ (by simp [boundaryKeys])).put _ _ (by simp [boundaryKeys])).wr _ _
    (by simp [boundaryKeys])

theorem unaligned_only (s : State) (l : Nat) : LaneOnly l s (s.unaligned l) :=
  ((((LaneOnly.refl l s).put (LANE.ALIGNED l) false (laneKeys_shown (by simp [laneShown]))).put (LANE.ST_ALIGNED l) false
    (laneKeys_shown (by simp [laneShown]))).put (LANE.CDR_LOCK l) false (laneKeys_shown (by simp [laneShown]))).wr (LANE.SLIPS l) 0
    (laneKeys_shown (by simp [laneShown]))

/-- A lane that starts at a rate. -/
def LaneState.atRate (x : LaneState) (data : Bool) : LaneState :=
  { x with locked := false, passed := false, fails := 0, eqReqs := 0, relock := !data }

/-- A lane's window at a rate. -/
def State.rateWindow (s : State) (l r : Nat) : State :=
  ((s.wr (LANE.RATE l) r).setLane l ((s.lane l).atRate (isData l))).startWindow l

theorem takeRate_eq (s : State) (l r : Nat) :
    s.takeRate l r = if isData l then s.rateWindow l r else ((s.rateWindow l r).unaligned l).setLaneState l lsLock := rfl

theorem rateWindow_only (s : State) (l r : Nat) : LaneOnly l s (s.rateWindow l r) :=
  (((LaneOnly.refl l s).wr (LANE.RATE l) r (laneKeys_shown (by simp [laneShown]))).setLane _).trans (startWindow_only l _)

theorem takeRate_only (s : State) (l r : Nat) : LaneOnly l s (s.takeRate l r) := by
  have h := rateWindow_only s l r
  rw [takeRate_eq]
  generalize s.rateWindow l r = u at *
  exact .ite h ((h.trans (unaligned_only u l)).trans (setLaneState_only l _ _))

theorem rateWindow_shows (hl : l < 6) (r : Nat) : (s.rateWindow l r).rd (LANE.RATE l) = r % 2 ^ 3
    ∧ (s.rateWindow l r).lane l = ((s.lane l).atRate (isData l)).windowed := by
  refine ⟨(startWindow_rd hl (by simp)).trans (State.rd_wr_self s (LANE.RATE l) r), (startWindow_lane _ l).trans ?_⟩
  rw [State.lane_set]

theorem rate_apart : ∀ l < 6, (LANE.RATE l).key ∉ boundaryKeys l ∧ (LANE.RATE l).key ∉ (LANE.STATE l).key :: stateKeysOf l := by decide

theorem takeRate_control (hl : l < 6) (hctl : 4 ≤ l) (r : Nat) : (s.takeRate l r).rd (LANE.STATE l) = 1
    ∧ (s.takeRate l r).rd (LANE.RATE l) = r % 2 ^ 3 ∧ (s.takeRate l r).lane l = ((s.lane l).atRate false).windowed := by
  have hdata : isData l = false := decide_eq_false (Nat.not_lt.mpr hctl)
  obtain ⟨h1, h2⟩ := rateWindow_shows (s := s) hl r
  obtain ⟨k1, k2⟩ := rate_apart l hl
  have heq := takeRate_eq s l r
  rw [hdata] at h2 heq
  rw [if_neg Bool.false_ne_true] at heq
  rw [heq]
  generalize s.rateWindow l r = u at *
  exact ⟨setLaneState_state _ l lsLock, (setLaneState_rd k2).trans ((unaligned_keeps u l _ k1).trans h1), (setLaneState_lane _ l lsLock l).trans h2⟩

theorem versionRate_le (data : Bool) (v : Nat) : versionRate data v ≤ 4 := by
  unfold versionRate
  split_ifs <;> omega

theorem topRate_le (s : State) (l : Nat) : s.topRate l ≤ 4 := (Nat.min_le_right _ _).trans (versionRate_le _ _)

/-! ### Lanes that pass (R291, R293) -/

theorem setBundle_sent (s : State) (up : Bool) (active : List Nat) : (s.setBundle up active).lnk.sent = s.lnk.sent := rfl

theorem laneOnly_sent {t : State} (h : LaneOnly l s t) : t.lnk.sent = s.lnk.sent := (congrArg LinkState.sent h.link :)

/-- A data lane in DESKEW. -/
def State.desked (s : State) (l : Nat) : State :=
  (s.setLaneState l lsDeskew).setLane l { s.lane l with markers := 0, passed := false, ended := false, retraining := false, fails := 0 }

theorem deskew_eq (s : State) (l : Nat) : s.deskew l
    = if s.version = 1 then State.setBundle { (s.desked l).setLaneState l lsActive with lnk.bundleDown := false } true [l] else s.desked l := rfl

theorem deskew_shows (hv : s.version ≠ 1) (hl : l < 6) : (s.deskew l).rd (LANE.STATE l) = 4 ∧ ((s.deskew l).lane l).markers = 0
    ∧ ((s.deskew l).lane l).retraining = false := by
  have hst := setLaneState_state s l lsDeskew
  rw [deskew_eq, if_neg hv, State.desked]
  generalize s.setLaneState l lsDeskew = u at *
  have hlane : ∀ x : LaneState, (u.setLane l x).lane l = x := fun x => State.lane_set u l x
  refine ⟨hst, ?_, ?_⟩ <;> rw [hlane]

theorem deskew_sent (s : State) (l : Nat) : (s.deskew l).lnk.sent = s.lnk.sent := by
  have h : (s.desked l).lnk.sent = s.lnk.sent := (laneOnly_sent (setLaneState_only l lsDeskew s) :)
  rw [deskew_eq]
  generalize s.desked l = u at *
  split
  · exact (laneOnly_sent (setLaneState_only l lsActive u)).trans h
  · exact h

theorem stepTogether_sent (s : State) : s.stepTogether.lnk.sent = s.lnk.sent := by
  unfold State.stepTogether
  extract_lets ls r
  split
  · rfl
  · split
    · exact foldl_keeps (fun t => t.lnk.sent) (fun t m _ => laneOnly_sent (takeRate_only t m (r + 1))) s
    · exact foldl_keeps (fun t => t.lnk.sent) (fun t m _ => deskew_sent t m) (s.wr L0.B_RATE r)

theorem allFailed_sent (s : State) (r : Nat) : (s.allFailed r).lnk.sent = s.lnk.sent := by
  unfold State.allFailed
  split
  · rfl
  · exact foldl_keeps (fun t => t.lnk.sent) (fun t m _ => deskew_sent (t.wr (LANE.RATE m) (r - 1)) m) (s.wr L0.B_RATE (r - 1))

theorem noneLeft_sent (s : State) : s.noneLeft.lnk.sent = s.lnk.sent := (noneLeft_only (BundleOnly.refl s)).sent

theorem laneGone_sent (s : State) : s.laneGone.lnk.sent = s.lnk.sent := by
  refine (stepTogether_sent _).trans ?_
  split
  · rfl
  · exact noneLeft_sent s

theorem dataPassed_sent (s : State) (l : Nat) : (s.dataPassed l).lnk.sent = s.lnk.sent := by
  unfold State.dataPassed
  extract_lets x r ahead top
  split_ifs
  · exact deskew_sent s l
  · exact deskew_sent s l
  · exact laneOnly_sent (takeRate_only s l (r + 1))
  · exact laneOnly_sent (setLaneState_only l lsRemoved s)
  · exact laneOnly_sent (takeRate_only s l (r + 1))
  · exact stepTogether_sent (s.setLane l _)

theorem fault_lnk (s : State) (p b : Nat) : (s.fault p b).lnk = s.lnk := by
  obtain ⟨r, posts, h⟩ := State.fault_state s p b
  rw [h]

theorem dataFailed_sent (s : State) (l : Nat) : (s.dataFailed l).lnk.sent = s.lnk.sent := by
  have hstate := laneOnly_sent (setLaneState_only l lsRemoved s)
  unfold State.dataFailed
  extract_lets x r s1
  have hs1 : s1.lnk.sent = s.lnk.sent := hstate
  clear_value s1
  split_ifs
  · exact (noneLeft_sent _).trans hstate
  · refine (laneGone_sent _).trans ((congrArg LinkState.sent (fault_lnk _ _ _)).trans (laneOnly_sent (laneDown_only s l)))
  · exact (stepTogether_sent _).trans ((allFailed_sent s1 r).trans hs1)

/-- A control lane in service. -/
def LaneState.carrying (x : LaneState) : LaneState :=
  { x with retraining := false, final := false, ended := false, comingUp := false, fails := 0 }

/-- A control lane goes to ACTIVE. -/
def State.controlUp (s : State) (l : Nat) : State :=
  (s.setLaneState l lsActive).setLane l ((s.setLaneState l lsActive).lane l).carrying

theorem controlPassed_eq (s : State) (l : Nat) : s.controlPassed l
    = if !(s.lane l).retraining && !(s.lane l).final && s.rd (LANE.RATE l) + 1 ≤ s.topRate l then s.takeRate l (s.rd (LANE.RATE l) + 1)
      else s.controlUp l := rfl

theorem controlPassed_sent (s : State) (l : Nat) : (s.controlPassed l).lnk.sent = s.lnk.sent := by
  rw [controlPassed_eq]
  split
  · exact laneOnly_sent (takeRate_only s l _)
  · exact (laneOnly_sent (setLaneState_only l lsActive s) :)

/-- A control lane that trains at its last rate. -/
def State.controlBack (s : State) (l : Nat) : State :=
  (s.takeRate l (s.rd (LANE.RATE l) - 1)).setLane l
    { (s.takeRate l (s.rd (LANE.RATE l) - 1)).lane l with final := true, retraining := false }

theorem controlFailed_eq (s : State) (l : Nat) :
    s.controlFailed l = if s.rd (LANE.RATE l) = 0 then (s.laneDown l).fault (pLane l) 0 else s.controlBack l := rfl

theorem controlFailed_sent (s : State) (l : Nat) : (s.controlFailed l).lnk.sent = s.lnk.sent := by
  rw [controlFailed_eq]
  split
  · exact (congrArg LinkState.sent (fault_lnk _ _ _)).trans (laneOnly_sent (laneDown_only s l))
  · exact (laneOnly_sent (takeRate_only s l _) :)

theorem windowPassed_sent (s : State) (l : Nat) : (s.windowPassed l).lnk.sent = s.lnk.sent := by
  unfold State.windowPassed
  split
  · exact dataPassed_sent s l
  · exact controlPassed_sent s l

theorem windowFailed_sent (s : State) (l : Nat) : (s.windowFailed l).lnk.sent = s.lnk.sent := by
  unfold State.windowFailed
  extract_lets x
  split_ifs
  · exact (laneOnly_sent (startWindow_only l (s.setLane l { s.lane l with fails := 1 })) :)
  · exact dataFailed_sent s l
  · exact controlFailed_sent s l

/-! ### What a window's end shows -/

/-- A lane that both ends pass. -/
def Passes (s t : State) (l : Nat) : Prop :=
  let x := s.lane l
  let last := x.retraining = true ∨ x.final = true ∨ s.topRate l ≤ s.rd (LANE.RATE l)
  (4 ≤ l → last → t.rd (LANE.STATE l) = 5 ∧ (t.lane l).fails = 0 ∧ (t.lane l).comingUp = false)
    ∧ (4 ≤ l → ¬last → t.rd (LANE.STATE l) = 1 ∧ t.rd (LANE.RATE l) = s.rd (LANE.RATE l) + 1 ∧ (t.lane l).relock = true ∧ (t.lane l).fails = 0)
    ∧ (l < 4 → x.retraining = true → s.version ≠ 1 → t.rd (LANE.STATE l) = 4 ∧ (t.lane l).markers = 0 ∧ (t.lane l).retraining = false)

theorem controlPassed_cond : (!(s.lane l).retraining && !(s.lane l).final && decide (s.rd (LANE.RATE l) + 1 ≤ s.topRate l)) = true
    ↔ ¬((s.lane l).retraining = true ∨ (s.lane l).final = true ∨ s.topRate l ≤ s.rd (LANE.RATE l)) := by
  rw [Bool.and_eq_true, Bool.and_eq_true, Bool.not_eq_true', Bool.not_eq_true', decide_eq_true_eq, not_or, not_or, Bool.not_eq_true,
    Bool.not_eq_true, Nat.not_le, and_assoc]
  rfl

theorem controlPassed_up (h : (s.lane l).retraining = true ∨ (s.lane l).final = true ∨ s.topRate l ≤ s.rd (LANE.RATE l)) :
    (s.controlPassed l).rd (LANE.STATE l) = 5 ∧ ((s.controlPassed l).lane l).fails = 0 ∧ ((s.controlPassed l).lane l).comingUp = false := by
  have hst := setLaneState_state s l lsActive
  rw [controlPassed_eq, if_neg (fun hc => controlPassed_cond.mp hc h), State.controlUp]
  generalize s.setLaneState l lsActive = u at *
  refine ⟨hst, ?_, ?_⟩ <;> rw [State.lane_set] <;> rfl

theorem controlPassed_next (hl : l < 6) (hctl : 4 ≤ l)
    (h : ¬((s.lane l).retraining = true ∨ (s.lane l).final = true ∨ s.topRate l ≤ s.rd (LANE.RATE l))) :
    (s.controlPassed l).rd (LANE.STATE l) = 1 ∧ (s.controlPassed l).rd (LANE.RATE l) = s.rd (LANE.RATE l) + 1
      ∧ ((s.controlPassed l).lane l).relock = true ∧ ((s.controlPassed l).lane l).fails = 0 := by
  have heq : s.controlPassed l = s.takeRate l (s.rd (LANE.RATE l) + 1) := if_pos (controlPassed_cond.mpr h)
  obtain ⟨h1, h2, h3⟩ := takeRate_control (s := s) hl hctl (s.rd (LANE.RATE l) + 1)
  have htop := topRate_le s l
  rw [heq]
  refine ⟨h1, h2.trans (Nat.mod_eq_of_lt (by omega)), ?_, ?_⟩ <;> rw [h3] <;> rfl

theorem windowPassed_passes (hl : l < 6) : Passes s (s.windowPassed l) l := by
  have hdata (h : 4 ≤ l) : s.windowPassed l = s.controlPassed l := if_neg (by rw [isData, decide_eq_true_eq]; omega)
  refine ⟨fun h4 hlast => ?_, fun h4 hlast => ?_, fun h4 hre hv => ?_⟩
  · rw [hdata h4]
    exact controlPassed_up hlast
  · rw [hdata h4]
    exact controlPassed_next hl h4 hlast
  · have heq : s.windowPassed l = s.deskew l := (if_pos (decide_eq_true h4)).trans (if_pos hre)
    rw [heq]
    exact deskew_shows hv hl

/-- A lane whose window has failed. -/
def Fails (s t : State) (l : Nat) : Prop :=
  let x := s.lane l
  let r := s.rd (LANE.RATE l)
  (x.fails = 0 → t.rd (LANE.STATE l) = s.rd (LANE.STATE l) ∧ (t.lane l).fails = 1 ∧ (t.lane l).partnerPass = none ∧ (t.lane l).windowErrs = 0)
    ∧ (x.fails ≠ 0 → 4 ≤ l → r = 0 → t.rd (LANE.STATE l) = 0 ∧ t.on (C.FAULT (pLane l) 0) = true)
    ∧ (x.fails ≠ 0 → 4 ≤ l → r ≠ 0 → t.rd (LANE.STATE l) = 1 ∧ t.rd (LANE.RATE l) = (r - 1) % 2 ^ 3 ∧ (t.lane l).final = true)
    ∧ (x.fails ≠ 0 → l < 4 → x.retraining = true → (∃ n < 4, n ≠ l ∧ 3 ≤ s.rd (LANE.STATE n) ∧ s.rd (LANE.STATE n) ≠ 6) →
      t.rd (LANE.STATE l) = 6 ∧ (t.lane l).retraining = false)

theorem windowFailed_first (hl : l < 6) (h : (s.lane l).fails = 0) : (s.windowFailed l).rd (LANE.STATE l) = s.rd (LANE.STATE l)
    ∧ (s.windowFailed l).lane l = ({ s.lane l with fails := 1 } : LaneState).windowed := by
  have heq : s.windowFailed l = (s.setLane l { s.lane l with fails := 1 }).startWindow l := if_pos h
  rw [heq]
  refine ⟨(startWindow_rd hl (by simp)).trans rfl, (startWindow_lane _ l).trans ?_⟩
  rw [State.lane_set]

theorem lane_fault_bits : ∀ l < 6, ∀ b < 5, bit (2 ^ b + faultCommons (pLane l) b) b = true ∧ (LANE.STATE l).key ∉ faultKeys (pLane l) := by
  decide +kernel

/-- A lane's fault shows, and its state stays. -/
theorem laneFault_shows (s : State) (hl : l < 6) {b : Nat} (hb : b < 5) : (s.fault (pLane l) b).on (C.FAULT (pLane l) b) = true
    ∧ (s.fault (pLane l) b).rd (LANE.STATE l) = s.rd (LANE.STATE l) := by
  obtain ⟨h1, h2⟩ := lane_fault_bits l hl b hb
  exact ⟨fault_on_self s (by omega) h1, fault_keepsRegs s _ b _ h2⟩

theorem controlFailed_down (hl : l < 6) (hr : s.rd (LANE.RATE l) = 0) :
    (s.controlFailed l).rd (LANE.STATE l) = 0 ∧ (s.controlFailed l).on (C.FAULT (pLane l) 0) = true := by
  have heq : s.controlFailed l = (s.laneDown l).fault (pLane l) 0 := if_pos hr
  obtain ⟨h1, h2⟩ := laneFault_shows (s.laneDown l) hl (b := 0) (by decide)
  rw [heq]
  exact ⟨h2.trans (laneDown_shows s l).1, h1⟩

theorem controlFailed_back (hl : l < 6) (hctl : 4 ≤ l) (hr : s.rd (LANE.RATE l) ≠ 0) : (s.controlFailed l).rd (LANE.STATE l) = 1
    ∧ (s.controlFailed l).rd (LANE.RATE l) = (s.rd (LANE.RATE l) - 1) % 2 ^ 3 ∧ ((s.controlFailed l).lane l).final = true := by
  obtain ⟨h1, h2, -⟩ := takeRate_control (s := s) hl hctl (s.rd (LANE.RATE l) - 1)
  rw [controlFailed_eq, if_neg hr, State.controlBack]
  generalize s.takeRate l (s.rd (LANE.RATE l) - 1) = u at *
  refine ⟨h1, h2, ?_⟩
  rw [State.lane_set]

theorem dataFailed_removed (hre : (s.lane l).retraining = true)
    (hother : ∃ n < 4, n ≠ l ∧ 3 ≤ s.rd (LANE.STATE n) ∧ s.rd (LANE.STATE n) ≠ 6) :
    (s.dataFailed l).rd (LANE.STATE l) = 6 ∧ ((s.dataFailed l).lane l).retraining = false := by
  obtain ⟨n, hn, hne, hlow, hsix⟩ := hother
  have heq : s.dataFailed l = State.noneLeft ((s.setLaneState l lsRemoved).setLane l
      { s.lane l with locked := false, retraining := false, ended := false, fails := 0 }) := if_pos (by rw [hre]; rfl)
  have hst := setLaneState_state s l lsRemoved
  have hkeep : (s.setLaneState l lsRemoved).rd (LANE.STATE n) = s.rd (LANE.STATE n) :=
    (setLaneState_only l lsRemoved s).regs _ (lanes_apart (by omega) hne _ (by simp))
  rw [heq]
  generalize s.setLaneState l lsRemoved = u at *
  rw [noneLeft_lane hn (hkeep ▸ hlow) (hkeep ▸ hsix)]
  refine ⟨hst, ?_⟩
  rw [State.lane_set]

theorem windowFailed_fails (hl : l < 6) : Fails s (s.windowFailed l) l := by
  have hsecond (h : (s.lane l).fails ≠ 0) : s.windowFailed l = if isData l then s.dataFailed l else s.controlFailed l := if_neg h
  have hctl (h : (s.lane l).fails ≠ 0) (h4 : 4 ≤ l) : s.windowFailed l = s.controlFailed l :=
    (hsecond h).trans (if_neg (by rw [isData, decide_eq_true_eq]; omega))
  refine ⟨fun h => ?_, fun h h4 hr => ?_, fun h h4 hr => ?_, fun h h4 hre hother => ?_⟩
  · obtain ⟨h1, h2⟩ := windowFailed_first hl h
    refine ⟨h1, ?_, ?_, ?_⟩ <;> rw [h2] <;> rfl
  · rw [hctl h h4]
    exact controlFailed_down hl hr
  · rw [hctl h h4]
    exact controlFailed_back hl h4 hr
  · rw [(hsecond h).trans (if_pos (decide_eq_true h4))]
    exact dataFailed_removed hre hother

end

end Sys2Proof.Machine
end

section
/-! PROOFS. The training commands of Yomos Link: windows that end, results that arrive, equalisation (R291, R292, R297). -/
namespace Sys2Proof.Machine
open Sys2Proof

section
variable {s : State} {lane : Fin 6}

/-- A lane runs training windows. -/
def Trained (s : State) (l : Nat) : Prop := s.rd (LANE.STATE l) = 3 ∨ (s.rd (LANE.STATE l) = 6 ∧ (s.lane l).retraining = true)

theorem training_iff (s : State) (l : Nat) : s.training l = true ↔ Trained s l := by
  unfold State.training State.laneState
  rw [Bool.or_eq_true, Bool.and_eq_true, decide_eq_true_eq, decide_eq_true_eq]
  rfl

/-- The device's own window has passed. -/
def OwnPass (x : LaneState) : Prop := x.locked = true ∧ x.windowErrs = 0

theorem own_iff (x : LaneState) : (x.locked && decide (x.windowErrs = 0)) = true ↔ OwnPass x := by
  rw [Bool.and_eq_true, decide_eq_true_eq]
  rfl

/-! ### A TRAIN block of the partner -/

section
variable {rate : BitVec 3} {pass : Bool} {pre post : BitVec 2}

theorem exec_trainReceived (hruns : s.runs (pLane lane) = true) (htr : Trained s lane) (hrate : rate.toNat = s.rd (LANE.RATE lane)) :
    exec (.trainReceived lane rate pass pre post) s = .next (
      if (s.lane lane).ended then
        if pass && ((s.lane lane).locked && decide ((s.lane lane).windowErrs = 0)) then s.windowPassed lane else s.windowFailed lane
      else s.setLane lane { s.lane lane with partnerPass := some pass, preReq := pre.toNat, postReq := post.toNat }) := by
  refine congrArg Host.Outcome.next (if_neg fun h => ?_)
  rw [Bool.or_eq_true, Bool.or_eq_true, hruns, (training_iff s lane).mpr htr, State.laneRate, hrate, bne_self_eq_false] at h
  exact h.elim (fun h => h.elim (absurd · Bool.false_ne_true) (absurd · Bool.false_ne_true)) (absurd · Bool.false_ne_true)

variable (hruns : s.runs (pLane lane) = true) (htr : Trained s lane) (hrate : rate.toNat = s.rd (LANE.RATE lane))
include hruns htr hrate

theorem result_kept (hend : (s.lane lane).ended = false) : exec (.trainReceived lane rate pass pre post) s
    = .next (s.setLane lane { s.lane lane with partnerPass := some pass, preReq := pre.toNat, postReq := post.toNat }) :=
  (exec_trainReceived hruns htr hrate).trans (congrArg Host.Outcome.next (if_neg (by rw [hend]; exact Bool.false_ne_true)))

theorem result_passes (hend : (s.lane lane).ended = true) (hown : OwnPass (s.lane lane)) :
    ∃ t, exec (.trainReceived lane rate true pre post) s = .next t ∧ Passes s t lane := by
  refine ⟨_, (exec_trainReceived hruns htr hrate).trans (congrArg Host.Outcome.next ((if_pos hend).trans (if_pos ?_))), windowPassed_passes lane.isLt⟩
  rw [(own_iff _).mpr hown]
  rfl

theorem result_fails (hend : (s.lane lane).ended = true) (h : pass = false ∨ ¬OwnPass (s.lane lane)) :
    ∃ t, exec (.trainReceived lane rate pass pre post) s = .next t ∧ Fails s t lane := by
  refine ⟨_, (exec_trainReceived hruns htr hrate).trans (congrArg Host.Outcome.next ((if_pos hend).trans (if_neg fun hp => ?_))), windowFailed_fails lane.isLt⟩
  rw [Bool.and_eq_true, own_iff] at hp
  rcases h with h | h
  · exact absurd (h ▸ hp.1) Bool.false_ne_true
  · exact h hp.2

end

/-! ### A window's end -/

/-- The result that the device sends. -/
def resultSent (s : State) (l : Nat) : List (Nat × DWord) :=
  [(l, controlBlock 0x72 (s.rd (LANE.RATE l) + 8 * if (s.lane l).locked = true ∧ (s.lane l).windowErrs = 0 then 1 else 0))]

/-- The partner's requests as the device takes them. -/
def State.requests (s : State) (l : Nat) : State := if s.on (LANE.EQ_ACCEPT l) && s.laneVersion l = 3 then s.equalise l else s

/-- What the end of a window brings, with the requests taken in `u`. -/
def State.windowEnds (s u : State) (l : Nat) : State :=
  let x := s.lane l
  let own := x.locked && x.windowErrs = 0
  if (u.lane l).eqReqs != x.eqReqs then State.startWindow (u.setLane l { u.lane l with fails := 0 }) l
  else if own && x.partnerPass = some true then s.windowPassed l
  else if own && !x.ended then s.setLane l { x with ended := true }
  else s.windowFailed l

theorem b2n_own (x : LaneState) : b2n (x.locked && decide (x.windowErrs = 0)) = if x.locked = true ∧ x.windowErrs = 0 then 1 else 0 := by
  unfold b2n
  simp only [Bool.and_eq_true, decide_eq_true_eq]

theorem exec_trainWindowEnd (hruns : s.runs (pLane lane) = true) (htr : Trained s lane) : exec (.trainWindowEnd lane) s
    = .next ((s.send (resultSent s lane)).windowEnds ((s.send (resultSent s lane)).requests lane) lane) := by
  refine congrArg Host.Outcome.next ((if_neg fun h => ?_).trans ?_)
  · rw [Bool.or_eq_true, hruns, (training_iff s lane).mpr htr] at h
    exact h.elim (absurd · Bool.false_ne_true) (absurd · Bool.false_ne_true)
  · dsimp only
    rw [b2n_own] <;> rfl

/-- With nothing asked for no request acts. -/
theorem equalise_none {l : Nat} (hpre : (s.lane l).preReq = 0) (hpost : (s.lane l).postReq = 0) : s.equalise l = s := by
  have hone (tap other : Fld) (most : Nat) (t : State) : t.equaliseTap l tap other 0 most = t := by
    unfold State.equaliseTap
    have h : stepped (t.rd tap) 0 most = none := (if_neg (by simp)).trans (if_neg (by simp))
    rw [h]
  unfold State.equalise
  dsimp only
  rw [hpre, hpost, hone, hone]

theorem requests_none {l : Nat} (hpre : (s.lane l).preReq = 0) (hpost : (s.lane l).postReq = 0) : s.requests l = s := by
  unfold State.requests
  rw [equalise_none hpre hpost]
  exact ite_self s

theorem windowEnds_plain (s : State) (l : Nat) : s.windowEnds s l
    = if (s.lane l).locked && decide ((s.lane l).windowErrs = 0) && decide ((s.lane l).partnerPass = some true) then s.windowPassed l
      else if (s.lane l).locked && decide ((s.lane l).windowErrs = 0) && !(s.lane l).ended then s.setLane l { s.lane l with ended := true }
      else s.windowFailed l := if_neg (by rw [bne_self_eq_false]; exact Bool.false_ne_true)

/-- What a window shows does not hang on the blocks sent. -/
theorem Passes.of_send {t : State} {l : Nat} {b : List (Nat × DWord)} (h : Passes (s.send b) t l) : Passes s t l := h

theorem Fails.of_send {t : State} {l : Nat} {b : List (Nat × DWord)} (h : Fails (s.send b) t l) : Fails s t l := h

section
variable (hruns : s.runs (pLane lane) = true) (htr : Trained s lane) (hpre : (s.lane lane).preReq = 0) (hpost : (s.lane lane).postReq = 0)
include hruns htr hpre hpost

theorem exec_windowEnd_plain : exec (.trainWindowEnd lane) s
    = .next ((s.send (resultSent s lane)).windowEnds (s.send (resultSent s lane)) lane) := by
  have h := exec_trainWindowEnd (lane := lane) hruns htr
  rw [requests_none (s := s.send (resultSent s lane)) hpre hpost] at h
  exact h

theorem end_passes (hown : OwnPass (s.lane lane)) (hpartner : (s.lane lane).partnerPass = some true) :
    ∃ t, exec (.trainWindowEnd lane) s = .next t ∧ t.lnk.sent = resultSent s lane ∧ Passes s t lane := by
  refine ⟨_, (exec_windowEnd_plain hruns htr hpre hpost).trans (congrArg Host.Outcome.next ((windowEnds_plain _ _).trans (if_pos ?_))),
    windowPassed_sent _ _, (windowPassed_passes lane.isLt).of_send⟩
  rw [Bool.and_eq_true, own_iff, decide_eq_true_eq]
  exact ⟨hown, hpartner⟩

theorem end_waits (hown : OwnPass (s.lane lane)) (hpartner : (s.lane lane).partnerPass ≠ some true) (hend : (s.lane lane).ended = false) :
    exec (.trainWindowEnd lane) s = .next ((s.send (resultSent s lane)).setLane lane { s.lane lane with ended := true }) := by
  refine (exec_windowEnd_plain hruns htr hpre hpost).trans (congrArg Host.Outcome.next ((windowEnds_plain _ _).trans
    ((if_neg fun h => ?_).trans (if_pos ?_))))
  · rw [Bool.and_eq_true, decide_eq_true_eq] at h
    exact hpartner h.2
  · rw [Bool.and_eq_true, own_iff, Bool.not_eq_true']
    exact ⟨hown, hend⟩

theorem end_fails (h : ¬OwnPass (s.lane lane) ∨ ((s.lane lane).partnerPass ≠ some true ∧ (s.lane lane).ended = true)) :
    ∃ t, exec (.trainWindowEnd lane) s = .next t ∧ t.lnk.sent = resultSent s lane ∧ Fails s t lane := by
  refine ⟨_, (exec_windowEnd_plain hruns htr hpre hpost).trans (congrArg Host.Outcome.next ((windowEnds_plain _ _).trans
    ((if_neg fun hc => ?_).trans (if_neg fun hc => ?_)))), windowFailed_sent _ _, (windowFailed_fails lane.isLt).of_send⟩
  · rw [Bool.and_eq_true, own_iff, decide_eq_true_eq] at hc
    exact h.elim (fun h => h hc.1) fun h => h.1 hc.2
  · rw [Bool.and_eq_true, own_iff, Bool.not_eq_true'] at hc
    exact h.elim (fun h => h hc.1) fun h => absurd (h.2.symm.trans hc.2) Bool.false_ne_true.symm

end

/-! ### A request that is honoured (R267, R292) -/

theorem windowFields_settled {l : Nat} (h : s.rdS (LANE.PRE l) = s.rd (LANE.PRE l) ∧ s.rdS (LANE.POST l) = s.rd (LANE.POST l)) :
    s.windowFields l = s.applyLiveOf (windowFlds l) := by
  refine if_neg ?_
  rw [h.1, h.2, bne_self_eq_false, bne_self_eq_false]
  exact Bool.false_ne_true

theorem taps_apart : ∀ l < 6, ∀ f ∈ [LANE.PRE_IN_FORCE l, LANE.POST_IN_FORCE l, LANE.STATE l], ∀ g ∈ windowFlds l, f.key ≠ g.key := by
  decide +kernel

/-- A lane whose PRE has gone up by a request. -/
def State.preStepped (s : State) (l : Nat) : State :=
  (s.wr (LANE.PRE_IN_FORCE l) (s.rd (LANE.PRE_IN_FORCE l) + 1)).setLane l { s.lane l with eqReqs := (s.lane l).eqReqs + 1 }

theorem equalise_pre {l : Nat} (hpre : (s.lane l).preReq = 1) (hpost : (s.lane l).postReq = 0) (hmost : s.rd (LANE.PRE_IN_FORCE l) < 16)
    (hsum : s.rd (LANE.PRE_IN_FORCE l) + s.rd (LANE.POST_IN_FORCE l) < 32) (hreqs : (s.lane l).eqReqs < 32) : s.equalise l = s.preStepped l := by
  have hstep : stepped (s.rd (LANE.PRE_IN_FORCE l)) 1 16 = some (s.rd (LANE.PRE_IN_FORCE l) + 1) := if_pos (by simpa using hmost)
  have hfirst : s.equaliseTap l (LANE.PRE_IN_FORCE l) (LANE.POST_IN_FORCE l) 1 16 = s.preStepped l := by
    unfold State.equaliseTap
    rw [hstep]
    refine (if_pos ?_).trans rfl
    rw [Bool.and_eq_true, decide_eq_true_eq, decide_eq_true_eq]
    omega
  have hnone (t : State) : t.equaliseTap l (LANE.POST_IN_FORCE l) (LANE.PRE_IN_FORCE l) 0 24 = t := by
    unfold State.equaliseTap
    have h : stepped (t.rd (LANE.POST_IN_FORCE l)) 0 24 = none := (if_neg (by simp)).trans (if_neg (by simp))
    rw [h]
  unfold State.equalise
  dsimp only
  rw [hpre, hpost, hfirst, hnone]

/-- A request restarts the window. -/
def State.preWindow (s : State) (l : Nat) : State :=
  State.startWindow ((s.preStepped l).setLane l { (s.preStepped l).lane l with fails := 0 }) l

theorem preStepped_lane (s : State) (l : Nat) : (s.preStepped l).lane l = { s.lane l with eqReqs := (s.lane l).eqReqs + 1 } := State.lane_set _ l _

theorem preWindow_shows {l : Nat} (hl : l < 6) (hmost : s.rd (LANE.PRE_IN_FORCE l) < 16)
    (hset : s.rdS (LANE.PRE l) = s.rd (LANE.PRE l) ∧ s.rdS (LANE.POST l) = s.rd (LANE.POST l)) :
    (s.preWindow l).lnk.sent = s.lnk.sent ∧ (s.preWindow l).rd (LANE.STATE l) = s.rd (LANE.STATE l)
      ∧ (s.preWindow l).rd (LANE.PRE_IN_FORCE l) = s.rd (LANE.PRE_IN_FORCE l) + 1
      ∧ (s.preWindow l).rd (LANE.POST_IN_FORCE l) = s.rd (LANE.POST_IN_FORCE l) ∧ ((s.preWindow l).lane l).eqReqs = (s.lane l).eqReqs + 1
      ∧ ((s.preWindow l).lane l).fails = 0 ∧ ((s.preWindow l).lane l).windowErrs = 0 := by
  have hlane := preStepped_lane s l
  have hne (f : Fld) (h : f.key ≠ (LANE.PRE_IN_FORCE l).key) : (s.preStepped l).rd f = s.rd f := State.rd_wr_ne s _ _ _ h
  have hst := hne (LANE.STATE l) (by simp only [LANE.STATE, LANE.PRE_IN_FORCE, fld_key]; omega)
  have hpost := hne (LANE.POST_IN_FORCE l) (by simp only [LANE.POST_IN_FORCE, LANE.PRE_IN_FORCE, fld_key]; omega)
  have hpre : (s.preStepped l).rd (LANE.PRE_IN_FORCE l) = s.rd (LANE.PRE_IN_FORCE l) + 1 :=
    (State.rd_wr_self s (LANE.PRE_IN_FORCE l) _).trans (Nat.mod_eq_of_lt (by rw [show (LANE.PRE_IN_FORCE l).width = 5 from rfl]; omega))
  have hsettled : (s.preStepped l).rdS (LANE.PRE l) = (s.preStepped l).rd (LANE.PRE l)
      ∧ (s.preStepped l).rdS (LANE.POST l) = (s.preStepped l).rd (LANE.POST l) := by
    rw [hne (LANE.PRE l) (by simp only [LANE.PRE, LANE.PRE_IN_FORCE, fld_key]; omega),
      hne (LANE.POST l) (by simp only [LANE.POST, LANE.PRE_IN_FORCE, fld_key]; omega)]
    exact hset
  have hsent : (s.preStepped l).lnk.sent = s.lnk.sent := rfl
  unfold State.preWindow
  generalize s.preStepped l = u at *
  have hv : (u.setLane l { u.lane l with fails := 0 }).lane l = { u.lane l with fails := 0 } := State.lane_set u l _
  have hwin := windowFields_settled (s := u.setLane l { u.lane l with fails := 0 }) hsettled
  have hstart := startWindow_lane (u.setLane l { u.lane l with fails := 0 }) l
  have hlink : ((u.setLane l { u.lane l with fails := 0 }).startWindow l).lnk.sent = u.lnk.sent :=
    (laneOnly_sent (startWindow_only l (u.setLane l { u.lane l with fails := 0 })) :)
  have hrd (f : Fld) (hf : f ∈ [LANE.PRE_IN_FORCE l, LANE.POST_IN_FORCE l, LANE.STATE l]) :
      ((u.setLane l { u.lane l with fails := 0 }).startWindow l).rd f = u.rd f := by
    show ((u.setLane l { u.lane l with fails := 0 }).windowFields l).rd f = u.rd f
    rw [hwin]
    exact copyFlds_ne _ _ _ _ fun g hg => taps_apart l hl f hf g (List.mem_of_mem_filter hg)
  generalize (u.setLane l { u.lane l with fails := 0 }).startWindow l = w at *
  rw [hv] at hstart
  refine ⟨hlink.trans hsent, (hrd _ (by simp)).trans hst, (hrd _ (by simp)).trans hpre, (hrd _ (by simp)).trans hpost, ?_, ?_, ?_⟩
  · rw [hstart]
    exact congrArg LaneState.eqReqs hlane
  · rw [hstart]
    rfl
  · rw [hstart]
    rfl

theorem end_stepped (hruns : s.runs (pLane lane) = true) (htr : Trained s lane) (hpre : (s.lane lane).preReq = 1) (hpost : (s.lane lane).postReq = 0)
    (hacc : s.on (LANE.EQ_ACCEPT lane) = true) (hv : s.laneVersion lane = 3) (hmost : s.rd (LANE.PRE_IN_FORCE lane) < 16)
    (hsum : s.rd (LANE.PRE_IN_FORCE lane) + s.rd (LANE.POST_IN_FORCE lane) < 32) (hreqs : (s.lane lane).eqReqs < 32)
    (hset : s.rdS (LANE.PRE lane) = s.rd (LANE.PRE lane) ∧ s.rdS (LANE.POST lane) = s.rd (LANE.POST lane)) :
    ∃ t, exec (.trainWindowEnd lane) s = .next t ∧ t.lnk.sent = resultSent s lane ∧ t.rd (LANE.STATE lane) = s.rd (LANE.STATE lane)
      ∧ t.rd (LANE.PRE_IN_FORCE lane) = s.rd (LANE.PRE_IN_FORCE lane) + 1 ∧ t.rd (LANE.POST_IN_FORCE lane) = s.rd (LANE.POST_IN_FORCE lane)
      ∧ (t.lane lane).eqReqs = (s.lane lane).eqReqs + 1 ∧ (t.lane lane).fails = 0 ∧ (t.lane lane).windowErrs = 0 := by
  have hreq : (s.send (resultSent s lane)).requests lane = (s.send (resultSent s lane)).preStepped lane := by
    refine (if_pos ?_).trans (equalise_pre (s := s.send (resultSent s lane)) hpre hpost hmost hsum hreqs)
    rw [Bool.and_eq_true, decide_eq_true_eq]
    exact ⟨hacc, hv⟩
  have hexec := exec_trainWindowEnd (lane := lane) hruns htr
  rw [hreq] at hexec
  refine ⟨_, hexec.trans (congrArg Host.Outcome.next (if_pos ?_)), preWindow_shows (s := s.send (resultSent s lane)) lane.isLt hmost hset⟩
  rw [preStepped_lane, bne_iff_ne]
  exact Nat.succ_ne_self _

end

end Sys2Proof.Machine
end

section
/-! PROOFS. Lanes of Yomos Link: block lock, capabilities, the bit-slip search, and causes to retrain (R264 to R272, R288 to R290, R294 to
R297). -/
namespace Sys2Proof.Machine
open Sys2Proof

section
variable {s : State} {lane : Fin 6} {l : Nat}

theorem isData_lt (h : l < 4) : isData l = true := decide_eq_true h
theorem isData_ge (h : 4 ≤ l) : isData l = false := decide_eq_false (Nat.not_lt.mpr h)

theorem mod_state {st : Nat} (h : st < 8) : st % 8 = st := Nat.mod_eq_of_lt h

/-! ### Block lock (R270, R288) -/

/-- A lane with block lock in its training again. -/
def State.relocked (s : State) (l : Nat) : State := (s.setLane l { s.lane l with locked := true, relock := false }).setLaneState l lsTrain

/-- A lane that has found block lock in its bring-up. -/
def State.foundLock (s : State) (l : Nat) : State :=
  State.setLaneState ((s.setLane l { s.lane l with locked := true, relock := false }).setLane l { ({} : LaneState) with locked := true }) l lsCaps

theorem laneLocked_relock (h : (s.lane l).relock = true) : s.laneLocked l = s.relocked l := if_pos h

theorem laneLocked_found (h : (s.lane l).relock = false) (hst : s.rd (LANE.STATE l) ≤ 1) : s.laneLocked l = s.foundLock l := by
  refine (if_neg (by rw [h]; exact Bool.false_ne_true)).trans (if_pos ?_)
  rw [Bool.or_eq_true, decide_eq_true_eq, decide_eq_true_eq, State.laneState, lsDown, lsLock]
  omega

theorem relocked_shows (s : State) (l : Nat) : (s.relocked l).rd (LANE.STATE l) = 3
    ∧ (s.relocked l).lane l = { s.lane l with locked := true, relock := false } :=
  ⟨setLaneState_state _ l lsTrain, (setLaneState_lane _ l lsTrain l).trans (State.lane_set s l _)⟩

theorem foundLock_shows (s : State) (l : Nat) : (s.foundLock l).rd (LANE.STATE l) = 2 ∧ (s.foundLock l).lane l = { ({} : LaneState) with locked := true } :=
  ⟨setLaneState_state _ l lsCaps, (setLaneState_lane _ l lsCaps l).trans (State.lane_set _ l _)⟩

theorem exec_lockGained (hup : s.mayComeUp lane = true) (hal : (lane : Nat) < 4 ∨ s.on (LANE.ALIGNED lane) = true) :
    exec (.blockLockGained lane) s = .next (s.laneLocked lane) := by
  refine congrArg Host.Outcome.next (if_neg fun h => ?_)
  rw [Bool.or_eq_true, Bool.and_eq_true, hup] at h
  rcases h with h | ⟨h1, h2⟩
  · exact Bool.false_ne_true h
  · rcases hal with hal | hal
    · rw [isData_lt hal] at h1
      exact Bool.false_ne_true h1
    · rw [hal] at h2
      exact Bool.false_ne_true h2

/-! ### A lane loses block lock (R288, R294, R297) -/

theorem exec_lockLost (hruns : s.runs (pLane lane) = true) : exec (.blockLockLost lane) s = .next (s.lockLost lane) :=
  congrArg Host.Outcome.next (if_neg (by rw [hruns]; decide))

/-- A lane without its lock. -/
def State.unlocked (s : State) (l : Nat) : State := s.setLane l { s.lane l with locked := false, windowErrs := (s.lane l).windowErrs + 1 }

/-- A control lane without its lock and its boundary. -/
def State.unbounded (s : State) (l : Nat) : State :=
  (((s.unlocked l).put (LANE.ALIGNED l) false).put (LANE.ST_ALIGNED l) false).wr (LANE.SLIPS l) 0

theorem lockLost_control (h4 : 4 ≤ l) (hst : s.rd (LANE.STATE l) ≠ 0) : ∃ b, s.lockLost l
    = ((s.unbounded l).setLane l { (s.unbounded l).lane l with relock := b }).setLaneState l lsLock :=
  ⟨_, (if_pos (by rw [isData_ge h4]; rfl)).trans (if_neg hst)⟩

theorem unbounded_shows (s : State) (l : Nat) : (s.unbounded l).on (LANE.ALIGNED l) = false ∧ (s.unbounded l).rd (LANE.SLIPS l) = 0
    ∧ ((s.unbounded l).lane l).locked = false := by
  refine ⟨?_, State.rd_wr_self _ _ _, ?_⟩
  · refine (State.on_wr_ne _ _ _ _ (by simp only [LANE.ALIGNED, LANE.SLIPS, fld_key]; omega)).trans
      ((State.on_put_ne _ _ _ _ (by simp only [LANE.ALIGNED, LANE.ST_ALIGNED, fld_key]; omega)).trans ?_)
    exact State.on_put_self _ _ _ Nat.one_pos
  · exact congrArg LaneState.locked (State.lane_set s l _)

theorem state_bounds : ∀ l < 6, (LANE.ALIGNED l).key ∉ (LANE.STATE l).key :: stateKeysOf l ∧ (LANE.SLIPS l).key ∉ (LANE.STATE l).key :: stateKeysOf l := by
  decide

theorem control_unlocks (h4 : 4 ≤ l) (hl : l < 6) (hst : s.rd (LANE.STATE l) ≠ 0) : (s.lockLost l).rd (LANE.STATE l) = 1
    ∧ (s.lockLost l).on (LANE.ALIGNED l) = false ∧ (s.lockLost l).rd (LANE.SLIPS l) = 0 ∧ ((s.lockLost l).lane l).locked = false := by
  obtain ⟨b, heq⟩ := lockLost_control h4 hst
  obtain ⟨h1, h2, h3⟩ := unbounded_shows s l
  obtain ⟨k1, k2⟩ := state_bounds l hl
  rw [heq]
  generalize s.unbounded l = u at *
  refine ⟨setLaneState_state _ l lsLock, (congrArg (· != 0) (setLaneState_rd k1)).trans h1, (setLaneState_rd k2).trans h2, ?_⟩
  refine (congrArg LaneState.locked ((setLaneState_lane _ l lsLock l).trans (State.lane_set u l _))).trans h3

theorem caps_unlocks (h4 : l < 4) (hst : s.rd (LANE.STATE l) = 2) : (s.lockLost l).rd (LANE.STATE l) = 1 ∧ ((s.lockLost l).lane l).locked = false := by
  have heq : s.lockLost l = (s.unlocked l).setLaneState l lsLock := by
    refine (if_neg (by rw [isData_lt h4]; decide)).trans ((if_neg ?_).trans (if_pos hst))
    rw [State.laneState, hst]
    decide
  rw [heq]
  refine ⟨setLaneState_state _ l lsLock, ?_⟩
  exact congrArg LaneState.locked ((setLaneState_lane _ l lsLock l).trans (State.lane_set s l _))

/-! ### A cause to retrain (R297) -/

theorem leaveStripe_still (h : s.rd (LANE.STATE l) ≠ 5) : s.leaveStripe l = s := if_pos (bne_iff_ne.mpr h)

theorem leaveStripe_three (hst : s.rd (LANE.STATE l) = 5) (hv : s.version = 3) : s.leaveStripe l = s.setLane l { s.lane l with leaving := true } :=
  (if_neg (by rw [State.laneState, hst]; decide)).trans (if_pos hv)

theorem leaveStripe_older (hst : s.rd (LANE.STATE l) = 5) (hv : s.version ≠ 3) : s.leaveStripe l = s.retrainBundle :=
  (if_neg (by rw [State.laneState, hst]; decide)).trans (if_neg hv)

theorem OnlyLane.setLane (s : State) (l : Nat) (x : LaneState) : OnlyLane l s (s.setLane l x) := ⟨rfl, fun _ hn => State.lane_set_ne s x hn⟩

theorem OnlyLane.trans {t u : State} (h : OnlyLane l s t) (h' : OnlyLane l t u) : OnlyLane l s u := by
  refine ⟨?_, fun n hn => (h'.2 n hn).trans (h.2 n hn)⟩
  have h1 := h'.1
  rw [h.1] at h1
  exact h1

theorem active_unlocks (h4 : l < 4) (hv : s.version = 3) (hst : s.rd (LANE.STATE l) = 5) : OnlyLane l s (s.lockLost l)
    ∧ (s.lockLost l).lane l = { s.lane l with locked := false, windowErrs := (s.lane l).windowErrs + 1, leaving := true } := by
  have heq : s.lockLost l = (s.unlocked l).leaveStripe l := (if_neg (by rw [isData_lt h4]; decide)).trans (if_pos hst)
  have hlane : (s.unlocked l).lane l = _ := State.lane_set s l _
  rw [heq, leaveStripe_three (s := s.unlocked l) hst hv]
  refine ⟨(OnlyLane.setLane s l _).trans (OnlyLane.setLane _ l _), (State.lane_set _ l _).trans ?_⟩
  rw [hlane]

theorem exec_errWindow : exec (.errLimitWindow lane) s = .next (if s.runs (pLane lane) && isData lane && s.rd (LANE.ERR_LIMIT lane) ≤ (s.lane lane).errs125
    then (s.setLane lane { s.lane lane with errs125 := 0 }).leaveStripe lane else s.setLane lane { s.lane lane with errs125 := 0 }) := rfl

theorem errWindow_calm (h : 4 ≤ (lane : Nat) ∨ (s.lane lane).errs125 < s.rd (LANE.ERR_LIMIT lane)) :
    exec (.errLimitWindow lane) s = .next (s.setLane lane { s.lane lane with errs125 := 0 }) := by
  refine exec_errWindow.trans (congrArg Host.Outcome.next (if_neg fun hc => ?_))
  rw [Bool.and_eq_true, Bool.and_eq_true, decide_eq_true_eq, isData, decide_eq_true_eq] at hc
  omega

theorem errWindow_leaves (hruns : s.runs (pLane lane) = true) (hv : s.version = 3) (h4 : (lane : Nat) < 4) (hst : s.rd (LANE.STATE lane) = 5)
    (hlim : s.rd (LANE.ERR_LIMIT lane) ≤ (s.lane lane).errs125) : ∃ t, exec (.errLimitWindow lane) s = .next t ∧ OnlyLane lane s t
      ∧ t.lane lane = { s.lane lane with errs125 := 0, leaving := true } := by
  refine ⟨_, exec_errWindow.trans (congrArg Host.Outcome.next ((if_pos ?_).trans
    (leaveStripe_three (s := s.setLane lane { s.lane lane with errs125 := 0 }) hst hv))), (OnlyLane.setLane s lane _).trans (OnlyLane.setLane _ lane _), ?_⟩
  · rw [hruns, isData_lt h4, decide_eq_true hlim]
    rfl
  · refine (State.lane_set _ (lane : Nat) _).trans ?_
    rw [State.lane_set]

/-! ### A write of RETRAIN, BITSLIP or ALIGNED (R266, R294, R297) -/

section
variable {path : Path} {value : Word}

theorem writeTo_runs {p : Nat} {f : State → State} (h : s.runs p = true) : s.writeTo p f = f { s with bus := {} } := if_pos h

theorem exec_retrain (hruns : s.runs (pLane lane) = true) (hslip : value.getLsbD 30 = false) :
    exec (.retrain path lane value) s
      = .next (({ s with bus := {} } : State).laneControl lane value.toNat (({ s with bus := {} } : State).freeVal 0 % 1025)) := by
  refine congrArg Host.Outcome.next ((writeTo_runs hruns).trans ?_)
  rw [bit_toNat, hslip]
  rfl

theorem laneControl_data {v e : Nat} (h4 : l < 4) (h : bit v 31 = true) : s.laneControl l v e = s.leaveStripe l := by
  unfold State.laneControl
  rw [if_pos h, if_pos (isData_lt h4), State.retrain, if_pos (isData_lt h4)]

theorem retrain_three (hruns : s.runs (pLane lane) = true) (hv : s.version = 3) (h4 : (lane : Nat) < 4) (hst : s.rd (LANE.STATE lane) = 5)
    (hret : value.getLsbD 31 = true) (hslip : value.getLsbD 30 = false) :
    ∃ t, exec (.retrain path lane value) s = .next t ∧ (t.lane lane).leaving = true ∧ t.regs = s.regs := by
  refine ⟨_, (exec_retrain hruns hslip).trans (congrArg Host.Outcome.next ((laneControl_data h4 (by rw [bit_toNat, hret])).trans
    (leaveStripe_three (s := { s with bus := {} }) hst hv))), ?_, rfl⟩
  rw [State.lane_set]

theorem retrain_older (hruns : s.runs (pLane lane) = true) (hv : s.version ≠ 3) (h4 : (lane : Nat) < 4) (hst : s.rd (LANE.STATE lane) = 5)
    (hret : value.getLsbD 31 = true) (hslip : value.getLsbD 30 = false) : ∃ t, exec (.retrain path lane value) s = .next t ∧ Retrains s t :=
  ⟨_, (exec_retrain hruns hslip).trans (congrArg Host.Outcome.next ((laneControl_data h4 (by rw [bit_toNat, hret])).trans
    (leaveStripe_older (s := { s with bus := {} }) hst hv))), (retrainBundle_retrains { s with bus := {} } :)⟩

theorem aligned_apart : ∀ l < 6, 4 ≤ l → (LANE.ALIGNED l).key ∉ windowKeys l
    ∧ (LANE.ALIGNED l).key ∉ (LANE.RATE l).key :: (LANE.INT_RETRAIN l).key :: (LANE.RETRAINS l).key :: (LANE.STATE l).key :: stateKeysOf l := by
  decide +kernel

theorem retrainShown_keeps (s : State) (l st rate : Nat) :
    KeepsRegs ((LANE.RATE l).key :: (LANE.INT_RETRAIN l).key :: (LANE.RETRAINS l).key :: (LANE.STATE l).key :: stateKeysOf l) s
      (s.retrainShown l st rate) := by
  have hstate : KeepsRegs ((LANE.RATE l).key :: (LANE.INT_RETRAIN l).key :: (LANE.RETRAINS l).key :: (LANE.STATE l).key :: stateKeysOf l) s
      ((s.wr (LANE.RATE l) rate).setLaneState l st) :=
    (((KeepsRegs.refl _ s).wr (LANE.RATE l) rate (by simp)).wr (LANE.STATE l) st (by simp)).trans
      ((setLaneState_keeps (s.wr (LANE.RATE l) rate) l st).mono fun k hk => by simp [hk])
  exact (hstate.put (LANE.INT_RETRAIN l) true (by simp)).count (LANE.RETRAINS l) 1 (by simp)

/-- A control lane that retrains keeps its boundary. -/
theorem retrainLane_aligned (h4 : 4 ≤ l) (hl : l < 6) (st rate : Nat) : (s.retrainLane l st rate).on (LANE.ALIGNED l) = s.on (LANE.ALIGNED l) := by
  obtain ⟨h1, h2⟩ := aligned_apart l hl h4
  have hshown := retrainShown_keeps s l st rate _ h2
  rw [retrainLane_eq]
  generalize s.retrainShown l st rate = u at *
  exact congrArg (· != 0) ((startWindow_keeps _ l _ h1).trans hshown)

theorem laneControl_control {v e : Nat} (h4 : 4 ≤ l) (hl : l < 6) (hst : s.rd (LANE.STATE l) = 5) (h31 : bit v 31 = true) (h30 : bit v 30 = false)
    (h29 : bit v 29 = s.on (LANE.ALIGNED l)) : s.laneControl l v e = s.retrainLane l lsTrain (s.rd (LANE.RATE l)) := by
  have hret : s.retrain l = s.retrainLane l lsTrain (s.rd (LANE.RATE l)) := (if_neg (by rw [isData_ge h4]; decide)).trans (if_pos hst)
  have hal := retrainLane_aligned (s := s) h4 hl lsTrain (s.rd (LANE.RATE l))
  unfold State.laneControl
  rw [if_pos h31, hret, isData_ge h4, h30, h29]
  generalize s.retrainLane l lsTrain (s.rd (LANE.RATE l)) = u at *
  refine (if_neg Bool.false_ne_true).trans ?_
  dsimp only
  rw [if_neg Bool.false_ne_true, hal, bne_self_eq_false]
  exact if_neg Bool.false_ne_true

theorem retrain_control (hruns : s.runs (pLane lane) = true) (h4 : 4 ≤ (lane : Nat)) (hst : s.rd (LANE.STATE lane) = 5)
    (hret : value.getLsbD 31 = true) (hslip : value.getLsbD 30 = false) (hal : value.getLsbD 29 = s.on (LANE.ALIGNED lane)) :
    ∃ t, exec (.retrain path lane value) s = .next t ∧ t.rd (LANE.STATE lane) = 3 ∧ t.on (LANE.INT_RETRAIN lane) = true
      ∧ t.rd (LANE.RETRAINS lane) = min (s.rd (LANE.RETRAINS lane) + 1) 65535 := by
  refine ⟨_, (exec_retrain hruns hslip).trans (congrArg Host.Outcome.next (laneControl_control (s := { s with bus := {} }) h4 lane.isLt hst
    (by rw [bit_toNat, hret]) (by rw [bit_toNat, hslip]) (by rw [bit_toNat, hal]; rfl))), ?_⟩
  obtain ⟨h1, -, h3, h5, -⟩ := retrainLane_shows { s with bus := {} } lane.isLt lsTrain (s.rd (LANE.RATE lane))
  exact ⟨h1, h3, h5⟩

end

/-! ### The bit-slip search (R266, R294) -/

section
variable {path : Path} {value : Word} {ctl : Fin 2} {k : Nat}

theorem laneControl_slip {v e : Nat} (h4 : 4 ≤ l) (h31 : bit v 31 = false) (h30 : bit v 30 = true) (h29 : bit v 29 = false)
    (hal : (s.slip l e).on (LANE.ALIGNED l) = false) : s.laneControl l v e = s.slip l e := by
  unfold State.laneControl
  rw [h31, h30, h29, isData_ge h4, if_neg Bool.false_ne_true]
  dsimp only
  rw [if_neg Bool.false_ne_true, if_pos rfl, hal]
  exact if_neg (by decide)

/-- The counts after a slip. -/
def State.slipped (s : State) (l e : Nat) : State := (s.wr (LANE.SLIPS l) (s.rd (LANE.SLIPS l) + 1)).wr (LANE.HDR_ERR l) e

theorem slip_eq {e : Nat} (h4 : 4 ≤ l) (hst : s.rd (LANE.STATE l) = 1) : s.slip l e
    = if 66 ≤ s.rd (LANE.SLIPS l) + 1 && e != 0 then ((s.slipped l e).laneDown l).fault (pLane l) 3 else s.slipped l e := by
  refine (if_neg ?_).trans rfl
  rw [isData_ge h4, State.laneState, hst]
  decide

theorem slipped_shows (s : State) (l e : Nat) : (s.slipped l e).rd (LANE.SLIPS l) = (s.rd (LANE.SLIPS l) + 1) % 2 ^ 7
    ∧ (s.slipped l e).rd (LANE.HDR_ERR l) = e % 2 ^ 16 ∧ (s.slipped l e).rd (LANE.STATE l) = s.rd (LANE.STATE l)
    ∧ (s.slipped l e).on (LANE.ALIGNED l) = s.on (LANE.ALIGNED l) := by
  have hk : KeepsRegs [(LANE.SLIPS l).key, (LANE.HDR_ERR l).key] s (s.slipped l e) :=
    ((KeepsRegs.refl _ s).wr (LANE.SLIPS l) _ (by simp)).wr (LANE.HDR_ERR l) e (by simp)
  refine ⟨?_, State.rd_wr_self _ _ _, hk _ ?_, congrArg (· != 0) (hk _ ?_)⟩
  · exact (State.rd_wr_ne _ _ _ _ (by simp only [LANE.SLIPS, LANE.HDR_ERR, fld_key]; omega)).trans (State.rd_wr_self _ _ _)
  · simp only [List.mem_cons, List.not_mem_nil, or_false, LANE.STATE, LANE.SLIPS, LANE.HDR_ERR, fld_key]
    omega
  · simp only [List.mem_cons, List.not_mem_nil, or_false, LANE.ALIGNED, LANE.SLIPS, LANE.HDR_ERR, fld_key]
    omega

theorem laneDown_unaligned (s : State) (h4 : 4 ≤ l) : (s.laneDown l).on (LANE.ALIGNED l) = false := by
  have heq : s.laneDown l = (((s.setLaneState l lsDown).setLane l {}).wr (LANE.RATE l) 0).unaligned l := if_neg (by rw [isData_ge h4]; decide)
  rw [heq]
  generalize ((s.setLaneState l lsDown).setLane l {}).wr (LANE.RATE l) 0 = u
  have hk : KeepsRegs [(LANE.ST_ALIGNED l).key, (LANE.CDR_LOCK l).key, (LANE.SLIPS l).key] (u.put (LANE.ALIGNED l) false) (u.unaligned l) :=
    (((KeepsRegs.refl _ _).put (LANE.ST_ALIGNED l) false (by simp)).put (LANE.CDR_LOCK l) false (by simp)).wr (LANE.SLIPS l) 0 (by simp)
  refine (congrArg (· != 0) (hk (LANE.ALIGNED l) ?_)).trans (State.on_put_self u (LANE.ALIGNED l) false Nat.one_pos)
  simp only [List.mem_cons, List.not_mem_nil, or_false, LANE.ALIGNED, LANE.ST_ALIGNED, LANE.CDR_LOCK, LANE.SLIPS, fld_key]
  omega

theorem exec_bitslip (hruns : s.runs (pLane (4 + ctl)) = true) {errs : BitVec 16} : exec (.bitslip path ctl value errs) s
    = .next (({ s with bus := {} } : State).laneControl (4 + ctl) value.toNat errs.toNat) := congrArg Host.Outcome.next (writeTo_runs hruns)

theorem exec_aligned (hruns : s.runs (pLane (4 + ctl)) = true) (hslip : value.getLsbD 30 = false) : exec (.aligned path ctl value) s
    = .next (({ s with bus := {} } : State).laneControl (4 + ctl) value.toNat (({ s with bus := {} } : State).freeVal 0 % 1025)) := by
  refine congrArg Host.Outcome.next ((writeTo_runs hruns).trans ?_)
  rw [bit_toNat, hslip]
  rfl

theorem slip_faultBits : ∀ l < 6, (LANE.ALIGNED l).key ∉ faultKeys (pLane l) := by decide +kernel

theorem slip_gives_up {e : Nat} (h4 : 4 ≤ l) (hl : l < 6) (hst : s.rd (LANE.STATE l) = 1) (hn : 65 ≤ s.rd (LANE.SLIPS l)) (he : e ≠ 0) :
    (s.slip l e).rd (LANE.STATE l) = 0 ∧ (s.slip l e).on (C.FAULT (pLane l) 3) = true ∧ (s.slip l e).on (LANE.ALIGNED l) = false := by
  have heq : s.slip l e = ((s.slipped l e).laneDown l).fault (pLane l) 3 := by
    refine (slip_eq h4 hst).trans (if_pos ?_)
    rw [Bool.and_eq_true, decide_eq_true_eq, bne_iff_ne]
    omega
  have hdown := (laneDown_shows (s.slipped l e) l).1
  have hal := laneDown_unaligned (s.slipped l e) h4
  rw [heq]
  generalize (s.slipped l e).laneDown l = u at *
  obtain ⟨h1, h2⟩ := laneFault_shows u hl (b := 3) (by decide)
  exact ⟨h2.trans hdown, h1, (fault_on_other u (slip_faultBits l hl)).trans hal⟩

theorem slip_goes_on {e : Nat} (h4 : 4 ≤ l) (hst : s.rd (LANE.STATE l) = 1) (h : s.rd (LANE.SLIPS l) < 65 ∨ e = 0) : s.slip l e = s.slipped l e := by
  refine (slip_eq h4 hst).trans (if_neg fun hc => ?_)
  rw [Bool.and_eq_true, decide_eq_true_eq, bne_iff_ne] at hc
  omega

variable (hruns : s.runs (pLane (4 + ctl)) = true) (hst : s.rd (LANE.STATE (4 + ctl)) = 1) (hal : s.on (LANE.ALIGNED (4 + ctl)) = false)
include hruns hst hal

theorem bitslip_counts {errs : BitVec 16} (h31 : value.getLsbD 31 = false) (h30 : value.getLsbD 30 = true) (h29 : value.getLsbD 29 = false)
    (h : s.rd (LANE.SLIPS (4 + ctl)) < 65 ∨ errs = 0 ∧ s.rd (LANE.SLIPS (4 + ctl)) < 127) :
    ∃ t, exec (.bitslip path ctl value errs) s = .next t ∧ t.rd (LANE.SLIPS (4 + ctl)) = s.rd (LANE.SLIPS (4 + ctl)) + 1
      ∧ t.rd (LANE.HDR_ERR (4 + ctl)) = errs.toNat ∧ t.rd (LANE.STATE (4 + ctl)) = 1 := by
  have h4 : 4 ≤ 4 + (ctl : Nat) := Nat.le_add_right 4 ctl
  obtain ⟨k1, k2, k3, k4⟩ := slipped_shows { s with bus := {} } (4 + ctl) errs.toNat
  have hslip : ({ s with bus := {} } : State).slip (4 + ctl) errs.toNat = ({ s with bus := {} } : State).slipped (4 + ctl) errs.toNat := by
    refine slip_goes_on h4 hst (h.imp_right fun h => ?_)
    rw [h.1]
    rfl
  refine ⟨_, (exec_bitslip hruns).trans (congrArg Host.Outcome.next ((laneControl_slip h4 (by rw [bit_toNat, h31]) (by rw [bit_toNat, h30])
    (by rw [bit_toNat, h29]) ?_).trans hslip)), k1.trans (Nat.mod_eq_of_lt ?_), k2.trans (Nat.mod_eq_of_lt errs.isLt), k3.trans hst⟩
  · rw [hslip]
    exact k4.trans hal
  · have hlt : s.rd (LANE.SLIPS (4 + ctl)) + 1 < 2 ^ 7 := by omega
    exact hlt

theorem bitslip_fails {errs : BitVec 16} (h31 : value.getLsbD 31 = false) (h30 : value.getLsbD 30 = true) (h29 : value.getLsbD 29 = false)
    (hn : 65 ≤ s.rd (LANE.SLIPS (4 + ctl))) (he : errs ≠ 0) : ∃ t, exec (.bitslip path ctl value errs) s = .next t
      ∧ t.rd (LANE.STATE (4 + ctl)) = 0 ∧ t.on (C.FAULT (pLane (4 + ctl)) 3) = true := by
  have h4 : 4 ≤ 4 + (ctl : Nat) := Nat.le_add_right 4 ctl
  obtain ⟨k1, k2, k3⟩ := slip_gives_up (s := { s with bus := {} }) (e := errs.toNat) h4 (by omega) hst hn fun e => he (BitVec.eq_of_toNat_eq e)
  exact ⟨_, (exec_bitslip hruns).trans (congrArg Host.Outcome.next (laneControl_slip h4 (by rw [bit_toNat, h31]) (by rw [bit_toNat, h30])
    (by rw [bit_toNat, h29]) k3)), k1, k2⟩

/-- A control lane at its boundary. -/
def State.bounded (s : State) (l : Nat) : State := ((s.put (LANE.ALIGNED l) true).put (LANE.ST_ALIGNED l) true).wr (LANE.SLIPS l) 0

omit hruns hst hal in
theorem bounded_shows (s : State) (l : Nat) : (s.bounded l).on (LANE.ALIGNED l) = true ∧ (s.bounded l).rd (LANE.SLIPS l) = 0
    ∧ (s.bounded l).rd (LANE.STATE l) = s.rd (LANE.STATE l) ∧ (s.bounded l).lane l = s.lane l := by
  refine ⟨?_, State.rd_wr_self _ _ _, ?_, rfl⟩
  · refine (State.on_wr_ne _ _ _ _ (by simp only [LANE.ALIGNED, LANE.SLIPS, fld_key]; omega)).trans
      ((State.on_put_ne _ _ _ _ (by simp only [LANE.ALIGNED, LANE.ST_ALIGNED, fld_key]; omega)).trans ?_)
    exact State.on_put_self _ _ _ Nat.one_pos
  · refine (((KeepsRegs.refl [(LANE.ALIGNED l).key, (LANE.ST_ALIGNED l).key, (LANE.SLIPS l).key] s).put (LANE.ALIGNED l) true (by simp)).put
      (LANE.ST_ALIGNED l) true (by simp)).wr (LANE.SLIPS l) 0 (by simp) _ ?_
    simp only [List.mem_cons, List.not_mem_nil, or_false, LANE.STATE, LANE.ALIGNED, LANE.ST_ALIGNED, LANE.SLIPS, fld_key]
    omega

omit hruns hst hal in
theorem bounded_locks (hl : l < 6) (hst : s.rd (LANE.STATE l) = 1) : ((s.bounded l).laneLocked l).rd (LANE.STATE l)
      = (if (s.lane l).relock then 3 else 2) ∧ ((s.bounded l).laneLocked l).on (LANE.ALIGNED l) = true
    ∧ ((s.bounded l).laneLocked l).rd (LANE.SLIPS l) = 0 := by
  obtain ⟨h1, h2, h3, h4⟩ := bounded_shows s l
  obtain ⟨k1, k2⟩ := state_bounds l hl
  rw [← h4]
  generalize s.bounded l = u at *
  cases hre : (u.lane l).relock with
  | true =>
    rw [laneLocked_relock hre]
    exact ⟨(relocked_shows u l).1, (congrArg (· != 0) (setLaneState_rd k1)).trans h1, (setLaneState_rd k2).trans h2⟩
  | false =>
    rw [laneLocked_found hre (by omega)]
    exact ⟨(foundLock_shows u l).1, (congrArg (· != 0) (setLaneState_rd k1)).trans h1, (setLaneState_rd k2).trans h2⟩

theorem aligned_locks (hcdr : s.on (LANE.CDR_LOCK (4 + ctl)) = true) (h31 : value.getLsbD 31 = false) (h30 : value.getLsbD 30 = false)
    (h29 : value.getLsbD 29 = true) : ∃ t, exec (.aligned path ctl value) s = .next t
      ∧ t.rd (LANE.STATE (4 + ctl)) = (if (s.lane (4 + ctl)).relock then 3 else 2) ∧ t.on (LANE.ALIGNED (4 + ctl)) = true
      ∧ t.rd (LANE.SLIPS (4 + ctl)) = 0 := by
  refine ⟨_, (exec_aligned hruns h30).trans (congrArg Host.Outcome.next ?_), bounded_locks (s := { s with bus := {} }) (by omega) hst⟩
  have hgo : (true && decide (({ s with bus := {} } : State).laneState (4 + ctl) = lsLock) && ({ s with bus := {} } : State).on (LANE.CDR_LOCK (4 + ctl)))
      = true := by
    rw [State.laneState]
    rw [show ({ s with bus := {} } : State).rd (LANE.STATE (4 + ctl)) = lsLock from hst,
      show ({ s with bus := {} } : State).on (LANE.CDR_LOCK (4 + ctl)) = true from hcdr]
    decide
  unfold State.laneControl
  rw [bit_toNat, bit_toNat, bit_toNat, h31, h30, h29, isData_ge (Nat.le_add_right 4 ctl), if_neg Bool.false_ne_true]
  dsimp only
  rw [if_neg Bool.false_ne_true, if_neg Bool.false_ne_true,
    show ({ s with bus := {} } : State).on (LANE.ALIGNED (4 + ctl)) = false from hal]
  exact (if_pos rfl).trans (if_pos hgo)

omit hst hal in
theorem cdrLock_shows {errs : BitVec 16} (hup : s.mayComeUp (4 + ctl) = true) (hst : s.rd (LANE.STATE (4 + ctl)) ≤ 1) :
    ∃ t, exec (.cdrLock ctl errs) s = .next t ∧ t.rd (LANE.STATE (4 + ctl)) = 1 ∧ t.on (LANE.CDR_LOCK (4 + ctl)) = true
      ∧ t.rd (LANE.HDR_ERR (4 + ctl)) = errs.toNat := by
  have hk : KeepsRegs [(LANE.CDR_LOCK (4 + ctl)).key, (LANE.HDR_ERR (4 + ctl)).key] s ((s.put (LANE.CDR_LOCK (4 + ctl)) true).wr
      (LANE.HDR_ERR (4 + ctl)) errs.toNat) := ((KeepsRegs.refl _ s).put _ _ (by simp)).wr _ _ (by simp)
  have hstate : ((s.put (LANE.CDR_LOCK (4 + ctl)) true).wr (LANE.HDR_ERR (4 + ctl)) errs.toNat).rd (LANE.STATE (4 + ctl)) = s.rd (LANE.STATE (4 + ctl)) := by
    refine hk _ ?_
    simp only [List.mem_cons, List.not_mem_nil, or_false, LANE.STATE, LANE.CDR_LOCK, LANE.HDR_ERR, fld_key]
    omega
  have hcdr : ((s.put (LANE.CDR_LOCK (4 + ctl)) true).wr (LANE.HDR_ERR (4 + ctl)) errs.toNat).on (LANE.CDR_LOCK (4 + ctl)) = true :=
    (State.on_wr_ne _ _ _ _ (by simp only [LANE.CDR_LOCK, LANE.HDR_ERR, fld_key]; omega)).trans (State.on_put_self _ _ _ Nat.one_pos)
  have hhdr : ((s.put (LANE.CDR_LOCK (4 + ctl)) true).wr (LANE.HDR_ERR (4 + ctl)) errs.toNat).rd (LANE.HDR_ERR (4 + ctl)) = errs.toNat :=
    (State.rd_wr_self _ _ _).trans (Nat.mod_eq_of_lt errs.isLt)
  refine ⟨_, congrArg Host.Outcome.next (if_neg fun h => ?_), ?_⟩
  · rw [Bool.or_eq_true, hup, decide_eq_true_eq, State.laneState] at h
    exact h.elim (absurd · Bool.false_ne_true) (Nat.not_lt.mpr hst)
  · generalize (s.put (LANE.CDR_LOCK (4 + ctl)) true).wr (LANE.HDR_ERR (4 + ctl)) errs.toNat = u at *
    split
    · have happ : ∀ c : Fin 2, (LANE.CDR_LOCK (4 + c)).key ∉ (LANE.STATE (4 + c)).key :: stateKeysOf (4 + c)
          ∧ (LANE.HDR_ERR (4 + c)).key ∉ (LANE.STATE (4 + c)).key :: stateKeysOf (4 + c) := by decide
      exact ⟨setLaneState_state u _ lsLock, (congrArg (· != 0) (setLaneState_rd (happ ctl).1)).trans hcdr, (setLaneState_rd (happ ctl).2).trans hhdr⟩
    · next h =>
      have hne : s.rd (LANE.STATE (4 + ctl)) ≠ 0 := h
      exact ⟨hstate.trans (by omega), hcdr, hhdr⟩

omit hal in
theorem cdrTimeout_shows (hcdr : s.on (LANE.CDR_LOCK (4 + ctl)) = false) : ∃ t, exec (.cdrLockTimeout ctl) s = .next t
    ∧ t.rd (LANE.STATE (4 + ctl)) = 0 ∧ t.lane (4 + ctl) = {} := by
  refine ⟨_, congrArg Host.Outcome.next (if_pos ?_), laneDown_shows s _⟩
  rw [hruns, State.laneState, hst, hcdr]
  decide

end

end

end Sys2Proof.Machine
end

section
/-! PROOFS. Lanes of Yomos Link: capabilities, ENABLE and RETRAIN_REQ (R288 to R290, R297, R306). -/
namespace Sys2Proof.Machine
open Sys2Proof

section
variable {s : State} {lane : Fin 6} {l : Nat}

/-! ### Capabilities (R289, R290) -/

/-- The partner's capabilities are taken. -/
def State.capsTaken (s : State) (l : Nat) (content : BitVec 48) : State :=
  State.startWindow ((s.setLane l { s.lane l with caps := some content, comingUp := true, badVersion := false }).setLaneState l lsTrain) l

/-- The partner's version is refused. -/
def State.capsRefused (s : State) (l : Nat) : State := (s.setLane l { s.lane l with badVersion := true }).fault (pLane l) 1

theorem capsTaken_shows (s : State) (hl : l < 6) (content : BitVec 48) : (s.capsTaken l content).rd (LANE.STATE l) = 3
    ∧ ((s.capsTaken l content).lane l).caps = some content := by
  have hst := setLaneState_state (s.setLane l { s.lane l with caps := some content, comingUp := true, badVersion := false }) l lsTrain
  have hlane := (setLaneState_lane (s.setLane l { s.lane l with caps := some content, comingUp := true, badVersion := false }) l lsTrain l).trans
    (State.lane_set s l _)
  unfold State.capsTaken
  generalize (s.setLane l { s.lane l with caps := some content, comingUp := true, badVersion := false }).setLaneState l lsTrain = u at *
  refine ⟨(startWindow_rd hl (by simp)).trans hst, ?_⟩
  rw [startWindow_lane, hlane]
  rfl

/-- A field beside those that a lane's training shows keeps its value. -/
theorem capsTaken_rd {f : Fld} (content : BitVec 48) (hstate : f.key ∉ (LANE.STATE l).key :: stateKeysOf l) (hwin : f.key ∉ windowKeys l) :
    (s.capsTaken l content).rd f = s.rd f := by
  have hst := setLaneState_rd (s := s.setLane l { s.lane l with caps := some content, comingUp := true, badVersion := false }) (st := lsTrain) hstate
  unfold State.capsTaken
  generalize (s.setLane l { s.lane l with caps := some content, comingUp := true, badVersion := false }).setLaneState l lsTrain = u at *
  exact (startWindow_keeps u l f hwin).trans hst

theorem capsRefused_shows (s : State) (hl : l < 6) : (s.capsRefused l).rd (LANE.STATE l) = s.rd (LANE.STATE l)
    ∧ (s.capsRefused l).on (C.FAULT (pLane l) 1) = true := by
  obtain ⟨h1, h2⟩ := laneFault_shows (s.setLane l { s.lane l with badVersion := true }) hl (b := 1) (by decide)
  exact ⟨h2, h1⟩

/-- No reserved bit of the partner's CAPS is set. -/
def PlainCaps (c : Nat) : Prop := c / 2 ^ 7 % 2 = 0 ∧ c / 2 ^ 22 % 2 ^ 2 = 0 ∧ c / 2 ^ 26 = 0

theorem capsReserved_iff (content : BitVec 48) : capsReserved content.toNat = false ↔ PlainCaps content.toNat := by
  have hlt : content.toNat / 2 ^ 26 % 2 ^ 22 = content.toNat / 2 ^ 26 := Nat.mod_eq_of_lt (by have := content.isLt; omega)
  unfold capsReserved bits PlainCaps
  rw [hlt, Bool.or_eq_false_iff, Bool.or_eq_false_iff, bne_eq_false_iff_eq, bne_eq_false_iff_eq, bne_eq_false_iff_eq, and_assoc]
  simp only [pow_one]

section
variable {content : BitVec 48} (hruns : s.runs (pLane lane) = true) (hst : s.rd (LANE.STATE lane) = 2)
include hruns hst

/-- The device judges CAPS that arrive. -/
theorem exec_caps : exec (.capsReceived lane content) s = .next (if capsReserved content.toNat then s.blockErrors lane 1
    else if isData lane then
      if bits content.toNat 24 2 != s.version then s.capsRefused lane
      else ((s.wr L0.B_VERSION s.version).raise (LANE.INT_VERSION lane)).capsTaken lane content
    else if min (s.rd (CTL.VER_MAX (lane - 4))) (bits content.toNat 2 2) < max 1 (bits content.toNat 0 2) then s.capsRefused lane
      else ((s.wr (CTL.C_VERSION (lane - 4)) (min (s.rd (CTL.VER_MAX (lane - 4))) (bits content.toNat 2 2))).raise
        (LANE.INT_VERSION lane)).capsTaken lane content) := by
  refine congrArg Host.Outcome.next ((if_neg ?_).trans rfl)
  rw [hruns, State.laneState, hst]
  decide

theorem caps_reserved (h : ¬PlainCaps content.toNat) : ∃ t, exec (.capsReceived lane content) s = .next t ∧ t.rd (LANE.STATE lane) = 2
    ∧ t.rd (LANE.BLOCK_ERR lane) = min (s.rd (LANE.BLOCK_ERR lane) + 1) 65535 := by
  have hres : capsReserved content.toNat = true := by
    rw [← Bool.not_eq_false, capsReserved_iff]
    exact h
  refine ⟨_, (exec_caps hruns hst).trans (congrArg Host.Outcome.next ((if_pos hres).trans (blockErrors_calm (.inr (.inr (by omega)))))), ?_,
    unlockCount_next s (LANE.BLOCK_ERR lane) rfl⟩
  exact (State.rd_wr_ne s (LANE.BLOCK_ERR lane) (LANE.STATE lane) _ (by simp only [LANE.STATE, LANE.BLOCK_ERR, fld_key]; omega)).trans hst

omit hruns hst in
theorem version_apart : ∀ l < 6, (LANE.INT_VERSION l).key ∉ (LANE.STATE l).key :: stateKeysOf l ∧ (LANE.INT_VERSION l).key ∉ windowKeys l
    ∧ L0.B_VERSION.key ∉ (LANE.STATE l).key :: stateKeysOf l ∧ L0.B_VERSION.key ∉ windowKeys l
    ∧ (CTL.C_VERSION (l - 4)).key ∉ (LANE.STATE l).key :: stateKeysOf l ∧ (CTL.C_VERSION (l - 4)).key ∉ windowKeys l
    ∧ (LANE.INT_VERSION l).key ≠ L0.B_VERSION.key ∧ (LANE.INT_VERSION l).key ≠ (CTL.C_VERSION (l - 4)).key := by decide +kernel

variable (hplain : PlainCaps content.toNat)
include hplain

theorem data_caps (h4 : (lane : Nat) < 4) (hv : content.toNat / 2 ^ 24 % 2 ^ 2 = s.version) : ∃ t, exec (.capsReceived lane content) s = .next t
    ∧ t.rd (LANE.STATE lane) = 3 ∧ t.rd L0.B_VERSION = s.version ∧ t.on (LANE.INT_VERSION lane) = true ∧ (t.lane lane).caps = some content := by
  obtain ⟨k1, k2, k3, k4, -, -, k7, -⟩ := version_apart lane lane.isLt
  obtain ⟨h1, h2⟩ := capsTaken_shows ((s.wr L0.B_VERSION s.version).raise (LANE.INT_VERSION lane)) lane.isLt content
  refine ⟨_, (exec_caps hruns hst).trans (congrArg Host.Outcome.next ((if_neg (by rw [(capsReserved_iff content).mpr hplain]; decide)).trans
    ((if_pos (isData_lt h4)).trans (if_neg ?_)))), h1, ?_, ?_, h2⟩
  · rw [bits, hv, bne_self_eq_false]
    exact Bool.false_ne_true
  · refine (capsTaken_rd content k3 k4).trans ((State.rd_put_ne _ _ _ _ k7.symm).trans ((State.rd_wr_self s L0.B_VERSION _).trans ?_))
    rw [← hv]
    exact Nat.mod_mod _ _
  · exact (congrArg (· != 0) (capsTaken_rd content k1 k2)).trans (State.on_put_self _ _ _ Nat.one_pos)

theorem data_caps_refused (h4 : (lane : Nat) < 4) (hv : content.toNat / 2 ^ 24 % 2 ^ 2 ≠ s.version) :
    ∃ t, exec (.capsReceived lane content) s = .next t ∧ t.rd (LANE.STATE lane) = 2 ∧ t.on (C.FAULT (pLane lane) 1) = true := by
  obtain ⟨h1, h2⟩ := capsRefused_shows s lane.isLt
  refine ⟨_, (exec_caps hruns hst).trans (congrArg Host.Outcome.next ((if_neg (by rw [(capsReserved_iff content).mpr hplain]; decide)).trans
    ((if_pos (isData_lt h4)).trans (if_pos ?_)))), h1.trans hst, h2⟩
  rw [bits]
  exact bne_iff_ne.mpr hv

theorem control_caps (h4 : 4 ≤ (lane : Nat)) (h1 : 1 ≤ min (s.rd (CTL.VER_MAX (lane - 4))) (content.toNat / 2 ^ 2 % 2 ^ 2))
    (h2 : content.toNat % 2 ^ 2 ≤ min (s.rd (CTL.VER_MAX (lane - 4))) (content.toNat / 2 ^ 2 % 2 ^ 2)) :
    ∃ t, exec (.capsReceived lane content) s = .next t ∧ t.rd (LANE.STATE lane) = 3
      ∧ t.rd (CTL.C_VERSION (lane - 4)) = min (s.rd (CTL.VER_MAX (lane - 4))) (content.toNat / 2 ^ 2 % 2 ^ 2)
      ∧ t.on (LANE.INT_VERSION lane) = true ∧ (t.lane lane).caps = some content := by
  obtain ⟨k1, k2, -, -, k5, k6, -, k8⟩ := version_apart lane lane.isLt
  obtain ⟨g1, g2⟩ := capsTaken_shows ((s.wr (CTL.C_VERSION (lane - 4)) (min (s.rd (CTL.VER_MAX (lane - 4))) (bits content.toNat 2 2))).raise
    (LANE.INT_VERSION lane)) lane.isLt content
  refine ⟨_, (exec_caps hruns hst).trans (congrArg Host.Outcome.next ((if_neg (by rw [(capsReserved_iff content).mpr hplain]; decide)).trans
    ((if_neg (by rw [isData_ge h4]; decide)).trans (if_neg ?_)))), g1, ?_, ?_, g2⟩
  · rw [bits, bits, pow_zero, Nat.div_one]
    omega
  · refine (capsTaken_rd content k5 k6).trans ((State.rd_put_ne _ _ _ _ k8.symm).trans ((State.rd_wr_self s (CTL.C_VERSION (lane - 4)) _).trans ?_))
    refine Nat.mod_eq_of_lt (lt_of_le_of_lt (Nat.min_le_right _ _) ?_)
    exact Nat.mod_lt _ (by decide)
  · exact (congrArg (· != 0) (capsTaken_rd content k1 k2)).trans (State.on_put_self _ _ _ Nat.one_pos)

theorem control_caps_refused (h4 : 4 ≤ (lane : Nat)) (h : min (s.rd (CTL.VER_MAX (lane - 4))) (content.toNat / 2 ^ 2 % 2 ^ 2) < 1
      ∨ min (s.rd (CTL.VER_MAX (lane - 4))) (content.toNat / 2 ^ 2 % 2 ^ 2) < content.toNat % 2 ^ 2) :
    ∃ t, exec (.capsReceived lane content) s = .next t ∧ t.rd (LANE.STATE lane) = 2 ∧ t.on (C.FAULT (pLane lane) 1) = true := by
  obtain ⟨h1, h2⟩ := capsRefused_shows s lane.isLt
  refine ⟨_, (exec_caps hruns hst).trans (congrArg Host.Outcome.next ((if_neg (by rw [(capsReserved_iff content).mpr hplain]; decide)).trans
    ((if_neg (by rw [isData_ge h4]; decide)).trans (if_pos ?_)))), h1.trans hst, h2⟩
  rw [bits, bits, pow_zero, Nat.div_one]
  omega

end

theorem exec_capsSend (hruns : s.runs (pLane lane) = true) (hst : s.rd (LANE.STATE lane) = 2) :
    exec (.capsSend lane) s = .next { s with lnk := { s.lnk with sent := [((lane : Nat), controlBlock 0x66 (s.capsContent lane))] } } := by
  refine congrArg Host.Outcome.next ((if_pos ?_).trans rfl)
  rw [hruns, State.laneState, hst]
  decide

theorem noPartner_shows (hruns : s.runs (pLane lane) = true) (hen : s.on (LANE.ENABLE lane) = true) (hst : s.rd (LANE.STATE lane) = 0)
    (hlock : (s.lane lane).locked = false) : ∃ t, exec (.noPartnerTimeout lane) s = .next t ∧ t.on (C.FAULT (pLane lane) 4) = true
      ∧ t.rd (LANE.STATE lane) = 0 ∧ t.lnk = (s.setLane lane { s.lane lane with noPartner := true }).lnk := by
  obtain ⟨h1, h2⟩ := laneFault_shows (s.setLane lane { s.lane lane with noPartner := true }) lane.isLt (b := 4) (by decide)
  refine ⟨_, congrArg Host.Outcome.next (if_pos ?_), h1, h2.trans hst, fault_lnk _ _ _⟩
  rw [hruns, hen, State.laneState, hst, hlock]
  decide

/-! ### A lane that failed trains again -/

theorem laneRetry_shows {n : Fin 4} (hruns : s.runs (pLane n) = true) (hen : s.on (LANE.ENABLE n) = true) (hst : s.rd (LANE.STATE n) = 6)
    (hre : (s.lane n).retraining = false) (hdown : s.lnk.bundleDown = false) : ∃ t, exec (.laneRetry n) s = .next t ∧ t.rd (LANE.STATE n) = 6
      ∧ t.rd (LANE.RATE n) = s.rd L0.B_RATE % 2 ^ 3 ∧ (t.lane n).retraining = true
      ∧ t.rd (LANE.RETRAINS n) = min (s.rd (LANE.RETRAINS n) + 1) 65535 := by
  obtain ⟨h1, h2, -, h4, h5⟩ := retrainLane_shows s (l := n) (by omega) lsRemoved (s.rd L0.B_RATE)
  refine ⟨_, congrArg Host.Outcome.next (if_pos ?_), h1, h2, by rw [h5]; rfl, h4⟩
  rw [hruns, hen, State.laneState, hst, hre, hdown]
  decide

/-! ### RETRAIN_REQ (R297) -/

/-- A lane of the request leaves the stripe. -/
def State.asked (s : State) (mask l : Nat) : State := if bit mask l then s.leaveStripe l else s

theorem exec_retrainReq (mask : BitVec 4) : exec (.retrainReq mask) s = .next (dataLanes.foldl (fun s l => s.asked mask.toNat l) s) := rfl

/-- Only the lanes' working state has changed. -/
def LanesOnly (s t : State) : Prop := t = { s with lnk := { s.lnk with lanes := t.lnk.lanes } }

theorem LanesOnly.trans {t u : State} (h : LanesOnly s t) (h' : LanesOnly t u) : LanesOnly s u := by
  unfold LanesOnly at h'
  rw [h] at h'
  exact h'

theorem LanesOnly.rd {t : State} (h : LanesOnly s t) (f : Fld) : t.rd f = s.rd f := by rw [h]; rfl

theorem LanesOnly.version {t : State} (h : LanesOnly s t) : t.version = s.version := by rw [h]; rfl

theorem asked_three (hv : s.version = 3) (mask l : Nat) : LanesOnly s (s.asked mask l)
    ∧ ((s.asked mask l).lane l).leaving = ((s.lane l).leaving || (bit mask l && decide (s.rd (LANE.STATE l) = 5)))
    ∧ ∀ n, n ≠ l → (s.asked mask l).lane n = s.lane n := by
  unfold State.asked
  cases hb : bit mask l with
  | false => exact ⟨rfl, (Bool.or_false _).symm, fun _ _ => rfl⟩
  | true =>
    rw [if_pos rfl]
    by_cases hst : s.rd (LANE.STATE l) = 5
    · rw [leaveStripe_three hst hv]
      refine ⟨rfl, ?_, fun n hn => State.lane_set_ne s _ hn⟩
      rw [State.lane_set, hst, decide_eq_true rfl, Bool.and_self, Bool.or_true]
    · rw [leaveStripe_still hst, decide_eq_false hst]
      exact ⟨rfl, (Bool.or_false _).symm, fun _ _ => rfl⟩

/-- Under version 3 the request's lanes are marked to leave. -/
theorem asked_foldl (mask : Nat) : ∀ (ls : List Nat) (s : State), s.version = 3 → ls.Nodup →
    LanesOnly s (ls.foldl (fun s l => s.asked mask l) s)
      ∧ (∀ n ∈ ls, ((ls.foldl (fun s l => s.asked mask l) s).lane n).leaving
        = ((s.lane n).leaving || (bit mask n && decide (s.rd (LANE.STATE n) = 5))))
      ∧ ∀ n, n ∉ ls → (ls.foldl (fun s l => s.asked mask l) s).lane n = s.lane n
  | [], _, _, _ => ⟨rfl, fun _ h => absurd h List.not_mem_nil, fun _ _ => rfl⟩
  | m :: ls, s, hv, hnd => by
    obtain ⟨hm, hls⟩ := List.nodup_cons.mp hnd
    obtain ⟨h1, h2, h3⟩ := asked_three hv mask m
    obtain ⟨k1, k2, k3⟩ := asked_foldl mask ls (s.asked mask m) (h1.version.trans hv) hls
    refine ⟨h1.trans k1, fun n hn => ?_, fun n hn => ?_⟩
    · rcases List.mem_cons.mp hn with rfl | hn
      · exact (congrArg LaneState.leaving (k3 n hm)).trans h2
      · refine (k2 n hn).trans ?_
        rw [h3 n fun e => hm (e ▸ hn), h1.rd]
    · rw [List.mem_cons, not_or] at hn
      exact (k3 n hn.2).trans (h3 n hn.1)

/-- No data lane carries traffic. -/
def NoneActive (s : State) : Prop := ∀ n < 4, s.rd (LANE.STATE n) ≠ 5

theorem trainAgain_inactive (s : State) (hl : l < 6) : (s.trainAgain l).rd (LANE.STATE l) ≠ 5 := by
  unfold State.trainAgain
  split
  · rw [(retrainLane_shows s hl lsTrain _).1]
    decide
  · rw [(laneDown_shows s l).1]
    decide

theorem bundleTrained_inactive (s : State) : NoneActive s.bundleTrained := by
  intro n hn
  have hset := (setBundle_shows (s.bundleLanes.foldl State.trainAgain s) false []).2.2.2 _ (setBundle_apart n (by omega) (LANE.STATE n) (by simp))
  have hdata : n ∈ dataLanes := (by decide : ∀ n < 4, n ∈ dataLanes) n hn
  have hnodup : s.bundleLanes.Nodup := List.Nodup.filter _ (by decide)
  have hsix : ∀ m ∈ s.bundleLanes, m < 6 := fun m hm => (by decide : ∀ m ∈ dataLanes, m < 6) m (List.mem_of_mem_filter hm)
  show (State.setBundle (s.bundleLanes.foldl State.trainAgain s) false []).rd (LANE.STATE n) ≠ 5
  rw [hset]
  have hkeep (t : State) (m : Nat) (hne : m ≠ n) : (t.trainAgain m).rd (LANE.STATE n) = t.rd (LANE.STATE n) :=
    (trainAgain_only t m).regs _ (lanes_apart (show n < 6 by omega) (Ne.symm hne) _ (by simp))
  by_cases hmem : n ∈ s.bundleLanes
  · refine foldl_reach_once (P := fun t => t.rd (LANE.STATE n) ≠ 5) (Q := fun _ => True) hmem hnodup (fun _ _ _ _ h => h)
      (fun t _ => trainAgain_inactive t (by omega)) (fun t m _ hne hp => ?_) s trivial
    rw [hkeep t m hne]
    exact hp
  · have hsame := foldl_keeps (fun t => t.rd (LANE.STATE n)) (f := State.trainAgain) (l := s.bundleLanes)
      (fun t m hm => hkeep t m fun e => hmem (e ▸ hm)) s
    intro h
    refine hmem (List.mem_filter.mpr ⟨hdata, ?_⟩)
    rw [State.laneState, ← hsame, h]
    decide

theorem lanesDown_state (s : State) {n : Nat} (hn : n < 4) (h : s.rd (LANE.STATE n) = 0) : s.bundleDown.rd (LANE.STATE n) = 0 := by
  have hdown : s.lanesDown.rd (LANE.STATE n) = 0 := by
    refine List.foldlRecOn (motive := fun t : State => t.rd (LANE.STATE n) = 0) dataLanes _ h fun t ht m _ => ?_
    split
    · exact ht
    · by_cases e : n = m
      · rw [e]
        exact (laneDown_shows t m).1
      · exact ((laneDown_only t m).regs _ (lanes_apart (show n < 6 by omega) e _ (by simp))).trans ht
  rw [bundleDown_eq]
  generalize s.lanesDown = d at *
  have hset := (setBundle_shows d.linkDown false []).2.2.2 _ (setBundle_apart n (by omega) (LANE.STATE n) (by simp))
  have hlink : d.linkDown.rd (LANE.STATE n) = d.rd (LANE.STATE n) := rfl
  generalize d.linkDown.setBundle false [] = u at *
  have hk : KeepsRegs [L0.B_VERSION.key, L0.CREDIT_PTS.key, L0.CREDIT_RAW.key, L0.SEQ_NEXT.key, L0.SEQ_ACKED.key] u (u.wr L0.B_VERSION 0).showCredit.showSeq :=
    (((((KeepsRegs.refl _ u).wr L0.B_VERSION 0 (by decide)).wr L0.CREDIT_PTS _ (by decide)).wr L0.CREDIT_RAW _ (by decide)).wr L0.SEQ_NEXT _
      (by decide)).wr L0.SEQ_ACKED _ (by decide)
  have hne : ∀ n < 4, (LANE.STATE n).key ∉ [L0.B_VERSION.key, L0.CREDIT_PTS.key, L0.CREDIT_RAW.key, L0.SEQ_NEXT.key, L0.SEQ_ACKED.key] := by decide
  exact (hk _ (hne n hn)).trans (hset.trans (hlink.trans hdown))

theorem lanesAllDown (s : State) {n : Nat} (hn : n < 4) : (dataLanes.foldl (fun s l => s.laneDown l) s).rd (LANE.STATE n) = 0 := by
  refine foldl_reach_once (P := fun t => t.rd (LANE.STATE n) = 0) (Q := fun _ => True) ((by decide : ∀ n < 4, n ∈ dataLanes) n hn) (by decide)
    (fun _ _ _ _ h => h) (fun t _ => (laneDown_shows t n).1) (fun t m _ hne hp => ?_) s trivial
  exact ((laneDown_only t m).regs _ (lanes_apart (show n < 6 by omega) (Ne.symm hne) _ (by simp))).trans hp

/-- With no lane left every data lane goes DOWN; else nothing changes. -/
theorem noneLeft_cases (s : State) : s.noneLeft = s ∨ ∀ n < 4, s.noneLeft.rd (LANE.STATE n) = 0 := by
  unfold State.noneLeft
  split
  · exact .inr fun n hn => lanesDown_state _ hn (lanesAllDown s hn)
  · exact .inl rfl

theorem retrainBundle_inactive (s : State) : NoneActive s.retrainBundle := by
  have h := bundleTrained_inactive s
  rw [retrainBundle_eq]
  split
  · exact h
  · rcases noneLeft_cases s.bundleTrained with e | e
    · rw [e]
      exact h
    · intro n hn
      rw [e n hn]
      decide

/-- The first striped lane that the request names retrains the bundle; the others then carry no traffic. -/
theorem retrainReq_older {mask : BitVec 4} (hv : s.version ≠ 3) (hex : ∃ n < 4, mask.getLsbD n = true ∧ s.rd (LANE.STATE n) = 5) :
    ∃ t, exec (.retrainReq mask) s = .next t ∧ Retrains s t := by
  obtain ⟨n, hn, hbit, hst⟩ := hex
  have hstep (t : State) (m : Nat) (hm : m ∈ dataLanes) (ht : t = s ∨ t = s.retrainBundle) :
      t.asked mask.toNat m = t ∨ t.asked mask.toNat m = s.retrainBundle := by
    have hm4 : m < 4 := (by decide : ∀ m ∈ dataLanes, m < 4) m hm
    unfold State.asked
    split
    · rcases ht with rfl | rfl
      · by_cases hs : t.rd (LANE.STATE m) = 5
        · exact .inr (leaveStripe_older hs hv)
        · exact .inl (leaveStripe_still hs)
      · exact .inl (leaveStripe_still (retrainBundle_inactive s m hm4))
    · exact .inl rfl
  have hall : dataLanes.foldl (fun s l => s.asked mask.toNat l) s = s.retrainBundle := by
    refine foldl_reach_once (P := fun t => t = s.retrainBundle) (Q := fun t => t = s ∨ t = s.retrainBundle)
      ((by decide : ∀ n < 4, n ∈ dataLanes) n hn) (by decide) (fun t m hm _ ht => ?_) (fun t ht => ?_) (fun t m hm _ ht => ?_) s (.inl rfl)
    · rcases hstep t m hm ht with e | e
      · rw [e]
        exact ht
      · exact .inr e
    · rcases ht with rfl | rfl
      · exact (if_pos (by rw [bit_toNat, hbit])).trans (leaveStripe_older hst hv)
      · unfold State.asked
        rw [leaveStripe_still (retrainBundle_inactive s n hn)]
        exact ite_self _
    · rcases hstep t m hm (.inr ht) with e | e
      · rw [e]
        exact ht
      · exact e
  exact ⟨_, (exec_retrainReq mask).trans (congrArg Host.Outcome.next hall), retrainBundle_retrains s⟩

theorem retrainReq_three {mask : BitVec 4} (hv : s.version = 3) : ∃ t, exec (.retrainReq mask) s = .next t
    ∧ t = { s with lnk := { s.lnk with lanes := t.lnk.lanes } }
    ∧ (∀ n < 4, (t.lane n).leaving = ((s.lane n).leaving || (mask.getLsbD n && decide (s.rd (LANE.STATE n) = 5))))
    ∧ ∀ n, 4 ≤ n → t.lane n = s.lane n := by
  obtain ⟨h1, h2, h3⟩ := asked_foldl mask.toNat dataLanes s hv (by decide)
  refine ⟨_, exec_retrainReq mask, h1, fun n hn => ?_, fun n hn => h3 n fun hm => ?_⟩
  · refine (h2 n ((by decide : ∀ n < 4, n ∈ dataLanes) n hn)).trans ?_
    rw [bit_toNat]
  · have := (by decide : ∀ m ∈ dataLanes, m < 4) n hm
    omega

end

end Sys2Proof.Machine
end

section
/-! PROOFS. A write of a lane's first word on Yomos Link (R13, R267, R293, R306). -/
namespace Sys2Proof.Machine
open Sys2Proof

section
variable {s t u : State} {l : Nat}

/-! ### What the bundle's stepping keeps -/

/-- The lanes' ENABLE bits and every written value stay. -/
structure EnableFrame (s t : State) : Prop where
  enable : ∀ n < 6, t.rd (LANE.ENABLE n) = s.rd (LANE.ENABLE n)
  shadow : t.regs.shadow = s.regs.shadow

theorem EnableFrame.refl (s : State) : EnableFrame s s := ⟨fun _ _ => rfl, rfl⟩

theorem EnableFrame.trans (h : EnableFrame s t) (h' : EnableFrame t u) : EnableFrame s u :=
  ⟨fun n hn => (h'.enable n hn).trans (h.enable n hn), h'.shadow.trans h.shadow⟩

theorem EnableFrame.foldl {α : Type} {f : State → α → State} {ls : List α} (h : ∀ v, ∀ a ∈ ls, EnableFrame v (f v a)) (s : State) :
    EnableFrame s (ls.foldl f s) := List.foldlRecOn (motive := fun v => EnableFrame s v) ls f (EnableFrame.refl s) fun v hv a ha => hv.trans (h v a ha)

theorem LaneOnly.enableFrame (h : LaneOnly l s t) (hl : l < 6) : EnableFrame s t := by
  refine ⟨fun n hn => h.regs _ ?_, h.shadow⟩
  by_cases e : n = l
  · rw [e]
    exact (bundle_apart l hl).1
  · exact lanes_apart hn e _ (by simp)

theorem enable_bundle : ∀ n < 6, (LANE.ENABLE n).key ∉ bundleKeys := by decide +kernel

theorem BundleOnly.enableFrame (h : BundleOnly s t) : EnableFrame s t := ⟨fun n hn => h.regs _ (enable_bundle n hn), h.shadow⟩

theorem EnableFrame.wr (f : Fld) (v : Nat) (hf : ∀ n < 6, (LANE.ENABLE n).key ≠ f.key) : EnableFrame s (s.wr f v) :=
  ⟨fun n hn => State.rd_wr_ne s _ _ _ (hf n hn), rfl⟩

theorem deskew_enable (s : State) (hl : l < 6) : EnableFrame s (s.deskew l) := by
  have h : LaneOnly l s (s.desked l) := (setLaneState_only l lsDeskew s).setLane _
  rw [deskew_eq]
  generalize s.desked l = v at *
  split
  · have h2 := setLaneState_only l lsActive v
    generalize v.setLaneState l lsActive = w at *
    have hb : BundleOnly w (State.setBundle { w with lnk.bundleDown := false } true [l]) :=
      setBundle_only ((BundleOnly.refl w).of_same (u := { w with lnk.bundleDown := false }) rfl rfl rfl) true [l]
    exact ((h.trans h2).enableFrame hl).trans hb.enableFrame
  · exact h.enableFrame hl

theorem stepping_mem {m : Nat} (h : m ∈ s.stepping) : m < 6 ∧ s.rd (LANE.STATE m) = 3 := by
  have h1 := List.mem_of_mem_filter h
  exact ⟨(by decide : ∀ m ∈ dataLanes, m < 6) m (List.mem_of_mem_filter h1), of_decide_eq_true (List.mem_filter.mp h1).2⟩

/-- What a step of the lanes together does. -/
theorem stepTogether_cases (s : State) : ∃ (ls : List Nat) (r : Nat), (∀ m ∈ ls, m < 6 ∧ s.rd (LANE.STATE m) = 3)
    ∧ (s.stepTogether = s ∨ s.stepTogether = ls.foldl (fun s l => s.takeRate l (r + 1)) s
      ∨ s.stepTogether = ls.foldl State.deskew (s.wr L0.B_RATE r)) := by
  refine ⟨s.stepping, (s.stepping.map s.laneRate).foldl max 0, fun m hm => stepping_mem hm, ?_⟩
  unfold State.stepTogether
  extract_lets ls r
  split
  · exact .inl rfl
  · split
    · exact .inr (.inl rfl)
    · exact .inr (.inr rfl)

theorem stepTogether_enable (s : State) : EnableFrame s s.stepTogether := by
  obtain ⟨ls, r, hls, h⟩ := stepTogether_cases s
  rcases h with h | h | h <;> rw [h]
  · exact EnableFrame.refl s
  · exact EnableFrame.foldl (fun v m hm => (takeRate_only v m _).enableFrame (hls m hm).1) s
  · exact (EnableFrame.wr L0.B_RATE r (by decide)).trans (EnableFrame.foldl (fun v m hm => deskew_enable v (hls m hm).1) _)

theorem deskew_state (s : State) {m n : Nat} (hn : n < 4) (hne : n ≠ m) : (s.deskew m).rd (LANE.STATE n) = s.rd (LANE.STATE n) := by
  have hapart := lanes_apart (l := m) (show n < 6 by omega) hne (LANE.STATE n) (by simp)
  have h : (s.desked m).rd (LANE.STATE n) = s.rd (LANE.STATE n) := ((setLaneState_only m lsDeskew s).setLane _).regs _ hapart
  rw [deskew_eq]
  generalize s.desked m = v at *
  split
  · have h2 := (setLaneState_only m lsActive v).regs _ hapart
    generalize v.setLaneState m lsActive = w at *
    have hset := (setBundle_shows { w with lnk.bundleDown := false } true [m]).2.2.2 _ (setBundle_apart n (by omega) (LANE.STATE n) (by simp))
    exact hset.trans (h2.trans h)
  · exact h

/-- A lane that does not train is no part of the step. -/
theorem stepTogether_state (s : State) {n : Nat} (hn : n < 4) (h3 : s.rd (LANE.STATE n) ≠ 3) : s.stepTogether.rd (LANE.STATE n) = s.rd (LANE.STATE n) := by
  obtain ⟨ls, r, hls, h⟩ := stepTogether_cases s
  have hne (m : Nat) (hm : m ∈ ls) : n ≠ m := fun e => h3 (e ▸ (hls m hm).2)
  rcases h with h | h | h <;> rw [h]
  · exact foldl_keeps (fun t => t.rd (LANE.STATE n))
      (fun t m hm => (takeRate_only t m (r + 1)).regs _ (lanes_apart (show n < 6 by omega) (hne m hm) _ (by simp))) s
  · exact (foldl_keeps (fun t => t.rd (LANE.STATE n)) (fun t m hm => deskew_state t hn (hne m hm)) _).trans
      (State.rd_wr_ne s _ _ _ ((by decide : ∀ n < 4, (LANE.STATE n).key ≠ L0.B_RATE.key) n hn))

theorem laneGone_enable (s : State) : EnableFrame s s.laneGone := by
  have h : EnableFrame s (if s.lnk.bundleDown then s else s.noneLeft) := by
    split
    · exact EnableFrame.refl s
    · exact (noneLeft_only (BundleOnly.refl s)).enableFrame
  exact h.trans (stepTogether_enable _)

theorem laneGone_state (s : State) {n : Nat} (hn : n < 4) (h : s.rd (LANE.STATE n) = 0) : s.laneGone.rd (LANE.STATE n) = 0 := by
  have h0 : (if s.lnk.bundleDown then s else s.noneLeft).rd (LANE.STATE n) = 0 := by
    split
    · exact h
    · rcases noneLeft_cases s with e | e
      · rw [e]
        exact h
      · exact e n hn
  exact (stepTogether_state _ hn (by rw [h0]; decide)).trans h0

theorem leaveStripe_enable (s : State) : EnableFrame s (s.leaveStripe l) := by
  unfold State.leaveStripe
  split
  · exact EnableFrame.refl s
  · split
    · exact ⟨fun _ _ => rfl, rfl⟩
    · exact (retrainBundle_only s).enableFrame

/-! ### ENABLE applies (R306) -/

/-- ENABLE as written is in force. -/
def State.enableTaken (s : State) (l : Nat) : State := s.applyLiveOf [LANE.ENABLE l]

theorem enableTaken_on (h : s.rdS (LANE.ENABLE l) < 2) : (s.enableTaken l).rd (LANE.ENABLE l) = s.rdS (LANE.ENABLE l) := by
  have hrd : (s.enableTaken l).rd (LANE.ENABLE l)
    = (copyFlds s.regs.shadow s.regs.cur ([LANE.ENABLE l].filter fun f => s.rdS f != s.rd f)).rd (LANE.ENABLE l) := rfl
  rw [hrd]
  by_cases e : s.rdS (LANE.ENABLE l) = s.rd (LANE.ENABLE l)
  · rw [List.filter_cons_of_neg (p := fun f => s.rdS f != s.rd f) (by rw [e, bne_self_eq_false]; exact Bool.false_ne_true)]
    exact e.symm
  · rw [List.filter_cons_of_pos (p := fun f => s.rdS f != s.rd f) (bne_iff_ne.mpr e)]
    exact (copyFlds_mem _ _ _ _ (by simp) (by simp)).trans (Nat.mod_eq_of_lt h)

theorem enableTaken_ne {f : Fld} (h : f.key ≠ (LANE.ENABLE l).key) : (s.enableTaken l).rd f = s.rd f := by
  refine copyFlds_ne _ _ _ _ fun g hg => ?_
  rw [List.mem_singleton.mp (List.mem_of_mem_filter hg)]
  exact h

/-- A lane that ENABLE stops. -/
def State.enableStopped (s : State) (l : Nat) : State :=
  if !isData l then s.laneDown l else if s.laneState l = lsActive then s.leaveStripe l else (s.laneDown l).laneGone

theorem applyEnable_eq (s : State) (l : Nat) : s.applyEnable l
    = if s.on (LANE.ENABLE l) && !(s.enableTaken l).on (LANE.ENABLE l) then (s.enableTaken l).enableStopped l else s.enableTaken l := rfl

theorem enableStopped_enable (s : State) (hl : l < 6) : EnableFrame s (s.enableStopped l) := by
  have h := (laneDown_only s l).enableFrame hl
  unfold State.enableStopped
  split
  · exact h
  · split
    · exact leaveStripe_enable s
    · exact h.trans (laneGone_enable _)

theorem enableStopped_down (h : 4 ≤ l ∨ s.rd (LANE.STATE l) ≠ 5) : (s.enableStopped l).rd (LANE.STATE l) = 0 := by
  have hdown := (laneDown_shows s l).1
  unfold State.enableStopped
  by_cases h4 : 4 ≤ l
  · rw [if_pos (by rw [isData_ge h4]; rfl)]
    exact hdown
  · have hne : s.laneState l ≠ lsActive := h.resolve_left h4
    rw [if_neg (by rw [isData_lt (Nat.not_le.mp h4)]; decide), if_neg hne]
    exact laneGone_state _ (Nat.not_le.mp h4) hdown

theorem enableStopped_leaves (h4 : l < 4) (hst : s.rd (LANE.STATE l) = 5) (hv : s.version = 3) :
    (s.enableStopped l).rd (LANE.STATE l) = 5 ∧ ((s.enableStopped l).lane l).leaving = true := by
  have heq : s.enableStopped l = s.setLane l { s.lane l with leaving := true } :=
    (if_neg (by rw [isData_lt h4]; decide)).trans ((if_pos hst).trans (leaveStripe_three hst hv))
  rw [heq]
  refine ⟨hst, ?_⟩
  rw [State.lane_set]

theorem applyEnable_shows (hl : l < 6) (hb : s.rdS (LANE.ENABLE l) < 2) : (s.applyEnable l).rd (LANE.ENABLE l) = s.rdS (LANE.ENABLE l)
    ∧ (s.applyEnable l).regs.shadow = s.regs.shadow := by
  have hon := enableTaken_on hb
  have hsh : (s.enableTaken l).regs.shadow = s.regs.shadow := rfl
  rw [applyEnable_eq]
  generalize s.enableTaken l = v at *
  split
  · obtain ⟨h1, h2⟩ := enableStopped_enable v hl
    exact ⟨(h1 l hl).trans hon, h2.trans hsh⟩
  · exact ⟨hon, hsh⟩

theorem applyEnable_stops (hb : s.rdS (LANE.ENABLE l) = 0) (hon : s.on (LANE.ENABLE l) = true) :
    s.applyEnable l = (s.enableTaken l).enableStopped l := by
  refine (applyEnable_eq s l).trans (if_pos ?_)
  have h : (s.enableTaken l).on (LANE.ENABLE l) = false := by rw [State.on, enableTaken_on (by omega), hb]; rfl
  rw [hon, h]
  rfl

/-! ### The write (R267, R306) -/

/-- The word's fields as written. -/
def State.laneWritten (s : State) (l v : Nat) : State :=
  ((((s.wrS (LANE.ENABLE l) (bits v 31 1)).wrS (LANE.EQ_ACCEPT l) (bits v 7 1)).wrS (LANE.RATE_MAX l) (bits v 24 3)).wrS (LANE.PRE l)
    (bits v 16 5)).wrS (LANE.POST l) (bits v 8 5)

theorem laneSetup_eq {v : Nat} (hrate : bits v 24 3 ≤ if isData l then 4 else 2) (hpre : bits v 16 5 ≤ 16) (hpost : bits v 8 5 ≤ 24)
    (hsum : bits v 16 5 + bits v 8 5 ≤ 32) : s.laneSetup l v = (s.laneWritten l v).applyEnable l := by
  unfold State.laneSetup
  simp only [decide_eq_true hrate, decide_eq_true hpre, decide_eq_true hpost, if_true, decide_eq_true hsum, Bool.and_self]
  rfl

theorem bits_lt (v lo n : Nat) : bits v lo n < 2 ^ n := Nat.mod_lt _ (Nat.two_pow_pos n)

theorem laneWritten_shadow (s : State) (l v : Nat) : (s.laneWritten l v).rdS (LANE.ENABLE l) = bits v 31 1
    ∧ (s.laneWritten l v).rdS (LANE.EQ_ACCEPT l) = bits v 7 1 ∧ (s.laneWritten l v).rdS (LANE.RATE_MAX l) = bits v 24 3
    ∧ (s.laneWritten l v).rdS (LANE.PRE l) = bits v 16 5 ∧ (s.laneWritten l v).rdS (LANE.POST l) = bits v 8 5 := by
  have hself (u : State) (f : Fld) (lo n : Nat) (hw : f.width = n) : (u.wrS f (bits v lo n)).rdS f = bits v lo n := by
    rw [State.rdS_wrS_self, hw]
    exact Nat.mod_eq_of_lt (bits_lt v lo n)
  have hkeys : (LANE.ENABLE l).key ≠ (LANE.EQ_ACCEPT l).key ∧ (LANE.ENABLE l).key ≠ (LANE.RATE_MAX l).key ∧ (LANE.ENABLE l).key ≠ (LANE.PRE l).key
      ∧ (LANE.ENABLE l).key ≠ (LANE.POST l).key ∧ (LANE.EQ_ACCEPT l).key ≠ (LANE.RATE_MAX l).key ∧ (LANE.EQ_ACCEPT l).key ≠ (LANE.PRE l).key
      ∧ (LANE.EQ_ACCEPT l).key ≠ (LANE.POST l).key ∧ (LANE.RATE_MAX l).key ≠ (LANE.PRE l).key ∧ (LANE.RATE_MAX l).key ≠ (LANE.POST l).key
      ∧ (LANE.PRE l).key ≠ (LANE.POST l).key := by
    simp only [LANE.ENABLE, LANE.EQ_ACCEPT, LANE.RATE_MAX, LANE.PRE, LANE.POST, fld_key]
    omega
  obtain ⟨e1, e2, e3, e4, q1, q2, q3, m1, m2, p1⟩ := hkeys
  unfold State.laneWritten
  refine ⟨?_, ?_, ?_, ?_, hself _ (LANE.POST l) 8 5 rfl⟩
  · rw [State.rdS_wrS_ne _ _ _ _ e4, State.rdS_wrS_ne _ _ _ _ e3, State.rdS_wrS_ne _ _ _ _ e2, State.rdS_wrS_ne _ _ _ _ e1]
    exact hself _ (LANE.ENABLE l) 31 1 rfl
  · rw [State.rdS_wrS_ne _ _ _ _ q3, State.rdS_wrS_ne _ _ _ _ q2, State.rdS_wrS_ne _ _ _ _ q1]
    exact hself _ (LANE.EQ_ACCEPT l) 7 1 rfl
  · rw [State.rdS_wrS_ne _ _ _ _ m2, State.rdS_wrS_ne _ _ _ _ m1]
    exact hself _ (LANE.RATE_MAX l) 24 3 rfl
  · rw [State.rdS_wrS_ne _ _ _ _ p1]
    exact hself _ (LANE.PRE l) 16 5 rfl

theorem bits_one (v i : Nat) : bits v i 1 = b2n (bit v i) := by
  unfold bits bit b2n
  have h : v / 2 ^ i % 2 < 2 := Nat.mod_lt _ (by decide)
  split
  · next hb => simpa using hb
  · next hb =>
    have hne : v / 2 ^ i % 2 ≠ 1 := by simpa using hb
    rw [pow_one]
    omega

/-- A write that is accepted. -/
theorem enable_shows {path : Path} {lane : Fin 6} {value : Word} (hruns : s.runs (pLane lane) = true)
    (hrate : (value.extractLsb' 24 3).toNat ≤ (if (lane : Nat) < 4 then 4 else 2)) (hpre : (value.extractLsb' 16 5).toNat ≤ 16)
    (hpost : (value.extractLsb' 8 5).toNat ≤ 24) (hsum : (value.extractLsb' 16 5).toNat + (value.extractLsb' 8 5).toNat ≤ 32) :
    ∃ t, exec (.enable path lane value) s = .next t ∧ t.on (LANE.ENABLE lane) = value.getLsbD 31
      ∧ t.rdS (LANE.RATE_MAX lane) = (value.extractLsb' 24 3).toNat ∧ t.rdS (LANE.PRE lane) = (value.extractLsb' 16 5).toNat
      ∧ t.rdS (LANE.POST lane) = (value.extractLsb' 8 5).toNat ∧ t.rdS (LANE.EQ_ACCEPT lane) = b2n (value.getLsbD 7)
      ∧ (s.on (LANE.ENABLE lane) = true → value.getLsbD 31 = false → (4 ≤ (lane : Nat) ∨ s.rd (LANE.STATE lane) ≠ 5 → t.rd (LANE.STATE lane) = 0)
          ∧ ((lane : Nat) < 4 → s.rd (LANE.STATE lane) = 5 → s.version = 3 → t.rd (LANE.STATE lane) = 5 ∧ (t.lane lane).leaving = true)) := by
  simp only [← bits_toNat] at hrate hpre hpost hsum ⊢
  have heq := laneSetup_eq (s := { s with bus := {} }) (l := lane) (v := value.toNat) (by rw [isData]; simpa using hrate) hpre hpost hsum
  obtain ⟨k1, k2, k3, k4, k5⟩ := laneWritten_shadow { s with bus := {} } lane value.toNat
  have hcur : (({ s with bus := {} } : State).laneWritten lane value.toNat).regs.cur = s.regs.cur := rfl
  have hlnk : (({ s with bus := {} } : State).laneWritten lane value.toNat).lnk = s.lnk := rfl
  have hbit : bits value.toNat 31 1 = b2n (value.getLsbD 31) := by rw [bits_one, bit_toNat]
  have hbit7 : bits value.toNat 7 1 = b2n (value.getLsbD 7) := by rw [bits_one, bit_toNat]
  have hexec : exec (.enable path lane value) s = .next ((({ s with bus := {} } : State).laneWritten lane value.toNat).applyEnable lane) :=
    congrArg Host.Outcome.next ((writeTo_runs hruns).trans heq)
  rw [hbit] at k1
  rw [hbit7] at k2
  generalize ({ s with bus := {} } : State).laneWritten lane value.toNat = u at *
  have hrd (f : Fld) : u.rd f = s.rd f := by rw [State.rd, hcur]; rfl
  have hv : u.version = s.version := by unfold State.version; rw [hlnk, hrd, hrd]
  have hb : u.rdS (LANE.ENABLE lane) < 2 := by
    rw [k1]
    unfold b2n
    split <;> decide
  obtain ⟨h1, h2⟩ := applyEnable_shows lane.isLt hb
  have hshadow (f : Fld) : (u.applyEnable lane).rdS f = u.rdS f := by rw [State.rdS, h2]; rfl
  refine ⟨_, hexec, ?_, (hshadow _).trans k3, (hshadow _).trans k4, (hshadow _).trans k5, (hshadow _).trans k2, fun hon h31 => ?_⟩
  · rw [State.on, h1, k1]
    cases value.getLsbD 31 <;> rfl
  · rw [h31] at k1
    have hon' : u.on (LANE.ENABLE lane) = true := (congrArg (· != 0) (hrd _)).trans hon
    have hst : (u.enableTaken lane).rd (LANE.STATE lane) = s.rd (LANE.STATE lane) :=
      (enableTaken_ne (by simp only [LANE.STATE, LANE.ENABLE, fld_key]; omega)).trans (hrd _)
    rw [applyEnable_stops k1 hon']
    have hver : (u.enableTaken lane).version = s.version := by
      refine Eq.trans ?_ hv
      have hne : ∀ l < 6, (CTL.C_VERSION 0).key ≠ (LANE.ENABLE l).key ∧ L0.B_VERSION.key ≠ (LANE.ENABLE l).key := by decide
      unfold State.version
      rw [enableTaken_ne (hne lane lane.isLt).1, enableTaken_ne (hne lane lane.isLt).2]
      rfl
    generalize u.enableTaken lane = w at *
    exact ⟨fun h => enableStopped_down (by rw [hst]; exact h), fun h4 h5 h3 => enableStopped_leaves h4 (hst.trans h5) (hver.trans h3)⟩

end

end Sys2Proof.Machine
end

section
/-! PROOFS. Markers of Yomos Link, and the lanes' rules together (R279, R288 to R298). -/
namespace Sys2Proof.Machine
open Sys2Proof

section
variable {s t : State}

/-! ### Markers (R279, R293, R297, R298) -/

/-- The lanes that carry their second marker. -/
def State.seconds (s : State) : List Nat := ((List.range 4).filter fun n => s.rd (LANE.STATE n) = 4).filter fun n => 1 ≤ (s.lane n).markers

/-- The lanes that join at a marker. -/
def State.joins (s : State) : List Nat :=
  let desk := (List.range 4).filter fun n => s.rd (LANE.STATE n) = 4
  if s.on L0.B_UP then s.seconds
  else if s.seconds = desk && (List.range 4).all fun n => s.rd (LANE.STATE n) != 3 || !(s.lane n).retraining then desk
  else []

theorem desk_eq (s : State) : s.lanesIn lsDeskew = (List.range 4).filter fun n => s.rd (LANE.STATE n) = 4 := rfl

theorem seconds_eq (s : State) : ((s.lanesIn lsDeskew).filter fun l => 2 ≤ (s.lane l).markers + 1) = s.seconds := by
  unfold State.seconds
  rw [desk_eq]
  refine List.filter_congr fun n _ => ?_
  exact decide_eq_decide.mpr (by omega)

theorem trainers_eq (s : State) : ((s.lanesIn lsTrain).all fun l => !(s.lane l).retraining)
    = (List.range 4).all fun n => s.rd (LANE.STATE n) != 3 || !(s.lane n).retraining := by
  have h : s.lanesIn lsTrain = (List.range 4).filter fun n => s.rd (LANE.STATE n) = 3 := rfl
  rw [h, List.all_filter]
  rfl

theorem joining_eq (s : State) : s.joining = s.joins := by
  unfold State.joining State.joins
  dsimp only
  rw [seconds_eq, trainers_eq, desk_eq]

theorem joins_sub {n : Nat} (h : n ∈ s.joins) : n ∈ (List.range 4).filter fun n => s.rd (LANE.STATE n) = 4 := by
  unfold State.joins at h
  dsimp only at h
  split_ifs at h
  · exact List.mem_of_mem_filter h
  · exact h
  · exact absurd h List.not_mem_nil

theorem joins_nodup (s : State) : s.joins.Nodup := by
  have hdesk : ((List.range 4).filter fun n => s.rd (LANE.STATE n) = 4).Nodup := List.Nodup.filter _ List.nodup_range
  unfold State.joins
  dsimp only
  split_ifs
  · exact hdesk.filter _
  · exact hdesk
  · exact List.nodup_nil

/-- A lane of the stripe that leaves it. -/
def State.leavers (s : State) : List Nat := s.lnk.stripe.filter fun l => (s.lane l).leaving

/-- The next stripe. -/
def State.nextStripe (s : State) : List Nat := sortAsc ((s.lnk.stripe.filter fun n => !(s.lane n).leaving) ++ s.joins)

theorem stays_eq (s : State) : (s.lnk.stripe.filter fun l => !s.leavers.contains l) = s.lnk.stripe.filter fun n => !(s.lane n).leaving := by
  refine List.filter_congr fun n hn => congrArg (!·) ?_
  rw [Bool.eq_iff_iff, List.contains_iff_mem, State.leavers, List.mem_filter]
  exact ⟨And.right, fun h => ⟨hn, h⟩⟩

/-- A lane in DESKEW has carried one more marker. -/
def State.markerUp (s : State) (l : Nat) : State := s.setLane l { s.lane l with markers := (s.lane l).markers + 1 }

/-- Every lane's marker has left. -/
def State.markersOut (s : State) : State :=
  let s1 := (s.lanesIn lsDeskew).foldl State.markerUp s
  { s1.send ((sortAsc (s.lnk.stripe ++ s.lanesIn lsDeskew)).map fun l => (l, s.marker l (laneMask s.lnk.stripe) (laneMask s.nextStripe))) with
    lnk.mcount := s1.lnk.mcount + 1 }

/-- A lane joins the stripe. -/
def State.striped (s : State) (l : Nat) : State := (s.setLane l { s.lane l with markers := 0 }).setLaneState l lsActive

/-- The stripe as the marker leaves it. -/
def State.restriped (s u : State) : State :=
  let s4 := s.joins.foldl State.striped (s.leavers.foldl State.outOfStripe u)
  if s.nextStripe.isEmpty then s4 else State.setBundle { s4 with lnk.bundleDown := false } true s.nextStripe

theorem exec_markerSend (hv : 2 ≤ s.version) (hne : s.lnk.stripe ++ ((List.range 4).filter fun n => s.rd (LANE.STATE n) = 4) ≠ []) :
    exec .markerSend s = .next (if s.nextStripe.isEmpty && !s.leavers.isEmpty then s.markersOut.retrainBundle else s.restriped s.markersOut) := by
  have hgo : ¬(decide (s.version < 2) || (s.lnk.stripe ++ s.lanesIn lsDeskew).isEmpty) = true := by
    rw [Bool.or_eq_true, decide_eq_true_eq, List.isEmpty_iff, desk_eq]
    exact fun h => h.elim (Nat.not_lt.mpr hv) hne
  have hnext : sortAsc ((s.lnk.stripe.filter fun l => !(s.lnk.stripe.filter fun l => (s.lane l).leaving).contains l) ++ s.joining) = s.nextStripe := by
    rw [joining_eq]
    exact congrArg (fun q => sortAsc (q ++ s.joins)) (stays_eq s)
  refine congrArg Host.Outcome.next ((if_neg hgo).trans ?_)
  dsimp only
  rw [hnext, joining_eq]
  rfl

theorem markerUp_foldl (ls : List Nat) (s : State) : LanesOnly s (ls.foldl State.markerUp s) :=
  List.foldlRecOn (motive := fun t => LanesOnly s t) ls _ rfl fun _ ht _ _ => ht.trans rfl

theorem markerUp_lane {n : Nat} {ls : List Nat} (hn : n ∈ ls) (hnd : ls.Nodup) (s : State) :
    ((ls.foldl State.markerUp s).lane n).markers = (s.lane n).markers + 1 := by
  refine foldl_reach_once (P := fun t => (t.lane n).markers = (s.lane n).markers + 1) (Q := fun t => (t.lane n).markers = (s.lane n).markers) hn hnd
    (fun t m _ hne ht => ?_) (fun t ht => ?_) (fun t m _ hne ht => ?_) s rfl
  · exact (congrArg LaneState.markers (State.lane_set_ne t _ (Ne.symm hne))).trans ht
  · exact (congrArg LaneState.markers (State.lane_set t n _)).trans (congrArg (· + 1) ht)
  · exact (congrArg LaneState.markers (State.lane_set_ne t _ (Ne.symm hne))).trans ht

/-- The markers' leaving changes no register. -/
theorem markersOut_shows (s : State) : s.markersOut.regs = s.regs ∧ s.markersOut.lnk.mcount = s.lnk.mcount + 1
    ∧ s.markersOut.lnk.sent.map (·.1) = sortAsc (s.lnk.stripe ++ ((List.range 4).filter fun n => s.rd (LANE.STATE n) = 4))
    ∧ ∀ n ∈ (List.range 4).filter fun n => s.rd (LANE.STATE n) = 4, (s.markersOut.lane n).markers = (s.lane n).markers + 1 := by
  have h := markerUp_foldl (s.lanesIn lsDeskew) s
  have hlane {n : Nat} (hn : n ∈ s.lanesIn lsDeskew) := markerUp_lane hn (List.Nodup.filter _ (by decide)) s
  unfold State.markersOut
  generalize (s.lanesIn lsDeskew).foldl State.markerUp s = u at *
  refine ⟨?_, ?_, ?_, fun n hn => hlane hn⟩
  · show u.regs = s.regs
    rw [h]
  · show u.lnk.mcount + 1 = _
    rw [h]
  · show ((sortAsc (s.lnk.stripe ++ s.lanesIn lsDeskew)).map fun l => (l, s.marker l (laneMask s.lnk.stripe) (laneMask s.nextStripe))).map (·.1) = _
    rw [List.map_map, desk_eq]
    exact List.map_id _

theorem outOfStripe_only (s : State) (l : Nat) : LaneOnly l s (s.outOfStripe l) := .ite (retrainLane_only s l _ _) (laneDown_only s l)

theorem striped_only (s : State) (l : Nat) : LaneOnly l s (s.striped l) := ((LaneOnly.refl l s).setLane _).trans (setLaneState_only l _ _)

theorem linkRest_kept {f : State → Nat → State} (hf : ∀ s l, LaneOnly l s (f s l)) (ls : List Nat) (s : State) : (ls.foldl f s).lnk.rest = s.lnk.rest :=
  foldl_keeps (fun t => t.lnk.rest) (fun t l _ => (hf t l).link) s

/-- A data lane that a fold over other lanes does not name. -/
theorem foldl_others {f : State → Nat → State} (hf : ∀ s l, LaneOnly l s (f s l)) {ls : List Nat} {n : Nat} (hn : n < 4) (h : n ∉ ls) (s : State) :
    (ls.foldl f s).rd (LANE.STATE n) = s.rd (LANE.STATE n) ∧ (ls.foldl f s).lane n = s.lane n := by
  have hne (m : Nat) (hm : m ∈ ls) : n ≠ m := fun e => h (e ▸ hm)
  exact ⟨foldl_keeps (fun t => t.rd (LANE.STATE n))
    (fun t m hm => (hf t m).regs _ (lanes_apart (show n < 6 by omega) (hne m hm) _ (by simp))) s,
    foldl_keeps (fun t => t.lane n) (fun t m hm => (hf t m).others n (hne m hm)) s⟩

theorem striped_active {ls : List Nat} {n : Nat} (hn : n < 4) (hmem : n ∈ ls) (hnd : ls.Nodup) (s : State) :
    (ls.foldl State.striped s).rd (LANE.STATE n) = 5 := by
  refine foldl_reach_once (P := fun t => t.rd (LANE.STATE n) = 5) (Q := fun _ => True) hmem hnd (fun _ _ _ _ h => h)
    (fun t _ => setLaneState_state _ n lsActive) (fun t m _ hne ht => ?_) s trivial
  exact ((striped_only t m).regs _ (lanes_apart (show n < 6 by omega) (Ne.symm hne) _ (by simp))).trans ht

/-- A lane that has left the stripe trains in REMOVED, or is DOWN. -/
theorem outOfStripe_left {ls : List Nat} {n : Nat} (hn : n < 4) (hmem : n ∈ ls) (s : State) :
    (ls.foldl State.outOfStripe s).rd (LANE.STATE n) = if s.on (LANE.ENABLE n) then 6 else 0 := by
  have hen (t : State) (m : Nat) : (t.outOfStripe m).on (LANE.ENABLE n) = t.on (LANE.ENABLE n) := by
    by_cases e : n = m
    · rw [e]
      exact congrArg (· != 0) ((outOfStripe_only t m).regs _ (bundle_apart m (by omega)).1)
    · exact congrArg (· != 0) ((outOfStripe_only t m).regs _ (lanes_apart (show n < 6 by omega) e _ (by simp)))
  have hmake (t : State) (ht : t.on (LANE.ENABLE n) = s.on (LANE.ENABLE n)) :
      (t.outOfStripe n).rd (LANE.STATE n) = if s.on (LANE.ENABLE n) then 6 else 0 := by
    unfold State.outOfStripe
    rw [ht]
    split
    · exact (retrainLane_shows t (show n < 6 by omega) lsRemoved _).1
    · exact (laneDown_shows t n).1
  refine (foldl_reach (P := fun t => t.on (LANE.ENABLE n) = s.on (LANE.ENABLE n)
      ∧ t.rd (LANE.STATE n) = if s.on (LANE.ENABLE n) then 6 else 0) (Q := fun t => t.on (LANE.ENABLE n) = s.on (LANE.ENABLE n)) hmem
    (fun t m _ _ ht => (hen t m).trans ht) (fun t ht => ⟨(hen t n).trans ht, hmake t ht⟩) (fun t m _ ht => ⟨(hen t m).trans ht.1, ?_⟩) s rfl).2
  by_cases e : m = n
  · rw [e]
    exact hmake t ht.1
  · exact ((outOfStripe_only t m).regs _ (lanes_apart (show n < 6 by omega) (Ne.symm e) _ (by simp))).trans ht.2

/-- The stripe's lanes before the bundle shows them. -/
def State.stripeMoved (s u : State) : State := s.joins.foldl State.striped (s.leavers.foldl State.outOfStripe u)

theorem restriped_eq (s u : State) : s.restriped u = if s.nextStripe.isEmpty then s.stripeMoved u
    else State.setBundle { s.stripeMoved u with lnk.bundleDown := false } true s.nextStripe := rfl

theorem stripeMoved_rest (s u : State) : (s.stripeMoved u).lnk.rest = u.lnk.rest :=
  (linkRest_kept striped_only _ _).trans (linkRest_kept outOfStripe_only _ _)

/-- What the stripe's change leaves of a data lane. -/
theorem restriped_state (s u : State) {n : Nat} (hn : n < 4) : (s.restriped u).rd (LANE.STATE n) = (s.stripeMoved u).rd (LANE.STATE n)
    ∧ (s.restriped u).lane n = (s.stripeMoved u).lane n := by
  rw [restriped_eq]
  generalize s.stripeMoved u = v
  split
  · exact ⟨rfl, rfl⟩
  · exact ⟨(setBundle_shows { v with lnk.bundleDown := false } true s.nextStripe).2.2.2 _ (setBundle_apart n (by omega) (LANE.STATE n) (by simp)), rfl⟩

theorem restriped_link (s u : State) : (s.restriped u).lnk.mcount = u.lnk.mcount ∧ (s.restriped u).lnk.sent = u.lnk.sent := by
  have h := stripeMoved_rest s u
  rw [restriped_eq]
  generalize s.stripeMoved u = v at *
  have h1 : v.lnk.mcount = u.lnk.mcount := (congrArg LinkState.mcount h :)
  have h2 : v.lnk.sent = u.lnk.sent := (congrArg LinkState.sent h :)
  split
  · exact ⟨h1, h2⟩
  · exact ⟨h1, h2⟩

/-- The stripe as the next one shows it. -/
theorem restriped_bundle (s u : State) (h : s.nextStripe ≠ []) : (s.restriped u).lnk.stripe = s.nextStripe ∧ (s.restriped u).on L0.B_UP = true
    ∧ (s.restriped u).rd L0.B_ACTIVE = laneMask s.nextStripe % 2 ^ 4 := by
  rw [restriped_eq]
  generalize s.stripeMoved u = v
  rw [if_neg (by rw [List.isEmpty_iff]; exact h)]
  obtain ⟨h1, h2, h3, -⟩ := setBundle_shows { v with lnk.bundleDown := false } true s.nextStripe
  exact ⟨h2, h1, h3⟩

theorem mem_desk {n : Nat} (h : n ∈ (List.range 4).filter fun n => s.rd (LANE.STATE n) = 4) : n < 4 ∧ s.rd (LANE.STATE n) = 4 := by
  obtain ⟨h1, h2⟩ := List.mem_filter.mp h
  exact ⟨List.mem_range.mp h1, of_decide_eq_true h2⟩

/-- What a marker brings. -/
def MarkerSent (s t : State) : Prop := t.lnk.mcount = s.lnk.mcount + 1
  ∧ t.lnk.sent.map (·.1) = sortAsc (s.lnk.stripe ++ ((List.range 4).filter fun n => s.rd (LANE.STATE n) = 4))
  ∧ (s.nextStripe ≠ [] → t.lnk.stripe = s.nextStripe ∧ t.on L0.B_UP = true ∧ t.rd L0.B_ACTIVE = (s.nextStripe.map (2 ^ ·)).sum % 2 ^ 4
    ∧ (∀ n ∈ s.joins, t.rd (LANE.STATE n) = 5)
    ∧ (∀ n ∈ s.lnk.stripe, n < 4 → (!(s.lane n).leaving) = false → s.rd (LANE.STATE n) = 5 →
      t.rd (LANE.STATE n) = if s.on (LANE.ENABLE n) then 6 else 0))
  ∧ (∀ n ∈ (List.range 4).filter fun n => s.rd (LANE.STATE n) = 4, n ∉ s.joins → (s.lnk.stripe.filter fun n => !(s.lane n).leaving) = s.lnk.stripe →
    t.rd (LANE.STATE n) = 4 ∧ (t.lane n).markers = (s.lane n).markers + 1)
  ∧ (s.nextStripe = [] → (∃ n ∈ s.lnk.stripe, (!(s.lane n).leaving) = false) → Retrains s t)

theorem leavers_nil (h : (s.lnk.stripe.filter fun n => !(s.lane n).leaving) = s.lnk.stripe) : s.leavers = [] := by
  rw [List.filter_eq_self] at h
  refine List.filter_eq_nil_iff.mpr fun n hn hl => ?_
  have hstay := h n hn
  rw [hl] at hstay
  exact Bool.false_ne_true hstay

theorem markerSend_sent (hv : 2 ≤ s.version) (hne : s.lnk.stripe ++ ((List.range 4).filter fun n => s.rd (LANE.STATE n) = 4) ≠ []) :
    ∃ t, exec .markerSend s = .next t ∧ MarkerSent s t := by
  refine ⟨_, exec_markerSend hv hne, ?_⟩
  obtain ⟨hregs, hcount, hsent, hdesk⟩ := markersOut_shows s
  generalize s.markersOut = u at *
  have hrd (f : Fld) : u.rd f = s.rd f := by rw [State.rd, hregs]; rfl
  by_cases hc : (s.nextStripe.isEmpty && !s.leavers.isEmpty) = true
  · have hnil : s.nextStripe = [] := List.isEmpty_iff.mp (Bool.and_eq_true _ _ ▸ hc).1
    have hleave : s.leavers ≠ [] := fun e => by rw [e, List.isEmpty_nil, Bool.and_eq_true] at hc; exact Bool.false_ne_true hc.2
    rw [if_pos hc]
    have honly := retrainBundle_only u
    obtain ⟨k1, k2, k3⟩ := retrainBundle_retrains u
    refine ⟨honly.mcount.trans hcount, (congrArg _ honly.sent).trans hsent, fun h => absurd hnil h, fun n hn _ hstay => absurd (leavers_nil hstay) hleave,
      fun _ _ => ⟨k1, k2, fun n hn hen hlow hhigh => ?_⟩⟩
    have h := k3 n hn ((congrArg (· != 0) (hrd _)).trans hen) (by rw [hrd]; exact hlow) (by rw [hrd]; exact hhigh)
    rw [hrd] at h
    exact h
  · rw [if_neg hc]
    obtain ⟨h1, h2⟩ := restriped_link s u
    refine ⟨h1.trans hcount, (congrArg _ h2).trans hsent, fun h => ?_, fun n hn hj hstay => ?_, fun hnil hex => ?_⟩
    · obtain ⟨g1, g2, g3⟩ := restriped_bundle s u h
      refine ⟨g1, g2, g3, fun n hn => ?_, fun n hn h4 hl h5 => ?_⟩
      · obtain ⟨h4, -⟩ := mem_desk (joins_sub hn)
        exact (restriped_state s u h4).1.trans (striped_active h4 hn (joins_nodup s) _)
      · have hnj : n ∉ s.joins := fun hj => by
          have := (mem_desk (joins_sub hj)).2
          omega
        have hleft : n ∈ s.leavers := List.mem_filter.mpr ⟨hn, by rwa [Bool.not_eq_false'] at hl⟩
        have hout := outOfStripe_left h4 hleft u
        have hen : u.on (LANE.ENABLE n) = s.on (LANE.ENABLE n) := congrArg (· != 0) (hrd _)
        rw [hen] at hout
        exact (restriped_state s u h4).1.trans ((foldl_others striped_only h4 hnj _).1.trans hout)
    · obtain ⟨h4, hst⟩ := mem_desk hn
      obtain ⟨r1, r2⟩ := restriped_state s u h4
      obtain ⟨f1, f2⟩ := foldl_others striped_only h4 hj (s.leavers.foldl State.outOfStripe u)
      have hsame : s.leavers.foldl State.outOfStripe u = u := by rw [leavers_nil hstay]; rfl
      rw [hsame] at f1 f2
      have hmoved : s.stripeMoved u = s.joins.foldl State.striped u := by rw [State.stripeMoved, hsame]
      rw [r1, r2, hmoved, f1, f2, hrd]
      exact ⟨hst, hdesk n hn⟩
    · obtain ⟨n, hn, hl⟩ := hex
      refine absurd ?_ hc
      have hne : s.leavers.isEmpty = false := by
        rw [← Bool.not_eq_true, List.isEmpty_iff]
        exact List.ne_nil_of_mem (List.mem_filter.mpr ⟨hn, by rwa [Bool.not_eq_false'] at hl⟩)
      rw [hnil, hne]
      rfl

end

/-! ### The lanes -/

/-- Settles O47: the lanes of Yomos Link come up, train, leave and join as R264 to R298 say, one lemma a command. -/
theorem linkLanes : Obligations.LinkLanes := by
  unfold Obligations.LinkLanes
  intro path lane ctl content rate pass pre post mask errs value s
  intro l k x st c v plain three r own trains last passed failed settled retrains
  have hk4 : 4 ≤ k := Nat.le_add_right 4 ctl
  have hk6 : k < 6 := by omega
  have hkctl : k - 4 = ctl := by omega
  refine ⟨fun hup hal => ⟨fun hre hst => ?_, fun hre => ?_⟩, fun hruns => ⟨fun h4 hst => ?_, fun h4 hst => ?_, fun h4 hv hst => ?_, fun hen hst hlock => ?_,
      fun hst => ?_, fun htr hrate => ⟨fun hend => ?_, fun hend hown => ?_, fun hend h => ?_⟩, fun htr => ⟨fun hpre hpost => ⟨fun hown hp => ?_,
        fun hown hp hend => ?_, fun h => ?_⟩, fun hpre hpost hacc hv hmost hsum hreqs hset => ?_⟩, fun h => ?_, fun hv h4 hst hlim => ?_,
      fun hv h4 hst h31 h30 => ?_, fun hv h4 hst h31 h30 => ?_, fun h4 hst h31 h30 h29 => ?_, fun hrate hpre hpost hsum => ?_,
      fun h4 hst hplain => ⟨fun hv => ?_, fun hv => ?_⟩, fun hst hplain => ?_⟩,
    fun hruns => ⟨fun hst hplain h1 h2 => ?_, fun hst hplain h => ?_, fun hup hst => ?_, fun hst hcdr => ?_, fun hst hal h31 h30 h29 =>
      ⟨fun h => ?_, fun hn he => ?_⟩, fun hst hal hcdr h31 h30 h29 => ?_⟩,
    fun hv => retrainReq_three hv, fun hv hex => retrainReq_older hv hex,
    fun n hruns hen hst hre hdown => laneRetry_shows hruns hen hst hre hdown, fun hv hne => ?_⟩
  · exact ⟨_, (exec_lockGained hup hal).trans (congrArg Host.Outcome.next (laneLocked_found hre hst)), foundLock_shows s lane⟩
  · exact ⟨_, (exec_lockGained hup hal).trans (congrArg Host.Outcome.next (laneLocked_relock hre)), relocked_shows s lane⟩
  · exact ⟨_, exec_lockLost hruns, control_unlocks h4 lane.isLt hst⟩
  · exact ⟨_, exec_lockLost hruns, caps_unlocks h4 hst⟩
  · exact ⟨_, exec_lockLost hruns, active_unlocks h4 hv hst⟩
  · exact noPartner_shows hruns hen hst hlock
  · exact exec_capsSend hruns hst
  · exact result_kept hruns htr hrate hend
  · exact result_passes hruns htr hrate hend hown
  · exact result_fails hruns htr hrate hend h
  · exact end_passes hruns htr hpre hpost hown hp
  · exact end_waits hruns htr hpre hpost hown hp hend
  · exact end_fails hruns htr hpre hpost h
  · exact end_stepped hruns htr hpre hpost hacc hv hmost hsum hreqs hset
  · exact errWindow_calm h
  · exact errWindow_leaves hruns hv h4 hst hlim
  · exact retrain_three hruns hv h4 hst h31 h30
  · exact retrain_older hruns hv h4 hst h31 h30
  · exact retrain_control hruns h4 hst h31 h30 h29
  · exact enable_shows hruns hrate hpre hpost hsum
  · exact data_caps hruns hst hplain h4 hv
  · exact data_caps_refused hruns hst hplain h4 hv
  · exact caps_reserved hruns hst hplain
  · have h := control_caps (lane := ⟨k, hk6⟩) hruns hst hplain hk4 (by rw [hkctl]; exact h1) (by rw [hkctl]; exact h2)
    rw [hkctl] at h
    exact h
  · exact control_caps_refused (lane := ⟨k, hk6⟩) hruns hst hplain hk4 (by rw [hkctl]; exact h)
  · exact cdrLock_shows hruns hup hst
  · exact cdrTimeout_shows hruns hst hcdr
  · exact bitslip_counts hruns hst hal h31 h30 h29 h
  · exact bitslip_fails hruns hst hal h31 h30 h29 hn he
  · exact aligned_locks hruns hst hal hcdr h31 h30 h29
  · exact markerSend_sent hv hne

end Sys2Proof.Machine
end

section
/-! PROOFS. What the operations around a shot leave alone (R73 to R76, R144, R145, R155 to R172). -/
namespace Sys2Proof.Machine
open Sys2Proof

/-! ### The frame of a shot's operations -/

/-- What a shot's operations leave: the grid's state, and with b the stacks' memory. -/
def State.shotPart (b : Bool) (s : State) :=
  (s.acq.time, s.acq.frame.map Frame.cut, s.acq.shot, s.acq.closedShot, s.acq.lastBoundary, s.acq.nextSeq, s.emt.token, s.cat, s.rst.held,
    s.pca.columns, s.pins.eg, if b then s.stackMem else [])

/-- The fields that the grid's own rules read: RUN, FRAME_BOUNDARY and ACQUIRING; with b false the domains' switches too. -/
def shotKey (b : Bool) (k : Nat) : Prop :=
  k = ACQ.RUN.key ∨ k = ACQ.INT_FRAME_BOUNDARY.key ∨ k = ACQ.ST_ACQUIRING.key ∨ (b = false ∧ k / pageBits = pPWR)

structure ShotFrame (b : Bool) (s t : State) : Prop where
  part : t.shotPart b = s.shotPart b
  regs : ∀ f : Fld, shotKey b f.key → t.rd f = s.rd f

section
variable {b : Bool} {s t u : State}

theorem ShotFrame.refl (b : Bool) (s : State) : ShotFrame b s s := ⟨rfl, fun _ _ => rfl⟩

theorem ShotFrame.trans (h : ShotFrame b s t) (h' : ShotFrame b t u) : ShotFrame b s u :=
  ⟨h'.part.trans h.part, fun f hf => (h'.regs f hf).trans (h.regs f hf)⟩

theorem ShotFrame.same (h : ShotFrame b s t) (hregs : u.regs.cur = t.regs.cur) (hpart : u.shotPart b = t.shotPart b) : ShotFrame b s u := by
  refine h.trans ⟨hpart, fun f _ => ?_⟩
  unfold State.rd
  rw [hregs]

theorem ShotFrame.wr (h : ShotFrame b s t) (f : Fld) (v : Nat) (hf : ¬shotKey b f.key) : ShotFrame b s (t.wr f v) :=
  h.trans ⟨rfl, fun _ hg => State.rd_wr_ne t _ _ _ fun e => hf (e ▸ hg)⟩

theorem ShotFrame.put (h : ShotFrame b s t) (f : Fld) (v : Bool) (hf : ¬shotKey b f.key) : ShotFrame b s (t.put f v) := h.wr f _ hf

theorem ShotFrame.count (h : ShotFrame b s t) (f : Fld) (n : Nat) (hf : ¬shotKey b f.key) : ShotFrame b s (t.count f n) := h.wr f _ hf

theorem ShotFrame.ite {c : Prop} [Decidable c] {x y : State} (hx : c → ShotFrame b s x) (hy : ¬c → ShotFrame b s y) :
    ShotFrame b s (if c then x else y) := by
  split
  · exact hx ‹c›
  · exact hy ‹¬c›

theorem ShotFrame.foldl {α : Type} {f : State → α → State} {l : List α} (h : ShotFrame b s t) (hf : ∀ v, ∀ a ∈ l, ShotFrame b v (f v a)) :
    ShotFrame b s (l.foldl f t) := List.foldlRecOn (motive := fun v => ShotFrame b s v) l f h fun v hv a ha => hv.trans (hf v a ha)

/-- A folio that is not PWR's, and a field of ACQ that the grid's rules do not read. -/
theorem shotKey_page {b : Bool} {k : Nat} (h9 : k / pageBits ≠ pACQ) (h35 : k / pageBits ≠ pPWR) : ¬shotKey b k := by
  rintro (h | h | h | ⟨-, h⟩)
  · exact h9 (by rw [h]; decide)
  · exact h9 (by rw [h]; decide)
  · exact h9 (by rw [h]; decide)
  · exact h35 h

/-- Whatever lies at or above DET's folios. -/
theorem shotKey_high {b : Bool} {k : Nat} (h : 0x26 * pageBits ≤ k) : ¬shotKey b k := by
  have : 0x26 ≤ k / pageBits := (Nat.le_div_iff_mul_le (by decide)).mpr h
  exact shotKey_page (by rw [pACQ]; omega) (by rw [pPWR]; omega)

theorem ShotFrame.fault (h : ShotFrame b s t) (p i : Nat) (h9 : p ≠ pACQ) (h35 : p ≠ pPWR) : ShotFrame b s (t.fault p i) := by
  refine h.trans ⟨?_, fun f hf => fault_keepsRegs t p i f fun hm => ?_⟩
  · obtain ⟨r, posts, hfault⟩ := State.fault_state t p i
    rw [hfault]
    rfl
  · obtain ⟨j, hj, e⟩ := List.mem_map.mp hm
    have hpage : f.key / pageBits = p := by
      have hj32 := List.mem_range.mp hj
      rw [← e]
      simp only [C.FAULT, fld_key, pageBits]
      omega
    exact shotKey_page (by rw [hpage]; exact h9) (by rw [hpage]; exact h35) hf

/-- A folio runs as before. -/
theorem ShotFrame.runs (h : ShotFrame false s t) {p : Nat} (hp : domainOf p < 152) : t.runs p = s.runs p := by
  refine runs_of_regs (congrArg (fun x => x.2.2.2.2.2.2.2.2.1) h.part) (h.regs _ (.inr (.inr (.inr ⟨rfl, ?_⟩))))
  simp only [PWR.DOM_ON, fld_key, pageBits, pPWR]
  omega

/-- A frame in acquisition with the same cut. -/
theorem ShotFrame.frame (h : ShotFrame b s t) {g : Option Frame} (hg : g.map Frame.cut = t.acq.frame.map Frame.cut) :
    ShotFrame b s { t with acq.frame := g } := by
  refine h.same rfl ?_
  unfold State.shotPart
  dsimp only
  rw [hg]

theorem ShotFrame.inFrameDo (h : ShotFrame b s t) {f : Frame → Frame} (hf : ∀ x, (f x).cut = x.cut) : ShotFrame b s (t.inFrameDo f) := by
  unfold State.inFrameDo
  split
  · next x hx =>
    refine h.frame ?_
    rw [hx]
    exact congrArg some (hf x)
  · exact h

theorem ShotFrame.applyHeld (h : ShotFrame b s t) {p : Nat} (h9 : p ≠ pACQ) (h35 : p ≠ pPWR) : ShotFrame b s (t.applyHeld p) := by
  refine h.trans ⟨rfl, fun f hf => copyFlds_ne _ _ _ _ fun g hg e => ?_⟩
  have hpage := fieldsOf_page hg
  rw [← e] at hpage
  exact shotKey_page (by rw [hpage]; exact h9) (by rw [hpage]; exact h35) hf

/-- The boundary of a block that a shot ends: EMT, a section or a bank (R95, R120, R123). -/
theorem takeHalt_shotFrame (s : State) {p : Nat} (hp : p = pEMT ∨ (0x26 ≤ p ∧ p < 0x52)) : ShotFrame b s (s.takeHalt p) := by
  have h9 : p ≠ pACQ := by rw [pACQ]; rcases hp with rfl | hp <;> [decide; omega]
  have h35 : p ≠ pPWR := by rw [pPWR]; rcases hp with rfl | hp <;> [decide; omega]
  have hunit (t : State) : t.unitHalts p = t ∧ t.unitResumes p = t := by
    have hne : p ≠ pSCN ∧ ¬0x6F ≤ p ∧ p ≠ pCAL ∧ p ≠ pLMP ∧ p ≠ pCONVH := by
      rcases hp with rfl | hp
      · decide
      · refine ⟨?_, by omega, ?_, ?_, ?_⟩ <;> simp only [pSCN, pCAL, pLMP, pCONVH] <;> omega
    obtain ⟨h1, h2, h3, h4, h5⟩ := hne
    refine ⟨(if_neg h1).trans ((if_neg h2).trans ((if_neg h3).trans ((if_neg h4).trans (if_neg ?_)))), (if_neg h1).trans (if_neg h2)⟩
    rw [decide_eq_false h5]
    exact Bool.false_ne_true
  have hhalted : ¬shotKey b (C.HALTED p).key := by
    refine shotKey_page ?_ ?_ <;> simp only [C.HALTED, fld_key, pageBits, pACQ, pPWR] at h9 h35 ⊢ <;> omega
  unfold State.takeHalt
  rw [(hunit _).1, (hunit _).2]
  exact .ite (fun _ => .refl b s) fun _ => .ite (fun _ => (ShotFrame.refl b s).put _ _ hhalted) fun _ =>
    ((ShotFrame.refl b s).put _ _ hhalted).applyHeld h9 h35

/-! ### The stacks' memory (R160, R161) -/

theorem stackWrite_read (s : State) (a : Nat) (bs : List Byte) (j : Nat) : (s.stackWrite a bs).stackMem.read j
    = if (a ≤ j ∧ j < a + bs.length) ∧ s.runs (pSbank (j / 0x1000 % 16)) = true then bs.getD (j - a) 0 else s.stackMem.read j := by
  unfold State.stackWrite
  dsimp only
  rw [Mem.read_write, List.length_map, List.length_zipIdx]
  by_cases hin : a ≤ j ∧ j < a + bs.length
  · have hlt : j - a < bs.length := by omega
    rw [if_pos hin, List.getD_eq_getElem _ _ (by rw [List.length_map, List.length_zipIdx]; exact hlt), List.getElem_map, List.getElem_zipIdx]
    have hj : a + (0 + (j - a)) = j := by omega
    dsimp only
    rw [hj]
    by_cases hr : s.runs (pSbank (j / 0x1000 % 16)) = true
    · rw [if_pos hr, if_pos ⟨hin, hr⟩, List.getD_eq_getElem _ _ hlt]
    · rw [if_neg hr, if_neg fun h => hr h.2]
  · rw [if_neg hin, if_neg fun h => hin h.1]

/-- A byte outside a write. -/
theorem stackWrite_outside (s : State) {a j : Nat} {bs : List Byte} (h : j < a ∨ a + bs.length ≤ j) :
    (s.stackWrite a bs).stackMem.read j = s.stackMem.read j := by
  rw [stackWrite_read, if_neg]
  omega

theorem stackWrite_inside (s : State) {a i : Nat} {bs : List Byte} (hi : i < bs.length) (hr : s.runs (pSbank ((a + i) / 0x1000 % 16)) = true) :
    (s.stackWrite a bs).stackMem.read (a + i) = bs.getD i 0 := by
  rw [stackWrite_read, if_pos ⟨⟨Nat.le_add_right a i, by omega⟩, hr⟩, Nat.add_sub_cancel_left]

theorem stackWrite_frame (s : State) (a : Nat) (bs : List Byte) : ShotFrame false s (s.stackWrite a bs) := (ShotFrame.refl false s).same rfl rfl

end

end Sys2Proof.Machine
end

section
/-! PROOFS. SHOT_OPEN and the opening of the listening window (R73, R80, R120, R123, R145, R159, R164). -/
namespace Sys2Proof.Machine
open Sys2Proof

section
variable {s : State}

/-! ### The stacks when a buffer is taken again (R159, R164) -/

theorem slotAddr_base (sh : Shot) : slotAddr sh 0 = 0x210000 * (sh.seq.toNat % 2) := rfl

/-- The word that sets FILLING. -/
def fillingBytes (v : Nat) : List Byte := [2 ^ 31 + v % 65536].flatMap (leBytes 4)

theorem fillingBytes_shows (v : Nat) : (fillingBytes v).length = 4 ∧ (fillingBytes v).getD 3 0 = 0x80 := by
  refine ⟨rfl, ?_⟩
  have h : (2 ^ 31 + v % 65536) / 256 / 256 / 256 = 128 := by omega
  show BitVec.ofNat 8 ((2 ^ 31 + v % 65536) / 256 / 256 / 256) = 0x80
  rw [h] <;> rfl

/-- The bytes that a buffer's reclaim clears. -/
def reclaimed (sh : Shot) (a : Nat) : Bool :=
  slotAddr sh 0 ≤ a && decide (a < slotAddr sh 0 + 0x210000)
    && ((0x200 ≤ a % 0x1000 && decide (a % 0x1000 < 0xA00)) || (!bit sh.reduce 1 && 0x100 ≤ a % 0x1000 && decide (a % 0x1000 < 0x200)))

/-- A buffer's histograms are clear. -/
def State.bufferCleared (s : State) (sh : Shot) : State := { s with stackMem := Tab.clear s.stackMem (reclaimed sh) }

theorem reclaim_eq (s : State) (sh : Shot) :
    s.reclaim sh = (s.bufferCleared sh).stackWrite (descAddr sh + 0x7C) (fillingBytes sh.seq.toNat) := rfl

/-- A byte of a histogram of the buffer. -/
theorem reclaim_clears (s : State) (sh : Shot) {a : Nat} (h1 : slotAddr sh 0 ≤ a) (h2 : a < slotAddr sh 0 + 0x210000) (h3 : 0x200 ≤ a % 0x1000)
    (h4 : a % 0x1000 < 0xA00) : (s.reclaim sh).stackMem.read a = 0 := by
  have hlow : a < descAddr sh + 0x7C := by
    rw [slotAddr_base] at h2
    unfold descAddr
    omega
  have hclear : reclaimed sh a = true := by
    unfold reclaimed
    simp only [Bool.and_eq_true, Bool.or_eq_true, decide_eq_true_eq]
    exact ⟨⟨h1, h2⟩, .inl ⟨h3, h4⟩⟩
  rw [reclaim_eq, stackWrite_outside _ (.inl hlow)]
  exact (Tab.get_clear (0 : Byte) s.stackMem _ a).trans (if_pos hclear)

/-- FILLING of the buffer's descriptor. -/
theorem reclaim_fills (s : State) (sh : Shot) (hr : s.runs (pSbank 0) = true) : (s.reclaim sh).stackMem.read (descAddr sh + 0x7F) = 0x80 := by
  obtain ⟨hlen, hbyte⟩ := fillingBytes_shows sh.seq.toNat
  have hbank : (descAddr sh + 0x7C + 3) / 0x1000 % 16 = 0 := by
    unfold descAddr
    omega
  rw [reclaim_eq]
  refine (stackWrite_inside _ (a := descAddr sh + 0x7C) (by rw [hlen]; decide) ?_).trans hbyte
  rw [hbank]
  exact hr

theorem reclaim_frame (s : State) (sh : Shot) : ShotFrame false s (s.reclaim sh) := by
  have h : ShotFrame false s (s.bufferCleared sh) := (ShotFrame.refl false s).same rfl rfl
  rw [reclaim_eq]
  generalize s.bufferCleared sh = u at *
  exact h.trans (stackWrite_frame _ _ _)

/-! ### SHOT_OPEN (R73, R145) -/

theorem codeShown_frame (s : State) (c : ReadyCode) : ShotFrame false s (s.showCode c) := by
  have hpos : ∀ i < 8, ¬shotKey false (EMT.CODE_POS i).key := fun i hi => by
    refine shotKey_page ?_ ?_ <;> simp only [EMT.CODE_POS, fld_key, pageBits, pACQ, pPWR] <;> omega
  have h : ShotFrame false s ((List.range 8).foldl (fun s i => s.wr (EMT.CODE_POS i) (c.pos.getD i 0x1FF)) s) :=
    (ShotFrame.refl false s).foldl fun v i hi => (ShotFrame.refl false v).wr _ _ (hpos i (List.mem_range.mp hi))
  unfold State.showCode
  extract_lets s1 s2
  have hs1 : ShotFrame false s s1 := h
  clear_value s1
  have hs2 : ShotFrame false s s2 := (hs1.put EMT.CODE_FALLBACK _ (shotKey_page (by decide) (by decide))).put EMT.ST_CODE_FALLBACK _
    (shotKey_page (by decide) (by decide))
  exact .ite (fun _ => hs2.put EMT.INT_CODE_FALLBACK true (shotKey_page (by decide) (by decide))) fun _ => hs2

/-- The frame whose code the first SHOT_OPEN has settled. -/
def Frame.coded (f : Frame) (c : ReadyCode × Bool) : Frame := { f with code := c.1.pos, fallback := c.1.fallback }

/-- A late frame raises LATE_START. -/
def State.lateNoted (s : State) (late : Bool) : State := if late then s.raise ACQ.INT_LATE_START else s

/-- EMT shows the frame's code and drops it. -/
def State.codeTaken (s : State) (on : Bool) (c : ReadyCode) : State := if on then { s.showCode c with emt.ready := none } else s

theorem openFirst_eq (s : State) (f : Frame) : s.openFirst f
    = { (s.lateNoted (s.firstCode f).2).codeTaken (s.runs pEMT) (s.firstCode f).1 with acq.fso := true, acq.frame := some (f.coded (s.firstCode f)) } := by
  unfold State.openFirst
  generalize s.firstCode f = c
  rfl

theorem lateNoted_frame (s : State) (late : Bool) : ShotFrame false s (s.lateNoted late) :=
  .ite (fun _ => (ShotFrame.refl false s).put ACQ.INT_LATE_START true (by
    rintro (h | h | h | ⟨-, h⟩)
    · exact absurd h (by decide)
    · exact absurd h (by decide)
    · exact absurd h (by decide)
    · exact absurd h (by decide))) fun _ => .refl false s

theorem codeTaken_frame (s : State) (on : Bool) (c : ReadyCode) : ShotFrame false s (s.codeTaken on c) := by
  have h := codeShown_frame s c
  unfold State.codeTaken
  generalize s.showCode c = u at *
  exact .ite (fun _ => h.same rfl rfl) fun _ => .refl false s

theorem openFirst_shows {f : Frame} (hf : s.acq.frame = some f) : ShotFrame false s (s.openFirst f)
    ∧ (s.openFirst f).acq.frame = some (f.coded (s.firstCode f)) := by
  have h := (lateNoted_frame s (s.firstCode f).2).trans (codeTaken_frame _ (s.runs pEMT) (s.firstCode f).1)
  rw [openFirst_eq]
  have hcut : (some (f.coded (s.firstCode f))).map Frame.cut = s.acq.frame.map Frame.cut := by rw [hf]; rfl
  generalize (s.lateNoted (s.firstCode f).2).codeTaken (s.runs pEMT) (s.firstCode f).1 = u at *
  have hu : u.acq.frame.map Frame.cut = s.acq.frame.map Frame.cut := congrArg (fun x => x.2.1) h.part
  have hframe : ShotFrame false s { u with acq.frame := some (f.coded (s.firstCode f)) } := h.frame (hcut.trans hu.symm)
  exact ⟨hframe.same rfl rfl, rfl⟩

/-- The state in which a shot opens. -/
def State.gridReady (s : State) (f : Frame) : State := if f.next = 0 then (s.takeHalt pEMT).openFirst f else s.takeHalt pEMT

theorem takeHalt_emt_frame (s : State) : (s.takeHalt pEMT).acq.frame = s.acq.frame := by
  have hunit (t : State) : t.unitHalts pEMT = t ∧ t.unitResumes pEMT = t := ⟨rfl, rfl⟩
  unfold State.takeHalt
  rw [(hunit _).1, (hunit _).2]
  split
  · rfl
  · split <;> rfl

theorem gridReady_shows {f : Frame} (hf : s.acq.frame = some f) : ShotFrame false s (s.gridReady f)
    ∧ ∃ g, (s.gridReady f).acq.frame = some g ∧ g.next = f.next ∧ g.ncol = f.ncol ∧ g.accession = f.accession ∧ g.gen = f.gen
      ∧ g.engineMap = f.engineMap := by
  have h : ShotFrame false s (s.takeHalt pEMT) := takeHalt_shotFrame s (.inl rfl)
  have hframe := (takeHalt_emt_frame s).trans hf
  unfold State.gridReady
  generalize s.takeHalt pEMT = u at *
  split
  · obtain ⟨h1, h2⟩ := openFirst_shows hframe
    exact ⟨h.trans h1, _, h2, rfl, rfl, rfl, rfl, rfl⟩
  · exact ⟨h, f, hframe, rfl, rfl, rfl, rfl, rfl⟩

theorem exec_shotOpen {f g : Frame} (hrun : s.runs pACQ = true) (hf : s.acq.frame = some f) (hsh : s.acq.shot = none) (hnext : f.next < f.ncol)
    (hg : (s.gridReady f).acq.frame = some g) : exec .shotOpen s = .next (((s.gridReady f).openShot g).clashAtOpen) := by
  refine congrArg Host.Outcome.next ?_
  rw [hf]
  refine (if_neg fun h => ?_).trans ?_
  · rw [Bool.or_eq_true, Bool.or_eq_true, hrun, State.inShot, hsh, decide_eq_true_eq] at h
    exact h.elim (fun h => h.elim (absurd · Bool.false_ne_true) (absurd · Bool.false_ne_true)) (Nat.not_le.mpr hnext)
  · have hready : (if f.next = 0 then (s.takeHalt pEMT).openFirst f else s.takeHalt pEMT) = s.gridReady f := rfl
    dsimp only
    rw [hready, hg]

theorem rawDecide_frame (s : State) (f : Frame) (c : Nat) : ShotFrame false s (s.rawDecide f c).1 := by
  have hdrop : ¬shotKey false ACQ.RAW_DROPPED.key ∧ ¬shotKey false ACQ.INT_RAW_DROP.key := by
    constructor <;> rintro (h | h | h | ⟨-, h⟩) <;> exact absurd h (by decide)
  unfold State.rawDecide
  split
  · exact .refl false s
  · extract_lets drop _ s1
    have hs1 : ShotFrame false s s1 := by
      unfold s1
      split
      · exact (ShotFrame.refl false s).same rfl rfl
      · exact .refl false s
    clear_value s1
    split
    · exact hs1
    · split
      · exact hs1
      · exact (hs1.count _ _ hdrop.1).put _ _ hdrop.2

theorem clearChannels_frame (s : State) : ShotFrame false s s.clearChannels := by
  have h (t u : State) (f : State → State) (hf : ∀ v, (f v).regs = v.regs ∧ (f v).shotPart false = v.shotPart false) (e : f t = u) :
      ShotFrame false t u := by
    rw [← e]
    exact (ShotFrame.refl false t).same (congrArg Regs.cur (hf t).1) (hf t).2
  exact h s s.clearChannels State.clearChannels (fun v => ⟨rfl, rfl⟩) rfl

/-- The buffer is cleared and the column shows. -/
def State.bufferTaken (s : State) (sh : Shot) : State := (s.clearChannels.reclaim sh).wr ACQ.COLUMN sh.column

/-- EMT's level shows, and the shot is open. -/
def State.shotBegun (s0 s : State) (f : Frame) (sh : Shot) : State :=
  let s3 := if sh.emtReset then s else s.wr EMT.DERATE_LEVEL sh.derate
  let sf := if sh.emtReset || s0.on (C.HALTED pEMT) then s0.pins.sf else s3.shuntFrames sh.pattern sh.column sh.derate
  { s3 with
    acq.shot := some sh, acq.nextSeq := s0.acq.nextSeq + 1, emt.token := none, pins.sf := sf, saf.since1 := 0, saf.since2 := 0
    acq.frame := some ({ f with next := f.next + 1 }.derated sh) }

theorem derated_shows (f : Frame) (sh : Shot) : (f.derated sh).next = f.next ∧ (f.derated sh).accession = f.accession
    ∧ (f.derated sh).ncol = f.ncol := by
  unfold Frame.derated
  split <;> exact ⟨rfl, rfl, rfl⟩

theorem shotBegun_shows (s0 s : State) (f : Frame) (sh : Shot) : (s0.shotBegun s f sh).acq.shot = some sh
    ∧ (s0.shotBegun s f sh).acq.frame = some ({ f with next := f.next + 1 }.derated sh) ∧ (s0.shotBegun s f sh).acq.nextSeq = s0.acq.nextSeq + 1
    ∧ (s0.shotBegun s f sh).emt.token = none ∧ (s0.shotBegun s f sh).rd ACQ.COLUMN = s.rd ACQ.COLUMN
    ∧ (s0.shotBegun s f sh).stackMem = s.stackMem := by
  unfold State.shotBegun
  extract_lets s3 sf
  have h : s3.rd ACQ.COLUMN = s.rd ACQ.COLUMN ∧ s3.stackMem = s.stackMem := by
    unfold s3
    split
    · exact ⟨rfl, rfl⟩
    · exact ⟨State.rd_wr_ne _ _ _ _ (by decide), rfl⟩
  clear_value s3
  exact ⟨rfl, rfl, rfl, rfl, h.1, h.2⟩

/-- The state and the shot as the ring has been asked. -/
def State.shotTaken (s : State) (f : Frame) : Shot := (s.rawDecide f f.next).1.newShot f (s.rawDecide f f.next).2

theorem shotTaken_eq (s : State) (f : Frame) : s.shotTaken f = (s.rawDecide f f.next).1.newShot f (s.rawDecide f f.next).2 := rfl

theorem openShot_eq (s : State) (f : Frame) :
    s.openShot f = s.shotBegun ((s.rawDecide f f.next).1.bufferTaken (s.shotTaken f)) f (s.shotTaken f) := by
  unfold State.openShot State.shotTaken
  generalize s.rawDecide f f.next = x
  obtain ⟨u, raw⟩ := x
  dsimp only
  generalize u.newShot f raw = sh
  rfl

theorem newShot_tags (s : State) (f : Frame) (raw : Bool) : (s.newShot f raw).seq = s.acq.nextSeq ∧ (s.newShot f raw).accession = f.accession
    ∧ (s.newShot f raw).gen = f.gen ∧ (s.newShot f raw).column = f.next ∧ (s.newShot f raw).engines = f.engineMap := by
  unfold State.newShot
  exact ⟨rfl, rfl, rfl, rfl, rfl⟩

theorem newShot_marks (s : State) (f : Frame) (raw : Bool) : (s.newShot f raw).first = decide (f.next = 0)
    ∧ (s.newShot f raw).last = decide (f.next + 1 = f.ncol) ∧ (s.newShot f raw).fire = none ∧ (s.newShot f raw).tokened = false
    ∧ (s.newShot f raw).windowOpen = false := by
  unfold State.newShot
  exact ⟨rfl, rfl, rfl, rfl, rfl⟩

theorem bufferTaken_shows (s : State) (sh : Shot) : (s.bufferTaken sh).rd ACQ.COLUMN = sh.column % 2 ^ 12
    ∧ (∀ a, slotAddr sh 0 ≤ a → a < slotAddr sh 0 + 0x210000 → 0x200 ≤ a % 0x1000 → a % 0x1000 < 0xA00 → (s.bufferTaken sh).stackMem.read a = 0)
    ∧ (s.runs (pSbank 0) = true → (s.bufferTaken sh).stackMem.read (descAddr sh + 0x7F) = 0x80) := by
  have hrun := (clearChannels_frame s).runs (p := pSbank 0) (by decide)
  unfold State.bufferTaken
  generalize s.clearChannels = u at *
  exact ⟨State.rd_wr_self _ ACQ.COLUMN _, fun a h1 h2 h3 h4 => reclaim_clears u sh h1 h2 h3 h4, fun hr => reclaim_fills u sh (hrun.trans hr)⟩

theorem clashAtOpen_shows (s : State) : s.clashAtOpen.acq = s.acq ∧ s.clashAtOpen.emt = s.emt ∧ s.clashAtOpen.stackMem = s.stackMem
    ∧ s.clashAtOpen.rd ACQ.COLUMN = s.rd ACQ.COLUMN := by
  unfold State.clashAtOpen
  split
  · unfold State.codeClash
    dsimp only
    split
    · exact ⟨rfl, rfl, rfl, rfl⟩
    · refine ⟨rfl, rfl, rfl, ?_⟩
      exact (State.rd_put_ne _ (LANE.INT_CODE_CLASH 5) ACQ.COLUMN true (by decide)).trans (State.rd_wr_ne _ (CTL.CODE_CLASH 1) ACQ.COLUMN _ (by decide))
  · exact ⟨rfl, rfl, rfl, rfl⟩

/-- The shot of the frame's next column opens. -/
theorem shotOpen_shows {f : Frame} (hrun : s.runs pACQ = true) (hf : s.acq.frame = some f) (hsh : s.acq.shot = none) (hnext : f.next < f.ncol) :
    ∃ t sh g, exec .shotOpen s = .next t ∧ t.acq.shot = some sh ∧ t.acq.frame = some g
      ∧ sh.seq = s.acq.nextSeq ∧ t.acq.nextSeq = s.acq.nextSeq + 1 ∧ sh.accession = f.accession ∧ sh.gen = f.gen
      ∧ sh.column = f.next ∧ g.next = f.next + 1 ∧ sh.first = decide (f.next = 0) ∧ sh.last = decide (f.next + 1 = f.ncol)
      ∧ sh.fire = none ∧ sh.tokened = false ∧ sh.windowOpen = false ∧ sh.engines = f.engineMap
      ∧ t.emt.token = none ∧ t.rd ACQ.COLUMN = f.next % 2 ^ 12 ∧ g.accession = f.accession ∧ g.ncol = f.ncol
      ∧ (∀ a, slotAddr sh 0 ≤ a → a < slotAddr sh 0 + 0x210000 → 0x200 ≤ a % 0x1000 → a % 0x1000 < 0xA00 → t.stackMem.read a = 0)
      ∧ (s.runs (pSbank 0) = true → t.stackMem.read (descAddr sh + 0x7F) = 0x80) := by
  obtain ⟨hframe, g, hg, e1, e2, e3, e4, e5⟩ := gridReady_shows hf
  have hseq : (s.gridReady f).acq.nextSeq = s.acq.nextSeq := congrArg (fun x => x.2.2.2.2.2.1) hframe.part
  have hbank := hframe.runs (p := pSbank 0) (by decide)
  have hexec := exec_shotOpen hrun hf hsh hnext hg
  generalize s.gridReady f = u at *
  have hbank' := (rawDecide_frame u g g.next).runs (p := pSbank 0) (by decide)
  obtain ⟨k1, k2, k3, k4, k10⟩ := newShot_tags (u.rawDecide g g.next).1 g (u.rawDecide g g.next).2
  obtain ⟨k5, k6, k7, k8, k9⟩ := newShot_marks (u.rawDecide g g.next).1 g (u.rawDecide g g.next).2
  have kseq : (u.rawDecide g g.next).1.acq.nextSeq = u.acq.nextSeq := congrArg (fun x => x.2.2.2.2.2.1) (rawDecide_frame u g g.next).part
  rw [← shotTaken_eq] at k1 k2 k3 k4 k5 k6 k7 k8 k9 k10
  obtain ⟨b1, b2, b3⟩ := bufferTaken_shows (u.rawDecide g g.next).1 (u.shotTaken g)
  obtain ⟨c1, c2, c3, c4⟩ := clashAtOpen_shows (u.openShot g)
  have heq := openShot_eq u g
  generalize (u.rawDecide g g.next).1.bufferTaken (u.shotTaken g) = v at *
  generalize u.shotTaken g = sh at *
  obtain ⟨m1, m2, m3, m4, m5, m6⟩ := shotBegun_shows u v g sh
  rw [← heq] at m1 m2 m3 m4 m5 m6
  generalize u.openShot g = w at *
  obtain ⟨d1, d2, d3⟩ := derated_shows { g with next := g.next + 1 } sh
  refine ⟨_, sh, _, hexec, (congrArg AcqState.shot c1).trans m1, (congrArg AcqState.frame c1).trans m2, k1.trans (kseq.trans hseq),
    (congrArg AcqState.nextSeq c1).trans (m3.trans (congrArg (· + 1) hseq)), k2.trans e3, k3.trans e4, k4.trans e1, d1.trans (congrArg (· + 1) e1),
    k5.trans (by rw [e1]), k6.trans (by rw [e1, e2]), k7, k8, k9, k10.trans e5, (congrArg EmtState.token c2).trans m4, ?_, d2.trans e3, d3.trans e2,
    fun a h1 h2 h3 h4 => ?_, fun hr => ?_⟩
  · rw [c4, m5, b1, k4, e1]
  · rw [c3, m6]
    exact b2 a h1 h2 h3 h4
  · rw [c3, m6]
    exact b3 (hbank'.trans (hbank.trans hr))

end

end Sys2Proof.Machine
end

section
/-! PROOFS. The opening of the listening window (R120, R123). -/
namespace Sys2Proof.Machine
open Sys2Proof

section
variable {s : State}

/-! ### The window opens (R120, R123) -/

theorem arm_fired {sh : Shot} (hsh : s.acq.shot = some sh) (hfire : sh.fire ≠ none) : s.arm = s := by
  unfold State.arm
  rw [hsh]
  exact if_pos (by rw [Option.isSome_iff_ne_none.mpr hfire]; rfl)

/-- Only what DET and the banks keep has changed. -/
def DetOnly (s t : State) : Prop := t = { s with det := t.det }

theorem DetOnly.trans {t u : State} (h : DetOnly s t) (h' : DetOnly t u) : DetOnly s u := by
  unfold DetOnly at h'
  rw [h] at h'
  exact h'

theorem DetOnly.foldl {α : Type} {f : State → α → State} {l : List α} (hf : ∀ v, ∀ a ∈ l, DetOnly v (f v a)) (s : State) : DetOnly s (l.foldl f s) :=
  List.foldlRecOn (motive := fun v => DetOnly s v) l f rfl fun v hv a ha => hv.trans (hf v a ha)

theorem DetOnly.runs {t : State} (h : DetOnly s t) (p : Nat) : t.runs p = s.runs p := by rw [h]; rfl
theorem DetOnly.on {t : State} (h : DetOnly s t) (f : Fld) : t.on f = s.on f := by rw [h]; rfl

theorem openBank_only (s : State) (b : Nat) : DetOnly s (s.openBank b) := rfl

/-- A bank's part in the window. -/
def State.takesPart (s : State) (b : Nat) : Bool := s.runs (pBank b) && s.on (BANK.DLL_LOCKED b) && !s.on (C.HALTED (pBank b))

theorem DetOnly.takesPart {t : State} (h : DetOnly s t) (b : Nat) : t.takesPart b = s.takesPart b := by
  unfold State.takesPart
  rw [h.runs, h.on, h.on]

theorem openBank_shows (s : State) (b : Nat) : ((s.openBank b).bank b).open_ = s.takesPart b ∧ ((s.openBank b).bank b).invalid = !s.takesPart b := by
  have h : (s.openBank b).bank b = { s.bank b with open_ := s.takesPart b, invalid := !s.takesPart b } := Tab.get_set_self _ _ _ _
  rw [h]
  exact ⟨rfl, rfl⟩

/-- A channel's last event of before the window is gone. -/
def State.lastGone (s : State) (c : Nat) : State := s.setEvents c { s.events c with lastCode := none }

/-- A section's events of before the window are gone. -/
def State.flightGone (s : State) (j : Nat) : State := { s with det.flight := s.det.flight.filter fun e => secOf e.1 != j }

theorem openSection_eq (s : State) (j : Nat) : s.openSection j
    = if !s.on (C.HALTED (pDet j)) then s.setSection j { s.section_ j with haltedAtOpen := s.on (C.HALTED (pDet j)) }
      else (secChannels j).foldl State.lastGone ((s.setSection j { s.section_ j with haltedAtOpen := s.on (C.HALTED (pDet j)) }).flightGone j) := rfl

theorem eventsGone_shows (l : List Nat) (s : State) : DetOnly s (l.foldl State.lastGone s)
    ∧ (l.foldl State.lastGone s).det.banks = s.det.banks ∧ (l.foldl State.lastGone s).det.sections = s.det.sections :=
  ⟨DetOnly.foldl (f := State.lastGone) (fun _ _ _ => rfl) s,
    foldl_keeps (f := State.lastGone) (fun t : State => t.det.banks) (fun _ _ _ => rfl) s,
    foldl_keeps (f := State.lastGone) (fun t : State => t.det.sections) (fun _ _ _ => rfl) s⟩

theorem openSection_shows (s : State) (j : Nat) : DetOnly s (s.openSection j) ∧ (s.openSection j).det.banks = s.det.banks
    ∧ ((s.openSection j).section_ j).haltedAtOpen = s.on (C.HALTED (pDet j)) ∧ ∀ i, i ≠ j → (s.openSection j).section_ i = s.section_ i := by
  have h : DetOnly s (s.setSection j { s.section_ j with haltedAtOpen := s.on (C.HALTED (pDet j)) })
      ∧ (s.setSection j { s.section_ j with haltedAtOpen := s.on (C.HALTED (pDet j)) }).det.banks = s.det.banks
      ∧ ((s.setSection j { s.section_ j with haltedAtOpen := s.on (C.HALTED (pDet j)) }).section_ j).haltedAtOpen = s.on (C.HALTED (pDet j))
      ∧ ∀ i, i ≠ j → (s.setSection j { s.section_ j with haltedAtOpen := s.on (C.HALTED (pDet j)) }).section_ i = s.section_ i :=
    ⟨rfl, rfl, congrArg Section.haltedAtOpen (Tab.get_set_self _ _ _ _), fun i hi => Tab.get_set_ne _ _ _ _ hi⟩
  rw [openSection_eq]
  generalize s.setSection j { s.section_ j with haltedAtOpen := s.on (C.HALTED (pDet j)) } = u at *
  obtain ⟨h1, h2, h3, h4⟩ := h
  split
  · exact ⟨h1, h2, h3, h4⟩
  · obtain ⟨k1, k2, k3⟩ := eventsGone_shows (secChannels j) (u.flightGone j)
    generalize (secChannels j).foldl State.lastGone (u.flightGone j) = v at *
    have hsec (i : Nat) : v.section_ i = u.section_ i := congrArg (fun x : Tab Section => Tab.get ({} : Section) x i) k3
    have hdet : DetOnly u (u.flightGone j) := rfl
    exact ⟨h1.trans (hdet.trans k1), k2.trans h2, (congrArg Section.haltedAtOpen (hsec j)).trans h3, fun i hi => (hsec i).trans (h4 i hi)⟩

/-- The banks take part as they stand. -/
def State.banksTaken (s : State) : State := (List.range 33).foldl State.openBank s

theorem banksTaken_shows (s : State) : DetOnly s s.banksTaken
    ∧ ∀ b < 33, (s.banksTaken.bank b).open_ = s.takesPart b ∧ (s.banksTaken.bank b).invalid = !s.takesPart b := by
  refine ⟨DetOnly.foldl (f := State.openBank) (l := List.range 33) (fun t b _ => openBank_only t b) s, fun b hb => ?_⟩
  refine foldl_reach_once (f := State.openBank) (l := List.range 33) (P := fun t => (t.bank b).open_ = s.takesPart b ∧ (t.bank b).invalid = !s.takesPart b)
    (Q := fun t => DetOnly s t) (List.mem_range.mpr hb) List.nodup_range (fun t m _ _ ht => ht.trans (openBank_only t m)) (fun t ht => ?_)
    (fun t m _ hne ht => ?_) s rfl
  · rw [← ht.takesPart b]
    exact openBank_shows t b
  · have h : (t.openBank m).bank b = t.bank b := Tab.get_set_ne _ _ _ _ (Ne.symm hne)
    rw [h]
    exact ht

theorem sectionsOpened_shows (l : List Nat) (s : State) (hl : l.Nodup) : DetOnly s (l.foldl State.openSection s)
    ∧ (l.foldl State.openSection s).det.banks = s.det.banks
    ∧ ∀ j ∈ l, ((l.foldl State.openSection s).section_ j).haltedAtOpen = s.on (C.HALTED (pDet j)) := by
  refine ⟨DetOnly.foldl (f := State.openSection) (l := l) (fun t j _ => (openSection_shows t j).1) s,
    foldl_keeps (f := State.openSection) (l := l) (fun t : State => t.det.banks) (fun t j _ => (openSection_shows t j).2.1) s, fun j hj => ?_⟩
  refine foldl_reach_once (f := State.openSection) (l := l) (P := fun t => (t.section_ j).haltedAtOpen = s.on (C.HALTED (pDet j)))
    (Q := fun t => DetOnly s t) hj hl (fun t m _ _ ht => ht.trans (openSection_shows t m).1) (fun t ht => ?_)
    (fun t m _ hne ht => ?_) s rfl
  · rw [← ht.on (C.HALTED (pDet j))]
    exact (openSection_shows t j).2.2.1
  · exact (congrArg Section.haltedAtOpen ((openSection_shows t m).2.2.2 j (Ne.symm hne))).trans ht

/-- The sections take part as they stand. -/
def State.sectionsTaken (s : State) : State := (List.range 11).foldl State.openSection s

theorem sectionsTaken_shows (s : State) : DetOnly s s.sectionsTaken ∧ s.sectionsTaken.det.banks = s.det.banks
    ∧ ∀ j < 11, (s.sectionsTaken.section_ j).haltedAtOpen = s.on (C.HALTED (pDet j)) := by
  have h := sectionsOpened_shows (List.range 11) s List.nodup_range
  have hmem (j : Nat) (hj : j < 11) : j ∈ List.range 11 := List.mem_range.mpr hj
  unfold State.sectionsTaken
  generalize List.range 11 = l at *
  obtain ⟨h1, h2, h3⟩ := h
  exact ⟨h1, h2, fun j hj => h3 j (hmem j hj)⟩

theorem windowTaken_shows (s : State) : DetOnly s s.banksTaken.sectionsTaken
    ∧ (∀ b < 33, (s.banksTaken.sectionsTaken.bank b).open_ = s.takesPart b ∧ (s.banksTaken.sectionsTaken.bank b).invalid = !s.takesPart b)
    ∧ ∀ j < 11, (s.banksTaken.sectionsTaken.section_ j).haltedAtOpen = s.on (C.HALTED (pDet j)) := by
  obtain ⟨h1, h2⟩ := banksTaken_shows s
  generalize s.banksTaken = u at *
  obtain ⟨k1, k2, k3⟩ := sectionsTaken_shows u
  generalize u.sectionsTaken = v at *
  refine ⟨h1.trans k1, fun b hb => ?_, fun j hj => (k3 j hj).trans (h1.on _)⟩
  have h : v.bank b = u.bank b := congrArg (fun x : Tab Bank => Tab.get ({} : Bank) x b) k2
  rw [h]
  exact h2 b hb

/-- The window opens. -/
theorem windowOpen_shows {sh : Shot} (hsh : s.acq.shot = some sh) (hfire : sh.fire ≠ none) (hwin : sh.windowOpen = false) :
    ∃ t, exec .windowOpen s = .next t
      ∧ t.acq.shot = some { sh with windowOpen := true, angle := s.rd CONVM.LAST_CODE }
      ∧ (∀ b < 33, (t.bank b).open_ = (s.runs (pBank b) && s.on (BANK.DLL_LOCKED b) && !s.on (C.HALTED (pBank b))))
      ∧ (∀ b < 33, (t.bank b).invalid = !(t.bank b).open_)
      ∧ (∀ j < 11, (t.section_ j).haltedAtOpen = s.on (C.HALTED (pDet j)))
      ∧ t = { s with acq.shot := t.acq.shot, det := t.det } := by
  have hexec : exec .windowOpen s
      = .next { s.banksTaken.sectionsTaken with acq.shot := some { sh with windowOpen := true, angle := s.rd CONVM.LAST_CODE } } := by
    show execWindowOpen s = _
    unfold execWindowOpen
    rw [arm_fired hsh hfire, hsh]
    dsimp only
    rw [if_neg (by rw [hwin]; exact Bool.false_ne_true)]
    unfold State.banksTaken State.sectionsTaken
    rfl
  obtain ⟨h1, h2, h3⟩ := windowTaken_shows s
  rw [hexec]
  clear hexec
  generalize s.banksTaken.sectionsTaken = u at *
  refine ⟨_, rfl, rfl, fun b hb => (h2 b hb).1, fun b hb => ?_, h3, ?_⟩
  · exact (h2 b hb).2.trans (congrArg (!·) (h2 b hb).1.symm)
  · unfold DetOnly at h1
    conv_lhs => rw [h1]

end

end Sys2Proof.Machine
end

section
/-! PROOFS. What the close of a listening window writes (R91 to R94, R132, R136, R155 to R163, R171, R371, R378). -/
namespace Sys2Proof.Machine
open Sys2Proof

section
variable {b : Bool} {s t : State}

/-! ### The last events (R130 to R133, R161) -/

theorem ShotFrame.high (h : ShotFrame b s t) {f : Fld} (hf : 0x26 * pageBits ≤ f.key) (v : Nat) : ShotFrame b s (t.wr f v) :=
  h.wr f v (shotKey_high hf)

theorem sbank_high (b : Nat) : 0x26 * pageBits ≤ (SBANK.CE_COUNT b).key ∧ 0x26 * pageBits ≤ (SBANK.INT_CE b).key
    ∧ 0x26 * pageBits ≤ (SBANK.UE_COUNT b).key ∧ 0x26 * pageBits ≤ (SBANK.LAST_UE_ADDR b).key ∧ 0x26 * pageBits ≤ (SBANK.INT_UE b).key := by
  simp only [SBANK.CE_COUNT, SBANK.INT_CE, SBANK.UE_COUNT, SBANK.LAST_UE_ADDR, SBANK.INT_UE, fld_key, pageBits]
  omega

theorem bankCounts_high (b i : Nat) : 0x26 * pageBits ≤ (BANK.INT_PILEUP b).key ∧ 0x26 * pageBits ≤ (BANK.ECC_EVENTS b).key
    ∧ 0x26 * pageBits ≤ (BANK.OVF_LAST b i).key ∧ 0x26 * pageBits ≤ (BANK.EVENTS_LAST b i).key ∧ 0x26 * pageBits ≤ (BANK.PILEUP_LAST b).key
    ∧ 0x26 * pageBits ≤ (BANK.TAP_HIST b i).key ∧ 0x26 * pageBits ≤ (BANK.HIST_N b).key := by
  simp only [BANK.INT_PILEUP, BANK.ECC_EVENTS, BANK.OVF_LAST, BANK.EVENTS_LAST, BANK.PILEUP_LAST, BANK.TAP_HIST, BANK.HIST_N, fld_key, pageBits]
  omega

theorem ShotFrame.faultHigh (h : ShotFrame b s t) {p : Nat} (hp : 0x26 ≤ p) (i : Nat) : ShotFrame b s (t.fault p i) :=
  h.fault p i (by rw [pACQ]; omega) (by rw [pPWR]; omega)

theorem stackEcc_shotFrame (s : State) (addr : Nat) (found : Ecc) : ShotFrame b s (s.stackEcc addr found) := by
  unfold State.stackEcc
  extract_lets n
  obtain ⟨k1, k2, k3, k4, k5⟩ := sbank_high n
  cases found with
  | clean => exact .refl b s
  | single => exact ((ShotFrame.refl b s).high k1 _).high k2 _
  | double => exact ((((ShotFrame.refl b s).high k3 _).high k4 _).high k5 _).faultHigh (Nat.le_add_right_of_le (by decide)) 0

theorem record_frame (s : State) (sh : Shot) (ch code n : Nat) (histogram : Ecc) : ShotFrame false s (s.record sh ch code n histogram) := by
  unfold State.record
  split
  · exact .refl false s
  · refine .ite (fun _ => .refl false s) fun _ => ?_
    extract_lets base bin s' m _ s1 s2
    have hs' : ShotFrame false s s' := stackEcc_shotFrame s bin histogram
    clear_value s' m
    have hs1 : ShotFrame false s s1 := .ite (fun _ => hs'.same rfl rfl) fun _ => .refl false s
    clear_value s1
    have hs2 : ShotFrame false s s2 := .ite (fun _ => hs1.same rfl rfl) fun _ => hs1
    clear_value s2
    exact .ite (fun _ => hs2.same rfl rfl) fun _ => hs2

theorem setEvents_frame (s : State) (c : Nat) (x : Events) : ShotFrame b s (s.setEvents c x) := (ShotFrame.refl b s).same rfl rfl

theorem setBank_frame (s : State) (c : Nat) (x : Bank) : ShotFrame b s (s.setBank c x) := (ShotFrame.refl b s).same rfl rfl

theorem deliver_frame (s : State) (sh : Shot) (ch code : Nat) (entry histogram : Ecc) : ShotFrame false s (s.deliver sh ch code entry histogram) := by
  obtain ⟨k1, k2, -⟩ := bankCounts_high (ch / 16) 0
  unfold State.deliver
  extract_lets n e dead s0 s1
  have hs0 : ShotFrame false s s0 := setEvents_frame s ch _
  clear_value s0
  have hset (x : Events) : ShotFrame false s (s0.setEvents ch x) := hs0.trans (setEvents_frame s0 ch x)
  have hs1 : ShotFrame false s s1 := hset _
  clear_value s1
  refine .ite (fun _ => .refl false s) fun _ => .ite (fun _ => hs0) fun _ => .ite (fun _ => ?_) fun _ => .ite (fun _ => ?_) fun _ => ?_
  · exact (hs1.trans (setBank_frame s1 _ _)).high k1 _
  · exact ((hset _).high k2 _).faultHigh (Nat.le_add_right_of_le (by decide)) 0
  · exact (hset _).trans (record_frame _ _ _ _ _ _)

/-- The events on their way have arrived, and no token is left. -/
def State.lastDelivered (s : State) (sh : Shot) : State :=
  s.det.flight.foldl (fun (a : State) e => a.deliver sh e.1 e.2 .clean .clean) { s with det.flight := [], emt.token := none }

/-- No event is on its way, and no token is left. -/
def State.flightEmpty (s : State) : State := { s with det.flight := [], emt.token := none }

theorem flightEmpty_shows (s : State) : s.flightEmpty.shotPart b
    = (s.acq.time, s.acq.frame.map Frame.cut, s.acq.shot, s.acq.closedShot, s.acq.lastBoundary, s.acq.nextSeq, none, s.cat, s.rst.held,
      s.pca.columns, s.pins.eg, if b then s.stackMem else []) := rfl

theorem lastDelivered_frame (s : State) (sh : Shot) : ShotFrame false s.flightEmpty (s.lastDelivered sh) := by
  unfold State.lastDelivered
  generalize s.det.flight = l
  exact (ShotFrame.refl false s.flightEmpty).foldl fun v e _ => deliver_frame v sh e.1 e.2 .clean .clean

/-! ### EMT's report (R91 to R94) -/

theorem norefStep_frame (s : State) (sh : Shot) : ShotFrame b s (s.norefStep sh) := by
  unfold State.norefStep
  refine .ite (fun _ => .refl b s) fun _ => .ite (fun _ => (ShotFrame.refl b s).same rfl rfl) fun _ => ?_
  extract_lets _ s1 s2
  have hs1 : ShotFrame b s s1 := (ShotFrame.refl b s).same rfl rfl
  clear_value s1
  have hs2 : ShotFrame b s s2 := (hs1.put EMT.INT_NO_REF true (shotKey_page (by decide) (by decide))).inFrameDo fun _ => rfl
  clear_value s2
  exact .ite (fun _ => hs2.fault pEMT 0 (by decide) (by decide)) fun _ => hs2

/-- The unfired shot counts. -/
def State.unfiredCounted (s : State) : State := { s with emt.unfired := s.emt.unfired + 1 }

theorem emtReport_frame (s : State) (sh : Shot) : ShotFrame b s (s.emtReport sh) := by
  unfold State.emtReport
  extract_lets fired s1 _ s2 post
  have hs1 : ShotFrame b s s1 := by
    have h := ((ShotFrame.refl b s).wr EMT.T0_LAST sh.t0 (shotKey_page (by decide) (by decide))).trans (norefStep_frame _ sh)
    unfold s1
    generalize (s.wr EMT.T0_LAST sh.t0).norefStep sh = u at *
    exact .ite (fun _ => h) fun _ => (ShotFrame.refl b s).inFrameDo fun _ => rfl
  clear_value s1
  have hs2 : ShotFrame b s s2 := .ite (fun _ => hs1) fun _ =>
    ((hs1.same (u := s1.unfiredCounted) rfl rfl).put EMT.INT_UNFIRED true (shotKey_page (by decide) (by decide)))
  clear_value s2
  exact .ite (fun _ => hs1) fun _ => hs2.same rfl rfl

theorem drew_frame (s : State) (n : Nat) : ShotFrame b s (s.drew n) := (ShotFrame.refl b s).same rfl rfl

theorem publishTim_frame (s : State) (n : Nat) : ShotFrame b s (s.publishTim n) := by
  have hkey (i : Nat) : 0x26 * pageBits ≤ (TIM.EDGES_LAST n).key ∧ 0x26 * pageBits ≤ (TIM.OVF_LAST n).key ∧ 0x26 * pageBits ≤ (TIM.STAMP i).key := by
    simp only [TIM.EDGES_LAST, TIM.OVF_LAST, TIM.STAMP, fld_key, pageBits]
    omega
  unfold State.publishTim
  extract_lets x s1
  have hs1 : ShotFrame b s s1 := ((ShotFrame.refl b s).high (hkey 0).1 _).high (hkey 0).2.1 _
  clear_value s1 x
  exact .ite (fun _ => .refl b s) fun _ => hs1.foldl fun v e _ => (ShotFrame.refl b v).high (hkey _).2.2 _

/-- What identifies a shot, and the map of its engines. -/
def Shot.tags (sh : Shot) := (sh.seq, sh.accession, sh.gen, sh.column, sh.first, sh.last, sh.engines)

theorem reference_tags (s : State) (sh : Shot) : (s.reference sh).1.tags = sh.tags := by
  unfold State.reference
  extract_lets eff open_ acc
  have h : open_.tags = sh.tags := rfl
  clear_value open_
  split
  · exact h
  · split
    · rfl
    · split
      · exact h
      · split
        · exact h
        · rfl

/-! ### The banks, the slots and the descriptor (R132, R136, R155 to R163) -/

theorem chanClose_frame (s : State) (ch : Nat) : ShotFrame b s (s.chanClose ch) := by
  obtain ⟨-, -, k3, k4, -⟩ := bankCounts_high (ch / 16) (ch % 16)
  unfold State.chanClose
  extract_lets n c s1
  have hs1 : ShotFrame b s s1 := .ite (fun _ => .refl b s) fun _ => (ShotFrame.refl b s).same rfl rfl
  clear_value s1
  exact .ite (fun _ => hs1) fun _ => (hs1.high k3 _).high k4 _

theorem bankClose_frame (s : State) (n : Nat) : ShotFrame b s (s.bankClose n) := by
  obtain ⟨-, -, -, -, k5, -⟩ := bankCounts_high n 0
  unfold State.bankClose
  extract_lets x invalid s1
  have hs1 : ShotFrame b s s1 := setBank_frame s n _
  clear_value s1
  exact .ite (fun _ => hs1.high k5 _) fun _ => hs1

theorem stackWords_frame (s : State) (a : Nat) (ws : List Nat) : ShotFrame false s (s.stackWords a ws) := stackWrite_frame s a _

theorem slotClose_frame (s : State) (sh : Shot) (slot : Nat) : ShotFrame false s (s.slotClose sh slot) := by
  unfold State.slotClose
  extract_lets base s1
  have hs1 : ShotFrame false s s1 := stackWords_frame s base _
  clear_value s1
  split
  · exact .ite (fun _ => hs1.same rfl rfl) fun _ => hs1
  · exact hs1

/-- The banks and the slots show the shot. -/
def State.buffersSwapped (s : State) (sh : Shot) : State :=
  (List.range 528).foldl (fun (a : State) k => a.slotClose sh k) ((List.range 33).foldl State.bankClose ((List.range 528).foldl State.chanClose s))

theorem buffersSwapped_frame (s : State) (sh : Shot) : ShotFrame false s (s.buffersSwapped sh) := by
  unfold State.buffersSwapped
  generalize List.range 528 = chans
  generalize List.range 33 = banks
  have h1 : ShotFrame false s (chans.foldl State.chanClose s) := (ShotFrame.refl false s).foldl fun v c _ => chanClose_frame v c
  generalize chans.foldl State.chanClose s = u at *
  have h2 : ShotFrame false s (banks.foldl State.bankClose u) := h1.foldl fun v c _ => bankClose_frame v c
  generalize banks.foldl State.bankClose u = v at *
  exact h2.foldl fun w k _ => slotClose_frame w sh k

theorem rawWrite_frame (s : State) (sh : Shot) : ShotFrame false s (s.rawWrite sh) := by
  unfold State.rawWrite
  extract_lets bs room s1 used
  have hs1 : ShotFrame false s s1 := (stackWrite_frame s _ _).trans (stackWrite_frame _ _ _)
  clear_value s1
  refine .ite (fun _ => .refl false s) fun _ => ShotFrame.wr ?_ _ _ ?_
  · exact hs1.same rfl rfl
  rintro (h | h | h | ⟨-, h⟩) <;> exact absurd h (by decide)

/-- The ring lies above the descriptors (R160). -/
theorem rawWrite_below (s : State) (sh : Shot) {a : Nat} (ha : a < 0x430000) : (s.rawWrite sh).stackMem.read a = s.stackMem.read a := by
  unfold State.rawWrite
  extract_lets bs room s1 used
  have hs1 : s1.stackMem.read a = s.stackMem.read a :=
    (stackWrite_outside _ (.inl ha)).trans (stackWrite_outside s (.inl (Nat.lt_add_right _ ha)))
  clear_value s1
  split
  · rfl
  · exact hs1

/-- The first two words of a shot's descriptor. -/
theorem descriptor_tags (sh : Shot) : ∃ l, (descriptor sh).flatMap (leBytes 4) = (leBytes 4 sh.accession.toNat ++ leBytes 4 sh.gen.toNat) ++ l := by
  unfold descriptor
  extract_lets code
  rw [List.cons_append, List.cons_append, List.cons_append, List.cons_append, List.flatMap_cons, List.flatMap_cons, ← List.append_assoc]
  exact ⟨_, rfl⟩

theorem descriptorWritten_shows (s : State) (sh : Shot) (hr : s.runs (pSbank 0) = true) :
    (List.range 8).map (fun i => (s.stackWords (descAddr sh) (descriptor sh)).stackMem.read (descAddr sh + i))
      = leBytes 4 sh.accession.toNat ++ leBytes 4 sh.gen.toNat := by
  obtain ⟨l, hl⟩ := descriptor_tags sh
  have hlen : (leBytes 4 sh.accession.toNat ++ leBytes 4 sh.gen.toNat).length = 8 := by rw [List.length_append, leBytes_length, leBytes_length]
  unfold State.stackWords
  rw [hl]
  generalize leBytes 4 sh.accession.toNat ++ leBytes 4 sh.gen.toNat = w at *
  refine List.ext_getElem (by rw [List.length_map, List.length_range, hlen]) fun i h1 h2 => ?_
  have hi : i < 8 := by rw [← hlen]; exact h2
  rw [List.getElem_map, List.getElem_range]
  have hbank : (descAddr sh + i) / 0x1000 % 16 = 0 := by
    unfold descAddr
    omega
  rw [stackWrite_inside s (by rw [List.length_append]; omega) (by rw [hbank]; exact hr), List.getD_append _ _ _ _ h2, List.getD_eq_getElem _ _ h2]

/-! ### CAL's part, and the truncation of a frame (R168, R371, R378) -/

theorem collect_frame (s : State) (sh : Shot) (x : Session) (codes : List Nat) (invalid : Bool) : ShotFrame b s (s.collect sh x codes invalid) := by
  have hkeys (c : Nat) := bankCounts_high (x.chan / 16) (c % 32)
  unfold State.collect
  extract_lets n echo s1 found
  have hs1 : ShotFrame b s s1 := by
    unfold s1
    generalize codes.filter (fun c => !echo c) = l
    exact .ite (fun _ => .refl b s) fun _ => (ShotFrame.refl b s).foldl fun v c _ => .ite
      (fun _ => ((ShotFrame.refl b v).high (hkeys c).2.2.2.2.2.1 _).high (hkeys c).2.2.2.2.2.2 _) fun _ => .refl b v
  clear_value s1
  exact hs1.same rfl rfl

theorem strskFinish_frame (s : State) : ShotFrame b s s.strskFinish := by
  have hkey (i : Nat) (hi : i < 8) : ¬shotKey b (CAL.PROP_EG_SKEW i).key := by
    refine shotKey_page ?_ ?_ <;> simp only [CAL.PROP_EG_SKEW, fld_key, pageBits, pACQ, pPWR] <;> omega
  have hl : ∀ i ∈ List.range 8, i < 8 := fun i hi => List.mem_range.mp hi
  unfold State.strskFinish
  generalize List.range 8 = l at *
  extract_lets s1
  have hs1 : ShotFrame b s s1 := (ShotFrame.refl b s).foldl fun v i hi => (ShotFrame.refl b v).wr _ _ (hkey i (hl i hi))
  clear_value s1
  exact ((hs1.trans (drew_frame s1 8)).put CAL.ST_STRSK_BUSY false (shotKey_page (by decide) (by decide))).put CAL.INT_STRSK_DONE true
    (shotKey_page (by decide) (by decide))

theorem strskShot_frame (s : State) (sh : Shot) : ShotFrame b s (s.strskShot sh) := by
  unfold State.strskShot
  split
  · exact .refl b s
  · refine .ite (fun _ => .refl b s) fun _ => ?_
    extract_lets o _ s1 _ s2
    have hs1 : ShotFrame b s s1 := .ite (fun _ => .refl b s) fun _ => (ShotFrame.refl b s).same rfl rfl
    clear_value s1
    have hs2 : ShotFrame b s s2 := hs1.same rfl rfl
    clear_value s2
    exact .ite (fun _ => hs2.trans (strskFinish_frame s2)) fun _ => hs2

theorem calShot_frame (s : State) (sh : Shot) : ShotFrame b s (s.calShot sh) := by
  unfold State.calShot
  generalize s.cal.sessions.filter (fun x => x.stale) = l
  extract_lets s1
  have hs1 : ShotFrame b s s1 := (ShotFrame.refl b s).foldl fun v x _ => collect_frame v sh x _ _
  clear_value s1
  exact .ite (fun _ => .refl b s) fun _ => hs1.trans (strskShot_frame s1 sh)

theorem truncate_frame (s : State) (sh : Shot) : ShotFrame b s (s.truncate sh) := by
  have hkey : ¬shotKey b ACQ.ST_TRUNCATING.key ∧ ¬shotKey b ACQ.INT_TRUNCATED.key := by
    constructor <;> rintro (h | h | h | ⟨-, h⟩) <;> exact absurd h (by decide)
  unfold State.truncate
  exact .ite (fun _ => .refl b s) fun _ => 
    (((ShotFrame.refl b s).inFrameDo (f := fun f : Frame => { f with truncated := true, firstTrunc := sh.column + 1 }) fun _ => rfl).put
      _ _ hkey.1).put _ _ hkey.2

end

end Sys2Proof.Machine
end

section
/-! PROOFS. The close of a shot's window up to the shot boundary (R73, R144, R163). -/
namespace Sys2Proof.Machine
open Sys2Proof

section
variable {s : State}

/-! ### The shot goes on to PCA and the combiner -/

theorem passShot_shows (s : State) (sh : Shot) : (s.passShot sh).acq.shot = none ∧ (s.passShot sh).acq.closedShot = some sh
    ∧ (s.passShot sh).pins.eg = 0 ∧ (s.passShot sh).acq.frame = s.acq.frame ∧ (s.passShot sh).acq.time = s.acq.time
    ∧ (s.passShot sh).emt.token = s.emt.token ∧ (s.passShot sh).cat = s.cat ∧ (s.passShot sh).stackMem = s.stackMem
    ∧ ∀ f, (s.passShot sh).rd f = s.rd f := by
  unfold State.passShot
  extract_lets cut _ s1 s2
  have h1 : s1.acq = s.acq ∧ s1.emt = s.emt ∧ s1.cat = s.cat ∧ s1.stackMem = s.stackMem ∧ s1.regs = s.regs := by
    unfold s1
    split <;> exact ⟨rfl, rfl, rfl, rfl, rfl⟩
  clear_value s1
  have h2 : s2.acq = s1.acq ∧ s2.emt = s1.emt ∧ s2.cat = s1.cat ∧ s2.stackMem = s1.stackMem ∧ s2.regs = s1.regs := by
    unfold s2
    split
    · exact ⟨rfl, rfl, rfl, rfl, rfl⟩
    · split <;> exact ⟨rfl, rfl, rfl, rfl, rfl⟩
  clear_value s2
  obtain ⟨a1, a2, a3, a4, a5⟩ := h1
  obtain ⟨b1, b2, b3, b4, b5⟩ := h2
  refine ⟨rfl, rfl, rfl, (congrArg AcqState.frame (b1.trans a1) :), (congrArg AcqState.time (b1.trans a1) :),
    (congrArg EmtState.token (b2.trans a2) :), b3.trans a3, b4.trans a4, fun f => ?_⟩
  unfold State.rd
  exact (congrArg (fun r : Regs => Tab.get f.reset r.cur f.key) (b5.trans a5) :)

theorem passShot_awaits {sh : Shot} (hp : s.runs pPASM = true) (hcut : s.acq.frame.any (·.cut) = false) :
    ({ shot := sh } : Column) ∈ (s.passShot sh).pca.columns := by
  unfold State.passShot
  rw [hp, hcut]
  extract_lets cut _ s1 s2
  have h1 : ({ shot := sh } : Column) ∈ s1.pca.columns := List.mem_append_right _ (List.mem_singleton_self _)
  clear_value s1
  have h2 : s2.pca = s1.pca := by
    unfold s2
    split
    · rfl
    · split <;> rfl
  clear_value s2
  rw [← h2] at h1
  exact h1

/-! ### The close of the window (R73, R144) -/

/-- EMT's report and TIM's stamps of the shot. -/
def State.shotReported (s : State) (drawn : Nat) (sh : Shot) : State := (((s.drew drawn).emtReport sh).publishTim 0).publishTim 1

/-- The shot with its stamps and its invalid rows, and the window closed. -/
def State.settledShot (s : State) (sh : Shot) : Shot := { sh with
  tim1 := if s.runs pTIM && s.rd (TIM.MODE 1) = 0 then (s.timIn 1).edges else []
  invalidRows := (List.range 512).filter fun r => ((channelUnder s.rd r).map s.invalidChan).getD false
  windowOpen := false }

/-- The descriptor and the ring hold the shot. -/
def State.shotStored (s : State) (sh : Shot) : State := (s.stackWords (descAddr sh) (descriptor sh)).rawWrite sh

/-- What follows the reference: the report, the buffers, CAL's part and the truncation. -/
def State.shotSettled (s : State) (drawn : Nat) (sh : Shot) : State :=
  ((((s.shotReported drawn sh).buffersSwapped sh).shotStored sh).calShot sh).truncate sh

theorem closeShot_eq (s : State) (sh0 : Shot) (u : State) (x : Shot × Nat) (hu : s.lastDelivered sh0 = u) (hx : u.reference sh0 = x) :
    s.closeShot sh0 = (u.shotSettled x.2 (u.settledShot x.1)).passShot (u.settledShot x.1) := by
  unfold State.closeShot
  unfold State.lastDelivered at hu
  extract_lets _ _ s1
  have h1 : s1 = u := hu
  clear_value s1
  subst h1
  rw [hx]
  obtain ⟨sh1, drawn⟩ := x
  unfold State.settledShot State.shotSettled State.shotStored State.buffersSwapped State.shotReported
  generalize List.range 528 = chans
  generalize List.range 33 = banks
  rfl

theorem shotReported_frame (s : State) (drawn : Nat) (sh : Shot) : ShotFrame false s (s.shotReported drawn sh) := by
  have h : ShotFrame false s ((s.drew drawn).emtReport sh) := (drew_frame s drawn).trans (emtReport_frame _ sh)
  unfold State.shotReported
  generalize (s.drew drawn).emtReport sh = u at *
  exact (h.trans (publishTim_frame u 0)).trans (publishTim_frame _ 1)

theorem shotStored_frame (s : State) (sh : Shot) : ShotFrame false s (s.shotStored sh) :=
  (stackWords_frame s (descAddr sh) (descriptor sh)).trans (rawWrite_frame _ sh)

theorem shotStored_shows (s : State) (sh : Shot) (hr : s.runs (pSbank 0) = true) :
    (List.range 8).map (fun i => (s.shotStored sh).stackMem.read (descAddr sh + i)) = leBytes 4 sh.accession.toNat ++ leBytes 4 sh.gen.toNat := by
  rw [← descriptorWritten_shows s sh hr]
  refine List.map_congr_left fun i hi => rawWrite_below _ sh ?_
  have hi8 := List.mem_range.mp hi
  unfold descAddr
  omega

theorem shotSettled_shows (s : State) (drawn : Nat) (sh : Shot) : ShotFrame false s (s.shotSettled drawn sh)
    ∧ (s.runs (pSbank 0) = true → (List.range 8).map (fun i => (s.shotSettled drawn sh).stackMem.read (descAddr sh + i))
      = leBytes 4 sh.accession.toNat ++ leBytes 4 sh.gen.toNat) := by
  have h1 := (shotReported_frame s drawn sh).trans (buffersSwapped_frame _ sh)
  unfold State.shotSettled
  generalize (s.shotReported drawn sh).buffersSwapped sh = u at *
  have h2 := shotStored_frame u sh
  have h3 := shotStored_shows u sh
  generalize u.shotStored sh = v at *
  have h4 (b : Bool) : ShotFrame b v ((v.calShot sh).truncate sh) := (calShot_frame v sh).trans (truncate_frame _ sh)
  generalize (v.calShot sh).truncate sh = w at *
  refine ⟨(h1.trans h2).trans (h4 false), fun hr => ?_⟩
  have hmem : w.stackMem = v.stackMem := congrArg (fun x => x.2.2.2.2.2.2.2.2.2.2.2) (h4 true).part
  rw [hmem]
  exact h3 ((h1.runs (by decide)).trans hr)

theorem settledShot_tags (s : State) (sh : Shot) : (s.settledShot sh).tags = sh.tags ∧ (s.settledShot sh).windowOpen = false := ⟨rfl, rfl⟩

/-- What the shot boundary finds after the close. -/
structure ShotClosed (s : State) (sh : Shot) (t : State) (sh' : Shot) : Prop where
  shot : t.acq.shot = none
  closed : t.acq.closedShot = some sh'
  tags : sh'.tags = sh.tags
  window : sh'.windowOpen = false
  token : t.emt.token = none
  eg : t.pins.eg = 0
  bytes : s.runs (pSbank 0) = true → (List.range 8).map (fun i => t.stackMem.read (descAddr sh + i))
    = leBytes 4 sh.accession.toNat ++ leBytes 4 sh.gen.toNat
  awaited : s.acq.frame.any (·.cut) = false → s.runs pPASM = true → { shot := sh' } ∈ t.pca.columns
  cat : t.cat = s.cat
  frame : t.acq.frame.map Frame.cut = s.acq.frame.map Frame.cut
  time : t.acq.time = s.acq.time
  run : t.on ACQ.RUN = s.on ACQ.RUN

theorem any_cut (f : Option Frame) : f.any (·.cut) = (f.map Frame.cut).any id := by cases f <;> rfl

theorem closeShot_shows (s : State) (sh : Shot) : ∃ sh', ShotClosed s sh (s.closeShot sh) sh' := by
  have h1 := lastDelivered_frame s sh
  have heq := closeShot_eq s sh _ _ rfl rfl
  generalize s.lastDelivered sh = u at *
  have htags := reference_tags u sh
  generalize u.reference sh = x at *
  obtain ⟨t1, t2⟩ := settledShot_tags u x.1
  generalize u.settledShot x.1 = sh' at *
  obtain ⟨h2, hbytes⟩ := shotSettled_shows u x.2 sh'
  generalize u.shotSettled x.2 sh' = v at *
  have hframe := h1.trans h2
  obtain ⟨p1, p2, p3, p4, p5, p6, p7, p8, p9⟩ := passShot_shows v sh'
  have hawait := fun hp hc => passShot_awaits (s := v) (sh := sh') hp hc
  rw [← heq] at p1 p2 p3 p4 p5 p6 p7 p8 p9 hawait
  generalize s.closeShot sh = w at *
  have htag := t1.trans htags
  have e1 : sh'.seq = sh.seq := congrArg (fun x => x.1) htag
  have e2 : sh'.accession = sh.accession := congrArg (fun x => x.2.1) htag
  have e3 : sh'.gen = sh.gen := congrArg (fun x => x.2.2.1) htag
  have hdesc : descAddr sh' = descAddr sh := by
    unfold descAddr
    rw [e1]
  have hpart := hframe.part
  have k1 : v.acq.frame.map Frame.cut = s.acq.frame.map Frame.cut := congrArg (fun x => x.2.1) hpart
  refine ⟨sh', p1, p2, htag, t2, p6.trans (congrArg (fun x => x.2.2.2.2.2.2.1) hpart), p3, fun hr => ?_, fun hc hp => hawait ?_ ?_,
    p7.trans (congrArg (fun x => x.2.2.2.2.2.2.2.1) hpart), ?_, p5.trans (congrArg (fun x => x.1) hpart), ?_⟩
  · rw [← hdesc, ← e2, ← e3, p8]
    exact hbytes ((h1.runs (by decide)).trans hr)
  · exact (hframe.runs (by decide)).trans hp
  · rw [any_cut, k1, ← any_cut]
    exact hc
  · rw [p4]
    exact k1
  · exact congrArg (· != 0) ((p9 ACQ.RUN).trans (hframe.regs ACQ.RUN (.inl rfl)))

end

end Sys2Proof.Machine
end

section
/-! PROOFS. What the frame boundary's work leaves alone (R27, R103 to R114, R140, R167, R205, R206, R407, R414). -/
namespace Sys2Proof.Machine
open Sys2Proof

section
variable {s t : State}

/-- A field of a folio above ACQ. -/
theorem ShotFrame.up (h : ShotFrame true s t) {f : Fld} (hf : 10 * pageBits ≤ f.key) (v : Nat) : ShotFrame true s (t.wr f v) := by
  refine h.wr f v fun hk => ?_
  have h9 (k : Nat) (hk : k / pageBits = 9) (h10 : 10 * pageBits ≤ k) : False := by
    have := (Nat.le_div_iff_mul_le (by decide)).mpr h10
    omega
  rcases hk with e | e | e | ⟨e, -⟩
  · exact h9 _ (by rw [e]; decide) hf
  · exact h9 _ (by rw [e]; decide) hf
  · exact h9 _ (by rw [e]; decide) hf
  · exact absurd e (by decide)

/-! ### The figures of the frame (R103 to R108, R167) -/

theorem acqFigures_free : ¬shotKey true ACQ.PEAK_FILL.key ∧ ¬shotKey true ACQ.VFAIL_LAST.key ∧ ¬shotKey true ACQ.INT_RR_CHANGE.key := by
  refine ⟨?_, ?_, ?_⟩ <;> rintro (h | h | h | ⟨h, -⟩) <;> exact absurd h (by decide)

theorem rateStep_frame (s : State) (f : Frame) : ShotFrame true s (s.rateStep f) := by
  obtain ⟨k1, k2, k3⟩ := acqFigures_free
  unfold State.rateStep
  extract_lets n rise calm next s1 s2
  have hs1 : ShotFrame true s s1 := ((ShotFrame.refl true s).wr _ _ k1).wr _ _ k2
  clear_value s1
  have hs2 : ShotFrame true s s2 := .ite (fun _ => hs1) fun _ => hs1.put _ _ k3
  clear_value s2
  exact hs2.same rfl rfl

theorem bankFigures_up (b : Nat) : 10 * pageBits ≤ (BANK.PILEUP_SHOTS b).key ∧ 10 * pageBits ≤ (BANK.INVALID_SHOTS b).key := by
  simp only [BANK.PILEUP_SHOTS, BANK.INVALID_SHOTS, fld_key, pageBits]
  omega

theorem frameFigures_frame (s : State) : ShotFrame true s s.frameFigures := by
  unfold State.frameFigures
  generalize List.range 33 = l
  extract_lets s1
  have hs1 : ShotFrame true s s1 := .ite (fun _ => ((ShotFrame.refl true s).up (f := EMT.UNFIRED_LAST) (by decide) _).up (f := EMT.NOREF_LAST) (by decide) _)
    fun _ => .refl true s
  clear_value s1
  refine hs1.foldl fun v b _ => ?_
  obtain ⟨k1, k2⟩ := bankFigures_up b
  extract_lets x a1
  have ha1 : ShotFrame true v a1 := .ite (fun _ => ((ShotFrame.refl true v).up k1 _).up k2 _) fun _ => .refl true v
  clear_value a1
  exact ha1.trans (setBank_frame a1 b _)

theorem giveFrame_frame (s : State) (f : Frame) : ShotFrame true s (s.giveFrame f) := by
  unfold State.giveFrame
  exact .ite (fun _ => .refl true s) fun _ => (ShotFrame.refl true s).same rfl rfl

theorem setChan_frame (s : State) (c : Nat) (x : Chan) : ShotFrame true s (s.setChan c x) := (ShotFrame.refl true s).same rfl rfl

theorem det_up (j i : Nat) : 10 * pageBits ≤ (DET.HOT_LIMIT j i).key ∧ 10 * pageBits ≤ (DET.DEAD j i).key ∧ 10 * pageBits ≤ (DET.GATE_STUCK j i).key
    ∧ 10 * pageBits ≤ (DET.INT_CH_HEALTH j).key ∧ 10 * pageBits ≤ (DET.HOT_MASK j i).key ∧ 10 * pageBits ≤ (DET.INT_HOT_MASKED j).key
    ∧ 10 * pageBits ≤ (DET.SCAN_CH j).key ∧ 10 * pageBits ≤ (DET.SCAN_SPAD j).key ∧ 10 * pageBits ≤ (DET.SPADS_ON j i).key
    ∧ 10 * pageBits ≤ (DET.K_IN_FORCE j i).key := by
  simp only [DET.HOT_LIMIT, DET.DEAD, DET.GATE_STUCK, DET.INT_CH_HEALTH, DET.HOT_MASK, DET.INT_HOT_MASKED, DET.SCAN_CH, DET.SCAN_SPAD, DET.SPADS_ON,
    DET.K_IN_FORCE, fld_key, pageBits]
  omega

/-- A health flag of a channel (R108). -/
theorem healthFlag_frame (s : State) (j : Nat) {f : Fld} (hf : 10 * pageBits ≤ f.key) (sets clears : Bool) : ShotFrame true s
    (if sets && !s.on f then ((s.put f true).raise (DET.INT_CH_HEALTH j)).fault (pDet j) 0 else if clears then s.put f false else s) :=
  .ite (fun _ => (((ShotFrame.refl true s).up hf _).up (det_up j 0).2.2.2.1 _).faultHigh (Nat.le_add_right _ _) 0) fun _ =>
    .ite (fun _ => (ShotFrame.refl true s).up hf _) fun _ => .refl true s

theorem checkChannel_frame (s : State) (ch otherEv otherWin below n : Nat) : ShotFrame true s (s.checkChannel ch otherEv otherWin below n) := by
  obtain ⟨k1, k2, k3, -⟩ := det_up (secOf ch) (idxOf ch)
  unfold State.checkChannel
  extract_lets j i c none_ dark stuck hot c1 flag s1 s2
  have hs1 : ShotFrame true s s1 := (setChan_frame s ch c1).trans (healthFlag_frame _ j k1 _ _)
  clear_value s1
  have hs2 : ShotFrame true s s2 := hs1.trans (healthFlag_frame _ j k2 _ _)
  clear_value s2
  exact hs2.trans (healthFlag_frame _ j k3 _ _)

theorem checkSection_frame (s : State) (j : Nat) : ShotFrame true s (s.checkSection j) :=
  (ShotFrame.refl true s).foldl fun v ch _ => checkChannel_frame v ch _ _ _ _

theorem autoK_frame (s : State) (j : Nat) : ShotFrame true s (s.autoK j) :=
  .ite (fun _ => .refl true s) fun _ => (ShotFrame.refl true s).foldl fun v c _ => setChan_frame v c _

theorem hotJudge_frame (s : State) (j : Nat) : ShotFrame true s (s.hotJudge j) := by
  unfold State.hotJudge
  extract_lets x i p on hot s1
  obtain ⟨-, -, -, -, k5, k6, -⟩ := det_up j i
  have hs1 : ShotFrame true s s1 := .ite (fun _ => ((ShotFrame.refl true s).up k5 _).up k6 _) fun _ => .refl true s
  clear_value s1
  exact hs1.same rfl rfl

theorem applyMask_frame (s s0 : State) (j : Nat) : ShotFrame true s (s.applyMask s0 j) :=
  (ShotFrame.refl true s).foldl fun v c _ => setChan_frame v c _

theorem showChan_frame (s : State) (ch : Nat) : ShotFrame true s (s.showChan ch) := by
  obtain ⟨-, -, -, -, -, -, -, -, k9, k10⟩ := det_up (secOf ch) (idxOf ch)
  exact ((ShotFrame.refl true s).up k9 _).up k10 _

theorem scanTo_frame (s : State) (j n : Nat) : ShotFrame true s (s.scanTo j n) := by
  obtain ⟨-, -, -, -, -, -, k7, k8, -⟩ := det_up j 0
  exact ((ShotFrame.refl true s).up k7 _).up k8 _

theorem sectionFrame_frame (s : State) (j : Nat) : ShotFrame true s (s.sectionFrame j) := by
  unfold State.sectionFrame
  extract_lets s1
  have hs1 : ShotFrame true s s1 :=
    (((autoK_frame s j).trans (checkSection_frame _ j)).trans (hotJudge_frame _ j)).trans (applyMask_frame _ s j)
  clear_value s1
  refine .ite (fun _ => .refl true s) fun _ => ?_
  have h := hs1.trans (scanTo_frame s1 j (12 * s.rd (DET.SCAN_CH j) + s.rd (DET.SCAN_SPAD j)))
  generalize s1.scanTo j (12 * s.rd (DET.SCAN_CH j) + s.rd (DET.SCAN_SPAD j)) = u at *
  exact h.foldl fun v c _ => showChan_frame v c

/-! ### The handover and the take-up (R205, R206, R565) -/

theorem setEngine_shotFrame (s : State) (k : Nat) (e : Engine) : ShotFrame true s (s.setEngine k e) := (ShotFrame.refl true s).same rfl rfl

theorem re_up (k : Nat) : 10 * pageBits ≤ (RE.STATE k).key ∧ 10 * pageBits ≤ (RE.ST_LOCKED k).key ∧ 10 * pageBits ≤ (RE.ST_SERVING k).key
    ∧ 10 * pageBits ≤ (RE.ST_SPARE k).key ∧ 10 * pageBits ≤ (RE.RG_SERVED k).key ∧ 10 * pageBits ≤ (RE.INT_HANDOVER_IN k).key
    ∧ 10 * pageBits ≤ (RE.INT_HANDOVER_OUT k).key ∧ 10 * pageBits ≤ (C.HALT (pRe k)).key ∧ 10 * pageBits ≤ (C.HALTED (pRe k)).key := by
  simp only [RE.STATE, RE.ST_LOCKED, RE.ST_SERVING, RE.ST_SPARE, RE.RG_SERVED, RE.INT_HANDOVER_IN, RE.INT_HANDOVER_OUT, C.HALT, C.HALTED, pRe,
    fld_key, pageBits]
  omega

theorem setReState_shotFrame (s : State) (k st : Nat) : ShotFrame true s (s.setReState k st) := by
  obtain ⟨k1, k2, k3, k4, -⟩ := re_up k
  exact ((((ShotFrame.refl true s).up k1 _).up k2 _).up k3 _).up k4 _

theorem haltSelf_frame (s : State) (k : Nat) : ShotFrame true s (s.haltSelf k) := by
  obtain ⟨-, -, -, k4, -, -, -, k8, k9⟩ := re_up k
  exact (((ShotFrame.refl true s).up k8 _).up k9 _).up k4 _

theorem leave_frame (s : State) (k : Nat) : ShotFrame true s (s.leave k) := by
  obtain ⟨-, -, -, -, k5, -, k7, -⟩ := re_up k
  unfold State.leave
  extract_lets e
  split
  · exact .refl true s
  · extract_lets st1 s1 s2
    have hs1 : ShotFrame true s s1 := ((setEngine_shotFrame s k _).trans (setReState_shotFrame _ k st1)).up k7 _
    clear_value s1
    have hs2 : ShotFrame true s s2 := hs1.up k5 _
    clear_value s2
    exact .ite (fun _ => hs2.trans (haltSelf_frame s2 k)) fun _ => hs2

theorem relieve_frame (s : State) (k kind : Nat) : ShotFrame true s (s.relieve k kind) := by
  unfold State.relieve
  extract_lets e st s1
  have hs1 : ShotFrame true s s1 := setEngine_shotFrame s k _
  clear_value s1
  exact .ite (fun _ => .ite (fun _ => hs1) fun _ => hs1.trans (leave_frame s1 k)) fun _ =>
    .ite (fun _ => (setReState_shotFrame s k stFenced).trans (haltSelf_frame _ k)) fun _ => .refl true s

theorem beginService_frame (s : State) (k g : Nat) : ShotFrame true s (s.beginService k g) := by
  obtain ⟨-, -, -, -, k5, k6, -⟩ := re_up k
  unfold State.beginService
  extract_lets e s1
  have hs1 : ShotFrame true s s1 := (setEngine_shotFrame s k _).trans (setReState_shotFrame _ k stServing)
  clear_value s1
  exact (hs1.up k5 _).up k6 _

theorem takeUp_frame (s : State) : ShotFrame true s s.takeUp :=
  (ShotFrame.refl true s).foldl fun v g _ => .ite (fun _ => beginService_frame v _ g) fun _ => .refl true v

theorem reg_up (i : Nat) : 10 * pageBits ≤ (REG.ENGINE_OF_RG i).key ∧ 10 * pageBits ≤ (REG.FENCED i).key := by
  simp only [REG.ENGINE_OF_RG, REG.FENCED, fld_key, pageBits]
  omega

theorem reqResult_frame (s : State) (f : ReqFlds) (outcome : Nat) (first : Word) : ShotFrame true s (s.reqResult f outcome first) :=
  (((((ShotFrame.refl true s).up (f := REG.R_OUTCOME) (by decide) _).up (f := REG.R_RG) (by decide) _).up (f := REG.R_KIND) (by decide) _).up
    (f := REG.R_ENGINE) (by decide) _).up (f := REG.R_ACCESSION) (by decide) _

theorem carryOut_frame (s : State) {f : ReqFlds} (hf : 10 * pageBits ≤ f.req.key) (first : Word) : ShotFrame true s (s.carryOut f first) := by
  unfold State.carryOut
  extract_lets k g s1 old s2 s3 s4 _ s5
  have hs1 : ShotFrame true s s1 := ((ShotFrame.refl true s).up hf _).trans (reqResult_frame _ f _ first)
  clear_value s1
  have hs2 : ShotFrame true s s2 := (hs1.up (reg_up g).1 _).up (f := REG.INT_HANDOVER_DONE) (by decide) _
  clear_value s2
  have hs3 : ShotFrame true s s3 := .ite (fun _ => hs2.up (reg_up old).2 _) fun _ => hs2
  clear_value s3
  have hs4 : ShotFrame true s s4 := (hs3.trans (relieve_frame s3 old f.kind)).trans (beginService_frame _ k g)
  clear_value s4
  have hs5 : ShotFrame true s s5 := .ite (fun _ => hs4.trans (setEngine_shotFrame s4 old _)) fun _ => hs4
  clear_value s5
  exact .ite (fun _ => hs1.up (f := REG.INT_REQ_REFUSED) (by decide) _) fun _ => hs5.same rfl rfl

theorem handover_frame (s : State) (first : Word) : ShotFrame true s (s.handover first) := by
  have hrep (t : State) := carryOut_frame t (f := repairFlds) (by decide) first
  have hupd (t : State) := carryOut_frame t (f := updateFlds) (by decide) first
  unfold State.handover
  extract_lets carried s1
  have hs1 : ShotFrame true s s1 := hrep s
  clear_value s1
  exact .ite (fun _ => .ite (fun _ => hs1.trans (hupd s1)) fun _ => hs1) fun _ => .ite (fun _ => hupd s) fun _ => .refl true s

/-! ### SAF at the frame boundary (R407, R414) -/

theorem safOutputs_shotFrame (s : State) : ShotFrame true s s.safOutputs := by
  unfold State.safOutputs
  extract_lets en changed s1 _ s2 _ s3
  have hs1 : ShotFrame true s s1 := ((ShotFrame.refl true s).up (f := SAF.CTR_EN) (by decide) _).up (f := SAF.SAFE_OK) (by decide) _
  clear_value s1
  have hs2 : ShotFrame true s s2 := .ite (fun _ => hs1.same rfl rfl) fun _ => hs1
  clear_value s2
  have hs3 : ShotFrame true s s3 := hs2.same rfl rfl
  clear_value s3
  exact .ite (fun _ => (ShotFrame.refl true s).up (f := SAF.TOKENS) (by decide) _) fun _ => hs3.up (f := SAF.TOKENS) (by decide) _

theorem strskEnd_frame (s : State) : ShotFrame true s s.strskEnd := by
  have h : ShotFrame true s (s.put CAL.ST_STRSK_BUSY false) := (ShotFrame.refl true s).up (f := CAL.ST_STRSK_BUSY) (by decide) _
  unfold State.strskEnd
  generalize s.put CAL.ST_STRSK_BUSY false = u at *
  exact .ite (fun _ => h.same rfl rfl) fun _ => .refl true s

theorem extestEnd_frame (s : State) (st : Nat) : ShotFrame true s (s.extestEnd st) := by
  have h : ShotFrame true s (s.put MON.ST_EXTEST false) := (ShotFrame.refl true s).up (f := MON.ST_EXTEST) (by decide) _
  unfold State.extestEnd
  generalize s.put MON.ST_EXTEST false = u at *
  exact .ite (fun _ => .refl true s) fun _ => h.same rfl rfl

theorem enterOperational_frame (s : State) : ShotFrame true s (s.enter sfOperational) := by
  unfold State.enter
  extract_lets s' s0 s1 _ s2 s3
  have hs0 : ShotFrame true s s0 := (strskEnd_frame s).trans (extestEnd_frame _ sfOperational)
  clear_value s0
  have hs1 : ShotFrame true s s1 := ((hs0.up (f := SAF.STATE) (by decide) _).up (f := SAF.ST_STATE) (by decide) _).up
    (f := SAF.INT_STATE_CHANGE) (by decide) _
  clear_value s1
  have hs2 : ShotFrame true s s2 := hs1.same rfl rfl
  clear_value s2
  have hs3 : ShotFrame true s s3 := hs2
  clear_value s3
  exact hs3.trans (safOutputs_shotFrame s3)

theorem recoverFrame_frame (s : State) : ShotFrame true s s.recoverFrame := by
  unfold State.recoverFrame
  extract_lets caused n _ _ s1
  have hs1 : ShotFrame true s s1 :=
    ((ShotFrame.refl true s).up (f := SAF.WITHHELD_LAST) (by decide) (min 65535 s.saf.withheld)).same rfl rfl
  clear_value s1
  refine .ite (fun _ => .refl true s) fun _ => .ite (fun _ => (ShotFrame.refl true s).same rfl rfl) fun _ =>
    .ite (fun _ => hs1.trans (enterOperational_frame s1)) fun _ => hs1

end

end Sys2Proof.Machine
end

section
/-! PROOFS. The shot boundary, the frame boundary, and the shots of a frame (R27, R30, R54, R73, R144, R145). -/
namespace Sys2Proof.Machine
open Sys2Proof

section
variable {s t : State}

/-! ### The frame boundary (R25, R27) -/

/-- No frame is in acquisition, and the boundary shows. -/
def State.frameEnded (s : State) : State :=
  ((State.put { s with acq.frame := none, acq.lastBoundary := some s.acq.time.toNat, acq.inService := s.on ACQ.RUN } ACQ.ST_ACQUIRING false).put
    ACQ.ST_TRUNCATING false).raise ACQ.INT_FRAME_BOUNDARY

/-- The strobe is on its way. -/
def State.strobeSent (s : State) : State := { s with cat.boundaryDue := true, cat.early := [] }

/-- The closed frame's figures, and its engines' handover. -/
def State.frameSettled (s : State) (f : Frame) : State :=
  let s4 := (List.range 11).foldl State.sectionFrame (((s.rateStep f).frameFigures).giveFrame f)
  (if s4.runs pREG then s4.handover (f.accession + 1) else s4).takeUp

theorem frameBoundary_eq (s : State) (f : Frame) : s.frameBoundary f = (s.frameEnded.frameSettled f).strobeSent.recoverFrame := by
  have hsettled (u : State) : u.frameSettled f = (if ((List.range 11).foldl State.sectionFrame (((u.rateStep f).frameFigures).giveFrame f)).runs pREG
      then ((List.range 11).foldl State.sectionFrame (((u.rateStep f).frameFigures).giveFrame f)).handover (f.accession + 1)
      else (List.range 11).foldl State.sectionFrame (((u.rateStep f).frameFigures).giveFrame f)).takeUp := rfl
  rw [hsettled]
  unfold State.frameBoundary
  extract_lets _ s1 s2 s3 s4 s5 u _
  have h2 : s2 = s.frameEnded := rfl
  clear_value s2
  subst h2
  have hu : u.strobeSent.recoverFrame = s5.takeUp.strobeSent.recoverFrame := rfl
  unfold s5 s4 s3 at hu
  exact hu

theorem frameSettled_frame (s : State) (f : Frame) : ShotFrame true s (s.frameSettled f) := by
  unfold State.frameSettled
  generalize List.range 11 = l
  extract_lets s4
  have h : ShotFrame true s (((s.rateStep f).frameFigures).giveFrame f) :=
    ((rateStep_frame s f).trans (frameFigures_frame _)).trans (giveFrame_frame _ f)
  have hs4 : ShotFrame true s s4 := by
    unfold s4
    generalize ((s.rateStep f).frameFigures).giveFrame f = u at *
    exact h.foldl fun v j _ => sectionFrame_frame v j
  clear_value s4
  have h5 : ShotFrame true s (if s4.runs pREG then s4.handover (f.accession + 1) else s4) :=
    .ite (fun _ => hs4.trans (handover_frame s4 _)) fun _ => hs4
  generalize (if s4.runs pREG then s4.handover (f.accession + 1) else s4) = u at *
  exact h5.trans (takeUp_frame u)

/-- What a shot's boundary leaves of the close. -/
def State.shotTail (s : State) :=
  (s.acq.shot, s.acq.closedShot, s.emt.token, s.pins.eg, s.stackMem, s.pca.columns,
    (s.cat.snapCapturing, s.cat.snapAccession, s.cat.snapShot))

theorem ShotFrame.tail (h : ShotFrame true s t) : t.shotTail = s.shotTail := by
  unfold State.shotTail
  have e1 : t.acq.shot = s.acq.shot := congrArg (fun x => x.2.2.1) h.part
  have e2 : t.acq.closedShot = s.acq.closedShot := congrArg (fun x => x.2.2.2.1) h.part
  have e3 : t.emt.token = s.emt.token := congrArg (fun x => x.2.2.2.2.2.2.1) h.part
  have e4 : t.cat = s.cat := congrArg (fun x => x.2.2.2.2.2.2.2.1) h.part
  have e5 : t.pca.columns = s.pca.columns := congrArg (fun x => x.2.2.2.2.2.2.2.2.2.1) h.part
  have e6 : t.pins.eg = s.pins.eg := congrArg (fun x => x.2.2.2.2.2.2.2.2.2.2.1) h.part
  have e7 : t.stackMem = s.stackMem := congrArg (fun x => x.2.2.2.2.2.2.2.2.2.2.2) h.part
  rw [e1, e2, e3, e4, e5, e6, e7]

theorem frameEnded_shows (s : State) : s.frameEnded.shotTail = s.shotTail ∧ s.frameEnded.acq.frame = none
    ∧ s.frameEnded.on ACQ.INT_FRAME_BOUNDARY = true ∧ s.frameEnded.on ACQ.ST_ACQUIRING = false
    ∧ s.frameEnded.acq.lastBoundary = some s.acq.time.toNat := by
  unfold State.frameEnded
  have h : ({ s with acq.frame := none, acq.lastBoundary := some s.acq.time.toNat, acq.inService := s.on ACQ.RUN } : State).shotTail = s.shotTail
      ∧ ({ s with acq.frame := none, acq.lastBoundary := some s.acq.time.toNat, acq.inService := s.on ACQ.RUN } : State).acq.frame = none
      ∧ ({ s with acq.frame := none, acq.lastBoundary := some s.acq.time.toNat, acq.inService := s.on ACQ.RUN } : State).acq.lastBoundary
        = some s.acq.time.toNat := ⟨rfl, rfl, rfl⟩
  generalize ({ s with acq.frame := none, acq.lastBoundary := some s.acq.time.toNat, acq.inService := s.on ACQ.RUN } : State) = u at *
  obtain ⟨h1, h2, h3⟩ := h
  refine ⟨h1, h2, State.on_put_self _ _ _ (by decide), ?_, h3⟩
  refine (congrArg (· != 0) ((State.rd_put_ne _ ACQ.INT_FRAME_BOUNDARY ACQ.ST_ACQUIRING _ (by decide)).trans
    (State.rd_put_ne _ ACQ.ST_TRUNCATING ACQ.ST_ACQUIRING _ (by decide)))).trans (State.on_put_self _ _ _ (by decide))

/-- The close of the frame's last window. -/
theorem frameBoundary_shows (s : State) (f : Frame) : (s.frameBoundary f).shotTail = s.shotTail ∧ (s.frameBoundary f).acq.frame = none
    ∧ (s.frameBoundary f).on ACQ.INT_FRAME_BOUNDARY = true ∧ (s.frameBoundary f).on ACQ.ST_ACQUIRING = false
    ∧ (s.frameBoundary f).cat.boundaryDue = true ∧ (s.frameBoundary f).acq.lastBoundary = some s.acq.time.toNat := by
  obtain ⟨h1, h2, h3, h4, h5⟩ := frameEnded_shows s
  rw [frameBoundary_eq]
  generalize s.frameEnded = u at *
  have hu := frameSettled_frame u f
  generalize u.frameSettled f = v at *
  have hv : v.strobeSent.shotTail = v.shotTail := rfl
  have hdue : v.strobeSent.cat.boundaryDue = true := rfl
  have hacq : v.strobeSent.acq = v.acq := rfl
  have hreg (g : Fld) : v.strobeSent.rd g = v.rd g := rfl
  have hw := recoverFrame_frame v.strobeSent
  generalize v.strobeSent = w at *
  generalize w.recoverFrame = x at *
  have on (g : Fld) (hg : shotKey true g.key) : x.on g = u.on g :=
    congrArg (· != 0) (((hw.regs g hg).trans (hreg g)).trans (hu.regs g hg))
  have hframe : v.acq.frame.map Frame.cut = none := (congrArg (fun x => x.2.1) hu.part).trans (congrArg (Option.map Frame.cut) h2)
  have hframe' : x.acq.frame.map Frame.cut = none := 
    (congrArg (fun x => x.2.1) hw.part).trans ((congrArg (fun a : AcqState => a.frame.map Frame.cut) hacq).trans hframe)
  have hlast : x.acq.lastBoundary = w.acq.lastBoundary := congrArg (fun x => x.2.2.2.2.1) hw.part
  have hlast' : v.acq.lastBoundary = u.acq.lastBoundary := congrArg (fun x => x.2.2.2.2.1) hu.part
  have hcat : x.cat = w.cat := congrArg (fun x => x.2.2.2.2.2.2.2.1) hw.part
  refine ⟨(hw.tail.trans hv).trans (hu.tail.trans h1), Option.map_eq_none_iff.mp hframe', (on _ (.inr (.inl rfl))).trans h3,
    (on _ (.inr (.inr (.inl rfl)))).trans h4, ?_, ?_⟩
  · rw [hcat]
    exact hdue
  · rw [hlast, hacq, hlast']
    exact h5

/-! ### The shot boundary (R30, R54, R144) -/

theorem startStale_frame (s : State) (x : Session) : ShotFrame true s (s.startStale x) := by
  have hup (b j : Nat) : 10 * pageBits ≤ (BANK.TAP_CFG b j).key ∧ 10 * pageBits ≤ (BANK.TAP_HIST b j).key ∧ 10 * pageBits ≤ (BANK.CH_CAL b).key
      ∧ 10 * pageBits ≤ (BANK.HIST_CH b).key ∧ 10 * pageBits ≤ (BANK.ST_HIST_BUSY b).key ∧ 10 * pageBits ≤ (BANK.HIST_N b).key := by
    simp only [BANK.TAP_CFG, BANK.TAP_HIST, BANK.CH_CAL, BANK.HIST_CH, BANK.ST_HIST_BUSY, BANK.HIST_N, fld_key, pageBits]
    omega
  unfold State.startStale
  generalize List.range 32 = taps
  extract_lets b i s1 s2
  obtain ⟨-, -, hcal, hch, hbusy, hn⟩ := hup b 0
  have hs1 : ShotFrame true s s1 := (ShotFrame.refl true s).foldl fun v f _ => (ShotFrame.refl true v).up (hup b (32 * i + f)).1 _
  clear_value s1
  have hs2 : ShotFrame true s s2 := ((hs1.up hcal _).up hch _).up hbusy _
  clear_value s2
  exact .ite (fun _ => (hs2.foldl fun v f _ => (ShotFrame.refl true v).up (hup b f).2.1 _).up hn _) fun _ => hs2

theorem startSpan_frame (s : State) : ShotFrame true s s.startSpan := by
  unfold State.startSpan
  generalize s.cal.sessions.filter (fun x => !x.stale) = l
  have h : ShotFrame true s (l.foldl State.startStale s) := (ShotFrame.refl true s).foldl fun v x _ => startStale_frame v x
  generalize l.foldl State.startStale s = u at *
  exact h.same rfl rfl

/-- The state whose halts follow at the shot boundary. -/
def State.shotSnapped (s : State) (sh : Shot) : State :=
  let s1 := if s.runs pCAL && !sh.last && s.staleFrom ≤ sh.column + 1 then s.startSpan else s
  if s.on ACQ.RUN || sh.last then s1.snapBoundary sh.accession sh.column else s1

theorem afterShot_eq (s : State) (sh : Shot) : s.afterShot sh
    = match (shotHalts.foldl State.takeHalt (s.shotSnapped sh)).acq.frame with
      | some f => if sh.last then (shotHalts.foldl State.takeHalt (s.shotSnapped sh)).frameBoundary f else shotHalts.foldl State.takeHalt (s.shotSnapped sh)
      | none => shotHalts.foldl State.takeHalt (s.shotSnapped sh) := by
  unfold State.afterShot State.shotSnapped
  generalize shotHalts = l
  rfl

/-- A capture waits while RUN reads 1: it is taken under the shot's numbers. -/
theorem snapBoundary_shows (s : State) (accession : Word) (shot : Nat) :
    (s.snapBoundary accession shot).acq = s.acq ∧ (s.snapBoundary accession shot).emt = s.emt ∧ (s.snapBoundary accession shot).pins = s.pins
    ∧ (s.snapBoundary accession shot).stackMem = s.stackMem ∧ (s.snapBoundary accession shot).pca = s.pca
    ∧ (s.cat.snapWaiting = true → (s.snapBoundary accession shot).cat.snapCapturing = true
      ∧ (s.snapBoundary accession shot).cat.snapAccession = accession ∧ (s.snapBoundary accession shot).cat.snapShot = shot) := by
  unfold State.snapBoundary
  split
  · exact ⟨rfl, rfl, rfl, rfl, rfl, fun _ => ⟨rfl, rfl, rfl⟩⟩
  · next h => exact ⟨rfl, rfl, rfl, rfl, rfl, fun h' => absurd h' h⟩

/-- What the shot boundary leaves, the snapshot aside. -/
structure ShotHalted (s : State) (sh : Shot) (t : State) : Prop where
  acq : t.acq.shot = s.acq.shot ∧ t.acq.closedShot = s.acq.closedShot ∧ t.acq.frame.map Frame.cut = s.acq.frame.map Frame.cut ∧ t.acq.time = s.acq.time
  rest : t.emt.token = s.emt.token ∧ t.pins.eg = s.pins.eg ∧ t.stackMem = s.stackMem ∧ t.pca.columns = s.pca.columns
  snap : s.cat.snapWaiting = true → s.on ACQ.RUN = true →
    t.cat.snapCapturing = true ∧ t.cat.snapAccession = sh.accession ∧ t.cat.snapShot = sh.column

theorem ShotFrame.rest (h : ShotFrame true s t) : (t.acq.shot = s.acq.shot ∧ t.acq.closedShot = s.acq.closedShot
    ∧ t.acq.frame.map Frame.cut = s.acq.frame.map Frame.cut ∧ t.acq.time = s.acq.time)
    ∧ (t.emt.token = s.emt.token ∧ t.pins.eg = s.pins.eg ∧ t.stackMem = s.stackMem ∧ t.pca.columns = s.pca.columns) ∧ t.cat = s.cat :=
  ⟨⟨congrArg (fun x => x.2.2.1) h.part, congrArg (fun x => x.2.2.2.1) h.part, congrArg (fun x => x.2.1) h.part, congrArg (fun x => x.1) h.part⟩,
    ⟨congrArg (fun x => x.2.2.2.2.2.2.1) h.part, congrArg (fun x => x.2.2.2.2.2.2.2.2.2.2.1) h.part,
      congrArg (fun x => x.2.2.2.2.2.2.2.2.2.2.2) h.part, congrArg (fun x => x.2.2.2.2.2.2.2.2.2.1) h.part⟩,
    congrArg (fun x => x.2.2.2.2.2.2.2.1) h.part⟩

theorem shotHalted_shows (s : State) (sh : Shot) : ShotHalted s sh (shotHalts.foldl State.takeHalt (s.shotSnapped sh)) := by
  have hpages : ∀ p ∈ shotHalts, p = pEMT ∨ (0x26 ≤ p ∧ p < 0x52) := by decide
  generalize shotHalts = l at *
  unfold State.shotSnapped
  extract_lets s1
  have hs1 : ShotFrame true s s1 := .ite (fun _ => startSpan_frame s) fun _ => .refl true s
  clear_value s1
  obtain ⟨⟨a1, a2, a3, a4⟩, ⟨a5, a6, a7, a8⟩, a9⟩ := hs1.rest
  obtain ⟨b1, b2, b3, b4, b5, b6⟩ := snapBoundary_shows s1 sh.accession sh.column
  have hu : ShotHalted s sh (if (s.on ACQ.RUN || sh.last) = true then s1.snapBoundary sh.accession sh.column else s1) := by
    split
    · refine ⟨?_, ?_, fun hw _ => b6 (by rw [a9]; exact hw)⟩
      · rw [b1]
        exact ⟨a1, a2, a3, a4⟩
      · rw [b2, b3, b4, b5]
        exact ⟨a5, a6, a7, a8⟩
    · next h => exact ⟨⟨a1, a2, a3, a4⟩, ⟨a5, a6, a7, a8⟩, fun _ hr => absurd (by rw [hr]; rfl) h⟩
  generalize (if (s.on ACQ.RUN || sh.last) = true then s1.snapBoundary sh.accession sh.column else s1) = u at *
  obtain ⟨⟨c1, c2, c3, c4⟩, ⟨c5, c6, c7, c8⟩, c9⟩ := hu
  have hv : ShotFrame true u (l.foldl State.takeHalt u) := (ShotFrame.refl true u).foldl fun v p hp => takeHalt_shotFrame v (hpages p hp)
  generalize l.foldl State.takeHalt u = v at *
  obtain ⟨⟨d1, d2, d3, d4⟩, ⟨d5, d6, d7, d8⟩, d9⟩ := hv.rest
  refine ⟨⟨d1.trans c1, d2.trans c2, d3.trans c3, d4.trans c4⟩, ⟨d5.trans c5, d6.trans c6, d7.trans c7, d8.trans c8⟩, fun hw hr => ?_⟩
  rw [d9]
  exact c9 hw hr

/-- The shot boundary, and the frame boundary with its last shot's. -/
theorem afterShot_shows (s : State) (sh : Shot) :
    (s.afterShot sh).acq.shot = s.acq.shot ∧ (s.afterShot sh).acq.closedShot = s.acq.closedShot ∧ (s.afterShot sh).emt.token = s.emt.token
    ∧ (s.afterShot sh).pins.eg = s.pins.eg ∧ (s.afterShot sh).stackMem = s.stackMem ∧ (s.afterShot sh).pca.columns = s.pca.columns
    ∧ (s.cat.snapWaiting = true → s.on ACQ.RUN = true → (s.afterShot sh).cat.snapCapturing = true
      ∧ (s.afterShot sh).cat.snapAccession = sh.accession ∧ (s.afterShot sh).cat.snapShot = sh.column)
    ∧ (s.acq.frame.isSome = true → sh.last = true → (s.afterShot sh).acq.frame = none ∧ (s.afterShot sh).on ACQ.INT_FRAME_BOUNDARY = true
      ∧ (s.afterShot sh).on ACQ.ST_ACQUIRING = false ∧ (s.afterShot sh).cat.boundaryDue = true
      ∧ (s.afterShot sh).acq.lastBoundary = some s.acq.time.toNat)
    ∧ (s.acq.frame.isSome = true → sh.last = false → (s.afterShot sh).acq.frame ≠ none) := by
  obtain ⟨⟨h1, h2, h3, h4⟩, ⟨h5, h6, h7, h8⟩, h9⟩ := shotHalted_shows s sh
  rw [afterShot_eq]
  generalize shotHalts.foldl State.takeHalt (s.shotSnapped sh) = u at *
  cases hf : u.acq.frame with
  | none =>
    have hnone : s.acq.frame = none := Option.map_eq_none_iff.mp (h3.symm.trans (congrArg (Option.map Frame.cut) hf))
    refine ⟨h1, h2, h5, h6, h7, h8, h9, fun h => ?_, fun h => ?_⟩ <;> rw [hnone] at h <;> exact absurd h Bool.false_ne_true
  | some f =>
    dsimp only
    by_cases hlast : sh.last = true
    · rw [if_pos hlast]
      obtain ⟨k1, k2, k3, k4, k5, k6⟩ := frameBoundary_shows u f
      generalize u.frameBoundary f = v at *
      rw [h4] at k6
      have e1 : v.acq.shot = u.acq.shot := congrArg (fun x => x.1) k1
      have e2 : v.acq.closedShot = u.acq.closedShot := congrArg (fun x => x.2.1) k1
      have e3 : v.emt.token = u.emt.token := congrArg (fun x => x.2.2.1) k1
      have e4 : v.pins.eg = u.pins.eg := congrArg (fun x => x.2.2.2.1) k1
      have e5 : v.stackMem = u.stackMem := congrArg (fun x => x.2.2.2.2.1) k1
      have e6 : v.pca.columns = u.pca.columns := congrArg (fun x => x.2.2.2.2.2.1) k1
      have e7 : v.cat.snapCapturing = u.cat.snapCapturing := congrArg (fun x => x.2.2.2.2.2.2.1) k1
      have e8 : v.cat.snapAccession = u.cat.snapAccession := congrArg (fun x => x.2.2.2.2.2.2.2.1) k1
      have e9 : v.cat.snapShot = u.cat.snapShot := congrArg (fun x => x.2.2.2.2.2.2.2.2) k1
      refine ⟨e1.trans h1, e2.trans h2, e3.trans h5, e4.trans h6, e5.trans h7, e6.trans h8, fun hw hr => ?_, fun _ _ => ⟨k2, k3, k4, k5, k6⟩,
        fun _ h => absurd (h.symm.trans hlast) Bool.false_ne_true⟩
      rw [e7, e8, e9]
      exact h9 hw hr
    · rw [if_neg hlast]
      refine ⟨h1, h2, h5, h6, h7, h8, h9, fun _ h => absurd h hlast, fun _ _ h => ?_⟩
      rw [hf] at h
      exact absurd h (Option.some_ne_none f)

/-! ### The close of a window (R73, R144) -/

theorem exec_windowClose {sh : Shot} (hsh : s.acq.shot = some sh) (hwin : sh.windowOpen = true) :
    exec .windowClose s = .next ((s.closeShot sh).afterShot sh) := by
  show execWindowClose s = _
  unfold execWindowClose
  rw [hsh]
  dsimp only
  rw [if_neg (by rw [hwin]; decide)]
  rfl

/-- The close of a window ends the shot and hands it on. -/
theorem windowClose_shows {sh : Shot} (hsh : s.acq.shot = some sh) (hwin : sh.windowOpen = true) :
    ∃ t sh', exec (.windowClose) s = .next t ∧ t.acq.shot = none ∧ t.acq.closedShot = some sh'
      ∧ sh'.seq = sh.seq ∧ sh'.accession = sh.accession ∧ sh'.gen = sh.gen ∧ sh'.column = sh.column ∧ sh'.first = sh.first
      ∧ sh'.last = sh.last ∧ sh'.engines = sh.engines ∧ sh'.windowOpen = false ∧ t.emt.token = none ∧ t.pins.eg = 0
      ∧ (s.runs (pSbank 0) = true → (List.range 8).map (fun i => t.stackMem.read (descAddr sh + i)) =
          leBytes 4 sh.accession.toNat ++ leBytes 4 sh.gen.toNat)
      ∧ (∀ f, s.acq.frame = some f → f.cut = false → s.runs pPASM = true → { shot := sh' } ∈ t.pca.columns)
      ∧ (s.cat.snapWaiting = true → s.on ACQ.RUN = true →
          t.cat.snapCapturing = true ∧ t.cat.snapAccession = sh.accession ∧ t.cat.snapShot = sh.column)
      ∧ (∀ f, s.acq.frame = some f → sh.last = true → t.acq.frame = none ∧ t.on ACQ.INT_FRAME_BOUNDARY = true
          ∧ t.on ACQ.ST_ACQUIRING = false ∧ t.cat.boundaryDue = true ∧ t.acq.lastBoundary = some s.acq.time.toNat)
      ∧ (∀ f, s.acq.frame = some f → sh.last = false → t.acq.frame ≠ none) := by
  rw [exec_windowClose hsh hwin]
  obtain ⟨sh', h⟩ := closeShot_shows s sh
  generalize s.closeShot sh = u at *
  obtain ⟨a1, a2, a3, a4, a5, a6, a7, a8, a9⟩ := afterShot_shows u sh
  generalize u.afterShot sh = t at *
  have htags := h.tags
  have hsome (f : Frame) (hf : s.acq.frame = some f) : u.acq.frame.isSome = true := by
    have hmap := h.frame
    rw [hf] at hmap
    obtain ⟨g, hg, -⟩ := Option.map_eq_some_iff.mp hmap
    rw [hg]
    rfl
  refine ⟨t, sh', rfl, a1.trans h.shot, a2.trans h.closed, congrArg (fun x => x.1) htags, congrArg (fun x => x.2.1) htags,
    congrArg (fun x => x.2.2.1) htags, congrArg (fun x => x.2.2.2.1) htags, congrArg (fun x => x.2.2.2.2.1) htags,
    congrArg (fun x => x.2.2.2.2.2.1) htags, congrArg (fun x => x.2.2.2.2.2.2) htags, h.window, a3.trans h.token, a4.trans h.eg, ?_,
    fun f hf hc hp => ?_, fun hw hr => a7 (by rw [h.cat]; exact hw) (h.run.trans hr), fun f hf hl => ?_, fun f hf => a9 (hsome f hf)⟩
  · rw [a5]
    exact h.bytes
  · rw [a6]
    exact h.awaited (by rw [hf]; exact hc) hp
  · rw [← h.time]
    exact a8 (hsome f hf) hl

end

/-- Settles O28: SHOT_OPEN, the opening and the close of the window, each taken apart into its operations; what the others leave alone is
`ShotFrame`. -/
theorem shotOpensAndCloses : Obligations.ShotOpensAndCloses := by
  unfold Obligations.ShotOpensAndCloses
  exact ⟨fun f s hrun hf hsh hnext => shotOpen_shows hrun hf hsh hnext,
    fun sh s hsh => ⟨fun hfire hwin => windowOpen_shows hsh hfire hwin, fun hwin => windowClose_shows hsh hwin⟩⟩

end Sys2Proof.Machine
end

section
/-! PROOFS. SEC's commands and their ends (R491 to R496, R512). -/
namespace Sys2Proof.Machine
open Sys2Proof

section
variable {s t : State} {path : Path} {value : Word}

/-! ### Memories -/

theorem Mem.cells_zero (a n : Nat) : Mem.cells a (List.replicate n 0) = [] := by
  induction n generalizing a with
  | zero => rfl
  | succ n ih => exact (if_pos rfl).trans (ih (a + 1))

/-- To clear a run is to write zeros over it. -/
theorem Mem.wipe_eq_write (m : Mem) (a n : Nat) : m.wipe a n = m.write a (List.replicate n 0) := by
  unfold Mem.wipe Mem.write
  rw [Mem.cells_zero, List.length_replicate, List.append_nil]

theorem Mem.read_wipe_inside (m : Mem) {a n x : Nat} (h1 : a ≤ x) (h2 : x < a + n) : (m.wipe a n).read x = 0 := by
  rw [Mem.wipe_eq_write, Mem.read_write, List.length_replicate, if_pos ⟨h1, h2⟩, List.getD_replicate]
  omega

/-! ### The command word (R512) -/

theorem exec_secCommand {c : Instr × Nat} (hrun : s.runs pSEC = true)
    (hc : c ∈ ([(.verify path value, 1), (.attest path value, 2), (.cert path value, 3), (.enroll path value, 4), (.revoke path value, 5),
      (.confirm path value, 6)] : List (Instr × Nat))) :
    exec c.1 s = .next (({ s with bus := {} } : State).secCommand path value.toNat) ∧ 1 ≤ c.2 ∧ c.2 ≤ 6 := by
  have h : s.writeTo pSEC (fun s => s.secCommand path value.toNat) = ({ s with bus := {} } : State).secCommand path value.toNat := writeTo_runs hrun
  simp only [List.mem_cons, List.not_mem_nil, or_false] at hc
  rcases hc with rfl | rfl | rfl | rfl | rfl | rfl <;> exact ⟨congrArg Host.Outcome.next h, by dsimp only; omega, by dsimp only; omega⟩

theorem commandCode (value : Word) : bits value.toNat 28 4 = value.toNat / 2 ^ 28 := by
  have := value.isLt
  unfold bits
  omega

theorem commandDest (value : Word) : bits value.toNat 20 8 = (value.extractLsb' 20 8).toNat := bits_toNat value 20 8

/-- SEC takes a command. -/
def State.secTaken (s : State) (c dest : Nat) : State :=
  { (s.put SEC.BUSY true).put SEC.ST_BUSY true with sec.command := some (c, dest), sec.sourceLost := false, sec.body := if c = 2 then s.evidence else [] }

theorem secCommand_busy (v : Nat) (h : s.on SEC.BUSY = true) : s.secCommand path v = s.put (C.ERR_BUSY pSEC) true := if_pos h

theorem secCommand_dest {v : Nat} (h : s.on SEC.BUSY = false) (hd : destOk (bits v 28 4) (bits v 20 8) = false) :
    s.secCommand path v = s.put (C.ERR_VALUE pSEC) true := by
  unfold State.secCommand
  extract_lets c dest _
  rw [if_neg (by rw [h]; exact Bool.false_ne_true), if_pos (by rw [hd, Bool.not_false, Bool.or_true])]
  rfl

theorem secCommand_path {v : Nat} (h : s.on SEC.BUSY = false) (hd : destOk (bits v 28 4) (bits v 20 8) = true) (h1 : 1 ≤ bits v 28 4)
    (h6 : bits v 28 4 ≤ 6) (hp : path ≠ .host) (h2 : bits v 28 4 ≠ 2) (h3 : bits v 28 4 ≠ 3) :
    s.secCommand path v = s.put (C.ERR_STATE pSEC) true := by
  unfold State.secCommand
  extract_lets c dest _
  rw [if_neg (by rw [h]; exact Bool.false_ne_true), if_neg, if_pos]
  · rfl
  · rw [Bool.and_eq_true, Bool.and_eq_true, bne_iff_ne, bne_iff_ne, bne_iff_ne]
    exact ⟨⟨hp, h2⟩, h3⟩
  · rw [Bool.or_eq_true, Bool.or_eq_true, decide_eq_true_eq, decide_eq_true_eq, hd]
    rintro ((h | h) | h)
    · exact absurd h (by omega)
    · exact absurd h (by omega)
    · exact absurd h Bool.false_ne_true

theorem secCommand_taken {v : Nat} (h : s.on SEC.BUSY = false) (hd : destOk (bits v 28 4) (bits v 20 8) = true) (h1 : 1 ≤ bits v 28 4)
    (h6 : bits v 28 4 ≤ 6) (hp : path = .host ∨ bits v 28 4 = 2 ∨ bits v 28 4 = 3) :
    s.secCommand path v = s.secTaken (bits v 28 4) (bits v 20 8) := by
  unfold State.secCommand
  extract_lets c dest s1
  rw [if_neg (by rw [h]; exact Bool.false_ne_true), if_neg, if_neg]
  · rfl
  · rw [Bool.and_eq_true, Bool.and_eq_true, bne_iff_ne, bne_iff_ne, bne_iff_ne]
    rintro ⟨⟨k1, k2⟩, k3⟩
    exact hp.elim k1 fun h => h.elim k2 k3
  · rw [Bool.or_eq_true, Bool.or_eq_true, decide_eq_true_eq, decide_eq_true_eq, hd]
    rintro ((h | h) | h)
    · exact absurd h (by omega)
    · exact absurd h (by omega)
    · exact absurd h Bool.false_ne_true

theorem secTaken_shows (s : State) (c dest : Nat) : (s.secTaken c dest).on SEC.BUSY = true ∧ (s.secTaken c dest).sec.command = some (c, dest)
    ∧ KeepsRegs [SEC.BUSY.key, SEC.ST_BUSY.key] s (s.secTaken c dest) := by
  have hk : KeepsRegs [SEC.BUSY.key, SEC.ST_BUSY.key] s ((s.put SEC.BUSY true).put SEC.ST_BUSY true) :=
    ((KeepsRegs.refl _ s).put SEC.BUSY true (by decide)).put SEC.ST_BUSY true (by decide)
  have hbusy : ((s.put SEC.BUSY true).put SEC.ST_BUSY true).on SEC.BUSY = true :=
    (congrArg (· != 0) (State.rd_put_ne _ SEC.ST_BUSY SEC.BUSY _ (by decide))).trans (State.on_put_self _ _ _ (by decide))
  unfold State.secTaken
  generalize (s.put SEC.BUSY true).put SEC.ST_BUSY true = u at *
  exact ⟨hbusy, rfl, hk⟩

/-- The command word that a path writes. -/
theorem secCommand_shows (hrun : s.runs pSEC = true) : ∀ c ∈ ([(.verify path value, 1), (.attest path value, 2), (.cert path value, 3),
      (.enroll path value, 4), (.revoke path value, 5), (.confirm path value, 6)] : List (Instr × Nat)), value.toNat / 2 ^ 28 = c.2 →
    (s.on SEC.BUSY = true → exec c.1 s = .next (({ s with bus := {} } : State).put (C.ERR_BUSY pSEC) true))
    ∧ (s.on SEC.BUSY = false → destOk c.2 (value.extractLsb' 20 8).toNat = false →
      exec c.1 s = .next (({ s with bus := {} } : State).put (C.ERR_VALUE pSEC) true))
    ∧ (s.on SEC.BUSY = false → destOk c.2 (value.extractLsb' 20 8).toNat = true → path ≠ .host → c.2 ≠ 2 → c.2 ≠ 3 →
      exec c.1 s = .next (({ s with bus := {} } : State).put (C.ERR_STATE pSEC) true))
    ∧ (s.on SEC.BUSY = false → destOk c.2 (value.extractLsb' 20 8).toNat = true → (path = .host ∨ c.2 = 2 ∨ c.2 = 3) → ∃ t, exec c.1 s = .next t
      ∧ t.on SEC.BUSY = true ∧ t.sec.command = some (c.2, (value.extractLsb' 20 8).toNat) ∧ KeepsRegs [SEC.BUSY.key, SEC.ST_BUSY.key] s t) := by
  intro c hc hcode
  obtain ⟨hexec, h1, h6⟩ := exec_secCommand (path := path) (value := value) hrun hc
  have hbits : bits value.toNat 28 4 = c.2 := (commandCode value).trans hcode
  rw [hexec, ← commandDest, ← hbits]
  rw [← hbits] at h1 h6
  have hidle : ({ s with bus := {} } : State).on SEC.BUSY = s.on SEC.BUSY := rfl
  have hkeep : KeepsRegs [SEC.BUSY.key, SEC.ST_BUSY.key] s ({ s with bus := {} } : State) := fun _ _ => rfl
  generalize ({ s with bus := {} } : State) = u at *
  refine ⟨fun h => congrArg Host.Outcome.next (secCommand_busy _ (hidle.trans h)),
    fun h hd => congrArg Host.Outcome.next (secCommand_dest (hidle.trans h) hd),
    fun h hd hp h2 h3 => congrArg Host.Outcome.next (secCommand_path (hidle.trans h) hd h1 h6 hp h2 h3), fun h hd hp => ?_⟩
  obtain ⟨k1, k2, k3⟩ := secTaken_shows u (bits value.toNat 28 4) (bits value.toNat 20 8)
  exact ⟨_, congrArg Host.Outcome.next (secCommand_taken (hidle.trans h) hd h1 h6 hp), k1, k2, hkeep.trans k3⟩

/-! ### The end of a command (R494, R512) -/

/-- A command has ended with a RESULT. -/
def SecEnded (t : State) (result : Nat) : Prop := t.on SEC.BUSY = false ∧ t.sec.command = none ∧ t.rd SEC.RESULT = result
  ∧ t.on (if result = 0 then SEC.INT_DONE else SEC.INT_REFUSED) = true

/-- The registers that the end of a command changes. -/
def secEndKeys : List Nat := [SEC.BUSY.key, SEC.ST_BUSY.key, SEC.RESULT.key, SEC.INT_DONE.key, SEC.INT_REFUSED.key]

/-- The interrupt of a command's end. -/
def secEndInt (result : Nat) : Fld := if result = 0 then SEC.INT_DONE else SEC.INT_REFUSED

theorem secEndInt_key (result : Nat) : (secEndInt result).key ∈ secEndKeys ∧ (secEndInt result).key ≠ SEC.BUSY.key
    ∧ (secEndInt result).key ≠ SEC.RESULT.key ∧ 1 ≤ (secEndInt result).width := by
  unfold secEndInt
  split <;> decide

/-- The registers of a command's end. -/
def State.secEndShown (s : State) (result : Nat) : State :=
  (((s.put SEC.BUSY false).put SEC.ST_BUSY false).wr SEC.RESULT result).raise (secEndInt result)

theorem secEnds_eq (s : State) (result : Nat) :
    s.secEnds result = { s.secEndShown result with sec.command := none, sec.sourceLost := false, sec.body := [] } := rfl

theorem secEndShown_shows (s : State) {result : Nat} (h : result < 16) : (s.secEndShown result).on SEC.BUSY = false
    ∧ (s.secEndShown result).rd SEC.RESULT = result ∧ (s.secEndShown result).on (secEndInt result) = true
    ∧ KeepsRegs secEndKeys s (s.secEndShown result) := by
  obtain ⟨k1, k2, k3, k4⟩ := secEndInt_key result
  unfold State.secEndShown
  refine ⟨?_, ?_, State.on_put_self _ _ _ k4, ?_⟩
  · refine (congrArg (· != 0) (((State.rd_put_ne _ _ _ _ k2.symm).trans (State.rd_wr_ne _ SEC.RESULT SEC.BUSY _ (by decide))).trans
      (State.rd_put_ne _ SEC.ST_BUSY SEC.BUSY _ (by decide)))).trans (State.on_put_self _ _ _ (by decide))
  · exact ((State.rd_put_ne _ _ _ _ k3.symm).trans (State.rd_wr_self _ SEC.RESULT _)).trans (Nat.mod_eq_of_lt h)
  · exact ((((KeepsRegs.refl secEndKeys s).put SEC.BUSY false (by decide)).put SEC.ST_BUSY false (by decide)).wr SEC.RESULT _ (by decide)).put
      _ true k1

/-- What the end of a command shows and leaves. -/
theorem secEnds_shows (s : State) {result : Nat} (h : result < 16) : SecEnded (s.secEnds result) result ∧ (s.secEnds result).nvs = s.nvs
    ∧ (s.secEnds result).sec.records = s.sec.records ∧ (s.secEnds result).sec.out = s.sec.out ∧ KeepsRegs secEndKeys s (s.secEnds result) := by
  obtain ⟨h1, h2, h3, h4⟩ := secEndShown_shows s h
  have hrest : (s.secEndShown result).nvs = s.nvs ∧ (s.secEndShown result).sec = s.sec := ⟨rfl, rfl⟩
  rw [secEnds_eq]
  generalize s.secEndShown result = u at *
  obtain ⟨hn, hs⟩ := hrest
  exact ⟨⟨h1, rfl, h2, h3⟩, hn, (congrArg SecState.records hs :), (congrArg SecState.out hs :), h4⟩

/-! ### VERIFY and CERT (R491, R494, R495) -/

theorem exec_secCommandDone {c dest : Nat} (hrun : s.runs pSEC = true) (hc : s.sec.command = some (c, dest)) :
    exec .secCommandDone s = .next (if c = 1 then s.doVerify dest else if c = 2 then s.doAttest else if c = 3 then s.doCert
      else if c = 4 then s.doEnroll else if c = 5 then s.doRevoke dest else s.doConfirm dest) := by
  show execSecCommandDone s = _
  unfold execSecCommandDone
  rw [hrun, hc]
  rfl

theorem verifyHeader_lt (s : State) (rd : Nat → Byte) (len dest : Nat) : s.verifyHeader rd len dest < 16 := by
  unfold State.verifyHeader
  extract_lets u8 type slot plen most owner floor
  repeat' split
  all_goals decide

theorem verifyPayload_lt (s : State) (rd : Nat → Byte) : s.verifyPayload rd < 16 := by
  unfold State.verifyPayload
  extract_lets plen
  repeat' split
  all_goals decide

/-- A volume's record is kept. -/
def State.recordKept (s : State) (dest : Nat) (r : SecRecord) : State := { s with sec.records := Tab.set {} s.sec.records dest r }

theorem doVerify_source {dest : Nat} (h : s.sourceFails 256 = true) : s.doVerify dest = s.secEnds 10 := if_pos h

theorem doVerify_cut {dest : Nat} (h : s.sourceFails 256 = false) (hh : s.verifyHeader s.source (s.rd SEC.SRC_LEN) dest = 0)
    (hl : s.sourceFails (s.rd SEC.SRC_LEN) = true) : s.doVerify dest = s.secEnds 10 := by
  unfold State.doVerify
  extract_lets len r s1
  rw [if_neg (by rw [h]; exact Bool.false_ne_true), if_pos (by rw [hh, hl]; rfl)]

theorem doVerify_ends {dest : Nat} (h : s.sourceFails 256 = false)
    (hl : (s.verifyHeader s.source (s.rd SEC.SRC_LEN) dest = 0 && s.sourceFails (s.rd SEC.SRC_LEN)) = false) :
    s.doVerify dest = (if (s.verifyVolume s.source (s.rd SEC.SRC_LEN) dest = 0 && decide (dest ≤ 71)) = true
      then s.recordKept dest (volumeRecord s.source) else s).secEnds (s.verifyVolume s.source (s.rd SEC.SRC_LEN) dest) := by
  unfold State.doVerify
  extract_lets len r s1
  rw [if_neg (by rw [h]; exact Bool.false_ne_true), if_neg (by rw [hl]; exact Bool.false_ne_true)]
  rfl

theorem verifyVolume_header {rd : Nat → Byte} {len dest : Nat} (h : s.verifyHeader rd len dest ≠ 0) :
    s.verifyVolume rd len dest = s.verifyHeader rd len dest := if_pos (bne_iff_ne.mpr h)

theorem verifyVolume_payload {rd : Nat → Byte} {len dest : Nat} (h : s.verifyHeader rd len dest = 0) :
    s.verifyVolume rd len dest = s.verifyPayload rd := if_neg (by rw [h]; decide)

/-- VERIFY ends with the first row that fails. -/
theorem verifyDone_shows {slot : Nat} (hrun : s.runs pSEC = true) (hc : s.sec.command = some (1, slot)) (h256 : s.sourceFails 256 = false) :
    (s.verifyHeader s.source (s.rd SEC.SRC_LEN) slot ≠ 0 → ∃ t, exec .secCommandDone s = .next t
      ∧ SecEnded t (s.verifyHeader s.source (s.rd SEC.SRC_LEN) slot) ∧ t.sec.records = s.sec.records)
    ∧ (s.verifyHeader s.source (s.rd SEC.SRC_LEN) slot = 0 → s.sourceFails (s.rd SEC.SRC_LEN) = true → ∃ t, exec .secCommandDone s = .next t
      ∧ SecEnded t 10 ∧ t.sec.records = s.sec.records)
    ∧ (s.verifyHeader s.source (s.rd SEC.SRC_LEN) slot = 0 → s.sourceFails (s.rd SEC.SRC_LEN) = false → ∃ t, exec .secCommandDone s = .next t
      ∧ SecEnded t (s.verifyPayload s.source) ∧ (s.verifyPayload s.source ≠ 0 ∨ 71 < slot → t.sec.records = s.sec.records)
      ∧ (s.verifyPayload s.source = 0 → slot ≤ 71 → Tab.get {} t.sec.records slot = volumeRecord s.source)) := by
  rw [exec_secCommandDone hrun hc, if_pos (rfl : (1 : Nat) = 1)]
  refine ⟨fun hh => ?_, fun hh hl => ?_, fun hh hl => ?_⟩
  · rw [doVerify_ends h256 (by rw [decide_eq_false hh]; rfl), verifyVolume_header hh, decide_eq_false hh]
    obtain ⟨k1, -, k3, -⟩ := secEnds_shows s (verifyHeader_lt s s.source (s.rd SEC.SRC_LEN) slot)
    exact ⟨_, rfl, k1, k3⟩
  · rw [doVerify_cut h256 hh hl]
    obtain ⟨k1, -, k3, -⟩ := secEnds_shows s (result := 10) (by decide)
    exact ⟨_, rfl, k1, k3⟩
  · rw [doVerify_ends h256 (by rw [hl, Bool.and_false]), verifyVolume_payload hh]
    have hlt := verifyPayload_lt s s.source
    generalize s.verifyPayload s.source = r at *
    by_cases hr : r = 0 ∧ slot ≤ 71
    · obtain ⟨h0, h71⟩ := hr
      rw [if_pos (by rw [decide_eq_true h0, decide_eq_true h71]; rfl)]
      obtain ⟨k1, -, k3, -⟩ := secEnds_shows (s.recordKept slot (volumeRecord s.source)) hlt
      refine ⟨_, rfl, k1, fun h => absurd h (by omega), fun _ _ => ?_⟩
      have hkept : (s.recordKept slot (volumeRecord s.source)).sec.records = Tab.set {} s.sec.records slot (volumeRecord s.source) := rfl
      rw [k3, hkept, Tab.get_set_self]
    · rw [if_neg (by rw [Bool.and_eq_true, decide_eq_true_eq, decide_eq_true_eq]; exact hr)]
      obtain ⟨k1, -, k3, -⟩ := secEnds_shows s hlt
      exact ⟨_, rfl, k1, fun _ => k3, fun h0 h71 => absurd ⟨h0, h71⟩ hr⟩

theorem verifySource_shows {slot : Nat} (hrun : s.runs pSEC = true) (hc : s.sec.command = some (1, slot)) (h256 : s.sourceFails 256 = true) :
    ∃ t, exec .secCommandDone s = .next t ∧ SecEnded t 10 ∧ t.sec.records = s.sec.records := by
  rw [exec_secCommandDone hrun hc, if_pos (rfl : (1 : Nat) = 1), doVerify_source h256]
  obtain ⟨k1, -, k3, -⟩ := secEnds_shows s (result := 10) (by decide)
  exact ⟨_, rfl, k1, k3⟩

/-- The output window holds bytes from its start on. -/
def State.outputs (s : State) (l : List Byte) : State := { s with sec.out := l ++ s.sec.out.drop l.length }

theorem certDone_shows {slot : Nat} (hrun : s.runs pSEC = true) (hc : s.sec.command = some (3, slot)) :
    ∃ t, exec .secCommandDone s = .next t ∧ SecEnded t 0 ∧ t.sec.out = s.nvs.mram.bytes 0x1000 2948 ++ s.sec.out.drop 2948 := by
  rw [exec_secCommandDone hrun hc, if_neg (by decide), if_neg (by decide), if_pos (rfl : (3 : Nat) = 3)]
  have hcert : s.doCert = State.secEnds { s with sec.out := s.nvs.mram.bytes 0x1000 2948 ++ s.sec.out.drop 2948 } 0 := rfl
  rw [hcert]
  generalize s.nvs.mram.bytes 0x1000 2948 ++ s.sec.out.drop 2948 = l
  obtain ⟨k1, -, -, k4, -⟩ := secEnds_shows { s with sec.out := l } (result := 0) (by decide)
  exact ⟨_, rfl, k1, k4⟩

end

end Sys2Proof.Machine
end

section
/-! PROOFS. ENROLL, REVOKE, CONFIRM and ATTEST (R496, R504 to R508). -/
namespace Sys2Proof.Machine
open Sys2Proof

section
variable {s t : State} {slot : Nat}

theorem readRun_length (rd : Nat → Byte) (o n : Nat) : (slice rd o n).length = n := by
  unfold slice
  rw [List.length_map, List.length_range]

theorem readRun_getD (rd : Nat → Byte) (o : Nat) {n i : Nat} (h : i < n) : (slice rd o n).getD i 0 = rd (o + i) := by
  rw [List.getD_eq_getElem _ _ (by rw [readRun_length]; exact h)]
  unfold slice
  rw [List.getElem_map, List.getElem_range]

/-! ### The security record (R505) -/

/-- The registers that show the security record. -/
def securityKeys : List Nat :=
  [SEC.XMSS_NEXT.key, SEC.MIN_SEC_VER_HOST.key, SEC.MIN_SEC_VER_ENGINE.key, SEC.ENROLLED.key, SEC.REVOKED.key]

theorem putSecurity_shows (s : State) (r : SecurityRecord) : (s.putSecurity r).nvs = { s.nvs with security := r }
    ∧ (s.putSecurity r).sec = s.sec ∧ (s.putSecurity r).rd SEC.REVOKED = r.revoked % 2 ^ 4 ∧ KeepsRegs securityKeys s (s.putSecurity r) := by
  have hk : KeepsRegs securityKeys s { s with nvs.security := r } := fun _ _ => rfl
  have hrest : ({ s with nvs.security := r } : State).nvs = { s.nvs with security := r } ∧ ({ s with nvs.security := r } : State).sec = s.sec := ⟨rfl, rfl⟩
  unfold State.putSecurity
  generalize ({ s with nvs.security := r } : State) = u at *
  extract_lets s1 s2
  have h2 : KeepsRegs securityKeys s s2 :=
    ((hk.wr SEC.XMSS_NEXT _ (by decide)).wr SEC.MIN_SEC_VER_HOST _ (by decide)).wr SEC.MIN_SEC_VER_ENGINE _ (by decide)
  have hrest2 : s2.nvs = { s.nvs with security := r } ∧ s2.sec = s.sec := hrest
  clear_value s2
  exact ⟨hrest2.1, hrest2.2, State.rd_wr_self _ SEC.REVOKED _, (h2.wr SEC.ENROLLED _ (by decide)).wr SEC.REVOKED _ (by decide)⟩

theorem nvsBlocked_shows (s : State) : s.nvsBlocked.nvs = s.nvs ∧ s.nvsBlocked.sec = s.sec
    ∧ KeepsRegs [NVS.BLOCKED_CNT.key, NVS.INT_BLOCKED.key] s s.nvsBlocked := by
  unfold State.nvsBlocked
  split
  · exact ⟨rfl, rfl, ((KeepsRegs.refl _ s).wr NVS.BLOCKED_CNT _ (by decide)).put NVS.INT_BLOCKED true (by decide)⟩
  · exact ⟨rfl, rfl, KeepsRegs.refl _ s⟩

/-- A command that finds NVS not writable. -/
theorem blockedEnds_shows (s : State) : SecEnded (s.nvsBlocked.secEnds 11) 11 ∧ (s.nvsBlocked.secEnds 11).nvs = s.nvs
    ∧ (s.nvsBlocked.secEnds 11).rd SEC.XMSS_CUR = s.rd SEC.XMSS_CUR := by
  obtain ⟨h1, -, h3⟩ := nvsBlocked_shows s
  obtain ⟨k1, k2, -, -, k5⟩ := secEnds_shows s.nvsBlocked (result := 11) (by decide)
  exact ⟨k1, k2.trans h1, (k5 SEC.XMSS_CUR (by decide)).trans (h3 SEC.XMSS_CUR (by decide))⟩

/-- A command that a record's change ends. -/
theorem recordEnds_shows (s : State) (r : SecurityRecord) : SecEnded ((s.putSecurity r).secEnds 0) 0
    ∧ ((s.putSecurity r).secEnds 0).nvs = { s.nvs with security := r } ∧ ((s.putSecurity r).secEnds 0).rd SEC.REVOKED = r.revoked % 2 ^ 4 := by
  obtain ⟨h1, -, h3, -⟩ := putSecurity_shows s r
  obtain ⟨k1, k2, -, -, k5⟩ := secEnds_shows (s.putSecurity r) (result := 0) (by decide)
  exact ⟨k1, k2.trans h1, (k5 SEC.REVOKED (by decide)).trans h3⟩

/-! ### ENROLL and REVOKE (R508) -/

theorem mayEnroll_iff (s : State) : s.mayEnroll = true ↔ s.rd SAF.STATE = 0 ∨ s.rd SAF.STATE = 1 := by
  unfold State.mayEnroll
  rw [Bool.or_eq_true, decide_eq_true_eq, decide_eq_true_eq]
  rfl

/-- The certificate stands in its slot. -/
def State.certStored (s : State) (n : Nat) (l : List Byte) : State := { s with nvs.mram := s.nvs.mram.write (ownerAddr n) l }

theorem doEnroll_stores {id : Nat} (hid : (s.source 5).toNat = id) (hsrc : s.sourceFails 2948 = false) (hmay : s.mayEnroll = true)
    (hok : s.on WATCH.ST_NVS_OK = true) (hmagic : slice s.source 0 4 = magicOwner) (hver : s.source 4 = 1) (h1 : 1 ≤ id) (h4 : id ≤ 4)
    (hholds : s.slotHolds id = false) (hrevoked : s.slotRevoked id = false) (htarget : targetOk (slice s.source 0x4C 32) = true)
    (hxmss : Config.xmssVerify rootKey (slice s.source 0 128) (slice s.source 128 2820) = true) :
    s.doEnroll = ((s.certStored id (slice s.source 0 2948)).putSecurity
      { s.nvs.security with enrolled := withBit s.nvs.security.enrolled (id - 1) true }).secEnds 0 := by
  unfold State.doEnroll
  extract_lets rd slot r
  have hslot : slot = id := hid
  clear_value slot
  subst hslot
  have hform : (slice rd 0 4 != magicOwner || rd 4 != 1 || decide (slot < 1) || decide (4 < slot)) = false := by
    rw [decide_eq_false (by omega), decide_eq_false (by omega), bne_eq_false_iff_eq.mpr hmagic, bne_eq_false_iff_eq.mpr hver]
    rfl
  rw [if_neg (by rw [hsrc]; exact Bool.false_ne_true), if_neg (by rw [hmay]; decide), if_neg (by rw [hform]; exact Bool.false_ne_true),
    if_neg (by rw [hrevoked]; exact Bool.false_ne_true), if_neg (by rw [hholds]; exact Bool.false_ne_true), if_neg (by rw [htarget]; decide),
    if_neg (by rw [hxmss]; decide), if_neg (by rw [hok]; decide)]
  rfl

theorem enrollDone_shows {id : Nat} (hid : (s.source 5).toNat = id) (hrun : s.runs pSEC = true) (hc : s.sec.command = some (4, slot))
    (hsrc : s.sourceFails 2948 = false) (hmay : s.rd SAF.STATE = 0 ∨ s.rd SAF.STATE = 1) (hok : s.on WATCH.ST_NVS_OK = true)
    (hmagic : slice s.source 0 4 = magicOwner) (hver : s.source 4 = 1) (h1 : 1 ≤ id) (h4 : id ≤ 4) (hholds : s.slotHolds id = false)
    (hrevoked : s.slotRevoked id = false) (htarget : targetOk (slice s.source 0x4C 32) = true)
    (hxmss : Config.xmssVerify rootKey (slice s.source 0 128) (slice s.source 128 2820) = true) :
    ∃ t, exec .secCommandDone s = .next t ∧ SecEnded t 0 ∧ bit t.nvs.security.enrolled (id - 1) = true
      ∧ ∀ x, t.nvs.mram.read x
        = if ownerAddr id ≤ x ∧ x < ownerAddr id + 2948 then s.source (x - ownerAddr id) else s.nvs.mram.read x := by
  rw [exec_secCommandDone hrun hc, if_neg (by decide), if_neg (by decide), if_neg (by decide), if_pos (rfl : (4 : Nat) = 4),
    doEnroll_stores hid hsrc ((mayEnroll_iff s).mpr hmay) hok hmagic hver h1 h4 hholds hrevoked htarget hxmss]
  have hread (x : Nat) : (s.certStored id (slice s.source 0 2948)).nvs.mram.read x
      = if ownerAddr id ≤ x ∧ x < ownerAddr id + 2948 then s.source (x - ownerAddr id) else s.nvs.mram.read x := by
    refine (Mem.read_write _ _ _ _).trans ?_
    rw [readRun_length]
    split
    · rw [readRun_getD s.source 0 (by omega), Nat.zero_add]
    · rfl
  generalize s.certStored id (slice s.source 0 2948) = u at *
  obtain ⟨k1, k2, -⟩ := recordEnds_shows u { s.nvs.security with enrolled := withBit s.nvs.security.enrolled (id - 1) true }
  refine ⟨_, rfl, k1, ?_, fun x => ?_⟩
  · rw [k2]
    exact (bit_withBit _ _ _ _).trans (if_pos rfl)
  · rw [k2]
    exact hread x

/-- The certificate of a slot is cleared. -/
def State.certCleared (s : State) (n : Nat) : State := { s with nvs.mram := s.nvs.mram.wipe (ownerAddr n) 2948 }

theorem doRevoke_clears (hmay : s.mayEnroll = true) (hok : s.on WATCH.ST_NVS_OK = true) : s.doRevoke slot
    = ((s.certCleared slot).putSecurity { s.nvs.security with
        enrolled := withBit s.nvs.security.enrolled (slot - 1) false, revoked := withBit s.nvs.security.revoked (slot - 1) true }).secEnds 0 := by
  unfold State.doRevoke
  extract_lets r
  rw [if_neg (by rw [hmay]; decide), if_neg (by rw [hok]; decide)]
  rfl

theorem revokeDone_shows (hrun : s.runs pSEC = true) (hc : s.sec.command = some (5, slot)) (hmay : s.rd SAF.STATE = 0 ∨ s.rd SAF.STATE = 1) :
    (s.on WATCH.ST_NVS_OK = true → ∃ t, exec .secCommandDone s = .next t ∧ SecEnded t 0 ∧ bit t.nvs.security.enrolled (slot - 1) = false
      ∧ bit t.nvs.security.revoked (slot - 1) = true ∧ t.rd SEC.REVOKED = t.nvs.security.revoked % 2 ^ 4
      ∧ ∀ x, ownerAddr slot ≤ x → x < ownerAddr slot + 2948 → t.nvs.mram.read x = 0)
    ∧ (¬s.on WATCH.ST_NVS_OK = true → ∃ t, exec .secCommandDone s = .next t ∧ SecEnded t 11 ∧ t.nvs = s.nvs) := by
  have hmay' := (mayEnroll_iff s).mpr hmay
  rw [exec_secCommandDone hrun hc, if_neg (by decide), if_neg (by decide), if_neg (by decide), if_neg (by decide), if_pos (rfl : (5 : Nat) = 5)]
  constructor
  · intro hok
    rw [doRevoke_clears hmay' hok]
    have hread (x : Nat) (h1 : ownerAddr slot ≤ x) (h2 : x < ownerAddr slot + 2948) : (s.certCleared slot).nvs.mram.read x = 0 :=
      Mem.read_wipe_inside _ h1 h2
    generalize s.certCleared slot = u at *
    obtain ⟨k1, k2, k3⟩ := recordEnds_shows u { s.nvs.security with
        enrolled := withBit s.nvs.security.enrolled (slot - 1) false, revoked := withBit s.nvs.security.revoked (slot - 1) true }
    refine ⟨_, rfl, k1, ?_, ?_, ?_, fun x h1 h2 => ?_⟩
    · rw [k2]
      exact (bit_withBit _ _ _ _).trans (if_pos rfl)
    · rw [k2]
      exact (bit_withBit _ _ _ _).trans (if_pos rfl)
    · rw [k2]
      exact k3
    · rw [k2]
      exact hread x h1 h2
  · intro hno
    have hrev : s.doRevoke slot = s.nvsBlocked.secEnds 11 := by
      unfold State.doRevoke
      extract_lets r
      rw [if_neg (by rw [hmay']; decide), if_pos (by rw [Bool.eq_false_iff.mpr hno]; rfl)]
    rw [hrev]
    obtain ⟨k1, k2, -⟩ := blockedEnds_shows s
    exact ⟨_, rfl, k1, k2⟩

theorem revokeRefused_shows (hrun : s.runs pSEC = true) (hc : s.sec.command = some (5, slot)) (hmay : ¬(s.rd SAF.STATE = 0 ∨ s.rd SAF.STATE = 1)) :
    ∃ t, exec .secCommandDone s = .next t ∧ SecEnded t 13 ∧ t.nvs = s.nvs := by
  have hno : s.mayEnroll = false := Bool.eq_false_iff.mpr fun h => hmay ((mayEnroll_iff s).mp h)
  have hrev : s.doRevoke slot = s.secEnds 13 := if_pos (by rw [hno]; rfl)
  rw [exec_secCommandDone hrun hc, if_neg (by decide), if_neg (by decide), if_neg (by decide), if_neg (by decide), if_pos (rfl : (5 : Nat) = 5), hrev]
  obtain ⟨k1, k2, -⟩ := secEnds_shows s (result := 13) (by decide)
  exact ⟨_, rfl, k1, k2⟩

/-! ### CONFIRM (R496) -/

theorem doConfirm_host (hmin : s.nvs.security.minHost < s.sec.hostSecVer) (hok : s.on WATCH.ST_NVS_OK = true) : s.doConfirm 0x7F
    = (s.putSecurity { s.nvs.security with minHost := s.sec.hostSecVer }).secEnds 0 := by
  have hmax : max s.nvs.security.minHost s.sec.hostSecVer = s.sec.hostSecVer := max_eq_right hmin.le
  have hne : ({ s.nvs.security with minHost := s.sec.hostSecVer } : SecurityRecord) ≠ s.nvs.security := fun h =>
    absurd (congrArg SecurityRecord.minHost h :) (Nat.ne_of_gt hmin)
  unfold State.doConfirm
  extract_lets r recs target
  have htarget : target = { s.nvs.security with minHost := s.sec.hostSecVer } := by
    unfold target
    rw [if_pos (rfl : (0x7F : Nat) = 0x7F), hmax]
  clear_value target
  subst htarget
  rw [if_neg (by rw [decide_eq_false (by decide : ¬(0x7F : Nat) = 0x7E), Bool.false_and]; exact Bool.false_ne_true), if_neg hne,
    if_neg (by rw [hok]; decide)]

theorem confirmDone_shows (hrun : s.runs pSEC = true) (hc : s.sec.command = some (6, 0x7F)) (hmin : s.nvs.security.minHost < s.sec.hostSecVer)
    (hok : s.on WATCH.ST_NVS_OK = true) : ∃ t, exec .secCommandDone s = .next t ∧ SecEnded t 0
      ∧ t.nvs = { s.nvs with security := { s.nvs.security with minHost := s.sec.hostSecVer } } := by
  rw [exec_secCommandDone hrun hc, if_neg (by decide), if_neg (by decide), if_neg (by decide), if_neg (by decide), if_neg (by decide),
    doConfirm_host hmin hok]
  obtain ⟨k1, k2, -⟩ := recordEnds_shows s { s.nvs.security with minHost := s.sec.hostSecVer }
  exact ⟨_, rfl, k1, k2⟩

/-! ### ATTEST (R504, R506, R507) -/

theorem fault_nvs (s : State) (p b : Nat) : (s.fault p b).nvs = s.nvs ∧ (s.fault p b).sec = s.sec := by
  obtain ⟨r, posts, h⟩ := State.fault_state s p b
  rw [h]
  exact ⟨rfl, rfl⟩

theorem xmssExhausted_shows (s : State) : s.xmssExhausted.nvs = s.nvs ∧ s.xmssExhausted.sec = s.sec
    ∧ KeepsRegs (SEC.ST_EXHAUSTED.key :: faultKeys pSEC) s s.xmssExhausted
    ∧ (2 ^ 20 ≤ s.rd SEC.XMSS_CUR → s.xmssExhausted.on SEC.ST_EXHAUSTED = true) := by
  unfold State.xmssExhausted
  split
  · have h1 : KeepsRegs (SEC.ST_EXHAUSTED.key :: faultKeys pSEC) s (s.put SEC.ST_EXHAUSTED true) :=
      (KeepsRegs.refl _ s).put _ _ (List.mem_cons_self ..)
    have h2 : (s.put SEC.ST_EXHAUSTED true).on SEC.ST_EXHAUSTED = true := State.on_put_self _ _ _ (by decide)
    have h3 : (s.put SEC.ST_EXHAUSTED true).nvs = s.nvs ∧ (s.put SEC.ST_EXHAUSTED true).sec = s.sec := ⟨rfl, rfl⟩
    generalize s.put SEC.ST_EXHAUSTED true = u at *
    obtain ⟨k1, k2⟩ := fault_nvs u pSEC 0
    refine ⟨k1.trans h3.1, k2.trans h3.2, fun f hf => ?_, fun _ => (fault_on_other u (by decide)).trans h2⟩
    exact (fault_keepsRegs u pSEC 0 f fun h => hf (List.mem_cons_of_mem _ h)).trans (h1 f hf)
  · next h =>
    refine ⟨rfl, rfl, KeepsRegs.refl _ s, fun hle => ?_⟩
    rw [decide_eq_true hle, Bool.true_and, Bool.not_eq_true', Bool.not_eq_false] at h
    exact h

theorem xmssWarn_shows (s : State) : s.xmssWarn.nvs = s.nvs ∧ s.xmssWarn.sec = s.sec
    ∧ KeepsRegs [SEC.ST_XMSS_WARN.key, SEC.INT_XMSS_WARN.key] s s.xmssWarn := by
  unfold State.xmssWarn
  split
  · exact ⟨rfl, rfl, ((KeepsRegs.refl _ s).put SEC.ST_XMSS_WARN true (by decide)).put SEC.INT_XMSS_WARN true (by decide)⟩
  · exact ⟨rfl, rfl, KeepsRegs.refl _ s⟩

/-- Indices are reserved. -/
def State.reserved (s : State) : State :=
  if s.nvs.security.next ≤ s.rd SEC.XMSS_CUR then
    (s.putSecurity { s.nvs.security with next := min (s.rd SEC.XMSS_CUR + s.rd SEC.XMSS_RESERVE) (2 ^ 20) }).xmssWarn
  else s

theorem reserved_shows (s : State) : s.reserved.sec = s.sec ∧ s.reserved.nvs = (if s.rd SEC.XMSS_CUR < s.nvs.security.next then s.nvs
    else { s.nvs with security := { s.nvs.security with next := min (s.rd SEC.XMSS_CUR + s.rd SEC.XMSS_RESERVE) (2 ^ 20) } }) := by
  unfold State.reserved
  generalize ({ s.nvs.security with next := min (s.rd SEC.XMSS_CUR + s.rd SEC.XMSS_RESERVE) (2 ^ 20) } : SecurityRecord) = r
  by_cases h : s.nvs.security.next ≤ s.rd SEC.XMSS_CUR
  · rw [if_pos h, if_neg (Nat.not_lt.mpr h)]
    obtain ⟨h1, h2, -⟩ := putSecurity_shows s r
    generalize s.putSecurity r = u at *
    obtain ⟨k1, k2, -⟩ := xmssWarn_shows u
    exact ⟨k2.trans h2, k1.trans h1⟩
  · rw [if_neg h, if_pos (Nat.not_le.mp h)]
    exact ⟨rfl, rfl⟩

/-- The evidence leaves and CUR advances. -/
def State.evidenceOut (s : State) (cur : Nat) (l : List Byte) : State := { s.wr SEC.XMSS_CUR (cur + 1) with sec.out := l ++ s.sec.out.drop l.length }

theorem evidenceOut_shows (s : State) (cur : Nat) (l : List Byte) : (s.evidenceOut cur l).nvs = s.nvs
    ∧ (s.evidenceOut cur l).sec.out = l ++ s.sec.out.drop l.length ∧ (s.evidenceOut cur l).rd SEC.XMSS_CUR = (cur + 1) % 2 ^ 32 := by
  have h := State.rd_wr_self s SEC.XMSS_CUR (cur + 1)
  have hn : (s.wr SEC.XMSS_CUR (cur + 1)).nvs = s.nvs := rfl
  unfold State.evidenceOut
  generalize s.wr SEC.XMSS_CUR (cur + 1) = u at *
  exact ⟨hn, rfl, h⟩

/-- What ATTEST signs, and its signature. -/
def State.signedEvidence (s : State) : List Byte :=
  let body := s.sec.body ++ leBytes 4 (s.rd SEC.XMSS_CUR) ++ List.replicate 12 0
  body ++ signature (s.rd SEC.XMSS_CUR) body

theorem doAttest_signs (hlost : s.nvs.security.lost = false) (hcur : s.rd SEC.XMSS_CUR < 2 ^ 20)
    (hok : s.rd SEC.XMSS_CUR < s.nvs.security.next ∨ s.on WATCH.ST_NVS_OK = true) :
    s.doAttest = (s.reserved.evidenceOut (s.rd SEC.XMSS_CUR) s.signedEvidence).xmssExhausted.secEnds 0 := by
  unfold State.doAttest
  extract_lets i r s1 body evidence _ _ s2
  have hblock : (decide (r.next ≤ i) && !s.on WATCH.ST_NVS_OK) = false := by
    rcases hok with h | h
    · rw [decide_eq_false (Nat.not_le.mpr h), Bool.false_and]
    · rw [h, Bool.not_true, Bool.and_false]
  rw [if_neg (by rw [hlost]; exact Bool.false_ne_true), if_neg (Nat.not_le.mpr hcur), if_neg (by rw [hblock]; exact Bool.false_ne_true)]
  rfl

theorem attestSigned_shows (hlost : s.nvs.security.lost = false) (hcur : s.rd SEC.XMSS_CUR < 2 ^ 20)
    (hok : s.rd SEC.XMSS_CUR < s.nvs.security.next ∨ s.on WATCH.ST_NVS_OK = true) : SecEnded s.doAttest 0
    ∧ s.doAttest.rd SEC.XMSS_CUR = s.rd SEC.XMSS_CUR + 1
    ∧ s.doAttest.nvs = (if s.rd SEC.XMSS_CUR < s.nvs.security.next then s.nvs
        else { s.nvs with security := { s.nvs.security with next := min (s.rd SEC.XMSS_CUR + s.rd SEC.XMSS_RESERVE) (2 ^ 20) } })
    ∧ (s.rd SEC.XMSS_CUR + 1 = 2 ^ 20 → s.doAttest.on SEC.ST_EXHAUSTED = true)
    ∧ s.doAttest.sec.out = s.signedEvidence ++ s.sec.out.drop s.signedEvidence.length := by
  rw [doAttest_signs hlost hcur hok]
  generalize s.signedEvidence = l
  obtain ⟨a1, a2⟩ := reserved_shows s
  generalize s.reserved = u at *
  rw [← a2, ← a1]
  generalize s.rd SEC.XMSS_CUR = cur at *
  obtain ⟨b1, b2, b3⟩ := evidenceOut_shows u cur l
  generalize u.evidenceOut cur l = v at *
  obtain ⟨c1, c2, c3, c4⟩ := xmssExhausted_shows v
  generalize v.xmssExhausted = w at *
  obtain ⟨d1, d2, -, d4, d5⟩ := secEnds_shows w (result := 0) (by decide)
  have hmod : (cur + 1) % 2 ^ 32 = cur + 1 := Nat.mod_eq_of_lt (by omega)
  have hv : v.rd SEC.XMSS_CUR = cur + 1 := b3.trans hmod
  refine ⟨d1, ((d5 SEC.XMSS_CUR (by decide)).trans (c3 SEC.XMSS_CUR (by decide))).trans hv, d2.trans (c1.trans b1), fun h => ?_,
    d4.trans ((congrArg SecState.out c2 :).trans b2)⟩
  exact (congrArg (· != 0) (d5 SEC.ST_EXHAUSTED (by decide))).trans (c4 (by rw [hv, h]))

theorem attestDone_shows (hrun : s.runs pSEC = true) (hc : s.sec.command = some (2, slot)) :
    (s.nvs.security.lost = true → ∃ t, exec .secCommandDone s = .next t ∧ SecEnded t 14 ∧ t.on (C.FAULT pSEC 1) = true ∧ t.nvs = s.nvs)
    ∧ (s.nvs.security.lost = false → 2 ^ 20 ≤ s.rd SEC.XMSS_CUR → ∃ t, exec .secCommandDone s = .next t ∧ SecEnded t 12
      ∧ t.on SEC.ST_EXHAUSTED = true ∧ t.nvs = s.nvs)
    ∧ (s.nvs.security.lost = false → s.rd SEC.XMSS_CUR < 2 ^ 20 → s.nvs.security.next ≤ s.rd SEC.XMSS_CUR → ¬s.on WATCH.ST_NVS_OK = true →
      ∃ t, exec .secCommandDone s = .next t ∧ SecEnded t 11 ∧ t.nvs = s.nvs ∧ t.rd SEC.XMSS_CUR = s.rd SEC.XMSS_CUR) := by
  rw [exec_secCommandDone hrun hc, if_neg (by decide), if_pos (rfl : (2 : Nat) = 2)]
  refine ⟨fun hlost => ?_, fun hlost hcur => ?_, fun hlost hcur hnext hno => ?_⟩
  · have h : s.doAttest = (s.fault pSEC 1).secEnds 14 := if_pos hlost
    have hon : (s.fault pSEC 1).on (C.FAULT pSEC 1) = true := fault_on_self s (by decide) (by decide)
    have hnvs := (fault_nvs s pSEC 1).1
    rw [h]
    generalize s.fault pSEC 1 = u at *
    obtain ⟨k1, k2, -, -, k5⟩ := secEnds_shows u (result := 14) (by decide)
    exact ⟨_, rfl, k1, (congrArg (· != 0) (k5 (C.FAULT pSEC 1) (by decide))).trans hon, k2.trans hnvs⟩
  · have h : s.doAttest = s.xmssExhausted.secEnds 12 := (if_neg (by rw [hlost]; exact Bool.false_ne_true)).trans (if_pos hcur)
    obtain ⟨c1, -, -, c4⟩ := xmssExhausted_shows s
    rw [h]
    generalize s.xmssExhausted = u at *
    obtain ⟨k1, k2, -, -, k5⟩ := secEnds_shows u (result := 12) (by decide)
    exact ⟨_, rfl, k1, (congrArg (· != 0) (k5 SEC.ST_EXHAUSTED (by decide))).trans (c4 hcur), k2.trans c1⟩
  · have h : s.doAttest = s.nvsBlocked.secEnds 11 :=
      (if_neg (by rw [hlost]; exact Bool.false_ne_true)).trans ((if_neg (Nat.not_le.mpr hcur)).trans
        (if_pos (by rw [decide_eq_true hnext, Bool.eq_false_iff.mpr hno]; rfl)))
    rw [h]
    obtain ⟨k1, k2, k3⟩ := blockedEnds_shows s
    exact ⟨_, rfl, k1, k2, k3⟩

end

end Sys2Proof.Machine
end

section
/-! PROOFS. NVS, the boot and the recovery monitor (R498 to R500, R508 to R511, R522). -/
namespace Sys2Proof.Machine
open Sys2Proof

section
variable {s t : State} {path : Path} {value : Word}

/-! ### WGO (R508, R509) -/

theorem exec_wgo (hrun : s.runs pNVS = true) : exec (.wgo path value) s = .next (({ s with bus := {} } : State).wgo path value.toNat) :=
  congrArg Host.Outcome.next (writeTo_runs (f := fun s => s.wgo path value.toNat) hrun)

/-- A word enters the queue. -/
def State.wordQueued (s : State) : State :=
  { s.wr NVS.WADDR (s.rd NVS.WADDR + 1) with
    nvs.queue := s.nvs.queue ++ [(s.rd NVS.WADDR, BitVec.ofNat 64 (s.rd NVS.WDATA_HI * 2 ^ 32 + s.rd NVS.WDATA_LO))] }

theorem startPulse_shows (s : State) : s.startPulse.nvs.queue = s.nvs.queue ∧ s.startPulse.nvs.mram = s.nvs.mram ∧ ∀ f, s.startPulse.rd f = s.rd f := by
  unfold State.startPulse
  extract_lets waits
  split <;> exact ⟨rfl, rfl, fun _ => rfl⟩

theorem showWriting_shows (s : State) : s.showWriting.nvs = s.nvs ∧ s.showWriting.on NVS.ST_WRITING = (s.nvs.queue != [])
    ∧ s.showWriting.rd NVS.WADDR = s.rd NVS.WADDR :=
  ⟨rfl, State.on_put_self _ _ _ (by decide), State.rd_put_ne _ NVS.ST_WRITING NVS.WADDR _ (by decide)⟩

theorem wordQueued_shows (s : State) : s.wordQueued.rd NVS.WADDR = (s.rd NVS.WADDR + 1) % 2 ^ 19 ∧ s.wordQueued.nvs.queue
    = s.nvs.queue ++ [(s.rd NVS.WADDR, BitVec.ofNat 64 (s.rd NVS.WDATA_HI * 2 ^ 32 + s.rd NVS.WDATA_LO))] := ⟨State.rd_wr_self _ _ _, rfl⟩

theorem wgo_refused {v : Nat} (hv : bit v 31 = true) (h : path ≠ .host ∨ 8 * s.rd NVS.WADDR < 0x10000) :
    s.wgo path v = s.put (C.ERR_STATE pNVS) true := by
  unfold State.wgo
  extract_lets a waiting
  rw [if_neg (by rw [hv]; decide), if_pos]
  · rfl
  · rw [Bool.or_eq_true, bne_iff_ne, decide_eq_true_eq]
    exact h

theorem wgo_host {v : Nat} (hv : bit v 31 = true) (hp : path = .host) (ha : 0x10000 ≤ 8 * s.rd NVS.WADDR) : s.wgo path v
    = if s.on WATCH.ST_NVS_OK = true then
        (if s.nvs.pulse = true ∧ 9 ≤ s.nvs.queue.length then s.put (C.ERR_BUSY pNVS) true
        else (if s.wordQueued.nvs.pulse then s.wordQueued else s.wordQueued.startPulse).showWriting)
      else s.nvsBlocked.put (C.ERR_STATE pNVS) true := by
  subst hp
  unfold State.wgo
  extract_lets a waiting w _ _ s1
  rw [if_neg (by rw [hv]; decide), if_neg (by rw [decide_eq_false (Nat.not_lt.mpr ha)]; decide)]
  by_cases hok : s.on WATCH.ST_NVS_OK = true
  · rw [if_neg (by rw [hok]; decide), if_pos hok]
    have hfull : (s.nvs.pulse && decide (8 ≤ waiting)) = true ↔ s.nvs.pulse = true ∧ 9 ≤ s.nvs.queue.length := by
      rw [Bool.and_eq_true, decide_eq_true_eq]
      refine and_congr_right fun hpulse => ?_
      unfold waiting
      rw [if_pos hpulse]
      omega
    by_cases hq : s.nvs.pulse = true ∧ 9 ≤ s.nvs.queue.length
    · rw [if_pos hq, if_pos (hfull.mpr hq)]
      rfl
    · rw [if_neg hq, if_neg fun h => hq (hfull.mp h)]
      rfl
  · rw [if_neg hok, if_pos (by rw [Bool.eq_false_iff.mpr hok]; rfl)]
    rfl

theorem wgoTaken_shows (s : State) : (if s.wordQueued.nvs.pulse then s.wordQueued else s.wordQueued.startPulse).showWriting.rd NVS.WADDR
      = (s.rd NVS.WADDR + 1) % 2 ^ 19
    ∧ (if s.wordQueued.nvs.pulse then s.wordQueued else s.wordQueued.startPulse).showWriting.on NVS.ST_WRITING = true
    ∧ (if s.wordQueued.nvs.pulse then s.wordQueued else s.wordQueued.startPulse).showWriting.nvs.queue
      = s.nvs.queue ++ [(s.rd NVS.WADDR, BitVec.ofNat 64 (s.rd NVS.WDATA_HI * 2 ^ 32 + s.rd NVS.WDATA_LO))] := by
  obtain ⟨h1, h2⟩ := wordQueued_shows s
  generalize s.wordQueued = u at *
  have hv : (if u.nvs.pulse then u else u.startPulse).rd NVS.WADDR = u.rd NVS.WADDR
      ∧ (if u.nvs.pulse then u else u.startPulse).nvs.queue = u.nvs.queue := by
    obtain ⟨k1, -, k3⟩ := startPulse_shows u
    split
    · exact ⟨rfl, rfl⟩
    · exact ⟨k3 _, k1⟩
  generalize (if u.nvs.pulse then u else u.startPulse) = v at *
  obtain ⟨k1, k2, k3⟩ := showWriting_shows v
  rw [k1, k2, k3, hv.1, hv.2, h1, h2]
  exact ⟨rfl, bne_iff_ne.mpr (List.append_ne_nil_of_right_ne_nil _ (List.cons_ne_nil _ _)), rfl⟩

theorem nvsBlocked_counts (hrun : s.runs pNVS = true) : s.nvsBlocked.rd NVS.BLOCKED_CNT = min (s.rd NVS.BLOCKED_CNT + 1) 65535 := by
  have h : s.nvsBlocked = (s.count NVS.BLOCKED_CNT 1).raise NVS.INT_BLOCKED := if_pos hrun
  rw [h]
  exact (State.rd_put_ne _ NVS.INT_BLOCKED NVS.BLOCKED_CNT true (by decide)).trans (State.rd_count s NVS.BLOCKED_CNT 1)

theorem wgo_shows (hrun : s.runs pNVS = true) (hv : value.getLsbD 31 = true) (hp : path = .host) (ha : 0x10000 ≤ 8 * s.rd NVS.WADDR) :
    (s.on WATCH.ST_NVS_OK = true → ¬(s.nvs.pulse = true ∧ 9 ≤ s.nvs.queue.length) → ∃ t, exec (.wgo path value) s = .next t
      ∧ t.rd NVS.WADDR = (s.rd NVS.WADDR + 1) % 2 ^ 19 ∧ t.on NVS.ST_WRITING = true
      ∧ t.nvs.queue = s.nvs.queue ++ [(s.rd NVS.WADDR, BitVec.ofNat 64 (s.rd NVS.WDATA_HI * 2 ^ 32 + s.rd NVS.WDATA_LO))])
    ∧ (s.on WATCH.ST_NVS_OK = true → s.nvs.pulse = true ∧ 9 ≤ s.nvs.queue.length →
      exec (.wgo path value) s = .next (({ s with bus := {} } : State).put (C.ERR_BUSY pNVS) true))
    ∧ (¬s.on WATCH.ST_NVS_OK = true → ∃ t, exec (.wgo path value) s = .next t ∧ t.on (C.ERR_STATE pNVS) = true ∧ t.nvs = s.nvs
      ∧ t.rd NVS.BLOCKED_CNT = min (s.rd NVS.BLOCKED_CNT + 1) 65535) := by
  have hbit : bit value.toNat 31 = true := (bit_toNat value 31).trans hv
  have hquiet : (∀ f, ({ s with bus := {} } : State).rd f = s.rd f) ∧ ({ s with bus := {} } : State).nvs = s.nvs
      ∧ ({ s with bus := {} } : State).runs pNVS = s.runs pNVS := ⟨fun _ => rfl, rfl, rfl⟩
  rw [exec_wgo hrun]
  generalize ({ s with bus := {} } : State) = u at *
  obtain ⟨hrd, hnvs, hruns⟩ := hquiet
  have hon : u.on WATCH.ST_NVS_OK = s.on WATCH.ST_NVS_OK := congrArg (· != 0) (hrd _)
  rw [wgo_host hbit hp (by rw [hrd]; exact ha), hon, hnvs]
  refine ⟨fun hok hq => ?_, fun hok hq => ?_, fun hno => ?_⟩
  · rw [if_pos hok, if_neg hq]
    obtain ⟨k1, k2, k3⟩ := wgoTaken_shows u
    rw [hnvs, hrd, hrd, hrd] at k3
    rw [hrd] at k1
    exact ⟨_, rfl, k1, k2, k3⟩
  · rw [if_pos hok, if_pos hq]
  · rw [if_neg hno]
    obtain ⟨k1, -, -⟩ := nvsBlocked_shows u
    have hcount := nvsBlocked_counts (s := u) (hruns.trans hrun)
    generalize u.nvsBlocked = v at *
    refine ⟨_, rfl, State.on_put_self _ _ _ (by decide), k1.trans hnvs, ?_⟩
    rw [State.rd_put_ne _ _ _ _ (by decide), hcount, hrd]

/-! ### The life record (R511) and the words of the MRAM (R510) -/

theorem lifeRecord_shows (hrun : s.runs pNVS = true) :
    (s.on WATCH.ST_NVS_OK = true → ∃ t new, exec .lifeRecordWrite s = .next t ∧ t.nvs.life = (new :: s.nvs.life).take 256
      ∧ new.seq = (s.nvs.life.head?.getD {}).seq + 1 ∧ new.map = (List.range 64).map (fun g => s.rd (REG.ENGINE_OF_RG g)) ∧ t.nvs.owed = 0 ∧ t.nvs.coldPending = false
      ∧ t.nvs.lifePending = false ∧ t.regs = s.regs)
    ∧ (¬s.on WATCH.ST_NVS_OK = true → ∃ t, exec .lifeRecordWrite s = .next t ∧ t.nvs.life = s.nvs.life
      ∧ t.rd NVS.BLOCKED_CNT = min (s.rd NVS.BLOCKED_CNT + 1) 65535) := by
  have hexec : exec .lifeRecordWrite s = execLifeRecordWrite s := rfl
  rw [hexec]
  unfold execLifeRecordWrite
  extract_lets minute old new
  rw [if_neg (by rw [hrun]; decide)]
  refine ⟨fun hok => ?_, fun hno => ?_⟩
  · rw [if_neg (by rw [hok]; decide)]
    have h1 : new.seq = (s.nvs.life.head?.getD {}).seq + 1 := rfl
    have h2 : new.map = (List.range 64).map (fun g => s.rd (REG.ENGINE_OF_RG g)) := rfl
    clear_value new
    exact ⟨_, new, rfl, rfl, h1, h2, rfl, rfl, rfl, rfl⟩
  · rw [if_pos (by rw [Bool.eq_false_iff.mpr hno]; rfl)]
    have hcount := nvsBlocked_counts hrun
    obtain ⟨k1, -, -⟩ := nvsBlocked_shows s
    exact ⟨_, rfl, (congrArg NvsState.life k1 : s.nvsBlocked.nvs.life = s.nvs.life), hcount⟩

theorem Mem.read_setDWord (m : Mem) (a : Nat) (v : DWord) (x : Nat) :
    (m.setLe a 8 v.toNat).read x = if a ≤ x ∧ x < a + 8 then v.extractLsb' (8 * (x - a)) 8 else m.read x := by
  rw [Mem.setLe, Mem.read_write, leBytes_length]
  split
  · rw [getD_leBytes_toNat v (by omega)]
  · rfl

theorem mramWriteDone_shows {a : Nat} {w : DWord} {rest : List (Nat × DWord)} (hpulse : s.nvs.pulse = true) (hq : s.nvs.queue = (a, w) :: rest) :
    ∃ t, exec .mramWriteDone s = .next t ∧ t.nvs.queue = rest
      ∧ ∀ x, t.nvs.mram.read x = if 8 * a ≤ x ∧ x < 8 * a + 8 then w.extractLsb' (8 * (x - 8 * a)) 8 else s.nvs.mram.read x := by
  have hexec : exec .mramWriteDone s = .next (State.showWriting (State.startPulse { s with
      nvs.mram := s.nvs.mram.setLe (8 * a) 8 w.toNat, nvs.queue := rest, nvs.pulse := false })) := by
    show execMramWriteDone s = _
    unfold execMramWriteDone
    rw [if_neg (by rw [hpulse]; decide), hq]
    rfl
  rw [hexec]
  have hu : ({ s with nvs.mram := s.nvs.mram.setLe (8 * a) 8 w.toNat, nvs.queue := rest, nvs.pulse := false } : State).nvs.queue = rest
      ∧ ({ s with nvs.mram := s.nvs.mram.setLe (8 * a) 8 w.toNat, nvs.queue := rest, nvs.pulse := false } : State).nvs.mram
        = s.nvs.mram.setLe (8 * a) 8 w.toNat := ⟨rfl, rfl⟩
  generalize ({ s with nvs.mram := s.nvs.mram.setLe (8 * a) 8 w.toNat, nvs.queue := rest, nvs.pulse := false } : State) = u at *
  obtain ⟨k1, k2, -⟩ := startPulse_shows u
  generalize u.startPulse = v at *
  obtain ⟨j1, -, -⟩ := showWriting_shows v
  refine ⟨_, rfl, ?_, fun x => ?_⟩
  · rw [j1, k1]
    exact hu.1
  · rw [j1, k2, hu.2]
    exact Mem.read_setDWord _ _ _ _

/-! ### The boot (R497 to R500) -/

theorem sliceLe_lt (rd : Nat → Byte) (o : Nat) : sliceLe rd o 2 < 65536 := by
  have h := ofLeBytes_lt (slice rd o 2)
  rw [readRun_length] at h
  exact h

/-- The registers and the state of a host core that runs a volume. -/
theorem runHost_shows (s : State) (rd : Nat → Byte) : (s.runHost rd).mon.running = true ∧ (s.runHost rd).mon.recovery = false
    ∧ (s.runHost rd).rd SEC.HOST_VOL_ID = sliceLe rd 8 2 ∧ (s.runHost rd).rd SEC.HOST_VOL_VER = sliceLe rd 0x0A 2
    ∧ (s.runHost rd).sec.hostHash = slice rd 0x38 32 ∧ KeepsRegs [SEC.HOST_VOL_ID.key, SEC.HOST_VOL_VER.key] s (s.runHost rd) := by
  have hr : (volumeRecord rd).volId = sliceLe rd 8 2 ∧ (volumeRecord rd).volVer = sliceLe rd 0x0A 2 ∧ (volumeRecord rd).hash = slice rd 0x38 32 :=
    ⟨rfl, rfl, rfl⟩
  unfold State.runHost
  generalize volumeRecord rd = r at *
  obtain ⟨r1, r2, r3⟩ := hr
  extract_lets _ s1
  have h1 : s1.rd SEC.HOST_VOL_ID = r.volId % 2 ^ 16 :=
    (State.rd_wr_ne _ SEC.HOST_VOL_VER SEC.HOST_VOL_ID _ (by decide)).trans (State.rd_wr_self _ SEC.HOST_VOL_ID _)
  have h2 : s1.rd SEC.HOST_VOL_VER = r.volVer % 2 ^ 16 := State.rd_wr_self _ SEC.HOST_VOL_VER _
  have h3 : KeepsRegs [SEC.HOST_VOL_ID.key, SEC.HOST_VOL_VER.key] s s1 :=
    ((KeepsRegs.refl _ s).wr SEC.HOST_VOL_ID _ (by decide)).wr SEC.HOST_VOL_VER _ (by decide)
  clear_value s1
  refine ⟨rfl, rfl, h1.trans ?_, h2.trans ?_, r3, h3⟩
  · rw [r1]
    exact Nat.mod_eq_of_lt (sliceLe_lt rd 8)
  · rw [r2]
    exact Nat.mod_eq_of_lt (sliceLe_lt rd 0x0A)

/-- A volume's verification reads the MRAM and the security record alone. -/
theorem verifyVolume_of_nvs (h : t.nvs = s.nvs) (rd : Nat → Byte) (len dest : Nat) : t.verifyVolume rd len dest = s.verifyVolume rd len dest := by
  unfold State.verifyVolume State.verifyHeader State.verifyPayload State.slotHolds State.slotRevoked State.slotKey
  rw [h]

theorem hostVolume_of_nvs (h : t.nvs = s.nvs) (slot : Nat) : t.hostVolume slot = s.hostVolume slot := by
  unfold State.hostVolume
  rw [h]

theorem bootRecord_of_nvs (h : t.nvs = s.nvs) : t.bootRecord = s.bootRecord := by
  unfold State.bootRecord State.bootCopy
  rw [h]

theorem trySlot_none {slot : Nat} (h : s.hostVolume slot = none) : s.trySlot slot = s.fault pSEC 2 := by
  unfold State.trySlot
  rw [h]

/-- Host memory holds the volume's bytes. -/
def State.volumeCopied (s : State) (l : List Byte) : State := { s with mon.mem := s.mon.mem.write Config.hostLoad l }

theorem trySlot_runs {slot o len : Nat} (h : s.hostVolume slot = some (o, len))
    (hv : s.verifyVolume (fun i => s.nvs.flash.read (o + i)) len 0x7F = 0) :
    ∃ l, s.trySlot slot = (s.volumeCopied l).runHost fun i => s.nvs.flash.read (o + i) := by
  refine ⟨slice (fun i => s.nvs.flash.read (o + i)) 0 (min len volumeMax), ?_⟩
  unfold State.trySlot
  rw [h]
  dsimp only
  generalize slice (fun i => s.nvs.flash.read (o + i)) 0 (min len volumeMax) = l
  exact if_pos ((verifyVolume_of_nvs (t := s.volumeCopied l) rfl _ len 0x7F).trans hv)

/-- The flash's figures show as the ROM starts. -/
def State.bootBegun (s : State) : State := (s.wr NVS.FLASH_MIB Config.flashMib).put NVS.XSPI_8D s.nvs.flash8d

theorem exec_bootSequence (hhcp : s.runs pHCP = true) (hsec : s.runs pSEC = true) (hnvs : s.runs pNVS = true) (hrun : s.mon.running = false)
    (hrec : s.mon.recovery = false) : exec .bootSequence s = .next (
      if s.rd RST.BOOTSEL = 1 then s.bootBegun.trySlots [0] else if s.rd RST.BOOTSEL = 2 then s.bootBegun.trySlots [1]
      else if s.rd RST.BOOTSEL = 3 || s.rd RST.BOOTSEL = 4 then { s.bootBegun with mon.recovery := true }
      else (if 5 ≤ s.rd RST.BOOTSEL then s.bootBegun.put SEC.ST_BOOTSEL_BAD true else s.bootBegun).chooseSlot.2.trySlots
        [(if 5 ≤ s.rd RST.BOOTSEL then s.bootBegun.put SEC.ST_BOOTSEL_BAD true else s.bootBegun).chooseSlot.1,
          1 - (if 5 ≤ s.rd RST.BOOTSEL then s.bootBegun.put SEC.ST_BOOTSEL_BAD true else s.bootBegun).chooseSlot.1]) := by
  show execBootSequence s = _
  unfold execBootSequence
  extract_lets sel s1 s2
  rw [if_neg (by rw [hhcp, hsec, hnvs, hrun, hrec]; decide)]
  rfl

theorem trySlots_cons (s : State) (slot : Nat) (rest : List Nat) : s.trySlots (slot :: rest)
    = if (s.trySlot slot).mon.running = true then s.trySlot slot else (s.trySlot slot).trySlots rest := rfl

/-- A slot that verifies is run. -/
theorem trySlots_runs {slot o len : Nat} (rest : List Nat) (h : s.hostVolume slot = some (o, len))
    (hv : s.verifyVolume (fun i => s.nvs.flash.read (o + i)) len 0x7F = 0) :
    (s.trySlots (slot :: rest)).mon.running = true ∧ (s.trySlots (slot :: rest)).mon.recovery = false
    ∧ (s.trySlots (slot :: rest)).rd SEC.HOST_VOL_ID = sliceLe (fun i => s.nvs.flash.read (o + i)) 8 2
    ∧ (s.trySlots (slot :: rest)).rd SEC.HOST_VOL_VER = sliceLe (fun i => s.nvs.flash.read (o + i)) 0x0A 2
    ∧ (s.trySlots (slot :: rest)).sec.hostHash = slice (fun i => s.nvs.flash.read (o + i)) 0x38 32
    ∧ KeepsRegs [SEC.HOST_VOL_ID.key, SEC.HOST_VOL_VER.key] s (s.trySlots (slot :: rest)) := by
  obtain ⟨l, hl⟩ := trySlot_runs h hv
  generalize (fun i => s.nvs.flash.read (o + i)) = rd at *
  obtain ⟨k1, k2, k3, k4, k5, k6⟩ := runHost_shows (s.volumeCopied l) rd
  have hkeep : KeepsRegs [SEC.HOST_VOL_ID.key, SEC.HOST_VOL_VER.key] s (s.volumeCopied l) := fun _ _ => rfl
  rw [trySlots_cons, hl, if_pos k1]
  exact ⟨k1, k2, k3, k4, k5, hkeep.trans k6⟩

theorem fault_mon (s : State) (p b : Nat) : (s.fault p b).mon = s.mon := by
  obtain ⟨r, posts, h⟩ := State.fault_state s p b
  rw [h]

theorem boot_shows {o len : Nat} (hhcp : s.runs pHCP = true) (hsec : s.runs pSEC = true) (hnvs : s.runs pNVS = true)
    (hrun : s.mon.running = false) (hrec : s.mon.recovery = false) :
    (s.rd RST.BOOTSEL = 3 ∨ s.rd RST.BOOTSEL = 4 → ∃ t, exec .bootSequence s = .next t ∧ t.mon.recovery = true ∧ t.mon.running = false)
    ∧ (s.rd RST.BOOTSEL = 1 → s.hostVolume 0 = none → ∃ t, exec .bootSequence s = .next t ∧ t.mon.recovery = true
      ∧ t.on (C.FAULT pSEC 2) = true)
    ∧ (s.rd RST.BOOTSEL = 2 → s.hostVolume 1 = some (o, len) → s.verifyVolume (fun i => s.nvs.flash.read (o + i)) len 0x7F = 0 →
      ∃ t, exec .bootSequence s = .next t ∧ t.mon.running = true ∧ t.mon.recovery = false
      ∧ t.rd SEC.HOST_VOL_ID = sliceLe (fun i => s.nvs.flash.read (o + i)) 8 2
      ∧ t.rd SEC.HOST_VOL_VER = sliceLe (fun i => s.nvs.flash.read (o + i)) 0x0A 2
      ∧ t.sec.hostHash = slice (fun i => s.nvs.flash.read (o + i)) 0x38 32)
    ∧ (s.rd RST.BOOTSEL = 0 ∨ 5 ≤ s.rd RST.BOOTSEL → s.bootRecord = none → s.hostVolume 0 = some (o, len) →
      s.verifyVolume (fun i => s.nvs.flash.read (o + i)) len 0x7F = 0 → ∃ t, exec .bootSequence s = .next t ∧ t.mon.running = true
      ∧ t.mon.recovery = false ∧ t.on SEC.ST_BOOT_REVERTED = true ∧ t.sec.hostHash = slice (fun i => s.nvs.flash.read (o + i)) 0x38 32) := by
  rw [exec_bootSequence hhcp hsec hnvs hrun hrec]
  have hbegun : s.bootBegun.nvs = s.nvs ∧ s.bootBegun.mon = s.mon := ⟨rfl, rfl⟩
  generalize s.bootBegun = u at *
  obtain ⟨hn, hm⟩ := hbegun
  refine ⟨fun h => ?_, fun h hnone => ?_, fun h hvol hv => ?_, fun h hboot hvol hv => ?_⟩
  · rw [if_neg (by omega), if_neg (by omega), if_pos (by rw [Bool.or_eq_true, decide_eq_true_eq, decide_eq_true_eq]; exact h)]
    exact ⟨_, rfl, rfl, (congrArg MonState.running hm :).trans hrun⟩
  · rw [if_pos h, trySlots_cons, trySlot_none ((hostVolume_of_nvs hn 0).trans hnone)]
    have hon : (u.fault pSEC 2).on (C.FAULT pSEC 2) = true := fault_on_self u (by decide) (by decide)
    have hmon := (fault_mon u pSEC 2).trans hm
    generalize u.fault pSEC 2 = v at *
    rw [if_neg (by rw [hmon, hrun]; exact Bool.false_ne_true)]
    exact ⟨_, rfl, rfl, hon⟩
  · rw [if_neg (by omega), if_pos h]
    obtain ⟨k1, k2, k3, k4, k5, -⟩ := trySlots_runs (s := u) [] ((hostVolume_of_nvs hn 1).trans hvol)
      (by rw [hn, verifyVolume_of_nvs hn]; exact hv)
    rw [hn] at k3 k4 k5
    exact ⟨_, rfl, k1, k2, k3, k4, k5⟩
  · rw [if_neg (by omega), if_neg (by omega), if_neg (by rw [Bool.or_eq_true, decide_eq_true_eq, decide_eq_true_eq]; omega)]
    have hbad : (if 5 ≤ s.rd RST.BOOTSEL then u.put SEC.ST_BOOTSEL_BAD true else u).nvs = s.nvs := by
      split <;> exact hn
    generalize (if 5 ≤ s.rd RST.BOOTSEL then u.put SEC.ST_BOOTSEL_BAD true else u) = v at *
    have hchoose : v.chooseSlot = (0, v.put SEC.ST_BOOT_REVERTED true) := by
      unfold State.chooseSlot
      rw [bootRecord_of_nvs hbad, hboot]
    rw [hchoose]
    dsimp only
    have hon : (v.put SEC.ST_BOOT_REVERTED true).on SEC.ST_BOOT_REVERTED = true := State.on_put_self _ _ _ (by decide)
    have hput : (v.put SEC.ST_BOOT_REVERTED true).nvs = s.nvs := hbad
    generalize v.put SEC.ST_BOOT_REVERTED true = w at *
    obtain ⟨k1, k2, -, -, k5, k6⟩ := trySlots_runs (s := w) [1 - 0] ((hostVolume_of_nvs hput 0).trans hvol)
      (by rw [hput, verifyVolume_of_nvs hput]; exact hv)
    rw [hput] at k5
    exact ⟨_, rfl, k1, k2, (congrArg (· != 0) (k6 SEC.ST_BOOT_REVERTED (by decide))).trans hon, k5⟩

/-! ### The recovery monitor (R522) -/

theorem exec_recovGo (hrun : s.runs pMON = true) : exec (.recovGo path value) s
    = .next ((if value.getLsbD 31 = true then s.recovGo else s).written) := by
  have hw : s.writeWord path pMON 0x54 value.toNat = if bit value.toNat 31 then s.recovGo else s := by
    rw [writeWord_unit value.toNat hrun (by decide) (by decide)]
    unfold State.unitWrite
    simp [pREG, pACQ, pEMT, pLMP, pSCN, pCONVH, pFLT, pAFE, pCAL, pSAF, pPWR, pRST, pSEC, pNVS, pMON]
  refine congrArg Host.Outcome.next ((wordCommand_written value (by decide) (by decide) (by decide) (not_writesWait (by decide))).trans ?_)
  rw [hw, bit_toNat]

theorem written_mon (s : State) : s.written.mon = s.mon ∧ ∀ f, s.written.rd f = s.rd f := by
  unfold State.written State.eventsQuiet
  split <;> exact ⟨rfl, fun _ => rfl⟩

theorem verifyVolume_lt (s : State) (rd : Nat → Byte) (len dest : Nat) : s.verifyVolume rd len dest < 16 := by
  unfold State.verifyVolume
  extract_lets r
  split
  · exact verifyHeader_lt s rd len dest
  · exact verifyPayload_lt s rd

theorem recovGo_shows (hrun : s.runs pMON = true) (hv : value.getLsbD 31 = true) (hrec : s.mon.recovery = true) (hsel : s.rd RST.BOOTSEL ≠ 4) :
    ∃ t, exec (.recovGo path value) s = .next t
      ∧ t.rd MON.RECOV_RESULT = s.verifyVolume (fun i => s.mon.staging.read i) (s.rd MON.RECOV_LEN) 0x7F
      ∧ (s.verifyVolume (fun i => s.mon.staging.read i) (s.rd MON.RECOV_LEN) 0x7F = 0 → t.mon.running = true ∧ t.mon.recovery = false)
      ∧ (s.verifyVolume (fun i => s.mon.staging.read i) (s.rd MON.RECOV_LEN) 0x7F ≠ 0 → t.mon = s.mon) := by
  rw [exec_recovGo hrun, if_pos hv]
  have hgo : s.recovGo = if s.verifyVolume (fun i => s.mon.staging.read i) (s.rd MON.RECOV_LEN) 0x7F = 0
      then (s.wr MON.RECOV_RESULT (s.verifyVolume (fun i => s.mon.staging.read i) (s.rd MON.RECOV_LEN) 0x7F)).runHost fun i => s.mon.staging.read i
      else s.wr MON.RECOV_RESULT (s.verifyVolume (fun i => s.mon.staging.read i) (s.rd MON.RECOV_LEN) 0x7F) :=
    if_pos (by rw [hrec, bne_iff_ne.mpr hsel]; rfl)
  have hlt := verifyVolume_lt s (fun i => s.mon.staging.read i) (s.rd MON.RECOV_LEN) 0x7F
  generalize s.verifyVolume (fun i => s.mon.staging.read i) (s.rd MON.RECOV_LEN) 0x7F = r at *
  generalize (fun i => s.mon.staging.read i) = rd at *
  have hres : (s.wr MON.RECOV_RESULT r).rd MON.RECOV_RESULT = r := (State.rd_wr_self s MON.RECOV_RESULT r).trans (Nat.mod_eq_of_lt hlt)
  have hmon : (s.wr MON.RECOV_RESULT r).mon = s.mon := rfl
  rw [hgo]
  generalize s.wr MON.RECOV_RESULT r = u at *
  obtain ⟨k1, k2, -, -, -, k6⟩ := runHost_shows u rd
  by_cases h0 : r = 0
  · rw [if_pos h0]
    obtain ⟨w1, w2⟩ := written_mon (u.runHost rd)
    exact ⟨_, rfl, (w2 _).trans ((k6 MON.RECOV_RESULT (by decide)).trans hres), fun _ => ⟨(congrArg MonState.running w1 :).trans k1,
      (congrArg MonState.recovery w1 :).trans k2⟩, fun h => absurd h0 h⟩
  · rw [if_neg h0]
    obtain ⟨w1, w2⟩ := written_mon u
    exact ⟨_, rfl, (w2 _).trans hres, fun h => absurd h h0, fun _ => w1.trans hmon⟩

theorem recovGo_idle (hrun : s.runs pMON = true) (h : value.getLsbD 31 = false ∨ s.mon.recovery = false ∨ s.rd RST.BOOTSEL = 4) :
    exec (.recovGo path value) s = .next s.written := by
  rw [exec_recovGo hrun]
  refine congrArg (fun u : State => Host.Outcome.next u.written) ?_
  split
  · next hv =>
    refine if_neg ?_
    rw [Bool.and_eq_true, bne_iff_ne]
    rintro ⟨h1, h2⟩
    rcases h with h | h | h
    · exact absurd (h.symm.trans hv) Bool.false_ne_true
    · exact absurd (h.symm.trans h1) Bool.false_ne_true
    · exact h2 h
  · rfl

end

/-- Settles O53: each command, each end of a command and each step of the boot by the lemma about it. -/
theorem securityAndStorage : Obligations.SecurityAndStorage := by
  unfold Obligations.SecurityAndStorage
  intro path value slot o len a w rest s
  refine ⟨fun hrun => secCommand_shows hrun, fun hrun => ⟨fun hc h256 => verifyDone_shows hrun hc h256, fun hc h256 => verifySource_shows hrun hc h256,
    fun hc => certDone_shows hrun hc, fun hc hsrc hmay hok hmagic hver h1 h4 hholds hrev htarget hxmss =>
      enrollDone_shows rfl hrun hc hsrc hmay hok hmagic hver h1 h4 hholds hrev htarget hxmss,
    fun hc h1 h4 hmay => revokeDone_shows hrun hc hmay, fun hc hmay => revokeRefused_shows hrun hc hmay,
    fun hc hmin hok => confirmDone_shows hrun hc hmin hok, fun hc => ?_⟩, fun hrun => ⟨fun hv hp ha => wgo_shows hrun hv hp ha, fun hv h => ?_,
      lifeRecord_shows hrun⟩, fun hp hq => mramWriteDone_shows hp hq, fun h1 h2 h3 h4 h5 => boot_shows h1 h2 h3 h4 h5,
    fun hrun hv hrec hsel => recovGo_shows hrun hv hrec hsel, fun hrun h => recovGo_idle hrun h⟩
  · obtain ⟨k1, k2, k3⟩ := attestDone_shows hrun hc
    refine ⟨k1, k2, k3, fun hlost hcur hok => ?_⟩
    have hexec : exec .secCommandDone s = .next s.doAttest := (exec_secCommandDone hrun hc).trans rfl
    obtain ⟨j1, j2, j3, j4, j5⟩ := attestSigned_shows hlost hcur hok
    exact ⟨s.doAttest, hexec, j1, j2, j3, j4, j5⟩
  · rw [exec_wgo hrun]
    exact congrArg Host.Outcome.next (wgo_refused ((bit_toNat value 31).trans hv) h)

end Sys2Proof.Machine
end

section
/-! PROOFS. The SPI target and the characters of MON_RX (R516, R517, R522, R552, R553, R555). -/
namespace Sys2Proof.Machine
open Sys2Proof

/-! ### SPI frames (R552, R553) -/

/-- A word's bytes, the first on the wire first. -/
def wireBytes (v : Word) : List Byte := [v.extractLsb' 24 8, v.extractLsb' 16 8, v.extractLsb' 8 8, v.extractLsb' 0 8]

theorem beBytes_eq (v : Word) : beBytes v = wireBytes v := by
  have hbyte {i : Nat} (hi : i < 4) : (leBytes 4 v.toNat).getD i 0 = v.extractLsb' (8 * i) 8 := getD_leBytes_toNat v hi
  have hlist : leBytes 4 v.toNat = [v.extractLsb' 0 8, v.extractLsb' 8 8, v.extractLsb' 16 8, v.extractLsb' 24 8] :=
    List.cons_eq_cons.mpr ⟨hbyte (i := 0) (by decide), List.cons_eq_cons.mpr ⟨hbyte (i := 1) (by decide),
      List.cons_eq_cons.mpr ⟨hbyte (i := 2) (by decide), List.cons_eq_cons.mpr ⟨hbyte (i := 3) (by decide), rfl⟩⟩⟩⟩
  unfold beBytes wireBytes
  rw [hlist]
  rfl

theorem wireBytes_zero : wireBytes 0 = [0, 0, 0, 0] := by decide

section
variable {s : State} {addr data : Word} {crc cmd : Byte}

theorem spiRead_silent (h : s.runs 0 = false) : exec (.spiRead addr crc) s = .next (s.spiSays []) := by
  refine congrArg Host.Outcome.next (if_pos ?_)
  rw [State.spiAnswers, h]
  rfl

theorem spiWrite_silent (h : s.runs 0 = false) : exec (.spiWrite addr data crc) s = .next (s.spiSays []) := by
  refine congrArg Host.Outcome.next (if_pos ?_)
  rw [State.spiAnswers, h]
  rfl

theorem spiRead_mangled (h : s.runs 0 = true) (hcrc : crc8Spi (0x0B :: wireBytes addr) ≠ crc.toNat) :
    exec (.spiRead addr crc) s = .next (s.spiSays (spiResponse spiCrc [0, 0, 0, 0])) := by
  refine congrArg Host.Outcome.next ((if_neg ?_).trans (if_pos ?_))
  · rw [State.spiAnswers, h]
    decide
  · rw [beBytes_eq, bne_iff_ne]
    exact hcrc

theorem spiWrite_mangled (h : s.runs 0 = true) (hcrc : crc8Spi (0x02 :: (wireBytes addr ++ wireBytes data)) ≠ crc.toNat) :
    exec (.spiWrite addr data crc) s = .next (s.spiSays (spiResponse spiCrc [])) := by
  refine congrArg Host.Outcome.next ((if_neg ?_).trans (if_pos ?_))
  · rw [State.spiAnswers, h]
    decide
  · rw [beBytes_eq, beBytes_eq, bne_iff_ne]
    exact hcrc

/-- A whole read frame makes its access, and the answer tells whether it failed. -/
theorem spiRead_whole (h : s.runs 0 = true) (hcrc : crc8Spi (0x0B :: wireBytes addr) = crc.toNat) {x : State × BusAnswer}
    (hread : s.spiReadAt addr.toNat = x) : exec (.spiRead addr crc) s
      = .next (State.spiSays { x.1 with bus := x.2 } (spiResponse (if x.2.error then spiError else spiOk) (wireBytes (if x.2.error then 0 else x.2.data)))) := by
  refine congrArg Host.Outcome.next ((if_neg ?_).trans ((if_neg ?_).trans ?_))
  · rw [State.spiAnswers, h]
    decide
  · rw [beBytes_eq, hcrc, bne_self_eq_false]
    decide
  · rw [hread, ← beBytes_eq]

theorem spiWrite_whole (h : s.runs 0 = true) (hcrc : crc8Spi (0x02 :: (wireBytes addr ++ wireBytes data)) = crc.toNat) {x : State × BusAnswer}
    (hwrite : s.spiWriteAt addr.toNat data.toNat = x) : exec (.spiWrite addr data crc) s
      = .next (State.spiSays { x.1 with bus := x.2 } (spiResponse (if x.2.error then spiError else spiOk) [])) := by
  refine congrArg Host.Outcome.next ((if_neg ?_).trans ((if_neg ?_).trans ?_))
  · rw [State.spiAnswers, h]
    decide
  · rw [beBytes_eq, beBytes_eq, hcrc, bne_self_eq_false]
    decide
  · rw [hwrite]

theorem spiReadAt_bus {a : Nat} (h : s.inStaging a = false) : s.spiReadAt a = s.busRead a := by
  refine if_neg ?_
  rw [h]
  exact Bool.false_ne_true

theorem spiWriteAt_bus {a v : Nat} (h : s.inStaging a = false) : s.spiWriteAt a v = s.busWrite .spi a v := by
  refine if_neg ?_
  rw [h]
  exact Bool.false_ne_true

theorem spiReadAt_staging {a : Nat} (h : s.inStaging a = true) (hal : a % 4 = 0) :
    s.spiReadAt a = (s, { data := BitVec.ofNat 32 (s.mon.staging.le (a - 0x70000000) 4) }) := by
  refine if_pos ?_
  rw [h, hal]
  rfl

theorem spiWriteAt_staging {a v : Nat} (h : s.inStaging a = true) (hal : a % 4 = 0) :
    s.spiWriteAt a v = ({ s with mon.staging := s.mon.staging.setLe (a - 0x70000000) 4 v }, {}) := by
  refine if_pos ?_
  rw [h, hal]
  rfl

theorem spiMalformed_answers (hread : cmd ≠ 0x0B) (hwrite : cmd ≠ 0x02) : exec (.spiMalformedFrame cmd) s
    = .next (if s.runs 0 then s.spiSays (spiResponse spiMalformed []) else s.spiSays []) := by
  refine congrArg Host.Outcome.next (if_neg ?_)
  rw [decide_eq_false hread, decide_eq_false hwrite]
  decide
end

/-- The clauses of O54 on frames that do not reach the staging window. -/
theorem spi_frames {s : State} {addr data : Word} {crc char : Byte} (hrun : s.runs 0 = true) (hwin : s.inStaging addr.toNat = false) :
    (crc8Spi (0x0B :: wireBytes addr) = crc.toNat → (s.busRead addr.toNat).2.error = false → exec (.spiRead addr crc) s
      = .next (State.spiSays { (s.busRead addr.toNat).1 with bus := (s.busRead addr.toNat).2 } (spiResponse 0 (wireBytes (s.busRead addr.toNat).2.data))))
    ∧ (crc8Spi (0x0B :: wireBytes addr) = crc.toNat → (s.busRead addr.toNat).2.error = true → exec (.spiRead addr crc) s
      = .next (State.spiSays { (s.busRead addr.toNat).1 with bus := (s.busRead addr.toNat).2 } (spiResponse 1 [0, 0, 0, 0])))
    ∧ (crc8Spi (0x0B :: wireBytes addr) ≠ crc.toNat → exec (.spiRead addr crc) s = .next (s.spiSays (spiResponse 2 [0, 0, 0, 0])))
    ∧ (crc8Spi (0x02 :: (wireBytes addr ++ wireBytes data)) = crc.toNat → exec (.spiWrite addr data crc) s
      = .next (State.spiSays { (s.busWrite .spi addr.toNat data.toNat).1 with bus := (s.busWrite .spi addr.toNat data.toNat).2 }
        (spiResponse (if (s.busWrite .spi addr.toNat data.toNat).2.error then 1 else 0) [])))
    ∧ (crc8Spi (0x02 :: (wireBytes addr ++ wireBytes data)) ≠ crc.toNat → exec (.spiWrite addr data crc) s = .next (s.spiSays (spiResponse 2 [])))
    ∧ (char ≠ 0x0B → char ≠ 0x02 → exec (.spiMalformedFrame char) s = .next (s.spiSays (spiResponse 3 []))) := by
  refine ⟨fun hcrc herr => ?_, fun hcrc herr => ?_, spiRead_mangled hrun, fun hcrc => spiWrite_whole hrun hcrc (spiWriteAt_bus hwin),
    spiWrite_mangled hrun, fun hr hw => ?_⟩
  · rw [spiRead_whole hrun hcrc (spiReadAt_bus hwin), herr]
    rfl
  · rw [spiRead_whole hrun hcrc (spiReadAt_bus hwin), herr, if_pos rfl, if_pos rfl, wireBytes_zero] <;> rfl
  · rw [spiMalformed_answers hr hw, hrun]
    rfl

/-- The clauses of O54 on frames that reach the staging window. -/
theorem spi_staging {s : State} {addr data : Word} {crc : Byte} (hrun : s.runs 0 = true) (hwin : s.inStaging addr.toNat = true)
    (hal : addr.toNat % 4 = 0) :
    (crc8Spi (0x0B :: wireBytes addr) = crc.toNat → ∃ t, exec (.spiRead addr crc) s = .next t ∧ t.regs = s.regs
      ∧ t.spi.response = spiResponse 0 (wireBytes (BitVec.ofNat 32 (s.mon.staging.le (addr.toNat - 0x70000000) 4))))
    ∧ (crc8Spi (0x02 :: (wireBytes addr ++ wireBytes data)) = crc.toNat → ∃ t, exec (.spiWrite addr data crc) s = .next t ∧ t.regs = s.regs
      ∧ t.spi.response = spiResponse 0 [] ∧ t.mon.staging = s.mon.staging.setLe (addr.toNat - 0x70000000) 4 data.toNat) :=
  ⟨fun hcrc => ⟨_, spiRead_whole hrun hcrc (spiReadAt_staging hwin hal), rfl, rfl⟩,
    fun hcrc => ⟨_, spiWrite_whole hrun hcrc (spiWriteAt_staging hwin hal), rfl, rfl, rfl⟩⟩

/-! ### Lines (R516, R517) -/

section
variable {s : State} {char : Byte}

theorem monCharacter_framing (h : s.runs pHCP = true) : exec (.monCharacter char true) s = .next (s.count MON.FRAME_ERR 1) := by
  refine congrArg Host.Outcome.next ((if_neg ?_).trans (if_pos rfl))
  rw [h]
  decide

theorem monCharacter_reads (h : s.runs pHCP = true) (hmon : s.mon.running = true) : exec (.monCharacter char false) s
    = .next (if !s.mon.busy then s.lineChar char else if s.mon.rx.length < 256 then { s with mon.rx := s.mon.rx ++ [char] }
      else s.count MON.RX_OVF 1) := by
  refine congrArg Host.Outcome.next ((if_neg ?_).trans ((if_neg Bool.false_ne_true).trans (if_neg ?_)))
  · rw [h]
    decide
  · rw [State.monitorReads, h, hmon, Bool.true_or]
    decide

theorem lineChar_joins (hlong : s.mon.lineLong = false) (hcr : char ≠ 13) (hlf : char ≠ 10) (hlen : s.mon.line.length < 128) :
    s.lineChar char = { s with mon.line := s.mon.line ++ [char] } := by
  refine (if_neg ?_).trans ((if_neg ?_).trans (if_neg (Nat.not_le.mpr hlen)))
  · rw [decide_eq_false hcr, decide_eq_false hlf]
    decide
  · rw [hlong]
    exact Bool.false_ne_true

theorem lineChar_overflows (hlong : s.mon.lineLong = false) (hcr : char ≠ 13) (hlf : char ≠ 10) (hlen : 128 ≤ s.mon.line.length) :
    s.lineChar char = { s with mon.line := [], mon.lineLong := true } := by
  refine (if_neg ?_).trans ((if_neg ?_).trans (if_pos hlen))
  · rw [decide_eq_false hcr, decide_eq_false hlf]
    decide
  · rw [hlong]
    exact Bool.false_ne_true

theorem lineChar_long (hlong : s.mon.lineLong = true) (hend : char = 13 ∨ char = 10) :
    s.lineChar char = { s with mon.line := [], mon.lineLong := false, mon.output := [ansLong, prompt] } := by
  refine (if_pos ?_).trans (if_pos hlong)
  rw [Bool.or_eq_true, decide_eq_true_iff, decide_eq_true_iff]
  exact hend

/-- The clauses of O54 on a character while Carrel runs. -/
theorem monCharacter_lines (h : s.runs pHCP = true) (hmon : s.mon.running = true) :
    (s.mon.busy = false → s.mon.lineLong = false → char ≠ 13 → char ≠ 10 → s.mon.line.length < 128 →
      exec (.monCharacter char false) s = .next { s with mon.line := s.mon.line ++ [char] })
    ∧ (s.mon.busy = false → s.mon.lineLong = false → char ≠ 13 → char ≠ 10 → 128 ≤ s.mon.line.length →
      exec (.monCharacter char false) s = .next { s with mon.line := [], mon.lineLong := true })
    ∧ (s.mon.busy = false → s.mon.lineLong = true → char = 13 ∨ char = 10 → exec (.monCharacter char false) s =
      .next { s with mon.line := [], mon.lineLong := false, mon.output := [ansLong, prompt] })
    ∧ (s.mon.busy = true → s.mon.rx.length < 256 → exec (.monCharacter char false) s = .next { s with mon.rx := s.mon.rx ++ [char] })
    ∧ (s.mon.busy = true → 256 ≤ s.mon.rx.length → exec (.monCharacter char false) s = .next (s.count MON.RX_OVF 1)) := by
  have hidle (hbusy : s.mon.busy = false) : exec (.monCharacter char false) s = .next (s.lineChar char) := by
    rw [monCharacter_reads h hmon, hbusy]
    rfl
  have hfull (hbusy : s.mon.busy = true) : exec (.monCharacter char false) s
      = .next (if s.mon.rx.length < 256 then { s with mon.rx := s.mon.rx ++ [char] } else s.count MON.RX_OVF 1) := by
    rw [monCharacter_reads h hmon, hbusy]
    rfl
  refine ⟨fun hbusy hlong hcr hlf hlen => ?_, fun hbusy hlong hcr hlf hlen => ?_, fun hbusy hlong hend => ?_, fun hbusy hlen => ?_,
    fun hbusy hlen => ?_⟩
  · rw [hidle hbusy, lineChar_joins hlong hcr hlf hlen]
  · rw [hidle hbusy, lineChar_overflows hlong hcr hlf hlen]
  · rw [hidle hbusy, lineChar_long hlong hend]
  · rw [hfull hbusy, if_pos hlen]
  · rw [hfull hbusy, if_neg (Nat.not_lt.mpr hlen)]

theorem lineTimeout_discards (h : s.mon.busy = false) : exec .lineTimeout s = .next { s with mon.line := [], mon.lineLong := false } := by
  refine congrArg Host.Outcome.next (if_neg ?_)
  rw [h]
  exact Bool.false_ne_true

theorem i2cStretchTimeout_counts (h : s.runs pI2C = true) :
    exec .i2cStretchTimeout s = .next { s with mon.i2cFailed := s.mon.i2cFailed + 1 } := congrArg Host.Outcome.next (if_pos h)
end

end Sys2Proof.Machine
end

section
/-! PROOFS. Carrel's replies (R517 to R520): what a command leaves of the port, and the commands that read and write registers. -/
namespace Sys2Proof.Machine
open Sys2Proof

/-! ### The port while a command runs -/

/-- Register accesses and captures keep the port. -/
theorem Tame.keepsPort {o s : State} (h : Tame true o s) : s.port = o.port := h.kept rfl

/-- The port stands as the command has found it: what an expired `snap` has printed, and nothing that waits. -/
structure Listens (s u : State) : Prop where
  output : u.mon.output = s.heardMon.output
  rx : u.mon.rx = []
  snapWait : u.mon.snapWait = false

/-- The answer changes neither the registers nor the storage. -/
def Plain (s t : State) : Prop := t.regs = s.regs ∧ t.nvs = s.nvs

section
variable {s u t : State}

theorem Listens.heard (h : s.mon.rx = []) : Listens s s.heard := ⟨rfl, h, rfl⟩

theorem Listens.port (h : Listens s u) (hp : t.port = u.port) : Listens s t :=
  ⟨(congrArg MonState.output hp).trans h.output, (congrArg MonState.rx hp).trans h.rx, (congrArg MonState.snapWait hp).trans h.snapWait⟩

theorem Listens.tame (h : Listens s u) (ht : Tame true u t) : Listens s t := h.port ht.keepsPort

theorem answered_regs (u : State) (lines : List String) (status : String) : (u.answered lines status).regs = u.regs := rfl

variable {c : Instr} {inRecovery inCarrel : Bool} {f : State → Reply} {lines : List String} {status : String} {q : State → Prop}

/-- A command that the monitor knows and that needs no unlock runs once a `snap` that still waited has run into its limit. -/
theorem carrel_sent (hread : s.monitorReads = true) (hknown : (if s.mon.running then inCarrel else inRecovery) = true) :
    s.carrel inRecovery inCarrel false f = (f s.heard).sent := by
  unfold State.carrel
  rw [hread, hknown, snapExpires_eq]
  rfl

/-- A reply that goes out is the answer. -/
theorem sent_replies (hexec : exec c s = .next (Reply.sent { state := u, lines := lines, status := status }))
    (hu : Listens s u) (hq : q (u.answered lines status)) : AnswersWith s c lines status q := by
  have hgo : Reply.sent { state := u, lines := lines, status := status } = u.answered lines status := answer_eq hu.rx lines status
  rw [hgo] at hexec
  exact ⟨_, hexec, congrArg (· ++ lines ++ [status, prompt]) hu.output, rfl, hu.snapWait, hq⟩

theorem carrel_replies (hread : s.monitorReads = true) (hknown : (if s.mon.running then inCarrel else inRecovery) = true)
    (hexec : exec c s = .next (s.carrel inRecovery inCarrel false f)) (hf : f s.heard = { state := u, lines := lines, status := status })
    (hu : Listens s u) (hq : q (u.answered lines status)) : AnswersWith s c lines status q := by
  rw [carrel_sent hread hknown, hf] at hexec
  exact sent_replies hexec hu hq

/-- A command that the monitor does not know is answered at once. -/
theorem carrel_unknown (hread : s.monitorReads = true) (hrx : s.mon.rx = []) (hknown : (if s.mon.running then inCarrel else inRecovery) = false)
    (hexec : exec c s = .next (s.carrel inRecovery inCarrel false f)) : AnswersWith s c [] "E 01 SYNTAX" (Plain s) := by
  have hgo : s.carrel inRecovery inCarrel false f = s.heard.answered [] ansSyntax := by
    unfold State.carrel
    rw [hread, hknown, snapExpires_eq]
    exact answer_eq (s := s.heard) hrx [] ansSyntax
  rw [hgo] at hexec
  exact ⟨_, hexec, rfl, rfl, rfl, rfl, rfl⟩

/-- A command of Carrel that needs no unlock. -/
theorem reads_replies (h : s.reads) (hexec : exec c s = .next (s.carrel inRecovery true false f))
    (hf : f s.heard = { state := u, lines := lines, status := status }) (hu : Listens s u) (hq : q (u.answered lines status)) :
    AnswersWith s c lines status q :=
  carrel_replies (reads_monitor h) (by rw [h.2.1]; rfl) hexec hf hu hq

/-- A command of Carrel that leaves the state as it has found it. -/
theorem reads_plain (h : s.reads) (hexec : exec c s = .next (s.carrel inRecovery true false f))
    (hf : f s.heard = { state := s.heard, lines := lines, status := status }) : AnswersWith s c lines status (Plain s) :=
  reads_replies h hexec hf (.heard h.2.2) ⟨rfl, rfl⟩

/-! ### ver, peek (R519, R520) -/

theorem unknownCommand_replies (h : s.reads) : AnswersWith s .carrelUnknownCommand [] "E 01 SYNTAX" (Plain s) := reads_plain h rfl rfl

theorem wordShown_heard (s : State) (p off : Nat) : s.heard.wordShown p off = s.wordShown p off := rfl

theorem ver_replies (h : s.reads) : AnswersWith s .carrelVer [hexWord (s.wordShown 0 0x60),
    hexWord (s.rd SEC.HOST_VOL_ID * 65536 + s.rd SEC.HOST_VOL_VER), toString (s.rd (CTL.C_VERSION 0)) ++ " " ++ toString (s.rd L0.B_VERSION),
    hexWord (s.wordShown pRST 0x44)] "OK" (Plain s) := by
  refine reads_plain h rfl ?_
  rw [wordShown_heard, wordShown_heard]
  rfl

theorem readMany_length (s : State) (a n : Nat) : (s.readMany a n).2.length = n := by
  induction n generalizing s a with
  | zero => rfl
  | succ n ih => exact congrArg (· + 1) (ih (s.busRead a).1 ((a + 4) % 2 ^ 32))

theorem peek_syntax (h : s.reads) {addr : Word} {count : Nat} (hn : count = 0 ∨ 64 < count) :
    AnswersWith s (.carrelPeek addr count) [] "E 01 SYNTAX" (Plain s) := by
  refine reads_plain h rfl (if_pos ?_)
  rw [Bool.or_eq_true, decide_eq_true_iff, decide_eq_true_iff]
  exact hn

/-- The lines of `peek`. -/
def State.peekLines (s : State) (a n : Nat) : List String :=
  (List.range n).zipWith (fun i r => peekLine ((a + 4 * i) % 2 ^ 32) r) (s.readMany a n).2

theorem peekLines_length (s : State) (a n : Nat) : (s.peekLines a n).length = n := by
  unfold State.peekLines
  rw [List.length_zipWith, List.length_range, readMany_length, Nat.min_self]

theorem peek_replies (h : s.reads) {addr : Word} {count : Nat} (hlo : 1 ≤ count) (hhi : count ≤ 64) :
    AnswersWith s (.carrelPeek addr count) (s.heard.peekLines addr.toNat count) "OK"
      fun t => t.regs = (s.heard.readMany addr.toNat count).1.regs := by
  refine reads_replies h rfl (if_neg ?_) ((Listens.heard h.2.2).tame (Tame.refl s.heard).readMany) (answered_regs _ _ _)
  rw [decide_eq_false (Nat.ne_of_gt hlo), decide_eq_false (Nat.not_lt.mpr hhi)]
  decide

/-! ### Addresses of no folio -/

theorem noFolio_replies (h : s.reads) {addr value : Word} (hno : folioOf addr.toNat = none) :
    AnswersWith s (.carrelPoke addr value) [] "E 06 ADDR" (Plain s) ∧ AnswersWith s (.carrelFolio addr) [] "E 06 ADDR" (Plain s)
      ∧ AnswersWith s (.carrelTrace addr) [] "E 06 ADDR" (Plain s) := by
  refine ⟨reads_plain h rfl ?_, reads_plain h rfl ?_, reads_plain h rfl ?_⟩ <;>
  · dsimp only
    rw [hno] <;> rfl

/-! ### poke (R520) -/

theorem AnswersWith.imp {q' : State → Prop} (h : AnswersWith s c lines status q) (hq : ∀ t, q t → q' t) : AnswersWith s c lines status q' := by
  obtain ⟨t, hexec, hout, hbusy, hwait, ht⟩ := h
  exact ⟨t, hexec, hout, hbusy, hwait, hq t ht⟩

theorem eventsQuiet_regs (s : State) : s.eventsQuiet.regs = s.regs := by
  unfold State.eventsQuiet
  split <;> rfl

/-- The write of a `poke`, the folio's ERR_ bits cleared before it. -/
def State.poked (s : State) (p : Nat) (addr value : Word) : State × BusAnswer :=
  (s.putErrBits p 0).busWrite .mon addr.toNat value.toNat

theorem poke_replies (h : s.reads) {addr value : Word} {p : Nat} (hp : folioOf addr.toNat = some p) {x : State × BusAnswer}
    (hx : s.heard.poked p addr value = x) :
    AnswersWith s (.carrelPoke addr value) (errNames (x.1.errBits p)) (if x.2.error then ansAddr else errStatus (x.1.errBits p))
      fun t => t.regs = (x.1.putErrBits p (x.1.errBits p ||| s.heard.errBits p)).regs := by
  have hport : Tame true s.heard x.1 := hx ▸ (Tame.refl s.heard).putErrBits.busWrite
  refine reads_replies (u := x.1.putErrBits p (x.1.errBits p ||| s.heard.errBits p)) h rfl ?_ ((Listens.heard h.2.2).tame hport.putErrBits) (answered_regs _ _ _)
  obtain ⟨s1, r⟩ := x
  unfold State.poked at hx
  dsimp only
  rw [hp]
  dsimp only
  rw [hx]

/-- A word is made of the rows that have an element in it. -/
theorem rowsWord_inWord (rd : Fld → Nat) (p w0 : Nat) :
    rowsWord rd p w0 = (((rowsOf p).filter fun r => !(r.inWord w0).isEmpty).map (rowWord rd p w0)).sum := by
  unfold rowsWord
  generalize rowsOf p = l
  induction l with
  | nil => rfl
  | cons r l ih =>
    rw [List.map_cons, List.sum_cons, ih, List.filter_cons]
    cases hempty : (r.inWord w0).isEmpty with
    | true =>
      have hzero : rowWord rd p w0 r = 0 := by
        unfold rowWord
        rw [List.isEmpty_iff.mp hempty]
        rfl
      rw [hzero, Nat.zero_add]
      rfl
    | false => rfl

theorem errRow_fld (p j : Nat) : errRow.fld p j = fld p (147 + j) 1 0 := by
  unfold Row.fld errRow
  rw [Nat.one_mul]
  rfl

/-- The ERR_ bits of the RE group. -/
theorem errBits_reg (s : State) : s.errBits pREG = bits (rowWord s.rd pREG 128 errRow) 19 5 := by
  have hrow : ((rowsOf pREG).filter fun r => !(r.inWord 128).isEmpty) = [errRow] := rfl
  unfold State.errBits
  rw [rowsWord_inWord, hrow, List.map_singleton, List.sum_singleton]

theorem errBits_none {s : State} (h : ∀ i < 5, s.rd (fld pREG (147 + i) 1 0) = 0) : s.errBits pREG = 0 := by
  have hin : errRow.inWord 128 = List.range 5 := by decide
  have hword : rowWord s.rd pREG 128 errRow = ((List.range 5).map fun _ => 0).sum := by
    unfold rowWord
    rw [hin]
    refine congrArg List.sum (List.map_congr_left fun j hj => ?_)
    rw [errRow_fld, h j (List.mem_range.mp hj), Nat.zero_mod, Nat.zero_mul]
  rw [errBits_reg, hword]
  decide

theorem putErrBits_keeps (s : State) (p m : Nat) : KeepsRegs ((List.range 5).map fun i => (fld p (147 + i) 1 0).key) s (s.putErrBits p m) :=
  KeepsRegs.foldl (fun _ _ hi => (KeepsRegs.refl _ _).put _ _ (List.mem_map_of_mem (f := fun i => (fld p (147 + i) 1 0).key) hi)) s

theorem putErrBits_rest (s : State) (p m : Nat) :
    ((s.putErrBits p m).rst, (s.putErrBits p m).pwr, (s.putErrBits p m).regs.shadow) = (s.rst, s.pwr, s.regs.shadow) :=
  foldl_keeps (fun t : State => (t.rst, t.pwr, t.regs.shadow)) (f := fun t i => t.put (fld p (147 + i) 1 0) (bit m i)) (fun _ _ _ => rfl) s

theorem putErrBits_clears (s : State) (p : Nat) {i : Nat} (hi : i < 5) : (s.putErrBits p 0).rd (fld p (147 + i) 1 0) = 0 := by
  have hbit (j : Nat) : bit 0 j = false := by
    unfold bit
    rw [Nat.zero_div]
    rfl
  refine foldl_mem (P := fun t : State => t.rd (fld p (147 + i) 1 0) = 0) (List.mem_range.mpr hi) (fun t => ?_) (fun t j ht => ?_) s
  · rw [hbit]
    exact State.rd_wr_self _ _ _
  · by_cases hij : i = j
    · subst hij
      rw [hbit]
      exact State.rd_wr_self _ _ _
    · refine (State.rd_put_ne t _ _ _ ?_).trans ht
      rw [fld_key, fld_key]
      omega

/-- A `poke` of PARAM reaches its field and sets no ERR_ bit. -/
theorem poke_param (h : s.reads) {addr value : Word} (hrun : s.runs pREG = true) (ha : addr.toNat = 0x40000000 + 0x1000 * pREG + 0x100) :
    AnswersWith s (.carrelPoke addr value) [] "OK" fun t => t.rdS (REG.PARAM 0) = value.toNat ∧ t.rd (REG.PARAM 0) = s.rd (REG.PARAM 0) := by
  have hfolio : folioOf addr.toNat = some pREG := by
    rw [ha]
    exact folioOf_folio (by decide) (by decide)
  have hkeep := putErrBits_keeps s.heard pREG 0
  have hclear : ∀ i < 5, (s.heard.putErrBits pREG 0).rd (fld pREG (147 + i) 1 0) = 0 := fun i hi => putErrBits_clears s.heard pREG hi
  have hrest := putErrBits_rest s.heard pREG 0
  have hx : s.heard.poked pREG addr value = (((s.heard.putErrBits pREG 0).wrS (REG.PARAM 0) value.toNat).eventsQuiet, {}) := by
    have hruns : (s.heard.putErrBits pREG 0).runs pREG = true := by
      rw [runs_of_regs (s := s) (congrArg RstState.held (Prod.mk.inj hrest).1) (hkeep _ (by decide))]
      exact hrun
    unfold State.poked
    rw [ha, State.busWrite_folio _ _ _ _ _ (by decide) (by decide) (by decide), if_neg (fun hw => absurd hw.2 (by decide)),
      writeWord_unit _ hruns (defined_param 0 (by decide)) (by decide), unitWrite_reg _ (by decide)]
    exact congrArg (fun u : State => (u.eventsQuiet, ({} : BusAnswer))) (writeParam _ (n := 0) (by decide) value.isLt)
  generalize s.heard.putErrBits pREG 0 = u at hx hkeep hclear hrest
  have hregs := eventsQuiet_regs (u.wrS (REG.PARAM 0) value.toNat)
  generalize (u.wrS (REG.PARAM 0) value.toNat).eventsQuiet = w at hx hregs
  have hrd (f : Fld) : w.rd f = u.rd f := (congrArg (fun r : Regs => r.cur.rd f) hregs :)
  have hnone : w.errBits pREG = 0 := errBits_none fun i hi => (hrd _).trans (hclear i hi)
  have hreply := poke_replies h hfolio hx
  rw [hnone] at hreply
  refine AnswersWith.imp hreply fun t ht => ?_
  have hshadow := (Prod.mk.inj (Prod.mk.inj (putErrBits_rest w pREG (0 ||| s.heard.errBits pREG))).2).2
  have hcur := putErrBits_keeps w pREG (0 ||| s.heard.errBits pREG) (REG.PARAM 0) (by decide)
  generalize w.putErrBits pREG (0 ||| s.heard.errBits pREG) = z at *
  constructor
  · calc t.rdS (REG.PARAM 0) = (u.wrS (REG.PARAM 0) value.toNat).rdS (REG.PARAM 0) :=
          congrArg (fun r : Store => r.rd (REG.PARAM 0)) ((congrArg Regs.shadow ht).trans (hshadow.trans (congrArg Regs.shadow hregs)))
      _ = value.toNat % 2 ^ 32 := State.rdS_wrS_self _ _ _
      _ = value.toNat := Nat.mod_eq_of_lt value.isLt
  · calc t.rd (REG.PARAM 0) = z.rd (REG.PARAM 0) := congrArg (fun r : Regs => r.cur.rd (REG.PARAM 0)) ht
      _ = u.rd (REG.PARAM 0) := hcur.trans (hrd _)
      _ = s.rd (REG.PARAM 0) := hkeep _ (by decide)

/-! ### folio (R520) -/

theorem readOffsets_length (s : State) (p : Nat) (l : List Nat) : (s.readOffsets p l).2.length = l.length := by
  induction l generalizing s with
  | nil => rfl
  | cons o l ih => exact congrArg (· + 1) (ih (s.readWord p o).1)

/-- The offsets of the words that a folio's layout defines. -/
def definedOffsets (p : Nat) : List Nat := ((List.range 1024).map (4 * ·)).filter (defined p)

theorem definedOffsets_length (p : Nat) : 16 ≤ (definedOffsets p).length := by
  have hcommon : ((List.range 16).map (4 * ·)).filter (defined p) = (List.range 16).map (4 * ·) := by
    refine List.filter_eq_self.mpr fun o ho => ?_
    obtain ⟨i, hi, rfl⟩ := List.mem_map.mp ho
    have hlow : 4 * i < 0x40 := by have := List.mem_range.mp hi; omega
    unfold defined
    rw [decide_eq_true hlow]
    rfl
  have hall : definedOffsets p = (List.range 16).map (4 * ·)
      ++ (((List.range 1008).map (16 + ·)).map (4 * ·)).filter (defined p) := by
    unfold definedOffsets
    rw [show (1024 : Nat) = 16 + 1008 from rfl, List.range_add, List.map_append, List.filter_append, hcommon]
  rw [hall, List.length_append, List.length_map, List.length_range]
  exact Nat.le_add_right _ _

theorem eightPerLine_two (n : Nat) {l : List (Nat × Nat)} (h : 9 ≤ l.length) : 2 ≤ (eightPerLine (n + 2) l).length := by
  match l with
  | [] => exact absurd h (by decide)
  | x :: l =>
    have hdrop : (l.drop 7).length = l.length - 7 := List.length_drop
    rw [List.length_cons] at h
    match hrest : l.drop 7 with
    | [] =>
      rw [hrest, List.length_nil] at hdrop
      omega
    | y :: r =>
      have hline : eightPerLine (n + 2) (x :: l)
          = spaced (hexWord x.1 :: ((x :: l).take 8).map fun w => hexWord w.2) :: eightPerLine (n + 1) (l.drop 7) := rfl
      rw [hline, hrest, List.length_cons]
      exact Nat.succ_le_succ (Nat.succ_le_succ (Nat.zero_le _))

/-- The lines of `folio`. -/
def folioLines (ws : List (Nat × Nat)) : List String := eightPerLine 128 (ws.take 16) ++ eightPerLine 128 (ws.drop 16)

theorem folioLines_head (ws : List (Nat × Nat)) : (eightPerLine 128 (ws.take 16)).length ≤ (folioLines ws).length := by
  unfold folioLines
  rw [List.length_append]
  exact Nat.le_add_right _ _

theorem folio_replies (h : s.reads) {addr : Word} {p : Nat} (hp : folioOf addr.toNat = some p) :
    ∃ lines : List String, 2 ≤ lines.length ∧ AnswersWith s (.carrelFolio addr) lines "OK" fun _ => True := by
  have hport : Tame true s.heard (s.heard.readOffsets p (definedOffsets p)).1 := (Tame.refl s.heard).readOffsets
  have hlen := readOffsets_length s.heard p (definedOffsets p)
  refine ⟨folioLines (s.heard.readOffsets p (definedOffsets p)).2, ?_, reads_replies
    (u := (s.heard.readOffsets p (definedOffsets p)).1) h rfl ?_ ((Listens.heard h.2.2).tame hport) trivial⟩
  · have htake : 9 ≤ ((s.heard.readOffsets p (definedOffsets p)).2.take 16).length := by
      have := definedOffsets_length p
      rw [List.length_take, hlen]
      omega
    exact (eightPerLine_two 126 htake).trans (folioLines_head _)
  · dsimp only
    rw [hp] <;> rfl

/-! ### tree (R520) -/

/-- The lines of `tree`. -/
def treeLines : List String := (walkFrom 5 0 0).map treeLine

theorem treeLines_length : treeLines.length = 183 := by
  have hwalk : (walkFrom 5 0 0).length = 183 := by decide +kernel
  exact (List.length_map _).trans hwalk

theorem tree_replies (h : s.reads) : AnswersWith s .carrelTree treeLines "OK" (Plain s) := reads_plain h rfl rfl

end

end Sys2Proof.Machine
end

section
/-! PROOFS. Carrel's snap, traces, volumes and rate, and the recovery monitor's commands (R516, R520 to R522). -/
namespace Sys2Proof.Machine
open Sys2Proof

section
variable {s u : State} {addr : Word} {p : Nat}

/-! ### snap (R520) -/

theorem snapRequest_busy (s : State) : s.snapRequest.on CAT.SNAP_BUSY = true := by
  unfold State.snapRequest
  split
  · next h => exact (on_wr_offset (g := CAT.SNAP_BUSY) (f := CAT.SNAP_MERGED) (by decide)).trans h
  · exact (congrArg (· != 0) (State.rd_wr_ne _ CAT.SNAP_MERGED CAT.SNAP_BUSY 0 (by decide))).trans (State.on_put_self _ _ _ (by decide))

/-- A `snap` writes the catalogue's word. -/
theorem snapWord_asks (hrun : s.runs 0 = true) : s.writeWord .mon 0 0x40 4 = s.snapRequest := by
  have hdefined : defined 0 0x40 = true := by decide
  rw [writeWord_unit 4 hrun hdefined (by decide)]
  rfl

/-- The state in which a `snap` waits. -/
def State.snapAsked (s : State) : State := { s.snapRequest with mon := { s.snapRequest.mon with snapWait := true } }

theorem snap_waits (h : s.reads) (hrun : s.runs 0 = true) : ∃ t, exec .carrelSnap s = .next t ∧ t.mon.snapWait = true ∧ t.mon.busy = true
    ∧ t.on CAT.SNAP_BUSY = true ∧ t.mon.output = if s.mon.snapWait then ["E 09 TIMEOUT", "carrel> "] else [] := by
  have hword : s.heard.writeWord .mon 0 0x40 4 = s.heard.snapRequest := snapWord_asks hrun
  have hport : Listens s s.heard.snapRequest := (Listens.heard h.2.2).tame (Tame.refl s.heard).snapRequest
  have hbusy := snapRequest_busy s.heard
  have hexec : exec .carrelSnap s = .next (Reply.sent { state := s.heard.snapAsked, waits := true }) := by
    refine congrArg Host.Outcome.next ((carrel_sent (reads_monitor h) (by rw [h.2.1]; rfl)).trans ?_)
    rw [hword] <;> rfl
  unfold State.snapAsked at hexec
  generalize s.heard.snapRequest = u at hexec hport hbusy
  exact ⟨_, hexec, rfl, rfl, hbusy, (congrArg (· ++ []) hport.output).trans (List.append_nil _)⟩

/-! ### Traces (R521) -/

theorem trace_replies (h : s.reads) (hp : folioOf addr.toNat = some p) :
    AnswersWith s (.carrelTrace addr) [] "OK" fun t => t.mon.trace = some (subtree p) ∧ Plain s t := by
  refine reads_replies (u := { s.heard with mon := { s.heard.mon with trace := some (subtree p), traceLast := [], traceBuf := [], traceLost := 0 } })
    h rfl ?_ ⟨rfl, h.2.2, rfl⟩ ⟨rfl, rfl, rfl⟩
  dsimp only
  rw [hp] <;> rfl

theorem traceOff_replies (h : s.reads) :
    AnswersWith s .carrelTraceOff [] "OK" fun t => t.mon.trace = none ∧ t.mon.traceBuf = [] ∧ Plain s t :=
  reads_replies (u := { s.heard with mon := { s.heard.mon with trace := none, traceLast := [], traceBuf := [], traceLost := 0 } })
    h rfl rfl ⟨rfl, h.2.2, rfl⟩ ⟨rfl, rfl, rfl, rfl⟩

theorem tracePoll_idle (h : s.mon.trace = none) : exec .tracePoll s = .next s := by
  show execTracePoll s = .next s
  unfold execTracePoll
  rw [h] <;> rfl

/-! ### The rate (R516) -/

theorem baud_slow (h : s.reads) : AnswersWith s (.baud 921600) [] "OK" fun t => t.rd MON.BAUD = 1 :=
  reads_replies (u := s.heard.wr MON.BAUD 1) h rfl (if_pos rfl) ⟨rfl, h.2.2, rfl⟩ (State.rd_wr_self s.heard MON.BAUD 1)

theorem baud_fast (h : s.reads) : AnswersWith s (.baud 3000000) [] "OK" fun t => t.rd MON.BAUD = 2 :=
  reads_replies (u := s.heard.wr MON.BAUD 2) h rfl ((if_neg (by decide)).trans (if_pos rfl)) ⟨rfl, h.2.2, rfl⟩ (State.rd_wr_self s.heard MON.BAUD 2)

theorem baud_other (h : s.reads) {rate : Nat} (hslow : rate ≠ 921600) (hfast : rate ≠ 3000000) :
    AnswersWith s (.baud rate) [] "E 05 VALUE" (Plain s) :=
  reads_plain h rfl ((if_neg hslow).trans (if_neg hfast))

/-! ### Loading a volume (R522) -/

section
variable {size : Nat} {bytes check : List Byte}

theorem volLoad_size (h : s.reads) (hsize : size < 3080 ∨ 4197380 < size) : AnswersWith s (.volLoad size bytes check) [] "E 05 VALUE" (Plain s) := by
  refine reads_plain h rfl (if_pos ?_)
  rw [Bool.or_eq_true, decide_eq_true_iff, decide_eq_true_iff]
  exact hsize

/-- The state in which the bytes of a transfer arrive. -/
def State.volCleared (s : State) (volume : Option (List Byte)) (receiving : Bool) : State :=
  { s with mon := { s.mon with volume := volume, receiving := receiving } }

theorem volSize_fits (hlo : 3080 ≤ size) (hhi : size ≤ 4197380) : ¬(decide (size < 3080) || decide (volumeMax < size)) = true := by
  rw [decide_eq_false (Nat.not_lt.mpr hlo), decide_eq_false (show ¬volumeMax < size from Nat.not_lt.mpr hhi)]
  decide

theorem volLoad_whole (h : s.reads) (hlo : 3080 ≤ size) (hhi : size ≤ 4197380) (hlen : bytes.length = size) (hcheck : check.length = 4) :
    (check = shake256 bytes 4 → AnswersWith s (.volLoad size bytes check) ["READY"] "OK" fun t => t.mon.volume = some bytes)
    ∧ (check ≠ shake256 bytes 4 → AnswersWith s (.volLoad size bytes check) ["READY"] "E 07 CHECK" fun t => t.mon.volume = none) := by
  have hall : ¬(bytes ++ check).length < size + 4 := by
    rw [List.length_append]
    omega
  have hvol : (bytes ++ check).take size = bytes := List.take_left' hlen
  have hrest : ((bytes ++ check).drop size).take 4 = check := by
    rw [List.drop_left' hlen]
    exact List.take_of_length_le (Nat.le_of_eq hcheck)
  refine ⟨fun hok => ?_, fun hbad => ?_⟩
  · refine reads_replies (u := s.heard.volCleared (some bytes) false) h rfl
      ((if_neg (volSize_fits hlo hhi)).trans ((if_neg hall).trans ((if_pos ?_).trans ?_))) ⟨rfl, h.2.2, rfl⟩ rfl
    · rw [hvol, hrest]
      exact hok
    · rw [hvol] <;> rfl
  · refine reads_replies (u := s.heard.volCleared none false) h rfl
      ((if_neg (volSize_fits hlo hhi)).trans ((if_neg hall).trans (if_neg ?_))) ⟨rfl, h.2.2, rfl⟩ rfl
    rw [hvol, hrest]
    exact hbad

theorem volLoad_short (h : s.reads) (hlo : 3080 ≤ size) (hhi : size ≤ 4197380) (hlen : bytes.length + check.length < size + 4) :
    ∃ t, exec (.volLoad size bytes check) s = .next t
      ∧ t.mon.output = (if s.mon.snapWait then ["E 09 TIMEOUT", "carrel> "] else []) ++ ["READY"] ∧ t.mon.busy = true ∧ t.mon.receiving = true
      ∧ t.mon.volume = none ∧ Plain s t := by
  have hall : (bytes ++ check).length < size + 4 := by
    rw [List.length_append]
    exact hlen
  have hexec : exec (.volLoad size bytes check) s
      = .next (Reply.sent { state := s.heard.volCleared none true, lines := ["READY"], waits := true }) :=
    congrArg Host.Outcome.next ((carrel_sent (reads_monitor h) (by rw [h.2.1]; rfl)).trans
      (congrArg Reply.sent ((if_neg (volSize_fits hlo hhi)).trans (if_pos hall))))
  exact ⟨_, hexec, rfl, rfl, rfl, rfl, rfl, rfl⟩

theorem volLoadTimeout_ends (hrec : s.mon.receiving = true) (hrx : s.mon.rx = []) : ∃ t, exec .volLoadTimeout s = .next t
    ∧ t.mon.output = ["E 09 TIMEOUT", "carrel> "] ∧ t.mon.busy = false ∧ t.mon.receiving = false ∧ Plain s t := by
  have hexec : exec .volLoadTimeout s
      = .next (State.answered { s with mon := { s.mon with receiving := false, output := [] } } [] ansTimeout) :=
    congrArg Host.Outcome.next ((if_pos hrec).trans (answer_eq (s := { s with mon := { s.mon with receiving := false, output := [] } }) hrx _ _))
  exact ⟨_, hexec, rfl, rfl, rfl, rfl, rfl⟩

end

/-! ### A loaded volume (R494, R497, R522) -/

section
variable {bytes : List Byte} {slotB : Bool} {dest : Byte}

theorem volume_missing (h : s.reads) (hvol : s.mon.volume = none) :
    AnswersWith s (.volWrite slotB) [] "E 03 STATE" (Plain s) ∧ AnswersWith s (.volVerify dest) [] "E 03 STATE" (Plain s) := by
  have hheard : s.heard.mon.volume = none := hvol
  refine ⟨reads_plain h rfl ?_, reads_plain h rfl ?_⟩ <;>
  · rw [hheard] <;> rfl

/-- The reader of a volume's bytes. -/
def volReader (bytes : List Byte) (i : Nat) : Byte := bytes.getD i 0

theorem volVerify_result (s : State) (bytes : List Byte) (dest : Nat) :
    (s.volVerify bytes dest).2 = s.verifyVolume (volReader bytes) bytes.length dest := rfl

/-- The state in which the verification of a loaded volume ends. -/
def State.volVerified (s : State) (bytes : List Byte) (dest : Nat) : State :=
  let s1 := State.drew ((s.wr SEC.SRC_ADDR (s.freeVal 0)).wr SEC.SRC_LEN bytes.length) 1
  if s.verifyVolume (volReader bytes) bytes.length dest = 0 && dest ≤ 71 then s1.recordKept dest (volumeRecord (volReader bytes)) else s1

theorem volVerify_state (s : State) (bytes : List Byte) (dest : Nat) :
    (s.volVerify bytes dest).1 = (s.volVerified bytes dest).secEnds (s.verifyVolume (volReader bytes) bytes.length dest) := rfl

/-- What `vol verify` leaves: the RESULT of the loaded volume, SEC idle, the port as it was. -/
theorem volVerify_shows (s : State) (bytes : List Byte) (dest : Nat) :
    (s.volVerify bytes dest).1.rd SEC.RESULT = s.verifyVolume (volReader bytes) bytes.length dest
      ∧ (s.volVerify bytes dest).1.on SEC.BUSY = false := by
  obtain ⟨⟨hidle, -, hres, -⟩, -⟩ :=
    secEnds_shows (s.volVerified bytes dest) (verifyVolume_lt s (volReader bytes) bytes.length dest)
  rw [volVerify_state]
  exact ⟨hres, hidle⟩

/-- The reply of `vol verify` is the state and the RESULT that the verification gives. -/
theorem volVerify_answers (h : s.reads) (hvol : s.mon.volume = some bytes) (hrun : s.runs pSEC = true) (hbusy : s.on SEC.BUSY = false)
    (hdest : destOk 1 dest.toNat = true) {r : Nat} (hx : s.heard.volVerify bytes dest.toNat = (u, r)) (hu : Listens s u) :
    AnswersWith s (.volVerify dest) [toString r] "OK" fun t => t.regs = u.regs := by
  have hheard : s.heard.mon.volume = some bytes := hvol
  have hrun' : s.heard.runs pSEC = true := hrun
  have hbusy' : s.heard.on SEC.BUSY = false := hbusy
  refine reads_replies (u := u) h rfl ?_ hu (answered_regs _ _ _)
  rw [hheard]
  refine (if_neg (by rw [hrun']; decide)).trans ((if_neg (by rw [hbusy']; decide)).trans ((if_neg (by rw [hdest]; decide)).trans ?_))
  rw [hx] <;> rfl

theorem volVerify_replies (h : s.reads) (hvol : s.mon.volume = some bytes) (hrun : s.runs pSEC = true) (hbusy : s.on SEC.BUSY = false)
    (hdest : destOk 1 dest.toNat = true) :
    AnswersWith s (.volVerify dest) [toString (s.verifyVolume (volReader bytes) bytes.length dest.toNat)] "OK"
      fun t => t.rd SEC.RESULT = s.verifyVolume (volReader bytes) bytes.length dest.toNat ∧ t.on SEC.BUSY = false := by
  have hsame : s.heard.verifyVolume (volReader bytes) bytes.length dest.toNat = s.verifyVolume (volReader bytes) bytes.length dest.toNat :=
    verifyVolume_of_nvs rfl _ _ _
  have hport : Tame true s.heard (s.heard.volVerify bytes dest.toNat).1 := (Tame.refl s.heard).volVerify
  obtain ⟨hres, hidle⟩ := volVerify_shows s.heard bytes dest.toNat
  have hresult := volVerify_result s.heard bytes dest.toNat
  rw [hsame] at hres hresult
  rcases hx : s.heard.volVerify bytes dest.toNat with ⟨u, r⟩
  rw [hx] at hport hres hidle hresult
  generalize s.verifyVolume (volReader bytes) bytes.length dest.toNat = n at *
  have hr : r = n := hresult
  subst hr
  refine (volVerify_answers h hvol hrun hbusy hdest hx ((Listens.heard h.2.2).tame hport)).imp fun t ht => ?_
  exact ⟨(congrArg (fun x : Regs => x.cur.rd SEC.RESULT) ht).trans hres, (congrArg (fun x : Regs => x.cur.rd SEC.BUSY != 0) ht).trans hidle⟩

/-! ### Writing a slot -/

theorem volWrite_active (h : s.reads) (hvol : s.mon.volume = some bytes) (hslot : s.activeSlot = if slotB then 1 else 0) :
    AnswersWith s (.volWrite slotB) [] "E 03 STATE" (Plain s) := by
  have hheard : s.heard.mon.volume = some bytes := hvol
  have hactive : s.heard.activeSlot = if slotB then 1 else 0 := hslot
  refine reads_plain h rfl ?_
  rw [hheard]
  refine if_pos ?_
  rw [hactive, decide_eq_true rfl]
  rfl

/-- A volume goes to the slot that is not active. -/
theorem volWrite_goes (hvol : s.mon.volume = some bytes) (hslot : s.activeSlot ≠ if slotB then 1 else 0)
    (hrun : s.runs pNVS = true) (h : s.reads) :
    exec (.volWrite slotB) s = .next (s.heard.volInto (if slotB then 1 else 0) bytes).sent := by
  have hheard : s.heard.mon.volume = some bytes := hvol
  have hactive : s.heard.activeSlot ≠ if slotB then 1 else 0 := hslot
  have hrun' : s.heard.runs pNVS = true := hrun
  refine congrArg Host.Outcome.next ((carrel_sent (reads_monitor h) (by rw [h.2.1]; rfl)).trans (congrArg Reply.sent ?_))
  rw [hheard]
  refine if_neg ?_
  rw [decide_eq_false hactive, hrun']
  decide

/-- The volume as a slot's directory would name it. -/
def loadedVolume (bytes : List Byte) : SlotVolume :=
  { type := (volReader bytes 5).toNat, id := sliceLe (volReader bytes) 8 2, bytes := bytes }

theorem volInto_type (s : State) (slot : Nat) (h1 : bytes.getD 5 0 ≠ 1) (h2 : bytes.getD 5 0 ≠ 2) :
    s.volInto slot bytes = { state := s, status := ansCheck } := by
  have hn1 : (bytes.getD 5 0).toNat ≠ 1 := fun e => h1 (BitVec.eq_of_toNat_eq e)
  have hn2 : (bytes.getD 5 0).toNat ≠ 2 := fun e => h2 (BitVec.eq_of_toNat_eq e)
  refine if_pos ?_
  rw [Bool.and_eq_true, bne_iff_ne, bne_iff_ne]
  exact ⟨hn1, hn2⟩

/-- A volume goes into a slot that holds none. -/
theorem volInto_empty {slot : Nat} (hslot : s.slotVolumes slot = []) (htype : bytes.getD 5 0 = 1 ∨ bytes.getD 5 0 = 2)
    (hsize : 4096 + pageUp bytes.length ≤ Config.flashMib * 2 ^ 20 / 2) :
    s.volInto slot bytes = { state := s.writeSlot slot [loadedVolume bytes] } := by
  have hone (q : SlotVolume → Bool) : ¬16 < (([] ++ [loadedVolume bytes] : List SlotVolume).filter q).length :=
    Nat.not_lt.mpr ((List.length_filter_le _ _).trans (Nat.le_of_ble_eq_true rfl))
  have hsum : (([] ++ [loadedVolume bytes] : List SlotVolume).map fun v => pageUp v.bytes.length).sum = pageUp bytes.length := by
    rw [List.nil_append, List.map_singleton, List.sum_singleton]
    rfl
  unfold State.volInto
  rw [hslot]
  refine (if_neg ?_).trans ((if_neg ?_).trans rfl)
  · rw [Bool.and_eq_true, bne_iff_ne, bne_iff_ne]
    rintro ⟨hn1, hn2⟩
    rcases htype with ht | ht
    · exact hn1 (congrArg BitVec.toNat ht)
    · exact hn2 (congrArg BitVec.toNat ht)
  · rw [Bool.or_eq_true, decide_eq_true_iff, decide_eq_true_iff]
    rintro (hmany | hbig)
    · exact hone _ hmany
    · exact absurd hsize (Nat.not_le.mpr (hsum ▸ hbig))

/-- The one volume of a slot that has been written anew stands 4 KiB behind the slot's beginning. -/
theorem writeSlot_read (s : State) (slot : Nat) (v : SlotVolume) {i : Nat} (hi : i < v.bytes.length) :
    (s.writeSlot slot [v]).nvs.flash.read (slotBase slot + 4096 + i) = v.bytes.getD i 0 := by
  have hflash : ∃ m : Mem, (s.writeSlot slot [v]).nvs.flash = m.write (slotBase slot + 4096) v.bytes := ⟨_, rfl⟩
  obtain ⟨m, hm⟩ := hflash
  rw [hm, Mem.read_write, if_pos (by omega), Nat.add_sub_cancel_left]

theorem volWrite_type (h : s.reads) (hvol : s.mon.volume = some bytes) (hslot : s.activeSlot ≠ if slotB then 1 else 0)
    (hrun : s.runs pNVS = true) (h1 : bytes.getD 5 0 ≠ 1) (h2 : bytes.getD 5 0 ≠ 2) :
    AnswersWith s (.volWrite slotB) [] "E 07 CHECK" (Plain s) := by
  have hgo := volWrite_goes hvol hslot hrun h
  rw [volInto_type _ _ h1 h2] at hgo
  exact sent_replies hgo (.heard h.2.2) ⟨rfl, rfl⟩

theorem volWrite_replies (h : s.reads) (hvol : s.mon.volume = some bytes) (hslot : s.activeSlot ≠ if slotB then 1 else 0)
    (hrun : s.runs pNVS = true) (hempty : s.slotVolumes (if slotB then 1 else 0) = []) (htype : bytes.getD 5 0 = 1 ∨ bytes.getD 5 0 = 2)
    (hsize : 4096 + pageUp bytes.length ≤ Config.flashMib * 2 ^ 20 / 2) :
    AnswersWith s (.volWrite slotB) [] "OK" fun t =>
      ∀ i < bytes.length, t.nvs.flash.read (slotBase (if slotB then 1 else 0) + 4096 + i) = bytes.getD i 0 := by
  have hgo := volWrite_goes hvol hslot hrun h
  have hempty' : s.heard.slotVolumes (if slotB then 1 else 0) = [] := hempty
  have hport : Tame true s.heard (s.heard.writeSlot (if slotB then 1 else 0) [loadedVolume bytes]) := (Tame.refl s.heard).writeSlot
  rw [volInto_empty hempty' htype hsize] at hgo
  exact sent_replies hgo ((Listens.heard h.2.2).tame hport) fun i hi => writeSlot_read s.heard _ (loadedVolume bytes) hi

end

/-! ### The recovery monitor (R522) -/

/-- The recovery monitor reads the port. -/
def State.recoveryReads (s : State) : Prop :=
  s.runs pHCP = true ∧ s.mon.running = false ∧ s.mon.recovery = true ∧ s.rd RST.BOOTSEL ≠ 3 ∧ s.mon.rx = []

theorem recovery_monitor (h : s.recoveryReads) : s.monitorReads = true := by
  obtain ⟨hrun, hmon, hrec, hboot, -⟩ := h
  unfold State.monitorReads
  rw [hrun, hmon, hrec, bne_iff_ne.mpr hboot]
  rfl

theorem recovery_tree (h : s.recoveryReads) : AnswersWith s .carrelTree [] "E 01 SYNTAX" (Plain s) := by
  have hread := recovery_monitor h
  obtain ⟨-, hmon, -, -, hrx⟩ := h
  exact carrel_unknown hread hrx (by rw [hmon]; rfl) rfl

theorem boot_none (h : s.recoveryReads) (hvol : s.mon.volume = none) : AnswersWith s .carrelBoot [] "E 03 STATE" (Plain s) := by
  have hread := recovery_monitor h
  obtain ⟨-, hmon, -, -, hrx⟩ := h
  have hheard : s.heard.mon.volume = none := hvol
  refine carrel_replies (u := s.heard) hread (by rw [hmon]; rfl) rfl ?_ (.heard hrx) ⟨rfl, rfl⟩
  rw [hheard] <;> rfl

theorem boot_fails {bytes : List Byte} (h : s.recoveryReads) (hvol : s.mon.volume = some bytes)
    (hbad : s.verifyVolume (volReader bytes) bytes.length 0x7F ≠ 0) : AnswersWith s .carrelBoot [] "E 07 CHECK" (Plain s) := by
  have hread := recovery_monitor h
  obtain ⟨-, hmon, -, -, hrx⟩ := h
  have hheard : s.heard.mon.volume = some bytes := hvol
  have hbad' : s.heard.verifyVolume (volReader bytes) bytes.length 0x7F ≠ 0 :=
    (verifyVolume_of_nvs (s := s) (t := s.heard) rfl _ _ _).trans_ne hbad
  refine carrel_replies (u := s.heard) hread (by rw [hmon]; rfl) rfl ?_ (.heard hrx) ⟨rfl, rfl⟩
  rw [hheard]
  exact if_neg hbad'

theorem boot_runs {bytes : List Byte} (h : s.recoveryReads) (hvol : s.mon.volume = some bytes)
    (hok : s.verifyVolume (volReader bytes) bytes.length 0x7F = 0) : AnswersWith s .carrelBoot [] "OK" fun t => t.mon.running = true := by
  have hread := recovery_monitor h
  obtain ⟨-, hmon, -, -, hrx⟩ := h
  have hheard : s.heard.mon.volume = some bytes := hvol
  have hok' : s.heard.verifyVolume (volReader bytes) bytes.length 0x7F = 0 :=
    (verifyVolume_of_nvs (s := s) (t := s.heard) rfl _ _ _).trans hok
  have hport : Tame true s.heard (s.heard.runHost (volReader bytes)) := (Tame.refl s.heard).runHost
  refine carrel_replies (u := s.heard.runHost (volReader bytes)) hread (by rw [hmon]; rfl) rfl ?_ ((Listens.heard hrx).tame hport)
    (runHost_shows s.heard (volReader bytes)).1
  rw [hheard]
  exact if_pos hok'

end

end Sys2Proof.Machine
end

section
/-! PROOFS. The poll of a trace (R521), and the SPI target, the monitor port and Carrel's commands together. -/
namespace Sys2Proof.Machine
open Sys2Proof

section
variable {s : State} {p : Nat}

/-! ### One poll (R521) -/

theorem defined_intRaw (p : Nat) : defined p 0x14 = true := by
  unfold defined
  rw [decide_eq_true (by decide : (0x14 : Nat) < 0x40)]
  rfl

theorem readWord_intRaw (s : State) (p : Nat) : s.readWord p 0x14 = (s.afterRead p 0x14, s.wordShown p 0x14) := if_pos (defined_intRaw p)

/-- What a read of INT_RAW shows. -/
theorem wordShown_intRaw (s : State) (p : Nat) : s.wordShown p 0x14 = if !s.runs p then 0
    else if s.rd (C.VIEW p) = 2 then (if s.on CAT.SNAP_BUSY then 0 else if s.on CAT.SNAP_VALID then
      (if s.captured.runs p then s.captured.intRaw p else 0) else 0)
    else s.intRaw p := by
  have hlow : (0x14 : Nat) < 0x40 := by decide
  have hidle : s.idleWord p 0x14 = 0 := rfl
  have hcommon (t : State) : t.commonWord p 0x14 = t.intRaw p := rfl
  have hfixed : fixedWord 0x14 = false := rfl
  unfold State.wordShown State.snapWord State.capturedWord
  simp only [if_pos hlow, hidle, hcommon, hfixed]
  simp

/-- INT_RAW shows the same whatever the port holds and however many free values have been drawn. -/
theorem intRaw_shown (s : State) (p : Nat) (m : MonState) (n : Nat) :
    ({ s with mon := m, free := n } : State).wordShown p 0x14 = s.wordShown p 0x14 := by
  rw [wordShown_intRaw, wordShown_intRaw] <;> rfl

/-- The port with nothing of a trace waiting. -/
theorem traceSend_empty (hbuf : s.mon.traceBuf = []) (hlost : s.mon.traceLost = 0) :
    s.traceSend.mon.output = [] ∧ s.traceSend.mon.traceBuf = [] ∧ s.traceSend.mon.traceLast = s.mon.traceLast := by
  unfold State.traceSend
  rw [hbuf, hlost]
  exact ⟨List.take_nil, List.drop_nil, rfl⟩

theorem traceAdd_waits {line : String} (h : s.mon.traceBuf.length < 256) :
    s.traceAdd line = { s with mon := { s.mon with traceBuf := s.mon.traceBuf ++ [line] } } := if_pos h

/-- Lines that find a place wait in their order. -/
theorem traceAdds_wait {l : List String} (h : s.mon.traceBuf.length + l.length ≤ 256) :
    l.foldl State.traceAdd s = { s with mon := { s.mon with traceBuf := s.mon.traceBuf ++ l } } := by
  induction l generalizing s with
  | nil => exact congrArg (fun b => ({ s with mon := { s.mon with traceBuf := b } } : State)) (List.append_nil _).symm
  | cons x l ih =>
    rw [List.length_cons] at h
    have hroom : s.mon.traceBuf.length < 256 := by omega
    have hnext : (s.mon.traceBuf ++ [x]).length + l.length ≤ 256 := by
      rw [List.length_append, List.length_singleton]
      omega
    rw [List.foldl_cons, traceAdd_waits hroom]
    refine (ih (s := { s with mon := { s.mon with traceBuf := s.mon.traceBuf ++ [x] } }) hnext).trans ?_
    exact congrArg (fun b => ({ s with mon := { s.mon with traceBuf := b } } : State)) (List.append_assoc _ [x] l)

/-- One element for each that passes. -/
theorem length_flatMap_ite {α β : Type} (q : α → Bool) (g : α → β) (l : List α) :
    (l.flatMap fun x => if q x then [g x] else []).length = l.countP q := by
  induction l with
  | nil => rfl
  | cons x l ih =>
    rw [List.flatMap_cons, List.length_append, ih, List.countP_cons]
    split
    · exact Nat.add_comm _ _
    · exact Nat.zero_add _

/-- The bits that have risen since the last poll. -/
def State.risen (s : State) (p now i : Nat) : Bool := bit now i && !bit (Tab.get 0 s.mon.traceLast p) i

theorem traceLines_length (s : State) (p now : Nat) : (s.traceLines p now).length = (List.range 32).countP (s.risen p now) :=
  length_flatMap_ite (s.risen p now) (fun i => spaced ["T", hexLong s.acq.time.toNat, hexWord (s.rd CAT.ACCESSION), hexWord (folioAddr p), hexWord (2 ^ i)])
    (List.range 32)

theorem tracePoll_one (htrace : s.mon.trace = some [p]) : exec .tracePoll s = .next (s.traceSend.tracePoll p) := by
  show execTracePoll s = _
  unfold execTracePoll
  rw [htrace] <;> rfl

/-- A folio's poll once its INT_RAW has been read. -/
def State.traceTaken (s : State) (p now : Nat) : State :=
  { s with mon := { s.mon with traceBuf := s.mon.traceBuf ++ s.traceLines p now, traceLast := Tab.set 0 s.mon.traceLast p now } }

theorem tracePoll_taken (h : s.mon.traceBuf = []) : s.tracePoll p = (s.afterRead p 0x14).traceTaken p (s.wordShown p 0x14) := by
  have hport : (s.afterRead p 0x14).port = s.port := (Tame.refl s).afterRead.keepsPort
  have hempty : (s.afterRead p 0x14).mon.traceBuf = [] := (congrArg MonState.traceBuf hport).trans h
  unfold State.tracePoll
  rw [readWord_intRaw]
  generalize s.afterRead p 0x14 = u at hempty
  have hroom : u.mon.traceBuf.length + (u.traceLines p (s.wordShown p 0x14)).length ≤ 256 := by
    rw [hempty, traceLines_length]
    exact (Nat.zero_add _).trans_le (List.countP_le_length.trans (by decide))
  dsimp only
  rw [traceAdds_wait hroom]
  rfl

theorem tracePoll_shows (h : s.mon.traceBuf = []) : (s.tracePoll p).mon.output = s.mon.output
    ∧ Tab.get 0 (s.tracePoll p).mon.traceLast p = s.wordShown p 0x14
    ∧ (s.tracePoll p).mon.traceBuf.length = (List.range 32).countP (s.risen p (s.wordShown p 0x14)) := by
  have hport : (s.afterRead p 0x14).port = s.port := (Tame.refl s).afterRead.keepsPort
  have hlast : (s.afterRead p 0x14).mon.traceLast = s.mon.traceLast := (congrArg MonState.traceLast hport :)
  have hempty : (s.afterRead p 0x14).mon.traceBuf = [] := (congrArg MonState.traceBuf hport).trans h
  rw [tracePoll_taken h]
  generalize s.wordShown p 0x14 = now
  have hlines := traceLines_length (s.afterRead p 0x14) p now
  have hrisen : (s.afterRead p 0x14).risen p now = s.risen p now := by
    unfold State.risen
    rw [hlast]
  rw [hrisen] at hlines
  refine ⟨(congrArg MonState.output hport :), Tab.get_set_self _ _ _ _, ?_⟩
  generalize s.afterRead p 0x14 = u at *
  show (u.mon.traceBuf ++ u.traceLines p now).length = _
  rw [hempty, List.nil_append, hlines]

/-- The poll of one traced folio with nothing that waits (R521). -/
theorem tracePoll_replies (htrace : s.mon.trace = some [p]) (hbuf : s.mon.traceBuf = []) (hlost : s.mon.traceLost = 0) :
    ∃ t, exec .tracePoll s = .next t ∧ t.mon.output = [] ∧ Tab.get 0 t.mon.traceLast p = (s.readWord p 0x14).2
      ∧ t.mon.traceBuf.length = (List.range 32).countP (s.risen p (s.readWord p 0x14).2) := by
  obtain ⟨hout, hempty, hlast⟩ := traceSend_empty hbuf hlost
  have hshown : s.traceSend.wordShown p 0x14 = s.wordShown p 0x14 := intRaw_shown s p s.traceSend.mon s.traceSend.free
  obtain ⟨k1, k2, k3⟩ := tracePoll_shows (p := p) hempty
  rw [readWord_intRaw]
  refine ⟨_, tracePoll_one htrace, k1.trans hout, k2.trans hshown, ?_⟩
  have hrisen (now : Nat) : s.traceSend.risen p now = s.risen p now := by
    unfold State.risen
    rw [hlast]
  rw [k3, hshown, hrisen]

end

/-! ### The statement -/

/-- The clauses of O54 on the commands of Carrel. -/
theorem carrel_commands {addr value : Word} {count size rate p : Nat} {bytes check : List Byte} {dest : Byte} {slotB : Bool} {s : State}
    (h : s.reads) :
    AnswersWith s .carrelUnknownCommand [] "E 01 SYNTAX" (Plain s)
    ∧ AnswersWith s .carrelVer [hexWord (s.wordShown 0 0x60), hexWord (s.rd SEC.HOST_VOL_ID * 65536 + s.rd SEC.HOST_VOL_VER),
        toString (s.rd (CTL.C_VERSION 0)) ++ " " ++ toString (s.rd L0.B_VERSION), hexWord (s.wordShown pRST 0x44)] "OK" (Plain s)
    ∧ (count = 0 ∨ 64 < count → AnswersWith s (.carrelPeek addr count) [] "E 01 SYNTAX" (Plain s))
    ∧ (1 ≤ count → count ≤ 64 → (s.heard.peekLines addr.toNat count).length = count
      ∧ AnswersWith s (.carrelPeek addr count) (s.heard.peekLines addr.toNat count) "OK"
        fun t => t.regs = (s.heard.readMany addr.toNat count).1.regs)
    ∧ (addr.toNat < 0x40000000 ∨ 0x40000000 + 0x1000 * 183 ≤ addr.toNat → AnswersWith s (.carrelPoke addr value) [] "E 06 ADDR" (Plain s)
      ∧ AnswersWith s (.carrelFolio addr) [] "E 06 ADDR" (Plain s) ∧ AnswersWith s (.carrelTrace addr) [] "E 06 ADDR" (Plain s))
    ∧ (folioOf addr.toNat = some p → AnswersWith s (.carrelPoke addr value) (errNames ((s.heard.poked p addr value).1.errBits p))
      (if (s.heard.poked p addr value).2.error then "E 06 ADDR" else errStatus ((s.heard.poked p addr value).1.errBits p))
      fun t => t.regs = ((s.heard.poked p addr value).1.putErrBits p ((s.heard.poked p addr value).1.errBits p ||| s.heard.errBits p)).regs)
    ∧ (s.runs pREG = true → addr.toNat = 0x40000000 + 0x1000 * pREG + 0x100 → AnswersWith s (.carrelPoke addr value) [] "OK" fun t =>
        t.rdS (REG.PARAM 0) = value.toNat ∧ t.rd (REG.PARAM 0) = s.rd (REG.PARAM 0))
    ∧ (folioOf addr.toNat = some p →
      (∃ lines : List String, 2 ≤ lines.length ∧ AnswersWith s (.carrelFolio addr) lines "OK" fun _ => True)
      ∧ AnswersWith s (.carrelTrace addr) [] "OK" (fun t => t.mon.trace = some (subtree p) ∧ Plain s t))
    ∧ (∃ lines : List String, lines.length = 183 ∧ AnswersWith s .carrelTree lines "OK" (Plain s))
    ∧ AnswersWith s .carrelTraceOff [] "OK" (fun t => t.mon.trace = none ∧ t.mon.traceBuf = [] ∧ Plain s t)
    ∧ (s.runs 0 = true → ∃ t, exec .carrelSnap s = .next t ∧ t.mon.snapWait = true ∧ t.mon.busy = true ∧ t.on CAT.SNAP_BUSY = true
      ∧ t.mon.output = if s.mon.snapWait then ["E 09 TIMEOUT", "carrel> "] else [])
    ∧ (size < 3080 ∨ 4197380 < size → AnswersWith s (.volLoad size bytes check) [] "E 05 VALUE" (Plain s))
    ∧ (3080 ≤ size → size ≤ 4197380 → bytes.length = size → check.length = 4 →
      (check = shake256 bytes 4 → AnswersWith s (.volLoad size bytes check) ["READY"] "OK" fun t => t.mon.volume = some bytes)
      ∧ (check ≠ shake256 bytes 4 → AnswersWith s (.volLoad size bytes check) ["READY"] "E 07 CHECK" fun t => t.mon.volume = none))
    ∧ (3080 ≤ size → size ≤ 4197380 → bytes.length + check.length < size + 4 → ∃ t, exec (.volLoad size bytes check) s = .next t
      ∧ t.mon.output = (if s.mon.snapWait then ["E 09 TIMEOUT", "carrel> "] else []) ++ ["READY"] ∧ t.mon.busy = true
      ∧ t.mon.receiving = true ∧ t.mon.volume = none ∧ Plain s t)
    ∧ (rate = 921600 → AnswersWith s (.baud rate) [] "OK" fun t => t.rd MON.BAUD = 1)
    ∧ (rate = 3000000 → AnswersWith s (.baud rate) [] "OK" fun t => t.rd MON.BAUD = 2)
    ∧ (rate ≠ 921600 → rate ≠ 3000000 → AnswersWith s (.baud rate) [] "E 05 VALUE" (Plain s))
    ∧ (s.mon.volume = none → AnswersWith s (.volWrite slotB) [] "E 03 STATE" (Plain s)
      ∧ AnswersWith s (.volVerify dest) [] "E 03 STATE" (Plain s))
    ∧ (s.mon.volume = some bytes →
      (s.runs pSEC = true → s.on SEC.BUSY = false → destOk 1 dest.toNat = true →
        AnswersWith s (.volVerify dest) [toString (s.verifyVolume (volReader bytes) bytes.length dest.toNat)] "OK" fun t =>
          t.rd SEC.RESULT = s.verifyVolume (volReader bytes) bytes.length dest.toNat ∧ t.on SEC.BUSY = false)
      ∧ ((s.activeSlot = if slotB then 1 else 0) → AnswersWith s (.volWrite slotB) [] "E 03 STATE" (Plain s))
      ∧ ((s.activeSlot ≠ if slotB then 1 else 0) → s.runs pNVS = true → s.slotVolumes (if slotB then 1 else 0) = [] →
        bytes.getD 5 0 = 1 ∨ bytes.getD 5 0 = 2 → 4096 + pageUp bytes.length ≤ Config.flashMib * 2 ^ 20 / 2 →
        AnswersWith s (.volWrite slotB) [] "OK" fun t =>
          ∀ i < bytes.length, t.nvs.flash.read (slotBase (if slotB then 1 else 0) + 4096 + i) = bytes.getD i 0)
      ∧ ((s.activeSlot ≠ if slotB then 1 else 0) → s.runs pNVS = true → bytes.getD 5 0 ≠ 1 → bytes.getD 5 0 ≠ 2 →
        AnswersWith s (.volWrite slotB) [] "E 07 CHECK" (Plain s))) := by
  refine ⟨unknownCommand_replies h, ver_replies h, peek_syntax h, fun hlo hhi => ⟨peekLines_length _ _ _, peek_replies h hlo hhi⟩,
    fun hout => noFolio_replies h (folioOf_none hout), fun hp => poke_replies h hp rfl, poke_param h,
    fun hp => ⟨folio_replies h hp, trace_replies h hp⟩, ⟨treeLines, treeLines_length, tree_replies h⟩, traceOff_replies h, snap_waits h,
    volLoad_size h, volLoad_whole h, volLoad_short h, fun hrate => ?_, fun hrate => ?_, baud_other h, volume_missing h,
    fun hvol => ⟨volVerify_replies h hvol, volWrite_active h hvol, fun hslot hrun => volWrite_replies h hvol hslot hrun,
      fun hslot hrun => volWrite_type h hvol hslot hrun⟩⟩
  · rw [hrate]
    exact baud_slow h
  · rw [hrate]
    exact baud_fast h

/-- Settles O54: each clause is a rule of the SPI target, of MON_RX's lines or of one command. -/
theorem spiAndCarrel : Obligations.SpiAndCarrel := by
  unfold Obligations.SpiAndCarrel
  intro addr data value crc char count size rate bytes check dest slotB p s
  rw [snapExpires_eq]
  refine ⟨spi_frames, spi_staging, fun hoff => ⟨spiRead_silent hoff, spiWrite_silent hoff, fun hr hw => ?_⟩, rfl, rfl, i2cStretchTimeout_counts,
    lineTimeout_discards, monCharacter_framing, monCharacter_lines, fun hrun hmon hrx => carrel_commands ⟨hrun, hmon, hrx⟩,
    volLoadTimeout_ends, fun hrun hmon hrec hboot hrx => ?_, tracePoll_idle, fun _ => tracePoll_replies⟩
  · rw [spiMalformed_answers hr hw, hoff]
    rfl
  · have h : s.recoveryReads := ⟨hrun, hmon, hrec, hboot, hrx⟩
    exact ⟨boot_none h, boot_runs h, boot_fails h, recovery_tree h⟩

end Sys2Proof.Machine
end
